-- ==== Sys2Proof/Syntax.lean ====
section
/-! DEFINITION. The commands of the block: one constructor per row of the command table, with the row's
operands. The first operand of every command is the time that passed since the command before it, in
units of 1/32 ns. -/

namespace Sys2Proof

/-- The carrier event that meets a trigger (R114, R134). -/
inductive TrigKind where
  | zero | peak
  | cross (y : Fin 4)
  deriving DecidableEq, Repr

/-- A command. -/
inductive Instr where
  /-- REGISTER_WRITE (R5): a word written through the host port. -/
  | registerWrite (dt : Nat) (addr : Nat) (w : Nat)
  /-- SN_LOW_READ (R89): a read of the low word of an SN pair through the host or the debug port. -/
  | snLowRead (dt : Nat) (port : Fin 2) (page : Fin 256) (ofs : Fin 4096)
  /-- SN_HIGH_READ (R89): a read of the high word of an SN pair through the host or the debug port. -/
  | snHighRead (dt : Nat) (port : Fin 2) (page : Fin 256) (ofs : Fin 4096)
  /-- COMMIT_GO (R91): a write of 1 to `COMMIT.GO`. -/
  | commitGo (dt : Nat) (page : Fin 256)
  /-- COMMIT_DISCARD (R92): a write of 1 to `COMMIT.DISCARD`. -/
  | commitDiscard (dt : Nat) (page : Fin 256)
  /-- COMMIT_APPLY (R91): the update point of a page whose commits do not wait for an event of its
  block: a stopped Kernel, a sensing page without samples, an idle converter. The other pages apply
  theirs at a carrier zero or peak, a sample centre, a sequence boundary, or a grid cycle. -/
  | commitApply (dt : Nat) (page : Fin 256)
  /-- UPDATE_LOCK_CLEAR (R92): `CTRL.UPDATE_LOCK` is cleared. -/
  | updateLockClear (dt : Nat) (page : Fin 256)
  /-- ERR_COUNT_CLEAR (R85): a write of 1 to `ERR_COUNT.CLEAR`. -/
  | errCountClear (dt : Nat) (page : Fin 256)
  /-- DL_COUNT_CLEAR (R94): a write of 1 to the `CLEAR` of the `DL_COUNT` at offset `ofs`. -/
  | dlCountClear (dt : Nat) (page : Fin 256) (ofs : Fin 4096)
  /-- IRQ_STAT_CLEAR (R96): ones written to `IRQ_STAT`. -/
  | irqStatClear (dt : Nat) (page : Fin 256) (mask : Fin 4294967296)
  /-- COUNTER_CLEAR (R161 and the chapters' CNT_CLR): a write of 1 to `CNT_CLR.GO`. -/
  | counterClear (dt : Nat) (page : Fin 256)
  /-- DEADLINE_MISS (R95): the deadline whose `DL_LIMIT` stands at offset `ofs` of a page expires
  unmet. -/
  | deadlineMiss (dt : Nat) (page : Fin 256) (ofs : Fin 4096)
  /-- STREAM_XING_OVERFLOW (R18): a word is discarded at a full streaming crossing, a bit of
  `CLK.XING_ERR`; into Heartwood it was a value of tap `tap` (R423). -/
  | streamXingOverflow (dt : Nat) (b : Fin 13) (tap : Fin 256)
  /-- BURL_CLOCK_WINDOW (R19): at the end of a window, Burl finds the islands of the mask `bad`
  outside ±10 % of nominal. -/
  | burlClockWindow (dt : Nat) (bad : Fin 8192)
  /-- BURL_RC_MEASURE (R20, R47): Heartwood's measurement of Burl's RC ends at `khz`. -/
  | burlRcMeasure (dt : Nat) (khz : Fin 65536)
  /-- SCRUB_WORD (R21, R22): the scrubber reads the 64-bit word at `addr` of table memory, in which
  `flips` further bits have gone bad since it was last read. -/
  | scrubWord (dt : Nat) (addr : Nat) (flips : Fin 3)
  /-- AON_COARSE_LOAD (R494): the coarse count is loaded from the reference. -/
  | aonCoarseLoad (dt : Nat)
  /-- RAIL_GOOD (R38, R40): a rail monitor declares its rail good; rails as the bits of `RAIL_GOOD`. -/
  | railGood (dt : Nat) (r : Fin 6)
  /-- BROWN_OUT_RESET (R40, R48, R52): a rail other than `VDD_AON` is declared bad. Monitors act
  only while `VDD_AON` is good. -/
  | brownOutReset (dt : Nat) (r : Fin 5)
  /-- POWER_ON_RESET (R40, R48, R52, R53): `VDD_AON` is declared bad; every rail is then to be
  declared good anew, and the crystal too. -/
  | powerOnReset (dt : Nat)
  /-- XTAL_GOOD (R42, R53): the crystal is declared good. -/
  | xtalGood (dt : Nat)
  /-- XTAL_LOSS (R46): the crystal stops. While the device runs, every crystal-derived island loses
  its clock, Burl enters its safe state, and the reset follows 1 ms later. -/
  | xtalLoss (dt : Nat)
  /-- XTAL_LOSS_RESET (R46): 1 ms after the crystal stopped, the internal reset is asserted. -/
  | xtalLossReset (dt : Nat)
  /-- PIN_RESET (R49, R53): `RESET_N` is recognised low. -/
  | pinReset (dt : Nat)
  /-- PIN_RESET_RELEASE (R49): `RESET_N` is recognised high. -/
  | pinResetRelease (dt : Nat)
  /-- TEST_RESET (R48, R53): `TEST_EN` is recognised high. -/
  | testReset (dt : Nat)
  /-- TEST_RESET_RELEASE (R48): `TEST_EN` is recognised low. -/
  | testResetRelease (dt : Nat)
  /-- WATCHDOG_EXPIRY (R51, R320): no service within `TIMEOUT_MS`. -/
  | watchdogExpiry (dt : Nat)
  /-- WATCHDOG_RESET (R48, R51): 1 ms after the expiry. -/
  | watchdogReset (dt : Nat)
  /-- RESET_RELEASE (R44, R48, R60, R491): Burl runs, the Heartwood and host PLLs start, Canopy time
  restarts and the boot begins. -/
  | resetRelease (dt : Nat)
  /-- PLL_LOCK (R44, R492): the PLL of an island locks after its start; a cell's also after a loss. -/
  | pllLock (dt : Nat) (i : Fin 13)
  /-- PLL_LOSS (R45): the lock detector of an island's PLL reports the loss. -/
  | pllLoss (dt : Nat) (i : Fin 13)
  /-- BOOT_PROTECTION_IMAGE (R60 steps 3 to 5, R67): the 65,536 bytes of the image area are checked.
  `back` is the mask of revocation bits that read back as blown. -/
  | bootProtectionImage (dt : Nat) (bytes : List Nat) (back : Fin 16)
  /-- BOOT_TABLE_IMAGE (R60 steps 6 and 7, R72): the table image is checked and loaded, `TBL_VALID`
  is written, the log resumes and the boot's records are written. -/
  | bootTableImage (dt : Nat) (bytes : List Nat)
  /-- BOOT_LOCK (R60 step 8, R74, R75): the lock is set; the safety functions, the Gylen connections
  and the meter start from it (R321, R394, R410). -/
  | bootLock (dt : Nat)
  /-- TAMPER_EVENT (R80, R81): a change of level on `TAMPn` has held for the filter time. The
  always-on island counts it and keeps its coarse time and whether Canopy time was locked. -/
  | tamperEvent (dt : Nat) (n : Fin 2) (level : Bool)
  /-- DEBUG_ACCESS (R75, R76): a read, a write, or a read of Heartwood's private SRAM through the
  debug port. What the SRAM holds is open. -/
  | debugAccess (dt : Nat) (write : Bool) (sram : Bool) (addr : Nat) (w : Nat)
  /-- TABLE_WINDOW_WRITE (R83): a 32-bit host write to table memory; `flips` bits of the 64-bit word
  have gone bad since it was last read. -/
  | tableWindowWrite (dt : Nat) (addr : Nat) (w : Nat) (flips : Fin 3)
  /-- TABLE_PAIR_WRITE (R83): a burst that writes both halves of the 64-bit table word at `addr`. -/
  | tablePairWrite (dt : Nat) (addr : Nat) (w0 : Nat) (w1 : Nat)
  /-- SD_CLK_WRITE (R101): a write of `SENSEx.SD_CLK`, after the bits captured until then. -/
  | sdClkWrite (dt : Nat) (x : Fin 8) (bits : List (Fin 64)) (w : Nat)
  /-- CMP_CFG_WRITE (R112): a write of `CMPm_THR` or `CMPm_CFG`, after the bits captured until then. -/
  | cmpCfgWrite (dt : Nat) (x : Fin 8) (bits : List (Fin 64)) (m : Fin 12) (thr : Bool) (w : Nat)
  /-- TRIGGER_EVENT (R113 to R115): an event of channel `cell`'s carrier, `age` time units old,
  reaches trigger unit `u`: `SENSE` page u, or converter u - 8. -/
  | triggerEvent (dt : Nat) (u : Fin 13) (cell : Fin 8) (kind : TrigKind) (age : Nat)
  /-- TRIG_NOW (R113): a write of 1 to `TRIG_NOW.GO` of trigger unit `u`: sensing page u, or
  converter u - 8. -/
  | trigNow (dt : Nat) (u : Fin 13)
  /-- CANOPY_TIMER_FIRE (R116): the timer of unit `u` reaches a firing time. -/
  | canopyTimerFire (dt : Nat) (u : Fin 13)
  /-- SAMPLE_CENTRE (R104, R114): the first `SDC_x` edge at or after a held target time. -/
  | sampleCentre (dt : Nat) (x : Fin 8) (bits : List (Fin 64))
  /-- INPUT_LOSS (R117): 64 equal bits have been captured on input `n`. -/
  | inputLoss (dt : Nat) (x : Fin 8) (n : Fin 6) (bits : List (Fin 64))
  /-- INPUT_LOSS_END (R108, R117): a transition has been captured on a lost input; its bit is the
  first of the settling count. -/
  | inputLossEnd (dt : Nat) (x : Fin 8) (n : Fin 6) (bits : List (Fin 64))
  /-- INPUT_FREEZE (R118, R119): the output about to be formed, or the last one, is the
  `FREEZE_N`-th equal one. -/
  | inputFreeze (dt : Nat) (x : Fin 8) (n : Fin 6) (bits : List (Fin 64))
  /-- COMPARATOR_ASSERT (R110 to R112): the condition has held on `FILT` consecutive outputs. -/
  | comparatorAssert (dt : Nat) (x : Fin 8) (m : Fin 12) (bits : List (Fin 64))
  /-- COMPARATOR_RELEASE (R110): the output has lain inside the band on `FILT` consecutive outputs. -/
  | comparatorRelease (dt : Nat) (x : Fin 8) (m : Fin 12) (bits : List (Fin 64))
  /-- SAR_TRIGGER_FIRE (R114, R126, R127, R134): a trigger of converter `n` reaches its target. -/
  | sarTriggerFire (dt : Nat) (n : Fin 5)
  /-- SAR_CONVERSION_DONE (R122, R126 to R128, R130 to R132): the conversion in progress ends, with
  the input at `nv` nanovolts at its sample instant. -/
  | sarConversionDone (dt : Nat) (n : Fin 5) (nv : Int)
  /-- PLAUS_MISSING (R132): 1 ms has passed after one pair result without one from the other
  converter. Pair 0 is SAR0 and SAR1, pair 1 SAR2 and SAR3. -/
  | plausMissing (dt : Nat) (p : Fin 2)
  /-- SAR_PASS_END (R126, R127, R129, R134, R135): the pass has ended. -/
  | sarPassEnd (dt : Nat) (n : Fin 5)
  /-- CAL_REQUEST (R133): a write of 1 to `CAL_CFG.REQ`. -/
  | calRequest (dt : Nat) (n : Fin 5)
  /-- CAL_PERIODIC (R133): `PERIOD_S` seconds have passed. -/
  | calPeriodic (dt : Nat) (n : Fin 5)
  /-- CAL_DONE (R133): 2,048 SAR cycles after its start, a calibration completes. -/
  | calDone (dt : Nat) (n : Fin 5)
  /-- ROVER_TIMEOUT (R135, R136): 100 ms after a request no gap has qualified. -/
  | roverTimeout (dt : Nat) (n : Fin 5)
  /-- CARRIER_ZERO (R139): the carrier reaches a zero. -/
  | carrierZero (dt : Nat) (x : Fin 8)
  /-- CARRIER_PEAK (R150, R151, R152): the peak of a triangle carrier. -/
  | carrierPeak (dt : Nat) (x : Fin 8)
  /-- IDEAL_EDGE (R142, R145): the carrier's crossing changes the leg's ideal demand. -/
  | idealEdge (dt : Nat) (x : Fin 8) (y : Fin 4)
  /-- SCHEDULED_SWITCH_OFF (R145): a switch's `t_stop` arrives. -/
  | scheduledSwitchOff (dt : Nat) (x : Fin 8) (y : Fin 4) (high : Bool)
  /-- SCHEDULED_SWITCH_ON (R145): a switch's turn-on arrives. -/
  | scheduledSwitchOn (dt : Nat) (x : Fin 8) (y : Fin 4) (high : Bool)
  /-- BOOTSTRAP_REFRESH (R148): the high side has been on for `BOOT_MAX_ON`. -/
  | bootstrapRefresh (dt : Nat) (x : Fin 8) (y : Fin 4)
  /-- REFRESH_END (R148): the refresh pulse ends and the high side turns on again. -/
  | refreshEnd (dt : Nat) (x : Fin 8) (y : Fin 4)
  /-- SHOOT_THROUGH (R149): a fault upstream demands both switches of a leg. -/
  | shootThrough (dt : Nat) (x : Fin 8) (y : Fin 4)
  /-- PWM_DISABLE (R158): `CTRL.EN` is cleared. -/
  | pwmDisable (dt : Nat) (x : Fin 8)
  /-- PWM_ENABLE (R159, R160): a write of 1 to `CTRL.EN`. -/
  | pwmEnable (dt : Nat) (x : Fin 8)
  /-- FAULT_SOURCE_ACTIVE (R155, R156): a source becomes active. -/
  | faultSourceActive (dt : Nat) (x : Fin 8) (n : Fin 36)
  /-- GROUP_WAIT_EXPIRY (R172): `WAIT` has passed since the group's last source. -/
  | groupWaitExpiry (dt : Nat) (x : Fin 8) (g : Fin 16)
  /-- GROUP_RELEASE (R172): an ideal edge on a named leg or a carrier zero lets a pending release
  take effect; the outputs follow their demand (R157). -/
  | groupRelease (dt : Nat) (x : Fin 8) (g : Fin 16)
  /-- GROUP_WINDOW_CLOSE (R172): the retry window of a group with no active source closes. -/
  | groupWindowClose (dt : Nat) (x : Fin 8) (g : Fin 16)
  /-- LATCH_CLEAR (R173): a write to `GUARDx.LATCH_CLR`. -/
  | latchClear (dt : Nat) (x : Fin 8) (mask : Fin 65536)
  /-- SC_QUALIFY (R163): an `SC_N` low is qualified. -/
  | scQualify (dt : Nat) (x : Fin 8) (w : Fin 8)
  /-- SC_STUCK (R164): an `SC_N` source has been active for 1 ms. -/
  | scStuck (dt : Nat) (x : Fin 8) (w : Fin 8)
  /-- RDY_NOT_READY (R166, R167): `RDY_x_y` has been low for the filter time. -/
  | rdyNotReady (dt : Nat) (x : Fin 8) (y : Fin 4)
  /-- RDY_BLANK_END (R167): blanking ends; a leg still not ready activates its source at once. -/
  | rdyBlankEnd (dt : Nat) (x : Fin 8)
  /-- TRIP_INPUT (R169): `TRIP_N_n` has been low for 4 cycles; every cell island acts for itself. -/
  | tripInput (dt : Nat) (n : Fin 4)
  /-- BYP_FB_CHANGE (R181): the filtered `BYP_FB_x` takes a level. -/
  | bypFbChange (dt : Nat) (x : Fin 8) (level : Bool)
  /-- BYP_OPEN_CHECK_EXPIRY (R181, R224): `OPEN_MS` passes without the feedback showing open. -/
  | bypOpenCheckExpiry (dt : Nat) (x : Fin 8)
  /-- BYP_CLOSE_CHECK_EXPIRY (R181, R227): `CLOSE_MS` passes without the feedback showing closed. -/
  | bypCloseCheckExpiry (dt : Nat) (x : Fin 8)
  /-- KERNEL_COMPARE_WRITE (R186 step 9, R194 to R197, R212, R225). -/
  | kernelCompareWrite (dt : Nat) (x : Fin 8)
  /-- KERNEL_PREDICTION_DONE (R186 step 10, R193, R210). -/
  | kernelPredictionDone (dt : Nat) (x : Fin 8)
  /-- SCHEDULE_VALIDATION_DONE (R205): the change may apply at the next sample, or is refused. -/
  | scheduleValidationDone (dt : Nat) (x : Fin 8)
  /-- KERNEL_ENABLE (R210): a write of 1 to `CTRL.EN`. -/
  | kernelEnable (dt : Nat) (x : Fin 8)
  /-- KERNEL_DISABLE (R210): a write of 0 to `CTRL.EN`. -/
  | kernelDisable (dt : Nat) (x : Fin 8)
  /-- KERNEL_TEST_START (R211): a write of 1 to `CTRL.TEST`. -/
  | kernelTestStart (dt : Nat) (x : Fin 8)
  /-- KERNEL_TEST_DONE (R211): the pattern ends; whether its signature agreed is the silicon's. -/
  | kernelTestDone (dt : Nat) (x : Fin 8) (pass : Bool)
  /-- GE0_SET_DELIVERY (R250): a set of the accepted frame that covers the grid instant reaches
  channel `x`. -/
  | ge0SetDelivery (dt : Nat) (x : Fin 8)
  /-- CELL_JOIN (R222): a write of 1 to `CTRL.JOIN`. -/
  | cellJoin (dt : Nat) (x : Fin 8)
  /-- DC_LINK_QUALIFY (R223, R224 step 1): the DC link has qualified. -/
  | dcLinkQualify (dt : Nat) (x : Fin 8)
  /-- JOIN_KERNEL_TIMEOUT (R224 step 2). -/
  | joinKernelTimeout (dt : Nat) (x : Fin 8)
  /-- CELL_LEAVE (R226): a write of 1 to `CTRL.LEAVE`. -/
  | cellLeave (dt : Nat) (x : Fin 8)
  /-- DC_LINK_LOW (R223, R226): `PRI0` has lain below `V_LEAVE` for `LEAVE_US`. -/
  | dcLinkLow (dt : Nat) (x : Fin 8)
  /-- EPOCH_UPDATE_POINT (R224 step 8, R226, R234): the first update point at or after the epoch. -/
  | epochUpdatePoint (dt : Nat) (x : Fin 8)
  /-- CURT_ON (R231). -/
  | curtOn (dt : Nat) (x : Fin 8)
  /-- CURT_OFF (R231). -/
  | curtOff (dt : Nat) (x : Fin 8)
  /-- SHELL_DUE (R232): `PERIOD_S`, or `GAP_MS`, has passed since the last window. -/
  | shellDue (dt : Nat) (x : Fin 8)
  /-- SHELL_NOW (R232, R236): a write of 1 to `CTRL.SHELL_NOW`. -/
  | shellNow (dt : Nat) (x : Fin 8)
  /-- SHELL_BLOCK_END (R234 steps 2 to 4): a block ends; settling or clipping is judged. -/
  | shellBlockEnd (dt : Nat) (x : Fin 8)
  /-- SHELL_TIMEOUT (R234): `MAX_MS` has passed in the window. -/
  | shellTimeout (dt : Nat) (x : Fin 8)
  /-- SHELL_CLOSE_TIMEOUT (R234 step 7): no close epoch within 1 ms of the request. -/
  | shellCloseTimeout (dt : Nat) (x : Fin 8)
  /-- PO_PERIOD_END (R238). The mean of a half period without a sample is not stated: a free value. -/
  | poPeriodEnd (dt : Nat) (x : Fin 8)
  /-- SCAN_DUE (R239): the scan period expires; the scan starts when its conditions hold. -/
  | scanDue (dt : Nat) (x : Fin 8)
  /-- SCAN_NOW (R239): a write of 1 to `CTRL.SCAN_NOW`. -/
  | scanNow (dt : Nat) (x : Fin 8)
  /-- SCAN_DWELL_END (R239): a step's dwell ends. -/
  | scanDwellEnd (dt : Nat) (x : Fin 8)
  /-- GRID_CYCLE (R241): at a cycle start both engines latch their inputs and run their cycle. -/
  | gridCycle (dt : Nat)
  /-- GRID_PLL_LOCK (R246): |e| has been at most 0.05 rad for 40 ms. -/
  | gridPllLock (dt : Nat) (e : Fin 2)
  /-- GRID_PLL_UNLOCK (R246): |e| has been above 0.2 rad for 5 ms, or the loop frozen for 100 ms. -/
  | gridPllUnlock (dt : Nat) (e : Fin 2)
  /-- GRID_PLL_UNFREEZE (R246): both freezing conditions have been absent for 2 ms. -/
  | gridPllUnfreeze (dt : Nat) (e : Fin 2)
  /-- ARM_FRAME_RECEIVED (R251, R261): a delivered arm frame reaches the grid engines. -/
  | armFrameReceived (dt : Nat)
  /-- CELL_REPORT_RECEIVED (R248): a delivered cell report reaches the master or standby. -/
  | cellReportReceived (dt : Nat)
  /-- MASTER_RESIGN (R262): the arm current source or all voltages have been stale for 1 ms. -/
  | masterResign (dt : Nat)
  /-- RESIGN_RECOVERY (R262): a resigned node's inputs and checks have been good for 1 s. -/
  | resignRecovery (dt : Nat)
  /-- XCHK_FAIL (R270): check `b` has held for `TIME_MS`. -/
  | xchkFail (dt : Nat) (b : Fin 9)
  /-- MODE_RAMP_END (R268): the hand-over's ramp has run. -/
  | modeRampEnd (dt : Nat)
  /-- EXCURSION_END (R280, R288): curve `c`'s quantity has been back for `RESET_MS`. -/
  | excursionEnd (dt : Nat) (c : Fin 4)
  /-- SOURCE_STALE_TRIP (R277): GE1's voltage sources have been stale for 100 ms. -/
  | sourceStaleTrip (dt : Nat)
  /-- RECOVERY_RAMP_END (R288). -/
  | recoveryRampEnd (dt : Nat)
  /-- RTS_WINDOW_HELD (R291): the return window has held for `RTS_S`. -/
  | rtsWindowHeld (dt : Nat)
  /-- TRIP_CLEAR (R291): a write of 1 to `RIDE.CTRL.TRIP_CLR`. -/
  | tripClear (dt : Nat)
  /-- TRIP_NOW (R289): a write of 1 to `RIDE.CTRL.TRIP_NOW`. -/
  | tripNow (dt : Nat)
  /-- ISLAND_INDICATION (R292): indication `i` asserts. -/
  | islandIndication (dt : Nat) (i : Fin 4)
  /-- VOTE_WINDOW_EXPIRY (R292): `VOTE_MS` after its rise, indication `i` no longer votes. -/
  | voteWindowExpiry (dt : Nat) (i : Fin 4)
  /-- ISLAND_CLEAR (R298): a write of 1 to `ISLAND.CTRL.ISL_CLR`. -/
  | islandClear (dt : Nat)
  /-- ACTIVE_EPOCH_BOUNDARY (R294): an epoch or its active window begins or ends. -/
  | activeEpochBoundary (dt : Nat)
  /-- ACT_SUSPEND (R295): `SYNC_LOST` has been set for 600 s. -/
  | actSuspend (dt : Nat)
  /-- RT_BLOCK_END (R293): `RT_BLOCK_MS` after ride-through ended. -/
  | rtBlockEnd (dt : Nat)
  /-- TRANSFER_TRIP_FRAME (R296): an accepted payload of the transfer trip connection acts. -/
  | transferTripFrame (dt : Nat)
  /-- METER_CYCLE_END (R305 to R316): θ passes 0; the cycle in progress ends and the next begins.
  The first passage after the meter starts only begins a cycle. -/
  | meterCycleEnd (dt : Nat)
  /-- PULSE_START (R314): an owed pulse starts on `MPULSEn`, no sooner than 2 w after the last one. -/
  | pulseStart (dt : Nat) (n : Fin 4)
  /-- PULSE_END (R314): the pulse's width is over. -/
  | pulseEnd (dt : Nat) (n : Fin 4)
  /-- CONNECTION_CHECK (R316): the condition of check `c` has held, or failed, for 1 s. -/
  | connectionCheck (dt : Nat) (c : Fin 4)
  /-- PERIODIC_SAVE (R319): at a whole second a periodic record goes to the slot that does not hold
  the newest one. -/
  | periodicSave (dt : Nat)
  /-- SAVE_VERIFY (R319): the record has been written and reads back as `readback`. -/
  | saveVerify (dt : Nat) (readback : List Nat)
  /-- HEARTBEAT_SAVE (R318, R319): at a multiple of 100 ms the heartbeat is written; at a whole
  second it follows the record. -/
  | heartbeatSave (dt : Nat)
  /-- PFW_FALL (R320, R324): the falling edge of `PFW_N` is recognised. -/
  | pfwFall (dt : Nat)
  /-- FINAL_SAVE_DONE (R320): the final record is in the FRAM. -/
  | finalSaveDone (dt : Nat)
  /-- PFW_RESUME (R319): `PFW_N` has been high for 10 ms; writing resumes at the next whole second. -/
  | pfwResume (dt : Nat)
  /-- METER_RESTORE (R321, R322): the save engine reads the FRAM and restores the registers.
  `content` is what the FRAM holds from 0x0000 on; the empty list when none answers. -/
  | meterRestore (dt : Nat) (content : List Nat)
  /-- SAVE_ADOPT (R321): a write of 1 to `METER.CTRL.SAVE_ADOPT`. -/
  | saveAdopt (dt : Nat)
  /-- ENERGY_BROADCAST (R323): at a multiple of 100 ms the total group goes to `POI_NODE`. -/
  | energyBroadcast (dt : Nat)
  /-- PORT_ALIGNED (R329): the receiver aligns; a DOWN port goes to NEGOTIATE once it may send. -/
  | portAligned (dt : Nat) (p : Fin 2)
  /-- PORT_ALIGN_LOSS (R329): the receiver loses its alignment. -/
  | portAlignLoss (dt : Nat) (p : Fin 2)
  /-- PORT_RELOCK (R330, R352): an UP port regains alignment within 2 µs. -/
  | portRelock (dt : Nat) (p : Fin 2)
  /-- PORT_DOWN (R330, R347): alignment has been lost for longer than 2 µs. -/
  | portDown (dt : Nat) (p : Fin 2)
  /-- WRAP_END (R348): the port has been UP for 100 ms; its wrap ends 6 µs past a TC2 period
  boundary. -/
  | wrapEnd (dt : Nat) (p : Fin 2)
  /-- HELLO_SEND (R329, R330): the hello timer of a port expires, or a relock asks for a hello. -/
  | helloSend (dt : Nat) (p : Fin 2)
  /-- HELLO_RECEIVED (R329, R331, R332, R351, R352): a delivered hello on port `p`. -/
  | helloReceived (dt : Nat) (p : Fin 2)
  /-- NOVER_RETRY (R329, R333): 1 ms in NOVER; the third NOVER in a row makes the node a repeater. -/
  | noverRetry (dt : Nat) (p : Fin 2)
  /-- FRAME_RECEIVE (R336, R341): a frame whose /S/ reaches the receiver ball of port `p` now.
  `bytes` run from its header to its FCS; `ending` 0 is /T/, 1 /E/, 2 a frame that breaks off. -/
  | frameReceive (dt : Nat) (p : Fin 2) (bytes : List Nat) (ending : Fin 3)
  /-- DELAY_REQUEST (R352): an UP port sends a /D/ request every 1 ms, or 100 µs until 3
  measurements are held. -/
  | delayRequest (dt : Nat) (p : Fin 2)
  /-- DELAY_MARKER_RECEIVED (R352): a /D/ marker with its number. For a request (`answer` false)
  `ps` is the time from its arrival to the answer's departure; for an answer it is t4 - t1, both as
  stamped. -/
  | delayMarkerReceived (dt : Nat) (p : Fin 2) (mark : Fin 65536) (answer : Bool) (ps : Nat)
  /-- INSERTION (R350): at the qualifying TC2 boundary the bypass opens and both transmitters start. -/
  | insertion (dt : Nat)
  /-- BEACON_SEND (R356, R357): the source sends a beacon out of both ports. -/
  | beaconSend (dt : Nat)
  /-- BEACON_DECIDE (R355, R358): 500 µs after its first copy, the better copy of a beacon is
  accepted or rejected. A gateway disciplined from 1588 is not disciplined from it (R465). -/
  | beaconDecide (dt : Nat)
  /-- BECOME_SOURCE (R356): no beacon of a better source for 5 ms. -/
  | becomeSource (dt : Nat)
  /-- CANOPY_SET (R359): a write of 1 to `CANOPY.CTRL.SET_GO`. -/
  | canopySet (dt : Nat)
  /-- REMOTE_ACCESS_GO (R363): a write of 1 to `RA_CTRL.GO`, with `WRITE` and `COUNT`. -/
  | remoteAccessGo (dt : Nat) (write : Bool) (count : Fin 8)
  /-- REMOTE_REQUEST (R365, R366): the oldest request held is carried out on this node's register
  fabric and answered. -/
  | remoteRequest (dt : Nat)
  /-- REMOTE_RESPONSE (R363, R366): a delivered response. One that is late, or of another access, is
  discarded. -/
  | remoteResponse (dt : Nat)
  /-- REMOTE_TIMEOUT (R363, R366): 10 ms have passed without a response. -/
  | remoteTimeout (dt : Nat)
  /-- QUEUE_ENABLE (R370): `QCFGq` written with `EN` = 1. -/
  | queueEnable (dt : Nat) (q : Fin 32) (base : Fin 512) (size : Fin 1024) (tx : Bool) (prio : Fin
    8) (notify : Bool)
  /-- QUEUE_DISABLE (R383): `QCFGq.EN` cleared, the other fields as they are. -/
  | queueDisable (dt : Nat) (q : Fin 32)
  /-- QDATA_POP (R376): a host read of `QDATAq`. -/
  | qdataPop (dt : Nat) (q : Fin 32)
  /-- QDATA_PUSH (R378): a host write of `QDATAq`. -/
  | qdataPush (dt : Nat) (q : Fin 32) (w : Nat)
  /-- POD_PACKET_SENT (R379): the packet's last byte has left; its space is released. -/
  | podPacketSent (dt : Nat) (q : Fin 32)
  /-- PARITY_CHECK_DONE (R380): the check of the head packet ends. -/
  | parityCheckDone (dt : Nat) (q : Fin 32) (bad : Bool)
  /-- PACKET_TIMEOUT (R381): no word for `PKT_US`, so the packet is poisoned and discarded. -/
  | packetTimeout (dt : Nat) (q : Fin 32)
  /-- QUEUE_FLUSH (R382): ones written to `FLUSH`. -/
  | queueFlush (dt : Nat) (mask : Nat)
  /-- NOTICE_SEND (R386): a page's interrupt has become pending. Within the hold time of an earlier
  notice of the page the rise is merged. -/
  | noticeSend (dt : Nat) (page : Fin 256)
  /-- NOTICE_HOLD_EXPIRY (R386): the hold time ends; a merged notice is sent if the page is still
  pending. -/
  | noticeHoldExpiry (dt : Nat) (page : Fin 256)
  /-- SAFETY_INPUT_CHANGE (R392 to R399): in one channel (0 Burl, 1 Heartwood) a filtered input is
  off (0) or on (1), or a light curtain's pulse was tolerated (2). `b` names channel B of the pair.
  -/
  | safetyInputChange (dt : Nat) (c : Fin 2) (p : Fin 12) (b : Bool) (ev : Fin 3)
  /-- DISCREPANCY_FAULT (R393): a pair of the function has been in DISAGREE longer than `DISC`. -/
  | discrepancyFault (dt : Nat) (c : Fin 2) (f : Fin 8)
  /-- STOP_DELAY_END (R394): `STOP_MS` ends in STOPPING; Burl's clock may run 3 % fast. -/
  | stopDelayEnd (dt : Nat) (c : Fin 2) (f : Fin 8)
  /-- CHANNEL_DIVERGENCE (R390): the channels have disagreed on PERMIT for longer than 20 ms; both
  put the function in FAULT. -/
  | channelDivergence (dt : Nat) (f : Fin 8)
  /-- CURTAIN_PULSE_MISSING (R399): a channel of an ON pair has shown no tolerated pulse for
  `TP_EXP` × 100 ms. -/
  | curtainPulseMissing (dt : Nat) (c : Fin 2) (f : Fin 8)
  /-- TWOHAND_LATE (R398): the second pair of a two-hand function is not ON in time. -/
  | twohandLate (dt : Nat) (c : Fin 2) (f : Fin 8)
  /-- RESET_PULSE (R401, R402, R406): `SRST_IN` falls. `burlMs` is the width Burl measured, held
  within the 3 % of its oscillator; Heartwood measures the true width. -/
  | resetPulse (dt : Nat) (burlMs : Nat)
  /-- OUTPUT_READBACK_FAULT (R404): the readbacks of pair `n` read `rbA`, `rbB`, and one has
  differed from its ball for longer than `RB_US`. On a pair that is faulty already it shows the
  levels only. -/
  | outputReadbackFault (dt : Nat) (n : Fin 4) (rbA : Bool) (rbB : Bool)
  /-- TEST_PULSE_START (R405): the test of a pair that is on falls due; `SO_A_n` goes low. -/
  | testPulseStart (dt : Nat) (n : Fin 4)
  /-- TEST_PULSE_END (R405, R407): a pulse has run its width; `ok` is the judgment of its readback. -/
  | testPulseEnd (dt : Nat) (n : Fin 4) (ok : Bool)
  /-- TEST_PULSE_B_START (R405): 1 ms after the A pulse, `SO_B_n` goes low. -/
  | testPulseBStart (dt : Nat) (n : Fin 4)
  /-- GYLEN_FRAME_RECEIVED (R413): a delivered Gylen frame is matched, checked and accepted or
  rejected. -/
  | gylenFrameReceived (dt : Nat)
  /-- GYLEN_WATCHDOG_EXPIRY (R414). -/
  | gylenWatchdogExpiry (dt : Nat) (n : Fin 16)
  /-- GYLEN_PRODUCE (R410 to R412, R416, R417). -/
  | gylenProduce (dt : Nat) (n : Fin 16)
  /-- GYLEN_HOST_LOAD (R417): `HTX_CTRL` written with `GO` = 1. -/
  | gylenHostLoad (dt : Nat) (conn : Fin 16) (len : Fin 64)
  /-- CAPTURE_ARM (R429): a write of 1 to `SAPx.CTRL.ARM`. -/
  | captureArm (dt : Nat) (x : Fin 8)
  /-- CAPTURE_STOP (R432, R435): a write of 1 to `SAPx.CTRL.STOP`. -/
  | captureStop (dt : Nat) (x : Fin 8)
  /-- CAPTURE_TRIG_NOW (R430): a write of 1 to `SAPx.CTRL.TRIG_NOW`. -/
  | captureTrigNow (dt : Nat) (x : Fin 8)
  /-- CAPTURE_SET (R422 to R426, R430 to R434): an event of unit `x`'s sample clock. -/
  | captureSet (dt : Nat) (x : Fin 8)
  /-- LOG_RECORD_SUBMIT (R30, R439, R440): a record arrives at the writer's queue from a source
  whose event no other command of the model stands for. -/
  | logRecordSubmit (dt : Nat) (page : Fin 256) (sev : Fin 3) (code : Fin 65536) (data : List Nat)
    (origin : Fin 3)
  /-- LOG_RECORD_WRITE (R439 to R441): the log writer writes the next queued record. -/
  | logRecordWrite (dt : Nat)
  /-- LOG_UNFREEZE (R441): a write of 1 to `GLOG.CTRL.UNFREEZE`. -/
  | logUnfreeze (dt : Nat)
  /-- QSPI_READ (R447 to R451): `count` + 1 words read from `addr` on; `flips` are the bits of the
  memories that have gone bad since they were last read. The marker, the words and the CRC stand in
  `hostOut`. -/
  | qspiRead (dt : Nat) (fixed : Bool) (crc : Bool) (count : Fin 32) (addr : Nat) (flips : List (Nat
    × Nat))
  /-- QSPI_WRITE (R447 to R451): 1 to 32 words written from `addr` on; `sum` is the CRC that the
  host sends. A transaction with a CRC answers with its marker. -/
  | qspiWrite (dt : Nat) (fixed : Bool) (crc : Bool) (addr : Nat) (words : List Nat) (sum : Fin 65536)
  /-- QSPI_ABORT (R449, R452): `HCS_N` rises before the transaction ends. Of a write without CRC the
  words whose last nibble arrived are applied; of a read the `count` words sent took effect. -/
  | qspiAbort (dt : Nat) (write : Bool) (fixed : Bool) (crc : Bool) (addr : Nat) (words : List Nat)
    (count : Fin 33)
  /-- MAILBOX_GO (R61, R453): `MBOX.REQ` written with `GO` = 1. -/
  | mailboxGo (dt : Nat) (service : Fin 256) (tag : Fin 256)
  /-- IDENTITY (R454). -/
  | identity (dt : Nat)
  /-- IMAGE_STATUS (R454). -/
  | imageStatus (dt : Nat)
  /-- LOG_READ (R443, R454, R455). -/
  | logRead (dt : Nat)
  /-- KEY_PROVISION (R454 to R456): the arguments are checked and the fuse controller is started;
  the request stays pending until a later mailbox slice finds the controller done. -/
  | keyProvision (dt : Nat)
  /-- UNKNOWN_SERVICE (R455): an unallocated service; in Quarantine it is refused. -/
  | unknownService (dt : Nat)
  /-- FUSE_PROGRAM_DONE (R456): the controller completes; the slot then reads `back`. -/
  | fuseProgramDone (dt : Nat) (back : Nat)
  /-- HEARTWOOD_FRAME (R458): a frame starts; the running slice is abandoned; the safety slice
  evaluates Heartwood's functions, exchanges states with Burl and serves the watchdog (R51, R390).
  -/
  | heartwoodFrame (dt : Nat)
  /-- GYLEN_SLICE (R458): the safety slice ends; received frames are checked the second time and
  `STATE_H` is written (R415, R417). -/
  | gylenSlice (dt : Nat)
  /-- HOUSEKEEPING_SLICE (R458): the Gylen slice ends; tamper records (R81) and the Kernel test
  patterns (R211). The log's own work and the measurement of Burl's RC have commands of their own.
  -/
  | housekeepingSlice (dt : Nat)
  /-- MAILBOX_SLICE (R456, R459): housekeeping ends; the fuse controller is polled and the pending
  request is taken if it fits. -/
  | mailboxSlice (dt : Nat)
  /-- MDIO_COMMAND (R460): `MDIO_CMD` written with `GO` = 1. -/
  | mdioCommand (dt : Nat) (data : Fin 65536) (reg : Fin 32) (phy : Fin 32) (write : Bool)
  /-- MDIO_DONE (R460, R470): the operation ends; a read gives `data`. -/
  | mdioDone (dt : Nat) (data : Fin 65536)
  /-- TUNNEL_FRAME_RECEIVED (R462): an Ethernet frame, without its FCS, with EtherType 0x88B5
  arrives. -/
  | tunnelFrameReceived (dt : Nat) (bytes : List Nat)
  /-- PTP_SYNC (R465): a Sync of the best master, one-step or with its Follow_Up, whose origin is
  `origin` ns and whose correction is `corr` in 2^-16 ns. -/
  | ptpSync (dt : Nat) (domain : Nat) (sender : Nat) (origin : Nat) (corr : Int)
  /-- PTP_ANNOUNCE (R464): an Announce message of the domain feeds the best master clock algorithm:
  priority 1, class, accuracy, variance, priority 2, grandmaster, steps removed, sender. -/
  | ptpAnnounce (dt : Nat) (domain : Nat) (prio1 : Nat) (cls : Nat) (acc : Nat) (var : Nat) (prio2 :
    Nat) (gm : Nat) (steps : Nat) (sender : Nat)
  /-- PTP_PDELAY_REQ (R464): a received Pdelay_Req is answered with its number, its port and its
  reception stamp. -/
  | ptpPdelayReq (dt : Nat) (seq : Fin 65536) (port : Nat)
  /-- PTP_PDELAY_SEND (R464): every 1 s a Pdelay_Req leaves. -/
  | ptpPdelaySend (dt : Nat)
  /-- PTP_LOSS (R465): no Sync has been accepted for `LOSS_S` seconds. -/
  | ptpLoss (dt : Nat)
  /-- SAVE_HOST_READ (R467): `HOST_CTRL` written with `GO` = 1. -/
  | saveHostRead (dt : Nat) (count : Fin 64)
  /-- SAVE_HOST_READ_DONE (R467): the read ends; `flash` is what the boot flash answered. A read
  ended by a save is ended where that save starts. -/
  | saveHostReadDone (dt : Nat) (flash : List Nat)
  /-- FAULT_SOURCE_INACTIVE (R162, R166, R169, R172): a source becomes inactive after its filter. -/
  | faultSourceInactive (dt : Nat) (x : Fin 8) (n : Fin 36)
  /-- FRAME_SENT (R343, R344): the last symbol of the frame being sent leaves; the next one is
  chosen, or the suspended one resumes. -/
  | frameSent (dt : Nat) (p : Fin 2)
  /-- OWN_TC2_RELEASE (R346): own TC2 frames whose release time has come: `t_n` + 2 µs for expedited
  ones, `t_n` + 4 µs for the others. -/
  | ownTc2Release (dt : Nat)
  /-- PFW_RISE (R324): `PFW_N` rises; the low period ends. A final save in progress goes on. -/
  | pfwRise (dt : Nat)
  /-- SRST_IN_RISE (R401): the measurement of a reset pulse starts. -/
  | srstInRise (dt : Nat)
  /-- ETH_LINK_CHANGE (R470): the PHY's in-band status changes. -/
  | ethLinkChange (dt : Nat) (up : Bool)
  /-- PTP_PDELAY_RESP (R464): the answer to the gateway's own request `seq`, with the peer's stamps
  `t2` and `t3` in ns and the sum of the corrections in 2^-16 ns, gives a peer delay. -/
  | ptpPdelayResp (dt : Nat) (seq : Fin 65536) (t2 : Nat) (t3 : Nat) (corr : Int)
  deriving DecidableEq, Repr

end Sys2Proof
end

