-- ==== Sys2Proof/Decode.lean ====
section
/-! DEFINITION. The command that a word spells. The command table gives no row any bits: a command
reaches the block as a transaction, an event on a ball or the passing of time, never as a coded word. So
no word spells a command. -/

namespace Sys2Proof

/-- The command whose table bits are the low `nbits` bits of `w`: none, for the table gives no row bits. -/
def decodeTableWord (_nbits _w : Nat) : Option Instr := none

end Sys2Proof
end

