-- ==== Sys2Proof/Config.lean ====
section
/-! DEFINITION. What an implementation fixes and what the spec leaves open. Every constant here is
opaque and has no body: nothing can be proved about its value, so a theorem that mentions it holds
for every value. -/

namespace Sys2Proof.Config

/-- A free value: the `n`-th value the spec leaves open. The argument is the state's counter
`freeCtr`, so two uses are unrelated. DESIGN CHOICE, assumption log 4. -/
opaque freeValue : Nat → Nat

/-- The interrupt bit of page BOOT that a tamper event on an input raises (R81 does not number it). -/
opaque tamperBit : Nat → Nat

/-- Which rational near a square root that is not rational, from 0 to 1 (assumption log 5). -/
opaque sqrtPart : Rat → Rat
/-- Which rational near 2π (assumption log 5). -/
opaque twoPiPart : Rat
/-- Which rational near the sine of an angle in radians (assumption log 5). -/
opaque sinPart : Rat → Rat
/-- Which rational near the cosine (assumption log 5). -/
opaque cosPart : Rat → Rat
/-- Which rational near the angle of the vector (x, y) (assumption log 5). -/
opaque anglePart : Rat → Rat → Rat
/-- A quotient by 0, of the given dividend: no chapter states its value (assumption log 5). -/
opaque overZero : Rat → Rat
/-- One 10 µs step of the first-order lag with a time constant of 1 s (R292): its state and its input.
The discretisation is not stated (assumption log 5). -/
opaque lag1s : Rat → Rat → Rat
/-- The damping k of a resonant integrator (R255), by its number: no register holds it and no value is stated
(assumption log 5). -/
opaque resDamp : Nat → Rat
/-- What part of a wanted sum a standby's resonant integrator takes, and its quadrature state (R258): the
spec states only the sum (assumption log 5). -/
opaque resShare : Nat → Rat → Rat × Rat
/-- `I_MIN_BAL` (R254), in % of `I_MAX`: no register holds it and no value is stated (assumption log 5). -/
opaque iMinBal : Rat
/-- A readout whose rounding the spec does not state is rounded up, not down (assumption log 6). The first
argument names the readout by its register key. -/
opaque roundUp : Nat → Rat → Bool

end Sys2Proof.Config
end

