-- ==== Sys2Proof/Word.lean ====
section
/-! DEFINITION. Plain arithmetic over the words of the register map (R3, R8, R9): field extraction,
two's-complement reading and writing, clamping, byte order. A register field is carried as a natural
number below `2 ^ width`; the widths differ from field to field, so no single bit-vector type fits. -/

namespace Sys2Proof

/-- Two's-complement value of the low `w` bits of `v` (R9). -/
def sx (w v : Nat) : Int :=
  let u := v % 2 ^ w
  if 2 ^ (w - 1) ≤ u then (u : Int) - (2 ^ w : Nat) else (u : Int)

/-- The `w`-bit two's-complement code of `i`. -/
def ux (w : Nat) (i : Int) : Nat := (i % (2 ^ w : Nat)).toNat

/-- The field of `width` bits of `w` that begins at bit `lo`. -/
def bitsOf (w lo width : Nat) : Nat := (w >>> lo) % 2 ^ width

/-- Bit `b` of `w`. -/
def bitOf (w b : Nat) : Bool := w.testBit b

/-- `w` with bit `b` set. -/
def setBit (w b : Nat) : Nat := w ||| 2 ^ b

/-- `w` with bit `b` cleared. -/
def clrBit (w b : Nat) : Nat := if w.testBit b then w - 2 ^ b else w

/-- `w` with bit `b` set to `v`. -/
def putBit (w b : Nat) (v : Bool) : Nat := if v then setBit w b else clrBit w b

/-- `i` clamped to the range `lo` to `hi`. -/
def clampI (lo hi i : Int) : Int := if i < lo then lo else if hi < i then hi else i

/-- `i` saturated to `w`-bit two's complement. -/
def satI (w : Nat) (i : Int) : Int := clampI (-(2 ^ (w - 1) : Nat)) ((2 ^ (w - 1) : Nat) - 1) i

/-- `n` saturated to `w` bits, unsigned. -/
def satN (w n : Nat) : Nat := min n (2 ^ w - 1)

/-- The quotient rounded up. -/
def ceilDiv (a b : Nat) : Nat := (a + b - 1) / b

/-- `a / b` rounded to nearest, ties away from zero, `b > 0`. -/
def roundDivAway (a : Int) (b : Nat) : Int :=
  if 0 ≤ a then (2 * a + b) / (2 * b) else -((2 * (-a) + b) / (2 * b))

/-- `a / b` rounded to nearest, ties to even, `b > 0`. -/
def roundDivEven (a : Int) (b : Nat) : Int :=
  let q := a / b
  let r := a % b
  if 2 * r < b then q else if (b : Int) < 2 * r then q + 1 else if q % 2 = 0 then q else q + 1

/-- `a / b` truncated towards zero, `b > 0`. -/
def truncDiv (a : Int) (b : Nat) : Int := if 0 ≤ a then a / b else -((-a) / b)

/-- The first `n` bytes of `v`, little-endian (R3). -/
def bytesLE : Nat → Nat → List Nat
  | 0, _ => []
  | n + 1, v => (v % 256) :: bytesLE n (v / 256)

/-- The number a little-endian byte string spells. -/
def leNat : List Nat → Nat
  | [] => 0
  | b :: bs => b % 256 + 256 * leNat bs

/-- The number a big-endian byte string spells. -/
def beNat (l : List Nat) : Nat := leNat l.reverse

/-- The `n` low bytes of `v`, big-endian. -/
def bytesBE (n v : Nat) : List Nat := (bytesLE n v).reverse

/-- `n` bytes of `l` from offset `o`; bytes past the end read 0. -/
def slice (l : List Nat) (o n : Nat) : List Nat :=
  (List.range n).map (fun i => l.getD (o + i) 0)

/-- Little-endian number of `n` bytes of `l` from offset `o`. -/
def leAt (l : List Nat) (o n : Nat) : Nat := leNat (slice l o n)

/-- The bits of `m` below `n`, lowest first. -/
def bitList (n m : Nat) : List Nat := (List.range n).filter (fun b => m.testBit b)

/-- The element at `i`, when there is one: total indexing for plain data. -/
def nth {α : Type} (l : List α) (i : Nat) (d : α) : α := l.getD i d

/-- `l` with element `i` replaced. -/
def putNth {α : Type} (l : List α) (i : Nat) (v : α) : List α := l.set i v

end Sys2Proof
end

