-- ==== Sys2Proof/Machine/Reg.lean ====
section
/-! DEFINITION. A register field and the file of register fields (R3 to R5). A field is named by its
page, offset and low bit; the file lists the fields whose value differs from the reset value, by
rising key, so that equal register contents are equal data. -/

namespace Sys2Proof.Machine

/-- The access codes of R5. `shc` is SH whose range the chapter checks at the commit; the last six
are RW under the condition the field's row names. -/
inductive Acc where
  | rw | ro | wo | w1c | w1s | bo | sh | shc | sn
  | rwPwmOff | rwKeOff | rwHusk | rwSapIdle | rwBypIdle | rwQueueOff
  deriving DecidableEq, Repr

/-- One field of one register. `mn` and `mx` are the stated range (R490). An SN pair is one field of
64 bits at the offset of its low word. -/
structure Reg where
  page : Nat
  ofs : Nat
  lo : Nat
  width : Nat
  acc : Acc
  rst : Nat
  mn : Nat
  mx : Nat
  deriving DecidableEq, Repr

/-- The place of a field in the register file. -/
def Reg.key (r : Reg) : Nat := (r.page * 4096 + r.ofs) * 32 + r.lo

/-- The register file: (key, value) pairs, keys rising. -/
abbrev RegFile := List (Nat × Nat)

/-- The value listed under `k`. -/
def RegFile.lookup : RegFile → Nat → Option Nat
  | [], _ => none
  | (k', v) :: t, k => if k' = k then some v else RegFile.lookup t k

/-- `f` with `k` listed as `v`, in its place. -/
def RegFile.insert : RegFile → Nat → Nat → RegFile
  | [], k, v => [(k, v)]
  | (k', v') :: t, k, v =>
    if k < k' then (k, v) :: (k', v') :: t
    else if k = k' then (k, v) :: t
    else (k', v') :: RegFile.insert t k v

/-- `f` with `k` no longer listed. -/
def RegFile.erase : RegFile → Nat → RegFile
  | [], _ => []
  | (k', v') :: t, k => if k' = k then RegFile.erase t k else (k', v') :: RegFile.erase t k

/-- The value of a field: the listed one, else its reset value. -/
def RegFile.get (f : RegFile) (r : Reg) : Nat := (f.lookup r.key).getD r.rst

/-- The field set to the low bits of `v`; a field at its reset value is not listed. -/
def RegFile.set (f : RegFile) (r : Reg) (v : Nat) : RegFile :=
  if v % 2 ^ r.width = r.rst then f.erase r.key else f.insert r.key (v % 2 ^ r.width)

/-- The canonical form: keys strictly rising. -/
def RegFile.wf : RegFile → Bool
  | [] => true
  | [_] => true
  | (k, _) :: (k', v') :: t => decide (k < k') && RegFile.wf ((k', v') :: t)

end Sys2Proof.Machine
end

