-- ==== Sys2Proof/Machine/RegCell.lean ====
section
/-! DEFINITION. The block registers of the pages SAR, SENSE, PWM, GUARD: one definition per field,
with its page, offset, low bit, width, access code, reset value and range, as the register tables
of 05_sensing_conversion.md, 06_pwm.md, 07_gate_guard_bypass.md give them.
An index `x` is the page instance, `i` the register of an array, `j` the field of a row. -/
namespace Sys2Proof.Machine.R

def SAR_STATUS_RUNNING (x : Nat) : Reg :=
  ⟨0x08 + x, 0x00C, 0, 1, .ro, 0x0, 0, 0x1⟩
def SAR_STATUS_PENDING (x : Nat) : Reg :=
  ⟨0x08 + x, 0x00C, 1, 1, .ro, 0x0, 0, 0x1⟩
def SAR_STATUS_SEQ_STALE (x : Nat) : Reg :=
  ⟨0x08 + x, 0x00C, 2, 1, .ro, 0x0, 0, 0x1⟩
def SAR_STATUS_TRIG_OVR (x : Nat) : Reg :=
  ⟨0x08 + x, 0x00C, 3, 1, .w1c, 0x0, 0, 0x1⟩
def SAR_SEQ_CFG_LEN (x : Nat) : Reg :=
  ⟨0x08 + x, 0x040, 0, 4, .sh, 0x0, 0, 0xf⟩
def SAR_SEQ_CFG_TRIG_POLICY (x : Nat) : Reg :=
  ⟨0x08 + x, 0x040, 4, 1, .sh, 0x0, 0, 0x1⟩
def SAR_TRIG_SRC (x : Nat) : Reg :=
  ⟨0x08 + x, 0x044, 0, 3, .sh, 0x0, 0, 0x7⟩
def SAR_TRIG_CELL (x : Nat) : Reg :=
  ⟨0x08 + x, 0x044, 4, 3, .sh, 0x0, 0, 0x7⟩
def SAR_TRIG_LEG (x : Nat) : Reg :=
  ⟨0x08 + x, 0x044, 7, 2, .sh, 0x0, 0, 0x3⟩
def SAR_TRIG_DELAY (x : Nat) : Reg :=
  ⟨0x08 + x, 0x044, 16, 16, .sh, 0x0, 0, 0xffff⟩
def SAR_TMR_PERIOD_NS (x : Nat) : Reg :=
  ⟨0x08 + x, 0x048, 0, 24, .shc, 0x3e8, 0, 0xffffff⟩
def SAR_TMR_PHASE_NS (x : Nat) : Reg :=
  ⟨0x08 + x, 0x04C, 0, 24, .shc, 0x0, 0, 0xffffff⟩
def SAR_TRIG_NOW_GO (x : Nat) : Reg :=
  ⟨0x08 + x, 0x050, 0, 1, .wo, 0x0, 0, 0x1⟩
def SAR_CAL_CFG_PERIOD_S (x : Nat) : Reg :=
  ⟨0x08 + x, 0x054, 0, 8, .rw, 0x3c, 0, 0xff⟩
def SAR_CAL_CFG_REQ (x : Nat) : Reg :=
  ⟨0x08 + x, 0x054, 8, 1, .w1s, 0x0, 0, 0x1⟩
def SAR_CAL_CFG_BUSY (x : Nat) : Reg :=
  ⟨0x08 + x, 0x054, 9, 1, .ro, 0x0, 0, 0x1⟩
def SAR_CAL_CFG_WAITING (x : Nat) : Reg :=
  ⟨0x08 + x, 0x054, 10, 1, .ro, 0x0, 0, 0x1⟩
def SAR_CAL_CFG_ROVER (x : Nat) : Reg :=
  ⟨0x08 + x, 0x054, 11, 1, .ro, 0x0, 0, 0x1⟩
def SAR_CAL_CFG_SERVING (x : Nat) : Reg :=
  ⟨0x08 + x, 0x054, 12, 2, .ro, 0x0, 0, 0x3⟩
def SAR_CAL_CFG_SUBST (x : Nat) : Reg :=
  ⟨0x08 + x, 0x054, 14, 1, .ro, 0x0, 0, 0x1⟩
def SAR_OVR_COUNT_OVR (x : Nat) : Reg :=
  ⟨0x08 + x, 0x058, 0, 16, .ro, 0x0, 0, 0xffff⟩
def SAR_OVR_COUNT_RESTART (x : Nat) : Reg :=
  ⟨0x08 + x, 0x058, 16, 16, .ro, 0x0, 0, 0xffff⟩
def SAR_CAL_COUNT_CALS (x : Nat) : Reg :=
  ⟨0x08 + x, 0x05C, 0, 16, .ro, 0x0, 0, 0xffff⟩
def SAR_CAL_COUNT_LATE (x : Nat) : Reg :=
  ⟨0x08 + x, 0x05C, 16, 16, .ro, 0x0, 0, 0xffff⟩
def SAR_DL_LIMIT_LIMIT (x : Nat) : Reg :=
  ⟨0x08 + x, 0x060, 0, 24, .rw, 0xffffff, 8, 0xffffff⟩
def SAR_DL_LIMIT_MISS_MAX (x : Nat) : Reg :=
  ⟨0x08 + x, 0x060, 24, 8, .rw, 0x3, 0, 0xff⟩
def SAR_DL_COUNT_TOTAL (x : Nat) : Reg :=
  ⟨0x08 + x, 0x064, 0, 16, .ro, 0x0, 0, 0xffff⟩
def SAR_DL_COUNT_RUN (x : Nat) : Reg :=
  ⟨0x08 + x, 0x064, 16, 8, .ro, 0x0, 0, 0xff⟩
def SAR_DL_COUNT_CLEAR (x : Nat) : Reg :=
  ⟨0x08 + x, 0x064, 31, 1, .wo, 0x0, 0, 0x1⟩
def SAR_PASS_T0_NS (x : Nat) : Reg :=
  ⟨0x08 + x, 0x068, 0, 64, .sn, 0x0, 0, 0xffffffffffffffff⟩
def SAR_PLAUS_CFG_CHAN (x : Nat) : Reg :=
  ⟨0x08 + x, 0x070, 0, 6, .bo, 0x20, 0, 0x20⟩
def SAR_PLAUS_CFG_LIMIT (x : Nat) : Reg :=
  ⟨0x08 + x, 0x070, 8, 20, .bo, 0x0, 0, 0xfffff⟩
def SAR_PLAUS_MAX_FAIL_MAX (x : Nat) : Reg :=
  ⟨0x08 + x, 0x074, 0, 8, .bo, 0x1, 1, 0xff⟩
def SAR_PLAUS_STAT_DIFF (x : Nat) : Reg :=
  ⟨0x08 + x, 0x078, 0, 20, .ro, 0x0, 0, 0xfffff⟩
def SAR_PLAUS_STAT_RUN (x : Nat) : Reg :=
  ⟨0x08 + x, 0x078, 20, 8, .ro, 0x0, 0, 0xff⟩
def SAR_PLAUS_COUNT_FAIL (x : Nat) : Reg :=
  ⟨0x08 + x, 0x07C, 0, 16, .ro, 0x0, 0, 0xffff⟩
def SAR_PLAUS_COUNT_MISSING (x : Nat) : Reg :=
  ⟨0x08 + x, 0x07C, 16, 16, .ro, 0x0, 0, 0xffff⟩
def SAR_ENTRY_INPUT (x i : Nat) : Reg :=
  ⟨0x08 + x, 0x080 + 4 * i, 0, 6, .sh, 0x23, 0, 0x23⟩
def SAR_ENTRY_SMP (x i : Nat) : Reg :=
  ⟨0x08 + x, 0x080 + 4 * i, 8, 10, .sh, 0x3, 3, 0x3ff⟩
def SAR_ENTRY_GAIN (x i : Nat) : Reg :=
  ⟨0x08 + x, 0x080 + 4 * i, 18, 3, .sh, 0x0, 0, 0x4⟩
def SAR_ENTRY_PAIR (x i : Nat) : Reg :=
  ⟨0x08 + x, 0x080 + 4 * i, 21, 1, .sh, 0x0, 0, 0x1⟩
def SAR_ENTRY_ROUTE (x i : Nat) : Reg :=
  ⟨0x08 + x, 0x080 + 4 * i, 24, 3, .sh, 0x0, 0, 0x7⟩
def SAR_RESULT_CODE (x i : Nat) : Reg :=
  ⟨0x08 + x, 0x0C0 + 4 * i, 0, 16, .ro, 0x0, 0, 0xffff⟩
def SAR_RESULT_GAIN (x i : Nat) : Reg :=
  ⟨0x08 + x, 0x0C0 + 4 * i, 16, 3, .ro, 0x0, 0, 0x7⟩
def SAR_RESULT_CLIP (x i : Nat) : Reg :=
  ⟨0x08 + x, 0x0C0 + 4 * i, 19, 1, .ro, 0x0, 0, 0x1⟩
def SAR_RESULT_ROVER (x i : Nat) : Reg :=
  ⟨0x08 + x, 0x0C0 + 4 * i, 20, 1, .ro, 0x0, 0, 0x1⟩
def SAR_RESULT_PARTIAL (x i : Nat) : Reg :=
  ⟨0x08 + x, 0x0C0 + 4 * i, 21, 1, .ro, 0x0, 0, 0x1⟩
def SAR_RESULT_STALE (x i : Nat) : Reg :=
  ⟨0x08 + x, 0x0C0 + 4 * i, 22, 1, .ro, 0x0, 0, 0x1⟩
def SAR_RESULT_LATE (x i : Nat) : Reg :=
  ⟨0x08 + x, 0x0C0 + 4 * i, 23, 1, .ro, 0x0, 0, 0x1⟩
def SAR_RESULT_PASS (x i : Nat) : Reg :=
  ⟨0x08 + x, 0x0C0 + 4 * i, 24, 8, .ro, 0x0, 0, 0xff⟩
/-- Every field of the block registers of page type `SAR` (R137). -/
def SAR_fields (x : Nat) : List Reg :=
  [SAR_STATUS_RUNNING x, SAR_STATUS_PENDING x, SAR_STATUS_SEQ_STALE x, SAR_STATUS_TRIG_OVR x, SAR_SEQ_CFG_LEN x, SAR_SEQ_CFG_TRIG_POLICY x, SAR_TRIG_SRC x, SAR_TRIG_CELL x, SAR_TRIG_LEG x, SAR_TRIG_DELAY x, SAR_TMR_PERIOD_NS x, SAR_TMR_PHASE_NS x, SAR_TRIG_NOW_GO x, SAR_CAL_CFG_PERIOD_S x, SAR_CAL_CFG_REQ x, SAR_CAL_CFG_BUSY x, SAR_CAL_CFG_WAITING x, SAR_CAL_CFG_ROVER x, SAR_CAL_CFG_SERVING x, SAR_CAL_CFG_SUBST x] ++
  [SAR_OVR_COUNT_OVR x, SAR_OVR_COUNT_RESTART x, SAR_CAL_COUNT_CALS x, SAR_CAL_COUNT_LATE x, SAR_DL_LIMIT_LIMIT x, SAR_DL_LIMIT_MISS_MAX x, SAR_DL_COUNT_TOTAL x, SAR_DL_COUNT_RUN x, SAR_DL_COUNT_CLEAR x, SAR_PASS_T0_NS x, SAR_PLAUS_CFG_CHAN x, SAR_PLAUS_CFG_LIMIT x, SAR_PLAUS_MAX_FAIL_MAX x, SAR_PLAUS_STAT_DIFF x, SAR_PLAUS_STAT_RUN x, SAR_PLAUS_COUNT_FAIL x, SAR_PLAUS_COUNT_MISSING x] ++
  (List.range 16).map (fun i => SAR_ENTRY_INPUT x i) ++
  (List.range 16).map (fun i => SAR_ENTRY_SMP x i) ++
  (List.range 16).map (fun i => SAR_ENTRY_GAIN x i) ++
  (List.range 16).map (fun i => SAR_ENTRY_PAIR x i) ++
  (List.range 16).map (fun i => SAR_ENTRY_ROUTE x i) ++
  (List.range 16).map (fun i => SAR_RESULT_CODE x i) ++
  (List.range 16).map (fun i => SAR_RESULT_GAIN x i) ++
  (List.range 16).map (fun i => SAR_RESULT_CLIP x i) ++
  (List.range 16).map (fun i => SAR_RESULT_ROVER x i) ++
  (List.range 16).map (fun i => SAR_RESULT_PARTIAL x i) ++
  (List.range 16).map (fun i => SAR_RESULT_STALE x i) ++
  (List.range 16).map (fun i => SAR_RESULT_LATE x i) ++
  (List.range 16).map (fun i => SAR_RESULT_PASS x i)

def SENSE_SD_CLK_DIV (x : Nat) : Reg :=
  ⟨0x10 + x, 0x040, 0, 6, .rw, 0x14, 16, 0x28⟩
def SENSE_SD_CLK_PHASE (x : Nat) : Reg :=
  ⟨0x10 + x, 0x040, 8, 6, .rw, 0x0, 0, 0x3f⟩
def SENSE_SD_CLK_EN (x : Nat) : Reg :=
  ⟨0x10 + x, 0x040, 16, 1, .rw, 0x0, 0, 0x1⟩
def SENSE_SD_CAP_SKEW (x j : Nat) : Reg :=
  ⟨0x10 + x, 0x044, 5 * j, 5, .rw, 0x0, 0, 0x1f⟩
def SENSE_FILT_CFG_OSR3 (x : Nat) : Reg :=
  ⟨0x10 + x, 0x048, 0, 2, .sh, 0x0, 0, 0x3⟩
def SENSE_FILT_CFG_OSR2 (x : Nat) : Reg :=
  ⟨0x10 + x, 0x048, 2, 2, .sh, 0x0, 0, 0x3⟩
def SENSE_FILT_CFG_FREEZE_N (x : Nat) : Reg :=
  ⟨0x10 + x, 0x048, 8, 8, .rw, 0x10, 4, 0xff⟩
def SENSE_CH_EN_EN (x : Nat) : Reg :=
  ⟨0x10 + x, 0x04C, 0, 6, .rw, 0x0, 0, 0x3f⟩
def SENSE_TRIG_SRC (x : Nat) : Reg :=
  ⟨0x10 + x, 0x050, 0, 3, .sh, 0x0, 0, 0x7⟩
def SENSE_TRIG_LEG (x : Nat) : Reg :=
  ⟨0x10 + x, 0x050, 7, 2, .sh, 0x0, 0, 0x3⟩
def SENSE_TRIG_DELAY (x : Nat) : Reg :=
  ⟨0x10 + x, 0x050, 16, 16, .sh, 0x0, 0, 0xffff⟩
def SENSE_TMR_PERIOD_NS (x : Nat) : Reg :=
  ⟨0x10 + x, 0x054, 0, 24, .shc, 0x3e8, 0, 0xffffff⟩
def SENSE_TMR_PHASE_NS (x : Nat) : Reg :=
  ⟨0x10 + x, 0x058, 0, 24, .shc, 0x0, 0, 0xffffff⟩
def SENSE_TRIG_NOW_GO (x : Nat) : Reg :=
  ⟨0x10 + x, 0x05C, 0, 1, .wo, 0x0, 0, 0x1⟩
def SENSE_FB_STAT_LOSS (x : Nat) : Reg :=
  ⟨0x10 + x, 0x060, 0, 6, .ro, 0x0, 0, 0x3f⟩
def SENSE_FB_STAT_FREEZE (x : Nat) : Reg :=
  ⟨0x10 + x, 0x060, 8, 6, .ro, 0x0, 0, 0x3f⟩
def SENSE_FB_STAT_STALE (x : Nat) : Reg :=
  ⟨0x10 + x, 0x060, 16, 6, .ro, 0x0, 0, 0x3f⟩
def SENSE_FB_STAT_SAT (x : Nat) : Reg :=
  ⟨0x10 + x, 0x060, 24, 6, .ro, 0x0, 0, 0x3f⟩
def SENSE_FB_STAT_TRIG_OVR (x : Nat) : Reg :=
  ⟨0x10 + x, 0x060, 30, 1, .w1c, 0x0, 0, 0x1⟩
def SENSE_CMP_STAT_OUT (x : Nat) : Reg :=
  ⟨0x10 + x, 0x064, 0, 12, .ro, 0x0, 0, 0xfff⟩
def SENSE_SAMPLE_T_NS (x : Nat) : Reg :=
  ⟨0x10 + x, 0x068, 0, 64, .sn, 0x0, 0, 0xffffffffffffffff⟩
def SENSE_SAMPLE_SEQ_COUNT (x : Nat) : Reg :=
  ⟨0x10 + x, 0x070, 0, 16, .ro, 0x0, 0, 0xffff⟩
def SENSE_OVR_COUNT_OVR (x : Nat) : Reg :=
  ⟨0x10 + x, 0x074, 0, 16, .ro, 0x0, 0, 0xffff⟩
def SENSE_DL_LIMIT_LIMIT (x : Nat) : Reg :=
  ⟨0x10 + x, 0x078, 0, 24, .rw, 0xffff, 40, 0xffff⟩
def SENSE_DL_LIMIT_MISS_MAX (x : Nat) : Reg :=
  ⟨0x10 + x, 0x078, 24, 8, .ro, 0x0, 0, 0xff⟩
def SENSE_DL_COUNT_TOTAL (x : Nat) : Reg :=
  ⟨0x10 + x, 0x07C, 0, 16, .ro, 0x0, 0, 0xffff⟩
def SENSE_DL_COUNT_RUN (x : Nat) : Reg :=
  ⟨0x10 + x, 0x07C, 16, 8, .ro, 0x0, 0, 0xff⟩
def SENSE_DL_COUNT_CLEAR (x : Nat) : Reg :=
  ⟨0x10 + x, 0x07C, 31, 1, .wo, 0x0, 0, 0x1⟩
def SENSE_CMP_THR_LO (x i : Nat) : Reg :=
  ⟨0x10 + x, 0x080 + 8 * i, 0, 16, .rw, 0x8000, 0, 0xffff⟩
def SENSE_CMP_THR_HI (x i : Nat) : Reg :=
  ⟨0x10 + x, 0x080 + 8 * i, 16, 16, .rw, 0x7fff, 0, 0xffff⟩
def SENSE_CMP_CFG_MODE (x i : Nat) : Reg :=
  ⟨0x10 + x, 0x084 + 8 * i, 0, 2, .rw, 0x0, 0, 0x3⟩
def SENSE_CMP_CFG_FILT (x i : Nat) : Reg :=
  ⟨0x10 + x, 0x084 + 8 * i, 4, 4, .rw, 0x0, 0, 0xf⟩
def SENSE_CMP_CFG_HYST (x i : Nat) : Reg :=
  ⟨0x10 + x, 0x084 + 8 * i, 16, 12, .rw, 0x0, 0, 0xfff⟩
def SENSE_RES_VAL (x i : Nat) : Reg :=
  ⟨0x10 + x, 0x100 + 4 * i, 0, 32, .ro, 0x0, 0, 0xffffffff⟩
def SENSE_PRI_VAL (x i : Nat) : Reg :=
  ⟨0x10 + x, 0x120 + 4 * i, 0, 32, .ro, 0x0, 0, 0xffffffff⟩
def SENSE_OFS_VAL (x i : Nat) : Reg :=
  ⟨0x10 + x, 0x140 + 4 * i, 0, 32, .sh, 0x0, 0, 0xffffffff⟩
def SENSE_GAIN_VAL (x i : Nat) : Reg :=
  ⟨0x10 + x, 0x160 + 4 * i, 0, 32, .sh, 0x40000000, 0, 0xffffffff⟩
def SENSE_FS_VAL (x i : Nat) : Reg :=
  ⟨0x10 + x, 0x180 + 4 * i, 0, 32, .sh, 0x0, 0, 0xffffffff⟩
/-- Every field of the block registers of page type `SENSE` (R121). -/
def SENSE_fields (x : Nat) : List Reg :=
  [SENSE_SD_CLK_DIV x, SENSE_SD_CLK_PHASE x, SENSE_SD_CLK_EN x] ++
  (List.range 6).map (fun i => SENSE_SD_CAP_SKEW x i) ++
  [SENSE_FILT_CFG_OSR3 x, SENSE_FILT_CFG_OSR2 x, SENSE_FILT_CFG_FREEZE_N x, SENSE_CH_EN_EN x, SENSE_TRIG_SRC x, SENSE_TRIG_LEG x, SENSE_TRIG_DELAY x, SENSE_TMR_PERIOD_NS x, SENSE_TMR_PHASE_NS x, SENSE_TRIG_NOW_GO x, SENSE_FB_STAT_LOSS x, SENSE_FB_STAT_FREEZE x, SENSE_FB_STAT_STALE x, SENSE_FB_STAT_SAT x, SENSE_FB_STAT_TRIG_OVR x, SENSE_CMP_STAT_OUT x, SENSE_SAMPLE_T_NS x, SENSE_SAMPLE_SEQ_COUNT x, SENSE_OVR_COUNT_OVR x, SENSE_DL_LIMIT_LIMIT x] ++
  [SENSE_DL_LIMIT_MISS_MAX x, SENSE_DL_COUNT_TOTAL x, SENSE_DL_COUNT_RUN x, SENSE_DL_COUNT_CLEAR x] ++
  (List.range 12).map (fun i => SENSE_CMP_THR_LO x i) ++
  (List.range 12).map (fun i => SENSE_CMP_THR_HI x i) ++
  (List.range 12).map (fun i => SENSE_CMP_CFG_MODE x i) ++
  (List.range 12).map (fun i => SENSE_CMP_CFG_FILT x i) ++
  (List.range 12).map (fun i => SENSE_CMP_CFG_HYST x i) ++
  (List.range 6).map (fun i => SENSE_RES_VAL x i) ++
  (List.range 6).map (fun i => SENSE_PRI_VAL x i) ++
  (List.range 6).map (fun i => SENSE_OFS_VAL x i) ++
  (List.range 6).map (fun i => SENSE_GAIN_VAL x i) ++
  (List.range 6).map (fun i => SENSE_FS_VAL x i)

def PWM_CTRL_EN (x : Nat) : Reg :=
  ⟨0x18 + x, 0x008, 0, 1, .rw, 0x0, 0, 0x1⟩
def PWM_STATUS_RUN (x : Nat) : Reg :=
  ⟨0x18 + x, 0x00C, 0, 1, .ro, 0x0, 0, 0x1⟩
def PWM_STATUS_ALIGNED (x : Nat) : Reg :=
  ⟨0x18 + x, 0x00C, 1, 1, .ro, 0x0, 0, 0x1⟩
def PWM_STATUS_SLEWING (x : Nat) : Reg :=
  ⟨0x18 + x, 0x00C, 2, 1, .ro, 0x0, 0, 0x1⟩
def PWM_STATUS_DUTY_CLAMP (x : Nat) : Reg :=
  ⟨0x18 + x, 0x00C, 3, 1, .w1c, 0x0, 0, 0x1⟩
def PWM_STATUS_SHOOT (x : Nat) : Reg :=
  ⟨0x18 + x, 0x00C, 4, 4, .w1c, 0x0, 0, 0xf⟩
def PWM_STATUS_CH_FAULT (x : Nat) : Reg :=
  ⟨0x18 + x, 0x00C, 8, 1, .ro, 0x0, 0, 0x1⟩
def PWM_CARRIER_MODE (x : Nat) : Reg :=
  ⟨0x18 + x, 0x040, 0, 1, .sh, 0x0, 0, 0x1⟩
def PWM_CARRIER_UPDATE_AT (x : Nat) : Reg :=
  ⟨0x18 + x, 0x040, 1, 2, .shc, 0x1, 0, 0x3⟩
def PWM_CARRIER_SLEW (x : Nat) : Reg :=
  ⟨0x18 + x, 0x040, 8, 8, .rw, 0x20, 1, 0xff⟩
def PWM_PERIOD_TICKS (x : Nat) : Reg :=
  ⟨0x18 + x, 0x044, 0, 18, .shc, 0x4e20, 4000, 0x30d40⟩
def PWM_PHASE_FINE (x : Nat) : Reg :=
  ⟨0x18 + x, 0x048, 0, 22, .shc, 0x0, 0, 0x3fffff⟩
def PWM_PULSE_CFG_POLICY_FE (x : Nat) : Reg :=
  ⟨0x18 + x, 0x04C, 0, 1, .sh, 0x0, 0, 0x1⟩
def PWM_PULSE_CFG_POLICY_HB (x : Nat) : Reg :=
  ⟨0x18 + x, 0x04C, 1, 1, .sh, 0x0, 0, 0x1⟩
def PWM_MIN_PULSE_FE (x : Nat) : Reg :=
  ⟨0x18 + x, 0x050, 0, 16, .shc, 0x0, 0, 0xfa00⟩
def PWM_MIN_PULSE_HB (x : Nat) : Reg :=
  ⟨0x18 + x, 0x050, 16, 16, .shc, 0x0, 0, 0xfa00⟩
def PWM_CMP_CMP (x i : Nat) : Reg :=
  ⟨0x18 + x, 0x060 + 16 * i, 0, 22, .sh, 0x0, 0, 0x3fffff⟩
def PWM_DT_RISE (x i : Nat) : Reg :=
  ⟨0x18 + x, 0x064 + 16 * i, 0, 15, .shc, 0x0, 0, 0x6400⟩
def PWM_DT_FALL (x i : Nat) : Reg :=
  ⟨0x18 + x, 0x064 + 16 * i, 16, 15, .shc, 0x0, 0, 0x6400⟩
def PWM_LEGCFG_SHIFT (x i : Nat) : Reg :=
  ⟨0x18 + x, 0x068 + 16 * i, 0, 1, .sh, 0x0, 0, 0x1⟩
def PWM_LEGCFG_SRC (x i : Nat) : Reg :=
  ⟨0x18 + x, 0x068 + 16 * i, 1, 1, .sh, 0x0, 0, 0x1⟩
def PWM_LEGCFG_BOOT_MAX_ON (x i : Nat) : Reg :=
  ⟨0x18 + x, 0x068 + 16 * i, 16, 16, .shc, 0x0, 0, 0xffff⟩
def PWM_BOOT_REFRESH (x i : Nat) : Reg :=
  ⟨0x18 + x, 0x06C + 16 * i, 0, 16, .shc, 0xc80, 320, 0xfa00⟩
def PWM_SHORT_DROPPED (x i : Nat) : Reg :=
  ⟨0x18 + x, 0x0A0 + 8 * i, 0, 16, .ro, 0x0, 0, 0xffff⟩
def PWM_SHORT_STRETCHED (x i : Nat) : Reg :=
  ⟨0x18 + x, 0x0A0 + 8 * i, 16, 16, .ro, 0x0, 0, 0xffff⟩
def PWM_EVT_REFRESH (x i : Nat) : Reg :=
  ⟨0x18 + x, 0x0A4 + 8 * i, 0, 16, .ro, 0x0, 0, 0xffff⟩
def PWM_EVT_CLAMP (x i : Nat) : Reg :=
  ⟨0x18 + x, 0x0A4 + 8 * i, 16, 16, .ro, 0x0, 0, 0xffff⟩
def PWM_CNT_CLR_GO (x : Nat) : Reg :=
  ⟨0x18 + x, 0x0C0, 0, 1, .wo, 0x0, 0, 0x1⟩
def PWM_ACMP_CMP (x i : Nat) : Reg :=
  ⟨0x18 + x, 0x0D0 + 4 * i, 0, 22, .ro, 0x0, 0, 0x3fffff⟩
def PWM_ACMP_KWAIT (x i : Nat) : Reg :=
  ⟨0x18 + x, 0x0D0 + 4 * i, 31, 1, .ro, 0x0, 0, 0x1⟩
def PWM_ZERO_T_NS (x : Nat) : Reg :=
  ⟨0x18 + x, 0x0E0, 0, 64, .sn, 0x0, 0, 0xffffffffffffffff⟩
def PWM_FMAP_GROUP (x i j : Nat) : Reg :=
  ⟨0x18 + x, 0x100 + 4 * i, 8 * j, 4, .rw, 0x0, 0, 0xf⟩
def PWM_FMAP_EN (x i j : Nat) : Reg :=
  ⟨0x18 + x, 0x100 + 4 * i, 7 + 8 * j, 1, .rw, 0x0, 0, 0x1⟩
def PWM_GRP_OUT (x i : Nat) : Reg :=
  ⟨0x18 + x, 0x140 + 4 * i, 0, 8, .rw, 0x0, 0, 0xff⟩
def PWM_GRP_ACTION (x i : Nat) : Reg :=
  ⟨0x18 + x, 0x140 + 4 * i, 8, 3, .rw, 0x0, 0, 0x4⟩
def PWM_FSRC_LO_ACTIVE (x : Nat) : Reg :=
  ⟨0x18 + x, 0x180, 0, 32, .ro, 0x0, 0, 0xffffffff⟩
def PWM_FSRC_HI_ACTIVE (x : Nat) : Reg :=
  ⟨0x18 + x, 0x184, 0, 4, .ro, 0x0, 0, 0xf⟩
def PWM_GRP_ACT_ACTIVE (x : Nat) : Reg :=
  ⟨0x18 + x, 0x188, 0, 16, .ro, 0x0, 0, 0xffff⟩
def PWM_FAULT_SOFT_SET (x : Nat) : Reg :=
  ⟨0x18 + x, 0x18C, 0, 1, .rw, 0x0, 0, 0x1⟩
/-- Every field of the block registers of page type `PWM` (R161). -/
def PWM_fields (x : Nat) : List Reg :=
  [PWM_CTRL_EN x, PWM_STATUS_RUN x, PWM_STATUS_ALIGNED x, PWM_STATUS_SLEWING x, PWM_STATUS_DUTY_CLAMP x, PWM_STATUS_SHOOT x, PWM_STATUS_CH_FAULT x, PWM_CARRIER_MODE x, PWM_CARRIER_UPDATE_AT x, PWM_CARRIER_SLEW x, PWM_PERIOD_TICKS x, PWM_PHASE_FINE x, PWM_PULSE_CFG_POLICY_FE x, PWM_PULSE_CFG_POLICY_HB x, PWM_MIN_PULSE_FE x, PWM_MIN_PULSE_HB x] ++
  (List.range 4).map (fun i => PWM_CMP_CMP x i) ++
  (List.range 4).map (fun i => PWM_DT_RISE x i) ++
  (List.range 4).map (fun i => PWM_DT_FALL x i) ++
  (List.range 4).map (fun i => PWM_LEGCFG_SHIFT x i) ++
  (List.range 4).map (fun i => PWM_LEGCFG_SRC x i) ++
  (List.range 4).map (fun i => PWM_LEGCFG_BOOT_MAX_ON x i) ++
  (List.range 4).map (fun i => PWM_BOOT_REFRESH x i) ++
  (List.range 4).map (fun i => PWM_SHORT_DROPPED x i) ++
  (List.range 4).map (fun i => PWM_SHORT_STRETCHED x i) ++
  (List.range 4).map (fun i => PWM_EVT_REFRESH x i) ++
  (List.range 4).map (fun i => PWM_EVT_CLAMP x i) ++
  [PWM_CNT_CLR_GO x] ++
  (List.range 4).map (fun i => PWM_ACMP_CMP x i) ++
  (List.range 4).map (fun i => PWM_ACMP_KWAIT x i) ++
  [PWM_ZERO_T_NS x] ++
  (List.range 9).flatMap (fun i => (List.range 4).map (fun j => PWM_FMAP_GROUP x i j)) ++
  (List.range 9).flatMap (fun i => (List.range 4).map (fun j => PWM_FMAP_EN x i j)) ++
  (List.range 16).map (fun i => PWM_GRP_OUT x i) ++
  (List.range 16).map (fun i => PWM_GRP_ACTION x i) ++
  [PWM_FSRC_LO_ACTIVE x, PWM_FSRC_HI_ACTIVE x, PWM_GRP_ACT_ACTIVE x, PWM_FAULT_SOFT_SET x]

def GUARD_STATUS_MAP_OK (x : Nat) : Reg :=
  ⟨0x20 + x, 0x00C, 0, 1, .ro, 0x0, 0, 0x1⟩
def GUARD_STATUS_HUSK (x : Nat) : Reg :=
  ⟨0x20 + x, 0x00C, 1, 1, .ro, 0x1, 0, 0x1⟩
def GUARD_STATUS_ANY_LATCHED (x : Nat) : Reg :=
  ⟨0x20 + x, 0x00C, 2, 1, .ro, 0x0, 0, 0x1⟩
def GUARD_SC_CFG_FILT (x : Nat) : Reg :=
  ⟨0x20 + x, 0x040, 0, 6, .rwPwmOff, 0x8, 0, 0x28⟩
def GUARD_RDY_CFG_FILT (x : Nat) : Reg :=
  ⟨0x20 + x, 0x044, 0, 8, .rwPwmOff, 0xa, 0, 0xff⟩
def GUARD_RDY_CFG_BLANK (x : Nat) : Reg :=
  ⟨0x20 + x, 0x044, 8, 8, .rwPwmOff, 0x32, 0, 0xff⟩
def GUARD_LEG_USE_USE (x : Nat) : Reg :=
  ⟨0x20 + x, 0x048, 0, 4, .rwPwmOff, 0xf, 0, 0xf⟩
def GUARD_LATCH_CLR_GO (x : Nat) : Reg :=
  ⟨0x20 + x, 0x04C, 0, 16, .wo, 0x0, 0, 0xffff⟩
def GUARD_SC_STAT_SEEN (x : Nat) : Reg :=
  ⟨0x20 + x, 0x050, 0, 8, .w1c, 0x0, 0, 0xff⟩
def GUARD_SC_STAT_STUCK (x : Nat) : Reg :=
  ⟨0x20 + x, 0x050, 8, 8, .w1c, 0x0, 0, 0xff⟩
def GUARD_SC_STAT_RDY_LOW (x : Nat) : Reg :=
  ⟨0x20 + x, 0x050, 16, 4, .ro, 0x0, 0, 0xf⟩
def GUARD_SC_STAT_BLANKED (x : Nat) : Reg :=
  ⟨0x20 + x, 0x050, 20, 4, .ro, 0x0, 0, 0xf⟩
def GUARD_SC_T_NS (x : Nat) : Reg :=
  ⟨0x20 + x, 0x058, 0, 64, .sn, 0x0, 0, 0xffffffffffffffff⟩
def GUARD_SC_CNT_HIGH (x i : Nat) : Reg :=
  ⟨0x20 + x, 0x060 + 4 * i, 0, 16, .ro, 0x0, 0, 0xffff⟩
def GUARD_SC_CNT_LOW (x i : Nat) : Reg :=
  ⟨0x20 + x, 0x060 + 4 * i, 16, 16, .ro, 0x0, 0, 0xffff⟩
def GUARD_CNT_CLR_GO (x : Nat) : Reg :=
  ⟨0x20 + x, 0x070, 0, 1, .wo, 0x0, 0, 0x1⟩
def GUARD_GCFG_WAIT (x i : Nat) : Reg :=
  ⟨0x20 + x, 0x080 + 8 * i, 0, 14, .rwPwmOff, 0x64, 10, 0x2710⟩
def GUARD_GCFG_ESC_EN (x i : Nat) : Reg :=
  ⟨0x20 + x, 0x080 + 8 * i, 14, 1, .rwPwmOff, 0x1, 0, 0x1⟩
def GUARD_GCFG_RETRY_MAX (x i : Nat) : Reg :=
  ⟨0x20 + x, 0x080 + 8 * i, 15, 3, .rwPwmOff, 0x0, 0, 0x7⟩
def GUARD_GCFG_ESC_AT (x i : Nat) : Reg :=
  ⟨0x20 + x, 0x080 + 8 * i, 18, 3, .rwPwmOff, 0x1, 0, 0x7⟩
def GUARD_GCFG_LATCH_ACT (x i : Nat) : Reg :=
  ⟨0x20 + x, 0x080 + 8 * i, 21, 2, .rwPwmOff, 0x2, 0, 0x2⟩
def GUARD_GWIN_WINDOW (x i : Nat) : Reg :=
  ⟨0x20 + x, 0x084 + 8 * i, 0, 16, .rwPwmOff, 0x3e8, 1, 0xea60⟩
def GUARD_GSTAT_COUNT (x i : Nat) : Reg :=
  ⟨0x20 + x, 0x100 + 4 * i, 0, 4, .ro, 0x0, 0, 0xf⟩
def GUARD_GSTAT_ESCALATED (x i : Nat) : Reg :=
  ⟨0x20 + x, 0x100 + 4 * i, 4, 1, .ro, 0x0, 0, 0x1⟩
def GUARD_GSTAT_LATCHED (x i : Nat) : Reg :=
  ⟨0x20 + x, 0x100 + 4 * i, 5, 1, .ro, 0x0, 0, 0x1⟩
def GUARD_GSTAT_WAITING (x i : Nat) : Reg :=
  ⟨0x20 + x, 0x100 + 4 * i, 6, 1, .ro, 0x0, 0, 0x1⟩
def GUARD_GSTAT_TRIPS (x i : Nat) : Reg :=
  ⟨0x20 + x, 0x100 + 4 * i, 16, 16, .ro, 0x0, 0, 0xffff⟩
def GUARD_BYP_CFG_FB_POL (x : Nat) : Reg :=
  ⟨0x20 + x, 0x180, 0, 1, .rwBypIdle, 0x0, 0, 0x1⟩
def GUARD_BYP_CFG_OPEN_MS (x : Nat) : Reg :=
  ⟨0x20 + x, 0x180, 8, 8, .rwBypIdle, 0x14, 1, 0xff⟩
def GUARD_BYP_CFG_CLOSE_MS (x : Nat) : Reg :=
  ⟨0x20 + x, 0x180, 16, 8, .rwBypIdle, 0x5, 1, 0xff⟩
def GUARD_BYP_STAT_HOLD_ON (x : Nat) : Reg :=
  ⟨0x20 + x, 0x184, 0, 1, .ro, 0x0, 0, 0x1⟩
def GUARD_BYP_STAT_FB_OPEN (x : Nat) : Reg :=
  ⟨0x20 + x, 0x184, 1, 1, .ro, 0x0, 0, 0x1⟩
def GUARD_BYP_STAT_OPEN_FAIL (x : Nat) : Reg :=
  ⟨0x20 + x, 0x184, 2, 1, .w1c, 0x0, 0, 0x1⟩
def GUARD_BYP_STAT_CLOSE_FAIL (x : Nat) : Reg :=
  ⟨0x20 + x, 0x184, 3, 1, .w1c, 0x0, 0, 0x1⟩
def GUARD_BYP_STAT_FB_CHANGE (x : Nat) : Reg :=
  ⟨0x20 + x, 0x184, 4, 1, .w1c, 0x0, 0, 0x1⟩
/-- Every field of the block registers of page type `GUARD` (R184). -/
def GUARD_fields (x : Nat) : List Reg :=
  [GUARD_STATUS_MAP_OK x, GUARD_STATUS_HUSK x, GUARD_STATUS_ANY_LATCHED x, GUARD_SC_CFG_FILT x, GUARD_RDY_CFG_FILT x, GUARD_RDY_CFG_BLANK x, GUARD_LEG_USE_USE x, GUARD_LATCH_CLR_GO x, GUARD_SC_STAT_SEEN x, GUARD_SC_STAT_STUCK x, GUARD_SC_STAT_RDY_LOW x, GUARD_SC_STAT_BLANKED x, GUARD_SC_T_NS x] ++
  (List.range 4).map (fun i => GUARD_SC_CNT_HIGH x i) ++
  (List.range 4).map (fun i => GUARD_SC_CNT_LOW x i) ++
  [GUARD_CNT_CLR_GO x] ++
  (List.range 16).map (fun i => GUARD_GCFG_WAIT x i) ++
  (List.range 16).map (fun i => GUARD_GCFG_ESC_EN x i) ++
  (List.range 16).map (fun i => GUARD_GCFG_RETRY_MAX x i) ++
  (List.range 16).map (fun i => GUARD_GCFG_ESC_AT x i) ++
  (List.range 16).map (fun i => GUARD_GCFG_LATCH_ACT x i) ++
  (List.range 16).map (fun i => GUARD_GWIN_WINDOW x i) ++
  (List.range 16).map (fun i => GUARD_GSTAT_COUNT x i) ++
  (List.range 16).map (fun i => GUARD_GSTAT_ESCALATED x i) ++
  (List.range 16).map (fun i => GUARD_GSTAT_LATCHED x i) ++
  (List.range 16).map (fun i => GUARD_GSTAT_WAITING x i) ++
  (List.range 16).map (fun i => GUARD_GSTAT_TRIPS x i) ++
  [GUARD_BYP_CFG_FB_POL x, GUARD_BYP_CFG_OPEN_MS x, GUARD_BYP_CFG_CLOSE_MS x, GUARD_BYP_STAT_HOLD_ON x, GUARD_BYP_STAT_FB_OPEN x, GUARD_BYP_STAT_OPEN_FAIL x, GUARD_BYP_STAT_CLOSE_FAIL x, GUARD_BYP_STAT_FB_CHANGE x]

end Sys2Proof.Machine.R
end

