-- ==== Sys2Proof/Machine/RegGrid.lean ====
section
/-! DEFINITION. The block registers of the pages GE, ARM, RIDE, ISLAND, METER, MCORR: one definition per field,
with its page, offset, low bit, width, access code, reset value and range, as the register tables
of 10_grid_engines.md, 11_ride_through_islanding.md, 12_metering.md give them.
An index `x` is the page instance, `i` the register of an array, `j` the field of a row. -/
namespace Sys2Proof.Machine.R

def GE_SRC_SAR (x i : Nat) : Reg :=
  ⟨0x40 + x, 0x040 + 4 * i, 0, 3, .sh, 0x0, 0, 0x4⟩
def GE_SRC_ENTRY (x i : Nat) : Reg :=
  ⟨0x40 + x, 0x040 + 4 * i, 4, 4, .sh, 0x0, 0, 0xf⟩
def GE_SRC_EN (x i : Nat) : Reg :=
  ⟨0x40 + x, 0x040 + 4 * i, 8, 1, .sh, 0x0, 0, 0x1⟩
def GE_SCALE_FS (x i : Nat) : Reg :=
  ⟨0x40 + x, 0x060 + 4 * i, 0, 32, .sh, 0x0, 0, 0xffffffff⟩
def GE_PLL_CFG_BW (x : Nat) : Reg :=
  ⟨0x40 + x, 0x080, 0, 8, .sh, 0x14, 1, 0x64⟩
def GE_PLL_CFG_SOGI_K (x : Nat) : Reg :=
  ⟨0x40 + x, 0x080, 8, 8, .sh, 0x5a, 32, 0xff⟩
def GE_PLL_CFG_FREEZE_PCT (x : Nat) : Reg :=
  ⟨0x40 + x, 0x080, 16, 8, .sh, 0x1e, 5, 0x32⟩
def GE_GRID_NOM_FNOM (x : Nat) : Reg :=
  ⟨0x40 + x, 0x084, 0, 1, .bo, 0x0, 0, 0x1⟩
def GE_VBASE_MV (x : Nat) : Reg :=
  ⟨0x40 + x, 0x088, 0, 32, .bo, 0x0, 1000000, 0x2625a00⟩
def GE_PLL_STAT_LOCKED (x : Nat) : Reg :=
  ⟨0x40 + x, 0x08C, 0, 1, .ro, 0x0, 0, 0x1⟩
def GE_PLL_STAT_FROZEN (x : Nat) : Reg :=
  ⟨0x40 + x, 0x08C, 1, 1, .ro, 0x0, 0, 0x1⟩
def GE_PLL_STAT_V_STALE (x : Nat) : Reg :=
  ⟨0x40 + x, 0x08C, 2, 1, .ro, 0x0, 0, 0x1⟩
def GE_THETA_ANGLE (x : Nat) : Reg :=
  ⟨0x40 + x, 0x090, 0, 32, .ro, 0x0, 0, 0xffffffff⟩
def GE_FREQ_MHZ (x : Nat) : Reg :=
  ⟨0x40 + x, 0x094, 0, 32, .ro, 0x0, 0, 0xffffffff⟩
def GE_VPOS_MV (x : Nat) : Reg :=
  ⟨0x40 + x, 0x098, 0, 32, .ro, 0x0, 0, 0xffffffff⟩
def GE_VNEG_MV (x : Nat) : Reg :=
  ⟨0x40 + x, 0x09C, 0, 32, .ro, 0x0, 0, 0xffffffff⟩
def GE_NEG_ANG_ANGLE (x : Nat) : Reg :=
  ⟨0x40 + x, 0x0A0, 0, 32, .ro, 0x0, 0, 0xffffffff⟩
def GE_DL_LIMIT_LIMIT (x : Nat) : Reg :=
  ⟨0x40 + x, 0x0A4, 0, 24, .rw, 0x7d0, 250, 0xf4240⟩
def GE_DL_LIMIT_MISS_MAX (x : Nat) : Reg :=
  ⟨0x40 + x, 0x0A4, 24, 8, .rw, 0x3, 1, 0xff⟩
def GE_DL_COUNT_TOTAL (x : Nat) : Reg :=
  ⟨0x40 + x, 0x0A8, 0, 16, .ro, 0x0, 0, 0xffff⟩
def GE_DL_COUNT_RUN (x : Nat) : Reg :=
  ⟨0x40 + x, 0x0A8, 16, 8, .ro, 0x0, 0, 0xff⟩
def GE_DL_COUNT_CLEAR (x : Nat) : Reg :=
  ⟨0x40 + x, 0x0A8, 31, 1, .wo, 0x0, 0, 0x1⟩
def GE_CYCLE_T_NS (x : Nat) : Reg :=
  ⟨0x40 + x, 0x0B0, 0, 64, .sn, 0x0, 0, 0xffffffffffffffff⟩
def GE_XCHK_CFG0_THETA_TOL (x : Nat) : Reg :=
  ⟨0x40 + x, 0x0C0, 0, 16, .bo, 0x0, 0, 0x3e8⟩
def GE_XCHK_CFG0_FREQ_TOL (x : Nat) : Reg :=
  ⟨0x40 + x, 0x0C0, 16, 16, .bo, 0x0, 0, 0x1388⟩
def GE_XCHK_CFG1_TIME_MS (x : Nat) : Reg :=
  ⟨0x40 + x, 0x0C4, 0, 16, .bo, 0x1, 1, 0x3e8⟩
def GE_XCHK_CFG1_IERR_PCT (x : Nat) : Reg :=
  ⟨0x40 + x, 0x0C4, 16, 16, .bo, 0x1, 1, 0x64⟩
def GE_XCHK_STAT_FAIL (x : Nat) : Reg :=
  ⟨0x40 + x, 0x0C8, 0, 9, .w1c, 0x0, 0, 0x1ff⟩
def GE_XCHK_COUNT_COUNT (x : Nat) : Reg :=
  ⟨0x40 + x, 0x0CC, 0, 16, .ro, 0x0, 0, 0xffff⟩
/-- Every field of the block registers of page type `GE` (R271). -/
def GE_fields (x : Nat) : List Reg :=
  (List.range 5).map (fun i => GE_SRC_SAR x i) ++
  (List.range 5).map (fun i => GE_SRC_ENTRY x i) ++
  (List.range 5).map (fun i => GE_SRC_EN x i) ++
  (List.range 5).map (fun i => GE_SCALE_FS x i) ++
  [GE_PLL_CFG_BW x, GE_PLL_CFG_SOGI_K x, GE_PLL_CFG_FREEZE_PCT x, GE_GRID_NOM_FNOM x, GE_VBASE_MV x, GE_PLL_STAT_LOCKED x, GE_PLL_STAT_FROZEN x, GE_PLL_STAT_V_STALE x, GE_THETA_ANGLE x, GE_FREQ_MHZ x, GE_VPOS_MV x, GE_VNEG_MV x, GE_NEG_ANG_ANGLE x, GE_DL_LIMIT_LIMIT x, GE_DL_LIMIT_MISS_MAX x, GE_DL_COUNT_TOTAL x, GE_DL_COUNT_RUN x, GE_DL_COUNT_CLEAR x, GE_CYCLE_T_NS x, GE_XCHK_CFG0_THETA_TOL x] ++
  [GE_XCHK_CFG0_FREQ_TOL x, GE_XCHK_CFG1_TIME_MS x, GE_XCHK_CFG1_IERR_PCT x, GE_XCHK_STAT_FAIL x, GE_XCHK_COUNT_COUNT x]

def ARM_STATUS_GF : Reg :=
  ⟨0x42, 0x00C, 0, 1, .ro, 0x0, 0, 0x1⟩
def ARM_STATUS_MODE_REFUSED : Reg :=
  ⟨0x42, 0x00C, 1, 1, .w1c, 0x0, 0, 0x1⟩
def ARM_STATUS_RAMPING : Reg :=
  ⟨0x42, 0x00C, 2, 1, .ro, 0x0, 0, 0x1⟩
def ARM_STATUS_CAPABLE : Reg :=
  ⟨0x42, 0x00C, 3, 1, .ro, 0x0, 0, 0x1⟩
def ARM_STATUS_CURRENT_ON : Reg :=
  ⟨0x42, 0x00C, 4, 1, .ro, 0x0, 0, 0x1⟩
def ARM_STATUS_STOPPED : Reg :=
  ⟨0x42, 0x00C, 5, 1, .ro, 0x0, 0, 0x1⟩
def ARM_STATUS_I_LIMITED : Reg :=
  ⟨0x42, 0x00C, 6, 1, .ro, 0x0, 0, 0x1⟩
def ARM_STATUS_VSM_LIMITED : Reg :=
  ⟨0x42, 0x00C, 7, 1, .ro, 0x0, 0, 0x1⟩
def ARM_CH_ASSIGN_ARM_ID (i : Nat) : Reg :=
  ⟨0x42, 0x040 + 4 * i, 0, 8, .bo, 0x0, 0, 0xff⟩
def ARM_CH_ASSIGN_POS (i : Nat) : Reg :=
  ⟨0x42, 0x040 + 4 * i, 8, 6, .bo, 0x0, 0, 0x3f⟩
def ARM_CH_ASSIGN_VALID (i : Nat) : Reg :=
  ⟨0x42, 0x040 + 4 * i, 15, 1, .bo, 0x0, 0, 0x1⟩
def ARM_ROLE_CFG_ARM_ID (i : Nat) : Reg :=
  ⟨0x42, 0x060 + 4 * i, 0, 8, .bo, 0x0, 0, 0xff⟩
def ARM_ROLE_CFG_ROLE (i : Nat) : Reg :=
  ⟨0x42, 0x060 + 4 * i, 8, 2, .bo, 0x0, 0, 0x2⟩
def ARM_ROLE_CFG_NCELLS (i : Nat) : Reg :=
  ⟨0x42, 0x060 + 4 * i, 16, 6, .bo, 0x0, 0, 0x3f⟩
def ARM_INV_CFG_ARMS : Reg :=
  ⟨0x42, 0x068, 0, 24, .bo, 0x0, 0, 0xffffff⟩
def ARM_I_MAX_MA : Reg :=
  ⟨0x42, 0x06C, 0, 32, .bo, 0x0, 0, 0x1e8480⟩
def ARM_L_ARM_UH : Reg :=
  ⟨0x42, 0x070, 0, 24, .sh, 0x0, 0, 0xffffff⟩
def ARM_M_LIM_INDEX : Reg :=
  ⟨0x42, 0x074, 0, 16, .sh, 0x7333, 1, 0x7fff⟩
def ARM_MODE_REQ_GF : Reg :=
  ⟨0x42, 0x078, 0, 1, .sh, 0x0, 0, 0x1⟩
def ARM_MODE_REQ_FFR_EN : Reg :=
  ⟨0x42, 0x078, 1, 1, .sh, 0x0, 0, 0x1⟩
def ARM_MODE_REQ_Q_PRIO : Reg :=
  ⟨0x42, 0x078, 2, 1, .sh, 0x0, 0, 0x1⟩
def ARM_P_LIM_INV_W : Reg :=
  ⟨0x42, 0x07C, 0, 32, .sh, 0xffffffff, 0, 0xffffffff⟩
def ARM_Q_SET_INV_VAR : Reg :=
  ⟨0x42, 0x080, 0, 32, .sh, 0x0, 0, 0xffffffff⟩
def ARM_P_DISP_INV_W : Reg :=
  ⟨0x42, 0x084, 0, 32, .sh, 0x0, 0, 0xffffffff⟩
def ARM_E_TGT_MJ : Reg :=
  ⟨0x42, 0x088, 0, 32, .sh, 0x0, 0, 0xffffffff⟩
def ARM_ECTRL_KP_KP : Reg :=
  ⟨0x42, 0x08C, 0, 32, .sh, 0x2000000, 0, 0xffffffff⟩
def ARM_ECTRL_KI_KI : Reg :=
  ⟨0x42, 0x090, 0, 32, .sh, 0x1000000, 0, 0xffffffff⟩
def ARM_BAL_CFG_K_INTRA : Reg :=
  ⟨0x42, 0x094, 0, 8, .sh, 0x10, 0, 0xff⟩
def ARM_BAL_CFG_G_MAX : Reg :=
  ⟨0x42, 0x094, 8, 8, .sh, 0xa, 1, 0x32⟩
def ARM_BAL_CFG_K_INTER : Reg :=
  ⟨0x42, 0x094, 16, 8, .sh, 0x40, 0, 0xff⟩
def ARM_BAL_CFG_V0_MAX_PCT : Reg :=
  ⟨0x42, 0x094, 24, 5, .sh, 0xa, 0, 0x1e⟩
def ARM_ICTRL_KP_KP : Reg :=
  ⟨0x42, 0x098, 0, 32, .sh, 0x0, 0, 0xffffffff⟩
def ARM_ICTRL_RES_ORDER (i : Nat) : Reg :=
  ⟨0x42, 0x09C + 4 * i, 0, 5, .sh, 0x0, 0, 0x19⟩
def ARM_ICTRL_RES_KR (i : Nat) : Reg :=
  ⟨0x42, 0x09C + 4 * i, 8, 16, .sh, 0x0, 0, 0xffff⟩
def ARM_FFR_CFG_KW_PER_HZ : Reg :=
  ⟨0x42, 0x0AC, 0, 16, .sh, 0x0, 0, 0xffff⟩
def ARM_FFR_CFG_DB : Reg :=
  ⟨0x42, 0x0AC, 16, 8, .sh, 0x14, 0, 0xff⟩
def ARM_FFR_CFG_T_100MS : Reg :=
  ⟨0x42, 0x0AC, 24, 8, .sh, 0xa, 1, 0xff⟩
def ARM_BURST_CFG_FRAC_PCT : Reg :=
  ⟨0x42, 0x0B0, 0, 7, .sh, 0x32, 1, 0x64⟩
def ARM_BURST_REQ_KW : Reg :=
  ⟨0x42, 0x0B4, 0, 16, .sh, 0x0, 0, 0xffff⟩
def ARM_BURST_REQ_MS : Reg :=
  ⟨0x42, 0x0B4, 16, 16, .sh, 0x1, 1, 0xffff⟩
def ARM_VSM_J_H_MS : Reg :=
  ⟨0x42, 0x0B8, 0, 16, .sh, 0xbb8, 100, 0x4e20⟩
def ARM_VSM_J_D : Reg :=
  ⟨0x42, 0x0B8, 16, 16, .sh, 0x1400, 0, 0xffff⟩
def ARM_VSM_Z_RV : Reg :=
  ⟨0x42, 0x0BC, 0, 16, .sh, 0xcd, 0, 0xffff⟩
def ARM_VSM_Z_XV : Reg :=
  ⟨0x42, 0x0BC, 16, 16, .sh, 0x333, 0, 0xffff⟩
def ARM_VSM_Q_KQ : Reg :=
  ⟨0x42, 0x0C0, 0, 16, .sh, 0xcd, 0, 0xffff⟩
def ARM_VSM_Q_TQ_MS : Reg :=
  ⟨0x42, 0x0C0, 16, 16, .sh, 0x32, 1, 0x2710⟩
def ARM_XFER_CFG_RAMP_MS : Reg :=
  ⟨0x42, 0x0C4, 0, 16, .sh, 0x64, 1, 0x2710⟩
def ARM_XFER_LIMIT_W : Reg :=
  ⟨0x42, 0x0C8, 0, 32, .sh, 0x0, 0, 0xffffffff⟩
def ARM_ID_REF_MA : Reg :=
  ⟨0x42, 0x0D0, 0, 32, .ro, 0x0, 0, 0xffffffff⟩
def ARM_IQ_REF_MA : Reg :=
  ⟨0x42, 0x0D4, 0, 32, .ro, 0x0, 0, 0xffffffff⟩
def ARM_P_REF_W : Reg :=
  ⟨0x42, 0x0D8, 0, 32, .ro, 0x0, 0, 0xffffffff⟩
def ARM_E_ARM_MJ : Reg :=
  ⟨0x42, 0x0DC, 0, 32, .ro, 0x0, 0, 0xffffffff⟩
def ARM_V_PEAK_MV : Reg :=
  ⟨0x42, 0x0E0, 0, 32, .ro, 0x0, 0, 0xffffffff⟩
def ARM_ROLE_STAT_ROLE (j : Nat) : Reg :=
  ⟨0x42, 0x0E4, 2 * j, 2, .ro, 0x0, 0, 0x3⟩
def ARM_ROLE_STAT_TERM : Reg :=
  ⟨0x42, 0x0E4, 16, 16, .ro, 0x0, 0, 0xffff⟩
def ARM_BURST_STAT_ACTIVE : Reg :=
  ⟨0x42, 0x0E8, 0, 1, .ro, 0x0, 0, 0x1⟩
def ARM_BURST_STAT_BURST_PARTIAL : Reg :=
  ⟨0x42, 0x0E8, 1, 1, .w1c, 0x0, 0, 0x1⟩
def ARM_BURST_STAT_ADMIT_KW : Reg :=
  ⟨0x42, 0x0E8, 16, 16, .ro, 0x0, 0, 0xffff⟩
def ARM_CNT_A_TAKEOVERS : Reg :=
  ⟨0x42, 0x0EC, 0, 16, .ro, 0x0, 0, 0xffff⟩
def ARM_CNT_A_LATE_FRAMES : Reg :=
  ⟨0x42, 0x0EC, 16, 16, .ro, 0x0, 0, 0xffff⟩
def ARM_CNT_B_MISSED_FRAMES : Reg :=
  ⟨0x42, 0x0F0, 0, 16, .ro, 0x0, 0, 0xffff⟩
def ARM_CNT_B_GRANTS : Reg :=
  ⟨0x42, 0x0F0, 16, 16, .ro, 0x0, 0, 0xffff⟩
def ARM_CNT_CLR_GO : Reg :=
  ⟨0x42, 0x0F4, 0, 1, .wo, 0x0, 0, 0x1⟩
/-- Every field of the block registers of page type `ARM` (R272). -/
def ARM_fields : List Reg :=
  [ARM_STATUS_GF, ARM_STATUS_MODE_REFUSED, ARM_STATUS_RAMPING, ARM_STATUS_CAPABLE, ARM_STATUS_CURRENT_ON, ARM_STATUS_STOPPED, ARM_STATUS_I_LIMITED, ARM_STATUS_VSM_LIMITED] ++
  (List.range 8).map (fun i => ARM_CH_ASSIGN_ARM_ID i) ++
  (List.range 8).map (fun i => ARM_CH_ASSIGN_POS i) ++
  (List.range 8).map (fun i => ARM_CH_ASSIGN_VALID i) ++
  (List.range 2).map (fun i => ARM_ROLE_CFG_ARM_ID i) ++
  (List.range 2).map (fun i => ARM_ROLE_CFG_ROLE i) ++
  (List.range 2).map (fun i => ARM_ROLE_CFG_NCELLS i) ++
  [ARM_INV_CFG_ARMS, ARM_I_MAX_MA, ARM_L_ARM_UH, ARM_M_LIM_INDEX, ARM_MODE_REQ_GF, ARM_MODE_REQ_FFR_EN, ARM_MODE_REQ_Q_PRIO, ARM_P_LIM_INV_W, ARM_Q_SET_INV_VAR, ARM_P_DISP_INV_W, ARM_E_TGT_MJ, ARM_ECTRL_KP_KP, ARM_ECTRL_KI_KI, ARM_BAL_CFG_K_INTRA, ARM_BAL_CFG_G_MAX, ARM_BAL_CFG_K_INTER, ARM_BAL_CFG_V0_MAX_PCT, ARM_ICTRL_KP_KP] ++
  (List.range 4).map (fun i => ARM_ICTRL_RES_ORDER i) ++
  (List.range 4).map (fun i => ARM_ICTRL_RES_KR i) ++
  [ARM_FFR_CFG_KW_PER_HZ, ARM_FFR_CFG_DB, ARM_FFR_CFG_T_100MS, ARM_BURST_CFG_FRAC_PCT, ARM_BURST_REQ_KW, ARM_BURST_REQ_MS, ARM_VSM_J_H_MS, ARM_VSM_J_D, ARM_VSM_Z_RV, ARM_VSM_Z_XV, ARM_VSM_Q_KQ, ARM_VSM_Q_TQ_MS, ARM_XFER_CFG_RAMP_MS, ARM_XFER_LIMIT_W, ARM_ID_REF_MA, ARM_IQ_REF_MA, ARM_P_REF_W, ARM_E_ARM_MJ, ARM_V_PEAK_MV] ++
  (List.range 2).map (fun i => ARM_ROLE_STAT_ROLE i) ++
  [ARM_ROLE_STAT_TERM, ARM_BURST_STAT_ACTIVE, ARM_BURST_STAT_BURST_PARTIAL, ARM_BURST_STAT_ADMIT_KW, ARM_CNT_A_TAKEOVERS, ARM_CNT_A_LATE_FRAMES, ARM_CNT_B_MISSED_FRAMES, ARM_CNT_B_GRANTS, ARM_CNT_CLR_GO]

def RIDE_CTRL_TRIP_CLR : Reg :=
  ⟨0x44, 0x008, 0, 1, .wo, 0x0, 0, 0x1⟩
def RIDE_CTRL_TRIP_NOW : Reg :=
  ⟨0x44, 0x008, 1, 1, .wo, 0x0, 0, 0x1⟩
def RIDE_STATUS_RT : Reg :=
  ⟨0x44, 0x00C, 0, 1, .ro, 0x0, 0, 0x1⟩
def RIDE_STATUS_EXC : Reg :=
  ⟨0x44, 0x00C, 1, 4, .ro, 0x0, 0, 0xf⟩
def RIDE_STATUS_MC : Reg :=
  ⟨0x44, 0x00C, 5, 1, .ro, 0x0, 0, 0x1⟩
def RIDE_STATUS_RECOVER : Reg :=
  ⟨0x44, 0x00C, 6, 1, .ro, 0x0, 0, 0x1⟩
def RIDE_STATUS_TRIPPED : Reg :=
  ⟨0x44, 0x00C, 7, 1, .ro, 0x1, 0, 0x1⟩
def RIDE_STATUS_TRIP_CAUSE : Reg :=
  ⟨0x44, 0x00C, 8, 4, .ro, 0x0, 0, 0xf⟩
def RIDE_STATUS_CURVES_OK : Reg :=
  ⟨0x44, 0x00C, 12, 1, .ro, 0x0, 0, 0x1⟩
def RIDE_STATUS_RTS_WAIT : Reg :=
  ⟨0x44, 0x00C, 13, 1, .ro, 0x0, 0, 0x1⟩
def RIDE_LV_CFG_ENTER : Reg :=
  ⟨0x44, 0x040, 0, 16, .bo, 0x0, 0, 0x4000⟩
def RIDE_LV_CFG_EXIT : Reg :=
  ⟨0x44, 0x040, 16, 16, .bo, 0x0, 0, 0xffff⟩
def RIDE_HV_CFG_ENTER : Reg :=
  ⟨0x44, 0x044, 0, 16, .bo, 0xffff, 16384, 0xffff⟩
def RIDE_HV_CFG_EXIT : Reg :=
  ⟨0x44, 0x044, 16, 16, .bo, 0xffff, 0, 0xffff⟩
def RIDE_F_CFG_LF_ENTER : Reg :=
  ⟨0x44, 0x048, 0, 16, .bo, 0xffff, 1, 0xffff⟩
def RIDE_F_CFG_HF_ENTER : Reg :=
  ⟨0x44, 0x048, 16, 16, .bo, 0xffff, 1, 0xffff⟩
def RIDE_RT_TIME_RESET_MS : Reg :=
  ⟨0x44, 0x04C, 0, 16, .bo, 0x1, 1, 0x2710⟩
def RIDE_RT_TIME_F_HYST : Reg :=
  ⟨0x44, 0x04C, 16, 16, .bo, 0x0, 0, 0x3e8⟩
def RIDE_INJ_CFG_K_RT : Reg :=
  ⟨0x44, 0x050, 0, 16, .bo, 0x0, 0, 0xa00⟩
def RIDE_INJ_CFG_DB : Reg :=
  ⟨0x44, 0x050, 16, 14, .bo, 0x0, 0, 0x2000⟩
def RIDE_INJ_CFG_Q_PRIO_RT : Reg :=
  ⟨0x44, 0x050, 30, 1, .bo, 0x0, 0, 0x1⟩
def RIDE_INJ_CFG_NEG_EN : Reg :=
  ⟨0x44, 0x050, 31, 1, .bo, 0x0, 0, 0x1⟩
def RIDE_NEG_CFG_K2 : Reg :=
  ⟨0x44, 0x054, 0, 16, .bo, 0x0, 0, 0xa00⟩
def RIDE_NEG_CFG_I2_MAX_PCT : Reg :=
  ⟨0x44, 0x054, 16, 7, .bo, 0x0, 0, 0x64⟩
def RIDE_MC_CFG_MC_LO : Reg :=
  ⟨0x44, 0x058, 0, 16, .bo, 0x0, 0, 0xffff⟩
def RIDE_MC_CFG_MC_HI : Reg :=
  ⟨0x44, 0x058, 16, 16, .bo, 0x0, 0, 0xffff⟩
def RIDE_MC_TIME_MC_HYST : Reg :=
  ⟨0x44, 0x05C, 0, 16, .bo, 0x0, 0, 0x1000⟩
def RIDE_MC_TIME_MC_RAMP_MS : Reg :=
  ⟨0x44, 0x05C, 16, 16, .bo, 0x1, 1, 0x2710⟩
def RIDE_REC_CFG_REC_RAMP_MS : Reg :=
  ⟨0x44, 0x060, 0, 16, .bo, 0x1, 1, 0x2710⟩
def RIDE_REC_CFG_RT_BURST_MS : Reg :=
  ⟨0x44, 0x060, 16, 16, .bo, 0x1, 1, 0xffff⟩
def RIDE_RTS_CFG_RTS_S : Reg :=
  ⟨0x44, 0x064, 0, 16, .bo, 0xe10, 0, 0xe10⟩
def RIDE_RTS_CFG_RTS_RAMP_S : Reg :=
  ⟨0x44, 0x064, 16, 8, .bo, 0xff, 1, 0xff⟩
def RIDE_RTS_CFG_AUTO : Reg :=
  ⟨0x44, 0x064, 24, 1, .bo, 0x0, 0, 0x1⟩
def RIDE_RTS_CFG_OUT_GPIO : Reg :=
  ⟨0x44, 0x064, 25, 4, .bo, 0x0, 0, 0xf⟩
def RIDE_RTS_CFG_OUT_EN : Reg :=
  ⟨0x44, 0x064, 29, 1, .bo, 0x0, 0, 0x1⟩
def RIDE_RTS_WIN_U_LO : Reg :=
  ⟨0x44, 0x068, 0, 16, .bo, 0xffff, 0, 0xffff⟩
def RIDE_RTS_WIN_U_HI : Reg :=
  ⟨0x44, 0x068, 16, 16, .bo, 0x0, 0, 0xffff⟩
def RIDE_RTS_FWIN_F_LO_MHZ : Reg :=
  ⟨0x44, 0x06C, 0, 16, .bo, 0x0, 0, 0xffff⟩
def RIDE_RTS_FWIN_F_HI_MHZ : Reg :=
  ⟨0x44, 0x06C, 16, 16, .bo, 0x0, 0, 0xffff⟩
def RIDE_U_EXT_U_MIN : Reg :=
  ⟨0x44, 0x070, 0, 16, .ro, 0x0, 0, 0xffff⟩
def RIDE_U_EXT_U_MAX : Reg :=
  ⟨0x44, 0x070, 16, 16, .ro, 0x0, 0, 0xffff⟩
def RIDE_EXC_T_V_MS : Reg :=
  ⟨0x44, 0x074, 0, 16, .ro, 0x0, 0, 0xffff⟩
def RIDE_EXC_T_F_MS : Reg :=
  ⟨0x44, 0x074, 16, 16, .ro, 0x0, 0, 0xffff⟩
def RIDE_IQ_RT_MA : Reg :=
  ⟨0x44, 0x078, 0, 32, .ro, 0x0, 0, 0xffffffff⟩
def RIDE_I2_RT_MA : Reg :=
  ⟨0x44, 0x07C, 0, 32, .ro, 0x0, 0, 0xffffffff⟩
def RIDE_TRIP_T_NS : Reg :=
  ⟨0x44, 0x080, 0, 64, .sn, 0x0, 0, 0xffffffffffffffff⟩
def RIDE_CNT_EXCURSIONS : Reg :=
  ⟨0x44, 0x088, 0, 16, .ro, 0x0, 0, 0xffff⟩
def RIDE_CNT_TRIPS : Reg :=
  ⟨0x44, 0x088, 16, 16, .ro, 0x0, 0, 0xffff⟩
def RIDE_CNT_CLR_GO : Reg :=
  ⟨0x44, 0x08C, 0, 1, .wo, 0x0, 0, 0x1⟩
/-- Every field of the block registers of page type `RIDE` (R301). -/
def RIDE_fields : List Reg :=
  [RIDE_CTRL_TRIP_CLR, RIDE_CTRL_TRIP_NOW, RIDE_STATUS_RT, RIDE_STATUS_EXC, RIDE_STATUS_MC, RIDE_STATUS_RECOVER, RIDE_STATUS_TRIPPED, RIDE_STATUS_TRIP_CAUSE, RIDE_STATUS_CURVES_OK, RIDE_STATUS_RTS_WAIT, RIDE_LV_CFG_ENTER, RIDE_LV_CFG_EXIT, RIDE_HV_CFG_ENTER, RIDE_HV_CFG_EXIT, RIDE_F_CFG_LF_ENTER, RIDE_F_CFG_HF_ENTER, RIDE_RT_TIME_RESET_MS, RIDE_RT_TIME_F_HYST, RIDE_INJ_CFG_K_RT, RIDE_INJ_CFG_DB] ++
  [RIDE_INJ_CFG_Q_PRIO_RT, RIDE_INJ_CFG_NEG_EN, RIDE_NEG_CFG_K2, RIDE_NEG_CFG_I2_MAX_PCT, RIDE_MC_CFG_MC_LO, RIDE_MC_CFG_MC_HI, RIDE_MC_TIME_MC_HYST, RIDE_MC_TIME_MC_RAMP_MS, RIDE_REC_CFG_REC_RAMP_MS, RIDE_REC_CFG_RT_BURST_MS, RIDE_RTS_CFG_RTS_S, RIDE_RTS_CFG_RTS_RAMP_S, RIDE_RTS_CFG_AUTO, RIDE_RTS_CFG_OUT_GPIO, RIDE_RTS_CFG_OUT_EN, RIDE_RTS_WIN_U_LO, RIDE_RTS_WIN_U_HI, RIDE_RTS_FWIN_F_LO_MHZ, RIDE_RTS_FWIN_F_HI_MHZ, RIDE_U_EXT_U_MIN] ++
  [RIDE_U_EXT_U_MAX, RIDE_EXC_T_V_MS, RIDE_EXC_T_F_MS, RIDE_IQ_RT_MA, RIDE_I2_RT_MA, RIDE_TRIP_T_NS, RIDE_CNT_EXCURSIONS, RIDE_CNT_TRIPS, RIDE_CNT_CLR_GO]

def ISLAND_CTRL_ISL_CLR : Reg :=
  ⟨0x45, 0x008, 0, 1, .wo, 0x0, 0, 0x1⟩
def ISLAND_STATUS_IND : Reg :=
  ⟨0x45, 0x00C, 0, 4, .ro, 0x0, 0, 0xf⟩
def ISLAND_STATUS_ISLANDED : Reg :=
  ⟨0x45, 0x00C, 4, 1, .ro, 0x0, 0, 0x1⟩
def ISLAND_STATUS_ACT_SUSP : Reg :=
  ⟨0x45, 0x00C, 5, 1, .ro, 0x0, 0, 0x1⟩
def ISLAND_STATUS_TT_OK : Reg :=
  ⟨0x45, 0x00C, 6, 1, .ro, 0x0, 0, 0x1⟩
def ISLAND_STATUS_BLOCKED : Reg :=
  ⟨0x45, 0x00C, 7, 1, .ro, 0x0, 0, 0x1⟩
def ISLAND_STATUS_DECIDED_BY : Reg :=
  ⟨0x45, 0x00C, 8, 5, .ro, 0x0, 0, 0x1f⟩
def ISLAND_STATUS_DECIDED : Reg :=
  ⟨0x45, 0x00C, 13, 1, .ro, 0x0, 0, 0x1⟩
def ISLAND_METHOD_ALONE : Reg :=
  ⟨0x45, 0x040, 0, 4, .bo, 0x0, 0, 0xf⟩
def ISLAND_METHOD_VOTE : Reg :=
  ⟨0x45, 0x040, 4, 4, .bo, 0x0, 0, 0xf⟩
def ISLAND_METHOD_VOTE_N : Reg :=
  ⟨0x45, 0x040, 8, 2, .bo, 0x0, 0, 0x3⟩
def ISLAND_METHOD_TT_EN : Reg :=
  ⟨0x45, 0x040, 10, 1, .bo, 0x0, 0, 0x1⟩
def ISLAND_METHOD_TT_LOSS_TRIP : Reg :=
  ⟨0x45, 0x040, 11, 1, .bo, 0x0, 0, 0x1⟩
def ISLAND_METHOD_ACTION : Reg :=
  ⟨0x45, 0x040, 12, 1, .bo, 0x0, 0, 0x1⟩
def ISLAND_ROCOF_CFG_LIMIT : Reg :=
  ⟨0x45, 0x044, 0, 16, .bo, 0xffff, 50, 0xffff⟩
def ISLAND_ROCOF_CFG_WIN_MS : Reg :=
  ⟨0x45, 0x044, 16, 8, .bo, 0x14, 20, 0xff⟩
def ISLAND_ROCOF_CFG_PERSIST_MS : Reg :=
  ⟨0x45, 0x044, 24, 8, .bo, 0x0, 0, 0xff⟩
def ISLAND_VS_CFG_DEG : Reg :=
  ⟨0x45, 0x048, 0, 16, .bo, 0xbb8, 100, 0xbb8⟩
def ISLAND_VS_CFG_VOTE_MS : Reg :=
  ⟨0x45, 0x048, 16, 16, .bo, 0xa, 10, 0x7d0⟩
def ISLAND_WIN_V_U_LO : Reg :=
  ⟨0x45, 0x04C, 0, 16, .bo, 0x0, 0, 0xffff⟩
def ISLAND_WIN_V_U_HI : Reg :=
  ⟨0x45, 0x04C, 16, 16, .bo, 0xffff, 0, 0xffff⟩
def ISLAND_WIN_F_F_LO_MHZ : Reg :=
  ⟨0x45, 0x050, 0, 16, .bo, 0xffff, 0, 0xffff⟩
def ISLAND_WIN_F_F_HI_MHZ : Reg :=
  ⟨0x45, 0x050, 16, 16, .bo, 0xffff, 0, 0xffff⟩
def ISLAND_WIN_TIME_WIN_MS : Reg :=
  ⟨0x45, 0x054, 0, 16, .bo, 0x1, 1, 0x2710⟩
def ISLAND_WIN_TIME_RT_BLOCK_MS : Reg :=
  ⟨0x45, 0x054, 16, 16, .bo, 0x0, 0, 0x2710⟩
def ISLAND_ACT_CFG_EP_MS : Reg :=
  ⟨0x45, 0x058, 0, 16, .bo, 0x64, 20, 0x3e8⟩
def ISLAND_ACT_CFG_ON_MS : Reg :=
  ⟨0x45, 0x058, 16, 16, .bo, 0x0, 0, 0xffff⟩
def ISLAND_ACT_PAT_PATTERN : Reg :=
  ⟨0x45, 0x05C, 0, 16, .bo, 0x0, 0, 0xffff⟩
def ISLAND_ACT_PAT_PHI0 : Reg :=
  ⟨0x45, 0x05C, 16, 16, .bo, 0x0, 0, 0x3e8⟩
def ISLAND_ACT_GAIN_K_SFS : Reg :=
  ⟨0x45, 0x060, 0, 16, .bo, 0x0, 0, 0x1388⟩
def ISLAND_ACT_GAIN_PHI_MAX : Reg :=
  ⟨0x45, 0x060, 16, 16, .bo, 0x0, 0, 0xbb8⟩
def ISLAND_ACT_DET_ACT_DF : Reg :=
  ⟨0x45, 0x064, 0, 16, .bo, 0xffff, 10, 0xffff⟩
def ISLAND_TT_CONN_ID : Reg :=
  ⟨0x45, 0x068, 0, 32, .bo, 0x0, 0, 0xffffffff⟩
def ISLAND_PHI_B_CDEG : Reg :=
  ⟨0x45, 0x06C, 0, 32, .ro, 0x0, 0, 0xffffffff⟩
def ISLAND_ROCOF_MHZ_S : Reg :=
  ⟨0x45, 0x070, 0, 32, .ro, 0x0, 0, 0xffffffff⟩
def ISLAND_VS_CDEG : Reg :=
  ⟨0x45, 0x074, 0, 32, .ro, 0x0, 0, 0xffffffff⟩
def ISLAND_EPOCH_INDEX : Reg :=
  ⟨0x45, 0x078, 0, 16, .ro, 0x0, 0, 0xffff⟩
def ISLAND_EPOCH_SIGN : Reg :=
  ⟨0x45, 0x078, 16, 1, .ro, 0x0, 0, 0x1⟩
def ISLAND_EPOCH_ON : Reg :=
  ⟨0x45, 0x078, 17, 1, .ro, 0x0, 0, 0x1⟩
def ISLAND_DETECT_T_NS : Reg :=
  ⟨0x45, 0x080, 0, 64, .sn, 0x0, 0, 0xffffffffffffffff⟩
def ISLAND_CNT_DECISIONS : Reg :=
  ⟨0x45, 0x088, 0, 16, .ro, 0x0, 0, 0xffff⟩
def ISLAND_CNT_TT_FRAMES : Reg :=
  ⟨0x45, 0x088, 16, 16, .ro, 0x0, 0, 0xffff⟩
def ISLAND_CNT_CLR_GO : Reg :=
  ⟨0x45, 0x08C, 0, 1, .wo, 0x0, 0, 0x1⟩
/-- Every field of the block registers of page type `ISLAND` (R302). -/
def ISLAND_fields : List Reg :=
  [ISLAND_CTRL_ISL_CLR, ISLAND_STATUS_IND, ISLAND_STATUS_ISLANDED, ISLAND_STATUS_ACT_SUSP, ISLAND_STATUS_TT_OK, ISLAND_STATUS_BLOCKED, ISLAND_STATUS_DECIDED_BY, ISLAND_STATUS_DECIDED, ISLAND_METHOD_ALONE, ISLAND_METHOD_VOTE, ISLAND_METHOD_VOTE_N, ISLAND_METHOD_TT_EN, ISLAND_METHOD_TT_LOSS_TRIP, ISLAND_METHOD_ACTION, ISLAND_ROCOF_CFG_LIMIT, ISLAND_ROCOF_CFG_WIN_MS, ISLAND_ROCOF_CFG_PERSIST_MS, ISLAND_VS_CFG_DEG, ISLAND_VS_CFG_VOTE_MS, ISLAND_WIN_V_U_LO] ++
  [ISLAND_WIN_V_U_HI, ISLAND_WIN_F_F_LO_MHZ, ISLAND_WIN_F_F_HI_MHZ, ISLAND_WIN_TIME_WIN_MS, ISLAND_WIN_TIME_RT_BLOCK_MS, ISLAND_ACT_CFG_EP_MS, ISLAND_ACT_CFG_ON_MS, ISLAND_ACT_PAT_PATTERN, ISLAND_ACT_PAT_PHI0, ISLAND_ACT_GAIN_K_SFS, ISLAND_ACT_GAIN_PHI_MAX, ISLAND_ACT_DET_ACT_DF, ISLAND_TT_CONN_ID, ISLAND_PHI_B_CDEG, ISLAND_ROCOF_MHZ_S, ISLAND_VS_CDEG, ISLAND_EPOCH_INDEX, ISLAND_EPOCH_SIGN, ISLAND_EPOCH_ON, ISLAND_DETECT_T_NS] ++
  [ISLAND_CNT_DECISIONS, ISLAND_CNT_TT_FRAMES, ISLAND_CNT_CLR_GO]

def METER_CTRL_SAVE_ADOPT : Reg :=
  ⟨0x48, 0x008, 0, 1, .wo, 0x0, 0, 0x1⟩
def METER_STATUS_RUN : Reg :=
  ⟨0x48, 0x00C, 0, 1, .ro, 0x0, 0, 0x1⟩
def METER_STATUS_RESTORED : Reg :=
  ⟨0x48, 0x00C, 1, 1, .ro, 0x0, 0, 0x1⟩
def METER_STATUS_PF_SAVED : Reg :=
  ⟨0x48, 0x00C, 2, 1, .w1c, 0x0, 0, 0x1⟩
def METER_STATUS_SAVE_FAIL : Reg :=
  ⟨0x48, 0x00C, 3, 1, .ro, 0x0, 0, 0x1⟩
def METER_STATUS_FOREIGN : Reg :=
  ⟨0x48, 0x00C, 4, 1, .ro, 0x0, 0, 0x1⟩
def METER_STATUS_WRONG_SEQ_V : Reg :=
  ⟨0x48, 0x00C, 5, 1, .ro, 0x0, 0, 0x1⟩
def METER_STATUS_WRONG_SEQ_I : Reg :=
  ⟨0x48, 0x00C, 6, 1, .ro, 0x0, 0, 0x1⟩
def METER_STATUS_MISSING_N : Reg :=
  ⟨0x48, 0x00C, 7, 1, .ro, 0x0, 0, 0x1⟩
def METER_STATUS_SUM_ERR : Reg :=
  ⟨0x48, 0x00C, 8, 1, .ro, 0x0, 0, 0x1⟩
def METER_STATUS_SRC_ERR : Reg :=
  ⟨0x48, 0x00C, 9, 1, .w1c, 0x0, 0, 0x1⟩
def METER_STATUS_ENERGY_GAP : Reg :=
  ⟨0x48, 0x00C, 10, 1, .w1c, 0x0, 0, 0x1⟩
def METER_STATUS_PULSE_OVF : Reg :=
  ⟨0x48, 0x00C, 11, 1, .w1c, 0x0, 0, 0x1⟩
def METER_STATUS_PLL_FREE : Reg :=
  ⟨0x48, 0x00C, 12, 1, .ro, 0x0, 0, 0x1⟩
def METER_CFG_EN : Reg :=
  ⟨0x48, 0x040, 0, 1, .bo, 0x0, 0, 0x1⟩
def METER_CFG_TOT_MODE : Reg :=
  ⟨0x48, 0x040, 1, 1, .bo, 0x0, 0, 0x1⟩
def METER_SRC_SAR (i : Nat) : Reg :=
  ⟨0x48, 0x044 + 4 * i, 0, 3, .bo, 0x0, 0, 0x4⟩
def METER_SRC_ENTRY (i : Nat) : Reg :=
  ⟨0x48, 0x044 + 4 * i, 4, 4, .bo, 0x0, 0, 0xf⟩
def METER_SRC_INPUT (i : Nat) : Reg :=
  ⟨0x48, 0x044 + 4 * i, 8, 6, .bo, 0x0, 0, 0x1f⟩
def METER_SRC_EN (i : Nat) : Reg :=
  ⟨0x48, 0x044 + 4 * i, 15, 1, .bo, 0x0, 0, 0x1⟩
def METER_RATIO_PRI (i : Nat) : Reg :=
  ⟨0x48, 0x060 + 4 * i, 0, 32, .bo, 0x0, 1, 0xffffffff⟩
def METER_PULSE_CFG_SEL (i : Nat) : Reg :=
  ⟨0x48, 0x080 + 4 * i, 0, 6, .bo, 0x0, 0, 0x27⟩
def METER_PULSE_CFG_EN (i : Nat) : Reg :=
  ⟨0x48, 0x080 + 4 * i, 7, 1, .bo, 0x0, 0, 0x1⟩
def METER_PULSE_MWH_MWH (i : Nat) : Reg :=
  ⟨0x48, 0x090 + 4 * i, 0, 32, .bo, 0xffffffff, 1, 0xffffffff⟩
def METER_CHK_CFG_NEU_PCT : Reg :=
  ⟨0x48, 0x0A0, 0, 8, .bo, 0xa, 1, 0x64⟩
def METER_CHK_CFG_SUM_PCT : Reg :=
  ⟨0x48, 0x0A0, 8, 8, .bo, 0x5, 1, 0x64⟩
def METER_BCAST_POI_NODE : Reg :=
  ⟨0x48, 0x0A4, 0, 14, .bo, 0x0, 0, 0x3fff⟩
def METER_BCAST_EN : Reg :=
  ⟨0x48, 0x0A4, 14, 1, .bo, 0x0, 0, 0x1⟩
def METER_VRMS_VAL (i : Nat) : Reg :=
  ⟨0x48, 0x100 + 32 * i, 0, 32, .ro, 0x0, 0, 0xffffffff⟩
def METER_IRMS_VAL (i : Nat) : Reg :=
  ⟨0x48, 0x104 + 32 * i, 0, 32, .ro, 0x0, 0, 0xffffffff⟩
def METER_V1_VAL (i : Nat) : Reg :=
  ⟨0x48, 0x108 + 32 * i, 0, 32, .ro, 0x0, 0, 0xffffffff⟩
def METER_I1_VAL (i : Nat) : Reg :=
  ⟨0x48, 0x10C + 32 * i, 0, 32, .ro, 0x0, 0, 0xffffffff⟩
def METER_P_W (i : Nat) : Reg :=
  ⟨0x48, 0x110 + 32 * i, 0, 32, .ro, 0x0, 0, 0xffffffff⟩
def METER_P1_W (i : Nat) : Reg :=
  ⟨0x48, 0x114 + 32 * i, 0, 32, .ro, 0x0, 0, 0xffffffff⟩
def METER_Q1_VAR (i : Nat) : Reg :=
  ⟨0x48, 0x118 + 32 * i, 0, 32, .ro, 0x0, 0, 0xffffffff⟩
def METER_S_VA (i : Nat) : Reg :=
  ⟨0x48, 0x11C + 32 * i, 0, 32, .ro, 0x0, 0, 0xffffffff⟩
def METER_P_TOT_W : Reg :=
  ⟨0x48, 0x160, 0, 32, .ro, 0x0, 0, 0xffffffff⟩
def METER_P1_TOT_W : Reg :=
  ⟨0x48, 0x164, 0, 32, .ro, 0x0, 0, 0xffffffff⟩
def METER_Q1_TOT_VAR : Reg :=
  ⟨0x48, 0x168, 0, 32, .ro, 0x0, 0, 0xffffffff⟩
def METER_S_TOT_VA : Reg :=
  ⟨0x48, 0x16C, 0, 32, .ro, 0x0, 0, 0xffffffff⟩
def METER_FREQ_MHZ : Reg :=
  ⟨0x48, 0x170, 0, 32, .ro, 0x0, 0, 0xffffffff⟩
def METER_CYC_N : Reg :=
  ⟨0x48, 0x174, 0, 16, .ro, 0x0, 0, 0xffff⟩
def METER_CYC_MARK : Reg :=
  ⟨0x48, 0x174, 16, 4, .ro, 0x0, 0, 0xf⟩
def METER_CYCLE_T_NS : Reg :=
  ⟨0x48, 0x178, 0, 64, .sn, 0x0, 0, 0xffffffffffffffff⟩
def METER_E_VAL (i : Nat) : Reg :=
  ⟨0x48, 0x200 + 8 * i, 0, 64, .sn, 0x0, 0, 0xffffffffffffffff⟩
def METER_CNT_A_REPAIRED : Reg :=
  ⟨0x48, 0x380, 0, 16, .ro, 0x0, 0, 0xffff⟩
def METER_CNT_A_ESTIMATED : Reg :=
  ⟨0x48, 0x380, 16, 16, .ro, 0x0, 0, 0xffff⟩
def METER_CNT_B_SAVES : Reg :=
  ⟨0x48, 0x384, 0, 16, .ro, 0x0, 0, 0xffff⟩
def METER_CNT_B_SAVE_ERRS : Reg :=
  ⟨0x48, 0x384, 16, 16, .ro, 0x0, 0, 0xffff⟩
def METER_CNT_CLR_GO : Reg :=
  ⟨0x48, 0x388, 0, 1, .wo, 0x0, 0, 0x1⟩
def METER_OWED_OWED (i : Nat) : Reg :=
  ⟨0x48, 0x390 + 4 * i, 0, 16, .ro, 0x0, 0, 0xffff⟩
def METER_OWED_OVF (i : Nat) : Reg :=
  ⟨0x48, 0x390 + 4 * i, 16, 1, .w1c, 0x0, 0, 0x1⟩
def METER_GAP_MS_MS : Reg :=
  ⟨0x48, 0x3A0, 0, 32, .ro, 0x0, 0, 0xffffffff⟩
def METER_GAP_MWH_MWH : Reg :=
  ⟨0x48, 0x3A8, 0, 64, .sn, 0x0, 0, 0xffffffffffffffff⟩
def METER_RESTORE_SEQ : Reg :=
  ⟨0x48, 0x3B0, 0, 32, .ro, 0x0, 0, 0xffffffff⟩
/-- Every field of the block registers of page type `METER` (R325). -/
def METER_fields : List Reg :=
  [METER_CTRL_SAVE_ADOPT, METER_STATUS_RUN, METER_STATUS_RESTORED, METER_STATUS_PF_SAVED, METER_STATUS_SAVE_FAIL, METER_STATUS_FOREIGN, METER_STATUS_WRONG_SEQ_V, METER_STATUS_WRONG_SEQ_I, METER_STATUS_MISSING_N, METER_STATUS_SUM_ERR, METER_STATUS_SRC_ERR, METER_STATUS_ENERGY_GAP, METER_STATUS_PULSE_OVF, METER_STATUS_PLL_FREE, METER_CFG_EN, METER_CFG_TOT_MODE] ++
  (List.range 7).map (fun i => METER_SRC_SAR i) ++
  (List.range 7).map (fun i => METER_SRC_ENTRY i) ++
  (List.range 7).map (fun i => METER_SRC_INPUT i) ++
  (List.range 7).map (fun i => METER_SRC_EN i) ++
  (List.range 7).map (fun i => METER_RATIO_PRI i) ++
  (List.range 4).map (fun i => METER_PULSE_CFG_SEL i) ++
  (List.range 4).map (fun i => METER_PULSE_CFG_EN i) ++
  (List.range 4).map (fun i => METER_PULSE_MWH_MWH i) ++
  [METER_CHK_CFG_NEU_PCT, METER_CHK_CFG_SUM_PCT, METER_BCAST_POI_NODE, METER_BCAST_EN] ++
  (List.range 3).map (fun i => METER_VRMS_VAL i) ++
  (List.range 3).map (fun i => METER_IRMS_VAL i) ++
  (List.range 3).map (fun i => METER_V1_VAL i) ++
  (List.range 3).map (fun i => METER_I1_VAL i) ++
  (List.range 3).map (fun i => METER_P_W i) ++
  (List.range 3).map (fun i => METER_P1_W i) ++
  (List.range 3).map (fun i => METER_Q1_VAR i) ++
  (List.range 3).map (fun i => METER_S_VA i) ++
  [METER_P_TOT_W, METER_P1_TOT_W, METER_Q1_TOT_VAR, METER_S_TOT_VA, METER_FREQ_MHZ, METER_CYC_N, METER_CYC_MARK, METER_CYCLE_T_NS] ++
  (List.range 40).map (fun i => METER_E_VAL i) ++
  [METER_CNT_A_REPAIRED, METER_CNT_A_ESTIMATED, METER_CNT_B_SAVES, METER_CNT_B_SAVE_ERRS, METER_CNT_CLR_GO] ++
  (List.range 4).map (fun i => METER_OWED_OWED i) ++
  (List.range 4).map (fun i => METER_OWED_OVF i) ++
  [METER_GAP_MS_MS, METER_GAP_MWH_MWH, METER_RESTORE_SEQ]

def MCORR_STATUS_CORR_OK : Reg :=
  ⟨0x49, 0x00C, 0, 1, .ro, 0x0, 0, 0x1⟩
def MCORR_SEG_SEG (j : Nat) : Reg :=
  ⟨0x49, 0x040, 4 * j, 3, .ro, 0x0, 0, 0x7⟩
/-- Every field of the block registers of page type `MCORR` (R326). -/
def MCORR_fields : List Reg :=
  [MCORR_STATUS_CORR_OK] ++
  (List.range 4).map (fun i => MCORR_SEG_SEG i)

end Sys2Proof.Machine.R
end

