-- ==== Sys2Proof/Machine/RegHost.lean ====
section
/-! DEFINITION. The block registers of the pages SAFE, SAP, GLOG, HOST, MBOX, ETH, SAVE: one definition per field,
with its page, offset, low bit, width, access code, reset value and range, as the register tables
of 15_safety.md, 16_capture_log.md, 17_host_heartwood_gateway.md give them.
An index `x` is the page instance, `i` the register of an array, `j` the field of a row. -/
namespace Sys2Proof.Machine.R

def SAFE_STATUS_SAFE_STATE : Reg :=
  ⟨0x5C, 0x00C, 0, 1, .ro, 0x0, 0, 0x1⟩
def SAFE_STATUS_SAFE_CAUSE : Reg :=
  ⟨0x5C, 0x00C, 1, 3, .ro, 0x0, 0, 0x7⟩
def SAFE_STATUS_ANY_STOP : Reg :=
  ⟨0x5C, 0x00C, 4, 1, .ro, 0x0, 0, 0x1⟩
def SAFE_IN_CFG_ANTIVAL : Reg :=
  ⟨0x5C, 0x040, 0, 12, .bo, 0x0, 0, 0xfff⟩
def SAFE_IN_CFG_FILT : Reg :=
  ⟨0x5C, 0x040, 16, 7, .bo, 0xa, 1, 0x64⟩
def SAFE_VIN_CFG_CONN (j : Nat) : Reg :=
  ⟨0x5C, 0x044, 8 * j, 4, .bo, 0x0, 0, 0xf⟩
def SAFE_VIN_CFG_FUNC (j : Nat) : Reg :=
  ⟨0x5C, 0x044, 4 + 8 * j, 3, .bo, 0x0, 0, 0x7⟩
def SAFE_VIN_CFG_EN (j : Nat) : Reg :=
  ⟨0x5C, 0x044, 7 + 8 * j, 1, .bo, 0x0, 0, 0x1⟩
def SAFE_OUT_REQ_REQ : Reg :=
  ⟨0x5C, 0x048, 0, 4, .rw, 0x0, 0, 0xf⟩
def SAFE_GATE_FREE_LINES : Reg :=
  ⟨0x5C, 0x04C, 0, 8, .bo, 0x0, 0, 0xff⟩
def SAFE_FUNC_TYPE (i : Nat) : Reg :=
  ⟨0x5C, 0x050 + 4 * i, 0, 3, .bo, 0x0, 0, 0x4⟩
def SAFE_FUNC_CAT (i : Nat) : Reg :=
  ⟨0x5C, 0x050 + 4 * i, 3, 1, .bo, 0x0, 0, 0x1⟩
def SAFE_FUNC_RESET (i : Nat) : Reg :=
  ⟨0x5C, 0x050 + 4 * i, 4, 1, .bo, 0x0, 0, 0x1⟩
def SAFE_FUNC_PAIR_A (i : Nat) : Reg :=
  ⟨0x5C, 0x050 + 4 * i, 8, 4, .bo, 0x0, 0, 0xf⟩
def SAFE_FUNC_PAIR_B (i : Nat) : Reg :=
  ⟨0x5C, 0x050 + 4 * i, 12, 4, .bo, 0x0, 0, 0xf⟩
def SAFE_FUNC_DISC (i : Nat) : Reg :=
  ⟨0x5C, 0x050 + 4 * i, 16, 8, .bo, 0xa, 1, 0xc8⟩
def SAFE_TGT_GATE (i : Nat) : Reg :=
  ⟨0x5C, 0x070 + 4 * i, 0, 8, .bo, 0x0, 0, 0xff⟩
def SAFE_TGT_SO (i : Nat) : Reg :=
  ⟨0x5C, 0x070 + 4 * i, 8, 4, .bo, 0x0, 0, 0xf⟩
def SAFE_TGT_GRID (i : Nat) : Reg :=
  ⟨0x5C, 0x070 + 4 * i, 12, 1, .bo, 0x0, 0, 0x1⟩
def SAFE_FTIME_STOP_MS (i : Nat) : Reg :=
  ⟨0x5C, 0x090 + 4 * i, 0, 14, .bo, 0xa, 10, 0x2710⟩
def SAFE_FTIME_TP_TOL (i : Nat) : Reg :=
  ⟨0x5C, 0x090 + 4 * i, 16, 5, .bo, 0x1, 1, 0x14⟩
def SAFE_FTIME_TP_EXP (i : Nat) : Reg :=
  ⟨0x5C, 0x090 + 4 * i, 24, 8, .bo, 0x0, 0, 0xff⟩
def SAFE_OUTCFG_TP_WIDTH (i : Nat) : Reg :=
  ⟨0x5C, 0x0B0 + 4 * i, 0, 9, .bo, 0x64, 50, 0x1f4⟩
def SAFE_OUTCFG_TP_EN (i : Nat) : Reg :=
  ⟨0x5C, 0x0B0 + 4 * i, 9, 1, .bo, 0x0, 0, 0x1⟩
def SAFE_OUTCFG_TP_PERIOD (i : Nat) : Reg :=
  ⟨0x5C, 0x0B0 + 4 * i, 10, 12, .bo, 0x3c, 1, 0xe10⟩
def SAFE_OUTCFG_RB_US (i : Nat) : Reg :=
  ⟨0x5C, 0x0B0 + 4 * i, 23, 9, .bo, 0x32, 5, 0x190⟩
def SAFE_FSTATE_STATE (j : Nat) : Reg :=
  ⟨0x5C, 0x0C0, 4 * j, 3, .ro, 0x0, 0, 0x7⟩
def SAFE_IN_STAT_ON : Reg :=
  ⟨0x5C, 0x0C4, 0, 16, .ro, 0x0, 0, 0xffff⟩
def SAFE_IN_STAT_DISAGREE : Reg :=
  ⟨0x5C, 0x0C4, 16, 16, .ro, 0x0, 0, 0xffff⟩
def SAFE_OUT_STAT_ON : Reg :=
  ⟨0x5C, 0x0C8, 0, 4, .ro, 0x0, 0, 0xf⟩
def SAFE_OUT_STAT_FAULT : Reg :=
  ⟨0x5C, 0x0C8, 4, 4, .ro, 0x0, 0, 0xf⟩
def SAFE_OUT_STAT_TESTING : Reg :=
  ⟨0x5C, 0x0C8, 8, 4, .ro, 0x0, 0, 0xf⟩
def SAFE_OUT_STAT_RB_A : Reg :=
  ⟨0x5C, 0x0C8, 12, 4, .ro, 0x0, 0, 0xf⟩
def SAFE_OUT_STAT_RB_B : Reg :=
  ⟨0x5C, 0x0C8, 16, 4, .ro, 0x0, 0, 0xf⟩
def SAFE_DIVERGE_FUNC : Reg :=
  ⟨0x5C, 0x0CC, 0, 8, .w1c, 0x0, 0, 0xff⟩
def SAFE_RST_STAT_WIDTH_MS : Reg :=
  ⟨0x5C, 0x0D0, 0, 12, .ro, 0x0, 0, 0xfff⟩
def SAFE_RST_STAT_ACCEPTED : Reg :=
  ⟨0x5C, 0x0D0, 12, 1, .w1c, 0x0, 0, 0x1⟩
def SAFE_RST_STAT_SHORT : Reg :=
  ⟨0x5C, 0x0D0, 13, 1, .w1c, 0x0, 0, 0x1⟩
def SAFE_RST_STAT_LONG : Reg :=
  ⟨0x5C, 0x0D0, 14, 1, .w1c, 0x0, 0, 0x1⟩
def SAFE_CNT_A_STOPS : Reg :=
  ⟨0x5C, 0x0D4, 0, 16, .ro, 0x0, 0, 0xffff⟩
def SAFE_CNT_A_FAULTS : Reg :=
  ⟨0x5C, 0x0D4, 16, 16, .ro, 0x0, 0, 0xffff⟩
def SAFE_CNT_B_TESTS : Reg :=
  ⟨0x5C, 0x0D8, 0, 16, .ro, 0x0, 0, 0xffff⟩
def SAFE_CNT_B_TEST_FAILS : Reg :=
  ⟨0x5C, 0x0D8, 16, 16, .ro, 0x0, 0, 0xffff⟩
def SAFE_CNT_CLR_GO : Reg :=
  ⟨0x5C, 0x0DC, 0, 1, .wo, 0x0, 0, 0x1⟩
def SAFE_STOP_T_NS : Reg :=
  ⟨0x5C, 0x0E0, 0, 64, .sn, 0x0, 0, 0xffffffffffffffff⟩
/-- Every field of the block registers of page type `SAFE` (R420). -/
def SAFE_fields : List Reg :=
  [SAFE_STATUS_SAFE_STATE, SAFE_STATUS_SAFE_CAUSE, SAFE_STATUS_ANY_STOP, SAFE_IN_CFG_ANTIVAL, SAFE_IN_CFG_FILT] ++
  (List.range 4).map (fun i => SAFE_VIN_CFG_CONN i) ++
  (List.range 4).map (fun i => SAFE_VIN_CFG_FUNC i) ++
  (List.range 4).map (fun i => SAFE_VIN_CFG_EN i) ++
  [SAFE_OUT_REQ_REQ, SAFE_GATE_FREE_LINES] ++
  (List.range 8).map (fun i => SAFE_FUNC_TYPE i) ++
  (List.range 8).map (fun i => SAFE_FUNC_CAT i) ++
  (List.range 8).map (fun i => SAFE_FUNC_RESET i) ++
  (List.range 8).map (fun i => SAFE_FUNC_PAIR_A i) ++
  (List.range 8).map (fun i => SAFE_FUNC_PAIR_B i) ++
  (List.range 8).map (fun i => SAFE_FUNC_DISC i) ++
  (List.range 8).map (fun i => SAFE_TGT_GATE i) ++
  (List.range 8).map (fun i => SAFE_TGT_SO i) ++
  (List.range 8).map (fun i => SAFE_TGT_GRID i) ++
  (List.range 8).map (fun i => SAFE_FTIME_STOP_MS i) ++
  (List.range 8).map (fun i => SAFE_FTIME_TP_TOL i) ++
  (List.range 8).map (fun i => SAFE_FTIME_TP_EXP i) ++
  (List.range 4).map (fun i => SAFE_OUTCFG_TP_WIDTH i) ++
  (List.range 4).map (fun i => SAFE_OUTCFG_TP_EN i) ++
  (List.range 4).map (fun i => SAFE_OUTCFG_TP_PERIOD i) ++
  (List.range 4).map (fun i => SAFE_OUTCFG_RB_US i) ++
  (List.range 8).map (fun i => SAFE_FSTATE_STATE i) ++
  [SAFE_IN_STAT_ON, SAFE_IN_STAT_DISAGREE, SAFE_OUT_STAT_ON, SAFE_OUT_STAT_FAULT, SAFE_OUT_STAT_TESTING, SAFE_OUT_STAT_RB_A, SAFE_OUT_STAT_RB_B, SAFE_DIVERGE_FUNC, SAFE_RST_STAT_WIDTH_MS, SAFE_RST_STAT_ACCEPTED, SAFE_RST_STAT_SHORT, SAFE_RST_STAT_LONG, SAFE_CNT_A_STOPS, SAFE_CNT_A_FAULTS, SAFE_CNT_B_TESTS, SAFE_CNT_B_TEST_FAILS, SAFE_CNT_CLR_GO, SAFE_STOP_T_NS]

def SAP_CTRL_ARM (x : Nat) : Reg :=
  ⟨0x60 + x, 0x008, 0, 1, .wo, 0x0, 0, 0x1⟩
def SAP_CTRL_STOP (x : Nat) : Reg :=
  ⟨0x60 + x, 0x008, 1, 1, .wo, 0x0, 0, 0x1⟩
def SAP_CTRL_TRIG_NOW (x : Nat) : Reg :=
  ⟨0x60 + x, 0x008, 2, 1, .wo, 0x0, 0, 0x1⟩
def SAP_STATUS_STATE (x : Nat) : Reg :=
  ⟨0x60 + x, 0x00C, 0, 3, .ro, 0x0, 0, 0x7⟩
def SAP_STATUS_WRAPPED (x : Nat) : Reg :=
  ⟨0x60 + x, 0x00C, 3, 1, .ro, 0x0, 0, 0x1⟩
def SAP_STATUS_HOST_STOP (x : Nat) : Reg :=
  ⟨0x60 + x, 0x00C, 4, 1, .ro, 0x0, 0, 0x1⟩
def SAP_STATUS_ARM_ERR (x : Nat) : Reg :=
  ⟨0x60 + x, 0x00C, 5, 1, .w1c, 0x0, 0, 0x1⟩
def SAP_CFG_BUF_BASE (x : Nat) : Reg :=
  ⟨0x60 + x, 0x040, 0, 6, .rwSapIdle, 0x0, 0, 0x3f⟩
def SAP_CFG_BUF_SIZE (x : Nat) : Reg :=
  ⟨0x60 + x, 0x040, 6, 7, .rwSapIdle, 0x1, 1, 0x40⟩
def SAP_CFG_NCH (x : Nat) : Reg :=
  ⟨0x60 + x, 0x040, 13, 4, .rwSapIdle, 0x1, 1, 0x8⟩
def SAP_CFG_STAMP (x : Nat) : Reg :=
  ⟨0x60 + x, 0x040, 17, 1, .rwSapIdle, 0x1, 0, 0x1⟩
def SAP_CFG_CLK_SRC (x : Nat) : Reg :=
  ⟨0x60 + x, 0x040, 18, 2, .rwSapIdle, 0x0, 0, 0x3⟩
def SAP_CFG_CLK_INST (x : Nat) : Reg :=
  ⟨0x60 + x, 0x040, 20, 3, .rwSapIdle, 0x0, 0, 0x7⟩
def SAP_CFG_MASK_MODE (x : Nat) : Reg :=
  ⟨0x60 + x, 0x040, 23, 2, .rwSapIdle, 0x0, 0, 0x2⟩
def SAP_TAP_LO_TAP (x j : Nat) : Reg :=
  ⟨0x60 + x, 0x044, 8 * j, 8, .rwSapIdle, 0x0, 0, 0xff⟩
def SAP_TAP_HI_TAP (x j : Nat) : Reg :=
  ⟨0x60 + x, 0x048, 8 * j, 8, .rwSapIdle, 0x0, 0, 0xff⟩
def SAP_RED_FACTOR (x : Nat) : Reg :=
  ⟨0x60 + x, 0x04C, 0, 16, .rwSapIdle, 0x1, 1, 0xffff⟩
def SAP_PRE_SETS (x : Nat) : Reg :=
  ⟨0x60 + x, 0x050, 0, 24, .rwSapIdle, 0x0, 0, 0xffffff⟩
def SAP_POST_SETS (x : Nat) : Reg :=
  ⟨0x60 + x, 0x054, 0, 24, .rwSapIdle, 0x0, 0, 0xffffff⟩
def SAP_TRIG_CFG_SRC (x : Nat) : Reg :=
  ⟨0x60 + x, 0x058, 0, 4, .rwSapIdle, 0x0, 0, 0x8⟩
def SAP_TRIG_CFG_CH (x : Nat) : Reg :=
  ⟨0x60 + x, 0x058, 4, 3, .rwSapIdle, 0x0, 0, 0x7⟩
def SAP_TRIG_CFG_EDGE (x : Nat) : Reg :=
  ⟨0x60 + x, 0x058, 7, 2, .rwSapIdle, 0x1, 1, 0x3⟩
def SAP_TRIG_CFG_CMP_M (x : Nat) : Reg :=
  ⟨0x60 + x, 0x058, 9, 4, .rwSapIdle, 0x0, 0, 0xb⟩
def SAP_TRIG_CFG_CELL (x : Nat) : Reg :=
  ⟨0x60 + x, 0x058, 13, 3, .rwSapIdle, 0x0, 0, 0x7⟩
def SAP_TRIG_CFG_XUNIT (x : Nat) : Reg :=
  ⟨0x60 + x, 0x058, 16, 3, .rwSapIdle, 0x0, 0, 0x7⟩
def SAP_TRIG_CFG_LOG_SEV (x : Nat) : Reg :=
  ⟨0x60 + x, 0x058, 19, 2, .rwSapIdle, 0x2, 0, 0x2⟩
def SAP_LEVEL_VAL (x : Nat) : Reg :=
  ⟨0x60 + x, 0x05C, 0, 32, .rwSapIdle, 0x0, 0, 0xffffffff⟩
def SAP_HYST_VAL (x : Nat) : Reg :=
  ⟨0x60 + x, 0x060, 0, 32, .rwSapIdle, 0x0, 0, 0x7fffffff⟩
def SAP_TMR_PERIOD_NS (x : Nat) : Reg :=
  ⟨0x60 + x, 0x064, 0, 24, .rwSapIdle, 0x5dc, 1500, 0xffffff⟩
def SAP_TMR_PHASE_NS (x : Nat) : Reg :=
  ⟨0x60 + x, 0x068, 0, 24, .rwSapIdle, 0x0, 0, 0xffffff⟩
def SAP_SET_COUNT_SETS (x : Nat) : Reg :=
  ⟨0x60 + x, 0x080, 0, 64, .sn, 0x0, 0, 0xffffffffffffffff⟩
def SAP_TRIG_SET_INDEX (x : Nat) : Reg :=
  ⟨0x60 + x, 0x088, 0, 64, .sn, 0x0, 0, 0xffffffffffffffff⟩
def SAP_TRIG_T_NS (x : Nat) : Reg :=
  ⟨0x60 + x, 0x090, 0, 64, .sn, 0x0, 0, 0xffffffffffffffff⟩
def SAP_SET_T_NS (x : Nat) : Reg :=
  ⟨0x60 + x, 0x098, 0, 64, .sn, 0x0, 0, 0xffffffffffffffff⟩
def SAP_VIOL_SET_INDEX (x : Nat) : Reg :=
  ⟨0x60 + x, 0x0A0, 0, 64, .sn, 0x0, 0, 0xffffffffffffffff⟩
def SAP_TRIG_INFO_FRAC (x : Nat) : Reg :=
  ⟨0x60 + x, 0x0A8, 0, 8, .ro, 0x0, 0, 0xff⟩
def SAP_TRIG_INFO_CAUSE (x : Nat) : Reg :=
  ⟨0x60 + x, 0x0A8, 8, 4, .ro, 0x0, 0, 0xf⟩
def SAP_TRIG_INFO_VIOL_CH (x : Nat) : Reg :=
  ⟨0x60 + x, 0x0A8, 12, 3, .ro, 0x0, 0, 0x7⟩
def SAP_CAPACITY_SETS (x : Nat) : Reg :=
  ⟨0x60 + x, 0x0AC, 0, 24, .ro, 0x0, 0, 0xffffff⟩
def SAP_CNT_SKIPPED (x : Nat) : Reg :=
  ⟨0x60 + x, 0x0B0, 0, 16, .ro, 0x0, 0, 0xffff⟩
def SAP_CNT_IGNORED (x : Nat) : Reg :=
  ⟨0x60 + x, 0x0B0, 16, 8, .ro, 0x0, 0, 0xff⟩
def SAP_CNT_VIOLATIONS (x : Nat) : Reg :=
  ⟨0x60 + x, 0x0B0, 24, 8, .ro, 0x0, 0, 0xff⟩
def SAP_CNT_CLR_GO (x : Nat) : Reg :=
  ⟨0x60 + x, 0x0B4, 0, 1, .wo, 0x0, 0, 0x1⟩
/-- Every field of the block registers of page type `SAP` (R444). -/
def SAP_fields (x : Nat) : List Reg :=
  [SAP_CTRL_ARM x, SAP_CTRL_STOP x, SAP_CTRL_TRIG_NOW x, SAP_STATUS_STATE x, SAP_STATUS_WRAPPED x, SAP_STATUS_HOST_STOP x, SAP_STATUS_ARM_ERR x, SAP_CFG_BUF_BASE x, SAP_CFG_BUF_SIZE x, SAP_CFG_NCH x, SAP_CFG_STAMP x, SAP_CFG_CLK_SRC x, SAP_CFG_CLK_INST x, SAP_CFG_MASK_MODE x] ++
  (List.range 4).map (fun i => SAP_TAP_LO_TAP x i) ++
  (List.range 4).map (fun i => SAP_TAP_HI_TAP x i) ++
  [SAP_RED_FACTOR x, SAP_PRE_SETS x, SAP_POST_SETS x, SAP_TRIG_CFG_SRC x, SAP_TRIG_CFG_CH x, SAP_TRIG_CFG_EDGE x, SAP_TRIG_CFG_CMP_M x, SAP_TRIG_CFG_CELL x, SAP_TRIG_CFG_XUNIT x, SAP_TRIG_CFG_LOG_SEV x, SAP_LEVEL_VAL x, SAP_HYST_VAL x, SAP_TMR_PERIOD_NS x, SAP_TMR_PHASE_NS x, SAP_SET_COUNT_SETS x, SAP_TRIG_SET_INDEX x, SAP_TRIG_T_NS x, SAP_SET_T_NS x, SAP_VIOL_SET_INDEX x, SAP_TRIG_INFO_FRAC x] ++
  [SAP_TRIG_INFO_CAUSE x, SAP_TRIG_INFO_VIOL_CH x, SAP_CAPACITY_SETS x, SAP_CNT_SKIPPED x, SAP_CNT_IGNORED x, SAP_CNT_VIOLATIONS x, SAP_CNT_CLR_GO x]

def GLOG_CTRL_UNFREEZE : Reg :=
  ⟨0x68, 0x008, 0, 1, .wo, 0x0, 0, 0x1⟩
def GLOG_STATUS_FROZEN : Reg :=
  ⟨0x68, 0x00C, 0, 1, .ro, 0x0, 0, 0x1⟩
def GLOG_STATUS_WRAPPED : Reg :=
  ⟨0x68, 0x00C, 1, 1, .ro, 0x0, 0, 0x1⟩
def GLOG_STATUS_LOST_SEEN : Reg :=
  ⟨0x68, 0x00C, 2, 1, .w1c, 0x0, 0, 0x1⟩
def GLOG_CFG_FREEZE_EN : Reg :=
  ⟨0x68, 0x040, 0, 1, .rw, 0x1, 0, 0x1⟩
def GLOG_CFG_KEEP : Reg :=
  ⟨0x68, 0x040, 16, 13, .rw, 0x400, 0, 0x1fff⟩
def GLOG_NEWEST_SLOT : Reg :=
  ⟨0x68, 0x044, 0, 14, .ro, 0x0, 0, 0x3fff⟩
def GLOG_NEWEST_SEQ : Reg :=
  ⟨0x68, 0x044, 16, 16, .ro, 0x0, 0, 0xffff⟩
def GLOG_FREEZE_SLOT : Reg :=
  ⟨0x68, 0x048, 0, 14, .ro, 0x0, 0, 0x3fff⟩
def GLOG_FREEZE_SEQ : Reg :=
  ⟨0x68, 0x048, 16, 16, .ro, 0x0, 0, 0xffff⟩
def GLOG_CNT_LOST : Reg :=
  ⟨0x68, 0x04C, 0, 16, .ro, 0x0, 0, 0xffff⟩
def GLOG_CNT_CRIT : Reg :=
  ⟨0x68, 0x04C, 16, 16, .ro, 0x0, 0, 0xffff⟩
def GLOG_CNT_CLR_GO : Reg :=
  ⟨0x68, 0x050, 0, 1, .wo, 0x0, 0, 0x1⟩
/-- Every field of the block registers of page type `GLOG` (R445). -/
def GLOG_fields : List Reg :=
  [GLOG_CTRL_UNFREEZE, GLOG_STATUS_FROZEN, GLOG_STATUS_WRAPPED, GLOG_STATUS_LOST_SEEN, GLOG_CFG_FREEZE_EN, GLOG_CFG_KEEP, GLOG_NEWEST_SLOT, GLOG_NEWEST_SEQ, GLOG_FREEZE_SLOT, GLOG_FREEZE_SEQ, GLOG_CNT_LOST, GLOG_CNT_CRIT, GLOG_CNT_CLR_GO]

def HOST_SPI_CFG_CRC_REQ : Reg :=
  ⟨0x70, 0x040, 0, 1, .rw, 0x0, 0, 0x1⟩
def HOST_SPI_STAT_CRC_ERRS : Reg :=
  ⟨0x70, 0x044, 0, 16, .ro, 0x0, 0, 0xffff⟩
def HOST_SPI_STAT_ABORTS : Reg :=
  ⟨0x70, 0x044, 16, 8, .ro, 0x0, 0, 0xff⟩
def HOST_SPI_STAT_REFUSED : Reg :=
  ⟨0x70, 0x044, 24, 8, .ro, 0x0, 0, 0xff⟩
def HOST_LAST_ERR_ADDR : Reg :=
  ⟨0x70, 0x048, 0, 32, .ro, 0x0, 0, 0xffffffff⟩
def HOST_CNT_CLR_GO : Reg :=
  ⟨0x70, 0x04C, 0, 1, .wo, 0x0, 0, 0x1⟩
def HOST_IRQ_SUM_PAGE (i : Nat) : Reg :=
  ⟨0x70, 0x200 + 4 * i, 0, 32, .ro, 0x0, 0, 0xffffffff⟩
def HOST_IRQ_CFG_EN : Reg :=
  ⟨0x70, 0x220, 0, 1, .rw, 0x0, 0, 0x1⟩
def HOST_IRQ_FIRST_PAGE : Reg :=
  ⟨0x70, 0x224, 0, 8, .ro, 0x0, 0, 0xff⟩
def HOST_IRQ_FIRST_NONE : Reg :=
  ⟨0x70, 0x224, 31, 1, .ro, 0x1, 0, 0x1⟩
/-- Every field of the block registers of page type `HOST` (R468). -/
def HOST_fields : List Reg :=
  [HOST_SPI_CFG_CRC_REQ, HOST_SPI_STAT_CRC_ERRS, HOST_SPI_STAT_ABORTS, HOST_SPI_STAT_REFUSED, HOST_LAST_ERR_ADDR, HOST_CNT_CLR_GO] ++
  (List.range 8).map (fun i => HOST_IRQ_SUM_PAGE i) ++
  [HOST_IRQ_CFG_EN, HOST_IRQ_FIRST_PAGE, HOST_IRQ_FIRST_NONE]

def MBOX_REQ_SERVICE : Reg :=
  ⟨0x71, 0x040, 0, 8, .rw, 0x0, 0, 0xff⟩
def MBOX_REQ_TAG : Reg :=
  ⟨0x71, 0x040, 8, 8, .rw, 0x0, 0, 0xff⟩
def MBOX_REQ_GO : Reg :=
  ⟨0x71, 0x040, 16, 1, .w1s, 0x0, 0, 0x1⟩
def MBOX_ARG_ARG (i : Nat) : Reg :=
  ⟨0x71, 0x044 + 4 * i, 0, 32, .rw, 0x0, 0, 0xffffffff⟩
def MBOX_RSP_CODE : Reg :=
  ⟨0x71, 0x070, 0, 8, .ro, 0x0, 0, 0xff⟩
def MBOX_RSP_TAG : Reg :=
  ⟨0x71, 0x070, 8, 8, .ro, 0x0, 0, 0xff⟩
def MBOX_RSP_DONE : Reg :=
  ⟨0x71, 0x070, 16, 1, .w1c, 0x0, 0, 0x1⟩
def MBOX_RSP_PENDING : Reg :=
  ⟨0x71, 0x070, 17, 1, .ro, 0x0, 0, 0x1⟩
def MBOX_RSP_COUNT : Reg :=
  ⟨0x71, 0x070, 18, 2, .ro, 0x0, 0, 0x3⟩
def MBOX_RSP_DATA_DATA (i : Nat) : Reg :=
  ⟨0x71, 0x080 + 4 * i, 0, 32, .ro, 0x0, 0, 0xffffffff⟩
def MBOX_STAT_ACCEPTED : Reg :=
  ⟨0x71, 0x0C0, 0, 16, .ro, 0x0, 0, 0xffff⟩
def MBOX_STAT_BUSY_COUNT : Reg :=
  ⟨0x71, 0x0C0, 16, 16, .ro, 0x0, 0, 0xffff⟩
def MBOX_SLICE_USE0_SAFETY : Reg :=
  ⟨0x71, 0x0C4, 0, 16, .ro, 0x0, 0, 0xffff⟩
def MBOX_SLICE_USE0_GYLEN : Reg :=
  ⟨0x71, 0x0C4, 16, 16, .ro, 0x0, 0, 0xffff⟩
def MBOX_SLICE_USE1_HOUSE : Reg :=
  ⟨0x71, 0x0C8, 0, 16, .ro, 0x0, 0, 0xffff⟩
def MBOX_SLICE_USE1_MAIL : Reg :=
  ⟨0x71, 0x0C8, 16, 16, .ro, 0x0, 0, 0xffff⟩
def MBOX_CNT_CLR_GO : Reg :=
  ⟨0x71, 0x0CC, 0, 1, .wo, 0x0, 0, 0x1⟩
def MBOX_DL_LIMIT_SAFETY_LIMIT : Reg :=
  ⟨0x71, 0x0D0, 0, 24, .ro, 0xc8, 0, 0xffffff⟩
def MBOX_DL_LIMIT_SAFETY_MISS_MAX : Reg :=
  ⟨0x71, 0x0D0, 24, 8, .ro, 0x1, 0, 0xff⟩
def MBOX_DL_COUNT_SAFETY_TOTAL : Reg :=
  ⟨0x71, 0x0D4, 0, 16, .ro, 0x0, 0, 0xffff⟩
def MBOX_DL_COUNT_SAFETY_RUN : Reg :=
  ⟨0x71, 0x0D4, 16, 8, .ro, 0x0, 0, 0xff⟩
def MBOX_DL_COUNT_SAFETY_CLEAR : Reg :=
  ⟨0x71, 0x0D4, 31, 1, .wo, 0x0, 0, 0x1⟩
def MBOX_DL_LIMIT_GYLEN_LIMIT : Reg :=
  ⟨0x71, 0x0D8, 0, 24, .ro, 0x190, 0, 0xffffff⟩
def MBOX_DL_LIMIT_GYLEN_MISS_MAX : Reg :=
  ⟨0x71, 0x0D8, 24, 8, .ro, 0x0, 0, 0xff⟩
def MBOX_DL_COUNT_GYLEN_TOTAL : Reg :=
  ⟨0x71, 0x0DC, 0, 16, .ro, 0x0, 0, 0xffff⟩
def MBOX_DL_COUNT_GYLEN_RUN : Reg :=
  ⟨0x71, 0x0DC, 16, 8, .ro, 0x0, 0, 0xff⟩
def MBOX_DL_COUNT_GYLEN_CLEAR : Reg :=
  ⟨0x71, 0x0DC, 31, 1, .wo, 0x0, 0, 0x1⟩
def MBOX_DL_LIMIT_HOUSE_LIMIT : Reg :=
  ⟨0x71, 0x0E0, 0, 24, .ro, 0x28a, 0, 0xffffff⟩
def MBOX_DL_LIMIT_HOUSE_MISS_MAX : Reg :=
  ⟨0x71, 0x0E0, 24, 8, .ro, 0x0, 0, 0xff⟩
def MBOX_DL_COUNT_HOUSE_TOTAL : Reg :=
  ⟨0x71, 0x0E4, 0, 16, .ro, 0x0, 0, 0xffff⟩
def MBOX_DL_COUNT_HOUSE_RUN : Reg :=
  ⟨0x71, 0x0E4, 16, 8, .ro, 0x0, 0, 0xff⟩
def MBOX_DL_COUNT_HOUSE_CLEAR : Reg :=
  ⟨0x71, 0x0E4, 31, 1, .wo, 0x0, 0, 0x1⟩
def MBOX_DL_LIMIT_MAIL_LIMIT : Reg :=
  ⟨0x71, 0x0E8, 0, 24, .ro, 0x3b6, 0, 0xffffff⟩
def MBOX_DL_LIMIT_MAIL_MISS_MAX : Reg :=
  ⟨0x71, 0x0E8, 24, 8, .ro, 0x0, 0, 0xff⟩
def MBOX_DL_COUNT_MAIL_TOTAL : Reg :=
  ⟨0x71, 0x0EC, 0, 16, .ro, 0x0, 0, 0xffff⟩
def MBOX_DL_COUNT_MAIL_RUN : Reg :=
  ⟨0x71, 0x0EC, 16, 8, .ro, 0x0, 0, 0xff⟩
def MBOX_DL_COUNT_MAIL_CLEAR : Reg :=
  ⟨0x71, 0x0EC, 31, 1, .wo, 0x0, 0, 0x1⟩
/-- Every field of the block registers of page type `MBOX` (R469). -/
def MBOX_fields : List Reg :=
  [MBOX_REQ_SERVICE, MBOX_REQ_TAG, MBOX_REQ_GO] ++
  (List.range 9).map (fun i => MBOX_ARG_ARG i) ++
  [MBOX_RSP_CODE, MBOX_RSP_TAG, MBOX_RSP_DONE, MBOX_RSP_PENDING, MBOX_RSP_COUNT] ++
  (List.range 16).map (fun i => MBOX_RSP_DATA_DATA i) ++
  [MBOX_STAT_ACCEPTED, MBOX_STAT_BUSY_COUNT, MBOX_SLICE_USE0_SAFETY, MBOX_SLICE_USE0_GYLEN, MBOX_SLICE_USE1_HOUSE, MBOX_SLICE_USE1_MAIL, MBOX_CNT_CLR_GO, MBOX_DL_LIMIT_SAFETY_LIMIT, MBOX_DL_LIMIT_SAFETY_MISS_MAX, MBOX_DL_COUNT_SAFETY_TOTAL, MBOX_DL_COUNT_SAFETY_RUN, MBOX_DL_COUNT_SAFETY_CLEAR, MBOX_DL_LIMIT_GYLEN_LIMIT, MBOX_DL_LIMIT_GYLEN_MISS_MAX, MBOX_DL_COUNT_GYLEN_TOTAL, MBOX_DL_COUNT_GYLEN_RUN, MBOX_DL_COUNT_GYLEN_CLEAR, MBOX_DL_LIMIT_HOUSE_LIMIT, MBOX_DL_LIMIT_HOUSE_MISS_MAX, MBOX_DL_COUNT_HOUSE_TOTAL] ++
  [MBOX_DL_COUNT_HOUSE_RUN, MBOX_DL_COUNT_HOUSE_CLEAR, MBOX_DL_LIMIT_MAIL_LIMIT, MBOX_DL_LIMIT_MAIL_MISS_MAX, MBOX_DL_COUNT_MAIL_TOTAL, MBOX_DL_COUNT_MAIL_RUN, MBOX_DL_COUNT_MAIL_CLEAR]

def ETH_STATUS_LINK : Reg :=
  ⟨0x72, 0x00C, 0, 1, .ro, 0x0, 0, 0x1⟩
def ETH_STATUS_PTP_LOCKED : Reg :=
  ⟨0x72, 0x00C, 1, 1, .ro, 0x0, 0, 0x1⟩
def ETH_STATUS_SOURCE : Reg :=
  ⟨0x72, 0x00C, 2, 1, .ro, 0x0, 0, 0x1⟩
def ETH_CFG_EN : Reg :=
  ⟨0x72, 0x040, 0, 1, .bo, 0x0, 0, 0x1⟩
def ETH_CFG_PTP_EN : Reg :=
  ⟨0x72, 0x040, 1, 1, .bo, 0x0, 0, 0x1⟩
def ETH_CFG_TUN_EN : Reg :=
  ⟨0x72, 0x040, 2, 1, .bo, 0x0, 0, 0x1⟩
def ETH_CFG_DOMAIN : Reg :=
  ⟨0x72, 0x040, 8, 8, .bo, 0x0, 0, 0xff⟩
def ETH_MAC_LO_MAC : Reg :=
  ⟨0x72, 0x044, 0, 32, .bo, 0x0, 0, 0xffffffff⟩
def ETH_MAC_HI_MAC : Reg :=
  ⟨0x72, 0x048, 0, 16, .bo, 0x0, 0, 0xffff⟩
def ETH_PEER_MAC_LO_MAC : Reg :=
  ⟨0x72, 0x04C, 0, 32, .bo, 0x0, 0, 0xffffffff⟩
def ETH_PEER_MAC_HI_MAC : Reg :=
  ⟨0x72, 0x050, 0, 16, .bo, 0x0, 0, 0xffff⟩
def ETH_TUN_RANGE_LO : Reg :=
  ⟨0x72, 0x054, 0, 14, .bo, 0x0, 0, 0x3fff⟩
def ETH_TUN_RANGE_HI : Reg :=
  ⟨0x72, 0x054, 16, 14, .bo, 0x0, 0, 0x3fff⟩
def ETH_PHY_DLY_TX_NS : Reg :=
  ⟨0x72, 0x058, 0, 16, .bo, 0x0, 0, 0xffff⟩
def ETH_PHY_DLY_RX_NS : Reg :=
  ⟨0x72, 0x058, 16, 16, .bo, 0x0, 0, 0xffff⟩
def ETH_PTP_CFG_LOSS_S : Reg :=
  ⟨0x72, 0x05C, 0, 8, .bo, 0x3, 2, 0xff⟩
def ETH_EPOCH_LO_NS : Reg :=
  ⟨0x72, 0x060, 0, 32, .bo, 0x0, 0, 0xffffffff⟩
def ETH_EPOCH_HI_NS : Reg :=
  ⟨0x72, 0x064, 0, 32, .bo, 0x0, 0, 0xffffffff⟩
def ETH_OFFSET_NS : Reg :=
  ⟨0x72, 0x068, 0, 32, .ro, 0x0, 0, 0xffffffff⟩
def ETH_CNT_TUN_TX : Reg :=
  ⟨0x72, 0x06C, 0, 16, .ro, 0x0, 0, 0xffff⟩
def ETH_CNT_TUN_RX : Reg :=
  ⟨0x72, 0x06C, 16, 16, .ro, 0x0, 0, 0xffff⟩
def ETH_CNT_ERR_BAD : Reg :=
  ⟨0x72, 0x070, 0, 16, .ro, 0x0, 0, 0xffff⟩
def ETH_CNT_ERR_FULL : Reg :=
  ⟨0x72, 0x070, 16, 16, .ro, 0x0, 0, 0xffff⟩
def ETH_CNT_CLR_GO : Reg :=
  ⟨0x72, 0x074, 0, 1, .wo, 0x0, 0, 0x1⟩
def ETH_MDIO_CMD_DATA : Reg :=
  ⟨0x72, 0x078, 0, 16, .rw, 0x0, 0, 0xffff⟩
def ETH_MDIO_CMD_REG : Reg :=
  ⟨0x72, 0x078, 16, 5, .rw, 0x0, 0, 0x1f⟩
def ETH_MDIO_CMD_PHY : Reg :=
  ⟨0x72, 0x078, 21, 5, .rw, 0x0, 0, 0x1f⟩
def ETH_MDIO_CMD_WRITE : Reg :=
  ⟨0x72, 0x078, 26, 1, .rw, 0x0, 0, 0x1⟩
def ETH_MDIO_CMD_GO : Reg :=
  ⟨0x72, 0x078, 27, 1, .w1s, 0x0, 0, 0x1⟩
/-- Every field of the block registers of page type `ETH` (R470). -/
def ETH_fields : List Reg :=
  [ETH_STATUS_LINK, ETH_STATUS_PTP_LOCKED, ETH_STATUS_SOURCE, ETH_CFG_EN, ETH_CFG_PTP_EN, ETH_CFG_TUN_EN, ETH_CFG_DOMAIN, ETH_MAC_LO_MAC, ETH_MAC_HI_MAC, ETH_PEER_MAC_LO_MAC, ETH_PEER_MAC_HI_MAC, ETH_TUN_RANGE_LO, ETH_TUN_RANGE_HI, ETH_PHY_DLY_TX_NS, ETH_PHY_DLY_RX_NS, ETH_PTP_CFG_LOSS_S, ETH_EPOCH_LO_NS, ETH_EPOCH_HI_NS, ETH_OFFSET_NS, ETH_CNT_TUN_TX] ++
  [ETH_CNT_TUN_RX, ETH_CNT_ERR_BAD, ETH_CNT_ERR_FULL, ETH_CNT_CLR_GO, ETH_MDIO_CMD_DATA, ETH_MDIO_CMD_REG, ETH_MDIO_CMD_PHY, ETH_MDIO_CMD_WRITE, ETH_MDIO_CMD_GO]

def SAVE_CFG_DIV : Reg :=
  ⟨0x73, 0x040, 0, 4, .bo, 0x2, 2, 0x3⟩
def SAVE_CFG_ADDR3 : Reg :=
  ⟨0x73, 0x040, 4, 1, .bo, 0x0, 0, 0x1⟩
def SAVE_HOST_ADDR_ADDR : Reg :=
  ⟨0x73, 0x044, 0, 24, .rw, 0x0, 0, 0xffffff⟩
def SAVE_HOST_ADDR_CS : Reg :=
  ⟨0x73, 0x044, 24, 1, .rw, 0x0, 0, 0x1⟩
def SAVE_HOST_CTRL_COUNT : Reg :=
  ⟨0x73, 0x048, 0, 6, .rw, 0x0, 0, 0x3f⟩
def SAVE_HOST_CTRL_GO : Reg :=
  ⟨0x73, 0x048, 8, 1, .w1s, 0x0, 0, 0x1⟩
def SAVE_HOST_CTRL_BUSY : Reg :=
  ⟨0x73, 0x048, 9, 1, .ro, 0x0, 0, 0x1⟩
def SAVE_HOST_CTRL_ABORTED : Reg :=
  ⟨0x73, 0x048, 10, 1, .w1c, 0x0, 0, 0x1⟩
def SAVE_HOST_DATA_DATA (i : Nat) : Reg :=
  ⟨0x73, 0x050 + 4 * i, 0, 32, .ro, 0x0, 0, 0xffffffff⟩
/-- Every field of the block registers of page type `SAVE` (R471). -/
def SAVE_fields : List Reg :=
  [SAVE_CFG_DIV, SAVE_CFG_ADDR3, SAVE_HOST_ADDR_ADDR, SAVE_HOST_ADDR_CS, SAVE_HOST_CTRL_COUNT, SAVE_HOST_CTRL_GO, SAVE_HOST_CTRL_BUSY, SAVE_HOST_CTRL_ABORTED] ++
  (List.range 16).map (fun i => SAVE_HOST_DATA_DATA i)

end Sys2Proof.Machine.R
end

