-- ==== Sys2Proof/Machine/RegKernel.lean ====
section
/-! DEFINITION. The block registers of the pages KE, CELL: one definition per field,
with its page, offset, low bit, width, access code, reset value and range, as the register tables
of 08_kernel_engines.md, 09_cell_power_mppt.md give them.
An index `x` is the page instance, `i` the register of an array, `j` the field of a row. -/
namespace Sys2Proof.Machine.R

def KE_CTRL_EN (x : Nat) : Reg :=
  ⟨0x28 + x, 0x008, 0, 1, .rw, 0x0, 0, 0x1⟩
def KE_CTRL_TEST (x : Nat) : Reg :=
  ⟨0x28 + x, 0x008, 1, 1, .w1s, 0x0, 0, 0x1⟩
def KE_STATUS_MISS (x : Nat) : Reg :=
  ⟨0x28 + x, 0x00C, 0, 1, .w1c, 0x0, 0, 0x1⟩
def KE_STATUS_FB_DEGRADED (x : Nat) : Reg :=
  ⟨0x28 + x, 0x00C, 1, 1, .ro, 0x0, 0, 0x1⟩
def KE_STATUS_INT_WRAP (x : Nat) : Reg :=
  ⟨0x28 + x, 0x00C, 2, 1, .w1c, 0x0, 0, 0x1⟩
def KE_STATUS_ACC_SAT (x : Nat) : Reg :=
  ⟨0x28 + x, 0x00C, 3, 1, .w1c, 0x0, 0, 0x1⟩
def KE_STATUS_REF_LOST (x : Nat) : Reg :=
  ⟨0x28 + x, 0x00C, 4, 1, .ro, 0x0, 0, 0x1⟩
def KE_STATUS_XFER_REFUSED (x : Nat) : Reg :=
  ⟨0x28 + x, 0x00C, 5, 1, .w1c, 0x0, 0, 0x1⟩
def KE_STATUS_LIMITED (x : Nat) : Reg :=
  ⟨0x28 + x, 0x00C, 6, 1, .ro, 0x0, 0, 0x1⟩
def KE_STATUS_NORM_SAT (x : Nat) : Reg :=
  ⟨0x28 + x, 0x00C, 7, 1, .w1c, 0x0, 0, 0x1⟩
def KE_STATUS_TEST_PASS (x : Nat) : Reg :=
  ⟨0x28 + x, 0x00C, 8, 1, .ro, 0x0, 0, 0x1⟩
def KE_STATUS_TEST_FAIL (x : Nat) : Reg :=
  ⟨0x28 + x, 0x00C, 9, 1, .ro, 0x0, 0, 0x1⟩
def KE_STATUS_KFAULT (x : Nat) : Reg :=
  ⟨0x28 + x, 0x00C, 10, 1, .ro, 0x0, 0, 0x1⟩
def KE_MODE_HOST_SCHED (x : Nat) : Reg :=
  ⟨0x28 + x, 0x040, 0, 3, .sh, 0x0, 0, 0x7⟩
def KE_MODE_HOST_SEL (x : Nat) : Reg :=
  ⟨0x28 + x, 0x040, 3, 1, .sh, 0x0, 0, 0x1⟩
def KE_MODE_MAP0 (x : Nat) : Reg :=
  ⟨0x28 + x, 0x040, 4, 3, .sh, 0x0, 0, 0x7⟩
def KE_MODE_MAP1 (x : Nat) : Reg :=
  ⟨0x28 + x, 0x040, 8, 3, .sh, 0x1, 0, 0x7⟩
def KE_MODE_MAP2 (x : Nat) : Reg :=
  ⟨0x28 + x, 0x040, 12, 3, .sh, 0x2, 0, 0x7⟩
def KE_MODE_MAP3 (x : Nat) : Reg :=
  ⟨0x28 + x, 0x040, 16, 3, .sh, 0x3, 0, 0x7⟩
def KE_XFER_CFG_RAMP (x : Nat) : Reg :=
  ⟨0x28 + x, 0x044, 0, 16, .sh, 0x40, 1, 0xffff⟩
def KE_XFER_LIMIT_LIMIT (x : Nat) : Reg :=
  ⟨0x28 + x, 0x048, 0, 32, .sh, 0x0, 0, 0x7fffffff⟩
def KE_HOLD_CFG_HOLDOVER_N (x : Nat) : Reg :=
  ⟨0x28 + x, 0x04C, 0, 6, .rwKeOff, 0x0, 0, 0x3f⟩
def KE_HOLD_CFG_REF_HOLD_N (x : Nat) : Reg :=
  ⟨0x28 + x, 0x04C, 8, 8, .rwKeOff, 0x4, 1, 0xff⟩
def KE_YSRC_SLOT (x j : Nat) : Reg :=
  ⟨0x28 + x, 0x050, 4 * j, 4, .rwKeOff, 0x0, 0, 0x8⟩
def KE_RSRC_SLOT (x j : Nat) : Reg :=
  ⟨0x28 + x, 0x054, 4 * j, 4, .rwKeOff, 0x0, 0, 0x9⟩
def KE_WSRC_SLOT (x j : Nat) : Reg :=
  ⟨0x28 + x, 0x058, 8 * j, 5, .rwKeOff, 0x0, 0, 0xd⟩
def KE_NORM_CFG_SLOT (x : Nat) : Reg :=
  ⟨0x28 + x, 0x05C, 0, 3, .sh, 0x0, 0, 0x7⟩
def KE_NORM_CFG_EN (x : Nat) : Reg :=
  ⟨0x28 + x, 0x05C, 4, 4, .sh, 0x0, 0, 0xf⟩
def KE_NORM_GAIN_GAIN (x : Nat) : Reg :=
  ⟨0x28 + x, 0x060, 0, 32, .sh, 0x10000000, 0, 0xffffffff⟩
def KE_NORM_MIN_MIN (x : Nat) : Reg :=
  ⟨0x28 + x, 0x064, 0, 32, .shc, 0x10000000, 0, 0xffffffff⟩
def KE_OUT_MAP_SEL (x j : Nat) : Reg :=
  ⟨0x28 + x, 0x068, 8 * j, 2, .sh, 0x0, 0, 0x3⟩
def KE_OUT_MAP_NEG (x j : Nat) : Reg :=
  ⟨0x28 + x, 0x068, 2 + 8 * j, 1, .sh, 0x0, 0, 0x1⟩
def KE_OUT_MAP_EN (x j : Nat) : Reg :=
  ⟨0x28 + x, 0x068, 3 + 8 * j, 1, .sh, 0x0, 0, 0x1⟩
def KE_ACTIVE_REGION (x : Nat) : Reg :=
  ⟨0x28 + x, 0x06C, 0, 4, .ro, 0x0, 0, 0xf⟩
def KE_ACTIVE_SCHED (x : Nat) : Reg :=
  ⟨0x28 + x, 0x06C, 4, 3, .ro, 0x0, 0, 0x7⟩
def KE_ACTIVE_BANK (x : Nat) : Reg :=
  ⟨0x28 + x, 0x06C, 8, 5, .ro, 0x0, 0, 0x1f⟩
def KE_ACTIVE_MODE_CODE (x : Nat) : Reg :=
  ⟨0x28 + x, 0x06C, 16, 2, .ro, 0x0, 0, 0x3⟩
def KE_ACTIVE_RAMPING (x : Nat) : Reg :=
  ⟨0x28 + x, 0x06C, 18, 1, .ro, 0x0, 0, 0x1⟩
def KE_ACTIVE_HOLD (x : Nat) : Reg :=
  ⟨0x28 + x, 0x06C, 24, 6, .ro, 0x0, 0, 0x3f⟩
def KE_ACTIVE_STATE (x : Nat) : Reg :=
  ⟨0x28 + x, 0x06C, 30, 2, .ro, 0x0, 0, 0x3⟩
def KE_DL_LIMIT_LIMIT (x : Nat) : Reg :=
  ⟨0x28 + x, 0x070, 0, 24, .rw, 0xa28, 40, 0xffff⟩
def KE_DL_LIMIT_MISS_MAX (x : Nat) : Reg :=
  ⟨0x28 + x, 0x070, 24, 8, .ro, 0x3, 0, 0xff⟩
def KE_DL_COUNT_TOTAL (x : Nat) : Reg :=
  ⟨0x28 + x, 0x074, 0, 16, .ro, 0x0, 0, 0xffff⟩
def KE_DL_COUNT_RUN (x : Nat) : Reg :=
  ⟨0x28 + x, 0x074, 16, 8, .ro, 0x0, 0, 0xff⟩
def KE_DL_COUNT_CLEAR (x : Nat) : Reg :=
  ⟨0x28 + x, 0x074, 31, 1, .wo, 0x0, 0, 0x1⟩
def KE_SEQ_COUNT (x : Nat) : Reg :=
  ⟨0x28 + x, 0x078, 0, 16, .ro, 0x0, 0, 0xffff⟩
def KE_FAULT_CAUSE (x : Nat) : Reg :=
  ⟨0x28 + x, 0x07C, 0, 4, .ro, 0x0, 0, 0xf⟩
def KE_FAULT_WRAP_STATE (x : Nat) : Reg :=
  ⟨0x28 + x, 0x07C, 8, 4, .ro, 0x0, 0, 0xf⟩
def KE_ULIM_U_MIN (x i : Nat) : Reg :=
  ⟨0x28 + x, 0x080 + 4 * i, 0, 16, .shc, 0x8ccd, 0, 0xffff⟩
def KE_ULIM_U_MAX (x i : Nat) : Reg :=
  ⟨0x28 + x, 0x080 + 4 * i, 16, 16, .shc, 0x7333, 0, 0xffff⟩
def KE_START_V_V (x i : Nat) : Reg :=
  ⟨0x28 + x, 0x090 + 4 * i, 0, 32, .rw, 0x0, 0, 0xffffffff⟩
def KE_HOST_REF_REF (x i : Nat) : Reg :=
  ⟨0x28 + x, 0x0A0 + 4 * i, 0, 32, .sh, 0x0, 0, 0xffffffff⟩
def KE_OUT_INDEX (x i : Nat) : Reg :=
  ⟨0x28 + x, 0x0B0 + 4 * i, 0, 16, .ro, 0x0, 0, 0xffff⟩
def KE_OUT_LIMITED (x i : Nat) : Reg :=
  ⟨0x28 + x, 0x0B0 + 4 * i, 16, 1, .ro, 0x0, 0, 0x1⟩
def KE_OUT_NORM_SAT (x i : Nat) : Reg :=
  ⟨0x28 + x, 0x0B0 + 4 * i, 17, 1, .ro, 0x0, 0, 0x1⟩
def KE_LIM_CNT_COUNT (x i : Nat) : Reg :=
  ⟨0x28 + x, 0x0C0 + 4 * i, 0, 16, .ro, 0x0, 0, 0xffff⟩
def KE_CNT_A_DROPPED (x : Nat) : Reg :=
  ⟨0x28 + x, 0x0D0, 0, 16, .ro, 0x0, 0, 0xffff⟩
def KE_CNT_A_HOLDOVERS (x : Nat) : Reg :=
  ⟨0x28 + x, 0x0D0, 16, 16, .ro, 0x0, 0, 0xffff⟩
def KE_CNT_B_XFERS (x : Nat) : Reg :=
  ⟨0x28 + x, 0x0D4, 0, 16, .ro, 0x0, 0, 0xffff⟩
def KE_CNT_B_REGIONS (x : Nat) : Reg :=
  ⟨0x28 + x, 0x0D4, 16, 16, .ro, 0x0, 0, 0xffff⟩
def KE_CNT_C_NORM_SAT (x : Nat) : Reg :=
  ⟨0x28 + x, 0x0D8, 0, 16, .ro, 0x0, 0, 0xffff⟩
def KE_CNT_C_ACC_SAT (x : Nat) : Reg :=
  ⟨0x28 + x, 0x0D8, 16, 16, .ro, 0x0, 0, 0xffff⟩
def KE_CNT_CLR_GO (x : Nat) : Reg :=
  ⟨0x28 + x, 0x0DC, 0, 1, .wo, 0x0, 0, 0x1⟩
def KE_STATE_VALUE (x i : Nat) : Reg :=
  ⟨0x28 + x, 0x100 + 8 * i, 0, 64, .sn, 0x0, 0, 0xffffffffffffffff⟩
/-- Every field of the block registers of page type `KE` (R217). -/
def KE_fields (x : Nat) : List Reg :=
  [KE_CTRL_EN x, KE_CTRL_TEST x, KE_STATUS_MISS x, KE_STATUS_FB_DEGRADED x, KE_STATUS_INT_WRAP x, KE_STATUS_ACC_SAT x, KE_STATUS_REF_LOST x, KE_STATUS_XFER_REFUSED x, KE_STATUS_LIMITED x, KE_STATUS_NORM_SAT x, KE_STATUS_TEST_PASS x, KE_STATUS_TEST_FAIL x, KE_STATUS_KFAULT x, KE_MODE_HOST_SCHED x, KE_MODE_HOST_SEL x, KE_MODE_MAP0 x, KE_MODE_MAP1 x, KE_MODE_MAP2 x, KE_MODE_MAP3 x, KE_XFER_CFG_RAMP x] ++
  [KE_XFER_LIMIT_LIMIT x, KE_HOLD_CFG_HOLDOVER_N x, KE_HOLD_CFG_REF_HOLD_N x] ++
  (List.range 8).map (fun i => KE_YSRC_SLOT x i) ++
  (List.range 4).map (fun i => KE_RSRC_SLOT x i) ++
  (List.range 4).map (fun i => KE_WSRC_SLOT x i) ++
  [KE_NORM_CFG_SLOT x, KE_NORM_CFG_EN x, KE_NORM_GAIN_GAIN x, KE_NORM_MIN_MIN x] ++
  (List.range 4).map (fun i => KE_OUT_MAP_SEL x i) ++
  (List.range 4).map (fun i => KE_OUT_MAP_NEG x i) ++
  (List.range 4).map (fun i => KE_OUT_MAP_EN x i) ++
  [KE_ACTIVE_REGION x, KE_ACTIVE_SCHED x, KE_ACTIVE_BANK x, KE_ACTIVE_MODE_CODE x, KE_ACTIVE_RAMPING x, KE_ACTIVE_HOLD x, KE_ACTIVE_STATE x, KE_DL_LIMIT_LIMIT x, KE_DL_LIMIT_MISS_MAX x, KE_DL_COUNT_TOTAL x, KE_DL_COUNT_RUN x, KE_DL_COUNT_CLEAR x, KE_SEQ_COUNT x, KE_FAULT_CAUSE x, KE_FAULT_WRAP_STATE x] ++
  (List.range 4).map (fun i => KE_ULIM_U_MIN x i) ++
  (List.range 4).map (fun i => KE_ULIM_U_MAX x i) ++
  (List.range 4).map (fun i => KE_START_V_V x i) ++
  (List.range 4).map (fun i => KE_HOST_REF_REF x i) ++
  (List.range 4).map (fun i => KE_OUT_INDEX x i) ++
  (List.range 4).map (fun i => KE_OUT_LIMITED x i) ++
  (List.range 4).map (fun i => KE_OUT_NORM_SAT x i) ++
  (List.range 4).map (fun i => KE_LIM_CNT_COUNT x i) ++
  [KE_CNT_A_DROPPED x, KE_CNT_A_HOLDOVERS x, KE_CNT_B_XFERS x, KE_CNT_B_REGIONS x, KE_CNT_C_NORM_SAT x, KE_CNT_C_ACC_SAT x, KE_CNT_CLR_GO x] ++
  (List.range 12).map (fun i => KE_STATE_VALUE x i)

def CELL_CTRL_JOIN (x : Nat) : Reg :=
  ⟨0x30 + x, 0x008, 0, 1, .w1s, 0x0, 0, 0x1⟩
def CELL_CTRL_LEAVE (x : Nat) : Reg :=
  ⟨0x30 + x, 0x008, 1, 1, .w1s, 0x0, 0, 0x1⟩
def CELL_CTRL_SHELL_NOW (x : Nat) : Reg :=
  ⟨0x30 + x, 0x008, 2, 1, .w1s, 0x0, 0, 0x1⟩
def CELL_CTRL_SCAN_NOW (x : Nat) : Reg :=
  ⟨0x30 + x, 0x008, 3, 1, .w1s, 0x0, 0, 0x1⟩
def CELL_STATUS_STATE (x : Nat) : Reg :=
  ⟨0x30 + x, 0x00C, 0, 3, .ro, 0x0, 0, 0x7⟩
def CELL_STATUS_CURT (x : Nat) : Reg :=
  ⟨0x30 + x, 0x00C, 3, 1, .ro, 0x0, 0, 0x1⟩
def CELL_STATUS_SHADED (x : Nat) : Reg :=
  ⟨0x30 + x, 0x00C, 4, 1, .ro, 0x0, 0, 0x1⟩
def CELL_STATUS_SHELL_REQ (x : Nat) : Reg :=
  ⟨0x30 + x, 0x00C, 5, 1, .ro, 0x0, 0, 0x1⟩
def CELL_STATUS_SCANNING (x : Nat) : Reg :=
  ⟨0x30 + x, 0x00C, 6, 1, .ro, 0x0, 0, 0x1⟩
def CELL_STATUS_REFUSE (x : Nat) : Reg :=
  ⟨0x30 + x, 0x00C, 8, 4, .ro, 0x0, 0, 0xf⟩
def CELL_STATUS_LEAVE_CAUSE (x : Nat) : Reg :=
  ⟨0x30 + x, 0x00C, 12, 4, .ro, 0x0, 0, 0xf⟩
def CELL_CFG_SOURCE (x : Nat) : Reg :=
  ⟨0x30 + x, 0x040, 0, 2, .rwHusk, 0x0, 0, 0x2⟩
def CELL_CFG_AUTO_JOIN (x : Nat) : Reg :=
  ⟨0x30 + x, 0x040, 4, 1, .rw, 0x0, 0, 0x1⟩
def CELL_CFG_SHELL_EN (x : Nat) : Reg :=
  ⟨0x30 + x, 0x040, 5, 1, .rw, 0x1, 0, 0x1⟩
def CELL_CFG_SCAN_EN (x : Nat) : Reg :=
  ⟨0x30 + x, 0x040, 6, 1, .rw, 0x1, 0, 0x1⟩
def CELL_CFG_PO_EN (x : Nat) : Reg :=
  ⟨0x30 + x, 0x040, 7, 1, .rw, 0x1, 0, 0x1⟩
def CELL_CFG_P_SRC (x : Nat) : Reg :=
  ⟨0x30 + x, 0x040, 8, 1, .rw, 0x0, 0, 0x1⟩
def CELL_JOIN_CFG_V_JOIN (x : Nat) : Reg :=
  ⟨0x30 + x, 0x044, 0, 16, .rwHusk, 0x384, 100, 0x708⟩
def CELL_JOIN_CFG_V_LEAVE (x : Nat) : Reg :=
  ⟨0x30 + x, 0x044, 16, 16, .rwHusk, 0x258, 50, 0x6a4⟩
def CELL_JOIN_TIME_JOIN_MS (x : Nat) : Reg :=
  ⟨0x30 + x, 0x048, 0, 8, .rwHusk, 0x64, 1, 0xff⟩
def CELL_JOIN_TIME_LEAVE_US (x : Nat) : Reg :=
  ⟨0x30 + x, 0x048, 8, 14, .rwHusk, 0x64, 10, 0x2710⟩
def CELL_JOIN_TIME_RAMP_MS (x : Nat) : Reg :=
  ⟨0x30 + x, 0x048, 24, 8, .rwHusk, 0x5, 1, 0xff⟩
def CELL_DC_CAP_UF (x : Nat) : Reg :=
  ⟨0x30 + x, 0x04C, 0, 20, .rwHusk, 0x0, 0, 0xf4240⟩
def CELL_SHELL_CFG_PERIOD_S (x : Nat) : Reg :=
  ⟨0x30 + x, 0x050, 0, 12, .rw, 0x3c, 10, 0xe10⟩
def CELL_SHELL_CFG_MAX_MS (x : Nat) : Reg :=
  ⟨0x30 + x, 0x050, 16, 8, .rw, 0x32, 5, 0xff⟩
def CELL_SHELL_CFG_GAP_MS (x : Nat) : Reg :=
  ⟨0x30 + x, 0x050, 24, 8, .rw, 0xa, 1, 0xff⟩
def CELL_SETTLE_CFG_BLOCK_MS (x : Nat) : Reg :=
  ⟨0x30 + x, 0x054, 0, 4, .rw, 0x1, 1, 0xf⟩
def CELL_SETTLE_CFG_DV (x : Nat) : Reg :=
  ⟨0x30 + x, 0x054, 8, 16, .rw, 0x7d0, 1, 0xffff⟩
def CELL_SETTLE_CFG_CLIP_V (x : Nat) : Reg :=
  ⟨0x30 + x, 0x054, 24, 8, .rw, 0x14, 1, 0xff⟩
def CELL_FRAC_FRAC (x : Nat) : Reg :=
  ⟨0x30 + x, 0x058, 0, 16, .rw, 0xc7ae, 32768, 0xf333⟩
def CELL_PO_CFG_PERIOD_MS (x : Nat) : Reg :=
  ⟨0x30 + x, 0x05C, 0, 10, .rw, 0x64, 10, 0x3e8⟩
def CELL_PO_CFG_STEP_V (x : Nat) : Reg :=
  ⟨0x30 + x, 0x05C, 16, 8, .rw, 0x5, 1, 0xff⟩
def CELL_PO_CFG_SPAN_PCT (x : Nat) : Reg :=
  ⟨0x30 + x, 0x05C, 24, 8, .rw, 0xa, 1, 0x32⟩
def CELL_SCAN_CFG_PERIOD_S (x : Nat) : Reg :=
  ⟨0x30 + x, 0x060, 0, 12, .rw, 0x384, 60, 0xe10⟩
def CELL_SCAN_CFG_STEPS (x : Nat) : Reg :=
  ⟨0x30 + x, 0x060, 12, 6, .rw, 0x20, 8, 0x3f⟩
def CELL_SCAN_CFG_DWELL_MS (x : Nat) : Reg :=
  ⟨0x30 + x, 0x060, 18, 8, .rw, 0x14, 5, 0xff⟩
def CELL_SCAN_CFG_LO_PCT (x : Nat) : Reg :=
  ⟨0x30 + x, 0x060, 26, 6, .rw, 0x28, 20, 0x3c⟩
def CELL_VLOOP_KP_KP (x : Nat) : Reg :=
  ⟨0x30 + x, 0x064, 0, 32, .rw, 0x800000, 0, 0xffffffff⟩
def CELL_VLOOP_KI_KI (x : Nat) : Reg :=
  ⟨0x30 + x, 0x068, 0, 32, .rw, 0x4189, 0, 0xffffffff⟩
def CELL_P_LIM_HOST_W (x : Nat) : Reg :=
  ⟨0x30 + x, 0x070, 0, 32, .rw, 0xffffffff, 0, 0xffffffff⟩
def CELL_P_CMD_HOST_W (x : Nat) : Reg :=
  ⟨0x30 + x, 0x074, 0, 32, .rw, 0x0, 0, 0xffffffff⟩
def CELL_CURT_CFG_ON_MS (x : Nat) : Reg :=
  ⟨0x30 + x, 0x078, 0, 8, .rw, 0x14, 1, 0xff⟩
def CELL_CURT_CFG_OFF_MS (x : Nat) : Reg :=
  ⟨0x30 + x, 0x078, 8, 8, .rw, 0xc8, 1, 0xff⟩
def CELL_CURT_CFG_SCAN_GAIN_PCT (x : Nat) : Reg :=
  ⟨0x30 + x, 0x078, 16, 8, .rw, 0x3, 1, 0x32⟩
def CELL_V_OC_MV (x : Nat) : Reg :=
  ⟨0x30 + x, 0x080, 0, 32, .ro, 0x0, 0, 0xffffffff⟩
def CELL_V_REF_MV (x : Nat) : Reg :=
  ⟨0x30 + x, 0x084, 0, 32, .ro, 0x0, 0, 0xffffffff⟩
def CELL_I_REF_MA (x : Nat) : Reg :=
  ⟨0x30 + x, 0x088, 0, 32, .ro, 0x0, 0, 0xffffffff⟩
def CELL_P_MEAS_W (x : Nat) : Reg :=
  ⟨0x30 + x, 0x08C, 0, 32, .ro, 0x0, 0, 0xffffffff⟩
def CELL_E_USABLE_MJ (x : Nat) : Reg :=
  ⟨0x30 + x, 0x090, 0, 32, .ro, 0x0, 0, 0xffffffff⟩
def CELL_P_AVAIL_W (x : Nat) : Reg :=
  ⟨0x30 + x, 0x094, 0, 32, .ro, 0x0, 0, 0xffffffff⟩
def CELL_P_LIM_ARM_W (x : Nat) : Reg :=
  ⟨0x30 + x, 0x098, 0, 32, .ro, 0xffffffff, 0, 0xffffffff⟩
def CELL_V_BEST_MV (x : Nat) : Reg :=
  ⟨0x30 + x, 0x09C, 0, 32, .ro, 0x0, 0, 0xffffffff⟩
def CELL_V_OC_SCAN_MV (x : Nat) : Reg :=
  ⟨0x30 + x, 0x0A0, 0, 32, .ro, 0x0, 0, 0xffffffff⟩
def CELL_SHELL_RESULT_CODE (x : Nat) : Reg :=
  ⟨0x30 + x, 0x0A4, 0, 4, .ro, 0x0, 0, 0xf⟩
def CELL_SHELL_RESULT_OUT_US (x : Nat) : Reg :=
  ⟨0x30 + x, 0x0A4, 16, 16, .ro, 0x0, 0, 0xffff⟩
def CELL_SHELL_T_NS (x : Nat) : Reg :=
  ⟨0x30 + x, 0x0A8, 0, 64, .sn, 0x0, 0, 0xffffffffffffffff⟩
def CELL_CNT_A_SHELLS (x : Nat) : Reg :=
  ⟨0x30 + x, 0x0B0, 0, 16, .ro, 0x0, 0, 0xffff⟩
def CELL_CNT_A_MISSED (x : Nat) : Reg :=
  ⟨0x30 + x, 0x0B0, 16, 16, .ro, 0x0, 0, 0xffff⟩
def CELL_CNT_B_SCANS (x : Nat) : Reg :=
  ⟨0x30 + x, 0x0B4, 0, 16, .ro, 0x0, 0, 0xffff⟩
def CELL_CNT_B_LOW_LEAVES (x : Nat) : Reg :=
  ⟨0x30 + x, 0x0B4, 16, 16, .ro, 0x0, 0, 0xffff⟩
def CELL_CNT_CLR_GO (x : Nat) : Reg :=
  ⟨0x30 + x, 0x0B8, 0, 1, .wo, 0x0, 0, 0x1⟩
/-- Every field of the block registers of page type `CELL` (R240). -/
def CELL_fields (x : Nat) : List Reg :=
  [CELL_CTRL_JOIN x, CELL_CTRL_LEAVE x, CELL_CTRL_SHELL_NOW x, CELL_CTRL_SCAN_NOW x, CELL_STATUS_STATE x, CELL_STATUS_CURT x, CELL_STATUS_SHADED x, CELL_STATUS_SHELL_REQ x, CELL_STATUS_SCANNING x, CELL_STATUS_REFUSE x, CELL_STATUS_LEAVE_CAUSE x, CELL_CFG_SOURCE x, CELL_CFG_AUTO_JOIN x, CELL_CFG_SHELL_EN x, CELL_CFG_SCAN_EN x, CELL_CFG_PO_EN x, CELL_CFG_P_SRC x, CELL_JOIN_CFG_V_JOIN x, CELL_JOIN_CFG_V_LEAVE x, CELL_JOIN_TIME_JOIN_MS x] ++
  [CELL_JOIN_TIME_LEAVE_US x, CELL_JOIN_TIME_RAMP_MS x, CELL_DC_CAP_UF x, CELL_SHELL_CFG_PERIOD_S x, CELL_SHELL_CFG_MAX_MS x, CELL_SHELL_CFG_GAP_MS x, CELL_SETTLE_CFG_BLOCK_MS x, CELL_SETTLE_CFG_DV x, CELL_SETTLE_CFG_CLIP_V x, CELL_FRAC_FRAC x, CELL_PO_CFG_PERIOD_MS x, CELL_PO_CFG_STEP_V x, CELL_PO_CFG_SPAN_PCT x, CELL_SCAN_CFG_PERIOD_S x, CELL_SCAN_CFG_STEPS x, CELL_SCAN_CFG_DWELL_MS x, CELL_SCAN_CFG_LO_PCT x, CELL_VLOOP_KP_KP x, CELL_VLOOP_KI_KI x, CELL_P_LIM_HOST_W x] ++
  [CELL_P_CMD_HOST_W x, CELL_CURT_CFG_ON_MS x, CELL_CURT_CFG_OFF_MS x, CELL_CURT_CFG_SCAN_GAIN_PCT x, CELL_V_OC_MV x, CELL_V_REF_MV x, CELL_I_REF_MA x, CELL_P_MEAS_W x, CELL_E_USABLE_MJ x, CELL_P_AVAIL_W x, CELL_P_LIM_ARM_W x, CELL_V_BEST_MV x, CELL_V_OC_SCAN_MV x, CELL_SHELL_RESULT_CODE x, CELL_SHELL_RESULT_OUT_US x, CELL_SHELL_T_NS x, CELL_CNT_A_SHELLS x, CELL_CNT_A_MISSED x, CELL_CNT_B_SCANS x, CELL_CNT_B_LOW_LEAVES x] ++
  [CELL_CNT_CLR_GO x]

end Sys2Proof.Machine.R
end

