-- ==== Sys2Proof/Machine/RegRing.lean ====
section
/-! DEFINITION. The block registers of the pages VODOR, VPORT, GYLEN, POD: one definition per field,
with its page, offset, low bit, width, access code, reset value and range, as the register tables
of 13_vodor_ring.md, 14_pod_queues.md, 15_safety.md give them.
An index `x` is the page instance, `i` the register of an array, `j` the field of a row. -/
namespace Sys2Proof.Machine.R

def VODOR_STATUS_REPEATER : Reg :=
  ⟨0x50, 0x00C, 0, 1, .ro, 0x0, 0, 0x1⟩
def VODOR_STATUS_WRAP_E : Reg :=
  ⟨0x50, 0x00C, 1, 1, .ro, 0x0, 0, 0x1⟩
def VODOR_STATUS_WRAP_W : Reg :=
  ⟨0x50, 0x00C, 2, 1, .ro, 0x0, 0, 0x1⟩
def VODOR_STATUS_RING_OK : Reg :=
  ⟨0x50, 0x00C, 3, 1, .ro, 0x0, 0, 0x1⟩
def VODOR_STATUS_ADDR_CONFLICT : Reg :=
  ⟨0x50, 0x00C, 4, 1, .w1c, 0x0, 0, 0x1⟩
def VODOR_STATUS_REP_CAUSE : Reg :=
  ⟨0x50, 0x00C, 5, 2, .ro, 0x0, 0, 0x3⟩
def VODOR_NODE_CFG_ADDR : Reg :=
  ⟨0x50, 0x040, 0, 14, .bo, 0x0, 0, 0x2710⟩
def VODOR_RING_CFG_ADDR_MAX : Reg :=
  ⟨0x50, 0x044, 0, 14, .bo, 0x2710, 1, 0x2710⟩
def VODOR_RING_CFG_TIME_PRIO : Reg :=
  ⟨0x50, 0x044, 16, 4, .bo, 0xf, 0, 0xf⟩
def VODOR_RING_CFG_VER_EN : Reg :=
  ⟨0x50, 0x044, 24, 3, .bo, 0x7, 0, 0x7⟩
def VODOR_GROUP_GADDR (i : Nat) : Reg :=
  ⟨0x50, 0x048 + 4 * i, 0, 14, .bo, 0x0, 0, 0x3fff⟩
def VODOR_GROUP_SPAN_E (i : Nat) : Reg :=
  ⟨0x50, 0x048 + 4 * i, 16, 8, .bo, 0x0, 0, 0xff⟩
def VODOR_GROUP_SPAN_W (i : Nat) : Reg :=
  ⟨0x50, 0x048 + 4 * i, 24, 8, .bo, 0x0, 0, 0xff⟩
def VODOR_RA_CFG_READ_EN : Reg :=
  ⟨0x50, 0x058, 0, 1, .bo, 0x0, 0, 0x1⟩
def VODOR_RA_CFG_WRITE_EN : Reg :=
  ⟨0x50, 0x058, 1, 1, .bo, 0x0, 0, 0x1⟩
def VODOR_RA_NODE_NODE : Reg :=
  ⟨0x50, 0x060, 0, 14, .rw, 0x0, 0, 0x3fff⟩
def VODOR_RA_ADDR_ADDR : Reg :=
  ⟨0x50, 0x064, 0, 32, .rw, 0x0, 0, 0xffffffff⟩
def VODOR_RA_CTRL_GO : Reg :=
  ⟨0x50, 0x068, 0, 1, .w1s, 0x0, 0, 0x1⟩
def VODOR_RA_CTRL_WRITE : Reg :=
  ⟨0x50, 0x068, 1, 1, .rw, 0x0, 0, 0x1⟩
def VODOR_RA_CTRL_COUNT : Reg :=
  ⟨0x50, 0x068, 2, 3, .rw, 0x0, 0, 0x7⟩
def VODOR_RA_STAT_BUSY : Reg :=
  ⟨0x50, 0x06C, 0, 1, .ro, 0x0, 0, 0x1⟩
def VODOR_RA_STAT_DONE : Reg :=
  ⟨0x50, 0x06C, 1, 1, .w1c, 0x0, 0, 0x1⟩
def VODOR_RA_STAT_CODE : Reg :=
  ⟨0x50, 0x06C, 8, 4, .ro, 0x0, 0, 0xf⟩
def VODOR_RA_DATA_DATA (i : Nat) : Reg :=
  ⟨0x50, 0x080 + 4 * i, 0, 32, .rw, 0x0, 0, 0xffffffff⟩
def VODOR_CNT_FWD_FRAMES : Reg :=
  ⟨0x50, 0x0A0, 0, 32, .ro, 0x0, 0, 0xffffffff⟩
def VODOR_CNT_DROP_OVF : Reg :=
  ⟨0x50, 0x0A4, 0, 16, .ro, 0x0, 0, 0xffff⟩
def VODOR_CNT_DROP_NO_ROUTE : Reg :=
  ⟨0x50, 0x0A4, 16, 16, .ro, 0x0, 0, 0xffff⟩
def VODOR_CNT_CLR_GO : Reg :=
  ⟨0x50, 0x0A8, 0, 1, .wo, 0x0, 0, 0x1⟩
/-- Every field of the block registers of page type `VODOR` (R367). -/
def VODOR_fields : List Reg :=
  [VODOR_STATUS_REPEATER, VODOR_STATUS_WRAP_E, VODOR_STATUS_WRAP_W, VODOR_STATUS_RING_OK, VODOR_STATUS_ADDR_CONFLICT, VODOR_STATUS_REP_CAUSE, VODOR_NODE_CFG_ADDR, VODOR_RING_CFG_ADDR_MAX, VODOR_RING_CFG_TIME_PRIO, VODOR_RING_CFG_VER_EN] ++
  (List.range 4).map (fun i => VODOR_GROUP_GADDR i) ++
  (List.range 4).map (fun i => VODOR_GROUP_SPAN_E i) ++
  (List.range 4).map (fun i => VODOR_GROUP_SPAN_W i) ++
  [VODOR_RA_CFG_READ_EN, VODOR_RA_CFG_WRITE_EN, VODOR_RA_NODE_NODE, VODOR_RA_ADDR_ADDR, VODOR_RA_CTRL_GO, VODOR_RA_CTRL_WRITE, VODOR_RA_CTRL_COUNT, VODOR_RA_STAT_BUSY, VODOR_RA_STAT_DONE, VODOR_RA_STAT_CODE] ++
  (List.range 8).map (fun i => VODOR_RA_DATA_DATA i) ++
  [VODOR_CNT_FWD_FRAMES, VODOR_CNT_DROP_OVF, VODOR_CNT_DROP_NO_ROUTE, VODOR_CNT_CLR_GO]

def VPORT_STATUS_STATE (x : Nat) : Reg :=
  ⟨0x51 + x, 0x00C, 0, 3, .ro, 0x0, 0, 0x7⟩
def VPORT_STATUS_VER (x : Nat) : Reg :=
  ⟨0x51 + x, 0x00C, 4, 2, .ro, 0x0, 0, 0x3⟩
def VPORT_STATUS_DLY_VALID (x : Nat) : Reg :=
  ⟨0x51 + x, 0x00C, 6, 1, .ro, 0x0, 0, 0x1⟩
def VPORT_PARTNER_ADDR (x : Nat) : Reg :=
  ⟨0x51 + x, 0x040, 0, 14, .ro, 0x0, 0, 0x3fff⟩
def VPORT_PARTNER_MASK (x : Nat) : Reg :=
  ⟨0x51 + x, 0x040, 16, 3, .ro, 0x0, 0, 0x7⟩
def VPORT_PARTNER_SER_LO_SERIAL (x : Nat) : Reg :=
  ⟨0x51 + x, 0x044, 0, 32, .ro, 0x0, 0, 0xffffffff⟩
def VPORT_PARTNER_SER_HI_SERIAL (x : Nat) : Reg :=
  ⟨0x51 + x, 0x048, 0, 32, .ro, 0x0, 0, 0xffffffff⟩
def VPORT_LINK_DLY_PS (x : Nat) : Reg :=
  ⟨0x51 + x, 0x04C, 0, 24, .ro, 0x0, 0, 0xffffff⟩
def VPORT_LINK_DLY_VALID (x : Nat) : Reg :=
  ⟨0x51 + x, 0x04C, 31, 1, .ro, 0x0, 0, 0x1⟩
def VPORT_ASYM_PS (x : Nat) : Reg :=
  ⟨0x51 + x, 0x050, 0, 16, .rw, 0x0, 0, 0xffff⟩
def VPORT_TX_CFG_SWING (x : Nat) : Reg :=
  ⟨0x51 + x, 0x054, 0, 2, .rw, 0x1, 0, 0x3⟩
def VPORT_TX_CFG_DEEMPH (x : Nat) : Reg :=
  ⟨0x51 + x, 0x054, 2, 2, .rw, 0x0, 0, 0x3⟩
def VPORT_CNT_ERR_HCRC (x : Nat) : Reg :=
  ⟨0x51 + x, 0x058, 0, 16, .ro, 0x0, 0, 0xffff⟩
def VPORT_CNT_ERR_FCS (x : Nat) : Reg :=
  ⟨0x51 + x, 0x058, 16, 16, .ro, 0x0, 0, 0xffff⟩
def VPORT_CNT_LINK_RELOCKS (x : Nat) : Reg :=
  ⟨0x51 + x, 0x05C, 0, 16, .ro, 0x0, 0, 0xffff⟩
def VPORT_CNT_LINK_DOWNS (x : Nat) : Reg :=
  ⟨0x51 + x, 0x05C, 16, 16, .ro, 0x0, 0, 0xffff⟩
def VPORT_CNT_CLR_GO (x : Nat) : Reg :=
  ⟨0x51 + x, 0x060, 0, 1, .wo, 0x0, 0, 0x1⟩
/-- Every field of the block registers of page type `VPORT` (R368). -/
def VPORT_fields (x : Nat) : List Reg :=
  [VPORT_STATUS_STATE x, VPORT_STATUS_VER x, VPORT_STATUS_DLY_VALID x, VPORT_PARTNER_ADDR x, VPORT_PARTNER_MASK x, VPORT_PARTNER_SER_LO_SERIAL x, VPORT_PARTNER_SER_HI_SERIAL x, VPORT_LINK_DLY_PS x, VPORT_LINK_DLY_VALID x, VPORT_ASYM_PS x, VPORT_TX_CFG_SWING x, VPORT_TX_CFG_DEEMPH x, VPORT_CNT_ERR_HCRC x, VPORT_CNT_ERR_FCS x, VPORT_CNT_LINK_RELOCKS x, VPORT_CNT_LINK_DOWNS x, VPORT_CNT_CLR_GO x]

def GYLEN_STATUS_ANY_FAILED : Reg :=
  ⟨0x54, 0x00C, 0, 1, .ro, 0x0, 0, 0x1⟩
def GYLEN_CID_ID (i : Nat) : Reg :=
  ⟨0x54, 0x040 + 32 * i, 0, 32, .bo, 0x0, 0, 0xffffffff⟩
def GYLEN_CCFG_EN (i : Nat) : Reg :=
  ⟨0x54, 0x044 + 32 * i, 0, 1, .bo, 0x0, 0, 0x1⟩
def GYLEN_CCFG_DIR (i : Nat) : Reg :=
  ⟨0x54, 0x044 + 32 * i, 1, 1, .bo, 0x0, 0, 0x1⟩
def GYLEN_CCFG_SRC_HOST (i : Nat) : Reg :=
  ⟨0x54, 0x044 + 32 * i, 2, 1, .bo, 0x0, 0, 0x1⟩
def GYLEN_CCFG_ETH (i : Nat) : Reg :=
  ⟨0x54, 0x044 + 32 * i, 3, 1, .bo, 0x0, 0, 0x1⟩
def GYLEN_CCFG_NODE (i : Nat) : Reg :=
  ⟨0x54, 0x044 + 32 * i, 4, 14, .bo, 0x0, 0, 0x3fff⟩
def GYLEN_CCFG_TX_MS (i : Nat) : Reg :=
  ⟨0x54, 0x044 + 32 * i, 18, 8, .bo, 0xa, 1, 0xfa⟩
def GYLEN_CCHK_SEQ_WIN (i : Nat) : Reg :=
  ⟨0x54, 0x048 + 32 * i, 0, 8, .bo, 0x1, 1, 0xff⟩
def GYLEN_CCHK_ERR_MAX (i : Nat) : Reg :=
  ⟨0x54, 0x048 + 32 * i, 8, 8, .bo, 0x1, 1, 0xff⟩
def GYLEN_CSTAT_STATE (i : Nat) : Reg :=
  ⟨0x54, 0x04C + 32 * i, 0, 2, .ro, 0x0, 0, 0x3⟩
def GYLEN_CSTAT_ERRS (i : Nat) : Reg :=
  ⟨0x54, 0x04C + 32 * i, 8, 8, .ro, 0x0, 0, 0xff⟩
def GYLEN_CSTAT_SEQ (i : Nat) : Reg :=
  ⟨0x54, 0x04C + 32 * i, 16, 16, .ro, 0x0, 0, 0xffff⟩
def GYLEN_DL_LIMIT_LIMIT (i : Nat) : Reg :=
  ⟨0x54, 0x050 + 32 * i, 0, 24, .bo, 0x5, 5, 0x1f4⟩
def GYLEN_DL_LIMIT_MISS_MAX (i : Nat) : Reg :=
  ⟨0x54, 0x050 + 32 * i, 24, 8, .ro, 0x1, 0, 0xff⟩
def GYLEN_DL_COUNT_TOTAL (i : Nat) : Reg :=
  ⟨0x54, 0x054 + 32 * i, 0, 16, .ro, 0x0, 0, 0xffff⟩
def GYLEN_DL_COUNT_RUN (i : Nat) : Reg :=
  ⟨0x54, 0x054 + 32 * i, 16, 8, .ro, 0x0, 0, 0xff⟩
def GYLEN_DL_COUNT_CLEAR (i : Nat) : Reg :=
  ⟨0x54, 0x054 + 32 * i, 31, 1, .wo, 0x0, 0, 0x1⟩
def GYLEN_CERR_CRC (i : Nat) : Reg :=
  ⟨0x54, 0x058 + 32 * i, 0, 16, .ro, 0x0, 0, 0xffff⟩
def GYLEN_CERR_SEQ (i : Nat) : Reg :=
  ⟨0x54, 0x058 + 32 * i, 16, 16, .ro, 0x0, 0, 0xffff⟩
def GYLEN_CDIFF_CHK_DIFF (i : Nat) : Reg :=
  ⟨0x54, 0x05C + 32 * i, 0, 16, .ro, 0x0, 0, 0xffff⟩
def GYLEN_CNT_CLR_GO : Reg :=
  ⟨0x54, 0x240, 0, 1, .wo, 0x0, 0, 0x1⟩
def GYLEN_HTX_CTRL_CONN : Reg :=
  ⟨0x54, 0x244, 0, 4, .rw, 0x0, 0, 0xf⟩
def GYLEN_HTX_CTRL_LEN : Reg :=
  ⟨0x54, 0x244, 8, 6, .rw, 0x2, 2, 0x20⟩
def GYLEN_HTX_CTRL_GO : Reg :=
  ⟨0x54, 0x244, 16, 1, .w1s, 0x0, 0, 0x1⟩
def GYLEN_HTX_DATA_DATA (i : Nat) : Reg :=
  ⟨0x54, 0x250 + 4 * i, 0, 32, .rw, 0x0, 0, 0xffffffff⟩
def GYLEN_RX_DATA_DATA (i : Nat) : Reg :=
  ⟨0x54, 0x280 + 4 * i, 0, 32, .ro, 0x0, 0, 0xffffffff⟩
/-- Every field of the block registers of page type `GYLEN` (R421). -/
def GYLEN_fields : List Reg :=
  [GYLEN_STATUS_ANY_FAILED] ++
  (List.range 16).map (fun i => GYLEN_CID_ID i) ++
  (List.range 16).map (fun i => GYLEN_CCFG_EN i) ++
  (List.range 16).map (fun i => GYLEN_CCFG_DIR i) ++
  (List.range 16).map (fun i => GYLEN_CCFG_SRC_HOST i) ++
  (List.range 16).map (fun i => GYLEN_CCFG_ETH i) ++
  (List.range 16).map (fun i => GYLEN_CCFG_NODE i) ++
  (List.range 16).map (fun i => GYLEN_CCFG_TX_MS i) ++
  (List.range 16).map (fun i => GYLEN_CCHK_SEQ_WIN i) ++
  (List.range 16).map (fun i => GYLEN_CCHK_ERR_MAX i) ++
  (List.range 16).map (fun i => GYLEN_CSTAT_STATE i) ++
  (List.range 16).map (fun i => GYLEN_CSTAT_ERRS i) ++
  (List.range 16).map (fun i => GYLEN_CSTAT_SEQ i) ++
  (List.range 16).map (fun i => GYLEN_DL_LIMIT_LIMIT i) ++
  (List.range 16).map (fun i => GYLEN_DL_LIMIT_MISS_MAX i) ++
  (List.range 16).map (fun i => GYLEN_DL_COUNT_TOTAL i) ++
  (List.range 16).map (fun i => GYLEN_DL_COUNT_RUN i) ++
  (List.range 16).map (fun i => GYLEN_DL_COUNT_CLEAR i) ++
  (List.range 16).map (fun i => GYLEN_CERR_CRC i) ++
  (List.range 16).map (fun i => GYLEN_CERR_SEQ i) ++
  (List.range 16).map (fun i => GYLEN_CDIFF_CHK_DIFF i) ++
  [GYLEN_CNT_CLR_GO, GYLEN_HTX_CTRL_CONN, GYLEN_HTX_CTRL_LEN, GYLEN_HTX_CTRL_GO] ++
  (List.range 8).map (fun i => GYLEN_HTX_DATA_DATA i) ++
  (List.range 128).map (fun i => GYLEN_RX_DATA_DATA i)

def POD_STATUS_FLUSHING : Reg :=
  ⟨0x58, 0x00C, 0, 1, .ro, 0x0, 0, 0x1⟩
def POD_STATUS_PARITY_SEEN : Reg :=
  ⟨0x58, 0x00C, 1, 1, .w1c, 0x0, 0, 0x1⟩
def POD_FLUSH_Q : Reg :=
  ⟨0x58, 0x040, 0, 32, .w1s, 0x0, 0, 0xffffffff⟩
def POD_TIMEOUT_PKT_US : Reg :=
  ⟨0x58, 0x044, 0, 16, .rw, 0x3e8, 1, 0xffff⟩
def POD_NEXT_QUEUE : Reg :=
  ⟨0x58, 0x048, 0, 5, .ro, 0x0, 0, 0x1f⟩
def POD_NEXT_NONE : Reg :=
  ⟨0x58, 0x048, 31, 1, .ro, 0x1, 0, 0x1⟩
def POD_PKT_EVT_Q : Reg :=
  ⟨0x58, 0x04C, 0, 32, .w1c, 0x0, 0, 0xffffffff⟩
def POD_ROUTE_ENERGY_Q : Reg :=
  ⟨0x58, 0x050, 0, 5, .rw, 0x0, 0, 0x1f⟩
def POD_ROUTE_ENERGY_EN : Reg :=
  ⟨0x58, 0x050, 7, 1, .rw, 0x0, 0, 0x1⟩
def POD_NOTICE_CFG_DEST : Reg :=
  ⟨0x58, 0x054, 0, 14, .rw, 0x0, 1, 0x2710⟩
def POD_NOTICE_CFG_EN : Reg :=
  ⟨0x58, 0x054, 15, 1, .rw, 0x0, 0, 0x1⟩
def POD_NOTICE_CFG_QUEUE : Reg :=
  ⟨0x58, 0x054, 16, 5, .rw, 0x0, 0, 0x1f⟩
def POD_NOTICE_CFG_HOLD_MS : Reg :=
  ⟨0x58, 0x054, 24, 8, .rw, 0xa, 1, 0xff⟩
def POD_CNT_DROP_FULL : Reg :=
  ⟨0x58, 0x058, 0, 16, .ro, 0x0, 0, 0xffff⟩
def POD_CNT_DROP_NO_QUEUE : Reg :=
  ⟨0x58, 0x058, 16, 16, .ro, 0x0, 0, 0xffff⟩
def POD_CNT_POISON_PARITY : Reg :=
  ⟨0x58, 0x05C, 0, 16, .ro, 0x0, 0, 0xffff⟩
def POD_CNT_POISON_TIMEOUT : Reg :=
  ⟨0x58, 0x05C, 16, 16, .ro, 0x0, 0, 0xffff⟩
def POD_CNT_NOTICE_SENT : Reg :=
  ⟨0x58, 0x060, 0, 16, .ro, 0x0, 0, 0xffff⟩
def POD_CNT_NOTICE_MERGED : Reg :=
  ⟨0x58, 0x060, 16, 16, .ro, 0x0, 0, 0xffff⟩
def POD_CNT_CLR_GO : Reg :=
  ⟨0x58, 0x064, 0, 1, .wo, 0x0, 0, 0x1⟩
def POD_QCFG_BASE (i : Nat) : Reg :=
  ⟨0x58, 0x100 + 16 * i, 0, 9, .rwQueueOff, 0x0, 0, 0x1ff⟩
def POD_QCFG_SIZE (i : Nat) : Reg :=
  ⟨0x58, 0x100 + 16 * i, 9, 10, .rwQueueOff, 0x0, 0, 0x200⟩
def POD_QCFG_DIR (i : Nat) : Reg :=
  ⟨0x58, 0x100 + 16 * i, 19, 1, .rwQueueOff, 0x0, 0, 0x1⟩
def POD_QCFG_PRIO (i : Nat) : Reg :=
  ⟨0x58, 0x100 + 16 * i, 20, 3, .rwQueueOff, 0x0, 0, 0x7⟩
def POD_QCFG_NOTIFY (i : Nat) : Reg :=
  ⟨0x58, 0x100 + 16 * i, 23, 1, .rwQueueOff, 0x0, 0, 0x1⟩
def POD_QCFG_EN (i : Nat) : Reg :=
  ⟨0x58, 0x100 + 16 * i, 24, 1, .rw, 0x0, 0, 0x1⟩
def POD_QSTAT_FREE (i : Nat) : Reg :=
  ⟨0x58, 0x108 + 16 * i, 0, 20, .ro, 0x0, 0, 0xfffff⟩
def POD_QCNT_PKTS (i : Nat) : Reg :=
  ⟨0x58, 0x10C + 16 * i, 0, 11, .ro, 0x0, 0, 0x7ff⟩
def POD_QCNT_PARTIAL (i : Nat) : Reg :=
  ⟨0x58, 0x10C + 16 * i, 11, 1, .ro, 0x0, 0, 0x1⟩
def POD_QCNT_READING (i : Nat) : Reg :=
  ⟨0x58, 0x10C + 16 * i, 12, 1, .ro, 0x0, 0, 0x1⟩
def POD_QCNT_FLUSHING (i : Nat) : Reg :=
  ⟨0x58, 0x10C + 16 * i, 13, 1, .ro, 0x0, 0, 0x1⟩
/-- Every field of the block registers of page type `POD` (R387). -/
def POD_fields : List Reg :=
  [POD_STATUS_FLUSHING, POD_STATUS_PARITY_SEEN, POD_FLUSH_Q, POD_TIMEOUT_PKT_US, POD_NEXT_QUEUE, POD_NEXT_NONE, POD_PKT_EVT_Q, POD_ROUTE_ENERGY_Q, POD_ROUTE_ENERGY_EN, POD_NOTICE_CFG_DEST, POD_NOTICE_CFG_EN, POD_NOTICE_CFG_QUEUE, POD_NOTICE_CFG_HOLD_MS, POD_CNT_DROP_FULL, POD_CNT_DROP_NO_QUEUE, POD_CNT_POISON_PARITY, POD_CNT_POISON_TIMEOUT, POD_CNT_NOTICE_SENT, POD_CNT_NOTICE_MERGED, POD_CNT_CLR_GO] ++
  (List.range 32).map (fun i => POD_QCFG_BASE i) ++
  (List.range 32).map (fun i => POD_QCFG_SIZE i) ++
  (List.range 32).map (fun i => POD_QCFG_DIR i) ++
  (List.range 32).map (fun i => POD_QCFG_PRIO i) ++
  (List.range 32).map (fun i => POD_QCFG_NOTIFY i) ++
  (List.range 32).map (fun i => POD_QCFG_EN i) ++
  (List.range 32).map (fun i => POD_QSTAT_FREE i) ++
  (List.range 32).map (fun i => POD_QCNT_PKTS i) ++
  (List.range 32).map (fun i => POD_QCNT_PARTIAL i) ++
  (List.range 32).map (fun i => POD_QCNT_READING i) ++
  (List.range 32).map (fun i => POD_QCNT_FLUSHING i)

end Sys2Proof.Machine.R
end

