-- ==== Sys2Proof/Machine/RegSys.lean ====
section
/-! DEFINITION. The block registers of the pages ID, BOOT, CLK, CANOPY, RSTPWR: one definition per field,
with its page, offset, low bit, width, access code, reset value and range, as the register tables
of 02_pins_power_reset.md, 03_boot_protection.md, 04_register_map.md, 13_vodor_ring.md give them.
An index `x` is the page instance, `i` the register of an array, `j` the field of a row. -/
namespace Sys2Proof.Machine.R

def ID_MEMBER_MEMBER : Reg :=
  ⟨0x00, 0x040, 0, 8, .ro, 0x3, 0, 0xff⟩
def ID_MEMBER_CELLS : Reg :=
  ⟨0x00, 0x040, 8, 8, .ro, 0x8, 0, 0xff⟩
def ID_MEMBER_MEM_64K : Reg :=
  ⟨0x00, 0x040, 16, 16, .ro, 0x80, 0, 0xffff⟩
def ID_PART_NUMBER : Reg :=
  ⟨0x00, 0x044, 0, 16, .ro, 0x7d0, 0, 0xffff⟩
def ID_PART_SERIES : Reg :=
  ⟨0x00, 0x044, 16, 8, .ro, 0x8, 0, 0xff⟩
def ID_STEPPING_STEP : Reg :=
  ⟨0x00, 0x048, 0, 8, .ro, 0x0, 0, 0xff⟩
/-- Every field of the block registers of page type `ID` (R87). -/
def ID_fields : List Reg :=
  [ID_MEMBER_MEMBER, ID_MEMBER_CELLS, ID_MEMBER_MEM_64K, ID_PART_NUMBER, ID_PART_SERIES, ID_STEPPING_STEP]

def BOOT_BOOT_STAT_LOCKED : Reg :=
  ⟨0x01, 0x040, 0, 1, .ro, 0x0, 0, 0x1⟩
def BOOT_BOOT_STAT_QUARANTINE : Reg :=
  ⟨0x01, 0x040, 1, 1, .ro, 0x0, 0, 0x1⟩
def BOOT_BOOT_STAT_TBL_ERR : Reg :=
  ⟨0x01, 0x040, 2, 1, .ro, 0x0, 0, 0x1⟩
def BOOT_BOOT_STAT_DBG_OPEN : Reg :=
  ⟨0x01, 0x040, 3, 1, .ro, 0x0, 0, 0x1⟩
def BOOT_BOOT_STAT_KEY_USED : Reg :=
  ⟨0x01, 0x040, 4, 2, .ro, 0x0, 0, 0x3⟩
def BOOT_BOOT_STAT_QREASON : Reg :=
  ⟨0x01, 0x040, 8, 8, .ro, 0x0, 0, 0xff⟩
def BOOT_BOOT_STAT_BOOT_MS : Reg :=
  ⟨0x01, 0x040, 16, 16, .ro, 0x0, 0, 0xffff⟩
def BOOT_IMG_SERIAL_SERIAL : Reg :=
  ⟨0x01, 0x044, 0, 32, .ro, 0x0, 0, 0xffffffff⟩
def BOOT_IMG_DIGEST_WORD (i : Nat) : Reg :=
  ⟨0x01, 0x048 + 4 * i, 0, 32, .ro, 0x0, 0, 0xffffffff⟩
def BOOT_KEY_FUSE_PROG : Reg :=
  ⟨0x01, 0x068, 0, 4, .ro, 0x0, 0, 0xf⟩
def BOOT_KEY_FUSE_REVOKED : Reg :=
  ⟨0x01, 0x068, 4, 4, .ro, 0x0, 0, 0xf⟩
def BOOT_DEV_SERIAL_LO_SERIAL : Reg :=
  ⟨0x01, 0x06C, 0, 32, .ro, 0x0, 0, 0xffffffff⟩
def BOOT_DEV_SERIAL_HI_SERIAL : Reg :=
  ⟨0x01, 0x070, 0, 32, .ro, 0x0, 0, 0xffffffff⟩
def BOOT_DEBUG_CFG_LEVEL : Reg :=
  ⟨0x01, 0x074, 0, 2, .bo, 0x0, 0, 0x3⟩
def BOOT_PERMIT_GRID_FOLLOW : Reg :=
  ⟨0x01, 0x078, 0, 1, .bo, 0x0, 0, 0x1⟩
def BOOT_PERMIT_GRID_FORM : Reg :=
  ⟨0x01, 0x078, 1, 1, .bo, 0x0, 0, 0x1⟩
def BOOT_PERMIT_PV : Reg :=
  ⟨0x01, 0x078, 2, 1, .bo, 0x0, 0, 0x1⟩
def BOOT_PERMIT_STORE_CHG : Reg :=
  ⟨0x01, 0x078, 3, 1, .bo, 0x0, 0, 0x1⟩
def BOOT_PERMIT_STORE_DIS : Reg :=
  ⟨0x01, 0x078, 4, 1, .bo, 0x0, 0, 0x1⟩
def BOOT_TBL_VALID_KE : Reg :=
  ⟨0x01, 0x07C, 0, 8, .w1s, 0x0, 0, 0xff⟩
def BOOT_TBL_VALID_CELL : Reg :=
  ⟨0x01, 0x07C, 8, 8, .w1s, 0x0, 0, 0xff⟩
def BOOT_TBL_VALID_GRID : Reg :=
  ⟨0x01, 0x07C, 16, 1, .w1s, 0x0, 0, 0x1⟩
def BOOT_TBL_VALID_MASK : Reg :=
  ⟨0x01, 0x07C, 17, 8, .w1s, 0x0, 0, 0xff⟩
def BOOT_TAMPER_STAT_COUNT (j : Nat) : Reg :=
  ⟨0x01, 0x080, 8 * j, 8, .ro, 0x0, 0, 0xff⟩
def BOOT_TAMPER_STAT_LEVEL (j : Nat) : Reg :=
  ⟨0x01, 0x080, 16 + 1 * j, 1, .ro, 0x0, 0, 0x1⟩
def BOOT_TAMPER_STAT_EVT (j : Nat) : Reg :=
  ⟨0x01, 0x080, 18 + 1 * j, 1, .w1c, 0x0, 0, 0x1⟩
def BOOT_TAMPER_CFG_FILTER_MS : Reg :=
  ⟨0x01, 0x084, 0, 8, .bo, 0x1, 1, 0xff⟩
def BOOT_TAMPER_T_NS (i : Nat) : Reg :=
  ⟨0x01, 0x088 + 8 * i, 0, 64, .sn, 0x0, 0, 0xffffffffffffffff⟩
/-- Every field of the block registers of page type `BOOT` (R74). -/
def BOOT_fields : List Reg :=
  [BOOT_BOOT_STAT_LOCKED, BOOT_BOOT_STAT_QUARANTINE, BOOT_BOOT_STAT_TBL_ERR, BOOT_BOOT_STAT_DBG_OPEN, BOOT_BOOT_STAT_KEY_USED, BOOT_BOOT_STAT_QREASON, BOOT_BOOT_STAT_BOOT_MS, BOOT_IMG_SERIAL_SERIAL] ++
  (List.range 8).map (fun i => BOOT_IMG_DIGEST_WORD i) ++
  [BOOT_KEY_FUSE_PROG, BOOT_KEY_FUSE_REVOKED, BOOT_DEV_SERIAL_LO_SERIAL, BOOT_DEV_SERIAL_HI_SERIAL, BOOT_DEBUG_CFG_LEVEL, BOOT_PERMIT_GRID_FOLLOW, BOOT_PERMIT_GRID_FORM, BOOT_PERMIT_PV, BOOT_PERMIT_STORE_CHG, BOOT_PERMIT_STORE_DIS, BOOT_TBL_VALID_KE, BOOT_TBL_VALID_CELL, BOOT_TBL_VALID_GRID, BOOT_TBL_VALID_MASK] ++
  (List.range 2).map (fun i => BOOT_TAMPER_STAT_COUNT i) ++
  (List.range 2).map (fun i => BOOT_TAMPER_STAT_LEVEL i) ++
  (List.range 2).map (fun i => BOOT_TAMPER_STAT_EVT i) ++
  [BOOT_TAMPER_CFG_FILTER_MS] ++
  (List.range 2).map (fun i => BOOT_TAMPER_T_NS i)

def CLK_PLL_STAT_CELL_LOCK : Reg :=
  ⟨0x02, 0x040, 0, 8, .ro, 0x0, 0, 0xff⟩
def CLK_PLL_STAT_GRID_LOCK : Reg :=
  ⟨0x02, 0x040, 8, 1, .ro, 0x0, 0, 0x1⟩
def CLK_PLL_STAT_SAR_LOCK : Reg :=
  ⟨0x02, 0x040, 9, 1, .ro, 0x0, 0, 0x1⟩
def CLK_PLL_STAT_VOD_LOCK : Reg :=
  ⟨0x02, 0x040, 10, 1, .ro, 0x0, 0, 0x1⟩
def CLK_PLL_STAT_HOST_LOCK : Reg :=
  ⟨0x02, 0x040, 11, 1, .ro, 0x0, 0, 0x1⟩
def CLK_PLL_STAT_HW_LOCK : Reg :=
  ⟨0x02, 0x040, 12, 1, .ro, 0x0, 0, 0x1⟩
def CLK_PLL_STAT_XTAL_GOOD : Reg :=
  ⟨0x02, 0x040, 16, 1, .ro, 0x0, 0, 0x1⟩
def CLK_PLL_LOSS_CELL_LOSS : Reg :=
  ⟨0x02, 0x044, 0, 8, .w1c, 0x0, 0, 0xff⟩
def CLK_PLL_LOSS_GRID_LOSS : Reg :=
  ⟨0x02, 0x044, 8, 1, .w1c, 0x0, 0, 0x1⟩
def CLK_PLL_LOSS_SAR_LOSS : Reg :=
  ⟨0x02, 0x044, 9, 1, .w1c, 0x0, 0, 0x1⟩
def CLK_PLL_LOSS_VOD_LOSS : Reg :=
  ⟨0x02, 0x044, 10, 1, .w1c, 0x0, 0, 0x1⟩
def CLK_PLL_LOSS_HW_LOSS : Reg :=
  ⟨0x02, 0x044, 12, 1, .w1c, 0x0, 0, 0x1⟩
def CLK_BURL_RC_KHZ : Reg :=
  ⟨0x02, 0x048, 0, 16, .ro, 0x0, 0, 0xffff⟩
def CLK_XING_ERR_CELL_GRID : Reg :=
  ⟨0x02, 0x0C0, 0, 8, .w1c, 0x0, 0, 0xff⟩
def CLK_XING_ERR_SAR_GRID : Reg :=
  ⟨0x02, 0x0C0, 8, 1, .w1c, 0x0, 0, 0x1⟩
def CLK_XING_ERR_VOD_GRID : Reg :=
  ⟨0x02, 0x0C0, 9, 1, .w1c, 0x0, 0, 0x1⟩
def CLK_XING_ERR_GRID_VOD : Reg :=
  ⟨0x02, 0x0C0, 10, 1, .w1c, 0x0, 0, 0x1⟩
def CLK_XING_ERR_TO_HW : Reg :=
  ⟨0x02, 0x0C0, 11, 1, .w1c, 0x0, 0, 0x1⟩
def CLK_XING_ERR_TO_BURL : Reg :=
  ⟨0x02, 0x0C0, 12, 1, .w1c, 0x0, 0, 0x1⟩
/-- Every field of the block registers of page type `CLK` (R47). -/
def CLK_fields : List Reg :=
  [CLK_PLL_STAT_CELL_LOCK, CLK_PLL_STAT_GRID_LOCK, CLK_PLL_STAT_SAR_LOCK, CLK_PLL_STAT_VOD_LOCK, CLK_PLL_STAT_HOST_LOCK, CLK_PLL_STAT_HW_LOCK, CLK_PLL_STAT_XTAL_GOOD, CLK_PLL_LOSS_CELL_LOSS, CLK_PLL_LOSS_GRID_LOSS, CLK_PLL_LOSS_SAR_LOSS, CLK_PLL_LOSS_VOD_LOSS, CLK_PLL_LOSS_HW_LOSS, CLK_BURL_RC_KHZ, CLK_XING_ERR_CELL_GRID, CLK_XING_ERR_SAR_GRID, CLK_XING_ERR_VOD_GRID, CLK_XING_ERR_GRID_VOD, CLK_XING_ERR_TO_HW, CLK_XING_ERR_TO_BURL]

def CANOPY_CTRL_SET_GO : Reg :=
  ⟨0x03, 0x008, 0, 1, .wo, 0x0, 0, 0x1⟩
def CANOPY_STATUS_SYNC_LOST : Reg :=
  ⟨0x03, 0x00C, 0, 1, .ro, 0x1, 0, 0x1⟩
def CANOPY_STATUS_HOLDOVER : Reg :=
  ⟨0x03, 0x00C, 1, 1, .ro, 0x0, 0, 0x1⟩
def CANOPY_STATUS_SETTLED : Reg :=
  ⟨0x03, 0x00C, 2, 1, .ro, 0x0, 0, 0x1⟩
def CANOPY_STATUS_EVER_LOCKED : Reg :=
  ⟨0x03, 0x00C, 3, 1, .ro, 0x0, 0, 0x1⟩
def CANOPY_STATUS_SOURCE : Reg :=
  ⟨0x03, 0x00C, 4, 1, .ro, 0x0, 0, 0x1⟩
def CANOPY_NOW_NS : Reg :=
  ⟨0x03, 0x040, 0, 64, .sn, 0x0, 0, 0xffffffffffffffff⟩
def CANOPY_SRC_NODE : Reg :=
  ⟨0x03, 0x048, 0, 14, .ro, 0x0, 0, 0x3fff⟩
def CANOPY_SRC_CLASS : Reg :=
  ⟨0x03, 0x048, 16, 2, .ro, 0x3, 0, 0x3⟩
def CANOPY_SRC_PRIO : Reg :=
  ⟨0x03, 0x048, 20, 4, .ro, 0xf, 0, 0xf⟩
def CANOPY_SRC_PORT : Reg :=
  ⟨0x03, 0x048, 24, 1, .ro, 0x0, 0, 0x1⟩
def CANOPY_DIST_HOPS : Reg :=
  ⟨0x03, 0x04C, 0, 14, .ro, 0x0, 0, 0x3fff⟩
def CANOPY_OFFSET_PS : Reg :=
  ⟨0x03, 0x050, 0, 32, .ro, 0x0, 0, 0xffffffff⟩
def CANOPY_FREQ_CORR : Reg :=
  ⟨0x03, 0x054, 0, 32, .ro, 0x0, 0, 0xffffffff⟩
def CANOPY_SERVO_KP : Reg :=
  ⟨0x03, 0x058, 0, 8, .rw, 0x80, 1, 0xff⟩
def CANOPY_SERVO_KI : Reg :=
  ⟨0x03, 0x058, 8, 8, .rw, 0xd, 0, 0xff⟩
def CANOPY_SERVO_STEP_NS : Reg :=
  ⟨0x03, 0x058, 16, 16, .rw, 0x3e8, 100, 0xffff⟩
def CANOPY_DL_LIMIT_LIMIT : Reg :=
  ⟨0x03, 0x060, 0, 24, .ro, 0x3e8, 0, 0xffffff⟩
def CANOPY_DL_LIMIT_MISS_MAX : Reg :=
  ⟨0x03, 0x060, 24, 8, .ro, 0x5, 0, 0xff⟩
def CANOPY_DL_COUNT_TOTAL : Reg :=
  ⟨0x03, 0x064, 0, 16, .ro, 0x0, 0, 0xffff⟩
def CANOPY_DL_COUNT_RUN : Reg :=
  ⟨0x03, 0x064, 16, 8, .ro, 0x0, 0, 0xff⟩
def CANOPY_DL_COUNT_CLEAR : Reg :=
  ⟨0x03, 0x064, 31, 1, .wo, 0x0, 0, 0x1⟩
def CANOPY_SETT_LO_NS : Reg :=
  ⟨0x03, 0x068, 0, 32, .rw, 0x0, 0, 0xffffffff⟩
def CANOPY_SETT_HI_NS : Reg :=
  ⟨0x03, 0x06C, 0, 32, .rw, 0x0, 0, 0xffffffff⟩
def CANOPY_CNT_ACCEPTED : Reg :=
  ⟨0x03, 0x070, 0, 16, .ro, 0x0, 0, 0xffff⟩
def CANOPY_CNT_STEPS : Reg :=
  ⟨0x03, 0x070, 16, 16, .ro, 0x0, 0, 0xffff⟩
def CANOPY_CNT_REJ_REJECTED : Reg :=
  ⟨0x03, 0x074, 0, 16, .ro, 0x0, 0, 0xffff⟩
def CANOPY_CNT_REJ_HOLDOVERS : Reg :=
  ⟨0x03, 0x074, 16, 16, .ro, 0x0, 0, 0xffff⟩
def CANOPY_CNT_CLR_GO : Reg :=
  ⟨0x03, 0x078, 0, 1, .wo, 0x0, 0, 0x1⟩
/-- Every field of the block registers of page type `CANOPY` (R369). -/
def CANOPY_fields : List Reg :=
  [CANOPY_CTRL_SET_GO, CANOPY_STATUS_SYNC_LOST, CANOPY_STATUS_HOLDOVER, CANOPY_STATUS_SETTLED, CANOPY_STATUS_EVER_LOCKED, CANOPY_STATUS_SOURCE, CANOPY_NOW_NS, CANOPY_SRC_NODE, CANOPY_SRC_CLASS, CANOPY_SRC_PRIO, CANOPY_SRC_PORT, CANOPY_DIST_HOPS, CANOPY_OFFSET_PS, CANOPY_FREQ_CORR, CANOPY_SERVO_KP, CANOPY_SERVO_KI, CANOPY_SERVO_STEP_NS, CANOPY_DL_LIMIT_LIMIT, CANOPY_DL_LIMIT_MISS_MAX, CANOPY_DL_COUNT_TOTAL] ++
  [CANOPY_DL_COUNT_RUN, CANOPY_DL_COUNT_CLEAR, CANOPY_SETT_LO_NS, CANOPY_SETT_HI_NS, CANOPY_CNT_ACCEPTED, CANOPY_CNT_STEPS, CANOPY_CNT_REJ_REJECTED, CANOPY_CNT_REJ_HOLDOVERS, CANOPY_CNT_CLR_GO]

def RSTPWR_RST_CAUSE_POR : Reg :=
  ⟨0x04, 0x040, 0, 1, .w1c, 0x1, 0, 0x1⟩
def RSTPWR_RST_CAUSE_BOR : Reg :=
  ⟨0x04, 0x040, 1, 1, .w1c, 0x0, 0, 0x1⟩
def RSTPWR_RST_CAUSE_PIN : Reg :=
  ⟨0x04, 0x040, 2, 1, .w1c, 0x0, 0, 0x1⟩
def RSTPWR_RST_CAUSE_WDOG : Reg :=
  ⟨0x04, 0x040, 3, 1, .w1c, 0x0, 0, 0x1⟩
def RSTPWR_RST_CAUSE_XTAL_LOSS : Reg :=
  ⟨0x04, 0x040, 4, 1, .w1c, 0x0, 0, 0x1⟩
def RSTPWR_RST_CAUSE_TEST : Reg :=
  ⟨0x04, 0x040, 5, 1, .w1c, 0x0, 0, 0x1⟩
def RSTPWR_RST_CAUSE_BOR_RAIL : Reg :=
  ⟨0x04, 0x040, 8, 5, .w1c, 0x0, 0, 0x1f⟩
def RSTPWR_PWR_STAT_RAIL_GOOD : Reg :=
  ⟨0x04, 0x044, 0, 6, .ro, 0x3f, 0, 0x3f⟩
def RSTPWR_PWR_STAT_SEQ_LATE : Reg :=
  ⟨0x04, 0x044, 8, 1, .w1c, 0x0, 0, 0x1⟩
def RSTPWR_PWR_STAT_PFW : Reg :=
  ⟨0x04, 0x044, 9, 1, .ro, 0x0, 0, 0x1⟩
def RSTPWR_PWR_STAT_AON_XTAL : Reg :=
  ⟨0x04, 0x044, 10, 1, .ro, 0x1, 0, 0x1⟩
def RSTPWR_RST_COUNT_COUNT : Reg :=
  ⟨0x04, 0x048, 0, 16, .ro, 0x0, 0, 0xffff⟩
def RSTPWR_WDOG_CFG_TIMEOUT_MS : Reg :=
  ⟨0x04, 0x04C, 0, 7, .bo, 0x8, 2, 0x40⟩
/-- Every field of the block registers of page type `RSTPWR` (R53). -/
def RSTPWR_fields : List Reg :=
  [RSTPWR_RST_CAUSE_POR, RSTPWR_RST_CAUSE_BOR, RSTPWR_RST_CAUSE_PIN, RSTPWR_RST_CAUSE_WDOG, RSTPWR_RST_CAUSE_XTAL_LOSS, RSTPWR_RST_CAUSE_TEST, RSTPWR_RST_CAUSE_BOR_RAIL, RSTPWR_PWR_STAT_RAIL_GOOD, RSTPWR_PWR_STAT_SEQ_LATE, RSTPWR_PWR_STAT_PFW, RSTPWR_PWR_STAT_AON_XTAL, RSTPWR_RST_COUNT_COUNT, RSTPWR_WDOG_CFG_TIMEOUT_MS]

end Sys2Proof.Machine.R
end

