-- ==== Sys2Proof/Machine/Pages.lean ====
section
/-! DEFINITION. The page allocation of R84 and the page header of R85: which page holds which block,
its identity and capability words, its interrupt bits and its fields. -/

namespace Sys2Proof.Machine

/-- The island that serves a page (R84). -/
inductive PageIsland where
  | host | heartwood | grid | aon | sar | cell (x : Nat) | vodor | burl
  deriving DecidableEq, Repr

/-- What a page is (R84, R85). `irq` masks the block-specific interrupt bits the chapter defines. -/
structure PageInfo where
  type : Nat
  inst : Nat
  cap : Nat
  irq : Nat
  isl : PageIsland
  deriving DecidableEq, Repr

/-- The page allocation (R84) with each page's `PAGE_CAP` (R487 and the chapters). -/
def pageInfo (p : Nat) : Option PageInfo :=
  if p = 0x00 then some ⟨0x01, 0, 0, 0, .host⟩
  else if p = 0x01 then some ⟨0x02, 0, 0x40000000, 0, .heartwood⟩
  else if p = 0x02 then some ⟨0x03, 0, 0, 0, .host⟩
  else if p = 0x03 then some ⟨0x04, 0, 0x60000003, 0x3F, .grid⟩
  else if p = 0x04 then some ⟨0x05, 0, 0, 0, .aon⟩
  else if 0x08 ≤ p ∧ p ≤ 0x0C then
    some ⟨0x08, p - 0x08,
      0xE0000001 + (if p = 0x0C then 4 else 0) + (if p = 0x08 ∨ p = 0x0A then 8 else 0), 0xFF, .sar⟩
  else if 0x10 ≤ p ∧ p ≤ 0x17 then some ⟨0x10, p - 0x10, 0xE0000003, 0x3FFFFFF, .cell (p - 0x10)⟩
  else if 0x18 ≤ p ∧ p ≤ 0x1F then some ⟨0x11, p - 0x18, 0xC000000F, 0x1FFFFF, .cell (p - 0x18)⟩
  else if 0x20 ≤ p ∧ p ≤ 0x27 then some ⟨0x12, p - 0x20, 0x40000007, 0x7FFFF, .cell (p - 0x20)⟩
  else if 0x28 ≤ p ∧ p ≤ 0x2F then some ⟨0x13, p - 0x28, 0xE000000F, 0x3FFF, .cell (p - 0x28)⟩
  else if 0x30 ≤ p ∧ p ≤ 0x37 then some ⟨0x14, p - 0x30, 0x4000000F, 0x3FF, .cell (p - 0x30)⟩
  else if p = 0x40 then some ⟨0x20, 0, 0xE0000007, 0x3F, .grid⟩
  else if p = 0x41 then some ⟨0x20, 1, 0xE0000009, 0x3F, .grid⟩
  else if p = 0x42 then some ⟨0x21, 0, 0x80000007, 0x3FF, .grid⟩
  else if p = 0x44 then some ⟨0x22, 0, 0x4000000F, 0x7F, .grid⟩
  else if p = 0x45 then some ⟨0x23, 0, 0x40000007, 0x3F, .grid⟩
  else if p = 0x48 then some ⟨0x24, 0, 0x4000000F, 0x1FFF, .grid⟩
  else if p = 0x49 then some ⟨0x25, 0, 0x00000001, 0x1, .grid⟩
  else if p = 0x50 then some ⟨0x30, 0, 0x0000007F, 0x1F, .vodor⟩
  else if p = 0x51 then some ⟨0x31, 0, 0x00000003, 0x3F, .vodor⟩
  else if p = 0x52 then some ⟨0x31, 1, 0x00000003, 0x3F, .vodor⟩
  else if p = 0x54 then some ⟨0x32, 0, 0x20000003, 0x7F, .vodor⟩
  else if p = 0x58 then some ⟨0x33, 0, 0x00000007, 0x7F, .vodor⟩
  else if p = 0x5C then some ⟨0x34, 0, 0x4000001F, 0x1FF, .burl⟩
  else if 0x60 ≤ p ∧ p ≤ 0x67 then some ⟨0x38, p - 0x60, 0x4000000F, 0x1F, .heartwood⟩
  else if p = 0x68 then some ⟨0x39, 0, 0x00000001, 0x1F, .heartwood⟩
  else if p = 0x70 then some ⟨0x40, 0, 0x00000007, 0x7, .host⟩
  else if p = 0x71 then some ⟨0x41, 0, 0x2000000F, 0x3, .heartwood⟩
  else if p = 0x72 then some ⟨0x42, 0, 0x00000007, 0xF, .host⟩
  else if p = 0x73 then some ⟨0x43, 0, 0x00000001, 0x1, .host⟩
  else none

/-- The page is allocated (R84). -/
def pageExists (p : Nat) : Bool := (pageInfo p).isSome

/-- Block fields of a page, offset 0x040 and up, with the block bits of CTRL and STATUS. -/
def pageFields (p : Nat) : List Reg :=
  if p = 0x00 then R.ID_fields
  else if p = 0x01 then R.BOOT_fields
  else if p = 0x02 then R.CLK_fields
  else if p = 0x03 then R.CANOPY_fields
  else if p = 0x04 then R.RSTPWR_fields
  else if 0x08 ≤ p ∧ p ≤ 0x0C then
    if p = 0x08 ∨ p = 0x0A then R.SAR_fields (p - 0x08)
    else (R.SAR_fields (p - 0x08)).filter (fun r => !(decide (0x070 ≤ r.ofs) && decide (r.ofs ≤ 0x07C)))
  else if 0x10 ≤ p ∧ p ≤ 0x17 then R.SENSE_fields (p - 0x10)
  else if 0x18 ≤ p ∧ p ≤ 0x1F then R.PWM_fields (p - 0x18)
  else if 0x20 ≤ p ∧ p ≤ 0x27 then R.GUARD_fields (p - 0x20)
  else if 0x28 ≤ p ∧ p ≤ 0x2F then R.KE_fields (p - 0x28)
  else if 0x30 ≤ p ∧ p ≤ 0x37 then R.CELL_fields (p - 0x30)
  else if p = 0x40 then (R.GE_fields 0).filter (fun r => decide (r.ofs < 0x0C0))
  else if p = 0x41 then R.GE_fields 1
  else if p = 0x42 then R.ARM_fields
  else if p = 0x44 then R.RIDE_fields
  else if p = 0x45 then R.ISLAND_fields
  else if p = 0x48 then R.METER_fields
  else if p = 0x49 then R.MCORR_fields
  else if p = 0x50 then R.VODOR_fields
  else if p = 0x51 then R.VPORT_fields 0
  else if p = 0x52 then R.VPORT_fields 1
  else if p = 0x54 then R.GYLEN_fields
  else if p = 0x58 then R.POD_fields
  else if p = 0x5C then R.SAFE_fields
  else if 0x60 ≤ p ∧ p ≤ 0x67 then R.SAP_fields (p - 0x60)
  else if p = 0x68 then R.GLOG_fields
  else if p = 0x70 then R.HOST_fields
  else if p = 0x71 then R.MBOX_fields
  else if p = 0x72 then R.ETH_fields
  else if p = 0x73 then R.SAVE_fields
  else []

/-- The page uses `COMMIT` (R85). -/
def hasSH (p : Nat) : Bool := ((pageInfo p).map (fun i => i.cap.testBit 31)).getD false
/-- The page holds an SN pair (R85). -/
def hasSN (p : Nat) : Bool := ((pageInfo p).map (fun i => i.cap.testBit 30)).getD false
/-- The page holds a deadline pair (R85). -/
def hasDL (p : Nat) : Bool := ((pageInfo p).map (fun i => i.cap.testBit 29)).getD false
/-- The page holds a BO field (R85). -/
def hasBO (p : Nat) : Bool := (pageFields p).any (fun r => r.acc = .bo)

/-- The interrupt bit of page `BOOT` that a tamper event on an input raises: R81 raises the page's
interrupt and no rule numbers the bit. -/
def tamperBit (n : Nat) : Nat := Config.tamperBit n % 28

/-- The interrupt bits the page implements (R85, R96). -/
def irqMask (p : Nat) : Nat :=
  if p = 0x01 then (2 ^ tamperBit 0 ||| 2 ^ tamperBit 1) + 2 ^ 30 else
  match pageInfo p with
  | none => 0
  | some i => i.irq + 2 ^ 30 + (if i.cap.testBit 29 then 2 ^ 31 else 0)

namespace H

/-- `CTRL.UPDATE_LOCK` (R85). -/
def UPDATE_LOCK (p : Nat) : Reg := ⟨p, 0x008, 31, 1, .rw, 0, 0, 1⟩
/-- `STATUS.SNAP_SEQ` (R85). -/
def SNAP_SEQ (p : Nat) : Reg := ⟨p, 0x00C, 16, 8, .ro, 0, 0, 255⟩
/-- `STATUS.DL_RUN` (R85). -/
def DL_RUN (p : Nat) : Reg := ⟨p, 0x00C, 29, 1, .ro, 0, 0, 1⟩
/-- `STATUS.SNAP_ORDER_ERR` (R85). -/
def SNAP_ORDER_ERR (p : Nat) : Reg := ⟨p, 0x00C, 31, 1, .w1c, 0, 0, 1⟩
/-- `IRQ_RAW`, all bits (R85, R96). -/
def IRQ_RAW (p : Nat) : Reg := ⟨p, 0x010, 0, 32, .ro, 0, 0, 0xFFFFFFFF⟩
/-- `IRQ_EN`, all bits (R85, R96). -/
def IRQ_EN (p : Nat) : Reg := ⟨p, 0x014, 0, 32, .rw, 0, 0, 0xFFFFFFFF⟩
/-- `COMMIT.GO` (R85, R91). -/
def COMMIT_GO (p : Nat) : Reg := ⟨p, 0x01C, 0, 1, .w1s, 0, 0, 1⟩
/-- `COMMIT.APPLIED` (R85, R91). -/
def COMMIT_APPLIED (p : Nat) : Reg := ⟨p, 0x01C, 16, 16, .ro, 0, 0, 0xFFFF⟩
/-- `ERR_COUNT.COUNT` (R85, R86). -/
def ERR_COUNT (p : Nat) : Reg := ⟨p, 0x024, 0, 16, .ro, 0, 0, 0xFFFF⟩

end H

/-- Page numbers of the blocks (R84). -/
def pgBoot : Nat := 0x01
def pgClk : Nat := 0x02
def pgCanopy : Nat := 0x03
def pgRst : Nat := 0x04
def pgSar (n : Nat) : Nat := 0x08 + n
def pgSense (x : Nat) : Nat := 0x10 + x
def pgPwm (x : Nat) : Nat := 0x18 + x
def pgGuard (x : Nat) : Nat := 0x20 + x
def pgKe (x : Nat) : Nat := 0x28 + x
def pgCell (x : Nat) : Nat := 0x30 + x
def pgGe (n : Nat) : Nat := 0x40 + n
def pgArm : Nat := 0x42
def pgRide : Nat := 0x44
def pgIsland : Nat := 0x45
def pgMeter : Nat := 0x48
def pgMcorr : Nat := 0x49
def pgVodor : Nat := 0x50
def pgPort (p : Nat) : Nat := 0x51 + p
def pgGylen : Nat := 0x54
def pgPod : Nat := 0x58
def pgSafe : Nat := 0x5C
def pgSap (x : Nat) : Nat := 0x60 + x
def pgGlog : Nat := 0x68
def pgHost : Nat := 0x70
def pgMbox : Nat := 0x71
def pgEth : Nat := 0x72
def pgSave : Nat := 0x73

end Sys2Proof.Machine
end

