-- ==== Sys2Proof/Machine/Reals.lean ====
section
/-! DEFINITION. The real numbers of the grid, meter and cell chapters. The model computes with rational
numbers: a root, a sine or an angle is a rational within the stated distance of the mathematical value, and
which one is free (log entry 5). A readout of a real number is the number itself when it is whole, else one
of its two neighbours (log entry 6). -/

namespace Sys2Proof.Machine

/-- `q` limited to 0 to 1. -/
def unit (q : Rat) : Rat := if q < 0 then 0 else if 1 < q then 1 else q

/-- The greatest natural number whose square is at most `n`. -/
def isqrt (n : Nat) : Nat :=
  (List.range (n.log2 / 2 + 1)).reverse.foldl
    (fun r i => if (r + 2 ^ i) * (r + 2 ^ i) ≤ n then r + 2 ^ i else r) 0

/-- The square root of a number that is not negative: exact when it is rational, else within 2^-64 above
the root rounded down to a multiple of 2^-64. -/
def rsqrt (q : Rat) : Rat :=
  let a := q.num.toNat
  let b := q.den
  let ra := isqrt a
  let rb := isqrt b
  if ra * ra = a ∧ rb * rb = b then (ra : Rat) / rb
  else ((isqrt (a * 2 ^ 128 / b) : Rat) + unit (Config.sqrtPart q)) / 2 ^ 64

/-- The square root for a limit: exact when it is rational, else at most the root and within 2^-63 of it. -/
def rsqrtLow (q : Rat) : Rat :=
  let a := q.num.toNat
  let b := q.den
  let ra := isqrt a
  let rb := isqrt b
  if ra * ra = a ∧ rb * rb = b then (ra : Rat) / rb
  else max 0 (((isqrt (a * 2 ^ 128 / b) : Rat) - unit (Config.sqrtPart q)) / 2 ^ 64)

/-- 2π · 2^192, rounded down. -/
def twoPiFix : Nat := 39440193395453077124792266728456537782926901730380179465120

/-- 2π, to within 2^-192. -/
def turn : Rat := ((twoPiFix : Rat) + unit Config.twoPiPart) / 2 ^ 192

/-- An angle reduced to within half a turn of 0, in units of 2^-96, rounded down. -/
def reduceAngle (x : Rat) : Int :=
  let f := x * 2 ^ 192 / (twoPiFix : Rat)
  ((f - (f + 1 / 2).floor) * (twoPiFix : Rat) / 2 ^ 96).floor

/-- `n` terms of a sine's or cosine's series from the term `c` of order `k` on, with the argument's square `t`,
in units of 2^-96. -/
def trigSeries (t : Int) : Nat → Nat → Int → Int
  | 0, _, _ => 0
  | n + 1, k, c => c + trigSeries t n (k + 2) (-(c * t / 2 ^ 96) / (((k + 1) * (k + 2) : Nat) : Int))

/-- A number within 2^-64 of `v` and within −1 to 1; `part` says which. -/
def nearUnit (v part : Rat) : Rat :=
  let r := v + (2 * unit part - 1) / 2 ^ 64
  if r < -1 then -1 else if 1 < r then 1 else r

/-- The sine, to within 2^-64. -/
def rsin (x : Rat) : Rat :=
  let t := reduceAngle x
  if x = 0 then 0 else nearUnit ((trigSeries (t * t / 2 ^ 96) 24 1 t : Rat) / 2 ^ 96) (Config.sinPart x)

/-- The cosine, to within 2^-64. -/
def rcos (x : Rat) : Rat :=
  let t := reduceAngle x
  if x = 0 then 1
  else nearUnit ((trigSeries (t * t / 2 ^ 96) 24 0 (2 ^ 96) : Rat) / 2 ^ 96) (Config.cosPart x)

/-- The arctangent's series from the power `p` on, of order `k`, with the argument's square `t`, in units of
2^-96. -/
def atanSeries (t : Int) : Nat → Nat → Int → Int
  | 0, _, _ => 0
  | n + 1, k, p => p / ((k : Nat) : Int) + atanSeries t n (k + 2) (-(p * t / 2 ^ 96))

/-- The argument whose arctangent is half of `z`'s, in units of 2^-96. -/
def halfTan (z : Nat) : Nat := z * 2 ^ 96 / (2 ^ 96 + isqrt (2 ^ 192 + z * z))

/-- The arctangent of a number from 0 to 1, both in units of 2^-96. -/
def atanFix (z : Nat) : Int :=
  let w : Int := halfTan (halfTan z)
  4 * atanSeries (w * w / 2 ^ 96) 28 1 w

/-- The angle of the vector (x, y), from −π to π, to within 2^-64. The angle of (0, 0) is free, within the same range. -/
def ratan2 (x y : Rat) : Rat :=
  let half : Rat := (twoPiFix : Rat) / 2 ^ 193
  if x = 0 ∧ y = 0 then (2 * unit (Config.anglePart 0 0) - 1) * half
  else if y = 0 ∧ 0 < x then 0
  else
    let a := |x|
    let b := |y|
    let r : Rat := (atanFix (((if b ≤ a then b / a else a / b) * 2 ^ 96).floor.toNat) : Rat) / 2 ^ 96
    let r := if b ≤ a then r else half / 2 - r
    let r := if x < 0 then half - r else r
    let r := r + (2 * unit (Config.anglePart x y) - 1) / 2 ^ 64
    if y < 0 then -r else r

/-- The readout of a real number whose rounding the spec does not state (log entry 6): the number itself
when it is whole, else the integer below or the one above. `key` names the readout. -/
def roundAs (key : Nat) (v : Rat) : Int :=
  if v.den = 1 then v.num else v.floor + (if Config.roundUp key v then 1 else 0)

/-- A number from `lo` to `hi`; `part` says which. -/
def between (lo hi part : Rat) : Rat := lo + (hi - lo) * unit part

end Sys2Proof.Machine
end

