-- ==== Sys2Proof/Machine/Mem.lean ====
section
/-! DEFINITION. The device's memories (R82, R21): table memory, capture memory, the Growth Log and queue
memory as one list of (address, byte) cells. Addresses are window addresses; queue memory has no
window and stands at `0x0400_0000` in the model. An unlisted byte reads 0, and the list holds no cell
whose byte is 0, addresses rising: the canonical form. -/

namespace Sys2Proof.Machine

/-- The memories. -/
abbrev Memory := List Host.Cell

/-- What an unlisted byte reads as: the device fills with zeros (R52, R66, R72; log entry 3). -/
def Memory.blank : BitVec 8 := 0

/-- The byte at `a`. -/
def Memory.get : Memory → Nat → BitVec 8
  | [], _ => Memory.blank
  | (k, v) :: t, a => if k = a then v else Memory.get t a

/-- `m` with no cell at `a`. -/
def Memory.drop : Memory → Nat → Memory
  | [], _ => []
  | (k, v) :: t, a => if k = a then Memory.drop t a else (k, v) :: Memory.drop t a

/-- `m` with `v` listed at `a`, in its place. -/
def Memory.place : Memory → Nat → BitVec 8 → Memory
  | [], a, v => [(a, v)]
  | (k, w) :: t, a, v =>
    if a < k then (a, v) :: (k, w) :: t
    else if a = k then (a, v) :: t
    else (k, w) :: Memory.place t a v

/-- The byte `v` written at `a`. -/
def Memory.put (m : Memory) (a : Nat) (v : BitVec 8) : Memory :=
  if v = Memory.blank then m.drop a else m.place a v

/-- The bytes `l` written from `a` on. -/
def Memory.putBytes : Memory → Nat → List Nat → Memory
  | m, _, [] => m
  | m, a, b :: bs => Memory.putBytes (m.put a (BitVec.ofNat 8 b)) (a + 1) bs

/-- The `n` bytes from `a`. -/
def Memory.getBytes (m : Memory) (a n : Nat) : List Nat :=
  (List.range n).map (fun i => (m.get (a + i)).toNat)

/-- The little-endian 32-bit word at `a`. -/
def Memory.word (m : Memory) (a : Nat) : Nat := leNat (m.getBytes a 4)

/-- The 32-bit word `v` written at `a`. -/
def Memory.putWord (m : Memory) (a v : Nat) : Memory := m.putBytes a (bytesLE 4 v)

/-- `n` bytes from `a` set to 0. -/
def Memory.zero (m : Memory) (a n : Nat) : Memory :=
  m.filter (fun c => !(decide (a ≤ c.1) && decide (c.1 < a + n)))

/-- The canonical form: addresses strictly rising, no cell equal to the blank. -/
def Memory.wf : Memory → Bool
  | [] => true
  | [c] => c.2 != Memory.blank
  | (k, v) :: (k', v') :: t =>
    v != Memory.blank && decide (k < k') && Memory.wf ((k', v') :: t)

/-- First window address of table memory (R82). -/
def tableBase : Nat := 0x01000000
/-- Size of table memory: 1.5 MB. -/
def tableSize : Nat := 0x180000
/-- First window address of capture memory. -/
def captBase : Nat := 0x02000000
/-- Size of capture memory: 4 MB. -/
def captSize : Nat := 0x400000
/-- First window address of the Growth Log. -/
def logBase : Nat := 0x03000000
/-- Size of the Growth Log: 512 KB. -/
def logSize : Nat := 0x80000
/-- The model's address of queue memory, which has no window (R82). -/
def queueBase : Nat := 0x04000000
/-- Size of queue memory: 2 MB. -/
def queueSize : Nat := 0x200000

/-- `a` lies in the region of `n` bytes from `b`. -/
def inRegion (b n a : Nat) : Bool := decide (b ≤ a) && decide (a < b + n)

end Sys2Proof.Machine
end

