-- ==== Sys2Proof/Machine/State.lean ====
section
/-! DEFINITION. The state of the Boldazan as plain data: the register file, the staged values, the
memories, and every piece of state the rules give the machine outside its registers. Times are
absolute, in units of 1/32 ns since the model's time 0, unless a field says otherwise. -/

namespace Sys2Proof.Machine

/-- Why the machine can fault. Nothing in the block faults: the spec gives every command an effect. -/
inductive Fault where
  /-- Raised by no meaning. Safe: it allows no behaviour. -/
  | none
  deriving DecidableEq, Repr

/-- Why a command can be refused. -/
inductive Refusal where
  /-- A command that has no meaning yet: raised by the dispatcher alone, by mnemonic. Safe: the
  machine stops where the device goes on. -/
  | notModelled (mnemonic : String)
  deriving DecidableEq, Repr

/-! ### Clocks, reset and boot -/

/-- One island PLL (R44, R45). -/
inductive PllSt where
  | off | starting | locked | lost
  deriving DecidableEq, Repr

/-- Where the boot sequence stands (R60). -/
inductive BootPhase where
  /-- In reset: no boot runs. -/
  | held
  /-- Reset released; the protection image is awaited (steps 1 to 3). -/
  | started
  /-- The protection image is accepted; the table image is awaited (step 6). -/
  | tables
  /-- Everything before the lock is done (step 7). -/
  | ready
  /-- The lock is set (step 8). -/
  | done
  deriving DecidableEq, Repr

/-- The reset causes present now (R48). -/
structure Causes where
  /-- Power-on reset. -/
  por : Bool := false
  /-- Brown-out. -/
  bor : Bool := false
  /-- RESET_N. -/
  pin : Bool := false
  /-- Watchdog. -/
  wdog : Bool := false
  /-- Crystal loss. -/
  xtal : Bool := false
  /-- Test. -/
  test : Bool := false
  deriving DecidableEq, Repr

/-- Clock, reset and power state (R38 to R53). -/
structure SysSt where
  /-- The device is held in reset. -/
  inReset : Bool := false
  /-- The reset causes present (R48). -/
  causes : Causes := {}
  /-- When VDD_AON was declared good (R38). -/
  aonGoodAt : Nat := 0
  /-- Since when all six rails are good. -/
  railsGoodAt : Nat := 0
  /-- The crystal is declared good (R42). -/
  xtalGood : Bool := true
  /-- When the crystal stopped while the device ran (R46). -/
  xtalStopAt : Option Nat := none
  /-- When the watchdog reset was asserted (R51). -/
  wdogResetAt : Nat := 0
  /-- Last service of Burl's watchdog. -/
  wdogServed : Nat := 0
  /-- When the watchdog expired without service. -/
  wdogExpired : Option Nat := none
  /-- The reset in force removed VDD_CORE (R52). -/
  coreLost : Bool := true
  /-- Canopy time restarts from 0: the reset in force is a power-on reset (R32). -/
  aonLost : Bool := true
  /-- A rail came late and no record of it is written yet (R38). -/
  lateNew : Bool := false
  /-- When the internal reset was last released. -/
  releasedAt : Nat := 0
  /-- The cell islands' PLLs, island 0 first. -/
  pllCell : List PllSt := [.off, .off, .off, .off, .off, .off, .off, .off]
  /-- The grid, SAR, Vodor, host and Heartwood PLLs (R44, R45). -/
  pllGrid : PllSt := .off
  pllSar : PllSt := .off
  pllVod : PllSt := .off
  pllHost : PllSt := .starting
  pllHw : PllSt := .starting
  /-- When Burl entered its safe state (R391). -/
  safeAt : Nat := 0
  /-- Heartwood found Burl's clock faulty; its actions hold until the next reset (R20). -/
  burlFaulty : Bool := false
  /-- The cause of the last safe state, kept in the always-on island (R391). -/
  keptCause : Nat := 0
  /-- When each cell island's clock stopped (R492). -/
  cellStop : List (Option Nat) := List.replicate 8 none
  /-- Commits that a `DISCARD` cancelled: the page, the time, what was staged, and a Kernel's schedule that
  was validated for it (R92, R153, R205). -/
  dropped : List (Nat × Nat × List (Nat × Nat) × Option Nat) := []
  /-- Tamper inputs: whether Canopy time was locked when the last event time was taken (R81). -/
  tampLocked : List Bool := [false, false]
  /-- Tamper events that await their record: input, count, time, time not locked, and the stamp of their
  arrival in Heartwood (R30, R81). -/
  tampOwed : List (Nat × Nat × Nat × Bool × Nat) := []
  /-- When the lock was set. -/
  lockAt : Nat := 0
  /-- Streaming crossings whose next word is discarded (R18): 0 to 7 from the grid to cell island x, 16 to 23
  from cell island x - 16 to the grid, 8 to 12 as the bits of `CLK.XING_ERR`. -/
  lostWord : List Nat := []
  /-- When each of the six rails was last declared good or bad (R40); none before the model's time 0. -/
  railAt : List (Option Nat) := List.replicate 6 none
  /-- When `RESET_N` was last recognised low or high (R49). -/
  pinAt : Option Nat := none
  /-- When `TEST_EN` was last recognised high or low (R48). -/
  testAt : Option Nat := none
  /-- `PFW_N` is low (R53). -/
  pfwLow : Bool := false
  deriving DecidableEq, Repr

/-- The one-time fuses (R68). -/
structure FuseSt where
  /-- The four key slots' 32-byte hashes, as numbers; 0 is a blank slot. -/
  keys : List Nat := [0, 0, 0, 0]
  /-- Revocation bits. -/
  revoked : Nat := 0
  /-- Device serial, 64 bits. -/
  serial : Nat := 0
  /-- Silicon stepping (R87). -/
  step : Nat := 0
  /-- The fuse array reads with an error (R67, check 1). -/
  readErr : Bool := false
  deriving DecidableEq, Repr

/-- The Canopy reference (R29, R358): at time `t` the reference reads
`base + (t - t0) * (1 - y / 10^6)` in ns, plus the part of `slew` due so far. -/
structure CanopySt where
  t0 : Nat := 0
  /-- ns at `t0`. -/
  base : Rat := 0
  /-- Frequency correction in ns per ms (R358). -/
  y : Rat := 0
  /-- Correction in ns to be spread over the first 1 ms after `t0`. -/
  slew : Rat := 0
  /-- The always-on coarse count (1/32,768 s) and the time it was loaded (R494). -/
  coarse : Nat := 0
  coarseAt : Nat := 0
  /-- The stored frequency correction word (R494), in 1/1,024 ppb. -/
  storedCorr : Int := 0
  /-- Consecutive accepted beacons within 20 ns (R358). -/
  goodRun : Nat := 0
  /-- The millisecond of the reference in which a beacon was last accepted or last found missed (R355). -/
  openAt : Nat := 0
  deriving DecidableEq, Repr

/-! ### The Growth Log writer -/

/-- A submitted record (R436). -/
structure LogRec where
  time : Nat
  unsync : Bool
  page : Nat
  sev : Nat
  code : Nat
  data : List Nat
  origin : Nat
  deriving DecidableEq, Repr

/-- The log writer (R439 to R442). -/
structure LogSt where
  /-- Submitted, not yet written: oldest first, at most 256 (R440). -/
  queue : List LogRec := []
  /-- Records lost since the last record of the loss. -/
  lost : Nat := 0
  /-- The log has resumed after reset (R60 step 7). -/
  resumed : Bool := false
  /-- The next `SEQ`, 1 to 65,535. -/
  nextSeq : Nat := 1
  nextSlot : Nat := 0
  /-- Slots of the last 8,191 records, newest first. -/
  recent : List Nat := []
  /-- Protected slots (R441). -/
  prot : List Nat := []
  /-- The last critical record written: when, its slot and its `SEQ` (R441). -/
  critAt : Option (Nat × Nat × Nat) := none
  deriving DecidableEq, Repr

/-! ### The Vodor ring -/

/-- A frame in the node (R334, R335), without its check fields. -/
structure Frame where
  tc : Nat
  kind : Nat
  grp : Bool
  exp : Bool
  wraps : Nat
  dst : Nat
  src : Nat
  hops : Nat
  seq : Nat
  payload : List Nat
  /-- The node's own frame, not in transit. -/
  own : Bool
  /-- The transmit queue it came from; 32 is none. -/
  queue : Nat := 32
  deriving DecidableEq, Repr

/-- One ring port (R329 to R333, R344, R352). -/
structure PortSt where
  aligned : Bool := false
  lostAt : Option Nat := none
  /-- When the next hello is due. -/
  helloDue : Nat := 0
  /-- Consecutive valid hellos of one version, and that version (R329). -/
  helloRun : Nat := 0
  helloVer : Nat := 0
  /-- Consecutive hellos without a common version and the last one's time (R329). -/
  noverRun : Nat := 0
  noverAt : Nat := 0
  /-- When the port became UP. -/
  upSince : Nat := 0
  /-- Symbol output: 0 the transmitter is off, else on. -/
  txOn : Bool := false
  /-- The frame being sent, the suspended frames (latest first), the waiting frames in order. -/
  sending : Option Frame := none
  /-- When the last symbol of the frame being sent can leave at the earliest (R327, R334). -/
  sendEnd : Nat := 0
  /-- The suspended frames, latest first, and the bytes of each that are still to be sent (R343). -/
  suspended : List Frame := []
  left : List Nat := []
  /-- The waiting frames in order (R339). -/
  waiting : List Frame := []
  /-- TC3 transit frames sent in a row while an own TC3 frame waited (R344). -/
  bulkRun : Nat := 0
  /-- The last delay request this port answered, and its turn-round time in ps (R332). -/
  ansMark : Nat := 0
  ansTurn : Nat := 0
  /-- Own delay requests: number, next due time, whether one is out, answer interval in ps. -/
  reqMark : Nat := 0
  reqDue : Nat := 0
  reqOut : Bool := false
  gap : Option Nat := none
  /-- The measurements held, newest first, at most 8, in ps (R352). -/
  meas : List Rat := []
  /-- A hello must be sent at once. -/
  helloNow : Bool := false
  /-- Serial and address of the partner the port last was UP with (R351). -/
  partner : Option (Nat × Nat) := none
  /-- The port has been UP since the insertion. -/
  reached : Bool := false
  deriving DecidableEq, Repr

/-- A received beacon copy (R353, R355). -/
structure BeaconCopy where
  port : Nat
  cls : Nat
  prio : Nat
  node : Nat
  dist : Nat
  origin : Nat
  corr : Int
  flags : Nat
  bseq : Nat
  /-- Reference stamp of its ingress /S/, ns. -/
  stamp : Rat
  /-- The ingress port's link delay in ps and whether it was valid. -/
  delay : Nat
  dlyOk : Bool
  /-- When it arrived. -/
  at_ : Nat
  deriving DecidableEq, Repr

/-- A delivered frame waiting for its consumer (R338). -/
structure Delivery where
  kind : Nat
  src : Nat
  seq : Nat
  wraps : Nat
  port : Nat
  payload : List Nat
  at_ : Nat
  deriving DecidableEq, Repr

/-- The ring engine. -/
structure RingSt where
  /-- The two ring ports. -/
  ports : List PortSt := [{}, {}]
  /-- When the Vodor island started. -/
  startedAt : Nat := 0
  /-- The Vodor island has started since reset. -/
  started : Bool := false
  /-- The node has inserted: the ring bypass is open (R350). -/
  inserted : Bool := false
  /-- A passing beacon gave a coarse Canopy time in ns, at the given time (R350 step 2). -/
  coarse : Option (Nat × Rat) := none
  /-- Since when an inserting node has a coarse time and both receivers aligned (R350 step 2). -/
  listenAt : Option Nat := none
  /-- Next SEQ per class, and the last 64 sent per class, newest first (R334, R342). -/
  seqs : List Nat := [0, 0, 0, 0]
  sent : List (List Nat) := [[], [], [], []]
  /-- Own TC2 frames held until their release (R346): (period boundary in ns, frame). -/
  held : List (Nat × Frame) := []
  /-- Delivered frames not yet taken by their consumer. -/
  inbox : List Delivery := []
  /-- First instant at which a port was UP (R356). -/
  firstUp : Option Nat := none
  /-- When a beacon of a better source was last heard. -/
  betterAt : Nat := 0
  /-- Beacon copies awaiting the decision, and when the first arrived. -/
  copies : List BeaconCopy := []
  /-- When a beacon of the selected source was last heard. -/
  selAt : Nat := 0
  /-- BSEQ values decided already, newest first. -/
  decided : List Nat := []
  /-- Own BSEQ as a source (R353). -/
  bseq : Nat := 0
  /-- Beacons still to carry STEP (R359). -/
  stepLeft : Nat := 0
  /-- The last beacon instant sent, in ns. -/
  beaconAt : Nat := 0
  /-- Remote access of this node's host: its number and timeout. -/
  raTag : Nat := 0
  raDue : Nat := 0
  /-- The remote access outstanding: write, word count. -/
  raWrite : Bool := false
  raCount : Nat := 1
  deriving DecidableEq, Repr

/-! ### Pod queues -/

/-- A packet's place in its queue's region: first word and length in words (R371). -/
structure Packet where
  start : Nat
  words : Nat
  /-- Parity check: not yet run, passed or failed (R380). -/
  checked : Bool := false
  poison : Bool := false
  deriving DecidableEq, Repr

/-- One queue (R370 to R385). -/
structure QueueSt where
  /-- Complete packets, oldest first. -/
  pkts : List Packet := []
  /-- Next free word of the region. -/
  tail : Nat := 0
  /-- The packet being written: its place, words taken so far, time of the last word. -/
  part : Option Packet := none
  partLen : Nat := 0
  partAt : Nat := 0
  /-- Words of the oldest packet already read. -/
  readPos : Nat := 0
  /-- A flush is pending; a disable is pending (R382, R383). -/
  flush : Bool := false
  /-- A disable is pending (R382). -/
  closing : Bool := false
  /-- The oldest packet is on the ring: copies still to leave. -/
  inFlight : Nat := 0
  /-- The last copy has left; the packet's space can be released (R379). -/
  gone : Bool := false
  /-- A flush discarded the packet that is on its way (R382). -/
  orphan : Bool := false
  /-- When a flush last reached its boundary (R382, R384). -/
  flushAt : Option Nat := none
  /-- The word that a host read in the cycle of that boundary still gets (R384). -/
  cut : Option Nat := none
  deriving DecidableEq, Repr

/-- A notice held for its time or for the egress (R386). -/
structure NoticeSt where
  page : Nat
  /-- End of the hold time. -/
  holdEnd : Nat
  merged : Nat
  /-- Canopy time of the first rise covered. -/
  first : Nat
  deriving DecidableEq, Repr

/-- The queue engine. -/
structure PodSt where
  /-- The 32 queues. -/
  q : List QueueSt := List.replicate 32 {}
  /-- The queue that sent last, for each priority (R379). -/
  lastTx : List Nat := List.replicate 8 31
  /-- Pages whose interrupt is pending and was seen to rise. -/
  raised : List Nat := []
  /-- Rises not yet taken by a notice: page and Canopy time. -/
  rises : List (Nat × Nat) := []
  /-- Notices held or waiting (R386). -/
  holds : List NoticeSt := []
  deriving DecidableEq, Repr

/-! ### SAR converters -/

/-- A pass of a converter's sequence (R126). -/
structure SarPass where
  /-- The entry whose conversion ends next. -/
  idx : Nat := 0
  /-- When the trigger that started the pass fired; when entry 0 began sampling, and its Canopy time. -/
  fireAt : Nat
  t0 : Nat
  stamp : Nat
  /-- When the conversion in progress ends. -/
  ends : Nat
  /-- The pass missed its deadline (R128). -/
  late : Bool := false
  deriving DecidableEq, Repr

/-- One converter's sequence (R122 to R136), whoever runs it. -/
structure SarSt where
  /-- Target times of the events held (R115). -/
  trig : List Nat := []
  /-- The pass in progress (R126). -/
  pass : Option SarPass := none
  /-- Firing time of the pending trigger, and of the one that abandons the pass (R127). -/
  pend : Option Nat := none
  /-- Firing time of the trigger that abandons the pass (R127). -/
  restart : Option Nat := none
  /-- Passes started. -/
  passNo : Nat := 0
  /-- The outstanding calibration request, the end of the running calibration (R133, R134). -/
  calReq : Option Nat := none
  /-- End of the running calibration (R133, R134). -/
  calEnd : Option Nat := none
  /-- 100 ms have passed without a gap (R136; the rover's own request). -/
  forced : Bool := false
  /-- Start of the periodic interval. -/
  periodAt : Nat := 0
  /-- Time of the last carrier event taken (R134). -/
  lastEvt : Option Nat := none
  /-- The Canopy reading in ns up to which the unit's Canopy timer has been judged (R116). -/
  tmrAt : Nat := 0
  /-- A pair result not yet compared: its value, its `CLIP`, and since when the other is awaited. -/
  pairNew : Option (Int × Bool × Nat) := none
  /-- Sample instant of each entry's newest result. -/
  resAt : List (Option Nat) := List.replicate 16 none
  /-- Changes of `DL_LIMIT` since the interval in progress opened, newest first: when, and `LIMIT` and
  `MISS_MAX` before (R94). -/
  limOld : List (Nat × Nat × Nat) := []
  deriving DecidableEq, Repr

/-! ### Cell channels: sensing, PWM, guard, Kernel, cell power -/

/-- One sigma-delta input (R102 to R119). -/
structure SdIn where
  /-- The last 766 captured bits, bit 0 the newest. -/
  hist : Nat := 0
  /-- Bits captured since the last event of R108, at most 768. -/
  cnt : Nat := 0
  /-- Bits captured since the sinc3 history was last cleared, at most 768. -/
  clr : Nat := 0
  /-- Equal bits captured in a row, at most 64. -/
  run : Nat := 0
  /-- The last raw sinc3 output and how often it came in a row. -/
  raw : Option Nat := none
  rawRun : Nat := 0
  /-- Consecutive outputs toward asserting or releasing, comparators A and B (R110). -/
  cmpA : Nat := 0
  /-- Comparator B (R110). -/
  cmpB : Nat := 0
  deriving DecidableEq, Repr

/-- A `SENSE` page's engine. -/
structure SenseSt where
  /-- The page's six inputs. -/
  ins : List SdIn := List.replicate 6 {}
  /-- Target times of the events held (R115). -/
  trig : List Nat := []
  /-- End of the running sample-interval deadline (R121). -/
  due : Option Nat := none
  /-- The Canopy reading in ns up to which the unit's Canopy timer has been judged (R116). -/
  tmrAt : Nat := 0
  deriving DecidableEq, Repr

/-- A switch in R145. -/
inductive SwState where
  | off | wait | on
  deriving DecidableEq, Repr

/-- One switch of a leg: its state, `t_start`, `t_stop`, and its pulse's minimum (R145, R147). -/
structure Sw where
  /-- OFF, WAIT or ON. -/
  st : SwState := .off
  /-- `t_start`. -/
  start : Nat := 0
  /-- `t_stop`. -/
  stop : Option Nat := none
  /-- The minimum pulse in force when it turned on (R147). -/
  min : Nat := 0
  deriving DecidableEq, Repr

/-- One PWM leg (R141 to R153). -/
structure LegSt where
  /-- The ideal demand d. -/
  d : Bool := false
  /-- The high-side switch. -/
  h : Sw := {}
  /-- The low-side switch. -/
  l : Sw := {}
  /-- End of the running bootstrap refresh (R148). -/
  refresh : Option Nat := none
  /-- The Kernel's index in force. -/
  kIdx : Int := -32768
  /-- The Kernel's indices written and not yet active, each with its time, the newest first (R24, R153). -/
  kNew : List (Int × Nat) := []
  /-- The compare of the index in force. -/
  kCmp : Nat := 0
  /-- Since when the leg waits for its first Kernel value (R153). -/
  waitAt : Nat := 0
  /-- The host compare was clamped in the last half (R152). -/
  clamped : Bool := false
  /-- A fault upstream demands both switches (R149). -/
  both : Bool := false
  /-- The leg's last ideal edge, and whether the carrier's crossing of the compare made it (R154). -/
  edgeAt : Option (Nat × Bool) := none
  deriving DecidableEq, Repr

/-- One PWM (R138 to R160). -/
structure PwmSt where
  /-- The carrier runs. -/
  started : Bool := false
  /-- The last carrier zero, and whether the peak after it has passed. -/
  zeroAt : Nat := 0
  /-- The peak of the period in progress has passed. -/
  falling : Bool := false
  /-- The top of the period in progress (T_P), and the carrier settings of this period. -/
  top : Nat := 320000
  mode : Nat := 0
  ticks : Nat := 20000
  /-- `EN` was written at this time and waits for its zero (R159). -/
  enAt : Option Nat := none
  /-- When `EN` took effect. -/
  runAt : Nat := 0
  /-- The four legs. -/
  legs : List LegSt := [{}, {}, {}, {}]
  deriving DecidableEq, Repr

/-- One fault group (R170 to R174). -/
structure GroupSt where
  /-- When the retry window opened (R172). -/
  winOpen : Nat := 0
  /-- The last cell-island cycle in which a source of the group was active (R172). -/
  lastActive : Nat := 0
  /-- A release is pending (R172). -/
  release : Bool := false
  /-- A mapped source was active at the last change (R172). -/
  sourced : Bool := false
  /-- The last release: its time, and the count and `ESCALATED` before it (R174). -/
  relAt : Option (Nat × Nat × Bool) := none
  deriving DecidableEq, Repr

/-- One gate guard (R162 to R183). -/
structure GuardSt where
  /-- The fault groups. -/
  groups : List GroupSt := List.replicate 16 {}
  /-- Since when each `SC_N` source is active, until it is found stuck (R164). -/
  scSince : List (Option Nat) := List.replicate 8 none
  /-- `RDY` blanking runs (R167). -/
  blanking : Bool := false
  /-- Opening and closing checks: their ends (R181). -/
  openDue : Option Nat := none
  openOk : Bool := false
  closeDue : Option Nat := none
  /-- When `BYP_HOLD_x` began to toggle (R179). -/
  holdAt : Nat := 0
  /-- The bypass has been confirmed closed while `BYP_HOLD_x` is static (R181). -/
  closedOk : Bool := false
  /-- When each filtered input last changed: the eight `SC_N`, the four `RDY`, the four `TRIP_N`, and
  `BYP_FB` (R162, R166, R169, R181). -/
  filtAt : List (Option Nat) := List.replicate 17 none
  deriving DecidableEq, Repr

/-- A reference set from GE0 (R189, R250): four reference words, two auxiliary words with their stale
marks, the grid-forming indication. -/
structure GeSet where
  ref : List Int := [0, 0, 0, 0]
  aux : List Int := [0, 0]
  auxStale : List Bool := [false, false]
  gf : Bool := false
  deriving DecidableEq, Repr

/-- What a sample in progress will write and store (R186). -/
structure KeSample where
  /-- The sample centre. -/
  at_ : Nat
  /-- Per output: index, clamped, divisor raised; written at step 9. -/
  idx : List Int
  lim : List Bool
  raised : List Bool
  written : Bool := false
  /-- Operands of the prediction: corrected state, u_bar, r, w, and the bank that predicts. -/
  sc : List Int
  ubar : List Int
  r : List Int
  w : List Int
  bank : Nat
  deriving DecidableEq, Repr

/-- A schedule change under validation (R205): the schedule, whether a `MODE` commit asks for it,
and when it began. -/
structure KeValid where
  sched : Nat
  commit : Bool
  at_ : Nat
  deriving DecidableEq, Repr

/-- One Kernel. Its predicted states stand in the `STATEi` registers (R217). -/
structure KeSt where
  /-- The reference set in force (R189). -/
  ge : Option GeSet := none
  /-- Sample centres since the last set (R215). -/
  geAge : Nat := 0
  /-- Last fresh value of each measurement slot (R188). -/
  y : List Int := [0, 0, 0, 0, 0, 0, 0, 0]
  /-- Effective references, ramp origins, and samples since the hand-over (R207). -/
  rEff : List Int := [0, 0, 0, 0]
  ramp : List (Option Int) := [none, none, none, none]
  rampN : Nat := 0
  /-- The sample in progress (R186). -/
  sample : Option KeSample := none
  /-- The Kernel is busy until this time (R187). -/
  busy : Nat := 0
  /-- The running sample deadline: when it opened and when it ends (R212). -/
  due : Option (Nat × Nat) := none
  /-- A schedule change being validated, and one validated and waiting for its sample. -/
  valid : Option KeValid := none
  /-- A schedule change validated, waiting for its sample (R205). -/
  ready : Option Nat := none
  /-- End of the test pattern (R211). -/
  testEnd : Nat := 0
  /-- The outputs clamped in the last sample, as a mask (R196). -/
  limited : Nat := 0
  /-- `EN` was cleared during the sample in progress: the Kernel stops after it (R210). -/
  stopping : Bool := false
  /-- Deadlines missed in a row since the start (R212). -/
  missRun : Nat := 0
  /-- Heartwood still owes the test of this boot (R211). -/
  testOwed : Bool := true
  deriving DecidableEq, Repr

/-- Where a join stands (R224). -/
inductive JoinStep where
  | none | kernel | carrier | feedback | epoch
  deriving DecidableEq, Repr

/-- An open-circuit window (R234). -/
structure WindowSt where
  /-- When the cell entered SHELL. -/
  start : Nat
  /-- Start, sum and count of the running block; the last block's average in mV. -/
  blockAt : Nat
  sum : Int := 0
  num : Nat := 0
  last : Option Rat := none
  /-- The close request's time, once the window has ended. -/
  asked : Option Nat := none
  deriving DecidableEq, Repr

/-- A global scan (R239). -/
structure ScanSt where
  /-- Index of the scan point (R239). -/
  k : Nat
  /-- When the point began (R239). -/
  at_ : Nat
  /-- Sum and number of the power's values at the point (R239). -/
  sum : Rat := 0
  num : Nat := 0
  /-- (voltage, power) of the steps done, newest first. -/
  done : List (Int × Rat) := []
  /-- `V_REF` before the scan. -/
  vref : Nat
  deriving DecidableEq, Repr

/-- One cell power block (R218 to R239). -/
structure CellSt where
  /-- The step of the join (R224). -/
  join : JoinStep := .none
  /-- When that step began. -/
  joinAt : Nat := 0
  /-- The block commands the channel energised (R221). -/
  cmd : Bool := false
  /-- Zero-state substitution (R225). -/
  subst : Bool := false
  /-- The epoch the master named, in ns of Canopy time. -/
  epoch : Option Nat := none
  /-- The planned leave has started its substitution (R226). -/
  leaving : Bool := false
  /-- Since when the DC link qualifies, or is low (R223, R226). -/
  highSince : Option Nat := none
  lowSince : Option Nat := none
  /-- Consecutive samples with PRI0 or PRI1 stale (R226). -/
  staleRun : Nat := 0
  /-- Voltage loop (R230): integrator in mA, entry into RUN. -/
  iInt : Rat := 0
  /-- Entry into RUN (R230). -/
  rampAt : Nat := 0
  /-- The limit curve limited the reference at the last evaluation (R230). -/
  limited : Bool := false
  /-- Since when i_ref is clamped to the power term, or clear of it (R231). -/
  onSince : Option Nat := none
  offSince : Option Nat := none
  /-- The master's dispatch in W (R230). -/
  pCmd : Int := 0
  /-- Shell sampling: when the cell falls due, and whether a grant waits for its epoch. -/
  shellDue : Option Nat := none
  shellGrant : Bool := false
  /-- When the request flag rose (R233). -/
  reqAt : Nat := 0
  /-- The open-circuit window in progress (R234). -/
  window : Option WindowSt := none
  /-- The values of PRI1 over the last `BLOCK_MS` of a join with their times, the newest first (R235). -/
  joinHist : List (Nat × Int) := []
  /-- The last values of PRI0, PRI1 and PRI2 that were not stale (R119). -/
  pri : List Int := [0, 0, 0]
  /-- A VALID sample exists, and the last join sample (R237). -/
  vocValid : Bool := false
  joinVoc : Nat := 0
  /-- Perturb-and-observe (R238). -/
  poAt : Nat := 0
  /-- Sum and count of the power over the running block (R238). -/
  poSum : Rat := 0
  poNum : Nat := 0
  /-- Power of the last block, direction and offset of the reference (R238). -/
  pLast : Rat := 0
  dir : Int := 1
  offset : Int := 0
  /-- When the next global scan falls due (R239). -/
  scanDue : Option Nat := none
  /-- The global scan in progress (R239). -/
  scan : Option ScanSt := none
  /-- Reference words to the Kernel (R229), Q1.31. -/
  words : List Int := [0, 0, 0, 0]
  deriving DecidableEq, Repr

/-- A cell channel. -/
structure ChSt where
  /-- The channel's `SENSE` page. -/
  sense : SenseSt := {}
  /-- Its PWM. -/
  pwm : PwmSt := {}
  /-- Its gate guard. -/
  guard : GuardSt := {}
  /-- Its Kernel. -/
  ke : KeSt := {}
  /-- Its cell power block. -/
  cell : CellSt := {}
  deriving DecidableEq, Repr

/-! ### Safety functions and Gylen -/

/-- The states of a safety function (R394); unused is the state of a slot whose TYPE is OFF. -/
inductive FnState where
  | unused | permit | stopping | stopped | ready | fault
  deriving DecidableEq, Repr

/-- One safety function in one of the two channels (R388, R394). -/
structure FnSt where
  /-- The function's state. -/
  st : FnState := .unused
  /-- When the state was entered. -/
  since : Nat := 0
  /-- Since when the function's first pair is ON. -/
  onSince : Option Nat := none
  /-- TWOHAND: when the first pair reached ON; the pairs have been OFF together since the last
  actuation (R398). -/
  first : Option Nat := none
  /-- TWOHAND: the pairs have been OFF together since the last actuation (R398). -/
  rearmed : Bool := false
  /-- CURTAIN: last tolerated pulse of channels A and B (R399). -/
  pulseA : Nat := 0
  pulseB : Nat := 0
  deriving DecidableEq, Repr

/-- One of the two channels, Burl or Heartwood (R388). -/
structure ChanSt where
  /-- Physical pairs, filtered: bit p is 1 while channel A (or B) of pair p is on (R392). -/
  inA : Nat := 0
  inB : Nat := 0
  /-- When each filtered channel last took a new level: entry p channel A, entry 12 + p channel B of pair p. -/
  inAt : List (Option Nat) := List.replicate 24 none
  /-- The eight functions. -/
  fn : List FnSt := [{}, {}, {}, {}, {}, {}, {}, {}]
  /-- Since when each of the 16 pairs is in DISAGREE (R393). -/
  disSince : List (Option Nat) := List.replicate 16 none
  deriving DecidableEq, Repr

/-- A test of a safety output (R405). -/
inductive TestPhase where
  | idle
  /-- The A pulse runs, since the given time. -/
  | pulseA (t : Nat)
  /-- The 1 ms between the pulses; the A pulse ended at the given time. -/
  | between (t : Nat)
  | pulseB (t : Nat)
  deriving DecidableEq, Repr

/-- One safety output pair (R403 to R407). -/
structure OutSt where
  /-- The balls. -/
  soA : Bool := false
  soB : Bool := false
  /-- The pair's test (R405). -/
  phase : TestPhase := .idle
  /-- A demand for off came during the test: the result is discarded (R407). -/
  spoiled : Bool := false
  /-- When the next test falls due. -/
  testDue : Nat := 0
  /-- When the pair last turned on, when its balls last changed. -/
  onAt : Nat := 0
  /-- When its balls last changed. -/
  changedAt : Nat := 0
  /-- Since when both readbacks read low (R406). -/
  lowSince : Option Nat := some 0
  deriving DecidableEq, Repr

/-- The safety blocks (R388 to R407). -/
structure SafeSt where
  /-- Burl's channel. -/
  burl : ChanSt := {}
  /-- Heartwood's channel. -/
  hw : ChanSt := {}
  /-- Heartwood's record of its input channels, oldest first: pair, channel B, on (R388). -/
  record : List (Nat × Bool × Bool) := []
  /-- Since when the channels disagree on PERMIT, per function (R390). -/
  divSince : List (Option Nat) := List.replicate 8 none
  /-- When SRST_IN rose; none while it is low (R401). -/
  srstRise : Option Nat := none
  /-- The four output pairs (R403). -/
  out : List OutSt := [{}, {}, {}, {}]
  /-- Gate-enable lines as last driven (R389, R395). -/
  lines : Nat := 0
  /-- Heartwood's states as written at the end of its last safety slice (R417): bit f is PERMIT. -/
  stateH : Nat := 0
  deriving DecidableEq, Repr

/-- One Gylen connection (R409 to R417). -/
structure GylSt where
  /-- Watchdog start, or the producer's last sending. -/
  last : Nat := 0
  /-- The hardware checker's and Heartwood's copies of the payload, and their last SEQ. -/
  dataHw : List Nat := []
  dataHt : List Nat := []
  /-- Heartwood's last SEQ. -/
  seqHt : Nat := 0
  /-- Heartwood's copy runs. -/
  runHt : Bool := false
  /-- Frames the checker has judged and Heartwood has not: the frame, the checker's decision. -/
  second : List (List Nat × Bool) := []
  /-- Frames on which the two decisions differed. -/
  diffRun : Nat := 0
  /-- Times of errors, newest first (R415). -/
  errs : List Nat := []
  /-- Producer: the payload changed since the last frame; a late frame is shown (R416). -/
  changed : Bool := false
  /-- A late frame is shown (R416). -/
  late : Bool := false
  /-- Producer: a frame has been sent since the lock. -/
  started : Bool := false
  /-- Host buffer loaded into the connection (R417). -/
  host : List Nat := [0, 0]
  /-- The safety state last sent: STATE_B, STATE_H. -/
  sentB : Nat := 0
  sentH : Nat := 0
  deriving DecidableEq, Repr

/-! ### Mailbox, slices, gateway and save port -/

/-- The Heartwood slices of a frame (R458). -/
inductive Slice where
  | none | safety | gylen | house | mail
  deriving DecidableEq, Repr

/-- Heartwood (R453 to R459). -/
structure HwSt where
  /-- Start of the frame, the running slice and its start. -/
  frameAt : Nat := 0
  /-- Frames begun since reset. -/
  frames : Nat := 0
  /-- The running slice (R458). -/
  slice : Slice := .none
  /-- Its start. -/
  sliceAt : Nat := 0
  /-- Per slice of the frame, in the order of R458: it has ended; its miss has been counted. -/
  ended : List Bool := [false, false, false, false]
  missed : List Bool := [false, false, false, false]
  /-- Accepted requests per frame, newest first, at most 1,000 frames (R454). -/
  accepted : List Nat := [0]
  /-- The pending request is being served in this slice (R459). -/
  taken : Bool := false
  /-- KEY_PROVISION is programming: slot, hash; the controller is done (R456). -/
  fuseBusy : Option (Nat × Nat) := none
  fuseDone : Bool := false
  /-- When a response last set `DONE` (R457). -/
  doneAt : Option Nat := none
  deriving DecidableEq, Repr

/-- The last 1588 message the gateway sent (R464): a Pdelay_Req with its number, or the answer to the
request with a number from a port, with the stamps it carries in ns. -/
inductive PtpTx where
  | none
  | req (seq : Nat)
  | resp (seq port rx : Nat)
  deriving DecidableEq, Repr

/-- The Ethernet gateway (R460 to R465). -/
structure EthSt where
  /-- The best master by Announce: its data set, most significant part first, with the sender last. -/
  best : Option (List Nat) := none
  /-- When its Announce was last heard. -/
  bestAt : Nat := 0
  /-- Consecutive Syncs within 100 ns; the last accepted one; the gateway is disciplined from 1588. -/
  goodRun : Nat := 0
  /-- When the last Sync was accepted. -/
  lastSync : Nat := 0
  /-- The gateway is disciplined from 1588. -/
  live : Bool := false
  /-- Peer delay in ns, when measured; the outstanding request: number, time, egress stamp. -/
  pdelay : Option Rat := none
  /-- Number of the outstanding request. -/
  pdSeq : Nat := 0
  /-- When it was sent. -/
  pdAt : Option Nat := none
  /-- Its egress stamp. -/
  pdT1 : Rat := 0
  /-- It has left. -/
  pdOut : Bool := false
  /-- The last tunnel frame sent; the last 1588 message sent. -/
  txLast : List Nat := []
  txPtp : PtpTx := .none
  deriving DecidableEq, Repr


/-! ### Grid engines, arm exchange, ride-through, islanding -/

/-- A second-order generalised integrator: in-phase and quadrature outputs, last input (R245). -/
structure Sogi where
  /-- In-phase output. -/
  d : Rat := 0
  /-- Quadrature output. -/
  q : Rat := 0
  /-- Last input. -/
  v : Rat := 0
  deriving DecidableEq, Repr

/-- One grid engine's inputs and phase-locked loop (R243 to R246). -/
structure EngSt where
  /-- The five latched sources, in mV or mA, and whether each is stale. -/
  src : List (Rat × Bool) := List.replicate 5 (0, true)
  al : Sogi := {}
  be : Sogi := {}
  /-- Angular frequency, integrator, angle, error. -/
  w : Rat := 0
  integ : Rat := 0
  theta : Rat := 0
  e : Rat := 0
  /-- Magnitudes and angles of the two sequences. -/
  vPos : Rat := 0
  vNeg : Rat := 0
  thV : Rat := 0
  thN : Rat := 0
  /-- θ at the start of the latest cycle. -/
  theta0 : Rat := 0
  /-- Since when: the freeze conditions are absent, the PLL is frozen, |e| holds for lock, for loss. -/
  clearSince : Option Nat := none
  frozenSince : Option Nat := none
  lockSince : Option Nat := none
  badSince : Option Nat := none
  deriving DecidableEq, Repr

/-- An arm frame (R249). -/
structure ArmFrame where
  arm : Nat
  flags : Nat
  term : Nat
  ncells : Nat
  nrun : Nat
  epoch : Nat
  v1 : Int
  v2 : Int
  i1 : Int
  i2 : Int
  th1 : Nat
  th2 : Nat
  iArm : Int
  vPos : Nat
  id : Int
  iq : Int
  eArm : Nat
  pFf : Nat
  limFrac : Nat
  gPos : Nat
  gKind : Nat
  pDisp : Int
  gEpoch : Nat
  w : List Nat
  /-- The node that sent it. -/
  node : Nat
  deriving DecidableEq, Repr

/-- One entry of a cell report (R248). -/
structure CellRep where
  arm : Nat
  pos : Nat
  state : Nat
  flags : Nat
  energy : Nat
  avail : Nat
  vdc : Nat
  dis : Nat
  chg : Nat
  time : Nat
  deriving DecidableEq, Repr

/-- A request seen in the reports, by grant kind and position, and since which cycle (R257). -/
structure Req where
  kind : Nat
  pos : Nat
  since : Nat
  deriving DecidableEq, Repr

/-- A grant issued: kind, position, epoch (R257). -/
structure Grant where
  kind : Nat
  pos : Nat
  epoch : Nat
  deriving DecidableEq, Repr

/-- The virtual machine (R267). -/
structure VsmSt where
  w : Rat := 1
  theta : Rat := 0
  e : Rat := 0
  limited : Bool := false
  deriving DecidableEq, Repr

/-- A hand-over ramp: its start and the values it left (R268). -/
structure ModeRamp where
  at_ : Nat
  p : Rat
  q : Rat
  /-- Whether P and Q ramp; the other steps. -/
  onP : Bool
  onQ : Bool
  deriving DecidableEq, Repr

/-- The arm functions of GE0 and the checks of GE1 (R247 to R270). -/
structure ArmSt where
  /-- Accepted frames: of every arm the last ones, newest first (R251). -/
  frames : List ArmFrame := []
  /-- The node's own last frame (R249). -/
  own : Option ArmFrame := none
  /-- Cell reports held (R248). -/
  reps : List CellRep := []
  /-- Requests seen (R257). -/
  reqs : List Req := []
  /-- Grants issued (R257). -/
  grants : List Grant := []
  /-- Positions with a share of the arm voltage (R256). -/
  share : List Nat := []
  /-- The arm token is out; when the last window closed (R233). -/
  token : Bool := false
  tokenAt : Nat := 0
  /-- Current references in mA, and the inverter law's integral in W. -/
  id : Rat := 0
  iq : Rat := 0
  i2 : Rat := 0
  eInt : Rat := 0
  /-- States of the resonant integrators (R255). -/
  res : List Sogi := [{}, {}, {}, {}]
  /-- |v_arm| of the cycles of the last fundamental period, newest first (R256). -/
  peaks : List Rat := []
  /-- Stuck-cell action: 0 none, 1 currents going to 0, 2 STOP in every frame (R257). -/
  stuck : Nat := 0
  /-- The hand-over in progress; the virtual machine. -/
  ramp : Option ModeRamp := none
  /-- The virtual machine (R267). -/
  vsm : VsmSt := {}
  /-- A transfer to grid forming is ordered (R298). -/
  orderGf : Bool := false
  /-- End of the host burst (R264), start of the frequency-response burst (R265). -/
  burstEnd : Option Nat := none
  /-- Kept through ride-through and its recovery: what was left of the host burst, and how long the
  frequency-response burst had run (R282, R300). -/
  burstLeft : Option Nat := none
  ffrRan : Option Nat := none
  /-- Start of the frequency-response burst (R265). -/
  ffrAt : Option Nat := none
  partialNow : Bool := false
  /-- Consecutive own frames not sent (R262). -/
  unsent : Nat := 0
  /-- Since when the arm current, or all voltages, are stale; since when inputs are fresh and the
  checks clean. -/
  iStale : Option Nat := none
  vStale : Option Nat := none
  cleanSince : Option Nat := none
  /-- Another master's frame was taken (R261). -/
  lost : Bool := false
  /-- Since when each check of R270 holds, and whether it has been counted. -/
  xSince : List (Option Nat) := List.replicate 9 none
  /-- Whether each check has been counted. -/
  xDone : List Bool := List.replicate 9 false
  /-- Per engine, the cycle start last counted missed (R242). -/
  missAt : List (Option Nat) := [none, none]
  /-- Canopy time from which cycle starts count: the lock of the island's clock or the last step; the cycle
  starts whose cycle has run (R241, R242). -/
  startAt : Nat := 0
  ran : List Nat := []
  /-- Per channel, the report entry that has reached the grid island (R18, R248). -/
  entries : List (List Nat) := List.replicate 8 (List.replicate 20 0)
  /-- Arm and epoch of the frames counted missing (R251). -/
  missed : List (Nat × Nat) := []
  /-- Per engine, when `DL_LIMIT` changed within a cycle: the cycle, and `LIMIT` and `MISS_MAX` that hold
  to its end (R94). -/
  limOld : List (Option (Nat × Nat × Nat)) := [none, none]
  deriving DecidableEq, Repr

/-- GE1's ride-through state (R276 to R291). -/
structure RideSt where
  /-- The last fresh quantities: U_pos and M_p in 1/16,384 pu, f in mHz. -/
  uPos : Rat := 0
  m : List Rat := [0, 0, 0]
  f : Rat := 0
  /-- Per curve: start of the excursion; since when the quantity is back past EXIT. -/
  exc : List (Option Nat) := [none, none, none, none]
  back : List (Option Nat) := [none, none, none, none]
  staleSince : Option Nat := none
  /-- Currents stored at the start of ride-through; at its end; starts of the ramps. -/
  idPre : Rat := 0
  iqPre : Rat := 0
  recAt : Option Nat := none
  recId : Rat := 0
  recIq : Rat := 0
  recI2 : Rat := 0
  mcRamp : Option Nat := none
  rtsRamp : Option Nat := none
  /-- Since when the return window holds; a clear was written since. -/
  rtsSince : Option Nat := none
  clearReq : Bool := false
  /-- `TRIP_CLR` was written in the present cycle before GE1 evaluated it; an excursion started in the present
  cycle (R300). -/
  clearNow : Bool := false
  excNew : Bool := false
  /-- A transfer trip command awaits a run-permitted frame (R291). -/
  ttBlock : Bool := false
  /-- Trip causes since the last evaluation by GE1, whose record it writes; the `REASON` of the last transfer
  trip (R289, R296, R300). -/
  causes : List Nat := []
  reason : Nat := 0
  deriving DecidableEq, Repr

/-- The islanding functions (R292 to R298). -/
structure IslSt where
  /-- f in mHz at the past cycles, newest first; f_ref. -/
  hist : List Rat := []
  fRef : Rat := 0
  /-- Since when the rate of change holds. -/
  rocofSince : Option Nat := none
  /-- The last cycle's phase step reached the vector-shift threshold. -/
  vsHit : Bool := false
  /-- Since when f or U is outside, or inside, the window. -/
  winOut : Option Nat := none
  winIn : Option Nat := none
  /-- Since when the active method's condition holds, or has cleared. -/
  actOn : Option Nat := none
  actOff : Option Nat := none
  /-- End of each indication's vote. -/
  vote : List (Option Nat) := [none, none, none, none]
  /-- End of the block after a ride-through. -/
  blockEnd : Option Nat := none
  /-- The bias in 0.01°. -/
  phi : Rat := 0
  /-- Since when synchronism is lost. -/
  syncSince : Option Nat := none
  /-- Accepted transfer trip payloads not yet acted on (R296). -/
  ttIn : List (List Nat) := []
  deriving DecidableEq, Repr

/-! ### Energy meter -/

/-- A sample delivered to the meter: its instant, its primary value in mV or mA before correction,
whether it is valid (R303, R304). -/
structure MeterSmp where
  t : Nat
  y : Rat
  ok : Bool
  deriving DecidableEq, Repr

/-- The quantities of one cycle (R307): rms values in mV and mA, peak phasors, powers in W, var, VA. -/
structure MeterQ where
  v : List Rat := [0, 0, 0]
  i : List Rat := [0, 0, 0]
  v1 : List (Rat × Rat) := [(0, 0), (0, 0), (0, 0)]
  i1 : List (Rat × Rat) := [(0, 0), (0, 0), (0, 0)]
  /-- The neutral's phasor. -/
  n1 : Rat × Rat := (0, 0)
  /-- Active, fundamental active and reactive, apparent power. -/
  p : List Rat := [0, 0, 0]
  p1 : List Rat := [0, 0, 0]
  q1 : List Rat := [0, 0, 0]
  s : List Rat := [0, 0, 0]
  deriving DecidableEq, Repr

/-- One pulse output (R314). -/
structure PulseSt where
  /-- The level of `MPULSEn`. -/
  high : Bool := false
  startAt : Option Nat := none
  /-- Width of the pulse in progress. -/
  w : Nat := 0
  /-- The register's increment in the last cycle, in its unit. -/
  dE : Rat := 0
  deriving DecidableEq, Repr

/-- The meter and its save engine (R303 to R324). -/
structure MeterSt where
  /-- Samples of the seven sources, newest first. -/
  smp : List (List MeterSmp) := List.replicate 7 []
  /-- The cycle in progress used a clipped sample; ran on nominal frequency. -/
  clip : Bool := false
  free : Bool := false
  /-- θ: (time, angle, angular frequency) at recent cycle starts of GE0, newest first (R305). -/
  angs : List (Nat × Rat × Rat) := []
  /-- Start of the cycle in progress: time and Canopy time in ns. -/
  start : Option (Nat × Int) := none
  /-- When the meter began to run. -/
  runAt : Nat := 0
  /-- Per phase, the last valid pair of the cycles before: its instant, voltage and current (R307). -/
  lastPair : List (Option (Nat × Rat × Rat)) := [none, none, none]
  /-- The last cycle's length in ns. -/
  tc : Nat := 0
  /-- The quantities of the last cycle, and of the last cycle that was not estimated. -/
  last : Option MeterQ := none
  valid : Option MeterQ := none
  /-- A cycle has been formed since the meter started (R310). -/
  formed : Bool := false
  /-- Hidden fractions of the energy registers, in 2^-32 units (R313). -/
  frac : List Nat := List.replicate 40 0
  /-- The pulse outputs (R314). -/
  pulse : List PulseSt := [{}, {}, {}, {}]
  /-- Connection checks: the condition, and since when it is so (R316). -/
  chk : List (Bool × Nat) := [(false, 0), (false, 0), (false, 0), (false, 0)]
  /-- The restore is complete; saves are made (R321). -/
  ready : Bool := false
  /-- Saves are made (R321). -/
  saving : Bool := false
  /-- The FRAM on `SAVE_CS0_N` (R317), as the save engine reads and writes it. -/
  fram : Memory := []
  /-- A record being written: address and bytes; when its write began; when the save port last came free of a
  save; when the host's read was asked for (R466, R467). -/
  write : Option (Nat × List Nat) := none
  writeAt : Nat := 0
  saveEnd : Nat := 0
  readAt : Nat := 0
  /-- The last heartbeat's write: its end and the bytes it replaced. -/
  beat : Option (Nat × List Nat) := none
  /-- Number of the last record; number of the last periodic record. -/
  seq : Nat := 0
  perSeq : Nat := 0
  /-- Largest total S since the previous record, and since the last periodic record, in VA. -/
  sPeak : Rat := 0
  sBeat : Rat := 0
  /-- Flags of the record in preparation (R318). -/
  quality : Bool := false
  estimated : Bool := false
  calNew : Bool := false
  /-- Periodic writes are stopped by `PFW_N`; when it rose; the first whole second is awaited. -/
  stopped : Bool := false
  riseAt : Option Nat := none
  resync : Bool := false
  /-- A final save was made in this low period. -/
  finalDone : Bool := false
  /-- Canopy times of the last periodic record, heartbeat and broadcast. -/
  perAt : Nat := 0
  beatAt : Nat := 0
  castAt : Nat := 0
  bseq : Nat := 0
  deriving DecidableEq, Repr

/-! ### Capture units -/

/-- One capture unit (R422 to R435). -/
structure CaptSt where
  /-- Armed by the host, not yet at a clock event; a stop waits for the set in progress. -/
  armReq : Bool := false
  stopReq : Bool := false
  /-- When the last clock event was taken; the set time of the last clock event. -/
  lastAt : Option Nat := none
  lastT : Option Nat := none
  /-- Input sets since the arm. -/
  nIn : Nat := 0
  /-- The group in progress (R425): its input sets, its time, per channel the least and greatest valid
  value, and whether the trigger fell in it. -/
  gNum : Nat := 0
  gTime : Nat := 0
  gVals : List (Option (Int × Int)) := []
  gTrig : Bool := false
  /-- CROSS: the last valid value with its time and input index; the value has been beyond the lower,
  the upper hysteresis bound (R431). -/
  prev : Option (Int × Nat × Nat) := none
  low : Bool := false
  high : Bool := false
  /-- Triggers waiting for their set: time and cause (R430, R435). -/
  pend : List (Nat × Nat) := []
  /-- Tap codes whose crossing into Heartwood overflowed since the last set (R423). -/
  xing : List Nat := []
  deriving DecidableEq, Repr

/-! ### The whole machine -/

/-- The state of the Boldazan. -/
structure State where
  /-- The time, in units of 1/32 ns. -/
  now : Nat
  /-- Commands waiting, first in first out. -/
  pending : List Instr
  /-- Register fields that differ from their reset value. -/
  regs : RegFile
  /-- Staged values of SH fields (R5, R91). -/
  staged : RegFile
  /-- Table memory, capture memory, the Growth Log and queue memory. -/
  mem : Memory
  /-- Bad bits of 64-bit words of the memories, by address (R21). -/
  ecc : RegFile
  /-- The last double-bit word recorded in table memory and in capture memory (R21). -/
  dblTable : Option Nat
  /-- The same for capture memory (R21). -/
  dblCapt : Option Nat
  /-- Shadow high words of SN pairs (R89): port (0 host, 1 debug), address of the low word, value. -/
  shadow : List (Nat × Nat × Nat)
  /-- The words the last read returned, oldest first. -/
  hostOut : List Nat
  /-- Events of the last 250 ns that a clear of the same clock cycle must not undo (R7): when, the key of the
  register field, and the bits that the event set, or 1 for an event counted. The model's own field. -/
  recent : List (Nat × Nat × Nat)
  /-- Free values used so far: the model's own counter (log entry 4). -/
  freeCtr : Nat
  /-- Clocks, reset and power. -/
  sys : SysSt
  /-- The fuses. -/
  fuse : FuseSt
  /-- Where the boot stands (R60). -/
  boot : BootPhase
  /-- The Canopy reference. -/
  canopyT : CanopySt
  /-- The log writer. -/
  log : LogSt
  /-- The ring engine. -/
  ring : RingSt
  /-- The queue engine. -/
  pod : PodSt
  /-- The 16 Gylen connections. -/
  gyl : List GylSt
  /-- The safety blocks. -/
  safe : SafeSt
  /-- Heartwood. -/
  hw : HwSt
  /-- The gateway. -/
  eth : EthSt
  /-- The eight cell channels. -/
  chan : List ChSt
  /-- The four cell-pair converters and the grid converter. -/
  sar : List SarSt
  /-- Converters waiting for the rover, in order (R133). -/
  roverQ : List Nat
  /-- GE0's and GE1's inputs. -/
  engs : List EngSt
  /-- The arm functions. -/
  arm : ArmSt
  /-- Ride-through. -/
  ride : RideSt
  /-- Islanding. -/
  isl : IslSt
  /-- The meter. -/
  meter : MeterSt
  /-- The capture units. -/
  capt : List CaptSt
  deriving DecidableEq, Repr

/-- The machine right after the release of a power-on reset (R38, R48, R60). -/
def State.reset : State where
  now := 0
  pending := []
  -- The live bit CLK.PLL_STAT.XTAL_GOOD: no reset is released while the crystal is not good (R43).
  regs := [((0x02 * 4096 + 0x040) * 32 + 16, 1)]
  staged := []
  mem := []
  ecc := []
  dblTable := none
  dblCapt := none
  shadow := []
  hostOut := []
  recent := []
  freeCtr := 0
  sys := {}
  fuse := {}
  boot := .started
  canopyT := {}
  log := {}
  ring := {}
  pod := {}
  gyl := List.replicate 16 {}
  safe := {}
  hw := {}
  eth := {}
  chan := List.replicate 8 {}
  sar := List.replicate 5 {}
  roverQ := []
  engs := [{}, {}]
  arm := {}
  ride := {}
  isl := {}
  meter := {}
  capt := List.replicate 8 {}

end Sys2Proof.Machine
end

