-- ==== Sys2Proof/Machine/Ops.lean ====
section
/-! DEFINITION. The operations every block uses: time, the register file, counts and interrupt bits,
the Growth Log's submission, staged values, snapshots. -/

namespace Sys2Proof.Machine

/-- Time units of 1/32 ns. -/
def ns (n : Nat) : Nat := n * 32
/-- Microseconds in time units. -/
def us (n : Nat) : Nat := n * 32000
/-- Milliseconds in time units. -/
def ms (n : Nat) : Nat := n * 32000000
/-- Seconds in time units. -/
def secs (n : Nat) : Nat := n * 32000000000

/-- The time between two commands passes (log entry 2). -/
def State.elapse (s : State) (dt : Nat) : State := { s with now := s.now + dt }

/-! ### Parts of the state changed -/

/-- The clock, reset and power state changed. -/
def State.modSys (s : State) (f : SysSt → SysSt) : State := { s with sys := f s.sys }
/-- The ring engine changed. -/
def State.modRing (s : State) (f : RingSt → RingSt) : State := { s with ring := f s.ring }
/-- The queue engine changed. -/
def State.modPod (s : State) (f : PodSt → PodSt) : State := { s with pod := f s.pod }
/-- The log writer changed. -/
def State.modLog (s : State) (f : LogSt → LogSt) : State := { s with log := f s.log }
/-- The safety blocks changed. -/
def State.modSafe (s : State) (f : SafeSt → SafeSt) : State := { s with safe := f s.safe }
/-- Heartwood changed. -/
def State.modHw (s : State) (f : HwSt → HwSt) : State := { s with hw := f s.hw }
/-- The gateway changed. -/
def State.modEth (s : State) (f : EthSt → EthSt) : State := { s with eth := f s.eth }
/-- The Canopy reference changed. -/
def State.modCanopy (s : State) (f : CanopySt → CanopySt) : State := { s with canopyT := f s.canopyT }

/-! ### Fields -/

/-- The value of a field. -/
def State.get (s : State) (r : Reg) : Nat := s.regs.get r
/-- The value of a field as a two's-complement number. -/
def State.geti (s : State) (r : Reg) : Int := sx r.width (s.regs.get r)
/-- The field is not 0. -/
def State.flag (s : State) (r : Reg) : Bool := decide (s.regs.get r ≠ 0)

/-- A field written by the device. A BO field is never written here: only boot writes it (R74). -/
def State.set (s : State) (r : Reg) (v : Nat) : State :=
  if r.acc = .bo then s else { s with regs := s.regs.set r v }
/-- A field written with a two's-complement number, saturated to its width. -/
def State.setI (s : State) (r : Reg) (v : Int) : State := s.set r (ux r.width (satI r.width v))
/-- An event of the field under `key` is noted: the bits it set, or 1 for a count (R7, log entry 9). Events
older than any island's cycle are forgotten. -/
def State.note (s : State) (key bits : Nat) : State :=
  { s with recent := (s.now, key, bits) :: s.recent.filter (fun e => decide (s.now < e.1 + 8000)) }
/-- The event of a W1C field is noted. -/
def State.noteW1c (s : State) (r : Reg) (bits : Nat) : State :=
  if r.acc = .w1c then s.note r.key bits else s
/-- A one-bit field written. -/
def State.setB (s : State) (r : Reg) (b : Bool) : State :=
  if b then (s.set r 1).noteW1c r 1 else s.set r 0
/-- A field written by the boot ROM (R74). -/
def State.setBoot (s : State) (r : Reg) (v : Nat) : State := { s with regs := s.regs.set r v }
/-- A count that saturates (R5, the counters of the chapters). -/
def State.inc (s : State) (r : Reg) : State :=
  (if s.get r + 1 < 2 ^ r.width then s.set r (s.get r + 1) else s).note r.key 1
/-- A count that wraps. -/
def State.incWrap (s : State) (r : Reg) : State := s.set r ((s.get r + 1) % 2 ^ r.width)
/-- A bit of a mask field set. -/
def State.setMaskBit (s : State) (r : Reg) (b : Nat) : State :=
  (s.set r (setBit (s.get r) b)).noteW1c r (2 ^ b)
/-- A bit of a mask field written. -/
def State.putMaskBit (s : State) (r : Reg) (b : Nat) (v : Bool) : State :=
  s.set r (putBit (s.get r) b v)
/-- A field clipped to its width from above (readouts that saturate). -/
def State.setSat (s : State) (r : Reg) (v : Nat) : State := s.set r (satN r.width v)

/-- The staged value of an SH field: the staged one, else the active one (R5, R91). -/
def State.stagedOf (s : State) (r : Reg) : Nat := (s.staged.lookup r.key).getD (s.get r)
/-- A value staged (R5). -/
def State.stage (s : State) (r : Reg) (v : Nat) : State :=
  { s with staged := s.staged.insert r.key (v % 2 ^ r.width) }
/-- A staged value under the key of its field. -/
def State.stageKey (s : State) (k v : Nat) : State := { s with staged := s.staged.insert k v }
/-- Every staged value of the page's fields made active (R91). -/
def State.applyStaged (s : State) (p : Nat) : State :=
  (pageFields p).foldl
    (fun t r =>
      match t.staged.lookup r.key with
      | some v => { t.set r v with staged := t.staged.erase r.key }
      | none => t) s
/-- Every staged value of the page reloaded from its active value (R92). -/
def State.dropStaged (s : State) (p : Nat) : State :=
  { s with staged := s.staged.filter (fun kv => decide (kv.1 / (4096 * 32) ≠ p)) }

/-- The 32-bit word at an offset of a page, from the active values of its fields. -/
def State.wordOf (s : State) (p ofs : Nat) : Nat :=
  ((pageFields p).filter (fun r => r.ofs = ofs)).foldl (fun w r => w + s.get r * 2 ^ r.lo) 0

/-! ### Lock, modes -/

/-- The lock is set (R74). -/
def State.locked (s : State) : Bool := s.flag R.BOOT_BOOT_STAT_LOCKED
/-- The device is in Quarantine (R78). -/
def State.quarantine (s : State) : Bool := s.flag R.BOOT_BOOT_STAT_QUARANTINE
/-- Canopy time is not locked (R32). -/
def State.syncLost (s : State) : Bool := s.flag R.CANOPY_STATUS_SYNC_LOST

/-- The cell island's clock runs. -/
def State.cellRuns (s : State) (x : Nat) : Bool :=
  !s.sys.inReset && (s.sys.pllCell.getD x .off = .locked)
/-- The grid island's clock runs. -/
def State.gridRuns (s : State) : Bool := !s.sys.inReset && (s.sys.pllGrid = .locked)
/-- The SAR island's clock runs. -/
def State.sarRuns (s : State) : Bool := !s.sys.inReset && (s.sys.pllSar = .locked)
/-- The Vodor island's clock runs. -/
def State.vodRuns (s : State) : Bool := !s.sys.inReset && (s.sys.pllVod = .locked)
/-- The host island's clock runs. -/
def State.hostRuns (s : State) : Bool := !s.sys.inReset && (s.sys.pllHost = .locked)
/-- The Heartwood island's clock runs. -/
def State.hwRuns (s : State) : Bool := !s.sys.inReset && (s.sys.pllHw = .locked)

/-- The clock of the island that serves a page runs (R84). Burl and the always-on island run out of
reset and always. -/
def State.islandRuns (s : State) (i : PageIsland) : Bool :=
  match i with
  | .host => s.hostRuns
  | .heartwood => s.hwRuns
  | .grid => s.gridRuns
  | .aon => true
  | .sar => s.sarRuns
  | .cell x => s.cellRuns x
  | .vodor => s.vodRuns
  | .burl => !s.sys.inReset

/-- The number of the island's clock cycle at time `t` (R15's table): cycles are counted from time 0
(log entry 9). -/
def PageIsland.cycle (i : PageIsland) (t : Nat) : Nat :=
  match i with
  | .host => t / 256
  | .heartwood => t * 3 / 320
  | .grid => t / 64
  | .aon => t / 8000
  | .sar => t / 400
  | .cell _ => t / 80
  | .vodor => t * 5 / 512
  | .burl => t * 3 / 2000

/-- The events of a field in the clock cycle now. -/
def State.metNow (s : State) (r : Reg) : List Nat :=
  match pageInfo r.page with
  | none => []
  | some i => (s.recent.filter (fun e => decide (e.2.1 = r.key) && decide (i.isl.cycle e.1 = i.isl.cycle s.now))).map
      (fun e => e.2.2)

/-- The bits of a field that events of this cycle have set (R7). -/
def State.bitsNow (s : State) (r : Reg) : Nat := (s.metNow r).foldl (fun m b => m ||| b) 0

/-- The events that a count has taken in this cycle. -/
def State.countNow (s : State) (r : Reg) : Nat := (s.metNow r).length

/-- Bits of a field cleared, but for those that an event of the same cycle sets (R7). -/
def State.clearBits (s : State) (r : Reg) (v : Nat) : State :=
  let hit := s.get r &&& v
  s.set r (s.get r - (hit - (hit &&& s.bitsNow r)))

/-- A count cleared: the events of the same cycle are counted from 0. -/
def State.clearCount (s : State) (r : Reg) : State := s.setSat r (s.countNow r)

/-! ### Streaming crossings (R18) -/

/-- The next word of crossing `k` is discarded. -/
def State.lostNext (s : State) (k : Nat) : Bool := s.sys.lostWord.contains k
/-- The discarded word of crossing `k` is gone. -/
def State.takeLost (s : State) (k : Nat) : State :=
  s.modSys (fun d => { d with lostWord := d.lostWord.erase k })

/-! ### Canopy time -/

/-- The Canopy reference at time `t`, exactly, in ns (R358). -/
def CanopySt.at (c : CanopySt) (t : Nat) : Rat :=
  let d : Rat := ((t - c.t0 : Nat) : Rat) / 32
  let part : Rat := if d < 1000000 then d / 1000000 else 1
  c.base + d * (1 - c.y / 1000000) + c.slew * part

/-- Canopy time now in whole ns (R11). -/
def State.canopy (s : State) : Nat := (s.canopyT.at s.now).floor.toNat % 2 ^ 64

/-- The start of the island's clock cycle in which the time `t` lies, rounded up to a time unit (R15's table).
Burl and the always-on island keep no Canopy copy: their events are stamped in Heartwood (R29, R30). -/
def PageIsland.edge (i : PageIsland) (t : Nat) : Nat :=
  match i with
  | .host => t / 256 * 256
  | .grid => t / 64 * 64
  | .sar => t / 400 * 400
  | .cell _ => t / 80 * 80
  | .vodor => ceilDiv (t * 5 / 512 * 512) 5
  | .heartwood | .aon | .burl => ceilDiv (t * 3 / 320 * 320) 3

/-- The stamp of an event of page `p` that happens now (R29, R30): the copy of Canopy time of the page's
island, at that island's clock resolution. -/
def State.stamp (s : State) (p : Nat) : Nat :=
  match pageInfo p with
  | none => s.canopy
  | some i => (s.canopyT.at (i.isl.edge s.now)).floor.toNat % 2 ^ 64

/-- The reference rebased to now: its reading does not change, a slew in progress ends. -/
def State.rebase (s : State) : State :=
  { s with canopyT := { s.canopyT with t0 := s.now, base := s.canopyT.at s.now, slew := 0 } }

/-- The always-on coarse count now, in steps of 1/32,768 s (R494). -/
def State.coarseNow (s : State) : Nat :=
  s.canopyT.coarse + (s.now - s.canopyT.coarseAt) * 32768 / 32000000000

/-! ### The Growth Log's submission -/

/-- A record submitted to the log writer (R439, R440). -/
def State.submit (s : State) (r : LogRec) : State :=
  if s.log.queue.length < 256 then { s with log := { s.log with queue := s.log.queue ++ [r] } }
  else
    let s := s.inc R.GLOG_CNT_LOST
    let s := s.setB R.GLOG_STATUS_LOST_SEEN true
    { s with log := { s.log with lost := s.log.lost + 1 } }

/-- A record of the event that happens now (R436 to R438). -/
def State.logIt (s : State) (page sev code : Nat) (data : List Nat) (origin : Nat := 0) : State :=
  s.submit ⟨s.stamp page, s.syncLost, page, sev, code, slice data 0 17, origin⟩

/-! ### Counts and interrupt bits -/

/-- The page has an interrupt pending (R96). -/
def State.pagePending (s : State) (p : Nat) : Bool :=
  decide (s.get (H.IRQ_RAW p) &&& s.get (H.IRQ_EN p) ≠ 0)

/-- The rise or fall of a page's pending interrupt is noted for the event notices (R386). -/
def State.noteRise (s : State) (p : Nat) : State :=
  if s.pagePending p then
    if s.pod.raised.contains p then s
    else
      { s with pod := { s.pod with raised := p :: s.pod.raised,
                                   rises := s.pod.rises ++ [(p, s.stamp p)] } }
  else { s with pod := { s.pod with raised := s.pod.raised.filter (fun q => decide (q ≠ p)) } }

/-- Interrupt event `b` of page `p` latches (R96). -/
def State.irq (s : State) (p b : Nat) : State :=
  ((s.set (H.IRQ_RAW p) (setBit (s.get (H.IRQ_RAW p)) b)).note (H.IRQ_RAW p).key (2 ^ b)).noteRise p

/-- An error charged to page `p` (R86). -/
def State.err (s : State) (p : Nat) : State := (s.inc (H.ERR_COUNT p)).irq p 30

/-- An error charged to `HOST` for the access at `addr` (R82, R468). -/
def State.errHost (s : State) (addr : Nat) : State :=
  (s.err pgHost).set R.HOST_LAST_ERR_ADDR addr

/-- Host writes to page `p` are accepted now (R61, R78, the bit `LOCK.WRITABLE` of R85). -/
def State.hostOk (s : State) (p : Nat) : Bool :=
  p == pgHost || (s.locked && (!s.quarantine || p == pgMbox))

/-- A write that reaches page `p` at offset `ofs` and has the effect `f` on the page: ignored and counted
while the page takes no host write (R61, R78), without effect while the island that serves the page
has no clock. -/
def State.pageAct (s : State) (p ofs : Nat) (f : State → State) : State :=
  if !s.hostOk p then s.errHost (p * 4096 + ofs)
  else
    match pageInfo p with
    | none => s.errHost (p * 4096 + ofs)
    | some i => if s.islandRuns i.isl then f s else s

/-- The same from the host's own port, which serves nothing while the host island has no clock (R452). -/
def State.hostAct (s : State) (p ofs : Nat) (f : State → State) : State :=
  if s.hostRuns then s.pageAct p ofs f else s

/-- The `STATUS` word of a page, header bits included (R85). -/
def State.statusWord (s : State) (p : Nat) : Nat :=
  s.wordOf p 0x00C + s.get (H.SNAP_SEQ p) * 2 ^ 16 + s.get (H.DL_RUN p) * 2 ^ 29
    + s.get (H.SNAP_ORDER_ERR p) * 2 ^ 31

/-- Event `b` of page `p` latches and is recorded at severity `sev` with the page's `STATUS` (R438). -/
def State.irqLog (s : State) (p b sev : Nat) (origin : Nat := 0) : State :=
  let s := s.irq p b
  s.logIt p sev (0x100 + b) (bytesLE 4 (s.statusWord p)) origin

/-- The same with other data. -/
def State.irqLogD (s : State) (p b sev : Nat) (data : List Nat) (origin : Nat := 0) : State :=
  (s.irq p b).logIt p sev (0x100 + b) data origin

/-! ### Deadlines (R94, R95) -/

/-- A deadline pair: its page, its `LIMIT` and `MISS_MAX`, its count fields. -/
structure DlPair where
  page : Nat
  ofs : Nat
  limit : Reg
  max : Reg
  total : Reg
  run : Reg
  deriving DecidableEq, Repr

/-- The deadline pairs of the table of R95, with the SENSE pair of R121, by page and `DL_LIMIT`
offset. -/
def dlPair (p ofs : Nat) : Option DlPair :=
  let mk (l m t r : Reg) : DlPair := ⟨p, ofs, l, m, t, r⟩
  if p = pgCanopy ∧ ofs = 0x060 then
    some (mk R.CANOPY_DL_LIMIT_LIMIT R.CANOPY_DL_LIMIT_MISS_MAX R.CANOPY_DL_COUNT_TOTAL R.CANOPY_DL_COUNT_RUN)
  else if 0x08 ≤ p ∧ p ≤ 0x0C ∧ ofs = 0x060 then
    some (mk (R.SAR_DL_LIMIT_LIMIT (p - 8)) (R.SAR_DL_LIMIT_MISS_MAX (p - 8))
      (R.SAR_DL_COUNT_TOTAL (p - 8)) (R.SAR_DL_COUNT_RUN (p - 8)))
  else if 0x10 ≤ p ∧ p ≤ 0x17 ∧ ofs = 0x078 then
    some (mk (R.SENSE_DL_LIMIT_LIMIT (p - 0x10)) (R.SENSE_DL_LIMIT_MISS_MAX (p - 0x10))
      (R.SENSE_DL_COUNT_TOTAL (p - 0x10)) (R.SENSE_DL_COUNT_RUN (p - 0x10)))
  else if 0x28 ≤ p ∧ p ≤ 0x2F ∧ ofs = 0x070 then
    some (mk (R.KE_DL_LIMIT_LIMIT (p - 0x28)) (R.KE_DL_LIMIT_MISS_MAX (p - 0x28))
      (R.KE_DL_COUNT_TOTAL (p - 0x28)) (R.KE_DL_COUNT_RUN (p - 0x28)))
  else if (p = 0x40 ∨ p = 0x41) ∧ ofs = 0x0A4 then
    some (mk (R.GE_DL_LIMIT_LIMIT (p - 0x40)) (R.GE_DL_LIMIT_MISS_MAX (p - 0x40))
      (R.GE_DL_COUNT_TOTAL (p - 0x40)) (R.GE_DL_COUNT_RUN (p - 0x40)))
  else if p = pgGylen ∧ 0x050 ≤ ofs ∧ ofs ≤ 0x230 ∧ (ofs - 0x050) % 0x20 = 0 then
    let n := (ofs - 0x050) / 0x20
    some (mk (R.GYLEN_DL_LIMIT_LIMIT n) (R.GYLEN_DL_LIMIT_MISS_MAX n)
      (R.GYLEN_DL_COUNT_TOTAL n) (R.GYLEN_DL_COUNT_RUN n))
  else if p = pgMbox ∧ ofs = 0x0D0 then
    some (mk R.MBOX_DL_LIMIT_SAFETY_LIMIT R.MBOX_DL_LIMIT_SAFETY_MISS_MAX
      R.MBOX_DL_COUNT_SAFETY_TOTAL R.MBOX_DL_COUNT_SAFETY_RUN)
  else if p = pgMbox ∧ ofs = 0x0D8 then
    some (mk R.MBOX_DL_LIMIT_GYLEN_LIMIT R.MBOX_DL_LIMIT_GYLEN_MISS_MAX
      R.MBOX_DL_COUNT_GYLEN_TOTAL R.MBOX_DL_COUNT_GYLEN_RUN)
  else if p = pgMbox ∧ ofs = 0x0E0 then
    some (mk R.MBOX_DL_LIMIT_HOUSE_LIMIT R.MBOX_DL_LIMIT_HOUSE_MISS_MAX
      R.MBOX_DL_COUNT_HOUSE_TOTAL R.MBOX_DL_COUNT_HOUSE_RUN)
  else if p = pgMbox ∧ ofs = 0x0E8 then
    some (mk R.MBOX_DL_LIMIT_MAIL_LIMIT R.MBOX_DL_LIMIT_MAIL_MISS_MAX
      R.MBOX_DL_COUNT_MAIL_TOTAL R.MBOX_DL_COUNT_MAIL_RUN)
  else none

/-- The `DL_LIMIT` offsets of a page's pairs. -/
def dlOffsets (p : Nat) : List Nat :=
  if p = pgCanopy ∨ (0x08 ≤ p ∧ p ≤ 0x0C) then [0x060]
  else if 0x10 ≤ p ∧ p ≤ 0x17 then [0x078]
  else if 0x28 ≤ p ∧ p ≤ 0x2F then [0x070]
  else if p = 0x40 ∨ p = 0x41 then [0x0A4]
  else if p = pgGylen then (List.range 16).map (fun n => 0x050 + 0x20 * n)
  else if p = pgMbox then [0x0D0, 0x0D8, 0x0E0, 0x0E8]
  else []

/-- The escalation of the pair is critical (R95): KEx, GE0, GE1 and the safety slice. -/
def dlCritical (p ofs : Nat) : Bool :=
  (decide (0x28 ≤ p) && decide (p ≤ 0x2F)) || decide (p = 0x40) || decide (p = 0x41)
    || (decide (p = pgMbox) && decide (ofs = 0x0D0))

/-- A miss is counted and recorded (R95), with the `MISS_MAX` of its interval. The result says whether the
miss escalates: `RUN` has reached a non-zero `MISS_MAX`. -/
def State.dlMissMax (s : State) (d : DlPair) (mx : Nat) : State × Bool :=
  let run := s.get d.run
  let first := decide (run = 0)
  let s := (s.inc d.total).inc d.run
  let s := (s.setB (H.DL_RUN d.page) true).irq d.page 31
  let s := if first then s.logIt d.page 1 0x0001 (bytesLE 2 d.ofs) else s
  if mx ≠ 0 ∧ run + 1 = mx then
    (s.logIt d.page (if dlCritical d.page d.ofs then 2 else 1) 0x0002 (bytesLE 2 d.ofs), true)
  else (s, false)

/-- A miss with the `MISS_MAX` of the pair's register. -/
def State.dlMiss (s : State) (d : DlPair) : State × Bool := s.dlMissMax d (s.get d.max)

/-- A deadline met: `RUN` is 0, and `DL_RUN` falls once no pair of the page has a run (R95). -/
def State.dlMeet (s : State) (d : DlPair) : State :=
  let s := s.set d.run 0
  s.setB (H.DL_RUN d.page) ((dlOffsets d.page).any (fun o =>
    match dlPair d.page o with
    | some e => decide (s.get e.run ≠ 0)
    | none => false))

/-! ### Memory errors (R21) -/

/-- Bad bits of the 64-bit word at an 8-byte-aligned address. -/
def State.badBits (s : State) (a : Nat) : Nat := (s.ecc.lookup (a / 8 * 8)).getD 0

/-- A word stored with fresh check bits: no bad bit is left. -/
def State.clearBad (s : State) (a : Nat) : State :=
  { s with ecc := s.ecc.erase (a / 8 * 8),
           dblTable := if s.dblTable = some (a / 8 * 8) then none else s.dblTable,
           dblCapt := if s.dblCapt = some (a / 8 * 8) then none else s.dblCapt }

/-- A double-bit error found by a read charged to `page` is recorded, unless that word's error was
the last one so recorded in its region (R21). -/
def State.recordDouble (s : State) (page a : Nat) : State :=
  let w := a / 8 * 8
  if inRegion logBase logSize w then s
  else if inRegion captBase captSize w then
    if s.dblCapt = some w then s
    else { s.logIt page 2 0x0003 (bytesLE 4 w) with dblCapt := some w }
  else if s.dblTable = some w then s
  else { s.logIt page 2 0x0003 (bytesLE 4 w) with dblTable := some w }

/-- One 32-bit word read from a SECDED region, charged to `page` (R21): the corrected word, or none
for a double-bit error, and the state with the error counted or recorded. -/
def State.readEcc (s : State) (page a : Nat) : Option Nat × State :=
  let n := s.badBits a
  if n = 0 then (some (s.mem.word a), s)
  else if n = 1 then (some (s.mem.word a), s.err page)
  else (none, s.recordDouble page a)

/-- A free value: the next one (log entry 4). -/
def State.fresh (s : State) : Nat × State :=
  (Config.freeValue s.freeCtr, { s with freeCtr := s.freeCtr + 1 })

end Sys2Proof.Machine
end

