-- ==== Sys2Proof/Machine/Channel.lean ====
section
/-! DEFINITION. The cell channel's shared operations: fault sources and groups (R155, R156, R170 to
R175), the channel fault (R160), the bypass hold (R178 to R181), the Husk state (R182) and forced
leaves (R226). -/

namespace Sys2Proof.Machine

/-- A cell-island cycle in time units. -/
def cellCycle : Nat := 80

/-- Channel `x`. -/
def State.ch (s : State) (x : Nat) : ChSt := s.chan.getD x {}
/-- Channel `x` changed. -/
def State.setCh (s : State) (x : Nat) (f : ChSt → ChSt) : State :=
  { s with chan := s.chan.modify x f }
/-- The PWM of channel `x` changed. -/
def State.setPwm (s : State) (x : Nat) (f : PwmSt → PwmSt) : State :=
  s.setCh x (fun c => { c with pwm := f c.pwm })
/-- Leg `y` of channel `x`. -/
def State.leg (s : State) (x y : Nat) : LegSt := (s.ch x).pwm.legs.getD y {}
/-- Leg `y` changed. -/
def State.setLeg (s : State) (x y : Nat) (f : LegSt → LegSt) : State :=
  s.setPwm x (fun p => { p with legs := p.legs.modify y f })
/-- The guard of channel `x` changed. -/
def State.setGuard (s : State) (x : Nat) (f : GuardSt → GuardSt) : State :=
  s.setCh x (fun c => { c with guard := f c.guard })
/-- Group `g` of channel `x`. -/
def State.group (s : State) (x g : Nat) : GroupSt := (s.ch x).guard.groups.getD g {}
/-- Group `g` changed. -/
def State.setGroup (s : State) (x g : Nat) (f : GroupSt → GroupSt) : State :=
  s.setGuard x (fun d => { d with groups := d.groups.modify g f })
/-- The Kernel of channel `x` changed. -/
def State.setKe (s : State) (x : Nat) (f : KeSt → KeSt) : State :=
  s.setCh x (fun c => { c with ke := f c.ke })
/-- The cell power block of channel `x` changed. -/
def State.setCell (s : State) (x : Nat) (f : CellSt → CellSt) : State :=
  s.setCh x (fun c => { c with cell := f c.cell })

/-- Cell states of R221. -/
def csHusk : Nat := 0
def csWaitDc : Nat := 1
def csJoining : Nat := 2
def csRun : Nat := 3
def csShell : Nat := 4
def csLeaving : Nat := 5
def csStuck : Nat := 6

/-- `CELLx.STATUS.STATE`. -/
def State.cellState (s : State) (x : Nat) : Nat := s.get (R.CELL_STATUS_STATE x)

/-- Burl's gate-enable line `x` is active (R395). -/
def State.gateLine (s : State) (x : Nat) : Bool := s.safe.lines.testBit x

/-! ### Sources and the map -/

/-- Fault source `n` is active (R155). -/
def State.source (s : State) (x n : Nat) : Bool :=
  if n < 32 then (s.get (R.PWM_FSRC_LO_ACTIVE x)).testBit n
  else (s.get (R.PWM_FSRC_HI_ACTIVE x)).testBit (n - 32)

/-- The readout of source `n` written. -/
def State.putSource (s : State) (x n : Nat) (v : Bool) : State :=
  if n < 32 then s.putMaskBit (R.PWM_FSRC_LO_ACTIVE x) n v
  else s.putMaskBit (R.PWM_FSRC_HI_ACTIVE x) (n - 32) v

/-- The group of source `n`, when it is mapped (R156). -/
def State.mapped (s : State) (x n : Nat) : Option Nat :=
  if s.flag (R.PWM_FMAP_EN x (n / 4) (n % 4)) then some (s.get (R.PWM_FMAP_GROUP x (n / 4) (n % 4)))
  else none

/-- An active source is mapped to group `g`. -/
def State.groupSourced (s : State) (x g : Nat) : Bool :=
  (List.range 36).any (fun n => s.source x n && decide (s.mapped x n = some g))

/-- Group `g` is active (R156). -/
def State.groupActive (s : State) (x g : Nat) : Bool := (s.get (R.PWM_GRP_ACT_ACTIVE x)).testBit g

/-- Group actions of R156. -/
def gaReport : Nat := 0
def gaSwitchOff : Nat := 1
def gaLegOff : Nat := 2
def gaCellOff : Nat := 3
def gaChannelFault : Nat := 4

/-- The filtered inputs of the guard: `SC_N` 0 to 7, `RDY` 8 to 11, `TRIP_N` 12 to 15, `BYP_FB` 16. Input
`k` has held its other level for `t` time units since it last changed (R162, R166, R169, R181). -/
def State.filtered (s : State) (x k t : Nat) : Bool :=
  match (s.ch x).guard.filtAt.getD k none with
  | none => true
  | some u => decide (u + t ≤ s.now)

/-- Filtered input `k` has changed now. -/
def State.filterTaken (s : State) (x k : Nat) : State :=
  s.setGuard x (fun d => { d with filtAt := d.filtAt.set k (some s.now) })

/-- The filter times: `SC_N` (R162), `RDY` (R166), `TRIP_N` (R169), `BYP_FB` (R181). -/
def State.filterTime (s : State) (x k : Nat) : Nat :=
  if k < 8 then (s.get (R.GUARD_SC_CFG_FILT x) + 1) * cellCycle
  else if k < 12 then s.get (R.GUARD_RDY_CFG_FILT x) * 3200
  else if k < 16 then 4 * cellCycle
  else us 20

/-- Input `k` may change its filtered level now. -/
def State.filterDone (s : State) (x k : Nat) : Bool := s.filtered x k (s.filterTime x k)

/-- Both outputs of every leg of which `out` names either switch. -/
def legsOf (out : Nat) : Nat :=
  (List.range 4).foldl (fun m y => if bitsOf out (2 * y) 2 ≠ 0 then m + 3 * 4 ^ y else m) 0

/-- The outputs an active group holds off (R156, R171, R172). -/
def State.groupHold (s : State) (x g : Nat) : Nat :=
  let out := s.get (R.PWM_GRP_OUT x g)
  let act := s.get (R.PWM_GRP_ACTION x g)
  if s.flag (R.GUARD_GSTAT_LATCHED x g) ∧ s.get (R.GUARD_GCFG_LATCH_ACT x g) = 1 then 0xFF
  else if act = gaSwitchOff then
    (if s.flag (R.GUARD_GSTAT_ESCALATED x g) then legsOf out else out)
  else if act = gaLegOff then legsOf out
  else if act = gaCellOff ∨ act = gaChannelFault then 0xFF
  else 0

/-- Every output of the channel held off: by a group, an unused leg (R177), blanking (R167) or the
zero-state substitution (R225). Bit 2y is the high side of leg y. -/
def State.heldOff (s : State) (x : Nat) : Nat :=
  let groups := (List.range 16).foldl
    (fun m g => if s.groupActive x g then m ||| s.groupHold x g else m) 0
  let unused := (List.range 4).foldl
    (fun m y => if (s.get (R.GUARD_LEG_USE_USE x)).testBit y then m else m + 3 * 4 ^ y) 0
  let blank := (List.range 4).foldl
    (fun m y => if (s.get (R.GUARD_SC_STAT_BLANKED x)).testBit y then m + 4 ^ y else m) 0
  groups ||| unused ||| blank ||| (if (s.ch x).cell.subst then 0x0F else 0)

/-- The demand of a switch at the shoot-through guard's input (R149): the PWM's after the guard's holds, or a
fault upstream. -/
def State.demand (s : State) (x y : Nat) (high : Bool) : Bool :=
  (s.leg x y).both || (s.flag (R.PWM_STATUS_RUN x)
    && decide ((if high then (s.leg x y).h.st else (s.leg x y).l.st) = SwState.on)
    && !(s.heldOff x).testBit (2 * y + (if high then 0 else 1)))

/-- The level of `GD_x_yH` or `GD_x_yL` (R26, R149, R158): the demand, unless the other switch of the
leg is demanded too, gated by Burl's line, the clock and the reset. -/
def State.gd (s : State) (x y : Nat) (high : Bool) : Bool :=
  s.demand x y high && !s.demand x y (!high) && s.gateLine x && s.cellRuns x

/-- The protection of the used legs is complete (R175). -/
def State.mapComplete (s : State) (x : Nat) : Bool :=
  let covers (n need : Nat) : Bool :=
    match s.mapped x n with
    | none => false
    | some g =>
      let act := s.get (R.PWM_GRP_ACTION x g)
      act == gaCellOff || act == gaChannelFault
        || (act != gaReport && (s.get (R.PWM_GRP_OUT x g) &&& need) == need)
  (List.range 4).all (fun y =>
    !(s.get (R.GUARD_LEG_USE_USE x)).testBit y
      || (covers (12 + 2 * y) (4 ^ y) && covers (13 + 2 * y) (2 * 4 ^ y) && covers (20 + y) (3 * 4 ^ y)))

/-- The guard's `STATUS` brought up to date; entry into the Husk state latches bit 18 (R175, R182). -/
def State.guardSync (s : State) (x : Nat) : State :=
  let s := s.setB (R.GUARD_STATUS_MAP_OK x) (s.mapComplete x)
  let s := s.setB (R.GUARD_STATUS_ANY_LATCHED x)
    ((List.range 16).any (fun g => s.flag (R.GUARD_GSTAT_LATCHED x g)))
  let husk := !s.flag (R.PWM_CTRL_EN x) && !s.flag (R.GUARD_BYP_STAT_HOLD_ON x) && !(s.ch x).cell.cmd
  let was := s.flag (R.GUARD_STATUS_HUSK x)
  let s := s.setB (R.GUARD_STATUS_HUSK x) husk
  if husk && !was then s.irq (pgGuard x) 18 else s

/-! ### Bypass hold -/

/-- The conditions of R178. -/
def State.mayHold (s : State) (x : Nat) : Bool :=
  (s.ch x).cell.cmd && !s.flag (R.PWM_STATUS_CH_FAULT x) && s.gateLine x && s.cellRuns x

/-- `BYP_HOLD_x` toggles or is static as R178 says, and the check of the change starts (R181). -/
def State.holdSync (s : State) (x : Nat) : State :=
  let on := s.flag (R.GUARD_BYP_STAT_HOLD_ON x)
  let fb := s.flag (R.GUARD_BYP_STAT_FB_OPEN x)
  let s :=
    if s.mayHold x then
      if on then s
      else
        (s.setB (R.GUARD_BYP_STAT_HOLD_ON x) true).setGuard x (fun d =>
          { d with holdAt := s.now, closeDue := none, openOk := fb,
                   openDue := if fb then none else some (s.now + ms (s.get (R.GUARD_BYP_CFG_OPEN_MS x))) })
    else if on then
      (s.setB (R.GUARD_BYP_STAT_HOLD_ON x) false).setGuard x (fun d =>
        { d with openDue := none, openOk := false,
                 closedOk := !fb,
                 closeDue := if fb then some (s.now + ms (s.get (R.GUARD_BYP_CFG_CLOSE_MS x))) else none })
    else s
  s.guardSync x

/-! ### Stopping -/

/-- The outputs low at once, every switch OFF, any refresh abandoned, `EN` 0 (R158). Blanking that has begun
runs its time (R167). -/
def State.pwmStop (s : State) (x : Nat) : State :=
  let s := (s.setB (R.PWM_CTRL_EN x) false).setB (R.PWM_STATUS_RUN x) false
  (s.setPwm x (fun p =>
    { p with enAt := none,
             legs := p.legs.map (fun l => { l with h := {}, l := {}, refresh := none }) })).guardSync x

/-- A stopped Kernel: no holdover is in progress (R217), no deadline is judged (R212), and no schedule
change goes on (R205). -/
def State.keHalted (s : State) (x : Nat) : State :=
  (s.setB (R.KE_STATUS_FB_DEGRADED x) false).setKe x
    (fun k => { k with sample := none, due := none, valid := none, ready := none, stopping := false,
                       missRun := 0 })

/-- The Kernel stops at once (R210). -/
def State.keStop (s : State) (x : Nat) : State :=
  let s := s.setB (R.KE_CTRL_EN x) false
  (if s.get (R.KE_ACTIVE_STATE x) = 3 then s else s.set (R.KE_ACTIVE_STATE x) 0).keHalted x

/-- A window that ends without a valid sample (R234): its code, the count, bit 4, and the cell due
again after the gap. -/
def State.windowLost (s : State) (x code : Nat) : State :=
  let s := (s.set (R.CELL_SHELL_RESULT_CODE x) code).inc (R.CELL_CNT_A_MISSED x)
  (s.irq (pgCell x) 4).setCell x (fun c =>
    { c with shellDue := some (s.now + ms (s.get (R.CELL_SHELL_CFG_GAP_MS x))) })

/-- The time out of the chain shown, in 10 µs (R240). -/
def State.showOut (s : State) (x start : Nat) : State :=
  s.setSat (R.CELL_SHELL_RESULT_OUT_US x) ((s.now - start) / us 10)

/-- A scan is abandoned: `V_REF` returns, and the scan falls due again (R239). -/
def State.dropScan (s : State) (x : Nat) : State :=
  match (s.ch x).cell.scan with
  | none => s
  | some c =>
    let s := (s.set (R.CELL_V_REF_MV x) c.vref).setB (R.CELL_STATUS_SCANNING x) false
    s.setCell x (fun d => { d with
      scan := none,
      scanDue := some (s.now + secs (s.get (R.CELL_SCAN_CFG_PERIOD_S x))) })

/-- A state entered by the cell power block (R221); `JOIN` reads 1 until WAIT_DC is left (R240). `LEAVE`
reads 1 until the leave has ended, `SHELL_NOW` until a window opens, and both it and `SCAN_NOW` until the
cell is in HUSK (DESIGN CHOICE, log entry 71). -/
def State.cellEnter (s : State) (x st : Nat) : State :=
  let s := s.set (R.CELL_STATUS_STATE x) st
  let s := if st = csWaitDc then s else s.setB (R.CELL_CTRL_JOIN x) false
  let s := if st = csShell ∨ st = csHusk then s.setB (R.CELL_CTRL_SHELL_NOW x) false else s
  if st = csHusk then
    (s.setB (R.CELL_CTRL_LEAVE x) false).setB (R.CELL_CTRL_SCAN_NOW x) false
  else s

/-- The reference words to the Kernel (R229) with words 0 and 3 at 0. -/
def State.zeroWords (s : State) (x : Nat) : State :=
  s.setCell x (fun c => { c with words := [0, c.words.getD 1 0, c.words.getD 2 0, 0] })

/-- The channel goes to the Husk state (R182): gates low, bypass hold static. From JOINING on it is
a leave with the given cause (R226). -/
def State.husk (s : State) (x cause : Nat) : State :=
  let st := s.cellState x
  let s := s.pwmStop x
  let s := s.dropScan x
  let s :=
    match (s.ch x).cell.window with
    | some w =>
      if st = csShell then
        let s := s.showOut x w.start
        if w.asked.isNone then s.windowLost x 4 else s
      else s
    | none => s
  let s := s.setCell x (fun c =>
    { c with cmd := false, subst := false, join := .none, epoch := none, leaving := false,
             window := none, shellGrant := false, lowSince := none })
  let s := (s.zeroWords x).setB (R.CELL_STATUS_SHELL_REQ x) false
  let s :=
    if csJoining ≤ st ∧ st ≤ csLeaving then
      let s := ((s.cellEnter x csHusk).set (R.CELL_STATUS_LEAVE_CAUSE x) cause).irq (pgCell x) 1
      if cause = 2 then s.inc (R.CELL_CNT_B_LOW_LEAVES x) else s
    else s
  s.holdSync x

/-- The channel fault (R160): `EN` cleared, `CH_FAULT` set, the Kernel stopped, the Husk state. After
step 3 of a join it ends the join with cause 0x5 (R224), else the leave's cause is 0x3. -/
def State.channelFault (s : State) (x : Nat) : State :=
  let was := s.flag (R.PWM_STATUS_CH_FAULT x)
  let s := s.setB (R.PWM_STATUS_CH_FAULT x) true
  let s := if was then s else s.irq (pgPwm x) 20
  let s := s.keStop x
  let j := (s.ch x).cell.join
  s.husk x (if j = .carrier ∨ j = .feedback ∨ j = .epoch then 5 else 3)

/-! ### Groups (R171, R172) -/

/-- A group's latch (R172). -/
def State.latchGroup (s : State) (x g : Nat) : State :=
  if s.flag (R.GUARD_GSTAT_LATCHED x g) then s
  else
    let s := (s.setB (R.GUARD_GSTAT_LATCHED x g) true).setB (R.GUARD_GSTAT_WAITING x g) false
    let s := s.note (R.GUARD_GSTAT_LATCHED x g).key 1
    let s := s.setGroup x g (fun d => { d with release := false })
    let s := s.setMaskBit (R.PWM_GRP_ACT_ACTIVE x) g
    let s := (s.guardSync x).irqLog (pgGuard x) 12 2
    if s.get (R.GUARD_GCFG_LATCH_ACT x g) = 2 then s.channelFault x else s

/-- A group's escalation (R171, R172). -/
def State.escalate (s : State) (x g : Nat) : State :=
  if s.get (R.PWM_GRP_ACTION x g) = gaSwitchOff ∧ ¬ s.flag (R.GUARD_GSTAT_ESCALATED x g) then
    (s.setB (R.GUARD_GSTAT_ESCALATED x g) true).irqLog (pgGuard x) 13 1
  else s

/-- A leg named by group `g` has both `SC_N` sources or its `RDY` source active (R171). -/
def State.legUnsafe (s : State) (x g : Nat) : Bool :=
  let out := s.get (R.PWM_GRP_OUT x g)
  (List.range 4).any (fun y => decide (bitsOf out (2 * y) 2 ≠ 0)
    && ((s.source x (12 + 2 * y) && s.source x (13 + 2 * y)) || s.source x (20 + y)))

/-- The escalation on a leg's condition, for every group (R172). -/
def State.escalateAll (s : State) (x : Nat) : State :=
  (List.range 16).foldl
    (fun t g => if t.flag (R.GUARD_GCFG_ESC_EN x g) && t.legUnsafe x g then t.escalate x g else t) s

/-- The group's window is closed when it has run out, judged by cell-island cycles (R172, R174). -/
def State.closeWindow (s : State) (x g : Nat) : State :=
  if s.get (R.GUARD_GSTAT_COUNT x g) ≠ 0
      ∧ ((s.group x g).winOpen + ms (s.get (R.GUARD_GWIN_WINDOW x g))) / cellCycle ≤ s.now / cellCycle then
    (s.set (R.GUARD_GSTAT_COUNT x g) 0).setB (R.GUARD_GSTAT_ESCALATED x g) false
  else s

/-- A group goes from inactive to active (R156, R172). -/
def State.activateGroup (s : State) (x g : Nat) : State :=
  let s := (s.setMaskBit (R.PWM_GRP_ACT_ACTIVE x) g).inc (R.GUARD_GSTAT_TRIPS x g)
  let s := s.irq (pgPwm x) 18
  let s :=
    if s.flag (R.PWM_CTRL_EN x) then
      let s := s.closeWindow x g
      let s :=
        if s.get (R.GUARD_GSTAT_COUNT x g) = 0 then
          (s.setGroup x g (fun d => { d with winOpen := s.now })).logIt (pgGuard x) 1 0x00FE
            (bytesLE 2 (0x100 + 4 * g))
        else s
      let s := s.inc (R.GUARD_GSTAT_COUNT x g)
      let n := s.get (R.GUARD_GSTAT_COUNT x g)
      if s.get (R.GUARD_GCFG_RETRY_MAX x g) < n then s.latchGroup x g
      else if s.flag (R.GUARD_GCFG_ESC_EN x g) ∧ s.get (R.GUARD_GCFG_ESC_AT x g) ≠ 0
          ∧ s.get (R.GUARD_GCFG_ESC_AT x g) ≤ n then s.escalate x g
      else s
    else s
  if s.get (R.PWM_GRP_ACTION x g) = gaChannelFault then s.channelFault x else s

/-- Group `g` was released in this very cycle: the source that activates now cancels the release, and the
group never went inactive (R174). -/
def State.releasedNow (s : State) (x g : Nat) : Option (Nat × Bool) :=
  match (s.group x g).relAt with
  | some (t, n, e) => if t / cellCycle = s.now / cellCycle then some (n, e) else none
  | none => none

/-- Group `g` as it was before the release of this cycle (R174). -/
def State.unrelease (s : State) (x g n : Nat) (e : Bool) : State :=
  let s := (s.setMaskBit (R.PWM_GRP_ACT_ACTIVE x) g).set (R.GUARD_GSTAT_COUNT x g) n
  (s.setB (R.GUARD_GSTAT_ESCALATED x g) e).setGroup x g (fun d => { d with relAt := none })

/-- Every group brought up to date with its sources (R156, R172): new activations, cancelled
releases, waits that start, escalation on a leg's condition. -/
def State.groupsSync (s : State) (x : Nat) : State :=
  let s := (List.range 16).foldl
    (fun t g =>
      let was := (t.group x g).sourced
      if t.groupSourced x g then
        let t := (t.setB (R.GUARD_GSTAT_WAITING x g) false).setGroup x g
          (fun d => { d with release := false, sourced := true })
        if t.groupActive x g then t
        else
          match t.releasedNow x g with
          | some (n, e) => t.unrelease x g n e
          | none => t.activateGroup x g
      else
        let t := t.setGroup x g (fun d =>
          { d with sourced := false, lastActive := if was then t.now - cellCycle else d.lastActive })
        if t.groupActive x g && !t.flag (R.GUARD_GSTAT_LATCHED x g)
            && !t.flag (R.GUARD_GSTAT_WAITING x g) then
          t.setB (R.GUARD_GSTAT_WAITING x g) true
        else t) s
  (s.escalateAll x).guardSync x

/-- Source `n` becomes active (R155, R156). -/
def State.sourceOn (s : State) (x n : Nat) : State :=
  if s.source x n then s else (s.putSource x n true).groupsSync x

/-- Source `n` becomes inactive (R172). -/
def State.sourceOff (s : State) (x n : Nat) : State :=
  if s.source x n then (s.putSource x n false).groupsSync x else s

/-- The gate guard permits energising (R176). -/
def State.mayEnergise (s : State) (x : Nat) : Bool :=
  s.mapComplete x && !(List.range 16).any (fun g => s.flag (R.GUARD_GSTAT_LATCHED x g))
    && decide (s.get (R.GUARD_SC_STAT_STUCK x) = 0) && !s.flag (R.GUARD_BYP_STAT_OPEN_FAIL x)
    && !s.flag (R.GUARD_BYP_STAT_CLOSE_FAIL x) && !s.flag (R.GUARD_BYP_STAT_FB_CHANGE x)

end Sys2Proof.Machine
end

