-- ==== Sys2Proof/Machine/PwmOps.lean ====
section
/-! DEFINITION. The PWM's carrier and edge algorithm (R138 to R153). Times are absolute; a fine step
of 156.25 ps is 5 time units, a cell-island cycle 80. -/

namespace Sys2Proof.Machine

/-- A fine step in time units. -/
def fine : Nat := 5

/-- The nominal top (R138). -/
def cTop (mode ticks : Nat) : Nat := if mode = 0 then 16 * ticks else 8 * ticks

/-- Fine steps of a period whose top is `top`. -/
def periodSteps (mode top : Nat) : Nat := if mode = 0 then top else 2 * top

/-- The ideal demand `tau` fine steps after the carrier zero, for a compare `c` (R141, R142). -/
def demandAt (mode top c : Nat) (shift : Bool) (tau : Nat) : Bool :=
  if top ≤ c then true
  else if mode = 0 then
    decide ((if shift then (tau + top / 2) % top else tau) < c)
  else if shift then decide (top - c ≤ tau) && decide (tau < top + c)
  else decide (tau < c) || (decide (0 < c) && decide (2 * top - c ≤ tau))

/-- The places in a period where the demand can change (R142). -/
def edgePlaces (mode top c : Nat) (shift : Bool) : List Nat :=
  if mode = 0 then
    (if shift then [0, top - top / 2, (c + (top - top / 2)) % max 1 top] else [0, c])
  else if shift then [0, top - c, top + c]
  else [0, c, 2 * top - c]

/-- The index-to-compare conversion (R143). -/
def indexCompare (m : Int) (top : Nat) : Nat := (((m + 32768) * top + 32768) / 65536).toNat

/-- The leg takes the Kernel's indices. -/
def State.legKernel (s : State) (x y : Nat) : Bool := s.flag (R.PWM_LEGCFG_SRC x y)

/-- The compare in force for leg `y`, before any clamp (R152, R161). -/
def State.compare (s : State) (x y : Nat) : Nat :=
  if s.legKernel x y then (s.leg x y).kCmp else s.get (R.PWM_CMP_CMP x y)

/-- The half-period shift of leg `y`. -/
def State.legShift (s : State) (x y : Nat) : Bool := s.flag (R.PWM_LEGCFG_SHIFT x y)

/-- The ideal demand of leg `y` at `tau` of the period in progress. -/
def State.idealAt (s : State) (x y tau : Nat) : Bool :=
  let p := (s.ch x).pwm
  demandAt p.mode p.top (s.compare x y) (s.legShift x y) tau

/-- The next ideal edge after `t` under the compare in force (R145, projected_end): in this period
or one of the next two; none when no edge follows. DESIGN CHOICE: the tops of the periods to come are
the nominal one of the `TICKS` in force (log entry 75). -/
def State.projectedEnd (s : State) (x y t : Nat) (d : Bool) : Option Nat :=
  let p := (s.ch x).pwm
  let c := s.compare x y
  let sh := s.legShift x y
  let top := cTop p.mode p.ticks
  let z1 := p.zeroAt + fine * periodSteps p.mode p.top
  let z2 := z1 + fine * periodSteps p.mode top
  let cand (z top : Nat) : List (Nat × Bool) :=
    (edgePlaces p.mode top c sh).map (fun e => (z + fine * e, demandAt p.mode top c sh e))
  let all := (cand p.zeroAt p.top).filter (fun q => decide (q.1 < z1)) ++ cand z1 top ++ cand z2 top
  (all.filter (fun q => decide (t < q.1) && q.2 != d)).foldl
    (fun m q =>
      match m with
      | none => some q.1
      | some v => some (min v q.1)) none

/-- A dropped pulse counted (R146). -/
def State.countDropped (s : State) (x y : Nat) : State :=
  (s.inc (R.PWM_SHORT_DROPPED x y)).irq (pgPwm x) (5 + y)
/-- A held pulse end counted (R146). -/
def State.countStretched (s : State) (x y : Nat) : State :=
  (s.inc (R.PWM_SHORT_STRETCHED x y)).irq (pgPwm x) (9 + y)

/-- The minimum pulse of the leg's group (R144). -/
def State.minPulse (s : State) (x y : Nat) : Nat :=
  fine * (if y < 2 then s.get (R.PWM_MIN_PULSE_FE x) else s.get (R.PWM_MIN_PULSE_HB x))
/-- The policy of the leg's group is STRETCH (R144). -/
def State.stretches (s : State) (x y : Nat) : Bool :=
  if y < 2 then s.flag (R.PWM_PULSE_CFG_POLICY_FE x) else s.flag (R.PWM_PULSE_CFG_POLICY_HB x)

/-- The switch of the given side. -/
def LegSt.sw (l : LegSt) (high : Bool) : Sw := if high then l.h else l.l
/-- The switch of the given side replaced. -/
def LegSt.putSw (l : LegSt) (high : Bool) (w : Sw) : LegSt :=
  if high then { l with h := w } else { l with l := w }

/-- The edge algorithm (R145): `d` has just changed at time `t`. -/
def State.idealEdge (s : State) (x y t : Nat) (d : Bool) : State :=
  let l := s.leg x y
  let w := l.sw d
  let c := l.sw (!d)
  if l.refresh.isSome ∧ d = false then s.setLeg x y (fun l => { l with refresh := none })
  else if w.st = .on ∧ w.stop.isSome then
    let s := s.setLeg x y (fun l => l.putSw d { w with stop := none })
    if c.st = .wait then (s.setLeg x y (fun l => l.putSw (!d) {})).countDropped x y else s
  else if w.st ≠ .off then s
  else
    let minP := s.minPulse x y
    let tOff := if c.st = .on then max t (c.start + c.min) else t
    let tOn := tOff + fine * (if d then s.get (R.PWM_DT_RISE x y) else s.get (R.PWM_DT_FALL x y))
    let short : Bool :=
      match s.projectedEnd x y t d with
      | none => false
      | some e => decide (e ≤ tOn) || (decide (e < tOn + minP) && !s.stretches x y)
    if short then s.countDropped x y
    else
      let s := if c.st = .wait then s.countDropped x y else s
      let s := if t < tOff then s.countStretched x y else s
      let c' : Sw := if c.st = .on ∧ s.now < tOff then { c with stop := some tOff } else {}
      let w' : Sw := { st := if tOn ≤ s.now then .on else .wait, start := tOn, min := minP }
      s.setLeg x y (fun l => (l.putSw (!d) c').putSw d w')

/-- The demand `d` of leg `y` delivered at `t`; a leg that runs and has its compare evaluates it
(R145, R153). `cross` says that the carrier's crossing of the compare made the edge (R154). -/
def State.deliver (s : State) (x y t : Nat) (d cross : Bool) : State :=
  let s := s.setLeg x y (fun l =>
    { l with d := d, edgeAt := if l.d = d then l.edgeAt else some (t, cross) })
  if s.flag (R.PWM_STATUS_RUN x) ∧ ¬ s.flag (R.PWM_ACMP_KWAIT x y) then s.idealEdge x y t d else s

/-- The compare readouts (R161). -/
def State.showCompares (s : State) (x : Nat) : State :=
  (List.range 4).foldl (fun t y => t.set (R.PWM_ACMP_CMP x y) (t.compare x y)) s

/-! ### Commit and update point (R151) -/

/-- The staged values keep the limits of R151. -/
def State.pwmCommitOk (s : State) (x : Nat) : Bool :=
  let g (r : Reg) := s.stagedOf r
  let ticks := g (R.PWM_PERIOD_TICKS x)
  let mode := g (R.PWM_CARRIER_MODE x)
  decide (4000 ≤ ticks) && decide (ticks ≤ 200000) && (mode == 0 || ticks % 2 == 0)
    && decide (g (R.PWM_PHASE_FINE x) < 16 * ticks)
    && g (R.PWM_CARRIER_UPDATE_AT x) != 0
    && (mode == s.get (R.PWM_CARRIER_MODE x) || !s.flag (R.PWM_CTRL_EN x))
    && decide (g (R.PWM_MIN_PULSE_FE x) ≤ 64000) && decide (g (R.PWM_MIN_PULSE_HB x) ≤ 64000)
    && (List.range 4).all (fun y =>
      let mo := g (R.PWM_LEGCFG_BOOT_MAX_ON x y)
      let r := g (R.PWM_BOOT_REFRESH x y)
      let mp := if y < 2 then g (R.PWM_MIN_PULSE_FE x) else g (R.PWM_MIN_PULSE_HB x)
      decide (g (R.PWM_DT_RISE x y) ≤ 25600) && decide (g (R.PWM_DT_FALL x y) ≤ 25600)
        && (mo == 0 || decide (10 ≤ mo)) && decide (320 ≤ r) && decide (r ≤ 64000) && decide (mp ≤ r))

/-- A commit refused: it acts as `DISCARD`, and an error is counted. -/
def State.refuseCommit (s : State) (p : Nat) : State :=
  ((s.dropStaged p).setB (H.COMMIT_GO p) false).err p

/-- A commit applied (R91). -/
def State.doCommit (s : State) (p : Nat) : State :=
  ((s.applyStaged p).setB (H.COMMIT_GO p) false).incWrap (H.COMMIT_APPLIED p)

/-- A commit waits and nothing holds it (R91, R92). -/
def State.commitWaits (s : State) (p : Nat) : Bool :=
  s.flag (H.COMMIT_GO p) && !s.flag (H.UPDATE_LOCK p)

/-- The page's `GO`, or the write that cleared its `UPDATE_LOCK`, arrived less than `n` of the island's
cycles ago (R17, R24, R91, R153, R208). -/
def State.commitFresh (s : State) (p n : Nat) : Bool :=
  match pageInfo p with
  | none => false
  | some i => s.recent.any (fun e =>
      (decide (e.2.1 = (H.COMMIT_GO p).key) || decide (e.2.1 = (H.UPDATE_LOCK p).key))
        && decide (i.isl.cycle s.now < i.isl.cycle e.1 + n))

/-- A commit applies at the update point that the page's island reaches now: one that arrived in this
very cycle waits for the following point (R153, R208). -/
def State.commitDue (s : State) (p : Nat) : Bool := s.commitWaits p && !s.commitFresh p 1

/-- A commit that a `DISCARD` of this very cycle cancelled is in force again at an update point: the
`DISCARD` came too late for it (R92, R153). -/
def State.undrop (s : State) (p : Nat) : State :=
  match pageInfo p with
  | none => s
  | some i =>
    match s.sys.dropped.find? (fun e =>
        decide (e.1 = p) && decide (i.isl.cycle e.2.1 = i.isl.cycle s.now)) with
    | none => s
    | some (_, _, l, r) =>
      let s := l.foldl (fun (u : State) e => u.stageKey e.1 e.2) s
      let s := if 0x28 ≤ p ∧ p ≤ 0x2F then s.setKe (p - 0x28) (fun k => { k with ready := r }) else s
      (s.setB (H.COMMIT_GO p) true).modSys (fun d =>
        { d with dropped := d.dropped.filter (fun e => decide (e.1 ≠ p)) })

/-- Step 1 of an update point (R151, R153). Answers the legs that leave the both-off state. -/
def State.pwmCommit (s : State) (x : Nat) : State × List Nat :=
  let p := pgPwm x
  let s := s.undrop p
  if s.commitDue p then
    if s.pwmCommitOk x then
      let old := (List.range 4).map (fun y => s.legKernel x y)
      let s := (s.doCommit p).irq p 19
      (List.range 4).foldl
        (fun (t, l) y =>
          match old.getD y false, t.legKernel x y with
          | false, true =>
            ((t.setB (R.PWM_ACMP_KWAIT x y) true).setLeg x y
              (fun g => { g with h := {}, l := {}, refresh := none, waitAt := t.now }), l)
          | true, false =>
            (t.setB (R.PWM_ACMP_KWAIT x y) false, if t.flag (R.PWM_ACMP_KWAIT x y) then y :: l else l)
          | _, _ => (t, l)) (s, [])
    else (s.refuseCommit p, [])
  else (s, [])

/-- Step 2 (R24, R151): the indices last written become active. A value written in this very cycle waits for
the following update point, and the one written last before it applies. -/
def State.pwmIndices (s : State) (x : Nat) : State × List Nat :=
  let p := (s.ch x).pwm
  let top := cTop p.mode p.ticks
  (List.range 4).foldl
    (fun (t, l) y =>
      let old (e : Int × Nat) : Bool := decide (e.2 / cellCycle < t.now / cellCycle)
      match (t.leg x y).kNew.find? old with
      | none => (t, l)
      | some (m, at_) =>
        if t.legKernel x y then
          let first := t.flag (R.PWM_ACMP_KWAIT x y) && decide ((t.leg x y).waitAt ≤ at_)
          let t := t.setLeg x y (fun g =>
            { g with kIdx := m, kCmp := indexCompare m top,
                     kNew := g.kNew.filter (fun e => !old e) })
          if first then (t.setB (R.PWM_ACMP_KWAIT x y) false, y :: l) else (t, l)
        else (t, l)) (s, [])

/-- An index handed to leg `y` by the Kernel path (R24, R93): ignored unless `SRC` is 1 (R153). -/
def State.writeIndex (s : State) (x y : Nat) (m : Int) : State :=
  if s.legKernel x y then
    s.setLeg x y (fun g => { g with
      kNew := (m, s.now) ::
        (g.kNew.filter (fun e => decide (e.2 / cellCycle < s.now / cellCycle))).take 1 })
  else s

/-- The clamp check at a zero or peak (R152): slewed periods are exempt. -/
def State.clampCheck (s : State) (x : Nat) : State :=
  let p := (s.ch x).pwm
  let top := cTop p.mode p.ticks
  if p.top ≠ top then s
  else
    (List.range 4).foldl
      (fun t y =>
        let past := !t.legKernel x y && decide (top < t.get (R.PWM_CMP_CMP x y))
        let t' :=
          if past then
            let t := (t.setB (R.PWM_STATUS_DUTY_CLAMP x) true).inc (R.PWM_EVT_CLAMP x y)
            if (t.leg x y).clamped then t else t.irq (pgPwm x) 0
          else t
        t'.setLeg x y (fun g => { g with clamped := past })) s

/-- Step 4 (R142, R145, R151, R159): at an update point or an enable, the legs whose demand the new
values change. `nat` is what the carrier alone gives at this instant under the values before it; an
edge the carrier makes is left to its own command. -/
def State.evaluateLegs (s : State) (x tau : Nat) (upd enabling : Bool) (nat : List Bool)
    (restart : List Nat) : State :=
  (List.range 4).foldl
    (fun t y =>
      let d := t.idealAt x y tau
      let later := t.idealAt x y (tau + 16)
      if enabling then t.deliver x y t.now d false
      else if restart.contains y then t.deliver x y (t.now + cellCycle) later false
      else if upd ∧ nat.getD y d ≠ d ∧ later ≠ (t.leg x y).d then
        t.deliver x y (t.now + cellCycle) later false
      else t) s

/-- The place of time `t` on the carrier's grid, in periods from the grid's zero of the epoch (R139). -/
def State.gridPlace (s : State) (x ticks t : Nat) : Rat :=
  (s.canopyT.at t * 32 / 5 - (s.get (R.PWM_PHASE_FINE x) : Rat)) / ((16 * ticks : Nat) : Rat)

/-- The error of the zero at this instant against the grid, in fine steps (R139, R140). -/
def State.carrierError (s : State) (x ticks : Nat) : Rat :=
  let per : Rat := (16 * ticks : Nat)
  let g := s.gridPlace x ticks s.now
  let r := per * (g - (g.floor : Rat))
  if per / 2 < r then r - per else r

/-- The first zero after the island's start is due now (R493): the carrier reaches the first instant of
its grid after the PLL locked, to the fine step. -/
def State.firstZero (s : State) (x : Nat) : Bool :=
  let p := (s.ch x).pwm
  let e := s.carrierError x p.ticks
  decide (0 ≤ e) && decide (e < 1)
    && decide ((s.gridPlace x p.ticks s.now).floor ≤ (s.gridPlace x p.ticks p.zeroAt).floor + 1)

/-- The change of the next period (R140). An error that is not a whole number of fine steps is rounded to
the nearest, a half up: DESIGN CHOICE (log entry 75). -/
def State.slewStep (s : State) (x mode ticks : Nat) (e : Rat) : Int :=
  let lim : Int := (16 * min (s.get (R.PWM_CARRIER_SLEW x)) (ticks / 32) : Nat)
  let a := clampI (-lim) lim (-((e + 1 / 2).floor))
  if mode = 0 then a else truncDiv a 2 * 2

/-- The top of the next period (R140). -/
def slewedTop (mode ticks : Nat) (a : Int) : Nat :=
  (((cTop mode ticks : Nat) : Int) + (if mode = 0 then a else a / 2)).toNat

end Sys2Proof.Machine
end

