-- ==== Sys2Proof/Machine/CellOps.lean ====
section
/-! DEFINITION. The cell power block's shared operations (R218 to R239): the limit curve, the join
conditions, entry into RUN, references to the Kernel, the open-circuit window, tracking. Voltages are
in mV, currents in mA, powers in W. -/

namespace Sys2Proof.Machine

/-- An engine reads `n` bytes of table memory from `a` (R21): every single-bit error in them counts on
the engine's page, a double-bit error is recorded. The result says whether none was double. -/
def State.engineRead (s : State) (page a n : Nat) : Bool × State :=
  s.ecc.foldl
    (fun (ok, t) (w, bits) =>
      if a < w + 8 ∧ w < a + n then
        if bits = 1 then (ok, t.err page) else (false, t.recordDouble page w)
      else (ok, t)) (true, s)

/-- First byte of a channel's cell power area (R219). -/
def cellArea (x : Nat) : Nat := 0x01100000 + x * 0x2000

/-- Points of the limit curve (R219). -/
def State.curvePoints (s : State) (x : Nat) : Nat :=
  bitsOf (s.mem.word (cellArea x)) 16 4 + 1

/-- Word `j` of point `k`: voltage, `I_EXT`, `I_CHG` (R219). -/
def State.curveWord (s : State) (x k j : Nat) : Nat := s.mem.word (cellArea x + 0x10 + 16 * k + 4 * j)

/-- The last value of PRIn that was not stale: a stale result is no feedback (R119; log entry 78). -/
def State.pri (s : State) (x n : Nat) : Int := (s.ch x).cell.pri.getD n 0

/-- The cell power area may be used (R73). -/
def State.curveUsable (s : State) (x : Nat) : Bool := (s.get R.BOOT_TBL_VALID_CELL).testBit x

/-- The curve is valid (R219, R220). -/
def State.curveValid (s : State) (x : Nat) : Bool :=
  let a := cellArea x
  let n := s.curvePoints x
  let zero (b e : Nat) : Bool := s.mem.all (fun c => !(decide (a + b ≤ c.1) && decide (c.1 < a + e)))
  decide (s.mem.word a % 65536 = 1) && decide (2 ≤ n) && decide (s.mem.word a / 2 ^ 20 = 0)
    && zero 4 16 && zero 0x110 0x2000
    && (List.range 16).all (fun k => zero (0x1C + 16 * k) (0x20 + 16 * k))
    && (List.range (n - 1)).all (fun k => decide (s.curveWord x k 0 < s.curveWord x (k + 1) 0))

/-- A limit of the curve at a voltage: linear between points, truncated, the end values beyond
(R219). `j` is 1 for `I_EXT`, 2 for `I_CHG`. -/
def State.curveAt (s : State) (x j : Nat) (v : Int) : Int :=
  let n := s.curvePoints x
  let u (k : Nat) : Int := s.curveWord x k 0
  let w (k : Nat) : Int := s.curveWord x k j
  if v ≤ u 0 then w 0
  else if u (n - 1) ≤ v then w (n - 1)
  else
    match (List.range (n - 1)).find? (fun k => decide (u k ≤ v) && decide (v < u (k + 1))) with
    | none => w 0
    | some k => truncDiv (w k * (u (k + 1) - u k) + (w (k + 1) - w k) * (v - u k)) (u (k + 1) - u k).toNat

/-- `SOURCE` codes (R218). -/
def srcPv : Nat := 0
def srcStore : Nat := 1
def srcPvStore : Nat := 2

/-- The cell has a PV string (R232). -/
def State.hasPv (s : State) (x : Nat) : Bool := decide (s.get (R.CELL_CFG_SOURCE x) ≠ srcStore)

/-- The permits of R218 are set. -/
def State.permitted (s : State) (x : Nat) : Bool :=
  if s.hasPv x then s.flag R.BOOT_PERMIT_PV
  else s.flag R.BOOT_PERMIT_STORE_CHG || s.flag R.BOOT_PERMIT_STORE_DIS

/-- The first join condition that fails, 0 when all hold (R222). -/
def State.joinRefusal (s : State) (x : Nat) : Nat :=
  if !s.locked || s.quarantine then 1
  else if !s.flag R.CANOPY_STATUS_EVER_LOCKED then 2
  else if !s.flag (R.ARM_CH_ASSIGN_VALID x) then 3
  else if !((s.get R.BOOT_TBL_VALID_KE).testBit x && (s.get R.BOOT_TBL_VALID_CELL).testBit x) then 4
  else if !s.mayEnergise x then 5
  else if !s.permitted x then 6
  else if s.flag (R.KE_STATUS_TEST_FAIL x) then 8
  else if s.get (R.CELL_DC_CAP_UF x) = 0 || !s.curveValid x then 9
  else 0

/-- A join refused (R222). -/
def State.refuseJoin (s : State) (x code : Nat) : State :=
  ((s.set (R.CELL_STATUS_REFUSE x) code).irq (pgCell x) 2).cellEnter x csHusk

/-- The check of R222 with the reads it makes of the limit curve (R21): the code, 0 when all conditions hold. A
word with a double-bit error makes the curve invalid and faults the channel. -/
def State.joinCheck (s : State) (x : Nat) : Nat × State :=
  let c := s.joinRefusal x
  if c ≠ 0 ∧ c ≠ 9 then (c, s)
  else
    let (ok, s) := s.engineRead (pgCell x) (cellArea x) 0x2000
    if ok then (c, s) else (9, s.channelFault x)

/-- A join requested in HUSK (R222). -/
def State.requestJoin (s : State) (x : Nat) : State :=
  let (c, s) := s.joinCheck x
  if c ≠ 0 then s.refuseJoin x c
  else
    let s := (s.set (R.CELL_STATUS_REFUSE x) 0).setB (R.CELL_CTRL_JOIN x) true
    let s := s.cellEnter x csWaitDc
    s.setCell x (fun d => { d with highSince := none })

/-- While `AUTO_JOIN` is 1, a channel whose last leave had cause 0x2 asks for a join by itself (R223). A refusal
that would repeat the one shown is not told again (log entry 78). -/
def State.autoJoin (s : State) (x : Nat) : State :=
  if s.flag (R.CELL_CFG_AUTO_JOIN x) ∧ s.cellState x = csHusk ∧ s.get (R.CELL_STATUS_LEAVE_CAUSE x) = 2
      ∧ (s.joinRefusal x = 0 ∨ s.joinRefusal x ≠ s.get (R.CELL_STATUS_REFUSE x)) then
    s.requestJoin x
  else s

/-- The channel may leave the Husk state (R28, R73, R78, R182): it has an arm assignment and valid table
areas, and the device is not in Quarantine. -/
def State.mayLeaveHusk (s : State) (x : Nat) : Bool :=
  s.flag (R.ARM_CH_ASSIGN_VALID x) && (s.get R.BOOT_TBL_VALID_KE).testBit x
    && (s.get R.BOOT_TBL_VALID_CELL).testBit x && !s.quarantine

/-- `CTRL.EN` of the PWM written 1 (R159, R160). A write of 1 to a channel that never leaves the Husk state is
ignored and counted, as one to a faulted channel is (DESIGN CHOICE, log entry 76). -/
def State.pwmEnable (s : State) (x : Nat) : State :=
  if s.flag (R.PWM_STATUS_CH_FAULT x) ∨ ¬ s.mayLeaveHusk x then s.err (pgPwm x)
  else if s.flag (R.PWM_CTRL_EN x) then s
  else
    let s := s.setB (R.PWM_CTRL_EN x) true
    let s := s.setPwm x (fun p => { p with enAt := some s.now })
    let s := (List.range 4).foldl
      (fun t y =>
        if t.legKernel x y then
          (t.setB (R.PWM_ACMP_KWAIT x y) true).setLeg x y (fun g => { g with waitAt := t.now })
        else t) s
    s.guardSync x

/-- The substituted indices of legs C and D (R225). -/
def State.writeZeroState (s : State) (x : Nat) : State := (s.writeIndex x 2 0).writeIndex x 3 0

/-- The zero-state substitution starts (R225). -/
def State.startSubst (s : State) (x : Nat) : State :=
  ((s.setCell x (fun c => { c with subst := true })).zeroWords x).writeZeroState x

/-- The Kernel of a joining channel has entered RUN: step 3 of R224. -/
def State.joinKernelRuns (s : State) (x : Nat) : State :=
  if s.cellState x = csJoining ∧ (s.ch x).cell.join = .kernel then
    let s := (s.pwmEnable x).startSubst x
    s.setCell x (fun c => { c with join := .carrier })
  else s

/-! ### The operating point (R237) -/

/-- A rounded quotient of naturals, ties away from zero. -/
def roundDiv (a b : Nat) : Nat := (roundDivAway a b).toNat

/-- The fraction centre (R237). -/
def State.fracCentre (s : State) (x : Nat) : Nat :=
  roundDiv (s.get (R.CELL_V_OC_MV x) * s.get (R.CELL_FRAC_FRAC x)) 65536

/-- The offset's span in mV (R237). -/
def State.offsetSpan (s : State) (x : Nat) : Int :=
  (s.get (R.CELL_V_OC_MV x) * s.get (R.CELL_PO_CFG_SPAN_PCT x) / 100 : Nat)

/-- `V_REF` formed again (R237); a running scan keeps its own point, and curtailment holds `V_REF` (R231). -/
def State.reform (s : State) (x : Nat) : State :=
  let c := (s.ch x).cell
  if c.scan.isSome ∨ s.flag (R.CELL_STATUS_CURT x) then s
  else if c.vocValid then
    let voc := s.get (R.CELL_V_OC_MV x)
    let centre : Int :=
      if s.flag (R.CELL_STATUS_SHADED x) then
        (roundDiv (s.get (R.CELL_V_BEST_MV x) * voc) (s.get (R.CELL_V_OC_SCAN_MV x)) : Nat)
      else (s.fracCentre x : Nat)
    let span := s.offsetSpan x
    let off := clampI (-span) span c.offset
    let lo : Int := (voc * s.get (R.CELL_SCAN_CFG_LO_PCT x) / 100 : Nat)
    let hi : Int := (voc * 95 / 100 : Nat)
    let s := s.setCell x (fun c => { c with offset := off })
    s.setI (R.CELL_V_REF_MV x) (clampI lo hi (centre + off))
  else s.set (R.CELL_V_REF_MV x) (roundDiv (c.joinVoc * s.get (R.CELL_FRAC_FRAC x)) 65536)

/-- A VALID open-circuit sample (R234, R235). -/
def State.validVoc (s : State) (x : Nat) (mv : Rat) : State :=
  let s := s.setI (R.CELL_V_OC_MV x) (roundAs (R.CELL_V_OC_MV x).key mv)
  let s := (s.set (R.CELL_SHELL_RESULT_CODE x) 1).set (R.CELL_SHELL_T_NS x) (s.stamp (pgCell x))
  let s := (s.inc (R.CELL_CNT_A_SHELLS x)).irq (pgCell x) 3
  let s := s.setCell x (fun c =>
    { c with vocValid := true,
             shellDue := some (s.now + secs (s.get (R.CELL_SHELL_CFG_PERIOD_S x))) })
  s.reform x

/-- The string lies within `CLIP_V` of the DC link (R234). -/
def State.clipped (s : State) (x : Nat) : Bool :=
  decide (s.pri x 0 - 1000 * (s.get (R.CELL_SETTLE_CFG_CLIP_V x) : Int) ≤ s.pri x 1)

/-- The window ends without a valid sample, and the cell asks for its close (R234). -/
def State.endWindow (s : State) (x code : Nat) : State :=
  (s.windowLost x code).setCell x (fun c =>
    { c with epoch := none, window := c.window.map (fun w => { w with asked := some s.now }) })

/-- The average of PRI1 over the last `BLOCK_MS` (R235); with no sample in it the spec states none: a free
value. -/
def State.joinAverage (s : State) (x : Nat) : Rat × State :=
  let blk := ms (s.get (R.CELL_SETTLE_CFG_BLOCK_MS x))
  let l := ((s.ch x).cell.joinHist.filter (fun e => decide (s.now ≤ e.1 + blk))).map (fun e => e.2)
  if l.isEmpty then
    let (n, s) := s.fresh
    ((n : Rat), s)
  else (((l.foldl (fun a b => a + b) 0 : Int) : Rat) / (l.length : Rat), s)

/-- The feedback of a joining channel shows the bypass open: the sample at join, and the report that
asks for an epoch (R224 steps 5 and 6, R235). -/
def State.joinOpened (s : State) (x : Nat) : State :=
  if s.cellState x = csJoining ∧ (s.ch x).cell.join = .feedback then
    let (avg, s) := s.joinAverage x
    let s := s.setCell x (fun c => { c with join := .epoch, epoch := none })
    if s.hasPv x then
      if s.clipped x then
        let mv := (roundAs (R.CELL_V_OC_MV x).key avg).toNat
        let s := s.windowLost x 3
        let s := s.setCell x (fun c => { c with joinVoc := mv, shellDue := some s.now })
        s.reform x
      else s.validVoc x avg
    else s
  else s

/-- The PWM of a joining channel takes effect in the zero state: the block commands the channel
energised (R224 step 4). -/
def State.joinCarrier (s : State) (x : Nat) : State :=
  if s.cellState x = csJoining ∧ (s.ch x).cell.join = .carrier then
    let s := s.setCell x (fun c => { c with cmd := true, join := .feedback })
    let s := s.holdSync x
    if s.flag (R.GUARD_BYP_STAT_FB_OPEN x) then s.joinOpened x else s
  else s

/-- The cell may ask for a window (R232). -/
def State.mayAsk (s : State) (x : Nat) : Bool :=
  s.hasPv x && s.flag (R.CELL_CFG_SHELL_EN x) && decide (s.cellState x = csRun) && !s.syncLost
    && !s.flag (R.CELL_STATUS_CURT x) && !s.flag (R.CELL_STATUS_SCANNING x)
    && !(s.ch x).cell.shellGrant
    && (match (s.ch x).cell.shellDue with
        | some t => decide (t ≤ s.now)
        | none => false)

/-- The request flag brought up to date: it rises when the cell is due and may ask, and is withheld
while it may not (R232). -/
def State.shellSync (s : State) (x : Nat) : State :=
  let was := s.flag (R.CELL_STATUS_SHELL_REQ x)
  let may := s.mayAsk x
  if may ∧ ¬ was then
    (s.setB (R.CELL_STATUS_SHELL_REQ x) true).setCell x (fun c => { c with reqAt := s.now })
  else if was ∧ ¬ may then s.setB (R.CELL_STATUS_SHELL_REQ x) false
  else s

/-- The perturbation period starts again; `dir` and the last power are kept (R238). -/
def State.restartPo (s : State) (x : Nat) : State :=
  s.setCell x (fun c => { c with poAt := s.now, poSum := 0, poNum := 0 })

/-- Perturb-and-observe is enabled again (R238): its periods have run on, and the one in progress counts. -/
def State.poCatchUp (s : State) (x : Nat) : State :=
  let per := ms (s.get (R.CELL_PO_CFG_PERIOD_MS x))
  let c := (s.ch x).cell
  let gone := (s.now - c.poAt) / max 1 per * per
  s.setCell x (fun c => { c with
    poAt := c.poAt + gone,
    poSum := if gone = 0 then c.poSum else 0, poNum := if gone = 0 then c.poNum else 0 })

/-- The voltage of scan point `k` (R239); its rounding is not stated (log entry 6). -/
def State.scanPoint (s : State) (x k : Nat) : Int :=
  let lo : Rat := (s.get (R.CELL_SCAN_CFG_LO_PCT x) : Nat)
  let st : Rat := (s.get (R.CELL_SCAN_CFG_STEPS x) - 1 : Nat)
  roundAs (R.CELL_V_REF_MV x).key
    ((s.get (R.CELL_V_OC_MV x) : Rat) * (lo + (95 - lo) * (k : Rat) / st) / 100)

/-- A due scan starts when its conditions hold (R239). -/
def State.scanTry (s : State) (x : Nat) : State :=
  let c := (s.ch x).cell
  let due : Bool := match c.scanDue with
    | some t => decide (t ≤ s.now)
    | none => false
  if due ∧ c.scan.isNone ∧ s.flag (R.CELL_CFG_SCAN_EN x) ∧ s.cellState x = csRun
      ∧ ¬ s.flag (R.CELL_STATUS_CURT x) ∧ c.vocValid ∧ c.window.isNone then
    let k := s.get (R.CELL_SCAN_CFG_STEPS x) - 1
    let v := s.scanPoint x k
    let s := s.setCell x (fun c =>
      { c with scanDue := none, scan := some { k := k, at_ := s.now, vref := s.get (R.CELL_V_REF_MV x) } })
    let s := (s.setI (R.CELL_V_REF_MV x) v).setB (R.CELL_STATUS_SCANNING x) true
    (s.setB (R.CELL_CTRL_SCAN_NOW x) false).shellSync x
  else s

/-- Entry into RUN (R224, R230, R234). -/
def State.enterRun (s : State) (x : Nat) : State :=
  let s := s.cellEnter x csRun
  let s := s.setCell x (fun c =>
    { c with subst := false, join := .none, epoch := none, window := none, iInt := 0,
             rampAt := s.now, onSince := none, offSince := none,
             shellDue := some (c.shellDue.getD
               (s.now + secs (s.get (R.CELL_SHELL_CFG_PERIOD_S x)))),
             scanDue := some (c.scanDue.getD (s.now + secs (s.get (R.CELL_SCAN_CFG_PERIOD_S x)))) })
  ((s.restartPo x).shellSync x).scanTry x

/-! ### References (R229, R230) -/

/-- A value as a Q1.31 fraction of a full scale, saturated; the rounding is not stated (log entry 6),
and neither is the quotient by a full scale of 0: a free value. -/
def State.fraction (s : State) (key : Nat) (v : Rat) (fs : Int) : Int × State :=
  if fs = 0 then
    let (n, s) := s.fresh
    (sx 32 n, s)
  else (satI 32 (roundAs key (v * 2147483648 / (fs : Rat))), s)

/-- The lesser of the two power limits (R230). -/
def State.powerLimit (s : State) (x : Nat) : Nat :=
  min (s.get (R.CELL_P_LIM_ARM_W x)) (s.get (R.CELL_P_LIM_HOST_W x))

/-- The part of the ramp that has risen, 0 to 1 (R230). -/
def State.rampPart (s : State) (x : Nat) : Rat :=
  let t : Rat := (s.now - (s.ch x).cell.rampAt : Nat)
  let full : Rat := (ms (s.get (R.CELL_JOIN_TIME_RAMP_MS x)) : Nat)
  if full ≤ t then 1 else t / full

/-- A power in W over a voltage in mV, in mA; at 0 mV the spec states no quotient: a free value. -/
def State.powerTerm (s : State) (p : Int) (mv : Int) : Rat × State :=
  if mv = 0 then
    let (n, s) := s.fresh
    ((n : Rat), s)
  else ((p : Rat) * 1000000 / (mv : Rat), s)

/-- The current reference and limit of a PV source: i_ref, i_int, i_hi, and whether i_ref is clamped
to the power term, to the curve (R230). -/
structure LoopOut where
  i : Rat
  int : Rat
  hi : Rat
  power : Bool
  curve : Bool
  deriving DecidableEq, Repr

/-- The voltage loop (R230). -/
def voltageLoop (kp ki int e ext pterm ramp : Rat) : LoopOut :=
  let hi := min ext (min pterm ramp)
  let v := int + kp * e
  let up := decide (hi < v)
  let down := decide (v < 0) && !up
  let i := if up then hi else if down then 0 else v
  let int' :=
    if (up && decide (0 < e)) || (down && decide (e < 0)) then int
    else
      let w := int + ki * e
      if hi < w then hi else if w < 0 then 0 else w
  ⟨i, int', hi, up && decide (hi = pterm), up && decide (hi = ext)⟩

/-- The dispatched current of a storage source (R218, R230). -/
def storeLoop (p ext chg part : Rat) (mayChg mayDis : Bool) : LoopOut :=
  let hi := if mayDis then ext * part else 0
  let lo := if mayChg then max (-chg) (-(ext * part)) else 0
  let i := if hi < p then hi else if p < lo then lo else p
  ⟨i, 0, hi, false, decide (ext ≤ i) || decide (i ≤ -chg)⟩

/-- The front end runs: i_ref is formed (R225, R229, R230). -/
def State.frontRuns (s : State) (x : Nat) : Bool :=
  let c := (s.ch x).cell
  !c.subst && (decide (s.cellState x = csRun) || decide (s.cellState x = csLeaving))

/-- The voltage loop, or the dispatched current, of the sample now, and the voltage of word 1 (R229, R230). -/
def State.loopOf (s : State) (x : Nat) : LoopOut × Int × State :=
  let v1 := s.pri x 1
  let ext : Rat := (s.curveAt x 1 v1 : Int)
  let part := s.rampPart x
  if s.hasPv x then
    let (pt, s) := s.powerTerm (s.powerLimit x) v1
    let e : Rat := ((v1 - (s.get (R.CELL_V_REF_MV x) : Int) : Int) : Rat)
    let kp : Rat := (s.geti (R.CELL_VLOOP_KP_KP x) : Rat) / 16777216
    let ki : Rat := (s.geti (R.CELL_VLOOP_KI_KI x) : Rat) / 16777216
    (voltageLoop kp ki (s.ch x).cell.iInt e ext pt (ext * part), (s.get (R.CELL_V_REF_MV x) : Int), s)
  else
    let p := if s.flag (R.CELL_CFG_P_SRC x) then s.geti (R.CELL_P_CMD_HOST_W x) else (s.ch x).cell.pCmd
    let (pt, s) := s.powerTerm p v1
    (storeLoop pt ext (s.curveAt x 2 v1 : Int) part (s.flag R.BOOT_PERMIT_STORE_CHG)
      (s.flag R.BOOT_PERMIT_STORE_DIS), v1, s)

/-- The block's work at a sample centre: i_ref while the front end runs, the reference words, the clamp's
timers (R229 to R231). `fresh` says that PRI1 is not stale: i_ref and the integrator stand where it is (R119). -/
def State.cellLoop (s : State) (x : Nat) (fresh : Bool) : State :=
  let c := (s.ch x).cell
  let fs3 := s.geti (R.SENSE_FS_VAL x 3)
  let run := s.frontRuns x
  let (o, vref, s) := s.loopOf x
  let go := run && fresh
  let s := if go then s.setI (R.CELL_I_REF_MA x) (roundAs (R.CELL_I_REF_MA x).key o.i) else s
  let (w0, s) := if go then s.fraction (R.CELL_I_REF_MA x).key o.i fs3
    else ((if run then c.words.getD 0 0 else 0), s)
  let (w1, s) := s.fraction (R.CELL_V_REF_MV x).key (vref : Rat) (s.geti (R.SENSE_FS_VAL x 1))
  let (w2, s) := s.fraction (R.CELL_P_LIM_ARM_W x).key o.hi fs3
  let w3 : Int := if s.cellState x = csRun then 0x7FFFFFFF else 0
  let s := if go && o.curve && !c.limited then s.irq (pgCell x) 8 else s
  let held := run && o.power && s.hasPv x
  s.setCell x (fun d =>
    { d with iInt := if go then o.int else d.iInt, limited := if go then o.curve else d.limited && run,
             words := [w0, w1, w2, w3],
             onSince := if run && !fresh then d.onSince else if held then some (d.onSince.getD s.now) else none,
             offSince := if run && !fresh then d.offSince
               else if held then none else some (d.offSince.getD s.now) })

/-- The usable energy in mJ (R228). -/
def usableEnergy (uf : Nat) (mv : Int) (leave : Nat) : Nat :=
  (((uf : Int) * (mv * mv - (leave * 1000 : Nat) * (leave * 1000 : Nat))) / 2000000000).toNat

/-- Power in W from mV and mA. -/
def powerW (mv ma : Int) : Rat := (mv : Rat) * (ma : Rat) / 1000000

/-- What the sample's fresh results change (R119): the values kept as feedback, and the DC link's timers, which
the last fresh PRI0 judges (R223, R226). -/
def State.cellFresh (s : State) (x stale : Nat) : State :=
  let s := s.setCell x (fun c => { c with
    pri := (List.range 3).map (fun n =>
      if stale.testBit n then c.pri.getD n 0 else s.geti (R.SENSE_PRI_VAL x n)),
    staleRun := if stale.testBit 0 || stale.testBit 1 then c.staleRun + 1 else 0 })
  let high := decide ((s.get (R.CELL_JOIN_CFG_V_JOIN x) * 1000 : Int) ≤ s.pri x 0)
  let low := decide (s.pri x 0 < (s.get (R.CELL_JOIN_CFG_V_LEAVE x) * 1000 : Int))
  s.setCell x (fun c =>
    { c with highSince := if high then some (c.highSince.getD s.now) else none,
             lowSince := if low then some (c.lowSince.getD s.now) else none })

/-- The averages of PRI1 and of the power that the sample enters (R234, R235, R238, R239); a stale result enters
none (R119). -/
def State.cellSums (s : State) (x stale : Nat) : State :=
  let v1 := s.pri x 1
  let p := powerW v1 (s.pri x 2)
  let vOk := !stale.testBit 1
  let pOk := vOk && !stale.testBit 2
  let blk := ms (s.get (R.CELL_SETTLE_CFG_BLOCK_MS x))
  let half := ms (s.get (R.CELL_PO_CFG_PERIOD_MS x)) / 2
  let dwell := ms (s.get (R.CELL_SCAN_CFG_DWELL_MS x)) / 2
  let s := s.setCell x (fun c =>
    if c.join = .none ∨ ¬ vOk then c
    else { c with joinHist := (s.now, v1) :: c.joinHist.filter (fun e => decide (s.now ≤ e.1 + blk)) })
  let s := s.setCell x (fun c =>
    if vOk then
      { c with window := c.window.map (fun w => { w with sum := w.sum + v1, num := w.num + 1 }) }
    else c)
  s.setCell x (fun c =>
    if ¬ pOk then c
    else
      match c.scan with
      | some sc =>
        if sc.at_ + dwell ≤ s.now then
          { c with scan := some { sc with sum := sc.sum + p, num := sc.num + 1 } }
        else c
      | none =>
        if c.poAt + half ≤ s.now then { c with poSum := c.poSum + p, poNum := c.poNum + 1 } else c)

/-- A window whose string has come within `CLIP_V` of the DC link ends (R234). -/
def State.clipCheck (s : State) (x : Nat) : State :=
  match (s.ch x).cell.window with
  | some w => if s.cellState x = csShell ∧ w.asked.isNone ∧ s.clipped x then s.endWindow x 3 else s
  | none => s

/-- The cell power block's part of a sample centre (R223, R226, R228 to R239). -/
def State.cellSample (s : State) (x : Nat) : State :=
  let stale := s.get (R.SENSE_FB_STAT_STALE x)
  let s := s.setSat (R.CELL_E_USABLE_MJ x)
    (usableEnergy (s.get (R.CELL_DC_CAP_UF x)) (s.geti (R.SENSE_PRI_VAL x 0))
      (s.get (R.CELL_JOIN_CFG_V_LEAVE x)))
  let s := s.cellFresh x stale
  let c := (s.ch x).cell
  if c.cmd ∧ s.get (R.KE_HOLD_CFG_HOLDOVER_N x) < c.staleRun then
    let (n, s) := s.fresh
    s.husk x (n % 16)
  else
    let s := (s.cellSums x stale).clipCheck x
    let s :=
      if s.curveUsable x then
        let (ok, s) := s.engineRead (pgCell x) (cellArea x) 0x110
        if !ok then s.channelFault x
        else
          let v1 := s.geti (R.SENSE_PRI_VAL x 1)
          let s := if s.hasPv x then s
            else s.setI (R.CELL_P_AVAIL_W x) (truncDiv (s.curveAt x 1 v1 * v1) 1000000)
          s.cellLoop x (!stale.testBit 1)
      else s.zeroWords x
    (s.autoJoin x).shellSync x

end Sys2Proof.Machine
end

