-- ==== Sys2Proof/Machine/KernelLaw.lean ====
section
/-! DEFINITION. The Kernel's arithmetic and tables (R185, R191 to R201, R203). Measurements, references
and feed-forward signals are Q1.31 codes, states Q9.31 codes, outputs and applied values Q16.48 codes,
indices Q1.15 codes: all as integers. -/

namespace Sys2Proof.Machine

/-- `v` over `2^n`, rounded to nearest, ties toward +∞ (R192 to R194). -/
def roundShift (v : Int) (n : Nat) : Int := (v + 2 ^ (n - 1) : Int) / (2 ^ n : Int)

/-- First byte of a Kernel's area (R198). -/
def keArea (x : Nat) : Nat := 0x01000000 + x * 0x20000
/-- First byte of bank `b` (R198). -/
def bankBase (x b : Nat) : Nat := keArea x + b * 0x1000
/-- First byte of schedule descriptor `d` (R198). -/
def schedBase (x d : Nat) : Nat := keArea x + 0x1E000 + d * 0x100

/-- Word `i` of a bank. -/
def bankWord (m : Memory) (x b i : Nat) : Nat := m.word (bankBase x b + 4 * i)

/-- Element (i, j) of the bank's matrix with `c` columns at word `w0` (R199). -/
def coef (m : Memory) (x b w0 c i j : Nat) : Int := sx 32 (bankWord m x b (w0 + i * c + j))

/-- The bank's transfer state of output `j`, 15 for none (R199). -/
def xferState (m : Memory) (x b j : Nat) : Nat := bitsOf (bankWord m x b 1) (4 * j) 4

/-- Fractional bits of a bank's coefficients (R191). -/
def coefFrac (m : Memory) (x b : Nat) : Nat := if (bankWord m x b 0).testBit 0 then 24 else 28

/-- A Q16.48 accumulator with the mark of a saturation (R192). -/
abbrev AccS := Int × Bool

/-- One more term in the accumulator (R192): once it has saturated it stays. -/
def accAdd (a : AccS) (v : Int) : AccS :=
  if a.2 then a
  else
    let n := a.1 + v
    if n < -(2 ^ 63) then (-(2 ^ 63), true)
    else if 2 ^ 63 ≤ n then (2 ^ 63 - 1, true) else (n, false)

/-- A row of products added (or subtracted) into the accumulator: `cf j` times operand `j`, an operand
having `of` fractional bits and a coefficient `cfb`; each product rounded to 2^(-48) (R192). -/
def accRow (a : AccS) (sgn : Int) (cf : Nat → Int) (cfb ofb : Nat) (ops : List Int) : AccS :=
  ops.zipIdx.foldl (fun acc (v, j) => accAdd acc (sgn * roundShift (cf j * v) (cfb + ofb - 48))) a

/-- A Q16.48 result narrowed to Q9.31; the mark says that it wrapped (R193). -/
def narrow (v : Int) : Int × Bool :=
  let q := roundShift v 17
  let n := sx 40 (ux 40 q)
  (n, decide (n ≠ q))

/-- Index of the first `true`. -/
def firstTrue : List Bool → Option Nat
  | [] => none
  | true :: _ => some 0
  | false :: t => (firstTrue t).map (· + 1)

/-- The law's step from a list of accumulators: values and number of saturations. -/
def satCount (l : List AccS) : Nat := l.countP (fun a => a.2)

/-- The corrected state (R185, R188, R214): the innovation of a slot that must not enter is 0. -/
def correctRow (m : Memory) (x b : Nat) (st y : List Int) (open_ : Bool) :
    List (Int × Bool) × Nat :=
  let cf := coefFrac m x b
  let eps := (List.range 8).map (fun i =>
    if open_ then ((0, false) : AccS)
    else accRow (y.getD i 0 * 2 ^ 17, false) (-1) (coef m x b 16 12 i) cf 31 st)
  let sc := (List.range 12).map (fun i =>
    accRow (st.getD i 0 * 2 ^ 17, false) 1 (coef m x b 112 8 i) cf 48 (eps.map (fun a => a.1)))
  (sc.map (fun a => narrow a.1), satCount eps + satCount sc)

/-- The output before limits (R185). -/
def outputRow (m : Memory) (x b : Nat) (sc r w : List Int) : List Int × Nat :=
  let cf := coefFrac m x b
  let v := (List.range 4).map (fun i =>
    accRow (accRow (accRow (0, false) (-1) (coef m x b 208 12 i) cf 31 sc)
      1 (coef m x b 256 4 i) cf 31 r) 1 (coef m x b 272 4 i) cf 31 w)
  (v.map (fun a => a.1), satCount v)

/-- The predicted state (R185). -/
def predictRow (m : Memory) (x b : Nat) (sc u r w : List Int) : List (Int × Bool) × Nat :=
  let cf := coefFrac m x b
  let v := (List.range 12).map (fun i =>
    accRow (accRow (accRow (accRow (0, false) 1 (coef m x b 288 12 i) cf 31 sc)
      1 (coef m x b 432 4 i) cf 48 u) 1 (coef m x b 480 4 i) cf 31 r) 1 (coef m x b 528 4 i) cf 31 w)
  (v.map (fun a => narrow a.1), satCount v)

/-- The transfer states preloaded (R206, R209): towards `target`, from what the law gives now. -/
def preloadRow (m : Memory) (x b : Nat) (sc target v : List Int) : List (Int × Bool) :=
  (List.range 12).map (fun i =>
    match (List.range 4).find? (fun j => xferState m x b j = i) with
    | none => (sc.getD i 0, false)
    | some j =>
      let p := roundShift ((target.getD j 0 - v.getD j 0) * sx 32 (bankWord m x b (2 + j))) 24
      narrow (sc.getD i 0 * 2 ^ 17 + p))

/-- One output normalised and limited (R194 to R196): index, u_bar, clamped, divisor raised. `fv` is
the value where the spec states none: a quotient outside Q16.48, or one by `NORM_GAIN` = 0. -/
def shapeOut (norm : Bool) (d gain dmin lo hi fv v : Int) : Int × Int × Bool × Bool :=
  let raised := norm && decide (d < dmin)
  let d' := if d < dmin then dmin else d
  let n := if norm then (2 * (v * gain * 8) + d') / (2 * d') else v
  let past := decide (hi * 2 ^ 33 < n)
  let under := decide (n < lo * 2 ^ 33) && !past
  let l := if past then hi else lo
  let n' := if past || under then l * 2 ^ 33 else n
  let u :=
    if past || under then
      (if norm then
        if gain = 0 then fv
        else
          let q := if 0 < gain then (2 * (l * d' * 2 ^ 30) + gain) / (2 * gain)
            else (2 * -(l * d' * 2 ^ 30) + -gain) / (2 * -gain)
          if -(2 ^ 63) ≤ q ∧ q < 2 ^ 63 then q else fv
      else l * 2 ^ 33)
    else v
  (roundShift n' 33, u, past || under, raised)

/-! ### Schedules (R200, R201, R203) -/

/-- Word `i` of a descriptor. -/
def schedWord (m : Memory) (x d i : Nat) : Nat := m.word (schedBase x d + 4 * i)
/-- `NREG` of a descriptor. -/
def schedRegions (m : Memory) (x d : Nat) : Nat := bitsOf (schedWord m x d 0) 0 4
/-- `SIG` of a descriptor. -/
def schedSig (m : Memory) (x d : Nat) : Nat := bitsOf (schedWord m x d 0) 8 5
/-- `HYST` of a descriptor. -/
def schedHyst (m : Memory) (x d : Nat) : Int := sx 32 (schedWord m x d 1)
/-- `THETAj` of a descriptor. -/
def schedTheta (m : Memory) (x d j : Nat) : Int := sx 32 (schedWord m x d (1 + j))
/-- The bank of region `j`. -/
def schedBank (m : Memory) (x d j : Nat) : Nat := bitsOf (schedWord m x d (17 + j / 4)) (8 * (j % 4)) 8

/-- A bank is fit for a schedule (R201). -/
def bankOk (m : Memory) (x b : Nat) : Bool :=
  let w0 := bankWord m x b 0
  let ts := (List.range 4).map (xferState m x b)
  decide (b ≤ 29) && decide (w0 % 256 < 2) && decide (w0 / 256 = b)
    && (List.range 10).all (fun i => bankWord m x b (6 + i) == 0)
    && (List.range 4).all (fun j =>
      let t := ts.getD j 15
      t == 15
        || (decide (t ≤ 11)
            && (List.range 4).all (fun i => i == j || ts.getD i 15 != t)
            && coef m x b 208 12 j t != 0 && bankWord m x b (2 + j) != 0
            && (List.range 4).all (fun i => i == j || coef m x b 208 12 i t == 0)))

/-- A schedule is valid, its `TBL_VALID` bit apart (R201). -/
def schedOk (m : Memory) (x d : Nat) : Bool :=
  let n := schedRegions m x d
  let w0 := schedWord m x d 0
  let h := schedHyst m x d
  decide (bitsOf w0 4 4 = 0) && decide (w0 / 2 ^ 13 = 0) && decide (schedSig m x d ≤ 13)
    && (List.range 43).all (fun i => schedWord m x d (21 + i) == 0)
    && decide (0 ≤ h)
    && (List.range (n - 1)).all (fun k =>
      decide (schedTheta m x d (k + 1) < schedTheta m x d (k + 2))
        && decide (2 * h < schedTheta m x d (k + 2) - schedTheta m x d (k + 1)))
    && (List.range (n + 1)).all (fun j => bankOk m x (schedBank m x d j))

/-- The region without hysteresis (R203). -/
def regionAt (m : Memory) (x d : Nat) (sigma : Int) : Nat :=
  (List.range (schedRegions m x d)).foldl
    (fun j k => if schedTheta m x d (k + 1) ≤ sigma then k + 1 else j) 0

/-- `select_region` of R203: up while the next boundary plus the hysteresis is reached, then down. -/
def regionFrom (m : Memory) (x d : Nat) (sigma : Int) (region : Nat) : Nat :=
  let n := schedRegions m x d
  let h := schedHyst m x d
  let up := (List.range 16).foldl
    (fun j _ => if j < n ∧ schedTheta m x d (j + 1) + h ≤ sigma then j + 1 else j) region
  (List.range 16).foldl
    (fun j _ => if 0 < j ∧ sigma < schedTheta m x d j - h then j - 1 else j) up

end Sys2Proof.Machine
end

