-- ==== Sys2Proof/Machine/Kernel.lean ====
section
/-! DEFINITION. The Kernel (R185 to R216): what a sample centre makes it do, and its commands. -/

namespace Sys2Proof.Machine

/-- Kernel states as `ACTIVE.STATE` codes them (R217). -/
def kOff : Nat := 0
def kArmed : Nat := 1
def kRun : Nat := 2
def kTest : Nat := 3

/-- The Kernel's state. -/
def State.keState (s : State) (x : Nat) : Nat := s.get (R.KE_ACTIVE_STATE x)

/-- A channel fault that the Kernel causes (R216). -/
def State.kernelFault (s : State) (x cause : Nat) : State :=
  let s := (s.setB (R.KE_STATUS_KFAULT x) true).set (R.KE_FAULT_CAUSE x) cause
  (s.irqLog (pgKe x) 2 2).channelFault x

/-- A state result wrapped (R193). -/
def State.stateWrap (s : State) (x low : Nat) : State :=
  let s := (s.setB (R.KE_STATUS_INT_WRAP x) true).set (R.KE_FAULT_WRAP_STATE x) low
  (s.irqLog (pgKe x) 3 2).kernelFault x 3

/-- Saturated accumulators counted (R192). -/
def State.accSat (s : State) (x n : Nat) : State :=
  if n = 0 then s
  else
    let s := (List.range n).foldl (fun t _ => t.inc (R.KE_CNT_C_ACC_SAT x)) s
    (s.setB (R.KE_STATUS_ACC_SAT x) true).irq (pgKe x) 4

/-- A measurement or reference slot uses a GE0 source (R215). -/
def State.keUsesGe (s : State) (x : Nat) : Bool :=
  (List.range 8).any (fun i => decide (7 ≤ s.get (R.KE_YSRC_SLOT x i)))
    || (List.range 4).any (fun i =>
      decide (1 ≤ s.get (R.KE_RSRC_SLOT x i)) && decide (s.get (R.KE_RSRC_SLOT x i) ≤ 4))

/-- Measurement slot `i` now: its value, and whether it is stale (R188). -/
def State.keMeas (s : State) (x i : Nat) : Int × Bool :=
  let c := s.get (R.KE_YSRC_SLOT x i)
  if c = 0 then (0, false)
  else if c ≤ 6 then
    (s.geti (R.SENSE_RES_VAL x (c - 1)), (s.get (R.SENSE_FB_STAT_STALE x)).testBit (c - 1))
  else
    match (s.ch x).ke.ge with
    | none => (0, true)
    | some g => (g.aux.getD (c - 7) 0, g.auxStale.getD (c - 7) true || s.flag (R.KE_STATUS_REF_LOST x))

/-- Reference slot `i` as latched (R189). -/
def State.keRef (s : State) (x i : Nat) : Int :=
  let c := s.get (R.KE_RSRC_SLOT x i)
  if c = 0 then 0
  else if c ≤ 4 then (match (s.ch x).ke.ge with | none => 0 | some g => g.ref.getD (c - 1) 0)
  else if c ≤ 8 then (s.ch x).cell.words.getD (c - 5) 0
  else if c = 9 then s.geti (R.KE_HOST_REF_REF x i)
  else 0

/-- A signal-select code (R190). -/
def signalSel (code : Nat) (y r : List Int) : Int :=
  if 1 ≤ code ∧ code ≤ 8 then y.getD (code - 1) 0
  else if 9 ≤ code ∧ code ≤ 12 then r.getD (code - 9) 0
  else if code = 13 then 0x7FFFFFFF
  else 0

/-- The mode code (R204). -/
def State.modeCode (s : State) (x : Nat) : Nat :=
  (match (s.ch x).ke.ge with | some g => if g.gf then 2 else 0 | none => 0)
    + (if s.flag (R.CELL_STATUS_CURT x) then 1 else 0)

/-- The schedule that `MODE` names for a mode code, with the values `g` of its fields (R204). -/
def schedFor (g : Reg → Nat) (x c : Nat) : Nat :=
  if g (R.KE_MODE_HOST_SEL x) ≠ 0 then g (R.KE_MODE_HOST_SCHED x)
  else if c = 0 then g (R.KE_MODE_MAP0 x) else if c = 1 then g (R.KE_MODE_MAP1 x)
  else if c = 2 then g (R.KE_MODE_MAP2 x) else g (R.KE_MODE_MAP3 x)

/-- A schedule may be used (R201, R73). -/
def State.schedValid (s : State) (x d : Nat) : Bool :=
  (s.get R.BOOT_TBL_VALID_KE).testBit x && schedOk s.mem x d

/-- The words that checking a schedule reads: its descriptor, and the header and K of each bank that it maps
(R21, R201). The answer says whether none has a double-bit error. -/
def State.schedRead (s : State) (x d : Nat) : Bool × State :=
  (List.range (schedRegions s.mem x d + 1)).foldl
    (fun (ok, t) j =>
      let a := bankBase x (schedBank s.mem x d j)
      let (ok', t) := t.engineRead (pgKe x) a 0x40
      let (ok'', t) := t.engineRead (pgKe x) (a + 0x340) 0xC0
      (ok && ok' && ok'', t)) (s.engineRead (pgKe x) (schedBase x d) 0x100)

/-- The mode code by which a commit of `MODE` is judged: the one last latched while the Kernel runs, else that
of now (R204, R208). -/
def State.judgedCode (s : State) (x : Nat) : Nat :=
  if s.keState x = kRun then s.get (R.KE_ACTIVE_MODE_CODE x) else s.modeCode x

/-- The outputs shaped under R194 to R196, one free value for each. -/
def State.shapeAll (s : State) (x : Nat) (y v : List Int) : List (Int × Int × Bool × Bool) × State :=
  let d := y.getD (s.get (R.KE_NORM_CFG_SLOT x)) 0
  let out := (List.range 4).map (fun j =>
    shapeOut ((s.get (R.KE_NORM_CFG_EN x)).testBit j) d (s.geti (R.KE_NORM_GAIN_GAIN x))
      (s.geti (R.KE_NORM_MIN_MIN x)) (s.geti (R.KE_ULIM_U_MIN x j)) (s.geti (R.KE_ULIM_U_MAX x j))
      (sx 64 (Config.freeValue (s.freeCtr + j))) (v.getD j 0))
  (out, { s with freeCtr := s.freeCtr + 4 })

/-- The Kernel area's words that a sample reads (R21): the descriptor and the banks. -/
def State.keRead (s : State) (x d : Nat) (banks : List Nat) : Bool × State :=
  let (ok, s) := s.engineRead (pgKe x) (schedBase x d) 0x100
  banks.foldl
    (fun (ok, t) b =>
      let (ok', t) := t.engineRead (pgKe x) (bankBase x b) 0x900
      (ok && ok', t)) (ok, s)

/-- The states of the last prediction (R217). -/
def State.keStates (s : State) (x : Nat) : List Int :=
  (List.range 12).map (fun i => s.geti (R.KE_STATE_VALUE x i))

/-- Steps 4 to 8 of a sample with predicted states `st` (R185, R186, R206): `old` is the bank that
corrects, `new` the one that goes on. -/
def State.keLaw (s : State) (x old new : Nat) (st yIn y r w : List Int) (hold : Bool) : State :=
  let s := s.setKe x (fun k => { k with busy := s.now + 608 * cellCycle })
  let (sc, n) := correctRow s.mem x old st yIn hold
  let s := s.accSat x n
  match firstTrue (sc.map (fun p => p.2)) with
  | some low => s.stateWrap x low
  | none =>
    let sc := sc.map (fun p => p.1)
    let (v, n) := outputRow s.mem x old sc r w
    let s := s.accSat x n
    let (sh, s) := s.shapeAll x y v
    let ub := sh.map (fun q => q.2.1)
    let (vn, n) := if old = new then (v, 0) else outputRow s.mem x new sc r w
    let s := s.accSat x n
    let pre := if old = new then sc.map (fun v => (v, false)) else preloadRow s.mem x new sc ub vn
    match firstTrue (pre.map (fun p => p.2)) with
    | some low => s.stateWrap x low
    | none =>
      s.setKe x (fun k =>
        { k with sample := some { at_ := s.now, idx := sh.map (fun q => q.1),
                                  lim := sh.map (fun q => q.2.2.1),
                                  raised := sh.map (fun q => q.2.2.2),
                                  sc := pre.map (fun p => p.1), ubar := ub, r := r, w := w,
                                  bank := new } })

/-- The deadline opens now (R212). -/
def State.keOpen (s : State) (x t : Nat) : State :=
  s.setKe x (fun k => { k with due := some (t, t + s.get (R.KE_DL_LIMIT_LIMIT x) * cellCycle) })

/-- An ARMED Kernel at a sample centre (R209). -/
def State.keStart (s : State) (x : Nat) (y r : List Int) (stale : Bool) : State :=
  let c := s.modeCode x
  let d := schedFor s.get x c
  if stale ∨ (s.keUsesGe x ∧ (s.ch x).ke.ge.isNone) ∨ s.flag (R.KE_STATUS_TEST_FAIL x) then s
  else
    let sigma := signalSel (schedSig s.mem x d) y r
    let region := regionAt s.mem x d sigma
    let b := schedBank s.mem x d region
    let (ok, s) := s.schedRead x d
    let (ok', s) := if s.schedValid x d then s.keRead x d [b] else (true, s)
    if !(ok && ok') then s.kernelFault x 5
    else if ¬ s.schedValid x d then s
    else
      let s := (s.set (R.KE_FAULT_CAUSE x) 0).set (R.KE_ACTIVE_STATE x) kRun
      let s := ((s.set (R.KE_ACTIVE_REGION x) region).set (R.KE_ACTIVE_SCHED x) d).set (R.KE_ACTIVE_BANK x) b
      let s := ((s.set (R.KE_ACTIVE_MODE_CODE x) c).set (R.KE_ACTIVE_HOLD x) 0).setB
        (R.KE_ACTIVE_RAMPING x) false
      let s := (s.setB (R.KE_STATUS_FB_DEGRADED x) false).irq (pgKe x) 13
      let s := s.setKe x (fun k =>
        { k with rEff := r, ramp := [none, none, none, none], rampN := 0, limited := 0,
                 valid := none, ready := none, stopping := false, missRun := 0 })
      let s := (s.keOpen x s.now).joinKernelRuns x
      let w := (List.range 4).map (fun i => signalSel (s.get (R.KE_WSRC_SLOT x i)) y r)
      let zero := List.replicate 12 (0 : Int)
      let start := (List.range 4).map (fun j => s.geti (R.KE_START_V_V x j) * 2 ^ 17)
      let (sh, s) := s.shapeAll x y start
      let (vn, n) := outputRow s.mem x b zero r w
      let s := s.accSat x n
      let pre := preloadRow s.mem x b zero (sh.map (fun q => q.2.1)) vn
      match firstTrue (pre.map (fun p => p.2)) with
      | some low => s.stateWrap x low
      | none => s.keLaw x b b (pre.map (fun p => p.1)) y y r w false

/-- The effective references of a sample (R207); `change` says that the schedule changes in it. -/
def State.keRamp (s : State) (x : Nat) (r : List Int) (change : Bool) : List Int × State :=
  let k := (s.ch x).ke
  let lim := s.geti (R.KE_XFER_LIMIT_LIMIT x)
  let len := s.get (R.KE_XFER_CFG_RAMP x)
  let ramp :=
    if change then
      (List.range 4).map (fun i =>
        let p := k.rEff.getD i 0
        if (k.ramp.getD i none).isSome ∨ lim < |r.getD i 0 - p| then some p else none)
    else k.ramp
  let n := if change then 0 else k.rampN
  let ramp := if len ≤ n then [none, none, none, none] else ramp
  let reff := (List.range 4).map (fun i =>
    match ramp.getD i none with
    | none => r.getD i 0
    | some p => p + (2 * ((r.getD i 0 - p) * n) + len) / (2 * len))
  let s := s.setB (R.KE_ACTIVE_RAMPING x) (ramp.any Option.isSome)
  (reff, s.setKe x (fun k => { k with rEff := reff, ramp := ramp, rampN := n + 1 }))

/-- A running Kernel at a sample centre (R203 to R208, R214). -/
def State.keStep (s : State) (x : Nat) (yIn y r : List Int) (staleSlots : List Bool) : State :=
  let stale := staleSlots.any id
  let hold := s.get (R.KE_ACTIVE_HOLD x)
  if stale ∧ s.get (R.KE_HOLD_CFG_HOLDOVER_N x) < hold + 1 then s.kernelFault x 2
  else
    let s :=
      if stale then
        let s := if hold = 0 then (s.irq (pgKe x) 1).inc (R.KE_CNT_A_HOLDOVERS x) else s
        s.set (R.KE_ACTIVE_HOLD x) (hold + 1)
      else s.set (R.KE_ACTIVE_HOLD x) 0
    let s := s.setB (R.KE_STATUS_FB_DEGRADED x) stale
    let c := s.modeCode x
    let s := s.set (R.KE_ACTIVE_MODE_CODE x) c
    let cur := s.get (R.KE_ACTIVE_SCHED x)
    let d' := schedFor s.get x c
    let change := decide (d' ≠ cur) && !stale && decide ((s.ch x).ke.ready = some d')
    let s :=
      if d' = cur then s.setKe x (fun k =>
        { k with ready := if s.commitWaits (pgKe x) then k.ready else none,
                 valid := match k.valid with
                   | some v => if v.commit then some v else none
                   | none => none })
      else if (s.ch x).ke.ready = some d' ∨ ((s.ch x).ke.valid.map (fun v => v.sched)) = some d' then s
      else s.setKe x (fun k => { k with valid := some ⟨d', false, s.now⟩, ready := none })
    let d := if change then d' else cur
    let s := if change then s.setKe x (fun k => { k with ready := none, valid := none }) else s
    let (reff, s) := s.keRamp x r change
    let sig := schedSig s.mem x d
    let sigStale := decide (1 ≤ sig) && decide (sig ≤ 8) && staleSlots.getD (sig - 1) false
    let sigma := signalSel sig y reff
    let region := s.get (R.KE_ACTIVE_REGION x)
    let region' :=
      if change then regionAt s.mem x d sigma
      else if stale ∨ sigStale then region
      else regionFrom s.mem x d sigma region
    let old := s.get (R.KE_ACTIVE_BANK x)
    let new := if stale then old else schedBank s.mem x d region'
    let (ok, s) := s.keRead x d (if old = new then [old] else [old, new])
    if !ok then s.kernelFault x 5
    else
      let s := if region' = region then s
        else (s.inc (R.KE_CNT_B_REGIONS x)).irq (pgKe x) 8
      let s := ((s.set (R.KE_ACTIVE_REGION x) region').set (R.KE_ACTIVE_SCHED x) d).set
        (R.KE_ACTIVE_BANK x) new
      let s := if old = new then s
        else (s.inc (R.KE_CNT_B_XFERS x)).irqLog (pgKe x) 6 0
      let w := (List.range 4).map (fun i => signalSel (s.get (R.KE_WSRC_SLOT x i)) y reff)
      s.keLaw x old new (s.keStates x) yIn y reff w stale

/-- The staged values keep R195 and R196. -/
def State.keCommitOk (s : State) (x : Nat) : Bool :=
  decide (0 < sx 32 (s.stagedOf (R.KE_NORM_MIN_MIN x)))
    && (List.range 4).all (fun j =>
      decide (sx 16 (s.stagedOf (R.KE_ULIM_U_MIN x j)) ≤ sx 16 (s.stagedOf (R.KE_ULIM_U_MAX x j))))

/-- A pending commit at a sample centre (R186 step 1, R205, R208): a change of the active schedule
must have been validated. It is judged by the mode code last latched, and applies before the mode code of this
sample is looked at (R208). -/
def State.keCommitAt (s : State) (x : Nat) : State :=
  let s := s.undrop (pgKe x)
  if s.commitDue (pgKe x) then
    let c := s.judgedCode x
    let d := schedFor s.stagedOf x c
    if d ≠ schedFor s.get x c ∧ (s.ch x).ke.ready ≠ some d then
      if ((s.ch x).ke.valid.map (fun v => v.sched)) = some d then s
      else s.setKe x (fun k => { k with valid := some ⟨d, true, s.now⟩ })
    else if s.keCommitOk x then s.doCommit (pgKe x)
    else s.refuseCommit (pgKe x)
  else s

/-- The Kernel's part of a sample centre (R186, R187, R209, R214, R215). -/
def State.kernelSample (s : State) (x : Nat) : State :=
  let st := s.keState x
  let s := s.setKe x (fun k => { k with geAge := k.geAge + 1 })
  let s :=
    if s.now < (s.ch x).ke.busy then (s.inc (R.KE_CNT_A_DROPPED x)).irq (pgKe x) 11 else s
  if (st ≠ kArmed ∧ st ≠ kRun) ∨ ¬ s.flag (R.KE_CTRL_EN x) then s
  else
    if s.keUsesGe x ∧ st = kRun ∧ s.get (R.KE_HOLD_CFG_REF_HOLD_N x) < (s.ch x).ke.geAge then
      ((s.setB (R.KE_STATUS_REF_LOST x) true).irq (pgKe x) 5).kernelFault x 4
    else if s.now < (s.ch x).ke.busy ∨ (s.ch x).ke.stopping then s
    else
      let s := s.keCommitAt x
      let meas := (List.range 8).map (s.keMeas x)
      let y := (List.range 8).map (fun i =>
        let p := meas.getD i (0, false)
        if p.2 then (s.ch x).ke.y.getD i 0 else p.1)
      let s := s.setKe x (fun k => { k with y := y })
      let r := (List.range 4).map (s.keRef x)
      let stale := meas.map (fun p => p.2)
      if st = kArmed then s.keStart x y r (stale.any id)
      else s.keStep x (meas.map (fun p => p.1)) y r stale

/-! ### Commands -/

/-- KERNEL_COMPARE_WRITE (R186 step 9, R194 to R197, R212, R225). -/
def execKernelCompareWrite (dt : Nat) (x : Fin 8) (s : State) : Host.Outcome State Fault Refusal :=
  let s := s.elapse dt
  match (s.ch x).ke.sample with
  | none => .next s
  | some p =>
    if s.cellRuns x ∧ p.written = false ∧ p.at_ + 448 * cellCycle ≤ s.now then
      let s := (List.range 4).foldl
        (fun t j =>
          let lim := p.lim.getD j false
          let raised := p.raised.getD j false
          let t := t.set (R.KE_OUT_INDEX x j) (ux 16 (p.idx.getD j 0))
          let t := (t.setB (R.KE_OUT_LIMITED x j) lim).setB (R.KE_OUT_NORM_SAT x j) raised
          let t := if lim then t.inc (R.KE_LIM_CNT_COUNT x j) else t
          if raised then
            ((t.setB (R.KE_STATUS_NORM_SAT x) true).inc (R.KE_CNT_C_NORM_SAT x)).irq (pgKe x) 12
          else t) s
      let lim := (List.range 4).foldl (fun m j => if p.lim.getD j false then setBit m j else m) 0
      let began := (List.range 4).any (fun j => lim.testBit j && !(s.ch x).ke.limited.testBit j)
      let s := if began then s.irq (pgKe x) 9 else s
      let s := s.setB (R.KE_STATUS_LIMITED x) (decide (lim ≠ 0))
      let s :=
        if (s.ch x).cell.subst then s.writeZeroState x
        else (List.range 4).foldl
          (fun t y =>
            if t.flag (R.KE_OUT_MAP_EN x y) then
              let m := p.idx.getD (t.get (R.KE_OUT_MAP_SEL x y)) 0
              t.writeIndex x y (if t.flag (R.KE_OUT_MAP_NEG x y) then
                (if m = -32768 then 32767 else -m) else m)
            else t) s
      let s :=
        match (s.ch x).ke.due, dlPair (pgKe x) 0x070 with
        | some (o, e), some d =>
          if o ≠ p.at_ ∧ s.now ≤ e then (s.dlMeet d).setKe x (fun k => { k with missRun := 0 }) else s
        | _, _ => s
      let s := if s.keState x = kRun then s.keOpen x p.at_ else s
      .next (s.setKe x (fun k => { k with limited := lim, sample := some { p with written := true } }))
    else .next s

/-- KERNEL_PREDICTION_DONE (R186 step 10, R193, R210). -/
def execKernelPredictionDone (dt : Nat) (x : Fin 8) (s : State) : Host.Outcome State Fault Refusal :=
  let s := s.elapse dt
  match (s.ch x).ke.sample with
  | none => .next s
  | some p =>
    if s.cellRuns x ∧ p.written ∧ p.at_ + 608 * cellCycle ≤ s.now then
      let (pr, n) := predictRow s.mem x p.bank p.sc p.ubar p.r p.w
      let s := s.accSat x n
      let s := pr.zipIdx.foldl
        (fun t (v, i) => t.set (R.KE_STATE_VALUE x i) (ux 64 v.1)) s
      let s := (s.incWrap (R.KE_SEQ_COUNT x)).setKe x (fun k => { k with sample := none })
      match firstTrue (pr.map (fun v => v.2)) with
      | some low => .next (s.stateWrap x low)
      | none =>
        if (s.ch x).ke.stopping then
          let s := if s.keState x = kTest then s
            else s.set (R.KE_ACTIVE_STATE x) (if s.flag (R.KE_CTRL_EN x) then kArmed else kOff)
          .next (s.keHalted x)
        else .next s
    else .next s

/-- SCHEDULE_VALIDATION_DONE (R205): the change may apply at the next sample, or is refused. -/
def execScheduleValidationDone (dt : Nat) (x : Fin 8) (s : State) :
    Host.Outcome State Fault Refusal :=
  let s := s.elapse dt
  match (s.ch x).ke.valid with
  | none => .next s
  | some v =>
    if s.cellRuns x then
      let s := s.setKe x (fun k => { k with valid := none })
      let (ok, s) := s.schedRead x v.sched
      if !ok then .next (s.kernelFault x 5)
      else if s.schedValid x v.sched then .next (s.setKe x (fun k => { k with ready := some v.sched }))
      else if v.commit then
        .next (((s.refuseCommit (pgKe x)).setB (R.KE_STATUS_XFER_REFUSED x) true).irq (pgKe x) 7)
      else .next (s.kernelFault x 6)
    else .next s

/-- `CTRL.EN` of the Kernel written 1 (R209, R210). -/
def State.keEnable (s : State) (x : Nat) : State :=
  if s.flag (R.PWM_STATUS_CH_FAULT x) ∨ s.flag (R.KE_STATUS_TEST_FAIL x) ∨ s.keState x = kTest then
    s.err (pgKe x)
  else
    let s := s.setB (R.KE_CTRL_EN x) true
    if s.keState x = kOff then s.set (R.KE_ACTIVE_STATE x) kArmed else s

/-- `CTRL.EN` of the Kernel cleared (R210). -/
def State.keDisable (s : State) (x : Nat) : State :=
  if s.flag (R.KE_CTRL_EN x) then
    if s.flag (R.PWM_CTRL_EN x) ∧ (List.range 4).any (s.legKernel x) then s.kernelFault x 7
    else
      let s := s.setB (R.KE_CTRL_EN x) false
      if (s.ch x).ke.sample.isNone then
        (s.set (R.KE_ACTIVE_STATE x) kOff).keHalted x
      else s.setKe x (fun k => { k with stopping := true })
  else s

/-- The test pattern requested (R211). -/
def State.keTest (s : State) (x : Nat) : State :=
  if s.flag (R.KE_CTRL_EN x) ∨ s.flag (R.PWM_CTRL_EN x) ∨ s.keState x = kTest then s.err (pgKe x)
  else
    let s := (s.setB (R.KE_CTRL_TEST x) true).set (R.KE_ACTIVE_STATE x) kTest
    s.setKe x (fun k => { k with testEnd := s.now + 38912 * cellCycle })

/-- KERNEL_ENABLE (R210): a write of 1 to `CTRL.EN`. -/
def execKernelEnable (dt : Nat) (x : Fin 8) (s : State) : Host.Outcome State Fault Refusal :=
  .next ((s.elapse dt).hostAct (pgKe x) 0x008 (fun t => t.keEnable x))

/-- KERNEL_DISABLE (R210): a write of 0 to `CTRL.EN`. -/
def execKernelDisable (dt : Nat) (x : Fin 8) (s : State) : Host.Outcome State Fault Refusal :=
  .next ((s.elapse dt).hostAct (pgKe x) 0x008 (fun t => t.keDisable x))

/-- KERNEL_TEST_START (R211): a write of 1 to `CTRL.TEST`. -/
def execKernelTestStart (dt : Nat) (x : Fin 8) (s : State) : Host.Outcome State Fault Refusal :=
  .next ((s.elapse dt).hostAct (pgKe x) 0x008 (fun t => t.keTest x))

/-- KERNEL_TEST_DONE (R211): the pattern ends; whether its signature agreed is the silicon's. -/
def execKernelTestDone (dt : Nat) (x : Fin 8) (pass : Bool) (s : State) :
    Host.Outcome State Fault Refusal :=
  let s := s.elapse dt
  if s.cellRuns x ∧ s.keState x = kTest ∧ (s.ch x).ke.testEnd ≤ s.now then
    let s := (s.setB (R.KE_CTRL_TEST x) false).set (R.KE_ACTIVE_STATE x) kOff
    let s := (s.setB (R.KE_STATUS_TEST_PASS x) pass).setB (R.KE_STATUS_TEST_FAIL x) (!pass)
    .next (if pass then s.irq (pgKe x) 10 else s.irqLog (pgKe x) 10 2)
  else .next s

/-- A missed Kernel deadline (R95, R212). The channel faults at the third miss in a row since the start, which
leaves `RUN` as it is (log entry 77). -/
def State.keMiss (s : State) (x : Nat) : State :=
  match (s.ch x).ke.due, dlPair (pgKe x) 0x070 with
  | some (_, e), some d =>
    if s.keState x = kRun ∧ e ≤ s.now then
      let s := (s.setB (R.KE_STATUS_MISS x) true).irq (pgKe x) 0
      let (s, _) := s.dlMiss d
      let n := (s.ch x).ke.missRun + 1
      if n = 3 then s.kernelFault x 1
      else (s.setKe x (fun k => { k with missRun := n })).keOpen x e
    else s
  | _, _ => s

end Sys2Proof.Machine
end

