-- ==== Sys2Proof/Machine/Pwm.lean ====
section
/-! DEFINITION. The PWM's commands (R138 to R160). -/

namespace Sys2Proof.Machine

/-- What the carrier alone gives leg `y` at an instant under the values in force before it (R151). -/
def State.naturalLegs (s : State) (x mode top tau : Nat) : List Bool :=
  (List.range 4).map (fun y => demandAt mode top (s.compare x y) (s.legShift x y) tau)

/-- `EN` takes effect (R159): the outputs follow the PWM, blanking starts (R167), and a join goes on
(R224). A leg whose `RDY` is low while blanking runs has no active source. -/
def State.enableEffect (s : State) (x : Nat) : State :=
  let s := s.setB (R.PWM_STATUS_RUN x) true
  let s := s.setPwm x (fun p => { p with enAt := none, runAt := s.now })
  let s :=
    if s.get (R.GUARD_RDY_CFG_BLANK x) = 0 then s
    else
      let low := s.get (R.GUARD_SC_STAT_RDY_LOW x)
      let s := (s.setGuard x (fun d => { d with blanking := true })).set (R.GUARD_SC_STAT_BLANKED x) low
      (List.range 4).foldl (fun t y => if low.testBit y then t.sourceOff x (20 + y) else t) s
  s.joinCarrier x

/-- The carrier's zero (R139, R140, R143, R151, R152, R159). -/
def State.carrierZero (s : State) (x : Nat) : State :=
  let p := (s.ch x).pwm
  let oldTop := cTop p.mode p.ticks
  let upd := decide (p.mode = 0) || (s.get (R.PWM_CARRIER_UPDATE_AT x)).testBit 0
  let nat := s.naturalLegs x p.mode oldTop 0
  let (s, r1) := if upd then s.pwmCommit x else (s, [])
  let (s, r2) := if upd then s.pwmIndices x else (s, [])
  let mode := s.get (R.PWM_CARRIER_MODE x)
  let ticks := s.get (R.PWM_PERIOD_TICKS x)
  let top := cTop mode ticks
  let e := s.carrierError x ticks
  let near := decide (|e| ≤ 1)
  let rose := near && !s.flag (R.PWM_STATUS_ALIGNED x)
  let s := (s.setB (R.PWM_STATUS_ALIGNED x) near).setB (R.PWM_STATUS_SLEWING x) (!near)
  let s := if rose then s.irq (pgPwm x) 17 else s
  let s := s.setPwm x (fun p =>
    { p with started := true, zeroAt := s.now, falling := false, mode := mode, ticks := ticks,
             top := slewedTop mode ticks (s.slewStep x mode ticks e),
             legs := if top = oldTop then p.legs
               else p.legs.map (fun g => { g with kCmp := indexCompare g.kIdx top }) })
  let s := (s.clampCheck x).set (R.PWM_ZERO_T_NS x) (s.stamp (pgPwm x))
  let enabling : Bool := match p.enAt with
    | some t => decide (t + 2 * cellCycle ≤ s.now)
    | none => false
  let s := if enabling then s.enableEffect x else s
  (s.evaluateLegs x 0 upd enabling nat (r1 ++ r2)).showCompares x

/-- CARRIER_ZERO (R139, R493): the carrier reaches a zero. -/
def execCarrierZero (dt : Nat) (x : Fin 8) (s : State) : Host.Outcome State Fault Refusal :=
  let s := s.elapse dt
  let p := (s.ch x).pwm
  if s.cellRuns x ∧ (if p.started then p.zeroAt + fine * periodSteps p.mode p.top ≤ s.now
      else s.firstZero x) then
    .next (s.carrierZero x)
  else .next s

/-- CARRIER_PEAK (R150, R151, R152): the peak of a triangle carrier. -/
def execCarrierPeak (dt : Nat) (x : Fin 8) (s : State) : Host.Outcome State Fault Refusal :=
  let s := s.elapse dt
  let p := (s.ch x).pwm
  if s.cellRuns x ∧ p.started ∧ p.mode ≠ 0 ∧ p.falling = false ∧ p.zeroAt + fine * p.top ≤ s.now then
    let upd := (s.get (R.PWM_CARRIER_UPDATE_AT x)).testBit 1
    let nat := s.naturalLegs x p.mode p.top p.top
    let s := s.setPwm x (fun p => { p with falling := true })
    let (s, r1) := if upd then s.pwmCommit x else (s, [])
    let (s, r2) := if upd then s.pwmIndices x else (s, [])
    let s := s.clampCheck x
    .next ((s.evaluateLegs x p.top upd false nat (r1 ++ r2)).showCompares x)
  else .next s

/-- IDEAL_EDGE (R142, R145): the carrier's crossing changes the leg's ideal demand. A sawtooth's `d` rises at
the wrap, which is no crossing (R154). -/
def execIdealEdge (dt : Nat) (x : Fin 8) (y : Fin 4) (s : State) :
    Host.Outcome State Fault Refusal :=
  let s := s.elapse dt
  let p := (s.ch x).pwm
  let d := s.idealAt x y ((s.now - p.zeroAt) / fine)
  if s.cellRuns x ∧ p.started ∧ d ≠ (s.leg x y).d then
    .next (s.deliver x y s.now d (decide (p.mode ≠ 0) || !d))
  else .next s

/-- SCHEDULED_SWITCH_OFF (R145): a switch's `t_stop` arrives. -/
def execScheduledSwitchOff (dt : Nat) (x : Fin 8) (y : Fin 4) (high : Bool) (s : State) :
    Host.Outcome State Fault Refusal :=
  let s := s.elapse dt
  let w := (s.leg x y).sw high
  match w.stop with
  | none => .next s
  | some t =>
    if s.cellRuns x ∧ w.st = .on ∧ t ≤ s.now then .next (s.setLeg x y (fun l => l.putSw high {}))
    else .next s

/-- SCHEDULED_SWITCH_ON (R145): a switch's turn-on arrives; it lies no sooner than the turn-off of the other
switch, which is carried out with it if its own command has not come yet. -/
def execScheduledSwitchOn (dt : Nat) (x : Fin 8) (y : Fin 4) (high : Bool) (s : State) :
    Host.Outcome State Fault Refusal :=
  let s := s.elapse dt
  let w := (s.leg x y).sw high
  if s.cellRuns x ∧ w.st = .wait ∧ w.start ≤ s.now then
    let c := (s.leg x y).sw (!high)
    let c : Sw := if c.st = .on then {} else c
    .next (s.setLeg x y (fun l => (l.putSw (!high) c).putSw high { w with st := .on }))
  else .next s

/-- BOOTSTRAP_REFRESH (R148): the high side has been on for `BOOT_MAX_ON`. -/
def execBootstrapRefresh (dt : Nat) (x : Fin 8) (y : Fin 4) (s : State) :
    Host.Outcome State Fault Refusal :=
  let s := s.elapse dt
  let mo := s.get (R.PWM_LEGCFG_BOOT_MAX_ON x y)
  let l := s.leg x y
  if s.cellRuns x ∧ mo ≠ 0 ∧ l.h.st = .on ∧ l.h.stop = none ∧ l.h.start + us mo ≤ s.now then
    let t := s.now + fine * s.get (R.PWM_DT_FALL x y)
    let w : Sw := { st := if t ≤ s.now then .on else .wait, start := t, min := s.minPulse x y }
    let s := s.setLeg x y (fun l =>
      { l with h := {}, l := w, refresh := some (t + fine * s.get (R.PWM_BOOT_REFRESH x y)) })
    .next ((s.inc (R.PWM_EVT_REFRESH x y)).irq (pgPwm x) (13 + y))
  else .next s

/-- REFRESH_END (R148): the refresh pulse ends and the high side turns on again. -/
def execRefreshEnd (dt : Nat) (x : Fin 8) (y : Fin 4) (s : State) :
    Host.Outcome State Fault Refusal :=
  let s := s.elapse dt
  match (s.leg x y).refresh with
  | none => .next s
  | some t =>
    if s.cellRuns x ∧ t ≤ s.now then
      let on := t + fine * s.get (R.PWM_DT_RISE x y)
      let w : Sw := { st := if on ≤ s.now then .on else .wait, start := on, min := s.minPulse x y }
      .next (s.setLeg x y (fun l => { l with l := {}, h := w, refresh := none }))
    else .next s

/-- SHOOT_THROUGH (R149): a fault upstream demands both switches of a leg, until the leg's `SHOOT` bit is
cleared (DESIGN CHOICE, log entry 75). -/
def execShootThrough (dt : Nat) (x : Fin 8) (y : Fin 4) (s : State) :
    Host.Outcome State Fault Refusal :=
  let s := s.elapse dt
  if s.cellRuns x then
    let s := (s.setMaskBit (R.PWM_STATUS_SHOOT x) y).irq (pgPwm x) (1 + y)
    let s := s.setLeg x y (fun l => { l with both := true })
    .next (s.sourceOn x (28 + y))
  else .next s

/-- PWM_DISABLE (R158): `CTRL.EN` is cleared. -/
def execPwmDisable (dt : Nat) (x : Fin 8) (s : State) : Host.Outcome State Fault Refusal :=
  .next ((s.elapse dt).hostAct (pgPwm x) 0x008 (fun t => t.pwmStop x))

/-- PWM_ENABLE (R159, R160): a write of 1 to `CTRL.EN`. -/
def execPwmEnable (dt : Nat) (x : Fin 8) (s : State) : Host.Outcome State Fault Refusal :=
  .next ((s.elapse dt).hostAct (pgPwm x) 0x008 (fun t => t.pwmEnable x))

end Sys2Proof.Machine
end

