-- ==== Sys2Proof/Machine/Cell.lean ====
section
/-! DEFINITION. The cell power block's commands (R222 to R239). -/

namespace Sys2Proof.Machine

/-- Now is an update point of the channel's PWM (R150, R151). -/
def State.atUpdatePoint (s : State) (x : Nat) : Bool :=
  let p := (s.ch x).pwm
  p.started
    && ((decide (p.zeroAt = s.now)
          && (decide (p.mode = 0) || (s.get (R.PWM_CARRIER_UPDATE_AT x)).testBit 0))
      || (p.falling && decide (p.zeroAt + fine * p.top = s.now)
          && (s.get (R.PWM_CARRIER_UPDATE_AT x)).testBit 1))

/-- A granted epoch has been reached. -/
def State.epochDue (s : State) (x : Nat) : Bool :=
  match (s.ch x).cell.epoch with
  | some t => decide (t ≤ s.canopy)
  | none => false

/-- `CTRL.JOIN` written 1 (R222). -/
def State.cellJoin (s : State) (x : Nat) : State :=
  if s.cellState x = csHusk then s.requestJoin x else s

/-- CELL_JOIN (R222): a write of 1 to `CTRL.JOIN`. -/
def execCellJoin (dt : Nat) (x : Fin 8) (s : State) : Host.Outcome State Fault Refusal :=
  .next ((s.elapse dt).hostAct (pgCell x) 0x008 (fun t => t.cellJoin x))

/-- DC_LINK_QUALIFY (R223, R224 step 1): the DC link has qualified. -/
def execDcLinkQualify (dt : Nat) (x : Fin 8) (s : State) : Host.Outcome State Fault Refusal :=
  let s := s.elapse dt
  match (s.ch x).cell.highSince with
  | none => .next s
  | some t =>
    if s.cellRuns x ∧ s.cellState x = csWaitDc
        ∧ t + ms (s.get (R.CELL_JOIN_TIME_JOIN_MS x)) ≤ s.now then
      let (c, s) := s.joinCheck x
      if c ≠ 0 then .next (s.refuseJoin x c)
      else
        let s := (s.cellEnter x csJoining).setB (R.PWM_STATUS_CH_FAULT x) false
        let s := s.setB (R.KE_STATUS_KFAULT x) false
        let s := s.setCell x (fun d =>
          { d with join := .kernel, joinAt := s.now, joinHist := [], lowSince := none })
        let s := s.keEnable x
        .next (if s.keState x = kRun ∧ ¬ (s.ch x).ke.stopping then s.joinKernelRuns x else s)
    else .next s

/-- JOIN_KERNEL_TIMEOUT (R224 step 2). -/
def execJoinKernelTimeout (dt : Nat) (x : Fin 8) (s : State) : Host.Outcome State Fault Refusal :=
  let s := s.elapse dt
  let c := (s.ch x).cell
  if s.cellRuns x ∧ s.cellState x = csJoining ∧ c.join = .kernel ∧ c.joinAt + ms 1 ≤ s.now then
    .next ((s.refuseJoin x 8).setCell x (fun c => { c with join := .none }))
  else .next s

/-- `CTRL.LEAVE` written 1 (R223, R226, R236). -/
def State.cellLeave (s : State) (x : Nat) : State :=
  let st := s.cellState x
  if st = csWaitDc then s.cellEnter x csHusk
  else if st = csRun ∨ st = csShell then
    let s :=
      match (s.ch x).cell.window with
      | some w =>
        let s := s.showOut x w.start
        if w.asked.isNone then s.windowLost x 4 else s
      | none => s
    let s := ((s.dropScan x).cellEnter x csLeaving).setB (R.CELL_CTRL_LEAVE x) true
    let s := s.setCell x (fun c =>
      { c with window := none, shellGrant := false, epoch := none, leaving := false })
    s.shellSync x
  else s

/-- CELL_LEAVE (R226): a write of 1 to `CTRL.LEAVE`. -/
def execCellLeave (dt : Nat) (x : Fin 8) (s : State) : Host.Outcome State Fault Refusal :=
  .next ((s.elapse dt).hostAct (pgCell x) 0x008 (fun t => t.cellLeave x))

/-- DC_LINK_LOW (R223, R226): `PRI0` has lain below `V_LEAVE` for `LEAVE_US`. -/
def execDcLinkLow (dt : Nat) (x : Fin 8) (s : State) : Host.Outcome State Fault Refusal :=
  let s := s.elapse dt
  match (s.ch x).cell.lowSince with
  | none => .next s
  | some t =>
    if s.cellRuns x ∧ csJoining ≤ s.cellState x ∧ s.cellState x ≤ csLeaving
        ∧ t + us (s.get (R.CELL_JOIN_TIME_LEAVE_US x)) ≤ s.now then
      .next ((s.husk x 2).autoJoin x)
    else .next s

/-- EPOCH_UPDATE_POINT (R224 step 8, R226, R234): the first update point at or after the epoch. -/
def execEpochUpdatePoint (dt : Nat) (x : Fin 8) (s : State) : Host.Outcome State Fault Refusal :=
  let s := s.elapse dt
  let c := (s.ch x).cell
  let st := s.cellState x
  if s.cellRuns x ∧ s.atUpdatePoint x ∧ s.epochDue x then
    if st = csJoining ∧ c.join = .epoch then .next ((s.enterRun x).irq (pgCell x) 0)
    else if st = csRun ∧ c.shellGrant then
      let s := ((s.dropScan x).cellEnter x csShell).startSubst x
      .next ((s.setCell x (fun c =>
        { c with shellGrant := false, epoch := none,
                 window := some { start := s.now, blockAt := s.now } })).restartPo x)
    else if st = csShell then
      match c.window with
      | some w => if w.asked.isSome then .next ((s.showOut x w.start).enterRun x) else .next s
      | none => .next s
    else if st = csLeaving then
      if c.leaving then .next (s.husk x 1)
      else
        .next ((s.startSubst x).setCell x (fun c =>
          { c with leaving := true, epoch := some (s.canopy + 1) }))
    else .next s
  else .next s

/-- CURT_ON (R231). -/
def execCurtOn (dt : Nat) (x : Fin 8) (s : State) : Host.Outcome State Fault Refusal :=
  let s := s.elapse dt
  match (s.ch x).cell.onSince with
  | none => .next s
  | some t =>
    if s.cellRuns x ∧ s.hasPv x ∧ s.cellState x = csRun ∧ ¬ s.flag (R.CELL_STATUS_CURT x)
        ∧ t + ms (s.get (R.CELL_CURT_CFG_ON_MS x)) ≤ s.now then
      let s := (s.dropScan x).setB (R.CELL_STATUS_CURT x) true
      .next (((s.irq (pgCell x) 7).restartPo x).shellSync x)
    else .next s

/-- CURT_OFF (R231). -/
def execCurtOff (dt : Nat) (x : Fin 8) (s : State) : Host.Outcome State Fault Refusal :=
  let s := s.elapse dt
  match (s.ch x).cell.offSince with
  | none => .next s
  | some t =>
    if s.cellRuns x ∧ s.flag (R.CELL_STATUS_CURT x)
        ∧ t + ms (s.get (R.CELL_CURT_CFG_OFF_MS x)) ≤ s.now then
      let s := s.setB (R.CELL_STATUS_CURT x) false
      .next (((((s.irq (pgCell x) 7).restartPo x).reform x).shellSync x).scanTry x)
    else .next s

/-- SHELL_DUE (R232): `PERIOD_S`, or `GAP_MS`, has passed since the last window. -/
def execShellDue (dt : Nat) (x : Fin 8) (s : State) : Host.Outcome State Fault Refusal :=
  let s := s.elapse dt
  .next (if s.cellRuns x then s.shellSync x else s)

/-- `CTRL.SHELL_NOW` written 1 (R232, R236). -/
def State.shellNow (s : State) (x : Nat) : State :=
  if s.flag (R.CELL_STATUS_SHELL_REQ x) then s
  else
    ((s.setB (R.CELL_CTRL_SHELL_NOW x) true).setCell x (fun c => { c with shellDue := some s.now })).shellSync x

/-- SHELL_NOW (R232, R236): a write of 1 to `CTRL.SHELL_NOW`. -/
def execShellNow (dt : Nat) (x : Fin 8) (s : State) : Host.Outcome State Fault Refusal :=
  .next ((s.elapse dt).hostAct (pgCell x) 0x008 (fun t => t.shellNow x))

/-- SHELL_BLOCK_END (R234 steps 2 to 4): a block ends; settling or clipping is judged. -/
def execShellBlockEnd (dt : Nat) (x : Fin 8) (s : State) : Host.Outcome State Fault Refusal :=
  let s := s.elapse dt
  match (s.ch x).cell.window with
  | none => .next s
  | some w =>
    if s.cellRuns x ∧ s.cellState x = csShell ∧ w.asked.isNone
        ∧ w.blockAt + ms (s.get (R.CELL_SETTLE_CFG_BLOCK_MS x)) ≤ s.now then
      if s.clipped x then .next (s.endWindow x 3)
      else if w.num = 0 then
        .next (s.setCell x (fun c => { c with window := some { w with blockAt := s.now } }))
      else
        let avg : Rat := (w.sum : Rat) / (w.num : Rat)
        let settled : Bool := match w.last with
          | some l => decide (|avg - l| ≤ (s.get (R.CELL_SETTLE_CFG_DV x) : Rat))
          | none => false
        if settled then
          .next ((s.validVoc x avg).setCell x (fun c =>
            { c with epoch := none, window := some { w with asked := some s.now, last := some avg } }))
        else
          .next (s.setCell x (fun c =>
            { c with window := some { w with blockAt := s.now, sum := 0, num := 0, last := some avg } }))
    else .next s

/-- SHELL_TIMEOUT (R234): `MAX_MS` has passed in the window. -/
def execShellTimeout (dt : Nat) (x : Fin 8) (s : State) : Host.Outcome State Fault Refusal :=
  let s := s.elapse dt
  match (s.ch x).cell.window with
  | none => .next s
  | some w =>
    .next (if s.cellRuns x ∧ s.cellState x = csShell ∧ w.asked.isNone
        ∧ w.start + ms (s.get (R.CELL_SHELL_CFG_MAX_MS x)) ≤ s.now then s.endWindow x 2
      else s)

/-- SHELL_CLOSE_TIMEOUT (R234 step 7): no close epoch within 1 ms of the request. -/
def execShellCloseTimeout (dt : Nat) (x : Fin 8) (s : State) : Host.Outcome State Fault Refusal :=
  let s := s.elapse dt
  let c := (s.ch x).cell
  match c.window.bind (fun w => w.asked) with
  | none => .next s
  | some t =>
    if s.cellRuns x ∧ s.cellState x = csShell ∧ c.epoch.isNone ∧ t + ms 1 ≤ s.now then
      let s := s.setCell x (fun c => { c with epoch := some s.canopy })
      .next (s.logIt (pgCell x) 1 0x00FE (bytesLE 2 0x0A4))
    else .next s

/-- PO_PERIOD_END (R238). The mean of a half period without a sample is not stated: a free value. While `PO_EN`
is 0 the period ends without an action. -/
def execPoPeriodEnd (dt : Nat) (x : Fin 8) (s : State) : Host.Outcome State Fault Refusal :=
  let s := s.elapse dt
  let c := (s.ch x).cell
  if s.cellRuns x ∧ s.hasPv x ∧ s.cellState x = csRun
      ∧ ¬ s.flag (R.CELL_STATUS_CURT x) ∧ c.scan.isNone
      ∧ c.poAt + ms (s.get (R.CELL_PO_CFG_PERIOD_MS x)) ≤ s.now then
    if ¬ s.flag (R.CELL_CFG_PO_EN x) then .next (s.restartPo x)
    else
    let (p, s) : Rat × State :=
      if c.poNum = 0 then
        let (n, s) := s.fresh
        ((n : Rat), s)
      else (c.poSum / (c.poNum : Rat), s)
    let dir := if p < c.pLast then -c.dir else c.dir
    let span := s.offsetSpan x
    let off := clampI (-span) span (c.offset + dir * (1000 * s.get (R.CELL_PO_CFG_STEP_V x) : Nat))
    let s := (s.setCell x (fun c => { c with dir := dir, pLast := p, offset := off })).restartPo x
    let w := roundAs (R.CELL_P_MEAS_W x).key p
    let s := s.setI (R.CELL_P_MEAS_W x) w
    let s := s.setSat (R.CELL_P_AVAIL_W x) w.toNat
    .next (s.reform x)
  else .next s

/-- SCAN_DUE (R239): the scan period expires; the scan starts when its conditions hold. -/
def execScanDue (dt : Nat) (x : Fin 8) (s : State) : Host.Outcome State Fault Refusal :=
  let s := s.elapse dt
  .next (if s.cellRuns x then s.scanTry x else s)

/-- `CTRL.SCAN_NOW` written 1 (R239). -/
def State.scanNow (s : State) (x : Nat) : State :=
  if (s.ch x).cell.scan.isNone then
    ((s.setB (R.CELL_CTRL_SCAN_NOW x) true).setCell x (fun c => { c with scanDue := some s.now })).scanTry x
  else s

/-- SCAN_NOW (R239): a write of 1 to `CTRL.SCAN_NOW`. -/
def execScanNow (dt : Nat) (x : Fin 8) (s : State) : Host.Outcome State Fault Refusal :=
  .next ((s.elapse dt).hostAct (pgCell x) 0x008 (fun t => t.scanNow x))

/-- One of a list's elements, by a free choice where several qualify. -/
def State.anyOf {α : Type} (s : State) (l : List α) (d : α) : α × State :=
  if l.length ≤ 1 then (l.headD d, s)
  else
    let (n, s) := s.fresh
    (l.getD (n % l.length) d, s)

/-- The scan ends: its optimum is judged (R239 steps 3 to 5). Which of two equal averages, or of two
equally near steps, counts is not stated: a free choice. -/
def State.scanEnd (s : State) (x : Nat) (done : List (Int × Rat)) : State :=
  let best := done.foldl (fun m q => max m q.2) (done.headD (0, 0)).2
  let (vb, s) := s.anyOf (done.filter (fun q => decide (q.2 = best))) (0, 0)
  let centre : Int := s.fracCentre x
  let dist (q : Int × Rat) : Nat := (q.1 - centre).natAbs
  let near := done.foldl (fun m q => min m (dist q)) (dist (done.headD (0, 0)))
  let (pf, s) := s.anyOf (done.filter (fun q => decide (dist q = near))) (0, 0)
  let gain : Rat := 1 + (s.get (R.CELL_CURT_CFG_SCAN_GAIN_PCT x) : Rat) / 100
  let shaded := decide (pf.2 * gain < best)
  let was := s.flag (R.CELL_STATUS_SHADED x)
  let s := s.setB (R.CELL_STATUS_SHADED x) shaded
  let s :=
    if shaded then
      ((s.setI (R.CELL_V_BEST_MV x) vb.1).set (R.CELL_V_OC_SCAN_MV x) (s.get (R.CELL_V_OC_MV x))).setCell x
        (fun c => { c with offset := 0 })
    else s
  let s := if shaded ≠ was then s.irq (pgCell x) 6 else s
  let s := (s.setB (R.CELL_STATUS_SCANNING x) false).inc (R.CELL_CNT_B_SCANS x)
  let s := s.setCell x (fun c => { c with
    scan := none,
    scanDue := some (s.now + secs (s.get (R.CELL_SCAN_CFG_PERIOD_S x))) })
  let s := (s.irq (pgCell x) 5).restartPo x
  (s.reform x).shellSync x

/-- SCAN_DWELL_END (R239): a step's dwell ends. -/
def execScanDwellEnd (dt : Nat) (x : Fin 8) (s : State) : Host.Outcome State Fault Refusal :=
  let s := s.elapse dt
  match (s.ch x).cell.scan with
  | none => .next s
  | some c =>
    if s.cellRuns x ∧ c.at_ + ms (s.get (R.CELL_SCAN_CFG_DWELL_MS x)) ≤ s.now then
      let (p, s) : Rat × State :=
        if c.num = 0 then
          let (n, s) := s.fresh
          ((n : Rat), s)
        else (c.sum / (c.num : Rat), s)
      let done := (((s.get (R.CELL_V_REF_MV x) : Nat) : Int), p) :: c.done
      if c.k = 0 then .next (s.scanEnd x done)
      else
        let s := s.setCell x (fun d => { d with
        scan :=
          some { c with k := c.k - 1, at_ := s.now, sum := 0, num := 0, done := done } })
        .next (s.setI (R.CELL_V_REF_MV x) (s.scanPoint x (c.k - 1)))
    else .next s

/-- A grant addressed to the cell (R224, R226, R233, R234): 1 join, 2 leave, 3 Shell open, 4 Shell
close. -/
def State.cellGrant (s : State) (x kind epoch : Nat) : State :=
  let st := s.cellState x
  let c := (s.ch x).cell
  let name := s.setCell x (fun c => { c with epoch := some epoch })
  if kind = 1 then (if st = csJoining ∧ c.join = .epoch then name else s)
  else if kind = 2 then (if st = csLeaving ∧ ¬ c.leaving then name else s)
  else if kind = 3 then
    if st = csRun then (name.setCell x (fun c => { c with shellGrant := true })).shellSync x
    else
      let s := (s.set (R.CELL_SHELL_RESULT_CODE x) 5).inc (R.CELL_CNT_A_MISSED x)
      s.setCell x (fun c =>
        { c with shellDue := some (s.now + ms (s.get (R.CELL_SHELL_CFG_GAP_MS x))) })
  else if kind = 4 then
    (if st = csShell ∧ (c.window.bind (fun w => w.asked)).isSome then name else s)
  else s

/-- Ride-through onset during a window (R236): it ends at the cell's next update point. -/
def State.cellRide (s : State) (x : Nat) : State :=
  match (s.ch x).cell.window with
  | some w =>
    if s.cellState x = csShell then
      let s := if w.asked.isNone then s.endWindow x 4 else s
      s.setCell x (fun c => { c with epoch := some s.canopy })
    else s
  | none => s

end Sys2Proof.Machine
end

