-- ==== Sys2Proof/Machine/Crc.lean ====
section
/-! DEFINITION. The checks the formats use: CRC-16 with polynomial 0x1021 and initial value 0xFFFF
(R334, R451), and CRC-32C, reflected polynomial 0x82F63B78 (R71, R334, R412). -/

namespace Sys2Proof.Machine

/-- `n` shifts of the CRC-16 register. -/
def crc16Shift : Nat → Nat → Nat
  | 0, c => c
  | n + 1, c =>
    crc16Shift n (if c.testBit 15 then ((c * 2) % 65536) ^^^ 0x1021 else (c * 2) % 65536)

/-- One byte into the CRC-16. -/
def crc16Byte (c b : Nat) : Nat := crc16Shift 8 (c ^^^ (b % 256 * 256))

/-- The CRC-16 of a byte string (R334, R451). -/
def crc16 (l : List Nat) : Nat := l.foldl crc16Byte 0xFFFF

/-- `n` shifts of the CRC-32C register. -/
def crc32Shift : Nat → Nat → Nat
  | 0, c => c
  | n + 1, c => crc32Shift n (if c.testBit 0 then (c / 2) ^^^ 0x82F63B78 else c / 2)

/-- One byte into the CRC-32C. -/
def crc32Byte (c b : Nat) : Nat := crc32Shift 8 (c ^^^ (b % 256))

/-- The CRC-32C of a byte string (R412). -/
def crc32c (l : List Nat) : Nat := (l.foldl crc32Byte 0xFFFFFFFF) ^^^ 0xFFFFFFFF

end Sys2Proof.Machine
end

