-- ==== Sys2Proof/Machine/RingCore.lean ====
section
/-! DEFINITION. Sending on the ring (R334 to R346): frames, egress queues, the choice of the next
frame, and how a node's own frame is routed. -/

namespace Sys2Proof.Machine

/-- The port `p` (0 East, 1 West). -/
def State.port (s : State) (p : Nat) : PortSt := s.ring.ports.getD p {}

/-- The port `p` changed. -/
def State.setPort (s : State) (p : Nat) (f : PortSt → PortSt) : State :=
  { s with ring := { s.ring with ports := s.ring.ports.modify p f } }

/-- Port states of R329. -/
def psDown : Nat := 0
def psNegotiate : Nat := 1
def psUp : Nat := 2
def psNover : Nat := 3
def psRepeat : Nat := 4

/-- The state a port reports (R329). -/
def State.portState (s : State) (p : Nat) : Nat := s.get (R.VPORT_STATUS_STATE p)

/-- The port is UP. -/
def State.portUp (s : State) (p : Nat) : Bool := decide (s.portState p = psUp)

/-- The node is wrapped at the port (R347). -/
def State.isWrapped (s : State) (p : Nat) : Bool :=
  if p = 0 then s.flag R.VODOR_STATUS_WRAP_E else s.flag R.VODOR_STATUS_WRAP_W

/-- The node may send out of the port: UP, inserted and not wrapped (R347, R348, R350). -/
def State.portOpen (s : State) (p : Nat) : Bool := s.portUp p && s.ring.inserted && !s.isWrapped p

/-- The node's own address (R333). -/
def State.addr (s : State) : Nat := s.get R.VODOR_NODE_CFG_ADDR

/-- The header of a frame, bytes 0x0 to 0xB (R334, R335). -/
def Frame.head (f : Frame) : List Nat :=
  bytesLE 2 (f.tc % 4 + f.kind % 4 * 4 + (if f.grp then 16 else 0) + (if f.exp then 32 else 0)
      + f.wraps % 4 * 64)
    ++ bytesLE 2 f.dst ++ bytesLE 2 f.src ++ bytesLE 2 f.hops
    ++ bytesLE 2 f.payload.length ++ bytesLE 2 f.seq

/-- The frame's bytes from its header to its FCS (R334). -/
def Frame.bytes (f : Frame) : List Nat :=
  let h := f.head
  let b := h ++ bytesLE 2 (crc16 h) ++ f.payload
  b ++ bytesLE 4 (crc32c b)

/-- Length of a frame in its transit buffer. -/
def Frame.size (f : Frame) : Nat := f.payload.length + 18

/-- The transit buffer of each class, in bytes (R343). -/
def classBuffer (tc : Nat) : Nat :=
  if tc = 0 then 512 else if tc = 1 then 4096 else if tc = 2 then 8192 else 16384

/-- The rank of a frame for the egress, lower first (R344): class, then expedition, then transit
before own. -/
def Frame.rank (f : Frame) : Nat :=
  f.tc * 4 + (if f.exp then 0 else 2) + (if f.own then 1 else 0)

/-- The order of the egress: the rank, and among own frames a packet of a transmit queue after the others, so
that notices go ahead of the transmit queues (R344, R386). -/
def Frame.order (f : Frame) : Nat := f.rank * 2 + (if f.queue < 32 then 1 else 0)

/-- The frame of least order, the first among equals. -/
def bestFrame : List Frame → Option Frame
  | [] => none
  | f :: fs =>
    match bestFrame fs with
    | none => some f
    | some g => if g.order < f.order then some g else some f

/-- The next frame of an egress (R344): an own TC3 frame that has waited through 7 transit frames
goes next when only TC3 frames wait. -/
def nextFrame (p : PortSt) : Option Frame :=
  match bestFrame p.waiting with
  | none => none
  | some f =>
    if f.tc = 3 ∧ f.own = false ∧ 7 ≤ p.bulkRun then
      match bestFrame (p.waiting.filter (fun g => g.tc = 3 && g.own)) with
      | some g => some g
      | none => some f
    else some f

/-- A frame removed once from a list. -/
def dropFrame (f : Frame) : List Frame → List Frame
  | [] => []
  | g :: gs => if g = f then gs else g :: dropFrame f gs

/-- `f` may suspend `g` on a version-3 link (R343). -/
def mayPreempt (f g : Frame) : Bool :=
  (g.tc = 3 && decide (f.tc < 3)) || (g.tc = 2 && !g.exp && f.tc = 2 && f.exp)

/-- The time that `n` bytes take on a link, in time units: 3.2 ns each (R327). -/
def byteTime (n : Nat) : Nat := n * 512 / 5

/-- The bytes of a frame on a link, from /S/ to /T/ (R334). -/
def Frame.linkBytes (f : Frame) : Nat := f.payload.length + 20

/-- The frame suspended most recently goes on at `t`, with /Q/ before it (R343). -/
def PortSt.resume (p : PortSt) (t : Nat) : PortSt :=
  match p.suspended with
  | [] => p
  | g :: gs => { p with sending := some g, suspended := gs, left := p.left.tail,
                        sendEnd := t + byteTime (1 + p.left.headD 0) }

/-- The egress takes its next frame at `t` when nothing is being sent (R344). While a frame is suspended only
frames that rank above it go before it (R343). -/
def PortSt.start (p : PortSt) (t : Nat) : PortSt :=
  match p.sending with
  | some _ => p
  | none =>
    match nextFrame p with
    | none => p.resume t
    | some f =>
      let above : Bool := match p.suspended with
        | [] => true
        | g :: _ => decide (f.rank < g.rank)
      if above then
        { p with sending := some f, waiting := dropFrame f p.waiting, sendEnd := t + byteTime f.linkBytes,
                 bulkRun := if f.tc = 3 ∧ f.own = false ∧ p.waiting.any (fun g => g.tc = 3 && g.own)
                            then p.bulkRun + 1 else if f.tc = 3 then 0 else p.bulkRun }
      else p.resume t

/-- The frame being sent is suspended at its next 16-byte boundary after `now`, with /P/ behind it, unless it
ends before (R343). Answers also when the next /S/ may leave. -/
def PortSt.suspend (p : PortSt) (now : Nat) : PortSt × Nat :=
  match p.sending with
  | none => (p, now)
  | some g =>
    let n := g.linkBytes
    let sent := n - ceilDiv ((p.sendEnd - now) * 5) 512
    let k := (sent / 16 + 1) * 16
    if k < n then
      ({ p with sending := none, suspended := g :: p.suspended, left := (n - k) :: p.left },
        now + byteTime (k - sent + 1))
    else (p, now)

/-- A frame joins the egress of a port; a frame being sent that it may preempt is suspended on a
version-3 link (R343, R344). -/
def State.enqueue (s : State) (p : Nat) (f : Frame) : State :=
  let room := (s.port p).waiting.foldl (fun n g => if g.tc = f.tc ∧ g.own = false then n + g.size else n) 0
  if f.own = false ∧ classBuffer f.tc < room + f.size then s.inc R.VODOR_CNT_DROP_OVF
  else
    let v3 := decide (s.get (R.VPORT_STATUS_VER p) = 3)
    s.setPort p (fun q =>
      let q := { q with waiting := q.waiting ++ [f] }
      match q.sending with
      | some g =>
        if v3 && mayPreempt f g && decide (q.suspended.length < 2) then (q.suspend s.now).1.start (q.suspend s.now).2
        else q
      | none => q.start (max s.now (q.sendEnd + byteTime 2)))

/-- The SEQ a class uses next, and the state after it is used (R334, R342). -/
def State.takeSeq (s : State) (tc : Nat) : Nat × State :=
  let n := s.ring.seqs.getD tc 0
  (n, { s with ring :=
      { s.ring with seqs := s.ring.seqs.set tc ((n + 1) % 65536),
                    sent := s.ring.sent.modify tc (fun l => (n :: l).take 64) } })

/-- The direction of a unicast frame: East is 0 (R339). -/
def State.direction (s : State) (dst : Nat) : Nat :=
  let m := s.get R.VODOR_RING_CFG_ADDR_MAX
  let d := (((dst : Int) - (s.addr : Int)) % (m : Int)).toNat
  if d ≤ m / 2 then 0 else 1

/-- The node is a group's member, with the index of its entry (R340). -/
def State.groupIndex (s : State) (g : Nat) : Option Nat :=
  (List.range 4).find? (fun n => decide (s.get (R.VODOR_GROUP_GADDR n) = g) && decide (g ≠ 0))

/-- A frame the tunnel takes instead of the ring: TC1 or TC3, unicast, destination in the range
(R462). -/
def State.tunnels (s : State) (f : Frame) : Bool :=
  s.flag R.ETH_CFG_EN && s.flag R.ETH_CFG_TUN_EN && (f.tc = 1 || f.tc = 3) && !f.grp
    && (f.kind = 0 || f.kind = 2)
    && decide (s.get R.ETH_TUN_RANGE_LO ≤ f.dst) && decide (f.dst ≤ s.get R.ETH_TUN_RANGE_HI)
    && !(decide (s.get R.ETH_TUN_RANGE_LO = 0) && decide (s.get R.ETH_TUN_RANGE_HI = 0))

/-- The MAC in wire order (R461). -/
def macBytes (lo hi : Nat) : List Nat := bytesLE 4 lo ++ bytesLE 2 hi

/-- A tunnel frame sent (R461): padded to 60 bytes before the Ethernet FCS. -/
def State.sendTunnel (s : State) (f : Frame) : State :=
  let b := macBytes (s.get R.ETH_PEER_MAC_LO_MAC) (s.get R.ETH_PEER_MAC_HI_MAC)
    ++ macBytes (s.get R.ETH_MAC_LO_MAC) (s.get R.ETH_MAC_HI_MAC)
    ++ [0x88, 0xB5, 0x01, 0x00] ++ f.bytes
  let b := b ++ List.replicate (60 - b.length) 0
  { s.inc R.ETH_CNT_TUN_TX with eth := { s.eth with txLast := b } }

/-- A node's own unicast frame on its way: tunnelled, or out of the port of R339, or out of the
other port while that one cannot send. Answers the number of copies on the ring. -/
def State.sendUnicast (s : State) (f : Frame) : State × Nat :=
  if s.tunnels f then (s.sendTunnel f, 0)
  else
    let p := s.direction f.dst
    if s.portOpen p then (s.enqueue p f, 1)
    else if s.portOpen (1 - p) then (s.enqueue (1 - p) f, 1)
    else (s.inc R.VODOR_CNT_DROP_NO_ROUTE, 0)

/-- A group frame's copies East and West (R340). -/
def State.sendGroup (s : State) (f : Frame) : State × Nat :=
  match s.groupIndex f.dst with
  | none => (s, 0)
  | some n =>
    let e := s.get (R.VODOR_GROUP_SPAN_E n)
    let w := s.get (R.VODOR_GROUP_SPAN_W n)
    let go (s : State) (p h : Nat) : State × Nat :=
      if h = 0 then (s, 0)
      else if s.portOpen p then (s.enqueue p { f with hops := h }, 1) else (s, 0)
    let (s, a) := go s 0 e
    let (s, b) := go s 1 w
    (s, a + b)

/-- A delivered frame put in the inbox of its consumer (R338). -/
def State.deliverTo (s : State) (d : Delivery) : State :=
  { s with ring := { s.ring with inbox := s.ring.inbox ++ [d] } }

/-- The first delivery that meets `p`, taken out of the inbox. -/
def State.takeInbox (s : State) (p : Delivery → Bool) : Option (Delivery × State) :=
  match s.ring.inbox.find? p with
  | none => none
  | some d =>
    some (d, { s with ring := { s.ring with inbox := s.ring.inbox.erase d } })

/-- The payload type (R338). -/
def Delivery.ptype (d : Delivery) : Nat := leAt d.payload 0 2

/-- A frame of the node's own that has its SEQ goes its way (R339, R340). A group frame is also delivered to
the node itself, without the ring (R340); of a queue's packet the queue engine sees to that. Answers the copies on
the ring. -/
def State.sendFrame (s : State) (f : Frame) : State × Nat :=
  if f.grp then
    let s := if (s.groupIndex f.dst).isSome ∧ 32 ≤ f.queue then
      s.deliverTo ⟨f.kind, f.src, f.seq, 0, 2, f.payload, s.now⟩ else s
    s.sendGroup f
  else s.sendUnicast f

/-- A frame of the node's own: it takes the class's next SEQ and goes its way (R334, R339, R340). Answers the
copies on the ring. -/
def State.sendOwn (s : State) (tc kind : Nat) (grp exp : Bool) (dst : Nat) (payload : List Nat)
    (queue : Nat := 32) : State × Nat :=
  let (n, s) := s.takeSeq tc
  s.sendFrame ⟨tc, kind, grp, exp, 0, dst, s.addr, 16383, n, payload, true, queue⟩

end Sys2Proof.Machine
end

