-- ==== Sys2Proof/Machine/CaptTrig.lean ====
section
/-! DEFINITION. Triggers offered to the capture units (R430, R432). -/

namespace Sys2Proof.Machine

/-- Capture unit `x`. -/
def State.capt1 (s : State) (x : Nat) : CaptSt := s.capt.getD x {}
/-- Capture unit `x` changed. -/
def State.setCapt (s : State) (x : Nat) (f : CaptSt → CaptSt) : State :=
  { s with capt := s.capt.modify x f }

/-- Unit states (R428). -/
def csIdle : Nat := 0
def csArmed : Nat := 1
def csPost : Nat := 2
def csDone : Nat := 3
def csStopped : Nat := 4

/-- A trigger with its time and cause reaches unit `x` (R428, R430): held in ARMED until its set,
ignored and counted in POST, ignored otherwise. -/
def State.captTrigger (s : State) (x t cause : Nat) : State :=
  let st := s.get (R.SAP_STATUS_STATE x)
  if ¬ s.hwRuns then s
  else if st = csArmed then s.setCapt x (fun d => { d with pend := d.pend ++ [(t, cause)] })
  else if st = csPost then s.inc (R.SAP_CNT_IGNORED x)
  else s

/-- A trigger of source `src` at Canopy time `t` offered to every unit that selects it and meets `ok`
(R430). -/
def State.offerTrigger (s : State) (src t : Nat) (ok : State → Nat → Bool) : State :=
  (List.range 8).foldl
    (fun u x =>
      if u.get (R.SAP_TRIG_CFG_SRC x) = src ∧ ok u x then u.captTrigger x t src else u) s

end Sys2Proof.Machine
end

