-- ==== Sys2Proof/Machine/SenseOps.lean ====
section
/-! DEFINITION. The sigma-delta inputs' shared operations (R99 to R121): captured bits, the two filters,
the comparators' counts, the results of a sample centre, the trigger unit and the interval deadline. -/

namespace Sys2Proof.Machine

/-- The sensing engine of channel `x` changed. -/
def State.setSense (s : State) (x : Nat) (f : SenseSt → SenseSt) : State :=
  s.setCh x (fun c => { c with sense := f c.sense })
/-- Input `n` of channel `x`. -/
def State.sdIn (s : State) (x n : Nat) : SdIn := (s.ch x).sense.ins.getD n {}
/-- Input `n` changed. -/
def State.setIn (s : State) (x n : Nat) (f : SdIn → SdIn) : State :=
  s.setSense x (fun e => { e with ins := e.ins.modify n f })

/-- `SDC_x` runs. -/
def State.sdRuns (s : State) (x : Nat) : Bool := s.cellRuns x && s.flag (R.SENSE_SD_CLK_EN x)
/-- Input `n` is enabled. -/
def State.inOn (s : State) (x n : Nat) : Bool := (s.get (R.SENSE_CH_EN_EN x)).testBit n

/-! ### The modulator clock (R100, R102, R114) -/

/-- The cell islands' count of 2.5 ns cycles of Canopy time at time `t` (R29). -/
def State.cellTicks (s : State) (t : Nat) : Nat := (s.canopyT.at t * 2 / 5).floor.toNat

/-- Cycles from the last rising edge of `SDC_x` to time `t`: edges fall where the count less `PHASE` is a
multiple of `DIV` (R100). -/
def State.sdcAge (s : State) (x t : Nat) : Nat :=
  let div := s.get (R.SENSE_SD_CLK_DIV x)
  (s.cellTicks t + div - s.get (R.SENSE_SD_CLK_PHASE x)) % div

/-- The level of `SDC_x` (R100): high for floor(`DIV` / 2) cycles from each edge. -/
def State.sdcLevel (s : State) (x : Nat) : Bool :=
  s.sdRuns x && decide (s.sdcAge x s.now < s.get (R.SENSE_SD_CLK_DIV x) / 2)

/-- When the bit of an edge at time `t` is captured on input `n` (R102). The bits a command brings are those
captured there, each attributed to its edge (log entry 7). -/
def State.capturePoint (s : State) (x n t : Nat) : Nat := t + cellCycle * s.get (R.SENSE_SD_CAP_SKEW x n)

/-- Now is the first rising edge of `SDC_x` at or after the target time `t` (R114). -/
def State.firstEdge (s : State) (x t : Nat) : Bool :=
  let c := s.cellTicks s.now
  let k := (s.canopyT.at t * 2 / 5).ceil.toNat
  decide (t ≤ s.now) && decide (s.sdcAge x s.now = 0) && decide (k ≤ c)
    && decide (c < k + s.get (R.SENSE_SD_CLK_DIV x))

/-! ### Filters -/

/-- The exponent of the control path's ratio (R104). -/
def State.osr3Log (s : State) (x : Nat) : Nat := 5 + s.get (R.SENSE_FILT_CFG_OSR3 x)
/-- The exponent of the fast path's ratio (R109). -/
def State.osr2Log (s : State) (x : Nat) : Nat := 3 + s.get (R.SENSE_FILT_CFG_OSR2 x)

/-- `n (n + 1) / 2`. -/
def tri (n : Nat) : Nat := n * (n + 1) / 2

/-- Weight of the bit captured `i` bits before the newest in a sinc3 of ratio `r` (R105): the number
of ways to write `i` as a sum of three numbers below `r`. -/
def sinc3Weight (r i : Nat) : Nat :=
  tri (i + 1) + 3 * (if 2 * r ≤ i then tri (i + 1 - 2 * r) else 0)
    - 3 * (if r ≤ i then tri (i + 1 - r) else 0)

/-- Weight of a bit in a sinc2 of ratio `r` (R109). -/
def sinc2Weight (r i : Nat) : Nat := if i < r then i + 1 else 2 * r - 1 - i

/-- The raw sinc3 output of an input: the last `3 (r - 1) + 1` bits, positions before a cleared
history as 0 (R105, R108). -/
def SdIn.raw3 (d : SdIn) (k : Nat) : Nat :=
  (List.range (min (3 * (2 ^ k - 1) + 1) d.clr)).foldl
    (fun a i => if d.hist.testBit i then a + sinc3Weight (2 ^ k) i else a) 0

/-- The sinc2 output in Q1.15 (R109). -/
def SdIn.out2 (d : SdIn) (k : Nat) : Int :=
  let raw := (List.range (2 * (2 ^ k - 1) + 1)).foldl
    (fun a i => if d.hist.testBit i then a + sinc2Weight (2 ^ k) i else a) 0
  min ((raw * 2 ^ (16 - 2 * k) : Nat) - 32768) 32767

/-! ### Comparators -/

/-- Comparator `m` is asserted. -/
def State.cmpOut (s : State) (x m : Nat) : Bool := (s.get (R.SENSE_CMP_STAT_OUT x)).testBit m

/-- The sinc2 output counts toward a change of comparator `m` (R110). -/
def State.cmpToward (s : State) (x m : Nat) (v : Int) : Bool :=
  let mode := s.get (R.SENSE_CMP_CFG_MODE x m)
  let hi := s.geti (R.SENSE_CMP_THR_HI x m)
  let lo := s.geti (R.SENSE_CMP_THR_LO x m)
  let h : Int := s.get (R.SENSE_CMP_CFG_HYST x m)
  if s.cmpOut x m then
    (mode == 3 || decide (v ≤ hi - h)) && (mode == 2 || decide (lo + h ≤ v))
  else
    ((mode == 1 || mode == 2) && decide (hi < v)) || ((mode == 1 || mode == 3) && decide (v < lo))

/-- Comparator `m`'s count of consecutive outputs. -/
def State.cmpRun (s : State) (x m : Nat) : Nat :=
  if m % 2 = 0 then (s.sdIn x (m / 2)).cmpA else (s.sdIn x (m / 2)).cmpB
/-- Comparator `m`'s count set. -/
def State.setCmpRun (s : State) (x m v : Nat) : State :=
  s.setIn x (m / 2) (fun d => if m % 2 = 0 then { d with cmpA := v } else { d with cmpB := v })

/-- Comparator `m` asserts (R110, R112). -/
def State.cmpAssert (s : State) (x m : Nat) : State :=
  let s := (s.setMaskBit (R.SENSE_CMP_STAT_OUT x) m).setCmpRun x m 0
  let s := (s.irq (pgSense x) (12 + m)).sourceOn x m
  s.offerTrigger 2 (s.stamp (pgSense x)) (fun u y =>
    decide (u.get (R.SAP_TRIG_CFG_CMP_M y) = m) && decide (u.get (R.SAP_TRIG_CFG_CELL y) = x))

/-- Comparator `m` releases, when it is asserted (R110, R112). -/
def State.cmpRelease (s : State) (x m : Nat) : State :=
  let s := s.setCmpRun x m 0
  if s.cmpOut x m then (s.putMaskBit (R.SENSE_CMP_STAT_OUT x) m false).sourceOff x m else s

/-- Both comparators of input `n` released (R112). -/
def State.cmpStop (s : State) (x n : Nat) : State :=
  (s.cmpRelease x (2 * n)).cmpRelease x (2 * n + 1)

/-! ### Captured bits -/

/-- One bit captured on input `n` (R102, R108 to R110, R117). -/
def State.capture (s : State) (x n : Nat) (b : Bool) : State :=
  let s := s.setIn x n (fun d =>
    { d with hist := (2 * d.hist + (if b then 1 else 0)) % 2 ^ 766,
             cnt := min (d.cnt + 1) 768, clr := min (d.clr + 1) 768,
             run := if d.run ≠ 0 ∧ d.hist.testBit 0 = b then min (d.run + 1) 64 else 1 })
  let v := (s.sdIn x n).out2 (s.osr2Log x)
  [2 * n, 2 * n + 1].foldl
    (fun t m => t.setCmpRun x m (if t.cmpToward x m v then min (t.cmpRun x m + 1) 16 else 0)) s

/-- The bits of one `SDC_x` edge: bit n of `mask` is the level captured on `SDD_x_n`. -/
def State.captureEdge (s : State) (x mask : Nat) : State :=
  (List.range 6).foldl (fun t n => if t.inOn x n then t.capture x n (mask.testBit n) else t) s

/-- The bits captured since the last command of the channel's sensing, oldest edge first. While
`SD_CLK.EN` is 0 none is captured (R101). -/
def State.feed (s : State) (x : Nat) (bits : List (Fin 64)) : State :=
  if s.sdRuns x then bits.foldl (fun t m => t.captureEdge x m) s else s

/-- The history of input `n` is cleared and its decimator settles (R108). -/
def State.clearIn (s : State) (x n : Nat) : State :=
  s.setIn x n (fun d => { d with cnt := 0, clr := 0 })

/-! ### Deadline (R121) -/

/-- The interval deadline is judged. -/
def State.senseJudged (s : State) (x : Nat) : Bool :=
  s.sdRuns x && s.flag (R.SENSE_TRIG_SRC x)

/-- An interval opens at `t`. -/
def State.senseOpen (s : State) (x t : Nat) : State :=
  s.setSense x (fun e => { e with due := some (t + s.get (R.SENSE_DL_LIMIT_LIMIT x) * cellCycle) })

/-- An interval opens when both conditions come to hold, and none runs without them. -/
def State.senseDlSync (s : State) (x : Nat) : State :=
  if s.senseJudged x then (if (s.ch x).sense.due.isSome then s else s.senseOpen x s.now)
  else s.setSense x (fun e => { e with due := none })

/-- A missed interval (R95, R121). -/
def State.senseMiss (s : State) (x : Nat) : State :=
  match (s.ch x).sense.due, dlPair (pgSense x) 0x078 with
  | some e, some d => if e ≤ s.now then ((s.dlMiss d).1).senseOpen x e else s
  | _, _ => s

/-! ### Register writes -/

/-- A write of `SD_CLK` (R100, R101, R108, R112, R114). -/
def State.sdClkWrite (s : State) (x w : Nat) : State :=
  let div := bitsOf w 0 6
  let phase := bitsOf w 8 6
  let en := w.testBit 16
  let was := s.flag (R.SENSE_SD_CLK_EN x)
  if div < 16 ∨ 40 < div ∨ div ≤ phase
      ∨ (was ∧ (div ≠ s.get (R.SENSE_SD_CLK_DIV x) ∨ phase ≠ s.get (R.SENSE_SD_CLK_PHASE x))) then
    s.err (pgSense x)
  else
    let s := (s.set (R.SENSE_SD_CLK_DIV x) div).set (R.SENSE_SD_CLK_PHASE x) phase
    let s := s.setB (R.SENSE_SD_CLK_EN x) en
    let s :=
      if en ∧ ¬ was then
        let s := s.setSense x (fun e => { e with trig := e.trig.filter (fun t => decide (s.now ≤ t)) })
        (List.range 6).foldl (fun t n => t.clearIn x n) s
      else if was ∧ ¬ en then (List.range 6).foldl (fun t n => t.cmpStop x n) s
      else s
    s.senseDlSync x

/-- A write of `CH_EN` (R108, R112). -/
def State.chEnWrite (s : State) (x w : Nat) : State :=
  let old := s.get (R.SENSE_CH_EN_EN x)
  let s := s.set (R.SENSE_CH_EN_EN x) w
  (List.range 6).foldl
    (fun t n =>
      if w.testBit n ∧ ¬ old.testBit n then t.clearIn x n
      else if old.testBit n ∧ ¬ w.testBit n then t.cmpStop x n
      else t) s

/-- A write of `FILT_CFG`: the ratios are staged, `FREEZE_N` takes effect (R109, R118). -/
def State.filtCfgWrite (s : State) (x w : Nat) : State :=
  let n := bitsOf w 8 8
  if bitsOf w 2 2 = 3 ∨ n < 4 then s.err (pgSense x)
  else
    ((s.stage (R.SENSE_FILT_CFG_OSR3 x) (bitsOf w 0 2)).stage (R.SENSE_FILT_CFG_OSR2 x)
      (bitsOf w 2 2)).set (R.SENSE_FILT_CFG_FREEZE_N x) n

/-- A write of `CMPm_THR` (R112). -/
def State.cmpThrWrite (s : State) (x m w : Nat) : State :=
  let s := (s.set (R.SENSE_CMP_THR_LO x m) (bitsOf w 0 16)).set (R.SENSE_CMP_THR_HI x m) (bitsOf w 16 16)
  s.setCmpRun x m 0

/-- A write of `CMPm_CFG` (R110, R112). -/
def State.cmpCfgWrite (s : State) (x m w : Nat) : State :=
  let s := s.set (R.SENSE_CMP_CFG_MODE x m) (bitsOf w 0 2)
  let s := s.set (R.SENSE_CMP_CFG_FILT x m) (bitsOf w 4 4)
  let s := s.set (R.SENSE_CMP_CFG_HYST x m) (bitsOf w 16 12)
  if bitsOf w 0 2 = 0 then s.cmpRelease x m else s.setCmpRun x m 0

/-! ### Commit (R116, R120) -/

/-- A commit on the page applied or refused (R108, R116, R120). -/
def State.senseCommit (s : State) (x : Nat) : State :=
  let p := pgSense x
  let per := s.stagedOf (R.SENSE_TMR_PERIOD_NS x)
  if per < 1000 ∨ per ≤ s.stagedOf (R.SENSE_TMR_PHASE_NS x) then s.refuseCommit p
  else
    let old := s.get (R.SENSE_FILT_CFG_OSR3 x)
    let s := s.doCommit p
    let s := if s.get (R.SENSE_FILT_CFG_OSR3 x) = old then s
      else (List.range 6).foldl (fun t n => t.clearIn x n) s
    s.senseDlSync x

/-! ### The trigger unit (R113 to R115) -/

/-- A trigger event that arose at `t` reaches the unit: its target time is held, or it is discarded. -/
def State.senseTrigger (s : State) (x t : Nat) : State :=
  let target := t + cellCycle * s.get (R.SENSE_TRIG_DELAY x)
  if 4 ≤ ((s.ch x).sense.trig.filter (fun t => decide (s.now < t))).length then
    ((s.setB (R.SENSE_FB_STAT_TRIG_OVR x) true).inc (R.SENSE_OVR_COUNT_OVR x)).irq (pgSense x) 24
  else s.setSense x (fun e => { e with trig := e.trig ++ [target] })

/-! ### Results (R105, R106, R118, R119) -/

/-- `a / 2^k` to the nearest, ties toward +∞. -/
def roundUp (a : Int) (k : Nat) : Int := (a + 2 ^ (k - 1)) / 2 ^ k

/-- The result of input `n` at a sample centre. Answers whether it is stale, whether it saturated. -/
def State.formResult (s : State) (x n : Nat) : Bool × Bool × State :=
  let k := s.osr3Log x
  let d := s.sdIn x n
  let raw := d.raw3 k
  let on := s.inOn x n
  let same := decide (d.raw = some raw)
  let s := if on ∧ ¬ same then s.putMaskBit (R.SENSE_FB_STAT_FREEZE x) n false else s
  let s := if on then
      s.setIn x n (fun d => { d with raw := some raw, rawRun := if same then min (d.rawRun + 1) 255 else 1 })
    else s
  let full := decide (raw = 2 ^ (3 * k))
  let y : Int := if full then 0x7FFFFFFF else (raw * 2 ^ (32 - 3 * k) : Nat) - 2147483648
  let r := roundUp (s.geti (R.SENSE_GAIN_VAL x n) * (y - s.geti (R.SENSE_OFS_VAL x n))) 30
  let res := satI 32 r
  let p := roundUp (res * s.geti (R.SENSE_FS_VAL x n)) 31
  let pri := satI 32 p
  let s := (s.setI (R.SENSE_RES_VAL x n) res).setI (R.SENSE_PRI_VAL x n) pri
  let stale := !on || (s.get (R.SENSE_FB_STAT_LOSS x)).testBit n
    || (s.get (R.SENSE_FB_STAT_FREEZE x)).testBit n || decide (d.cnt < 3 * 2 ^ k)
  (stale, full || decide (res ≠ r) || decide (pri ≠ p), s)

/-- A sample centre (R104 to R108, R120, R121): results, stamp, commit, then the cell power block and
the Kernel. -/
def State.sampleCentre (s : State) (x : Nat) : State :=
  let (stale, sat, s) := (List.range 6).foldl
    (fun (a, b, t) n =>
      let (st, sa, t) := t.formResult x n
      (putBit a n st, putBit b n sa, t)) ((0, 0, s) : Nat × Nat × State)
  let s := (s.set (R.SENSE_FB_STAT_STALE x) stale).set (R.SENSE_FB_STAT_SAT x) sat
  let s := if sat = 0 then s else s.irq (pgSense x) 25
  let s := (s.set (R.SENSE_SAMPLE_T_NS x) (s.stamp (pgSense x))).incWrap (R.SENSE_SAMPLE_SEQ_COUNT x)
  let s :=
    if s.senseJudged x then
      let met : Bool := match (s.ch x).sense.due with
        | some e => decide (s.now ≤ e)
        | none => false
      let s := match met, dlPair (pgSense x) 0x078 with
        | true, some d => s.dlMeet d
        | _, _ => s
      s.senseOpen x s.now
    else s
  let s := s.undrop (pgSense x)
  let s := if s.commitDue (pgSense x) then s.senseCommit x else s
  (s.cellSample x).kernelSample x

end Sys2Proof.Machine
end

