-- ==== Sys2Proof/Machine/SarOps.lean ====
section
/-! DEFINITION. The SAR converters' shared operations (R122 to R137): passes, the trigger policy,
plausibility pairs, calibration and the rover. A SAR cycle of 12.5 ns is 400 time units. -/

namespace Sys2Proof.Machine

/-- A SAR cycle in time units. -/
def sarCycle : Nat := 400

/-- Converter `n`'s sequence. -/
def State.sarSt (s : State) (n : Nat) : SarSt := s.sar.getD n {}
/-- Converter `n`'s sequence changed. -/
def State.setSar (s : State) (n : Nat) (f : SarSt → SarSt) : State :=
  { s with sar := s.sar.modify n f }

/-- The readouts of `STATUS` brought up to date (R137). -/
def State.sarSync (s : State) (n : Nat) : State :=
  (s.setB (R.SAR_STATUS_RUNNING n) (s.sarSt n).pass.isSome).setB (R.SAR_STATUS_PENDING n)
    (s.sarSt n).pend.isSome

/-- A trigger discarded (R115, R127). -/
def State.sarOverrun (s : State) (n : Nat) : State :=
  ((s.setB (R.SAR_STATUS_TRIG_OVR n) true).inc (R.SAR_OVR_COUNT_OVR n)).irq (pgSar n) 1

/-- A trigger event that arose at `t` reaches converter `n`'s unit (R114, R115): its target is its arrival if
that is later. -/
def State.sarTrigger (s : State) (n t : Nat) : State :=
  let target := max (t + cellCycle * s.get (R.SAR_TRIG_DELAY n)) s.now
  if 4 ≤ ((s.sarSt n).trig.filter (fun t => decide (s.now < t))).length then s.sarOverrun n
  else s.setSar n (fun d => { d with trig := d.trig ++ [target] })

/-- Duration of entry `i` (R124). -/
def State.entryTime (s : State) (n i : Nat) : Nat :=
  (s.get (R.SAR_ENTRY_SMP n i) + 1 + 16) * sarCycle

/-- Converter `n` is converting its own or a served sequence, or may not start: the rover serves. -/
def State.roverBusy (s : State) : Bool := s.flag (R.SAR_CAL_CFG_SUBST 4)

/-- A pass starts at `t0`, for a trigger that fired at `fire` (R126, R128). -/
def State.startPass (s : State) (n fire t0 : Nat) : State :=
  let s := s.setSar n (fun d =>
    { d with pass := some { fireAt := fire, t0 := t0,
                            stamp := (s.canopyT.at (PageIsland.sar.edge t0)).floor.toNat % 2 ^ 64,
                            ends := t0 + s.entryTime n 0 },
             passNo := d.passNo + 1, pend := none, restart := none,
             limOld := d.limOld.filter (fun e => decide (fire < e.1)) })
  s.sarSync n

/-- The start of a triggered pass: 3 to 4 SAR cycles after the firing (R114). -/
def State.firedStart (s : State) : Nat × State :=
  let (v, s) := s.fresh
  (s.now + 3 * sarCycle + v % (sarCycle + 1), s)

/-- Converter `n`'s sequence can run a pass now: it is idle and no calibration of the one who runs it
is under way (R133 to R136). -/
def State.sarFree (s : State) (n : Nat) : Bool :=
  s.sarRuns && (s.sarSt n).pass.isNone
    && (if s.flag (R.SAR_CAL_CFG_ROVER n) then true
        else (s.sarSt n).calEnd.isNone
          && (decide (n ≠ 4) || (!s.roverBusy && decide (s.roverQ = []))))

/-- A pending trigger's pass, or the next CONTINUOUS pass, starts at `t` without a gap (R126, R127). -/
def State.nextPass (s : State) (n t : Nat) : State :=
  if s.sarFree n then
    match (s.sarSt n).pend with
    | some f => s.startPass n f t
    | none => if s.get (R.SAR_TRIG_SRC n) = 7 then s.startPass n t t else s.sarSync n
  else s.sarSync n

/-! ### Commits (R129) -/

/-- The staged values keep R116 and R129. -/
def State.sarCommitOk (s : State) (n : Nat) : Bool :=
  let per := s.stagedOf (R.SAR_TMR_PERIOD_NS n)
  let pairs := ((List.range 16).filter (fun i =>
    decide (i ≤ s.stagedOf (R.SAR_SEQ_CFG_LEN n)) && decide (s.stagedOf (R.SAR_ENTRY_PAIR n i) ≠ 0))).length
  decide (1000 ≤ per) && decide (s.stagedOf (R.SAR_TMR_PHASE_NS n) < per)
    && (decide (n = 4) || decide (pairs = 1))

/-- A waiting commit applies at a sequence boundary (R129). -/
def State.sarCommit (s : State) (n : Nat) : State :=
  let s := s.undrop (pgSar n)
  if s.commitWaits (pgSar n) then
    (if s.sarCommitOk n then s.doCommit (pgSar n) else s.refuseCommit (pgSar n))
  else s

/-! ### Plausibility (R130 to R132) -/

/-- A failure of the pair whose registers converter `b` holds (R132). -/
def State.plausFail (s : State) (b : Nat) : State :=
  let run := s.get (R.SAR_PLAUS_STAT_RUN b)
  let s := ((s.inc (R.SAR_PLAUS_STAT_RUN b)).inc (R.SAR_PLAUS_COUNT_FAIL b)).irq (pgSar b) 2
  if run + 1 = s.get (R.SAR_PLAUS_MAX_FAIL_MAX b) then s.irqLog (pgSar b) 3 2
  else s

/-- Pair `b` is reported failed to GE1 (R132). -/
def State.plausFailed (s : State) (b : Nat) : Bool :=
  decide (s.get (R.SAR_PLAUS_MAX_FAIL_MAX b) ≤ s.get (R.SAR_PLAUS_STAT_RUN b))

/-- A new pair result of converter `n`: value and `CLIP` (R131, R132). -/
def State.pairResult (s : State) (n : Nat) (v : Int) (clip : Bool) : State :=
  let b := n / 2 * 2
  let other := if n = b then b + 1 else b
  match (s.sarSt other).pairNew with
  | none =>
    s.setSar n (fun d =>
      { d with pairNew := some (v, clip, match d.pairNew with | some (_, _, t) => t | none => s.now) })
  | some (w, clip', _) =>
    let s := (s.setSar n (fun d => { d with pairNew := none })).setSar other
      (fun d => { d with pairNew := none })
    let diff := (v - w).natAbs
    let s := s.setSat (R.SAR_PLAUS_STAT_DIFF b) diff
    if clip ∨ clip' ∨ s.get (R.SAR_PLAUS_CFG_LIMIT b) < diff then s.plausFail b
    else s.set (R.SAR_PLAUS_STAT_RUN b) 0

/-! ### Calibration and the rover (R133 to R136) -/

/-- Calibration of converter `n` begins (R133). -/
def State.calStart (s : State) (n : Nat) : State :=
  let s := (s.setB (R.SAR_CAL_CFG_REQ n) false).setB (R.SAR_CAL_CFG_WAITING n) false
  let s := s.setB (R.SAR_CAL_CFG_BUSY n) true
  let s := s.setSar n (fun d =>
    { d with calReq := none, forced := false, calEnd := some (s.now + 2048 * sarCycle) })
  { s with roverQ := s.roverQ.filter (fun k => decide (k ≠ n)) }

/-- The period of channel `cell`'s carrier in time units (R138). -/
def State.carrierPeriod (s : State) (cell : Nat) : Nat :=
  fine * periodSteps (s.ch cell).pwm.mode (s.ch cell).pwm.top

/-- The next expected trigger of converter `n` after now, none when it is not predicted (R134). -/
def State.nextTrigger (s : State) (n : Nat) : Option Nat :=
  let src := s.get (R.SAR_TRIG_SRC n)
  let delay := cellCycle * s.get (R.SAR_TRIG_DELAY n)
  if src = 5 then
    let per := max 1 (s.get (R.SAR_TMR_PERIOD_NS n))
    let t := s.canopy + (per - (s.canopy + per - s.get (R.SAR_TMR_PHASE_NS n) % per) % per)
    some (s.now + ns (t - s.canopy) + delay)
  else if 1 ≤ src ∧ src ≤ 3 then
    (s.sarSt n).lastEvt.map (fun t =>
      t + s.carrierPeriod (s.get (R.SAR_TRIG_CELL n)) / (if src = 3 then 2 else 1) + delay)
  else none

/-- The idle gap from now holds a calibration (R134). -/
def State.gapQualifies (s : State) (n : Nat) : Bool :=
  if s.get (R.SAR_TRIG_SRC n) = 0 then true
  else
    match s.nextTrigger n with
    | none => false
    | some t => decide (s.now + 2128 * sarCycle ≤ t)

/-- At a sequence boundary of converter `n`: a requested calibration starts if the gap qualifies, or
if the rover's own request has waited 100 ms (R134, R136). A request that waits for the rover is the rover's
(R135). -/
def State.calTry (s : State) (n : Nat) : State :=
  let d := s.sarSt n
  if s.sarRuns ∧ d.calReq.isSome ∧ d.pass.isNone ∧ d.calEnd.isNone ∧ ¬ s.flag (R.SAR_CAL_CFG_ROVER n)
      ∧ ¬ s.roverQ.contains n ∧ (n ≠ 4 ∨ ¬ s.roverBusy)
      ∧ ((d.pend.isNone ∧ s.gapQualifies n) ∨ (n = 4 ∧ d.forced)) then s.calStart n
  else s

/-- A calibration requested (R133): requests merge. -/
def State.calRequest (s : State) (n : Nat) : State :=
  if (s.sarSt n).calReq.isSome then s
  else
    ((s.setB (R.SAR_CAL_CFG_WAITING n) true).setSar n (fun d => { d with calReq := some s.now })).calTry n

/-- `CAL_CFG.REQ` written 1 (R133). -/
def State.calWrite (s : State) (n : Nat) : State := (s.setB (R.SAR_CAL_CFG_REQ n) true).calRequest n

/-- The rover takes over the first waiting sequence, when it and the converter stand at a boundary and
it does not calibrate (R135, R136). -/
def State.roverTake (s : State) : State :=
  match s.roverQ with
  | [] => s
  | n :: _ =>
    if s.sarRuns ∧ ¬ s.roverBusy ∧ (s.sarSt 4).pass.isNone ∧ (s.sarSt 4).calEnd.isNone
        ∧ (s.sarSt n).pass.isNone ∧ (s.sarSt n).calEnd.isNone then
      let s := ((s.setB (R.SAR_CAL_CFG_ROVER n) true).setB (R.SAR_CAL_CFG_SUBST 4) true).set
        (R.SAR_CAL_CFG_SERVING 4) n
      ((s.irq (pgSar n) 5).irq (pgSar 4) 5).calStart n
    else s

/-- At a boundary of a served sequence: it returns to its converter once that has calibrated; the
rover goes on to the next one or resumes its own (R135). -/
def State.roverReturn (s : State) (n : Nat) : State :=
  if s.flag (R.SAR_CAL_CFG_ROVER n) ∧ (s.sarSt n).calEnd.isNone ∧ (s.sarSt n).pass.isNone then
    let s := ((s.setB (R.SAR_CAL_CFG_ROVER n) false).setB (R.SAR_CAL_CFG_SUBST 4) false).set
      (R.SAR_CAL_CFG_SERVING 4) 0
    let s := (s.irq (pgSar n) 5).irq (pgSar 4) 5
    let s := s.calTry 4
    (s.roverTake).nextPass 4 s.now
  else s

/-- The sequence boundary of converter `n` at time `t` (R126, R127, R129, R134, R135). -/
def State.sarBoundary (s : State) (n t : Nat) : State :=
  let s := s.sarCommit n
  let s := s.roverReturn n
  let s := s.calTry n
  let s := s.roverTake
  s.nextPass n t

/-- The end of a calibration (R133 to R136). -/
def State.calDone (s : State) (n : Nat) : State :=
  let s := ((s.setB (R.SAR_CAL_CFG_BUSY n) false).inc (R.SAR_CAL_COUNT_CALS n)).irq (pgSar n) 4
  let s := s.setSar n (fun d => { d with calEnd := none })
  let s := s.roverReturn n
  let s := s.calTry n
  let s := s.roverTake
  let held := (s.sarSt n).pend.isSome && s.sarFree n
  let s := if held then (s.inc (R.SAR_CAL_COUNT_LATE n)).irq (pgSar n) 7 else s
  s.nextPass n s.now

/-- The SAR island's converters after its PLL locked: each calibrates before its first pass (R133). -/
def State.sarStart (s : State) : State :=
  (List.range 5).foldl
    (fun t n => (t.setSar n (fun d =>
      { d with pass := none, restart := none, periodAt := t.now })).calStart n) s

/-- The SAR island stops: passes and calibrations are lost. -/
def State.sarHalt (s : State) : State :=
  let s := { s with roverQ := [] }
  let s := (s.setB (R.SAR_CAL_CFG_SUBST 4) false).set (R.SAR_CAL_CFG_SERVING 4) 0
  (List.range 5).foldl
    (fun t n =>
      let t := t.setSar n (fun d => { d with pass := none, restart := none, calEnd := none, pairNew := none })
      ((t.setB (R.SAR_CAL_CFG_BUSY n) false).setB (R.SAR_CAL_CFG_ROVER n) false).sarSync n) s

/-! ### Deadline (R128) -/

/-- `LIMIT` and `MISS_MAX` at the instant the pass's interval opened, its trigger's firing (R94). -/
def State.passLimit (s : State) (n : Nat) (p : SarPass) : Nat × Nat :=
  match ((s.sarSt n).limOld.filter (fun e => decide (p.fireAt < e.1))).getLast? with
  | some e => e.2
  | none => (s.get (R.SAR_DL_LIMIT_LIMIT n), s.get (R.SAR_DL_LIMIT_MISS_MAX n))

/-- End of a pass's deadline. -/
def State.passDue (s : State) (n : Nat) (p : SarPass) : Nat :=
  p.fireAt + (s.passLimit n p).1 * sarCycle

/-- The pass `p` misses its deadline (R95, R128). -/
def State.passMissed (s : State) (n : Nat) (p : SarPass) : State :=
  match dlPair (pgSar n) 0x060 with
  | some d =>
    let (s, esc) := s.dlMissMax d (s.passLimit n p).2
    if esc then s.setB (R.SAR_STATUS_SEQ_STALE n) true else s
  | none => s

/-- The deadline of the pass in progress expires (R95, R128). -/
def State.sarMiss (s : State) (n : Nat) : State :=
  match (s.sarSt n).pass with
  | some p =>
    if p.late = false ∧ s.passDue n p ≤ s.now then
      (s.setSar n (fun q => { q with pass := some { p with late := true } })).passMissed n p
    else s
  | none => s

/-! ### Conversions -/

/-- The code of an input of `nv` nanovolts at gain 2^g (R122). How a tie rounds is not stated: it is
left open. -/
def State.sarCode (s : State) (nv : Int) (g : Nat) : Nat × Bool × State :=
  let num : Int := 32768 * 750000000 + (nv - 750000000) * 2 ^ g * 32768
  let q := num / 750000000
  let r := num % 750000000
  let (up, s) : Bool × State :=
    if 2 * r = 750000000 then
      let (v, s) := s.fresh
      (decide (v % 2 = 1), s)
    else (decide (750000000 < 2 * r), s)
  let c := q + (if up then 1 else 0)
  ((clampI 0 65535 c).toNat, decide (750000000 < (nv - 750000000).natAbs * 2 ^ g), s)

/-- The results already delivered from an abandoned pass are marked (R127). -/
def State.markPartial (s : State) (n k : Nat) : State :=
  (List.range k).foldl (fun t i => t.setB (R.SAR_RESULT_PARTIAL n i) true) s

end Sys2Proof.Machine
end

