-- ==== Sys2Proof/Machine/GridOps.lean ====
section
/-! DEFINITION. The grid engines' inputs and phase-locked loops (R243 to R246). Real quantities are exact
rationals; roots, sines and angles are those of the file Reals (log entry 5). -/

namespace Sys2Proof.Machine

/-- A quotient; by 0 its value is open. -/
def quot (a b : Rat) : Rat := if b = 0 then Config.overZero a else a / b

/-- Clamped to a range. -/
def clampR (lo hi v : Rat) : Rat := if v < lo then lo else if hi < v then hi else v

/-- Engine `e`. -/
def State.eng (s : State) (e : Nat) : EngSt := s.engs.getD e {}
/-- Engine `e` changed. -/
def State.setEng (s : State) (e : Nat) (f : EngSt → EngSt) : State :=
  { s with engs := s.engs.modify e f }
/-- The arm functions changed. -/
def State.setArm (s : State) (f : ArmSt → ArmSt) : State := { s with arm := f s.arm }
/-- The ride-through state changed. -/
def State.setRide (s : State) (f : RideSt → RideSt) : State := { s with ride := f s.ride }
/-- The islanding state changed. -/
def State.setIsl (s : State) (f : IslSt → IslSt) : State := { s with isl := f s.isl }

/-- A readout of a real value (log entry 6). -/
def State.show (s : State) (r : Reg) (v : Rat) : State := s.setI r (roundAs r.key v)
/-- An unsigned readout of a real value (log entry 6). -/
def State.showU (s : State) (r : Reg) (v : Rat) : State :=
  s.setSat r (roundAs r.key v).toNat
/-- An angle's readout: 2^32 is 2π. -/
def State.showAngle (s : State) (r : Reg) (v : Rat) : State :=
  s.set r (ux 32 (roundAs r.key (quot v turn * 4294967296)))

/-- An angle reduced to 0 to 2π. -/
def modTurn (v : Rat) : Rat := v - turn * ((quot v turn).floor : Rat)

/-- `since` kept while `c` holds. -/
def since (c : Bool) (old : Option Nat) (now : Nat) : Option Nat :=
  if c then some (old.getD now) else none

/-- A condition has held for `d` time units. -/
def heldFor (t : Option Nat) (d now : Nat) : Bool :=
  match t with
  | some a => decide (a + d ≤ now)
  | none => false

/-- The start of the TC2 period in progress, in ns of Canopy time (R241). -/
def State.cycleStart (s : State) : Nat := s.canopy / 10000 * 10000

/-- The time units that have passed since `t` ns of Canopy time. -/
def State.sinceNs (s : State) (t : Nat) : Nat := ((s.canopyT.at s.now - (t : Rat)) * 32).floor.toNat

/-- The sample of a result lies more than 20 µs before the cycle start `t` (R244). -/
def State.tooOld (s : State) (t n i : Nat) : Bool :=
  match (s.sarSt n).resAt.getD i none with
  | some u => decide (u + us 20 + s.sinceNs t < s.now)
  | none => true

/-- Converter `n`'s plausibility pair is failed (R132, R244). -/
def State.pairBad (s : State) (n : Nat) : Bool := decide (n < 4) && s.plausFailed (n / 2 * 2)

/-- The code of a result as a fraction of full scale (R122). -/
def State.resultFraction (s : State) (n i : Nat) : Rat :=
  (((s.get (R.SAR_RESULT_CODE n i) : Nat) : Int) - 32768 : Int) / 32768

/-- Source `k` of engine `e` as latched at the cycle start `t` (R243, R244); a source not in use, or whose
entry is not routed to the grid engines, has no result and is stale. -/
def State.gridSource (s : State) (t e k : Nat) : Rat × Bool :=
  let n := s.get (R.GE_SRC_SAR e k)
  let i := s.get (R.GE_SRC_ENTRY e k)
  let v : Rat := s.resultFraction n i * (s.geti (R.GE_SCALE_FS e k) : Rat)
  let stale := !s.flag (R.GE_SRC_EN e k) || !(s.get (R.SAR_ENTRY_ROUTE n i)).testBit 0
    || s.flag (R.SAR_RESULT_STALE n i) || s.flag (R.SAR_RESULT_LATE n i)
    || s.flag (R.SAR_RESULT_CLIP n i) || s.tooOld t n i || s.pairBad n
  (v, stale)

/-- A voltage source of the engine is stale. -/
def EngSt.vStale (g : EngSt) : Bool := (g.src.take 3).any (fun p => p.2)

/-- Step 1 of the cycle that starts at `t` for engine `e` (R241, R243, R244). -/
def State.latchSources (s : State) (t e : Nat) : State :=
  let new := (List.range 5).map (s.gridSource t e)
  let rose := (List.range 5).any (fun k =>
    s.flag (R.GE_SRC_EN e k) && (new.getD k (0, false)).2 && !((s.eng e).src.getD k (0, false)).2)
  let s := s.setEng e (fun g => { g with src := new })
  let s := s.setB (R.GE_PLL_STAT_V_STALE e) (s.eng e).vStale
  if rose then s.irq (pgGe e) 3 else s

/-- One trapezoidal step of T_s = 10 µs (R245). -/
def sogiStep (g : Sogi) (v w k : Rat) : Sogi :=
  let a := w / 200000
  let q0 := g.q + a * g.d
  let d := (g.d + a * (k * v - q0 + k * (g.v - g.d) - g.q)) / (1 + a * k + a * a)
  { d := d, q := q0 + a * d, v := v }

/-- Nominal frequency in mHz, of engine `e` (R245). -/
def State.fNom (s : State) (e : Nat) : Rat := if s.flag (R.GE_GRID_NOM_FNOM e) then 60000 else 50000

/-- The engine's frequency in mHz. -/
def State.fHat (s : State) (e : Nat) : Rat := quot ((s.eng e).w * 1000) turn

/-- `VBASE` in mV. -/
def State.vBase (s : State) (e : Nat) : Rat := (s.get (R.GE_VBASE_MV e) : Rat)

/-- The PLL's cycle (R245, R246). -/
def State.pllCycle (s : State) (e : Nat) : State :=
  let g := s.eng e
  let v (k : Nat) : Rat := (g.src.getD k (0, true)).1
  let kk : Rat := (s.get (R.GE_PLL_CFG_SOGI_K e) : Rat) / 64
  let al := sogiStep g.al ((2 * v 0 - v 1 - v 2) / 3) g.w kk
  let be := sogiStep g.be (quot (v 1 - v 2) (rsqrt 3)) g.w kk
  let pa := (al.d - be.q) / 2
  let pb := (al.q + be.d) / 2
  let na := (al.d + be.q) / 2
  let nb := (be.d - al.q) / 2
  let vPos := rsqrt (pa * pa + pb * pb)
  let vNeg := rsqrt (na * na + nb * nb)
  let vb := s.vBase e
  let err := quot (-pa * rsin g.theta + pb * rcos g.theta) (max vPos (vb / 100))
  let low := vb * (s.get (R.GE_PLL_CFG_FREEZE_PCT e) : Rat) / 100
  let cause := g.vStale || decide (pa * pa + pb * pb < low * low)
  let was := s.flag (R.GE_PLL_STAT_FROZEN e)
  let frozen := was || cause
  let wn : Rat := turn * (s.get (R.GE_PLL_CFG_BW e) : Rat)
  let nom := turn * s.fNom e / 1000
  let integ := if frozen then g.integ else g.integ + wn * wn * err / 100000
  let w := if frozen then g.w
    else clampR (nom - turn * 10) (nom + turn * 10) (nom + 1414 / 1000 * wn * err + integ)
  let locked := s.flag (R.GE_PLL_STAT_LOCKED e)
  let s := s.setEng e (fun g =>
    { g with al := al, be := be, w := w, integ := integ, e := err, vPos := vPos, vNeg := vNeg,
             thV := ratan2 pa pb, thN := ratan2 na nb,
             theta0 := g.theta, theta := modTurn (g.theta + w / 100000),
             clearSince := since (frozen && !cause) g.clearSince s.now,
             frozenSince := since frozen g.frozenSince s.now,
             lockSince := since (!frozen && !locked && decide (|err| ≤ 1 / 20) && decide (vb ≠ 0))
               g.lockSince s.now,
             badSince := since (!frozen && decide (1 / 5 < |err|)) g.badSince s.now })
  let s := if frozen ∧ ¬ was then (s.setB (R.GE_PLL_STAT_FROZEN e) true).irq (pgGe e) 2 else s
  let s := (s.showAngle (R.GE_THETA_ANGLE e) g.theta).showU (R.GE_FREQ_MHZ e) (s.fHat e)
  let s := (s.showU (R.GE_VPOS_MV e) vPos).showU (R.GE_VNEG_MV e) vNeg
  s.showAngle (R.GE_NEG_ANG_ANGLE e) (ratan2 na nb)

/-- The PLL loses lock (R246). -/
def State.pllUnlock (s : State) (e : Nat) : State :=
  ((s.setB (R.GE_PLL_STAT_LOCKED e) false).irq (pgGe e) 1).setEng e (fun g =>
    { g with lockSince := none })

end Sys2Proof.Machine
end

