-- ==== Sys2Proof/Machine/SafeOps.lean ====
section
/-! DEFINITION. The safety functions (R388 to R407): pairs, function states, gate-enable lines and
safety outputs, in Burl (channel 0) and Heartwood (channel 1). -/

namespace Sys2Proof.Machine

/-- One of the two channels: 0 Burl, 1 Heartwood. -/
def State.side (s : State) (c : Nat) : ChanSt := if c = 0 then s.safe.burl else s.safe.hw

/-- A channel changed. -/
def State.setSide (s : State) (c : Nat) (f : ChanSt → ChanSt) : State :=
  if c = 0 then s.modSafe (fun d => { d with burl := f d.burl })
  else s.modSafe (fun d => { d with hw := f d.hw })

/-- Function `f` in a channel. -/
def State.fn (s : State) (c f : Nat) : FnSt := (s.side c).fn.getD f {}

/-- Function `f` changed in a channel. -/
def State.setFn (s : State) (c f : Nat) (g : FnSt → FnSt) : State :=
  s.setSide c (fun d => { d with fn := d.fn.modify f g })

/-- The slot is used (R394). -/
def State.fnUsed (s : State) (f : Nat) : Bool := s.flag (R.SAFE_FUNC_TYPE f)

/-! ### Pairs (R392, R393, R418) -/

/-- Bit `b` of byte `o` of the safety state that a channel's checker holds of the connection of
virtual pair `12 + v` (R417, R418). -/
def State.virtualOn (s : State) (c v o : Nat) : Bool :=
  let n := s.get (R.SAFE_VIN_CFG_CONN v)
  let g := s.gyl.getD n {}
  let data := if c = 0 then g.dataHw else g.dataHt
  s.flag (R.SAFE_VIN_CFG_EN v) && decide (s.get (R.GYLEN_CSTAT_STATE n) = 2)
    && (c = 0 || g.runHt) && decide (leAt data 0 2 = 0x0B10)
    && (data.getD o 0).testBit (s.get (R.SAFE_VIN_CFG_FUNC v))

/-- Channels A and B of pair `p`, as channel `c` sees them. -/
def State.pairAB (s : State) (c p : Nat) : Bool × Bool :=
  if p < 12 then ((s.side c).inA.testBit p, (s.side c).inB.testBit p)
  else (s.virtualOn c (p - 12) 2, s.virtualOn c (p - 12) 3)

/-- The pair is ON. -/
def State.pairOn (s : State) (c p : Nat) : Bool := (s.pairAB c p).1 && (s.pairAB c p).2
/-- The pair is OFF. -/
def State.pairOff (s : State) (c p : Nat) : Bool := !(s.pairAB c p).1 && !(s.pairAB c p).2
/-- The pair is in DISAGREE. -/
def State.pairDis (s : State) (c p : Nat) : Bool := (s.pairAB c p).1 != (s.pairAB c p).2

/-- The pairs of function `f` (R397). -/
def State.fnPairs (s : State) (f : Nat) : List Nat :=
  if s.get (R.SAFE_FUNC_TYPE f) = 3 then
    [s.get (R.SAFE_FUNC_PAIR_A f), s.get (R.SAFE_FUNC_PAIR_B f)]
  else [s.get (R.SAFE_FUNC_PAIR_A f)]

/-- Since when each pair disagrees, and Burl's readout of the pairs (R393, R420). -/
def State.pairsSync (s : State) (c : Nat) : State :=
  let dis := (List.range 16).map (fun p =>
    if s.pairDis c p then
      match (s.side c).disSince.getD p none with
      | some t => some t
      | none => some s.now
    else none)
  let s := s.setSide c (fun d => { d with disSince := dis })
  if c = 0 then
    let on := (List.range 16).foldl (fun m p => if s.pairOn 0 p then m + 2 ^ p else m) 0
    let di := (List.range 16).foldl (fun m p => if s.pairDis 0 p then m + 2 ^ p else m) 0
    (s.set R.SAFE_IN_STAT_ON on).set R.SAFE_IN_STAT_DISAGREE di
  else s

/-! ### Lines and outputs -/

/-- The code `FSTATE` shows (R394). -/
def fnCode : FnState → Nat
  | .unused => 0 | .permit => 1 | .stopping => 2 | .stopped => 3 | .ready => 4 | .fault => 5

/-- The state lets the function's targets on. -/
def fnPermits : FnState → Bool
  | .permit => true
  | .stopping => true
  | _ => false

/-- No target may be permitted: before the lock, in Quarantine, in the channel's own safe state
(R395, R391, R20). -/
def State.safetyOff (s : State) (c : Nat) : Bool :=
  !s.locked || s.quarantine
    || (if c = 0 then s.flag R.SAFE_STATUS_SAFE_STATE else s.sys.burlFaulty || !s.hwRuns)

/-- Channel `c` permits gate-enable line `x` (R395). Burl drops the line of a cell island whose clock is
lost (R19). -/
def State.linePermit (s : State) (c x : Nat) : Bool :=
  let named := (List.range 8).filter (fun f => s.fnUsed f && (s.get (R.SAFE_TGT_GATE f)).testBit x)
  !s.safetyOff c && (decide (c ≠ 0) || s.cellRuns x)
    && (if named = [] then (s.get R.SAFE_GATE_FREE_LINES).testBit x
        else named.all (fun f => fnPermits (s.fn c f).st))

/-- Channel `c` permits safety output `n` (R395). -/
def State.outPermit (s : State) (c n : Nat) : Bool :=
  let named := (List.range 8).filter (fun f => s.fnUsed f && (s.get (R.SAFE_TGT_SO f)).testBit n)
  !s.safetyOff c && named != [] && named.all (fun f => fnPermits (s.fn c f).st)

/-- Safety output `n` is demanded on (R403). -/
def State.outDemand (s : State) (n : Nat) : Bool :=
  s.outPermit 0 n && s.outPermit 1 n && (s.get R.SAFE_OUT_REQ_REQ).testBit n
    && !(s.get R.SAFE_OUT_STAT_FAULT).testBit n

/-- Output pair `n`. -/
def State.out (s : State) (n : Nat) : OutSt := s.safe.out.getD n {}

/-- Output pair `n` changed. -/
def State.setOut (s : State) (n : Nat) (f : OutSt → OutSt) : State :=
  s.modSafe (fun d => { d with out := d.out.modify n f })

/-- A test of the pair runs. -/
def OutSt.testing (o : OutSt) : Bool := o.phase != .idle

/-- A pulse of the test runs. -/
def OutSt.pulsing (o : OutSt) : Bool :=
  match o.phase with
  | .pulseA _ => true
  | .pulseB _ => true
  | _ => false

/-- The balls of pair `n` driven; their readbacks follow (R403, R404). -/
def State.driveOut (s : State) (n : Nat) (a b : Bool) : State :=
  let o := s.out n
  let ra := if o.soA = a then (s.get R.SAFE_OUT_STAT_RB_A).testBit n else a
  let rb := if o.soB = b then (s.get R.SAFE_OUT_STAT_RB_B).testBit n else b
  let s := (s.putMaskBit R.SAFE_OUT_STAT_RB_A n ra).putMaskBit R.SAFE_OUT_STAT_RB_B n rb
  let low := if ra || rb then none else
    match o.lowSince with
    | some t => some t
    | none => some s.now
  let s := s.putMaskBit R.SAFE_OUT_STAT_ON n (a || b)
  s.setOut n (fun d => { d with
    soA := a, soB := b, lowSince := low,
    changedAt := if o.soA = a ∧ o.soB = b then d.changedAt else s.now })

/-- The readout of a running test. -/
def State.showTest (s : State) (n : Nat) : State :=
  s.putMaskBit R.SAFE_OUT_STAT_TESTING n (s.out n).testing

/-- Output pair `n` follows its demand (R403, R407). -/
def State.outSync (s : State) (n : Nat) : State :=
  let o := s.out n
  if s.outDemand n then
    if o.soA || o.soB || o.pulsing then s
    else
      let due := if o.spoiled then s.now + secs 1 else o.testDue
      (s.driveOut n true true).setOut n (fun d => { d with
        onAt := s.now, testDue := due, spoiled := false })
  else if o.soA || o.soB then
    let s := s.driveOut n false false
    let s :=
      if o.pulsing then s.setOut n (fun d => { d with spoiled := true })
      else if o.testing then s.setOut n (fun d => { d with spoiled := true, phase := .idle })
      else s
    s.showTest n
  else s

/-- The gate-enable lines follow their permits; a line that falls takes its channel to the Husk state, unless
the island's clock has stopped and nothing in it changes (R492)
with cause 4 (R389, R395). -/
def State.linesSync (s : State) : State :=
  (List.range 8).foldl
    (fun t x =>
      let on := t.linePermit 0 x && t.linePermit 1 x
      let was := t.safe.lines.testBit x
      let t := t.modSafe (fun d => { d with lines := putBit d.lines x on })
      if t.cellRuns x = false ∨ on = was then t
      else if on then t.holdSync x
      else t.husk x 4) s

/-- The producers of the safety state note a change of Burl's states (R416, R417). -/
def State.noteStates (s : State) (old : Nat) : State :=
  let b := (List.range 8).foldl (fun m f => if (s.fn 0 f).st = .permit then m + 2 ^ f else m) 0
  if b = old then s
  else
    { s with gyl := s.gyl.mapIdx (fun n g =>
      if s.flag (R.GYLEN_CCFG_SRC_HOST n) then g else { g with changed := true }) }

/-- Bit f: function f is in PERMIT in channel `c`. -/
def State.permitMask (s : State) (c : Nat) : Nat :=
  (List.range 8).foldl (fun m f => if (s.fn c f).st = .permit then m + 2 ^ f else m) 0

/-- The readouts, lines and outputs brought up to date (R394, R395, R403). -/
def State.safeSync (s : State) : State :=
  let s := (List.range 8).foldl (fun t f => t.set (R.SAFE_FSTATE_STATE f) (fnCode (t.fn 0 f).st)) s
  let s := s.setB R.SAFE_STATUS_ANY_STOP
    ((List.range 8).any (fun f => s.fnUsed f && (s.fn 0 f).st != .permit))
  let s := s.linesSync
  (List.range 4).foldl (fun t n => t.outSync n) s

/-! ### Function states (R394) -/

/-- A function enters a state. Exits from and entries into PERMIT are shown for Burl's states. -/
def State.fnEnter (s : State) (c f : Nat) (st : FnState) : State :=
  let old := (s.fn c f).st
  let s := s.setFn c f (fun d => { d with
    st := st, since := s.now, rearmed := if old = .permit then false else d.rearmed,
    first := if old = .permit then none else d.first })
  if c = 0 then
    let s :=
      if old = .permit ∧ st ≠ .permit then
        ((s.inc R.SAFE_CNT_A_STOPS).set R.SAFE_STOP_T_NS (s.stamp pgSafe)).irqLog pgSafe 0 1 1
      else s
    if st = .permit ∧ old ≠ .permit then s.irq pgSafe 1 else s
  else s

/-- A function enters FAULT (R393): counted unless the other channel has it there already. -/
def State.fnFault (s : State) (c f : Nat) (record : Bool) : State :=
  let other := (s.fn (1 - c) f).st
  let s := s.fnEnter c f .fault
  if other = .fault then s
  else
    let s := s.inc R.SAFE_CNT_A_FAULTS
    if record then s.irqLog pgSafe 2 2 (1 - c) else s.irq pgSafe 2

/-- The longest time between the hands: 485 ms in Burl, 500 ms in Heartwood (R398). -/
def handTime (c : Nat) : Nat := if c = 0 then ms 485 else ms 500

/-- A two-hand actuation was late (R398): bit 7, and the pairs must be OFF together again. -/
def State.handsLate (s : State) (c f : Nat) : State :=
  (s.irq pgSafe 7).setFn c f (fun d => { d with rearmed := false, first := none })

/-- What a two-hand function notes of its pairs (R398). An actuation made while the function is not
STOPPED is none: the pairs must be OFF together again. -/
def State.noteHands (s : State) (c f : Nat) : State :=
  let ps := s.fnPairs f
  let anyOn := ps.any (s.pairOn c)
  let allOff := ps.all (s.pairOff c)
  s.setFn c f (fun d =>
    if allOff then { d with rearmed := d.rearmed || d.st != .permit, first := none }
    else if d.st = .stopped then
      { d with first := if anyOn then (match d.first with | some t => some t | none => some s.now)
                        else none }
    else { d with rearmed := d.rearmed && !anyOn })

/-- One move of a function in a channel (R394, R397, R398). -/
def State.fnMove (s : State) (c f : Nat) : State :=
  let d := s.fn c f
  let ps := s.fnPairs f
  let allOn := ps.all (s.pairOn c)
  match d.st with
  | .unused => s
  | .permit =>
    if allOn then s
    else s.fnEnter c f (if s.flag (R.SAFE_FUNC_CAT f) then .stopping else .stopped)
  | .stopping => s
  | .stopped =>
    if allOn then
      if s.get (R.SAFE_FUNC_TYPE f) = 3 then
        let inTime : Bool := match d.first with
          | some t => decide (s.now ≤ t + handTime c)
          | none => false
        if d.rearmed && inTime then s.fnEnter c f .permit
        else if d.rearmed then s.handsLate c f
        else s
      else s.fnEnter c f (if s.flag (R.SAFE_FUNC_RESET f) then .permit else .ready)
    else s
  | .ready => if allOn then s else s.fnEnter c f .stopped
  | .fault => if ps.all (s.pairOff c) then s.fnEnter c f .stopped else s

/-- Every function of a channel moved as its pairs now say, before the targets follow. -/
def State.fnsMove (s : State) (c : Nat) : State :=
  let s := s.pairsSync c
  (List.range 8).foldl
    (fun t f =>
      if t.fnUsed f then
        let on := t.pairOn c (t.get (R.SAFE_FUNC_PAIR_A f))
        let t := t.setFn c f (fun d => { d with
          onSince := if on then (match d.onSince with | some u => some u | none => some t.now)
                     else none })
        let t := if t.get (R.SAFE_FUNC_TYPE f) = 3 then t.noteHands c f else t
        let t := t.fnMove c f
        if t.get (R.SAFE_FUNC_TYPE f) = 3 then t else t.fnMove c f
      else t) s

/-- Burl evaluates its functions; the targets follow and the safety state is rebuilt. -/
def State.evalBurl (s : State) : State :=
  let old := s.permitMask 0
  ((s.fnsMove 0).safeSync).noteStates old

/-- Heartwood evaluates its functions; the targets follow. -/
def State.evalHw (s : State) : State := (s.fnsMove 1).safeSync

/-- A filtered channel of a physical pair takes a level. -/
def State.putInput (s : State) (c p : Nat) (b on : Bool) : State :=
  s.setSide c (fun d =>
    if b then { d with inB := putBit d.inB p on } else { d with inA := putBit d.inA p on })

/-- Heartwood's safety slice evaluates the record of its sampler, change by change, and then the inputs as they
stand (R388). -/
def State.evalRecord (s : State) : State :=
  let l := s.safe.record
  let s := s.modSafe (fun d => { d with record := [] })
  (l.foldl (fun (t : State) e => (t.putInput 1 e.1 e.2.1 e.2.2).fnsMove 1) s).evalHw

/-- Channel `c` evaluates its functions. -/
def State.evalSide (s : State) (c : Nat) : State := if c = 0 then s.evalBurl else s.evalHw

/-- At the lock every used function enters STOPPED in both channels (R394). -/
def State.fnsAtLock (s : State) : State :=
  let start (d : ChanSt) : ChanSt :=
    { d with fn := (List.range 8).map (fun f =>
        if s.fnUsed f then { st := .stopped, since := s.now } else {}) }
  let s := s.modSafe (fun d => { d with burl := start d.burl, hw := start d.hw })
  let s := s.modSafe (fun d => { d with
    out := (List.range 4).map (fun n =>
      { d.out.getD n {} with testDue := s.now + secs (s.get (R.SAFE_OUTCFG_TP_PERIOD n)) }) })
  (s.fnsMove 0).safeSync

/-- A function with `GRID` is in a state other than PERMIT in either channel: since when (R396). -/
def State.gridStop (s : State) : Option Nat :=
  (List.range 8).foldl
    (fun best f =>
      if s.fnUsed f && s.flag (R.SAFE_TGT_GRID f) then
        [s.fn 0 f, s.fn 1 f].foldl
          (fun b d => if d.st = .permit then b
            else match b with
              | some t => some (min t d.since)
              | none => some d.since) best
      else best) none

/-- Heartwood passes its states to Burl and both compare (R390). -/
def State.exchange (s : State) : State :=
  let div := (List.range 8).map (fun f =>
    if s.fnUsed f && (decide ((s.fn 0 f).st = .permit) != decide ((s.fn 1 f).st = .permit)) then
      match s.safe.divSince.getD f none with
      | some t => some t
      | none => some s.now
    else none)
  s.modSafe (fun d => { d with divSince := div })

/-! ### Safe state (R391) -/

/-- Burl enters its safe state: every line falls, its switch of every output opens, until a reset. `mask`
lists the causes present in this Burl cycle, `cause` is the lowest. A further cause in the same Burl cycle
joins the record and the lowest is kept. -/
def State.burlSafe (s : State) (cause : Nat) (mask : Nat := 2 ^ cause) : State :=
  if s.flag R.SAFE_STATUS_SAFE_STATE then
    if PageIsland.burl.cycle s.sys.safeAt = PageIsland.burl.cycle s.now then
      let low := min cause (s.get R.SAFE_STATUS_SAFE_CAUSE)
      let s := (s.set R.SAFE_STATUS_SAFE_CAUSE low).modSys (fun d => { d with keptCause := low })
      s.modLog (fun d => { d with queue := d.queue.map (fun r =>
        if r.page = pgSafe ∧ r.code = 0x108 then
          { r with data := bytesLE 4 (s.statusWord pgSafe) ++ [r.data.getD 4 0 ||| mask] } else r) })
    else s
  else
    let s := (s.setB R.SAFE_STATUS_SAFE_STATE true).set R.SAFE_STATUS_SAFE_CAUSE cause
    let s := s.modSys (fun d => { d with keptCause := cause, safeAt := s.now })
    let s := s.safeSync
    s.irqLogD pgSafe 8 2 (bytesLE 4 (s.statusWord pgSafe) ++ [mask]) 1

/-- Heartwood finds Burl's clock faulty (R20, R389): it withdraws every permit and stops every cell
channel; the stop of the channels is that of a dropped line. -/
def State.burlClockFault (s : State) : State :=
  if s.sys.burlFaulty then s
  else
    let s := s.modSys (fun d => { d with burlFaulty := true })
    let s := s.safeSync
    (List.range 8).foldl (fun t x => if t.cellRuns x then t.husk x 4 else t) s

/-- An output fault on pair `n` (R404): both balls low; a running test is discarded (R407). -/
def State.outFault (s : State) (n : Nat) : State :=
  if (s.get R.SAFE_OUT_STAT_FAULT).testBit n then s
  else
    let s := s.setMaskBit R.SAFE_OUT_STAT_FAULT n
    let s := s.driveOut n false false
    let s := s.setOut n (fun d => { d with phase := .idle, spoiled := d.spoiled || d.testing })
    ((s.showTest n).irqLog pgSafe 3 2 1)

end Sys2Proof.Machine
end

