-- ==== Sys2Proof/Machine/RideOps.lean ====
section
/-! DEFINITION. Ride-through, trips, return to service and islanding as GE1 evaluates them once per cycle
(R273 to R300). -/

namespace Sys2Proof.Machine

/-- Trip causes of R289. -/
def tcIsland : Nat := 5
def tcTransfer : Nat := 6
def tcLink : Nat := 7
def tcStale : Nat := 8
def tcHost : Nat := 9

/-- A trip with the given causes (R289). A tripped node keeps its cause, but causes of one cycle make one
trip, whose cause is the lowest (R300). -/
def State.trip (s : State) (causes : List Nat) : State :=
  match causes with
  | [] => s
  | c :: cs =>
    if s.flag R.RIDE_STATUS_TRIPPED then
      if s.ride.causes = [] then s
      else
        let s := s.setRide (fun r => { r with causes := r.causes ++ c :: cs })
        s.set R.RIDE_STATUS_TRIP_CAUSE ((c :: cs).foldl min (s.get R.RIDE_STATUS_TRIP_CAUSE))
    else
      let s := (s.setB R.RIDE_STATUS_TRIPPED true).set R.RIDE_STATUS_TRIP_CAUSE (cs.foldl min c)
      let s := ((s.set R.RIDE_TRIP_T_NS (s.stamp pgRide)).inc R.RIDE_CNT_TRIPS).setB R.RIDE_STATUS_RECOVER false
      let s := s.setRide (fun r =>
        { r with recAt := none, rtsRamp := none, mcRamp := none, clearReq := false, causes := c :: cs })
      let s := (s.setArm (fun a => { a with ramp := none })).setB R.ARM_STATUS_RAMPING false
      (s.irq pgRide 4).offerTrigger 5 (s.stamp pgRide) (fun _ _ => true)

/-- The trip's record, written once the cycle's evaluation has found every cause: their mask, and the `REASON`
of a transfer trip (R289, R296, R300). -/
def State.tripRecord (s : State) : State :=
  if s.ride.causes = [] then s
  else
    let l := bytesLE 2 (s.ride.causes.foldl setBit 0)
      ++ (if s.ride.causes.contains tcTransfer then [s.ride.reason] else [])
    (s.logIt pgRide 2 0x104 l).setRide (fun r => { r with causes := [] })

/-- The trip clears when every condition of R291 holds. -/
def State.rtsTry (s : State) : State :=
  let r := s.ride
  let held := heldFor r.rtsSince (secs (s.get R.RIDE_RTS_CFG_RTS_S)) s.now
  let ready := held && s.flag (R.GE_PLL_STAT_LOCKED 1) && decide (s.get R.RIDE_STATUS_EXC = 0)
    && !s.flag R.ISLAND_STATUS_DECIDED && !r.ttBlock
    && (decide (s.get R.RIDE_STATUS_TRIP_CAUSE ≠ tcLink) || s.flag R.ISLAND_STATUS_TT_OK)
  if s.flag R.RIDE_STATUS_TRIPPED ∧ ready ∧ r.causes = [] then
    if s.flag R.RIDE_RTS_CFG_AUTO ∨ r.clearReq then
      let s := (s.setB R.RIDE_STATUS_TRIPPED false).setB R.RIDE_STATUS_RTS_WAIT false
      let s := s.setRide (fun r => { r with clearReq := false, rtsRamp := some s.now })
      s.irq pgRide 5
    else s.setB R.RIDE_STATUS_RTS_WAIT true
  else s.setB R.RIDE_STATUS_RTS_WAIT false

/-- Ride-through brought up to date with the excursions and momentary cessation (R282, R283, R288,
R293). -/
def State.rtSync (s : State) : State :=
  let exc := s.get R.RIDE_STATUS_EXC
  let rt := exc.testBit 0 || exc.testBit 1 || s.flag R.RIDE_STATUS_MC
  let was := s.flag R.RIDE_STATUS_RT
  if rt ∧ ¬ was then
    let s := (s.setB R.RIDE_STATUS_RT true).setB R.RIDE_STATUS_RECOVER false
    let s := s.setRide (fun r => { r with idPre := s.arm.id, iqPre := s.arm.iq, recAt := none, mcRamp := none })
    let s := s.setB R.ISLAND_STATUS_BLOCKED true
    let s := (s.putMaskBit R.ISLAND_STATUS_IND 0 false).putMaskBit R.ISLAND_STATUS_IND 1 false
    s.setIsl (fun i => { i with blockEnd := none, rocofSince := none, vsHit := false })
  else if was ∧ ¬ rt then
    let s := s.setB R.RIDE_STATUS_RT false
    let s :=
      if s.flag R.RIDE_STATUS_TRIPPED then s
      else (s.setB R.RIDE_STATUS_RECOVER true).setRide (fun r =>
        { r with recAt := some s.now, recId := s.arm.id, recIq := s.arm.iq, recI2 := s.arm.i2 })
    s.setIsl (fun i => { i with blockEnd := some (s.now + ms (s.get R.ISLAND_WIN_TIME_RT_BLOCK_MS)) })
  else s

/-- The quantities of R276; stale sources leave the last fresh ones (R277). -/
def State.rideMeasure (s : State) : State :=
  let g := s.eng 1
  let vb := s.vBase 1
  let pu (v : Rat) : Rat := quot v vb * 16384
  let m (p : Nat) : Rat :=
    rsqrt (g.vPos * g.vPos + g.vNeg * g.vNeg
      + 2 * g.vPos * g.vNeg * rcos (g.thV - g.thN - 2 * turn * (p : Rat) / 3))
  let s := s.setRide (fun r => { r with staleSince := since g.vStale r.staleSince s.now })
  let s :=
    if g.vStale then s
    else s.setRide (fun r => { r with uPos := pu g.vPos, m := [pu (m 0), pu (m 1), pu (m 2)], f := s.fHat 1 })
  let lo := s.ride.m.foldl min (s.ride.m.headD 0)
  let hi := s.ride.m.foldl max (s.ride.m.headD 0)
  (s.showU R.RIDE_U_EXT_U_MIN lo).showU R.RIDE_U_EXT_U_MAX hi

/-- U_min, U_max as last measured. -/
def RideSt.uMin (r : RideSt) : Rat := r.m.foldl min (r.m.headD 0)
/-- U_max as last measured. -/
def RideSt.uMax (r : RideSt) : Rat := r.m.foldl max (r.m.headD 0)

/-- A word of curve `c` (R278). -/
def State.curveTab (s : State) (c ofs : Nat) : Nat := s.mem.word (0x01160000 + c * 0x100 + ofs)

/-- The last point of curve `c`. -/
def State.curveLast (s : State) (c : Nat) : Nat := bitsOf (s.curveTab c 0) 0 4

/-- Point `k` of curve `c`: time in ms, value. -/
def State.curvePt (s : State) (c k : Nat) : Nat × Nat :=
  (s.curveTab c (0x10 + 8 * k), s.curveTab c (0x14 + 8 * k))

/-- Curve `c` meets R279. -/
def State.curveOk (s : State) (c : Nat) : Bool :=
  let n := s.curveLast c
  let head := s.curveTab c 0
  decide (head % 2 ^ 16 = n + (if head.testBit 8 then 256 else 0)) && decide (head / 2 ^ 16 = 1)
    && [4, 8, 12].all (fun o => decide (s.curveTab c o = 0))
    && ((List.range 64).filter (fun w => decide (4 + 2 * (n + 1) ≤ w))).all
        (fun w => decide (s.curveTab c (4 * w) = 0))
    && decide ((s.curvePt c 0).1 = 0)
    && (List.range n).all (fun k =>
      decide ((s.curvePt c k).1 < (s.curvePt c (k + 1)).1)
        && (if c = 0 ∨ c = 2 then decide ((s.curvePt c k).2 ≤ (s.curvePt c (k + 1)).2)
            else decide ((s.curvePt c (k + 1)).2 ≤ (s.curvePt c k).2)))

/-- All four curves and the reserved rest of the area are valid (R278, R279). -/
def State.curvesOk (s : State) : Bool :=
  (List.range 4).all s.curveOk
    && s.mem.all (fun c => !(decide (0x01160400 ≤ c.1) && decide (c.1 < 0x01170000)))

/-- Boot's check of the ride-through area after the lock (R279). A double-bit error there puts Burl in its safe
state (R21). -/
def State.checkCurves (s : State) : State :=
  let (ok, s) := s.engineRead pgRide 0x01160000 0x10000
  let s := if ok then s else s.burlSafe 5
  s.setB R.RIDE_STATUS_CURVES_OK (ok && s.curvesOk)

/-- The bound of curve `c` at `t` time units after the start (R281). -/
def State.curveBound (s : State) (c t : Nat) : Int :=
  let n := s.curveLast c
  let te : Rat := (t : Rat) / (ms 1 : Nat)
  let k := ((List.range (n + 1)).filter (fun k => decide (((s.curvePt c k).1 : Rat) ≤ te))).foldl max 0
  let (tk, vk) := s.curvePt c k
  if (s.curveTab c 0).testBit 8 ∧ k < n then
    let (t1, v1) := s.curvePt c (k + 1)
    let inc : Rat := ((v1 : Rat) - (vk : Rat)) * (te - (tk : Rat)) / ((t1 : Rat) - (tk : Rat))
    (vk : Int) + (if 0 ≤ inc then inc.floor else -((-inc).floor))
  else (vk : Int)

/-- The quantity of curve `c` (R278). -/
def State.curveQty (s : State) (c : Nat) : Rat :=
  if c = 0 then s.ride.uMin else if c = 1 then s.ride.uMax else s.ride.f

/-- Whether curve `c`'s excursion would start now (R280). A frequency excursion does not start while
the PLL is frozen by low voltage (R277). -/
def State.excEnter (s : State) (c : Nat) : Bool :=
  let q := s.curveQty c
  let nom := s.fNom 1
  let frz := s.flag (R.GE_PLL_STAT_FROZEN 1) && !(s.eng 1).vStale
  if c = 0 then decide (q < (s.get R.RIDE_LV_CFG_ENTER : Rat))
  else if c = 1 then decide ((s.get R.RIDE_HV_CFG_ENTER : Rat) < q)
  else if c = 2 then !frz && decide (q < nom - (s.get R.RIDE_F_CFG_LF_ENTER : Rat))
  else !frz && decide (nom + (s.get R.RIDE_F_CFG_HF_ENTER : Rat) < q)

/-- Whether the quantity is back past its EXIT (R280). -/
def State.excBack (s : State) (c : Nat) : Bool :=
  let q := s.curveQty c
  let nom := s.fNom 1
  let h : Rat := (s.get R.RIDE_RT_TIME_F_HYST : Rat)
  if c = 0 then decide ((s.get R.RIDE_LV_CFG_EXIT : Rat) ≤ q)
  else if c = 1 then decide (q ≤ (s.get R.RIDE_HV_CFG_EXIT : Rat))
  else if c = 2 then decide (nom - (s.get R.RIDE_F_CFG_LF_ENTER : Rat) + h ≤ q)
  else decide (q ≤ nom + (s.get R.RIDE_F_CFG_HF_ENTER : Rat) - h)

/-- A `TRIP_CLR` of the cycle in which an excursion starts is refused, and the return window restarts
(R300). -/
def State.refuseClear (s : State) : State :=
  (s.err pgRide).setRide (fun r => { r with clearReq := false, clearNow := false, rtsSince := none })

/-- Curve `c` at a cycle: start, return timer, and the trip comparison (R280, R281). Answers its trip
cause. A double-bit error in the curve puts Burl in its safe state (R21). -/
def State.excCycle (s : State) (c : Nat) : State × List Nat :=
  let s :=
    if (s.ride.exc.getD c none).isNone ∧ s.excEnter c then
      let s := (s.setMaskBit R.RIDE_STATUS_EXC c).inc R.RIDE_CNT_EXCURSIONS
      let s := if s.ride.clearNow then s.refuseClear else s
      let s := s.setRide (fun r => { r with exc := r.exc.set c (some s.now), excNew := true })
      (s.irqLog pgRide 0 1).offerTrigger 4 (s.get (R.GE_CYCLE_T_NS 1)) (fun _ _ => true)
    else s
  match s.ride.exc.getD c none with
  | none => (s, [])
  | some t =>
    let s := s.setRide (fun r => { r with back := r.back.set c (since (s.excBack c) (r.back.getD c none) s.now) })
    let (ok, s) := s.engineRead pgRide (0x01160000 + c * 0x100) 0x100
    let s := if ok then s else s.burlSafe 5
    let b : Rat := (s.curveBound c (s.now - t) : Int)
    let q := s.curveQty c
    let hit := if c = 0 ∨ c = 2 then decide (q < b) else decide (b < q)
    (s, if hit then [c + 1] else [])

/-- The excursion timers' readouts (R301). -/
def State.showExc (s : State) : State :=
  let age (c : Nat) : Nat := match s.ride.exc.getD c none with
    | some t => (s.now - t) / ms 1
    | none => 0
  (s.setSat R.RIDE_EXC_T_V_MS (max (age 0) (age 1))).setSat R.RIDE_EXC_T_F_MS (max (age 2) (age 3))

/-- Momentary cessation (R287). -/
def State.mcCycle (s : State) : State :=
  let lo := s.get R.RIDE_MC_CFG_MC_LO
  let hi := s.get R.RIDE_MC_CFG_MC_HI
  let h := s.get R.RIDE_MC_TIME_MC_HYST
  let r := s.ride
  let enter := (decide (lo ≠ 0) && decide (r.uMin < (lo : Rat))) || (decide (hi ≠ 0) && decide ((hi : Rat) < r.uMax))
  let exit := (decide (lo = 0) || decide ((lo + h : Rat) ≤ r.uMin))
    && (decide (hi = 0) || decide (r.uMax ≤ (hi : Rat) - (h : Rat)))
  if s.flag R.RIDE_STATUS_MC then
    if exit then
      ((s.setB R.RIDE_STATUS_MC false).setRide (fun r => { r with mcRamp := some s.now })).irq pgRide 3
    else s
  else if enter then (s.setB R.RIDE_STATUS_MC true).irq pgRide 2
  else s

/-- The return window's timer (R291). -/
def State.rtsCycle (s : State) : State :=
  let r := s.ride
  let lo : Rat := (s.get R.RIDE_RTS_WIN_U_LO : Rat)
  let hi : Rat := (s.get R.RIDE_RTS_WIN_U_HI : Rat)
  let inU (u : Rat) : Bool := decide (lo ≤ u) && decide (u ≤ hi)
  let nom := s.fNom 1
  let inF := decide (nom - (s.get R.RIDE_RTS_FWIN_F_LO_MHZ : Rat) ≤ r.f)
    && decide (r.f ≤ nom + (s.get R.RIDE_RTS_FWIN_F_HI_MHZ : Rat))
  let ok := inU r.uPos && r.m.all inU && inF
  let s := s.setRide (fun r =>
    { r with rtsSince := since ok r.rtsSince s.now, clearReq := r.clearReq && ok })
  s.rtsTry

/-! ### Islanding -/

/-- The epoch's length and the active window's in ns (R294). -/
def State.epochLen (s : State) : Nat := s.get R.ISLAND_ACT_CFG_EP_MS * 1000000
/-- The epoch number now (R294). -/
def State.epochNow (s : State) : Nat := s.canopy / max 1 s.epochLen
/-- The active window is on (R294). -/
def State.windowOn (s : State) : Bool :=
  decide (s.canopy % max 1 s.epochLen < s.get R.ISLAND_ACT_CFG_ON_MS * 1000000)
/-- The epoch's sign (R294): true is -1. -/
def State.epochNeg (s : State) : Bool := (s.get R.ISLAND_ACT_PAT_PATTERN).testBit (s.epochNow % 16)

/-- The bias is held at 0 (R295). -/
def State.phiHeld (s : State) : Bool :=
  s.flag R.RIDE_STATUS_RT || s.flag R.ARM_STATUS_GF || !s.flag R.CANOPY_STATUS_EVER_LOCKED
    || s.flag R.ISLAND_STATUS_ACT_SUSP

/-- The rise of indication `i` (R292). -/
def State.indRise (s : State) (i : Nat) : State :=
  let s := s.setMaskBit R.ISLAND_STATUS_IND i
  let s := s.setIsl (fun d =>
    { d with vote := d.vote.set i (some (s.now + ms (s.get R.ISLAND_VS_CFG_VOTE_MS))) })
  s.irq pgIsland 0

/-- Indication `i` is asserted. -/
def State.indOn (s : State) (i : Nat) : Bool := (s.get R.ISLAND_STATUS_IND).testBit i

/-- The persistence of indication `i` is complete (R292). -/
def State.indReady (s : State) (i : Nat) : Bool :=
  if i = 0 then heldFor s.isl.rocofSince (ms (s.get R.ISLAND_ROCOF_CFG_PERSIST_MS)) s.now
  else if i = 1 then s.isl.vsHit
  else if i = 2 then heldFor s.isl.winOut (ms (s.get R.ISLAND_WIN_TIME_WIN_MS)) s.now
  else heldFor s.isl.actOn (ms 10) s.now

/-- Indication `i` asserts if its persistence is complete (R292). -/
def State.indTry (s : State) (i : Nat) : State :=
  if s.indReady i ∧ ¬ s.indOn i then s.indRise i else s

/-- The islanding decision and what it does (R297, R298): `by` is `DECIDED_BY`. Answers trip causes. -/
def State.islandDecide (s : State) (who : Nat) : State × List Nat :=
  let tt := who.testBit 4
  let s :=
    if s.flag R.ISLAND_STATUS_DECIDED then s
    else
      let s := (s.setB R.ISLAND_STATUS_DECIDED true).set R.ISLAND_STATUS_DECIDED_BY who
      let s := ((s.set R.ISLAND_DETECT_T_NS (s.stamp pgIsland)).inc R.ISLAND_CNT_DECISIONS).irq pgIsland 1
      s.offerTrigger 6 (s.stamp pgIsland) (fun _ _ => true)
  if tt then (s, [tcTransfer])
  else if ¬ s.flag R.ISLAND_METHOD_ACTION then (s, [tcIsland])
  else if s.flag R.ARM_STATUS_GF then (s.setB R.ISLAND_STATUS_ISLANDED true, [])
  else if s.flag R.BOOT_PERMIT_GRID_FORM then
    ((s.setB R.ISLAND_STATUS_ISLANDED true).setArm (fun a => { a with orderGf := true }), [])
  else (s, [tcIsland])

/-- The indications' conditions and releases at a cycle (R292, R293). -/
def State.islandMeasure (s : State) : State :=
  let r := s.ride
  let blocked := s.flag R.ISLAND_STATUS_BLOCKED
  let win := s.get R.ISLAND_ROCOF_CFG_WIN_MS
  let old := s.isl.hist[win * 100 - 1]?
  let rocof : Rat := match old with
    | some f => (r.f - f) * 1000 / (win : Rat)
    | none => 0
  let err := quot ((s.eng 1).e * 36000) turn
  let nom := s.fNom 1
  let outV := !blocked && (decide (r.uPos < (s.get R.ISLAND_WIN_V_U_LO : Rat))
    || decide ((s.get R.ISLAND_WIN_V_U_HI : Rat) < r.uPos))
  let outF := decide (r.f < nom - (s.get R.ISLAND_WIN_F_F_LO_MHZ : Rat))
    || decide (nom + (s.get R.ISLAND_WIN_F_F_HI_MHZ : Rat) < r.f)
  let fRef := Config.lag1s s.isl.fRef r.f
  let sg : Rat := if s.epochNeg then -1 else 1
  let df := sg * (r.f - fRef)
  let lim : Rat := (s.get R.ISLAND_ACT_DET_ACT_DF : Rat)
  let act := s.windowOn && decide (s.get R.ISLAND_ACT_CFG_ON_MS ≠ 0) && !s.phiHeld && decide (lim ≤ df)
  let hit := old.isSome && decide ((s.get R.ISLAND_ROCOF_CFG_LIMIT : Rat) ≤ |rocof|) && !blocked
  let s := s.setIsl (fun d =>
    { d with hist := (r.f :: d.hist).take 25500, fRef := fRef,
             rocofSince := since hit d.rocofSince s.now,
             vsHit := !blocked && decide ((s.get R.ISLAND_VS_CFG_DEG : Rat) ≤ |err|),
             winOut := since (outV || outF) d.winOut s.now, winIn := since (!(outV || outF)) d.winIn s.now,
             actOn := since act d.actOn s.now, actOff := since (decide (df < lim / 2)) d.actOff s.now,
             syncSince := since s.syncLost d.syncSince s.now })
  let s := (s.show R.ISLAND_ROCOF_MHZ_S rocof).show R.ISLAND_VS_CDEG err
  let s := if hit then s else s.putMaskBit R.ISLAND_STATUS_IND 0 false
  let s := s.putMaskBit R.ISLAND_STATUS_IND 1 false
  let s := if heldFor s.isl.winIn (ms (s.get R.ISLAND_WIN_TIME_WIN_MS)) s.now then
    s.putMaskBit R.ISLAND_STATUS_IND 2 false else s
  let s := if heldFor s.isl.actOff (ms 10) s.now then s.putMaskBit R.ISLAND_STATUS_IND 3 false else s
  if s.flag R.ISLAND_STATUS_ACT_SUSP ∧ ¬ s.syncLost then
    (s.setB R.ISLAND_STATUS_ACT_SUSP false).irq pgIsland 4
  else s

/-- The indications and the decision of R297 at a cycle. Answers trip causes. -/
def State.islandCycle (s : State) : State × List Nat :=
  let s := (List.range 4).foldl State.indTry s.islandMeasure
  let alone := s.get R.ISLAND_METHOD_ALONE
  let vote := s.get R.ISLAND_METHOD_VOTE
  let n := s.get R.ISLAND_METHOD_VOTE_N
  let byAlone := (List.range 4).filter (fun i => alone.testBit i && s.indOn i)
  let byVote := (List.range 4).filter (fun i => vote.testBit i
    && (s.indOn i || (match s.isl.vote.getD i none with
      | some t => decide (s.now ≤ t)
      | none => false)))
  let won := decide (n ≠ 0) && decide (n ≤ byVote.length)
  let who := (byAlone ++ (if won then byVote else [])).foldl setBit 0
  if who ≠ 0 ∧ ¬ s.flag R.ISLAND_STATUS_DECIDED then s.islandDecide who else (s, [])

/-- GE1's evaluation of a cycle (R273). -/
def State.rideCycle (s : State) : State :=
  let s := s.rideMeasure.setRide (fun r => { r with excNew := false })
  let (s, trips) := (List.range 4).foldl
    (fun (t, l) c => let (t, m) := State.excCycle t c; (t, l ++ m)) ((s, []) : State × List Nat)
  let s := s.showExc
  let s := s.mcCycle
  let s := s.rtSync
  let (s, isl) := s.islandCycle
  let s := (s.trip (trips ++ isl)).tripRecord
  s.rtsCycle.setRide (fun r => { r with clearNow := false })

/-! ### Transfer trip (R296) -/

/-- A valid transfer trip payload (R296). -/
def ttValid (l : List Nat) : Bool :=
  decide (l.length = 12) && decide (leAt l 0 2 = 0x0B01)
    && (decide (l.getD 2 0 = 0) || decide (l.getD 2 0 = 0x5A))

/-- A valid transfer trip frame acts (R291, R296, R297). -/
def State.ttFrame (s : State) (l : List Nat) : State :=
  if s.flag R.ISLAND_METHOD_TT_EN then
    let s := (s.inc R.ISLAND_CNT_TT_FRAMES).setB R.ISLAND_STATUS_TT_OK true
    if l.getD 2 0 = 0x5A then
      let s := (s.irq pgIsland 2).setRide (fun r => { r with ttBlock := true, reason := l.getD 3 0 })
      let (s, c) := s.islandDecide 16
      s.trip c
    else s.setRide (fun r => { r with ttBlock := false })
  else s

/-- The transfer trip connection's watchdog has expired (R296). -/
def State.ttLost (s : State) : State :=
  if s.flag R.ISLAND_METHOD_TT_EN then
    let s := (s.setB R.ISLAND_STATUS_TT_OK false).irq pgIsland 3
    if s.flag R.ISLAND_METHOD_TT_LOSS_TRIP then s.trip [tcLink] else s
  else s

/-- The in-service output: ball and level (R290). None while the node does not own a ball. -/
def State.inService (s : State) : Option (Nat × Bool) :=
  if s.flag R.RIDE_RTS_CFG_OUT_EN ∧ s.locked then
    some (s.get R.RIDE_RTS_CFG_OUT_GPIO, !s.flag R.RIDE_STATUS_TRIPPED)
  else none

end Sys2Proof.Machine
end

