-- ==== Sys2Proof/Machine/ArmOps.lean ====
section
/-! DEFINITION. Arm roles, frames, reports, grants and weights (R247 to R257, R261, R262). -/

namespace Sys2Proof.Machine

/-! ### Roles (R247) -/

/-- A valid channel assignment names arm `a`. -/
def State.servesArm (s : State) (a : Nat) : Bool :=
  (List.range 8).any (fun x => s.flag (R.ARM_CH_ASSIGN_VALID x) && decide (s.get (R.ARM_CH_ASSIGN_ARM_ID x) = a))

/-- The channels of arm `a`. -/
def State.armChannels (s : State) (a : Nat) : List Nat :=
  (List.range 8).filter (fun x =>
    s.flag (R.ARM_CH_ASSIGN_VALID x) && decide (s.get (R.ARM_CH_ASSIGN_ARM_ID x) = a))

/-- The arms this node serves, each once. -/
def State.servedArms (s : State) : List Nat :=
  ((List.range 8).filterMap (fun x =>
    if s.flag (R.ARM_CH_ASSIGN_VALID x) then some (s.get (R.ARM_CH_ASSIGN_ARM_ID x)) else none)).eraseDups

/-- `ROLE_CFGi` is in use (R247). -/
def State.roleInUse (s : State) (i : Nat) : Bool :=
  (decide (s.get (R.ARM_ROLE_CFG_ROLE i) ≠ 0) || s.servesArm (s.get (R.ARM_ROLE_CFG_ARM_ID i)))
    && (decide (i = 0)
      || decide (s.get (R.ARM_ROLE_CFG_ARM_ID 1) ≠ s.get (R.ARM_ROLE_CFG_ARM_ID 0)))

/-- The roles in force after boot are the configured ones. -/
def State.roleInit (s : State) : State :=
  (List.range 2).foldl
    (fun t i => t.set (R.ARM_ROLE_STAT_ROLE i)
      (if t.roleInUse i then t.get (R.ARM_ROLE_CFG_ROLE i) else 0)) s

/-- The `ROLE_CFG` that names this node master or standby. -/
def State.ownIdx (s : State) : Option Nat :=
  (List.range 2).find? (fun i => s.roleInUse i && decide (s.get (R.ARM_ROLE_CFG_ROLE i) ≠ 0))

/-- The role in force for that arm: 1 master, 2 standby, 3 resigned, 0 none. -/
def State.role (s : State) : Nat :=
  match s.ownIdx with
  | some i => s.get (R.ARM_ROLE_STAT_ROLE i)
  | none => 0

/-- The arm of that role. -/
def State.ownArm (s : State) : Nat :=
  match s.ownIdx with
  | some i => s.get (R.ARM_ROLE_CFG_ARM_ID i)
  | none => 0

/-- The role in force written. -/
def State.setRole (s : State) (r : Nat) : State :=
  match s.ownIdx with
  | some i => s.set (R.ARM_ROLE_STAT_ROLE i) r
  | none => s

/-- The node resigns every master and standby role (R242, R262). -/
def State.resign (s : State) : State :=
  if s.role = 1 ∨ s.role = 2 then
    ((s.setRole 3).irq pgArm 1).setArm (fun a => { a with cleanSince := none, unsent := 0 })
  else s

/-- The arm of phase `p` of the inverter. -/
def State.invArm (s : State) (p : Nat) : Nat := bitsOf (s.get R.ARM_INV_CFG_ARMS) (8 * p) 8

/-- The phase of the node's own arm; an arm that `INV_CFG` does not name is taken as phase a. -/
def State.ownPhase (s : State) : Nat :=
  ((List.range 3).find? (fun p => decide (s.invArm p = s.ownArm))).getD 0

/-! ### Frames (R249, R261) -/

/-- A signed 32-bit field. -/
def s32 (l : List Nat) (o : Nat) : Int := sx 32 (leAt l o 4)

/-- The arm frame a payload spells; none for a payload of another length. -/
def parseArm (l : List Nat) (node : Nat) : Option ArmFrame :=
  let n := l.getD 6 0
  if l.length = 80 + 2 * n then
    some { arm := l.getD 2 0, flags := l.getD 3 0, term := leAt l 4 2, ncells := n, nrun := l.getD 7 0,
           epoch := leAt l 8 8, v1 := s32 l 16, v2 := s32 l 20, i1 := s32 l 24, i2 := s32 l 28,
           th1 := leAt l 32 4, th2 := leAt l 36 4, iArm := s32 l 40, vPos := leAt l 44 4,
           id := s32 l 48, iq := s32 l 52, eArm := leAt l 56 4, pFf := leAt l 60 4,
           limFrac := leAt l 64 2, gPos := l.getD 66 0, gKind := l.getD 67 0, pDisp := s32 l 68,
           gEpoch := leAt l 72 8, w := (List.range n).map (fun k => leAt l (80 + 2 * k) 2),
           node := node }
  else none

/-- The payload of an arm frame (R249). -/
def ArmFrame.payload (f : ArmFrame) : List Nat :=
  bytesLE 2 0x0A01 ++ [f.arm, f.flags] ++ bytesLE 2 f.term ++ [f.ncells, f.nrun] ++ bytesLE 8 f.epoch
    ++ bytesLE 4 (ux 32 f.v1) ++ bytesLE 4 (ux 32 f.v2) ++ bytesLE 4 (ux 32 f.i1)
    ++ bytesLE 4 (ux 32 f.i2) ++ bytesLE 4 f.th1 ++ bytesLE 4 f.th2 ++ bytesLE 4 (ux 32 f.iArm)
    ++ bytesLE 4 f.vPos ++ bytesLE 4 (ux 32 f.id) ++ bytesLE 4 (ux 32 f.iq) ++ bytesLE 4 f.eArm
    ++ bytesLE 4 f.pFf ++ bytesLE 2 f.limFrac ++ [f.gPos, f.gKind] ++ bytesLE 4 (ux 32 f.pDisp)
    ++ bytesLE 8 f.gEpoch ++ f.w.flatMap (bytesLE 2)

/-- Flag bit `b` of a frame. -/
def ArmFrame.flag (f : ArmFrame) (b : Nat) : Bool := f.flags.testBit b

/-- A term is later than another (R261). -/
def laterTerm (a b : Nat) : Bool :=
  let d := (a + 65536 - b % 65536) % 65536
  decide (1 ≤ d) && decide (d ≤ 32767)

/-- Of two frames for one arm and epoch, `f` is taken rather than `g` (R261). -/
def ArmFrame.beats (f g : ArmFrame) : Bool :=
  laterTerm f.term g.term || (decide (f.term = g.term) && decide (f.node < g.node))

/-- The newest accepted frame of an arm. -/
def State.lastFrame (s : State) (a : Nat) : Option ArmFrame :=
  (s.arm.frames.filter (fun f => decide (f.arm = a))).foldl
    (fun b f => match b with
      | none => some f
      | some g => if g.epoch < f.epoch then some f else b) none

/-- The accepted frame of an arm with the given epoch. -/
def State.frameAt (s : State) (a e : Nat) : Option ArmFrame :=
  s.arm.frames.find? (fun f => decide (f.arm = a) && decide (f.epoch = e))

/-- A GE1 check fails: its bit, the count, interrupt bit 4 (R270). -/
def State.xchk (s : State) (b : Nat) : State :=
  ((s.setMaskBit (R.GE_XCHK_STAT_FAIL 1) b).inc (R.GE_XCHK_COUNT_COUNT 1)).irq (pgGe 1) 4

/-- An accepted frame kept with the last ones of every arm; of one arm and epoch only one is kept. -/
def keepFrame (f : ArmFrame) (l : List ArmFrame) : List ArmFrame :=
  let same := l.filter (fun g => decide (g.arm = f.arm) && decide (g.epoch ≠ f.epoch))
  f :: same.take 7 ++ l.filter (fun g => decide (g.arm ≠ f.arm))

/-- Check 5 of R270 finds a received frame inconsistent. -/
def State.frameBad (s : State) (f : ArmFrame) : Bool :=
  decide (65536 < f.w.foldl (· + ·) 0) || decide (f.epoch % 10000 ≠ 0)
    || (List.range 2).any (fun i => s.roleInUse i && decide (s.get (R.ARM_ROLE_CFG_ARM_ID i) = f.arm)
      && decide (s.get (R.ARM_ROLE_CFG_NCELLS i) + 1 ≠ f.ncells))

/-- What a follower does with an accepted frame of an arm it serves (R251). -/
def State.followFrame (s : State) (f : ArmFrame) : State :=
  (s.armChannels f.arm).foldl
    (fun t x =>
      if ¬ t.cellRuns x then t
      else
        let lim := if f.limFrac = 0xFFFF then 0xFFFFFFFF
          else satN 32 (roundAs (R.CELL_P_LIM_ARM_W x).key
            ((f.limFrac : Rat) * (t.get (R.CELL_P_AVAIL_W x) : Rat) / 65536)).toNat
        let t := (t.set (R.CELL_P_LIM_ARM_W x) lim).setCell x (fun c => { c with pCmd := f.pDisp })
        let t := if f.flag 1 then t.cellRide x else t
        let t := if f.gKind ≠ 0 ∧ f.gPos = t.get (R.ARM_CH_ASSIGN_POS x)
          then t.cellGrant x f.gKind f.gEpoch else t
        if f.flag 2 then t.channelFault x else t) s

/-- A grant noted by a master or standby (R236, R257, R259). -/
def State.noteGrant (s : State) (g : Grant) : State :=
  if s.arm.grants.contains g then s else s.setArm (fun a => { a with grants := g :: a.grants })

/-- A frame counted missing, once per arm and epoch (R251). -/
def State.frameMissing (s : State) (a e : Nat) : State :=
  if s.arm.missed.contains (a, e) then s
  else
    ((s.inc R.ARM_CNT_B_MISSED_FRAMES).irq pgArm 9).setArm (fun d => { d with
      missed := ((a, e) :: d.missed).take 16 })

/-- An arm frame that has reached the grid engines (R251, R261, R270). -/
def State.takeFrame (s : State) (f : ArmFrame) : State :=
  let serves := s.servesArm f.arm
  let now := s.canopy
  if s.frameBad f then s.xchk 5
  else if f.epoch + 10000 ≤ now then
    if serves then s.frameMissing f.arm f.epoch else s
  else
    let old := s.frameAt f.arm f.epoch
    let wins : Bool := match old with
      | some g => f.beats g
      | none => true
    let isOwn := decide (s.role = 1) && decide (f.arm = s.ownArm)
    let foreign : Bool := match old with
      | some g => (decide (f.node ≠ s.addr) && decide (g.node = s.addr) && wins)
        || (decide (f.node = s.addr) && decide (g.node ≠ s.addr) && !wins)
      | none => false
    let s := if isOwn ∧ foreign ∧ ¬ s.arm.lost then
        (s.setArm (fun a => { a with lost := true })).irq pgArm 2
      else s
    if wins then
      let s := s.setArm (fun a => { a with frames := keepFrame f a.frames })
      let s := if f.arm = s.ownArm ∧ f.gKind ≠ 0 ∧ s.role ≠ 0 then
          s.noteGrant ⟨f.gKind, f.gPos, f.gEpoch⟩ else s
      if serves then
        let s := if f.epoch < now then (s.inc R.ARM_CNT_A_LATE_FRAMES).irq pgArm 8 else s
        s.followFrame f
      else s
    else s

/-! ### Cell reports (R248) -/

/-- Flags of a local cell's report entry. -/
def State.repFlags (s : State) (x : Nat) : Nat :=
  let st := s.cellState x
  let c := (s.ch x).cell
  let close := decide (st = csShell) && (c.window.bind (fun w => w.asked)).isSome
  let join := decide (st = csJoining) && decide (c.join = .epoch)
  let leave := decide (st = csLeaving) && !c.leaving && c.epoch.isNone
  (if st = csStuck then 1 else 0) + (if s.flag (R.CELL_STATUS_SHELL_REQ x) then 2 else 0)
    + (if close then 4 else 0) + (if join then 8 else 0) + (if leave then 16 else 0)
    + (if s.get (R.CELL_CFG_SOURCE x) ≠ srcPv then 32 else 0)
    + (if s.flag (R.CELL_STATUS_CURT x) then 64 else 0)

/-- A battery limit of the curve in 10 W (R228, R248). -/
def State.battery (s : State) (x j : Nat) : Nat :=
  if s.get (R.CELL_CFG_SOURCE x) = srcPv ∨ ¬ s.curveUsable x then 0
  else
    let v := s.geti (R.SENSE_PRI_VAL x (if s.get (R.CELL_CFG_SOURCE x) = srcPvStore then 0 else 1))
    satN 16 (roundAs (1024 + j) (powerW v (s.curveAt x j v) / 10)).toNat

/-- The report entry of a local cell (R248). -/
def State.repEntry (s : State) (x : Nat) : List Nat :=
  [s.get (R.ARM_CH_ASSIGN_POS x), s.cellState x] ++ bytesLE 2 (s.repFlags x)
    ++ bytesLE 4 (s.get (R.CELL_E_USABLE_MJ x)) ++ bytesLE 4 (s.get (R.CELL_P_AVAIL_W x))
    ++ bytesLE 2 (satN 16 (roundAs 1027 ((s.geti (R.SENSE_PRI_VAL x 0) : Rat) / 1000)).toNat)
    ++ bytesLE 2 (s.battery x 1) ++ bytesLE 2 (s.battery x 2) ++ bytesLE 2 0

/-- The cells' entries cross to the grid island at a cycle start; a lost one leaves the entry before it
(R18, R248). -/
def State.crossEntries (s : State) : State :=
  (List.range 8).foldl
    (fun t x =>
      if t.lostNext (16 + x) then t.takeLost (16 + x)
      else t.setArm (fun a => { a with entries := a.entries.set x (t.repEntry x) })) s

/-- The report of arm `a` at cycle start `t`. -/
def State.report (s : State) (a t : Nat) : List Nat :=
  let xs := s.armChannels a
  bytesLE 2 0x0A02 ++ [a, xs.length] ++ bytesLE 8 t
    ++ xs.flatMap (fun x => s.get (R.ARM_CH_ASSIGN_POS x) :: (s.arm.entries.getD x []).drop 1)

/-- Entry `i` of a received report. -/
def parseRep (l : List Nat) (i : Nat) : CellRep :=
  let o := 12 + 20 * i
  { arm := l.getD 2 0, pos := l.getD o 0, state := l.getD (o + 1) 0 % 8, flags := leAt l (o + 2) 2,
    energy := leAt l (o + 4) 4, avail := leAt l (o + 8) 4, vdc := leAt l (o + 12) 2,
    dis := leAt l (o + 14) 2, chg := leAt l (o + 16) 2, time := leAt l 4 8 }

/-- The newest report of every cell of the node's own arm is kept. -/
def State.takeReport (s : State) (l : List Nat) : State :=
  let n := l.getD 3 0
  if 1 ≤ n ∧ n ≤ 8 ∧ l.length = 12 + 20 * n ∧ s.ownIdx.isSome ∧ l.getD 2 0 = s.ownArm then
    (List.range n).foldl
      (fun t i =>
        let r := parseRep l i
        t.setArm (fun a => { a with
          reps := r :: a.reps.filter (fun q => !(decide (q.arm = r.arm) && decide (q.pos = r.pos))) })) s
  else s

/-- The reports of the node's own arm. -/
def State.armReps (s : State) : List CellRep :=
  s.arm.reps.filter (fun r => decide (r.arm = s.ownArm))

/-- The cell is in RUN. -/
def CellRep.run (r : CellRep) : Bool := decide (r.state = csRun)
/-- The cell is in RUN or SHELL. -/
def CellRep.live (r : CellRep) : Bool := decide (r.state = csRun) || decide (r.state = csShell)

/-- A sum over report entries. -/
def sumReps (l : List CellRep) (f : CellRep → Nat) : Nat := l.foldl (fun n r => n + f r) 0

/-! ### Shares and grants (R233, R256, R257) -/

/-- The report asks for a grant of the kind (R248). -/
def CellRep.asks (r : CellRep) (k : Nat) : Bool :=
  (decide (k = 1) && r.flags.testBit 3) || (decide (k = 2) && r.flags.testBit 4)
    || (decide (k = 3) && r.flags.testBit 1) || (decide (k = 4) && r.flags.testBit 2)

/-- The grant is still to be followed by the cell's report. A cell that still asks two cycles after the
epoch has not had the grant: its request is to be served again (R257). -/
def grantOpen (g : Grant) (r : CellRep) : Bool :=
  if r.state = csHusk ∨ r.state = csStuck ∨ r.state = csWaitDc then false
  else if r.time < g.epoch then true
  else if g.epoch + 20000 ≤ r.time ∧ r.asks g.kind then false
  else if g.kind = 1 ∨ g.kind = 4 then decide (r.state ≠ csRun)
  else if g.kind = 3 then decide (r.state ≠ csShell)
  else true

/-- Grants that the reports show as followed are forgotten. -/
def State.pruneGrants (s : State) : State :=
  let reps := s.armReps
  s.setArm (fun a => { a with
    grants := a.grants.filter (fun g =>
      match reps.find? (fun r => decide (r.pos = g.pos)) with
      | some r => grantOpen g r
      | none => true) })

/-- Position `r.pos` has a share of the arm voltage in the frame with epoch `e` (R233, R256). -/
def State.hasShare (s : State) (r : CellRep) (e : Nat) : Bool :=
  if r.state = csHusk ∨ r.state = csStuck ∨ r.state = csWaitDc then false
  else
    match s.arm.grants.find? (fun g => decide (g.pos = r.pos) && decide (g.epoch ≤ e)) with
    | some g => decide (g.kind = 1) || decide (g.kind = 4)
    | none =>
      if r.run then true else if r.state = csLeaving then s.arm.share.contains r.pos else false

/-- The shares of the frame with epoch `e`. -/
def State.shareCycle (s : State) (e : Nat) : State :=
  let s := s.pruneGrants
  let share := (s.armReps.filter (fun r => s.hasShare r e)).map (fun r => r.pos)
  s.setArm (fun a => { a with share := share })

/-- The energy factor g_k of a cell (R256). -/
def State.gFactor (s : State) (mean : Rat) (pos : Bool) (r : CellRep) : Rat :=
  let k : Rat := (s.get R.ARM_BAL_CFG_K_INTRA : Rat) / 16
  let gm : Rat := (s.get R.ARM_BAL_CFG_G_MAX : Rat) / 100
  let g := clampR (-gm) gm (quot (k * ((r.energy : Rat) - mean)) mean)
  if pos then g else -g

/-- The weights `W[0]`, … of the frame (R256). -/
def State.weights (s : State) (ncells : Nat) (pos : Bool) : List Nat :=
  let cells := s.armReps.filter (fun r => s.arm.share.contains r.pos)
  let mean := quot (sumReps cells (fun r => r.energy) : Nat) (cells.length : Nat)
  let raw (r : CellRep) : Rat := (r.vdc : Rat) * (1 + s.gFactor mean pos r)
  let total := cells.foldl (fun n r => n + raw r) 0
  (List.range ncells).map (fun k =>
    match cells.find? (fun r => decide (r.pos = k)) with
    | some r => min 65535 (quot (65536 * raw r) total).floor.toNat
    | none => 0)

/-- The voltage in mV that the cells of a list can give at the index limit (R256). -/
def State.reach (s : State) (l : List CellRep) : Rat :=
  (sumReps l (fun r => r.vdc) : Rat) * 1000 * (s.get R.ARM_M_LIM_INDEX : Rat) / 32768

/-- The requests that the reports carry, with their ages (R257). -/
def State.requestCycle (s : State) (t : Nat) : State :=
  let want (r : CellRep) : List Nat :=
    (if r.flags.testBit 2 then [4] else []) ++ (if r.flags.testBit 4 then [2] else [])
      ++ (if r.flags.testBit 3 then [1] else []) ++ (if r.flags.testBit 1 then [3] else [])
  let reqs := s.armReps.flatMap (fun r => (want r).map (fun k =>
    match s.arm.reqs.find? (fun q => decide (q.kind = k) && decide (q.pos = r.pos)) with
    | some q => q
    | none => ⟨k, r.pos, t⟩))
  s.setArm (fun a => { a with reqs := reqs })

/-- The arm token is out: a cell is in the window or a window's grant stands (R233). -/
def State.tokenOut (s : State) : Bool :=
  s.armReps.any (fun r => decide (r.state = csShell))
    || s.arm.grants.any (fun g => decide (g.kind = 3) || decide (g.kind = 4))

/-- The token's state followed; its return is the window's close. -/
def State.tokenCycle (s : State) : State :=
  let out := s.tokenOut
  s.setArm (fun a => { a with token := out, tokenAt := if a.token && !out then s.now else a.tokenAt })

/-- `V_PEAK` in mV (R256). -/
def State.vPeak (s : State) : Rat := s.arm.peaks.foldl max 0

/-- `SHELL_CFG.GAP_MS` that the master applies: the arm's lowest local channel's. -/
def State.armGap (s : State) : Nat :=
  ms (s.get (R.CELL_SHELL_CFG_GAP_MS ((s.armChannels s.ownArm).headD 0)))

/-- A Shell window may be granted to position `k` (R233). -/
def State.mayOpen (s : State) (k : Nat) (burst : Bool) : Bool :=
  let others := s.armReps.filter (fun r => decide (r.pos ≠ k))
  decide (s.vPeak ≤ s.reach (others.filter CellRep.run))
    && !s.flag R.RIDE_STATUS_RT && !burst
    && !others.any (fun r => decide (r.state = csJoining) || decide (r.state = csLeaving))
    && !s.tokenOut && (decide (s.arm.tokenAt = 0) || decide (s.arm.tokenAt + s.armGap ≤ s.now))
    && !s.syncLost

/-- Order of kinds: Shell close, planned leave, join, Shell open (R257). -/
def kindRank (k : Nat) : Nat := if k = 4 then 0 else if k = 2 then 1 else if k = 1 then 2 else 3

/-- The request to serve this cycle (R257). -/
def State.nextGrant (s : State) (burst : Bool) : Option Req :=
  let ready := s.arm.reqs.filter (fun q =>
    !s.arm.grants.any (fun g => decide (g.pos = q.pos) && decide (g.kind = q.kind))
      && (decide (q.kind ≠ 3) || s.mayOpen q.pos burst))
  ready.foldl
    (fun b q => match b with
      | none => some q
      | some p =>
        if kindRank q.kind < kindRank p.kind then some q
        else if kindRank q.kind = kindRank p.kind
            ∧ (q.since < p.since ∨ (q.since = p.since ∧ q.pos < p.pos)) then some q
        else b) none

end Sys2Proof.Machine
end

