-- ==== Sys2Proof/Machine/Ecdsa.lean ====
section
/-! DEFINITION. ECDSA on the curve P-256 (FIPS 186) as check 9 of R67 needs it: verification only. -/

namespace Sys2Proof.Machine

/-- The field prime. -/
def p256P : Nat := 0xffffffff00000001000000000000000000000000ffffffffffffffffffffffff
/-- The order of the base point. -/
def p256N : Nat := 0xffffffff00000000ffffffffffffffffbce6faada7179e84f3b9cac2fc632551
/-- The curve constant b; a is −3. -/
def p256B : Nat := 0x5ac635d8aa3a93e7b3ebbd55769886bc651d06b0cc53b0f63bce3c3e27d2604b
/-- The base point. -/
def p256G : Nat × Nat :=
  (0x6b17d1f2e12c4247f8bce6e563a440f277037d812deb33a0f4a13945d898c296,
   0x4fe342e2fe1a7f9b8ee7eb4a7c0f9e162bce33576b315ececbb6406837bf51f5)

/-- `b` to the power whose 256 bits `e` holds, modulo `m`: bits from 255 down. -/
def powMod (b e m : Nat) : Nat :=
  (List.range 256).foldl
    (fun r i => let r := r * r % m; if e.testBit (255 - i) then r * b % m else r) 1

/-- The inverse modulo a prime. -/
def invMod (a m : Nat) : Nat := powMod (a % m) (m - 2) m

/-- The point lies on the curve. -/
def onCurve (q : Nat × Nat) : Bool :=
  decide (q.1 < p256P) && decide (q.2 < p256P)
    && decide (q.2 * q.2 % p256P = (q.1 * q.1 * q.1 + (p256P - 3) * q.1 + p256B) % p256P)

/-- The sum of two points; none is the point at infinity. -/
def pointAdd : Option (Nat × Nat) → Option (Nat × Nat) → Option (Nat × Nat)
  | none, b => b
  | a, none => a
  | some a, some b =>
    if a.1 = b.1 ∧ (a.2 + b.2) % p256P = 0 then none
    else
      let k : Nat :=
        if a = b then (3 * a.1 * a.1 + (p256P - 3)) * invMod (2 * a.2) p256P % p256P
        else (b.2 + (p256P - a.2)) * invMod (b.1 + (p256P - a.1)) p256P % p256P
      let x := (k * k + (p256P - a.1) + (p256P - b.1)) % p256P
      some (x, (k * (a.1 + (p256P - x)) + (p256P - a.2)) % p256P)

/-- `k` times a point. -/
def pointMul (k : Nat) (q : Nat × Nat) : Option (Nat × Nat) :=
  (List.range 256).foldl
    (fun r i => let r := pointAdd r r; if k.testBit (255 - i) then pointAdd r (some q) else r) none

/-- The signature (r, s) of the digest `e` verifies under the key `q`. -/
def ecdsaVerify (q : Nat × Nat) (e r s : Nat) : Bool :=
  if 1 ≤ r ∧ r < p256N ∧ 1 ≤ s ∧ s < p256N then
    let w := invMod s p256N
    match pointAdd (pointMul (e * w % p256N) p256G) (pointMul (r * w % p256N) q) with
    | none => false
    | some x => decide (x.1 % p256N = r)
  else false

end Sys2Proof.Machine
end

