-- ==== Sys2Proof/Machine/MeterOps.lean ====
section
/-! DEFINITION. The energy meter's operations (R303 to R316, R325, R326): delivery of samples, the
formation of a cycle's quantities, accumulation, pulses and checks. Real quantities are exact
rationals (log entry 5). -/

namespace Sys2Proof.Machine

/-- The meter changed. -/
def State.modMeter (s : State) (f : MeterSt → MeterSt) : State := { s with meter := f s.meter }

/-! ### Samples -/

/-- Source `k` is used. -/
def State.srcOn (s : State) (k : Nat) : Bool := s.flag (R.METER_SRC_EN k)

/-- `SRC_ERR` (R304, R306): set, latched, recorded when it rises. -/
def State.srcErr (s : State) : State :=
  let rose := !s.flag R.METER_STATUS_SRC_ERR
  let s := s.setB R.METER_STATUS_SRC_ERR true
  if rose then s.irqLog pgMeter 9 1 else s.irq pgMeter 9

/-- A sample of source `k` joins its list. -/
def State.pushSmp (s : State) (k : Nat) (m : MeterSmp) : State :=
  s.modMeter (fun d => { d with smp := d.smp.modify k (fun l => m :: l) })

/-- Entry `i` of converter `n` delivers a result whose sampling ended at `t` (R303, R304). A result not
routed to the meter is none. -/
def State.meterResult (s : State) (n i t : Nat) : State :=
  if ¬ s.flag R.METER_STATUS_RUN ∨ ¬ s.gridRuns then s
  else
    (List.range 7).foldl
      (fun u k =>
        if u.srcOn k && decide (u.get (R.METER_SRC_SAR k) = n) && decide (u.get (R.METER_SRC_ENTRY k) = i) then
          let g : Rat := ((2 ^ u.get (R.SAR_RESULT_GAIN n i) : Nat) : Rat)
          let y := u.resultFraction n i / g * (u.get (R.METER_RATIO_PRI k) : Rat)
          let routed := (u.get (R.SAR_ENTRY_ROUTE n i)).testBit 1
          let same := decide (u.get (R.SAR_ENTRY_INPUT n i) = u.get (R.METER_SRC_INPUT k))
          let ok := routed && same && !u.flag (R.SAR_RESULT_STALE n i) && !u.flag (R.SAR_RESULT_LATE n i)
          let u := if routed && !same then u.srcErr else u
          let u := if routed && u.flag (R.SAR_RESULT_CLIP n i) then u.modMeter (fun d => { d with clip := true })
            else u
          u.pushSmp k ⟨t, y, ok⟩
        else u) s

/-- No result of converter `n` arrives for the entries that `p` names: an invalid sample each (R304). -/
def State.meterAbsent (s : State) (n : Nat) (p : Nat → Bool) : State :=
  if ¬ s.flag R.METER_STATUS_RUN ∨ ¬ s.gridRuns then s
  else
    (List.range 7).foldl
      (fun u k =>
        if u.srcOn k && decide (u.get (R.METER_SRC_SAR k) = n) && p (u.get (R.METER_SRC_ENTRY k)) then
          u.pushSmp k ⟨u.now, 0, false⟩
        else u) s

/-- A pass of converter `n` that ends without a result of the entries from `i` on: their samples are
invalid (R304). -/
def State.meterMissed (s : State) (n i : Nat) : State := s.meterAbsent n (fun e => decide (i ≤ e))

/-! ### The angle (R305) -/

/-- The nominal angular frequency of GE0. -/
def State.wNom (s : State) : Rat := turn * s.fNom 0 / 1000

/-- The latest cycle start not after `t`: time, angle, angular frequency. -/
def angleAt : List (Nat × Rat × Rat) → Nat → Option (Nat × Rat × Rat)
  | [], _ => none
  | a :: l, t => if a.1 ≤ t then some a else angleAt l t

/-- θ at the instant `t`, not reduced. -/
def State.thetaAt (s : State) (t : Nat) : Rat :=
  match angleAt s.meter.angs t with
  | some (t0, th, w) => th + w * ((t - t0 : Nat) : Rat) / 32000000000
  | none => s.wNom * (t : Rat) / 32000000000

/-- The angular frequency in force. -/
def State.wMeter (s : State) : Rat :=
  match s.meter.angs with
  | (_, _, w) :: _ => w
  | [] => s.wNom

/-- A point of the angle's course noted. The points of two cycles are kept, at most 8,192. -/
def State.noteAngle (s : State) (t : Nat) (th w : Rat) : State :=
  s.modMeter (fun d => { d with angs := ((t, modTurn th, w) :: d.angs).take 8192 })

/-- GE0's cycle start is noted for the meter while its loop is locked (R305). -/
def State.meterAngle (s : State) : State :=
  if s.flag (R.GE_PLL_STAT_LOCKED 0) then
    s.noteAngle (s.now - s.sinceNs s.cycleStart) (s.eng 0).theta0 (s.eng 0).w
  else s

/-- The last passage of θ through 0 in the course from the point `a` to the time `e`; `wrap` tells that the
next point's angle lies below the one of `a`. -/
def zeroIn (a : Nat × Rat × Rat) (e : Nat) (wrap : Bool) : Option Nat :=
  let k := (quot (a.2.1 + a.2.2 * ((e - a.1 : Nat) : Rat) / 32000000000) turn).floor
  if 1 ≤ k then some (min e (a.1 + (quot ((turn * (k : Rat) - a.2.1) * 32000000000) a.2.2).floor.toNat))
  else if wrap then some e
  else if a.2.1 = 0 then some a.1
  else none

/-- The last passage of θ through 0 up to the time `e`, of a course given newest first; `next` is the angle of
the point after it (R305). -/
def lastZero : List (Nat × Rat × Rat) → Option Rat → Nat → Option Nat
  | [], _, _ => none
  | a :: l, next, e =>
    if a.1 ≤ e then
      match zeroIn a e (match next with
        | some th => decide (th < a.2.1)
        | none => false) with
      | some z => some z
      | none => lastZero l (some a.2.1) a.1
    else lastZero l none e

/-- The instant at which θ last passed 0, to within 1 ns of now (R305). Before the first lock θ runs at f_nom from
the model's time 0. -/
def State.zeroPassed (s : State) : Option Nat :=
  (lastZero (s.meter.angs ++ [(0, 0, s.wNom)]) none (s.now + 32)).map (fun z => min z s.now)

/-- `PLL_FREE` follows the lock of GE0's loop while the meter runs (R305). -/
def State.pllFreeSync (s : State) : State :=
  let run := s.flag R.METER_STATUS_RUN && !s.flag (R.GE_PLL_STAT_LOCKED 0)
  let rose := run && !s.flag R.METER_STATUS_PLL_FREE
  let s := s.setB R.METER_STATUS_PLL_FREE run
  let s := if run then s.modMeter (fun d => { d with free := true }) else s
  if rose then s.irq pgMeter 12 else s

/-- GE0's loop lost its lock: θ goes on from its value at the nominal frequency (R305). -/
def State.meterUnlock (s : State) : State :=
  (s.noteAngle s.now (s.thetaAt s.now) s.wNom).pllFreeSync

/-! ### Correction (R308 to R310) -/

/-- First byte of the meter correction area. -/
def corrArea : Nat := 0x01170000

/-- Address of word `j` of segment `g` of channel `c`: 0 `I_UP`, 1 `GAIN`, 2 `PHASE`. -/
def corrAddr (c g j : Nat) : Nat := corrArea + 0x100 + 0x80 * c + 0x10 * g + 4 * j

/-- A word of the area read by the meter (R21). A word with a double-bit error puts Burl in its safe
state; its value is open. -/
def State.corrWord (s : State) (a : Nat) : Nat × State :=
  match s.readEcc pgMeter a with
  | (some v, s) => (v, s)
  | (none, s) => (s.burlSafe 5).fresh

/-- `GAIN` and `PHASE` of a segment are in range. -/
def State.segOk (s : State) (c g : Nat) : Bool :=
  let gain := s.mem.word (corrAddr c g 1)
  let ph := sx 32 (s.mem.word (corrAddr c g 2))
  decide (2 ^ 29 ≤ gain) && decide (gain ≤ 3 * 2 ^ 29) && decide (-100000 ≤ ph) && decide (ph ≤ 100000)

/-- The area is valid (R309). -/
def State.corrValid (s : State) : Bool :=
  let up (c g : Nat) : Nat := s.mem.word (corrAddr c g 0)
  let zero (b e : Nat) : Bool :=
    s.mem.all (fun c => !(decide (corrArea + b ≤ c.1) && decide (c.1 < corrArea + e)))
  let current (c : Nat) : Bool :=
    (List.range 8).all (s.segOk c) && (List.range 7).all (fun g => decide (up c g < up c (g + 1)))
      && decide (up c 7 = 0xFFFFFFFF)
  let h := s.mem.word corrArea
  decide (h % 65536 = 1) && decide (h / 65536 ≤ 6553) && zero 4 0x100 && zero 0x480 0x8000
    && (List.range 56).all (fun k => zero (0x10C + 0x10 * k) (0x110 + 0x10 * k))
    && (List.range 3).all (fun c => decide (up c 0 = 0xFFFFFFFF) && s.segOk c 0
        && zero (0x110 + 0x80 * c) (0x180 + 0x80 * c))
    && (List.range 3).all (fun k => current (3 + k))
    && (if s.srcOn 6 then current 6 else zero 0x400 0x480)

/-- The meter's conditions to run (R325), and what follows their change. -/
def State.meterSync (s : State) : State :=
  let run := s.locked && !s.quarantine && s.flag R.METER_CFG_EN
    && (List.range 6).all s.srcOn && s.flag R.MCORR_STATUS_CORR_OK && s.meter.ready
  let was := s.flag R.METER_STATUS_RUN
  let s := s.setB R.METER_STATUS_RUN run
  let s := if run && !was then s.modMeter (fun d => { d with
      start := none, formed := false, free := false, clip := false, smp := List.replicate 7 [],
      runAt := s.now, lastPair := [none, none, none],
      perAt := s.canopy, beatAt := s.canopy, castAt := s.canopy })
    else s
  s.pllFreeSync

/-- Boot checks the correction area after the lock (R309). A double-bit error there puts Burl in its safe state
(R21). -/
def State.meterAtLock (s : State) : State :=
  let (read, s) := s.engineRead pgMeter corrArea 0x8000
  let s := if read then s else s.burlSafe 5
  let ok := read && s.corrValid
  let s := s.setB R.MCORR_STATUS_CORR_OK ok
  let s := if ok then s else s.logIt pgMcorr 2 0x00FE (bytesLE 2 0x00C)
  s.meterSync

/-- The segment of current channel `c` in use. -/
def State.segOf (s : State) (c : Nat) : Nat := s.get (R.MCORR_SEG_SEG (c - 3))

/-- The lowest segment whose bound lies above `i` mA, no hysteresis (R310). -/
def State.segFirst (s : State) (c : Nat) (i : Rat) : Nat → Nat → Nat × State
  | 0, k => (k, s)
  | n + 1, k =>
    if 7 ≤ k then (7, s)
    else
      let (u, s) := s.corrWord (corrAddr c k 0)
      if i < (u : Rat) then (k, s) else s.segFirst c i n (k + 1)

/-- Steps up: while k < 7 and I ≥ I_UP[k] (R310). -/
def State.segUp (s : State) (c : Nat) (i : Rat) : Nat → Nat → Nat × State
  | 0, k => (k, s)
  | n + 1, k =>
    if 7 ≤ k then (k, s)
    else
      let (u, s) := s.corrWord (corrAddr c k 0)
      if (u : Rat) ≤ i then s.segUp c i n (k + 1) else (k, s)

/-- Steps down: while k > 0 and I < I_UP[k-1] (1 - HYST/65536) (R310). -/
def State.segDown (s : State) (c : Nat) (i h : Rat) : Nat → Nat → Nat × State
  | 0, k => (k, s)
  | n + 1, k =>
    if k = 0 then (k, s)
    else
      let (u, s) := s.corrWord (corrAddr c (k - 1) 0)
      if i < (u : Rat) * (1 - h / 65536) then s.segDown c i h n (k - 1) else (k, s)

/-- Steps up, then down (R310). -/
def State.segMove (s : State) (c : Nat) (i h : Rat) (old : Nat) : Nat × State :=
  (s.segUp c i 8 old).2.segDown c i h 8 (s.segUp c i 8 old).1

/-- The first segment that covers the current (R310). -/
def State.segStart (s : State) (c : Nat) (i : Rat) : Nat × State := s.segFirst c i 8 0

/-- Channel `c` takes its segment for the cycle that begins, from the last cycle's fundamental rms in
mA (R310). -/
def State.segTake (s : State) (c : Nat) (i : Rat) : State :=
  let old := s.segOf c
  if s.meter.formed then
    let (hw, s) := s.corrWord corrArea
    let (k, s) := s.segMove c i ((hw / 65536 : Nat) : Rat) old
    let s := s.set (R.MCORR_SEG_SEG (c - 3)) k
    if k = old then s else s.irq pgMcorr 0
  else
    let (k, s) := s.segStart c i
    s.set (R.MCORR_SEG_SEG (c - 3)) k

/-- Magnitude of a phasor. -/
def mag (z : Rat × Rat) : Rat := rsqrt (z.1 * z.1 + z.2 * z.2)

/-- Fundamental rms of a peak phasor. -/
def fundRms (z : Rat × Rat) : Rat := rsqrt ((z.1 * z.1 + z.2 * z.2) / 2)

/-- The current channels take their segments (R310). -/
def State.segsTake (s : State) (q : MeterQ) : State :=
  let s := (List.range 3).foldl (fun u p => u.segTake (3 + p) (fundRms (q.i1.getD p (0, 0)))) s
  if s.srcOn 6 then s.segTake 6 (fundRms q.n1) else s

/-! ### Aligned pairs (R306) -/

/-- A sample sequence, oldest first, at an instant: before its span; after its span, so that a sample may still
come; there but invalid; its linear interpolation. -/
inductive Interp where
  | before
  | after
  | invalid
  | value (v : Rat)
  deriving DecidableEq, Repr

/-- The sequence at the instant `t`. -/
def interp : List MeterSmp → Rat → Interp
  | [], _ => .after
  | a :: l, t =>
    if t < (a.t : Rat) then .before
    else
      match l with
      | [] => if (a.t : Rat) = t then (if a.ok then .value a.y else .invalid) else .after
      | b :: _ =>
        if t ≤ (b.t : Rat) then
          if a.ok ∧ b.ok then
            .value (if a.t = b.t then b.y
              else a.y + (b.y - a.y) * (t - (a.t : Rat)) / ((b.t : Rat) - (a.t : Rat)))
          else .invalid
        else interp l t

/-- One pair: its angle, its instant; voltage and current when it is valid; whether its current is still to come;
whether its instant lies outside the span of the current's samples. -/
structure MPair where
  th : Rat
  t : Nat
  vi : Option (Rat × Rat)
  waits : Bool
  out : Bool
  deriving DecidableEq, Repr

/-- The pairs of voltage source `kv` with current source `ki` for the voltage samples before `z`, oldest first
(R306). A voltage sample from `t` on, the start of the cycle that ends, may wait for its current; an earlier one
has waited in vain. -/
def State.pairs (s : State) (t z kv ki gv gi phv phi : Nat) : List MPair :=
  let vs := ((s.meter.smp.getD kv []).filter (fun m => decide (m.t < z))).reverse
  let cs := (s.meter.smp.getD ki []).reverse
  let lag : Rat := quot ((sx 32 phi - sx 32 phv : Int) : Rat) (s.wMeter * 1000000) * 32000000000
  let scale (g : Nat) : Rat := (g : Rat) / 1073741824
  vs.map (fun a =>
    let th := s.thetaAt a.t
    if a.ok then
      match interp cs ((a.t : Rat) - lag) with
      | .before => ⟨th, a.t, none, false, true⟩
      | .after => if t ≤ a.t then ⟨th, a.t, none, true, false⟩ else ⟨th, a.t, none, false, true⟩
      | .invalid => ⟨th, a.t, none, false, false⟩
      | .value i => ⟨th, a.t, some (a.y * scale gv, i * scale gi), false, false⟩
    else ⟨th, a.t, none, false, false⟩)

/-- The pairs of a cycle and those carried over: a pair that waits and the ones after it, and with `all` false
also invalid pairs of the cycle from `t` on after the last valid one, whose neighbour is still to come (R307). -/
def splitPairs (t : Nat) (all : Bool) (l : List MPair) : List MPair × List MPair :=
  let open_ (a : MPair) : Bool := decide (t ≤ a.t) && a.vi.isNone && (a.waits || !all)
  let tail := (l.reverse.takeWhile open_).length
  (l.take (l.length - tail), l.drop (l.length - tail))

/-- The invalid pairs of a list replaced by linear interpolation between the nearest valid pairs on
either side (R307). A pair with no valid pair on one side has an open value. -/
def State.repair (s : State) (before : Option (Nat × Rat × Rat)) : List MPair → List (Rat × Rat × Rat) × State
  | [] => ([], s)
  | a :: l =>
    match a.vi with
    | some (v, i) =>
      let (r, s) := s.repair (some (a.t, v, i)) l
      ((a.th, v, i) :: r, s)
    | none =>
      let next : Option (Nat × Rat × Rat) := l.findSome? (fun b => b.vi.map (fun (v, i) => (b.t, v, i)))
      match before, next with
      | some (t0, v0, i0), some (t1, v1, i1) =>
        let k : Rat := if t1 = t0 then 0 else ((a.t : Rat) - t0) / ((t1 : Rat) - t0)
        let (r, s) := s.repair before l
        ((a.th, v0 + (v1 - v0) * k, i0 + (i1 - i0) * k) :: r, s)
      | _, _ =>
        let (x, s) := s.fresh
        let (y, s) := s.fresh
        let (r, s) := s.repair before l
        ((a.th, (x : Rat), (y : Rat)) :: r, s)

/-- Sum of a list of numbers. -/
def sumR (l : List Rat) : Rat := l.foldl (fun a b => a + b) 0

/-- (2 / N) Σ x e^(-jθ) (R307). -/
def phasor (l : List (Rat × Rat)) : Rat × Rat :=
  let n : Rat := (l.length : Rat)
  (quot (2 * sumR (l.map (fun (th, x) => x * rcos th))) n,
    quot (-2 * sumR (l.map (fun (th, x) => x * rsin th))) n)

/-- The quantities of one phase added to a cycle's (R307). Powers: mV times mA is µW. -/
def MeterQ.add (q : MeterQ) (p : Nat) (l : List (Rat × Rat × Rat)) : MeterQ :=
  let n : Rat := (l.length : Rat)
  let v := rsqrt (quot (sumR (l.map (fun (_, v, _) => v * v))) n)
  let i := rsqrt (quot (sumR (l.map (fun (_, _, i) => i * i))) n)
  let v1 := phasor (l.map (fun (th, v, _) => (th, v)))
  let i1 := phasor (l.map (fun (th, _, i) => (th, i)))
  { q with
    v := q.v.set p v, i := q.i.set p i, v1 := q.v1.set p v1, i1 := q.i1.set p i1,
    p := q.p.set p (quot (sumR (l.map (fun (_, v, i) => v * i))) n / 1000000),
    p1 := q.p1.set p ((v1.1 * i1.1 + v1.2 * i1.2) / 2000000),
    q1 := q.q1.set p ((v1.2 * i1.1 - v1.1 * i1.2) / 2000000),
    s := q.s.set p (v * i / 1000000) }

/-! ### Energy (R311 to R315) -/

/-- One increment list of a group: 10 registers from P, P1, Q1, S (R311, R312). -/
def groupInc (p p1 q1 s : Rat) : List Rat :=
  let pos (x : Rat) : Rat := if 0 < x then x else 0
  let quad (imp exp : Bool) (x : Rat) : Rat :=
    if imp && decide (p1 ≤ 0) then x else if exp && decide (0 < p1) then x else 0
  [pos (-p), pos p, pos (-p1), pos p1,
    quad true false (pos (-q1)), quad false true (pos (-q1)), quad false true (pos q1), quad true false (pos q1),
    if p < 0 then s else 0, if p < 0 then 0 else s]

/-- The powers of a cycle sorted into the 40 registers (R311 to R313). -/
def MeterQ.sorted (q : MeterQ) (arithmetic : Bool) : List Rat :=
  let ph (l : List Rat) (p : Nat) : Rat := l.getD p 0
  let g (p : Nat) : List Rat := groupInc (ph q.p p) (ph q.p1 p) (ph q.q1 p) (ph q.s p)
  let tot : List Rat :=
    if arithmetic then (List.range 10).map (fun r => (g 0).getD r 0 + (g 1).getD r 0 + (g 2).getD r 0)
    else groupInc (sumR q.p) (sumR q.p1) (sumR q.q1) (sumR q.s)
  g 0 ++ g 1 ++ g 2 ++ tot

/-- A register's content with its fraction, in 2^-32 units. -/
def State.energyFine (s : State) (i : Nat) : Nat :=
  s.get (R.METER_E_VAL i) * 4294967296 + s.meter.frac.getD i 0

/-- An increment of `x` units in 2^-32 units; how it rounds is not stated (log entry 6). -/
def energyInc (i : Nat) (x : Rat) : Nat :=
  (roundAs (R.METER_E_VAL i).key (x * 4294967296)).toNat

/-- The owed pulses of output `n` after its register went from `a` to `b` (R314, R315). Every pulse owed beyond
255 sets the overflow bits; the record is written when the count goes beyond. -/
def State.owe (s : State) (n a b : Nat) : State :=
  let m := s.get (R.METER_PULSE_MWH_MWH n)
  let more := b / m - a / m
  let old := s.get (R.METER_OWED_OWED n)
  let s := s.setSat (R.METER_OWED_OWED n) (old + more)
  if 255 < old + more ∧ 0 < more then
    let s := (s.setB R.METER_STATUS_PULSE_OVF true).setB (R.METER_OWED_OVF n) true
    if old ≤ 255 then s.irqLog pgMeter 10 1 else s.irq pgMeter 10
  else s

/-- A cycle's increments accumulated, with the pulses they owe (R313, R314). -/
def State.accumulate (s : State) (inc : List Rat) : State :=
  let old := (List.range 40).map (fun i => s.get (R.METER_E_VAL i))
  let s := (List.range 40).foldl
    (fun u i =>
      let v := u.energyFine i + energyInc i (inc.getD i 0)
      let u := u.set (R.METER_E_VAL i) (v / 4294967296)
      u.modMeter (fun d => { d with frac := d.frac.set i (v % 4294967296) })) s
  (List.range 4).foldl
    (fun u n =>
      if u.flag (R.METER_PULSE_CFG_EN n) then
        let i := u.get (R.METER_PULSE_CFG_SEL n)
        let u := u.modMeter (fun d => { d with
          pulse := d.pulse.modify n (fun p => { p with dE := inc.getD i 0 }) })
        u.owe n (old.getD i 0) (u.get (R.METER_E_VAL i))
      else u) s

/-- The width of a pulse of output `n` (R314): rounded to 1 µs, a tie either way. -/
def State.pulseWidth (s : State) (n : Nat) : Nat × State :=
  let d := (s.meter.pulse.getD n {}).dE
  if d ≤ 0 then (ms 40, s)
  else
    let half : Rat := (s.get (R.METER_PULSE_MWH_MWH n) : Rat) * (s.meter.tc : Rat) / d / 2
    let w : Rat := (if half < 40000000 then half else 40000000) / 1000
    let f := w.floor
    let r : Rat := w - (f : Rat)
    let (up, s) : Bool × State :=
      if r = 1 / 2 then
        let (v, s) := s.fresh
        (decide (v % 2 = 1), s)
      else (decide (1 / 2 < r), s)
    (us (max 1000 (f.toNat + (if up then 1 else 0))), s)

/-! ### Connection checks (R316) -/

/-- Sum of phasors, each turned by a multiple of 2π/3. -/
def turned (l : List ((Rat × Rat) × Nat)) : Rat × Rat :=
  l.foldl (fun acc (z, k) =>
    let c : Rat := if k = 0 then 1 else -1 / 2
    let d : Rat := if k = 0 then 0 else if k = 1 then rsqrt 3 / 2 else -(rsqrt 3) / 2
    (acc.1 + (z.1 * c - z.2 * d), acc.2 + (z.1 * d + z.2 * c))) (0, 0)

/-- Magnitude of a symmetrical component: the turns of phases b and c. -/
def component (l : List (Rat × Rat)) (b c : Nat) : Rat :=
  mag (turned [(l.getD 0 (0, 0), 0), (l.getD 1 (0, 0), b), (l.getD 2 (0, 0), c)]) / 3

/-- The condition of check `c` for a cycle's quantities. -/
def State.chkHolds (s : State) (q : MeterQ) (c : Nat) : Bool :=
  let vb := s.vBase 0
  let im : Rat := (s.get R.ARM_I_MAX_MA : Rat)
  let seq (l : List (Rat × Rat)) (lim : Rat) : Bool :=
    let pos := component l 1 2
    let neg := component l 2 1
    decide (pos < neg) && decide (lim < pos + neg)
  if c = 0 then decide (vb ≠ 0) && seq q.v1 (vb / 5)
  else if c = 1 then decide (im ≠ 0) && seq q.i1 (im / 20)
  else if c = 2 then
    decide (vb ≠ 0) && decide ((s.get R.METER_CHK_CFG_NEU_PCT : Rat) / 100 * vb < component q.v1 0 0)
  else
    decide (im ≠ 0) && s.srcOn 6
      && decide ((s.get R.METER_CHK_CFG_SUM_PCT : Rat) / 100 * im
        < mag (turned [(q.i1.getD 0 (0, 0), 0), (q.i1.getD 1 (0, 0), 0), (q.i1.getD 2 (0, 0), 0),
            ((-q.n1.1, -q.n1.2), 0)]))

/-- The conditions of the checks after a cycle. -/
def State.checksTake (s : State) (q : MeterQ) : State :=
  let now := (List.range 4).map (s.chkHolds q)
  s.modMeter (fun d => { d with chk := (List.range 4).map (fun c =>
    let (b, t) := d.chk.getD c (false, 0)
    if now.getD c false = b then (b, t) else (now.getD c false, s.now)) })

/-- The flag of check `c`. -/
def chkFlag (c : Nat) : Reg :=
  if c = 0 then R.METER_STATUS_WRONG_SEQ_V else if c = 1 then R.METER_STATUS_WRONG_SEQ_I
  else if c = 2 then R.METER_STATUS_MISSING_N else R.METER_STATUS_SUM_ERR

/-- Some check is asserted. -/
def State.anyCheck (s : State) : Bool := (List.range 4).any (fun c => s.flag (chkFlag c))

/-! ### The cycle (R305 to R313) -/

/-- The readouts of a cycle (R325). -/
def State.showCycle (s : State) (q : MeterQ) : State :=
  let s := (List.range 3).foldl
    (fun u p =>
      let g (l : List Rat) : Rat := l.getD p 0
      let u := (u.showU (R.METER_VRMS_VAL p) (g q.v)).showU (R.METER_IRMS_VAL p) (g q.i)
      let u := (u.showU (R.METER_V1_VAL p) (fundRms (q.v1.getD p (0, 0)))).showU (R.METER_I1_VAL p)
        (fundRms (q.i1.getD p (0, 0)))
      let u := (u.show (R.METER_P_W p) (g q.p)).show (R.METER_P1_W p) (g q.p1)
      (u.show (R.METER_Q1_VAR p) (g q.q1)).showU (R.METER_S_VA p) (g q.s)) s
  let s := (s.show R.METER_P_TOT_W (sumR q.p)).show R.METER_P1_TOT_W (sumR q.p1)
  (s.show R.METER_Q1_TOT_VAR (sumR q.q1)).showU R.METER_S_TOT_VA (sumR q.s)

/-- Gain and phase of channel `c` in its segment. -/
def State.corrOf (s : State) (c : Nat) : Nat × Nat × State :=
  let g := if c < 3 then 0 else s.segOf c
  let (a, s) := s.corrWord (corrAddr c g 1)
  let (b, s) := s.corrWord (corrAddr c g 2)
  (a, b, s)

/-- The pairs up to `z` of the four current channels: phases a, b, c, and the neutral with phase a's voltage,
for the cycle that began at `t`. The correction words are read once. A pair of phase a waits with the neutral's. -/
def State.cyclePairs (s : State) (t z : Nat) : List (List MPair) × State :=
  let (g0, p0, s) := s.corrOf 0
  let (g1, p1, s) := s.corrOf 1
  let (g2, p2, s) := s.corrOf 2
  let (g3, p3, s) := s.corrOf 3
  let (g4, p4, s) := s.corrOf 4
  let (g5, p5, s) := s.corrOf 5
  let (g6, p6, s) := if s.srcOn 6 then s.corrOf 6 else (0, 0, s)
  let n := if s.srcOn 6 then s.pairs t z 0 6 g0 g6 p0 p6 else []
  let a := (s.pairs t z 0 3 g0 g3 p0 p3).map (fun m =>
    if n.any (fun k => decide (k.t = m.t) && k.waits) then { m with vi := none, waits := true } else m)
  ([a, s.pairs t z 1 4 g1 g4 p1 p4, s.pairs t z 2 5 g2 g5 p2 p5, n], s)

/-- The samples of the cycle that ended at `z` are dropped, but for the voltages of the pairs carried over;
currents are kept as far back as a phase correction of 0.2 rad can reach from the oldest of them. -/
def State.dropSamples (s : State) (z : Nat) (keep : List (List MPair)) : State :=
  s.modMeter (fun d => { d with
    clip := false, free := false,
    smp := (List.range 7).map (fun k =>
      let l := d.smp.getD k []
      if k < 3 then
        l.filter (fun m => decide (z ≤ m.t) || (keep.getD k []).any (fun a => decide (a.t = m.t)))
      else
        let first := keep.foldl (fun n l => l.foldl (fun n a => min n a.t) n) z
        l.filter (fun m => decide (first < m.t + ms 1))) })

/-- The last valid pair of a list, or the one before. -/
def lastValid (old : Option (Nat × Rat × Rat)) (l : List MPair) : Option (Nat × Rat × Rat) :=
  l.foldl (fun b a => match a.vi with
    | some (v, i) => some (a.t, v, i)
    | none => b) old

/-- The quantities of the cycle from `t` to `z`, with the marks `REPAIRED` and `ESTIMATED` (R307), and the samples
it leaves behind. -/
def State.formCycle (s : State) (t z count : Nat) : MeterQ × Bool × Bool × State :=
  let (ps, s) := s.cyclePairs t z
  let s := if ps.any (fun l => l.any (fun a => a.out)) then s.srcErr else s
  let bad (l : List MPair) : Nat := (l.filter (fun a => a.vi.isNone)).length
  let ph := ps.take 3
  let est := decide (count < 200) || ph.any (fun l =>
    let l := l.filter (fun a => !a.waits)
    decide (l.length < 100 * bad l))
  let parts := ph.map (splitPairs t est)
  let of (p : Nat) : List MPair := (parts.getD p ([], [])).1
  let last := s.meter.lastPair
  let s := s.modMeter (fun d => { d with
    lastPair := (List.range 3).map (fun p => lastValid (d.lastPair.getD p none) (of p)) })
  let s := s.dropSamples z (parts.map Prod.snd)
  if est then (s.meter.valid.getD {}, false, true, s)
  else
    let (a, s) := s.repair (last.getD 0 none) (of 0)
    let (b, s) := s.repair (last.getD 1 none) (of 1)
    let (c, s) := s.repair (last.getD 2 none) (of 2)
    let q : MeterQ := ((({} : MeterQ).add 0 a).add 1 b).add 2 c
    let used := (ps.getD 3 []).filter (fun m => (of 0).any (fun k => decide (k.t = m.t)))
    let n := used.filterMap (fun m => m.vi.map (fun (_, i) => (m.th, i)))
    let q := if n = [] then q else { q with n1 := phasor n }
    (q, (List.range 3).any (fun p => decide (0 < bad (of p))), false, s)

/-- Samples of a source in the cycle from `t` to `z`. -/
def State.samplesIn (s : State) (k t z : Nat) : Nat :=
  ((s.meter.smp.getD k []).filter (fun m => decide (t ≤ m.t) && decide (m.t < z))).length

/-- Canopy time in ns at the instant `t`. -/
def State.canopyAt (s : State) (t : Nat) : Int :=
  if s.canopyT.t0 ≤ t then (s.canopyT.at t).floor
  else (s.canopyT.base - ((s.canopyT.t0 - t : Nat) : Rat) / 32).floor

/-- The cycle that began at `t`, `c0` ns, ends at `z` (R305 to R316). -/
def State.endCycle (s : State) (t : Nat) (c0 : Int) (z : Nat) : State :=
  let tc := (s.canopyAt z - c0).toNat
  let counts := ((List.range 7).filter s.srcOn).map (fun k => s.samplesIn k t z)
  let count := counts.foldl min (s.samplesIn 0 t z)
  let clip := s.meter.clip
  let free := s.meter.free || s.flag R.METER_STATUS_PLL_FREE
  let (q, rep, est, s) := s.formCycle t z count
  let mark := (if rep then 1 else 0) + (if est then 2 else 0) + (if free then 4 else 0)
    + (if clip then 8 else 0)
  let s := if rep then s.inc R.METER_CNT_A_REPAIRED else s
  let s := if est then (s.inc R.METER_CNT_A_ESTIMATED).irq pgMeter 11 else s
  let s := s.modMeter (fun d => { d with
    tc := tc, last := some q, valid := if est then d.valid else some q,
    estimated := d.estimated || est, quality := d.quality || s.anyCheck,
    sPeak := max d.sPeak (sumR q.s), sBeat := max d.sBeat (sumR q.s),
    angs := d.angs.filter (fun a => decide (t ≤ a.1 + ms 1)) })
  let inc := (q.sorted (s.flag R.METER_CFG_TOT_MODE)).map (fun x => x * (tc : Rat) / 3600000000)
  let s := s.accumulate inc
  let s := (s.showCycle q).checksTake q
  let s := (s.set R.METER_CYC_N count).set R.METER_CYC_MARK mark
  let s := (s.showU R.METER_FREQ_MHZ (quot 1000000000000 (tc : Rat))).set R.METER_CYCLE_T_NS
    ((s.canopyAt ((PageIsland.grid).edge z)).toNat % 2 ^ 64)
  (s.segsTake q).irq pgMeter 0

/-- A cycle begins at `z`. Before the first one no fundamental is known: it counts as 0 (R310), and earlier
voltage samples belong to no cycle. -/
def State.beginCycle (s : State) (z : Nat) : State :=
  let s := s.modMeter (fun d => { d with start := some (z, s.canopyAt z) })
  let s := if s.meter.formed then s
    else ((s.segsTake {}).dropSamples z []).modMeter (fun d => { d with formed := true })
  s.pllFreeSync

end Sys2Proof.Machine
end

