-- ==== Sys2Proof/Machine/CanopyOps.lean ====
section
/-! DEFINITION. Canopy time's source and discipline (R31, R355 to R360, R465). -/

namespace Sys2Proof.Machine

/-- The node is a 1588 gateway (R464, R465). -/
def State.gateway (s : State) : Bool := s.flag R.ETH_CFG_EN && s.flag R.ETH_CFG_PTP_EN

/-- The node's source class (R356, R465). -/
def State.sourceClass (s : State) : Nat :=
  if s.gateway then (if s.flag R.ETH_STATUS_PTP_LOCKED then 0 else 1) else 2

/-- A source is better than another (R356): class, then priority, then address. -/
def betterSource (a b : Nat × Nat × Nat) : Bool :=
  decide (a.1 < b.1) || (decide (a.1 = b.1) && (decide (a.2.1 < b.2.1)
    || (decide (a.2.1 = b.2.1) && decide (a.2.2 < b.2.2))))

/-- The node itself as a source. -/
def State.selfSource (s : State) : Nat × Nat × Nat :=
  (s.sourceClass, s.get R.VODOR_RING_CFG_TIME_PRIO, s.addr)

/-- The selected source (R356, R369). -/
def State.selected (s : State) : Nat × Nat × Nat :=
  (s.get R.CANOPY_SRC_CLASS, s.get R.CANOPY_SRC_PRIO, s.get R.CANOPY_SRC_NODE)

/-- A source selected; a change of the source, not of its class or priority, latches bit 3 (R356). -/
def State.select (s : State) (c : Nat × Nat × Nat) : State :=
  let changed := decide (s.selected.2.2 ≠ c.2.2)
  let s := ((s.set R.CANOPY_SRC_CLASS c.1).set R.CANOPY_SRC_PRIO c.2.1).set R.CANOPY_SRC_NODE c.2.2
  if changed then s.irq pgCanopy 3 else s

/-- `SYNC_LOST` written, with its interrupt bits (R31, R369). -/
def State.setSyncLost (s : State) (b : Bool) : State :=
  if s.syncLost = b then s
  else (s.setB R.CANOPY_STATUS_SYNC_LOST b).irq pgCanopy (if b then 0 else 1)

/-- The frequency correction shown and stored (R358, R494). -/
def State.showCorr (s : State) : State :=
  let c := roundAs R.CANOPY_FREQ_CORR.key (s.canopyT.y * 1000 * 1024)
  { (s.setI R.CANOPY_FREQ_CORR c) with
    canopyT := { s.canopyT with storedCorr := c } }

/-- After a step back of Canopy time the timers fire again at the next firing time (R116). -/
def State.timersStep (s : State) : State :=
  { s with
    chan := s.chan.map (fun c => { c with sense := { c.sense with tmrAt := min c.sense.tmrAt s.canopy } })
    sar := s.sar.map (fun d => { d with tmrAt := min d.tmrAt s.canopy }) }

/-- The work in Canopy time goes on from the reference as it stands after a step by `-o` (R241, R305, R321). -/
def State.workStep (s : State) (o : Rat) : State :=
  let t := s.canopy
  let s := s.modCanopy (fun c => { c with openAt := t / 1000000 })
  let s : State := { s with arm := { s.arm with startAt := t, ran := [] } }
  let s := s.modEth (fun e => { e with pdOut := false })
  s.modMeter (fun m => { m with
    perAt := t, beatAt := t, castAt := t,
    start := m.start.map (fun (p : Nat × Int) => (p.1, ((p.2 : Rat) - o).floor)) })

/-- The reference moved by `-o` at once (R358, R359). -/
def State.stepBy (s : State) (o : Rat) : State :=
  let s := s.rebase
  let s := s.modCanopy (fun c => { c with base := c.base - o })
  let s := s.timersStep.workStep o
  (s.inc R.CANOPY_CNT_STEPS).irq pgCanopy 2

/-- The discipline of R358 for the offset `o` in ns. `accept` counts an accepted beacon. -/
def State.discipline (s : State) (o : Rat) (stepFlag : Bool) : State :=
  let kp : Rat := (s.get R.CANOPY_SERVO_KP : Rat) / 256
  let ki : Rat := (s.get R.CANOPY_SERVO_KI : Rat) / 256
  let stepNs : Rat := (s.get R.CANOPY_SERVO_STEP_NS : Rat)
  let jump := s.syncLost || stepFlag || decide (stepNs ≤ |o|)
  let s := s.setI R.CANOPY_OFFSET_PS (roundAs R.CANOPY_OFFSET_PS.key (o * 1000))
  let s := if jump then s.stepBy o else s.rebase
  let o' : Rat := if jump then 0 else o
  let run := if |o| ≤ 20 then s.canopyT.goodRun + 1 else 0
  let s := { s with
    canopyT := { s.canopyT with
      y := s.canopyT.y + ki * o', slew := -(kp * o'), openAt := s.canopy / 1000000, goodRun := run } }
  let s := s.showCorr
  let s := s.setSyncLost false
  let s := s.setB R.CANOPY_STATUS_HOLDOVER false
  let s := s.setB R.CANOPY_STATUS_EVER_LOCKED true
  let s :=
    match dlPair pgCanopy 0x060 with
    | some d => s.dlMeet d
    | none => s
  if s.flag R.CANOPY_STATUS_SETTLED then
    if 100 < |o| then s.setB R.CANOPY_STATUS_SETTLED false else s
  else if 16 ≤ s.canopyT.goodRun then (s.setB R.CANOPY_STATUS_SETTLED true).irq pgCanopy 4
  else s

/-- Entry into holdover (R31): the fifth miss in a row. -/
def State.enterHoldover (s : State) : State :=
  let s := (s.setB R.CANOPY_STATUS_HOLDOVER true).setSyncLost true
  s.inc R.CANOPY_CNT_REJ_HOLDOVERS

/-- The node stops being the source (R356). -/
def State.stopSource (s : State) : State :=
  (s.setB R.CANOPY_STATUS_SOURCE false).setB R.ETH_STATUS_SOURCE false

/-! ### Commands -/

/-- BECOME_SOURCE (R356): no beacon of a better source for 5 ms. -/
def execBecomeSource (dt : Nat) (s : State) : Host.Outcome State Fault Refusal :=
  let s := s.elapse dt
  let up : Bool := match s.ring.firstUp with
    | some t => decide (t + ms 5 ≤ s.now)
    | none => false
  if s.vodRuns ∧ s.ring.inserted ∧ up ∧ s.get R.VODOR_RING_CFG_TIME_PRIO < 15
      ∧ s.ring.betterAt + ms 5 ≤ s.now ∧ ¬ s.flag R.CANOPY_STATUS_SOURCE then
    let s := s.setB R.CANOPY_STATUS_SOURCE true
    let s := s.setB R.ETH_STATUS_SOURCE (decide (s.sourceClass < 2))
    .next ((s.select s.selfSource).irq pgCanopy 5)
  else .next s

/-- The beacon's payload (R353). -/
def State.beaconPayload (s : State) (origin : Nat) : List Nat :=
  bytesLE 2 0x0D01 ++ [s.sourceClass, s.get R.VODOR_RING_CFG_TIME_PRIO] ++ bytesLE 2 s.addr
    ++ bytesLE 2 0 ++ bytesLE 8 origin ++ bytesLE 8 0
    ++ bytesLE 2 ((if s.flag R.CANOPY_STATUS_HOLDOVER then 2 else 0)
        + (if s.ring.stepLeft ≠ 0 then 4 else 0))
    ++ bytesLE 2 s.ring.bseq ++ bytesLE 4 0

/-- BEACON_SEND (R356, R357): the source sends a beacon out of both ports. -/
def execBeaconSend (dt : Nat) (s : State) : Host.Outcome State Fault Refusal :=
  let s := s.elapse dt
  let origin := s.canopy / 1000000 * 1000000
  if s.vodRuns ∧ s.flag R.CANOPY_STATUS_SOURCE ∧ s.ring.beaconAt ≠ origin then
    let pl := s.beaconPayload origin
    let (n, s) := s.takeSeq 0
    let f : Frame := ⟨0, 0, false, false, 0, 0x3FFF, s.addr, 16383, n, pl, true, 32⟩
    let s := if s.portOpen 0 then s.enqueue 0 f else s
    let s := if s.portOpen 1 then s.enqueue 1 f else s
    let s := { s with ring := { s.ring with bseq := (s.ring.bseq + 1) % 65536, beaconAt := origin,
                                            stepLeft := s.ring.stepLeft - 1 } }
    let s := s.setSyncLost false
    let s := (s.setB R.CANOPY_STATUS_EVER_LOCKED true).setB R.CANOPY_STATUS_HOLDOVER false
    let s := { s with canopyT := { s.canopyT with openAt := s.canopy / 1000000 } }
    .next (match dlPair pgCanopy 0x060 with
      | some d => s.dlMeet d
      | none => s)
  else .next s

/-- BEACON_DECIDE (R355, R358): 500 µs after its first copy, the better copy of a beacon is accepted
or rejected. A gateway disciplined from 1588 is not disciplined from it (R465). -/
def execBeaconDecide (dt : Nat) (s : State) : Host.Outcome State Fault Refusal :=
  let s := s.elapse dt
  match s.ring.copies with
  | [] => .next s
  | c0 :: _ =>
    if s.vodRuns ∧ c0.at_ + us 500 ≤ s.now then
      let same (c : BeaconCopy) : Bool := decide (c.bseq = c0.bseq) && decide (c.node = c0.node)
      let mine := s.ring.copies.filter same
      let best := mine.foldl
        (fun b c => if c.dist < b.dist ∨ (c.dist = b.dist ∧ c.port = 0) then c else b) c0
      let s := s.modRing (fun r => { r with
        copies := r.copies.filter (fun c => !same c),
        decided := ((c0.node * 65536 + c0.bseq) :: r.decided).take 16 })
      let src := (best.cls, best.prio, best.node)
      let s : State :=
        if s.selected.2.2 = best.node ∨ betterSource src s.selected ∨ s.ring.selAt + ms 5 ≤ s.now then
          (if s.flag R.CANOPY_STATUS_SOURCE ∧ ¬ betterSource src s.selfSource then s
           else s.select src)
        else s
      let s := if s.selected = src then { s with ring := { s.ring with selAt := s.now } } else s
      let near := decide (|best.stamp - (best.origin : Rat)| ≤ 2000000)
      if s.selected = src ∧ best.flags % 2 = 0 ∧ best.dlyOk ∧ near then
        let o : Rat := best.stamp
          - ((best.origin : Rat) + (best.corr : Rat) / 65536 + (best.delay : Rat) / 1000)
        let s := s.stopSource
        let s := s.inc R.CANOPY_CNT_ACCEPTED
        let s := (s.set R.CANOPY_DIST_HOPS best.dist).set R.CANOPY_SRC_PORT best.port
        if s.gateway ∧ s.eth.live then
          .next (match dlPair pgCanopy 0x060 with
            | some d => { s with canopyT := { s.canopyT with openAt := s.canopy / 1000000 } }.dlMeet d
            | none => s)
        else .next (s.discipline o (best.flags.testBit 2))
      else .next (s.inc R.CANOPY_CNT_REJ_REJECTED)
    else .next s

/-- The time set of R359: on a class-2 source only. -/
def State.canopySet (s : State) : State :=
  if s.flag R.CANOPY_STATUS_SOURCE ∧ s.sourceClass = 2 then
    let t : Rat := (s.get R.CANOPY_SETT_LO_NS + s.get R.CANOPY_SETT_HI_NS * 2 ^ 32 : Nat)
    let s := s.stepBy (s.canopyT.at s.now - t)
    { s with ring := { s.ring with stepLeft := 16 } }
  else s.err pgCanopy

/-- AON_COARSE_LOAD (R494): the coarse count is loaded from the reference. -/
def execAonCoarseLoad (dt : Nat) (s : State) : Host.Outcome State Fault Refusal :=
  let s := s.elapse dt
  if s.gridRuns then
    .next { s with canopyT :=
      { s.canopyT with coarse := s.canopy * 32768 / 1000000000, coarseAt := s.now } }
  else .next s

end Sys2Proof.Machine
end

