-- ==== Sys2Proof/Machine/Pod.lean ====
section
/-! DEFINITION. The Pod queues (R370 to R386): space, packets, ports, parity, flushing, notices, and
the commands of the queue engine. -/

namespace Sys2Proof.Machine

/-- Queue `q`. -/
def State.queue (s : State) (q : Nat) : QueueSt := s.pod.q.getD q {}
/-- Queue `q` changed. -/
def State.setQueue (s : State) (q : Nat) (f : QueueSt → QueueSt) : State :=
  { s with pod := { s.pod with q := s.pod.q.modify q f } }

/-- Words of the queue's region (R370). -/
def State.queueWords (s : State) (q : Nat) : Nat := s.get (R.POD_QCFG_SIZE q) * 1024

/-- Free words of an enabled queue (R371). -/
def State.queueFree (s : State) (q : Nat) : Nat :=
  if s.flag (R.POD_QCFG_EN q) then
    let used := (s.queue q).pkts.foldl (fun n p => n + p.words) 0
    s.queueWords q - used - (match (s.queue q).part with | some p => p.words | none => 0)
  else 0

/-- Model address of word `i` of the queue's region, which is a ring (R371). -/
def State.queueAddr (s : State) (q i : Nat) : Nat :=
  queueBase + s.get (R.POD_QCFG_BASE q) * 4096 + i % (max 1 (s.queueWords q)) * 4

/-- A word stored in the queue's region. -/
def State.queuePut (s : State) (q i v : Nat) : State :=
  { s with mem := s.mem.putWord (s.queueAddr q i) v }
/-- A word of the queue's region. -/
def State.queueGet (s : State) (q i : Nat) : Nat := s.mem.word (s.queueAddr q i)

/-- Words stored from word `i` on. -/
def State.queuePutAll (s : State) (q : Nat) : Nat → List Nat → State
  | _, [] => s
  | i, w :: ws => State.queuePutAll (s.queuePut q i w) q (i + 1) ws

/-- The bytes as little-endian words, the last one padded with 0 (R372). -/
def wordsOf (l : List Nat) : List Nat :=
  (List.range (ceilDiv l.length 4)).map (fun i => leAt l (4 * i) 4)

/-- The queue named by `NEXT`: the receive queue of highest priority with a complete packet, the
lowest number among equals (R377). -/
def State.nextQueue (s : State) : Option Nat :=
  (List.range 32).foldl
    (fun best q =>
      if s.flag (R.POD_QCFG_EN q) ∧ ¬ s.flag (R.POD_QCFG_DIR q) ∧ (s.queue q).pkts ≠ [] then
        match best with
        | none => some q
        | some b => if s.get (R.POD_QCFG_PRIO b) < s.get (R.POD_QCFG_PRIO q) then some q else best
      else best) none

/-- The read-only fields of queue `q` and of the page brought up to date. -/
def State.podSync (s : State) (q : Nat) : State :=
  let d := s.queue q
  let s := s.set (R.POD_QSTAT_FREE q) (s.queueFree q)
  let s := s.set (R.POD_QCNT_PKTS q) d.pkts.length
  let s := s.setB (R.POD_QCNT_PARTIAL q) d.part.isSome
  let s := s.setB (R.POD_QCNT_READING q) (decide (d.readPos ≠ 0))
  let s := s.setB (R.POD_QCNT_FLUSHING q) d.flush
  let s := s.setB R.POD_STATUS_FLUSHING (decide (s.get R.POD_FLUSH_Q ≠ 0))
  match s.nextQueue with
  | some n => (s.set R.POD_NEXT_QUEUE n).setB R.POD_NEXT_NONE false
  | none => (s.set R.POD_NEXT_QUEUE 0).setB R.POD_NEXT_NONE true

/-- A packet event on queue `q` (R385). -/
def State.packetEvent (s : State) (q : Nat) : State :=
  if s.flag (R.POD_QCFG_NOTIFY q) then (s.setMaskBit R.POD_PKT_EVT_Q q).irq pgPod 0 else s

/-- The word that the next read of a receive queue returns (R376). -/
def State.headWord (s : State) (q : Nat) : Option Nat :=
  if s.flag (R.POD_QCFG_DIR q) then none
  else (s.queue q).pkts.head?.map (fun p => s.queueGet q (p.start + (s.queue q).readPos))

/-- The flush boundary (R382, R383). -/
def State.flushBoundary (s : State) (q : Nat) : State :=
  let closing := (s.queue q).closing
  let w := s.headWord q
  let s := s.setQueue q (fun d =>
    { d with pkts := [], readPos := 0, flush := false, closing := false, flushAt := some s.now, cut := w,
             orphan := d.orphan || decide (d.inFlight ≠ 0) || d.gone })
  let s := s.putMaskBit R.POD_FLUSH_Q q false
  let s := if closing then s.setB (R.POD_QCFG_EN q) false else s
  (s.irq pgPod 5).podSync q

/-- No packet of the queue is being written at a flush request: a header written in the request's own cycle
begins a packet after the boundary (R382, R384). -/
def State.betweenPackets (s : State) (q : Nat) : Bool :=
  let d := s.queue q
  d.part.isNone || (decide (d.partLen = 4) && decide (PageIsland.vodor.cycle d.partAt = PageIsland.vodor.cycle s.now))

/-- A flush requested (R382, R384). -/
def State.requestFlush (s : State) (q : Nat) : State :=
  let s := s.setMaskBit R.POD_FLUSH_Q q
  let waiting := (s.ring.ports.flatMap (fun p => p.waiting)).countP (fun f => f.queue = q)
  let s := s.modRing (fun r => { r with
    ports := r.ports.map (fun p => { p with waiting := p.waiting.filter (fun f => f.queue ≠ q) }) })
  let s := s.setQueue q (fun d => { d with flush := true, inFlight := d.inFlight - waiting })
  if s.betweenPackets q then s.flushBoundary q else s.podSync q

/-- The frame of the oldest packet of a transmit queue, without its SEQ (R378, R379). -/
def State.packetFrame (s : State) (q : Nat) (p : Packet) : Frame :=
  let h := s.queueGet q p.start
  let payload := ((List.range (p.words - 4)).flatMap
    (fun i => bytesLE 4 (s.queueGet q (p.start + 4 + i)))).take (bitsOf h 0 9)
  ⟨3, 0, h.testBit 30, false, 0, bitsOf h 16 14, s.addr, 16383, 0, payload, true, q⟩

/-- The egresses at which a frame of the node's own competes (R339, R340); 2 stands for none, where the tunnel
takes it or it has no way. -/
def State.egresses (s : State) (f : Frame) : List Nat :=
  let l : List Nat :=
    if f.grp then
      match s.groupIndex f.dst with
      | none => []
      | some n => [0, 1].filter (fun p => s.portOpen p
          && decide (s.get (if p = 0 then R.VODOR_GROUP_SPAN_E n else R.VODOR_GROUP_SPAN_W n) ≠ 0))
    else if s.tunnels f then []
    else
      let p := s.direction f.dst
      if s.portOpen p then [p] else if s.portOpen (1 - p) then [1 - p] else []
  if l.isEmpty then [2] else l

/-- A queue's place among the transmit queues (R379): the highest priority first, then the next in turn. -/
def State.txRank (s : State) (q : Nat) : Nat :=
  let prio := s.get (R.POD_QCFG_PRIO q)
  (7 - prio) * 32 + (q + 31 - s.pod.lastTx.getD prio 31) % 32

/-- The enabled transmit queue that egress `e` takes a packet of next, with its frame (R379). -/
def State.txQueue (s : State) (e : Nat) : Option (Nat × Frame) :=
  (List.range 32).foldl
    (fun best q =>
      match (s.queue q).pkts with
      | [] => best
      | p :: _ =>
        let f := s.packetFrame q p
        let ready := s.flag (R.POD_QCFG_EN q) && s.flag (R.POD_QCFG_DIR q) && !(s.queue q).flush && p.checked
          && decide ((s.queue q).inFlight = 0) && !(s.queue q).gone && (s.egresses f).contains e
        if ready then
          match best with
          | none => some (q, f)
          | some b => if s.txRank q < s.txRank b.1 then some (q, f) else best
        else best) none

/-- A packet complete in its queue: counted, and the boundary of a pending flush (R382). -/
def State.packetComplete (s : State) (q : Nat) (p : Packet) : State :=
  let s := s.setQueue q (fun d => { d with pkts := d.pkts ++ [p], part := none, partLen := 0 })
  let s := if s.flag (R.POD_QCFG_DIR q) then s else s.packetEvent q
  let s := if (s.queue q).flush then s.flushBoundary q else s
  s.podSync q

/-- Queue `q` was flushed in a later cycle than the one of `began` (R384). -/
def State.flushedSince (s : State) (q began : Nat) : Bool :=
  match (s.queue q).flushAt with
  | none => false
  | some t => decide (PageIsland.vodor.cycle began < PageIsland.vodor.cycle t)

/-- A received frame for queue `q` whose /S/ came at `began` (R371, R372, R375): stored as a complete packet,
or discarded for space. One that was being written at a flush goes with that flush (R382, R384). -/
def State.podReceive (s : State) (q src seq wraps began : Nat) (payload : List Nat) : State :=
  let words := 4 + ceilDiv payload.length 4
  if s.flushedSince q began then s
  else if s.queueFree q < words ∨ 1024 ≤ (s.queue q).pkts.length then
    (s.inc R.POD_CNT_DROP_FULL).irq pgPod 1
  else
    let start := (s.queue q).tail
    let w0 := payload.length + (if wraps = 1 then 2 ^ 14 else 0) + src % 2 ^ 14 * 2 ^ 16
    let w1 := leAt payload 0 2 + seq % 65536 * 65536
    let t := s.stamp pgPod
    let s := s.queuePutAll q start ([w0, w1, t % 2 ^ 32, t / 2 ^ 32] ++ wordsOf payload)
    let s := s.setQueue q (fun d => { d with tail := start + words })
    s.packetComplete q { start := start, words := words }

/-- A TC3 DATA frame delivered to this node, whose /S/ came at `began` (R374). -/
def State.podDeliver (s : State) (d : Delivery) (began : Nat) : State :=
  let ty := d.ptype
  let target : Option Nat :=
    if 0x0E00 ≤ ty ∧ ty ≤ 0x0E3F then some (ty % 32)
    else if ty = 0x0C01 ∧ s.flag R.POD_ROUTE_ENERGY_EN then some (s.get R.POD_ROUTE_ENERGY_Q)
    else none
  let drop : State := (s.inc R.POD_CNT_DROP_NO_QUEUE).irq pgPod 2
  match target with
  | none => drop
  | some q =>
    if s.flag (R.POD_QCFG_EN q) ∧ ¬ s.flag (R.POD_QCFG_DIR q) then
      s.podReceive q d.src d.seq d.wraps began d.payload
    else if s.flushedSince q began then s else drop

/-- The packet of queue `q` as frame `f`, whose SEQ is given, on its way (R379). Its own group's copy reaches
the node without the ring (R340). -/
def State.sendPacket (s : State) (q : Nat) (f : Frame) : State :=
  let (s, n) := s.sendFrame f
  let s := s.setQueue q (fun d => { d with inFlight := n, gone := decide (n = 0) })
  let s := { s with pod := { s.pod with lastTx := s.pod.lastTx.set (s.get (R.POD_QCFG_PRIO q)) q } }
  if f.grp ∧ (s.groupIndex f.dst).isSome then
    s.podDeliver ⟨f.kind, f.src, f.seq, 0, 2, f.payload, s.now⟩ s.now
  else s

/-- A packet that waits at an egress and has not started gives way, with its SEQ, to one of a higher priority;
its queue is next in turn (R379). -/
def State.packetYields (s : State) (e : Nat) (old : Frame) (q : Nat) (f : Frame) : State :=
  let q0 := old.queue
  let s := s.setPort e (fun p => { p with waiting := dropFrame old p.waiting })
  let s := s.setQueue q0 (fun d => { d with inFlight := 0 })
  let s := { s with pod := { s.pod with lastTx := s.pod.lastTx.set (s.get (R.POD_QCFG_PRIO q0)) ((q0 + 31) % 32) } }
  s.sendPacket q { f with seq := old.seq }

/-- Egress `e` has the transmit packet that is next to start from it (R379). -/
def State.podFeedAt (s : State) (e : Nat) : State :=
  match s.txQueue e with
  | none => s
  | some (q, f) =>
    match (s.port e).waiting.find? (fun g => g.queue < 32) with
    | none =>
      let (n, s) := s.takeSeq 3
      s.sendPacket q { f with seq := n }
    | some g =>
      if ¬ g.grp ∧ ¬ f.grp ∧ s.get (R.POD_QCFG_PRIO g.queue) < s.get (R.POD_QCFG_PRIO q) then s.packetYields e g q f
      else s

/-- The transmit packets that are next at the egresses (R379). -/
def State.podFeed (s : State) : State := ((s.podFeedAt 0).podFeedAt 1).podFeedAt 2

/-- The head packet's space released (R371, R376, R379). -/
def State.releaseHead (s : State) (q : Nat) : State :=
  (s.setQueue q (fun d => { d with pkts := d.pkts.tail, readPos := 0 })).podSync q

/-- The parity check of the head packet ends (R380). A failing packet is marked in its header, or discarded from
a transmit queue. -/
def State.parityEnd (s : State) (q : Nat) (bad : Bool) : State :=
  match (s.queue q).pkts with
  | [] => s
  | p :: rest =>
    if p.checked then s
    else if bad then
      let s := ((s.inc R.POD_CNT_POISON_PARITY).err pgPod).setB R.POD_STATUS_PARITY_SEEN true
      let s := s.irqLog pgPod 3 1
      if s.flag (R.POD_QCFG_DIR q) then
        ((s.setQueue q (fun d => { d with pkts := rest })).podSync q).podFeed
      else
        let s := s.queuePut q p.start (setBit (s.queueGet q p.start) 13)
        s.setQueue q (fun d => { d with pkts := { p with checked := true, poison := true } :: rest })
    else
      (s.setQueue q (fun d => { d with pkts := { p with checked := true } :: rest })).podFeed

/-- A read that arrives before the head's parity check has ended is held until it ends (R380). What the check
finds then is a free value. -/
def State.parityHold (s : State) (q : Nat) : State :=
  match (s.queue q).pkts with
  | [] => s
  | p :: _ =>
    if p.checked then s
    else
      let (v, s) := s.fresh
      s.parityEnd q (v.testBit 0)

/-- The word of a packet that was discarded in this cycle (R384). -/
def State.cutWord (s : State) (q : Nat) : Option Nat :=
  match (s.queue q).flushAt with
  | some t => if PageIsland.vodor.cycle t = PageIsland.vodor.cycle s.now then (s.queue q).cut else none
  | none => none

/-- The next word of the oldest complete packet (R376, R380, R384). -/
def State.qdataRead (s : State) (q : Nat) : Nat × State :=
  match s.cutWord q with
  | some w => (w, s.setQueue q (fun d => { d with cut := none }))
  | none =>
    if s.flag (R.POD_QCFG_EN q) ∧ ¬ s.flag (R.POD_QCFG_DIR q) then
      let s := s.parityHold q
      match (s.queue q).pkts with
      | [] => (0, s.err pgPod)
      | p :: _ =>
        let pos := (s.queue q).readPos
        let w := s.queueGet q (p.start + pos)
        if pos + 1 < p.words then
          (w, (s.setQueue q (fun d => { d with readPos := pos + 1 })).podSync q)
        else (w, s.releaseHead q)
    else (0, s.err pgPod)

/-- The header word of a transmit packet is acceptable (R378). -/
def State.txHeaderOk (s : State) (q v : Nat) : Bool :=
  let len := bitsOf v 0 9
  let dst := bitsOf v 16 14
  let grp := v.testBit 30
  decide (2 ≤ len) && decide (len ≤ 256) && decide (bitsOf v 9 7 = 0) && !v.testBit 31
    && (if grp then decide (0x3000 ≤ dst) && decide (dst ≤ 0x3FFE)
        else decide (1 ≤ dst) && decide (dst ≤ 0x2710))
    && decide (4 + ceilDiv len 4 ≤ s.queueFree q)
    && decide ((s.queue q).pkts.length < 1024)

/-- A word written to a transmit queue's port (R378, R383). -/
def State.qdataWrite (s : State) (q v : Nat) : State :=
  if s.flag (R.POD_QCFG_EN q) ∧ s.flag (R.POD_QCFG_DIR q) then
    match (s.queue q).part with
    | none =>
      if s.txHeaderOk q v then
        let start := (s.queue q).tail
        let words := 4 + ceilDiv (bitsOf v 0 9) 4
        let s := s.queuePut q start v
        (s.setQueue q (fun d =>
          { d with part := some { start := start, words := words }, partLen := 4,
                   partAt := s.now })).podSync q
      else s.err pgPod
    | some p =>
      let n := (s.queue q).partLen
      let s := s.queuePut q (p.start + n) v
      if n + 1 < p.words then
        s.setQueue q (fun d => { d with partLen := n + 1, partAt := s.now })
      else
        let ty := (s.queueGet q (p.start + 4)) % 65536
        if 0x0E00 ≤ ty ∧ ty ≤ 0x0E1F then
          let t := s.stamp pgPod
          let s := s.queuePutAll q (p.start + 1) [ty, t % 2 ^ 32, t / 2 ^ 32]
          let s := s.setQueue q (fun d => { d with tail := p.start + p.words })
          s.packetComplete q p
        else
          let s := (s.err pgPod).irq pgPod 6
          let s := s.setQueue q (fun d => { d with part := none, partLen := 0 })
          let s := if (s.queue q).flush then s.flushBoundary q else s
          s.podSync q
  else s.err pgPod

/-- A notice's payload (R386). -/
def State.noticePayload (s : State) (page merged first : Nat) : List Nat :=
  bytesLE 2 (0x0E20 + s.get R.POD_NOTICE_CFG_QUEUE) ++ [page % 256, min merged 255]
    ++ bytesLE 4 (s.get (H.IRQ_RAW page) &&& s.get (H.IRQ_EN page)) ++ bytesLE 8 first

/-- The frame is a notice of `page` that has not left yet. -/
def Frame.noticeOf (f : Frame) (page : Nat) : Bool := f.queue = 33 && f.payload.getD 2 256 = page

/-- The notice of `page` held waiting for a busy egress (R386). -/
def State.heldNotice (s : State) (page : Nat) : Option Frame :=
  (s.ring.ports.flatMap (fun p => p.waiting)).find? (fun f => f.noticeOf page)

/-- A notice for `page` sent as an own TC3 frame (R386). -/
def State.sendNotice (s : State) (page merged first : Nat) : State :=
  let (s, _) := s.sendOwn 3 0 false false (s.get R.POD_NOTICE_CFG_DEST)
    (s.noticePayload page merged first) 33
  s.inc R.POD_CNT_NOTICE_SENT

/-- The held notice `f` of `page` updated by a newer rise, which it merges (R386). -/
def State.updateNotice (s : State) (page : Nat) (f : Frame) : State :=
  let pl := s.noticePayload page (f.payload.getD 3 0 + 1) (leAt f.payload 8 8)
  let s := s.modRing (fun r => { r with
    ports := r.ports.map (fun p => { p with
      waiting := p.waiting.map (fun g => if g.noticeOf page then { g with payload := pl } else g) }) })
  s.inc R.POD_CNT_NOTICE_MERGED

/-! ### The queue engine's commands -/

/-- POD_PACKET_SENT (R379): the packet's last byte has left; its space is released. -/
def execPodPacketSent (dt : Nat) (q : Fin 32) (s : State) : Host.Outcome State Fault Refusal :=
  let s := s.elapse dt
  if s.vodRuns ∧ (s.queue q).gone then
    let orphan := (s.queue q).orphan
    let s := s.setQueue q (fun d => { d with gone := false, inFlight := 0, orphan := false })
    let s := s.packetEvent q
    .next (if orphan then s.podFeed else (s.releaseHead q).podFeed)
  else .next s

/-- PARITY_CHECK_DONE (R380): the check of the head packet ends. -/
def execParityCheckDone (dt : Nat) (q : Fin 32) (bad : Bool) (s : State) :
    Host.Outcome State Fault Refusal :=
  let s := s.elapse dt
  .next (if s.vodRuns then s.parityEnd q bad else s)

/-- PACKET_TIMEOUT (R381): no word for `PKT_US`, so the packet is poisoned and discarded, once the cycle in which a
word would still win has passed (R384). -/
def execPacketTimeout (dt : Nat) (q : Fin 32) (s : State) : Host.Outcome State Fault Refusal :=
  let s := s.elapse dt
  if s.vodRuns ∧ (s.queue q).part.isSome
      ∧ PageIsland.vodor.cycle ((s.queue q).partAt + us (s.get R.POD_TIMEOUT_PKT_US)) < PageIsland.vodor.cycle s.now then
    let s := s.setQueue q (fun d => { d with part := none, partLen := 0 })
    let s := (s.inc R.POD_CNT_POISON_TIMEOUT).irqLog pgPod 4 1
    let s := if (s.queue q).flush then s.flushBoundary q else s
    .next (s.podSync q)
  else .next s

/-- NOTICE_SEND (R386): a page's interrupt has become pending. Within the hold time of an earlier
notice of the page the rise is merged. -/
def execNoticeSend (dt : Nat) (page : Fin 256) (s : State) : Host.Outcome State Fault Refusal :=
  let s := s.elapse dt
  match s.pod.rises.find? (fun r => decide (r.1 = page.val) && s.vodRuns) with
  | none => .next s
  | some r =>
    let s := { s with pod := { s.pod with rises := s.pod.rises.erase r } }
    if s.flag R.POD_NOTICE_CFG_EN then
      match s.heldNotice page with
      | some f => .next (s.updateNotice page f)
      | none =>
      match s.pod.holds.find? (fun h => h.page = page.val) with
      | some h =>
        let h' := { h with merged := h.merged + 1, first := if h.merged = 0 then r.2 else h.first }
        .next ({ s with pod := { s.pod with holds := h' :: s.pod.holds.erase h } }.inc
          R.POD_CNT_NOTICE_MERGED)
      | none =>
        let s := s.sendNotice page 0 r.2
        .next { s with pod := { s.pod with holds :=
          { page := page.val, holdEnd := s.now + ms (s.get R.POD_NOTICE_CFG_HOLD_MS),
            merged := 0, first := 0 } :: s.pod.holds } }
    else .next s

/-- The hold `h` is over. -/
def State.dropHold (s : State) (h : NoticeSt) : State :=
  { s with pod := { s.pod with holds := s.pod.holds.erase h } }

/-- NOTICE_HOLD_EXPIRY (R386): the hold time ends; a merged notice is sent if the page is still
pending. -/
def execNoticeHoldExpiry (dt : Nat) (page : Fin 256) (s : State) :
    Host.Outcome State Fault Refusal :=
  let s := s.elapse dt
  match s.pod.holds.find? (fun h => h.page = page.val && decide (h.holdEnd ≤ s.now) && s.vodRuns) with
  | none => .next s
  | some h =>
    let s := s.dropHold h
    if h.merged ≠ 0 ∧ s.pagePending page ∧ s.flag R.POD_NOTICE_CFG_EN then
      let s := s.sendNotice page h.merged h.first
      .next { s with pod := { s.pod with holds :=
        { page := page.val, holdEnd := s.now + ms (s.get R.POD_NOTICE_CFG_HOLD_MS),
          merged := 0, first := 0 } :: s.pod.holds } }
    else .next s

end Sys2Proof.Machine
end

