-- ==== Sys2Proof/Machine/RingOps.lean ====
section
/-! DEFINITION. Receiving on the ring (R329 to R352): port states, wraps, hellos, link delays, and the
way of a received frame. -/

namespace Sys2Proof.Machine

/-! ### Ports -/

/-- A port's state written. -/
def State.setPortState (s : State) (p v : Nat) : State := s.set (R.VPORT_STATUS_STATE p) v

/-- `RING_OK`: both ports UP and neither wrapped (R367). -/
def State.ringSync (s : State) : State :=
  s.setB R.VODOR_STATUS_RING_OK
    (s.portUp 0 && s.portUp 1 && !s.isWrapped 0 && !s.isWrapped 1)

/-- The wrap of a port begun or ended. -/
def State.setWrap (s : State) (p : Nat) (b : Bool) : State :=
  (if p = 0 then s.setB R.VODOR_STATUS_WRAP_E b else s.setB R.VODOR_STATUS_WRAP_W b).ringSync

/-- The node becomes a repeater (R333): cause 1 no address, 2 no common version. -/
def State.becomeRepeater (s : State) (cause : Nat) : State :=
  if s.flag R.VODOR_STATUS_REPEATER then s
  else
    let s := (s.setB R.VODOR_STATUS_REPEATER true).set R.VODOR_STATUS_REP_CAUSE cause
    let s := [0, 1].foldl
      (fun u p =>
        let u := (u.setPortState p psRepeat).set (R.VPORT_STATUS_VER p) 0
        let u := (u.setB (R.VPORT_STATUS_DLY_VALID p) false).setB (R.VPORT_LINK_DLY_VALID p) false
        (u.setWrap p false).setPort p (fun q => { q with
          sending := none, suspended := [], left := [], waiting := [], meas := [] })) s
    (s.stopSource).irq pgVodor 2

/-- The Vodor island starts (R44, R350): its receivers listen across the closed bypass. -/
def State.ringStart (s : State) : State :=
  let s := s.modRing (fun r => { r with started := true, startedAt := s.now, betterAt := s.now, selAt := s.now })
  if s.addr = 0 then s.becomeRepeater 1 else s

/-- The link delay measurement restarts (R351, R352). -/
def State.delayRestart (s : State) (p : Nat) : State :=
  let s := s.setPort p (fun q => { q with meas := [], gap := none, reqOut := false, reqDue := s.now })
  (s.setB (R.VPORT_STATUS_DLY_VALID p) false).setB (R.VPORT_LINK_DLY_VALID p) false

/-- The mean of the measurements held. -/
def meanOf (l : List Rat) : Rat := l.foldl (fun a b => a + b) 0 / (l.length : Rat)

/-- A delay measurement of `d` ps (R352): one far from the mean of 8 is discarded; 3 make the delay
valid. -/
def State.addMeas (s : State) (p : Nat) (d : Rat) : State :=
  let l := (s.port p).meas
  if l.length = 8 ∧ 1000 < |d - meanOf l| then s
  else
    let l := (d :: l).take 8
    let s := s.setPort p (fun q => { q with meas := l })
    let ok := decide (3 ≤ l.length)
    let s := (s.setB (R.VPORT_STATUS_DLY_VALID p) ok).setB (R.VPORT_LINK_DLY_VALID p) ok
    s.setSat (R.VPORT_LINK_DLY_PS p) (roundAs (R.VPORT_LINK_DLY_PS p).key (meanOf l)).toNat

/-- A copy of a queue's packet will not, or no longer, be on an egress (R379). -/
def State.copyGone (s : State) (f : Frame) : State :=
  if f.queue < 32 then
    s.setQueue f.queue (fun d =>
      if d.inFlight = 0 then d
      else { d with inFlight := d.inFlight - 1, gone := d.gone || decide (d.inFlight = 1) })
  else s

/-- Frames that waited for a port that failed are treated as frames bound out through it (R341,
R347). -/
def State.wrapWaiting (s : State) (p : Nat) (l : List Frame) : State :=
  l.foldl
    (fun u f =>
      if f.kind = 1 then u
      else if f.grp ∨ f.dst = 0x3FFF ∨ f.wraps = 1 ∨ ¬ u.portOpen (1 - p) then
        (u.inc R.VODOR_CNT_DROP_NO_ROUTE).copyGone f
      else u.enqueue (1 - p) { f with wraps := 1 }) s

/-- A port falls from UP to DOWN and the node wraps (R330, R347). -/
def State.portFall (s : State) (p : Nat) : State :=
  let q := s.port p
  let s := (s.setPortState p psDown).set (R.VPORT_STATUS_VER p) 0
  let s := (s.inc (R.VPORT_CNT_LINK_DOWNS p)).irq (pgPort p) 1
  let s := (s.delayRestart p).setPort p (fun q =>
    { q with sending := none, suspended := [], left := [], waiting := [], helloRun := 0, lostAt := none })
  let s := (q.sending.toList ++ q.suspended).foldl (fun u f => u.copyGone f) s
  let s := (s.setWrap p true).irqLog pgVodor 0 1
  s.wrapWaiting p q.waiting

/-! ### Hellos (R329 to R332, R351) -/

/-- The highest version that `VER_EN` and a partner's mask have in common; 0 is none (R331). -/
def State.commonVersion (s : State) (mask : Nat) : Nat :=
  let m := s.get R.VODOR_RING_CFG_VER_EN &&& mask
  if m.testBit 2 then 3 else if m.testBit 1 then 2 else if m.testBit 0 then 1 else 0

/-- The port's hello (R332). -/
def State.helloPayload (s : State) (p : Nat) : List Nat :=
  let q := s.port p
  bytesLE 2 0x0D02 ++ [s.get R.VODOR_RING_CFG_VER_EN, if q.reached then 0 else 1] ++ bytesLE 2 s.addr
    ++ bytesLE 2 q.ansMark ++ bytesLE 4 q.ansTurn
    ++ bytesLE 4 (s.get R.BOOT_DEV_SERIAL_LO_SERIAL) ++ bytesLE 4 (s.get R.BOOT_DEV_SERIAL_HI_SERIAL)

/-- A hello leaves (R329, R332): a LINK frame whose `DST` and `HOPS` the chapter leaves open. -/
def State.sendHello (s : State) (p : Nat) : State :=
  let (d, s) := s.fresh
  let (h, s) := s.fresh
  let (n, s) := s.takeSeq 3
  let f : Frame := ⟨3, 1, false, false, 0, d % 16384, s.addr, h % 16384, n, s.helloPayload p, true, 32⟩
  let s := s.enqueue p f
  let next := if s.portUp p then ms 1 else us 10
  s.setPort p (fun q => { q with helloNow := false, helloDue := s.now + next })

/-- The partner of a port that trains or relocks is another than before (R351): the record holds the
old and the new address and the change in link delay, which is not known yet. -/
def State.partnerSeen (s : State) (p serial addr : Nat) : State :=
  let s := match (s.port p).partner with
    | some (old, oldAddr) =>
      if old ≠ serial then
        let (v, s) := s.fresh
        let s := s.irqLogD (pgPort p) 3 1 (bytesLE 2 oldAddr ++ bytesLE 2 addr ++ bytesLE 4 v)
        s.delayRestart p
      else s
    | none => s
  s.setPort p (fun q => { q with partner := some (serial, addr) })

/-- A valid hello of the partner (R329, R331, R352). -/
def State.takeHello (s : State) (p : Nat) (l : List Nat) : State :=
  let mask := l.getD 2 0
  let addr := leAt l 4 2
  let serial := leAt l 12 8
  let s := (s.set (R.VPORT_PARTNER_ADDR p) addr).set (R.VPORT_PARTNER_MASK p) mask
  let s := (s.set (R.VPORT_PARTNER_SER_LO_SERIAL p) (serial % 2 ^ 32)).set
    (R.VPORT_PARTNER_SER_HI_SERIAL p) (serial / 2 ^ 32)
  let v := s.commonVersion mask
  let st := s.portState p
  if st = psNegotiate then
    if v = 0 then
      let s := (s.setPortState p psNover).irq (pgPort p) 4
      s.setPort p (fun q => { q with noverRun := q.noverRun + 1, noverAt := s.now, helloRun := 0 })
    else
      let q := s.port p
      let run := if q.helloVer = v then q.helloRun + 1 else 1
      let s := s.setPort p (fun q => { q with helloRun := run, helloVer := v })
      if 4 ≤ run then
        let s := (s.setPortState p psUp).set (R.VPORT_STATUS_VER p) v
        let s := s.setPort p (fun q =>
          { q with noverRun := 0, helloRun := 0, upSince := s.now, helloDue := s.now, reached := true })
        let s := s.modRing (fun r => { r with firstUp := match r.firstUp with
          | some t => some t
          | none => some s.now })
        let s := (s.irq (pgPort p) 0).delayRestart p
        let s := if v < 3 then s.irq (pgPort p) 5 else s
        (s.partnerSeen p serial addr).ringSync
      else s
  else if st = psUp then
    let s := s.partnerSeen p serial addr
    let s :=
      if v ≠ 0 ∧ v ≠ s.get (R.VPORT_STATUS_VER p) then
        let s := s.set (R.VPORT_STATUS_VER p) v
        if v < 3 then s.irq (pgPort p) 5 else s
      else s
    let q := s.port p
    match q.gap with
    | some g =>
      if q.reqOut ∧ leAt l 6 2 = q.reqMark then
        let s := s.setPort p (fun q => { q with gap := none, reqOut := false })
        s.addMeas p (((g : Rat) - (leAt l 8 4 : Rat)) / 2 + (s.geti (R.VPORT_ASYM_PS p) : Rat))
      else s
    | none => s
  else s

/-! ### Frames (R336 to R342, R354) -/

/-- The frame in a byte string from its header to its FCS. -/
def parseFrame (l : List Nat) : Frame :=
  let fc := leAt l 0 2
  ⟨fc % 4, fc / 4 % 4, fc.testBit 4, fc.testBit 5, fc / 64 % 4, leAt l 2 2, leAt l 4 2, leAt l 6 2,
    leAt l 10 2, slice l 14 (leAt l 8 2), false, 32⟩

/-- The header is good (R336). -/
def headerGood (l : List Nat) : Bool :=
  let fc := leAt l 0 2
  decide (14 ≤ l.length) && decide (crc16 (l.take 12) = leAt l 12 2) && decide (leAt l 8 2 ≤ 256)
    && decide (fc / 256 = 0) && decide (fc / 64 % 4 < 2) && decide (leAt l 2 2 < 16384)
    && decide (leAt l 4 2 < 16384) && decide (leAt l 6 2 < 16384) && decide (fc / 4 % 4 ≠ 3)
    && (!fc.testBit 5 || decide (fc % 4 = 2))

/-- The length and the FCS are good (R334, R336). -/
def fcsGood (l : List Nat) : Bool :=
  let n := leAt l 8 2
  decide (l.length = n + 18) && decide (crc32c (l.take (n + 14)) = leAt l (n + 14) 4)

/-- The frame names an address it may not (R337). -/
def Frame.badAddress (f : Frame) : Bool :=
  let reserved (a : Nat) : Bool := decide (0x2711 ≤ a) && decide (a ≤ 0x2FFF)
  reserved f.dst || reserved f.src || decide (f.dst = 0)

/-- A remote request answered (R364, R366). -/
def State.raAnswer (s : State) (d : Delivery) (code : Nat) (data : List Nat) : State :=
  (s.sendOwn 3 2 false false d.src (bytesLE 2 0x0D11 ++ [code, d.payload.getD 3 0]
    ++ slice d.payload 4 2 ++ [0, 0] ++ slice d.payload 8 4 ++ data.flatMap (bytesLE 4))).1

/-- A frame reaches its consumer (R338). A remote request that finds four held is answered at once
(R366). -/
def State.deliverFrame (s : State) (port : Nat) (f : Frame) : State :=
  let d : Delivery := ⟨f.kind, f.src, f.seq, f.wraps, port, f.payload, s.now⟩
  let ty := d.ptype
  if f.kind = 0 ∧ f.tc = 3 ∧ (ty = 0x0C01 ∨ ty / 256 = 0x0E) then
    s.podDeliver d (s.now - byteTime f.linkBytes)
  else if (f.kind = 0 ∧ f.tc = 2 ∧ (ty = 0x0A01 ∨ ty = 0x0A02)) ∨ (f.kind = 0 ∧ f.tc = 1 ∧ ty = 0x0F01)
      ∨ (f.kind = 2 ∧ f.tc = 3 ∧ ty = 0x0D11) then s.deliverTo d
  else if f.kind = 2 ∧ f.tc = 3 ∧ ty = 0x0D10 then
    (if 4 ≤ (s.ring.inbox.filter (fun e => decide (e.kind = 2) && decide (e.ptype = 0x0D10))).length
    then s.raAnswer d 4 [] else s.deliverTo d)
  else s.err pgVodor

/-- A beacon's copy noted for the decision (R355, R356). -/
def State.beaconIn (s : State) (port : Nat) (f : Frame) : State :=
  let l := f.payload
  if f.tc ≠ 0 ∨ f.kind ≠ 0 ∨ leAt l 0 2 ≠ 0x0D01 ∨ l.length ≠ 32 then s.err pgVodor
  else if l.getD 2 0 = 3 then s.inc R.CANOPY_CNT_REJ_REJECTED
  else
    let c : BeaconCopy :=
      { port := port, cls := l.getD 2 0, prio := l.getD 3 0, node := leAt l 4 2, dist := leAt l 6 2,
        origin := leAt l 8 8, corr := sx 64 (leAt l 16 8), flags := leAt l 24 2, bseq := leAt l 26 2,
        stamp := s.canopyT.at s.now, delay := s.get (R.VPORT_LINK_DLY_PS port),
        dlyOk := s.flag (R.VPORT_STATUS_DLY_VALID port), at_ := s.now }
    let better := betterSource (c.cls, c.prio, c.node) s.selfSource
    s.modRing (fun r => { r with
      betterAt := if better then s.now else r.betterAt,
      copies := if r.decided.contains (c.node * 65536 + c.bseq) then r.copies else r.copies ++ [c] })

/-- A beacon as it is forwarded (R354). The residence time is the device's own and is left open. -/
def State.passBeacon (s : State) (port out : Nat) (f : Frame) : Frame × State :=
  let (r, s) := s.fresh
  let l := f.payload
  let corr : Rat := (sx 64 (leAt l 16 8) : Rat)
    + (s.get (R.VPORT_LINK_DLY_PS port) : Rat) * 65536 / 1000 + (r : Rat)
  let c : Int :=
    if s.get (R.VPORT_STATUS_VER out) = 1 then roundAs 4104 (corr / 65536) * 65536
    else roundAs 4105 corr
  let flags := if s.flag (R.VPORT_STATUS_DLY_VALID port) then leAt l 24 2 else setBit (leAt l 24 2) 0
  let pl := slice l 0 6 ++ bytesLE 2 (leAt l 6 2 + 1) ++ slice l 8 8 ++ bytesLE 8 (ux 64 c)
    ++ bytesLE 2 flags ++ slice l 26 6
  ({ f with payload := pl }, s)

/-- A frame of its own comes home (R341, R342). -/
def State.homeAgain (s : State) (f : Frame) : State :=
  if (s.ring.sent.getD f.tc []).contains f.seq then s
  else (s.setB R.VODOR_STATUS_ADDR_CONFLICT true).irqLog pgVodor 4 2

/-- A frame passed on (R341), or taken by the tunnel (R462). -/
def State.passOn (s : State) (port : Nat) (f : Frame) : State :=
  if s.tunnels f then s.sendTunnel f
  else if f.hops ≤ 1 then s
  else
    let f := { f with hops := f.hops - 1 }
    let beacon := decide (f.dst = 0x3FFF)
    let out := 1 - port
    if s.portOpen out then
      let (f, s) := if beacon then s.passBeacon port out f else (f, s)
      (s.inc R.VODOR_CNT_FWD_FRAMES).enqueue out f
    else if f.grp ∨ beacon ∨ f.wraps = 1 then s.inc R.VODOR_CNT_DROP_NO_ROUTE
    else (s.inc R.VODOR_CNT_FWD_FRAMES).enqueue port { f with wraps := 1 }

/-- The procedure of R341 for a good frame on a port. -/
def State.receiveFrame (s : State) (port : Nat) (f : Frame) : State :=
  if f.src = s.addr ∧ f.wraps = 0 then s.homeAgain f
  else if f.grp = false ∧ f.dst = s.addr then s.deliverFrame port f
  else
    let s := if f.grp ∧ (s.groupIndex f.dst).isSome then s.deliverFrame port f else s
    let s := if f.dst = 0x3FFF then s.beaconIn port f else s
    s.passOn port f

/-- Since when an inserting node has both receivers aligned and a coarse time (R350, step 2). -/
def State.listenSync (s : State) : State :=
  let ok := s.ring.coarse.isSome && (s.port 0).aligned && (s.port 1).aligned
  s.modRing (fun r => { r with listenAt := if ok then some (r.listenAt.getD s.now) else none })

/-- A node that has not inserted hears frames across its bypass (R350): a beacon gives a coarse time. -/
def State.listen (s : State) (f : Frame) : State :=
  if f.dst = 0x3FFF ∧ f.tc = 0 ∧ leAt f.payload 0 2 = 0x0D01 ∧ f.payload.length = 32 then
    let t : Rat := (leAt f.payload 8 8 : Rat) + (sx 64 (leAt f.payload 16 8) : Rat) / 65536
    (s.modRing (fun r => { r with coarse := some (s.now, t) })).listenSync
  else s

/-- Canopy time as an inserting node knows it, in whole ns. -/
def State.coarseTime (s : State) : Nat :=
  match s.ring.coarse with
  | some (t, v) => (v + ((s.now - t : Nat) : Rat) / 32).floor.toNat
  | none => s.canopy

/-- A remote access ends (R363). -/
def State.raFinish (s : State) (code : Nat) (data : List Nat) : State :=
  let s := ((s.setB R.VODOR_RA_STAT_BUSY false).setB R.VODOR_RA_CTRL_GO false).setB R.VODOR_RA_STAT_DONE true
  let s := s.set R.VODOR_RA_STAT_CODE code
  let s := (List.range data.length).foldl (fun u i =>
    if i < 8 then u.set (R.VODOR_RA_DATA_DATA i) (data.getD i 0) else u) s
  s.irq pgVodor 3

end Sys2Proof.Machine
end

