-- ==== Sys2Proof/Machine/Clock.lean ====
section
/-! DEFINITION. Island clocks and PLLs (R18 to R22, R44, R45, R492). Islands are numbered as the bits of
`CLK.PLL_STAT`: 0 to 7 the cells, 8 grid, 9 SAR, 10 Vodor, 11 host, 12 Heartwood. -/

namespace Sys2Proof.Machine

/-- The PLL of island `i`. -/
def SysSt.pll (d : SysSt) (i : Nat) : PllSt :=
  if i < 8 then d.pllCell.getD i .off
  else if i = 8 then d.pllGrid
  else if i = 9 then d.pllSar
  else if i = 10 then d.pllVod
  else if i = 11 then d.pllHost
  else d.pllHw

/-- The PLL of island `i` changed. -/
def SysSt.putPll (d : SysSt) (i : Nat) (v : PllSt) : SysSt :=
  if i < 8 then { d with pllCell := d.pllCell.set i v }
  else if i = 8 then { d with pllGrid := v }
  else if i = 9 then { d with pllSar := v }
  else if i = 10 then { d with pllVod := v }
  else if i = 11 then { d with pllHost := v }
  else { d with pllHw := v }

/-- The PLL of island `i` and its bit of `PLL_STAT` (R47). -/
def State.putPll (s : State) (i : Nat) (v : PllSt) : State :=
  let s := s.modSys (fun d => d.putPll i v)
  let on := decide (v = .locked)
  if i < 8 then s.putMaskBit R.CLK_PLL_STAT_CELL_LOCK i on
  else if i = 8 then s.setB R.CLK_PLL_STAT_GRID_LOCK on
  else if i = 9 then s.setB R.CLK_PLL_STAT_SAR_LOCK on
  else if i = 10 then s.setB R.CLK_PLL_STAT_VOD_LOCK on
  else if i = 11 then s.setB R.CLK_PLL_STAT_HOST_LOCK on
  else s.setB R.CLK_PLL_STAT_HW_LOCK on

/-- The bit of `PLL_LOSS` of island `i` set; the host island cannot record its own (R47). -/
def State.notePllLoss (s : State) (i : Nat) : State :=
  if i < 8 then s.setMaskBit R.CLK_PLL_LOSS_CELL_LOSS i
  else if i = 8 then s.setB R.CLK_PLL_LOSS_GRID_LOSS true
  else if i = 9 then s.setB R.CLK_PLL_LOSS_SAR_LOSS true
  else if i = 10 then s.setB R.CLK_PLL_LOSS_VOD_LOSS true
  else if i = 12 then s.setB R.CLK_PLL_LOSS_HW_LOSS true
  else s

/-- The results of the passes that the SAR island's stop cuts never arrive (R304). -/
def State.passesCut (s : State) : State :=
  (List.range 5).foldl
    (fun t n => match (t.sarSt n).pass with
      | some p => t.meterMissed n p.idx
      | none => t) s

/-- What the loss of an island's clock does to the island (R19, R45). A cell's line drops with its clock, and
nothing in the island changes until the clock is back (R492): its gates are low and its bypass hold is static
because the clock stands still. -/
def State.clockStops (s : State) (i : Nat) : State :=
  let s := s.putPll i .lost
  if i < 8 then (s.modSys (fun d => { d with cellStop := d.cellStop.set i (some s.now) })).linesSync
  else if i = 9 then s.passesCut.sarHalt
  else s

/-- The islands in the mask are declared lost in one Burl cycle (R19, R45): `how` is 0 for a PLL lock
detector and 1 for Burl's window. Grid and Heartwood put Burl in its safe state (R391). -/
def State.islandsLost (s : State) (l : List Nat) (how : Nat) : State :=
  let s := l.foldl (fun t i => t.clockStops i) s
  let mask := (if l.contains 12 then 2 else 0) + (if l.contains 8 then 16 else 0)
  let s := if mask = 0 then s else s.burlSafe (if l.contains 12 then 1 else 4) mask
  l.foldl (fun t i =>
    if i = 12 then t else t.logIt pgClk 2 0x0005 [i, how] how) s

/-- The crossing whose word is discarded (R18): of a cell's two, `tap` 0 names the one from the grid. -/
def lostKey (b tap : Nat) : Nat := if b < 8 ∧ tap ≠ 0 then b + 16 else b

/-- STREAM_XING_OVERFLOW (R18): a word is discarded at a full streaming crossing, a bit of
`CLK.XING_ERR`; into Heartwood it was a value of tap `tap` (R423). The word is the next one that the
crossing's source writes, and its consumer misses it (log entry 74). -/
def execStreamXingOverflow (dt : Nat) (b : Fin 13) (tap : Fin 256) (s : State) :
    Host.Outcome State Fault Refusal :=
  let s := s.elapse dt
  if s.sys.inReset then .next s
  else
    let s : State :=
      if b.val < 8 then s.setMaskBit R.CLK_XING_ERR_CELL_GRID b
      else if b.val = 8 then s.setB R.CLK_XING_ERR_SAR_GRID true
      else if b.val = 9 then s.setB R.CLK_XING_ERR_VOD_GRID true
      else if b.val = 10 then s.setB R.CLK_XING_ERR_GRID_VOD true
      else if b.val = 11 then s.setB R.CLK_XING_ERR_TO_HW true
      else s.setB R.CLK_XING_ERR_TO_BURL true
    let s := s.err pgClk
    let s := s.logIt pgClk 1 0x0004 (bytesLE 4 (s.wordOf pgClk 0x0C0))
    .next (if b.val = 11 then
        { s with capt := s.capt.map (fun u => { u with xing := tap.val :: u.xing }) }
      else s.modSys (fun d => { d with lostWord := lostKey b tap :: d.lostWord }))

/-- BURL_CLOCK_WINDOW (R19): at the end of a window, Burl finds the islands of the mask `bad` outside
±10 % of nominal. -/
def execBurlClockWindow (dt : Nat) (bad : Fin 8192) (s : State) : Host.Outcome State Fault Refusal :=
  let s := s.elapse dt
  if s.sys.inReset then .next s
  else .next (s.islandsLost
    ((List.range 13).filter (fun i => bad.val.testBit i && decide (s.sys.pll i = .locked))) 1)

/-- BURL_RC_MEASURE (R20, R47): Heartwood's measurement of Burl's RC ends at `khz`. -/
def execBurlRcMeasure (dt : Nat) (khz : Fin 65536) (s : State) : Host.Outcome State Fault Refusal :=
  let s := s.elapse dt
  if s.hwRuns then
    let s := s.set R.CLK_BURL_RC_KHZ khz.val
    if (khz.val < 45600 ∨ 50400 < khz.val) ∧ s.sys.burlFaulty = false then
      .next ((s.burlClockFault).logIt pgClk 2 0x0005 [0x0D, 2])
    else .next s
  else .next s

/-- SCRUB_WORD (R21, R22): the scrubber reads the 64-bit word at `addr` of table memory, in which
`flips` further bits have gone bad since it was last read. -/
def execScrubWord (dt : Nat) (addr : Nat) (flips : Fin 3) (s : State) :
    Host.Outcome State Fault Refusal :=
  let s := s.elapse dt
  if ¬ s.sys.inReset ∧ addr % 8 = 0 ∧ inRegion tableBase tableSize addr then
    let n := min 2 (s.badBits addr + flips.val)
    if n = 0 then .next s
    else if n = 1 then .next ((s.clearBad addr).err pgBoot)
    else .next ({ s with ecc := s.ecc.insert addr 2 }.recordDouble pgBoot addr)
  else .next s

/-- A time of the island moved on by the `d` for which its clock stood still (R492). -/
def laterBy (d : Nat) (t : Option Nat) : Option Nat := t.map (fun u => u + d)

/-- What the island of a channel had been counting out goes on where its clock stopped, `d` ago (R492): the
carrier, its groups' windows and waits, the checks of the bypass, blanking, the sample deadline, the cell's
due times. -/
def ChSt.standStill (c : ChSt) (d : Nat) : ChSt :=
  { c with
    sense := { c.sense with due := laterBy d c.sense.due }
    pwm := { c.pwm with zeroAt := c.pwm.zeroAt + d, runAt := c.pwm.runAt + d }
    guard := { c.guard with
      groups := c.guard.groups.map (fun g =>
        { g with winOpen := g.winOpen + d, lastActive := g.lastActive + d })
      scSince := c.guard.scSince.map (laterBy d)
      openDue := laterBy d c.guard.openDue
      closeDue := laterBy d c.guard.closeDue
      filtAt := c.guard.filtAt.map (laterBy d) }
    ke := { c.ke with testEnd := c.ke.testEnd + d }
    cell := { c.cell with
      shellDue := laterBy d c.cell.shellDue
      scanDue := laterBy d c.cell.scanDue } }

/-- A cell island's PLL has locked again (R492): no counter moves and no window's result is shown; the carrier
goes on where it stood and slews back to its grid. -/
def State.cellResume (s : State) (x : Nat) : State :=
  let s :=
    match s.sys.cellStop.getD x none with
    | some t => s.setCh x (fun c => c.standStill (s.now - t))
    | none => s
  let s := (s.pwmStop x).keStop x
  let s := s.setCell x (fun c => { c with window := none })
  let s := (s.husk x 4).cellEnter x csHusk
  let s := (s.set (R.CELL_STATUS_LEAVE_CAUSE x) 4).linesSync
  s.setCh x (fun c =>
    { c with sense := { c.sense with ins := c.sense.ins.map (fun i => { i with cnt := 0 }) } })

/-- A carrier that has not reached its first zero waits for the grid from this lock on (R493). -/
def State.carrierLocks (s : State) (x : Nat) : State :=
  s.setPwm x (fun p => if p.started then p else { p with zeroAt := s.now })

/-- PLL_LOCK (R44, R492): the PLL of an island locks after its start; a cell's also after a loss. -/
def execPllLock (dt : Nat) (i : Fin 13) (s : State) : Host.Outcome State Fault Refusal :=
  let s := s.elapse dt
  let st := s.sys.pll i
  if s.sys.inReset ∨ s.sys.xtalGood = false then .next s
  else if st = .starting then
    let s := s.putPll i .locked
    if i.val < 8 then .next (s.carrierLocks i).linesSync
    else if i.val = 8 then .next { s with arm := { s.arm with startAt := s.canopy, ran := [] } }
    else if i.val = 9 then .next s.sarStart
    else if i.val = 10 then .next s.ringStart
    else .next s
  else if st = .lost ∧ i.val < 8 then .next (((s.putPll i .locked).cellResume i).carrierLocks i)
  else .next s

/-- PLL_LOSS (R45): the lock detector of an island's PLL reports the loss. Its bit is set also when Burl's
window has found the clock lost already. -/
def execPllLoss (dt : Nat) (i : Fin 13) (s : State) : Host.Outcome State Fault Refusal :=
  let s := s.elapse dt
  if s.sys.inReset then .next s
  else if s.sys.pll i = .locked then .next ((s.notePllLoss i).islandsLost [i.val] 0)
  else if s.sys.pll i = .lost then .next (s.notePllLoss i)
  else .next s

end Sys2Proof.Machine
end

