-- ==== Sys2Proof/Machine/MeterSave.lean ====
section
/-! DEFINITION. The meter's save engine (R317 to R324, R466): records, the restore, the final save. -/

namespace Sys2Proof.Machine

/-- FRAM addresses (R317): slots A and B, the final slot, the heartbeat. -/
def slotA : Nat := 0x100
def slotB : Nat := 0x300
def slotFinal : Nat := 0x500
def beatSlot : Nat := 0x700

/-- The device serial (R80). -/
def State.serial (s : State) : Nat :=
  s.get R.BOOT_DEV_SERIAL_LO_SERIAL + s.get R.BOOT_DEV_SERIAL_HI_SERIAL * 4294967296

/-- Bytes with their CRC-32C behind them. -/
def withCrc (l : List Nat) : List Nat := l ++ bytesLE 4 (crc32c l)

/-- The FRAM header of this device (R317). -/
def State.framHeader (s : State) : List Nat :=
  withCrc (bytesLE 4 0x4D42544F ++ bytesLE 4 1 ++ bytesLE 8 s.serial ++ List.replicate 12 0)

/-- The number a record takes next. -/
def nextRecord (n : Nat) : Nat := (n + 1) % 4294967296

/-- The `FLAGS` of a record made now (R318). -/
def State.recordFlags (s : State) : Nat :=
  let b (c : Bool) (k : Nat) : Nat := if c then 2 ^ k else 0
  b (decide (s.get R.BOOT_DEBUG_CFG_LEVEL = 2)) 0 + b s.syncLost 1 + b (s.meter.quality || s.anyCheck) 2
    + b s.meter.estimated 3 + b s.meter.calNew 4

/-- The largest total S in VA as a record shows it (log entry 6). -/
def peakVa (v : Rat) : Nat := satN 32 (roundAs R.METER_S_TOT_VA.key v).toNat

/-- The first 16 bytes of `BOOT.IMG_DIGEST`. -/
def State.digest16 (s : State) : List Nat :=
  (List.range 4).flatMap (fun i => bytesLE 4 (s.get (R.BOOT_IMG_DIGEST_WORD i)))

/-- An energy record (R318). -/
def State.energyRecord (s : State) (kind seq : Nat) (energy : List Nat) : List Nat :=
  withCrc (bytesLE 4 0x5242544F ++ bytesLE 2 1 ++ [kind, s.recordFlags] ++ bytesLE 4 seq
    ++ bytesLE 4 (peakVa s.meter.sPeak) ++ bytesLE 8 (s.stamp pgMeter) ++ s.digest16
    ++ List.replicate 24 0 ++ energy.flatMap (bytesLE 8) ++ List.replicate 124 0)

/-- The energy registers. -/
def State.energies (s : State) : List Nat := (List.range 40).map (fun i => s.get (R.METER_E_VAL i))

/-- The registers with the cycle in progress estimated from the last cycle's quantities (R320). -/
def State.energiesNow (s : State) : List Nat :=
  let extra : List Rat := match s.meter.start, s.meter.last with
    | some (_, c0), some q =>
      (q.sorted (s.flag R.METER_CFG_TOT_MODE)).map
        (fun x => x * (((s.canopyAt s.now - c0).toNat : Nat) : Rat) / 3600000000)
    | _, _ => []
  (List.range 40).map (fun i => (s.energyFine i + energyInc i (extra.getD i 0)) / 4294967296 % 2 ^ 64)

/-- A record was made: the period of the next one begins (R318). -/
def State.recordMade (s : State) (seq : Nat) : State :=
  s.modMeter (fun d => { d with seq := seq, sPeak := 0, quality := false, estimated := false, calNew := false })

/-- `n` bytes of the FRAM. -/
def State.framBytes (s : State) (a n : Nat) : List Nat := s.meter.fram.getBytes a n

/-- The FRAM holds `l` from its start, and nothing else. -/
def State.framFill (s : State) (l : List Nat) : State :=
  { s with meter := { s.meter with fram := Memory.putBytes [] 0 l } }

/-- Bytes stored in the FRAM. -/
def State.framPut (s : State) (a : Nat) (l : List Nat) : State :=
  { s with meter := { s.meter with fram := s.meter.fram.putBytes a l } }

/-- A record's 512 bytes are valid (R318). -/
def recordValid (r : List Nat) : Bool :=
  decide (leAt r 0 4 = 0x5242544F) && decide (leAt r 4 2 = 1)
    && (decide (r.getD 6 0 = 1) || decide (r.getD 6 0 = 2))
    && decide (leAt r 0x1FC 4 = crc32c (r.take 0x1FC))

/-- Number `a` is later than `b` (R321). -/
def laterSeq (a b : Nat) : Bool :=
  let d := (a + 4294967296 - b) % 4294967296
  decide (1 ≤ d) && decide (d ≤ 2147483647)

/-- The record of a slot, when it is valid. -/
def State.slotRecord (s : State) (a : Nat) : Option (List Nat) :=
  let r := s.framBytes a 512
  if recordValid r then some r else none

/-- The record with the latest number. -/
def newest (l : List (Option (List Nat))) : Option (List Nat) :=
  l.foldl (fun best r =>
    match best, r with
    | none, r => r
    | some b, none => some b
    | some b, some r => if laterSeq (leAt r 8 4) (leAt b 8 4) then some r else some b) none

/-- The slot for the next periodic record: the one that does not hold the newest valid periodic
record; either when neither holds one (R319). -/
def State.nextSlot (s : State) : Nat × State :=
  let per (a : Nat) : Option (List Nat) := (s.slotRecord a).filter (fun r => decide (r.getD 6 0 = 1))
  match per slotA, per slotB with
  | some a, some b => (if laterSeq (leAt a 8 4) (leAt b 8 4) then slotB else slotA, s)
  | some _, none => (slotB, s)
  | none, some _ => (slotA, s)
  | none, none =>
    let (v, s) := s.fresh
    (if v % 2 = 0 then slotA else slotB, s)

/-- Periodic records and heartbeats may be written (R319). -/
def State.mayWrite (s : State) : Bool :=
  s.gridRuns && s.hostRuns && s.flag R.METER_STATUS_RUN && s.meter.saving && !s.meter.stopped

/-- The time a write of `n` bytes takes on the save port (R466): WREN, then WRITE with its address. -/
def State.writeTime (s : State) (n : Nat) : Nat :=
  ns (64 * s.get R.SAVE_CFG_DIV * (4 + s.get R.SAVE_CFG_ADDR3 + n))

/-- The time a read of `n` bytes takes on the save port (R466): READ with its address. -/
def State.readTime (s : State) (n : Nat) : Nat :=
  ns (64 * s.get R.SAVE_CFG_DIV * (3 + s.get R.SAVE_CFG_ADDR3 + n))

/-- A host read of the save port ends at its next byte (R467). -/
def State.abortHostRead (s : State) : State :=
  if s.flag R.SAVE_HOST_CTRL_BUSY then
    (((s.setB R.SAVE_HOST_CTRL_BUSY false).setB R.SAVE_HOST_CTRL_GO false).setB R.SAVE_HOST_CTRL_ABORTED
      true).irq pgSave 0
  else s

/-- A write in progress ends at its next byte (R320, R324). How much of it is in the FRAM is open, but it leaves
a record without its CRC and a heartbeat without its own, so that neither is valid. -/
def State.abortWrite (s : State) : State :=
  let s := match s.meter.write with
    | some (a, l) =>
      let (v, s) := s.fresh
      (s.framPut a (l.take (9 + v % 499))).modMeter (fun d => { d with write := none, saveEnd := s.now })
    | none => s
  match s.meter.beat with
  | some (e, old) =>
    if s.now < e then
      let (v, s) := s.fresh
      let k := 16 + v % 12
      (s.framPut (beatSlot + k) (old.drop k)).modMeter (fun d => { d with beat := none, saveEnd := s.now })
    else s
  | none => s

/-- A final save (R320): made only while the meter runs and saves, at most once per low period. -/
def State.finalSave (s : State) : State :=
  if s.gridRuns && s.hostRuns && s.flag R.METER_STATUS_RUN && s.meter.saving
      && !(s.flag R.RSTPWR_PWR_STAT_PFW && s.meter.finalDone) then
    let s := s.abortHostRead.abortWrite
    let n := nextRecord s.meter.seq
    let r := s.energyRecord 2 n s.energiesNow
    let s := s.recordMade n
    s.modMeter (fun d => { d with write := some (slotFinal, r), writeAt := s.now, finalDone := true })
  else s

/-- A cycle that ends in the clock cycle of a final record's snapshot: the record holds its energies (R324). -/
def State.snapshotAgain (s : State) : State :=
  match s.meter.write with
  | some (a, l) =>
    if a = slotFinal ∧ (PageIsland.grid).cycle s.meter.writeAt = (PageIsland.grid).cycle s.now then
      let r := withCrc (l.take 0x40 ++ s.energies.flatMap (bytesLE 8) ++ List.replicate 124 0)
      s.modMeter (fun d => { d with write := some (a, r) })
    else s
  | none => s

/-- The FRAM reads blank (R321). -/
def State.framBlank (s : State) : Bool :=
  let l := s.framBytes 0 0x720
  l.all (fun b => decide (b = 0)) || l.all (fun b => decide (b = 255))

/-- The header read is valid and names this device (R321). -/
def State.headerOk (s : State) : Bool :=
  let h := s.framBytes 0 32
  decide (leAt h 0 4 = 0x4D42544F) && decide (leAt h 4 2 = 1) && decide (leAt h 0x1C 4 = crc32c (h.take 0x1C))
    && decide (leAt h 8 8 = s.serial)

/-- The heartbeat, when it is valid (R318). -/
def State.beatRead (s : State) : Option (List Nat) :=
  let h := s.framBytes beatSlot 32
  if leAt h 0 4 = 0x4842544F ∧ leAt h 0x1C 4 = crc32c (h.take 0x1C) then some h else none

/-- The gap before a restored periodic record (R322). -/
def State.gap (s : State) (r : List Nat) : State :=
  let (l, sm) : Nat × Nat := match s.beatRead with
    | some h =>
      if leAt h 4 4 = leAt r 8 4 then
        ((leAt h 8 8 + 100000000 - leAt r 0x10 8) % 2 ^ 64, max (leAt h 0x10 4) (leAt r 0xC 4))
      else (1100000000, leAt r 0xC 4)
    | none => (1100000000, leAt r 0xC 4)
  let b := ceilDiv (sm * l) 3600000000
  let m := satN 32 (roundAs R.METER_GAP_MS_MS.key ((l : Rat) / 1000000)).toNat
  let s := (s.setB R.METER_STATUS_ENERGY_GAP true).set R.METER_GAP_MS_MS m
  let s := s.setSat R.METER_GAP_MWH_MWH b
  s.irqLogD pgMeter 5 1 (bytesLE 4 m ++ bytesLE 8 b)

/-- A record that latches no interrupt bit, with the offset of the register that shows it (R438). -/
def State.logPlain (s : State) (page sev ofs : Nat) : State := s.logIt page sev 0x00FE (bytesLE 2 ofs)

/-- The registers start from 0; the first record's number is open. -/
def State.startZero (s : State) : State :=
  let (v, s) := s.fresh
  s.modMeter (fun d => { d with seq := v % 4294967296, perSeq := v % 4294967296 })

/-- The registers take a record (R321 steps 2 to 4). -/
def State.takeRecord (s : State) (r : List Nat) : State :=
  let s := (List.range 40).foldl (fun u i => u.set (R.METER_E_VAL i) (leAt r (0x40 + 8 * i) 8)) s
  let n := leAt r 8 4
  let s := (s.set R.METER_RESTORE_SEQ n).setB R.METER_STATUS_RESTORED true
  let s := s.modMeter (fun d => { d with seq := n, perSeq := n, frac := List.replicate 40 0 })
  let s :=
    if slice r 0x18 16 = s.digest16 then s
    else (s.modMeter (fun d => { d with calNew := true })).logPlain pgMeter 0 0x3B0
  if r.getD 6 0 = 1 then s.gap r else s

/-- The restore (R321), with the FRAM's bytes from 0x0000 on as read; none when no FRAM answers. -/
def State.restore (s : State) (content : List Nat) : State :=
  if content = [] then (s.setB R.METER_STATUS_SAVE_FAIL true).startZero
  else
    let s := s.framFill content
    if s.headerOk then
      let s := s.modMeter (fun d => { d with saving := true })
      match newest [s.slotRecord slotA, s.slotRecord slotB, s.slotRecord slotFinal] with
      | some r => s.takeRecord r
      | none => (s.startZero).logPlain pgMeter 2 0x3B0
    else if s.framBlank then
      ((s.framPut 0 s.framHeader).modMeter (fun d => { d with saving := true })).startZero
    else ((s.setB R.METER_STATUS_FOREIGN true).logPlain pgMeter 2 0x00C).startZero

end Sys2Proof.Machine
end

