-- ==== Sys2Proof/Machine/Reset.lean ====
section
/-! DEFINITION. Rails, crystal, reset causes, the watchdog and the release (R31, R32, R38 to R53,
R491). -/

namespace Sys2Proof.Machine

/-! ### Entering reset -/

/-- The page of a register field's key. -/
def keyPage (k : Nat) : Nat := k / (4096 * 32)
/-- The offset of a register field's key. -/
def keyOfs (k : Nat) : Nat := k / 32 % 4096

/-- The field is held in the always-on island (R52, R53, R81): page `RSTPWR` but for `WDOG_CFG`, and
the tamper registers of `BOOT`. -/
def aonKey (k : Nat) : Bool :=
  (decide (keyPage k = pgRst) && decide (keyOfs k ≠ 0x04C))
    || (decide (keyPage k = pgBoot) && decide (0x080 ≤ keyOfs k) && decide (keyOfs k < 0x098))

/-- The fuses hold `f`. -/
def State.putFuse (s : State) (f : FuseSt) : State := { s with fuse := f }

/-- A KEY_PROVISION cut off by the reset leaves its slot neither blank nor matching (R457). -/
def State.cutFuse (s : State) : State :=
  match s.hw.fuseBusy with
  | none => s
  | some (slot, h) =>
    if s.hw.fuseDone then s
    else
      let (v, s) := s.fresh
      let k := 1 + v % (2 ^ 256 - 2)
      s.putFuse { s.fuse with keys := s.fuse.keys.set slot (if k < h then k else k + 1) }

/-- What SRAM keeps through a reset (R52): the log and capture memory, while `VDD_CORE` holds. -/
def keptCell (a : Nat) : Bool := inRegion captBase captSize a || inRegion logBase logSize a

/-- The registers and memories that a reset takes (R48, R52). -/
def State.dropMemories (s : State) (por coreLost : Bool) : State :=
  { s with
    regs := if por then [] else s.regs.filter (fun e => aonKey e.1)
    staged := []
    mem := if coreLost then [] else s.mem.filter (fun c => keptCell c.1)
    ecc := if coreLost then [] else s.ecc.filter (fun e => keptCell e.1) }

/-- Everything of the islands but their registers and memories takes its reset state. -/
def State.resetRest (s : State) (por coreLost : Bool) : State :=
  let d := s.sys
  { State.reset with
    now := s.now
    pending := s.pending
    regs := s.regs
    staged := s.staged
    mem := s.mem
    ecc := s.ecc
    hostOut := s.hostOut
    freeCtr := s.freeCtr
    fuse := s.fuse
    boot := .held
    meter := { fram := s.meter.fram, finalDone := s.meter.finalDone }
    canopyT := if por then { coarseAt := s.now } else
      { coarse := s.canopyT.coarse, coarseAt := s.canopyT.coarseAt, storedCorr := s.canopyT.storedCorr }
    sys := { d with
      inReset := true
      wdogExpired := none
      burlFaulty := false
      tampOwed := []
      lostWord := []
      coreLost := d.coreLost || coreLost
      aonLost := d.aonLost || por
      keptCause := if por then 0 else d.keptCause
      tampLocked := if por then [false, false] else d.tampLocked
      pllCell := List.replicate 8 .off
      pllGrid := .off
      pllSar := .off
      pllVod := .off
      pllHost := .off
      pllHw := .off } }

/-- Every island but the always-on one takes its reset state (R48, R52); a FRAM write in progress ends
(R320). -/
def State.resetIslands (s : State) (por coreLost : Bool) : State :=
  (s.cutFuse.abortWrite.resetRest por coreLost).dropMemories por coreLost

/-- No register holds a value of its own any more. -/
def State.dropRegs (s : State) : State := { s with regs := [] }

/-- No memory of `VDD_CORE` holds a value of its own any more. -/
def State.dropTables (s : State) : State :=
  let s := { s with mem := [] }
  { s with ecc := [] }

/-- A reset cause is asserted (R48, R53). An entry into reset counts once; a cause that joins while the
device is in reset is not counted. -/
def State.enterReset (s : State) (por coreLost : Bool) : State :=
  if s.sys.inReset then
    let s := if por then { s.dropRegs with canopyT := { coarseAt := s.now } } else s
    let s := if coreLost then s.dropTables else s
    s.modSys (fun d => { d with
      coreLost := d.coreLost || coreLost, aonLost := d.aonLost || por,
      keptCause := if por then 0 else d.keptCause,
      tampLocked := if por then [false, false] else d.tampLocked })
  else
    let s := s.modSys (fun d => { d with coreLost := false, aonLost := false, causes := {} })
    let s := s.resetIslands por coreLost
    if por then s else s.inc R.RSTPWR_RST_COUNT_COUNT

/-- A cause joins those present (R48). -/
def State.addCause (s : State) (f : Causes → Causes) : State :=
  s.modSys (fun d => { d with causes := f d.causes })

/-! ### Rails (R38, R40) -/

/-- The rail bit of `VDD_AON` in `RAIL_GOOD`. -/
def railAon : Nat := 2

/-- `RAIL_GOOD` bits of all six rails. -/
def State.rails (s : State) : Nat := s.get R.RSTPWR_PWR_STAT_RAIL_GOOD

/-- A filter in the always-on island has had `t` since its input last changed its recognised level (R40,
R48, R49): a shorter level is ignored. -/
def State.filterRan (s : State) (last : Option Nat) (t : Nat) : Bool :=
  match last with
  | none => true
  | some u => decide (u + t ≤ s.now)

/-- The monitor's filter has run since it last declared rail `r` good or bad (R40). -/
def State.railRan (s : State) (r : Nat) : Bool := s.filterRan (s.sys.railAt.getD r none) (us 2)

/-- The monitor of rail `r` declares a level now (R40). When it is `VDD_AON`'s, the other rails' filters start:
their thresholds apply only while that rail is good. -/
def State.railNoted (s : State) (r : Nat) : State :=
  s.modSys (fun d => { d with
    railAt := if r = railAon then List.replicate 6 (some s.now) else d.railAt.set r (some s.now) })

/-- RAIL_GOOD (R38, R40): a rail monitor declares its rail good; rails as the bits of `RAIL_GOOD`. -/
def execRailGood (dt : Nat) (r : Fin 6) (s : State) : Host.Outcome State Fault Refusal :=
  let s := s.elapse dt
  if (s.rails).testBit r ∨ (r.val ≠ railAon ∧ ¬ (s.rails).testBit railAon) ∨ ¬ s.railRan r then .next s
  else
    let s := (s.railNoted r).setMaskBit R.RSTPWR_PWR_STAT_RAIL_GOOD r
    let s := if s.rails = 63 then s.modSys (fun d => { d with railsGoodAt := s.now }) else s
    if r.val = railAon then
      let s := s.modSys (fun d => { d with aonGoodAt := s.now })
      .next (s.modCanopy (fun c => { c with coarse := 0, coarseAt := s.now }))
    else if s.sys.aonGoodAt + ms 10 < s.now then
      .next ((s.setB R.RSTPWR_PWR_STAT_SEQ_LATE true).modSys (fun d => { d with lateNew := true }))
    else .next s

/-- The rail of `RAIL_GOOD` and the bit of `BOR_RAIL` of a brown-out's rail: 0 `VDD_CORE`, 1 `VDD_SRD`,
2 `VDDA`, 3 `VDDIO`, 4 `VDD_SRH` (R53). -/
def borRail (r : Nat) : Nat := if r < 2 then r else r + 1

/-- BROWN_OUT_RESET (R40, R48, R52): a rail other than `VDD_AON` is declared bad. Monitors act only while
`VDD_AON` is good. -/
def execBrownOutReset (dt : Nat) (r : Fin 5) (s : State) : Host.Outcome State Fault Refusal :=
  let s := s.elapse dt
  if (s.rails).testBit railAon ∧ (s.rails).testBit (borRail r) ∧ s.railRan (borRail r) then
    let s := s.enterReset false (decide (r = 0))
    let s := (s.railNoted (borRail r)).putMaskBit R.RSTPWR_PWR_STAT_RAIL_GOOD (borRail r) false
    let s := (s.setB R.RSTPWR_RST_CAUSE_BOR true).setMaskBit R.RSTPWR_RST_CAUSE_BOR_RAIL r
    .next (s.addCause (fun c => { c with bor := true }))
  else .next s

/-- POWER_ON_RESET (R40, R48, R52, R53): `VDD_AON` is declared bad; every rail is then to be declared
good anew, and the crystal too. A pin or test level that is present stays a cause (log entry 72). -/
def execPowerOnReset (dt : Nat) (s : State) : Host.Outcome State Fault Refusal :=
  let s := s.elapse dt
  if (s.rails).testBit railAon ∧ ¬ s.railRan railAon then .next s
  else
    let s := s.modSys (fun d => { d with xtalGood := false, xtalStopAt := none, lateNew := false })
    let held := s.sys.causes
    let s := s.enterReset true true
    let s := (s.set R.RSTPWR_PWR_STAT_RAIL_GOOD 0).setB R.RSTPWR_PWR_STAT_AON_XTAL false
    let s := (s.setB R.RSTPWR_RST_CAUSE_PIN held.pin).setB R.RSTPWR_RST_CAUSE_TEST held.test
    .next ((s.railNoted railAon).modSys (fun d =>
      { d with causes := { por := true, pin := held.pin, test := held.test } }))

/-! ### Crystal (R42, R43, R46) -/

/-- XTAL_GOOD (R42, R53): the crystal is declared good. -/
def execXtalGood (dt : Nat) (s : State) : Host.Outcome State Fault Refusal :=
  let s := s.elapse dt
  if (s.rails).testBit railAon then
    let s := s.modSys (fun d => { d with xtalGood := true })
    .next ((s.setB R.CLK_PLL_STAT_XTAL_GOOD true).setB R.RSTPWR_PWR_STAT_AON_XTAL true)
  else .next s

/-- XTAL_LOSS (R46): the crystal stops. While the device runs, every crystal-derived island loses its
clock, Burl enters its safe state, and the reset follows 1 ms later. -/
def execXtalLoss (dt : Nat) (s : State) : Host.Outcome State Fault Refusal :=
  let s := s.elapse dt
  if s.sys.xtalGood then
    let s := s.modSys (fun d => { d with xtalGood := false })
    let s := (s.setB R.CLK_PLL_STAT_XTAL_GOOD false).setB R.RSTPWR_PWR_STAT_AON_XTAL false
    if s.sys.inReset then .next s
    else
      let s := s.modSys (fun d => { d with xtalStopAt := some s.now })
      let s := ((List.range 13).filter (fun i => decide (s.sys.pll i = .locked))).foldl
        (fun t i => t.clockStops i) s
      .next (s.burlSafe 1 18)
  else .next s

/-- XTAL_LOSS_RESET (R46): 1 ms after the crystal stopped, the internal reset is asserted. -/
def execXtalLossReset (dt : Nat) (s : State) : Host.Outcome State Fault Refusal :=
  let s := s.elapse dt
  match s.sys.xtalStopAt with
  | none => .next s
  | some t =>
    if t + ms 1 ≤ s.now then
      let s := (s.enterReset false false).setB R.RSTPWR_RST_CAUSE_XTAL_LOSS true
      .next ((s.addCause (fun c => { c with xtal := true })).modSys (fun d => { d with xtalStopAt := none }))
    else .next s

/-! ### Pins and watchdog -/

/-- PIN_RESET (R49, R53): `RESET_N` is recognised low. -/
def execPinReset (dt : Nat) (s : State) : Host.Outcome State Fault Refusal :=
  let s := s.elapse dt
  if s.sys.causes.pin ∨ ¬ s.filterRan s.sys.pinAt (us 9) then .next s
  else
    let s := (s.enterReset false false).setB R.RSTPWR_RST_CAUSE_PIN true
    .next ((s.addCause (fun c => { c with pin := true })).modSys (fun d => { d with pinAt := some s.now }))

/-- PIN_RESET_RELEASE (R49): `RESET_N` is recognised high. -/
def execPinResetRelease (dt : Nat) (s : State) : Host.Outcome State Fault Refusal :=
  let s := s.elapse dt
  if s.sys.causes.pin ∧ s.filterRan s.sys.pinAt (us 9) then
    .next ((s.addCause (fun c => { c with pin := false })).modSys (fun d => { d with pinAt := some s.now }))
  else .next s

/-- TEST_RESET (R48, R53): `TEST_EN` is recognised high. -/
def execTestReset (dt : Nat) (s : State) : Host.Outcome State Fault Refusal :=
  let s := s.elapse dt
  if s.sys.causes.test ∨ ¬ s.filterRan s.sys.testAt (us 9) then .next s
  else
    let s := (s.enterReset false false).setB R.RSTPWR_RST_CAUSE_TEST true
    .next ((s.addCause (fun c => { c with test := true })).modSys (fun d => { d with testAt := some s.now }))

/-- TEST_RESET_RELEASE (R48): `TEST_EN` is recognised low. -/
def execTestResetRelease (dt : Nat) (s : State) : Host.Outcome State Fault Refusal :=
  let s := s.elapse dt
  if s.sys.causes.test ∧ s.filterRan s.sys.testAt (us 9) then
    .next ((s.addCause (fun c => { c with test := false })).modSys (fun d => { d with testAt := some s.now }))
  else .next s

/-- A time that Burl counts, at the fast end of its RC's ±3 %. -/
def burlTime (t : Nat) : Nat := t * 97 / 100

/-- WATCHDOG_EXPIRY (R51, R320): no service within `TIMEOUT_MS`. The time counts from the end of the boot's
own work, when Heartwood's frames begin (log entry 72). -/
def execWatchdogExpiry (dt : Nat) (s : State) : Host.Outcome State Fault Refusal :=
  let s := s.elapse dt
  if (s.boot = .ready ∨ s.boot = .done) ∧ s.sys.wdogExpired = none
      ∧ s.sys.wdogServed + burlTime (ms (s.get R.RSTPWR_WDOG_CFG_TIMEOUT_MS)) ≤ s.now then
    let s := s.modSys (fun d => { d with wdogExpired := some s.now })
    .next (s.burlSafe 2).finalSave
  else .next s

/-- WATCHDOG_RESET (R48, R51): 1 ms after the expiry. -/
def execWatchdogReset (dt : Nat) (s : State) : Host.Outcome State Fault Refusal :=
  let s := s.elapse dt
  match s.sys.wdogExpired with
  | none => .next s
  | some t =>
    if t + burlTime (ms 1) ≤ s.now then
      let s := (s.enterReset false false).setB R.RSTPWR_RST_CAUSE_WDOG true
      .next ((s.addCause (fun c => { c with wdog := true })).modSys (fun d => { d with wdogResetAt := s.now }))
    else .next s

/-! ### Release -/

/-- Every cause present is released (R48): the supplies good for 1 ms, the watchdog's after 1 ms, the
pins recognised; and the crystal good (R43). -/
def State.mayRelease (s : State) : Bool :=
  let c := s.sys.causes
  s.sys.xtalGood && !c.pin && !c.test
    && (!c.wdog || decide (s.sys.wdogResetAt + ms 1 ≤ s.now))
    && (!(c.por || c.bor) || (decide (s.rails = 63) && decide (s.sys.railsGoodAt + ms 1 ≤ s.now)))

/-- The registers that show the fuses (R74, R87). -/
def State.fuseShow (s : State) : State :=
  let s := (s.set R.BOOT_DEV_SERIAL_LO_SERIAL (s.fuse.serial % 2 ^ 32)).set
    R.BOOT_DEV_SERIAL_HI_SERIAL (s.fuse.serial / 2 ^ 32)
  let prog := (List.range 4).foldl (fun m i => if s.fuse.keys.getD i 0 ≠ 0 then m + 2 ^ i else m) 0
  let s := (s.set R.BOOT_KEY_FUSE_PROG prog).set R.BOOT_KEY_FUSE_REVOKED s.fuse.revoked
  s.set R.ID_STEPPING_STEP s.fuse.step

/-- Canopy time restarts (R32, R491): from 0 after a power-on reset, else from the coarse count with the
stored correction, in holdover. -/
def State.canopyRestart (s : State) : State :=
  if s.sys.aonLost then { s with canopyT := { t0 := s.now, coarse := s.canopyT.coarse, coarseAt := s.canopyT.coarseAt } }
  else
    let c := s.canopyT
    let base : Rat := (s.coarseNow : Rat) * 1000000000 / 32768
    let s := { s with canopyT :=
      { t0 := s.now, base := base, y := (c.storedCorr : Rat) / 1024000,
        coarse := c.coarse, coarseAt := c.coarseAt, storedCorr := c.storedCorr } }
    let s := (s.setI R.CANOPY_FREQ_CORR c.storedCorr).setB R.CANOPY_STATUS_HOLDOVER true
    s.inc R.CANOPY_CNT_REJ_HOLDOVERS

/-- The level of `PFW_N`, ignored in reset (R34), is seen again: `PFW` and the save engine follow it (R53,
R319). -/
def State.pinsSeen (s : State) : State :=
  (s.setB R.RSTPWR_PWR_STAT_PFW s.sys.pfwLow).modMeter (fun d => { d with stopped := s.sys.pfwLow })

/-- RESET_RELEASE (R44, R48, R60, R491): Burl runs, the Heartwood and host PLLs start, Canopy time
restarts and the boot begins. -/
def execResetRelease (dt : Nat) (s : State) : Host.Outcome State Fault Refusal :=
  let s := s.elapse dt
  if s.sys.inReset ∧ s.mayRelease then
    let s := s.modSys (fun d => { d with
      inReset := false, causes := {}, releasedAt := s.now,
      pllHost := .starting, pllHw := .starting })
    let s := { s with boot := .started }
    let s := s.canopyRestart.fuseShow.pinsSeen
    .next (s.setB R.CLK_PLL_STAT_XTAL_GOOD true)
  else .next s

end Sys2Proof.Machine
end

