-- ==== Sys2Proof/Machine/Sha.lean ====
section
/-! DEFINITION. SHA-256 (FIPS 180-4) on a list of bytes (R67). -/

namespace Sys2Proof.Machine

/-- The primes below 312, of which there are 64. -/
def shaPrimes : List Nat :=
  (List.range 312).filter (fun p => decide (2 ≤ p) && (List.range p).all (fun d => decide (d < 2) || decide (p % d ≠ 0)))

/-- The first 32 bits of the fractional part of the `e`-th root of `p`, for a root below 16: the root of
`p * 2 ^ (32 * e)` found from its highest bit down. -/
def shaFraction (e p : Nat) : Nat :=
  let root := (List.range 36).foldl
    (fun r i => if (r + 2 ^ (35 - i)) ^ e ≤ p * 2 ^ (32 * e) then r + 2 ^ (35 - i) else r) 0
  root % 4294967296

/-- The round constants: of the cube roots of the first 64 primes. -/
def shaK : List Nat := shaPrimes.map (shaFraction 3)

/-- The initial hash value: of the square roots of the first 8 primes. -/
def shaInit : List Nat := (shaPrimes.take 8).map (shaFraction 2)

/-- A 32-bit sum. -/
def add32 (a b : Nat) : Nat := (a + b) % 4294967296
/-- A 32-bit rotation to the right. -/
def rotr32 (n x : Nat) : Nat := (x >>> n) ||| ((x <<< (32 - n)) % 4294967296)

/-- One more word of the message schedule, newest first. -/
def shaNext (w : List Nat) : List Nat :=
  let x := w.getD 14 0
  let y := w.getD 1 0
  let s0 := rotr32 7 x ^^^ rotr32 18 x ^^^ (x >>> 3)
  let s1 := rotr32 17 y ^^^ rotr32 19 y ^^^ (y >>> 10)
  add32 (add32 (w.getD 15 0) s0) (add32 (w.getD 6 0) s1) :: w

/-- The message schedule of a block of 64 bytes. -/
def shaSchedule (b : List Nat) : List Nat :=
  let w := ((List.range 16).map (fun i => beNat (slice b (4 * i) 4))).reverse
  ((List.range 48).foldl (fun w _ => shaNext w) w).reverse

/-- One round. -/
def shaRound (h : List Nat) (kw : Nat × Nat) : List Nat :=
  let g (i : Nat) : Nat := h.getD i 0
  let e := g 4
  let a := g 0
  let s1 := rotr32 6 e ^^^ rotr32 11 e ^^^ rotr32 25 e
  let ch := (e &&& g 5) ^^^ ((4294967295 - e) &&& g 6)
  let t1 := add32 (add32 (g 7) s1) (add32 ch (add32 kw.1 kw.2))
  let s0 := rotr32 2 a ^^^ rotr32 13 a ^^^ rotr32 22 a
  let maj := (a &&& g 1) ^^^ (a &&& g 2) ^^^ (g 1 &&& g 2)
  [add32 t1 (add32 s0 maj), a, g 1, g 2, add32 (g 3) t1, e, g 5, g 6]

/-- One block taken into the hash, with the round constants `k`. -/
def shaBlock (k h b : List Nat) : List Nat :=
  let r := (k.zip (shaSchedule b)).foldl shaRound h
  (h.zip r).map (fun p => add32 p.1 p.2)

/-- The padded message. -/
def shaPad (l : List Nat) : List Nat :=
  l ++ [0x80] ++ List.replicate ((119 - l.length % 64) % 64) 0 ++ bytesBE 8 (8 * l.length)

/-- The blocks of a padded message, at most `n` of them. -/
def shaBlocks (k : List Nat) : Nat → List Nat → List Nat → List Nat
  | 0, _, h => h
  | n + 1, l, h => if l = [] then h else shaBlocks k n (l.drop 64) (shaBlock k h (l.take 64))

/-- The digest, byte 0 first. -/
def sha256 (l : List Nat) : List Nat :=
  let p := shaPad l
  (shaBlocks shaK (p.length / 64) p shaInit).flatMap (bytesBE 4)

end Sys2Proof.Machine
end

