-- ==== Sys2Proof/Machine/BootImage.lean ====
section
/-! DEFINITION. The protection image and the table image: form and checks (R58 to R73, R247, R400, R410,
R463). -/

namespace Sys2Proof.Machine

/-! ### Protection image records (R64, R65) -/

/-- A record of the protection image. -/
inductive ImgRec where
  | regs (l : List (Nat × Nat))
  | load (addr : Nat) (data : List Nat)
  | name
  deriving DecidableEq, Repr

/-- The (address, value) pairs of a payload, at most `n`. -/
def regPairs : Nat → List Nat → List (Nat × Nat)
  | 0, _ => []
  | n + 1, l => if l = [] then [] else (leAt l 0 4, leAt l 4 4) :: regPairs n (l.drop 8)

/-- One record of a type with its payload; none if it is not well formed (R64). -/
def imgRec (ty : Nat) (l : List Nat) : Option ImgRec :=
  let n := l.length
  if ty = 1 then (if n ≠ 0 ∧ n % 8 = 0 then some (.regs (regPairs n l)) else none)
  else if ty = 2 then (if 4 ≤ n ∧ (n - 4) % 8 = 0 then some (.load (leAt l 0 4) (l.drop 4)) else none)
  else if ty = 3 then
    let text := l.takeWhile (fun b => decide (0x20 ≤ b) && decide (b ≤ 0x7E))
    if 4 ≤ n ∧ n ≤ 32 ∧ text ≠ [] ∧ (l.drop text.length).all (fun b => decide (b = 0)) then some .name
    else none
  else none

/-- The records that fill a byte string exactly, at most `n`; none if one is not well formed (R64). -/
def imgRecs : Nat → List Nat → Option (List ImgRec)
  | 0, l => if l = [] then some [] else none
  | n + 1, l =>
    if l = [] then some []
    else
      let len := leAt l 2 2
      if l.length < 4 + len ∨ l.length < 4 ∨ len % 4 ≠ 0 then none
      else
        match imgRec (leAt l 0 2) (slice l 4 len), imgRecs n (l.drop (4 + len)) with
        | some r, some rs => some (r :: rs)
        | _, _ => none

/-- The register writes of the records. -/
def imgRegs (l : List ImgRec) : List (Nat × Nat) :=
  l.flatMap (fun r => match r with | .regs p => p | _ => [])
/-- The table loads of the records. -/
def imgLoads (l : List ImgRec) : List (Nat × List Nat) :=
  l.flatMap (fun r => match r with | .load a d => [(a, d)] | _ => [])

/-- The fields of the register at an address. -/
def regFieldsAt (a : Nat) : List Reg :=
  if a % 4 = 0 ∧ a < 0x100000 then (pageFields (a / 4096)).filter (fun r => decide (r.ofs = a % 4096))
  else []

/-- First address of the locked region, and the end of table memory (R70). -/
def lockedBase : Nat := 0x01160000
def tableEnd : Nat := 0x01180000

/-- Two byte ranges overlap. -/
def overlaps (a n b m : Nat) : Bool := decide (a < b + m) && decide (b < a + n) && decide (n ≠ 0) && decide (m ≠ 0)

/-- No two loads overlap. -/
def loadsApart : List (Nat × List Nat) → Bool
  | [] => true
  | (a, d) :: t => t.all (fun e => !overlaps a d.length e.1 e.2.length) && loadsApart t

/-- Check 12: the addresses are allowed (R65). -/
def imgAddrs (l : List ImgRec) : Bool :=
  (imgRegs l).all (fun e => (regFieldsAt e.1).any (fun r => r.acc = .bo))
    && decide ((imgRegs l).map Prod.fst).Nodup
    && (imgLoads l).all (fun e => decide (e.1 % 8 = 0) && decide (lockedBase ≤ e.1)
        && decide (e.1 + e.2.length ≤ tableEnd))
    && loadsApart (imgLoads l)

/-- The value of a write keeps to the BO fields and their ranges (R65). -/
def imgValue (e : Nat × Nat) : Bool :=
  let bo := (regFieldsAt e.1).filter (fun r => r.acc = .bo)
  let mask := bo.foldl (fun m r => m + (2 ^ r.width - 1) * 2 ^ r.lo) 0
  decide (e.2 &&& mask = e.2)
    && bo.all (fun r => let v := bitsOf e.2 r.lo r.width; decide (r.mn ≤ v) && decide (v ≤ r.mx))

/-- The BO fields written by boot (R74). -/
def State.writeBo (s : State) (l : List (Nat × Nat)) : State :=
  l.foldl (fun t e =>
    ((regFieldsAt e.1).filter (fun r => r.acc = .bo)).foldl
      (fun u r => u.setBoot r (bitsOf e.2 r.lo r.width)) t) s

/-! ### Rejected combinations (reason 0x0D) -/

/-- The pairs a used safety function names (R397). -/
def State.namedPairs (s : State) (f : Nat) : List Nat :=
  let t := s.get (R.SAFE_FUNC_TYPE f)
  if t = 0 then []
  else if t = 3 then [s.get (R.SAFE_FUNC_PAIR_A f), s.get (R.SAFE_FUNC_PAIR_B f)]
  else [s.get (R.SAFE_FUNC_PAIR_A f)]

/-- The safety settings are rejected (R400). -/
def State.badSafety (s : State) : Bool :=
  let ty (f : Nat) : Nat := s.get (R.SAFE_FUNC_TYPE f)
  let single (f : Nat) : Bool := decide (ty f ≠ 0) && decide (ty f ≠ 3)
  (List.range 8).any (fun f => decide (ty f = 1) && s.flag (R.SAFE_FUNC_RESET f))
    || (List.range 8).any (fun f => decide (ty f = 3)
        && decide (s.get (R.SAFE_FUNC_PAIR_A f) = s.get (R.SAFE_FUNC_PAIR_B f)))
    || (List.range 8).any (fun f => (s.namedPairs f).any (fun p =>
        decide (12 ≤ p) && !s.flag (R.SAFE_VIN_CFG_EN (p - 12))))
    || (List.range 4).any (fun n => s.flag (R.SAFE_OUTCFG_TP_EN n)
        && decide (s.get (R.SAFE_OUTCFG_TP_WIDTH n) ≤ s.get (R.SAFE_OUTCFG_RB_US n)))
    || (List.range 8).any (fun f => (List.range 8).any (fun g =>
        decide (f < g) && single f && single g && decide (s.get (R.SAFE_FUNC_PAIR_A f) < 12)
          && decide (s.get (R.SAFE_FUNC_PAIR_A f) = s.get (R.SAFE_FUNC_PAIR_A g))))

/-- The arm assignment breaks R27 (R247). -/
def State.badArms (s : State) : Bool :=
  let used (i : Nat) : Bool := s.roleInUse i
  let valid (x : Nat) : Bool := s.flag (R.ARM_CH_ASSIGN_VALID x)
  let arm (x : Nat) : Nat := s.get (R.ARM_CH_ASSIGN_ARM_ID x)
  decide (2 < s.servedArms.length)
    || (List.range 8).any (fun x => (List.range 8).any (fun y =>
        decide (x < y) && valid x && valid y && decide (arm x = arm y)
          && decide (s.get (R.ARM_CH_ASSIGN_POS x) = s.get (R.ARM_CH_ASSIGN_POS y))))
    || s.servedArms.any (fun a => !(List.range 2).any (fun i =>
        used i && decide (s.get (R.ARM_ROLE_CFG_ARM_ID i) = a)))
    || (used 0 && used 1 && (List.range 2).all (fun i => decide (s.get (R.ARM_ROLE_CFG_ROLE i) ≠ 0)))
    || (!used 1 && decide (s.wordOf pgArm 0x064 ≠ 0))

/-- The Gylen connections are rejected (R410, R463). -/
def State.badGylen (s : State) : Bool :=
  let en (n : Nat) : Bool := s.flag (R.GYLEN_CCFG_EN n)
  let id (n : Nat) : Nat := s.get (R.GYLEN_CID_ID n)
  (List.range 16).any (fun n => en n && decide (id n = 0))
    || (List.range 16).any (fun n => (List.range 16).any (fun m =>
        decide (n < m) && en n && en m && decide (id n = id m)))
    || (List.range 16).any (fun n => en n && s.flag (R.GYLEN_CCFG_ETH n) && !s.flag R.ETH_CFG_EN)

/-- A field lies outside a range that another field of its register sets, or outside a range with a gap:
`EXIT` against `ENTER` (R301), `VOTE_N` and `ON_MS` (R302), `GADDR` (R340). -/
def State.badRanges (s : State) : Bool :=
  let gaddr (i : Nat) : Nat := s.get (R.VODOR_GROUP_GADDR i)
  decide (s.get R.RIDE_LV_CFG_EXIT < s.get R.RIDE_LV_CFG_ENTER)
    || decide (s.get R.RIDE_HV_CFG_ENTER < s.get R.RIDE_HV_CFG_EXIT)
    || decide (s.get R.ISLAND_METHOD_VOTE_N = 1)
    || (decide (s.get R.ISLAND_METHOD_VOTE_N = 0) && decide (s.get R.ISLAND_METHOD_VOTE ≠ 0))
    || decide (s.get R.ISLAND_ACT_CFG_EP_MS < s.get R.ISLAND_ACT_CFG_ON_MS)
    || (List.range 4).any (fun i => decide (gaddr i ≠ 0)
        && (decide (gaddr i < 0x3000) || decide (0x3FFE < gaddr i)))

/-- A combination that a chapter rejects with reason 0x0D is present (R65, R76, R331). -/
def State.badCombination (s : State) : Bool :=
  decide (s.get R.BOOT_DEBUG_CFG_LEVEL = 3) || decide (s.get R.VODOR_RING_CFG_VER_EN % 2 = 0)
    || s.badRanges || s.badSafety || s.badArms || s.badGylen

/-! ### The checks of R67 -/

/-- A byte string as a big-endian number. -/
def beAt (l : List Nat) (o n : Nat) : Nat := beNat (slice l o n)

/-- What the checks find: the first failing reason, or 0; the digest, once checks 1 to 4 have passed; the
records of an image that passes. -/
structure ImgVerdict where
  reason : Nat
  digest : Option (List Nat)
  recs : List ImgRec
  deriving DecidableEq, Repr

/-- Length of the protection image area (R58). -/
def protLen : Nat := 65536

/-- Checks 11 to 14 of R67. -/
def State.imgContents (s : State) (b : List Nat) (n : Nat) : Nat × List ImgRec :=
  match imgRecs n (slice b 0x80 (n - 192)) with
  | none => (0x0B, [])
  | some l =>
    if 1 < l.countP (fun r => decide (r = .name)) then (0x0B, [])
    else if !imgAddrs l then (0x0C, [])
    else if !(imgRegs l).all imgValue || (s.writeBo (imgRegs l)).badCombination then (0x0D, [])
    else if (b.getD 0x0D 0).testBit (b.getD 0x0C 0) then (0x0F, [])
    else (0, l)

/-- Checks 5 to 14 of R67. -/
def State.imgSigned (s : State) (b : List Nat) (n : Nat) (digest : List Nat) : Nat × List ImgRec :=
  let slot := b.getD 0x0C 0
  let pub := slice b 0x40 64
  let key := (beAt b 0x40 32, beAt b 0x60 32)
  if b.getD 0x0F 0 ≠ 1 then (0x0A, [])
  else if s.fuse.keys.getD slot 0 = 0 then (0x05, [])
  else if s.fuse.revoked.testBit slot then (0x06, [])
  else if leNat (sha256 pub) ≠ s.fuse.keys.getD slot 0 ∨ onCurve key = false then (0x07, [])
  else if ecdsaVerify key (beNat digest) (beAt b (n - 64) 32) (beAt b (n - 32) 32) = false then (0x08, [])
  else if leAt b 0x10 8 ≠ 0 ∧ leAt b 0x10 8 ≠ s.fuse.serial then (0x09, [])
  else s.imgContents b n

/-- Checks 1 to 14 of R67 on the 65,536 bytes read. -/
def State.imgCheck (s : State) (b : List Nat) : ImgVerdict :=
  let n := leAt b 8 4
  if s.fuse.readErr then ⟨0x0E, none, []⟩
  else if b.all (fun x => decide (x = 0)) || (decide (protLen ≤ b.length) && b.all (fun x => decide (x = 255)))
    then ⟨0x01, none, []⟩
  else if leAt b 0 4 ≠ 0x5042544F then ⟨0x02, none, []⟩
  else if leAt b 4 2 ≠ 1 ∨ leAt b 6 2 ≠ 0x80 ∨ b.getD 0x0E 0 ≠ 8 ∨ 3 < b.getD 0x0C 0
      ∨ 15 < b.getD 0x0D 0 ∨ (slice b 0x1C 36).all (fun x => decide (x = 0)) = false
    then ⟨0x03, none, []⟩
  else if n < 256 ∨ protLen < n ∨ n % 4 ≠ 0 then ⟨0x04, none, []⟩
  else
    let digest := sha256 (slice b 0 (n - 64))
    let (r, l) := s.imgSigned b n digest
    ⟨r, some digest, l⟩

/-! ### Table image (R70 to R72) -/

/-- The rewritable areas: first address, size, `TBL_VALID` bit (R70). -/
def areas : List (Nat × Nat × Nat) :=
  (List.range 8).map (fun x => (0x01000000 + x * 0x20000, 0x20000, x))
  ++ (List.range 8).map (fun x => (0x01100000 + x * 0x2000, 0x2000, 8 + x))
  ++ [(0x01110000, 0x20000, 16)]
  ++ (List.range 8).map (fun x => (0x01130000 + x * 0x4000, 0x4000, 17 + x))

/-- A section descriptor: address, length, offset, CRC (R71). -/
structure Section where
  addr : Nat
  len : Nat
  ofs : Nat
  crc : Nat
  deriving DecidableEq, Repr

/-- The sections a table image lists, at most `n`. -/
def sectionsOf (b : List Nat) (n : Nat) : List Section :=
  (List.range n).map (fun k =>
    let o := 0x20 + 16 * k
    ⟨leAt b o 4, leAt b (o + 4) 4, leAt b (o + 8) 4, leAt b (o + 12) 4⟩)

/-- The header of a table image is well formed and its CRC holds (R71). -/
def tableHeaderOk (b : List Nat) : Bool :=
  let k := leAt b 6 2
  let n := leAt b 8 4
  decide (leAt b 0 4 = 0x5442544F) && decide (leAt b 4 2 = 1) && decide (1 ≤ k) && decide (k ≤ 256)
    && decide (n ≤ 1572864) && decide (32 + 16 * k ≤ n)
    && (slice b 0x0C 16).all (fun x => decide (x = 0))
    && decide (crc32c (slice b 0 0x1C ++ slice b 0x20 (16 * k)) = leAt b 0x1C 4)

/-- The section keeps the rules of R71 and R72, after the sections `before` it. -/
def sectionOk (b : List Nat) (n : Nat) (before : List Section) (c : Section) : Bool :=
  decide (c.addr % 8 = 0) && decide (c.len % 8 = 0) && decide (c.ofs + c.len ≤ n)
    && areas.any (fun a => decide (a.1 ≤ c.addr) && decide (c.addr + c.len ≤ a.1 + a.2.1)
        && decide (c.addr < a.1 + a.2.1))
    && decide (crc32c (slice b c.ofs c.len) = c.crc)
    && before.all (fun e => !overlaps c.addr c.len e.addr e.len)

/-- The `TBL_VALID` bits of the areas that a section's range touches. -/
def areasTouched (c : Section) : List Nat :=
  (areas.filter (fun a => overlaps c.addr c.len a.1 a.2.1
    || (decide (c.len = 0) && decide (a.1 ≤ c.addr) && decide (c.addr < a.1 + a.2.1)))).map (fun a => a.2.2)

/-- The sections loaded in turn: the state, the areas loaded, the areas failed, any failure. -/
def loadSections (b : List Nat) (n : Nat) : List Section → List Section → State →
    State × List Nat × List Nat × Bool
  | _, [], s => (s, [], [], false)
  | before, c :: cs, s =>
    if sectionOk b n before c then
      let s := { s with mem := s.mem.putBytes c.addr (slice b c.ofs c.len) }
      let (s, l, f, e) := loadSections b n (c :: before) cs s
      (s, areasTouched c ++ l, f, e)
    else
      let (s, l, f, _) := loadSections b n (c :: before) cs s
      (s, l, areasTouched c ++ f, true)

end Sys2Proof.Machine
end

