-- ==== Sys2Proof/Machine/Gylen.lean ====
section
/-! DEFINITION. The Gylen layer (R409 to R419): receiving, watchdogs, producing, the second check. -/

namespace Sys2Proof.Machine

/-- Connection states of R410. -/
def gsOff : Nat := 0
def gsWait : Nat := 1
def gsRun : Nat := 2
def gsFailed : Nat := 3

/-- Connection `n`. -/
def State.conn (s : State) (n : Nat) : GylSt := s.gyl.getD n {}
/-- Connection `n` changed. -/
def State.setConn (s : State) (n : Nat) (f : GylSt → GylSt) : State :=
  { s with gyl := s.gyl.modify n f }
/-- The connection's state. -/
def State.connState (s : State) (n : Nat) : Nat := s.get (R.GYLEN_CSTAT_STATE n)

/-- The connection's state written, with `ANY_FAILED` (R421). -/
def State.setConnState (s : State) (n st : Nat) : State :=
  let s := s.set (R.GYLEN_CSTAT_STATE n) st
  s.setB R.GYLEN_STATUS_ANY_FAILED ((List.range 16).any (fun k =>
    s.flag (R.GYLEN_CCFG_EN k) && decide (s.connState k = gsFailed)))

/-- A virtual pair is fed by the connection (R418). -/
def State.feedsPairs (s : State) (n : Nat) : Bool :=
  (List.range 4).any (fun v => s.flag (R.SAFE_VIN_CFG_EN v) && decide (s.get (R.SAFE_VIN_CFG_CONN v) = n))

/-- Burl evaluates the virtual pairs that the connection feeds; Heartwood does so in its next safety slice
(R388). -/
def State.evalVirtual (s : State) (n : Nat) : State :=
  if s.feedsPairs n then s.evalBurl else s

/-- The connection is the transfer trip connection (R296). -/
def State.isTripConn (s : State) (n : Nat) : Bool :=
  decide (s.get (R.GYLEN_CID_ID n) = s.get R.ISLAND_TT_CONN_ID)
    && decide (s.get (R.GYLEN_CID_ID n) ≠ 0)

/-- A consumer enters FAILED and takes its safe reaction (R414, R415). Frames that await the second
check are dropped with it. `expired` tells a watchdog expiry. -/
def State.gylFail (s : State) (n : Nat) (expired : Bool) : State :=
  if s.connState n = gsFailed then s
  else
    let s := (s.setConnState n gsFailed).irqLog pgGylen 0 1
    let s := s.setConn n (fun g => { g with runHt := false, second := [], diffRun := 0 })
    let s := s.evalVirtual n
    if expired && s.isTripConn n then s.ttLost else s

/-- The CRC of a frame for connection `n` (R412). -/
def State.gylCrc (s : State) (n : Nat) (payload : List Nat) (seq : Nat) : Nat :=
  crc32c (payload ++ bytesLE 4 (s.get (R.GYLEN_CID_ID n)) ++ bytesLE 2 seq)

/-- The application payload of a frame. -/
def gylPayload (l : List Nat) : List Nat := slice l 12 (l.getD 3 0)
/-- The sequence number of a frame. -/
def gylSeq (l : List Nat) : Nat := leAt l 8 2

/-- The frame has no frame error on connection `n` (R411 to R413, R296). -/
def State.gylFrameOk (s : State) (n : Nat) (l : List Nat) : Bool :=
  let len := l.getD 3 0
  let pl := gylPayload l
  decide (l.getD 2 0 = 1) && decide (2 ≤ len) && decide (len ≤ 240) && decide (l.length = len + 16)
    && decide (leAt l 10 2 = 0) && decide (leAt l (12 + len) 4 = s.gylCrc n pl (gylSeq l))
    && !(s.isTripConn n && decide (leAt pl 0 2 = 0x0B01) && !ttValid pl)

/-- The sequence lies in the window after `last` (R413). -/
def State.gylInWindow (s : State) (n last seq : Nat) : Bool :=
  let d := (seq + 65536 - last % 65536) % 65536
  decide (1 ≤ d) && decide (d ≤ s.get (R.GYLEN_CCHK_SEQ_WIN n))

/-- The errors of the last 1,000 ms shown (R415, R421). -/
def State.gylErrs (s : State) (n : Nat) : State :=
  let s := s.setConn n (fun g => { g with
    errs := g.errs.filter (fun t => decide (s.now < t + ms 1000)) })
  s.setSat (R.GYLEN_CSTAT_ERRS n) (s.conn n).errs.length

/-- A frame or sequence error (R413, R415). -/
def State.gylError (s : State) (n : Nat) (crc : Bool) : State :=
  let s := if crc then (s.inc (R.GYLEN_CERR_CRC n)).irq pgGylen 2
    else (s.inc (R.GYLEN_CERR_SEQ n)).irq pgGylen 3
  let s := (s.setConn n (fun g => { g with errs := s.now :: g.errs })).gylErrs n
  if s.get (R.GYLEN_CCHK_ERR_MAX n) < (s.conn n).errs.length ∧ s.connState n ≠ gsFailed then
    (s.irq pgGylen 4).gylFail n false
  else s

/-- A frame accepted by the hardware checker (R413, R414, R418, R419). -/
def State.gylAccept (s : State) (n : Nat) (l : List Nat) : State :=
  let pl := gylPayload l
  let was := s.connState n
  let s := s.set (R.GYLEN_CSTAT_SEQ n) (gylSeq l)
  let s := s.setConn n (fun g => { g with last := s.now, dataHw := pl })
  let s := (List.range 8).foldl (fun t i => t.set (R.GYLEN_RX_DATA_DATA (8 * n + i)) (leAt pl (4 * i) 4)) s
  let s := s.setConnState n gsRun
  let s := if was = gsFailed then s.irq pgGylen 1 else s
  let s : State :=
    match dlPair pgGylen (0x050 + 0x20 * n) with
    | some d => s.dlMeet d
    | none => s
  let s := s.evalVirtual n
  if s.isTripConn n ∧ leAt pl 0 2 = 0x0B01 then s.setIsl (fun d => { d with ttIn := d.ttIn ++ [pl] })
  else s

/-- The enabled consumer a frame belongs to (R413); a connection that is OFF takes none (R410). -/
def State.gylMatch (s : State) (src : Nat) (l : List Nat) : Option Nat :=
  if l.length < 8 then none
  else (List.range 16).find? (fun n =>
    s.flag (R.GYLEN_CCFG_EN n) && !s.flag (R.GYLEN_CCFG_DIR n) && decide (s.connState n ≠ gsOff)
      && decide (s.get (R.GYLEN_CID_ID n) = leAt l 4 4) && decide (s.get (R.GYLEN_CCFG_NODE n) = src))

/-- The watchdog of consumer `n` has run out (R414): the cycle in which it expires, where a frame would still
win, has passed (R419). -/
def State.gylExpired (s : State) (n : Nat) : Bool :=
  s.flag (R.GYLEN_CCFG_EN n) && !s.flag (R.GYLEN_CCFG_DIR n)
    && (decide (s.connState n = gsWait) || decide (s.connState n = gsRun))
    && decide (PageIsland.vodor.cycle ((s.conn n).last + ms (s.get (R.GYLEN_DL_LIMIT_LIMIT n)))
      < PageIsland.vodor.cycle s.now)

/-- The expiry of a consumer's watchdog (R95, R414). -/
def State.gylWatchdog (s : State) (n : Nat) : State :=
  match dlPair pgGylen (0x050 + 0x20 * n) with
  | some d => ((s.dlMiss d).1).gylFail n true
  | none => s

/-- A Gylen frame reaches the checker (R413); Heartwood gets its copy (R415). -/
def State.gylReceive (s : State) (src : Nat) (l : List Nat) : State :=
  match s.gylMatch src l with
  | none => s.err pgGylen
  | some n =>
    let s := if s.gylExpired n then s.gylWatchdog n else s
    let first := decide (s.connState n ≠ gsRun)
    let good := s.gylFrameOk n l
    let inWin := first || s.gylInWindow n (s.get (R.GYLEN_CSTAT_SEQ n)) (gylSeq l)
    let s := s.setConn n (fun g => { g with second := g.second ++ [(l, good && inWin)] })
    if !good then s.gylError n true
    else if inWin then s.gylAccept n l
    else s.gylError n false

/-- GYLEN_FRAME_RECEIVED (R413): a delivered Gylen frame is matched, checked and accepted or
rejected. -/
def execGylenFrameReceived (dt : Nat) (s : State) : Host.Outcome State Fault Refusal :=
  let s := s.elapse dt
  if s.vodRuns then
    match s.takeInbox (fun d => decide (d.kind = 0) && decide (d.ptype = 0x0F01)) with
    | none => .next s
    | some (d, s) => .next (s.gylReceive d.src d.payload)
  else .next s

/-- GYLEN_WATCHDOG_EXPIRY (R414). -/
def execGylenWatchdogExpiry (dt : Nat) (n : Fin 16) (s : State) :
    Host.Outcome State Fault Refusal :=
  let s := s.elapse dt
  .next (if s.vodRuns ∧ s.gylExpired n then s.gylWatchdog n else s)

/-! ### Producing -/

/-- The safety state payload (R417), built for the frame that carries it. -/
def State.safetyPayload (s : State) : List Nat :=
  bytesLE 2 0x0B10 ++ [s.permitMask 0, s.safe.stateH] ++ bytesLE 4 0 ++ bytesLE 8 (s.stamp pgGylen)

/-- The producer's payload now (R417). -/
def State.gylTxPayload (s : State) (n : Nat) : List Nat :=
  if s.flag (R.GYLEN_CCFG_SRC_HOST n) then (s.conn n).host else s.safetyPayload

/-- The interval of producer `n` has passed its deadline (R416). -/
def State.producerLate (s : State) (n : Nat) : Bool :=
  (s.conn n).started && decide ((s.conn n).last + ms (s.get (R.GYLEN_DL_LIMIT_LIMIT n)) < s.now)

/-- A late producer: the miss counted once, bit 6, FAILED shown (R416). -/
def State.producerMiss (s : State) (n : Nat) : State :=
  if (s.conn n).late then s
  else
    match dlPair pgGylen (0x050 + 0x20 * n) with
    | some d =>
      (((s.dlMiss d).1.irq pgGylen 6).setConnState n gsFailed).setConn n (fun g => { g with late := true })
    | none => s

/-- Connection `n` is an enabled producer that has left OFF (R410). -/
def State.isProducer (s : State) (n : Nat) : Bool :=
  s.flag (R.GYLEN_CCFG_EN n) && s.flag (R.GYLEN_CCFG_DIR n) && decide (s.connState n ≠ gsOff)

/-- The safety state that producer `n` carries differs from the one it sent last (R416, R417). -/
def State.statesMoved (s : State) (n : Nat) : Bool :=
  !s.flag (R.GYLEN_CCFG_SRC_HOST n)
    && (decide ((s.conn n).sentB ≠ s.permitMask 0) || decide ((s.conn n).sentH ≠ s.safe.stateH))

/-- A producer's frame is due (R410, R416). -/
def State.gylDue (s : State) (n : Nat) : Bool :=
  let g := s.conn n
  s.isProducer n
    && (!g.started || decide (g.last + ms (s.get (R.GYLEN_CCFG_TX_MS n)) ≤ s.now)
      || ((g.changed || s.statesMoved n) && decide (g.last + ms 1 ≤ s.now)))

/-- The carrier of a Gylen frame is sent: a TC1 frame on the ring, or through the tunnel (R409,
R463). -/
def State.gylSend (s : State) (n : Nat) (l : List Nat) : State :=
  let dst := s.get (R.GYLEN_CCFG_NODE n)
  if s.flag (R.GYLEN_CCFG_ETH n) then
    let (q, s) := s.takeSeq 1
    s.sendTunnel ⟨1, 0, false, false, 0, dst, s.addr, 16383, q, l, true, 32⟩
  else (s.sendOwn 1 0 (decide (0x3000 ≤ dst)) false dst l).1

/-- GYLEN_PRODUCE (R410 to R412, R416, R417). -/
def execGylenProduce (dt : Nat) (n : Fin 16) (s : State) : Host.Outcome State Fault Refusal :=
  let s := s.elapse dt
  if s.vodRuns ∧ s.gylDue n then
    let s := if s.producerLate n then s.producerMiss n else s
    let late := (s.conn n).late
    let seq := if (s.conn n).started then (s.get (R.GYLEN_CSTAT_SEQ n) + 1) % 65536 else 1
    let pl := s.gylTxPayload n
    let l := bytesLE 2 0x0F01 ++ [1, pl.length] ++ bytesLE 4 (s.get (R.GYLEN_CID_ID n))
      ++ bytesLE 2 seq ++ bytesLE 2 0 ++ pl ++ bytesLE 4 (s.gylCrc n pl seq)
    let s := s.set (R.GYLEN_CSTAT_SEQ n) seq
    let s := if s.get R.GYLEN_HTX_CTRL_CONN = n.val then s.setB R.GYLEN_HTX_CTRL_GO false else s
    let s := s.setConn n (fun g => { g with
      last := s.now, started := true, changed := false, late := false,
      sentB := s.permitMask 0, sentH := s.safe.stateH })
    let s :=
      if late then s
      else
        let s := s.setConnState n gsRun
        match dlPair pgGylen (0x050 + 0x20 * n) with
        | some d => s.dlMeet d
        | none => s
    .next (s.gylSend n l)
  else .next s

/-- The host's buffer is loaded into its producer (R417, R421), or the write is ignored. -/
def State.gylHostLoad (s : State) : State :=
  let n := s.get R.GYLEN_HTX_CTRL_CONN
  if s.flag (R.GYLEN_CCFG_EN n) ∧ s.flag (R.GYLEN_CCFG_DIR n) ∧ s.flag (R.GYLEN_CCFG_SRC_HOST n) then
    let buf := ((List.range 8).flatMap (fun i => bytesLE 4 (s.get (R.GYLEN_HTX_DATA_DATA i)))).take
      (s.get R.GYLEN_HTX_CTRL_LEN)
    (s.setB R.GYLEN_HTX_CTRL_GO true).setConn n
      (fun g => { g with host := buf, changed := g.changed || decide (g.host ≠ buf) })
  else s.err pgGylen

/-- At the lock every enabled connection leaves OFF (R410). -/
def State.gylAtLock (s : State) : State :=
  (List.range 16).foldl
    (fun t n =>
      if t.flag (R.GYLEN_CCFG_EN n) then
        (t.setConnState n gsWait).setConn n (fun g => { g with last := t.now, started := false })
      else t) s

/-! ### Heartwood's second check (R415) -/

/-- Heartwood judges one frame of connection `n`. -/
def State.gylSecond (s : State) (n : Nat) (l : List Nat) (hw : Bool) : State :=
  let g := s.conn n
  let ok := s.gylFrameOk n l && (!g.runHt || s.gylInWindow n g.seqHt (gylSeq l))
  let s := if ok then
      s.setConn n (fun g => { g with dataHt := gylPayload l, seqHt := gylSeq l, runHt := true })
    else s
  if ok = hw then s.setConn n (fun g => { g with diffRun := 0 })
  else
    let s := (s.inc (R.GYLEN_CDIFF_CHK_DIFF n)).setConn n (fun g => { g with diffRun := g.diffRun + 1 })
    if 3 ≤ (s.conn n).diffRun ∧ s.connState n ≠ gsFailed then (s.irq pgGylen 5).gylFail n false else s

/-- Heartwood's Gylen slice (R417, R458): every waiting frame is checked the second time, and `STATE_H` is
written. -/
def State.gylSliceWork (s : State) : State :=
  let s := (List.range 16).foldl
    (fun t n =>
      let fs := (t.conn n).second
      let t := t.setConn n (fun g => { g with second := [] })
      fs.foldl (fun u f => u.gylSecond n f.1 f.2) t) s
  s.modSafe (fun d => { d with stateH := s.permitMask 1 })

end Sys2Proof.Machine
end

