-- ==== Sys2Proof/Machine/LogOps.lean ====
section
/-! DEFINITION. The Growth Log's writer and reader (R436 to R445). -/

namespace Sys2Proof.Machine

/-- Records of the log. -/
def logSlots : Nat := 16384
/-- First byte of a slot. -/
def slotAddr (n : Nat) : Nat := logBase + 32 * n

/-- The 32 bytes of a record (R436). -/
def LogRec.bytes (r : LogRec) (seq : Nat) : List Nat :=
  bytesLE 8 r.time ++ bytesLE 2 seq ++ [r.page % 256, r.sev % 4 + (if r.unsync then 4 else 0)]
    ++ bytesLE 2 r.code ++ slice r.data 0 17 ++ [r.origin % 256]

/-- `SEQ` of the record in a slot; 0 when it holds none. -/
def State.slotSeq (s : State) (n : Nat) : Nat := leNat (s.mem.getBytes (slotAddr n + 8) 2)

/-- The first unprotected slot from `n` on. -/
def freeSlot (prot : List Nat) : Nat → Nat → Nat
  | 0, n => n
  | k + 1, n => if prot.contains n then freeSlot prot k ((n + 1) % logSlots) else n

/-- The number after `n` (R436). -/
def seqAfter (n : Nat) : Nat := n % 65535 + 1

/-- The first critical record freezes the log around itself (R441). -/
def State.logFreeze (s : State) (slot seq : Nat) : State :=
  let keep := s.get R.GLOG_CFG_KEEP
  let s := s.modLog (fun d => { d with prot := d.recent.take (keep + 1) })
  let s := s.setB R.GLOG_STATUS_FROZEN true
  let s := (s.set R.GLOG_FREEZE_SLOT slot).set R.GLOG_FREEZE_SEQ seq
  (s.logIt pgGlog 1 0x0021 []).irq pgGlog 3

/-- A written critical record is counted; the first one freezes the log (R441). -/
def State.logCritical (s : State) (sev slot seq : Nat) : State :=
  if sev = 2 then
    let s := (s.inc R.GLOG_CNT_CRIT).modLog (fun d => { d with critAt := some (s.now, slot, seq) })
    if s.flag R.GLOG_CFG_FREEZE_EN && !s.flag R.GLOG_STATUS_FROZEN then s.logFreeze slot seq else s
  else s

/-- A record written into the next slot with the next `SEQ` (R436, R439, R441). -/
def State.logWrite (s : State) (r : LogRec) : State :=
  let seq : Nat := s.log.nextSeq
  let slot : Nat := freeSlot s.log.prot (s.log.prot.length + 1) s.log.nextSlot
  let s := s.setB R.GLOG_STATUS_WRAPPED (s.flag R.GLOG_STATUS_WRAPPED || decide (s.slotSeq slot ≠ 0))
  let s := { s with mem := s.mem.putBytes (slotAddr slot) (r.bytes seq) }
  let a : Nat := slotAddr slot
  let s := (((s.clearBad a).clearBad (a + 8)).clearBad (a + 16)).clearBad (a + 24)
  let s := s.modLog (fun d => { d with
    nextSeq := seqAfter seq, nextSlot := (slot + 1) % logSlots,
    recent := (slot :: d.recent.filter (fun k => decide (k ≠ slot))).take 8192 })
  let s := (s.set R.GLOG_NEWEST_SLOT slot).set R.GLOG_NEWEST_SEQ seq
  let s := s.irq pgGlog (r.sev % 4)
  let s := s.offerTrigger 3 r.time (fun u x => decide (u.get (R.SAP_TRIG_CFG_LOG_SEV x) ≤ r.sev % 4))
  s.logCritical (r.sev % 4) slot seq

/-- The writer takes the oldest queued record (R439); records lost meanwhile are reported once the queue
has space again (R440). -/
def State.logStep (s : State) : State :=
  match s.log.queue with
  | [] => s
  | r :: q =>
    let s := s.modLog (fun d => { d with queue := q })
    let s := s.logWrite r
    if s.log.lost = 0 then s
    else
      let n := s.log.lost
      let s := s.modLog (fun d => { d with lost := 0 })
      (s.logWrite ⟨s.stamp pgGlog, s.syncLost, pgGlog, 1, 0x0020, slice (bytesLE 4 n) 0 17, 0⟩).irq pgGlog 4

/-- `SEQ` `a` is later than `b` (R442). -/
def seqLater (a b : Nat) : Bool :=
  let d := (a + 65536 - b) % 65536
  decide (1 ≤ d) && decide (d ≤ 32767)

/-- The record in a slot reads without a double-bit error. -/
def State.slotClean (s : State) (n : Nat) : Bool :=
  s.ecc.all (fun (w, b) => !(decide (slotAddr n ≤ w) && decide (w < slotAddr n + 32) && decide (2 ≤ b)))

/-- The slots that hold a valid record (R442). -/
def State.validSlots (s : State) : List Nat :=
  (List.range logSlots).filter (fun n => decide (s.slotSeq n ≠ 0) && s.slotClean n)

/-- The log's reader finds the single-bit errors of `n` bytes from `a` on; each counts on `GLOG` (R21). -/
def State.logReads (s : State) (a n : Nat) : State :=
  s.ecc.foldl (fun (t : State) e => if e.2 = 1 ∧ a < e.1 + 8 ∧ e.1 < a + n then t.err pgGlog else t) s

/-- Heartwood resumes the log (R442): it reads every slot and finds the latest valid record; the freeze state is cleared. -/
def State.logResume (s : State) : State :=
  let s := s.logReads logBase (32 * logSlots)
  let l := s.validSlots
  let newest := l.foldl
    (fun best n => match best with
      | none => some n
      | some b => if seqLater (s.slotSeq n) (s.slotSeq b) then some n else some b) none
  let s := (s.setB R.GLOG_STATUS_FROZEN false).modLog (fun d => { d with resumed := true, prot := [] })
  match newest with
  | none => s.modLog (fun d => { d with nextSeq := 1, nextSlot := 0, recent := [] })
  | some n =>
    let q := s.slotSeq n
    let age (k : Nat) : Nat := (q + 65536 - s.slotSeq k) % 65536
    let order := (l.mergeSort (fun a b => decide (age a ≤ age b))).take 8192
    let s := (s.set R.GLOG_NEWEST_SLOT n).set R.GLOG_NEWEST_SEQ q
    s.modLog (fun d => { d with nextSeq := seqAfter q, nextSlot := (n + 1) % logSlots, recent := order })

/-- The slots of the whole, unchanged records with `SEQ` at or later than `first`, in `SEQ` order, at most `n`
(R442, R443, R454). -/
def State.logFound (s : State) (first n : Nat) : List Nat :=
  let off (k : Nat) : Nat := (s.slotSeq k + 65536 - first) % 65536
  let l := (s.validSlots.filter (fun k => decide (off k ≤ 32767))).mergeSort (fun a b => decide (off a ≤ off b))
  l.take n

/-- The words of the record in a slot. -/
def State.slotWords (s : State) (k : Nat) : List Nat :=
  (List.range 8).map (fun i => s.mem.word (slotAddr k + 4 * i))

end Sys2Proof.Machine
end

