-- ==== Sys2Proof/Machine/Boot.lean ====
section
/-! DEFINITION. The boot sequence and the lock (R60 to R81). -/

namespace Sys2Proof.Machine

/-- The boot ROM starts the PLLs that reset left off (R44, step 3). -/
def State.startPlls (s : State) : State :=
  s.modSys (fun d => { d with
    pllCell := d.pllCell.map (fun p => if p = .off then .starting else p)
    pllGrid := if d.pllGrid = .off then .starting else d.pllGrid
    pllSar := if d.pllSar = .off then .starting else d.pllSar
    pllVod := if d.pllVod = .off then .starting else d.pllVod })

/-- The record of a rail that came late, once (R38, R438). -/
def State.lateRecord (s : State) : State :=
  if s.sys.lateNew then
    (s.logIt pgRst 1 0x0014 []).modSys (fun d => { d with lateNew := false })
  else s

/-- The image digest shown (R74). -/
def State.showDigest (s : State) (d : List Nat) : State :=
  (List.range 8).foldl (fun t i => t.set (R.BOOT_IMG_DIGEST_WORD i) (leAt d (4 * i) 4)) s

/-- Every BO field at its reset value before the image is applied; the held filter time too (R66, R81). -/
def State.boReset (s : State) : State :=
  s.setBoot R.BOOT_TAMPER_CFG_FILTER_MS R.BOOT_TAMPER_CFG_FILTER_MS.rst

/-- Everything before the lock is done: Heartwood's frames begin, and Burl's watchdog counts from here (R51,
log entry 72). -/
def State.bootReady (s : State) : State :=
  { s with boot := .ready, sys := { s.sys with wdogServed := s.now } }

/-- Quarantine (R60, R78, R79): the log resumes, the record is written, the islands start, and the lock
comes next. -/
def State.enterQuarantine (s : State) (reason : Nat) (digest : Option (List Nat)) : State :=
  let s := (s.setB R.BOOT_BOOT_STAT_QUARANTINE true).set R.BOOT_BOOT_STAT_QREASON reason
  let s := s.boReset
  let s : State := match digest with
    | some d => s.showDigest d
    | none => s
  let s := s.logResume.lateRecord
  let s := s.logIt pgBoot 2 0x0011 (reason :: slice (digest.getD []) 0 16)
  s.startPlls.bootReady

/-- Memory from `a` up to `b` filled with zeros under fresh check bits (R66, R72). -/
def State.zeroFill (s : State) (a b : Nat) : State :=
  let inside (w : Nat) : Bool := decide (a ≤ w) && decide (w < b)
  { s with
    mem := s.mem.zero a (b - a)
    ecc := s.ecc.filter (fun e => !inside e.1)
    dblTable := s.dblTable.filter (fun w => !inside w) }

/-- Each payload stored at its address (R27). -/
def State.loadAll (s : State) (l : List (Nat × List Nat)) : State :=
  l.foldl (fun (t : State) e => { t with mem := t.mem.putBytes e.1 e.2 }) s

/-- The protection image taken (R60 steps 4 and 5): the boot-only registers, the payloads, the digest, the
key and the serial; an open debug port is recorded; the islands start. -/
def State.takeImage (s : State) (b : List Nat) (v : ImgVerdict) : State :=
  let s := s.boReset.writeBo (imgRegs v.recs)
  let s := (s.zeroFill lockedBase tableEnd).loadAll (imgLoads v.recs)
  let s := s.showDigest (v.digest.getD [])
  let s := (s.set R.BOOT_BOOT_STAT_KEY_USED (b.getD 0x0C 0)).set R.BOOT_IMG_SERIAL_SERIAL (leAt b 0x18 4)
  let s := if s.get R.BOOT_DEBUG_CFG_LEVEL ≠ 0 then
      (s.setB R.BOOT_BOOT_STAT_DBG_OPEN true).logIt pgBoot 1 0x0013 []
    else s
  let s := (List.range 8).foldl (fun (t : State) x => t.guardSync x) s.roleInit
  { s.startPlls with boot := .tables }

/-- BOOT_PROTECTION_IMAGE (R60 steps 3 to 5, R67): the 65,536 bytes of the image area are checked.
`back` is the mask of revocation bits that read back as blown. -/
def execBootProtectionImage (dt : Nat) (bytes : List Nat) (back : Fin 16) (s : State) :
    Host.Outcome State Fault Refusal :=
  let s := s.elapse dt
  if s.hwRuns ∧ s.boot = .started then
    let b := bytes.take protLen
    let v := s.imgCheck b
    if v.reason ≠ 0 then .next (s.enterQuarantine v.reason v.digest)
    else
      let want := b.getD 0x0D 0
      let s := { s with fuse := { s.fuse with revoked := s.fuse.revoked ||| (back.val &&& want) } }
      let s := s.set R.BOOT_KEY_FUSE_REVOKED s.fuse.revoked
      if s.fuse.revoked &&& want ≠ want then .next (s.enterQuarantine 0x0E v.digest)
      else
        .next (s.takeImage b v)
  else .next s

/-- The tamper records of boot step 7 (R81): one for each input whose event bit is set. -/
def State.bootTamper (s : State) : State :=
  [0, 1].foldl
    (fun t n =>
      if t.flag (R.BOOT_TAMPER_STAT_EVT n) then
        t.submit ⟨t.canopy, !t.sys.tampLocked.getD n false, pgBoot, 1, 0x0012,
          slice ([n, t.get (R.BOOT_TAMPER_STAT_COUNT n)] ++ bytesLE 8 (t.get (R.BOOT_TAMPER_T_NS n))) 0 17, 2⟩
      else t) s

/-- The boot-complete record, which carries the kept cause and clears it (R391, R438). -/
def State.bootRecord (s : State) : State :=
  (s.logIt pgBoot 0 0x0010 (bytesLE 4 (s.wordOf pgRst 0x040)
    ++ bytesLE 2 (s.get R.RSTPWR_RST_COUNT_COUNT) ++ [s.sys.keptCause])).modSys (fun d =>
      { d with keptCause := 0 })

/-- `TBL_VALID` after the load (R72). -/
def validMask (loaded failed : List Nat) : Nat :=
  (List.range 25).foldl (fun m b => if loaded.contains b ∧ ¬ failed.contains b then m + 2 ^ b else m) 0

/-- BOOT_TABLE_IMAGE (R60 steps 6 and 7, R72): the table image is checked and loaded, `TBL_VALID` is
written, the log resumes and the boot's records are written. -/
def execBootTableImage (dt : Nat) (bytes : List Nat) (s : State) : Host.Outcome State Fault Refusal :=
  let s := s.elapse dt
  if s.hwRuns ∧ s.boot = .tables then
    let s := s.zeroFill tableBase 0x01150000
    let (s, mask, bad) : State × Nat × Bool :=
      if tableHeaderOk bytes then
        let (s, l, f, e) := loadSections bytes (leAt bytes 8 4) [] (sectionsOf bytes (leAt bytes 6 2)) s
        (s, validMask l f, e)
      else (s, 0, true)
    let s := s.setB R.BOOT_BOOT_STAT_TBL_ERR bad
    let s := (s.set R.BOOT_TBL_VALID_KE (mask % 256)).set R.BOOT_TBL_VALID_CELL (mask / 256 % 256)
    let s := (s.set R.BOOT_TBL_VALID_GRID (mask / 65536 % 2)).set R.BOOT_TBL_VALID_MASK (mask / 131072)
    let s := s.logResume.lateRecord
    .next s.bootTamper.bootRecord.bootReady
  else .next s

/-- BOOT_LOCK (R60 step 8, R74, R75): the lock is set; the safety functions, the Gylen connections and
the meter start from it (R321, R394, R410). -/
def execBootLock (dt : Nat) (s : State) : Host.Outcome State Fault Refusal :=
  let s := s.elapse dt
  if s.hwRuns ∧ s.boot = .ready ∧ ¬ s.locked then
    let s := s.setB R.BOOT_BOOT_STAT_LOCKED true
    let s := s.setSat R.BOOT_BOOT_STAT_BOOT_MS (ceilDiv (s.now - s.sys.releasedAt) (ms 1))
    let s := s.modSys (fun d => { d with lockAt := s.now })
    let s := { s with boot := .done }
    let s := s.checkCurves.fnsAtLock.gylAtLock
    .next (if s.quarantine then s else s.meterAtLock)
  else .next s

/-- TAMPER_EVENT (R80, R81): a change of level on `TAMPn` has held for the filter time. The always-on
island counts it and keeps its coarse time and whether Canopy time was locked. -/
def execTamperEvent (dt : Nat) (n : Fin 2) (level : Bool) (s : State) :
    Host.Outcome State Fault Refusal :=
  let s := s.elapse dt
  if s.rails.testBit railAon ∧ s.flag (R.BOOT_TAMPER_STAT_LEVEL n) ≠ level then
    let t := s.coarseNow * 1000000000 / 32768
    let lockedNow := !s.sys.inReset && !s.syncLost
    let s := s.setB (R.BOOT_TAMPER_STAT_LEVEL n) level
    let s := (s.inc (R.BOOT_TAMPER_STAT_COUNT n)).set (R.BOOT_TAMPER_T_NS n) t
    let s := s.setB (R.BOOT_TAMPER_STAT_EVT n) true
    let s := s.modSys (fun d => { d with tampLocked := d.tampLocked.set n lockedNow })
    if s.boot = .ready ∨ s.boot = .done then
      let e := (n.val, s.get (R.BOOT_TAMPER_STAT_COUNT n), s.get (R.BOOT_TAMPER_T_NS n), !lockedNow,
        s.stamp pgBoot)
      .next (s.modSys (fun d => { d with tampOwed := d.tampOwed ++ [e] }))
    else .next s
  else .next s

end Sys2Proof.Machine
end

