-- ==== Sys2Proof/Machine/CaptOps.lean ====
section
/-! DEFINITION. The capture units' operations (R422 to R435). -/

namespace Sys2Proof.Machine

/-! ### Taps (R422, R423) -/

/-- Channel `c`'s tap code. -/
def State.tapOf (s : State) (x c : Nat) : Nat :=
  if c < 4 then s.get (R.SAP_TAP_LO_TAP x c) else s.get (R.SAP_TAP_HI_TAP x (c - 4))

/-- The tap code is valid, and a SAR tap's entry is routed to Sapwood (R422, R429). -/
def State.tapOk (s : State) (t : Nat) : Bool :=
  if 0x50 ≤ t ∧ t < 0xA0 then (s.get (R.SAR_ENTRY_ROUTE ((t - 0x50) / 16) ((t - 0x50) % 16))).testBit 2
  else decide (t = 0) || (decide (0x10 ≤ t) && decide (t ≤ 0xA9))

/-- The newest value of a tap as a 32-bit word, and whether it is valid (R422, R423). -/
def State.tapValue (s : State) (t : Nat) : Nat × Bool :=
  if 0x10 ≤ t ∧ t < 0x50 then
    let c := (t - 0x10) / 8
    let n := (t - 0x10) % 8
    if n < 6 then
      (s.get (R.SENSE_RES_VAL c n),
        !(s.get (R.SENSE_FB_STAT_STALE c)).testBit n)
    else (s.get (R.KE_OUT_INDEX c (n - 6)) * 65536, true)
  else if 0x50 ≤ t ∧ t < 0xA0 then
    let n := (t - 0x50) / 16
    let i := (t - 0x50) % 16
    (ux 32 (((s.get (R.SAR_RESULT_CODE n i) : Int) - 32768) * 65536),
      !s.flag (R.SAR_RESULT_STALE n i) && !s.flag (R.SAR_RESULT_LATE n i)
        && !s.flag (R.SAR_RESULT_CLIP n i))
  else if t = 0xA0 then (s.get (R.GE_THETA_ANGLE 0), true)
  else if t = 0xA1 then (s.get (R.GE_FREQ_MHZ 0), true)
  else if t = 0xA2 then (s.get (R.GE_VPOS_MV 0), true)
  else if t = 0xA3 then (s.get (R.GE_VNEG_MV 0), true)
  else if t = 0xA4 then (s.get R.ARM_ID_REF_MA, true)
  else if t = 0xA5 then (s.get R.ARM_IQ_REF_MA, true)
  else if t = 0xA6 then (s.get (R.GE_THETA_ANGLE 1), true)
  else if t = 0xA7 then (s.get (R.GE_FREQ_MHZ 1), true)
  else if t = 0xA8 then (s.get (R.GE_VPOS_MV 1), true)
  else if t = 0xA9 then (s.get (R.GE_VNEG_MV 1), true)
  else (0, false)

/-! ### Buffer (R426) -/

/-- Bytes of a set. -/
def State.setBytes (s : State) (x : Nat) : Nat :=
  8 * ceilDiv (1 + s.get (R.SAP_CFG_STAMP x) + s.get (R.SAP_CFG_NCH x)) 2
/-- Sets the region holds. -/
def State.setCap (s : State) (x : Nat) : Nat := s.get (R.SAP_CFG_BUF_SIZE x) * 65536 / s.setBytes x
/-- Window address of stored set `i`. -/
def State.setAddr (s : State) (x i : Nat) : Nat :=
  captBase + s.get (R.SAP_CFG_BUF_BASE x) * 65536 + i % (max 1 (s.setCap x)) * s.setBytes x

/-- 32-bit words stored in capture memory with fresh check bits. -/
def State.captPut (s : State) : Nat → List Nat → State
  | _, [] => s
  | a, w :: ws =>
    State.captPut (({ s with mem := s.mem.putWord a w } : State).clearBad a) (a + 4) ws

/-- The unit writes sets. -/
def State.captActive (s : State) (x : Nat) : Bool :=
  decide (s.get (R.SAP_STATUS_STATE x) = csArmed) || decide (s.get (R.SAP_STATUS_STATE x) = csPost)

/-- The unit whose set the capture address belongs to: one that is writing, else the first (R426). -/
def State.captOwner (s : State) (a : Nat) : Option Nat :=
  let l := (List.range 8).filter (fun x =>
    decide (captBase + s.get (R.SAP_CFG_BUF_BASE x) * 65536 ≤ a)
      && decide (a < captBase + s.get (R.SAP_CFG_BUF_BASE x) * 65536 + s.setCap x * s.setBytes x))
  match l.find? s.captActive with
  | some x => some x
  | none => l.head?

/-- The `VALID` bits of the channels that the capture word at `w` held are cleared in its set's header
(R427). -/
def State.captInvalid (s : State) (w : Nat) : State :=
  match s.captOwner w with
  | none => s
  | some x =>
    let base := captBase + s.get (R.SAP_CFG_BUF_BASE x) * 65536
    let hdr := base + (w - base) / s.setBytes x * s.setBytes x
    if hdr = w ∨ 2 ≤ s.badBits hdr then s
    else
      let s := if s.badBits hdr = 1 then s.err (pgSap x) else s
      let first := (w - hdr) / 4
      let skip := 1 + s.get (R.SAP_CFG_STAMP x)
      let held := (List.range (s.get (R.SAP_CFG_NCH x))).filter (fun c =>
        decide (skip + c = first) || decide (skip + c = first + 1))
      s.captPut hdr [held.foldl clrBit (s.mem.word hdr)]

/-- A capture unit reads the 64-bit word at `w` of its buffer (R21, R427): a single-bit error counts on its page; a
double-bit error is recorded and the word takes the pattern of R427. -/
def State.captGrain (s : State) (x w : Nat) : State :=
  let n := s.badBits w
  if n = 0 then s
  else if n = 1 then s.err (pgSap x)
  else ((s.recordDouble (pgSap x) w).captInvalid w).captPut w [0xFFFFFFFF, 0xFFFFFFFF]

/-! ### Masks (R433, R434) -/

/-- First byte of the unit's mask area. -/
def maskArea (x : Nat) : Nat := 0x01130000 + x * 0x4000
/-- Word `j` of mask entry `e`. -/
def State.maskWord (s : State) (x e j : Nat) : Nat := s.mem.word (maskArea x + 0x10 + 16 * e + 4 * j)
/-- Number of mask entries. -/
def State.maskNum (s : State) (x : Nat) : Nat := bitsOf (s.mem.word (maskArea x)) 16 10

/-- The mask area is valid (R433). -/
def State.maskValid (s : State) (x : Nat) : Bool :=
  let a := maskArea x
  let h := s.mem.word a
  let n := s.maskNum x
  let zero (b e : Nat) : Bool := s.mem.all (fun c => !(decide (a + b ≤ c.1) && decide (c.1 < a + e)))
  (s.get R.BOOT_TBL_VALID_MASK).testBit x && decide (h % 65536 = 1) && decide (h / 2 ^ 26 = 0)
    && decide (1 ≤ n) && zero 4 0x10 && zero (0x10 + 16 * n) 0x4000
    && (List.range n).all (fun e =>
      decide (s.maskWord x e 1 < s.get (R.SAP_CFG_NCH x))
        && decide (sx 32 (s.maskWord x e 2) ≤ sx 32 (s.maskWord x e 3))
        && (decide (s.get (R.SAP_CFG_MASK_MODE x) ≠ 1) || decide (s.maskWord x e 0 = 0)))
    && (List.range (n - 1)).all (fun e =>
      decide (sx 32 (s.maskWord x e 0) ≤ sx 32 (s.maskWord x (e + 1) 0)))

/-- The bounds in force for a channel at offset `o`. -/
def State.maskBounds (s : State) (x c : Nat) (o : Int) : Option (Int × Int) :=
  (List.range (s.maskNum x)).foldl
    (fun best e =>
      if s.maskWord x e 1 % 8 = c ∧ sx 32 (s.maskWord x e 0) ≤ o then
        some (sx 32 (s.maskWord x e 2), sx 32 (s.maskWord x e 3))
      else best) none

/-- The channels of a stored set that violate: `kind` 1 is a minimum set, 2 a maximum set. -/
def State.violations (s : State) (x kind : Nat) (o : Int) (vals : List (Nat × Bool)) : List Nat :=
  (List.range vals.length).filter (fun c =>
    let (v, ok) := vals.getD c (0, false)
    ok && (match s.maskBounds x c o with
      | some (lo, hi) => (decide (kind ≠ 2) && decide (sx 32 v < lo)) || (decide (kind ≠ 1) && decide (hi < sx 32 v))
      | none => false))

/-! ### Triggers (R430 to R432) -/

/-- Index of the stored set that holds input set `j`. -/
def State.storedIdx (s : State) (x j : Nat) : Nat :=
  let r := s.get (R.SAP_RED_FACTOR x)
  if r = 1 then j else 2 * (j / max 1 r)

/-- The unit enters DONE. -/
def State.captDone (s : State) (x : Nat) : State :=
  (s.set (R.SAP_STATUS_STATE x) csDone).irq (pgSap x) 1

/-- The header bit `TRIG` of a stored set, and of its pair (R426). -/
def State.markTrig (s : State) (x i : Nat) : State :=
  let n := s.get (R.SAP_SET_COUNT_SETS x)
  let one (u : State) (k : Nat) : State :=
    if k < n then
      let a := u.setAddr x k
      let u := u.captGrain x a
      u.captPut a [setBit (u.mem.word a) 10]
    else u
  let s := one s i
  if s.get (R.SAP_RED_FACTOR x) = 1 then s else one s (i + 1)

/-- A REL violation stops the capture (R434). Which of several violating channels is named is open. -/
def State.captStopped (s : State) (x i : Nat) (cs : List Nat) : State :=
  let (v, s) := s.fresh
  let s := (s.set (R.SAP_VIOL_SET_INDEX x) i).set (R.SAP_TRIG_INFO_VIOL_CH x)
    (cs.getD (v % max 1 cs.length) 0)
  (s.set (R.SAP_STATUS_STATE x) csStopped).irqLog (pgSap x) 2 1

/-- Stored set `i` read back and tested under REL once it has become the trigger set or one after it (R434). A set
whose header is in error is invalid and is not tested (R427). -/
def State.retest (s : State) (x i : Nat) : State :=
  let a := s.setAddr x i
  let s := (List.range (s.setBytes x / 8)).foldl (fun (u : State) k => u.captGrain x (a + 8 * k)) s
  let h := s.mem.word a
  let o := 4 * (1 + s.get (R.SAP_CFG_STAMP x))
  let vals := (List.range (s.get (R.SAP_CFG_NCH x))).map (fun c => (s.mem.word (a + o + 4 * c), h.testBit c))
  let bad := s.violations x (if h.testBit 8 then 1 else if h.testBit 9 then 2 else 0)
    ((i : Int) - s.get (R.SAP_TRIG_SET_INDEX x)) vals
  if bad = [] ∨ bitsOf h 12 4 ≠ 0 ∨ s.get (R.SAP_STATUS_STATE x) ≠ csPost then s
  else
    let s := (s.captPut a [setBit h 11]).inc (R.SAP_CNT_VIOLATIONS x)
    s.captStopped x i bad

/-- A trigger accepted (R432): its stored set, time, fraction and cause. Units that follow this one are
offered it. -/
def State.captAccept (s : State) (x i t frac cause : Nat) : State :=
  let s := (s.set (R.SAP_TRIG_SET_INDEX x) i).set (R.SAP_TRIG_T_NS x) t
  let s := (s.set (R.SAP_TRIG_INFO_FRAC x) frac).set (R.SAP_TRIG_INFO_CAUSE x) cause
  let s := (s.set (R.SAP_STATUS_STATE x) csPost).irq (pgSap x) 0
  let s := s.setCapt x (fun d => { d with pend := [] })
  let s := s.markTrig x i
  let n := s.get (R.SAP_SET_COUNT_SETS x)
  let s :=
    if s.get (R.SAP_CFG_MASK_MODE x) = 2 ∧ i < n then
      let (ok, s) := s.engineRead (pgSap x) (maskArea x) 0x4000
      if ok then (List.range (n - i)).foldl (fun u k => u.retest x (i + k)) s else s
    else s
  s.offerTrigger 7 t (fun u y => decide (u.get (R.SAP_TRIG_CFG_XUNIT y) = x) && decide (y ≠ x))

/-- The waiting trigger that wins a set at time `t` (R435): the earliest; at equal times a hardware
trigger. -/
def pendWinner (l : List (Nat × Nat)) (t : Nat) : Option (Nat × Nat) :=
  (l.filter (fun p => decide (p.1 ≤ t))).foldl
    (fun best p => match best with
      | none => some p
      | some b => if p.1 < b.1 ∨ (p.1 = b.1 ∧ b.2 = 0 ∧ p.2 ≠ 0) then some p else some b) none

/-! ### Storing a set -/

/-- The unit has stored `POST` sets after the trigger set. -/
def State.postFull (s : State) (x : Nat) : Bool :=
  decide (s.get (R.SAP_STATUS_STATE x) = csPost)
    && decide (s.get (R.SAP_TRIG_SET_INDEX x) + (if s.get (R.SAP_RED_FACTOR x) = 1 then 1 else 2)
      + s.get (R.SAP_POST_SETS x) ≤ s.get (R.SAP_SET_COUNT_SETS x))

/-- The masks read before a set is tested against them (R433, R434): whether they could be read. -/
def State.maskRead (s : State) (x : Nat) (tested : Bool) : Bool × State :=
  if tested then s.engineRead (pgSap x) (maskArea x) 0x4000 else (true, s)

/-- The words of set `i`, its header first (R426). -/
def State.setWords (s : State) (x kind t i : Nat) (trig : Bool) (vals : List (Nat × Bool))
    (bad : List Nat) : List Nat :=
  let mask := (List.range vals.length).foldl (fun m c => putBit m c (vals.getD c (0, false)).2) 0
  let head := mask + (if kind = 1 then 256 else 0) + (if kind = 2 then 512 else 0) + (if trig then 1024 else 0)
    + (if bad = [] then 0 else 2048) + i % 65536 * 65536
  let words := [head] ++ (if s.flag (R.SAP_CFG_STAMP x) then [t % 2 ^ 32] else []) ++ vals.map Prod.fst
  words ++ List.replicate (s.setBytes x / 4 - words.length) 0

/-- A stored set outside its mask: the capture stops, or is triggered (R434). -/
def State.setViolates (s : State) (x kind t i st : Nat) (bad : List Nat) : State :=
  let s := s.inc (R.SAP_CNT_VIOLATIONS x)
  if s.get (R.SAP_CFG_MASK_MODE x) = 2 then s.captStopped x i bad
  else if st = csArmed ∧ s.get (R.SAP_TRIG_CFG_SRC x) = 8 ∧ s.get (R.SAP_PRE_SETS x) ≤ i ∧ i ≠ 0 then
    s.captAccept x (if kind = 2 then i - 1 else i) t 0 8
  else s

/-- One set stored (R426, R434). `kind` is 0, 1 for a minimum set, 2 for a maximum set. -/
def State.storeSet (s : State) (x kind t : Nat) (trig : Bool) (vals : List (Nat × Bool)) : State :=
  let i := s.get (R.SAP_SET_COUNT_SETS x)
  let st := s.get (R.SAP_STATUS_STATE x)
  let mode := s.get (R.SAP_CFG_MASK_MODE x)
  let ti := s.get (R.SAP_TRIG_SET_INDEX x)
  let o : Int := if mode = 2 then (i : Int) - ti else 0
  let tested := decide (mode = 1) || (decide (mode = 2) && decide (st = csPost) && decide (ti ≤ i))
  let (readOk, s) := s.maskRead x tested
  let bad := if tested && readOk then s.violations x kind o vals else []
  let s := s.captPut (s.setAddr x i) (s.setWords x kind t i trig vals bad)
  let s := (s.set (R.SAP_SET_COUNT_SETS x) (i + 1)).set (R.SAP_SET_T_NS x) t
  let s := if s.setCap x < i + 1 then s.setB (R.SAP_STATUS_WRAPPED x) true else s
  if bad = [] then s else s.setViolates x kind t i st bad

/-- After a stored set: the end of POST, and a stop that waited for it. -/
def State.afterSet (s : State) (x : Nat) : State :=
  if s.captActive x then
    if s.postFull x then s.captDone x
    else if (s.capt1 x).stopReq then
      ((s.setB (R.SAP_STATUS_HOST_STOP x) true).setCapt x (fun d => { d with stopReq := false })).captDone x
    else s
  else s

/-- A stored set with the tests that follow it, while the unit still writes. -/
def State.storeOne (s : State) (x kind t : Nat) (trig : Bool) (vals : List (Nat × Bool)) : State :=
  if s.captActive x then (s.storeSet x kind t trig vals).afterSet x else s

/-! ### Clock events -/

/-- The set time of the newest event of the unit's clock (R424). -/
def State.clockInstant (s : State) (x : Nat) : Nat :=
  let i := s.get (R.SAP_CFG_CLK_INST x)
  let src := s.get (R.SAP_CFG_CLK_SRC x)
  if src = 0 then s.get (R.SENSE_SAMPLE_T_NS i)
  else if src = 1 then s.get (R.SAR_PASS_T0_NS i)
  else if src = 2 then s.get (R.GE_CYCLE_T_NS 0)
  else
    let per := max 1 (s.get (R.SAP_TMR_PERIOD_NS x))
    s.canopy - (s.canopy + per - s.get (R.SAP_TMR_PHASE_NS x) % per) % per

/-- The set time of the unit's clock event now, none when no event of its clock is due (R424). -/
def State.clockTime (s : State) (x : Nat) : Option Nat :=
  let t := s.clockInstant x
  if (s.capt1 x).lastT = some t then none else some t

/-- The CROSS trigger on an input set (R431): the fraction, the time and the index of the trigger's input
set, with the unit's memory of the channel brought up to date. Where the value equals `LEVEL` the formula gives a
fraction of 256, outside the 0 to 255 that the rule states, and the fraction is a free value (log entry 86). -/
def State.crossing (s : State) (x t : Nat) (vals : List (Nat × Bool)) : Option (Nat × Nat × Nat) × State :=
  let d := s.capt1 x
  let (w, ok) := vals.getD (s.get (R.SAP_TRIG_CFG_CH x)) (0, false)
  if ¬ ok then (none, s)
  else
    let v := sx 32 w
    let lv := s.geti (R.SAP_LEVEL_VAL x)
    let hy : Int := s.get (R.SAP_HYST_VAL x)
    let e := s.get (R.SAP_TRIG_CFG_EDGE x)
    let hit : Option (Nat × Nat × Nat) := match d.prev with
      | some (v0, t0, j) =>
        let rise := e.testBit 0 && decide (v0 < lv) && decide (lv ≤ v) && d.low
        let fall := e.testBit 1 && decide (lv < v0) && decide (v ≤ lv) && d.high
        if rise || fall then
          let f := (256 * (lv - v0).natAbs / (v - v0).natAbs)
          some (f, t0 + f * (t - t0) / 256, j)
        else none
      | none => none
    let seen := if hit.isSome then { d with low := false, high := false } else d
    let s := s.setCapt x (fun d => { d with
      prev := some (v, t, d.nIn),
      low := seen.low || decide (v < lv - hy), high := seen.high || decide (lv + hy < v) })
    match hit with
    | some (f, tt, j) =>
      if f < 256 then (hit, s)
      else
        let (v, s) := s.fresh
        (some (v % 256, tt, j), s)
    | none => (none, s)

/-- The input set joins the group in progress (R425). -/
def State.groupAdd (s : State) (x t : Nat) (trig : Bool) (vals : List (Nat × Bool)) : State :=
  s.setCapt x (fun d =>
    let old := if d.gNum = 0 then [] else d.gVals
    { d with
      gNum := d.gNum + 1, gTime := if d.gNum = 0 then t else d.gTime,
      gTrig := trig || (decide (d.gNum ≠ 0) && d.gTrig),
      gVals := (List.range vals.length).map (fun c =>
        let (w, ok) := vals.getD c (0, false)
        let v := sx 32 w
        match old.getD c none with
        | some (a, b) => if ok then some (min a v, max b v) else some (a, b)
        | none => if ok then some (v, v) else none) })

/-- The values of a reduced set; those of a channel with no valid value are open. -/
def State.groupValues (s : State) (l : List (Option (Int × Int))) (top : Bool) : List (Nat × Bool) × State :=
  l.foldl
    (fun (acc, u) c =>
      match c with
      | some (a, b) => (acc ++ [(ux 32 (if top then b else a), true)], u)
      | none =>
        let (v, u) := u.fresh
        (acc ++ [(v % 2 ^ 32, false)], u)) ([], s)

/-- A group that is complete is stored as a pair (R425). -/
def State.groupStore (s : State) (x : Nat) : State :=
  let d := s.capt1 x
  if d.gNum < s.get (R.SAP_RED_FACTOR x) then s
  else
    let s := s.setCapt x (fun d => { d with gNum := 0, gTrig := false, gVals := [] })
    let (lo, s) := s.groupValues d.gVals false
    let (hi, s) := s.groupValues d.gVals true
    (s.storeOne x 1 d.gTime d.gTrig lo).storeOne x 2 d.gTime d.gTrig hi

/-- An input set of an active unit (R425, R430 to R434). -/
def State.inputSet (s : State) (x t : Nat) (vals : List (Nat × Bool)) : State :=
  let j := (s.capt1 x).nIn
  let i := s.storedIdx x j
  let (hit, s) :=
    if s.get (R.SAP_TRIG_CFG_SRC x) = 1 then s.crossing x t vals else (none, s)
  let armed := decide (s.get (R.SAP_STATUS_STATE x) = csArmed)
  let pre := s.get (R.SAP_PRE_SETS x)
  let win := if armed && decide (j ≠ 0) && decide (pre ≤ i) then pendWinner (s.capt1 x).pend t else none
  let cross : Option (Nat × Nat × Nat) := hit.filter (fun h => decide (pre ≤ s.storedIdx x h.2.2))
  let s := if hit.isSome ∧ ¬ armed then s.inc (R.SAP_CNT_IGNORED x) else s
  let s := s.setCapt x (fun d => { d with pend := d.pend.filter (fun p => decide (t < p.1)) })
  let (here, s) : Bool × State :=
    match armed, cross, win with
    | true, some (f, tt, k), none => (decide (k = j), s.captAccept x (s.storedIdx x k) tt f 1)
    | true, some (f, tt, k), some (wt, c) =>
      if tt ≤ wt then (decide (k = j), s.captAccept x (s.storedIdx x k) tt f 1)
      else (true, s.captAccept x i wt 0 c)
    | true, none, some (wt, c) => (true, s.captAccept x i wt 0 c)
    | _, _, _ => (false, s)
  let s := s.setCapt x (fun d => { d with nIn := d.nIn + 1 })
  let sameGroup := decide (s.get (R.SAP_TRIG_SET_INDEX x) = i)
    && decide (s.get (R.SAP_STATUS_STATE x) = csPost) && armed
  if s.get (R.SAP_RED_FACTOR x) = 1 then
    let s := if s.postFull x then s.captDone x else s
    s.storeOne x 0 t here vals
  else
    let s := if s.postFull x then s.captDone x else s
    if s.captActive x then (s.groupAdd x t (here || sameGroup) vals).groupStore x else s

end Sys2Proof.Machine
end

