-- ==== Sys2Proof/Machine/Capture.lean ====
section
/-! DEFINITION. The commands of the capture units (R422 to R435). -/

namespace Sys2Proof.Machine

/-- The regions of two units overlap (R429). -/
def State.regionsMeet (s : State) (x y : Nat) : Bool :=
  let a := s.get (R.SAP_CFG_BUF_BASE x)
  let b := s.get (R.SAP_CFG_BUF_BASE y)
  decide (a < b + s.get (R.SAP_CFG_BUF_SIZE y)) && decide (b < a + s.get (R.SAP_CFG_BUF_SIZE x))

/-- The unit may be armed (R429). -/
def State.armOk (s : State) (x : Nat) : Bool :=
  (List.range (s.get (R.SAP_CFG_NCH x))).all (fun c => s.tapOk (s.tapOf x c))
    && decide (s.get (R.SAP_CFG_BUF_BASE x) + s.get (R.SAP_CFG_BUF_SIZE x) ≤ 64)
    && (List.range 8).all (fun y => decide (y = x) || !(s.captActive y && s.regionsMeet x y))
    && decide (s.get (R.SAP_PRE_SETS x) + s.get (R.SAP_POST_SETS x) + 1 ≤ s.setCap x)
    && (decide (s.get (R.SAP_CFG_MASK_MODE x) = 0) || s.maskValid x)

/-- An arm requested (R429): the unit arms at the first event of its clock after the request. -/
def State.captArm (s : State) (x : Nat) : State :=
  if s.captActive x then s
  else
  let (readOk, s) := s.maskRead x (decide (s.get (R.SAP_CFG_MASK_MODE x) ≠ 0))
  if readOk && s.armOk x then
    (s.set (R.SAP_CAPACITY_SETS x) (s.setCap x)).setCapt x (fun d =>
      { d with armReq := true, lastT := some (s.clockInstant x) })
  else
    let s := (s.setB (R.SAP_STATUS_ARM_ERR x) true).irq (pgSap x) 3
    s.err (pgSap x)

/-- The unit is armed at a clock event (R429): its set index and counts restart. -/
def State.captBegin (s : State) (x : Nat) : State :=
  let d := s.capt1 x
  let s := s.setCapt x (fun _ => { lastAt := d.lastAt, lastT := d.lastT })
  let s := (s.set (R.SAP_SET_COUNT_SETS x) 0).set (R.SAP_STATUS_STATE x) csArmed
  (s.setB (R.SAP_STATUS_WRAPPED x) false).setB (R.SAP_STATUS_HOST_STOP x) false

/-- CAPTURE_ARM (R429): a write of 1 to `SAPx.CTRL.ARM`. -/
def execCaptureArm (dt : Nat) (x : Fin 8) (s : State) : Host.Outcome State Fault Refusal :=
  .next ((s.elapse dt).hostAct (pgSap x) 0x008 (fun t => t.captArm x))

/-- A stop requested (R432): the set in progress, or the set of a waiting trigger, is still stored. -/
def State.captStop (s : State) (x : Nat) : State :=
  if ¬ s.captActive x then s
  else if (s.capt1 x).pend = [] ∧ (s.capt1 x).gNum = 0 then
    (s.setB (R.SAP_STATUS_HOST_STOP x) true).captDone x
  else s.setCapt x (fun d => { d with stopReq := true })

/-- CAPTURE_STOP (R432, R435): a write of 1 to `SAPx.CTRL.STOP`. -/
def execCaptureStop (dt : Nat) (x : Fin 8) (s : State) : Host.Outcome State Fault Refusal :=
  .next ((s.elapse dt).hostAct (pgSap x) 0x008 (fun t => t.captStop x))

/-- CAPTURE_TRIG_NOW (R430): a write of 1 to `SAPx.CTRL.TRIG_NOW`. -/
def execCaptureTrigNow (dt : Nat) (x : Fin 8) (s : State) : Host.Outcome State Fault Refusal :=
  .next ((s.elapse dt).hostAct (pgSap x) 0x008 (fun t => t.captTrigger x (t.stamp (pgSap x)) 0))

/-- CAPTURE_SET (R422 to R426, R430 to R434): an event of unit `x`'s sample clock. -/
def execCaptureSet (dt : Nat) (x : Fin 8) (s : State) : Host.Outcome State Fault Refusal :=
  let s := s.elapse dt
  if s.hwRuns ∧ (s.captActive x ∨ (s.capt1 x).armReq) then
    match s.clockTime x with
    | none => .next s
    | some t =>
      let s := s.setCapt x (fun d => { d with lastT := some t })
      let soon : Bool := match (s.capt1 x).lastAt with
        | some a => decide (s.now < a + ns 1500)
        | none => false
      if soon then .next ((s.inc (R.SAP_CNT_SKIPPED x)).irq (pgSap x) 4)
      else
        let s := s.setCapt x (fun d => { d with lastAt := some s.now })
        let s := if (s.capt1 x).armReq then s.captBegin x else s
        let lost := (s.capt1 x).xing
        let vals := (List.range (s.get (R.SAP_CFG_NCH x))).map (fun c =>
          let (v, ok) := s.tapValue (s.tapOf x c)
          (v, ok && !lost.contains (s.tapOf x c)))
        let s := s.setCapt x (fun d => { d with xing := [] })
        .next (s.inputSet x t vals)
  else .next s

end Sys2Proof.Machine
end

