-- ==== Sys2Proof/Machine/Eth.lean ====
section
/-! DEFINITION. The Ethernet gateway (R460 to R465). The 1588 messages are commands that carry the
fields the rules use. -/

namespace Sys2Proof.Machine

/-- The 1588 time source runs (R460, R464). -/
def State.ptpRuns (s : State) : Bool := s.hostRuns && s.locked && s.gateway

/-- ETH_LINK_CHANGE (R470): the PHY's in-band status changes. -/
def execEthLinkChange (dt : Nat) (up : Bool) (s : State) : Host.Outcome State Fault Refusal :=
  let s := s.elapse dt
  if s.hostRuns ∧ s.flag R.ETH_CFG_EN ∧ s.flag R.ETH_STATUS_LINK ≠ up then
    .next ((s.setB R.ETH_STATUS_LINK up).irq pgEth 0)
  else .next s

/-- A `GO` of the management controller (R460, R470). -/
def State.mdioGo (s : State) : State :=
  if s.flag R.ETH_CFG_EN then s.setB R.ETH_MDIO_CMD_GO true else s

/-- MDIO_DONE (R460, R470): the operation ends; a read gives `data`. -/
def execMdioDone (dt : Nat) (data : Fin 65536) (s : State) : Host.Outcome State Fault Refusal :=
  let s := s.elapse dt
  if s.hostRuns ∧ s.flag R.ETH_MDIO_CMD_GO then
    let s := if s.flag R.ETH_MDIO_CMD_WRITE then s else s.set R.ETH_MDIO_CMD_DATA data.val
    .next (s.setB R.ETH_MDIO_CMD_GO false)
  else .next s

/-! ### Tunnel (R461, R462) -/

/-- The mark of a frame that came in through the tunnel, in its `queue` field. -/
def tunnelMark : Nat := 34

/-- Bytes of the ingress buffer in use: tunnelled frames that wait for the ring (R462). -/
def State.ingressUse (s : State) : Nat :=
  (s.ring.ports.flatMap (fun p => p.waiting ++ p.suspended ++ p.sending.toList)).foldl
    (fun n f => if f.queue = tunnelMark then n + f.size else n) 0

/-- The incoming frame is a tunnel frame that passes every check of R462. -/
def State.tunnelGood (s : State) (l : List Nat) : Bool :=
  let v := l.drop 16
  let v := v.take (leAt v 8 2 + 18)
  let f := parseFrame v
  let lo := s.get R.ETH_TUN_RANGE_LO
  let hi := s.get R.ETH_TUN_RANGE_HI
  let inRange (a : Nat) : Bool := decide (lo ≤ a) && decide (a ≤ hi) && !(decide (lo = 0) && decide (hi = 0))
  decide (l.take 6 = macBytes (s.get R.ETH_MAC_LO_MAC) (s.get R.ETH_MAC_HI_MAC))
    && decide (slice l 6 6 = macBytes (s.get R.ETH_PEER_MAC_LO_MAC) (s.get R.ETH_PEER_MAC_HI_MAC))
    && decide (l.getD 14 0 = 1) && headerGood v && fcsGood v
    && (f.tc = 1 || f.tc = 3) && !f.grp && (f.kind = 0 || f.kind = 2)
    && inRange f.src && !inRange f.dst

/-- TUNNEL_FRAME_RECEIVED (R462): an Ethernet frame, without its FCS, with EtherType 0x88B5 arrives. -/
def execTunnelFrameReceived (dt : Nat) (bytes : List Nat) (s : State) :
    Host.Outcome State Fault Refusal :=
  let s := s.elapse dt
  if s.hostRuns ∧ s.locked ∧ s.flag R.ETH_CFG_EN ∧ s.flag R.ETH_CFG_TUN_EN
      ∧ bytes.getD 12 0 = 0x88 ∧ bytes.getD 13 0 = 0xB5 then
    if s.tunnelGood bytes then
      let v := bytes.drop 16
      let f := { parseFrame v with own := true, queue := tunnelMark }
      if 16384 < s.ingressUse + f.size then .next ((s.inc R.ETH_CNT_ERR_FULL).irq pgEth 3)
      else
        let s := s.inc R.ETH_CNT_TUN_RX
        if f.dst = s.addr then .next (s.deliverFrame 2 f) else .next (s.sendUnicast f).1
    else .next ((s.inc R.ETH_CNT_ERR_BAD).irq pgEth 3)
  else .next s

/-! ### IEEE 1588 (R464, R465) -/

/-- A stamp of the RGMII interface taken now: the reference at a tick of the host island's 8 ns clock,
whose phase is open. -/
def State.rgmiiStamp (s : State) : Rat × State :=
  let (v, s) := s.fresh
  (s.canopyT.at s.now - ((v % 256 : Nat) : Rat) / 32, s)

/-- A data set is better than another: the first part that differs is less (R464). -/
def dataSetLess : List Nat → List Nat → Bool
  | [], _ => false
  | _ :: _, [] => false
  | a :: as, b :: bs => decide (a < b) || (decide (a = b) && dataSetLess as bs)

/-- PTP_ANNOUNCE (R464): an Announce message of the domain feeds the best master clock algorithm:
priority 1, class, accuracy, variance, priority 2, grandmaster, steps removed, sender. -/
def execPtpAnnounce (dt : Nat) (domain prio1 cls acc var prio2 gm steps sender : Nat) (s : State) :
    Host.Outcome State Fault Refusal :=
  let s := s.elapse dt
  if s.ptpRuns ∧ domain = s.get R.ETH_CFG_DOMAIN then
    let d := [prio1, cls, acc, var, prio2, gm, steps, sender]
    let take : Bool :=
      match s.eth.best with
      | none => true
      | some b => decide (b.getLast? = some sender) || dataSetLess d b
          || decide (s.eth.bestAt + secs 3 ≤ s.now)
    .next (if take then s.modEth (fun e => { e with best := some d, bestAt := s.now }) else s)
  else .next s

/-- `SRC.CLASS` and `ETH.STATUS.SOURCE` follow the node's class while it is the source (R356, R465). -/
def State.classSync (s : State) : State :=
  if s.flag R.CANOPY_STATUS_SOURCE then
    (s.set R.CANOPY_SRC_CLASS s.sourceClass).setB R.ETH_STATUS_SOURCE (decide (s.sourceClass < 2))
  else s

/-- PTP_SYNC (R465): a Sync of the best master, one-step or with its Follow_Up, whose origin is
`origin` ns and whose correction is `corr` in 2^-16 ns. -/
def execPtpSync (dt : Nat) (domain sender origin : Nat) (corr : Int) (s : State) :
    Host.Outcome State Fault Refusal :=
  let s := s.elapse dt
  let fromBest : Bool := match s.eth.best with
    | some b => decide (b.getLast? = some sender)
    | none => false
  if s.ptpRuns ∧ domain = s.get R.ETH_CFG_DOMAIN ∧ fromBest then
    let (st, s) := s.rgmiiStamp
    let (dl, s) : Rat × State := match s.eth.pdelay with
      | some d => (d, s)
      | none => let (v, s) := s.fresh; ((v : Rat), s)
    let epoch : Nat := s.get R.ETH_EPOCH_LO_NS + s.get R.ETH_EPOCH_HI_NS * 2 ^ 32
    let ptp : Rat := (origin : Rat) + (corr : Rat) / 65536 + dl
    let o : Rat := st - (s.get R.ETH_PHY_DLY_RX_NS : Rat) - (ptp - (epoch : Rat))
    let s := s.setI R.ETH_OFFSET_NS (roundAs R.ETH_OFFSET_NS.key o)
    let s := s.discipline o false
    let run := if |o| ≤ 100 then s.eth.goodRun + 1 else 0
    let s := s.modEth (fun e => { e with goodRun := run, lastSync := s.now, live := true })
    if 16 ≤ run ∧ ¬ s.flag R.ETH_STATUS_PTP_LOCKED then
      .next (((s.setB R.ETH_STATUS_PTP_LOCKED true).classSync).irq pgEth 1)
    else .next s
  else .next s

/-- PTP_LOSS (R465): no Sync has been accepted for `LOSS_S` seconds. -/
def execPtpLoss (dt : Nat) (s : State) : Host.Outcome State Fault Refusal :=
  let s := s.elapse dt
  if s.ptpRuns ∧ s.eth.live ∧ s.eth.lastSync + secs (s.get R.ETH_PTP_CFG_LOSS_S) ≤ s.now then
    let s := s.modEth (fun e => { e with live := false, goodRun := 0 })
    if s.flag R.ETH_STATUS_PTP_LOCKED then
      let s := (s.setB R.ETH_STATUS_PTP_LOCKED false).classSync
      .next ((s.irq pgEth 2).enterHoldover)
    else .next s
  else .next s

/-- PTP_PDELAY_SEND (R464): every 1 s a Pdelay_Req leaves. -/
def execPtpPdelaySend (dt : Nat) (s : State) : Host.Outcome State Fault Refusal :=
  let s := s.elapse dt
  let due : Bool := match s.eth.pdAt with
    | some t => decide (t + secs 1 ≤ s.now)
    | none => true
  if s.ptpRuns ∧ due then
    let (st, s) := s.rgmiiStamp
    let n := (s.eth.pdSeq + 1) % 65536
    .next (s.modEth (fun e => { e with
      pdSeq := n, pdAt := some s.now, pdOut := true,
      pdT1 := st + (s.get R.ETH_PHY_DLY_TX_NS : Rat), txPtp := .req n }))
  else .next s

/-- PTP_PDELAY_RESP (R464): the answer to the gateway's own request `seq`, with the peer's stamps
`t2` and `t3` in ns and the sum of the corrections in 2^-16 ns, gives a peer delay. -/
def execPtpPdelayResp (dt : Nat) (seq : Fin 65536) (t2 t3 : Nat) (corr : Int) (s : State) :
    Host.Outcome State Fault Refusal :=
  let s := s.elapse dt
  if s.ptpRuns ∧ s.eth.pdOut ∧ seq.val = s.eth.pdSeq then
    let (st, s) := s.rgmiiStamp
    let t4 : Rat := st - (s.get R.ETH_PHY_DLY_RX_NS : Rat)
    let d : Rat := (t4 - s.eth.pdT1 - ((t3 : Rat) - (t2 : Rat)) - (corr : Rat) / 65536) / 2
    .next (s.modEth (fun e => { e with pdelay := some d, pdOut := false }))
  else .next s

/-- PTP_PDELAY_REQ (R464): a received Pdelay_Req is answered with its number, its port and its
reception stamp. -/
def execPtpPdelayReq (dt : Nat) (seq : Fin 65536) (port : Nat) (s : State) :
    Host.Outcome State Fault Refusal :=
  let s := s.elapse dt
  if s.ptpRuns then
    let (st, s) := s.rgmiiStamp
    let rx := (st - (s.get R.ETH_PHY_DLY_RX_NS : Rat)).floor.toNat
    .next (s.modEth (fun e => { e with txPtp := .resp seq.val port rx }))
  else .next s

end Sys2Proof.Machine
end

