-- ==== Sys2Proof/Machine/ArmLaw.lean ====
section
/-! DEFINITION. Current synthesis on a master or its standby (R252 to R256, R263 to R268, R282 to R288,
R295), in mV, mA, W and J. Roundings of readouts and frame fields that the spec does not state are
`roundAs`. -/

namespace Sys2Proof.Machine

/-- `I_MAX` in mA. -/
def State.iMax (s : State) : Rat := (s.get R.ARM_I_MAX_MA : Rat)

/-- The part of a linear ramp of `d` time units that has passed since `t`. -/
def linPart (t : Option Nat) (d now : Nat) : Rat :=
  match t with
  | none => 1
  | some a => if a + d ≤ now then 1 else ((now - a : Nat) : Rat) / (d : Rat)

/-- Energy error e_p in J and `P_FF`_p in W of the three arms (R252). An arm no frame of which has ever
been received has free values. -/
def State.armSums (s : State) : (List (Rat × Rat)) × State :=
  let tgt : Rat := (s.get R.ARM_E_TGT_MJ : Rat)
  let live := s.armReps.filter CellRep.live
  let own : Rat × Rat :=
    (((sumReps live (fun r => r.energy) : Rat) - tgt * (live.length : Rat)) / 1000,
      (sumReps live (fun r => r.avail) : Rat))
  (List.range 3).foldl
    (fun (p : List (Rat × Rat) × State) q =>
      let (l, t) := p
      if q = t.ownPhase then (l ++ [own], t)
      else
        match t.lastFrame (t.invArm q) with
        | some f => (l ++ [(((f.eArm : Rat) - tgt * (f.nrun : Rat)) / 1000, (f.pFf : Rat))], t)
        | none =>
          let (a, t) := t.fresh
          let (b, t) := t.fresh
          (l ++ [((a : Rat), (b : Rat))], t)) ([], s)

/-- The extra power requested and the longest remaining duration in s (R263 to R265). -/
def State.burstWant (s : State) : Rat × Rat :=
  let host : List (Rat × Rat) := match s.arm.burstEnd with
    | some e => if s.now < e then
        [((s.get R.ARM_BURST_REQ_KW : Rat) * 1000, ((e - s.now : Nat) : Rat) / (secs 1 : Nat))] else []
    | none => []
  let db : Rat := (s.get R.ARM_FFR_CFG_DB : Rat) * 10
  let ffr : List (Rat × Rat) := match s.arm.ffrAt with
    | some t =>
      let e := t + ms (100 * s.get R.ARM_FFR_CFG_T_100MS)
      if s.now < e then
        [((s.get R.ARM_FFR_CFG_KW_PER_HZ : Rat) * (s.fNom 0 - db - s.fHat 0),
          ((e - s.now : Nat) : Rat) / (secs 1 : Nat))] else []
    | none => []
  (host ++ ffr).foldl (fun a b => (a.1 + b.1, max a.2 b.2)) (0, 0)

/-- Ride-through or its recovery keeps mode commits and burst requests waiting (R269, R282, R288). -/
def State.modeWaits (s : State) : Bool := s.flag R.RIDE_STATUS_RT || s.flag R.RIDE_STATUS_RECOVER

/-- Burst requests stand still through ride-through and its recovery and go on afterwards (R282, R300). -/
def State.keepBursts (s : State) : State :=
  s.setArm (fun a =>
    if s.modeWaits then
      { a with burstEnd := none,
               burstLeft := match a.burstEnd with
                 | some e => if s.now < e then some (e - s.now) else none
                 | none => a.burstLeft,
               ffrAt := none,
               ffrRan := match a.ffrAt with
                 | some t => some (s.now - t)
                 | none => a.ffrRan }
    else
      { a with burstEnd := match a.burstLeft with
                 | some d => some (s.now + d)
                 | none => a.burstEnd,
               burstLeft := none,
               ffrAt := match a.ffrRan with
                 | some d => some (s.now - d)
                 | none => a.ffrAt,
               ffrRan := none })

/-- The frequency response's request starts or ends (R265). -/
def State.ffrCycle (s : State) : State :=
  let db : Rat := (s.get R.ARM_FFR_CFG_DB : Rat) * 10
  let low := s.flag R.ARM_MODE_REQ_FFR_EN && decide (s.fHat 0 < s.fNom 0 - db)
  s.setArm (fun a => { a with
    ffrAt := if s.modeWaits then none else since low a.ffrAt s.now,
    ffrRan := if s.modeWaits && low then some (a.ffrRan.getD 0) else none })

/-- The admitted extra power for a request (R263). -/
def State.admitted (s : State) (want t : Rat) : Rat :=
  if want ≤ 0 then 0
  else
    let e : Rat := (sumReps (s.armReps.filter CellRep.run) (fun r => r.energy) : Rat) / 1000
    min want (quot ((s.get R.ARM_BURST_CFG_FRAC_PCT : Rat) / 100 * e) t)

/-- A burst's readouts. A shortfall sets its bits at every cycle; its record is written when it begins
(R263). -/
def State.showBurst (s : State) (want got : Rat) (master : Bool) : State :=
  let part := decide (got < want)
  let s := s.setB R.ARM_BURST_STAT_ACTIVE (decide (got ≠ 0))
  let s := s.setSat R.ARM_BURST_STAT_ADMIT_KW (got / 1000).floor.toNat
  let new := part && !s.arm.partialNow
  let s := s.setArm (fun a => { a with partialNow := part })
  if part ∧ master then
    let s := s.setB R.ARM_BURST_STAT_BURST_PARTIAL true
    if new then s.irqLog pgArm 3 1 else s.irq pgArm 3
  else s

/-- A magnitude limited with its sign. -/
def limMag (v lim : Rat) : Rat := clampR (-(max 0 lim)) (max 0 lim) v

/-- R253: Id and Iq limited to `m`, `qFirst` telling which keeps its value. Answers whether limited. -/
def limitIdq (id iq m : Rat) (qFirst : Bool) : Rat × Rat × Bool :=
  if id * id + iq * iq ≤ m * m then (id, iq, false)
  else if qFirst then
    let q := limMag iq m
    (limMag id (rsqrtLow (m * m - q * q)), q, true)
  else
    let d := limMag id m
    (d, limMag iq (rsqrtLow (m * m - d * d)), true)

/-- R284: Id, Iq and I2 limited together. -/
def limitRt (id iq i2 m : Rat) (qFirst : Bool) : Rat × Rat × Rat × Bool :=
  let a := limMag (if qFirst then iq else id) m
  let n := max 0 (min i2 (m - |a|))
  let left := m - n
  let b := limMag (if qFirst then id else iq) (rsqrtLow (max 0 (left * left - a * a)))
  let (d, q) := if qFirst then (b, a) else (a, b)
  (d, q, n, decide (d ≠ id) || decide (q ≠ iq) || decide (n ≠ i2))

/-- The dead band of R283. -/
def deadBand (x db : Rat) : Rat := if x < -db then x + db else if db < x then x - db else 0

/-- The ride-through targets of R283 and R287, limited by R284: Id, Iq, I2, and whether limited. -/
def State.rtTargets (s : State) : Rat × Rat × Rat × Bool :=
  let m := s.iMax
  let db : Rat := (s.get R.RIDE_INJ_CFG_DB : Rat) / 16384
  let dz := deadBand (s.ride.uPos / 16384 - 1) db
  let iq := s.ride.iqPre - (s.get R.RIDE_INJ_CFG_K_RT : Rat) / 256 * dz * m
  let i2 := if s.flag R.RIDE_INJ_CFG_NEG_EN then
      min ((s.get R.RIDE_NEG_CFG_K2 : Rat) / 256 * quot (s.eng 0).vNeg (s.vBase 0) * m)
        ((s.get R.RIDE_NEG_CFG_I2_MAX_PCT : Rat) / 100 * m)
    else 0
  let r := linPart s.ride.mcRamp (ms (s.get R.RIDE_MC_TIME_MC_RAMP_MS)) s.now
  limitRt (s.ride.idPre * r) (iq * r) (i2 * r) m (s.flag R.RIDE_INJ_CFG_Q_PRIO_RT)

/-- No islanding method is enabled (R275). -/
def State.noIslandMethod (s : State) : Bool :=
  decide (s.get R.ISLAND_METHOD_ALONE = 0) && decide (s.get R.ISLAND_METHOD_VOTE = 0)
    && !s.flag R.ISLAND_METHOD_TT_EN

/-- A function with `GRID` holds the currents at 0 in the frame with epoch 10 µs ahead (R396). -/
def State.safetyZero (s : State) : Bool :=
  match s.gridStop with
  | some t => decide (t ≤ s.now)
  | none => false

/-- Another arm of the inverter is stopped: the three arms share one current path (R257). -/
def State.otherStop (s : State) : Bool :=
  (List.range 3).any (fun p => decide (p ≠ s.ownPhase)
    && (match s.lastFrame (s.invArm p) with
      | some f => f.flag 2
      | none => false))

/-- The conditions that hold the currents at 0 (R253, R257, R275, R287, R289, R396). -/
def State.zeroCurrents (s : State) (capable : Bool) : Bool :=
  !s.flag (R.GE_PLL_STAT_LOCKED 0) || !capable
    || (!s.flag R.BOOT_PERMIT_GRID_FORM && !s.flag R.BOOT_PERMIT_GRID_FOLLOW)
    || decide (s.arm.stuck ≠ 0) || s.flag R.ARM_STATUS_STOPPED || s.otherStop
    || !s.flag R.RIDE_STATUS_CURVES_OK || s.noIslandMethod || s.flag R.RIDE_STATUS_TRIPPED
    || s.flag R.RIDE_STATUS_MC || s.safetyZero

/-- The base power in W of R267. -/
def State.sBase (s : State) : Rat := 3 / 2 * s.vBase 0 * s.iMax / 1000000

/-- P_e and Q_e of R267 in per unit, for voltage and current in one frame. -/
def pqOf (vd vq id iq : Rat) : Rat × Rat :=
  (3 / 2 * (vd * id + vq * iq), 3 / 2 * (vq * id - vd * iq))

/-- One cycle of the virtual machine (R267) for set points in per unit. Answers its current in per
unit. -/
def State.vsmCycle (s : State) (pSet qSet : Rat) : Rat × Rat × State :=
  let v := s.arm.vsm
  let g := s.eng 0
  let u := quot g.vPos (s.vBase 0)
  let vd := u * rcos (g.thV - v.theta)
  let vq := u * rsin (g.thV - v.theta)
  let (pe, qe) := pqOf vd vq (quot s.arm.id s.iMax) (quot s.arm.iq s.iMax)
  let wNom := turn * s.fNom 0 / 1000
  let wRef := if s.flag R.ISLAND_STATUS_ISLANDED then 1 else quot g.w wNom
  let h : Rat := (s.get R.ARM_VSM_J_H_MS : Rat)
  let d : Rat := (s.get R.ARM_VSM_J_D : Rat) / 256
  let w := if v.limited then v.w else v.w + quot (pSet - pe - d * (v.w - wRef)) (200 * h)
  let theta := modTurn (v.theta + wNom * w / 100000)
  let kq : Rat := (s.get R.ARM_VSM_Q_KQ : Rat) / 4096
  let e := v.e + quot (1 + kq * (qSet - qe) - v.e) (100 * (s.get R.ARM_VSM_Q_TQ_MS : Rat))
  let rv : Rat := (s.get R.ARM_VSM_Z_RV : Rat) / 4096
  let xv : Rat := (s.get R.ARM_VSM_Z_XV : Rat) / 4096
  let a := e - vd
  let b := -vq
  let z := rv * rv + xv * xv
  let id := quot (a * rv + b * xv) z
  let iq := quot (b * rv - a * xv) z
  let mag := rsqrt (id * id + iq * iq)
  let lim := decide (1 < id * id + iq * iq)
  let (id, iq) := if lim then (quot id mag, quot iq mag) else (id, iq)
  (id, iq, s.setArm (fun t => { t with vsm := { w := w, theta := theta, e := e, limited := lim } }))

/-- The current references in the PLL frame: those of the machine frame turned so that the currents of R252
stay the same (R268). -/
def State.pllCurrents (s : State) : Rat × Rat :=
  if s.flag R.ARM_STATUS_GF then
    let d := s.arm.vsm.theta - (s.eng 0).theta
    (s.arm.id * rcos d + s.arm.iq * rsin d, s.arm.iq * rcos d - s.arm.id * rsin d)
  else (s.arm.id, s.arm.iq)

/-- A hand-over into the other mode (R268), at the cycle that applies the commit or the order and before its
PLL update: θ, θ_vm and the currents are those of the cycle start. P_e and Q_e are taken in the frame of the
outgoing law. -/
def State.handOver (s : State) (gf : Bool) : State :=
  let g := s.eng 0
  let u := quot g.vPos (s.vBase 0)
  let (d0, iq0) := s.pllCurrents
  let i0 := quot d0 s.iMax
  let q0 := quot iq0 s.iMax
  let out := if s.flag R.ARM_STATUS_GF then g.thV - s.arm.vsm.theta else 0
  let (pe, qe) := pqOf (u * rcos out) (u * rsin out) (quot s.arm.id s.iMax) (quot s.arm.iq s.iMax)
  let p := pe * s.sBase
  let q := qe * s.sBase
  let (sums, s) := s.armSums
  let pff := sums.foldl (fun n a => n + a.2) 0
  let esum := sums.foldl (fun n a => n + a.1) 0
  let kp : Rat := (s.geti R.ARM_ECTRL_KP_KP : Rat) / 16777216
  let ki : Rat := (s.geti R.ARM_ECTRL_KI_KI : Rat) / 16777216
  let p0 := d0 * 3 * g.vPos / 2 / 1000000
  let eInt := if gf then s.arm.eInt else quot (p0 - pff - kp * esum) ki
  let pRef := pff + kp * esum + ki * eInt
  let lim : Rat := (s.get R.ARM_XFER_LIMIT_W : Rat)
  let onP := decide (lim < |pRef - p|)
  let onQ := decide (lim < |(s.geti R.ARM_Q_SET_INV_VAR : Rat) - q|)
  let s :=
    if gf then
      let rv : Rat := (s.get R.ARM_VSM_Z_RV : Rat) / 4096
      let xv : Rat := (s.get R.ARM_VSM_Z_XV : Rat) / 4096
      let re := u + rv * i0 - xv * q0
      let im := rv * q0 + xv * i0
      s.setArm (fun a => { a with vsm := {
        w := quot g.w (turn * s.fNom 0 / 1000), e := rsqrt (re * re + im * im),
        theta := modTurn (g.theta + ratan2 re im), limited := false } })
    else s.setArm (fun a => { a with eInt := eInt })
  let s := s.setArm (fun a => { a with
    ramp := if onP || onQ then some { at_ := s.now, p := p, q := q, onP := onP, onQ := onQ } else none })
  let s := (s.setB R.ARM_STATUS_GF gf).setB R.ARM_STATUS_RAMPING (onP || onQ)
  s.irqLog pgArm 6 0

/-- A target after the hand-over's ramp (R268). -/
def State.ramped (s : State) (isP : Bool) (target : Rat) : Rat :=
  match s.arm.ramp with
  | none => target
  | some r =>
    let k := linPart (some r.at_) (ms (s.get R.ARM_XFER_CFG_RAMP_MS)) s.now
    if isP then (if r.onP then r.p + (target - r.p) * k else target)
    else (if r.onQ then r.q + (target - r.q) * k else target)

/-- The bias of R295 in 0.01°. -/
def State.biasCycle (s : State) : State :=
  let sg : Rat := if s.epochNeg then -1 else 1
  let m : Rat := (s.get R.ISLAND_ACT_GAIN_PHI_MAX : Rat)
  let target := if s.windowOn then
      clampR (-m) m (sg * (s.get R.ISLAND_ACT_PAT_PHI0 : Rat)
        + (s.get R.ISLAND_ACT_GAIN_K_SFS : Rat) * ((s.fHat 0 - s.fNom 0) / 1000))
    else 0
  let phi := if s.phiHeld then 0 else s.isl.phi + clampR (-1) 1 (target - s.isl.phi)
  (s.setIsl (fun d => { d with phi := phi })).show R.ISLAND_PHI_B_CDEG phi

/-- What the law fixes for the waveforms of one cycle. -/
structure Wave where
  /-- Angle at t_n and angular frequency of the current frame. -/
  th : Rat
  w : Rat
  id : Rat
  iq : Rat
  i2 : Rat
  /-- Bias in rad, phase index. -/
  phi : Rat
  p : Nat
  deriving DecidableEq, Repr

/-- The current reference of R285 in mA, `k` cycles after t_n. -/
def State.iRef (s : State) (v : Wave) (k : Rat) : Rat :=
  let dt := k / 100000
  let th := v.th + v.w * dt + v.phi
  let sh := turn * (v.p : Rat) / 3
  v.id * rcos (th - sh) + v.iq * rsin (th - sh)
    - v.i2 * rsin ((s.eng 0).thN + (s.eng 0).w * dt + sh)

/-- The voltage feed-forward of R255 in mV, `k` cycles after t_n. -/
def State.vff (s : State) (p : Nat) (k : Rat) : Rat :=
  let g := s.eng 0
  let dt := k / 100000
  let sh := turn * (p : Rat) / 3
  g.vPos * rcos (g.theta0 + g.w * dt - sh) + g.vNeg * rcos (g.thN - g.w * dt - sh)

/-- The zero-sequence voltage of R254 in mV. -/
def State.v0 (s : State) (v : Wave) (es : List Rat) (k : Rat) : Rat :=
  let mag := rsqrt (v.id * v.id + v.iq * v.iq)
  if mag < Config.iMinBal / 100 * s.iMax then 0
  else
    let mean := es.foldl (· + ·) 0 / 3
    let kk : Rat := (s.get R.ARM_BAL_CFG_K_INTER : Rat) / 64
    let ph := v.th + v.w * (k / 100000) - ratan2 v.id v.iq
    let sum := (List.range 3).foldl (fun n q =>
      n + kk * (es.getD q 0 - mean) * rcos (ph - turn * (q : Rat) / 3)) 0
    let lim := (s.get R.ARM_BAL_CFG_V0_MAX_PCT : Rat) / 100 * s.vBase 0
    limMag (quot (4000000 * sum) (3 * mag)) lim

/-- The arm current as measured, and whether it is stale. -/
def State.armCurrent (s : State) (e : Nat) : Rat × Bool :=
  (s.eng e).src.getD (3 + s.ownIdx.getD 0) (0, true)

/-- The angular frequency of resonant integrator `h`; 0 when it is off. -/
def State.resW (s : State) (h : Nat) : Rat := (s.get (R.ARM_ICTRL_RES_ORDER h) : Rat) * (s.eng 0).w

/-- The gain of resonant integrator `h` at resonance in mV/mA (R255). -/
def State.resGain (s : State) (h : Nat) : Rat := (s.get (R.ARM_ICTRL_RES_KR h) : Rat) / 256

/-- The phase lead of resonant integrator `h` (R255). -/
def State.resLead (s : State) (h : Nat) : Rat := s.resW h * 15 / 1000000

/-- The damping of resonant integrator `h`: free, but positive. -/
def resK (h : Nat) : Rat := if 0 < Config.resDamp h then Config.resDamp h else 1

/-- The output of resonant integrator `h` (R255): the in-phase output of the generalised integrator, whose
gain at resonance is 1, turned by the lead and times the gain. -/
def State.resOut (s : State) (h : Nat) (g : Sogi) : Rat :=
  s.resGain h * (g.d * rcos (s.resLead h) - g.q * rsin (s.resLead h))

/-- Resonant integrator `h` after a cycle with the error `e`; one that is off holds nothing. -/
def State.resNext (s : State) (e : Rat) (h : Nat) : Sogi :=
  if s.get (R.ARM_ICTRL_RES_ORDER h) = 0 then {}
  else sogiStep (s.arm.res.getD h {}) e (s.resW h) (resK h)

/-- The sum of the resonant integrators' outputs for the states `l`. -/
def State.resSum (s : State) (l : List Sogi) : Rat :=
  (List.range 4).foldl (fun n h => n + s.resOut h (l.getD h {})) 0

/-- The states of the resonant integrators whose outputs sum to `want` (R258): the parts are free but for
the last one, which takes the rest. With none in use there is nothing to preload. -/
def State.resPreload (s : State) (e want : Rat) : List Sogi :=
  let on := (List.range 4).filter (fun h =>
    decide (s.get (R.ARM_ICTRL_RES_ORDER h) ≠ 0) && decide (s.resGain h ≠ 0))
  let part (h : Nat) : Rat := (Config.resShare h want).1
  let rest := want - (on.dropLast.foldl (fun n h => n + part h) 0)
  (List.range 4).map (fun h =>
    if on.contains h then
      let p := if on.getLast? = some h then rest else part h
      let q := (Config.resShare h want).2
      { d := quot (p / s.resGain h + q * rsin (s.resLead h)) (rcos (s.resLead h)), q := q, v := e }
    else {})

/-- The arm voltages at t_{n+1} and t_{n+2} in mV, computed at `t` = t_n (R255). A standby's regulator states
follow `V_ARM1` of the master's last frame, which stands for that frame's epoch (R258). -/
def State.armVoltage (s : State) (t : Nat) (v : Wave) (es : List Rat) (standby : Bool) :
    Rat × Rat × State :=
  let err := s.iRef v 0 - (s.armCurrent 0).1
  let kp : Rat := (s.geti R.ARM_ICTRL_KP_KP : Rat) / 16777216
  let l : Rat := (s.get R.ARM_L_ARM_UH : Rat)
  let base (k : Rat) : Rat :=
    s.vff v.p k + s.v0 v es k + l * (s.iRef v k - s.iRef v (k - 1)) / 10
  let states := match standby, s.lastFrame s.ownArm with
    | true, some f =>
      s.resPreload err ((f.v1 : Rat) - base (((f.epoch : Rat) - (t : Rat)) / 10000) - kp * err)
    | _, _ => (List.range 4).map (s.resNext err)
  let u := kp * err + s.resSum states
  (base 1 + u, base 2 + u, s.setArm (fun a => { a with res := states }))

/-- Limit fraction of R252, R286, R287, R289. -/
def State.limFrac (s : State) (sumPff id : Rat) : Nat :=
  let code (f : Rat) : Nat := if 1 ≤ f then 0xFFFF else (max 0 f * 65536).floor.toNat
  if s.flag R.RIDE_STATUS_TRIPPED ∨ s.flag R.RIDE_STATUS_MC then 0
  else if s.flag R.RIDE_STATUS_RT ∧ ¬ s.flag R.ARM_STATUS_GF then
    if sumPff = 0 then 0xFFFF else code (3 / 2 * (s.eng 0).vPos * id / 1000000 / sumPff)
  else
    let db : Rat := (s.get R.ARM_FFR_CFG_DB : Rat) * 10
    let excess := s.fHat 0 - s.fNom 0 - db
    let cut : Rat := if s.flag R.ARM_MODE_REQ_FFR_EN ∧ 0 < excess then
      (s.get R.ARM_FFR_CFG_KW_PER_HZ : Rat) * excess else 0
    code (quot (max 0 ((s.get R.ARM_P_LIM_INV_W : Rat) - cut)) sumPff)

/-- The dispatch of each storage cell in RUN in W (R252). -/
def State.dispatch (s : State) : Rat :=
  let n := (s.armReps.filter (fun r => r.run && r.flags.testBit 5)).length
  quot ((s.geti R.ARM_P_DISP_INV_W : Rat) / 3) (n : Rat)

/-- Keys of the roundings of an arm frame's fields: 2048 plus the field's offset. -/
def frameRound (o : Nat) (v : Rat) : Int := satI 32 (roundAs (2048 + o) v)

/-- An angle's 32-bit field. -/
def frameAngle (o : Nat) (v : Rat) : Nat :=
  ux 32 (roundAs (2048 + o) (quot v turn * 4294967296))

/-- `V_PEAK` follows |v_arm| of the last fundamental period; before the currents start |vff| stands in
(R256). -/
def State.peakCycle (s : State) (v : Rat) : State :=
  let n := min 3000 (quot 100000000 (s.fHat 0)).ceil.toNat
  let s := s.setArm (fun a => { a with peaks := (|v| :: a.peaks).take (max 1 n) })
  s.showU R.ARM_V_PEAK_MV s.vPeak

/-- `CAPABLE` (R256). -/
def State.capableNow (s : State) : Bool := decide (s.vPeak ≤ s.reach (s.armReps.filter CellRep.run))

/-- `CAPABLE` written; its fall while currents are on is reported by a master (R256). -/
def State.showCapable (s : State) (c master : Bool) : State :=
  let fell := s.flag R.ARM_STATUS_CAPABLE && !c && s.flag R.ARM_STATUS_CURRENT_ON && master
  let s := s.setB R.ARM_STATUS_CAPABLE c
  if fell then s.irqLog pgArm 4 2 else s

/-- The master's action on a stuck cell (R257). -/
def State.stuckCycle (s : State) (master : Bool) : State :=
  let any := s.armReps.any (fun r => r.flags.testBit 0)
  if ¬ master then s
  else if s.arm.stuck = 1 then
    let s := s.setArm (fun a => { a with stuck := 2 })
    (s.setB R.ARM_STATUS_STOPPED true).irqLog pgArm 5 2
  else if any ∧ s.arm.stuck = 0 then s.setArm (fun a => { a with stuck := 1 })
  else s

/-- The cycle of a master or standby (R252 to R257): the frame with epoch `t` + 10 µs. -/
def State.armCycle (s : State) (t : Nat) : ArmFrame × State :=
  let master := decide (s.role = 1)
  let s := s.stuckCycle master
  let s := s.keepBursts.ffrCycle
  let s := s.shareCycle (t + 10000)
  let s := s.tokenCycle
  let s := s.requestCycle t
  let s := s.biasCycle
  let p := s.ownPhase
  let (sums, s) := s.armSums
  let es := sums.map Prod.fst
  let esum := es.foldl (· + ·) 0
  let pff := sums.foldl (fun n a => n + a.2) 0
  let s := if s.flag R.ARM_STATUS_CURRENT_ON then s else s.peakCycle (s.vff p 1)
  let capable := s.capableNow
  let gf := s.flag R.ARM_STATUS_GF
  let rt := s.flag R.RIDE_STATUS_RT
  let kp : Rat := (s.geti R.ARM_ECTRL_KP_KP : Rat) / 16777216
  let ki : Rat := (s.geti R.ARM_ECTRL_KI_KI : Rat) / 16777216
  let hold := s.flag R.ARM_STATUS_I_LIMITED || rt
  let s := s.setArm (fun a => { a with eInt := if hold then a.eInt else a.eInt + esum / 100000 })
  -- bursts outside ride-through
  let (want, dur) := if s.modeWaits then (0, 0) else s.burstWant
  let burst := s.admitted want dur
  let vPos := (s.eng 0).vPos
  let pRef := s.ramped true (pff + kp * esum + ki * s.arm.eInt) + burst
  let qSet := s.ramped false (s.geti R.ARM_Q_SET_INV_VAR : Rat)
  let s := s.show R.ARM_P_REF_W pRef
  let (d, q, s) := if gf then
      let (a, b, s) := s.vsmCycle (quot pRef s.sBase) (quot qSet s.sBase)
      (a * s.iMax, b * s.iMax, s)
    else
      (quot (2000000 * pRef) (3 * vPos), quot (2000000 * qSet) (3 * max vPos (s.vBase 0 / 2)), s)
  let s := s.setB R.ARM_STATUS_VSM_LIMITED (gf && s.arm.vsm.limited)
  let (d, q, n, lim) :=
    if gf then (d, q, 0, s.arm.vsm.limited)
    else if rt then s.rtTargets
    else
      let (d, q, lim) := limitIdq d q s.iMax (s.flag R.ARM_MODE_REQ_Q_PRIO)
      match s.ride.recAt with
      | some _ =>
        let r := linPart s.ride.recAt (ms (s.get R.RIDE_REC_CFG_REC_RAMP_MS)) s.now
        (s.ride.recId + (d - s.ride.recId) * r, s.ride.recIq + (q - s.ride.recIq) * r,
          s.ride.recI2 * (1 - r), lim)
      | none => (d, q, 0, lim)
  let s := if rt ∧ ¬ gf then (s.show R.RIDE_IQ_RT_MA q).show R.RIDE_I2_RT_MA n else s
  let back := linPart s.ride.rtsRamp (secs (s.get R.RIDE_RTS_CFG_RTS_RAMP_S)) s.now
  let zero := s.zeroCurrents capable
  let (d, q, n) := if zero then (0, 0, 0) else (d * back, q * back, n * back)
  let s := s.showCapable capable master
  let s := s.setB R.ARM_STATUS_I_LIMITED (lim && !zero)
  let s := s.setB R.ARM_STATUS_CURRENT_ON (decide (d ≠ 0) || decide (q ≠ 0))
  let s := s.setArm (fun a => { a with id := d, iq := q, i2 := n })
  -- the ride-through burst (R286)
  let (want, burst) := if rt ∧ ¬ gf then
      let w := 3 / 2 * vPos * d / 1000000 - pff
      (max 0 w, s.admitted w ((s.get R.RIDE_REC_CFG_RT_BURST_MS : Rat) / 1000))
    else (want, burst)
  let s := s.showBurst want burst master
  let w := if gf then turn * s.fNom 0 / 1000 * s.arm.vsm.w else (s.eng 0).w
  let th := if gf then s.arm.vsm.theta - w / 100000 else (s.eng 0).theta0
  let v : Wave := { th := th, w := w, id := d, iq := q, i2 := n,
                    phi := s.isl.phi * turn / 36000, p := p }
  let (v1, v2, s) := s.armVoltage t v es (!master)
  let s := if s.flag R.ARM_STATUS_CURRENT_ON then s.peakCycle (max |v1| |v2|) else s
  let live := s.armReps.filter CellRep.live
  let eArm := satN 32 (sumReps live (fun r => r.energy))
  let s := ((s.set R.ARM_E_ARM_MJ eArm).show R.ARM_ID_REF_MA d).show R.ARM_IQ_REF_MA q
  let (ia, iaStale) := s.armCurrent 0
  let stop := decide (s.arm.stuck = 2)
  let grant := if master ∧ ¬ stop then s.nextGrant (decide (burst ≠ 0)) else none
  let ncells := s.get (R.ARM_ROLE_CFG_NCELLS (s.ownIdx.getD 0)) + 1
  let flags := (if gf then 1 else 0) + (if rt then 2 else 0) + (if stop then 4 else 0)
    + (if burst ≠ 0 then 8 else 0) + (if iaStale then 16 else 0)
    + (if (s.eng 0).vStale then 32 else 0) + (if capable then 64 else 0)
  ({ arm := s.ownArm, flags := flags, term := s.get R.ARM_ROLE_STAT_TERM, ncells := ncells,
     nrun := live.length, epoch := t + 10000,
     v1 := frameRound 16 v1, v2 := frameRound 20 v2,
     i1 := frameRound 24 (s.iRef v 1), i2 := frameRound 28 (s.iRef v 2),
     th1 := frameAngle 32 (th + w / 100000), th2 := frameAngle 36 (th + 2 * w / 100000),
     iArm := frameRound 40 ia, vPos := satN 32 (roundAs 2092 vPos).toNat,
     id := frameRound 48 d, iq := frameRound 52 q, eArm := eArm,
     pFf := satN 32 (sumReps live (fun r => r.avail)), limFrac := s.limFrac pff d,
     gPos := (grant.map (fun g => g.pos)).getD 0, gKind := (grant.map (fun g => g.kind)).getD 0,
     pDisp := frameRound 68 s.dispatch,
     gEpoch := if grant.isSome then t + 100000 else 0,
     w := s.weights ncells (decide (0 ≤ pRef)), node := s.addr }, s)

end Sys2Proof.Machine
end

