-- ==== Sys2Proof/Machine/Grid.lean ====
section
/-! DEFINITION. The commands of the grid engines (R241 to R270). -/

namespace Sys2Proof.Machine

/-- Start or end of the host burst at a commit that carries `BURST_REQ` (R264). -/
def State.burstCommit (s : State) (carried : Bool) : State :=
  if carried then
    let kw := s.get R.ARM_BURST_REQ_KW
    s.setArm (fun a => { a with
      burstEnd := if kw = 0 then none else some (s.now + ms (s.get R.ARM_BURST_REQ_MS)), burstLeft := none })
  else s

/-- The mode may be entered (R266). -/
def State.modePermit (s : State) (gf : Bool) : Bool :=
  if gf then s.flag R.BOOT_PERMIT_GRID_FORM else s.flag R.BOOT_PERMIT_GRID_FOLLOW

/-- A waiting commit of page `ARM` at a cycle start (R241, R264, R266, R268, R269). Only a commit that carries
`MODE_REQ` asks for a mode. -/
def State.armCommit (s : State) : State :=
  let s := s.undrop pgArm
  if s.commitDue pgArm then
    let asks := (s.staged.lookup R.ARM_MODE_REQ_GF.key).isSome
    let gf := decide (s.stagedOf R.ARM_MODE_REQ_GF ≠ 0)
    let change := asks && (gf != s.flag R.ARM_STATUS_GF)
    if asks && !s.modePermit gf then
      let s := (s.dropStaged pgArm).setB (H.COMMIT_GO pgArm) false
      (s.setB R.ARM_STATUS_MODE_REFUSED true).irq pgArm 7
    else if change && s.modeWaits then s
    else
      let burst := (s.staged.lookup R.ARM_BURST_REQ_KW.key).isSome
        || (s.staged.lookup R.ARM_BURST_REQ_MS.key).isSome
      let s := (s.doCommit pgArm).burstCommit burst
      if change then s.handOver gf else s
  else s

/-- A commit of `GE0` or `GE1` at a cycle start (R241). -/
def State.geCommit (s : State) (e : Nat) : State :=
  let s := s.undrop (pgGe e)
  if s.commitDue (pgGe e) then s.doCommit (pgGe e) else s

/-- An ordered transfer to grid forming (R298, R266, R269). -/
def State.orderCycle (s : State) : State :=
  if s.arm.orderGf ∧ ¬ s.modeWaits then
    let s := s.setArm (fun a => { a with orderGf := false })
    if s.flag R.ARM_STATUS_GF ∨ ¬ s.modePermit true ∨ s.flag R.RIDE_STATUS_TRIPPED then s
    else s.handOver true
  else s

/-- Frames of the served arms that did not come for the interval now ended (R251). An arm no frame of
which has come yet misses none. -/
def State.missingCycle (s : State) (t : Nat) : State :=
  s.servedArms.foldl
    (fun u a =>
      if (u.lastFrame a).isSome ∧ (u.frameAt a (t - 10000)).isNone then u.frameMissing a (t - 10000)
      else u) s

/-- Since when the inputs are stale, and fresh with clean checks (R262). -/
def State.freshCycle (s : State) : State :=
  let iSt := (s.armCurrent 0).2
  let vAll := ((s.eng 0).src.take 3).all (fun p => p.2)
  let clean := !iSt && !(s.eng 0).vStale && s.arm.xSince.all (fun x => x.isNone)
  s.setArm (fun a => { a with
    iStale := since iSt a.iStale s.now, vStale := since vAll a.vStale s.now,
    cleanSince := since clean a.cleanSince s.now })

/-- Takeover by the standby (R259), and the loss of an arbitration (R261), at a cycle start. -/
def State.roleCycle (s : State) (t : Nat) : State :=
  if s.role = 1 ∧ s.arm.lost then
    (s.setRole 2).setArm (fun a => { a with lost := false })
  else if s.role = 2 ∧ (s.frameAt s.ownArm t).isNone then
    let term := match s.lastFrame s.ownArm with
      | some f => (f.term + 1) % 65536
      | none => (s.get R.ARM_ROLE_STAT_TERM + 1) % 65536
    let s := (s.setRole 1).set R.ARM_ROLE_STAT_TERM term
    let s := s.setArm (fun a => { a with unsent := 0, lost := false })
    (s.inc R.ARM_CNT_A_TAKEOVERS).irqLog pgArm 0 1
  else s

/-- A frame or report given to the Vodor engine (R241, R346): it is held for its release time. One that the
crossing discards is lost (R18). -/
def State.giveTc2 (s : State) (t : Nat) (exp : Bool) (payload : List Nat) : State :=
  if s.lostNext 10 then s.takeLost 10
  else
    let f : Frame := ⟨2, 0, true, exp, 0, s.get (R.VODOR_GROUP_GADDR 0), s.addr, 16383, 0, payload, true, 32⟩
    s.modRing (fun r => { r with held := r.held ++ [(t, f)] })

/-- Checks 2 and 3 of R270 on the outgoing frame. -/
def State.frameChecks (s : State) (f : ArmFrame) : Bool × Bool :=
  let m := s.iMax
  let mag2 : Rat := (f.id : Rat) * (f.id : Rat) + (f.iq : Rat) * (f.iq : Rat)
  let top : Rat := (sumReps (s.armReps.filter CellRep.run) (fun r => r.vdc) : Rat) * 1000
  (decide (m < |(f.i1 : Rat)|) || decide (m < |(f.i2 : Rat)|) || decide (m * m < mag2),
    decide (top < |(f.v1 : Rat)|) || decide (top < |(f.v2 : Rat)|))

/-- The condition of check `b` of R270, for the checks that persist. -/
def State.checkHolds (s : State) (b : Nat) : Bool :=
  let g0 := s.eng 0
  let g1 := s.eng 1
  if b = 0 then
    let d := modTurn (g0.theta0 - g1.theta0)
    s.flag (R.GE_PLL_STAT_LOCKED 0) && s.flag (R.GE_PLL_STAT_LOCKED 1)
      && decide ((s.get (R.GE_XCHK_CFG0_THETA_TOL 1) : Rat) < min d (turn - d) * 1000)
  else if b = 1 then
    decide ((s.get (R.GE_XCHK_CFG0_FREQ_TOL 1) : Rat) < |s.fHat 0 - s.fHat 1|)
  else if b = 4 then
    match s.arm.own with
    | some f =>
      decide (s.role = 1) && !(s.armCurrent 0).2 && !(s.armCurrent 1).2
        && decide ((s.get (R.GE_XCHK_CFG1_IERR_PCT 1) : Rat) / 100 * s.iMax
          < |(f.i1 : Rat) - (s.armCurrent 1).1|)
    | none => false
  else if b = 6 then
    match s.arm.own with
    | some f =>
      decide (s.role = 1) && (List.range 3).any (fun p => decide (p ≠ s.ownPhase)
        && (match s.frameAt (s.invArm p) f.epoch with
          | some o => decide (s.iMax / 100 < |(o.id : Rat) - (f.id : Rat)|)
              || decide (s.iMax / 100 < |(o.iq : Rat) - (f.iq : Rat)|)
          | none => false))
    | none => false
  else if b = 7 then s.plausFailed 0
  else if b = 8 then s.plausFailed 2
  else false

/-- GE1's persistent checks at a cycle (R270). -/
def State.checkCycle (s : State) : State :=
  let now := (List.range 9).map s.checkHolds
  s.setArm (fun a => { a with
    xSince := (List.range 9).map (fun b => since (now.getD b false) (a.xSince.getD b none) s.now),
    xDone := (List.range 9).map (fun b => now.getD b false && a.xDone.getD b false) })

/-- The frame released, with its grant issued (R257), or held back by a check; three unsent frames in a row make the master resign
(R262, R270). -/
def State.releaseFrame (s : State) (t : Nat) (f : ArmFrame) : State :=
  let (c2, c3) := s.frameChecks f
  if c2 || c3 then
    let s := if c2 then s.xchk 2 else s
    let s := if c3 then s.xchk 3 else s
    let s := s.setArm (fun a => { a with unsent := a.unsent + 1 })
    if 3 ≤ s.arm.unsent then s.resign else s
  else
    let s := s.setArm (fun a => { a with unsent := 0, own := some f })
    let s := if f.gKind = 0 then s
      else (s.noteGrant ⟨f.gKind, f.gPos, f.gEpoch⟩).inc R.ARM_CNT_B_GRANTS
    s.giveTc2 t true f.payload

/-- `LIMIT` and `MISS_MAX` of engine `e` in the cycle that started at `t` (R94). -/
def State.gridLimit (s : State) (e t : Nat) : Nat × Nat :=
  match s.arm.limOld.getD e none with
  | some (c, l) => if c = t then l else (s.get (R.GE_DL_LIMIT_LIMIT e), s.get (R.GE_DL_LIMIT_MISS_MAX e))
  | none => (s.get (R.GE_DL_LIMIT_LIMIT e), s.get (R.GE_DL_LIMIT_MISS_MAX e))

/-- The deadline of engine `e`'s cycle that started at `t` has passed, or its miss is counted (R242). -/
def State.cycleLate (s : State) (e t : Nat) : Bool :=
  decide (s.arm.missAt.getD e none = some t) || decide (t + (s.gridLimit e t).1 * 2 < s.canopy)

/-- The miss of engine `e`'s cycle that started at `t`, counted once (R95, R242). -/
def State.missCycle (s : State) (e t : Nat) : State :=
  if s.arm.missAt.getD e none = some t then s
  else
    let mx := (s.gridLimit e t).2
    let s := s.setArm (fun a => { a with missAt := a.missAt.set e (some t) })
    match dlPair (pgGe e) 0x0A4 with
    | none => s
    | some d =>
      let (s, esc) := s.dlMissMax d mx
      if esc then
        let s := if e = 1 then (List.range 8).foldl (fun u x => u.channelFault x) s else s
        s.resign
      else s

/-- A grid engine's cycle deadline passes with its cycle not done (R242, R95): the newest cycle start whose
deadline has been reached. -/
def State.gridMiss (s : State) (e : Nat) : State :=
  let t0 := s.cycleStart
  let lim := (s.gridLimit e t0).1 * 2
  let t := if t0 + lim ≤ s.canopy then t0
    else (s.canopy - s.get (R.GE_DL_LIMIT_LIMIT e) * 2) / 10000 * 10000
  if s.gridRuns ∧ s.arm.startAt ≤ t ∧ t + (s.gridLimit e t).1 * 2 ≤ s.canopy ∧ ¬ s.arm.ran.contains t then
    s.missCycle e t
  else s

/-- The deadline of engine `e`'s cycle met (R242). -/
def State.cycleMet (s : State) (e : Nat) : State :=
  match dlPair (pgGe e) 0x0A4 with
  | some d => s.dlMeet d
  | none => s

/-- GRID_CYCLE (R241): at a cycle start both engines latch their inputs and run their cycle. -/
def execGridCycle (dt : Nat) (s : State) : Host.Outcome State Fault Refusal :=
  let s := s.elapse dt
  let t := s.cycleStart
  if s.gridRuns ∧ s.arm.startAt ≤ t ∧ ¬ s.arm.ran.contains t then
    let missed0 := s.cycleLate 0 t
    let missed1 := s.cycleLate 1 t
    let s := if missed0 then s.missCycle 0 t else s
    let s := if missed1 then s.missCycle 1 t else s
    let s := s.setArm (fun a => { a with ran := (t :: a.ran).take 256 })
    let s := (s.set (R.GE_CYCLE_T_NS 0) t).set (R.GE_CYCLE_T_NS 1) t
    let s := s.missingCycle t
    let s := (((s.geCommit 0).geCommit 1).armCommit).orderCycle
    let s := (s.latchSources t 0).latchSources t 1
    let s := ((s.pllCycle 0).pllCycle 1).meterAngle
    let s := s.freshCycle
    let s := s.roleCycle t
    let s := s.crossEntries
    let reports := s.servedArms.map (fun a => s.report a t)
    let (frame, s) : Option ArmFrame × State :=
      if s.role = 1 ∨ s.role = 2 then
        let (f, s) := s.armCycle t
        (some f, s)
      else (none, s)
    let s := s.checkCycle
    let s :=
      if missed0 || missed1 then s
      else
        let s : State := match frame with
          | some f => if s.role = 1 then s.releaseFrame t f else s
          | none => s
        reports.foldl (fun u r => u.giveTc2 t false r) s
    let s := if missed0 then s else s.cycleMet 0
    let s := if missed1 then s else s.cycleMet 1
    .next s.rideCycle
  else .next s

/-- GRID_PLL_LOCK (R246): |e| has been at most 0.05 rad for 40 ms. -/
def execGridPllLock (dt : Nat) (e : Fin 2) (s : State) : Host.Outcome State Fault Refusal :=
  let s := s.elapse dt
  .next (if s.gridRuns ∧ ¬ s.flag (R.GE_PLL_STAT_LOCKED e) ∧ ¬ s.flag (R.GE_PLL_STAT_FROZEN e)
      ∧ heldFor (s.eng e).lockSince (ms 40) s.now then
    ((s.setB (R.GE_PLL_STAT_LOCKED e) true).irq (pgGe e) 0).pllFreeSync
  else s)

/-- GRID_PLL_UNLOCK (R246): |e| has been above 0.2 rad for 5 ms, or the loop frozen for 100 ms. -/
def execGridPllUnlock (dt : Nat) (e : Fin 2) (s : State) : Host.Outcome State Fault Refusal :=
  let s := s.elapse dt
  let g := s.eng e
  .next (if s.gridRuns ∧ s.flag (R.GE_PLL_STAT_LOCKED e)
      ∧ (heldFor g.badSince (ms 5) s.now ∨ heldFor g.frozenSince (ms 100) s.now) then
    (if e.val = 0 then (s.pllUnlock e).meterUnlock else s.pllUnlock e)
  else s)

/-- GRID_PLL_UNFREEZE (R246): both freezing conditions have been absent for 2 ms. -/
def execGridPllUnfreeze (dt : Nat) (e : Fin 2) (s : State) : Host.Outcome State Fault Refusal :=
  let s := s.elapse dt
  .next (if s.gridRuns ∧ s.flag (R.GE_PLL_STAT_FROZEN e) ∧ heldFor (s.eng e).clearSince (ms 2) s.now then
    (s.setB (R.GE_PLL_STAT_FROZEN e) false).setEng e (fun g => { g with
      frozenSince := none, clearSince := none })
  else s)

/-- ARM_FRAME_RECEIVED (R251, R261): a delivered arm frame reaches the grid engines. -/
def execArmFrameReceived (dt : Nat) (s : State) : Host.Outcome State Fault Refusal :=
  let s := s.elapse dt
  if s.gridRuns then
    match s.takeInbox (fun d => decide (d.kind = 0) && decide (d.ptype = 0x0A01)) with
    | none => .next s
    | some (d, s) =>
      if s.lostNext 9 then .next (s.takeLost 9)
      else match parseArm d.payload d.src with
      | none => .next s
      | some f => .next (s.takeFrame f)
  else .next s

/-- CELL_REPORT_RECEIVED (R248): a delivered cell report reaches the master or standby. -/
def execCellReportReceived (dt : Nat) (s : State) : Host.Outcome State Fault Refusal :=
  let s := s.elapse dt
  if s.gridRuns then
    match s.takeInbox (fun d => decide (d.kind = 0) && decide (d.ptype = 0x0A02)) with
    | none => .next s
    | some (d, s) => .next (if s.lostNext 9 then s.takeLost 9 else s.takeReport d.payload)
  else .next s

/-- MASTER_RESIGN (R262): the arm current source or all voltages have been stale for 1 ms. -/
def execMasterResign (dt : Nat) (s : State) : Host.Outcome State Fault Refusal :=
  let s := s.elapse dt
  .next (if s.gridRuns ∧ s.role = 1
      ∧ (heldFor s.arm.iStale (ms 1) s.now ∨ heldFor s.arm.vStale (ms 1) s.now) then s.resign
  else s)

/-- RESIGN_RECOVERY (R262): a resigned node's inputs and checks have been good for 1 s. -/
def execResignRecovery (dt : Nat) (s : State) : Host.Outcome State Fault Refusal :=
  let s := s.elapse dt
  .next (if s.gridRuns ∧ s.role = 3 ∧ heldFor s.arm.cleanSince (secs 1) s.now then s.setRole 2 else s)

/-- The channel is energised: its PWM runs or its cell power block commands it (R160, R221). -/
def State.energised (s : State) (x : Nat) : Bool := s.flag (R.PWM_CTRL_EN x) || (s.ch x).cell.cmd

/-- XCHK_FAIL (R270): check `b` has held for `TIME_MS`. -/
def execXchkFail (dt : Nat) (b : Fin 9) (s : State) : Host.Outcome State Fault Refusal :=
  let s := s.elapse dt
  let k : Nat := b
  if s.gridRuns ∧ ¬ s.arm.xDone.getD k false
      ∧ heldFor (s.arm.xSince.getD k none) (ms (s.get (R.GE_XCHK_CFG1_TIME_MS 1))) s.now then
    let s := (s.xchk k).setArm (fun a => { a with xDone := a.xDone.set k true })
    if k < 7 then
      let s := (List.range 8).foldl (fun u x => if u.energised x then u.channelFault x else u) s
      .next (s.resign.irqLog (pgGe 1) 5 2)
    else .next s
  else .next s

/-- MODE_RAMP_END (R268): the hand-over's ramp has run. -/
def execModeRampEnd (dt : Nat) (s : State) : Host.Outcome State Fault Refusal :=
  let s := s.elapse dt
  match s.arm.ramp with
  | some r =>
    if s.gridRuns ∧ r.at_ + ms (s.get R.ARM_XFER_CFG_RAMP_MS) ≤ s.now then
      .next ((s.setArm (fun a => { a with ramp := none })).setB R.ARM_STATUS_RAMPING false)
    else .next s
  | none => .next s

/-- The set of R250 for channel `x` from a frame, for the grid instant `tg`. -/
def State.geSet (s : State) (x tg : Nat) (f : ArmFrame) : State :=
  let k : Rat := ((tg + 250 : Nat) - (f.epoch : Nat) : Rat) / 10000
  let v : Rat := (f.v1 : Rat) + ((f.v2 : Rat) - (f.v1 : Rat)) * k
  let i : Rat := (f.i1 : Rat) + ((f.i2 : Rat) - (f.i1 : Rat)) * k
  let d := (f.th2 + 4294967296 - f.th1 % 4294967296) % 4294967296
  let th : Rat := ((f.th1 : Rat) + (d : Rat) * k) / 4294967296 * turn
  let w : Rat := (f.w.getD (s.get (R.ARM_CH_ASSIGN_POS x)) 0 : Rat) / 65536
  let fs0 : Int := s.geti (R.SENSE_FS_VAL x 0)
  let fs5 : Int := s.geti (R.SENSE_FS_VAL x 5)
  let (w0, s) := s.fraction 4096 (w * v) fs0
  let (w1, s) := s.fraction 4097 i fs5
  let (w2, s) := s.fraction 4098 (rcos th) 1
  let (w3, s) := s.fraction 4099 (rsin th) 1
  let (a0, s) := s.fraction 4100 (f.iArm : Rat) fs5
  let (a1, s) := s.fraction 4101 (f.vPos : Rat) (2 * (s.get (R.GE_VBASE_MV 0) : Int))
  let g : GeSet := { ref := [w0, w1, w2, w3], aux := [a0, a1], auxStale := [f.flag 4, f.flag 5],
                     gf := f.flag 0 }
  (s.setKe x (fun k => { k with ge := some g, geAge := 0 })).setB (R.KE_STATUS_REF_LOST x) false

/-- GE0_SET_DELIVERY (R250): a set of the accepted frame that covers the grid instant reaches channel
`x`. -/
def execGe0SetDelivery (dt : Nat) (x : Fin 8) (s : State) : Host.Outcome State Fault Refusal :=
  let s := s.elapse dt
  let tg := s.canopy / 500 * 500
  let a := s.get (R.ARM_CH_ASSIGN_ARM_ID x)
  let cover := s.arm.frames.find? (fun f =>
    decide (f.arm = a) && decide (f.epoch ≤ tg) && decide (tg < f.epoch + 10000))
  match cover with
  | some f =>
    if s.gridRuns ∧ s.cellRuns x ∧ s.flag (R.ARM_CH_ASSIGN_VALID x) then
      .next (if s.lostNext x then s.takeLost x else s.geSet x tg f)
    else .next s
  | none => .next s

end Sys2Proof.Machine
end

