-- ==== Sys2Proof/Machine/Guard.lean ====
section
/-! DEFINITION. The gate guard's and the bypass hold's commands (R155 to R183). -/

namespace Sys2Proof.Machine

/-- The condition of a source that a register shows (R155); the others follow a ball. -/
def State.sourceCondition (s : State) (x n : Nat) (want : Bool) : Bool :=
  if n < 12 then (s.get (R.SENSE_CMP_STAT_OUT x)).testBit n == want
  else if 28 ≤ n ∧ n < 32 then (s.get (R.PWM_STATUS_SHOOT x)).testBit (n - 28) == want
  else if n = 32 then s.flag (R.PWM_FAULT_SOFT_SET x) == want
  else decide (n < 32)

/-- An `SC_N` low is qualified (R162, R163). -/
def State.scQualify (s : State) (x k : Nat) : State :=
  if s.source x (12 + k) ∨ ¬ s.filterDone x k then s
  else
    let s := (s.filterTaken x k).setMaskBit (R.GUARD_SC_STAT_SEEN x) k
    let s := s.inc (if k % 2 = 0 then R.GUARD_SC_CNT_HIGH x (k / 2) else R.GUARD_SC_CNT_LOW x (k / 2))
    let s := (s.set (R.GUARD_SC_T_NS x) (s.stamp (pgGuard x))).irq (pgGuard x) k
    let s := s.setGuard x (fun d => { d with scSince := d.scSince.set k (some s.now) })
    s.sourceOn x (12 + k)

/-- `RDY` of leg `y` has been low for its filter's time (R166, R167). -/
def State.rdyNotReady (s : State) (x y : Nat) : State :=
  if (s.get (R.GUARD_SC_STAT_RDY_LOW x)).testBit y ∨ ¬ s.filterDone x (8 + y) then s
  else
    let s := (s.filterTaken x (8 + y)).setMaskBit (R.GUARD_SC_STAT_RDY_LOW x) y
    if (s.ch x).guard.blanking then s.setMaskBit (R.GUARD_SC_STAT_BLANKED x) y
    else (s.irq (pgGuard x) (8 + y)).sourceOn x (20 + y)

/-- `TRIP_N` input `n` has been low for its filter's time (R169). -/
def State.tripLow (s : State) (x n : Nat) : State :=
  if s.source x (24 + n) ∨ ¬ s.filterDone x (12 + n) then s
  else (s.filterTaken x (12 + n)).sourceOn x (24 + n)

/-- FAULT_SOURCE_ACTIVE (R155, R156): a source becomes active. An input of the guard does so as its own
filter and its rules say (R162 to R169). -/
def execFaultSourceActive (dt : Nat) (x : Fin 8) (n : Fin 36) (s : State) :
    Host.Outcome State Fault Refusal :=
  let s := s.elapse dt
  let k : Nat := n
  .next (if s.cellRuns x ∧ s.sourceCondition x n true then
      if 12 ≤ k ∧ k < 20 then s.scQualify x (k - 12)
      else if 20 ≤ k ∧ k < 24 then s.rdyNotReady x (k - 20)
      else if 24 ≤ k ∧ k < 28 then s.tripLow x (k - 24)
      else s.sourceOn x n
    else s)

/-- `RDY` of leg `y` has been high for its filter's time (R166, R167). -/
def State.rdyReady (s : State) (x y : Nat) : State :=
  if ¬ (s.get (R.GUARD_SC_STAT_RDY_LOW x)).testBit y ∨ ¬ s.filterDone x (8 + y) then s
  else
    let s := (s.filterTaken x (8 + y)).putMaskBit (R.GUARD_SC_STAT_RDY_LOW x) y false
    (s.putMaskBit (R.GUARD_SC_STAT_BLANKED x) y false).sourceOff x (20 + y)

/-- FAULT_SOURCE_INACTIVE (R162, R166, R169, R172): a source becomes inactive after its filter. -/
def execFaultSourceInactive (dt : Nat) (x : Fin 8) (n : Fin 36) (s : State) :
    Host.Outcome State Fault Refusal :=
  let s := s.elapse dt
  let k : Nat := n
  if s.cellRuns x ∧ s.sourceCondition x k false then
    if 20 ≤ k ∧ k < 24 then .next (s.rdyReady x (k - 20))
    else if 12 ≤ k ∧ k < 28 then
      let i := k - 12
      if s.source x k ∧ s.filterDone x i then
        let s := s.filterTaken x i
        let s := if k < 20 then s.setGuard x (fun d => { d with scSince := d.scSince.set i none }) else s
        .next (s.sourceOff x k)
      else .next s
    else .next (s.sourceOff x k)
  else .next s

/-- SC_QUALIFY (R163): an `SC_N` low is qualified. -/
def execScQualify (dt : Nat) (x : Fin 8) (w : Fin 8) (s : State) :
    Host.Outcome State Fault Refusal :=
  let s := s.elapse dt
  .next (if s.cellRuns x then s.scQualify x w else s)

/-- SC_STUCK (R164): an `SC_N` source has been active for 1 ms. -/
def execScStuck (dt : Nat) (x : Fin 8) (w : Fin 8) (s : State) : Host.Outcome State Fault Refusal :=
  let s := s.elapse dt
  let k : Nat := w
  match (s.ch x).guard.scSince.getD k none with
  | none => .next s
  | some t =>
    if s.cellRuns x ∧ t + ms 1 ≤ s.now then
      let s := s.setGuard x (fun d => { d with scSince := d.scSince.set k none })
      let s := (s.setMaskBit (R.GUARD_SC_STAT_STUCK x) k).irqLog (pgGuard x) 17 2
      .next (match s.mapped x (12 + k) with
        | some g => s.latchGroup x g
        | none => s)
    else .next s

/-- RDY_NOT_READY (R166, R167): `RDY_x_y` has been low for the filter time. -/
def execRdyNotReady (dt : Nat) (x : Fin 8) (y : Fin 4) (s : State) :
    Host.Outcome State Fault Refusal :=
  let s := s.elapse dt
  .next (if s.cellRuns x then s.rdyNotReady x y else s)

/-- RDY_BLANK_END (R167): blanking ends; a leg still not ready activates its source at once. -/
def execRdyBlankEnd (dt : Nat) (x : Fin 8) (s : State) : Host.Outcome State Fault Refusal :=
  let s := s.elapse dt
  if s.cellRuns x ∧ (s.ch x).guard.blanking
      ∧ (s.ch x).pwm.runAt + us (s.get (R.GUARD_RDY_CFG_BLANK x)) ≤ s.now then
    let low := s.get (R.GUARD_SC_STAT_RDY_LOW x)
    let s := (s.set (R.GUARD_SC_STAT_BLANKED x) 0).setGuard x (fun d => { d with blanking := false })
    .next ((List.range 4).foldl
      (fun t y => if low.testBit y then (t.irq (pgGuard x) (8 + y)).sourceOn x (20 + y) else t) s)
  else .next s

/-- TRIP_INPUT (R169): `TRIP_N_n` has been low for 4 cycles; every cell island acts for itself. -/
def execTripInput (dt : Nat) (n : Fin 4) (s : State) : Host.Outcome State Fault Refusal :=
  let s := s.elapse dt
  .next ((List.range 8).foldl (fun t x => if t.cellRuns x then t.tripLow x n else t) s)

/-- GROUP_WAIT_EXPIRY (R172): `WAIT` has passed since the group's last source. -/
def execGroupWaitExpiry (dt : Nat) (x : Fin 8) (g : Fin 16) (s : State) :
    Host.Outcome State Fault Refusal :=
  let s := s.elapse dt
  if s.cellRuns x ∧ s.groupActive x g ∧ s.flag (R.GUARD_GSTAT_WAITING x g)
      ∧ (s.group x g).lastActive + us (s.get (R.GUARD_GCFG_WAIT x g)) ≤ s.now then
    let s := s.closeWindow x g
    .next ((s.setGroup x g (fun d => { d with release := true })).escalateAll x)
  else .next s

/-- The carrier is at a zero in this cycle, or an ideal edge falls in it on a leg that group `g` names: on
any leg for a group that holds all eight outputs off (R172). -/
def State.releasePoint (s : State) (x g : Nat) : Bool :=
  let p := (s.ch x).pwm
  let act := s.get (R.PWM_GRP_ACTION x g)
  let here (t : Nat) : Bool := decide (t / cellCycle = s.now / cellCycle)
  (p.started && here p.zeroAt)
    || (List.range 4).any (fun y =>
      (act == gaCellOff || act == gaChannelFault || decide (bitsOf (s.get (R.PWM_GRP_OUT x g)) (2 * y) 2 ≠ 0))
        && (match (s.leg x y).edgeAt with
          | some (t, _) => here t
          | none => false))

/-- GROUP_RELEASE (R172): an ideal edge on a named leg or a carrier zero lets a pending release take
effect; the outputs follow their demand (R157). -/
def execGroupRelease (dt : Nat) (x : Fin 8) (g : Fin 16) (s : State) :
    Host.Outcome State Fault Refusal :=
  let s := s.elapse dt
  if s.cellRuns x ∧ s.groupActive x g ∧ (s.group x g).release ∧ s.releasePoint x g then
    let n := s.get (R.GUARD_GSTAT_COUNT x g)
    let e := s.flag (R.GUARD_GSTAT_ESCALATED x g)
    let s := s.closeWindow x g
    let s := (s.putMaskBit (R.PWM_GRP_ACT_ACTIVE x) g false).setB (R.GUARD_GSTAT_WAITING x g) false
    let s := s.setGroup x g (fun d => { d with release := false, relAt := some (s.now, n, e) })
    .next (s.escalateAll x)
  else .next s

/-- GROUP_WINDOW_CLOSE (R172): the retry window of a group with no active source closes. -/
def execGroupWindowClose (dt : Nat) (x : Fin 8) (g : Fin 16) (s : State) :
    Host.Outcome State Fault Refusal :=
  let s := s.elapse dt
  if s.cellRuns x ∧ ¬ s.groupSourced x g ∧ ¬ s.flag (R.GUARD_GSTAT_LATCHED x g) then
    .next ((s.closeWindow x g).escalateAll x)
  else .next s

/-- The latches of the groups in `mask` cleared (R173); a group with no source waits. A group that has
latched in this very cycle stays latched (R174). -/
def State.clearLatches (s : State) (x mask : Nat) : State :=
  if s.flag (R.PWM_CTRL_EN x) then s.err (pgGuard x)
  else
    let s := (List.range 16).foldl
      (fun t g =>
        if mask.testBit g && (t.metNow (R.GUARD_GSTAT_LATCHED x g)).isEmpty then
          let was := t.flag (R.GUARD_GSTAT_LATCHED x g)
          let t := (t.setB (R.GUARD_GSTAT_LATCHED x g) false).set (R.GUARD_GSTAT_COUNT x g) 0
          let t := t.setB (R.GUARD_GSTAT_ESCALATED x g) false
          if was && !t.groupSourced x g then t.setB (R.GUARD_GSTAT_WAITING x g) true else t
        else t) s
    (s.escalateAll x).guardSync x

/-- LATCH_CLEAR (R173): a write to `GUARDx.LATCH_CLR`. -/
def execLatchClear (dt : Nat) (x : Fin 8) (mask : Fin 65536) (s : State) :
    Host.Outcome State Fault Refusal :=
  .next ((s.elapse dt).hostAct (pgGuard x) 0x04C (fun t => t.clearLatches x mask))

/-- The feedback of the bypass shows open, or closed (R181). -/
def State.fbShows (s : State) (x : Nat) (opened : Bool) : State :=
  if opened ≠ s.flag (R.GUARD_BYP_STAT_FB_OPEN x) then
    let d := (s.ch x).guard
    let on := s.flag (R.GUARD_BYP_STAT_HOLD_ON x)
    let s := s.setB (R.GUARD_BYP_STAT_FB_OPEN x) opened
    let changed (s : State) : State :=
      (s.setB (R.GUARD_BYP_STAT_FB_CHANGE x) true).irqLog (pgGuard x) 16 2
    if on then
      if opened then
        (s.setGuard x (fun d => { d with openDue := none, openOk := true })).joinOpened x
      else if d.openOk then (changed s).channelFault x
      else s
    else if opened then
      (if d.closedOk then changed (s.setGuard x (fun d => { d with closedOk := false })) else s)
    else
      let s := s.setGuard x (fun d => { d with closeDue := none, closedOk := true })
      if s.cellState x = csStuck then s.cellEnter x csHusk else s
  else if opened ∨ s.flag (R.GUARD_BYP_STAT_HOLD_ON x) then s
  else s.setGuard x (fun d => { d with closedOk := true })

/-- BYP_FB_CHANGE (R181): the filtered `BYP_FB_x` takes a level. A change follows 20 µs of the level. -/
def execBypFbChange (dt : Nat) (x : Fin 8) (level : Bool) (s : State) :
    Host.Outcome State Fault Refusal :=
  let s := s.elapse dt
  let opened := level != s.flag (R.GUARD_BYP_CFG_FB_POL x)
  let change := opened != s.flag (R.GUARD_BYP_STAT_FB_OPEN x)
  if s.cellRuns x ∧ (change → s.filterDone x 16) then
    .next ((if change then s.filterTaken x 16 else s).fbShows x opened)
  else .next s

/-- A write of `BYP_CFG`: ignored while `BYP_HOLD_x` toggles (R181). The level of the feedback does not
change with its polarity, so what it shows does. -/
def State.bypCfgWrite (s : State) (x v : Nat) : State :=
  if s.flag (R.GUARD_BYP_STAT_HOLD_ON x) ∨ bitsOf v 8 8 = 0 ∨ bitsOf v 16 8 = 0 then s.err (pgGuard x)
  else
    let old := s.flag (R.GUARD_BYP_CFG_FB_POL x)
    let s := (s.set (R.GUARD_BYP_CFG_FB_POL x) v).set (R.GUARD_BYP_CFG_OPEN_MS x) (bitsOf v 8 8)
    let s := s.set (R.GUARD_BYP_CFG_CLOSE_MS x) (bitsOf v 16 8)
    if v.testBit 0 = old then s else s.fbShows x (!s.flag (R.GUARD_BYP_STAT_FB_OPEN x))

/-- BYP_OPEN_CHECK_EXPIRY (R181, R224): `OPEN_MS` passes without the feedback showing open. -/
def execBypOpenCheckExpiry (dt : Nat) (x : Fin 8) (s : State) : Host.Outcome State Fault Refusal :=
  let s := s.elapse dt
  match (s.ch x).guard.openDue with
  | none => .next s
  | some t =>
    if s.cellRuns x ∧ t ≤ s.now then
      let s := (s.setB (R.GUARD_BYP_STAT_OPEN_FAIL x) true).irqLog (pgGuard x) 14 2
      .next (s.channelFault x)
    else .next s

/-- BYP_CLOSE_CHECK_EXPIRY (R181, R227): `CLOSE_MS` passes without the feedback showing closed. -/
def execBypCloseCheckExpiry (dt : Nat) (x : Fin 8) (s : State) : Host.Outcome State Fault Refusal :=
  let s := s.elapse dt
  match (s.ch x).guard.closeDue with
  | none => .next s
  | some t =>
    if s.cellRuns x ∧ t ≤ s.now then
      let s := s.setGuard x (fun d => { d with closeDue := none })
      let s := (s.setB (R.GUARD_BYP_STAT_CLOSE_FAIL x) true).irqLog (pgGuard x) 15 2
      .next ((s.cellEnter x csStuck).irq (pgCell x) 9)
    else .next s

end Sys2Proof.Machine
end

