-- ==== Sys2Proof/Machine/Mailbox.lean ====
section
/-! DEFINITION. The mailbox and its services (R453 to R457). -/

namespace Sys2Proof.Machine

/-- The cost of a service in a mailbox slice (R454), in µs. -/
def serviceCost (n : Nat) : Nat :=
  if n = 1 ∨ n = 2 then 10 else if n = 3 ∨ n = 4 then 20 else 0

/-- Response codes of R455. -/
def rcOk : Nat := 0
def rcBusy : Nat := 1
def rcUnknown : Nat := 2
def rcRefused : Nat := 3
def rcBadArg : Nat := 4
def rcFuseFail : Nat := 5
def rcNoData : Nat := 6

/-- A request is held (R453). -/
def State.mboxPending (s : State) : Bool := s.flag R.MBOX_RSP_PENDING

/-- The request registers are shut: a request is held, or was until a response of this clock cycle (R453,
R457). -/
def State.mboxShut (s : State) : Bool :=
  s.mboxPending || (match s.hw.doneAt with
    | some t => decide (PageIsland.heartwood.cycle t = PageIsland.heartwood.cycle s.now)
    | none => false)

/-- The response words written, from word `i` (R453). -/
def State.mboxData (s : State) (i : Nat) : List Nat → State
  | [] => s
  | w :: ws => (s.set (R.MBOX_RSP_DATA_DATA i) w).mboxData (i + 1) ws

/-- The request answered (R453): `DONE`, bit 0. -/
def State.mboxAnswer (s : State) (code : Nat) (data : List Nat) (count : Nat) : State :=
  let s := (s.set R.MBOX_RSP_CODE code).set R.MBOX_RSP_TAG (s.get R.MBOX_REQ_TAG)
  let s := (s.set R.MBOX_RSP_COUNT count).mboxData 0 data
  let s := ((s.setB R.MBOX_RSP_PENDING false).setB R.MBOX_REQ_GO false).setB R.MBOX_RSP_DONE true
  (s.modHw (fun h => { h with taken := false, doneAt := some s.now })).irq pgMbox 0

/-- The request answered BUSY (R454, R459). -/
def State.mboxBusy (s : State) : State :=
  ((s.mboxAnswer rcBusy [] 0).inc R.MBOX_STAT_BUSY_COUNT).irq pgMbox 1

/-- Requests accepted in the last 1,000 frames (R454). -/
def State.mboxAccepted (s : State) : Nat := s.hw.accepted.foldl (fun a b => a + b) 0

/-- The mailbox slice's end, 950 µs after the frame's start (R458). -/
def State.mailEnd (s : State) : Nat := s.hw.frameAt + us 950

/-- The mailbox slice looks at the pending request (R459): it takes it if its cost fits, answers BUSY
one that no length of this slice would fit, and otherwise leaves it. -/
def State.mailServe (s : State) : State :=
  let cost := us (serviceCost (s.get R.MBOX_REQ_SERVICE))
  if s.mboxPending && decide (s.hw.slice = .mail) && !s.hw.taken && s.hw.fuseBusy.isNone then
    if s.now + cost ≤ s.mailEnd then
      s.modHw (fun h => { h with taken := true, ended := h.ended.set 3 false })
    else if s.mailEnd < s.hw.sliceAt + cost then s.mboxBusy
    else s
  else s

/-- A `GO` (R453, R454). -/
def State.mboxGo (s : State) : State :=
  if s.mboxShut then s.err pgMbox
  else if !s.locked || decide (2000 ≤ s.mboxAccepted) then s.mboxBusy
  else
    let s := s.setB R.MBOX_RSP_PENDING true
    let s := s.modHw (fun h => { h with accepted := h.accepted.modifyHead (· + 1) })
    (s.set R.MBOX_STAT_ACCEPTED s.mboxAccepted).mailServe

/-- A taken request has been served: the slice has ended unless another is taken. -/
def State.mailDone (s : State) : State :=
  let s := s.setSat R.MBOX_SLICE_USE1_MAIL (max (s.get R.MBOX_SLICE_USE1_MAIL)
    (roundAs R.MBOX_SLICE_USE1_MAIL.key (((s.now - s.hw.sliceAt : Nat) : Rat) / 32000)).toNat)
  s.modHw (fun h => { h with ended := h.ended.set 3 true })

/-- The request with this service is being served. -/
def State.serving (s : State) (service : Nat) : Bool :=
  s.hwRuns && s.hw.taken && decide (s.get R.MBOX_REQ_SERVICE = service)

/-- IDENTITY (R454). -/
def execIdentity (dt : Nat) (s : State) : Host.Outcome State Fault Refusal :=
  let s := s.elapse dt
  if s.serving 1 then
    .next (s.mboxAnswer rcOk [s.wordOf 0x00 0x040, s.wordOf 0x00 0x044, s.wordOf 0x00 0x048,
      s.get R.BOOT_DEV_SERIAL_LO_SERIAL, s.get R.BOOT_DEV_SERIAL_HI_SERIAL,
      s.wordOf pgVodor 0x040, s.wordOf pgBoot 0x044] 0).mailDone
  else .next s

/-- IMAGE_STATUS (R454). -/
def execImageStatus (dt : Nat) (s : State) : Host.Outcome State Fault Refusal :=
  let s := s.elapse dt
  if s.serving 2 then
    .next (s.mboxAnswer rcOk ([s.wordOf pgBoot 0x040, s.wordOf pgBoot 0x068]
      ++ (List.range 8).map (fun i => s.wordOf pgBoot (0x048 + 4 * i)) ++ [s.wordOf pgBoot 0x07C]) 0).mailDone
  else .next s

/-- LOG_READ (R443, R454, R455). -/
def execLogRead (dt : Nat) (s : State) : Host.Outcome State Fault Refusal :=
  let s := s.elapse dt
  if s.serving 3 then
    let n := s.get (R.MBOX_ARG_ARG 1)
    if n = 1 ∨ n = 2 then
      let l := s.logFound (s.get (R.MBOX_ARG_ARG 0) % 65536) n
      let s := l.foldl (fun (t : State) k => t.logReads (slotAddr k) 32) s
      .next ((if l = [] then s.mboxAnswer rcNoData [] 0
        else s.mboxAnswer rcOk (l.flatMap s.slotWords) l.length).mailDone)
    else .next (s.mboxAnswer rcBadArg [] 0).mailDone
  else .next s

/-- The key hash of a request as a number, byte 0 least significant (R454). -/
def State.argHash (s : State) : Nat :=
  (List.range 8).foldl (fun h i => h + s.get (R.MBOX_ARG_ARG (i + 1)) * 2 ^ (32 * i)) 0

/-- KEY_PROVISION (R454 to R456): the arguments are checked and the fuse controller is started; the
request stays pending until a later mailbox slice finds the controller done. -/
def execKeyProvision (dt : Nat) (s : State) : Host.Outcome State Fault Refusal :=
  let s := s.elapse dt
  let a := s.get (R.MBOX_ARG_ARG 0)
  let slot := a % 4
  if s.serving 4 ∧ s.hw.fuseBusy = none then
    if !s.quarantine then .next (s.mboxAnswer rcRefused [] 0).mailDone
    else if a / 256 % 256 ≠ 0x5A ∨ s.argHash = 0 ∨ s.fuse.keys.getD slot 0 ≠ 0
        ∨ s.fuse.revoked.testBit slot then
      .next (s.mboxAnswer rcBadArg [] 0).mailDone
    else
      .next (s.modHw (fun h => { h with fuseBusy := some (slot, s.argHash), fuseDone := false,
                                        taken := false })).mailDone
  else .next s

/-- UNKNOWN_SERVICE (R455): an unallocated service; in Quarantine it is refused. -/
def execUnknownService (dt : Nat) (s : State) : Host.Outcome State Fault Refusal :=
  let s := s.elapse dt
  let n := s.get R.MBOX_REQ_SERVICE
  if s.serving n ∧ ¬ (1 ≤ n ∧ n ≤ 4) then
    .next (s.mboxAnswer (if s.quarantine then rcRefused else rcUnknown) [] 0).mailDone
  else .next s

/-- The programmed-slot bits of `BOOT.KEY_FUSE` (R74). -/
def FuseSt.prog (f : FuseSt) : Nat :=
  (List.range 4).foldl (fun m i => if f.keys.getD i 0 ≠ 0 then m + 2 ^ i else m) 0

/-- FUSE_PROGRAM_DONE (R456): the controller completes; the slot then reads `back`. -/
def execFuseProgramDone (dt : Nat) (back : Nat) (s : State) : Host.Outcome State Fault Refusal :=
  let s := s.elapse dt
  match s.hw.fuseBusy with
  | none => .next s
  | some (slot, _) =>
    if s.hw.fuseDone then .next s
    else
      let s := { s with fuse := { s.fuse with keys := s.fuse.keys.set slot (back % 2 ^ 256) } }
      let s := s.set R.BOOT_KEY_FUSE_PROG s.fuse.prog
      .next (s.modHw (fun h => { h with fuseDone := true }))

/-- A mailbox slice polls the fuse controller and answers once it is done (R456). -/
def State.fusePoll (s : State) : State :=
  match s.hw.fuseBusy with
  | none => s
  | some (slot, hash) =>
    if s.hw.fuseDone ∧ s.now + us 20 ≤ s.mailEnd then
      let ok := decide (s.fuse.keys.getD slot 0 = hash)
      let s := s.modHw (fun h => { h with fuseBusy := none, fuseDone := false })
      s.mboxAnswer (if ok then rcOk else rcFuseFail) [s.wordOf pgBoot 0x068] 0
    else s

end Sys2Proof.Machine
end

