-- ==== Sys2Proof/Machine/Heartwood.lean ====
section
/-! DEFINITION. Heartwood's time slices (R458, R459) and the work they do. Each slice's work is done
when the slice starts. -/

namespace Sys2Proof.Machine

/-- The `DL_LIMIT` offset of slice `k` on `MBOX` (R458). -/
def sliceOfs (k : Nat) : Nat := 0x0D0 + 8 * k

/-- The deadline of slice `k` in µs from the frame's start (R458). -/
def sliceLimit (k : Nat) : Nat :=
  if k = 0 then 200 else if k = 1 then 400 else if k = 2 then 650 else 950

/-- The `SLICE_USE` field of slice `k` (R469). -/
def sliceUse (k : Nat) : Reg :=
  if k = 0 then R.MBOX_SLICE_USE0_SAFETY else if k = 1 then R.MBOX_SLICE_USE0_GYLEN
  else if k = 2 then R.MBOX_SLICE_USE1_HOUSE else R.MBOX_SLICE_USE1_MAIL

/-- Slice `k`'s deadline is met in this frame (R95). -/
def State.sliceMeet (s : State) (k : Nat) : State :=
  if s.hw.missed.getD k false then s
  else
    match dlPair pgMbox (sliceOfs k) with
    | some d => s.dlMeet d
    | none => s

/-- Slice `k` has missed its deadline in this frame: it has not ended and the deadline has passed. -/
def State.sliceLate (s : State) (k : Nat) : Bool :=
  s.hwRuns && decide (s.hw.frames ≠ 0) && !s.hw.ended.getD k true && !s.hw.missed.getD k true
    && decide (s.hw.frameAt + us (sliceLimit k) < s.now)

/-- A slice's miss (R95, R458): the safety slice's puts Burl in its safe state (R391). -/
def State.sliceMiss (s : State) (k : Nat) : State :=
  match dlPair pgMbox (sliceOfs k) with
  | some d =>
    let (s, esc) := s.dlMiss d
    let s := s.modHw (fun h => { h with missed := h.missed.set k true })
    if k = 0 ∧ esc then s.burlSafe 3 else s
  | none => s

/-- Slice `k`, one of the first three, ends: its longest duration is kept (R459). -/
def State.sliceEnd (s : State) (k : Nat) : State :=
  let u := (roundAs (sliceUse k).key (((s.now - s.hw.sliceAt : Nat) : Rat) / 32000)).toNat
  let s := s.setSat (sliceUse k) (max (s.get (sliceUse k)) u)
  let s := if s.sliceLate k then s.sliceMiss k else s
  (s.modHw (fun h => { h with ended := h.ended.set k true })).sliceMeet k

/-- HEARTWOOD_FRAME (R458): a frame starts; the running slice is abandoned; the safety slice evaluates
Heartwood's functions, exchanges states with Burl and serves the watchdog (R51, R390). -/
def execHeartwoodFrame (dt : Nat) (s : State) : Host.Outcome State Fault Refusal :=
  let s := s.elapse dt
  if s.hwRuns ∧ (s.boot = .ready ∨ s.boot = .done)
      ∧ (s.hw.frames = 0 ∨ s.hw.frameAt + us 990 ≤ s.now) then
    let s := [0, 1, 2, 3].foldl (fun (t : State) k => if t.sliceLate k then t.sliceMiss k else t) s
    let s := if s.hw.frames ≠ 0 ∧ s.hw.ended.getD 3 false then s.sliceMeet 3 else s
    let s := s.modHw (fun h => { h with
      frameAt := s.now, frames := h.frames + 1, slice := .safety, sliceAt := s.now, taken := false,
      ended := [false, false, false, false], missed := [false, false, false, false],
      accepted := (0 :: h.accepted).take 1000 })
    let s := s.set R.MBOX_STAT_ACCEPTED s.mboxAccepted
    let s := s.evalRecord
    let s := if s.lostNext 12 then s.takeLost 12 else s.exchange
    .next (s.modSys (fun d => { d with wdogServed := s.now }))
  else .next s

/-- GYLEN_SLICE (R458): the safety slice ends; received frames are checked the second time and
`STATE_H` is written (R415, R417). -/
def execGylenSlice (dt : Nat) (s : State) : Host.Outcome State Fault Refusal :=
  let s := s.elapse dt
  if s.hwRuns ∧ s.hw.slice = .safety then
    let s := (s.sliceEnd 0).modHw (fun h => { h with slice := .gylen, sliceAt := s.now })
    .next s.gylSliceWork
  else .next s

/-- The records of the tamper events that await theirs (R81). -/
def State.tamperRecords (s : State) : State :=
  let l := s.sys.tampOwed
  let s := s.modSys (fun d => { d with tampOwed := [] })
  l.foldl
    (fun t (n, c, at_, unsync, came) =>
      (t.irq pgBoot (tamperBit n)).submit ⟨came, unsync, pgBoot, 1, 0x0012, slice ([n, c] ++ bytesLE 8 at_) 0 17, 2⟩) s

/-- Heartwood starts the test pattern on each channel that owes it and may run it, from the first
frame that begins after the lock (R211). -/
def State.bootTests (s : State) : State :=
  if s.locked && decide (s.sys.lockAt ≤ s.hw.frameAt) then
    (List.range 8).foldl
      (fun t x =>
        if (t.ch x).ke.testOwed && t.cellRuns x && !t.flag (R.KE_CTRL_EN x) && !t.flag (R.PWM_CTRL_EN x)
            && decide (t.keState x ≠ kTest) then
          (t.keTest x).setKe x (fun k => { k with testOwed := false })
        else t) s
  else s

/-- HOUSEKEEPING_SLICE (R458): the Gylen slice ends; tamper records (R81) and the Kernel test patterns
(R211). The log's own work and the measurement of Burl's RC have commands of their own. -/
def execHousekeepingSlice (dt : Nat) (s : State) : Host.Outcome State Fault Refusal :=
  let s := s.elapse dt
  if s.hwRuns ∧ s.hw.slice = .gylen then
    let s := (s.sliceEnd 1).modHw (fun h => { h with slice := .house, sliceAt := s.now })
    .next s.tamperRecords.bootTests
  else .next s

/-- MAILBOX_SLICE (R456, R459): housekeeping ends; the fuse controller is polled and the pending
request is taken if it fits. -/
def execMailboxSlice (dt : Nat) (s : State) : Host.Outcome State Fault Refusal :=
  let s := s.elapse dt
  if s.hwRuns ∧ s.hw.slice = .house then
    let s := (s.sliceEnd 2).modHw (fun h => { h with
      slice := .mail, sliceAt := s.now, ended := h.ended.set 3 true })
    .next s.fusePoll.mailServe
  else .next s

end Sys2Proof.Machine
end

