-- ==== Sys2Proof/Machine/FabricRead.lean ====
section
/-! DEFINITION. Reads of the register fabric: pages, SN pairs, the memory windows (R3 to R6, R21, R82 to
R96). A read comes through a port: 0 the host port, 1 the debug port, 2 a remote access. -/

namespace Sys2Proof.Machine

/-- The page has an interrupt pending, for the word `IRQ_SUMk` (R96). -/
def State.irqSum (s : State) (k : Nat) : Nat :=
  (List.range 32).foldl (fun w b => if s.pagePending (32 * k + b) then w + 2 ^ b else w) 0

/-- The word `IRQ_FIRST` (R96). -/
def State.irqFirst (s : State) : Nat :=
  match (List.range 256).find? s.pagePending with
  | some p => p
  | none => 2 ^ 31

/-- What a field contributes to a read of its register (R5). -/
def State.fieldRead (s : State) (r : Reg) : Nat :=
  match r.acc with
  | .wo | .sn => 0
  | .sh | .shc => s.stagedOf r
  | _ => s.get r

/-- The fields of a page's register, read together (R5). -/
def State.fieldsRead (s : State) (p ofs : Nat) : Nat :=
  ((pageFields p).filter (fun r => r.ofs = ofs)).foldl (fun w r => w + s.fieldRead r * 2 ^ r.lo) 0

/-- The header word at an offset below 0x040 (R85). -/
def State.headerRead (s : State) (p ofs : Nat) : Nat :=
  match pageInfo p with
  | none => 0
  | some i =>
    if ofs = 0x000 then i.type * 2 ^ 24 + i.inst * 2 ^ 16 + 0x0100
    else if ofs = 0x004 then i.cap
    else if ofs = 0x008 then s.fieldsRead p 0x008 + s.get (H.UPDATE_LOCK p) * 2 ^ 31
    else if ofs = 0x00C then s.statusWord p
    else if ofs = 0x010 then s.get (H.IRQ_RAW p)
    else if ofs = 0x014 then s.get (H.IRQ_EN p)
    else if ofs = 0x018 then s.get (H.IRQ_RAW p) &&& s.get (H.IRQ_EN p)
    else if ofs = 0x01C then s.get (H.COMMIT_GO p) + s.get (H.COMMIT_APPLIED p) * 2 ^ 16
    else if ofs = 0x020 then
      (if s.locked then 1 else 0) + (if s.hostOk p then 2 else 0) + (if hasBO p then 4 else 0)
    else if ofs = 0x024 then s.get (H.ERR_COUNT p)
    else 0

/-- The SN pair whose low or high word stands at an offset (R89). -/
def snAt (p ofs : Nat) : Option Reg :=
  (pageFields p).find? (fun r => r.acc = .sn && (decide (r.ofs = ofs) || decide (r.ofs + 4 = ofs)))

/-- The live 64-bit value of an SN pair. -/
def State.snValue (s : State) (r : Reg) : Nat :=
  if r.page = pgCanopy ∧ r.ofs = 0x040 then s.canopy else s.get r

/-- The shadow of a pair at a port, when its flag is set (R89). -/
def State.shadowOf (s : State) (port : Nat) (r : Reg) : Option Nat :=
  (s.shadow.find? (fun e => decide (e.1 = port) && decide (e.2.1 = r.page * 4096 + r.ofs))).map (·.2.2)

/-- The shadow flag of a pair at a port cleared. -/
def State.dropShadow (s : State) (port : Nat) (r : Reg) : State :=
  { s with shadow := s.shadow.filter (fun e =>
      !(decide (e.1 = port) && decide (e.2.1 = r.page * 4096 + r.ofs))) }

/-- A read of the low word of an SN pair (R6, R89). A remote access touches no shadow. -/
def State.snLow (s : State) (port : Nat) (r : Reg) : Nat × State :=
  let v := s.snValue r
  if port = 2 then (v % 2 ^ 32, s)
  else
    let s := s.dropShadow port r
    let s := { s with shadow := (port, r.page * 4096 + r.ofs, v / 2 ^ 32 % 2 ^ 32) :: s.shadow }
    (v % 2 ^ 32, s.incWrap (H.SNAP_SEQ r.page))

/-- A read of the high word of an SN pair (R6, R89). -/
def State.snHigh (s : State) (port : Nat) (r : Reg) : Nat × State :=
  let live := s.snValue r / 2 ^ 32 % 2 ^ 32
  if port = 2 then (live, s)
  else
    match s.shadowOf port r with
    | some h => (h, s.dropShadow port r)
    | none => (live, s.setB (H.SNAP_ORDER_ERR r.page) true)

/-- The clock of the island that serves the page runs (R84). -/
def State.pageRuns (s : State) (p : Nat) : Bool :=
  match pageInfo p with
  | some i => s.islandRuns i.isl
  | none => false

/-- A read of a word of an SN pair. While the island has no clock nothing on the page changes (R492). -/
def State.snRead (s : State) (port ofs : Nat) (r : Reg) : Nat × State :=
  if s.pageRuns r.page then
    if r.ofs = ofs then s.snLow port r else s.snHigh port r
  else if r.ofs = ofs then (s.snValue r % 2 ^ 32, s) else (s.snValue r / 2 ^ 32 % 2 ^ 32, s)

/-- The block register at an offset from 0x040 on, registers that are computed at the read among them. -/
def State.blockRead (s : State) (p ofs : Nat) : Nat :=
  if p = pgHost ∧ 0x200 ≤ ofs ∧ ofs < 0x220 then s.irqSum ((ofs - 0x200) / 4)
  else if p = pgHost ∧ ofs = 0x224 then s.irqFirst
  else if p = pgGylen ∧ 0x040 ≤ ofs ∧ ofs < 0x240 ∧ ofs % 0x20 = 0x0C then
    (s.gylErrs ((ofs - 0x040) / 0x20)).fieldsRead p ofs
  else s.fieldsRead p ofs

/-- A word of a register page read (R4, R5, R84, R85). -/
def State.pageRead (s : State) (port p ofs : Nat) : Nat × State :=
  if !pageExists p then (0, s)
  else if ofs < 0x040 then (s.headerRead p ofs, s)
  else
    match snAt p ofs with
    | some r => s.snRead port ofs r
    | none =>
      if p = pgPod ∧ 0x100 ≤ ofs ∧ ofs < 0x300 ∧ ofs % 0x10 = 4 then
        (if s.vodRuns then s.qdataRead ((ofs - 0x100) / 0x10) else (0, s))
      else (s.blockRead p ofs, s)

/-- A word of the table memory window read (R21, R70). -/
def State.tableRead (s : State) (a : Nat) : Nat × State :=
  let n := s.badBits a
  if n = 0 then (s.mem.word a, s)
  else if n = 1 then (s.mem.word a, s.errHost a)
  else (0xFFFFFFFF, s.recordDouble pgHost a)

/-- A word of the capture memory window read (R21, R427). -/
def State.captRead (s : State) (a : Nat) : Nat × State :=
  let n := s.badBits a
  if n = 0 then (s.mem.word a, s)
  else if n = 1 then (s.mem.word a, s.errHost a)
  else
    let w := a / 8 * 8
    let s := (s.recordDouble pgHost w).captInvalid w
    (0xFFFFFFFF, s.captPut w [0xFFFFFFFF, 0xFFFFFFFF])

/-- A word of the Growth Log window read (R21, R436): a record with a double-bit error reads as corrupt,
and the bits of the word in error are open. -/
def State.logReadWord (s : State) (a : Nat) : Nat × State :=
  let n := s.badBits a
  let (v, s) : Nat × State :=
    if n = 0 then (s.mem.word a, s)
    else if n = 1 then (s.mem.word a, s.errHost a)
    else ((s.fresh).1 % 2 ^ 32, (s.fresh).2)
  if s.slotClean ((a - logBase) / 32) ∨ (a - logBase) % 32 ≠ 8 then (v, s) else (v ||| 0x03000000, s)

/-- A word read at an address through a port (R82). The low two bits of the address are not used (R3). -/
def State.fabRead (s : State) (port addr : Nat) : Nat × State :=
  let a := addr / 4 * 4
  if a < 0x100000 then s.pageRead port (a / 4096) (a % 4096)
  else if inRegion tableBase tableSize a then s.tableRead a
  else if inRegion captBase captSize a then s.captRead a
  else if inRegion logBase logSize a then s.logReadWord a
  else (0, s)

end Sys2Proof.Machine
end

