-- ==== Sys2Proof/Machine/FabricWrite.lean ====
section
/-! DEFINITION. Writes of the register fabric: the access codes of R5, the ranges of R490, the common
registers of a page (R85 to R96). -/

namespace Sys2Proof.Machine

/-! ### Fields -/

/-- The field holds a value a write can set: not RO, WO, W1C, W1S, SN or BO. -/
def Acc.holds : Acc → Bool
  | .rw | .sh | .shc | .rwPwmOff | .rwKeOff | .rwHusk | .rwSapIdle | .rwBypIdle | .rwQueueOff => true
  | .ro | .wo | .w1c | .w1s | .bo | .sn => false

/-- The field is RW under a condition. -/
def Acc.conditional : Acc → Bool
  | .rwPwmOff | .rwKeOff | .rwHusk | .rwSapIdle | .rwBypIdle | .rwQueueOff => true
  | .rw | .sh | .shc | .ro | .wo | .w1c | .w1s | .bo | .sn => false

/-- The condition holds under which a conditional field of page `p` takes a write. -/
def State.mayWrite5 (s : State) (p : Nat) : Acc → Bool
  | .rwPwmOff => !s.flag (R.PWM_CTRL_EN (p % 8))
  | .rwKeOff => !s.flag (R.KE_CTRL_EN (p % 8))
  | .rwHusk => decide (s.cellState (p % 8) = csHusk)
  | .rwSapIdle => !s.captActive (p % 8)
  | .rwBypIdle => !s.flag (R.GUARD_BYP_STAT_HOLD_ON (p % 8))
  | .rwQueueOff | .rw | .sh | .shc | .ro | .wo | .w1c | .w1s | .bo | .sn => true

/-- The value that a written word gives a field. -/
def Reg.ofWord (r : Reg) (v : Nat) : Nat := bitsOf v r.lo r.width

/-- The written value lies outside the field's stated range, where the write checks it (R490). -/
def Reg.outside (r : Reg) (v : Nat) : Bool :=
  r.acc.holds && decide (r.acc ≠ .shc) && (decide (r.ofWord v < r.mn) || decide (r.mx < r.ofWord v))

/-- The field's condition does not hold and the write would change it, or the register has no other
field to write. -/
def State.shut (s : State) (p v : Nat) (fs : List Reg) (r : Reg) : Bool :=
  r.acc.conditional && !s.mayWrite5 p r.acc
    && (!fs.any (fun q => decide (q.acc = .rw)) || decide (r.ofWord v ≠ s.get r))

/-- One field written under its access code (R5). -/
def State.fieldWrite (s : State) (v : Nat) (r : Reg) : State :=
  let w := r.ofWord v
  match r.acc with
  | .rw | .rwPwmOff | .rwKeOff | .rwHusk | .rwSapIdle | .rwBypIdle | .rwQueueOff => s.set r w
  | .sh | .shc => s.stage r w
  | .w1c => s.clearBits r w
  | .w1s => s.set r (s.get r ||| w)
  | .ro | .wo | .bo | .sn => s

/-- A register written field by field (R5, R490): a write that carries a value out of range, or that a
condition shuts out, changes nothing and counts once; a BO field counts and keeps its value. -/
def State.fieldsWrite (s : State) (p ofs v : Nat) : State :=
  let fs := (pageFields p).filter (fun r => r.ofs = ofs)
  if fs.any (fun r => r.outside v || s.shut p v fs r) then s.err p
  else
    let s := fs.foldl (fun (t : State) r => t.fieldWrite v r) s
    if fs.any (fun r => r.acc = .bo) then s.err p else s

/-- A register written without the bits of `mask`, which have an effect of their own. -/
def State.restWrite (s : State) (p ofs v mask : Nat) : State := s.fieldsWrite p ofs (v - (v &&& mask))

/-- The write of the register would be ignored (R490). -/
def State.refuses (s : State) (p ofs v : Nat) : Bool :=
  let fs := (pageFields p).filter (fun r => r.ofs = ofs)
  fs.any (fun r => r.outside v || s.shut p v fs r)

/-! ### Counters -/

/-- The offset of a page's `CNT_CLR`; 0 where it has none. -/
def cntClrOfs (p : Nat) : Nat :=
  if p = pgCanopy then 0x078
  else if 0x18 ≤ p ∧ p ≤ 0x1F then 0x0C0
  else if 0x20 ≤ p ∧ p ≤ 0x27 then 0x070
  else if 0x28 ≤ p ∧ p ≤ 0x2F then 0x0DC
  else if 0x30 ≤ p ∧ p ≤ 0x37 then 0x0B8
  else if p = pgArm then 0x0F4
  else if p = pgRide ∨ p = pgIsland then 0x08C
  else if p = pgMeter then 0x388
  else if p = pgVodor then 0x0A8
  else if p = pgPort 0 ∨ p = pgPort 1 then 0x060
  else if p = pgGylen then 0x240
  else if p = pgPod then 0x064
  else if p = pgSafe then 0x0DC
  else if 0x60 ≤ p ∧ p ≤ 0x67 then 0x0B4
  else if p = pgGlog then 0x050
  else if p = pgHost then 0x04C
  else if p = pgMbox then 0x0CC
  else if p = pgEth then 0x074
  else 0

/-- The event counters that a page's `CNT_CLR` sets to 0, as each chapter lists them. -/
def cntFields (p : Nat) : List Reg :=
  (pageFields p).filter (fun r =>
    if p = pgCanopy then r.ofs = 0x070 || r.ofs = 0x074
    else if 0x18 ≤ p ∧ p ≤ 0x1F then decide (0x0A0 ≤ r.ofs) && decide (r.ofs < 0x0C0)
    else if 0x20 ≤ p ∧ p ≤ 0x27 then decide (0x060 ≤ r.ofs) && decide (r.ofs < 0x070)
    else if 0x28 ≤ p ∧ p ≤ 0x2F then decide (0x0C0 ≤ r.ofs) && decide (r.ofs < 0x0DC)
    else if 0x30 ≤ p ∧ p ≤ 0x37 then r.ofs = 0x0B0 || r.ofs = 0x0B4
    else if p = pgArm then r.ofs = 0x0EC || r.ofs = 0x0F0
    else if p = pgRide ∨ p = pgIsland then r.ofs = 0x088
    else if p = pgMeter then r.ofs = 0x380 || r.ofs = 0x384
    else if p = pgVodor then r.ofs = 0x0A0 || r.ofs = 0x0A4
    else if p = pgPort 0 ∨ p = pgPort 1 then r.ofs = 0x058 || r.ofs = 0x05C
    else if p = pgGylen then
      decide (r.ofs < 0x240) && (decide (r.ofs % 0x20 = 0x18) || decide (r.ofs % 0x20 = 0x1C))
    else if p = pgPod then r.ofs = 0x058 || r.ofs = 0x05C || r.ofs = 0x060
    else if p = pgSafe then r.ofs = 0x0D4 || r.ofs = 0x0D8
    else if 0x60 ≤ p ∧ p ≤ 0x67 then r.ofs = 0x0B0
    else if p = pgGlog then r.ofs = 0x04C
    else if p = pgHost then r.ofs = 0x044
    else if p = pgMbox then
      (r.ofs = 0x0C0 && r.lo = 16) || r.ofs = 0x0C4 || r.ofs = 0x0C8
    else if p = pgEth then r.ofs = 0x06C || r.ofs = 0x070
    else false)

/-- `CNT_CLR.GO` written 1: a count in the same cycle survives (R161 and the chapters). -/
def State.counterClear (s : State) (p : Nat) : State :=
  (cntFields p).foldl (fun (t : State) r => t.clearCount r) s

/-- `DL_COUNT.CLEAR` written 1 (R94): a miss in the same cycle leaves `TOTAL` at 1. -/
def State.dlClear (s : State) (d : DlPair) : State := s.clearCount d.total

/-! ### Commit tokens (R91, R92) -/

/-- What a `GO`, or the end of an update lock, starts at once: a Kernel's validation (R205), the commit of
an idle converter (R129). -/
def State.commitKick (s : State) (p : Nat) : State :=
  if 0x28 ≤ p ∧ p ≤ 0x2F then
    let x := p - 0x28
    let d := schedFor s.stagedOf x (s.judgedCode x)
    if s.flag (H.COMMIT_GO p) ∧ s.keState x ≠ kOff ∧ d ≠ schedFor s.get x (s.judgedCode x)
        ∧ (s.ch x).ke.ready ≠ some d ∧ ((s.ch x).ke.valid.map (fun v => v.sched)) ≠ some d then
      s.setKe x (fun k => { k with valid := some ⟨d, true, s.now⟩ })
    else s
  else if 0x08 ≤ p ∧ p ≤ 0x0C then
    let d := s.sarSt (p - 8)
    if s.commitWaits p ∧ d.pass.isNone ∧ d.pend.isNone then s.sarBoundary (p - 8) s.now else s
  else s

/-- `COMMIT.GO` written 1 (R91, R92): one already pending has no further effect. -/
def State.commitGo (s : State) (p : Nat) : State :=
  if s.flag (H.COMMIT_GO p) then s
  else ((s.setB (H.COMMIT_GO p) true).note (H.COMMIT_GO p).key 1).commitKick p

/-- `COMMIT.DISCARD` written 1 (R92). -/
def State.commitDiscard (s : State) (p : Nat) : State :=
  let kept := s.staged.filter (fun kv => decide (kv.1 / (4096 * 32) = p))
  let late := s.commitDue p
  let s := (s.dropStaged p).setB (H.COMMIT_GO p) false
  let s := s.modSys (fun d => { d with
    dropped := (if late then [(p, s.now, kept, (s.ch (p - 0x28)).ke.ready)] else []) ++ d.dropped.filter (fun e => decide (e.1 ≠ p)) })
  if 0x28 ≤ p ∧ p ≤ 0x2F then
    s.setKe (p - 0x28) (fun k =>
      { k with ready := none,
               valid := match k.valid with
                 | some v => if v.commit then none else some v
                 | none => none })
  else s

/-- `CTRL.UPDATE_LOCK` written (R92). -/
def State.updateLock (s : State) (p : Nat) (b : Bool) : State :=
  let was := s.flag (H.UPDATE_LOCK p)
  let s := s.setB (H.UPDATE_LOCK p) b
  if was ∧ ¬ b then (s.note (H.UPDATE_LOCK p).key 1).commitKick p else s

/-! ### Interrupts -/

/-- `IRQ_EN` written (R96): only the bits the page implements. -/
def State.irqEnable (s : State) (p v : Nat) : State := (s.set (H.IRQ_EN p) (v &&& irqMask p)).noteRise p

/-- Ones written to `IRQ_STAT` (R96): they clear the latched bits whose enable is 1. -/
def State.irqClear (s : State) (p v : Nat) : State :=
  (s.clearBits (H.IRQ_RAW p) (s.get (H.IRQ_EN p) &&& v)).noteRise p

/-- `ERR_COUNT.CLEAR` written 1 (R85): an error of the same cycle leaves it at 1. -/
def State.errClear (s : State) (p : Nat) : State := s.clearCount (H.ERR_COUNT p)

end Sys2Proof.Machine
end

