-- ==== Sys2Proof/Machine/Island.lean ====
section
/-! DEFINITION. The commands of islanding detection (R292 to R298). -/

namespace Sys2Proof.Machine

/-- ISLAND_INDICATION (R292): indication `i` asserts. -/
def execIslandIndication (dt : Nat) (i : Fin 4) (s : State) : Host.Outcome State Fault Refusal :=
  let s := s.elapse dt
  .next (if s.gridRuns then s.indTry i else s)

/-- VOTE_WINDOW_EXPIRY (R292): `VOTE_MS` after its rise, indication `i` no longer votes. -/
def execVoteWindowExpiry (dt : Nat) (i : Fin 4) (s : State) : Host.Outcome State Fault Refusal :=
  let s := s.elapse dt
  .next (match s.isl.vote.getD i none with
    | some t => if s.gridRuns ∧ t ≤ s.now then s.setIsl (fun d => { d with vote := d.vote.set i none }) else s
    | none => s)

/-- `ISLAND.CTRL.ISL_CLR` written 1 (R298). -/
def State.islandClear (s : State) : State :=
  if s.flag R.RIDE_STATUS_TRIPPED ∨ ¬ s.flag R.ARM_STATUS_CURRENT_ON then
    let s := (s.setB R.ISLAND_STATUS_DECIDED false).setB R.ISLAND_STATUS_ISLANDED false
    (s.setArm (fun a => { a with orderGf := false })).irq pgIsland 5
  else s.err pgIsland

/-- ISLAND_CLEAR (R298): a write of 1 to `ISLAND.CTRL.ISL_CLR`. -/
def execIslandClear (dt : Nat) (s : State) : Host.Outcome State Fault Refusal :=
  .next ((s.elapse dt).hostAct pgIsland 0x008 State.islandClear)

/-- ACTIVE_EPOCH_BOUNDARY (R294): an epoch or its active window begins or ends. -/
def execActiveEpochBoundary (dt : Nat) (s : State) : Host.Outcome State Fault Refusal :=
  let s := s.elapse dt
  .next (if s.gridRuns then
    let s := s.set R.ISLAND_EPOCH_INDEX s.epochNow
    (s.setB R.ISLAND_EPOCH_SIGN s.epochNeg).setB R.ISLAND_EPOCH_ON s.windowOn
  else s)

/-- ACT_SUSPEND (R295): `SYNC_LOST` has been set for 600 s. -/
def execActSuspend (dt : Nat) (s : State) : Host.Outcome State Fault Refusal :=
  let s := s.elapse dt
  .next (if s.gridRuns ∧ s.syncLost ∧ heldFor s.isl.syncSince (secs 600) s.now
      ∧ ¬ s.flag R.ISLAND_STATUS_ACT_SUSP then
    (s.setB R.ISLAND_STATUS_ACT_SUSP true).irq pgIsland 4
  else s)

/-- RT_BLOCK_END (R293): `RT_BLOCK_MS` after ride-through ended. -/
def execRtBlockEnd (dt : Nat) (s : State) : Host.Outcome State Fault Refusal :=
  let s := s.elapse dt
  .next (match s.isl.blockEnd with
    | some t =>
      if s.gridRuns ∧ t ≤ s.now then
        (s.setB R.ISLAND_STATUS_BLOCKED false).setIsl (fun d => { d with blockEnd := none })
      else s
    | none => s)

/-- TRANSFER_TRIP_FRAME (R296): an accepted payload of the transfer trip connection acts. -/
def execTransferTripFrame (dt : Nat) (s : State) : Host.Outcome State Fault Refusal :=
  let s := s.elapse dt
  .next (match s.isl.ttIn with
    | l :: rest =>
      if s.gridRuns then (s.setIsl (fun d => { d with ttIn := rest })).ttFrame l else s
    | [] => s)

end Sys2Proof.Machine
end

