-- ==== Sys2Proof/Machine/Log.lean ====
section
/-! DEFINITION. The commands of the Growth Log (R436 to R441). -/

namespace Sys2Proof.Machine

/-- LOG_RECORD_SUBMIT (R30, R439, R440): a record arrives at the writer's queue from a source whose event
no other command of the model stands for. -/
def execLogRecordSubmit (dt : Nat) (page : Fin 256) (sev : Fin 3) (code : Fin 65536) (data : List Nat)
    (origin : Fin 3) (s : State) : Host.Outcome State Fault Refusal :=
  let s := s.elapse dt
  .next (if s.sys.inReset then s else s.logIt page sev code data origin)

/-- LOG_RECORD_WRITE (R439 to R441): the log writer writes the next queued record. -/
def execLogRecordWrite (dt : Nat) (s : State) : Host.Outcome State Fault Refusal :=
  let s := s.elapse dt
  .next (if s.hwRuns ∧ s.log.resumed then s.logStep else s)

/-- `GLOG.CTRL.UNFREEZE` written 1 (R441): the protection is released, unless a critical record was written in
this very cycle, which freezes the log around itself. -/
def State.unfreeze (s : State) : State :=
  let free := (s.setB R.GLOG_STATUS_FROZEN false).modLog (fun d => { d with prot := [] })
  match s.log.critAt with
  | none => free
  | some (t, slot, seq) =>
    if PageIsland.heartwood.cycle t = PageIsland.heartwood.cycle s.now ∧ s.flag R.GLOG_CFG_FREEZE_EN then
      (if s.get R.GLOG_FREEZE_SEQ = seq then s else free.logFreeze slot seq)
    else free

/-- LOG_UNFREEZE (R441): a write of 1 to `GLOG.CTRL.UNFREEZE`. -/
def execLogUnfreeze (dt : Nat) (s : State) : Host.Outcome State Fault Refusal :=
  .next ((s.elapse dt).hostAct pgGlog 0x008 State.unfreeze)

end Sys2Proof.Machine
end

