-- ==== Sys2Proof/Machine/Meter.lean ====
section
/-! DEFINITION. The commands of the energy meter (R303 to R324). -/

namespace Sys2Proof.Machine

/-- METER_CYCLE_END (R305 to R316): θ passes 0; the cycle in progress ends and the next begins. The
first passage after the meter starts only begins a cycle. A passage within 1 ms of the cycle's start is that same
passage. A final record whose snapshot falls in this clock cycle holds the energies (R324). -/
def execMeterCycleEnd (dt : Nat) (s : State) : Host.Outcome State Fault Refusal :=
  let s := s.elapse dt
  if s.gridRuns ∧ s.flag R.METER_STATUS_RUN then
    match s.zeroPassed, s.meter.start with
    | none, _ => .next s
    | some z, none => .next (if s.meter.runAt ≤ z then s.beginCycle z else s)
    | some z, some (t, c0) =>
      .next (if t + ms 1 ≤ z then ((s.endCycle t c0 z).beginCycle z).snapshotAgain else s)
  else .next s

/-- PULSE_START (R314): an owed pulse starts on `MPULSEn`, no sooner than 2 w after the last one. -/
def execPulseStart (dt : Nat) (n : Fin 4) (s : State) : Host.Outcome State Fault Refusal :=
  let s := s.elapse dt
  let p := s.meter.pulse.getD n.val {}
  if s.gridRuns ∧ s.flag R.METER_STATUS_RUN ∧ s.flag (R.METER_PULSE_CFG_EN n)
      ∧ 0 < s.get (R.METER_OWED_OWED n) ∧ p.high = false then
    let (w, s) := s.pulseWidth n
    let free : Bool := match p.startAt with
      | some t => decide (t + 2 * w ≤ s.now)
      | none => true
    if free then
      let s := s.set (R.METER_OWED_OWED n) (s.get (R.METER_OWED_OWED n) - 1)
      .next (s.modMeter (fun d => { d with
        pulse := d.pulse.modify n (fun p => { p with high := true, startAt := some s.now, w := w }) }))
    else .next s
  else .next s

/-- PULSE_END (R314): the pulse's width is over. -/
def execPulseEnd (dt : Nat) (n : Fin 4) (s : State) : Host.Outcome State Fault Refusal :=
  let s := s.elapse dt
  let p := s.meter.pulse.getD n.val {}
  match p.startAt with
  | some t =>
    .next (if s.gridRuns ∧ p.high ∧ t + p.w ≤ s.now then
      s.modMeter (fun d => { d with pulse := d.pulse.modify n (fun p => { p with high := false }) })
    else s)
  | none => .next s

/-- CONNECTION_CHECK (R316): the condition of check `c` has held, or failed, for 1 s. -/
def execConnectionCheck (dt : Nat) (c : Fin 4) (s : State) : Host.Outcome State Fault Refusal :=
  let s := s.elapse dt
  let (b, t) := s.meter.chk.getD c.val (false, 0)
  let bit : Nat := if c.val < 2 then 6 else c.val + 5
  .next (if s.gridRuns ∧ s.flag R.METER_STATUS_RUN ∧ t + secs 1 ≤ s.now ∧ s.flag (chkFlag c) ≠ b then
    let s := s.setB (chkFlag c) b
    if b then (s.modMeter (fun d => { d with quality := true })).irqLog pgMeter bit 1
    else s.logIt pgMeter 0 (0x100 + bit) (bytesLE 4 (s.statusWord pgMeter))
  else s)

/-- PERIODIC_SAVE (R319): at a whole second a periodic record goes to the slot that does not hold the
newest one. -/
def execPeriodicSave (dt : Nat) (s : State) : Host.Outcome State Fault Refusal :=
  let s := s.elapse dt
  if s.mayWrite ∧ s.meter.write.isNone ∧ s.meter.perAt / 1000000000 < s.canopy / 1000000000 then
    let (a, s) := s.nextSlot
    let n := nextRecord s.meter.seq
    let r := s.energyRecord 1 n s.energies
    let s := s.recordMade n
    .next (s.modMeter (fun d => { d with
      write := some (a, r), writeAt := s.now, perSeq := n, perAt := s.canopy, sBeat := 0, resync := false }))
  else .next s

/-- SAVE_VERIFY (R319): the record has been written and reads back as `readback`, once the save port has moved
it both ways (R466). -/
def execSaveVerify (dt : Nat) (readback : List Nat) (s : State) : Host.Outcome State Fault Refusal :=
  let s := s.elapse dt
  match s.meter.write with
  | some (a, l) =>
    if s.mayWrite ∧ a ≠ slotFinal ∧ s.meter.writeAt + s.writeTime 512 + s.readTime 512 ≤ s.now then
      let got := slice readback 0 512
      let s := (s.framPut a got).modMeter (fun d => { d with write := none, saveEnd := s.now })
      if got = l then
        .next (((s.setB R.METER_STATUS_SAVE_FAIL false).inc R.METER_CNT_B_SAVES).irq pgMeter 1)
      else
        .next (((s.setB R.METER_STATUS_SAVE_FAIL true).inc R.METER_CNT_B_SAVE_ERRS).irqLog pgMeter 3 2)
    else .next s
  | none => .next s

/-- HEARTBEAT_SAVE (R318, R319): at a multiple of 100 ms the heartbeat is written; at a whole second it
follows the record. -/
def execHeartbeatSave (dt : Nat) (s : State) : Host.Outcome State Fault Refusal :=
  let s := s.elapse dt
  let second := decide (s.meter.perAt / 1000000000 < s.canopy / 1000000000)
  if s.mayWrite ∧ s.meter.write.isNone ∧ s.meter.resync = false ∧ second = false
      ∧ s.meter.beatAt / 100000000 < s.canopy / 100000000 then
    let b := withCrc (bytesLE 4 0x4842544F ++ bytesLE 4 s.meter.perSeq ++ bytesLE 8 (s.stamp pgMeter)
      ++ bytesLE 4 (peakVa s.meter.sBeat) ++ List.replicate 8 0)
    let old := s.framBytes beatSlot 32
    let s := s.framPut beatSlot b
    .next (s.modMeter (fun d => { d with
      beat := some (s.now + s.writeTime 32, old), saveEnd := s.now + s.writeTime 32, beatAt := s.canopy }))
  else .next s

/-- `PFW_N` takes a level, and a new low or high period begins (R53, R320); in reset nothing else follows
(R34). -/
def State.pfwLevel (s : State) (low : Bool) : State :=
  if s.sys.pfwLow = low then s
  else (s.modSys (fun d => { d with pfwLow := low })).modMeter (fun d => { d with finalDone := false })

/-- PFW_FALL (R320, R324): the falling edge of `PFW_N` is recognised. -/
def execPfwFall (dt : Nat) (s : State) : Host.Outcome State Fault Refusal :=
  let s := (s.elapse dt).pfwLevel true
  if s.sys.inReset ∨ s.flag R.RSTPWR_PWR_STAT_PFW then .next s
  else
    let s := s.setB R.RSTPWR_PWR_STAT_PFW true
    let s := s.abortHostRead.abortWrite
    let s := s.modMeter (fun d => { d with stopped := true, riseAt := none, finalDone := false })
    .next s.finalSave

/-- FINAL_SAVE_DONE (R320): the final record is in the FRAM, once the save port has moved it (R466). -/
def execFinalSaveDone (dt : Nat) (s : State) : Host.Outcome State Fault Refusal :=
  let s := s.elapse dt
  match s.meter.write with
  | some (a, l) =>
    if s.gridRuns ∧ s.hostRuns ∧ a = slotFinal ∧ s.meter.writeAt + s.writeTime 512 ≤ s.now then
      let s := (s.framPut a l).modMeter (fun d => { d with write := none, saveEnd := s.now })
      .next ((s.setB R.METER_STATUS_PF_SAVED true).irq pgMeter 2)
    else .next s
  | none => .next s

/-- PFW_RISE (R324): `PFW_N` rises; the low period ends. A final save in progress goes on. -/
def execPfwRise (dt : Nat) (s : State) : Host.Outcome State Fault Refusal :=
  let s := (s.elapse dt).pfwLevel false
  if ¬ s.sys.inReset ∧ s.flag R.RSTPWR_PWR_STAT_PFW then
    .next ((s.setB R.RSTPWR_PWR_STAT_PFW false).modMeter (fun d => { d with
      riseAt := some s.now, finalDone := false }))
  else .next s

/-- PFW_RESUME (R319): `PFW_N` has been high for 10 ms; writing resumes at the next whole second. -/
def execPfwResume (dt : Nat) (s : State) : Host.Outcome State Fault Refusal :=
  let s := s.elapse dt
  match s.meter.riseAt with
  | some t =>
    .next (if s.meter.stopped ∧ t + ms 10 ≤ s.now then
      s.modMeter (fun d => { d with stopped := false, riseAt := none, resync := true, perAt := s.canopy })
    else s)
  | none => .next s

/-- METER_RESTORE (R321, R322): the save engine reads the FRAM and restores the registers. `content`
is what the FRAM holds from 0x0000 on; the empty list when none answers. -/
def execMeterRestore (dt : Nat) (content : List Nat) (s : State) : Host.Outcome State Fault Refusal :=
  let s := s.elapse dt
  if s.gridRuns ∧ s.hostRuns ∧ s.locked ∧ ¬ s.quarantine ∧ s.meter.ready = false then
    let s := s.restore content
    let s := s.modMeter (fun d => { d with ready := true })
    .next ((s.irq pgMeter 4).meterSync)
  else .next s

/-- `METER.CTRL.SAVE_ADOPT` written 1 (R321). -/
def State.saveAdopt (s : State) : State :=
  if s.flag R.METER_STATUS_FOREIGN then
    let s := (s.setB R.METER_STATUS_FOREIGN false).framPut 0 s.framHeader
    s.modMeter (fun d => { d with saving := true })
  else s.err pgMeter

/-- SAVE_ADOPT (R321): a write of 1 to `METER.CTRL.SAVE_ADOPT`. -/
def execSaveAdopt (dt : Nat) (s : State) : Host.Outcome State Fault Refusal :=
  .next ((s.elapse dt).hostAct pgMeter 0x008 State.saveAdopt)

/-- ENERGY_BROADCAST (R323): at a multiple of 100 ms the total group goes to `POI_NODE`. -/
def execEnergyBroadcast (dt : Nat) (s : State) : Host.Outcome State Fault Refusal :=
  let s := s.elapse dt
  if s.gridRuns ∧ s.vodRuns ∧ s.flag R.METER_STATUS_RUN ∧ s.flag R.METER_BCAST_EN
      ∧ s.meter.castAt / 100000000 < s.canopy / 100000000 then
    let b := bytesLE 2 0x0C01 ++ [s.recordFlags, 0] ++ bytesLE 2 s.meter.bseq ++ [0, 0]
      ++ bytesLE 8 s.serial ++ bytesLE 8 (s.stamp pgMeter) ++ (s.energies.drop 30).flatMap (bytesLE 8)
    let s := s.modMeter (fun d => { d with bseq := (d.bseq + 1) % 65536, castAt := s.canopy })
    .next (s.sendOwn 3 0 false false (s.get R.METER_BCAST_POI_NODE) b).1
  else .next s

end Sys2Proof.Machine
end

