-- ==== Sys2Proof/Machine/Ride.lean ====
section
/-! DEFINITION. The commands of ride-through and return to service (R277 to R291). -/

namespace Sys2Proof.Machine

/-- EXCURSION_END (R280, R288): curve `c`'s quantity has been back for `RESET_MS`. -/
def execExcursionEnd (dt : Nat) (c : Fin 4) (s : State) : Host.Outcome State Fault Refusal :=
  let s := s.elapse dt
  let k : Nat := c
  if s.gridRuns ∧ (s.ride.exc.getD k none).isSome
      ∧ heldFor (s.ride.back.getD k none) (ms (s.get R.RIDE_RT_TIME_RESET_MS)) s.now then
    let s := s.putMaskBit R.RIDE_STATUS_EXC k false
    let s := s.setRide (fun r => { r with exc := r.exc.set k none, back := r.back.set k none })
    .next ((s.irqLog pgRide 1 0).rtSync)
  else .next s

/-- SOURCE_STALE_TRIP (R277): GE1's voltage sources have been stale for 100 ms. -/
def execSourceStaleTrip (dt : Nat) (s : State) : Host.Outcome State Fault Refusal :=
  let s := s.elapse dt
  .next (if s.gridRuns ∧ heldFor s.ride.staleSince (ms 100) s.now then s.trip [tcStale] else s)

/-- RECOVERY_RAMP_END (R288). -/
def execRecoveryRampEnd (dt : Nat) (s : State) : Host.Outcome State Fault Refusal :=
  let s := s.elapse dt
  if s.gridRuns ∧ heldFor s.ride.recAt (ms (s.get R.RIDE_REC_CFG_REC_RAMP_MS)) s.now then
    let s := s.setB R.RIDE_STATUS_RECOVER false
    .next ((s.setRide (fun r => { r with recAt := none })).irq pgRide 6)
  else .next s

/-- RTS_WINDOW_HELD (R291): the return window has held for `RTS_S`. -/
def execRtsWindowHeld (dt : Nat) (s : State) : Host.Outcome State Fault Refusal :=
  let s := s.elapse dt
  .next (if s.gridRuns then s.rtsTry else s)

/-- `RIDE.CTRL.TRIP_CLR` written 1 (R291). It acts once GE1 has evaluated the present cycle: a write of a
cycle in which an excursion starts is refused (R300). -/
def State.tripClear (s : State) : State :=
  let done := s.arm.ran.contains s.cycleStart
  if s.flag R.RIDE_STATUS_TRIPPED ∧ s.ride.rtsSince.isSome then
    if done then
      if s.ride.excNew then s.refuseClear
      else (s.setRide (fun r => { r with clearReq := true })).rtsTry
    else s.setRide (fun r => { r with clearReq := true, clearNow := true })
  else s.err pgRide

/-- TRIP_CLEAR (R291): a write of 1 to `RIDE.CTRL.TRIP_CLR`. -/
def execTripClear (dt : Nat) (s : State) : Host.Outcome State Fault Refusal :=
  .next ((s.elapse dt).hostAct pgRide 0x008 State.tripClear)

/-- TRIP_NOW (R289): a write of 1 to `RIDE.CTRL.TRIP_NOW`. -/
def execTripNow (dt : Nat) (s : State) : Host.Outcome State Fault Refusal :=
  .next ((s.elapse dt).hostAct pgRide 0x008 (fun t => t.trip [tcHost]))

end Sys2Proof.Machine
end

