-- ==== Sys2Proof/Machine/Ring.lean ====
section
/-! DEFINITION. The commands of the Vodor ring (R327 to R363). -/

namespace Sys2Proof.Machine

/-- The ring engine works: the island runs and the node is no repeater. -/
def State.ringRuns (s : State) : Bool := s.vodRuns && !s.flag R.VODOR_STATUS_REPEATER

/-- PORT_ALIGNED (R329): the receiver aligns; a DOWN port goes to NEGOTIATE once it may send. -/
def execPortAligned (dt : Nat) (p : Fin 2) (s : State) : Host.Outcome State Fault Refusal :=
  let s := s.elapse dt
  if s.vodRuns ∧ (s.port p).aligned = false ∧ ¬ s.portUp p then
    let s := s.setPort p (fun q => { q with aligned := true, lostAt := none })
    if s.ringRuns ∧ s.ring.inserted ∧ s.portState p = psDown then
      .next ((s.setPortState p psNegotiate).setPort p (fun q =>
        { q with helloRun := 0, helloDue := s.now }))
    else .next s.listenSync
  else .next s

/-- PORT_ALIGN_LOSS (R329): the receiver loses its alignment. -/
def execPortAlignLoss (dt : Nat) (p : Fin 2) (s : State) : Host.Outcome State Fault Refusal :=
  let s := s.elapse dt
  .next (if s.vodRuns ∧ (s.port p).aligned then
    (s.setPort p (fun q => { q with aligned := false, lostAt := some s.now })).listenSync
  else s)

/-- PORT_RELOCK (R330, R352): an UP port regains alignment within 2 µs. -/
def execPortRelock (dt : Nat) (p : Fin 2) (s : State) : Host.Outcome State Fault Refusal :=
  let s := s.elapse dt
  match (s.port p).lostAt with
  | some t =>
    if s.ringRuns ∧ s.portUp p ∧ s.now ≤ t + us 2 then
      let s := s.setPort p (fun q => { q with aligned := true, lostAt := none, helloNow := true })
      let s := (s.inc (R.VPORT_CNT_LINK_RELOCKS p)).irq (pgPort p) 2
      .next (s.delayRestart p)
    else .next s
  | none => .next s

/-- PORT_DOWN (R330, R347): alignment has been lost for longer than 2 µs. -/
def execPortDown (dt : Nat) (p : Fin 2) (s : State) : Host.Outcome State Fault Refusal :=
  let s := s.elapse dt
  match (s.port p).lostAt with
  | some t => .next (if s.ringRuns ∧ s.portUp p ∧ t + us 2 < s.now then s.portFall p else s)
  | none => .next s

/-- The first Canopy time 6 µs past a TC2 period boundary, not before `t` ns (R348). -/
def wrapBoundary (t : Nat) : Nat := ceilDiv (t - 6000) 10000 * 10000 + 6000

/-- WRAP_END (R348): the port has been UP for 100 ms; its wrap ends 6 µs past a TC2 period boundary. -/
def execWrapEnd (dt : Nat) (p : Fin 2) (s : State) : Host.Outcome State Fault Refusal :=
  let s := s.elapse dt
  let q := s.port p
  let ready := q.upSince + ms 100
  let t := (s.canopyT.at ready).ceil.toNat
  .next (if s.ringRuns ∧ s.isWrapped p ∧ s.portUp p ∧ q.lostAt.isNone ∧ ready ≤ s.now
      ∧ wrapBoundary t ≤ s.canopy then
    (s.setWrap p false).irq pgVodor 1
  else s)

/-- HELLO_SEND (R329, R330): the hello timer of a port expires, or a relock asks for a hello. -/
def execHelloSend (dt : Nat) (p : Fin 2) (s : State) : Host.Outcome State Fault Refusal :=
  let s := s.elapse dt
  let q := s.port p
  .next (if s.ringRuns ∧ s.ring.inserted ∧ (s.portState p = psNegotiate ∨ s.portUp p)
      ∧ (q.helloDue ≤ s.now ∨ q.helloNow) then s.sendHello p
  else s)

/-- HELLO_RECEIVED (R329, R331, R332, R351, R352): a delivered hello on port `p`. -/
def execHelloReceived (dt : Nat) (p : Fin 2) (s : State) : Host.Outcome State Fault Refusal :=
  let s := s.elapse dt
  if s.ringRuns then
    match s.takeInbox (fun d => decide (d.kind = 1) && decide (d.port = p.val)) with
    | none => .next s
    | some (d, s) =>
      .next (if s.ring.inserted ∧ d.ptype = 0x0D02 ∧ d.payload.length = 20 then s.takeHello p d.payload
      else s)
  else .next s

/-- NOVER_RETRY (R329, R333): 1 ms in NOVER; the third NOVER in a row makes the node a repeater. -/
def execNoverRetry (dt : Nat) (p : Fin 2) (s : State) : Host.Outcome State Fault Refusal :=
  let s := s.elapse dt
  let q := s.port p
  .next (if s.ringRuns ∧ s.portState p = psNover ∧ q.noverAt + ms 1 ≤ s.now then
    (if 3 ≤ q.noverRun then s.becomeRepeater 2
    else (s.setPortState p psNegotiate).setPort p (fun q => { q with helloRun := 0, helloDue := s.now }))
  else s)

/-- FRAME_RECEIVE (R336, R341): a frame whose /S/ reaches the receiver ball of port `p` now. `bytes` run
from its header to its FCS; `ending` 0 is /T/, 1 /E/, 2 a frame that breaks off. -/
def execFrameReceive (dt : Nat) (p : Fin 2) (bytes : List Nat) (ending : Fin 3) (s : State) :
    Host.Outcome State Fault Refusal :=
  let s := s.elapse dt
  if s.ringRuns ∧ (s.port p).aligned then
    if ending.val ≠ 0 then .next s
    else if ¬ headerGood bytes then .next (s.inc (R.VPORT_CNT_ERR_HCRC p))
    else if ¬ fcsGood bytes then .next (s.inc (R.VPORT_CNT_ERR_FCS p))
    else
      let f := parseFrame bytes
      if ¬ s.ring.inserted then .next (s.listen f)
      else if f.kind = 1 then
        .next (s.deliverTo ⟨1, f.src, f.seq, f.wraps, p, f.payload, s.now⟩)
      else if f.badAddress ∨ ¬ s.portUp p then .next s
      else .next (s.receiveFrame p f)
  else .next s

/-- FRAME_SENT (R343, R344): the last symbol of the frame being sent leaves, no sooner than its bytes take; the
next one is chosen, or the suspended one resumes. -/
def execFrameSent (dt : Nat) (p : Fin 2) (s : State) : Host.Outcome State Fault Refusal :=
  let s := s.elapse dt
  match (s.port p).sending with
  | some f =>
    if s.ringRuns ∧ (s.port p).sendEnd ≤ s.now then
      let s := s.copyGone f
      .next (s.setPort p (fun q =>
        ({ q with sending := none, sendEnd := s.now } : PortSt).start (s.now + byteTime 2))).podFeed
    else .next s
  | none => .next s

/-- OWN_TC2_RELEASE (R346): own TC2 frames whose release time has come: `t_n` + 2 µs for expedited
ones, `t_n` + 4 µs for the others. -/
def execOwnTc2Release (dt : Nat) (s : State) : Host.Outcome State Fault Refusal :=
  let s := s.elapse dt
  if s.ringRuns then
    let due (h : Nat × Frame) : Bool := decide (h.1 + (if h.2.exp then 2000 else 4000) ≤ s.canopy)
    let go := s.ring.held.filter due
    let s := s.modRing (fun r => { r with held := r.held.filter (fun h => !due h) })
    .next (go.foldl (fun u h => (u.sendOwn 2 0 true h.2.exp h.2.dst h.2.payload).1) s)
  else .next s

/-- DELAY_REQUEST (R352): an UP port sends a /D/ request every 1 ms, or 100 µs until 3 measurements are
held. -/
def execDelayRequest (dt : Nat) (p : Fin 2) (s : State) : Host.Outcome State Fault Refusal :=
  let s := s.elapse dt
  let q := s.port p
  .next (if s.ringRuns ∧ s.portUp p ∧ q.reqDue ≤ s.now then
    s.setPort p (fun q => { q with
      reqMark := (q.reqMark + 1) % 65536, reqOut := true, gap := none,
      reqDue := s.now + (if q.meas.length < 3 then us 100 else ms 1) })
  else s)

/-- DELAY_MARKER_RECEIVED (R352): a /D/ marker with its number. For a request (`answer` false) `ps` is the
time from its arrival to the answer's departure; for an answer it is t4 - t1, both as stamped. -/
def execDelayMarkerReceived (dt : Nat) (p : Fin 2) (mark : Fin 65536) (answer : Bool) (ps : Nat)
    (s : State) : Host.Outcome State Fault Refusal :=
  let s := s.elapse dt
  let q := s.port p
  let st := s.portState p
  .next (if s.ringRuns ∧ q.aligned ∧ (st = psNegotiate ∨ st = psUp) then
    (if answer then
      (if q.reqOut ∧ q.reqMark = mark.val ∧ s.portUp p then s.setPort p (fun q => { q with gap := some ps })
      else s)
    else s.setPort p (fun q => { q with ansMark := mark, ansTurn := ps % 4294967296 }))
  else s)

/-- INSERTION (R350): at the first TC2 boundary after step 2, or after 10 ms, that is no multiple of 1 ms, the
bypass opens and both transmitters start. -/
def execInsertion (dt : Nat) (s : State) : Host.Outcome State Fault Refusal :=
  let s := s.elapse dt
  let edge := s.now - ns (s.coarseTime % 10000)
  let ready := (match s.ring.listenAt with
      | some t => decide (t ≤ edge)
      | none => false)
    || decide (s.ring.startedAt + ms 10 ≤ edge)
  if s.vodRuns ∧ s.ring.started ∧ s.ring.inserted = false ∧ ready
      ∧ s.coarseTime / 10000 * 10000 % 1000000 ≠ 0 then
    let s := s.modRing (fun r => { r with
      inserted := true, ports := r.ports.map (fun q => { q with txOn := true }) })
    .next ([0, 1].foldl
      (fun u p =>
        if (u.port p).aligned ∧ u.portState p = psDown then
          (u.setPortState p psNegotiate).setPort p (fun q => { q with helloRun := 0, helloDue := u.now })
        else u) s)
  else .next s

/-- CANOPY_SET (R359): a write of 1 to `CANOPY.CTRL.SET_GO`. -/
def execCanopySet (dt : Nat) (s : State) : Host.Outcome State Fault Refusal :=
  .next ((s.elapse dt).hostAct pgCanopy 0x008 State.canopySet)

/-- REMOTE_RESPONSE (R363, R366): a delivered response. One that is late, or of another access, is
discarded. -/
def execRemoteResponse (dt : Nat) (s : State) : Host.Outcome State Fault Refusal :=
  let s := s.elapse dt
  if s.ringRuns then
    match s.takeInbox (fun d => decide (d.kind = 2) && decide (d.ptype = 0x0D11)) with
    | none => .next s
    | some (d, s) =>
      if s.flag R.VODOR_RA_STAT_BUSY ∧ leAt d.payload 4 2 = s.ring.raTag ∧ s.now < s.ring.raDue then
        let n := if s.ring.raWrite then 0 else min (d.payload.getD 3 0) ((d.payload.length - 12) / 4)
        .next (s.raFinish (d.payload.getD 2 0 % 16)
          ((List.range n).map (fun i => leAt d.payload (12 + 4 * i) 4)))
      else .next s
  else .next s

/-- REMOTE_TIMEOUT (R363, R366): 10 ms have passed without a response. -/
def execRemoteTimeout (dt : Nat) (s : State) : Host.Outcome State Fault Refusal :=
  let s := s.elapse dt
  .next (if s.vodRuns ∧ s.flag R.VODOR_RA_STAT_BUSY ∧ s.ring.raDue ≤ s.now then s.raFinish 5 [] else s)

end Sys2Proof.Machine
end

