-- ==== Sys2Proof/Machine/Sar.lean ====
section
/-! DEFINITION. The commands of the SAR converters (R122 to R137). -/

namespace Sys2Proof.Machine

/-- A trigger with the target `t` fires now: it is the first grid cycle at or after it (R114). -/
def firesNow (t now : Nat) : Bool := decide (t ≤ now) && decide (now < ceilDiv t 64 * 64 + 64)

/-- The held trigger of converter `n` that has reached its target, removed from the unit. -/
def takeTarget (l : List Nat) (now : Nat) : Option (List Nat) :=
  match l with
  | [] => none
  | t :: r => if firesNow t now then some r else (takeTarget r now).map (fun r => t :: r)

/-- SAR_TRIGGER_FIRE (R114, R126, R127, R134): a trigger of converter `n` reaches its target. A RESTART
trigger that comes before the running pass has begun to sample starts its own pass as R114 says (log
entry 75). -/
def execSarTriggerFire (dt : Nat) (n : Fin 5) (s : State) : Host.Outcome State Fault Refusal :=
  let s := s.elapse dt
  let d := s.sarSt n
  match (if s.gridRuns ∧ s.sarRuns then takeTarget d.trig s.now else none) with
  | none => .next s
  | some rest =>
    let s := s.setSar n (fun d => { d with trig := rest })
    if s.sarFree n ∧ d.pend.isNone then
      let (t0, s) := s.firedStart
      .next (s.startPass n s.now t0)
    else if d.pass.isSome ∧ s.flag (R.SAR_SEQ_CFG_TRIG_POLICY n) then
      match d.pass with
      | some p =>
        if s.now < p.t0 then
          let fired := s.now
          let (t0, s) := s.firedStart
          .next ((s.inc (R.SAR_OVR_COUNT_RESTART n)).startPass n fired t0)
        else .next (s.setSar n (fun d => { d with restart := some s.now }))
      | none => .next s
    else if d.pend.isSome then .next (s.sarOverrun n)
    else .next ((s.setSar n (fun d => { d with pend := some s.now })).sarSync n)

/-- The result of the pass's conversion enters the grid island (R126): `RESULTi`, the meter, the pair. -/
def State.sarResult (s : State) (n : Nat) (p : SarPass) (code g : Nat) (clip : Bool) : State :=
  let i := p.idx
  let s := (s.set (R.SAR_RESULT_CODE n i) code).set (R.SAR_RESULT_GAIN n i) g
  let s := (s.setB (R.SAR_RESULT_CLIP n i) clip).setB (R.SAR_RESULT_ROVER n i)
    (s.flag (R.SAR_CAL_CFG_ROVER n))
  let s := (s.setB (R.SAR_RESULT_PARTIAL n i) false).setB (R.SAR_RESULT_STALE n i)
    (s.flag (R.SAR_STATUS_SEQ_STALE n))
  let s := (s.setB (R.SAR_RESULT_LATE n i) p.late).set (R.SAR_RESULT_PASS n i) (s.sarSt n).passNo
  let s := s.setSar n (fun d => { d with resAt := d.resAt.set i (some (p.ends - 16 * sarCycle)) })
  let s := if clip then s.irq (pgSar n) 6 else s
  let s := s.meterResult n i (p.ends - 16 * sarCycle)
  if n < 4 ∧ s.flag (R.SAR_ENTRY_PAIR n i) then
    s.pairResult n ((((code : Nat) : Int) - 32768) * 16 / 2 ^ g) clip
  else s

/-- SAR_CONVERSION_DONE (R122, R126 to R128, R130 to R132): the conversion in progress ends, with the
input at `nv` nanovolts at its sample instant. -/
def execSarConversionDone (dt : Nat) (n : Fin 5) (nv : Int) (s : State) :
    Host.Outcome State Fault Refusal :=
  let s := s.elapse dt
  match (s.sarSt n).pass with
  | none => .next s
  | some p =>
    let len := s.get (R.SAR_SEQ_CFG_LEN n)
    if s.sarRuns ∧ p.idx ≤ len ∧ p.ends ≤ s.now then
      let i := p.idx
      let g := s.get (R.SAR_ENTRY_GAIN n i)
      let (code, clip, s) := s.sarCode nv g
      let lost := s.lostNext 8
      let s := if lost then (s.takeLost 8).meterAbsent n (fun e => decide (e = i)) else s.sarResult n p code g clip
      match (s.sarSt n).restart with
      | some f =>
        let s := ((s.markPartial n (i + 1)).inc (R.SAR_OVR_COUNT_RESTART n)).meterMissed n (i + 1)
        .next (s.startPass n f p.ends)
      | none =>
        let s := s.setSar n (fun d =>
          { d with pass := some { p with idx := i + 1,
                                         ends := if i < len then p.ends + s.entryTime n (i + 1) else p.ends } })
        if i = len ∧ p.late = false ∧ lost then .next (s.passMissed n p)
        else if i = len ∧ p.late = false ∧ s.now ≤ s.passDue n p then
          let s := s.setB (R.SAR_STATUS_SEQ_STALE n) false
          .next (match dlPair (pgSar n) 0x060 with
            | some d => s.dlMeet d
            | none => s)
        else .next s
    else .next s

/-- PLAUS_MISSING (R132): 1 ms has passed after one pair result without one from the other converter.
Pair 0 is SAR0 and SAR1, pair 1 SAR2 and SAR3. -/
def execPlausMissing (dt : Nat) (p : Fin 2) (s : State) : Host.Outcome State Fault Refusal :=
  let s := s.elapse dt
  let b : Nat := 2 * p
  let late (n : Nat) : Bool := match (s.sarSt n).pairNew with
    | some (_, _, t) => decide (t + ms 1 ≤ s.now)
    | none => false
  if s.sarRuns ∧ (late b ∨ late (b + 1)) then
    let s := (s.setSar b (fun d => { d with pairNew := none })).setSar (b + 1)
      (fun d => { d with pairNew := none })
    .next ((s.inc (R.SAR_PLAUS_COUNT_MISSING b)).plausFail b)
  else .next s

/-- SAR_PASS_END (R126, R127, R129, R134, R135): the pass has ended. -/
def execSarPassEnd (dt : Nat) (n : Fin 5) (s : State) : Host.Outcome State Fault Refusal :=
  let s := s.elapse dt
  match (s.sarSt n).pass with
  | none => .next s
  | some p =>
    if s.sarRuns ∧ s.get (R.SAR_SEQ_CFG_LEN n) < p.idx then
      let s := ((s.set (R.SAR_PASS_T0_NS n) p.stamp).irq (pgSar n) 0).meterMissed n p.idx
      let s := s.setSar n (fun d =>
        { d with pass := none, restart := none,
                 pend := match d.pend, d.restart with
                   | some f, _ => some f
                   | none, r => r })
      .next (s.sarBoundary n p.ends)
    else .next s

/-- CAL_REQUEST (R133): a write of 1 to `CAL_CFG.REQ`. -/
def execCalRequest (dt : Nat) (n : Fin 5) (s : State) : Host.Outcome State Fault Refusal :=
  .next ((s.elapse dt).hostAct (pgSar n) 0x054 (fun t => t.calWrite n))

/-- CAL_PERIODIC (R133): `PERIOD_S` seconds have passed. -/
def execCalPeriodic (dt : Nat) (n : Fin 5) (s : State) : Host.Outcome State Fault Refusal :=
  let s := s.elapse dt
  let per := s.get (R.SAR_CAL_CFG_PERIOD_S n)
  .next (if s.sarRuns ∧ per ≠ 0 ∧ (s.sarSt n).periodAt + secs per ≤ s.now then
    (s.setSar n (fun d => { d with periodAt := s.now })).calRequest n
  else s)

/-- CAL_DONE (R133): 2,048 SAR cycles after its start, a calibration completes. -/
def execCalDone (dt : Nat) (n : Fin 5) (s : State) : Host.Outcome State Fault Refusal :=
  let s := s.elapse dt
  match (s.sarSt n).calEnd with
  | some t => .next (if s.sarRuns ∧ t ≤ s.now then s.calDone n else s)
  | none => .next s

/-- Converters 0 to 3 whose request has waited 100 ms join the rover's queue in the order of their requests,
those of one instant in the order SAR0 to SAR3 (R135). -/
def State.roverQueue (s : State) : State :=
  let age (k : Nat) : Nat := match (s.sarSt k).calReq with
    | some t => s.now - t
    | none => 0
  let l := [0, 1, 2, 3].filter (fun k => !s.roverQ.contains k && decide (ms 100 ≤ age k))
  { s with roverQ := s.roverQ ++ l.mergeSort (fun a b => decide (age b ≤ age a)) }

/-- ROVER_TIMEOUT (R135, R136): 100 ms after a request no gap has qualified. -/
def execRoverTimeout (dt : Nat) (n : Fin 5) (s : State) : Host.Outcome State Fault Refusal :=
  let s := s.elapse dt
  match (s.sarSt n).calReq with
  | some t =>
    if s.sarRuns ∧ t + ms 100 ≤ s.now then
      if n.val = 4 then .next ((s.setSar 4 (fun d => { d with forced := true })).calTry 4)
      else
        let s := s.roverQueue.roverTake
        .next ([0, 1, 2, 3].foldl (fun t k => t.nextPass k t.now) s)
    else .next s
  | none => .next s

end Sys2Proof.Machine
end

