-- ==== Sys2Proof/Machine/SavePort.lean ====
section
/-! DEFINITION. Host reads of the save port (R466, R467). -/

namespace Sys2Proof.Machine

/-- A `GO` of a host read: it starts, and waits while a save runs (R467). -/
def State.saveReadGo (s : State) : State :=
  if s.flag R.SAVE_HOST_CTRL_BUSY then s
  else
    let s := s.modMeter (fun d => { d with readAt := s.now })
    (s.setB R.SAVE_HOST_CTRL_BUSY true).setB R.SAVE_HOST_CTRL_GO true

/-- The bytes of a host read: the FRAM's own, or those the boot flash answers (R467). -/
def State.saveBytes (s : State) (flash : List Nat) : List Nat :=
  let n := s.get R.SAVE_HOST_CTRL_COUNT + 1
  let a := s.get R.SAVE_HOST_ADDR_ADDR
  if s.flag R.SAVE_HOST_ADDR_CS then slice flash 0 n
  else
    let m := if s.flag R.SAVE_CFG_ADDR3 then 2 ^ 24 else 2 ^ 16
    (List.range n).map (fun i => (s.meter.fram.get ((a + i) % m)).toNat)

/-- SAVE_HOST_READ_DONE (R466, R467): the read ends, once the save port, free of saves, has moved its bytes;
`flash` is what the boot flash answered. A read ended by a save is ended where that save starts. -/
def execSaveHostReadDone (dt : Nat) (flash : List Nat) (s : State) :
    Host.Outcome State Fault Refusal :=
  let s := s.elapse dt
  let ready := max s.meter.readAt s.meter.saveEnd + s.readTime (s.get R.SAVE_HOST_CTRL_COUNT + 1)
  if s.hostRuns ∧ s.flag R.SAVE_HOST_CTRL_BUSY ∧ s.meter.write.isNone ∧ ready ≤ s.now then
    let b := s.saveBytes flash
    let s := (List.range (ceilDiv b.length 4)).foldl
      (fun t i => t.set (R.SAVE_HOST_DATA_DATA i) (leAt b (4 * i) 4)) s
    .next (((s.setB R.SAVE_HOST_CTRL_BUSY false).setB R.SAVE_HOST_CTRL_GO false).irq pgSave 0)
  else .next s

end Sys2Proof.Machine
end

