-- ==== Sys2Proof/Machine/Sensing.lean ====
section
/-! DEFINITION. The commands of the sigma-delta inputs and of the trigger units (R99 to R121). Every
command of a channel's sensing carries the bits captured since the last one (log entry 7). -/

namespace Sys2Proof.Machine

/-- The event is the one that `SRC` selects (R113). -/
def trigMatch (src leg mode : Nat) (k : TrigKind) : Bool :=
  match k with
  | .zero => src == 1 || src == 3
  | .peak => src == 2 || (src == 3 && mode != 0)
  | .cross y => src == 4 && leg == y.val

/-- Channel `c`'s carrier made the event at time `t` (R154): its last zero, the peak after it, or the last
crossing of the leg's compare. A sawtooth's wrap is zero and peak. -/
def State.carrierMade (s : State) (c t : Nat) (k : TrigKind) : Bool :=
  let p := (s.ch c).pwm
  match k with
  | .zero => decide (t = p.zeroAt)
  | .peak =>
    if p.mode = 0 then decide (t = p.zeroAt) else p.falling && decide (t = p.zeroAt + fine * p.top)
  | .cross y => decide ((s.leg c y).edgeAt = some (t, true))

/-- TRIGGER_EVENT (R113 to R115, R154): an event of channel `cell`'s carrier, `age` time units old, reaches
trigger unit `u`: `SENSE` page u, or converter u - 8. Its time is that of the cell island's cycle. -/
def execTriggerEvent (dt : Nat) (u : Fin 13) (cell : Fin 8) (kind : TrigKind) (age : Nat) (s : State) :
    Host.Outcome State Fault Refusal :=
  let s := s.elapse dt
  let k : Nat := u
  let mode := (s.ch cell).pwm.mode
  let t := (PageIsland.cell cell).edge (s.now - age)
  if s.cellRuns cell ∧ (s.ch cell).pwm.started ∧ s.carrierMade cell (s.now - age) kind then
    if k < 8 then
      .next (if k = cell.val
          ∧ trigMatch (s.get (R.SENSE_TRIG_SRC k)) (s.get (R.SENSE_TRIG_LEG k)) mode kind then
        s.senseTrigger k t else s)
    else
      let n := k - 8
      .next (if s.gridRuns ∧ s.get (R.SAR_TRIG_CELL n) = cell.val
          ∧ trigMatch (s.get (R.SAR_TRIG_SRC n)) (s.get (R.SAR_TRIG_LEG n)) mode kind then
        (s.setSar n (fun d => { d with lastEvt := some t })).sarTrigger n t
        else s)
  else .next s

/-- The firing time at or before the Canopy time `c`, in ns (R116). -/
def firingTime (c per ph : Nat) : Nat := c - (c + per - ph) % per

/-- A Canopy timer of an island fires now (R116): a firing time has been reached since the reading `last` up to
which it has been judged, and this is the first cycle at or after it, or the first after a step of Canopy
time. -/
def State.timerDue (s : State) (i : PageIsland) (per ph last : Nat) : Bool :=
  let reading (u : Nat) : Nat := (s.canopyT.at u).floor.toNat
  let here := i.edge s.now
  let before := i.edge (here - 1)
  let t := firingTime (reading here) per ph
  decide (0 < per) && decide (ph ≤ reading here) && decide (last < t)
    && (decide (reading before < t) || decide (before < s.canopyT.t0))

/-- CANOPY_TIMER_FIRE (R116): the timer of unit `u` reaches a firing time. The event's time is that of the
island's cycle. -/
def execCanopyTimerFire (dt : Nat) (u : Fin 13) (s : State) : Host.Outcome State Fault Refusal :=
  let s := s.elapse dt
  let k : Nat := u
  if k < 8 then
    let i : PageIsland := .cell k
    .next (if s.cellRuns k ∧ s.get (R.SENSE_TRIG_SRC k) = 5
        ∧ s.timerDue i (s.get (R.SENSE_TMR_PERIOD_NS k)) (s.get (R.SENSE_TMR_PHASE_NS k)) (s.ch k).sense.tmrAt then
      (s.setSense k (fun e => { e with tmrAt := s.canopy })).senseTrigger k (i.edge s.now)
    else s)
  else
    let n := k - 8
    .next (if s.gridRuns ∧ s.get (R.SAR_TRIG_SRC n) = 5
        ∧ s.timerDue .grid (s.get (R.SAR_TMR_PERIOD_NS n)) (s.get (R.SAR_TMR_PHASE_NS n)) (s.sarSt n).tmrAt then
      (s.setSar n (fun d => { d with tmrAt := s.canopy })).sarTrigger n (PageIsland.grid.edge s.now)
    else s)

/-- SAMPLE_CENTRE (R104, R114): the first `SDC_x` edge at or after a held target time. -/
def execSampleCentre (dt : Nat) (x : Fin 8) (bits : List (Fin 64)) (s : State) :
    Host.Outcome State Fault Refusal :=
  let s := (s.elapse dt).feed x bits
  let due := (s.ch x).sense.trig.filter (fun t => s.firstEdge x t)
  if s.sdRuns x = false ∨ due ≠ [] then
    let s := s.setSense x (fun e => { e with trig := e.trig.filter (fun t => decide (s.now < t)) })
    .next (if s.sdRuns x then s.sampleCentre x else s)
  else .next s

/-- INPUT_LOSS (R117): 64 equal bits have been captured on input `n`. -/
def execInputLoss (dt : Nat) (x : Fin 8) (n : Fin 6) (bits : List (Fin 64)) (s : State) :
    Host.Outcome State Fault Refusal :=
  let s := (s.elapse dt).feed x bits
  .next (if s.sdRuns x ∧ s.inOn x n ∧ 64 ≤ (s.sdIn x n).run
      ∧ ¬ (s.get (R.SENSE_FB_STAT_LOSS x)).testBit n then
    (s.setMaskBit (R.SENSE_FB_STAT_LOSS x) n).irq (pgSense x) n
  else s)

/-- INPUT_LOSS_END (R108, R117): a transition has been captured on a lost input; its bit is the first
of the settling count. -/
def execInputLossEnd (dt : Nat) (x : Fin 8) (n : Fin 6) (bits : List (Fin 64)) (s : State) :
    Host.Outcome State Fault Refusal :=
  let s := (s.elapse dt).feed x bits
  .next (if s.sdRuns x ∧ s.inOn x n ∧ (s.sdIn x n).run < 64
      ∧ (s.get (R.SENSE_FB_STAT_LOSS x)).testBit n then
    (s.putMaskBit (R.SENSE_FB_STAT_LOSS x) n false).setIn x n (fun d => { d with cnt := d.run })
  else s)

/-- INPUT_FREEZE (R118, R119): the output about to be formed, or the last one, is the `FREEZE_N`-th
equal one. -/
def execInputFreeze (dt : Nat) (x : Fin 8) (n : Fin 6) (bits : List (Fin 64)) (s : State) :
    Host.Outcome State Fault Refusal :=
  let s := (s.elapse dt).feed x bits
  let d := s.sdIn x n
  let lim := s.get (R.SENSE_FILT_CFG_FREEZE_N x)
  let due := (s.ch x).sense.trig.any (fun t => s.firstEdge x t)
  .next (if s.sdRuns x ∧ s.inOn x n ∧ ¬ (s.get (R.SENSE_FB_STAT_FREEZE x)).testBit n
      ∧ (lim ≤ d.rawRun ∨ (due ∧ lim ≤ d.rawRun + 1 ∧ d.raw = some (d.raw3 (s.osr3Log x)))) then
    (s.setMaskBit (R.SENSE_FB_STAT_FREEZE x) n).irq (pgSense x) (6 + n)
  else s)

/-- COMPARATOR_ASSERT (R110 to R112): the condition has held on `FILT` consecutive outputs. -/
def execComparatorAssert (dt : Nat) (x : Fin 8) (m : Fin 12) (bits : List (Fin 64)) (s : State) :
    Host.Outcome State Fault Refusal :=
  let s := (s.elapse dt).feed x bits
  .next (if s.sdRuns x ∧ s.inOn x (m / 2) ∧ ¬ s.cmpOut x m
      ∧ s.get (R.SENSE_CMP_CFG_FILT x m) < s.cmpRun x m then s.cmpAssert x m
  else s)

/-- COMPARATOR_RELEASE (R110): the output has lain inside the band on `FILT` consecutive outputs. -/
def execComparatorRelease (dt : Nat) (x : Fin 8) (m : Fin 12) (bits : List (Fin 64)) (s : State) :
    Host.Outcome State Fault Refusal :=
  let s := (s.elapse dt).feed x bits
  .next (if s.sdRuns x ∧ s.inOn x (m / 2) ∧ s.cmpOut x m
      ∧ s.get (R.SENSE_CMP_CFG_FILT x m) < s.cmpRun x m then s.cmpRelease x m
  else s)

end Sys2Proof.Machine
end

