-- ==== Sys2Proof/Machine/FabricPages.lean ====
section
/-! DEFINITION. The registers whose write does more than its access code says, page by page. -/

namespace Sys2Proof.Machine

/-! ### CTRL -/

/-- `f` where bit `b` of the written word is 1. -/
def onBit (v b : Nat) (f : State → State) (t : State) : State := if v.testBit b then f t else t

/-- The control bits of a page's `CTRL` acted on (the chapters' CTRL tables). -/
def State.ctrlAct (s : State) (p v : Nat) : State :=
  let x := p % 8
  if p = pgCanopy then onBit v 0 State.canopySet s
  else if 0x18 ≤ p ∧ p ≤ 0x1F then
    if v.testBit 0 then s.pwmEnable x else if s.flag (R.PWM_CTRL_EN x) then s.pwmStop x else s
  else if 0x28 ≤ p ∧ p ≤ 0x2F then
    let s :=
      if v.testBit 0 then (if s.flag (R.KE_CTRL_EN x) then s else s.keEnable x) else s.keDisable x
    onBit v 1 (fun t => t.keTest x) s
  else if 0x30 ≤ p ∧ p ≤ 0x37 then
    onBit v 3 (fun t => t.scanNow x) (onBit v 2 (fun t => t.shellNow x)
      (onBit v 1 (fun t => t.cellLeave x) (onBit v 0 (fun t => t.cellJoin x) s)))
  else if p = pgRide then onBit v 1 (fun t => t.trip [tcHost]) (onBit v 0 State.tripClear s)
  else if p = pgIsland then onBit v 0 State.islandClear s
  else if p = pgMeter then onBit v 0 State.saveAdopt s
  else if 0x60 ≤ p ∧ p ≤ 0x67 then
    onBit v 2 (fun t => t.captTrigger x (t.stamp (pgSap x)) 0) (onBit v 1 (fun t => t.captStop x)
      (onBit v 0 (fun t => t.captArm x) s))
  else if p = pgGlog then onBit v 0 State.unfreeze s
  else s

/-- `CTRL` written (R85): the control bits, then `UPDATE_LOCK`. -/
def State.ctrlWrite (s : State) (p v : Nat) : State :=
  let s := s.ctrlAct p v
  if hasSH p then s.updateLock p (v.testBit 31) else s

/-- `STATUS` written (R5, R85). A `SHOOT` bit that is cleared ends its fault source (R149, R155). -/
def State.statusClear (s : State) (p v : Nat) : State :=
  let x := p % 8
  let was := s.get (R.PWM_STATUS_SHOOT x)
  let s := s.fieldsWrite p 0x00C v
  let s := if hasSN p ∧ v.testBit 31 then s.clearBits (H.SNAP_ORDER_ERR p) 1 else s
  if 0x18 ≤ p ∧ p ≤ 0x1F then
    (List.range 4).foldl
      (fun (t : State) y =>
        if was.testBit y && !(t.get (R.PWM_STATUS_SHOOT x)).testBit y then
          (t.setLeg x y (fun l => { l with both := false })).sourceOff x (28 + y)
        else t) s
  else s

/-! ### Converters and sensing -/

/-- The fewest sample cycles of each gain, less 1 (R123). -/
def minSmp (g : Nat) : Nat := if g ≤ 1 then 3 else if g = 2 then 7 else 15

/-- A written `ENTRYi` keeps R122 to R125 and R130. -/
def State.entryOk (s : State) (n v : Nat) : Bool :=
  let input := bitsOf v 0 6
  let g := bitsOf v 18 3
  decide (minSmp g ≤ bitsOf v 8 10) && (decide (input < 32) || decide (g = 0))
    && (!v.testBit 21 || decide (n = 4) || decide (input = s.get (R.SAR_PLAUS_CFG_CHAN (n / 2 * 2))))

/-- `DL_LIMIT` of a converter written: the interval in progress keeps its limit (R94). -/
def State.sarLimitWrite (s : State) (n v : Nat) : State :=
  let old := (s.now, s.get (R.SAR_DL_LIMIT_LIMIT n), s.get (R.SAR_DL_LIMIT_MISS_MAX n))
  let open_ := (s.sarSt n).pass.isSome || (s.sarSt n).pend.isSome
  let ok := !s.refuses (pgSar n) 0x060 v
  let s := s.fieldsWrite (pgSar n) 0x060 v
  if open_ && ok then s.setSar n (fun d => { d with limOld := old :: d.limOld }) else s

/-- A block register of a converter's page written. -/
def State.sarWrite (s : State) (n ofs v : Nat) : State :=
  let p := pgSar n
  if ofs = 0x050 then
    if v.testBit 0 ∧ s.get (R.SAR_TRIG_SRC n) ≠ 7 then s.sarTrigger n s.now else s
  else if ofs = 0x054 then
    let s := s.restWrite p ofs v 0x100
    if v.testBit 8 then s.calWrite n else s
  else if ofs = 0x060 then s.sarLimitWrite n v
  else if 0x080 ≤ ofs ∧ ofs < 0x0C0 ∧ ¬ s.entryOk n v then s.err p
  else s.fieldsWrite p ofs v

/-- A block register of a sensing page written (R100 to R118). The bits captured until now have been
given with the command. -/
def State.senseWrite (s : State) (x ofs v : Nat) : State :=
  let p := pgSense x
  if ofs = 0x040 then s.sdClkWrite x v
  else if ofs = 0x048 then s.filtCfgWrite x v
  else if ofs = 0x04C then s.chEnWrite x v
  else if ofs = 0x050 ∧ bitsOf v 0 3 = 7 then s.err p
  else if ofs = 0x05C then (if v.testBit 0 then s.senseTrigger x s.now else s)
  else if 0x080 ≤ ofs ∧ ofs < 0x0E0 then
    let m := (ofs - 0x080) / 8
    if ofs % 8 = 0 then s.cmpThrWrite x m v else s.cmpCfgWrite x m v
  else s.fieldsWrite p ofs v

/-! ### PWM, guard, Kernel, cell -/

/-- A block register of a PWM page written: the fault map only while `EN` is 0 (R157). -/
def State.pwmWrite (s : State) (x ofs v : Nat) : State :=
  let p := pgPwm x
  if 0x100 ≤ ofs ∧ ofs < 0x180 then
    if s.flag (R.PWM_CTRL_EN x) ∧ (pageFields p).any (fun r => r.ofs = ofs) then s.err p
    else ((s.fieldsWrite p ofs v).groupsSync x).guardSync x
  else if ofs = 0x18C then
    let s := s.fieldsWrite p ofs v
    if v.testBit 0 then s.sourceOn x 32 else s.sourceOff x 32
  else s.fieldsWrite p ofs v

/-- A block register of a guard's page written. -/
def State.guardWrite (s : State) (x ofs v : Nat) : State :=
  let p := pgGuard x
  if ofs = 0x048 then (s.fieldsWrite p ofs v).guardSync x
  else if ofs = 0x04C then s.clearLatches x (v % 65536)
  else if ofs = 0x180 then s.bypCfgWrite x v
  else (s.fieldsWrite p ofs v).escalateAll x

/-- `CFG` of a cell power block written (R218, R222, R231, R232, R239). -/
def State.cellCfgWrite (s : State) (x v : Nat) : State :=
  let p := pgCell x
  if s.refuses p 0x040 v then s.err p
  else
    let po := s.flag (R.CELL_CFG_PO_EN x)
    let s := s.fieldsWrite p 0x040 v
    let s := if s.hasPv x ∨ ¬ s.flag (R.CELL_STATUS_CURT x) then s
      else (s.setB (R.CELL_STATUS_CURT x) false).irq p 7
    let s := if s.flag (R.CELL_CFG_SCAN_EN x) ∨ (s.ch x).cell.scan.isNone then s
      else (s.dropScan x).restartPo x
    let s := if s.flag (R.CELL_CFG_PO_EN x) ∧ ¬ po then s.poCatchUp x else s
    ((s.shellSync x).scanTry x).autoJoin x

/-- A block register of a cell power page written. -/
def State.cellWrite (s : State) (x ofs v : Nat) : State :=
  let p := pgCell x
  if ofs = 0x040 then s.cellCfgWrite x v
  else if ofs = 0x044 ∧ bitsOf v 0 16 < bitsOf v 16 16 + 100 then s.err p
  else if ofs = 0x058 ∨ ofs = 0x05C ∨ ofs = 0x060 then
    let s := s.fieldsWrite p ofs v
    if s.hasPv x then s.reform x else s
  else s.fieldsWrite p ofs v

/-! ### Grid -/

/-- `DL_LIMIT` of a grid engine written: the cycle in progress keeps its limit (R94). -/
def State.geLimitWrite (s : State) (e v : Nat) : State :=
  let t := s.cycleStart
  let keep : Bool := match s.arm.limOld.getD e none with
    | some (c, _) => decide (c = t)
    | none => false
  let old := (t, s.get (R.GE_DL_LIMIT_LIMIT e), s.get (R.GE_DL_LIMIT_MISS_MAX e))
  let s :=
    if keep ∨ s.refuses (pgGe e) 0x0A4 v then s
    else s.setArm (fun a => { a with limOld := a.limOld.set e (some old) })
  s.fieldsWrite (pgGe e) 0x0A4 v

/-- `ICTRL_RESh` of `ARM` written: the order is 0 or odd. -/
def State.armWrite (s : State) (ofs v : Nat) : State :=
  let o := bitsOf v 0 5
  if 0x09C ≤ ofs ∧ ofs < 0x0AC ∧ o ≠ 0 ∧ o % 2 = 0 then s.err pgArm else s.fieldsWrite pgArm ofs v

/-! ### Ring, queues, Gylen, safety -/

/-- The request of a remote access sent (R363, R364), or carried to this node's own register fabric
(R366). -/
def State.raGo (s : State) : State :=
  let tag := (s.ring.raTag + 1) % 65536
  let wr := s.flag R.VODOR_RA_CTRL_WRITE
  let n := s.get R.VODOR_RA_CTRL_COUNT + 1
  let node := s.get R.VODOR_RA_NODE_NODE
  let data := if wr then (List.range n).flatMap (fun i => bytesLE 4 (s.get (R.VODOR_RA_DATA_DATA i))) else []
  let payload := bytesLE 2 0x0D10 ++ [if wr then 1 else 0, n] ++ bytesLE 2 tag ++ [0, 0]
    ++ bytesLE 4 (s.get R.VODOR_RA_ADDR_ADDR) ++ data
  let s := s.setB R.VODOR_RA_STAT_BUSY true
  let s := s.modRing (fun r => { r with raTag := tag, raDue := s.now + ms 10, raWrite := wr, raCount := n })
  if node = s.addr then
    let d : Delivery := ⟨2, s.addr, 0, 0, 0, payload, s.now⟩
    if 4 ≤ (s.ring.inbox.filter (fun e => decide (e.kind = 2) && decide (e.ptype = 0x0D10))).length then
      s.raFinish 4 []
    else s.deliverTo d
  else (s.sendOwn 3 2 false false node payload).1

/-- `RA_CTRL` written (R363): a `GO` while an access is outstanding is ignored and counted. -/
def State.vodorWrite (s : State) (ofs v : Nat) : State :=
  if ofs = 0x068 then
    if v.testBit 0 ∧ s.flag R.VODOR_RA_STAT_BUSY then s.err pgVodor
    else
      let s := s.restWrite pgVodor ofs v 1
      if v.testBit 0 then (s.setB R.VODOR_RA_CTRL_GO true).raGo else s
  else s.fieldsWrite pgVodor ofs v

/-- `HTX_CTRL` written (R417, R421). -/
def State.gylenWrite (s : State) (ofs v : Nat) : State :=
  if ofs = 0x244 then
    if s.refuses pgGylen ofs v then s.err pgGylen
    else
      let s := s.restWrite pgGylen ofs v 0x10000
      if v.testBit 16 then s.gylHostLoad else s
  else s.fieldsWrite pgGylen ofs v

/-- The region of `QCFGq` is one that the queue may have (R370). -/
def State.regionOk (s : State) (q base size : Nat) : Bool :=
  decide (0 < size) && decide (base + size ≤ 512)
    && (List.range 32).all (fun k => decide (k = q) || !s.flag (R.POD_QCFG_EN k)
        || decide (base + size ≤ s.get (R.POD_QCFG_BASE k))
        || decide (s.get (R.POD_QCFG_BASE k) + s.get (R.POD_QCFG_SIZE k) ≤ base))

/-- A queue enabled (R370): it is empty. -/
def State.queueOpen (s : State) (q : Nat) : State :=
  let s := s.setB (R.POD_QCFG_EN q) true
  let s := s.setQueue q (fun d => { inFlight := d.inFlight, gone := d.gone, orphan := d.orphan, flushAt := d.flushAt })
  s.podSync q

/-- `QCFGq` written (R370, R383). -/
def State.qcfgWrite (s : State) (q v : Nat) : State :=
  let same := decide (bitsOf v 0 24 = s.wordOf pgPod (0x100 + 0x10 * q) % 2 ^ 24)
  if s.flag (R.POD_QCFG_EN q) then
    if !same then s.err pgPod
    else if v.testBit 24 ∨ (s.queue q).closing then s
    else
      let s := s.setQueue q (fun d => { d with closing := true })
      if (s.queue q).flush then s else s.requestFlush q
  else if bitsOf v 9 10 = 0 ∨ 512 < bitsOf v 9 10 ∨ (v.testBit 24 ∧ ¬ s.regionOk q (bitsOf v 0 9) (bitsOf v 9 10)) then
    s.err pgPod
  else
    let s := s.restWrite pgPod (0x100 + 0x10 * q) v (2 ^ 24)
    if v.testBit 24 then s.queueOpen q else s.podSync q

/-- Ones written to `FLUSH` (R382, R384): a flush that is pending already takes no further effect. -/
def State.flushWrite (s : State) (v : Nat) : State :=
  (List.range 32).foldl (fun (t : State) q =>
    if v.testBit q ∧ ¬ (t.queue q).flush then t.requestFlush q else t) s

/-- A block register of the queues' page written. -/
def State.podWrite (s : State) (ofs v : Nat) : State :=
  if ofs = 0x040 then s.flushWrite v
  else if 0x100 ≤ ofs ∧ ofs < 0x300 ∧ ofs % 0x10 = 0 then s.qcfgWrite ((ofs - 0x100) / 0x10) v
  else if 0x100 ≤ ofs ∧ ofs < 0x300 ∧ ofs % 0x10 = 4 then s.qdataWrite ((ofs - 0x100) / 0x10) v
  else s.fieldsWrite pgPod ofs v

/-- `OUT_REQ` written (R403). -/
def State.safeWrite (s : State) (ofs v : Nat) : State :=
  let s := s.fieldsWrite pgSafe ofs v
  if ofs = 0x048 then (List.range 4).foldl (fun (t : State) n => t.outSync n) s else s

/-! ### Capture, mailbox, gateway, save port -/

/-- A capture unit's configuration written: a timer's phase lies below its period (R424), and a unit that
another is to trigger names that other one (`XUNIT`; with another `SRC` the field is not judged, log entry
71). Tap codes are judged at `ARM` (R429). -/
def State.sapWrite (s : State) (x ofs v : Nat) : State :=
  let p := pgSap x
  if ofs = 0x068 ∧ s.get (R.SAP_TMR_PERIOD_NS x) ≤ bitsOf v 0 24 then s.err p
  else if ofs = 0x058 ∧ bitsOf v 0 4 = 7 ∧ bitsOf v 16 3 = x then s.err p
  else s.fieldsWrite p ofs v

/-- A block register of the mailbox's page written (R453). -/
def State.mboxWrite (s : State) (ofs v : Nat) : State :=
  if 0x040 ≤ ofs ∧ ofs < 0x068 ∧ s.mboxShut then s.err pgMbox
  else if ofs = 0x040 then
    let s := s.restWrite pgMbox ofs v 0x10000
    if v.testBit 16 then (s.setB R.MBOX_REQ_GO true).mboxGo else s
  else s.fieldsWrite pgMbox ofs v

/-- A block register of the gateway's page written (R460). -/
def State.ethWrite (s : State) (ofs v : Nat) : State :=
  if ofs = 0x078 then
    let s := s.restWrite pgEth ofs v (2 ^ 27)
    if v.testBit 27 then s.mdioGo else s
  else s.fieldsWrite pgEth ofs v

/-- A block register of the save port's page written (R467). -/
def State.saveWrite (s : State) (ofs v : Nat) : State :=
  if ofs = 0x048 then
    let s := s.restWrite pgSave ofs v 0x100
    if v.testBit 8 then s.saveReadGo else s
  else s.fieldsWrite pgSave ofs v

/-- A block register, from offset 0x040 on, written. -/
def State.blockWrite (s : State) (p ofs v : Nat) : State :=
  let x := p % 8
  if 0x08 ≤ p ∧ p ≤ 0x0C then s.sarWrite (p - 8) ofs v
  else if 0x10 ≤ p ∧ p ≤ 0x17 then s.senseWrite x ofs v
  else if 0x18 ≤ p ∧ p ≤ 0x1F then s.pwmWrite x ofs v
  else if 0x20 ≤ p ∧ p ≤ 0x27 then s.guardWrite x ofs v
  else if 0x30 ≤ p ∧ p ≤ 0x37 then s.cellWrite x ofs v
  else if (p = 0x40 ∨ p = 0x41) ∧ ofs = 0x0A4 then s.geLimitWrite (p - 0x40) v
  else if p = pgArm then s.armWrite ofs v
  else if p = pgVodor then s.vodorWrite ofs v
  else if p = pgGylen then s.gylenWrite ofs v
  else if p = pgPod then s.podWrite ofs v
  else if p = pgSafe then s.safeWrite ofs v
  else if 0x60 ≤ p ∧ p ≤ 0x67 then s.sapWrite x ofs v
  else if p = pgMbox then s.mboxWrite ofs v
  else if p = pgEth then s.ethWrite ofs v
  else if p = pgSave then s.saveWrite ofs v
  else s.fieldsWrite p ofs v

end Sys2Proof.Machine
end

