-- ==== Sys2Proof/Machine/Fabric.lean ====
section
/-! DEFINITION. The register fabric's writes: pages, table memory, bursts (R4, R61, R70, R78, R82 to R91,
R448, R451). -/

namespace Sys2Proof.Machine

/-- A word written to an allocated page that takes writes (R85 and the chapters). An offset without a
register is reserved: nothing happens. -/
def State.regWrite (s : State) (p ofs v : Nat) : State :=
  if ofs < 0x040 then
    if ofs = 0x008 then s.ctrlWrite p v
    else if ofs = 0x00C then s.statusClear p v
    else if ofs = 0x014 then s.irqEnable p v
    else if ofs = 0x018 then s.irqClear p v
    else if ofs = 0x01C ∧ hasSH p then
      (if v.testBit 1 then s.commitDiscard p else if v.testBit 0 then s.commitGo p else s)
    else if ofs = 0x024 ∧ v.testBit 31 then s.errClear p
    else s
  else if ofs = cntClrOfs p then (if v.testBit 0 then s.counterClear p else s)
  else
    match dlPair p (ofs - 4) with
    | some d => if v.testBit 31 then s.dlClear d else s
    | none => s.blockWrite p ofs v

/-- A word written to a page (R4, R61, R78). A mailbox request before the lock is ignored like every
write, and is answered with BUSY (R61). -/
def State.pageWrite (s : State) (p ofs v : Nat) : State :=
  if p = pgMbox ∧ ofs = 0x040 ∧ v.testBit 16 ∧ ¬ s.locked then
    ((s.errHost (p * 4096 + ofs)).mboxBusy).set R.MBOX_RSP_TAG (bitsOf v 8 8)
  else s.pageAct p ofs (fun t => t.regWrite p ofs v)

/-! ### Table memory (R70, R83) -/

/-- The word is one of the active schedule's descriptor or of a bank it maps (R202). -/
def State.kernelUses (s : State) (x a : Nat) : Bool :=
  let uses (d : Nat) : Bool :=
    inRegion (schedBase x d) 0x100 a
      || (List.range (schedRegions s.mem x d + 1)).any (fun j =>
        inRegion (bankBase x (schedBank s.mem x d j)) 0x1000 a)
  uses (schedFor s.get x (s.modeCode x))
    || (decide (s.keState x = kRun) && uses (s.get (R.KE_ACTIVE_SCHED x)))

/-- The page that counts an ignored write of the table word at `a`; none when it may be written (R4,
R61, R70, R78, R202, R220, R433). -/
def State.tableShut (s : State) (a : Nat) : Option Nat :=
  if !s.locked || s.quarantine then some pgHost
  else if 0x01160000 ≤ a then some pgBoot
  else if 0x01150000 ≤ a then some pgHost
  else if a < 0x01100000 then
    let x := (a - 0x01000000) / 0x20000
    if s.keState x ≠ kOff ∧ s.kernelUses x a then some (pgKe x) else none
  else if a < 0x01110000 then
    let x := (a - 0x01100000) / 0x2000
    if s.cellState x ≠ csHusk then some (pgCell x) else none
  else if 0x01130000 ≤ a then
    let x := (a - 0x01130000) / 0x4000
    if s.captActive x ∧ s.get (R.SAP_CFG_MASK_MODE x) ≠ 0 then some (pgSap x) else none
  else none

/-- An ignored table write counted. -/
def State.tableCharge (s : State) (a p : Nat) : State := if p = pgHost then s.errHost a else s.err p

/-- A 32-bit word written to table memory: a read-modify-write of its 64-bit word (R83, R21). -/
def State.tableWrite (s : State) (a v : Nat) : State :=
  match s.tableShut a with
  | some p => s.tableCharge a p
  | none =>
    let n := s.badBits a
    if 2 ≤ n then (s.errHost a).recordDouble pgHost a
    else
      let s := if n = 1 then s.errHost a else s
      ({ s with mem := s.mem.putWord a v } : State).clearBad a

/-- Both halves of the 64-bit word at `a` stored together, without a read (R83). -/
def State.tablePair (s : State) (a w0 w1 : Nat) : State :=
  match s.tableShut a with
  | some p => (s.tableCharge a p).tableCharge (a + 4) p
  | none => ({ s with mem := (s.mem.putWord a w0).putWord (a + 4) w1 } : State).clearBad a

/-- A word written at an address with the host's rights (R82, R83). The low two bits of the address are
not used (R3). -/
def State.fabWrite (s : State) (addr w : Nat) : State :=
  let a := addr / 4 * 4
  let v := w % 2 ^ 32
  if a < 0x100000 then s.pageWrite (a / 4096) (a % 4096) v
  else if inRegion tableBase tableSize a then s.tableWrite a v
  else s.errHost a

/-! ### Bursts (R83, R364, R448) -/

/-- The words of a burst written in order: an incrementing burst stores both halves of a table word
together. -/
def State.burstWrite (fixed : Bool) : State → Nat → List Nat → State
  | s, _, [] => s
  | s, a, [w] => s.fabWrite a w
  | s, a, w0 :: w1 :: t =>
    if !fixed && inRegion tableBase tableSize a && decide (a % 8 = 0) then
      State.burstWrite fixed (s.tablePair a w0 w1) (a + 8) t
    else State.burstWrite fixed (s.fabWrite a w0) (if fixed then a else (a + 4) % 2 ^ 32) (w1 :: t)

/-- `n` words read in order through a port. -/
def State.burstRead (port : Nat) (fixed : Bool) : State → Nat → Nat → List Nat × State
  | s, _, 0 => ([], s)
  | s, a, n + 1 =>
    let (v, s) := s.fabRead port a
    let (l, s) := State.burstRead port fixed s (if fixed then a else (a + 4) % 2 ^ 32) n
    (v :: l, s)

/-- A word written through the host port, which serves nothing while the host PLL is not locked (R452). -/
def State.hostWrite (s : State) (a v : Nat) : State := if s.hostRuns then s.fabWrite a v else s

/-- Bits of the memories that have gone bad since they were last read: (address, number of bits). -/
def State.spoil (s : State) (l : List (Nat × Nat)) : State :=
  l.foldl (fun (t : State) e =>
    let w := e.1 / 8 * 8
    if e.2 ≠ 0 ∧ (inRegion tableBase tableSize w ∨ inRegion captBase captSize w
        ∨ inRegion logBase logSize w) then
      { t with ecc := t.ecc.insert w (min 2 (t.badBits w + e.2)) }
    else t) s

end Sys2Proof.Machine
end

