-- ==== Sys2Proof/Machine/HostPort.lean ====
section
/-! DEFINITION. The commands of the host port, of the debug port and of remote access, the host's commands
on the queues, and the deadlines (R75, R76, R95, R363 to R366, R370 to R383, R446 to R467). -/

namespace Sys2Proof.Machine

/-! ### Quad-SPI transactions -/

/-- The command byte of a transaction (R448). -/
def spiCommand (write fixed crc : Bool) (count : Nat) : Nat :=
  (if write then 128 else 0) + (if fixed then 64 else 0) + (if crc then 32 else 0) + (count - 1) % 32

/-- The CRC-16 of a transaction: command byte, address and words, in wire order (R451). -/
def spiCrc (write fixed crc : Bool) (addr : Nat) (words : List Nat) (count : Nat) : Nat :=
  crc16 (spiCommand write fixed crc count :: bytesBE 4 addr ++ words.flatMap (bytesBE 4))

/-- Marker of an accepted transaction (R447). -/
def spiAccepted : Nat := 0xA
/-- Marker of a refused transaction, or of a failed CRC (R447). -/
def spiRefused : Nat := 0x5

/-- A transaction without CRC is refused (R450). -/
def State.spiRefuses (s : State) (crc : Bool) : Bool := s.flag R.HOST_SPI_CFG_CRC_REQ && !crc

/-- A refused transaction counted (R450). -/
def State.spiRefuse (s : State) : State := (s.inc R.HOST_SPI_STAT_REFUSED).irq pgHost 2

/-- QSPI_READ (R447 to R451): `count` + 1 words read from `addr` on; `flips` are the bits of the memories that
have gone bad since they were last read. The marker, the words and the CRC stand in `hostOut`. -/
def execQspiRead (dt : Nat) (fixed crc : Bool) (count : Fin 32) (addr : Nat) (flips : List (Nat × Nat))
    (s : State) : Host.Outcome State Fault Refusal :=
  let s := (s.elapse dt).spoil flips
  if !s.hostRuns then .next s
  else if s.spiRefuses crc then .next { s.spiRefuse with hostOut := [spiRefused] }
  else
    let (l, s) := State.burstRead 0 fixed s (addr % 2 ^ 32) (count.val + 1)
    let tail := if crc then [spiCrc false fixed crc (addr % 2 ^ 32) l (count.val + 1)] else []
    .next { s with hostOut := spiAccepted :: l ++ tail }

/-- QSPI_WRITE (R447 to R451): 1 to 32 words written from `addr` on; `sum` is the CRC that the host sends. A
transaction with a CRC answers with its marker. -/
def execQspiWrite (dt : Nat) (fixed crc : Bool) (addr : Nat) (words : List Nat) (sum : Fin 65536)
    (s : State) : Host.Outcome State Fault Refusal :=
  let s := s.elapse dt
  let a := addr % 2 ^ 32
  if !s.hostRuns || words.isEmpty || decide (32 < words.length) then .next s
  else if s.spiRefuses crc then .next { s.spiRefuse with hostOut := [] }
  else if crc ∧ spiCrc true fixed crc a words words.length ≠ sum.val then
    .next { (s.inc R.HOST_SPI_STAT_CRC_ERRS).irq pgHost 0 with hostOut := [spiRefused] }
  else
    .next { State.burstWrite fixed s a words with hostOut := if crc then [spiAccepted] else [] }

/-- QSPI_ABORT (R449, R452): `HCS_N` rises before the transaction ends. Of a write without CRC the words
whose last nibble arrived are applied; of a read the `count` words sent took effect. -/
def execQspiAbort (dt : Nat) (write fixed crc : Bool) (addr : Nat) (words : List Nat) (count : Fin 33)
    (s : State) : Host.Outcome State Fault Refusal :=
  let s := s.elapse dt
  let a := addr % 2 ^ 32
  if !s.hostRuns then .next s
  else
    let refused := s.spiRefuses crc
    let s := if refused then s.spiRefuse else s
    let s : State :=
      if refused then { s with hostOut := [] }
      else if write then
        { (if crc then s else State.burstWrite fixed s a (words.take 32)) with hostOut := [] }
      else
        let (l, t) := State.burstRead 0 fixed s a count.val
        { t with hostOut := l }
    .next ((s.inc R.HOST_SPI_STAT_ABORTS).irq pgHost 1)

/-! ### Debug port -/

/-- DEBUG_ACCESS (R75, R76): a read, a write, or a read of Heartwood's private SRAM through the debug port.
What the SRAM holds is open. -/
def execDebugAccess (dt : Nat) (write sram : Bool) (addr w : Nat) (s : State) :
    Host.Outcome State Fault Refusal :=
  let s := s.elapse dt
  let level := s.get R.BOOT_DEBUG_CFG_LEVEL
  if s.sys.inReset ∨ ¬ s.locked ∨ level = 0 then .next s
  else if write then (if level = 2 ∧ ¬ sram then .next (s.fabWrite (addr % 2 ^ 32) w) else .next s)
  else if sram then
    if level = 2 then
      let (v, s) := s.fresh
      .next { s with hostOut := [v % 2 ^ 32] }
    else .next s
  else
    let (v, s) := s.fabRead 1 (addr % 2 ^ 32)
    .next { s with hostOut := [v] }

/-! ### Remote access -/

/-- REMOTE_ACCESS_GO (R363): a write of 1 to `RA_CTRL.GO`, with `WRITE` and `COUNT`. -/
def execRemoteAccessGo (dt : Nat) (write : Bool) (count : Fin 8) (s : State) :
    Host.Outcome State Fault Refusal :=
  .next ((s.elapse dt).hostAct pgVodor 0x068
    (fun t => t.vodorWrite 0x068 (1 + (if write then 2 else 0) + 4 * count.val)))

/-- The window or page in which an address lies (R82). -/
def fabricPlace (a : Nat) : Option Nat :=
  if a < 0x100000 then some (a / 4096)
  else if inRegion tableBase tableSize a then some 256
  else if inRegion captBase captSize a then some 257
  else if inRegion logBase logSize a then some 258
  else none

/-- The code with which a request is turned away (R365, R366); none when it is carried out. -/
def State.remoteCode (s : State) (d : Delivery) : Option Nat :=
  let wr := (d.payload.getD 2 0).testBit 0
  let n := d.payload.getD 3 0
  let a := leAt d.payload 8 4
  if !s.locked then some 3
  else if !s.flag (if wr then R.VODOR_RA_CFG_WRITE_EN else R.VODOR_RA_CFG_READ_EN) then some 1
  else if n = 0 ∨ 8 < n ∨ a % 4 ≠ 0 ∨ fabricPlace a = none ∨ fabricPlace a ≠ fabricPlace (a + 4 * (n - 1))
      ∨ (1 < n ∧ s.get R.VODOR_RING_CFG_VER_EN = 1) ∨ (wr ∧ d.payload.length < 12 + 4 * n) then some 2
  else none

/-- The answer to a request: through the ring, or at once to this node's own host (R364, R366). -/
def State.remoteReply (s : State) (d : Delivery) (code : Nat) (data : List Nat) : State :=
  if d.src = s.addr then
    if s.flag R.VODOR_RA_STAT_BUSY ∧ leAt d.payload 4 2 = s.ring.raTag then s.raFinish code data else s
  else s.raAnswer d code data

/-- REMOTE_REQUEST (R365, R366): the oldest request held is carried out on this node's register fabric and
answered. -/
def execRemoteRequest (dt : Nat) (s : State) : Host.Outcome State Fault Refusal :=
  let s := s.elapse dt
  if s.ringRuns then
    match s.takeInbox (fun d => decide (d.kind = 2) && decide (d.ptype = 0x0D10)) with
    | none => .next s
    | some (d, s) =>
      let n := d.payload.getD 3 0
      let a := leAt d.payload 8 4
      match s.remoteCode d with
      | some c => .next (s.remoteReply d c [])
      | none =>
        if (d.payload.getD 2 0).testBit 0 then
          let l := (List.range n).map (fun i => leAt d.payload (12 + 4 * i) 4)
          .next ((State.burstWrite false s a l).remoteReply d 0 [])
        else
          let (l, s) := State.burstRead 2 false s a n
          .next (s.remoteReply d 0 l)
  else .next s

/-! ### Queues -/

/-- QUEUE_ENABLE (R370): `QCFGq` written with `EN` = 1. -/
def execQueueEnable (dt : Nat) (q : Fin 32) (base : Fin 512) (size : Fin 1024) (tx : Bool) (prio : Fin 8)
    (notify : Bool) (s : State) : Host.Outcome State Fault Refusal :=
  let v := base.val + 2 ^ 9 * size.val + (if tx then 2 ^ 19 else 0) + 2 ^ 20 * prio.val
    + (if notify then 2 ^ 23 else 0) + 2 ^ 24
  .next ((s.elapse dt).hostAct pgPod (0x100 + 0x10 * q.val) (fun t => t.qcfgWrite q v))

/-- QUEUE_DISABLE (R383): `QCFGq.EN` cleared, the other fields as they are. -/
def execQueueDisable (dt : Nat) (q : Fin 32) (s : State) : Host.Outcome State Fault Refusal :=
  .next ((s.elapse dt).hostAct pgPod (0x100 + 0x10 * q.val)
    (fun t => t.qcfgWrite q (t.wordOf pgPod (0x100 + 0x10 * q.val) % 2 ^ 24)))

/-- QUEUE_FLUSH (R382): ones written to `FLUSH`. -/
def execQueueFlush (dt : Nat) (mask : Nat) (s : State) : Host.Outcome State Fault Refusal :=
  .next ((s.elapse dt).hostAct pgPod 0x040 (fun t => t.flushWrite (mask % 2 ^ 32)))

/-- QDATA_POP (R376): a host read of `QDATAq`. -/
def execQdataPop (dt : Nat) (q : Fin 32) (s : State) : Host.Outcome State Fault Refusal :=
  let s := s.elapse dt
  if s.hostRuns then
    let (v, s) := s.fabRead 0 (pgPod * 4096 + 0x104 + 0x10 * q.val)
    .next { s with hostOut := [v] }
  else .next s

/-- QDATA_PUSH (R378): a host write of `QDATAq`. -/
def execQdataPush (dt : Nat) (q : Fin 32) (w : Nat) (s : State) : Host.Outcome State Fault Refusal :=
  .next ((s.elapse dt).hostAct pgPod (0x104 + 0x10 * q.val) (fun t => t.qdataWrite q (w % 2 ^ 32)))

/-! ### Gylen buffer, mailbox, PHY management, save port -/

/-- GYLEN_HOST_LOAD (R417): `HTX_CTRL` written with `GO` = 1. -/
def execGylenHostLoad (dt : Nat) (conn : Fin 16) (len : Fin 64) (s : State) :
    Host.Outcome State Fault Refusal :=
  .next ((s.elapse dt).hostAct pgGylen 0x244
    (fun t => t.gylenWrite 0x244 (conn.val + 256 * len.val + 0x10000)))

/-- MAILBOX_GO (R61, R453): `MBOX.REQ` written with `GO` = 1. -/
def execMailboxGo (dt : Nat) (service tag : Fin 256) (s : State) : Host.Outcome State Fault Refusal :=
  .next ((s.elapse dt).hostWrite (pgMbox * 4096 + 0x040) (service.val + 256 * tag.val + 0x10000))

/-- MDIO_COMMAND (R460): `MDIO_CMD` written with `GO` = 1. -/
def execMdioCommand (dt : Nat) (data : Fin 65536) (reg phy : Fin 32) (write : Bool) (s : State) :
    Host.Outcome State Fault Refusal :=
  let v := data.val + 2 ^ 16 * reg.val + 2 ^ 21 * phy.val + (if write then 2 ^ 26 else 0) + 2 ^ 27
  .next ((s.elapse dt).hostAct pgEth 0x078 (fun t => t.ethWrite 0x078 v))

/-- SAVE_HOST_READ (R467): `HOST_CTRL` written with `GO` = 1. -/
def execSaveHostRead (dt : Nat) (count : Fin 64) (s : State) : Host.Outcome State Fault Refusal :=
  .next ((s.elapse dt).hostAct pgSave 0x048 (fun t => t.saveWrite 0x048 (count.val + 0x100)))

/-! ### Deadlines -/

/-- The beacon deadline (R31, R95, R355): a millisecond of the reference has passed without an accepted
beacon, once Canopy time has been locked. -/
def State.beaconMiss (s : State) : State :=
  if s.gridRuns ∧ s.flag R.CANOPY_STATUS_EVER_LOCKED ∧ s.canopyT.openAt + 2 ≤ s.canopy / 1000000 then
    match dlPair pgCanopy 0x060 with
    | none => s
    | some d =>
      let (s, esc) := s.dlMiss d
      let s := s.modCanopy (fun c => { c with openAt := c.openAt + 1 })
      if esc then s.enterHoldover else s
  else s

/-- DEADLINE_MISS (R95): the deadline whose `DL_LIMIT` stands at offset `ofs` of a page expires unmet. -/
def execDeadlineMiss (dt : Nat) (page : Fin 256) (ofs : Fin 4096) (s : State) :
    Host.Outcome State Fault Refusal :=
  let s := s.elapse dt
  let p : Nat := page
  let o : Nat := ofs
  if (dlPair p o).isNone then .next s
  else if p = pgCanopy then .next s.beaconMiss
  else if 0x08 ≤ p ∧ p ≤ 0x0C then .next (if s.sarRuns then s.sarMiss (p - 8) else s)
  else if 0x10 ≤ p ∧ p ≤ 0x17 then .next (if s.cellRuns (p - 0x10) then s.senseMiss (p - 0x10) else s)
  else if 0x28 ≤ p ∧ p ≤ 0x2F then .next (if s.cellRuns (p - 0x28) then s.keMiss (p - 0x28) else s)
  else if p = 0x40 ∨ p = 0x41 then .next (s.gridMiss (p - 0x40))
  else if p = pgGylen then
    let n := (o - 0x050) / 0x20
    .next (if !s.vodRuns then s
      else if s.gylExpired n then s.gylWatchdog n
      else if s.isProducer n && s.producerLate n then s.producerMiss n
      else s)
  else if p = pgMbox then
    let k := (o - 0x0D0) / 8
    .next (if s.sliceLate k then s.sliceMiss k else s)
  else .next s

end Sys2Proof.Machine
end

