-- ==== Sys2Proof/Machine/Registers.lean ====
section
/-! DEFINITION. The commands of the register pages' common registers and of table memory (R5, R83 to R96,
R113, R161). -/

namespace Sys2Proof.Machine

/-- REGISTER_WRITE (R5): a word written through the host port. -/
def execRegisterWrite (dt : Nat) (addr w : Nat) (s : State) : Host.Outcome State Fault Refusal :=
  .next ((s.elapse dt).hostWrite addr w)

/-- A read of one word of an SN pair through the host port (0) or the debug port (1), and its result. -/
def State.portRead (s : State) (port p ofs : Nat) : State :=
  let open_ := if port = 0 then s.hostRuns
    else !s.sys.inReset && s.locked && s.flag R.BOOT_DEBUG_CFG_LEVEL
  if open_ then
    let (v, s) := s.fabRead port (p * 4096 + ofs)
    { s with hostOut := [v] }
  else s

/-- The offset is the low word of an SN pair of the page. -/
def snIsLow (p ofs : Nat) : Bool := (snAt p ofs).any (fun r => decide (r.ofs = ofs))
/-- The offset is the high word of an SN pair of the page. -/
def snIsHigh (p ofs : Nat) : Bool := (snAt p ofs).any (fun r => decide (r.ofs + 4 = ofs))

/-- SN_LOW_READ (R89): a read of the low word of an SN pair through the host or the debug port. -/
def execSnLowRead (dt : Nat) (port : Fin 2) (page : Fin 256) (ofs : Fin 4096) (s : State) :
    Host.Outcome State Fault Refusal :=
  let s := s.elapse dt
  .next (if snIsLow page ofs then s.portRead port page ofs else s)

/-- SN_HIGH_READ (R89): a read of the high word of an SN pair through the host or the debug port. -/
def execSnHighRead (dt : Nat) (port : Fin 2) (page : Fin 256) (ofs : Fin 4096) (s : State) :
    Host.Outcome State Fault Refusal :=
  let s := s.elapse dt
  .next (if snIsHigh page ofs then s.portRead port page ofs else s)

/-- COMMIT_GO (R91): a write of 1 to `COMMIT.GO`. -/
def execCommitGo (dt : Nat) (page : Fin 256) (s : State) : Host.Outcome State Fault Refusal :=
  .next ((s.elapse dt).hostAct page 0x01C (fun t => if hasSH page then t.commitGo page else t))

/-- COMMIT_DISCARD (R92): a write of 1 to `COMMIT.DISCARD`. -/
def execCommitDiscard (dt : Nat) (page : Fin 256) (s : State) : Host.Outcome State Fault Refusal :=
  .next ((s.elapse dt).hostAct page 0x01C (fun t => if hasSH page then t.commitDiscard page else t))

/-- COMMIT_APPLY (R91): the update point of a page whose commits do not wait for an event of its block: a
stopped Kernel, a sensing page without samples, 2 of the island's cycles or more after the `GO` or the end
of the update lock; an idle converter. The other pages apply theirs at a carrier zero or peak, a sample
centre, a sequence boundary, or a grid cycle. A `DISCARD` of the same cycle comes too late (R92). -/
def execCommitApply (dt : Nat) (page : Fin 256) (s : State) : Host.Outcome State Fault Refusal :=
  let s := s.elapse dt
  let p : Nat := page
  let t := s.undrop p
  if s.pageRuns p then
    if 0x08 ≤ p ∧ p ≤ 0x0C then .next (s.commitKick p)
    else if t.commitWaits p ∧ ¬ t.commitFresh p 2 then
      if 0x10 ≤ p ∧ p ≤ 0x17 ∧ ¬ s.senseJudged (p - 0x10) then .next (t.senseCommit (p - 0x10))
      else if 0x28 ≤ p ∧ p ≤ 0x2F ∧ s.keState (p - 0x28) = kOff then
        .next (if t.keCommitOk (p - 0x28) then t.doCommit p else t.refuseCommit p)
      else .next s
    else .next s
  else .next s

/-- UPDATE_LOCK_CLEAR (R92): `CTRL.UPDATE_LOCK` is cleared. -/
def execUpdateLockClear (dt : Nat) (page : Fin 256) (s : State) : Host.Outcome State Fault Refusal :=
  .next ((s.elapse dt).hostAct page 0x008 (fun t => if hasSH page then t.updateLock page false else t))

/-- ERR_COUNT_CLEAR (R85): a write of 1 to `ERR_COUNT.CLEAR`. -/
def execErrCountClear (dt : Nat) (page : Fin 256) (s : State) : Host.Outcome State Fault Refusal :=
  .next ((s.elapse dt).hostAct page 0x024 (fun t => t.errClear page))

/-- DL_COUNT_CLEAR (R94): a write of 1 to the `CLEAR` of the `DL_COUNT` at offset `ofs`. -/
def execDlCountClear (dt : Nat) (page : Fin 256) (ofs : Fin 4096) (s : State) :
    Host.Outcome State Fault Refusal :=
  let s := s.elapse dt
  match dlPair page (ofs.val - 4) with
  | some d => .next (s.hostAct page ofs (fun t => t.dlClear d))
  | none => .next s

/-- IRQ_STAT_CLEAR (R96): ones written to `IRQ_STAT`. -/
def execIrqStatClear (dt : Nat) (page : Fin 256) (mask : Fin 4294967296) (s : State) :
    Host.Outcome State Fault Refusal :=
  .next ((s.elapse dt).hostAct page 0x018 (fun t => t.irqClear page mask))

/-- COUNTER_CLEAR (R161 and the chapters' CNT_CLR): a write of 1 to `CNT_CLR.GO`. -/
def execCounterClear (dt : Nat) (page : Fin 256) (s : State) : Host.Outcome State Fault Refusal :=
  let s := s.elapse dt
  .next (if cntClrOfs page = 0 then s
    else s.hostAct page (cntClrOfs page) (fun t => t.counterClear page))

/-- TRIG_NOW (R113): a write of 1 to `TRIG_NOW.GO` of trigger unit `u`: sensing page u, or converter
u - 8. -/
def execTrigNow (dt : Nat) (u : Fin 13) (s : State) : Host.Outcome State Fault Refusal :=
  let s := s.elapse dt
  let k : Nat := u
  .next (if k < 8 then s.hostAct (pgSense k) 0x05C (fun t => t.senseWrite k 0x05C 1)
    else s.hostAct (pgSar (k - 8)) 0x050 (fun t => t.sarWrite (k - 8) 0x050 1))

/-- SD_CLK_WRITE (R101): a write of `SENSEx.SD_CLK`, after the bits captured until then. -/
def execSdClkWrite (dt : Nat) (x : Fin 8) (bits : List (Fin 64)) (w : Nat) (s : State) :
    Host.Outcome State Fault Refusal :=
  .next (((s.elapse dt).feed x bits).hostAct (pgSense x) 0x040 (fun t => t.sdClkWrite x (w % 2 ^ 32)))

/-- CMP_CFG_WRITE (R112): a write of `CMPm_THR` or `CMPm_CFG`, after the bits captured until then. -/
def execCmpCfgWrite (dt : Nat) (x : Fin 8) (bits : List (Fin 64)) (m : Fin 12) (thr : Bool) (w : Nat)
    (s : State) : Host.Outcome State Fault Refusal :=
  let s := (s.elapse dt).feed x bits
  let ofs := 0x080 + 8 * m.val + (if thr then 0 else 4)
  .next (s.hostAct (pgSense x) ofs (fun t => t.senseWrite x ofs (w % 2 ^ 32)))

/-- TABLE_WINDOW_WRITE (R83): a 32-bit host write to table memory; `flips` bits of the 64-bit word have
gone bad since it was last read. -/
def execTableWindowWrite (dt : Nat) (addr w : Nat) (flips : Fin 3) (s : State) :
    Host.Outcome State Fault Refusal :=
  let s := s.elapse dt
  let a := addr / 4 * 4
  .next (if s.hostRuns ∧ inRegion tableBase tableSize a then
    (s.spoil [(a, flips.val)]).tableWrite a (w % 2 ^ 32) else s)

/-- TABLE_PAIR_WRITE (R83): a burst that writes both halves of the 64-bit table word at `addr`. -/
def execTablePairWrite (dt : Nat) (addr w0 w1 : Nat) (s : State) :
    Host.Outcome State Fault Refusal :=
  let s := s.elapse dt
  let a := addr / 8 * 8
  .next (if s.hostRuns ∧ inRegion tableBase tableSize a then
    s.tablePair a (w0 % 2 ^ 32) (w1 % 2 ^ 32) else s)

end Sys2Proof.Machine
end

