-- ==== Sys2Proof/Machine/SafetyFns.lean ====
section
/-! DEFINITION. The commands of the safety functions (R388 to R407). -/

namespace Sys2Proof.Machine

/-- The channel's clock runs: Burl's out of reset, Heartwood's with its island. -/
def State.sideRuns (s : State) (c : Nat) : Bool := if c = 0 then !s.sys.inReset else s.hwRuns

/-- The time for which a new level of a channel must hold before it counts (R392, R399): `TP_TOL` for the
off-going edge of a light-curtain pair, else `FILT`. Burl's clock may run 3 % fast. -/
def State.inputTime (s : State) (c p : Nat) (on : Bool) : Nat :=
  let curtain := (List.range 8).find? (fun f =>
    decide (s.get (R.SAFE_FUNC_TYPE f) = 4) && decide (s.get (R.SAFE_FUNC_PAIR_A f) = p))
  let n := match curtain with
    | some f => if on then s.get R.SAFE_IN_CFG_FILT else s.get (R.SAFE_FTIME_TP_TOL f)
    | none => s.get R.SAFE_IN_CFG_FILT
  let t := us (100 * n)
  if c = 0 then t * 97 / 100 else t

/-- The filtered channel can take the level: it differs from the last one, which the filter gave at least its
time ago. -/
def State.inputFiltered (s : State) (c p : Nat) (b on : Bool) : Bool :=
  match (s.side c).inAt.getD (if b then 12 + p else p) none with
  | none => true
  | some t => decide (t + s.inputTime c p on ≤ s.now)

/-- The level that the filtered channel has; Heartwood's includes what its record holds (R388). -/
def State.inputLevel (s : State) (c p : Nat) (b : Bool) : Bool :=
  let now := if b then (s.side c).inB.testBit p else (s.side c).inA.testBit p
  if c = 0 then now
  else s.safe.record.foldl (fun v e => if e.1 = p ∧ e.2.1 = b then e.2.2 else v) now

/-- A new level of a filtered channel (R388, R392): Burl evaluates it at once, Heartwood's sampler records it
for the next safety slice. -/
def State.inputChange (s : State) (c p : Nat) (b on : Bool) : State :=
  let s := s.setSide c (fun d => { d with inAt := d.inAt.set (if b then 12 + p else p) (some s.now) })
  if c = 0 then (s.putInput 0 p b on).evalBurl
  else s.modSafe (fun d => { d with record := d.record ++ [(p, b, on)] })

/-- SAFETY_INPUT_CHANGE (R392 to R399): in one channel (0 Burl, 1 Heartwood) a filtered input is off
(0) or on (1), or a light curtain's pulse was tolerated (2). `b` names channel B of the pair. -/
def execSafetyInputChange (dt : Nat) (c : Fin 2) (p : Fin 12) (b : Bool) (ev : Fin 3) (s : State) :
    Host.Outcome State Fault Refusal :=
  let s := s.elapse dt
  if s.sideRuns c then
    if ev = 2 then
      .next ((List.range 8).foldl
        (fun t f =>
          if t.get (R.SAFE_FUNC_TYPE f) = 4 ∧ t.get (R.SAFE_FUNC_PAIR_A f) = p.val then
            t.setFn c f (fun d =>
              if b then { d with pulseB := t.now } else { d with pulseA := t.now })
          else t) s)
    else
      let on : Bool := decide (ev = 1)
      .next (if s.inputLevel c p b = on ∨ ¬ s.inputFiltered c p b on then s else s.inputChange c p b on)
  else .next s

/-- DISCREPANCY_FAULT (R393): a pair of the function has been in DISAGREE longer than `DISC`. -/
def execDiscrepancyFault (dt : Nat) (c : Fin 2) (f : Fin 8) (s : State) :
    Host.Outcome State Fault Refusal :=
  let s := s.elapse dt
  let lim := ms (5 * s.get (R.SAFE_FUNC_DISC f))
  let long := (s.fnPairs f).any (fun p =>
    match (s.side c).disSince.getD p none with
    | some t => decide (t + lim < s.now)
    | none => false)
  let st := (s.fn c f).st
  if s.sideRuns c ∧ long ∧ st ≠ .unused ∧ st ≠ .fault then
    .next ((s.fnFault c f true).evalSide c)
  else .next s

/-- STOP_DELAY_END (R394): `STOP_MS` ends in STOPPING; Burl's clock may run 3 % fast. -/
def execStopDelayEnd (dt : Nat) (c : Fin 2) (f : Fin 8) (s : State) :
    Host.Outcome State Fault Refusal :=
  let s := s.elapse dt
  let d := s.fn c f
  let len := ms (s.get (R.SAFE_FTIME_STOP_MS f))
  let least := if c = 0 then len * 97 / 100 else len
  if s.sideRuns c ∧ d.st = .stopping ∧ d.since + least ≤ s.now then
    .next ((s.fnEnter c f .stopped).evalSide c)
  else .next s

/-- CHANNEL_DIVERGENCE (R390): the channels have disagreed on PERMIT for longer than 20 ms; both put
the function in FAULT. -/
def execChannelDivergence (dt : Nat) (f : Fin 8) (s : State) : Host.Outcome State Fault Refusal :=
  let s := s.elapse dt
  let long : Bool := match s.safe.divSince.getD f none with
    | some t => decide (t + ms 20 < s.now)
    | none => false
  if long ∧ s.sideRuns 0 then
    let s := if (s.fn 0 f).st = .fault then s else s.fnFault 0 f false
    let s := if (s.fn 1 f).st = .fault then s else s.fnFault 1 f false
    let s := (s.setMaskBit R.SAFE_DIVERGE_FUNC f).irqLog pgSafe 6 2 1
    let s := s.modSafe (fun d => { d with divSince := d.divSince.set f none })
    .next s.evalBurl
  else .next s

/-- CURTAIN_PULSE_MISSING (R399): a channel of an ON pair has shown no tolerated pulse for
`TP_EXP` × 100 ms. -/
def execCurtainPulseMissing (dt : Nat) (c : Fin 2) (f : Fin 8) (s : State) :
    Host.Outcome State Fault Refusal :=
  let s := s.elapse dt
  let d := s.fn c f
  let exp := s.get (R.SAFE_FTIME_TP_EXP f)
  let missing : Bool := match d.onSince with
    | some t => decide (max t (min d.pulseA d.pulseB) + ms (100 * exp) ≤ s.now)
    | none => false
  if s.sideRuns c ∧ s.get (R.SAFE_FUNC_TYPE f) = 4 ∧ exp ≠ 0 ∧ missing ∧ d.st ≠ .unused
      ∧ d.st ≠ .fault then
    .next ((s.fnFault c f true).evalSide c)
  else .next s

/-- TWOHAND_LATE (R398): the second pair of a two-hand function is not ON in time. -/
def execTwohandLate (dt : Nat) (c : Fin 2) (f : Fin 8) (s : State) :
    Host.Outcome State Fault Refusal :=
  let s := s.elapse dt
  let d := s.fn c f
  let late : Bool := match d.first with
    | some t => decide (t + handTime c < s.now)
    | none => false
  if s.sideRuns c ∧ s.get (R.SAFE_FUNC_TYPE f) = 3 ∧ d.st = .stopped ∧ d.rearmed ∧ late then
    .next (s.handsLate c f)
  else .next s

/-- SRST_IN_RISE (R401): the measurement of a reset pulse starts. -/
def execSrstInRise (dt : Nat) (s : State) : Host.Outcome State Fault Refusal :=
  let s := s.elapse dt
  match s.safe.srstRise with
  | some _ => .next s
  | none => .next (if s.sys.inReset then s else s.modSafe (fun d => { d with srstRise := some s.now }))

/-- An accepted reset pulse (R401, R402, R406). -/
def State.acceptReset (s : State) : State :=
  let s := [0, 1].foldl
    (fun t c => (List.range 8).foldl
      (fun u f => if (u.fn c f).st = .ready ∧ u.sideRuns c then u.fnEnter c f .permit else u) t) s
  let s := (List.range 4).foldl
    (fun t n =>
      let held : Bool := match (t.out n).lowSince with
        | some u => decide (u + secs 1 ≤ t.now)
        | none => false
      if held then t.putMaskBit R.SAFE_OUT_STAT_FAULT n false else t) s
  (s.setB R.SAFE_RST_STAT_ACCEPTED true).evalBurl

/-- RESET_PULSE (R401, R402, R406): `SRST_IN` falls. `burlMs` is the width Burl measured, held within
the 3 % of its oscillator; Heartwood measures the true width. -/
def execResetPulse (dt : Nat) (burlMs : Nat) (s : State) : Host.Outcome State Fault Refusal :=
  let s := s.elapse dt
  match s.safe.srstRise with
  | none => .next s
  | some t =>
    let w := s.now - t
    let b := min (max burlMs (w * 97 / 100 / ms 1)) (ceilDiv (w * 103) (100 * ms 1))
    let s := s.modSafe (fun d => { d with srstRise := none })
    if s.sys.inReset then .next s
    else
      let s := s.setSat R.SAFE_RST_STAT_WIDTH_MS b
      let short := decide (b < 100) || decide (w < ms 100)
      let long := decide (2000 < b) || decide (secs 2 < w)
      if short then
        .next (((s.setB R.SAFE_RST_STAT_SHORT true).setB R.SAFE_RST_STAT_ACCEPTED false).irq pgSafe 5)
      else if long then
        .next (((s.setB R.SAFE_RST_STAT_LONG true).setB R.SAFE_RST_STAT_ACCEPTED false).irq pgSafe 5)
      else .next s.acceptReset

/-- OUTPUT_READBACK_FAULT (R404): the readbacks of pair `n` read `rbA`, `rbB`, and one has differed
from its ball for longer than `RB_US`. On a pair that is faulty already it shows the levels only. -/
def execOutputReadbackFault (dt : Nat) (n : Fin 4) (rbA rbB : Bool) (s : State) :
    Host.Outcome State Fault Refusal :=
  let s := s.elapse dt
  let o := s.out n
  let show_ (s : State) (a b : Bool) : State :=
    let s := (s.putMaskBit R.SAFE_OUT_STAT_RB_A n a).putMaskBit R.SAFE_OUT_STAT_RB_B n b
    s.setOut n (fun d => { d with
      lowSince := if a || b then none else (match d.lowSince with | some t => some t | none => some s.now) })
  if s.sys.inReset then .next s
  else if (s.get R.SAFE_OUT_STAT_FAULT).testBit n then .next (show_ s rbA rbB)
  else if (rbA ≠ o.soA ∨ rbB ≠ o.soB) ∧ o.changedAt + us (s.get (R.SAFE_OUTCFG_RB_US n)) < s.now then
    .next ((show_ s rbA rbB).outFault n)
  else .next s

/-- TEST_PULSE_START (R405): the test of a pair that is on falls due; `SO_A_n` goes low. -/
def execTestPulseStart (dt : Nat) (n : Fin 4) (s : State) : Host.Outcome State Fault Refusal :=
  let s := s.elapse dt
  let o := s.out n
  if s.flag (R.SAFE_OUTCFG_TP_EN n) ∧ o.soA ∧ o.soB ∧ o.phase = .idle ∧ o.testDue ≤ s.now
      ∧ ¬ s.sys.inReset then
    let s := s.driveOut n false true
    let s := s.setOut n (fun d => { d with
      phase := .pulseA s.now, spoiled := false,
      testDue := s.now + secs (s.get (R.SAFE_OUTCFG_TP_PERIOD n)) })
    .next (s.showTest n)
  else .next s

/-- The end of a pulse: discarded after a demand for off, else judged (R405, R407). -/
def State.pulseEnd (s : State) (n : Nat) (last ok : Bool) : State :=
  let o := s.out n
  if o.spoiled then
    ((s.setOut n (fun d => { d with phase := .idle })).showTest n).outSync n
  else if ok then
    let s := s.driveOut n true true
    let s := if last then s.inc R.SAFE_CNT_B_TESTS else s
    (s.setOut n (fun d => { d with phase := if last then .idle else .between s.now })).showTest n
  else
    let s := s.setOut n (fun d => { d with phase := .idle })
    ((s.inc R.SAFE_CNT_B_TEST_FAILS).irq pgSafe 4).outFault n

/-- TEST_PULSE_END (R405, R407): a pulse has run its width; `ok` is the judgment of its readback. -/
def execTestPulseEnd (dt : Nat) (n : Fin 4) (ok : Bool) (s : State) :
    Host.Outcome State Fault Refusal :=
  let s := s.elapse dt
  let w := us (s.get (R.SAFE_OUTCFG_TP_WIDTH n))
  match (s.out n).phase with
  | .pulseA t => .next (if t + w ≤ s.now then s.pulseEnd n false ok else s)
  | .pulseB t => .next (if t + w ≤ s.now then s.pulseEnd n true ok else s)
  | .idle => .next s
  | .between _ => .next s

/-- TEST_PULSE_B_START (R405): 1 ms after the A pulse, `SO_B_n` goes low. -/
def execTestPulseBStart (dt : Nat) (n : Fin 4) (s : State) : Host.Outcome State Fault Refusal :=
  let s := s.elapse dt
  match (s.out n).phase with
  | .between t =>
    if t + ms 1 ≤ s.now then
      let s := s.driveOut n true false
      .next ((s.setOut n (fun d => { d with phase := .pulseB s.now })).showTest n)
    else .next s
  | _ => .next s

end Sys2Proof.Machine
end

