-- ==== Sys2Proof/Machine/Dispatch.lean ====
section
/-! DEFINITION. What each command does to everything but the queue: one arm per constructor, each a
direct call of that command's meaning. -/

namespace Sys2Proof.Machine

/-- The effect of a command (one arm per row of the command table). -/
def exec (i : Instr) (s : State) : Host.Outcome State Fault Refusal :=
  match i with
  | .registerWrite dt addr w => Sys2Proof.Machine.execRegisterWrite dt addr w s
  | .snLowRead dt port page ofs => Sys2Proof.Machine.execSnLowRead dt port page ofs s
  | .snHighRead dt port page ofs => Sys2Proof.Machine.execSnHighRead dt port page ofs s
  | .commitGo dt page => Sys2Proof.Machine.execCommitGo dt page s
  | .commitDiscard dt page => Sys2Proof.Machine.execCommitDiscard dt page s
  | .commitApply dt page => Sys2Proof.Machine.execCommitApply dt page s
  | .updateLockClear dt page => Sys2Proof.Machine.execUpdateLockClear dt page s
  | .errCountClear dt page => Sys2Proof.Machine.execErrCountClear dt page s
  | .dlCountClear dt page ofs => Sys2Proof.Machine.execDlCountClear dt page ofs s
  | .irqStatClear dt page mask => Sys2Proof.Machine.execIrqStatClear dt page mask s
  | .counterClear dt page => Sys2Proof.Machine.execCounterClear dt page s
  | .deadlineMiss dt page ofs => Sys2Proof.Machine.execDeadlineMiss dt page ofs s
  | .streamXingOverflow dt b tap => Sys2Proof.Machine.execStreamXingOverflow dt b tap s
  | .burlClockWindow dt bad => Sys2Proof.Machine.execBurlClockWindow dt bad s
  | .burlRcMeasure dt khz => Sys2Proof.Machine.execBurlRcMeasure dt khz s
  | .scrubWord dt addr flips => Sys2Proof.Machine.execScrubWord dt addr flips s
  | .aonCoarseLoad dt => Sys2Proof.Machine.execAonCoarseLoad dt s
  | .railGood dt r => Sys2Proof.Machine.execRailGood dt r s
  | .brownOutReset dt r => Sys2Proof.Machine.execBrownOutReset dt r s
  | .powerOnReset dt => Sys2Proof.Machine.execPowerOnReset dt s
  | .xtalGood dt => Sys2Proof.Machine.execXtalGood dt s
  | .xtalLoss dt => Sys2Proof.Machine.execXtalLoss dt s
  | .xtalLossReset dt => Sys2Proof.Machine.execXtalLossReset dt s
  | .pinReset dt => Sys2Proof.Machine.execPinReset dt s
  | .pinResetRelease dt => Sys2Proof.Machine.execPinResetRelease dt s
  | .testReset dt => Sys2Proof.Machine.execTestReset dt s
  | .testResetRelease dt => Sys2Proof.Machine.execTestResetRelease dt s
  | .watchdogExpiry dt => Sys2Proof.Machine.execWatchdogExpiry dt s
  | .watchdogReset dt => Sys2Proof.Machine.execWatchdogReset dt s
  | .resetRelease dt => Sys2Proof.Machine.execResetRelease dt s
  | .pllLock dt k => Sys2Proof.Machine.execPllLock dt k s
  | .pllLoss dt k => Sys2Proof.Machine.execPllLoss dt k s
  | .bootProtectionImage dt bytes back => Sys2Proof.Machine.execBootProtectionImage dt bytes back s
  | .bootTableImage dt bytes => Sys2Proof.Machine.execBootTableImage dt bytes s
  | .bootLock dt => Sys2Proof.Machine.execBootLock dt s
  | .tamperEvent dt n level => Sys2Proof.Machine.execTamperEvent dt n level s
  | .debugAccess dt write sram addr w => Sys2Proof.Machine.execDebugAccess dt write sram addr w s
  | .tableWindowWrite dt addr w flips => Sys2Proof.Machine.execTableWindowWrite dt addr w flips s
  | .tablePairWrite dt addr w0 w1 => Sys2Proof.Machine.execTablePairWrite dt addr w0 w1 s
  | .sdClkWrite dt x bits w => Sys2Proof.Machine.execSdClkWrite dt x bits w s
  | .cmpCfgWrite dt x bits m thr w => Sys2Proof.Machine.execCmpCfgWrite dt x bits m thr w s
  | .triggerEvent dt u cell kind age => Sys2Proof.Machine.execTriggerEvent dt u cell kind age s
  | .trigNow dt u => Sys2Proof.Machine.execTrigNow dt u s
  | .canopyTimerFire dt u => Sys2Proof.Machine.execCanopyTimerFire dt u s
  | .sampleCentre dt x bits => Sys2Proof.Machine.execSampleCentre dt x bits s
  | .inputLoss dt x n bits => Sys2Proof.Machine.execInputLoss dt x n bits s
  | .inputLossEnd dt x n bits => Sys2Proof.Machine.execInputLossEnd dt x n bits s
  | .inputFreeze dt x n bits => Sys2Proof.Machine.execInputFreeze dt x n bits s
  | .comparatorAssert dt x m bits => Sys2Proof.Machine.execComparatorAssert dt x m bits s
  | .comparatorRelease dt x m bits => Sys2Proof.Machine.execComparatorRelease dt x m bits s
  | .sarTriggerFire dt n => Sys2Proof.Machine.execSarTriggerFire dt n s
  | .sarConversionDone dt n nv => Sys2Proof.Machine.execSarConversionDone dt n nv s
  | .plausMissing dt p => Sys2Proof.Machine.execPlausMissing dt p s
  | .sarPassEnd dt n => Sys2Proof.Machine.execSarPassEnd dt n s
  | .calRequest dt n => Sys2Proof.Machine.execCalRequest dt n s
  | .calPeriodic dt n => Sys2Proof.Machine.execCalPeriodic dt n s
  | .calDone dt n => Sys2Proof.Machine.execCalDone dt n s
  | .roverTimeout dt n => Sys2Proof.Machine.execRoverTimeout dt n s
  | .carrierZero dt x => Sys2Proof.Machine.execCarrierZero dt x s
  | .carrierPeak dt x => Sys2Proof.Machine.execCarrierPeak dt x s
  | .idealEdge dt x y => Sys2Proof.Machine.execIdealEdge dt x y s
  | .scheduledSwitchOff dt x y high => Sys2Proof.Machine.execScheduledSwitchOff dt x y high s
  | .scheduledSwitchOn dt x y high => Sys2Proof.Machine.execScheduledSwitchOn dt x y high s
  | .bootstrapRefresh dt x y => Sys2Proof.Machine.execBootstrapRefresh dt x y s
  | .refreshEnd dt x y => Sys2Proof.Machine.execRefreshEnd dt x y s
  | .shootThrough dt x y => Sys2Proof.Machine.execShootThrough dt x y s
  | .pwmDisable dt x => Sys2Proof.Machine.execPwmDisable dt x s
  | .pwmEnable dt x => Sys2Proof.Machine.execPwmEnable dt x s
  | .faultSourceActive dt x n => Sys2Proof.Machine.execFaultSourceActive dt x n s
  | .groupWaitExpiry dt x g => Sys2Proof.Machine.execGroupWaitExpiry dt x g s
  | .groupRelease dt x g => Sys2Proof.Machine.execGroupRelease dt x g s
  | .groupWindowClose dt x g => Sys2Proof.Machine.execGroupWindowClose dt x g s
  | .latchClear dt x mask => Sys2Proof.Machine.execLatchClear dt x mask s
  | .scQualify dt x w => Sys2Proof.Machine.execScQualify dt x w s
  | .scStuck dt x w => Sys2Proof.Machine.execScStuck dt x w s
  | .rdyNotReady dt x y => Sys2Proof.Machine.execRdyNotReady dt x y s
  | .rdyBlankEnd dt x => Sys2Proof.Machine.execRdyBlankEnd dt x s
  | .tripInput dt n => Sys2Proof.Machine.execTripInput dt n s
  | .bypFbChange dt x level => Sys2Proof.Machine.execBypFbChange dt x level s
  | .bypOpenCheckExpiry dt x => Sys2Proof.Machine.execBypOpenCheckExpiry dt x s
  | .bypCloseCheckExpiry dt x => Sys2Proof.Machine.execBypCloseCheckExpiry dt x s
  | .kernelCompareWrite dt x => Sys2Proof.Machine.execKernelCompareWrite dt x s
  | .kernelPredictionDone dt x => Sys2Proof.Machine.execKernelPredictionDone dt x s
  | .scheduleValidationDone dt x => Sys2Proof.Machine.execScheduleValidationDone dt x s
  | .kernelEnable dt x => Sys2Proof.Machine.execKernelEnable dt x s
  | .kernelDisable dt x => Sys2Proof.Machine.execKernelDisable dt x s
  | .kernelTestStart dt x => Sys2Proof.Machine.execKernelTestStart dt x s
  | .kernelTestDone dt x pass => Sys2Proof.Machine.execKernelTestDone dt x pass s
  | .ge0SetDelivery dt x => Sys2Proof.Machine.execGe0SetDelivery dt x s
  | .cellJoin dt x => Sys2Proof.Machine.execCellJoin dt x s
  | .dcLinkQualify dt x => Sys2Proof.Machine.execDcLinkQualify dt x s
  | .joinKernelTimeout dt x => Sys2Proof.Machine.execJoinKernelTimeout dt x s
  | .cellLeave dt x => Sys2Proof.Machine.execCellLeave dt x s
  | .dcLinkLow dt x => Sys2Proof.Machine.execDcLinkLow dt x s
  | .epochUpdatePoint dt x => Sys2Proof.Machine.execEpochUpdatePoint dt x s
  | .curtOn dt x => Sys2Proof.Machine.execCurtOn dt x s
  | .curtOff dt x => Sys2Proof.Machine.execCurtOff dt x s
  | .shellDue dt x => Sys2Proof.Machine.execShellDue dt x s
  | .shellNow dt x => Sys2Proof.Machine.execShellNow dt x s
  | .shellBlockEnd dt x => Sys2Proof.Machine.execShellBlockEnd dt x s
  | .shellTimeout dt x => Sys2Proof.Machine.execShellTimeout dt x s
  | .shellCloseTimeout dt x => Sys2Proof.Machine.execShellCloseTimeout dt x s
  | .poPeriodEnd dt x => Sys2Proof.Machine.execPoPeriodEnd dt x s
  | .scanDue dt x => Sys2Proof.Machine.execScanDue dt x s
  | .scanNow dt x => Sys2Proof.Machine.execScanNow dt x s
  | .scanDwellEnd dt x => Sys2Proof.Machine.execScanDwellEnd dt x s
  | .gridCycle dt => Sys2Proof.Machine.execGridCycle dt s
  | .gridPllLock dt e => Sys2Proof.Machine.execGridPllLock dt e s
  | .gridPllUnlock dt e => Sys2Proof.Machine.execGridPllUnlock dt e s
  | .gridPllUnfreeze dt e => Sys2Proof.Machine.execGridPllUnfreeze dt e s
  | .armFrameReceived dt => Sys2Proof.Machine.execArmFrameReceived dt s
  | .cellReportReceived dt => Sys2Proof.Machine.execCellReportReceived dt s
  | .masterResign dt => Sys2Proof.Machine.execMasterResign dt s
  | .resignRecovery dt => Sys2Proof.Machine.execResignRecovery dt s
  | .xchkFail dt b => Sys2Proof.Machine.execXchkFail dt b s
  | .modeRampEnd dt => Sys2Proof.Machine.execModeRampEnd dt s
  | .excursionEnd dt c => Sys2Proof.Machine.execExcursionEnd dt c s
  | .sourceStaleTrip dt => Sys2Proof.Machine.execSourceStaleTrip dt s
  | .recoveryRampEnd dt => Sys2Proof.Machine.execRecoveryRampEnd dt s
  | .rtsWindowHeld dt => Sys2Proof.Machine.execRtsWindowHeld dt s
  | .tripClear dt => Sys2Proof.Machine.execTripClear dt s
  | .tripNow dt => Sys2Proof.Machine.execTripNow dt s
  | .islandIndication dt k => Sys2Proof.Machine.execIslandIndication dt k s
  | .voteWindowExpiry dt k => Sys2Proof.Machine.execVoteWindowExpiry dt k s
  | .islandClear dt => Sys2Proof.Machine.execIslandClear dt s
  | .activeEpochBoundary dt => Sys2Proof.Machine.execActiveEpochBoundary dt s
  | .actSuspend dt => Sys2Proof.Machine.execActSuspend dt s
  | .rtBlockEnd dt => Sys2Proof.Machine.execRtBlockEnd dt s
  | .transferTripFrame dt => Sys2Proof.Machine.execTransferTripFrame dt s
  | .meterCycleEnd dt => Sys2Proof.Machine.execMeterCycleEnd dt s
  | .pulseStart dt n => Sys2Proof.Machine.execPulseStart dt n s
  | .pulseEnd dt n => Sys2Proof.Machine.execPulseEnd dt n s
  | .connectionCheck dt c => Sys2Proof.Machine.execConnectionCheck dt c s
  | .periodicSave dt => Sys2Proof.Machine.execPeriodicSave dt s
  | .saveVerify dt readback => Sys2Proof.Machine.execSaveVerify dt readback s
  | .heartbeatSave dt => Sys2Proof.Machine.execHeartbeatSave dt s
  | .pfwFall dt => Sys2Proof.Machine.execPfwFall dt s
  | .finalSaveDone dt => Sys2Proof.Machine.execFinalSaveDone dt s
  | .pfwResume dt => Sys2Proof.Machine.execPfwResume dt s
  | .meterRestore dt content => Sys2Proof.Machine.execMeterRestore dt content s
  | .saveAdopt dt => Sys2Proof.Machine.execSaveAdopt dt s
  | .energyBroadcast dt => Sys2Proof.Machine.execEnergyBroadcast dt s
  | .portAligned dt p => Sys2Proof.Machine.execPortAligned dt p s
  | .portAlignLoss dt p => Sys2Proof.Machine.execPortAlignLoss dt p s
  | .portRelock dt p => Sys2Proof.Machine.execPortRelock dt p s
  | .portDown dt p => Sys2Proof.Machine.execPortDown dt p s
  | .wrapEnd dt p => Sys2Proof.Machine.execWrapEnd dt p s
  | .helloSend dt p => Sys2Proof.Machine.execHelloSend dt p s
  | .helloReceived dt p => Sys2Proof.Machine.execHelloReceived dt p s
  | .noverRetry dt p => Sys2Proof.Machine.execNoverRetry dt p s
  | .frameReceive dt p bytes ending => Sys2Proof.Machine.execFrameReceive dt p bytes ending s
  | .delayRequest dt p => Sys2Proof.Machine.execDelayRequest dt p s
  | .delayMarkerReceived dt p mark answer ps => Sys2Proof.Machine.execDelayMarkerReceived dt p mark answer ps s
  | .insertion dt => Sys2Proof.Machine.execInsertion dt s
  | .beaconSend dt => Sys2Proof.Machine.execBeaconSend dt s
  | .beaconDecide dt => Sys2Proof.Machine.execBeaconDecide dt s
  | .becomeSource dt => Sys2Proof.Machine.execBecomeSource dt s
  | .canopySet dt => Sys2Proof.Machine.execCanopySet dt s
  | .remoteAccessGo dt write count => Sys2Proof.Machine.execRemoteAccessGo dt write count s
  | .remoteRequest dt => Sys2Proof.Machine.execRemoteRequest dt s
  | .remoteResponse dt => Sys2Proof.Machine.execRemoteResponse dt s
  | .remoteTimeout dt => Sys2Proof.Machine.execRemoteTimeout dt s
  | .queueEnable dt q base size tx prio notify => Sys2Proof.Machine.execQueueEnable dt q base size tx prio notify s
  | .queueDisable dt q => Sys2Proof.Machine.execQueueDisable dt q s
  | .qdataPop dt q => Sys2Proof.Machine.execQdataPop dt q s
  | .qdataPush dt q w => Sys2Proof.Machine.execQdataPush dt q w s
  | .podPacketSent dt q => Sys2Proof.Machine.execPodPacketSent dt q s
  | .parityCheckDone dt q bad => Sys2Proof.Machine.execParityCheckDone dt q bad s
  | .packetTimeout dt q => Sys2Proof.Machine.execPacketTimeout dt q s
  | .queueFlush dt mask => Sys2Proof.Machine.execQueueFlush dt mask s
  | .noticeSend dt page => Sys2Proof.Machine.execNoticeSend dt page s
  | .noticeHoldExpiry dt page => Sys2Proof.Machine.execNoticeHoldExpiry dt page s
  | .safetyInputChange dt c p b ev => Sys2Proof.Machine.execSafetyInputChange dt c p b ev s
  | .discrepancyFault dt c f => Sys2Proof.Machine.execDiscrepancyFault dt c f s
  | .stopDelayEnd dt c f => Sys2Proof.Machine.execStopDelayEnd dt c f s
  | .channelDivergence dt f => Sys2Proof.Machine.execChannelDivergence dt f s
  | .curtainPulseMissing dt c f => Sys2Proof.Machine.execCurtainPulseMissing dt c f s
  | .twohandLate dt c f => Sys2Proof.Machine.execTwohandLate dt c f s
  | .resetPulse dt burlMs => Sys2Proof.Machine.execResetPulse dt burlMs s
  | .outputReadbackFault dt n rbA rbB => Sys2Proof.Machine.execOutputReadbackFault dt n rbA rbB s
  | .testPulseStart dt n => Sys2Proof.Machine.execTestPulseStart dt n s
  | .testPulseEnd dt n ok => Sys2Proof.Machine.execTestPulseEnd dt n ok s
  | .testPulseBStart dt n => Sys2Proof.Machine.execTestPulseBStart dt n s
  | .gylenFrameReceived dt => Sys2Proof.Machine.execGylenFrameReceived dt s
  | .gylenWatchdogExpiry dt n => Sys2Proof.Machine.execGylenWatchdogExpiry dt n s
  | .gylenProduce dt n => Sys2Proof.Machine.execGylenProduce dt n s
  | .gylenHostLoad dt conn len => Sys2Proof.Machine.execGylenHostLoad dt conn len s
  | .captureArm dt x => Sys2Proof.Machine.execCaptureArm dt x s
  | .captureStop dt x => Sys2Proof.Machine.execCaptureStop dt x s
  | .captureTrigNow dt x => Sys2Proof.Machine.execCaptureTrigNow dt x s
  | .captureSet dt x => Sys2Proof.Machine.execCaptureSet dt x s
  | .logRecordSubmit dt page sev code data origin => Sys2Proof.Machine.execLogRecordSubmit dt page sev code data origin s
  | .logRecordWrite dt => Sys2Proof.Machine.execLogRecordWrite dt s
  | .logUnfreeze dt => Sys2Proof.Machine.execLogUnfreeze dt s
  | .qspiRead dt fixed crc count addr flips => Sys2Proof.Machine.execQspiRead dt fixed crc count addr flips s
  | .qspiWrite dt fixed crc addr words sum => Sys2Proof.Machine.execQspiWrite dt fixed crc addr words sum s
  | .qspiAbort dt write fixed crc addr words count => Sys2Proof.Machine.execQspiAbort dt write fixed crc addr words count s
  | .mailboxGo dt service tag => Sys2Proof.Machine.execMailboxGo dt service tag s
  | .identity dt => Sys2Proof.Machine.execIdentity dt s
  | .imageStatus dt => Sys2Proof.Machine.execImageStatus dt s
  | .logRead dt => Sys2Proof.Machine.execLogRead dt s
  | .keyProvision dt => Sys2Proof.Machine.execKeyProvision dt s
  | .unknownService dt => Sys2Proof.Machine.execUnknownService dt s
  | .fuseProgramDone dt back => Sys2Proof.Machine.execFuseProgramDone dt back s
  | .heartwoodFrame dt => Sys2Proof.Machine.execHeartwoodFrame dt s
  | .gylenSlice dt => Sys2Proof.Machine.execGylenSlice dt s
  | .housekeepingSlice dt => Sys2Proof.Machine.execHousekeepingSlice dt s
  | .mailboxSlice dt => Sys2Proof.Machine.execMailboxSlice dt s
  | .mdioCommand dt data reg phy write => Sys2Proof.Machine.execMdioCommand dt data reg phy write s
  | .mdioDone dt data => Sys2Proof.Machine.execMdioDone dt data s
  | .tunnelFrameReceived dt bytes => Sys2Proof.Machine.execTunnelFrameReceived dt bytes s
  | .ptpSync dt domain sender origin corr => Sys2Proof.Machine.execPtpSync dt domain sender origin corr s
  | .ptpAnnounce dt domain prio1 cls acc var prio2 gm steps sender => Sys2Proof.Machine.execPtpAnnounce dt domain prio1 cls acc var prio2 gm steps sender s
  | .ptpPdelayReq dt seq port => Sys2Proof.Machine.execPtpPdelayReq dt seq port s
  | .ptpPdelaySend dt => Sys2Proof.Machine.execPtpPdelaySend dt s
  | .ptpLoss dt => Sys2Proof.Machine.execPtpLoss dt s
  | .saveHostRead dt count => Sys2Proof.Machine.execSaveHostRead dt count s
  | .saveHostReadDone dt flash => Sys2Proof.Machine.execSaveHostReadDone dt flash s
  | .faultSourceInactive dt x n => Sys2Proof.Machine.execFaultSourceInactive dt x n s
  | .frameSent dt p => Sys2Proof.Machine.execFrameSent dt p s
  | .ownTc2Release dt => Sys2Proof.Machine.execOwnTc2Release dt s
  | .pfwRise dt => Sys2Proof.Machine.execPfwRise dt s
  | .srstInRise dt => Sys2Proof.Machine.execSrstInRise dt s
  | .ethLinkChange dt up => Sys2Proof.Machine.execEthLinkChange dt up s
  | .ptpPdelayResp dt seq t2 t3 corr => Sys2Proof.Machine.execPtpPdelayResp dt seq t2 t3 corr s

end Sys2Proof.Machine
end

