-- ==== Sys2Proof/Machine/Balls.lean ====
section
/-! DEFINITION. What the balls of the device show in a state (R34, R54): levels as functions of the state, and
how each output ball is driven. No command reads one. The gate outputs' demand is `State.gd` of the file
Channel. -/

namespace Sys2Proof.Machine

/-- `IRQ_N` is driven low (R97): `HOST.IRQ_CFG.EN` is 1 and some page has an interrupt pending. It is
released otherwise, and in reset (R54). -/
def State.irqLow (s : State) : Bool :=
  !s.sys.inReset && s.flag R.HOST_IRQ_CFG_EN && (List.range 256).any s.pagePending

/-- `SDC_x` carries the modulator clock (R54, R99); it is low otherwise. -/
def State.sdcRuns (s : State) (x : Nat) : Bool := s.sdRuns x

/-- Half a period of `BYP_HOLD_x` (R179), 20,000 cell-island cycles. -/
def holdHalf : Nat := 20000 * cellCycle

/-- The level of `BYP_HOLD_x` (R178, R179): a square wave whose first edge rises when the conditions come
to hold, low while they do not. -/
def State.bypHold (s : State) (x : Nat) : Bool :=
  s.flag (R.GUARD_BYP_STAT_HOLD_ON x) && s.mayHold x
    && decide ((s.now - (s.ch x).guard.holdAt) / holdHalf % 2 = 0)

/-- The levels of `SO_A_n` and `SO_B_n` (R54, R403). -/
def State.so (s : State) (n : Nat) : Bool × Bool :=
  (!s.sys.inReset && (s.out n).soA, !s.sys.inReset && (s.out n).soB)

/-- The level of `MPULSEn` (R54, R314). -/
def State.mpulse (s : State) (n : Nat) : Bool := s.gridRuns && (s.meter.pulse.getD n {}).high

/-- The transmitter of port `p` sends (R54, R350); off, the bypass links the port's pairs. A Vodor island
without its clock sends nothing either: that the bypass closes then is the model's choice (log entry 72). -/
def State.txRuns (s : State) (p : Nat) : Bool := s.vodRuns && s.ring.inserted && (s.port p).txOn

/-! ### How the output balls are driven (R34, R54) -/

/-- How a ball is driven. -/
inductive Drive where
  /-- No supply: no defined level. -/
  | undriven
  /-- High impedance or released: only a pull or the board acts. -/
  | highZ
  | low
  | high
  /-- Its block sends on it; the waveform is not shown here. -/
  | active
  deriving DecidableEq, Repr

/-- A driven level. -/
def drive (b : Bool) : Drive := if b then .high else .low

/-- A ball on `VDDIO` (R35): undriven without that rail, `rst` in reset, else `d` (R54). -/
def State.ball (s : State) (rst d : Drive) : Drive :=
  if !s.rails.testBit 4 then .undriven else if s.sys.inReset then rst else d

/-- `GD_x_yH` or `GD_x_yL`. -/
def State.gdBall (s : State) (x y : Nat) (high : Bool) : Drive := s.ball .low (drive (s.gd x y high))
/-- `BYP_HOLD_x`. -/
def State.holdBall (s : State) (x : Nat) : Drive := s.ball .low (drive (s.bypHold x))
/-- `SDC_x`. -/
def State.sdcBall (s : State) (x : Nat) : Drive := s.ball .low (drive (s.sdcLevel x))
/-- `SO_A_n`, or `SO_B_n`. -/
def State.soBall (s : State) (n : Nat) (b : Bool) : Drive :=
  s.ball .low (drive (if b then (s.so n).2 else (s.so n).1))
/-- `MPULSEn`. -/
def State.mpulseBall (s : State) (n : Nat) : Drive := s.ball .low (drive (s.mpulse n))
/-- `IRQ_N`, open drain. -/
def State.irqBall (s : State) : Drive := s.ball .highZ (if s.irqLow then .low else .highZ)

/-- The RGMII outputs (R460): idle until the gateway is enabled, then clocked by the host island. -/
def State.rgmiiBall (s : State) : Drive :=
  s.ball .low (if s.hostRuns && s.flag R.ETH_CFG_EN then .active else .low)
/-- `ETH_MDC` (R460): it runs while a management operation does. -/
def State.mdcBall (s : State) : Drive :=
  s.ball .low (if s.hostRuns && s.flag R.ETH_MDIO_CMD_GO then .active else .low)
/-- `ETH_MDIO`: driven only in a management operation. -/
def State.mdioBall (s : State) : Drive :=
  s.ball .highZ (if s.hostRuns && s.flag R.ETH_MDIO_CMD_GO then .active else .highZ)

/-- The FRAM is being written (R466). -/
def State.framBusy (s : State) : Bool :=
  s.meter.write.isSome || (match s.meter.beat with
    | some b => decide (s.now < b.1)
    | none => false)
/-- The boot flash is being read: by the boot ROM, or for the host (R58, R467). -/
def State.flashBusy (s : State) : Bool :=
  decide (s.boot = .started) || decide (s.boot = .tables) || s.flag R.SAVE_HOST_CTRL_BUSY
/-- `SAVE_SCK` and `SAVE_MOSI` (R466). -/
def State.saveClock (s : State) : Drive :=
  s.ball .low (if s.hostRuns && (s.framBusy || s.flashBusy) then .active else .low)
/-- `SAVE_CS0_N` of the FRAM, `SAVE_CS1_N` of the boot flash. The save port owns them from the lock of the host
PLL on (log entry 72). -/
def State.saveCs (s : State) (n : Nat) : Drive :=
  s.ball .highZ (if !s.hostRuns then .highZ
    else drive (!(if n = 0 then s.framBusy else s.flashBusy)))

/-- `HIO0` to `HIO3`: between transactions the port drives nothing (R446). -/
def State.hioBall (s : State) : Drive := s.ball .highZ .highZ
/-- `GPIO` n (R290): the in-service output, where it is enabled; no other block owns one. -/
def State.gpioBall (s : State) (n : Nat) : Drive :=
  s.ball .highZ
    (match s.inService with
      | some (k, v) => if k = n then drive v else .highZ
      | none => .highZ)
/-- The debug balls (R75): inert until the lock and while the level is LOCKED. -/
def State.debugBall (s : State) : Drive :=
  s.ball .highZ (if s.locked && decide (s.get R.BOOT_DEBUG_CFG_LEVEL ≠ 0) then .active else .highZ)

end Sys2Proof.Machine
end

