-- ==== Sys2Proof/Safety.lean ====
section
/-! DEFINITION. What the statements mean by a sound state and by a safe output. -/

namespace Sys2Proof.Machine

/-- The lists of the state are in their canonical forms: every memory has its cells in rising order and none
that reads as blank, and every register list has its keys in rising order. -/
abbrev State.canonical (s : State) : Prop :=
  s.mem.wf = true ∧ s.meter.fram.wf = true ∧ s.regs.wf = true ∧ s.staged.wf = true ∧ s.ecc.wf = true

/-- A host write to page `p` is carried out: the host port serves, the page takes host writes now, and the island that
serves the page has its clock (R61, R78, R84, R452). -/
def State.hostOpen (s : State) (p : Nat) : Bool := s.hostRuns && s.hostOk p && s.pageRuns p

/-- The value of a saturating count after one more event. -/
def counted (r : Reg) (v : Nat) : Nat := if v + 1 < 2 ^ r.width then v + 1 else v

/-- The device has its eight cell channels, five converters, two grid engines, sixteen Gylen connections, eight
capture units, thirty-two queues and two ring ports. -/
abbrev State.shape (s : State) : Prop :=
  s.chan.length = 8 ∧ s.sar.length = 5 ∧ s.engs.length = 2 ∧ s.gyl.length = 16 ∧ s.capt.length = 8
    ∧ s.pod.q.length = 32 ∧ s.ring.ports.length = 2

/-- The parts of the state, named as its fields. `fram` is the FRAM, apart from the rest of the meter's part;
`drop` stands
for all that a reset takes. -/
inductive Part where
  | now | dblTable | dblCapt | shadow | hostOut | recent | freeCtr | sys | fuse | boot | canopyT | log | ring
  | pod | gyl | safe | hw | eth | chan | sar | roverQ | engs | arm | ride | isl | capt | meter |
  fram | regs | staged | ecc | mem | drop
  deriving DecidableEq, Repr

/-- The states agree outside the parts in `l`; the queue of waiting commands is the same. -/
def State.sameBut (l : List Part) (s t : State) : Prop :=
  t.pending = s.pending ∧ (Part.drop ∈ l ∨ (
  (Part.now ∈ l ∨ t.now = s.now)
  ∧ (Part.dblTable ∈ l ∨ t.dblTable = s.dblTable)
  ∧ (Part.dblCapt ∈ l ∨ t.dblCapt = s.dblCapt)
  ∧ (Part.shadow ∈ l ∨ t.shadow = s.shadow)
  ∧ (Part.hostOut ∈ l ∨ t.hostOut = s.hostOut)
  ∧ (Part.recent ∈ l ∨ t.recent = s.recent)
  ∧ (Part.freeCtr ∈ l ∨ t.freeCtr = s.freeCtr)
  ∧ (Part.sys ∈ l ∨ t.sys = s.sys)
  ∧ (Part.fuse ∈ l ∨ t.fuse = s.fuse)
  ∧ (Part.boot ∈ l ∨ t.boot = s.boot)
  ∧ (Part.canopyT ∈ l ∨ t.canopyT = s.canopyT)
  ∧ (Part.log ∈ l ∨ t.log = s.log)
  ∧ (Part.ring ∈ l ∨ t.ring = s.ring)
  ∧ (Part.pod ∈ l ∨ t.pod = s.pod)
  ∧ (Part.gyl ∈ l ∨ t.gyl = s.gyl)
  ∧ (Part.safe ∈ l ∨ t.safe = s.safe)
  ∧ (Part.hw ∈ l ∨ t.hw = s.hw)
  ∧ (Part.eth ∈ l ∨ t.eth = s.eth)
  ∧ (Part.chan ∈ l ∨ t.chan = s.chan)
  ∧ (Part.sar ∈ l ∨ t.sar = s.sar)
  ∧ (Part.roverQ ∈ l ∨ t.roverQ = s.roverQ)
  ∧ (Part.engs ∈ l ∨ t.engs = s.engs)
  ∧ (Part.arm ∈ l ∨ t.arm = s.arm)
  ∧ (Part.ride ∈ l ∨ t.ride = s.ride)
  ∧ (Part.isl ∈ l ∨ t.isl = s.isl)
  ∧ (Part.capt ∈ l ∨ t.capt = s.capt)
  ∧ (Part.meter ∈ l ∨ Part.fram ∈ l ∨ t.meter = s.meter)
  ∧ (Part.fram ∈ l ∨ t.meter.fram = s.meter.fram)
  ∧ (Part.regs ∈ l ∨ t.regs = s.regs)
  ∧ (Part.staged ∈ l ∨ t.staged = s.staged)
  ∧ (Part.ecc ∈ l ∨ t.ecc = s.ecc)
  ∧ (Part.mem ∈ l ∨ t.mem = s.mem)))

/-- Every register field but those in `l` has its value. -/
def State.regsBut (s : State) (l : List Reg) (t : State) : Prop :=
  ∀ r : Reg, r.key ∉ l.map Reg.key → t.get r = s.get r

/-- The parts of the state that a command may change, its operands whatever they are. -/
def mayChange : Instr → List Part
  | .registerWrite .. | .mailboxGo .. =>
    [.now, .dblTable, .dblCapt, .recent, .freeCtr, .sys, .canopyT, .log, .ring, .pod, .gyl, .safe,
     .hw, .eth, .chan, .sar, .roverQ, .arm, .ride, .capt, .meter, .fram, .regs, .staged, .ecc, .mem]
  | .snLowRead .. | .snHighRead .. | .qdataPop .. | .qspiRead .. =>
    [.now, .dblTable, .dblCapt, .shadow, .hostOut, .recent, .freeCtr, .log, .ring, .pod, .eth,
     .regs, .ecc, .mem]
  | .commitGo .. | .commitApply .. | .updateLockClear .. =>
    [.now, .recent, .sys, .pod, .chan, .sar, .roverQ, .regs, .staged]
  | .commitDiscard .. | .carrierPeak .. =>
    [.now, .recent, .sys, .pod, .chan, .regs, .staged]
  | .errCountClear .. | .dlCountClear .. | .irqStatClear .. | .counterClear .. | .kernelEnable ..
  | .actSuspend .. | .wrapEnd .. | .becomeSource .. | .remoteTimeout .. | .saveHostReadDone ..
  | .ethLinkChange .. =>
    [.now, .recent, .pod, .regs]
  | .deadlineMiss .. =>
    [.now, .recent, .sys, .canopyT, .log, .pod, .gyl, .safe, .hw, .chan, .sar, .arm, .ride, .capt,
     .regs]
  | .streamXingOverflow .. =>
    [.now, .recent, .sys, .log, .pod, .capt, .regs]
  | .burlClockWindow .. | .xtalLoss .. | .pllLoss .. =>
    [.now, .recent, .sys, .log, .pod, .safe, .chan, .sar, .roverQ, .meter, .regs]
  | .burlRcMeasure .. =>
    [.now, .recent, .sys, .log, .pod, .safe, .chan, .regs]
  | .scrubWord .. =>
    [.now, .dblTable, .dblCapt, .recent, .log, .pod, .regs, .ecc]
  | .aonCoarseLoad .. =>
    [.now, .canopyT]
  | .railGood .. =>
    [.now, .recent, .sys, .canopyT, .regs]
  | .brownOutReset .. | .powerOnReset .. | .xtalLossReset .. | .pinReset .. | .testReset ..
  | .watchdogReset .. =>
    [.now, .dblTable, .dblCapt, .shadow, .hostOut, .recent, .freeCtr, .sys, .fuse, .boot, .canopyT,
     .log, .ring, .pod, .gyl, .safe, .hw, .eth, .chan, .sar, .roverQ, .engs, .arm, .ride, .isl,
     .capt, .meter, .fram, .regs, .staged, .ecc, .mem, .drop]
  | .xtalGood .. | .tamperEvent .. =>
    [.now, .recent, .sys, .regs]
  | .pinResetRelease .. | .testResetRelease .. =>
    [.now, .sys]
  | .watchdogExpiry .. =>
    [.now, .recent, .freeCtr, .sys, .log, .pod, .safe, .chan, .meter, .fram, .regs]
  | .resetRelease .. =>
    [.now, .recent, .sys, .boot, .canopyT, .meter, .regs]
  | .pllLock .. =>
    [.now, .recent, .sys, .ring, .pod, .safe, .chan, .sar, .roverQ, .arm, .regs]
  | .bootProtectionImage .. =>
    [.now, .dblTable, .recent, .sys, .fuse, .boot, .log, .pod, .regs, .ecc, .mem]
  | .bootTableImage .. =>
    [.now, .dblTable, .recent, .sys, .boot, .log, .pod, .regs, .ecc, .mem]
  | .bootLock .. =>
    [.now, .dblTable, .dblCapt, .recent, .sys, .boot, .log, .pod, .gyl, .safe, .hw, .chan, .meter,
     .regs]
  | .debugAccess .. | .qspiAbort .. =>
    [.now, .dblTable, .dblCapt, .shadow, .hostOut, .recent, .freeCtr, .sys, .canopyT, .log, .ring,
     .pod, .gyl, .safe, .hw, .eth, .chan, .sar, .roverQ, .arm, .ride, .capt, .meter, .fram, .regs,
     .staged, .ecc, .mem]
  | .tableWindowWrite .. =>
    [.now, .dblTable, .dblCapt, .recent, .log, .pod, .regs, .ecc, .mem]
  | .tablePairWrite .. =>
    [.now, .dblTable, .dblCapt, .recent, .pod, .regs, .ecc, .mem]
  | .sdClkWrite .. | .comparatorRelease .. | .shootThrough .. | .faultSourceActive ..
  | .groupWaitExpiry .. | .groupRelease .. | .scQualify .. | .scStuck .. | .rdyNotReady ..
  | .rdyBlankEnd .. | .tripInput .. | .bypOpenCheckExpiry .. | .bypCloseCheckExpiry ..
  | .kernelPredictionDone .. | .kernelDisable .. | .faultSourceInactive .. =>
    [.now, .recent, .log, .pod, .chan, .regs]
  | .cmpCfgWrite .. =>
    [.now, .recent, .log, .pod, .chan, .regs, .staged]
  | .triggerEvent .. | .canopyTimerFire .. =>
    [.now, .recent, .pod, .chan, .sar, .regs]
  | .trigNow .. =>
    [.now, .recent, .log, .pod, .chan, .sar, .roverQ, .regs, .staged]
  | .sampleCentre .. =>
    [.now, .dblTable, .dblCapt, .recent, .freeCtr, .sys, .log, .pod, .chan, .regs, .staged]
  | .inputLoss .. | .inputFreeze .. | .idealEdge .. | .bootstrapRefresh .. | .pwmDisable ..
  | .pwmEnable .. | .kernelCompareWrite .. | .kernelTestStart .. | .joinKernelTimeout .. | .cellLeave ..
  | .epochUpdatePoint .. | .curtOn .. | .curtOff .. | .shellNow .. | .shellBlockEnd .. | .shellTimeout ..
  | .scanNow .. =>
    [.now, .recent, .pod, .chan, .regs]
  | .inputLossEnd .. =>
    [.now, .chan, .regs]
  | .comparatorAssert .. =>
    [.now, .recent, .log, .pod, .chan, .capt, .regs]
  | .sarTriggerFire .. =>
    [.now, .recent, .freeCtr, .pod, .sar, .regs]
  | .sarConversionDone .. =>
    [.now, .recent, .freeCtr, .sys, .log, .pod, .sar, .meter, .regs]
  | .plausMissing .. =>
    [.now, .recent, .log, .pod, .sar, .regs]
  | .sarPassEnd .. =>
    [.now, .recent, .sys, .pod, .chan, .sar, .roverQ, .meter, .regs, .staged]
  | .calRequest .. | .calDone .. | .roverTimeout .. =>
    [.now, .recent, .pod, .sar, .roverQ, .regs]
  | .calPeriodic .. =>
    [.now, .recent, .sar, .roverQ, .regs]
  | .carrierZero .. =>
    [.now, .recent, .freeCtr, .sys, .log, .pod, .chan, .regs, .staged]
  | .scheduledSwitchOff .. | .scheduledSwitchOn .. | .refreshEnd .. =>
    [.now, .chan]
  | .groupWindowClose .. | .latchClear .. | .kernelTestDone .. | .packetTimeout .. | .logUnfreeze .. =>
    [.now, .recent, .log, .pod, .regs]
  | .bypFbChange .. =>
    [.now, .recent, .freeCtr, .log, .pod, .chan, .regs]
  | .scheduleValidationDone .. =>
    [.now, .dblTable, .dblCapt, .recent, .log, .pod, .chan, .regs, .staged]
  | .ge0SetDelivery .. =>
    [.now, .recent, .freeCtr, .sys, .chan, .regs]
  | .cellJoin .. | .dcLinkQualify .. | .dcLinkLow .. =>
    [.now, .dblTable, .dblCapt, .recent, .log, .pod, .chan, .regs]
  | .shellDue .. | .scanDue .. =>
    [.now, .recent, .chan, .regs]
  | .shellCloseTimeout .. =>
    [.now, .recent, .log, .chan, .regs]
  | .poPeriodEnd .. =>
    [.now, .freeCtr, .chan, .regs]
  | .scanDwellEnd .. =>
    [.now, .recent, .freeCtr, .pod, .chan, .regs]
  | .gridCycle .. =>
    [.now, .dblTable, .dblCapt, .recent, .freeCtr, .sys, .log, .ring, .pod, .safe, .chan, .engs,
     .arm, .ride, .isl, .capt, .meter, .regs, .staged]
  | .gridPllLock .. =>
    [.now, .recent, .pod, .meter, .regs]
  | .gridPllUnlock .. =>
    [.now, .recent, .pod, .engs, .meter, .regs]
  | .gridPllUnfreeze .. =>
    [.now, .recent, .engs, .regs]
  | .armFrameReceived .. =>
    [.now, .recent, .sys, .ring, .pod, .chan, .arm, .regs]
  | .cellReportReceived .. =>
    [.now, .sys, .ring, .arm]
  | .masterResign .. | .islandClear .. =>
    [.now, .recent, .pod, .arm, .regs]
  | .resignRecovery .. =>
    [.now, .regs]
  | .xchkFail .. =>
    [.now, .recent, .log, .pod, .chan, .arm, .regs]
  | .modeRampEnd .. =>
    [.now, .recent, .arm, .regs]
  | .excursionEnd .. =>
    [.now, .recent, .log, .pod, .ride, .isl, .regs]
  | .sourceStaleTrip .. | .tripNow .. =>
    [.now, .recent, .pod, .arm, .ride, .capt, .regs]
  | .recoveryRampEnd .. | .rtsWindowHeld .. | .tripClear .. =>
    [.now, .recent, .pod, .ride, .regs]
  | .islandIndication .. =>
    [.now, .recent, .pod, .isl, .regs]
  | .voteWindowExpiry .. =>
    [.now, .isl, .regs]
  | .activeEpochBoundary .. | .mdioDone .. =>
    [.now, .recent, .regs]
  | .rtBlockEnd .. =>
    [.now, .recent, .isl, .regs]
  | .transferTripFrame .. =>
    [.now, .recent, .pod, .arm, .ride, .isl, .capt, .regs]
  | .meterCycleEnd .. =>
    [.now, .dblTable, .dblCapt, .recent, .freeCtr, .sys, .log, .pod, .safe, .chan, .meter, .regs]
  | .pulseStart .. =>
    [.now, .freeCtr, .meter, .regs]
  | .pulseEnd .. | .pfwResume .. =>
    [.now, .meter]
  | .connectionCheck .. =>
    [.now, .recent, .log, .pod, .meter, .regs]
  | .periodicSave .. =>
    [.now, .freeCtr, .meter]
  | .saveVerify .. =>
    [.now, .recent, .log, .pod, .meter, .fram, .regs]
  | .heartbeatSave .. =>
    [.now, .meter, .fram]
  | .pfwFall .. =>
    [.now, .recent, .freeCtr, .sys, .pod, .meter, .fram, .regs]
  | .finalSaveDone .. | .saveAdopt .. =>
    [.now, .recent, .pod, .meter, .fram, .regs]
  | .meterRestore .. =>
    [.now, .recent, .freeCtr, .log, .pod, .meter, .fram, .regs]
  | .energyBroadcast .. =>
    [.now, .recent, .ring, .eth, .meter, .regs]
  | .portAligned .. | .insertion .. =>
    [.now, .ring, .regs]
  | .portAlignLoss .. | .delayRequest .. | .delayMarkerReceived .. =>
    [.now, .ring]
  | .portRelock .. | .noverRetry .. | .remoteResponse .. | .queueFlush .. =>
    [.now, .recent, .ring, .pod, .regs]
  | .portDown .. =>
    [.now, .recent, .log, .ring, .pod, .regs]
  | .helloSend .. =>
    [.now, .recent, .freeCtr, .ring, .regs]
  | .helloReceived .. =>
    [.now, .recent, .freeCtr, .log, .ring, .pod, .regs]
  | .frameReceive .. =>
    [.now, .recent, .freeCtr, .log, .ring, .pod, .eth, .regs, .mem]
  | .beaconSend .. =>
    [.now, .recent, .canopyT, .ring, .pod, .regs]
  | .beaconDecide .. | .canopySet .. =>
    [.now, .recent, .canopyT, .ring, .pod, .eth, .chan, .sar, .arm, .meter, .regs]
  | .remoteAccessGo .. =>
    [.now, .recent, .ring, .pod, .eth, .regs, .staged]
  | .remoteRequest .. =>
    [.now, .dblTable, .dblCapt, .shadow, .recent, .freeCtr, .sys, .canopyT, .log, .ring, .pod, .gyl,
     .safe, .hw, .eth, .chan, .sar, .roverQ, .arm, .ride, .capt, .meter, .fram, .regs, .staged,
     .ecc, .mem]
  | .queueEnable .. | .queueDisable .. =>
    [.now, .recent, .ring, .pod, .regs, .staged]
  | .qdataPush .. =>
    [.now, .recent, .pod, .regs, .mem]
  | .podPacketSent .. | .tunnelFrameReceived .. | .frameSent .. =>
    [.now, .recent, .ring, .pod, .eth, .regs, .mem]
  | .parityCheckDone .. =>
    [.now, .recent, .log, .ring, .pod, .eth, .regs, .mem]
  | .noticeSend .. | .noticeHoldExpiry .. =>
    [.now, .recent, .ring, .pod, .eth, .regs]
  | .safetyInputChange .. | .discrepancyFault .. | .stopDelayEnd .. | .channelDivergence ..
  | .curtainPulseMissing .. | .resetPulse .. =>
    [.now, .recent, .log, .pod, .gyl, .safe, .hw, .chan, .regs]
  | .twohandLate .. =>
    [.now, .recent, .pod, .safe, .hw, .regs]
  | .outputReadbackFault .. | .testPulseEnd .. =>
    [.now, .recent, .log, .pod, .safe, .regs]
  | .testPulseStart .. | .testPulseBStart .. =>
    [.now, .safe, .regs]
  | .gylenFrameReceived .. =>
    [.now, .recent, .log, .ring, .pod, .gyl, .safe, .hw, .chan, .arm, .ride, .isl, .capt, .regs]
  | .gylenWatchdogExpiry .. =>
    [.now, .recent, .log, .pod, .gyl, .safe, .hw, .chan, .arm, .ride, .capt, .regs]
  | .gylenProduce .. =>
    [.now, .recent, .log, .ring, .pod, .gyl, .eth, .regs]
  | .gylenHostLoad .. =>
    [.now, .recent, .pod, .gyl, .regs, .staged]
  | .captureArm .. =>
    [.now, .dblTable, .dblCapt, .recent, .log, .pod, .capt, .regs]
  | .captureStop .. | .captureTrigNow .. =>
    [.now, .recent, .pod, .capt, .regs]
  | .captureSet .. | .logRecordWrite .. =>
    [.now, .dblTable, .dblCapt, .recent, .freeCtr, .log, .pod, .capt, .regs, .ecc, .mem]
  | .logRecordSubmit .. =>
    [.now, .recent, .log, .regs]
  | .qspiWrite .. =>
    [.now, .dblTable, .dblCapt, .hostOut, .recent, .freeCtr, .sys, .canopyT, .log, .ring, .pod,
     .gyl, .safe, .hw, .eth, .chan, .sar, .roverQ, .arm, .ride, .capt, .meter, .fram, .regs,
     .staged, .ecc, .mem]
  | .identity .. | .imageStatus .. | .logRead .. | .keyProvision .. | .unknownService .. =>
    [.now, .recent, .pod, .hw, .regs]
  | .fuseProgramDone .. =>
    [.now, .fuse, .hw, .regs]
  | .heartwoodFrame .. | .housekeepingSlice .. | .mailboxSlice .. =>
    [.now, .recent, .sys, .log, .pod, .safe, .hw, .chan, .regs]
  | .gylenSlice .. =>
    [.now, .recent, .sys, .log, .pod, .gyl, .safe, .hw, .chan, .arm, .ride, .capt, .regs]
  | .mdioCommand .. =>
    [.now, .recent, .pod, .regs, .staged]
  | .ptpSync .. =>
    [.now, .recent, .freeCtr, .canopyT, .pod, .eth, .chan, .sar, .arm, .meter, .regs]
  | .ptpAnnounce .. =>
    [.now, .eth]
  | .ptpPdelayReq .. | .ptpPdelaySend .. | .ptpPdelayResp .. =>
    [.now, .freeCtr, .eth]
  | .ptpLoss .. =>
    [.now, .recent, .pod, .eth, .regs]
  | .saveHostRead .. =>
    [.now, .recent, .pod, .meter, .regs, .staged]
  | .ownTc2Release .. =>
    [.now, .recent, .ring, .eth, .regs]
  | .pfwRise .. =>
    [.now, .recent, .sys, .meter, .regs]
  | .srstInRise .. =>
    [.now, .safe]

end Sys2Proof.Machine
end

