-- ==== Sys2Proof/Certificates/Slice0/Obligations.lean ====
section
/-! DEFINITION. The statements for the provers, made from the numbered rules of the spec. -/

open Sys2Proof Sys2Proof.Machine

/-- A step carries out the command at the front of the queue. For every command c and every state s, a step of
the state whose queue is c followed by rest is exec of c on the state whose queue is rest. The queue is the
model's own (log entry 1). (DESIGN CHOICE (log entry 1), chapter 4) -/
def Obligations.StepRunsTheFrontCommand : Prop :=
  ∀ (c : Instr) (rest : List Instr) (s : State),
    step { s with pending := c :: rest } = exec c { s with pending := rest }

/-- With no command waiting the block idles. A step on an empty queue answers the same state. This is the
model's choice (log entry 1). (DESIGN CHOICE (log entry 1)) -/
def Obligations.AnIdleStepChangesNothing : Prop :=
  ∀ s : State, s.pending = [] → step s = .next s

/-- No command stops the device. Every command of the table answers a next state from every state: the spec
gives no command that stops the device, so none ends in a fault or a refusal. (chapter 4, R61, R82) -/
def Obligations.EveryCommandIsCarriedOut : Prop :=
  ∀ (c : Instr) (s : State), ∃ t, exec c s = .next t

/-- A command leaves the queue of waiting commands alone. Whatever command is carried out, the commands that
wait are the same before and after. The queue is the model's own (log entry 1). (DESIGN CHOICE (log entry 1))
-/
def Obligations.EveryCommandKeepsTheQueue : Prop :=
  ∀ (c : Instr) (s t : State), exec c s = .next t → t.pending = s.pending

/-- The state after reset has the shape of the device and canonical lists. The state after reset has eight
cell channels, five converters, two grid engines, sixteen Gylen connections and eight capture units, and every
list of it is in its canonical form. (R5, R72, chapter 2) -/
def Obligations.TheResetStateIsSound : Prop :=
  State.reset.canonical ∧ State.reset.shape

/-- Every step keeps every memory and every register list in its canonical form. From every state whose table,
capture, log and queue memory, FRAM, registers, staged values and word checks are in canonical form (addresses
rising, nothing listed that reads as unlisted), every step that answers a next state answers one with the same
property. (R5, R72, R83, R322) -/
def Obligations.EveryStepKeepsTheCanonicalForms : Prop :=
  ∀ s t : State, s.canonical → step s = .next t → t.canonical

/-- Every step keeps the number of every unit of the device. From every state with eight cell channels, five
converters, two grid engines, sixteen Gylen connections and eight capture units, every step that answers a
next state answers one with the same numbers. (R1, chapter 1, chapter 9) -/
def Obligations.EveryStepKeepsTheShape : Prop :=
  ∀ s t : State, s.shape → step s = .next t → t.shape

/-- What a full crossing, a clock measurement and a scrubbed word do. Out of reset, a word lost at a full
streaming crossing sets its bit of XING_ERR, counts an error of page CLK and, into Heartwood, marks the tap in
every capture unit; at another crossing the next word of its source is the one discarded (log entry 74).
Heartwood's measurement of Burl's oscillator is shown in BURL_RC, and one outside 45.6 to 50.4 MHz declares
Burl's clock faulty. A scrubbed table word with one bad bit is corrected and counted on page BOOT; one with
two is kept as bad and is the last recorded word; either way no byte of it changes. (R18, R20, R21, R47) -/
def Obligations.ClockWatchCommands : Prop :=
  (∀ (s : State) (dt : Nat) (b : Fin 13) (tap : Fin 256),
       s.sys.inReset = false →
       ∃ t, exec (.streamXingOverflow dt b tap) s = .next t
         ∧ (t.wordOf pgClk 0x0C0).testBit b.val = true
         ∧ t.get (H.ERR_COUNT pgClk) = counted (H.ERR_COUNT pgClk) (s.get (H.ERR_COUNT pgClk))
         ∧ (b.val = 11 → t.capt = s.capt.map (fun u => { u with xing := tap.val :: u.xing }))
         ∧ (b.val ≠ 11 → t.sys.lostWord = lostKey b tap :: s.sys.lostWord))
  ∧ (∀ (s : State) (dt : Nat) (khz : Fin 65536),
       s.hwRuns = true →
       ∃ t, exec (.burlRcMeasure dt khz) s = .next t
         ∧ t.get R.CLK_BURL_RC_KHZ = khz.val
         ∧ ((khz.val < 45600 ∨ 50400 < khz.val) → t.sys.burlFaulty = true))
  ∧ (∀ (s : State) (dt : Nat) (addr : Nat) (flips : Fin 3),
       s.sys.inReset = false →
       addr % 8 = 0 →
       inRegion tableBase tableSize addr = true →
       s.badBits addr + flips.val = 1 →
       ∃ t, exec (.scrubWord dt addr flips) s = .next t
         ∧ t.badBits addr = 0
         ∧ t.get (H.ERR_COUNT pgBoot) = counted (H.ERR_COUNT pgBoot) (s.get (H.ERR_COUNT pgBoot))
         ∧ t.mem = s.mem)
  ∧ (∀ (s : State) (dt : Nat) (addr : Nat) (flips : Fin 3),
       s.sys.inReset = false →
       addr % 8 = 0 →
       inRegion tableBase tableSize addr = true →
       2 ≤ s.badBits addr + flips.val →
       ∃ t, exec (.scrubWord dt addr flips) s = .next t
         ∧ t.badBits addr = 2
         ∧ t.dblTable = some addr
         ∧ t.mem = s.mem)

/-- What the lock and the loss of a PLL do. Out of reset with a good crystal, the PLL of a starting island, or
of a cell island that had lost its lock, reads locked after PLL_LOCK, and so does its bit of PLL_STAT. After
PLL_LOSS, which sets the island's bit of PLL_LOSS also where Burl has already found the clock lost, and after
a clock window in which Burl finds it wrong, a locked island's PLL is lost. (R19, R44, R45, R47, R492) -/
def Obligations.PllCommands : Prop :=
  (∀ (s : State) (dt : Nat) (i : Fin 13),
       s.sys.inReset = false →
       s.sys.xtalGood = true →
       s.sys.pll i.val = .starting ∨ (s.sys.pll i.val = .lost ∧ i.val < 8) →
       ∃ t, exec (.pllLock dt i) s = .next t
         ∧ t.sys.pll i.val = .locked
         ∧ (i.val < 8 → (t.get R.CLK_PLL_STAT_CELL_LOCK).testBit i.val = true)
         ∧ (i.val = 8 → t.flag R.CLK_PLL_STAT_GRID_LOCK = true)
         ∧ (i.val = 9 → t.flag R.CLK_PLL_STAT_SAR_LOCK = true)
         ∧ (i.val = 10 → t.flag R.CLK_PLL_STAT_VOD_LOCK = true)
         ∧ (i.val = 11 → t.flag R.CLK_PLL_STAT_HOST_LOCK = true)
         ∧ (i.val = 12 → t.flag R.CLK_PLL_STAT_HW_LOCK = true))
  ∧ (∀ (s : State) (dt : Nat) (i : Fin 13),
       s.sys.inReset = false →
       s.sys.pll i.val = .locked →
       ∃ t, exec (.pllLoss dt i) s = .next t
         ∧ t.sys.pll i.val = .lost
         ∧ (i.val < 8 → (t.get R.CLK_PLL_LOSS_CELL_LOSS).testBit i.val = true)
         ∧ (i.val = 8 → t.flag R.CLK_PLL_LOSS_GRID_LOSS = true)
         ∧ (i.val = 12 → t.flag R.CLK_PLL_LOSS_HW_LOSS = true))
  ∧ (∀ (s : State) (dt : Nat) (i : Fin 13),
       s.sys.inReset = false →
       s.sys.pll i.val = .lost →
       ∃ t, exec (.pllLoss dt i) s = .next t
         ∧ (i.val < 8 → (t.get R.CLK_PLL_LOSS_CELL_LOSS).testBit i.val = true)
         ∧ (i.val = 10 → t.flag R.CLK_PLL_LOSS_VOD_LOSS = true))
  ∧ (∀ (s : State) (dt : Nat) (bad : Fin 8192),
       s.sys.inReset = false →
       ∃ t, exec (.burlClockWindow dt bad) s = .next t
         ∧ (∀ i : Fin 13, bad.val.testBit i.val = true → s.sys.pll i.val = .locked → t.sys.pll i.val = .lost))

/-- What the rail monitors and the crystal do. A rail whose 2 µs filter has run, VDD_AON or any other once
VDD_AON is good, is declared good: it sets its bit of RAIL_GOOD, and one later than 10 ms after VDD_AON sets
SEQ_LATE. A brown-out enters reset with the cause BOR, clears the rail's bit and sets its bit of BOR_RAIL. The
rail of a brown-out has also had its 2 µs. A loss of VDD_AON enters reset with the cause POR, beside a pin or
test level that is present (log entry 72), and leaves every memory and every other register at its reset
value. A good crystal sets the two crystal bits; one that stops while the device runs is kept with its instant
and takes the clock of every island; 1 ms later the reset is entered with the cause XTAL_LOSS. (R38, R40, R42,
R43, R46, R48, R53) -/
def Obligations.RailAndCrystalCommands : Prop :=
  (∀ (s : State) (dt : Nat) (r : Fin 6),
       s.rails.testBit r.val = false →
       r.val = 2 ∨ s.rails.testBit 2 = true →
       (s.elapse dt).railRan r.val = true →
       ∃ t, exec (.railGood dt r) s = .next t
         ∧ t.rails.testBit r.val = true
         ∧ (r.val ≠ 2 → s.sys.aonGoodAt + ms 10 < s.now + dt → t.flag R.RSTPWR_PWR_STAT_SEQ_LATE = true)
         ∧ (r.val = 2 → t.sys.aonGoodAt = s.now + dt))
  ∧ (∀ (s : State) (dt : Nat) (r : Fin 5),
       s.rails.testBit 2 = true →
       s.rails.testBit (borRail r.val) = true →
       (s.elapse dt).railRan (borRail r.val) = true →
       ∃ t, exec (.brownOutReset dt r) s = .next t
         ∧ t.sys.inReset = true
         ∧ t.sys.causes.bor = true
         ∧ t.rails.testBit (borRail r.val) = false
         ∧ t.flag R.RSTPWR_RST_CAUSE_BOR = true
         ∧ (t.get R.RSTPWR_RST_CAUSE_BOR_RAIL).testBit r.val = true)
  ∧ (∀ (s : State) (dt : Nat),
       s.rails.testBit 2 = false ∨ (s.elapse dt).railRan 2 = true →
       ∃ t, exec (.powerOnReset dt) s = .next t
         ∧ t.sys.inReset = true
         ∧ t.sys.causes = { por := true, pin := s.sys.causes.pin, test := s.sys.causes.test }
         ∧ (∀ r : Reg, r.key ∉ [R.RSTPWR_PWR_STAT_RAIL_GOOD, R.RSTPWR_PWR_STAT_AON_XTAL, R.RSTPWR_RST_CAUSE_PIN, R.RSTPWR_RST_CAUSE_TEST].map Reg.key → t.get r = r.rst)
         ∧ t.flag R.RSTPWR_RST_CAUSE_PIN = s.sys.causes.pin
         ∧ t.flag R.RSTPWR_PWR_STAT_AON_XTAL = false
         ∧ t.mem = []
         ∧ t.rails = 0)
  ∧ (∀ (s : State) (dt : Nat),
       s.rails.testBit 2 = true →
       ∃ t, exec (.xtalGood dt) s = .next t
         ∧ t.sys.xtalGood = true
         ∧ t.flag R.CLK_PLL_STAT_XTAL_GOOD = true
         ∧ t.flag R.RSTPWR_PWR_STAT_AON_XTAL = true)
  ∧ (∀ (s : State) (dt : Nat),
       s.sys.xtalGood = true →
       s.sys.inReset = false →
       ∃ t, exec (.xtalLoss dt) s = .next t
         ∧ t.sys.xtalGood = false
         ∧ t.sys.xtalStopAt = some (s.now + dt)
         ∧ (∀ i : Fin 13, t.sys.pll i.val ≠ .locked))
  ∧ (∀ (s : State) (dt t0 : Nat),
       s.sys.xtalStopAt = some t0 →
       t0 + ms 1 ≤ s.now + dt →
       ∃ t, exec (.xtalLossReset dt) s = .next t
         ∧ t.sys.inReset = true
         ∧ t.sys.causes.xtal = true
         ∧ t.flag R.RSTPWR_RST_CAUSE_XTAL_LOSS = true)

/-- What the reset causes and the release do. A low RESET_N and a high TEST_EN, held for the 9 µs, enter reset
with their causes; their ends, held as long, withdraw the cause. A watchdog that is not served in time,
counted from the end of the work of the boot (log entry 72), expires, keeping the instant, and 1 ms of Burl's
time later the reset is entered with the cause WDOG. A release is granted once no cause holds and the rails
and the crystal have been good for their times; then the device is out of reset, the boot begins and the host
and Heartwood PLLs start. (R44, R48, R49, R51, R53, R60, R491) -/
def Obligations.ResetCommands : Prop :=
  (∀ (s : State) (dt : Nat),
       s.sys.causes.pin = false →
       (s.elapse dt).filterRan s.sys.pinAt (us 9) = true →
       ∃ t, exec (.pinReset dt) s = .next t
         ∧ t.sys.inReset = true
         ∧ t.sys.causes.pin = true
         ∧ t.flag R.RSTPWR_RST_CAUSE_PIN = true
         ∧ (s.sys.inReset = false → t.get R.RSTPWR_RST_COUNT_COUNT = counted R.RSTPWR_RST_COUNT_COUNT (s.get R.RSTPWR_RST_COUNT_COUNT)))
  ∧ (∀ (s : State) (dt : Nat),
       s.sys.causes.pin = true →
       (s.elapse dt).filterRan s.sys.pinAt (us 9) = true →
       ∃ t, exec (.pinResetRelease dt) s = .next t
         ∧ t.sys.causes = { s.sys.causes with pin := false })
  ∧ (∀ (s : State) (dt : Nat),
       s.sys.causes.test = false →
       (s.elapse dt).filterRan s.sys.testAt (us 9) = true →
       ∃ t, exec (.testReset dt) s = .next t
         ∧ t.sys.inReset = true
         ∧ t.sys.causes.test = true
         ∧ t.flag R.RSTPWR_RST_CAUSE_TEST = true)
  ∧ (∀ (s : State) (dt : Nat),
       s.sys.causes.test = true →
       (s.elapse dt).filterRan s.sys.testAt (us 9) = true →
       ∃ t, exec (.testResetRelease dt) s = .next t
         ∧ t.sys.causes = { s.sys.causes with test := false })
  ∧ (∀ (s : State) (dt : Nat),
       s.boot = .ready ∨ s.boot = .done →
       s.sys.wdogExpired = none →
       s.sys.wdogServed + burlTime (ms (s.get R.RSTPWR_WDOG_CFG_TIMEOUT_MS)) ≤ s.now + dt →
       ∃ t, exec (.watchdogExpiry dt) s = .next t
         ∧ t.sys.wdogExpired = some (s.now + dt))
  ∧ (∀ (s : State) (dt t0 : Nat),
       s.sys.wdogExpired = some t0 →
       t0 + burlTime (ms 1) ≤ s.now + dt →
       ∃ t, exec (.watchdogReset dt) s = .next t
         ∧ t.sys.inReset = true
         ∧ t.sys.causes.wdog = true
         ∧ t.flag R.RSTPWR_RST_CAUSE_WDOG = true)
  ∧ (∀ (s : State) (dt : Nat),
       s.sys.inReset = true →
       (s.elapse dt).mayRelease = true →
       ∃ t, exec (.resetRelease dt) s = .next t
         ∧ t.sys.inReset = false
         ∧ t.boot = .started
         ∧ t.sys.pllHost = .starting
         ∧ t.sys.pllHw = .starting
         ∧ t.sys.releasedAt = s.now + dt
         ∧ t.sys.causes = {})

/-- What the boot and the tamper inputs do. A protection image that fails a check puts the device in
Quarantine with that reason and the lock comes next; one that passes, with its revocation bits blown, brings
the boot to the table image. A table image ends the tables' load, with no area valid and TBL_ERR set where its
header is wrong. The lock is set once. A change of a tamper level that held for its filter time is shown,
counted and timed. (R60, R67, R72, R74, R78, R80, R81) -/
def Obligations.BootCommands : Prop :=
  (∀ (s : State) (dt : Nat) (bytes : List Nat) (back : Fin 16),
       s.hwRuns = true →
       s.boot = .started →
       ∃ t, exec (.bootProtectionImage dt bytes back) s = .next t
         ∧ (((s.elapse dt).imgCheck (bytes.take protLen)).reason ≠ 0 → t.quarantine = true ∧ t.get R.BOOT_BOOT_STAT_QREASON = ((s.elapse dt).imgCheck (bytes.take protLen)).reason % 2 ^ R.BOOT_BOOT_STAT_QREASON.width ∧ t.boot = .ready)
         ∧ (((s.elapse dt).imgCheck (bytes.take protLen)).reason = 0 →
             (s.fuse.revoked ||| (back.val &&& (bytes.take protLen).getD 0x0D 0)) &&& (bytes.take protLen).getD 0x0D 0 = (bytes.take protLen).getD 0x0D 0 → t.boot = .tables))
  ∧ (∀ (s : State) (dt : Nat) (bytes : List Nat),
       s.hwRuns = true →
       s.boot = .tables →
       ∃ t, exec (.bootTableImage dt bytes) s = .next t
         ∧ t.boot = .ready
         ∧ (tableHeaderOk bytes = false → t.flag R.BOOT_BOOT_STAT_TBL_ERR = true ∧ t.get R.BOOT_TBL_VALID_KE = 0 ∧ t.get R.BOOT_TBL_VALID_CELL = 0 ∧ t.get R.BOOT_TBL_VALID_GRID = 0 ∧ t.get R.BOOT_TBL_VALID_MASK = 0 ∧ t.mem = s.mem))
  ∧ (∀ (s : State) (dt : Nat),
       s.hwRuns = true →
       s.boot = .ready →
       s.locked = false →
       ∃ t, exec (.bootLock dt) s = .next t
         ∧ t.locked = true
         ∧ t.boot = .done
         ∧ t.sys.lockAt = s.now + dt)
  ∧ (∀ (s : State) (dt : Nat) (n : Fin 2) (level : Bool),
       s.rails.testBit 2 = true →
       s.flag (R.BOOT_TAMPER_STAT_LEVEL n) ≠ level →
       ∃ t, exec (.tamperEvent dt n level) s = .next t
         ∧ t.flag (R.BOOT_TAMPER_STAT_LEVEL n) = level
         ∧ t.flag (R.BOOT_TAMPER_STAT_EVT n) = true
         ∧ t.get (R.BOOT_TAMPER_STAT_COUNT n) = counted (R.BOOT_TAMPER_STAT_COUNT n) (s.get (R.BOOT_TAMPER_STAT_COUNT n))
         ∧ t.get (R.BOOT_TAMPER_T_NS n) = (s.elapse dt).coarseNow * 1000000000 / 32768 % 2 ^ 64)

/-- What the common registers of a page do. While the host port serves the page: GO makes a commit pending on
every page but a converter's (whose commit may apply at once); DISCARD ends it and every staged value of the
page reads as its active value; clearing UPDATE_LOCK leaves it 0; ERR_COUNT.CLEAR and DL_COUNT.CLEAR leave
their counts at the events of the same clock cycle; ones written to IRQ_STAT clear the raw bits whose enable
is 1, but for a bit that an event of the same cycle sets, and no other; CNT_CLR leaves every counter of the
page at the events of the same cycle. A pending commit of a stopped Kernel whose staged values are in range
applies: no commit is pending and APPLIED has advanced by one. (R85, R91, R92, R94, R96, R161, R205) -/
def Obligations.PageHeaderCommands : Prop :=
  (∀ (s : State) (dt : Nat) (page : Fin 256),
       s.hostOpen page.val = true →
       hasSH page.val = true →
       page.val < 8 ∨ 12 < page.val →
       ∃ t, exec (.commitGo dt page) s = .next t
         ∧ t.flag (H.COMMIT_GO page.val) = true)
  ∧ (∀ (s : State) (dt : Nat) (page : Fin 256),
       s.hostOpen page.val = true →
       hasSH page.val = true →
       ∃ t, exec (.commitDiscard dt page) s = .next t
         ∧ t.flag (H.COMMIT_GO page.val) = false
         ∧ (∀ r : Reg, r.key / 131072 = page.val → t.stagedOf r = t.get r))
  ∧ (∀ (s : State) (dt : Nat) (page : Fin 256),
       0x28 ≤ page.val →
       page.val ≤ 0x2F →
       ((s.elapse dt).undrop page.val).commitWaits page.val = true →
       ((s.elapse dt).undrop page.val).commitFresh page.val 2 = false →
       s.pageRuns page.val = true →
       s.keState (page.val - 0x28) = kOff →
       ((s.elapse dt).undrop page.val).keCommitOk (page.val - 0x28) = true →
       ∃ t, exec (.commitApply dt page) s = .next t
         ∧ t.flag (H.COMMIT_GO page.val) = false
         ∧ t.get (H.COMMIT_APPLIED page.val) = (s.get (H.COMMIT_APPLIED page.val) + 1) % 2 ^ 16)
  ∧ (∀ (s : State) (dt : Nat) (page : Fin 256),
       s.hostOpen page.val = true →
       hasSH page.val = true →
       ∃ t, exec (.updateLockClear dt page) s = .next t
         ∧ t.flag (H.UPDATE_LOCK page.val) = false)
  ∧ (∀ (s : State) (dt : Nat) (page : Fin 256),
       s.hostOpen page.val = true →
       ∃ t, exec (.errCountClear dt page) s = .next t
         ∧ t.get (H.ERR_COUNT page.val) = satN (H.ERR_COUNT page.val).width ((s.elapse dt).countNow (H.ERR_COUNT page.val)))
  ∧ (∀ (s : State) (dt : Nat) (page : Fin 256) (ofs : Fin 4096) (d : DlPair),
       s.hostOpen page.val = true →
       dlPair page.val (ofs.val - 4) = some d →
       ∃ t, exec (.dlCountClear dt page ofs) s = .next t
         ∧ t.get d.total = satN d.total.width ((s.elapse dt).countNow d.total))
  ∧ (∀ (s : State) (dt : Nat) (page : Fin 256) (mask : Fin 4294967296),
       s.hostOpen page.val = true →
       ∃ t, exec (.irqStatClear dt page mask) s = .next t
         ∧ (∀ i : Fin 32, (t.get (H.IRQ_RAW page.val)).testBit i.val = ((s.get (H.IRQ_RAW page.val)).testBit i.val && (!((s.get (H.IRQ_EN page.val)).testBit i.val && mask.val.testBit i.val) || ((s.elapse dt).bitsNow (H.IRQ_RAW page.val)).testBit i.val))))
  ∧ (∀ (s : State) (dt : Nat) (page : Fin 256),
       s.hostOpen page.val = true →
       cntClrOfs page.val ≠ 0 →
       ∃ t, exec (.counterClear dt page) s = .next t
         ∧ (∀ r ∈ cntFields page.val, t.get r = satN r.width ((s.elapse dt).countNow r)))

/-- An SN pair read through a port takes and gives its shadow. Through the host port or the debug port, while
the port serves and the page has its clock: a read of the low word returns it, puts the live high word into
the pair's shadow for that port, and advances SNAP_SEQ by one; a read of the high word with a shadow returns
the shadow and clears it; a read of the high word without one returns the live high word and sets
SNAP_ORDER_ERR. The pair keeps no shadow for the other port from this read. (R89) -/
def Obligations.SnapshotPairReads : Prop :=
  (∀ (s : State) (dt : Nat) (port : Fin 2) (page : Fin 256) (ofs : Fin 4096) (r : Reg),
       (if port.val = 0 then s.hostRuns else !s.sys.inReset && s.locked && s.flag R.BOOT_DEBUG_CFG_LEVEL) = true →
       snAt page.val ofs.val = some r →
       r.ofs = ofs.val →
       s.pageRuns page.val = true →
       ∃ t, exec (.snLowRead dt port page ofs) s = .next t
         ∧ t.hostOut = [(s.elapse dt).snValue r % 2 ^ 32]
         ∧ t.shadowOf port.val r = some ((s.elapse dt).snValue r / 2 ^ 32 % 2 ^ 32)
         ∧ t.get (H.SNAP_SEQ page.val) = (s.get (H.SNAP_SEQ page.val) + 1) % 2 ^ 8
         ∧ (∀ q : Fin 2, q ≠ port → t.shadowOf q.val r = s.shadowOf q.val r))
  ∧ (∀ (s : State) (dt : Nat) (port : Fin 2) (page : Fin 256) (ofs : Fin 4096) (r : Reg) (v : Nat),
       (if port.val = 0 then s.hostRuns else !s.sys.inReset && s.locked && s.flag R.BOOT_DEBUG_CFG_LEVEL) = true →
       snAt page.val ofs.val = some r →
       r.ofs + 4 = ofs.val →
       s.pageRuns page.val = true →
       s.shadowOf port.val r = some v →
       ∃ t, exec (.snHighRead dt port page ofs) s = .next t
         ∧ t.hostOut = [v]
         ∧ t.shadowOf port.val r = none)
  ∧ (∀ (s : State) (dt : Nat) (port : Fin 2) (page : Fin 256) (ofs : Fin 4096) (r : Reg),
       (if port.val = 0 then s.hostRuns else !s.sys.inReset && s.locked && s.flag R.BOOT_DEBUG_CFG_LEVEL) = true →
       snAt page.val ofs.val = some r →
       r.ofs + 4 = ofs.val →
       s.pageRuns page.val = true →
       s.shadowOf port.val r = none →
       ∃ t, exec (.snHighRead dt port page ofs) s = .next t
         ∧ t.hostOut = [(s.elapse dt).snValue r / 2 ^ 32 % 2 ^ 32]
         ∧ t.flag (H.SNAP_ORDER_ERR page.val) = true)

/-- What a host write to table memory does. Through the serving host port: a 32-bit write to an open table
word with at most one bad bit stores it and leaves fresh check bits; with two bad bits the memory is left as
stored and HOST.ERR_COUNT counts; a write that the word's region does not take leaves the memory as it is. A
write of both halves stores both and leaves fresh check bits, whatever the word held. No byte outside the
written ones changes. A register write through the host port to an open table word does the same. (R21, R70,
R83) -/
def Obligations.TableMemoryWrites : Prop :=
  (∀ (s : State) (dt addr w : Nat) (flips : Fin 3),
       s.hostRuns = true →
       inRegion tableBase tableSize (addr / 4 * 4) = true →
       s.tableShut (addr / 4 * 4) = none →
       s.badBits (addr / 4 * 4) + flips.val ≤ 1 →
       ∃ t, exec (.tableWindowWrite dt addr w flips) s = .next t
         ∧ t.mem = s.mem.putWord (addr / 4 * 4) (w % 2 ^ 32)
         ∧ t.badBits (addr / 4 * 4) = 0)
  ∧ (∀ (s : State) (dt addr w : Nat) (flips : Fin 3),
       s.hostRuns = true →
       inRegion tableBase tableSize (addr / 4 * 4) = true →
       s.tableShut (addr / 4 * 4) = none →
       2 ≤ s.badBits (addr / 4 * 4) + flips.val →
       ∃ t, exec (.tableWindowWrite dt addr w flips) s = .next t
         ∧ t.mem = s.mem
         ∧ t.get (H.ERR_COUNT pgHost) = counted (H.ERR_COUNT pgHost) (s.get (H.ERR_COUNT pgHost)))
  ∧ (∀ (s : State) (dt addr w : Nat) (flips : Fin 3),
       s.hostRuns = true →
       inRegion tableBase tableSize (addr / 4 * 4) = true →
       s.tableShut (addr / 4 * 4) ≠ none →
       ∃ t, exec (.tableWindowWrite dt addr w flips) s = .next t
         ∧ t.mem = s.mem)
  ∧ (∀ (s : State) (dt addr w0 w1 : Nat),
       s.hostRuns = true →
       inRegion tableBase tableSize (addr / 8 * 8) = true →
       s.tableShut (addr / 8 * 8) = none →
       ∃ t, exec (.tablePairWrite dt addr w0 w1) s = .next t
         ∧ t.mem = (s.mem.putWord (addr / 8 * 8) (w0 % 2 ^ 32)).putWord (addr / 8 * 8 + 4) (w1 % 2 ^ 32)
         ∧ t.badBits (addr / 8 * 8) = 0)
  ∧ (∀ (s : State) (dt addr w : Nat),
       s.hostRuns = true →
       inRegion tableBase tableSize (addr / 4 * 4) = true →
       s.tableShut (addr / 4 * 4) = none →
       s.badBits (addr / 4 * 4) = 0 →
       ∃ t, exec (.registerWrite dt addr w) s = .next t
         ∧ t.mem = s.mem.putWord (addr / 4 * 4) (w % 2 ^ 32))

/-- A register write of page CANOPY sets its RW fields and nothing else. On page CANOPY, a host write to a
block register other than CNT_CLR and DL_COUNT that R490 does not ignore gives every RW field of the register
its bits of the word and leaves every other register of the device as it was; one that R490 ignores leaves all
of them but the page's error count and interrupt bits as they were. (R5, R490) -/
def Obligations.RegisterWritesByAccessCode : Prop :=
  (∀ (s : State) (dt w ofs : Nat) (q : Reg),
       s.hostOpen pgCanopy = true →
       0x040 ≤ ofs →
       ofs < 4096 →
       ofs % 4 = 0 →
       ofs ≠ cntClrOfs pgCanopy →
       ofs ≠ 0x064 →
       s.refuses pgCanopy ofs (w % 2 ^ 32) = false →
       q ∈ pageFields pgCanopy →
       q.acc = .rw →
       q.ofs = ofs →
       ∃ t, exec (.registerWrite dt (pgCanopy * 4096 + ofs) w) s = .next t
         ∧ t.get q = q.ofWord (w % 2 ^ 32)
         ∧ (∀ r : Reg, r.key / 131072 ≠ pgCanopy → t.get r = s.get r))
  ∧ (∀ (s : State) (dt w ofs : Nat),
       s.hostOpen pgCanopy = true →
       0x040 ≤ ofs →
       ofs < 4096 →
       ofs % 4 = 0 →
       ofs ≠ cntClrOfs pgCanopy →
       ofs ≠ 0x064 →
       s.refuses pgCanopy ofs (w % 2 ^ 32) = true →
       ∃ t, exec (.registerWrite dt (pgCanopy * 4096 + ofs) w) s = .next t
         ∧ (∀ r : Reg, r.key / 131072 ≠ pgCanopy ∨ 0x040 ≤ r.ofs → r.lo < 32 → r.ofs < 4096 → t.get r = s.get r)
         ∧ t.get (H.ERR_COUNT pgCanopy) = counted (H.ERR_COUNT pgCanopy) (s.get (H.ERR_COUNT pgCanopy)))

/-- What a quad-SPI transaction and a debug access do. While the host island runs: an accepted read of count +
1 words answers the accepted marker, the words and, with a CRC, the CRC; a transaction without CRC while
CRC_REQ is 1 answers the refused marker and counts in REFUSED. An accepted write of one table word stores it;
one whose CRC is wrong answers the refused marker, counts in CRC_ERRS and stores nothing. An aborted write
with CRC stores nothing and counts in ABORTS; one without stores the words that arrived. Through the debug
port, after the lock: at level 1 or 2 any address is read as through the fabric, a table word as it stands; at
level 2 any address is written with the host's rights, and a word of Heartwood's SRAM, open in its value, is
read with no other effect; before the lock, at level 0, and for a write or an SRAM read at level 1 there is no
effect. (R447, R448, R449, R450, R451, R75, R76) -/
def Obligations.HostTransactions : Prop :=
  (∀ (s : State) (dt : Nat) (fixed crc : Bool) (count : Fin 32) (addr : Nat) (flips : List (Nat × Nat)),
       s.hostRuns = true →
       s.spiRefuses crc = false →
       ∃ t, exec (.qspiRead dt fixed crc count addr flips) s = .next t
         ∧ t.hostOut.head? = some spiAccepted
         ∧ t.hostOut.length = count.val + 2 + (if crc then 1 else 0))
  ∧ (∀ (s : State) (dt : Nat) (fixed crc : Bool) (count : Fin 32) (addr : Nat) (flips : List (Nat × Nat)),
       s.hostRuns = true →
       s.spiRefuses crc = true →
       ∃ t, exec (.qspiRead dt fixed crc count addr flips) s = .next t
         ∧ t.hostOut = [spiRefused]
         ∧ t.get R.HOST_SPI_STAT_REFUSED = counted R.HOST_SPI_STAT_REFUSED (s.get R.HOST_SPI_STAT_REFUSED))
  ∧ (∀ (s : State) (dt : Nat) (fixed crc : Bool) (addr w : Nat) (sum : Fin 65536),
       s.hostRuns = true →
       s.spiRefuses crc = false →
       crc = true → spiCrc true fixed crc addr [w] 1 = sum.val →
       addr < 2 ^ 32 →
       addr % 4 = 0 →
       inRegion tableBase tableSize addr = true →
       s.tableShut addr = none →
       s.badBits addr = 0 →
       ∃ t, exec (.qspiWrite dt fixed crc addr [w] sum) s = .next t
         ∧ t.mem = s.mem.putWord addr (w % 2 ^ 32)
         ∧ t.hostOut = (if crc then [spiAccepted] else []))
  ∧ (∀ (s : State) (dt : Nat) (fixed : Bool) (addr : Nat) (words : List Nat) (sum : Fin 65536),
       s.hostRuns = true →
       words ≠ [] →
       words.length ≤ 32 →
       spiCrc true fixed true (addr % 2 ^ 32) words words.length ≠ sum.val →
       ∃ t, exec (.qspiWrite dt fixed true addr words sum) s = .next t
         ∧ t.mem = s.mem
         ∧ t.hostOut = [spiRefused]
         ∧ t.get R.HOST_SPI_STAT_CRC_ERRS = counted R.HOST_SPI_STAT_CRC_ERRS (s.get R.HOST_SPI_STAT_CRC_ERRS))
  ∧ (∀ (s : State) (dt : Nat) (fixed : Bool) (addr : Nat) (words : List Nat) (count : Fin 33),
       s.hostRuns = true →
       ∃ t, exec (.qspiAbort dt true fixed true addr words count) s = .next t
         ∧ t.mem = s.mem
         ∧ t.get R.HOST_SPI_STAT_ABORTS = counted R.HOST_SPI_STAT_ABORTS (s.get R.HOST_SPI_STAT_ABORTS))
  ∧ (∀ (s : State) (dt : Nat) (fixed : Bool) (addr w : Nat) (count : Fin 33),
       s.hostRuns = true →
       s.spiRefuses false = false →
       addr < 2 ^ 32 →
       addr % 4 = 0 →
       inRegion tableBase tableSize addr = true →
       s.tableShut addr = none →
       s.badBits addr = 0 →
       ∃ t, exec (.qspiAbort dt true fixed false addr [w] count) s = .next t
         ∧ t.mem = s.mem.putWord addr (w % 2 ^ 32))
  ∧ (∀ (s : State) (dt addr w : Nat),
       s.sys.inReset = false →
       s.locked = true →
       s.get R.BOOT_DEBUG_CFG_LEVEL ≠ 0 →
       addr % 4 = 0 →
       inRegion tableBase tableSize addr = true →
       s.badBits addr = 0 →
       ∃ t, exec (.debugAccess dt false false addr w) s = .next t
         ∧ t.hostOut = [s.mem.word addr]
         ∧ t.mem = s.mem)
  ∧ (∀ (s : State) (dt addr w : Nat),
       s.sys.inReset = false →
       s.locked = true →
       s.get R.BOOT_DEBUG_CFG_LEVEL = 2 →
       addr % 4 = 0 →
       inRegion tableBase tableSize addr = true →
       s.tableShut addr = none →
       s.badBits addr = 0 →
       ∃ t, exec (.debugAccess dt true false addr w) s = .next t
         ∧ t.mem = s.mem.putWord addr (w % 2 ^ 32))
  ∧ (∀ (s : State) (dt addr w : Nat),
       s.sys.inReset = false →
       s.locked = true →
       s.get R.BOOT_DEBUG_CFG_LEVEL ≠ 0 →
       ∃ t, exec (.debugAccess dt false false addr w) s = .next t
         ∧ t.hostOut = [((s.elapse dt).fabRead 1 (addr % 2 ^ 32)).1]
         ∧ t.regs = ((s.elapse dt).fabRead 1 (addr % 2 ^ 32)).2.regs)
  ∧ (∀ (s : State) (dt addr w : Nat),
       s.sys.inReset = false →
       s.locked = true →
       s.get R.BOOT_DEBUG_CFG_LEVEL = 2 →
       ∃ t, exec (.debugAccess dt true false addr w) s = .next t
         ∧ t = (s.elapse dt).fabWrite (addr % 2 ^ 32) w)
  ∧ (∀ (s : State) (dt addr w : Nat),
       s.sys.inReset = false →
       s.locked = true →
       s.get R.BOOT_DEBUG_CFG_LEVEL = 2 →
       ∃ t, exec (.debugAccess dt false true addr w) s = .next t
         ∧ (∃ v < 2 ^ 32, t.hostOut = [v])
         ∧ s.sameBut [.now, .hostOut, .freeCtr] t)
  ∧ (∀ (s : State) (dt addr w : Nat) (write sram : Bool),
       s.sys.inReset = true ∨ s.locked = false ∨ s.get R.BOOT_DEBUG_CFG_LEVEL = 0 ∨ (s.get R.BOOT_DEBUG_CFG_LEVEL = 1 ∧ (write = true ∨ sram = true)) →
       ∃ t, exec (.debugAccess dt write sram addr w) s = .next t
         ∧ t = s.elapse dt)

/-- What a remote access does at the asking and at the answering node. A GO of RA_CTRL with no access
outstanding makes BUSY 1 with the chosen direction and count and a fresh tag, for another node. A node that
holds an acceptable request to write one open table word stores that word and leaves every other byte alone.
(R363, R364, R365, R366) -/
def Obligations.RemoteAccessCommands : Prop :=
  (∀ (s : State) (dt : Nat) (write : Bool) (count : Fin 8),
       s.hostOpen pgVodor = true →
       s.flag R.VODOR_RA_STAT_BUSY = false →
       s.get R.VODOR_RA_NODE_NODE ≠ s.addr →
       ∃ t, exec (.remoteAccessGo dt write count) s = .next t
         ∧ t.flag R.VODOR_RA_STAT_BUSY = true
         ∧ t.flag R.VODOR_RA_CTRL_WRITE = write
         ∧ t.get R.VODOR_RA_CTRL_COUNT = count.val
         ∧ t.ring.raDue = s.now + dt + ms 10
         ∧ t.ring.raTag = (s.ring.raTag + 1) % 65536
         ∧ t.flag R.VODOR_RA_CTRL_GO = true)
  ∧ (∀ (s : State) (dt : Nat) (d : Delivery),
       s.ringRuns = true →
       s.ring.inbox.find? (fun e => decide (e.kind = 2) && decide (e.ptype = 0x0D10)) = some d →
       s.remoteCode d = none →
       (d.payload.getD 2 0).testBit 0 = true →
       d.payload.getD 3 0 = 1 →
       inRegion tableBase tableSize (leAt d.payload 8 4) = true →
       s.tableShut (leAt d.payload 8 4) = none →
       s.badBits (leAt d.payload 8 4) = 0 →
       ∃ t, exec (.remoteRequest dt) s = .next t
         ∧ t.mem = s.mem.putWord (leAt d.payload 8 4) (leAt d.payload 12 4 % 2 ^ 32))

/-- What the host does to a queue. While the host port serves the queues' page: enabling a closed queue with a
region it may have leaves it enabled with that region and empty; disabling an enabled queue with no packet in
part and no flush pending leaves it disabled; a flush empties every named queue with no packet in part. A pop
of an enabled receive queue with a checked packet answers its next word, and the last word releases the
packet. A push into a packet in part stores the word at its place in queue memory and nowhere else. (R370,
R376, R378, R382, R383) -/
def Obligations.QueueCommands : Prop :=
  (∀ (s : State) (dt : Nat) (q : Fin 32) (base : Fin 512) (size : Fin 1024) (tx : Bool) (prio : Fin 8) (notify : Bool),
       s.hostOpen pgPod = true →
       s.flag (R.POD_QCFG_EN q) = false →
       s.regionOk q.val base.val size.val = true →
       ∃ t, exec (.queueEnable dt q base size tx prio notify) s = .next t
         ∧ t.flag (R.POD_QCFG_EN q) = true
         ∧ t.get (R.POD_QCFG_BASE q) = base.val
         ∧ t.get (R.POD_QCFG_SIZE q) = size.val
         ∧ t.flag (R.POD_QCFG_DIR q) = tx
         ∧ t.get (R.POD_QCFG_PRIO q) = prio.val
         ∧ t.get (R.POD_QCNT_PKTS q) = 0)
  ∧ (∀ (s : State) (dt : Nat) (q : Fin 32),
       s.hostOpen pgPod = true →
       s.shape →
       s.flag (R.POD_QCFG_EN q) = true →
       (s.queue q).closing = false →
       (s.queue q).flush = false →
       (s.queue q).part = none →
       ∃ t, exec (.queueDisable dt q) s = .next t
         ∧ t.flag (R.POD_QCFG_EN q) = false
         ∧ (t.queue q).pkts = [])
  ∧ (∀ (s : State) (dt mask : Nat),
       s.hostOpen pgPod = true →
       ∃ t, exec (.queueFlush dt mask) s = .next t
         ∧ (∀ q : Fin 32, (mask % 2 ^ 32).testBit q.val = true → (s.queue q).flush = false → (s.queue q).part = none → (t.queue q).pkts = []))
  ∧ (∀ (s : State) (dt : Nat) (q : Fin 32) (p : Packet) (l : List Packet),
       s.hostRuns = true →
       s.vodRuns = true →
       s.shape →
       s.flag (R.POD_QCFG_EN q) = true →
       s.flag (R.POD_QCFG_DIR q) = false →
       (s.queue q).pkts = p :: l →
       p.checked = true →
       (s.elapse dt).cutWord q = none →
       ∃ t, exec (.qdataPop dt q) s = .next t
         ∧ t.hostOut = [s.queueGet q (p.start + (s.queue q).readPos)]
         ∧ (if (s.queue q).readPos + 1 < p.words then (t.queue q).readPos = (s.queue q).readPos + 1 else (t.queue q).pkts = l))
  ∧ (∀ (s : State) (dt : Nat) (q : Fin 32) (w : Nat) (p : Packet),
       s.hostOpen pgPod = true →
       s.shape →
       s.flag (R.POD_QCFG_EN q) = true →
       s.flag (R.POD_QCFG_DIR q) = true →
       (s.queue q).part = some p →
       (s.queue q).partLen + 1 < p.words →
       ∃ t, exec (.qdataPush dt q w) s = .next t
         ∧ t.mem = s.mem.putWord (s.queueAddr q (p.start + (s.queue q).partLen)) (w % 2 ^ 32)
         ∧ (t.queue q).partLen = (s.queue q).partLen + 1)

/-- What the host's load, mailbox, MDIO and save-port commands do, and a slice that runs late. While the host
port serves their pages: a host load of an enabled host-fed producer gives its buffer the first len bytes of
HTX_DATA; a mailbox request with none pending, and none answered in this cycle, is written, and stays pending
outside the mailbox slice while fewer than 2000 are accepted; before the lock it is answered with BUSY and
counts on HOST; an MDIO command with EN 1 keeps its operands and reads GO 1; a host read of the save port
makes BUSY 1. A Heartwood slice found late counts one miss. (R61, R95, R417, R421, R453, R460, R467) -/
def Obligations.HostServiceCommands : Prop :=
  (∀ (s : State) (dt : Nat) (conn : Fin 16) (len : Fin 64),
       s.hostOpen pgGylen = true →
       s.shape →
       s.refuses pgGylen 0x244 (conn.val + 256 * len.val + 0x10000) = false →
       s.flag (R.GYLEN_CCFG_EN conn) = true →
       s.flag (R.GYLEN_CCFG_DIR conn) = true →
       s.flag (R.GYLEN_CCFG_SRC_HOST conn) = true →
       ∃ t, exec (.gylenHostLoad dt conn len) s = .next t
         ∧ (t.conn conn).host = ((List.range 8).flatMap (fun i => bytesLE 4 (s.get (R.GYLEN_HTX_DATA_DATA i)))).take len.val)
  ∧ (∀ (s : State) (dt : Nat) (service tag : Fin 256),
       s.hostOpen pgMbox = true →
       s.locked = true →
       (s.elapse dt).mboxShut = false →
       s.mboxAccepted < 2000 →
       s.hw.slice ≠ .mail →
       ∃ t, exec (.mailboxGo dt service tag) s = .next t
         ∧ t.mboxPending = true
         ∧ t.flag R.MBOX_REQ_GO = true
         ∧ t.get R.MBOX_REQ_SERVICE = service.val
         ∧ t.get R.MBOX_REQ_TAG = tag.val)
  ∧ (∀ (s : State) (dt : Nat) (service tag : Fin 256),
       s.hostRuns = true →
       s.locked = false →
       ∃ t, exec (.mailboxGo dt service tag) s = .next t
         ∧ t.get R.MBOX_RSP_CODE = rcBusy
         ∧ t.get R.MBOX_RSP_TAG = tag.val
         ∧ t.get (H.ERR_COUNT pgHost) = counted (H.ERR_COUNT pgHost) (s.get (H.ERR_COUNT pgHost)))
  ∧ (∀ (s : State) (dt : Nat) (data : Fin 65536) (reg phy : Fin 32) (write : Bool),
       s.hostOpen pgEth = true →
       s.flag R.ETH_CFG_EN = true →
       ∃ t, exec (.mdioCommand dt data reg phy write) s = .next t
         ∧ t.flag R.ETH_MDIO_CMD_GO = true
         ∧ t.get R.ETH_MDIO_CMD_DATA = data.val
         ∧ t.get R.ETH_MDIO_CMD_REG = reg.val
         ∧ t.get R.ETH_MDIO_CMD_PHY = phy.val
         ∧ t.flag R.ETH_MDIO_CMD_WRITE = write)
  ∧ (∀ (s : State) (dt : Nat) (count : Fin 64),
       s.hostOpen pgSave = true →
       s.refuses pgSave 0x048 count.val = false →
       ∃ t, exec (.saveHostRead dt count) s = .next t
         ∧ t.flag R.SAVE_HOST_CTRL_BUSY = true)
  ∧ (∀ (s : State) (dt : Nat) (ofs : Fin 4096) (d : DlPair),
       dlPair pgMbox ofs.val = some d →
       (s.elapse dt).sliceLate ((ofs.val - 0x0D0) / 8) = true →
       ∃ t, exec (.deadlineMiss dt 0x71 ofs) s = .next t
         ∧ t.get d.total = counted d.total (s.get d.total))

/-- What the source, the beacons and the host do to Canopy time. A node that has heard no better source for 5
ms becomes source and latches event 5 of CANOPY. A source sends one beacon for each beacon instant, with the
next number, and its own time is locked. 500 us after its first copy a beacon is decided: its copies are
dropped, and it counts as accepted or as rejected. A SET_GO at a class 2 source sets the reference to the set
time and marks the next 16 beacons. The coarse count takes the reference. (R355, R356, R357, R358, R359, R494)
-/
def Obligations.CanopyTimeCommands : Prop :=
  (∀ (s : State) (dt t0 : Nat),
       s.vodRuns = true →
       s.ring.inserted = true →
       s.ring.firstUp = some t0 →
       t0 + ms 5 ≤ s.now + dt →
       s.get R.VODOR_RING_CFG_TIME_PRIO < 15 →
       s.ring.betterAt + ms 5 ≤ s.now + dt →
       s.flag R.CANOPY_STATUS_SOURCE = false →
       ∃ t, exec (.becomeSource dt) s = .next t
         ∧ t.flag R.CANOPY_STATUS_SOURCE = true
         ∧ (t.get (H.IRQ_RAW pgCanopy)).testBit 5 = true)
  ∧ (∀ (s : State) (dt : Nat),
       s.vodRuns = true →
       s.flag R.CANOPY_STATUS_SOURCE = true →
       s.ring.beaconAt ≠ (s.elapse dt).canopy / 1000000 * 1000000 →
       ∃ t, exec (.beaconSend dt) s = .next t
         ∧ t.ring.beaconAt = (s.elapse dt).canopy / 1000000 * 1000000
         ∧ t.ring.bseq = (s.ring.bseq + 1) % 65536
         ∧ t.flag R.CANOPY_STATUS_EVER_LOCKED = true
         ∧ t.syncLost = false)
  ∧ (∀ (s : State) (dt : Nat) (c : BeaconCopy) (l : List BeaconCopy),
       s.vodRuns = true →
       s.ring.copies = c :: l →
       c.at_ + us 500 ≤ s.now + dt →
       ∃ t, exec (.beaconDecide dt) s = .next t
         ∧ t.ring.copies = s.ring.copies.filter (fun d => !(decide (d.bseq = c.bseq) && decide (d.node = c.node)))
         ∧ (t.get R.CANOPY_CNT_ACCEPTED = counted R.CANOPY_CNT_ACCEPTED (s.get R.CANOPY_CNT_ACCEPTED) ∨ t.get R.CANOPY_CNT_REJ_REJECTED = counted R.CANOPY_CNT_REJ_REJECTED (s.get R.CANOPY_CNT_REJ_REJECTED)))
  ∧ (∀ (s : State) (dt : Nat),
       s.hostOpen pgCanopy = true →
       s.flag R.CANOPY_STATUS_SOURCE = true →
       s.sourceClass = 2 →
       ∃ t, exec (.canopySet dt) s = .next t
         ∧ t.canopyT.at t.now = ((s.get R.CANOPY_SETT_LO_NS + s.get R.CANOPY_SETT_HI_NS * 2 ^ 32 : Nat) : Rat)
         ∧ t.ring.stepLeft = 16)
  ∧ (∀ (s : State) (dt : Nat),
       s.gridRuns = true →
       ∃ t, exec (.aonCoarseLoad dt) s = .next t
         ∧ t.canopyT.coarse = (s.elapse dt).canopy * 32768 / 1000000000
         ∧ t.canopyT.coarseAt = s.now + dt)

/-- What a ring port does when its line comes, goes and returns. A port that is not UP and aligns reads
aligned, and goes from DOWN to NEGOTIATE once the node is inserted. A loss of alignment is kept with its
instant. An UP port that regains alignment within 2 us counts a relock and stays aligned; one that does not is
no longer UP. A wrapped port that has been UP for 100 ms and past the TC2 boundary is no longer wrapped. A
port that has been in NOVER for 1 ms negotiates again, and the third NOVER in a row makes the node a repeater.
(R329, R330, R333, R347, R348) -/
def Obligations.RingPortCommands : Prop :=
  (∀ (s : State) (dt : Nat) (p : Fin 2),
       s.vodRuns = true →
       s.shape →
       (s.port p).aligned = false →
       s.portUp p = false →
       ∃ t, exec (.portAligned dt p) s = .next t
         ∧ (t.port p).aligned = true
         ∧ (t.port p).lostAt = none
         ∧ (s.ringRuns = true → s.ring.inserted = true → s.portState p = psDown → t.portState p = psNegotiate))
  ∧ (∀ (s : State) (dt : Nat) (p : Fin 2),
       s.vodRuns = true →
       s.shape →
       (s.port p).aligned = true →
       ∃ t, exec (.portAlignLoss dt p) s = .next t
         ∧ (t.port p).aligned = false
         ∧ (t.port p).lostAt = some (s.now + dt))
  ∧ (∀ (s : State) (dt : Nat) (p : Fin 2) (t0 : Nat),
       s.ringRuns = true →
       (s.port p).lostAt = some t0 →
       s.portUp p = true →
       s.now + dt ≤ t0 + us 2 →
       ∃ t, exec (.portRelock dt p) s = .next t
         ∧ (t.port p).aligned = true
         ∧ t.portUp p = true
         ∧ t.get (R.VPORT_CNT_LINK_RELOCKS p) = counted (R.VPORT_CNT_LINK_RELOCKS p) (s.get (R.VPORT_CNT_LINK_RELOCKS p)))
  ∧ (∀ (s : State) (dt : Nat) (p : Fin 2) (t0 : Nat),
       s.ringRuns = true →
       (s.port p).lostAt = some t0 →
       s.portUp p = true →
       t0 + us 2 < s.now + dt →
       ∃ t, exec (.portDown dt p) s = .next t
         ∧ t.portState p = psDown
         ∧ t.isWrapped p = true)
  ∧ (∀ (s : State) (dt : Nat) (p : Fin 2),
       s.ringRuns = true →
       s.isWrapped p = true →
       s.portUp p = true →
       (s.port p).lostAt = none →
       (s.port p).upSince + ms 100 ≤ s.now + dt →
       wrapBoundary (s.canopyT.at ((s.port p).upSince + ms 100)).ceil.toNat ≤ (s.elapse dt).canopy →
       ∃ t, exec (.wrapEnd dt p) s = .next t
         ∧ t.isWrapped p = false)
  ∧ (∀ (s : State) (dt : Nat) (p : Fin 2),
       s.ringRuns = true →
       s.portState p = psNover →
       (s.port p).noverAt + ms 1 ≤ s.now + dt →
       ∃ t, exec (.noverRetry dt p) s = .next t
         ∧ ((s.port p).noverRun < 3 → t.portState p = psNegotiate)
         ∧ (3 ≤ (s.port p).noverRun → t.flag R.VODOR_STATUS_REPEATER = true))

/-- What hellos, delay markers and the insertion do. At the first TC2 boundary, no multiple of 1 ms, after
both receivers are aligned and a coarse time is known, or after 10 ms, the node inserts and its transmitters
are on. A hello that is due is sent and the next is due 1 ms later on an UP port and 10 us later on another. A
delivered hello of the right form is taken from the inbox and its sender's address and versions are shown. A
delay request takes the next number and awaits its answer; a received request keeps its number for the next
hello, and the answer to the outstanding request keeps its interval. (R329, R331, R332, R350, R352) -/
def Obligations.RingHelloAndDelayCommands : Prop :=
  (∀ (s : State) (dt : Nat),
       s.vodRuns = true →
       s.ring.started = true →
       s.ring.inserted = false →
       s.ring.startedAt + ms 10 ≤ s.now + dt - ns ((s.elapse dt).coarseTime % 10000) →
       (s.elapse dt).coarseTime / 10000 * 10000 % 1000000 ≠ 0 →
       ∃ t, exec (.insertion dt) s = .next t
         ∧ t.ring.inserted = true
         ∧ (∀ q ∈ t.ring.ports, q.txOn = true))
  ∧ (∀ (s : State) (dt t0 : Nat),
       s.vodRuns = true →
       s.ring.started = true →
       s.ring.inserted = false →
       s.ring.listenAt = some t0 →
       t0 ≤ s.now + dt - ns ((s.elapse dt).coarseTime % 10000) →
       (s.elapse dt).coarseTime / 10000 * 10000 % 1000000 ≠ 0 →
       ∃ t, exec (.insertion dt) s = .next t
         ∧ t.ring.inserted = true
         ∧ (∀ q ∈ t.ring.ports, q.txOn = true))
  ∧ (∀ (s : State) (dt : Nat) (p : Fin 2),
       s.ringRuns = true →
       s.shape →
       s.ring.inserted = true →
       s.portState p = psNegotiate ∨ s.portUp p = true →
       (s.port p).helloDue ≤ s.now + dt ∨ (s.port p).helloNow = true →
       ∃ t, exec (.helloSend dt p) s = .next t
         ∧ (t.port p).helloNow = false
         ∧ (t.port p).helloDue = s.now + dt + (if s.portUp p then ms 1 else us 10))
  ∧ (∀ (s : State) (dt : Nat) (p : Fin 2) (d : Delivery),
       s.ringRuns = true →
       s.ring.inserted = true →
       s.ring.inbox.find? (fun e => decide (e.kind = 1) && decide (e.port = p.val)) = some d →
       d.ptype = 0x0D02 →
       d.payload.length = 20 →
       ∃ t, exec (.helloReceived dt p) s = .next t
         ∧ t.ring.inbox = s.ring.inbox.erase d
         ∧ t.get (R.VPORT_PARTNER_ADDR p) = leAt d.payload 4 2 % 2 ^ (R.VPORT_PARTNER_ADDR p).width
         ∧ t.get (R.VPORT_PARTNER_MASK p) = d.payload.getD 2 0 % 2 ^ (R.VPORT_PARTNER_MASK p).width)
  ∧ (∀ (s : State) (dt : Nat) (p : Fin 2),
       s.ringRuns = true →
       s.shape →
       s.portUp p = true →
       (s.port p).reqDue ≤ s.now + dt →
       ∃ t, exec (.delayRequest dt p) s = .next t
         ∧ (t.port p).reqMark = ((s.port p).reqMark + 1) % 65536
         ∧ (t.port p).reqOut = true
         ∧ (t.port p).gap = none)
  ∧ (∀ (s : State) (dt : Nat) (p : Fin 2) (mark : Fin 65536) (answer : Bool) (ps : Nat),
       s.ringRuns = true →
       s.shape →
       (s.port p).aligned = true →
       s.portState p = psUp →
       ∃ t, exec (.delayMarkerReceived dt p mark answer ps) s = .next t
         ∧ (answer = false → (t.port p).ansMark = mark.val ∧ (t.port p).ansTurn = ps % 4294967296)
         ∧ (answer = true → (s.port p).reqOut = true → (s.port p).reqMark = mark.val → (t.port p).gap = some ps))

/-- What received, sent and held frames and remote answers do. At an aligned port, a complete frame with a bad
header check, or with a bad frame check, counts under its own count and nothing is delivered; a good hello of
an inserted node is delivered. When the bytes of a frame have left, the port starts the next one, a queue
whose last copy it was has its packet sent, and the transmit queues are asked for their next. Own TC2 frames
whose release time has come are held no longer. The response to the outstanding remote access, or 10 ms
without one, ends it with its code. (R336, R341, R343, R344, R346, R363, R366) -/
def Obligations.RingFrameCommands : Prop :=
  (∀ (s : State) (dt : Nat) (p : Fin 2) (bytes : List Nat),
       s.ringRuns = true →
       (s.port p).aligned = true →
       headerGood bytes = false →
       ∃ t, exec (.frameReceive dt p bytes 0) s = .next t
         ∧ t.get (R.VPORT_CNT_ERR_HCRC p) = counted (R.VPORT_CNT_ERR_HCRC p) (s.get (R.VPORT_CNT_ERR_HCRC p))
         ∧ t.ring = s.ring)
  ∧ (∀ (s : State) (dt : Nat) (p : Fin 2) (bytes : List Nat),
       s.ringRuns = true →
       (s.port p).aligned = true →
       headerGood bytes = true →
       fcsGood bytes = false →
       ∃ t, exec (.frameReceive dt p bytes 0) s = .next t
         ∧ t.get (R.VPORT_CNT_ERR_FCS p) = counted (R.VPORT_CNT_ERR_FCS p) (s.get (R.VPORT_CNT_ERR_FCS p))
         ∧ t.ring = s.ring)
  ∧ (∀ (s : State) (dt : Nat) (p : Fin 2) (bytes : List Nat),
       s.ringRuns = true →
       (s.port p).aligned = true →
       headerGood bytes = true →
       fcsGood bytes = true →
       s.ring.inserted = true →
       (parseFrame bytes).kind = 1 →
       ∃ t, exec (.frameReceive dt p bytes 0) s = .next t
         ∧ t.ring.inbox = s.ring.inbox ++ [⟨1, (parseFrame bytes).src, (parseFrame bytes).seq, (parseFrame bytes).wraps, p.val, (parseFrame bytes).payload, s.now + dt⟩])
  ∧ (∀ (s : State) (dt : Nat) (p : Fin 2) (f : Frame),
       s.ringRuns = true →
       s.shape →
       (s.port p).sending = some f →
       (s.port p).sendEnd ≤ s.now + dt →
       ∃ t, exec (.frameSent dt p) s = .next t
         ∧ t = (((s.elapse dt).copyGone f).setPort p (fun q => ({ q with sending := none, sendEnd := s.now + dt } : PortSt).start (s.now + dt + byteTime 2))).podFeed)
  ∧ (∀ (s : State) (dt : Nat) (p : Fin 2) (f : Frame),
       s.ringRuns = true →
       s.shape →
       (s.port p).sending = some f →
       (s.port p).sendEnd ≤ s.now + dt →
       (∀ e : Fin 3, s.txQueue e.val = none) →
       ∃ t, exec (.frameSent dt p) s = .next t
         ∧ t.port p = ({ s.port p with sending := none, sendEnd := s.now + dt } : PortSt).start (s.now + dt + byteTime 2))
  ∧ (∀ (s : State) (dt : Nat) (p : Fin 2) (f : Frame),
       s.ringRuns = true →
       s.shape →
       (s.port p).sending = some f →
       (s.port p).sendEnd ≤ s.now + dt →
       f.queue < 32 →
       (s.queue f.queue).inFlight = 1 →
       ∃ t, exec (.frameSent dt p) s = .next t
         ∧ (t.queue f.queue).gone = true
         ∧ (t.queue f.queue).inFlight = 0)
  ∧ (∀ (s : State) (dt : Nat),
       s.ringRuns = true →
       ∃ t, exec (.ownTc2Release dt) s = .next t
         ∧ t.ring.held = s.ring.held.filter (fun h => !decide (h.1 + (if h.2.exp then 2000 else 4000) ≤ (s.elapse dt).canopy)))
  ∧ (∀ (s : State) (dt : Nat) (d : Delivery),
       s.ringRuns = true →
       s.ring.inbox.find? (fun e => decide (e.kind = 2) && decide (e.ptype = 0x0D11)) = some d →
       s.flag R.VODOR_RA_STAT_BUSY = true →
       leAt d.payload 4 2 = s.ring.raTag →
       s.now + dt < s.ring.raDue →
       ∃ t, exec (.remoteResponse dt) s = .next t
         ∧ t.flag R.VODOR_RA_STAT_BUSY = false
         ∧ t.flag R.VODOR_RA_STAT_DONE = true
         ∧ t.get R.VODOR_RA_STAT_CODE = d.payload.getD 2 0 % 16)
  ∧ (∀ (s : State) (dt : Nat),
       s.vodRuns = true →
       s.flag R.VODOR_RA_STAT_BUSY = true →
       s.ring.raDue ≤ s.now + dt →
       ∃ t, exec (.remoteTimeout dt) s = .next t
         ∧ t.flag R.VODOR_RA_STAT_BUSY = false
         ∧ t.flag R.VODOR_RA_STAT_DONE = true
         ∧ t.get R.VODOR_RA_STAT_CODE = 5)

/-- What the queues' own events do. While the Vodor island has its clock: a transmit packet whose last byte
has left is released, or was already flushed, and its event is latched where NOTIFY asks for it. A head packet
whose parity check ends well is ready; one that ends badly leaves a transmit queue, and is marked poisoned in
a receive queue. A packet that gets no word for PKT_US is discarded and counted. A page's rise is noticed and
counted, or merged into the notice that still waits for its egress or whose hold time runs, and has no effect
while notices are off; at the end of a hold without merged rises nothing is held. (R379, R380, R381, R386) -/
def Obligations.QueueEvents : Prop :=
  (∀ (s : State) (dt : Nat) (q : Fin 32),
       s.vodRuns = true →
       s.shape →
       s.flag (R.POD_QCFG_DIR q) = true →
       (s.queue q).gone = true →
       (s.queue q).orphan = false →
       ∃ t, exec (.podPacketSent dt q) s = .next t
         ∧ (t.queue q).pkts = (s.queue q).pkts.tail
         ∧ (t.queue q).readPos = 0
         ∧ (s.flag (R.POD_QCFG_NOTIFY q) = true → (t.get R.POD_PKT_EVT_Q).testBit q = true))
  ∧ (∀ (s : State) (dt : Nat) (q : Fin 32),
       s.vodRuns = true →
       s.shape →
       s.flag (R.POD_QCFG_DIR q) = true →
       (s.queue q).gone = true →
       (s.queue q).orphan = true →
       ∃ t, exec (.podPacketSent dt q) s = .next t
         ∧ (t.queue q).pkts = (s.queue q).pkts
         ∧ (t.queue q).orphan = false
         ∧ (s.flag (R.POD_QCFG_NOTIFY q) = true → (t.get R.POD_PKT_EVT_Q).testBit q = true))
  ∧ (∀ (s : State) (dt : Nat) (q : Fin 32) (p : Packet) (l : List Packet),
       s.vodRuns = true →
       s.shape →
       (s.queue q).pkts = p :: l →
       p.checked = false →
       s.flag (R.POD_QCFG_DIR q) = true ∨ (s.queue q).flush = false →
       ∃ t, exec (.parityCheckDone dt q false) s = .next t
         ∧ (t.queue q).pkts.take (l.length + 1) = { p with checked := true } :: l)
  ∧ (∀ (s : State) (dt : Nat) (q : Fin 32) (p : Packet) (l : List Packet),
       s.vodRuns = true →
       s.shape →
       (s.queue q).pkts = p :: l →
       p.checked = false →
       ∃ t, exec (.parityCheckDone dt q true) s = .next t
         ∧ (t.queue q).pkts = (if s.flag (R.POD_QCFG_DIR q) then l else { p with checked := true, poison := true } :: l)
         ∧ t.get R.POD_CNT_POISON_PARITY = counted R.POD_CNT_POISON_PARITY (s.get R.POD_CNT_POISON_PARITY)
         ∧ t.flag R.POD_STATUS_PARITY_SEEN = true)
  ∧ (∀ (s : State) (dt : Nat) (q : Fin 32),
       s.vodRuns = true →
       s.shape →
       (s.queue q).part ≠ none →
       PageIsland.vodor.cycle ((s.queue q).partAt + us (s.get R.POD_TIMEOUT_PKT_US)) < PageIsland.vodor.cycle (s.now + dt) →
       ∃ t, exec (.packetTimeout dt q) s = .next t
         ∧ (t.queue q).part = none
         ∧ t.get R.POD_CNT_POISON_TIMEOUT = counted R.POD_CNT_POISON_TIMEOUT (s.get R.POD_CNT_POISON_TIMEOUT))
  ∧ (∀ (s : State) (dt : Nat) (page : Fin 256) (r : Nat × Nat),
       s.vodRuns = true →
       s.heldNotice page.val = none →
       s.pod.rises.find? (fun e => decide (e.1 = page.val)) = some r →
       s.flag R.POD_NOTICE_CFG_EN = true →
       s.pod.holds.find? (fun h => decide (h.page = page.val)) = none →
       ∃ t, exec (.noticeSend dt page) s = .next t
         ∧ t.get R.POD_CNT_NOTICE_SENT = counted R.POD_CNT_NOTICE_SENT (s.get R.POD_CNT_NOTICE_SENT)
         ∧ t.pod.rises = s.pod.rises.erase r
         ∧ t.pod.holds = { page := page.val, holdEnd := s.now + dt + ms (s.get R.POD_NOTICE_CFG_HOLD_MS), merged := 0, first := 0 } :: s.pod.holds)
  ∧ (∀ (s : State) (dt : Nat) (page : Fin 256) (r : Nat × Nat) (f : Frame),
       s.vodRuns = true →
       s.heldNotice page.val = some f →
       s.pod.rises.find? (fun e => decide (e.1 = page.val)) = some r →
       s.flag R.POD_NOTICE_CFG_EN = true →
       ∃ t, exec (.noticeSend dt page) s = .next t
         ∧ t.get R.POD_CNT_NOTICE_MERGED = counted R.POD_CNT_NOTICE_MERGED (s.get R.POD_CNT_NOTICE_MERGED)
         ∧ t.pod.rises = s.pod.rises.erase r
         ∧ t.pod.holds = s.pod.holds)
  ∧ (∀ (s : State) (dt : Nat) (page : Fin 256) (r : Nat × Nat),
       s.vodRuns = true →
       s.pod.rises.find? (fun e => decide (e.1 = page.val)) = some r →
       s.flag R.POD_NOTICE_CFG_EN = false →
       ∃ t, exec (.noticeSend dt page) s = .next t
         ∧ t.pod = { s.pod with rises := s.pod.rises.erase r }
         ∧ t.regs = s.regs)
  ∧ (∀ (s : State) (dt : Nat) (page : Fin 256) (r : Nat × Nat) (h : NoticeSt),
       s.vodRuns = true →
       s.heldNotice page.val = none →
       s.pod.rises.find? (fun e => decide (e.1 = page.val)) = some r →
       s.flag R.POD_NOTICE_CFG_EN = true →
       s.pod.holds.find? (fun h => decide (h.page = page.val)) = some h →
       ∃ t, exec (.noticeSend dt page) s = .next t
         ∧ t.get R.POD_CNT_NOTICE_MERGED = counted R.POD_CNT_NOTICE_MERGED (s.get R.POD_CNT_NOTICE_MERGED)
         ∧ t.pod.holds = { h with merged := h.merged + 1, first := if h.merged = 0 then r.2 else h.first } :: s.pod.holds.erase h)
  ∧ (∀ (s : State) (dt : Nat) (page : Fin 256) (h : NoticeSt),
       s.vodRuns = true →
       s.pod.holds.find? (fun h => decide (h.page = page.val) && decide (h.holdEnd ≤ s.now + dt)) = some h →
       h.merged = 0 →
       ∃ t, exec (.noticeHoldExpiry dt page) s = .next t
         ∧ t.pod.holds = s.pod.holds.erase h)
  ∧ (∀ (s : State) (dt : Nat) (page : Fin 256) (h : NoticeSt),
       s.vodRuns = true →
       s.pod.holds.find? (fun h => decide (h.page = page.val) && decide (h.holdEnd ≤ s.now + dt)) = some h →
       h.merged ≠ 0 →
       s.pagePending page.val = true →
       s.flag R.POD_NOTICE_CFG_EN = true →
       ∃ t, exec (.noticeHoldExpiry dt page) s = .next t
         ∧ t.get R.POD_CNT_NOTICE_SENT = counted R.POD_CNT_NOTICE_SENT (s.get R.POD_CNT_NOTICE_SENT))

/-- What Gylen's receiver, watchdog and producer do. A delivered frame of no connection counts an error of
page GYLEN; a good frame of a connection that does not run, or whose number lies in the window, is accepted
with its number, and one outside the window counts under SEQ; a frame that fails its checks counts under CRC.
A consumer whose watchdog expires has failed and counts a miss. A due producer sends the next number, 1 after
the lock, and starts its interval anew. (R410, R411, R412, R413, R414, R416) -/
def Obligations.GylenCommands : Prop :=
  (∀ (s : State) (dt : Nat) (d : Delivery),
       s.vodRuns = true →
       s.ring.inbox.find? (fun e => decide (e.kind = 0) && decide (e.ptype = 0x0F01)) = some d →
       s.gylMatch d.src d.payload = none →
       ∃ t, exec (.gylenFrameReceived dt) s = .next t
         ∧ t.get (H.ERR_COUNT pgGylen) = counted (H.ERR_COUNT pgGylen) (s.get (H.ERR_COUNT pgGylen))
         ∧ t.ring.inbox = s.ring.inbox.erase d)
  ∧ (∀ (s : State) (dt n : Nat) (d : Delivery),
       s.vodRuns = true →
       s.ring.inbox.find? (fun e => decide (e.kind = 0) && decide (e.ptype = 0x0F01)) = some d →
       s.gylMatch d.src d.payload = some n →
       s.gylFrameOk n d.payload = true →
       s.connState n ≠ gsRun →
       ∃ t, exec (.gylenFrameReceived dt) s = .next t
         ∧ t.get (R.GYLEN_CSTAT_SEQ n) = gylSeq d.payload % 65536)
  ∧ (∀ (s : State) (dt n : Nat) (d : Delivery),
       s.vodRuns = true →
       s.ring.inbox.find? (fun e => decide (e.kind = 0) && decide (e.ptype = 0x0F01)) = some d →
       s.gylMatch d.src d.payload = some n →
       s.gylFrameOk n d.payload = true →
       s.connState n = gsRun →
       (s.elapse dt).gylExpired n = false →
       s.gylInWindow n (s.get (R.GYLEN_CSTAT_SEQ n)) (gylSeq d.payload) = true →
       ∃ t, exec (.gylenFrameReceived dt) s = .next t
         ∧ t.get (R.GYLEN_CSTAT_SEQ n) = gylSeq d.payload % 65536
         ∧ t.connState n = gsRun)
  ∧ (∀ (s : State) (dt n : Nat) (d : Delivery),
       s.vodRuns = true →
       s.ring.inbox.find? (fun e => decide (e.kind = 0) && decide (e.ptype = 0x0F01)) = some d →
       s.gylMatch d.src d.payload = some n →
       s.gylFrameOk n d.payload = true →
       s.connState n = gsRun →
       (s.elapse dt).gylExpired n = false →
       s.gylInWindow n (s.get (R.GYLEN_CSTAT_SEQ n)) (gylSeq d.payload) = false →
       ∃ t, exec (.gylenFrameReceived dt) s = .next t
         ∧ t.get (R.GYLEN_CSTAT_SEQ n) = s.get (R.GYLEN_CSTAT_SEQ n)
         ∧ t.get (R.GYLEN_CERR_SEQ n) = counted (R.GYLEN_CERR_SEQ n) (s.get (R.GYLEN_CERR_SEQ n)))
  ∧ (∀ (s : State) (dt n : Nat) (d : Delivery),
       s.vodRuns = true →
       s.ring.inbox.find? (fun e => decide (e.kind = 0) && decide (e.ptype = 0x0F01)) = some d →
       s.gylMatch d.src d.payload = some n →
       s.gylFrameOk n d.payload = false →
       ∃ t, exec (.gylenFrameReceived dt) s = .next t
         ∧ t.get (R.GYLEN_CERR_CRC n) = counted (R.GYLEN_CERR_CRC n) (s.get (R.GYLEN_CERR_CRC n)))
  ∧ (∀ (s : State) (dt : Nat) (n : Fin 16),
       s.vodRuns = true →
       (s.elapse dt).gylExpired n.val = true →
       ∃ t, exec (.gylenWatchdogExpiry dt n) s = .next t
         ∧ t.connState n.val = gsFailed
         ∧ t.get (R.GYLEN_DL_COUNT_TOTAL n.val) = counted (R.GYLEN_DL_COUNT_TOTAL n.val) (s.get (R.GYLEN_DL_COUNT_TOTAL n.val)))
  ∧ (∀ (s : State) (dt : Nat) (n : Fin 16),
       s.vodRuns = true →
       s.shape →
       (s.elapse dt).gylDue n.val = true →
       ∃ t, exec (.gylenProduce dt n) s = .next t
         ∧ t.get (R.GYLEN_CSTAT_SEQ n.val) = (if (s.conn n.val).started then (s.get (R.GYLEN_CSTAT_SEQ n.val) + 1) % 65536 else 1)
         ∧ (t.conn n.val).last = s.now + dt
         ∧ (t.conn n.val).started = true
         ∧ (t.conn n.val).changed = false)

/-- What the gateway's link, MDIO and tunnel do. A change of the link while EN is 1 is shown and latches event
0. An MDIO operation that ends leaves GO 0, with the data of a read. A tunnelled frame that passes every check
and fits is counted as received; one that fails counts as bad and latches event 3, and nothing of the ring
changes. (R460, R461, R462, R470) -/
def Obligations.GatewayCommands : Prop :=
  (∀ (s : State) (dt : Nat) (up : Bool),
       s.hostRuns = true →
       s.flag R.ETH_CFG_EN = true →
       s.flag R.ETH_STATUS_LINK ≠ up →
       ∃ t, exec (.ethLinkChange dt up) s = .next t
         ∧ t.flag R.ETH_STATUS_LINK = up
         ∧ (t.get (H.IRQ_RAW pgEth)).testBit 0 = true)
  ∧ (∀ (s : State) (dt : Nat) (data : Fin 65536),
       s.hostRuns = true →
       s.flag R.ETH_MDIO_CMD_GO = true →
       ∃ t, exec (.mdioDone dt data) s = .next t
         ∧ t.flag R.ETH_MDIO_CMD_GO = false
         ∧ t.get R.ETH_MDIO_CMD_DATA = (if s.flag R.ETH_MDIO_CMD_WRITE then s.get R.ETH_MDIO_CMD_DATA else data.val))
  ∧ (∀ (s : State) (dt : Nat) (bytes : List Nat),
       s.hostRuns = true →
       s.locked = true →
       s.flag R.ETH_CFG_EN = true →
       s.flag R.ETH_CFG_TUN_EN = true →
       bytes.getD 12 0 = 0x88 →
       bytes.getD 13 0 = 0xB5 →
       s.tunnelGood bytes = true →
       s.ingressUse + ({ parseFrame (bytes.drop 16) with own := true, queue := tunnelMark } : Frame).size ≤ 16384 →
       ∃ t, exec (.tunnelFrameReceived dt bytes) s = .next t
         ∧ t.get R.ETH_CNT_TUN_RX = counted R.ETH_CNT_TUN_RX (s.get R.ETH_CNT_TUN_RX))
  ∧ (∀ (s : State) (dt : Nat) (bytes : List Nat),
       s.hostRuns = true →
       s.locked = true →
       s.flag R.ETH_CFG_EN = true →
       s.flag R.ETH_CFG_TUN_EN = true →
       bytes.getD 12 0 = 0x88 →
       bytes.getD 13 0 = 0xB5 →
       s.tunnelGood bytes = false →
       ∃ t, exec (.tunnelFrameReceived dt bytes) s = .next t
         ∧ t.get R.ETH_CNT_ERR_BAD = counted R.ETH_CNT_ERR_BAD (s.get R.ETH_CNT_ERR_BAD)
         ∧ (t.get (H.IRQ_RAW pgEth)).testBit 3 = true
         ∧ t.ring = s.ring)

/-- What the 1588 messages do at a gateway. At a running gateway: the first Announce of the domain names the
best master; a Sync of the best master disciplines the reference and keeps its instant; LOSS_S seconds without
one end that, and a locked gateway is no longer locked; a Pdelay_Req leaves every second with the next number;
its answer ends the request with a peer delay; a received one is answered with its number and port. (R464,
R465) -/
def Obligations.PrecisionTimeCommands : Prop :=
  (∀ (s : State) (dt domain prio1 cls acc var prio2 gm steps sender : Nat),
       s.ptpRuns = true →
       domain = s.get R.ETH_CFG_DOMAIN →
       s.eth.best = none →
       ∃ t, exec (.ptpAnnounce dt domain prio1 cls acc var prio2 gm steps sender) s = .next t
         ∧ t.eth.best = some [prio1, cls, acc, var, prio2, gm, steps, sender]
         ∧ t.eth.bestAt = s.now + dt)
  ∧ (∀ (s : State) (dt domain sender origin : Nat) (corr : Int) (b : List Nat),
       s.ptpRuns = true →
       domain = s.get R.ETH_CFG_DOMAIN →
       s.eth.best = some b →
       b.getLast? = some sender →
       ∃ t, exec (.ptpSync dt domain sender origin corr) s = .next t
         ∧ t.eth.live = true
         ∧ t.eth.lastSync = s.now + dt)
  ∧ (∀ (s : State) (dt : Nat),
       s.ptpRuns = true →
       s.eth.live = true →
       s.eth.lastSync + secs (s.get R.ETH_PTP_CFG_LOSS_S) ≤ s.now + dt →
       ∃ t, exec (.ptpLoss dt) s = .next t
         ∧ t.eth.live = false
         ∧ t.flag R.ETH_STATUS_PTP_LOCKED = false)
  ∧ (∀ (s : State) (dt : Nat),
       s.ptpRuns = true →
       s.eth.pdAt.all (fun t0 => decide (t0 + secs 1 ≤ s.now + dt)) = true →
       ∃ t, exec (.ptpPdelaySend dt) s = .next t
         ∧ t.eth.pdSeq = (s.eth.pdSeq + 1) % 65536
         ∧ t.eth.pdOut = true
         ∧ t.eth.pdAt = some (s.now + dt)
         ∧ t.eth.txPtp = .req t.eth.pdSeq)
  ∧ (∀ (s : State) (dt : Nat) (seq : Fin 65536) (t2 t3 : Nat) (corr : Int),
       s.ptpRuns = true →
       s.eth.pdOut = true →
       seq.val = s.eth.pdSeq →
       ∃ t, exec (.ptpPdelayResp dt seq t2 t3 corr) s = .next t
         ∧ t.eth.pdOut = false
         ∧ t.eth.pdelay ≠ none)
  ∧ (∀ (s : State) (dt : Nat) (seq : Fin 65536) (port : Nat),
       s.ptpRuns = true →
       ∃ t, exec (.ptpPdelayReq dt seq port) s = .next t
         ∧ (∃ rx, t.eth.txPtp = .resp seq.val port rx))

/-- What a log record, the log writer and an unfreeze do. Outside a reset a submitted record joins the end of
the writer's queue, with the Canopy time, the mark of a lost source and 17 data bytes; with 256 waiting it is
lost and counted. The writer takes the oldest record: its 32 bytes stand in the first unprotected slot from
the next one on, and every other byte is unchanged. UNFREEZE clears FROZEN and ends every protection, but for
a freeze that a critical record of the same cycle made. (R30, R436, R439, R440, R441) -/
def Obligations.LogCommands : Prop :=
  (∀ (s : State) (dt : Nat) (page : Fin 256) (sev : Fin 3) (code : Fin 65536) (data : List Nat) (origin : Fin 3),
       s.sys.inReset = false →
       s.log.queue.length < 256 →
       ∃ t, exec (.logRecordSubmit dt page sev code data origin) s = .next t
         ∧ t.log.queue = s.log.queue ++ [⟨(s.elapse dt).stamp page.val, s.syncLost, page.val, sev.val, code.val, slice data 0 17, origin.val⟩]
         ∧ t.mem = s.mem)
  ∧ (∀ (s : State) (dt : Nat) (page : Fin 256) (sev : Fin 3) (code : Fin 65536) (data : List Nat) (origin : Fin 3),
       s.sys.inReset = false →
       256 ≤ s.log.queue.length →
       ∃ t, exec (.logRecordSubmit dt page sev code data origin) s = .next t
         ∧ t.log.queue = s.log.queue
         ∧ t.log.lost = s.log.lost + 1
         ∧ t.flag R.GLOG_STATUS_LOST_SEEN = true
         ∧ t.get R.GLOG_CNT_LOST = counted R.GLOG_CNT_LOST (s.get R.GLOG_CNT_LOST))
  ∧ (∀ (s : State) (dt : Nat) (r : LogRec) (q : List LogRec),
       s.hwRuns = true →
       s.log.resumed = true →
       s.log.queue = r :: q →
       s.log.lost = 0 →
       q.length < 256 →
       ∃ t, exec (.logRecordWrite dt) s = .next t
         ∧ t.log.nextSeq = seqAfter s.log.nextSeq
         ∧ t.log.queue.take q.length = q
         ∧ t.mem.getBytes (slotAddr (freeSlot s.log.prot (s.log.prot.length + 1) s.log.nextSlot)) 32 = (r.bytes s.log.nextSeq).map (· % 256)
         ∧ (∀ a : Nat, a < (slotAddr (freeSlot s.log.prot (s.log.prot.length + 1) s.log.nextSlot)) ∨ (slotAddr (freeSlot s.log.prot (s.log.prot.length + 1) s.log.nextSlot)) + 32 ≤ a → t.mem.get a = s.mem.get a))
  ∧ (∀ (s : State) (dt : Nat) (r : LogRec) (q : List LogRec),
       s.hwRuns = true →
       s.log.resumed = true →
       s.log.queue = r :: q →
       ∃ t, exec (.logRecordWrite dt) s = .next t
         ∧ t.log.queue.take q.length = q
         ∧ (t.get (H.IRQ_RAW pgGlog)).testBit (r.sev % 4) = true)
  ∧ (∀ (s : State) (dt t0 slot : Nat),
       s.hostOpen pgGlog = true →
       s.log.critAt = some (t0, slot, s.get R.GLOG_FREEZE_SEQ) →
       PageIsland.heartwood.cycle t0 = PageIsland.heartwood.cycle (s.now + dt) →
       s.flag R.GLOG_CFG_FREEZE_EN = true →
       ∃ t, exec (.logUnfreeze dt) s = .next t
         ∧ t = s.elapse dt)
  ∧ (∀ (s : State) (dt : Nat),
       s.hostOpen pgGlog = true →
       s.log.critAt.all (fun e => decide (PageIsland.heartwood.cycle e.1 ≠ PageIsland.heartwood.cycle (s.now + dt))) = true →
       ∃ t, exec (.logUnfreeze dt) s = .next t
         ∧ t.flag R.GLOG_STATUS_FROZEN = false
         ∧ t.log.prot = [])

/-- What the mailbox services answer. A service that a mailbox slice has taken is answered with OK and its
words: IDENTITY with seven, IMAGE_STATUS with eleven, LOG_READ of one or two records with the records found or
NO_DATA; with another count BAD_ARG. KEY_PROVISION outside Quarantine is refused; in Quarantine with good
arguments it starts the fuse controller and stays pending. An unallocated service is answered UNKNOWN, in
Quarantine REFUSED. An answered request is no longer pending and DONE is 1. A fuse controller that ends leaves
what it programmed in the slot. (R454, R455, R456, R443) -/
def Obligations.MailboxServices : Prop :=
  (∀ (s : State) (dt : Nat),
       s.serving 1 = true →
       ∃ t, exec (.identity dt) s = .next t
         ∧ t.get R.MBOX_RSP_CODE = rcOk
         ∧ t.get R.MBOX_RSP_TAG = s.get R.MBOX_REQ_TAG % 2 ^ R.MBOX_RSP_TAG.width
         ∧ t.mboxPending = false
         ∧ t.flag R.MBOX_RSP_DONE = true
         ∧ t.get (R.MBOX_RSP_DATA_DATA 0) = s.wordOf 0x00 0x040 % 2 ^ 32
         ∧ t.get (R.MBOX_RSP_DATA_DATA 1) = s.wordOf 0x00 0x044 % 2 ^ 32
         ∧ t.get (R.MBOX_RSP_DATA_DATA 2) = s.wordOf 0x00 0x048 % 2 ^ 32
         ∧ t.get (R.MBOX_RSP_DATA_DATA 3) = s.get R.BOOT_DEV_SERIAL_LO_SERIAL % 2 ^ 32
         ∧ t.get (R.MBOX_RSP_DATA_DATA 4) = s.get R.BOOT_DEV_SERIAL_HI_SERIAL % 2 ^ 32
         ∧ t.get (R.MBOX_RSP_DATA_DATA 5) = s.wordOf pgVodor 0x040 % 2 ^ 32
         ∧ t.get (R.MBOX_RSP_DATA_DATA 6) = s.wordOf pgBoot 0x044 % 2 ^ 32)
  ∧ (∀ (s : State) (dt : Nat),
       s.serving 2 = true →
       ∃ t, exec (.imageStatus dt) s = .next t
         ∧ t.get R.MBOX_RSP_CODE = rcOk
         ∧ t.get R.MBOX_RSP_TAG = s.get R.MBOX_REQ_TAG % 2 ^ R.MBOX_RSP_TAG.width
         ∧ t.mboxPending = false
         ∧ t.flag R.MBOX_RSP_DONE = true
         ∧ t.get (R.MBOX_RSP_DATA_DATA 0) = s.wordOf pgBoot 0x040 % 2 ^ 32
         ∧ t.get (R.MBOX_RSP_DATA_DATA 1) = s.wordOf pgBoot 0x068 % 2 ^ 32
         ∧ (∀ i : Fin 8, t.get (R.MBOX_RSP_DATA_DATA (i.val + 2)) = s.wordOf pgBoot (0x048 + 4 * i.val) % 2 ^ 32)
         ∧ t.get (R.MBOX_RSP_DATA_DATA 10) = s.wordOf pgBoot 0x07C % 2 ^ 32)
  ∧ (∀ (s : State) (dt : Nat),
       s.serving 3 = true →
       s.get (R.MBOX_ARG_ARG 1) = 1 ∨ s.get (R.MBOX_ARG_ARG 1) = 2 →
       ∃ t, exec (.logRead dt) s = .next t
         ∧ t.get R.MBOX_RSP_CODE = (if s.logFound (s.get (R.MBOX_ARG_ARG 0) % 65536) (s.get (R.MBOX_ARG_ARG 1)) = [] then rcNoData else rcOk)
         ∧ t.get R.MBOX_RSP_TAG = s.get R.MBOX_REQ_TAG % 2 ^ R.MBOX_RSP_TAG.width
         ∧ t.mboxPending = false
         ∧ t.flag R.MBOX_RSP_DONE = true
         ∧ t.get R.MBOX_RSP_COUNT = (s.logFound (s.get (R.MBOX_ARG_ARG 0) % 65536) (s.get (R.MBOX_ARG_ARG 1))).length % 2 ^ R.MBOX_RSP_COUNT.width)
  ∧ (∀ (s : State) (dt : Nat),
       s.serving 3 = true →
       s.get (R.MBOX_ARG_ARG 1) ≠ 1 →
       s.get (R.MBOX_ARG_ARG 1) ≠ 2 →
       ∃ t, exec (.logRead dt) s = .next t
         ∧ t.get R.MBOX_RSP_CODE = rcBadArg
         ∧ t.get R.MBOX_RSP_TAG = s.get R.MBOX_REQ_TAG % 2 ^ R.MBOX_RSP_TAG.width
         ∧ t.mboxPending = false
         ∧ t.flag R.MBOX_RSP_DONE = true)
  ∧ (∀ (s : State) (dt : Nat),
       s.serving 4 = true →
       s.hw.fuseBusy = none →
       s.quarantine = false →
       ∃ t, exec (.keyProvision dt) s = .next t
         ∧ t.get R.MBOX_RSP_CODE = rcRefused
         ∧ t.get R.MBOX_RSP_TAG = s.get R.MBOX_REQ_TAG % 2 ^ R.MBOX_RSP_TAG.width
         ∧ t.mboxPending = false
         ∧ t.flag R.MBOX_RSP_DONE = true)
  ∧ (∀ (s : State) (dt : Nat),
       s.serving 4 = true →
       s.hw.fuseBusy = none →
       s.quarantine = true →
       s.get (R.MBOX_ARG_ARG 0) / 256 % 256 = 0x5A →
       s.argHash ≠ 0 →
       s.fuse.keys.getD (s.get (R.MBOX_ARG_ARG 0) % 4) 0 = 0 →
       s.fuse.revoked.testBit (s.get (R.MBOX_ARG_ARG 0) % 4) = false →
       ∃ t, exec (.keyProvision dt) s = .next t
         ∧ t.hw.fuseBusy = some (s.get (R.MBOX_ARG_ARG 0) % 4, s.argHash)
         ∧ t.mboxPending = s.mboxPending)
  ∧ (∀ (s : State) (dt : Nat),
       s.serving (s.get R.MBOX_REQ_SERVICE) = true →
       s.get R.MBOX_REQ_SERVICE = 0 ∨ 4 < s.get R.MBOX_REQ_SERVICE →
       ∃ t, exec (.unknownService dt) s = .next t
         ∧ t.get R.MBOX_RSP_CODE = (if s.quarantine then rcRefused else rcUnknown)
         ∧ t.get R.MBOX_RSP_TAG = s.get R.MBOX_REQ_TAG % 2 ^ R.MBOX_RSP_TAG.width
         ∧ t.mboxPending = false
         ∧ t.flag R.MBOX_RSP_DONE = true)
  ∧ (∀ (s : State) (dt back : Nat) (slot : Fin 4) (h : Nat),
       s.hw.fuseBusy = some (slot.val, h) →
       s.hw.fuseDone = false →
       s.fuse.keys.length = 4 →
       ∃ t, exec (.fuseProgramDone dt back) s = .next t
         ∧ t.fuse.keys.getD slot.val 0 = back % 2 ^ 256
         ∧ t.hw.fuseDone = true)

/-- What Heartwood's frame and slices do. While Heartwood runs after the boot, a frame at least 990 us after
the last starts with the safety slice, no slice ended, and the watchdog served. The Gylen, housekeeping and
mailbox slices follow in this order, each when the one before it is running; the mailbox slice takes a pending
request that fits before the frame's 950th microsecond. A host read of the save port that ends makes BUSY 0
and gives the FRAM's bytes. (R458, R459, R456, R467) -/
def Obligations.HeartwoodCommands : Prop :=
  (∀ (s : State) (dt : Nat),
       s.hwRuns = true →
       s.boot = .ready ∨ s.boot = .done →
       s.hw.frames = 0 ∨ s.hw.frameAt + us 990 ≤ s.now + dt →
       ∃ t, exec (.heartwoodFrame dt) s = .next t
         ∧ t.hw.frameAt = s.now + dt
         ∧ t.hw.frames = s.hw.frames + 1
         ∧ t.hw.slice = .safety
         ∧ t.hw.ended = [false, false, false, false]
         ∧ t.sys.wdogServed = s.now + dt)
  ∧ (∀ (s : State) (dt : Nat),
       s.hwRuns = true →
       s.hw.slice = .safety →
       ∃ t, exec (.gylenSlice dt) s = .next t
         ∧ t.hw.slice = .gylen
         ∧ t.hw.sliceAt = s.now + dt
         ∧ t.hw.ended = s.hw.ended.set 0 true
         ∧ (∀ n : Fin 16, (t.conn n.val).second = [])
         ∧ t.safe.stateH = t.permitMask 1)
  ∧ (∀ (s : State) (dt : Nat),
       s.hwRuns = true →
       s.hw.slice = .gylen →
       ∃ t, exec (.housekeepingSlice dt) s = .next t
         ∧ t.hw.slice = .house
         ∧ t.hw.sliceAt = s.now + dt
         ∧ t.hw.ended = s.hw.ended.set 1 true
         ∧ t.sys.tampOwed = [])
  ∧ (∀ (s : State) (dt : Nat),
       s.hwRuns = true →
       s.hw.slice = .house →
       s.mboxPending = true →
       s.hw.taken = false →
       s.hw.fuseBusy = none →
       s.now + dt + us (serviceCost (s.get R.MBOX_REQ_SERVICE)) ≤ s.hw.frameAt + us 950 →
       ∃ t, exec (.mailboxSlice dt) s = .next t
         ∧ t.hw.slice = .mail
         ∧ t.hw.sliceAt = s.now + dt
         ∧ t.hw.taken = true
         ∧ t.mboxPending = true)
  ∧ (∀ (s : State) (dt : Nat),
       s.hwRuns = true →
       s.hw.slice = .house →
       s.mboxPending = false →
       s.hw.fuseBusy = none →
       ∃ t, exec (.mailboxSlice dt) s = .next t
         ∧ t.hw.slice = .mail
         ∧ t.hw.sliceAt = s.now + dt
         ∧ t.hw.taken = s.hw.taken)
  ∧ (∀ (s : State) (dt : Nat) (flash : List Nat),
       s.hostRuns = true →
       s.flag R.SAVE_HOST_CTRL_BUSY = true →
       s.meter.write = none →
       max s.meter.readAt s.meter.saveEnd + s.readTime (s.get R.SAVE_HOST_CTRL_COUNT + 1) ≤ s.now + dt →
       s.flag R.SAVE_HOST_ADDR_CS = false →
       s.get R.SAVE_HOST_CTRL_COUNT = 3 →
       ∃ t, exec (.saveHostReadDone dt flash) s = .next t
         ∧ t.flag R.SAVE_HOST_CTRL_BUSY = false
         ∧ t.get (R.SAVE_HOST_DATA_DATA 0) = leAt (s.saveBytes flash) 0 4
         ∧ (t.get (H.IRQ_RAW pgSave)).testBit 0 = true)

/-- What the meter's cycle, pulses, checks and broadcast do. While the meter runs: the first passage of the
angle through 0 since it started begins a cycle; every later one, a millisecond or more after the cycle began,
ends the cycle in progress, stamps CYCLE_T, keeps its length, latches event 0 and begins the next. An owed
pulse of a low output starts and is owed no longer; its width later the output falls. A check whose condition
has held or failed for 1 s is shown. At a multiple of 100 ms the total group is broadcast once, under the next
number. (R305, R306, R314, R316, R323) -/
def Obligations.MeterCommands : Prop :=
  (∀ (s : State) (dt z : Nat),
       s.gridRuns = true →
       s.flag R.METER_STATUS_RUN = true →
       s.meter.start = none →
       (s.elapse dt).zeroPassed = some z →
       s.meter.runAt ≤ z →
       ∃ t, exec (.meterCycleEnd dt) s = .next t
         ∧ t.meter.start = some (z, (s.elapse dt).canopyAt z)
         ∧ t.meter.last = s.meter.last
         ∧ t.get (R.METER_CYCLE_T_NS) = s.get R.METER_CYCLE_T_NS)
  ∧ (∀ (s : State) (dt t0 z : Nat) (c0 : Int),
       s.gridRuns = true →
       s.flag R.METER_STATUS_RUN = true →
       s.meter.start = some (t0, c0) →
       (s.elapse dt).zeroPassed = some z →
       t0 + ms 1 ≤ z →
       ∃ t, exec (.meterCycleEnd dt) s = .next t
         ∧ t.meter.start = some (z, (s.elapse dt).canopyAt z)
         ∧ t.meter.tc = ((s.elapse dt).canopyAt z - c0).toNat
         ∧ t.get R.METER_CYCLE_T_NS = ((s.elapse dt).canopyAt (PageIsland.grid.edge z)).toNat % 2 ^ 64
         ∧ t.meter.last ≠ none
         ∧ (t.get (H.IRQ_RAW pgMeter)).testBit 0 = true)
  ∧ (∀ (s : State) (dt t0 z : Nat) (c0 : Int),
       s.gridRuns = true →
       s.flag R.METER_STATUS_RUN = true →
       s.meter.start = some (t0, c0) →
       (s.elapse dt).zeroPassed = some z →
       z < t0 + ms 1 →
       ∃ t, exec (.meterCycleEnd dt) s = .next t
         ∧ t = s.elapse dt)
  ∧ (∀ (s : State) (dt : Nat) (n : Fin 4),
       s.gridRuns = true →
       s.flag R.METER_STATUS_RUN = true →
       s.meter.pulse.length = 4 →
       s.flag (R.METER_PULSE_CFG_EN n) = true →
       0 < s.get (R.METER_OWED_OWED n) →
       (s.meter.pulse.getD n.val {}).high = false →
       (s.meter.pulse.getD n.val {}).startAt = none →
       ∃ t, exec (.pulseStart dt n) s = .next t
         ∧ t.get (R.METER_OWED_OWED n) = (s.get (R.METER_OWED_OWED n) - 1) % 2 ^ (R.METER_OWED_OWED n).width
         ∧ (t.meter.pulse.getD n.val {}).high = true
         ∧ (t.meter.pulse.getD n.val {}).startAt = some (s.now + dt))
  ∧ (∀ (s : State) (dt t0 : Nat) (n : Fin 4),
       s.gridRuns = true →
       s.meter.pulse.length = 4 →
       (s.meter.pulse.getD n.val {}).high = true →
       (s.meter.pulse.getD n.val {}).startAt = some t0 →
       t0 + (s.meter.pulse.getD n.val {}).w ≤ s.now + dt →
       ∃ t, exec (.pulseEnd dt n) s = .next t
         ∧ (t.meter.pulse.getD n.val {}).high = false
         ∧ t.regs = s.regs)
  ∧ (∀ (s : State) (dt t0 : Nat) (c : Fin 4) (b : Bool),
       s.gridRuns = true →
       s.flag R.METER_STATUS_RUN = true →
       s.meter.chk.getD c.val (false, 0) = (b, t0) →
       t0 + secs 1 ≤ s.now + dt →
       s.flag (chkFlag c.val) ≠ b →
       ∃ t, exec (.connectionCheck dt c) s = .next t
         ∧ t.flag (chkFlag c.val) = b)
  ∧ (∀ (s : State) (dt : Nat),
       s.gridRuns = true →
       s.flag R.METER_STATUS_RUN = true →
       s.vodRuns = true →
       s.flag R.METER_BCAST_EN = true →
       s.meter.castAt / 100000000 < (s.elapse dt).canopy / 100000000 →
       ∃ t, exec (.energyBroadcast dt) s = .next t
         ∧ t.meter.bseq = (s.meter.bseq + 1) % 65536
         ∧ t.meter.castAt = (s.elapse dt).canopy)

/-- What the meter's saves, the power-fail warning and the restore do. Where the meter may write, a periodic
record of the next number is started at a whole second into one of the two slots; its check, once the save
port has moved it both ways, ends the write, clears or sets SAVE_FAIL and counts. A heartbeat of 32 bytes is
written at a multiple of 100 ms. The fall of PFW_N, noted in reset and there of no other effect, is shown,
stops the periodic writes and starts the final record where saves are made; its end is shown. The rise is
shown, and 10 ms later writing may resume. A restore makes the meter ready, with SAVE_FAIL where no FRAM
answers, with FOREIGN and no saves where the FRAM belongs to another device, and with the energies of the
newest valid record where it is this device's. SAVE_ADOPT clears FOREIGN and writes the header; without
FOREIGN it is counted as an error. (R317, R318, R319, R320, R321, R322, R324) -/
def Obligations.MeterSaveCommands : Prop :=
  (∀ (s : State) (dt : Nat),
       s.mayWrite = true →
       s.meter.write = none →
       s.meter.perAt / 1000000000 < (s.elapse dt).canopy / 1000000000 →
       ∃ t, exec (.periodicSave dt) s = .next t
         ∧ (∃ a, (a = slotA ∨ a = slotB) ∧ t.meter.write = some (a, (s.elapse dt).energyRecord 1 (nextRecord s.meter.seq) s.energies))
         ∧ t.meter.seq = nextRecord s.meter.seq
         ∧ t.meter.perSeq = nextRecord s.meter.seq
         ∧ t.meter.perAt = (s.elapse dt).canopy)
  ∧ (∀ (s : State) (dt a : Nat) (readback l : List Nat),
       s.mayWrite = true →
       s.meter.write = some (a, l) →
       a ≠ slotFinal →
       s.meter.writeAt + s.writeTime 512 + s.readTime 512 ≤ s.now + dt →
       slice readback 0 512 = l →
       ∃ t, exec (.saveVerify dt readback) s = .next t
         ∧ t.meter.write = none
         ∧ t.meter.fram = s.meter.fram.putBytes a l
         ∧ t.flag R.METER_STATUS_SAVE_FAIL = false
         ∧ t.get R.METER_CNT_B_SAVES = counted R.METER_CNT_B_SAVES (s.get R.METER_CNT_B_SAVES))
  ∧ (∀ (s : State) (dt a : Nat) (readback l : List Nat),
       s.mayWrite = true →
       s.meter.write = some (a, l) →
       a ≠ slotFinal →
       s.meter.writeAt + s.writeTime 512 + s.readTime 512 ≤ s.now + dt →
       slice readback 0 512 ≠ l →
       ∃ t, exec (.saveVerify dt readback) s = .next t
         ∧ t.meter.write = none
         ∧ t.meter.fram = s.meter.fram.putBytes a (slice readback 0 512)
         ∧ t.flag R.METER_STATUS_SAVE_FAIL = true
         ∧ t.get R.METER_CNT_B_SAVE_ERRS = counted R.METER_CNT_B_SAVE_ERRS (s.get R.METER_CNT_B_SAVE_ERRS))
  ∧ (∀ (s : State) (dt : Nat),
       s.mayWrite = true →
       s.meter.write = none →
       s.meter.resync = false →
       (s.elapse dt).canopy / 1000000000 ≤ s.meter.perAt / 1000000000 →
       s.meter.beatAt / 100000000 < (s.elapse dt).canopy / 100000000 →
       ∃ t, exec (.heartbeatSave dt) s = .next t
         ∧ t.meter.beatAt = (s.elapse dt).canopy
         ∧ t.framBytes beatSlot 8 = bytesLE 4 0x4842544F ++ bytesLE 4 s.meter.perSeq
         ∧ t.regs = s.regs)
  ∧ (∀ (s : State) (dt : Nat),
       s.sys.inReset = true →
       ∃ t, exec (.pfwFall dt) s = .next t
         ∧ t.sys.pfwLow = true
         ∧ t.regs = s.regs)
  ∧ (∀ (s : State) (dt : Nat),
       s.flag R.RSTPWR_PWR_STAT_PFW = false →
       s.sys.inReset = false →
       ∃ t, exec (.pfwFall dt) s = .next t
         ∧ t.flag R.RSTPWR_PWR_STAT_PFW = true
         ∧ t.meter.stopped = true
         ∧ t.sys.pfwLow = true)
  ∧ (∀ (s : State) (dt : Nat),
       s.flag R.RSTPWR_PWR_STAT_PFW = false →
       s.gridRuns = true →
       s.hostRuns = true →
       s.flag R.METER_STATUS_RUN = true →
       s.meter.saving = true →
       ∃ t, exec (.pfwFall dt) s = .next t
         ∧ t.flag R.RSTPWR_PWR_STAT_PFW = true
         ∧ t.meter.stopped = true
         ∧ (∃ r, t.meter.write = some (slotFinal, r)))
  ∧ (∀ (s : State) (dt : Nat) (l : List Nat),
       s.gridRuns = true →
       s.hostRuns = true →
       s.meter.write = some (slotFinal, l) →
       s.meter.writeAt + s.writeTime 512 ≤ s.now + dt →
       ∃ t, exec (.finalSaveDone dt) s = .next t
         ∧ t.meter.write = none
         ∧ t.meter.fram = s.meter.fram.putBytes slotFinal l
         ∧ t.flag R.METER_STATUS_PF_SAVED = true
         ∧ (t.get (H.IRQ_RAW pgMeter)).testBit 2 = true)
  ∧ (∀ (s : State) (dt : Nat),
       s.sys.inReset = false →
       s.flag R.RSTPWR_PWR_STAT_PFW = true →
       ∃ t, exec (.pfwRise dt) s = .next t
         ∧ t.flag R.RSTPWR_PWR_STAT_PFW = false
         ∧ t.meter.riseAt = some (s.now + dt)
         ∧ t.meter.write = s.meter.write)
  ∧ (∀ (s : State) (dt t0 : Nat),
       s.meter.riseAt = some t0 →
       s.meter.stopped = true →
       t0 + ms 10 ≤ s.now + dt →
       ∃ t, exec (.pfwResume dt) s = .next t
         ∧ t.meter.stopped = false
         ∧ t.meter.perAt = (s.elapse dt).canopy
         ∧ t.meter.resync = true)
  ∧ (∀ (s : State) (dt : Nat),
       s.gridRuns = true →
       s.hostRuns = true →
       s.locked = true →
       s.quarantine = false →
       s.meter.ready = false →
       ∃ t, exec (.meterRestore dt []) s = .next t
         ∧ t.meter.ready = true
         ∧ t.flag R.METER_STATUS_SAVE_FAIL = true
         ∧ (t.get (H.IRQ_RAW pgMeter)).testBit 4 = true
         ∧ t.meter.fram = s.meter.fram)
  ∧ (∀ (s : State) (dt : Nat) (content : List Nat),
       s.gridRuns = true →
       s.hostRuns = true →
       s.locked = true →
       s.quarantine = false →
       s.meter.ready = false →
       content ≠ [] →
       (s.framFill content).headerOk = false →
       (s.framFill content).framBlank = false →
       ∃ t, exec (.meterRestore dt content) s = .next t
         ∧ t.meter.ready = true
         ∧ t.flag R.METER_STATUS_FOREIGN = true
         ∧ t.meter.saving = s.meter.saving
         ∧ t.meter.fram = Memory.putBytes [] 0 content)
  ∧ (∀ (s : State) (dt : Nat) (content : List Nat),
       s.gridRuns = true →
       s.hostRuns = true →
       s.locked = true →
       s.quarantine = false →
       s.meter.ready = false →
       content ≠ [] →
       (s.framFill content).headerOk = true →
       ∃ t, exec (.meterRestore dt content) s = .next t
         ∧ t.meter.ready = true
         ∧ t.meter.saving = true
         ∧ t.meter.fram = Memory.putBytes [] 0 content
         ∧ (∀ r, newest [(s.framFill content).slotRecord slotA, (s.framFill content).slotRecord slotB, (s.framFill content).slotRecord slotFinal] = some r → t.flag R.METER_STATUS_RESTORED = true ∧ t.get R.METER_RESTORE_SEQ = leAt r 8 4 ∧ t.meter.seq = leAt r 8 4 ∧ ∀ i : Fin 40, t.get (R.METER_E_VAL i.val) = leAt r (0x40 + 8 * i.val) 8))
  ∧ (∀ (s : State) (dt : Nat),
       s.hostOpen pgMeter = true →
       s.flag R.METER_STATUS_FOREIGN = true →
       ∃ t, exec (.saveAdopt dt) s = .next t
         ∧ t.flag R.METER_STATUS_FOREIGN = false
         ∧ t.meter.saving = true
         ∧ t.meter.fram = s.meter.fram.putBytes 0 s.framHeader)
  ∧ (∀ (s : State) (dt : Nat),
       s.hostOpen pgMeter = true →
       s.flag R.METER_STATUS_FOREIGN = false →
       ∃ t, exec (.saveAdopt dt) s = .next t
         ∧ t.meter = s.meter
         ∧ t.get (H.ERR_COUNT pgMeter) = counted (H.ERR_COUNT pgMeter) (s.get (H.ERR_COUNT pgMeter)))

/-- What ends an excursion, trips the inverter and clears a trip. A curve's excursion that has been back for
RESET_MS ends. Voltage sources stale for 100 ms trip with cause 8, the host with cause 9: TRIPPED, TRIP_CAUSE,
TRIP_T and the count are set; a trip later than that cycle changes none of them, and one of the same cycle
adds its cause, of which the lowest is shown. The recovery ramp ends after REC_RAMP_MS. A return window held
for RTS_S clears the trip where AUTO is set or TRIP_CLR was written and nothing forbids it, and ramps begin.
TRIP_CLR acts once GE1 has evaluated the present cycle; written while the inverter is not tripped or the
window conditions do not hold, or in a cycle in which an excursion starts, it is counted as an error. (R277,
R280, R288, R289, R291, R47) -/
def Obligations.RideCommands : Prop :=
  (∀ (s : State) (dt : Nat) (c : Fin 4),
       s.gridRuns = true →
       (s.ride.exc.getD c.val none).isSome = true →
       heldFor (s.ride.back.getD c.val none) (ms (s.get R.RIDE_RT_TIME_RESET_MS)) (s.now + dt) = true →
       ∃ t, exec (.excursionEnd dt c) s = .next t
         ∧ t.ride.exc = s.ride.exc.set c.val none
         ∧ t.ride.back = s.ride.back.set c.val none
         ∧ (t.get R.RIDE_STATUS_EXC).testBit c.val = false
         ∧ (t.get (H.IRQ_RAW pgRide)).testBit 1 = true)
  ∧ (∀ (s : State) (dt : Nat),
       s.gridRuns = true →
       heldFor s.ride.staleSince (ms 100) (s.now + dt) = true →
       s.flag R.RIDE_STATUS_TRIPPED = false →
       ∃ t, exec (.sourceStaleTrip dt) s = .next t
         ∧ t.flag R.RIDE_STATUS_TRIPPED = true
         ∧ t.get R.RIDE_STATUS_TRIP_CAUSE = tcStale
         ∧ t.get R.RIDE_TRIP_T_NS = (s.elapse dt).stamp pgRide % 2 ^ 64
         ∧ t.get R.RIDE_CNT_TRIPS = counted R.RIDE_CNT_TRIPS (s.get R.RIDE_CNT_TRIPS)
         ∧ (t.get (H.IRQ_RAW pgRide)).testBit 4 = true)
  ∧ (∀ (s : State) (dt : Nat),
       s.hostOpen pgRide = true →
       s.flag R.RIDE_STATUS_TRIPPED = false →
       ∃ t, exec (.tripNow dt) s = .next t
         ∧ t.flag R.RIDE_STATUS_TRIPPED = true
         ∧ t.get R.RIDE_STATUS_TRIP_CAUSE = tcHost
         ∧ t.get R.RIDE_TRIP_T_NS = (s.elapse dt).stamp pgRide % 2 ^ 64
         ∧ t.get R.RIDE_CNT_TRIPS = counted R.RIDE_CNT_TRIPS (s.get R.RIDE_CNT_TRIPS)
         ∧ (t.get (H.IRQ_RAW pgRide)).testBit 4 = true)
  ∧ (∀ (s : State) (dt : Nat),
       s.hostOpen pgRide = true →
       s.flag R.RIDE_STATUS_TRIPPED = true →
       s.ride.causes = [] →
       ∃ t, exec (.tripNow dt) s = .next t
         ∧ t.regs = s.regs
         ∧ t.ride = s.ride)
  ∧ (∀ (s : State) (dt : Nat),
       s.hostOpen pgRide = true →
       s.flag R.RIDE_STATUS_TRIPPED = true →
       s.ride.causes ≠ [] →
       ∃ t, exec (.tripNow dt) s = .next t
         ∧ t.get R.RIDE_STATUS_TRIP_CAUSE = min (s.get R.RIDE_STATUS_TRIP_CAUSE) tcHost
         ∧ t.ride.causes = s.ride.causes ++ [tcHost]
         ∧ t.get R.RIDE_CNT_TRIPS = s.get R.RIDE_CNT_TRIPS
         ∧ t.get R.RIDE_TRIP_T_NS = s.get R.RIDE_TRIP_T_NS)
  ∧ (∀ (s : State) (dt : Nat),
       s.gridRuns = true →
       heldFor s.ride.recAt (ms (s.get R.RIDE_REC_CFG_REC_RAMP_MS)) (s.now + dt) = true →
       ∃ t, exec (.recoveryRampEnd dt) s = .next t
         ∧ t.flag R.RIDE_STATUS_RECOVER = false
         ∧ t.ride.recAt = none
         ∧ (t.get (H.IRQ_RAW pgRide)).testBit 6 = true)
  ∧ (∀ (s : State) (dt : Nat),
       s.gridRuns = true →
       s.flag R.RIDE_STATUS_TRIPPED = true →
       heldFor s.ride.rtsSince (secs (s.get R.RIDE_RTS_CFG_RTS_S)) (s.now + dt) = true →
       s.flag (R.GE_PLL_STAT_LOCKED 1) = true →
       s.get R.RIDE_STATUS_EXC = 0 →
       s.flag R.ISLAND_STATUS_DECIDED = false →
       s.ride.ttBlock = false →
       s.get R.RIDE_STATUS_TRIP_CAUSE ≠ tcLink →
       s.ride.causes = [] →
       s.flag R.RIDE_RTS_CFG_AUTO = true →
       ∃ t, exec (.rtsWindowHeld dt) s = .next t
         ∧ t.flag R.RIDE_STATUS_TRIPPED = false
         ∧ t.ride.rtsRamp = some (s.now + dt)
         ∧ (t.get (H.IRQ_RAW pgRide)).testBit 5 = true)
  ∧ (∀ (s : State) (dt : Nat),
       s.hostOpen pgRide = true →
       s.flag R.RIDE_STATUS_TRIPPED = true →
       heldFor s.ride.rtsSince (secs (s.get R.RIDE_RTS_CFG_RTS_S)) (s.now + dt) = true →
       s.flag (R.GE_PLL_STAT_LOCKED 1) = true →
       s.get R.RIDE_STATUS_EXC = 0 →
       s.flag R.ISLAND_STATUS_DECIDED = false →
       s.ride.ttBlock = false →
       s.get R.RIDE_STATUS_TRIP_CAUSE ≠ tcLink →
       s.ride.causes = [] →
       s.arm.ran.contains (s.elapse dt).cycleStart = true →
       s.ride.excNew = false →
       ∃ t, exec (.tripClear dt) s = .next t
         ∧ t.flag R.RIDE_STATUS_TRIPPED = false
         ∧ t.ride.rtsRamp = some (s.now + dt)
         ∧ (t.get (H.IRQ_RAW pgRide)).testBit 5 = true)
  ∧ (∀ (s : State) (dt : Nat),
       s.hostOpen pgRide = true →
       s.flag R.RIDE_STATUS_TRIPPED = true →
       s.ride.rtsSince ≠ none →
       s.arm.ran.contains (s.elapse dt).cycleStart = false →
       ∃ t, exec (.tripClear dt) s = .next t
         ∧ t.regs = s.regs
         ∧ t.ride = { s.ride with clearReq := true, clearNow := true })
  ∧ (∀ (s : State) (dt : Nat),
       s.hostOpen pgRide = true →
       s.flag R.RIDE_STATUS_TRIPPED = true →
       s.ride.rtsSince ≠ none →
       s.arm.ran.contains (s.elapse dt).cycleStart = true →
       s.ride.excNew = true →
       ∃ t, exec (.tripClear dt) s = .next t
         ∧ t.ride = { s.ride with clearReq := false, clearNow := false, rtsSince := none }
         ∧ t.flag R.RIDE_STATUS_TRIPPED = s.flag R.RIDE_STATUS_TRIPPED
         ∧ t.get (H.ERR_COUNT pgRide) = counted (H.ERR_COUNT pgRide) (s.get (H.ERR_COUNT pgRide)))
  ∧ (∀ (s : State) (dt : Nat),
       s.hostOpen pgRide = true →
       s.flag R.RIDE_STATUS_TRIPPED = false →
       ∃ t, exec (.tripClear dt) s = .next t
         ∧ t.ride = s.ride
         ∧ t.flag R.RIDE_STATUS_TRIPPED = s.flag R.RIDE_STATUS_TRIPPED
         ∧ t.get (H.ERR_COUNT pgRide) = counted (H.ERR_COUNT pgRide) (s.get (H.ERR_COUNT pgRide)))
  ∧ (∀ (s : State) (dt : Nat),
       s.hostOpen pgRide = true →
       s.ride.rtsSince = none →
       ∃ t, exec (.tripClear dt) s = .next t
         ∧ t.ride = s.ride
         ∧ t.flag R.RIDE_STATUS_TRIPPED = s.flag R.RIDE_STATUS_TRIPPED
         ∧ t.get (H.ERR_COUNT pgRide) = counted (H.ERR_COUNT pgRide) (s.get (H.ERR_COUNT pgRide)))

/-- What the islanding functions' commands do. An indication whose condition holds and that is not asserted
starts its vote of VOTE_MS and latches event 0; the vote's end removes it. At an epoch boundary EPOCH shows
index, sign and window. SYNC_LOST for 600 s suspends the active method. RT_BLOCK_MS after ride-through BLOCKED
is 0. With TT_EN an accepted trip frame counts, sets TT_OK, decides the island and trips the inverter with
cause 6; a tripped one keeps its cause, and with TT_EN 0 the frame does nothing. ISL_CLR clears the decision
while tripped or without current, and is an error at any other time. (R292, R293, R294, R295, R296, R297,
R298) -/
def Obligations.IslandingCommands : Prop :=
  (∀ (s : State) (dt : Nat) (i : Fin 4),
       s.gridRuns = true →
       (s.elapse dt).indReady i.val = true →
       s.indOn i.val = false →
       ∃ t, exec (.islandIndication dt i) s = .next t
         ∧ t.isl.vote = s.isl.vote.set i.val (some (s.now + dt + ms (s.get R.ISLAND_VS_CFG_VOTE_MS)))
         ∧ t.indOn i.val = true
         ∧ (t.get (H.IRQ_RAW pgIsland)).testBit 0 = true)
  ∧ (∀ (s : State) (dt t0 : Nat) (i : Fin 4),
       s.gridRuns = true →
       s.isl.vote.getD i.val none = some t0 →
       t0 ≤ s.now + dt →
       ∃ t, exec (.voteWindowExpiry dt i) s = .next t
         ∧ t.isl.vote = s.isl.vote.set i.val none
         ∧ t.regs = s.regs)
  ∧ (∀ (s : State) (dt : Nat),
       s.gridRuns = true →
       ∃ t, exec (.activeEpochBoundary dt) s = .next t
         ∧ t.get R.ISLAND_EPOCH_INDEX = (s.elapse dt).epochNow % 2 ^ R.ISLAND_EPOCH_INDEX.width
         ∧ t.flag R.ISLAND_EPOCH_SIGN = (s.elapse dt).epochNeg
         ∧ t.flag R.ISLAND_EPOCH_ON = (s.elapse dt).windowOn)
  ∧ (∀ (s : State) (dt : Nat),
       s.gridRuns = true →
       s.syncLost = true →
       heldFor s.isl.syncSince (secs 600) (s.now + dt) = true →
       s.flag R.ISLAND_STATUS_ACT_SUSP = false →
       ∃ t, exec (.actSuspend dt) s = .next t
         ∧ t.flag R.ISLAND_STATUS_ACT_SUSP = true
         ∧ (t.get (H.IRQ_RAW pgIsland)).testBit 4 = true)
  ∧ (∀ (s : State) (dt t0 : Nat),
       s.gridRuns = true →
       s.isl.blockEnd = some t0 →
       t0 ≤ s.now + dt →
       ∃ t, exec (.rtBlockEnd dt) s = .next t
         ∧ t.flag R.ISLAND_STATUS_BLOCKED = false
         ∧ t.isl.blockEnd = none)
  ∧ (∀ (s : State) (dt : Nat) (l : List Nat) (m : List (List Nat)),
       s.gridRuns = true →
       s.isl.ttIn = l :: m →
       s.flag R.ISLAND_METHOD_TT_EN = true →
       l.getD 2 0 = 0x5A →
       s.flag R.RIDE_STATUS_TRIPPED = false →
       ∃ t, exec (.transferTripFrame dt) s = .next t
         ∧ t.isl.ttIn = m
         ∧ t.flag R.ISLAND_STATUS_TT_OK = true
         ∧ t.flag R.ISLAND_STATUS_DECIDED = true
         ∧ t.flag R.RIDE_STATUS_TRIPPED = true
         ∧ t.get R.RIDE_STATUS_TRIP_CAUSE = tcTransfer
         ∧ t.get R.ISLAND_CNT_TT_FRAMES = counted R.ISLAND_CNT_TT_FRAMES (s.get R.ISLAND_CNT_TT_FRAMES)
         ∧ t.ride.ttBlock = true
         ∧ t.ride.reason = l.getD 3 0)
  ∧ (∀ (s : State) (dt : Nat) (l : List Nat) (m : List (List Nat)),
       s.gridRuns = true →
       s.isl.ttIn = l :: m →
       s.flag R.ISLAND_METHOD_TT_EN = true →
       l.getD 2 0 ≠ 0x5A →
       ∃ t, exec (.transferTripFrame dt) s = .next t
         ∧ t.isl.ttIn = m
         ∧ t.flag R.ISLAND_STATUS_TT_OK = true
         ∧ t.ride.ttBlock = false
         ∧ t.flag R.RIDE_STATUS_TRIPPED = s.flag R.RIDE_STATUS_TRIPPED)
  ∧ (∀ (s : State) (dt : Nat) (l : List Nat) (m : List (List Nat)),
       s.gridRuns = true →
       s.isl.ttIn = l :: m →
       s.flag R.ISLAND_METHOD_TT_EN = true →
       l.getD 2 0 = 0x5A →
       s.flag R.RIDE_STATUS_TRIPPED = true →
       s.ride.causes = [] →
       ∃ t, exec (.transferTripFrame dt) s = .next t
         ∧ t.isl.ttIn = m
         ∧ t.flag R.ISLAND_STATUS_TT_OK = true
         ∧ t.flag R.ISLAND_STATUS_DECIDED = true
         ∧ t.get R.RIDE_STATUS_TRIP_CAUSE = s.get R.RIDE_STATUS_TRIP_CAUSE
         ∧ t.ride.ttBlock = true)
  ∧ (∀ (s : State) (dt : Nat) (l : List Nat) (m : List (List Nat)),
       s.gridRuns = true →
       s.isl.ttIn = l :: m →
       s.flag R.ISLAND_METHOD_TT_EN = false →
       ∃ t, exec (.transferTripFrame dt) s = .next t
         ∧ t.isl.ttIn = m
         ∧ t.regs = s.regs
         ∧ t.ride = s.ride)
  ∧ (∀ (s : State) (dt : Nat),
       s.hostOpen pgIsland = true →
       s.flag R.RIDE_STATUS_TRIPPED = true ∨ s.flag R.ARM_STATUS_CURRENT_ON = false →
       ∃ t, exec (.islandClear dt) s = .next t
         ∧ t.flag R.ISLAND_STATUS_DECIDED = false
         ∧ t.flag R.ISLAND_STATUS_ISLANDED = false
         ∧ t.arm.orderGf = false
         ∧ (t.get (H.IRQ_RAW pgIsland)).testBit 5 = true)
  ∧ (∀ (s : State) (dt : Nat),
       s.hostOpen pgIsland = true →
       s.flag R.RIDE_STATUS_TRIPPED = false →
       s.flag R.ARM_STATUS_CURRENT_ON = true →
       ∃ t, exec (.islandClear dt) s = .next t
         ∧ t.flag R.ISLAND_STATUS_DECIDED = s.flag R.ISLAND_STATUS_DECIDED
         ∧ t.get (H.ERR_COUNT pgIsland) = counted (H.ERR_COUNT pgIsland) (s.get (H.ERR_COUNT pgIsland)))

/-- What the safety functions' events do in one channel. In a channel that runs: an input of a pair takes its
level, and a function whose pair loses an input no longer permits. A pair in DISAGREE longer than DISC, and a
light curtain without its pulses, put the function in FAULT. Heartwood records a change for its next slice.
STOP_MS ends STOPPING. The second hand that is late ends an actuation. Channels that disagree for longer than
20 ms are shown, and the function does not permit in Burl. (R390, R392, R393, R394, R398, R399) -/
def Obligations.SafetyFunctionCommands : Prop :=
  (∀ (s : State) (dt : Nat) (p : Fin 12) (b : Bool) (ev : Fin 3),
       s.sideRuns 0 = true →
       ev.val ≠ 2 →
       (s.elapse dt).inputLevel 0 p.val b ≠ decide (ev.val = 1) →
       (s.elapse dt).inputFiltered 0 p.val b (decide (ev.val = 1)) = true →
       ∃ t, exec (.safetyInputChange dt 0 p b ev) s = .next t
         ∧ (if b then (t.side 0).inB else (t.side 0).inA).testBit p.val = decide (ev.val = 1)
         ∧ (∀ f : Fin 8, ev.val = 0 → s.get (R.SAFE_FUNC_PAIR_A f.val) = p.val → s.fnUsed f.val = true → (t.fn 0 f.val).st ≠ .permit))
  ∧ (∀ (s : State) (dt : Nat) (p : Fin 12) (b : Bool) (ev : Fin 3),
       s.sideRuns 1 = true →
       ev.val ≠ 2 →
       (s.elapse dt).inputLevel 1 p.val b ≠ decide (ev.val = 1) →
       (s.elapse dt).inputFiltered 1 p.val b (decide (ev.val = 1)) = true →
       ∃ t, exec (.safetyInputChange dt 1 p b ev) s = .next t
         ∧ t.safe.record = s.safe.record ++ [(p.val, b, decide (ev.val = 1))]
         ∧ t.safe.hw.fn = s.safe.hw.fn
         ∧ t.safe.burl = s.safe.burl
         ∧ t.regs = s.regs)
  ∧ (∀ (s : State) (dt : Nat) (c : Fin 2) (p : Fin 12) (b : Bool) (ev : Fin 3),
       s.sideRuns c.val = true →
       ev.val ≠ 2 →
       (s.elapse dt).inputLevel c.val p.val b = decide (ev.val = 1) ∨ (s.elapse dt).inputFiltered c.val p.val b (decide (ev.val = 1)) = false →
       ∃ t, exec (.safetyInputChange dt c p b ev) s = .next t
         ∧ t = s.elapse dt)
  ∧ (∀ (s : State) (dt : Nat) (c : Fin 2) (p : Fin 12) (b : Bool) (f : Fin 8),
       s.sideRuns c.val = true →
       (s.side c.val).fn.length = 8 →
       s.get (R.SAFE_FUNC_TYPE f.val) = 4 →
       s.get (R.SAFE_FUNC_PAIR_A f.val) = p.val →
       ∃ t, exec (.safetyInputChange dt c p b 2) s = .next t
         ∧ (if b then (t.fn c.val f.val).pulseB else (t.fn c.val f.val).pulseA) = s.now + dt
         ∧ t.regs = s.regs)
  ∧ (∀ (s : State) (dt t0 : Nat) (c : Fin 2) (f : Fin 8),
       s.sideRuns c.val = true →
       (s.side c.val).fn.length = 8 →
       (s.fnPairs f.val).any (fun p => decide ((s.side c.val).disSince.getD p none = some t0)) = true →
       t0 + ms (5 * s.get (R.SAFE_FUNC_DISC f.val)) < s.now + dt →
       (s.fn c.val f.val).st ≠ .unused →
       (s.fn c.val f.val).st ≠ .fault →
       (s.fnPairs f.val).all (s.pairOff c.val) = false →
       ∃ t, exec (.discrepancyFault dt c f) s = .next t
         ∧ (t.fn c.val f.val).st = .fault)
  ∧ (∀ (s : State) (dt : Nat) (c : Fin 2) (f : Fin 8),
       s.sideRuns c.val = true →
       (s.fn c.val f.val).st = .stopping →
       (s.fn c.val f.val).since + ms (s.get (R.SAFE_FTIME_STOP_MS f.val)) ≤ s.now + dt →
       (s.fnPairs f.val).all (s.pairOn c.val) = false →
       ∃ t, exec (.stopDelayEnd dt c f) s = .next t
         ∧ (t.fn c.val f.val).st = .stopped)
  ∧ (∀ (s : State) (dt t0 : Nat) (f : Fin 8),
       s.sideRuns 0 = true →
       s.safe.divSince.getD f.val none = some t0 →
       t0 + ms 20 < s.now + dt →
       ∃ t, exec (.channelDivergence dt f) s = .next t
         ∧ (t.get R.SAFE_DIVERGE_FUNC).testBit f.val = true
         ∧ (t.get (H.IRQ_RAW pgSafe)).testBit 6 = true
         ∧ (t.fn 0 f.val).st ≠ .permit
         ∧ t.safe.divSince = s.safe.divSince.set f.val none)
  ∧ (∀ (s : State) (dt t0 : Nat) (c : Fin 2) (f : Fin 8),
       s.sideRuns c.val = true →
       s.get (R.SAFE_FUNC_TYPE f.val) = 4 →
       s.get (R.SAFE_FTIME_TP_EXP f.val) ≠ 0 →
       (s.fn c.val f.val).onSince = some t0 →
       max t0 (min (s.fn c.val f.val).pulseA (s.fn c.val f.val).pulseB) + ms (100 * s.get (R.SAFE_FTIME_TP_EXP f.val)) ≤ s.now + dt →
       (s.fn c.val f.val).st ≠ .unused →
       (s.fn c.val f.val).st ≠ .fault →
       (s.fnPairs f.val).all (s.pairOff c.val) = false →
       ∃ t, exec (.curtainPulseMissing dt c f) s = .next t
         ∧ (t.fn c.val f.val).st = .fault)
  ∧ (∀ (s : State) (dt t0 : Nat) (c : Fin 2) (f : Fin 8),
       s.sideRuns c.val = true →
       s.get (R.SAFE_FUNC_TYPE f.val) = 3 →
       (s.fn c.val f.val).st = .stopped →
       (s.fn c.val f.val).rearmed = true →
       (s.fn c.val f.val).first = some t0 →
       t0 + handTime c.val < s.now + dt →
       ∃ t, exec (.twohandLate dt c f) s = .next t
         ∧ (t.fn c.val f.val).rearmed = false
         ∧ (t.fn c.val f.val).first = none
         ∧ (t.fn c.val f.val).st = .stopped
         ∧ (t.get (H.IRQ_RAW pgSafe)).testBit 7 = true)

/-- What a reset pulse and an output's readback and test do. A rise of SRST_IN starts a measurement; its fall
rejects a pulse shorter than 100 ms or longer than 2 s, and accepts one well inside, which takes each READY
function whose pairs are on to PERMIT. A readback that differs for longer than RB_US faults the pair: both
balls low. A due test pulls SO_A low, a millisecond after its end SO_B; a judged pulse restores both balls,
the second one counts a test, a bad one faults the pair; a pulse after a demand for off is not judged. (R401,
R402, R403, R404, R405, R406, R407) -/
def Obligations.SafetyOutputCommands : Prop :=
  (∀ (s : State) (dt : Nat),
       s.sys.inReset = true ∨ s.safe.srstRise ≠ none →
       ∃ t, exec (.srstInRise dt) s = .next t
         ∧ t = s.elapse dt)
  ∧ (∀ (s : State) (dt : Nat),
       s.sys.inReset = false →
       s.safe.srstRise = none →
       ∃ t, exec (.srstInRise dt) s = .next t
         ∧ t.safe.srstRise = some (s.now + dt)
         ∧ t.regs = s.regs)
  ∧ (∀ (s : State) (dt burlMs t0 : Nat),
       s.sys.inReset = false →
       s.safe.srstRise = some t0 →
       t0 ≤ s.now + dt →
       s.now + dt < t0 + ms 100 →
       ∃ t, exec (.resetPulse dt burlMs) s = .next t
         ∧ t.flag R.SAFE_RST_STAT_SHORT = true
         ∧ t.flag R.SAFE_RST_STAT_ACCEPTED = false
         ∧ (t.get (H.IRQ_RAW pgSafe)).testBit 5 = true
         ∧ t.safe.srstRise = none)
  ∧ (∀ (s : State) (dt burlMs t0 : Nat),
       s.sys.inReset = false →
       s.safe.srstRise = some t0 →
       t0 + ms 2100 < s.now + dt →
       ∃ t, exec (.resetPulse dt burlMs) s = .next t
         ∧ t.flag R.SAFE_RST_STAT_LONG = true
         ∧ t.flag R.SAFE_RST_STAT_ACCEPTED = false
         ∧ (t.get (H.IRQ_RAW pgSafe)).testBit 5 = true
         ∧ t.safe.srstRise = none)
  ∧ (∀ (s : State) (dt burlMs t0 : Nat),
       s.sys.inReset = false →
       s.safe.srstRise = some t0 →
       t0 + ms 104 ≤ s.now + dt →
       s.now + dt ≤ t0 + ms 1900 →
       ∃ t, exec (.resetPulse dt burlMs) s = .next t
         ∧ t.flag R.SAFE_RST_STAT_ACCEPTED = true
         ∧ t.safe.srstRise = none
         ∧ (∀ f : Fin 8, (s.fn 0 f.val).st = .ready → (s.fnPairs f.val).all (s.pairOn 0) = true → (t.fn 0 f.val).st = .permit)
         ∧ (∀ f : Fin 8, (s.fn 1 f.val).st = .ready → s.sideRuns 1 = true → (t.fn 1 f.val).st = .permit))
  ∧ (∀ (s : State) (dt burlMs t0 : Nat) (n : Fin 4),
       s.sys.inReset = false →
       s.safe.srstRise = some t0 →
       t0 + ms 104 ≤ s.now + dt →
       s.now + dt ≤ t0 + ms 1900 →
       s.safe.out.length = 4 →
       (s.get R.SAFE_OUT_STAT_FAULT).testBit n.val = true →
       heldFor (s.out n.val).lowSince (secs 1) (s.now + dt) = true →
       ∃ t, exec (.resetPulse dt burlMs) s = .next t
         ∧ (t.get R.SAFE_OUT_STAT_FAULT).testBit n.val = false)
  ∧ (∀ (s : State) (dt burlMs t0 : Nat) (n : Fin 4),
       s.sys.inReset = false →
       s.safe.srstRise = some t0 →
       t0 + ms 104 ≤ s.now + dt →
       s.now + dt ≤ t0 + ms 1900 →
       s.safe.out.length = 4 →
       (s.get R.SAFE_OUT_STAT_FAULT).testBit n.val = true →
       heldFor (s.out n.val).lowSince (secs 1) (s.now + dt) = false →
       ∃ t, exec (.resetPulse dt burlMs) s = .next t
         ∧ (t.get R.SAFE_OUT_STAT_FAULT).testBit n.val = true)
  ∧ (∀ (s : State) (dt : Nat) (n : Fin 4) (rbA rbB : Bool),
       s.sys.inReset = false →
       (s.get R.SAFE_OUT_STAT_FAULT).testBit n.val = false →
       rbA ≠ (s.out n.val).soA ∨ rbB ≠ (s.out n.val).soB →
       (s.out n.val).changedAt + us (s.get (R.SAFE_OUTCFG_RB_US n.val)) < s.now + dt →
       ∃ t, exec (.outputReadbackFault dt n rbA rbB) s = .next t
         ∧ (t.get R.SAFE_OUT_STAT_FAULT).testBit n.val = true
         ∧ (t.out n.val).soA = false
         ∧ (t.out n.val).soB = false
         ∧ (t.get (H.IRQ_RAW pgSafe)).testBit 3 = true)
  ∧ (∀ (s : State) (dt : Nat) (n : Fin 4) (rbA rbB : Bool),
       s.sys.inReset = false →
       (s.get R.SAFE_OUT_STAT_FAULT).testBit n.val = true →
       ∃ t, exec (.outputReadbackFault dt n rbA rbB) s = .next t
         ∧ (t.get R.SAFE_OUT_STAT_RB_A).testBit n.val = rbA
         ∧ (t.get R.SAFE_OUT_STAT_RB_B).testBit n.val = rbB
         ∧ (t.out n.val).soA = (s.out n.val).soA
         ∧ (t.out n.val).soB = (s.out n.val).soB
         ∧ t.get R.SAFE_OUT_STAT_FAULT = s.get R.SAFE_OUT_STAT_FAULT)
  ∧ (∀ (s : State) (dt : Nat) (n : Fin 4),
       s.sys.inReset = false →
       s.flag (R.SAFE_OUTCFG_TP_EN n.val) = true →
       (s.out n.val).soA = true →
       (s.out n.val).soB = true →
       (s.out n.val).phase = .idle →
       (s.out n.val).testDue ≤ s.now + dt →
       ∃ t, exec (.testPulseStart dt n) s = .next t
         ∧ (t.out n.val).soA = false
         ∧ (t.out n.val).soB = true
         ∧ (t.out n.val).phase = .pulseA (s.now + dt)
         ∧ (t.out n.val).testDue = s.now + dt + secs (s.get (R.SAFE_OUTCFG_TP_PERIOD n.val)))
  ∧ (∀ (s : State) (dt t0 : Nat) (n : Fin 4),
       (s.out n.val).phase = .pulseA t0 →
       (s.out n.val).spoiled = false →
       t0 + us (s.get (R.SAFE_OUTCFG_TP_WIDTH n.val)) ≤ s.now + dt →
       ∃ t, exec (.testPulseEnd dt n true) s = .next t
         ∧ (t.out n.val).soA = true
         ∧ (t.out n.val).soB = true
         ∧ (t.out n.val).phase = .between (s.now + dt)
         ∧ t.get R.SAFE_CNT_B_TESTS = s.get R.SAFE_CNT_B_TESTS)
  ∧ (∀ (s : State) (dt t0 : Nat) (n : Fin 4),
       (s.out n.val).phase = .pulseB t0 →
       (s.out n.val).spoiled = false →
       t0 + us (s.get (R.SAFE_OUTCFG_TP_WIDTH n.val)) ≤ s.now + dt →
       ∃ t, exec (.testPulseEnd dt n true) s = .next t
         ∧ (t.out n.val).soA = true
         ∧ (t.out n.val).soB = true
         ∧ (t.out n.val).phase = .idle
         ∧ t.get R.SAFE_CNT_B_TESTS = counted R.SAFE_CNT_B_TESTS (s.get R.SAFE_CNT_B_TESTS))
  ∧ (∀ (s : State) (dt t0 : Nat) (n : Fin 4),
       (s.out n.val).phase = .pulseA t0 →
       (s.out n.val).spoiled = false →
       t0 + us (s.get (R.SAFE_OUTCFG_TP_WIDTH n.val)) ≤ s.now + dt →
       (s.get R.SAFE_OUT_STAT_FAULT).testBit n.val = false →
       ∃ t, exec (.testPulseEnd dt n false) s = .next t
         ∧ (t.out n.val).soA = false
         ∧ (t.out n.val).soB = false
         ∧ (t.get R.SAFE_OUT_STAT_FAULT).testBit n.val = true
         ∧ t.get R.SAFE_CNT_B_TEST_FAILS = counted R.SAFE_CNT_B_TEST_FAILS (s.get R.SAFE_CNT_B_TEST_FAILS))
  ∧ (∀ (s : State) (dt t0 : Nat) (n : Fin 4) (ok : Bool),
       (s.out n.val).phase = .pulseA t0 ∨ (s.out n.val).phase = .pulseB t0 →
       (s.out n.val).spoiled = true →
       t0 + us (s.get (R.SAFE_OUTCFG_TP_WIDTH n.val)) ≤ s.now + dt →
       ∃ t, exec (.testPulseEnd dt n ok) s = .next t
         ∧ (t.out n.val).phase = .idle
         ∧ t.get R.SAFE_CNT_B_TESTS = s.get R.SAFE_CNT_B_TESTS
         ∧ t.get R.SAFE_CNT_B_TEST_FAILS = s.get R.SAFE_CNT_B_TEST_FAILS)
  ∧ (∀ (s : State) (dt t0 : Nat) (n : Fin 4),
       (s.out n.val).phase = .between t0 →
       t0 + ms 1 ≤ s.now + dt →
       ∃ t, exec (.testPulseBStart dt n) s = .next t
         ∧ (t.out n.val).soA = true
         ∧ (t.out n.val).soB = false
         ∧ (t.out n.val).phase = .pulseB (s.now + dt))

/-- What a fault source does when it becomes active or inactive. In a running cell island a source whose
condition holds becomes active, with the group it is mapped to; one whose condition is gone becomes inactive.
An input does so once its filter's time has passed since its last change. A qualified short circuit marks its
switch, is counted and stamped, and its source is active; after 1 ms it is stuck. A leg not ready activates
its source, and while blanking runs is only marked; at the end of blanking it activates. A trip input acts in
every running island. (R155, R156, R162, R163, R164, R166, R167, R169, R170) -/
def Obligations.FaultSourceCommands : Prop :=
  (∀ (s : State) (dt : Nat) (x : Fin 8) (n : Fin 36),
       s.cellRuns x.val = true →
       n.val < 12 ∨ 28 ≤ n.val →
       s.sourceCondition x.val n.val true = true →
       s.source x.val n.val = false →
       ∃ t, exec (.faultSourceActive dt x n) s = .next t
         ∧ (t.source x.val n.val) = true
         ∧ (∀ g : Fin 16, s.mapped x.val n.val = some g.val → t.groupActive x.val g.val = true))
  ∧ (∀ (s : State) (dt : Nat) (x : Fin 8) (n : Fin 36),
       s.cellRuns x.val = true →
       12 ≤ n.val →
       n.val < 20 →
       s.source x.val n.val = false →
       (s.elapse dt).filterDone x.val (n.val - 12) = true →
       ∃ t, exec (.faultSourceActive dt x n) s = .next t
         ∧ (t.source x.val n.val) = true
         ∧ (∀ g : Fin 16, s.mapped x.val n.val = some g.val → t.groupActive x.val g.val = true)
         ∧ (t.get (R.GUARD_SC_STAT_SEEN x.val)).testBit (n.val - 12) = true)
  ∧ (∀ (s : State) (dt : Nat) (x : Fin 8) (n : Fin 36),
       s.cellRuns x.val = true →
       20 ≤ n.val →
       n.val < 24 →
       s.source x.val n.val = false →
       (s.get (R.GUARD_SC_STAT_RDY_LOW x.val)).testBit (n.val - 20) = false →
       (s.ch x.val).guard.blanking = false →
       (s.elapse dt).filterDone x.val (8 + (n.val - 20)) = true →
       ∃ t, exec (.faultSourceActive dt x n) s = .next t
         ∧ (t.source x.val n.val) = true
         ∧ (∀ g : Fin 16, s.mapped x.val n.val = some g.val → t.groupActive x.val g.val = true)
         ∧ (t.get (R.GUARD_SC_STAT_RDY_LOW x.val)).testBit (n.val - 20) = true)
  ∧ (∀ (s : State) (dt : Nat) (x : Fin 8) (n : Fin 36),
       s.cellRuns x.val = true →
       24 ≤ n.val →
       n.val < 28 →
       s.source x.val n.val = false →
       (s.elapse dt).filterDone x.val (12 + (n.val - 24)) = true →
       ∃ t, exec (.faultSourceActive dt x n) s = .next t
         ∧ (t.source x.val n.val) = true
         ∧ (∀ g : Fin 16, s.mapped x.val n.val = some g.val → t.groupActive x.val g.val = true))
  ∧ (∀ (s : State) (dt : Nat) (x : Fin 8) (n : Fin 36),
       s.cellRuns x.val = true →
       n.val < 12 ∨ 28 ≤ n.val →
       s.sourceCondition x.val n.val false = true →
       ∃ t, exec (.faultSourceInactive dt x n) s = .next t
         ∧ t.source x.val n.val = false)
  ∧ (∀ (s : State) (dt : Nat) (x : Fin 8) (n : Fin 36),
       s.cellRuns x.val = true →
       12 ≤ n.val →
       n.val < 28 →
       n.val < 20 ∨ 24 ≤ n.val →
       (s.elapse dt).filterDone x.val (n.val - 12) = true →
       ∃ t, exec (.faultSourceInactive dt x n) s = .next t
         ∧ t.source x.val n.val = false)
  ∧ (∀ (s : State) (dt : Nat) (x : Fin 8) (n : Fin 36),
       s.cellRuns x.val = true →
       20 ≤ n.val →
       n.val < 24 →
       (s.get (R.GUARD_SC_STAT_RDY_LOW x.val)).testBit (n.val - 20) = true →
       (s.elapse dt).filterDone x.val (8 + (n.val - 20)) = true →
       ∃ t, exec (.faultSourceInactive dt x n) s = .next t
         ∧ t.source x.val n.val = false
         ∧ (t.get (R.GUARD_SC_STAT_RDY_LOW x.val)).testBit (n.val - 20) = false)
  ∧ (∀ (s : State) (dt : Nat) (x : Fin 8) (w : Fin 8),
       s.source x.val (12 + w.val) = true ∨ (s.elapse dt).filterDone x.val w.val = false →
       ∃ t, exec (.scQualify dt x w) s = .next t
         ∧ t = s.elapse dt)
  ∧ (∀ (s : State) (dt : Nat) (x : Fin 8) (w : Fin 8),
       s.cellRuns x.val = true →
       s.source x.val (12 + w.val) = false →
       (s.elapse dt).filterDone x.val w.val = true →
       ∃ t, exec (.scQualify dt x w) s = .next t
         ∧ (t.source x.val (12 + w.val)) = true
         ∧ (∀ g : Fin 16, s.mapped x.val (12 + w.val) = some g.val → t.groupActive x.val g.val = true)
         ∧ (t.get (R.GUARD_SC_STAT_SEEN x.val)).testBit w.val = true
         ∧ t.get (R.GUARD_SC_T_NS x.val) = (s.elapse dt).stamp (pgGuard x.val) % 2 ^ 64
         ∧ (if w.val % 2 = 0 then t.get (R.GUARD_SC_CNT_HIGH x.val (w.val / 2)) = counted (R.GUARD_SC_CNT_HIGH x.val (w.val / 2)) (s.get (R.GUARD_SC_CNT_HIGH x.val (w.val / 2))) else t.get (R.GUARD_SC_CNT_LOW x.val (w.val / 2)) = counted (R.GUARD_SC_CNT_LOW x.val (w.val / 2)) (s.get (R.GUARD_SC_CNT_LOW x.val (w.val / 2)))))
  ∧ (∀ (s : State) (dt t0 : Nat) (x : Fin 8) (w : Fin 8),
       s.cellRuns x.val = true →
       (s.ch x.val).guard.scSince.getD w.val none = some t0 →
       t0 + ms 1 ≤ s.now + dt →
       ∃ t, exec (.scStuck dt x w) s = .next t
         ∧ (t.get (R.GUARD_SC_STAT_STUCK x.val)).testBit w.val = true
         ∧ (∀ g : Fin 16, s.mapped x.val (12 + w.val) = some g.val → t.flag (R.GUARD_GSTAT_LATCHED x.val g.val) = true))
  ∧ (∀ (s : State) (dt : Nat) (x : Fin 8) (y : Fin 4),
       s.cellRuns x.val = true →
       (s.get (R.GUARD_SC_STAT_RDY_LOW x.val)).testBit y.val = false →
       (s.elapse dt).filterDone x.val (8 + y.val) = true →
       ∃ t, exec (.rdyNotReady dt x y) s = .next t
         ∧ (t.get (R.GUARD_SC_STAT_RDY_LOW x.val)).testBit y.val = true
         ∧ (if (s.ch x.val).guard.blanking then (t.get (R.GUARD_SC_STAT_BLANKED x.val)).testBit y.val = true else t.source x.val (20 + y.val) = true))
  ∧ (∀ (s : State) (dt : Nat) (x : Fin 8),
       s.cellRuns x.val = true →
       (s.ch x.val).guard.blanking = true →
       (s.ch x.val).pwm.runAt + us (s.get (R.GUARD_RDY_CFG_BLANK x.val)) ≤ s.now + dt →
       ∃ t, exec (.rdyBlankEnd dt x) s = .next t
         ∧ t.get (R.GUARD_SC_STAT_BLANKED x.val) = 0
         ∧ (t.ch x.val).guard.blanking = false
         ∧ (∀ y : Fin 4, (s.get (R.GUARD_SC_STAT_RDY_LOW x.val)).testBit y.val = true → t.source x.val (20 + y.val) = true))
  ∧ (∀ (s : State) (dt : Nat) (n : Fin 4),
       ∃ t, exec (.tripInput dt n) s = .next t
         ∧ (∀ x : Fin 8, s.cellRuns x.val = true → (s.elapse dt).filterDone x.val (12 + n.val) = true → t.source x.val (24 + n.val) = true))

/-- What releases, clears and checks a fault group and the bypass. A waiting group WAIT after its last source
has its release pending; the release, at an ideal edge of a named leg or a carrier zero, makes it inactive. A
retry window that has passed clears the group's count. LATCH_CLR clears latch and count of each named group
that has not latched in the same cycle while the gates are off, and is an error while they are on. The bypass
feedback is shown; a feedback that does not open in time faults the channel, one that does not close in time
leaves the cell stuck. (R171, R172, R173, R181, R224, R227) -/
def Obligations.FaultGroupCommands : Prop :=
  (∀ (s : State) (dt : Nat) (x : Fin 8) (g : Fin 16),
       s.cellRuns x.val = true →
       s.groupActive x.val g.val = true →
       s.flag (R.GUARD_GSTAT_WAITING x.val g.val) = true →
       (s.group x.val g.val).lastActive + us (s.get (R.GUARD_GCFG_WAIT x.val g.val)) ≤ s.now + dt →
       (s.ch x.val).guard.groups.length = 16 →
       s.shape →
       ∃ t, exec (.groupWaitExpiry dt x g) s = .next t
         ∧ (t.group x.val g.val).release = true
         ∧ t.groupActive x.val g.val = true)
  ∧ (∀ (s : State) (dt : Nat) (x : Fin 8) (g : Fin 16),
       s.cellRuns x.val = true →
       s.groupActive x.val g.val = true →
       (s.group x.val g.val).release = true →
       (s.elapse dt).releasePoint x.val g.val = true →
       ∃ t, exec (.groupRelease dt x g) s = .next t
         ∧ t.groupActive x.val g.val = false
         ∧ t.flag (R.GUARD_GSTAT_WAITING x.val g.val) = false
         ∧ (t.group x.val g.val).release = false)
  ∧ (∀ (s : State) (dt : Nat) (x : Fin 8) (g : Fin 16),
       (s.elapse dt).releasePoint x.val g.val = false →
       ∃ t, exec (.groupRelease dt x g) s = .next t
         ∧ t = s.elapse dt)
  ∧ (∀ (s : State) (dt : Nat) (x : Fin 8) (g : Fin 16),
       s.cellRuns x.val = true →
       s.groupSourced x.val g.val = false →
       s.flag (R.GUARD_GSTAT_LATCHED x.val g.val) = false →
       (s.group x.val g.val).winOpen + ms (s.get (R.GUARD_GWIN_WINDOW x.val g.val)) ≤ s.now + dt →
       ∃ t, exec (.groupWindowClose dt x g) s = .next t
         ∧ t.get (R.GUARD_GSTAT_COUNT x.val g.val) = 0)
  ∧ (∀ (s : State) (dt : Nat) (x : Fin 8) (mask : Fin 65536),
       s.hostOpen (pgGuard x.val) = true →
       s.flag (R.PWM_CTRL_EN x.val) = false →
       ∃ t, exec (.latchClear dt x mask) s = .next t
         ∧ (∀ g : Fin 16, mask.val.testBit g.val = true → (s.elapse dt).metNow (R.GUARD_GSTAT_LATCHED x.val g.val) = [] → t.flag (R.GUARD_GSTAT_LATCHED x.val g.val) = false ∧ t.get (R.GUARD_GSTAT_COUNT x.val g.val) = 0))
  ∧ (∀ (s : State) (dt : Nat) (x : Fin 8) (mask : Fin 65536),
       s.hostOpen (pgGuard x.val) = true →
       s.flag (R.PWM_CTRL_EN x.val) = true →
       ∃ t, exec (.latchClear dt x mask) s = .next t
         ∧ (∀ g : Fin 16, t.get (R.GUARD_GSTAT_LATCHED x.val g.val) = s.get (R.GUARD_GSTAT_LATCHED x.val g.val))
         ∧ t.get (H.ERR_COUNT (pgGuard x.val)) = counted (H.ERR_COUNT (pgGuard x.val)) (s.get (H.ERR_COUNT (pgGuard x.val))))
  ∧ (∀ (s : State) (dt : Nat) (x : Fin 8) (level : Bool),
       s.cellRuns x.val = true →
       (level != s.flag (R.GUARD_BYP_CFG_FB_POL x.val)) = s.flag (R.GUARD_BYP_STAT_FB_OPEN x.val) ∨ (s.elapse dt).filterDone x.val 16 = true →
       ∃ t, exec (.bypFbChange dt x level) s = .next t
         ∧ t.flag (R.GUARD_BYP_STAT_FB_OPEN x.val) = (level != s.flag (R.GUARD_BYP_CFG_FB_POL x.val)))
  ∧ (∀ (s : State) (dt t0 : Nat) (x : Fin 8),
       s.cellRuns x.val = true →
       (s.ch x.val).guard.openDue = some t0 →
       t0 ≤ s.now + dt →
       ∃ t, exec (.bypOpenCheckExpiry dt x) s = .next t
         ∧ t.flag (R.GUARD_BYP_STAT_OPEN_FAIL x.val) = true
         ∧ t.flag (R.PWM_STATUS_CH_FAULT x.val) = true
         ∧ t.flag (R.PWM_CTRL_EN x.val) = false)
  ∧ (∀ (s : State) (dt t0 : Nat) (x : Fin 8),
       s.cellRuns x.val = true →
       (s.ch x.val).guard.closeDue = some t0 →
       t0 ≤ s.now + dt →
       ∃ t, exec (.bypCloseCheckExpiry dt x) s = .next t
         ∧ t.flag (R.GUARD_BYP_STAT_CLOSE_FAIL x.val) = true
         ∧ t.cellState x.val = csStuck
         ∧ (t.get (H.IRQ_RAW (pgCell x.val))).testBit 9 = true)

/-- What the carrier's points, the enable and a shoot-through do. In a running cell island: a carrier zero
starts the carrier anew at that instant and stamps it; a peak turns it to falling. A demand of both switches
of a leg marks SHOOT and activates its source. A write of 0 to EN clears EN and RUN, and every gate of the
channel is low. A write of 1 sets EN and waits for its zero; with CH_FAULT, or on a channel that may not leave
the Husk state (log entry 76), it is counted as an error and EN stays. The first zero after the island's start
is one of the grid. (R139, R149, R151, R157, R158, R159, R160) -/
def Obligations.PwmCarrierCommands : Prop :=
  (∀ (s : State) (dt : Nat) (x : Fin 8),
       s.cellRuns x.val = true →
       s.shape →
       (s.ch x.val).pwm.started = true →
       (s.ch x.val).pwm.zeroAt + fine * periodSteps (s.ch x.val).pwm.mode (s.ch x.val).pwm.top ≤ s.now + dt →
       ∃ t, exec (.carrierZero dt x) s = .next t
         ∧ (t.ch x.val).pwm.started = true
         ∧ (t.ch x.val).pwm.zeroAt = s.now + dt
         ∧ (t.ch x.val).pwm.falling = false
         ∧ t.get (R.PWM_ZERO_T_NS x.val) = (s.elapse dt).stamp (pgPwm x.val) % 2 ^ 64)
  ∧ (∀ (s : State) (dt : Nat) (x : Fin 8),
       s.cellRuns x.val = true →
       s.shape →
       (s.ch x.val).pwm.started = false →
       (s.elapse dt).firstZero x.val = true →
       ∃ t, exec (.carrierZero dt x) s = .next t
         ∧ (t.ch x.val).pwm.started = true
         ∧ (t.ch x.val).pwm.zeroAt = s.now + dt
         ∧ (t.ch x.val).pwm.falling = false
         ∧ t.get (R.PWM_ZERO_T_NS x.val) = (s.elapse dt).stamp (pgPwm x.val) % 2 ^ 64)
  ∧ (∀ (s : State) (dt : Nat) (x : Fin 8),
       s.cellRuns x.val = true →
       (s.ch x.val).pwm.started = true →
       (s.ch x.val).pwm.mode ≠ 0 →
       (s.ch x.val).pwm.falling = false →
       (s.ch x.val).pwm.zeroAt + fine * (s.ch x.val).pwm.top ≤ s.now + dt →
       ∃ t, exec (.carrierPeak dt x) s = .next t
         ∧ (t.ch x.val).pwm.falling = true
         ∧ (t.ch x.val).pwm.zeroAt = (s.ch x.val).pwm.zeroAt)
  ∧ (∀ (s : State) (dt : Nat) (x : Fin 8) (y : Fin 4),
       s.cellRuns x.val = true →
       ∃ t, exec (.shootThrough dt x y) s = .next t
         ∧ (t.get (R.PWM_STATUS_SHOOT x.val)).testBit y.val = true
         ∧ t.source x.val (28 + y.val) = true
         ∧ (t.get (H.IRQ_RAW (pgPwm x.val))).testBit (1 + y.val) = true
         ∧ t.gd x.val y.val true = false
         ∧ t.gd x.val y.val false = false)
  ∧ (∀ (s : State) (dt : Nat) (x : Fin 8),
       s.hostOpen (pgPwm x.val) = true →
       ∃ t, exec (.pwmDisable dt x) s = .next t
         ∧ t.flag (R.PWM_CTRL_EN x.val) = false
         ∧ t.flag (R.PWM_STATUS_RUN x.val) = false
         ∧ (∀ (y : Fin 4) (high : Bool), t.gd x.val y.val high = false))
  ∧ (∀ (s : State) (dt : Nat) (x : Fin 8),
       s.hostOpen (pgPwm x.val) = true →
       s.shape →
       s.flag (R.PWM_STATUS_CH_FAULT x.val) = false →
       s.mayLeaveHusk x.val = true →
       s.flag (R.PWM_CTRL_EN x.val) = false →
       ∃ t, exec (.pwmEnable dt x) s = .next t
         ∧ t.flag (R.PWM_CTRL_EN x.val) = true
         ∧ (t.ch x.val).pwm.enAt = some (s.now + dt)
         ∧ t.get (R.PWM_STATUS_RUN x.val) = s.get (R.PWM_STATUS_RUN x.val))
  ∧ (∀ (s : State) (dt : Nat) (x : Fin 8),
       s.hostOpen (pgPwm x.val) = true →
       s.flag (R.PWM_STATUS_CH_FAULT x.val) = false →
       s.mayLeaveHusk x.val = true →
       s.flag (R.PWM_CTRL_EN x.val) = true →
       ∃ t, exec (.pwmEnable dt x) s = .next t
         ∧ t.regs = s.regs
         ∧ t.chan = s.chan)
  ∧ (∀ (s : State) (dt : Nat) (x : Fin 8),
       s.hostOpen (pgPwm x.val) = true →
       s.flag (R.PWM_STATUS_CH_FAULT x.val) = true ∨ s.mayLeaveHusk x.val = false →
       ∃ t, exec (.pwmEnable dt x) s = .next t
         ∧ t.get (R.PWM_CTRL_EN x.val) = s.get (R.PWM_CTRL_EN x.val)
         ∧ t.get (H.ERR_COUNT (pgPwm x.val)) = counted (H.ERR_COUNT (pgPwm x.val)) (s.get (H.ERR_COUNT (pgPwm x.val)))
         ∧ t.chan = s.chan)

/-- What a leg's edges and its bootstrap refresh do. In a running cell island with its carrier started: a
crossing gives the leg its ideal demand, and changes nothing else of the registers while the gates do not run.
A switch whose turn-off comes is off; one whose turn-on comes is on, and the other one is not. A high side on
for BOOT_MAX_ON is turned off for a refresh, which is counted; at the refresh's end the low side is off and
the high side turns on after the dead time. (R142, R145, R148) -/
def Obligations.PwmLegCommands : Prop :=
  (∀ (s : State) (dt : Nat) (x : Fin 8) (y : Fin 4),
       s.cellRuns x.val = true →
       (s.ch x.val).pwm.legs.length = 4 →
       (s.ch x.val).pwm.started = true →
       (s.elapse dt).idealAt x.val y.val ((s.now + dt - (s.ch x.val).pwm.zeroAt) / fine) ≠ (s.leg x.val y.val).d →
       ∃ t, exec (.idealEdge dt x y) s = .next t
         ∧ (t.leg x.val y.val).d = (s.elapse dt).idealAt x.val y.val ((s.now + dt - (s.ch x.val).pwm.zeroAt) / fine)
         ∧ (s.flag (R.PWM_STATUS_RUN x.val) = false → t.regs = s.regs))
  ∧ (∀ (s : State) (dt t0 : Nat) (x : Fin 8) (y : Fin 4) (high : Bool),
       s.cellRuns x.val = true →
       ((s.leg x.val y.val).sw high).st = .on →
       ((s.leg x.val y.val).sw high).stop = some t0 →
       t0 ≤ s.now + dt →
       ∃ t, exec (.scheduledSwitchOff dt x y high) s = .next t
         ∧ ((t.leg x.val y.val).sw high).st = .off
         ∧ (t.leg x.val y.val).sw (!high) = (s.leg x.val y.val).sw (!high)
         ∧ t.regs = s.regs)
  ∧ (∀ (s : State) (dt : Nat) (x : Fin 8) (y : Fin 4) (high : Bool),
       s.cellRuns x.val = true →
       ((s.leg x.val y.val).sw high).st = .wait →
       ((s.leg x.val y.val).sw high).start ≤ s.now + dt →
       ∃ t, exec (.scheduledSwitchOn dt x y high) s = .next t
         ∧ (t.leg x.val y.val).sw high = { ((s.leg x.val y.val).sw high) with st := .on }
         ∧ (t.leg x.val y.val).sw (!high) = (if ((s.leg x.val y.val).sw (!high)).st = .on then {} else (s.leg x.val y.val).sw (!high))
         ∧ t.regs = s.regs)
  ∧ (∀ (s : State) (dt : Nat) (x : Fin 8) (y : Fin 4),
       s.cellRuns x.val = true →
       s.get (R.PWM_LEGCFG_BOOT_MAX_ON x.val y.val) ≠ 0 →
       (s.leg x.val y.val).h.st = .on →
       (s.leg x.val y.val).h.stop = none →
       (s.leg x.val y.val).h.start + us (s.get (R.PWM_LEGCFG_BOOT_MAX_ON x.val y.val)) ≤ s.now + dt →
       ∃ t, exec (.bootstrapRefresh dt x y) s = .next t
         ∧ (t.leg x.val y.val).h.st = .off
         ∧ (t.leg x.val y.val).l.start = s.now + dt + fine * s.get (R.PWM_DT_FALL x.val y.val)
         ∧ (t.leg x.val y.val).refresh = some (s.now + dt + fine * s.get (R.PWM_DT_FALL x.val y.val) + fine * s.get (R.PWM_BOOT_REFRESH x.val y.val))
         ∧ t.get (R.PWM_EVT_REFRESH x.val y.val) = counted (R.PWM_EVT_REFRESH x.val y.val) (s.get (R.PWM_EVT_REFRESH x.val y.val)))
  ∧ (∀ (s : State) (dt t0 : Nat) (x : Fin 8) (y : Fin 4),
       s.cellRuns x.val = true →
       (s.leg x.val y.val).refresh = some t0 →
       t0 ≤ s.now + dt →
       ∃ t, exec (.refreshEnd dt x y) s = .next t
         ∧ (t.leg x.val y.val).l.st = .off
         ∧ (t.leg x.val y.val).h.start = t0 + fine * s.get (R.PWM_DT_RISE x.val y.val)
         ∧ (t.leg x.val y.val).refresh = none
         ∧ t.regs = s.regs)

/-- How a cell joins and leaves. A join of an idle cell waits for the DC link where nothing refuses it, and
shows REFUSE where something does. A link that has qualified takes the cell to JOINING with its Kernel enabled
and CH_FAULT cleared, and, where its Kernel runs already, the PWM enabled in the zero state; a Kernel not
running within 1 ms ends the join with REFUSE 8. The epoch's update point takes a joining cell to RUN, a cell
with a grant to SHELL, a cell whose window has closed back to RUN, and a leaving cell first to its
substitution and then to HUSK. A leave takes a running cell to LEAVING. A low DC link takes the cell to HUSK
with its gates off, and with AUTO_JOIN on to WAIT_DC where nothing refuses the join. (R222, R223, R224, R226,
R234) -/
def Obligations.CellJoinCommands : Prop :=
  (∀ (s : State) (dt : Nat) (x : Fin 8),
       s.hostOpen (pgCell x.val) = true →
       s.cellState x.val = csHusk →
       s.joinRefusal x.val = 0 →
       (s.engineRead (pgCell x.val) (cellArea x.val) 0x2000).1 = true →
       ∃ t, exec (.cellJoin dt x) s = .next t
         ∧ t.cellState x.val = csWaitDc
         ∧ t.flag (R.CELL_CTRL_JOIN x.val) = true
         ∧ t.get (R.CELL_STATUS_REFUSE x.val) = 0)
  ∧ (∀ (s : State) (dt : Nat) (x : Fin 8),
       s.hostOpen (pgCell x.val) = true →
       s.cellState x.val = csHusk →
       s.joinRefusal x.val ≠ 0 →
       ∃ t, exec (.cellJoin dt x) s = .next t
         ∧ t.cellState x.val = csHusk
         ∧ t.flag (R.CELL_CTRL_JOIN x.val) = false
         ∧ t.get (R.CELL_STATUS_REFUSE x.val) = s.joinRefusal x.val
         ∧ (t.get (H.IRQ_RAW (pgCell x.val))).testBit 2 = true)
  ∧ (∀ (s : State) (dt : Nat) (x : Fin 8),
       s.hostOpen (pgCell x.val) = true →
       s.cellState x.val = csHusk →
       s.joinRefusal x.val = 0 →
       (s.engineRead (pgCell x.val) (cellArea x.val) 0x2000).1 = false →
       ∃ t, exec (.cellJoin dt x) s = .next t
         ∧ t.cellState x.val = csHusk
         ∧ t.get (R.CELL_STATUS_REFUSE x.val) = 9
         ∧ t.flag (R.PWM_STATUS_CH_FAULT x.val) = true
         ∧ (t.get (H.IRQ_RAW (pgCell x.val))).testBit 2 = true)
  ∧ (∀ (s : State) (dt t0 : Nat) (x : Fin 8),
       s.cellRuns x.val = true →
       (s.ch x.val).cell.highSince = some t0 →
       s.cellState x.val = csWaitDc →
       t0 + ms (s.get (R.CELL_JOIN_TIME_JOIN_MS x.val)) ≤ s.now + dt →
       s.joinRefusal x.val = 0 →
       (s.engineRead (pgCell x.val) (cellArea x.val) 0x2000).1 = true →
       s.keState x.val = kRun →
       (s.ch x.val).ke.stopping = false →
       ∃ t, exec (.dcLinkQualify dt x) s = .next t
         ∧ t.cellState x.val = csJoining
         ∧ t.flag (R.PWM_STATUS_CH_FAULT x.val) = false
         ∧ t.flag (R.KE_CTRL_EN x.val) = true
         ∧ t.flag (R.PWM_CTRL_EN x.val) = true
         ∧ (t.ch x.val).cell.join = .carrier
         ∧ (t.ch x.val).cell.subst = true)
  ∧ (∀ (s : State) (dt t0 : Nat) (x : Fin 8),
       s.cellRuns x.val = true →
       (s.ch x.val).cell.highSince = some t0 →
       s.cellState x.val = csWaitDc →
       t0 + ms (s.get (R.CELL_JOIN_TIME_JOIN_MS x.val)) ≤ s.now + dt →
       s.joinRefusal x.val = 0 →
       (s.engineRead (pgCell x.val) (cellArea x.val) 0x2000).1 = true →
       s.keState x.val ≠ kTest →
       s.keState x.val ≠ kRun →
       ∃ t, exec (.dcLinkQualify dt x) s = .next t
         ∧ t.cellState x.val = csJoining
         ∧ t.flag (R.PWM_STATUS_CH_FAULT x.val) = false
         ∧ t.flag (R.KE_CTRL_EN x.val) = true
         ∧ (t.ch x.val).cell.join = .kernel
         ∧ (t.ch x.val).cell.joinAt = s.now + dt)
  ∧ (∀ (s : State) (dt t0 : Nat) (x : Fin 8),
       s.cellRuns x.val = true →
       (s.ch x.val).cell.highSince = some t0 →
       s.cellState x.val = csWaitDc →
       t0 + ms (s.get (R.CELL_JOIN_TIME_JOIN_MS x.val)) ≤ s.now + dt →
       s.joinRefusal x.val ≠ 0 →
       ∃ t, exec (.dcLinkQualify dt x) s = .next t
         ∧ t.cellState x.val = csHusk
         ∧ t.get (R.CELL_STATUS_REFUSE x.val) = s.joinRefusal x.val
         ∧ (t.get (H.IRQ_RAW (pgCell x.val))).testBit 2 = true)
  ∧ (∀ (s : State) (dt : Nat) (x : Fin 8),
       s.cellRuns x.val = true →
       s.cellState x.val = csJoining →
       (s.ch x.val).cell.join = .kernel →
       (s.ch x.val).cell.joinAt + ms 1 ≤ s.now + dt →
       ∃ t, exec (.joinKernelTimeout dt x) s = .next t
         ∧ t.cellState x.val = csHusk
         ∧ t.get (R.CELL_STATUS_REFUSE x.val) = 8
         ∧ (t.ch x.val).cell.join = .none
         ∧ (t.get (H.IRQ_RAW (pgCell x.val))).testBit 2 = true)
  ∧ (∀ (s : State) (dt : Nat) (x : Fin 8),
       s.hostOpen (pgCell x.val) = true →
       s.cellState x.val = csRun ∨ s.cellState x.val = csShell →
       ∃ t, exec (.cellLeave dt x) s = .next t
         ∧ t.cellState x.val = csLeaving
         ∧ (t.ch x.val).cell.window = none
         ∧ (t.ch x.val).cell.scan = none)
  ∧ (∀ (s : State) (dt : Nat) (x : Fin 8),
       s.hostOpen (pgCell x.val) = true →
       s.cellState x.val = csWaitDc →
       ∃ t, exec (.cellLeave dt x) s = .next t
         ∧ t.cellState x.val = csHusk
         ∧ t.chan = s.chan)
  ∧ (∀ (s : State) (dt t0 : Nat) (x : Fin 8),
       s.cellRuns x.val = true →
       (s.ch x.val).cell.lowSince = some t0 →
       csJoining ≤ s.cellState x.val →
       s.cellState x.val ≤ csLeaving →
       t0 + us (s.get (R.CELL_JOIN_TIME_LEAVE_US x.val)) ≤ s.now + dt →
       s.flag (R.CELL_CFG_AUTO_JOIN x.val) = false →
       ∃ t, exec (.dcLinkLow dt x) s = .next t
         ∧ t.cellState x.val = csHusk
         ∧ t.get (R.CELL_STATUS_LEAVE_CAUSE x.val) = 2
         ∧ t.flag (R.PWM_CTRL_EN x.val) = false
         ∧ t.get (R.CELL_CNT_B_LOW_LEAVES x.val) = counted (R.CELL_CNT_B_LOW_LEAVES x.val) (s.get (R.CELL_CNT_B_LOW_LEAVES x.val)))
  ∧ (∀ (s : State) (dt : Nat) (x : Fin 8),
       s.cellRuns x.val = true →
       (s.elapse dt).atUpdatePoint x.val = true →
       (s.elapse dt).epochDue x.val = true →
       s.cellState x.val = csJoining →
       (s.ch x.val).cell.join = .epoch →
       ∃ t, exec (.epochUpdatePoint dt x) s = .next t
         ∧ t.cellState x.val = csRun
         ∧ (t.ch x.val).cell.subst = false
         ∧ (t.ch x.val).cell.join = .none
         ∧ (t.get (H.IRQ_RAW (pgCell x.val))).testBit 0 = true)
  ∧ (∀ (s : State) (dt : Nat) (x : Fin 8),
       s.cellRuns x.val = true →
       (s.elapse dt).atUpdatePoint x.val = true →
       (s.elapse dt).epochDue x.val = true →
       s.cellState x.val = csRun →
       (s.ch x.val).cell.shellGrant = true →
       ∃ t, exec (.epochUpdatePoint dt x) s = .next t
         ∧ t.cellState x.val = csShell
         ∧ (t.ch x.val).cell.subst = true
         ∧ (t.ch x.val).cell.shellGrant = false
         ∧ (t.ch x.val).cell.window = some { start := s.now + dt, blockAt := s.now + dt })
  ∧ (∀ (s : State) (dt : Nat) (x : Fin 8) (w : WindowSt),
       s.cellRuns x.val = true →
       (s.elapse dt).atUpdatePoint x.val = true →
       (s.elapse dt).epochDue x.val = true →
       s.cellState x.val = csShell →
       (s.ch x.val).cell.window = some w →
       w.asked ≠ none →
       ∃ t, exec (.epochUpdatePoint dt x) s = .next t
         ∧ t.cellState x.val = csRun
         ∧ (t.ch x.val).cell.subst = false
         ∧ (t.ch x.val).cell.window = none)
  ∧ (∀ (s : State) (dt : Nat) (x : Fin 8),
       s.cellRuns x.val = true →
       (s.elapse dt).atUpdatePoint x.val = true →
       (s.elapse dt).epochDue x.val = true →
       s.cellState x.val = csLeaving →
       (s.ch x.val).cell.leaving = false →
       ∃ t, exec (.epochUpdatePoint dt x) s = .next t
         ∧ t.cellState x.val = csLeaving
         ∧ (t.ch x.val).cell.subst = true
         ∧ (t.ch x.val).cell.leaving = true)
  ∧ (∀ (s : State) (dt : Nat) (x : Fin 8),
       s.cellRuns x.val = true →
       (s.elapse dt).atUpdatePoint x.val = true →
       (s.elapse dt).epochDue x.val = true →
       s.cellState x.val = csLeaving →
       (s.ch x.val).cell.leaving = true →
       ∃ t, exec (.epochUpdatePoint dt x) s = .next t
         ∧ t.cellState x.val = csHusk
         ∧ t.get (R.CELL_STATUS_LEAVE_CAUSE x.val) = 1
         ∧ t.flag (R.PWM_CTRL_EN x.val) = false)
  ∧ (∀ (s : State) (dt t0 : Nat) (x : Fin 8),
       s.cellRuns x.val = true →
       (s.ch x.val).cell.lowSince = some t0 →
       csJoining ≤ s.cellState x.val →
       s.cellState x.val ≤ csLeaving →
       t0 + us (s.get (R.CELL_JOIN_TIME_LEAVE_US x.val)) ≤ s.now + dt →
       s.flag (R.CELL_CFG_AUTO_JOIN x.val) = true →
       s.joinRefusal x.val = 0 →
       (s.engineRead (pgCell x.val) (cellArea x.val) 0x2000).1 = true →
       ∃ t, exec (.dcLinkLow dt x) s = .next t
         ∧ t.cellState x.val = csWaitDc
         ∧ t.get (R.CELL_STATUS_LEAVE_CAUSE x.val) = 2
         ∧ t.flag (R.PWM_CTRL_EN x.val) = false)

/-- What shell sampling and curtailment do. While the conditions of a shell request hold at its due time the
request is shown, and not otherwise; SHELL_NOW makes it due. In an open window a clipped block ends it with
code 3, a settled one with code 1 and a fresh open-circuit voltage, and any other begins the next block;
MAX_MS ends it with code 2; a close request that nobody answers for 1 ms gets its epoch. Curtailment is shown
after ON_MS and ends after OFF_MS. (R231, R232, R234, R236) -/
def Obligations.CellShellCommands : Prop :=
  (∀ (s : State) (dt : Nat) (x : Fin 8),
       s.cellRuns x.val = true →
       ∃ t, exec (.shellDue dt x) s = .next t
         ∧ t.flag (R.CELL_STATUS_SHELL_REQ x.val) = (s.elapse dt).mayAsk x.val)
  ∧ (∀ (s : State) (dt : Nat) (x : Fin 8),
       s.hostOpen (pgCell x.val) = true →
       s.shape →
       s.flag (R.CELL_STATUS_SHELL_REQ x.val) = false →
       s.hasPv x.val = true →
       s.flag (R.CELL_CFG_SHELL_EN x.val) = true →
       s.cellState x.val = csRun →
       s.syncLost = false →
       s.flag (R.CELL_STATUS_CURT x.val) = false →
       s.flag (R.CELL_STATUS_SCANNING x.val) = false →
       (s.ch x.val).cell.shellGrant = false →
       ∃ t, exec (.shellNow dt x) s = .next t
         ∧ t.flag (R.CELL_STATUS_SHELL_REQ x.val) = true
         ∧ (t.ch x.val).cell.shellDue = some (s.now + dt)
         ∧ (t.ch x.val).cell.reqAt = s.now + dt)
  ∧ (∀ (s : State) (dt : Nat) (x : Fin 8) (w : WindowSt),
       s.cellRuns x.val = true →
       (s.ch x.val).cell.window = some w →
       s.cellState x.val = csShell →
       w.asked = none →
       w.blockAt + ms (s.get (R.CELL_SETTLE_CFG_BLOCK_MS x.val)) ≤ s.now + dt →
       s.clipped x.val = true →
       ∃ t, exec (.shellBlockEnd dt x) s = .next t
         ∧ t.get (R.CELL_SHELL_RESULT_CODE x.val) = 3
         ∧ (t.ch x.val).cell.window = some { w with asked := some (s.now + dt) }
         ∧ t.cellState x.val = csShell)
  ∧ (∀ (s : State) (dt : Nat) (x : Fin 8) (w : WindowSt),
       s.cellRuns x.val = true →
       (s.ch x.val).cell.window = some w →
       s.cellState x.val = csShell →
       w.asked = none →
       w.blockAt + ms (s.get (R.CELL_SETTLE_CFG_BLOCK_MS x.val)) ≤ s.now + dt →
       s.clipped x.val = false →
       w.num ≠ 0 →
       w.last = none →
       ∃ t, exec (.shellBlockEnd dt x) s = .next t
         ∧ (t.ch x.val).cell.window = some { w with blockAt := s.now + dt, sum := 0, num := 0, last := some ((w.sum : Rat) / (w.num : Rat)) }
         ∧ t.regs = s.regs)
  ∧ (∀ (s : State) (dt : Nat) (x : Fin 8) (w : WindowSt) (l : Rat),
       s.cellRuns x.val = true →
       (s.ch x.val).cell.window = some w →
       s.cellState x.val = csShell →
       w.asked = none →
       w.blockAt + ms (s.get (R.CELL_SETTLE_CFG_BLOCK_MS x.val)) ≤ s.now + dt →
       s.clipped x.val = false →
       w.num ≠ 0 →
       w.last = some l →
       |(w.sum : Rat) / (w.num : Rat) - l| ≤ (s.get (R.CELL_SETTLE_CFG_DV x.val) : Rat) →
       ∃ t, exec (.shellBlockEnd dt x) s = .next t
         ∧ t.get (R.CELL_SHELL_RESULT_CODE x.val) = 1
         ∧ t.get (R.CELL_SHELL_T_NS x.val) = (s.elapse dt).stamp (pgCell x.val) % 2 ^ 64
         ∧ (t.ch x.val).cell.vocValid = true
         ∧ (t.ch x.val).cell.window = some { w with asked := some (s.now + dt), last := some ((w.sum : Rat) / (w.num : Rat)) })
  ∧ (∀ (s : State) (dt : Nat) (x : Fin 8) (w : WindowSt),
       s.cellRuns x.val = true →
       (s.ch x.val).cell.window = some w →
       s.cellState x.val = csShell →
       w.asked = none →
       w.blockAt + ms (s.get (R.CELL_SETTLE_CFG_BLOCK_MS x.val)) ≤ s.now + dt →
       s.clipped x.val = false →
       w.num = 0 →
       ∃ t, exec (.shellBlockEnd dt x) s = .next t
         ∧ (t.ch x.val).cell.window = some { w with blockAt := s.now + dt }
         ∧ t.regs = s.regs)
  ∧ (∀ (s : State) (dt : Nat) (x : Fin 8) (w : WindowSt),
       s.cellRuns x.val = true →
       (s.ch x.val).cell.window = some w →
       s.cellState x.val = csShell →
       w.asked = none →
       w.start + ms (s.get (R.CELL_SHELL_CFG_MAX_MS x.val)) ≤ s.now + dt →
       ∃ t, exec (.shellTimeout dt x) s = .next t
         ∧ t.get (R.CELL_SHELL_RESULT_CODE x.val) = 2
         ∧ (t.ch x.val).cell.window = some { w with asked := some (s.now + dt) }
         ∧ t.get (R.CELL_CNT_A_MISSED x.val) = counted (R.CELL_CNT_A_MISSED x.val) (s.get (R.CELL_CNT_A_MISSED x.val)))
  ∧ (∀ (s : State) (dt t0 : Nat) (x : Fin 8) (w : WindowSt),
       s.cellRuns x.val = true →
       (s.ch x.val).cell.window = some w →
       w.asked = some t0 →
       s.cellState x.val = csShell →
       (s.ch x.val).cell.epoch = none →
       t0 + ms 1 ≤ s.now + dt →
       ∃ t, exec (.shellCloseTimeout dt x) s = .next t
         ∧ (t.ch x.val).cell.epoch = some (s.elapse dt).canopy
         ∧ (t.ch x.val).cell.window = some w)
  ∧ (∀ (s : State) (dt t0 : Nat) (x : Fin 8),
       s.cellRuns x.val = true →
       (s.ch x.val).cell.onSince = some t0 →
       s.hasPv x.val = true →
       s.cellState x.val = csRun →
       s.flag (R.CELL_STATUS_CURT x.val) = false →
       t0 + ms (s.get (R.CELL_CURT_CFG_ON_MS x.val)) ≤ s.now + dt →
       ∃ t, exec (.curtOn dt x) s = .next t
         ∧ t.flag (R.CELL_STATUS_CURT x.val) = true
         ∧ (t.ch x.val).cell.scan = none
         ∧ t.flag (R.CELL_STATUS_SHELL_REQ x.val) = false
         ∧ (t.get (H.IRQ_RAW (pgCell x.val))).testBit 7 = true)
  ∧ (∀ (s : State) (dt t0 : Nat) (x : Fin 8),
       s.cellRuns x.val = true →
       (s.ch x.val).cell.offSince = some t0 →
       s.flag (R.CELL_STATUS_CURT x.val) = true →
       t0 + ms (s.get (R.CELL_CURT_CFG_OFF_MS x.val)) ≤ s.now + dt →
       ∃ t, exec (.curtOff dt x) s = .next t
         ∧ t.flag (R.CELL_STATUS_CURT x.val) = false
         ∧ (t.get (H.IRQ_RAW (pgCell x.val))).testBit 7 = true)

/-- What perturb-and-observe and the global scan do. A tracking period that ends turns the direction where the
mean power fell, and begins the next; while PO_EN is 0 it turns nothing. A scan that is due and may run starts
at its last point; SCAN_NOW makes it due. A dwell that ends takes the scan to the point below, and after the
lowest point ends it, counts it and latches event 5. (R238, R239) -/
def Obligations.CellTrackingCommands : Prop :=
  (∀ (s : State) (dt : Nat) (x : Fin 8),
       s.cellRuns x.val = true →
       s.hasPv x.val = true →
       s.flag (R.CELL_CFG_PO_EN x.val) = true →
       s.cellState x.val = csRun →
       s.flag (R.CELL_STATUS_CURT x.val) = false →
       (s.ch x.val).cell.scan = none →
       (s.ch x.val).cell.poNum ≠ 0 →
       (s.ch x.val).cell.poAt + ms (s.get (R.CELL_PO_CFG_PERIOD_MS x.val)) ≤ s.now + dt →
       ∃ t, exec (.poPeriodEnd dt x) s = .next t
         ∧ (t.ch x.val).cell.dir = (if (s.ch x.val).cell.poSum / ((s.ch x.val).cell.poNum : Rat) < (s.ch x.val).cell.pLast then -(s.ch x.val).cell.dir else (s.ch x.val).cell.dir)
         ∧ (t.ch x.val).cell.pLast = (s.ch x.val).cell.poSum / ((s.ch x.val).cell.poNum : Rat)
         ∧ (t.ch x.val).cell.poAt = s.now + dt
         ∧ (t.ch x.val).cell.poNum = 0)
  ∧ (∀ (s : State) (dt : Nat) (x : Fin 8),
       s.cellRuns x.val = true →
       s.hasPv x.val = true →
       s.flag (R.CELL_CFG_PO_EN x.val) = false →
       s.cellState x.val = csRun →
       s.flag (R.CELL_STATUS_CURT x.val) = false →
       (s.ch x.val).cell.scan = none →
       (s.ch x.val).cell.poAt + ms (s.get (R.CELL_PO_CFG_PERIOD_MS x.val)) ≤ s.now + dt →
       ∃ t, exec (.poPeriodEnd dt x) s = .next t
         ∧ (t.ch x.val).cell.dir = (s.ch x.val).cell.dir
         ∧ t.regs = s.regs)
  ∧ (∀ (s : State) (dt t0 : Nat) (x : Fin 8),
       s.cellRuns x.val = true →
       (s.ch x.val).cell.scanDue = some t0 →
       t0 ≤ s.now + dt →
       (s.ch x.val).cell.scan = none →
       s.flag (R.CELL_CFG_SCAN_EN x.val) = true →
       s.cellState x.val = csRun →
       s.flag (R.CELL_STATUS_CURT x.val) = false →
       (s.ch x.val).cell.vocValid = true →
       (s.ch x.val).cell.window = none →
       ∃ t, exec (.scanDue dt x) s = .next t
         ∧ t.flag (R.CELL_STATUS_SCANNING x.val) = true
         ∧ (t.ch x.val).cell.scan = some { k := s.get (R.CELL_SCAN_CFG_STEPS x.val) - 1, at_ := s.now + dt, vref := s.get (R.CELL_V_REF_MV x.val) }
         ∧ (t.ch x.val).cell.scanDue = none)
  ∧ (∀ (s : State) (dt : Nat) (x : Fin 8),
       s.hostOpen (pgCell x.val) = true →
       (s.ch x.val).cell.scan = none →
       s.flag (R.CELL_CFG_SCAN_EN x.val) = true →
       s.cellState x.val = csRun →
       s.flag (R.CELL_STATUS_CURT x.val) = false →
       (s.ch x.val).cell.vocValid = true →
       (s.ch x.val).cell.window = none →
       ∃ t, exec (.scanNow dt x) s = .next t
         ∧ t.flag (R.CELL_STATUS_SCANNING x.val) = true
         ∧ (t.ch x.val).cell.scan = some { k := s.get (R.CELL_SCAN_CFG_STEPS x.val) - 1, at_ := s.now + dt, vref := s.get (R.CELL_V_REF_MV x.val) }
         ∧ (t.ch x.val).cell.scanDue = none)
  ∧ (∀ (s : State) (dt : Nat) (x : Fin 8) (c : ScanSt),
       s.cellRuns x.val = true →
       (s.ch x.val).cell.scan = some c →
       c.at_ + ms (s.get (R.CELL_SCAN_CFG_DWELL_MS x.val)) ≤ s.now + dt →
       c.k = 0 →
       ∃ t, exec (.scanDwellEnd dt x) s = .next t
         ∧ t.flag (R.CELL_STATUS_SCANNING x.val) = false
         ∧ (t.ch x.val).cell.scan = none
         ∧ t.get (R.CELL_CNT_B_SCANS x.val) = counted (R.CELL_CNT_B_SCANS x.val) (s.get (R.CELL_CNT_B_SCANS x.val))
         ∧ (t.get (H.IRQ_RAW (pgCell x.val))).testBit 5 = true)
  ∧ (∀ (s : State) (dt : Nat) (x : Fin 8) (c : ScanSt),
       s.cellRuns x.val = true →
       (s.ch x.val).cell.scan = some c →
       c.at_ + ms (s.get (R.CELL_SCAN_CFG_DWELL_MS x.val)) ≤ s.now + dt →
       c.k ≠ 0 →
       c.num ≠ 0 →
       ∃ t, exec (.scanDwellEnd dt x) s = .next t
         ∧ (t.ch x.val).cell.scan = some { c with k := c.k - 1, at_ := s.now + dt, sum := 0, num := 0, done := (((s.get (R.CELL_V_REF_MV x.val) : Nat) : Int), c.sum / (c.num : Rat)) :: c.done })

/-- What a Kernel's sample, schedule and controls do. The compare write shows each output's index and ends
step 9; the prediction shows the twelve states, counts the sample and ends it. A validated schedule is ready
for its sample; one that fails refuses the commit, or faults the Kernel with cause 6 when no commit asked for
it; a double-bit error in what the check reads faults it with cause 5. A write of 1 to EN arms the Kernel
where nothing forbids it; a write of 0 disables it, and faults it with cause 7 while it drives running legs. A
test runs from its start to its end, which shows whether it passed. (R186, R193, R205, R210, R211) -/
def Obligations.KernelCommands : Prop :=
  (∀ (s : State) (dt : Nat) (x : Fin 8) (p : KeSample),
       s.cellRuns x.val = true →
       (s.ch x.val).ke.sample = some p →
       p.written = false →
       p.at_ + 448 * cellCycle ≤ s.now + dt →
       ∃ t, exec (.kernelCompareWrite dt x) s = .next t
         ∧ (∀ j : Fin 4, t.get (R.KE_OUT_INDEX x.val j.val) = ux 16 (p.idx.getD j.val 0) ∧ t.flag (R.KE_OUT_LIMITED x.val j.val) = p.lim.getD j.val false)
         ∧ t.flag (R.KE_STATUS_LIMITED x.val) = (List.range 4).any (fun j => p.lim.getD j false)
         ∧ (t.ch x.val).ke.sample = some { p with written := true })
  ∧ (∀ (s : State) (dt : Nat) (x : Fin 8) (p : KeSample),
       s.cellRuns x.val = true →
       (s.ch x.val).ke.sample = some p →
       p.written = true →
       p.at_ + 608 * cellCycle ≤ s.now + dt →
       ∃ t, exec (.kernelPredictionDone dt x) s = .next t
         ∧ (∀ i : Fin 12, t.get (R.KE_STATE_VALUE x.val i.val) = ux 64 ((predictRow s.mem x.val p.bank p.sc p.ubar p.r p.w).1.getD i.val (0, false)).1)
         ∧ t.get (R.KE_SEQ_COUNT x.val) = (s.get (R.KE_SEQ_COUNT x.val) + 1) % 2 ^ (R.KE_SEQ_COUNT x.val).width
         ∧ (t.ch x.val).ke.sample = none)
  ∧ (∀ (s : State) (dt : Nat) (x : Fin 8) (v : KeValid),
       s.cellRuns x.val = true →
       (s.ch x.val).ke.valid = some v →
       (s.schedRead x.val v.sched).1 = true →
       s.schedValid x.val v.sched = true →
       ∃ t, exec (.scheduleValidationDone dt x) s = .next t
         ∧ (t.ch x.val).ke.ready = some v.sched
         ∧ (t.ch x.val).ke.valid = none
         ∧ t.staged = s.staged
         ∧ t.keState x.val = s.keState x.val
         ∧ (s.ecc = [] → t.regs = s.regs))
  ∧ (∀ (s : State) (dt : Nat) (x : Fin 8) (v : KeValid),
       s.cellRuns x.val = true →
       (s.ch x.val).ke.valid = some v →
       (s.schedRead x.val v.sched).1 = true →
       s.schedValid x.val v.sched = false →
       v.commit = true →
       ∃ t, exec (.scheduleValidationDone dt x) s = .next t
         ∧ t.flag (R.KE_STATUS_XFER_REFUSED x.val) = true
         ∧ (t.ch x.val).ke.valid = none
         ∧ t.flag (H.COMMIT_GO (pgKe x.val)) = false
         ∧ (t.get (H.IRQ_RAW (pgKe x.val))).testBit 7 = true)
  ∧ (∀ (s : State) (dt : Nat) (x : Fin 8) (v : KeValid),
       s.cellRuns x.val = true →
       (s.ch x.val).ke.valid = some v →
       (s.schedRead x.val v.sched).1 = true →
       s.schedValid x.val v.sched = false →
       v.commit = false →
       ∃ t, exec (.scheduleValidationDone dt x) s = .next t
         ∧ t.flag (R.KE_STATUS_KFAULT x.val) = true
         ∧ t.get (R.KE_FAULT_CAUSE x.val) = 6
         ∧ t.flag (R.PWM_STATUS_CH_FAULT x.val) = true
         ∧ t.flag (R.PWM_CTRL_EN x.val) = false)
  ∧ (∀ (s : State) (dt : Nat) (x : Fin 8) (v : KeValid),
       s.cellRuns x.val = true →
       (s.ch x.val).ke.valid = some v →
       (s.schedRead x.val v.sched).1 = false →
       ∃ t, exec (.scheduleValidationDone dt x) s = .next t
         ∧ t.flag (R.KE_STATUS_KFAULT x.val) = true
         ∧ t.get (R.KE_FAULT_CAUSE x.val) = 5
         ∧ t.flag (R.PWM_STATUS_CH_FAULT x.val) = true
         ∧ t.flag (R.PWM_CTRL_EN x.val) = false)
  ∧ (∀ (s : State) (dt : Nat) (x : Fin 8),
       s.hostOpen (pgKe x.val) = true →
       s.flag (R.PWM_STATUS_CH_FAULT x.val) = false →
       s.flag (R.KE_STATUS_TEST_FAIL x.val) = false →
       s.keState x.val ≠ kTest →
       ∃ t, exec (.kernelEnable dt x) s = .next t
         ∧ t.flag (R.KE_CTRL_EN x.val) = true
         ∧ t.keState x.val = (if s.keState x.val = kOff then kArmed else s.keState x.val))
  ∧ (∀ (s : State) (dt : Nat) (x : Fin 8),
       s.hostOpen (pgKe x.val) = true →
       s.flag (R.PWM_STATUS_CH_FAULT x.val) = true ∨ s.flag (R.KE_STATUS_TEST_FAIL x.val) = true ∨ s.keState x.val = kTest →
       ∃ t, exec (.kernelEnable dt x) s = .next t
         ∧ t.get (R.KE_CTRL_EN x.val) = s.get (R.KE_CTRL_EN x.val)
         ∧ t.get (H.ERR_COUNT (pgKe x.val)) = counted (H.ERR_COUNT (pgKe x.val)) (s.get (H.ERR_COUNT (pgKe x.val))))
  ∧ (∀ (s : State) (dt : Nat) (x : Fin 8),
       s.hostOpen (pgKe x.val) = true →
       s.flag (R.KE_CTRL_EN x.val) = true →
       s.flag (R.PWM_CTRL_EN x.val) = false →
       ∃ t, exec (.kernelDisable dt x) s = .next t
         ∧ t.flag (R.KE_CTRL_EN x.val) = false
         ∧ ((s.ch x.val).ke.sample = none → t.keState x.val = kOff)
         ∧ ((s.ch x.val).ke.sample ≠ none → (t.ch x.val).ke.stopping = true))
  ∧ (∀ (s : State) (dt : Nat) (x : Fin 8),
       s.hostOpen (pgKe x.val) = true →
       s.flag (R.KE_CTRL_EN x.val) = true →
       s.flag (R.PWM_CTRL_EN x.val) = true →
       (List.range 4).any (s.legKernel x.val) = true →
       ∃ t, exec (.kernelDisable dt x) s = .next t
         ∧ t.get (R.KE_FAULT_CAUSE x.val) = 7
         ∧ t.flag (R.KE_STATUS_KFAULT x.val) = true
         ∧ t.flag (R.PWM_CTRL_EN x.val) = false)
  ∧ (∀ (s : State) (dt : Nat) (x : Fin 8),
       s.hostOpen (pgKe x.val) = true →
       s.shape →
       s.flag (R.KE_CTRL_EN x.val) = false →
       s.flag (R.PWM_CTRL_EN x.val) = false →
       s.keState x.val ≠ kTest →
       ∃ t, exec (.kernelTestStart dt x) s = .next t
         ∧ t.keState x.val = kTest
         ∧ t.flag (R.KE_CTRL_TEST x.val) = true
         ∧ (t.ch x.val).ke.testEnd = s.now + dt + 38912 * cellCycle)
  ∧ (∀ (s : State) (dt : Nat) (x : Fin 8) (pass : Bool),
       s.cellRuns x.val = true →
       s.keState x.val = kTest →
       (s.ch x.val).ke.testEnd ≤ s.now + dt →
       ∃ t, exec (.kernelTestDone dt x pass) s = .next t
         ∧ t.keState x.val = kOff
         ∧ t.flag (R.KE_STATUS_TEST_PASS x.val) = pass
         ∧ t.flag (R.KE_STATUS_TEST_FAIL x.val) = !pass
         ∧ t.flag (R.KE_CTRL_TEST x.val) = false
         ∧ (t.get (H.IRQ_RAW (pgKe x.val))).testBit 10 = true)

/-- What triggers and sample centres do. An event of a running carrier that matches the trigger of its own
page, a firing of the Canopy timer and TRIG_NOW each add one target time, DELAY cell-island cycles later,
where fewer than four are held, and count an overrun where four are. A converter's trigger of another
carrier's event does the same. A sample centre, at the first edge of the running modulator clock at or after a
target, stamps SAMPLE_T, counts SAMPLE_SEQ and drops the targets it served; with the clock off a target that
has come is dropped. (R113, R114, R115, R116, R104) -/
def Obligations.TriggerCommands : Prop :=
  (∀ (s : State) (dt : Nat) (u : Fin 13) (cell : Fin 8) (kind : TrigKind) (age : Nat),
       s.cellRuns cell.val = true →
       (s.ch cell.val).pwm.started = true →
       u.val = cell.val →
       trigMatch (s.get (R.SENSE_TRIG_SRC u.val)) (s.get (R.SENSE_TRIG_LEG u.val)) (s.ch cell.val).pwm.mode kind = true →
       s.carrierMade cell.val (s.now + dt - age) kind = true →
       ((s.ch u.val).sense.trig.filter (fun e => decide (s.now + dt < e))).length < 4 →
       ∃ t, exec (.triggerEvent dt u cell kind age) s = .next t
         ∧ (t.ch u.val).sense.trig = (s.ch u.val).sense.trig ++ [(PageIsland.cell cell.val).edge (s.now + dt - age) + cellCycle * s.get (R.SENSE_TRIG_DELAY u.val)]
         ∧ t.regs = s.regs)
  ∧ (∀ (s : State) (dt : Nat) (u : Fin 13) (cell : Fin 8) (kind : TrigKind) (age n : Nat),
       s.cellRuns cell.val = true →
       (s.ch cell.val).pwm.started = true →
       u.val = 8 + n →
       s.gridRuns = true →
       s.shape →
       s.get (R.SAR_TRIG_CELL n) = cell.val →
       trigMatch (s.get (R.SAR_TRIG_SRC n)) (s.get (R.SAR_TRIG_LEG n)) (s.ch cell.val).pwm.mode kind = true →
       s.carrierMade cell.val (s.now + dt - age) kind = true →
       ((s.sarSt n).trig.filter (fun e => decide (s.now + dt < e))).length < 4 →
       ∃ t, exec (.triggerEvent dt u cell kind age) s = .next t
         ∧ (t.sarSt n).trig = (s.sarSt n).trig ++ [max ((PageIsland.cell cell.val).edge (s.now + dt - age) + cellCycle * s.get (R.SAR_TRIG_DELAY n)) (s.now + dt)]
         ∧ (t.sarSt n).lastEvt = some ((PageIsland.cell cell.val).edge (s.now + dt - age))
         ∧ t.regs = s.regs)
  ∧ (∀ (s : State) (dt : Nat) (u : Fin 13),
       u.val < 8 →
       s.cellRuns u.val = true →
       s.shape →
       s.get (R.SENSE_TRIG_SRC u.val) = 5 →
       (s.elapse dt).timerDue (.cell u.val) (s.get (R.SENSE_TMR_PERIOD_NS u.val)) (s.get (R.SENSE_TMR_PHASE_NS u.val)) (s.ch u.val).sense.tmrAt = true →
       ((s.ch u.val).sense.trig.filter (fun e => decide (s.now + dt < e))).length < 4 →
       ∃ t, exec (.canopyTimerFire dt u) s = .next t
         ∧ (t.ch u.val).sense.trig = (s.ch u.val).sense.trig ++ [(PageIsland.cell u.val).edge (s.now + dt) + cellCycle * s.get (R.SENSE_TRIG_DELAY u.val)]
         ∧ (t.ch u.val).sense.tmrAt = (s.elapse dt).canopy
         ∧ t.regs = s.regs)
  ∧ (∀ (s : State) (dt n : Nat) (u : Fin 13),
       u.val = 8 + n →
       s.gridRuns = true →
       s.shape →
       s.get (R.SAR_TRIG_SRC n) = 5 →
       (s.elapse dt).timerDue .grid (s.get (R.SAR_TMR_PERIOD_NS n)) (s.get (R.SAR_TMR_PHASE_NS n)) (s.sarSt n).tmrAt = true →
       ((s.sarSt n).trig.filter (fun e => decide (s.now + dt < e))).length < 4 →
       ∃ t, exec (.canopyTimerFire dt u) s = .next t
         ∧ (t.sarSt n).trig = (s.sarSt n).trig ++ [max (PageIsland.grid.edge (s.now + dt) + cellCycle * s.get (R.SAR_TRIG_DELAY n)) (s.now + dt)]
         ∧ (t.sarSt n).tmrAt = (s.elapse dt).canopy
         ∧ t.regs = s.regs)
  ∧ (∀ (s : State) (dt : Nat) (u : Fin 13),
       u.val < 8 →
       s.cellRuns u.val = true →
       s.get (R.SENSE_TRIG_SRC u.val) = 5 →
       (s.elapse dt).timerDue (.cell u.val) (s.get (R.SENSE_TMR_PERIOD_NS u.val)) (s.get (R.SENSE_TMR_PHASE_NS u.val)) (s.ch u.val).sense.tmrAt = true →
       4 ≤ ((s.ch u.val).sense.trig.filter (fun e => decide (s.now + dt < e))).length →
       ∃ t, exec (.canopyTimerFire dt u) s = .next t
         ∧ t.flag (R.SENSE_FB_STAT_TRIG_OVR u.val) = true
         ∧ t.get (R.SENSE_OVR_COUNT_OVR u.val) = counted (R.SENSE_OVR_COUNT_OVR u.val) (s.get (R.SENSE_OVR_COUNT_OVR u.val))
         ∧ (t.ch u.val).sense.trig = (s.ch u.val).sense.trig)
  ∧ (∀ (s : State) (dt : Nat) (u : Fin 13),
       u.val < 8 →
       s.hostOpen (pgSense u.val) = true →
       s.shape →
       ((s.ch u.val).sense.trig.filter (fun e => decide (s.now + dt < e))).length < 4 →
       ∃ t, exec (.trigNow dt u) s = .next t
         ∧ (t.ch u.val).sense.trig = (s.ch u.val).sense.trig ++ [s.now + dt + cellCycle * s.get (R.SENSE_TRIG_DELAY u.val)]
         ∧ t.regs = s.regs)
  ∧ (∀ (s : State) (dt : Nat) (x : Fin 8) (bits : List (Fin 64)),
       s.sdRuns x.val = false →
       ∃ t, exec (.sampleCentre dt x bits) s = .next t
         ∧ t.regs = s.regs
         ∧ (t.ch x.val).sense.trig = (s.ch x.val).sense.trig.filter (fun e => decide (s.now + dt < e)))
  ∧ (∀ (s : State) (dt : Nat) (x : Fin 8) (bits : List (Fin 64)),
       s.sdRuns x.val = true →
       (s.ch x.val).sense.trig.any (fun e => (s.elapse dt).firstEdge x.val e) = true →
       s.staged.lookup (R.SENSE_SAMPLE_T_NS x.val).key = none →
       s.sys.dropped.all (fun d => (d.2.2.1.lookup (R.SENSE_SAMPLE_T_NS x.val).key).isNone) = true →
       s.staged.lookup (R.SENSE_SAMPLE_SEQ_COUNT x.val).key = none →
       s.sys.dropped.all (fun d => (d.2.2.1.lookup (R.SENSE_SAMPLE_SEQ_COUNT x.val).key).isNone) = true →
       ∃ t, exec (.sampleCentre dt x bits) s = .next t
         ∧ t.get (R.SENSE_SAMPLE_T_NS x.val) = (s.elapse dt).stamp (pgSense x.val) % 2 ^ 64
         ∧ t.get (R.SENSE_SAMPLE_SEQ_COUNT x.val) = (s.get (R.SENSE_SAMPLE_SEQ_COUNT x.val) + 1) % 2 ^ (R.SENSE_SAMPLE_SEQ_COUNT x.val).width
         ∧ (t.ch x.val).sense.trig = (s.ch x.val).sense.trig.filter (fun e => decide (s.now + dt < e)))

/-- What the inputs' faults, the comparators and their settings do. On a running input page: 64 equal bits on
an enabled input set LOSS, a transition clears it; the FREEZE_N-th equal output sets FREEZE. A comparator
whose condition has held asserts, with its fault source, and one that has been back releases, with its source.
A legal write of SD_CLK takes effect; an illegal divider is counted as an error. A write of a comparator's
thresholds or mode takes effect and restarts its count. (R101, R110, R112, R117, R118) -/
def Obligations.SensingInputCommands : Prop :=
  (∀ (s : State) (dt : Nat) (x : Fin 8) (n : Fin 6) (bits : List (Fin 64)),
       s.sdRuns x.val = true →
       s.inOn x.val n.val = true →
       64 ≤ (((s.elapse dt).feed x.val bits).sdIn x.val n.val).run →
       (s.get (R.SENSE_FB_STAT_LOSS x.val)).testBit n.val = false →
       ∃ t, exec (.inputLoss dt x n bits) s = .next t
         ∧ (t.get (R.SENSE_FB_STAT_LOSS x.val)).testBit n.val = true
         ∧ (t.get (H.IRQ_RAW (pgSense x.val))).testBit n.val = true)
  ∧ (∀ (s : State) (dt : Nat) (x : Fin 8) (n : Fin 6) (bits : List (Fin 64)),
       s.sdRuns x.val = true →
       s.inOn x.val n.val = true →
       (((s.elapse dt).feed x.val bits).sdIn x.val n.val).run < 64 →
       (s.get (R.SENSE_FB_STAT_LOSS x.val)).testBit n.val = true →
       ∃ t, exec (.inputLossEnd dt x n bits) s = .next t
         ∧ (t.get (R.SENSE_FB_STAT_LOSS x.val)).testBit n.val = false)
  ∧ (∀ (s : State) (dt : Nat) (x : Fin 8) (n : Fin 6) (bits : List (Fin 64)),
       s.sdRuns x.val = true →
       s.inOn x.val n.val = true →
       (s.get (R.SENSE_FB_STAT_FREEZE x.val)).testBit n.val = false →
       s.get (R.SENSE_FILT_CFG_FREEZE_N x.val) ≤ (((s.elapse dt).feed x.val bits).sdIn x.val n.val).rawRun →
       ∃ t, exec (.inputFreeze dt x n bits) s = .next t
         ∧ (t.get (R.SENSE_FB_STAT_FREEZE x.val)).testBit n.val = true
         ∧ (t.get (H.IRQ_RAW (pgSense x.val))).testBit (6 + n.val) = true)
  ∧ (∀ (s : State) (dt : Nat) (x : Fin 8) (m : Fin 12) (bits : List (Fin 64)),
       s.sdRuns x.val = true →
       s.inOn x.val (m.val / 2) = true →
       s.get (R.SENSE_CMP_CFG_FILT x.val m.val) < ((s.elapse dt).feed x.val bits).cmpRun x.val m.val →
       s.cmpOut x.val m.val = false →
       ∃ t, exec (.comparatorAssert dt x m bits) s = .next t
         ∧ t.cmpOut x.val m.val = true
         ∧ t.source x.val m.val = true
         ∧ (t.get (H.IRQ_RAW (pgSense x.val))).testBit (12 + m.val) = true)
  ∧ (∀ (s : State) (dt : Nat) (x : Fin 8) (m : Fin 12) (bits : List (Fin 64)),
       s.sdRuns x.val = true →
       s.inOn x.val (m.val / 2) = true →
       s.get (R.SENSE_CMP_CFG_FILT x.val m.val) < ((s.elapse dt).feed x.val bits).cmpRun x.val m.val →
       s.cmpOut x.val m.val = true →
       ∃ t, exec (.comparatorRelease dt x m bits) s = .next t
         ∧ t.cmpOut x.val m.val = false
         ∧ t.source x.val m.val = false)
  ∧ (∀ (s : State) (dt w : Nat) (x : Fin 8) (bits : List (Fin 64)),
       s.hostOpen (pgSense x.val) = true →
       s.flag (R.SENSE_SD_CLK_EN x.val) = false →
       16 ≤ bitsOf (w % 2 ^ 32) 0 6 →
       bitsOf (w % 2 ^ 32) 0 6 ≤ 40 →
       bitsOf (w % 2 ^ 32) 8 6 < bitsOf (w % 2 ^ 32) 0 6 →
       ∃ t, exec (.sdClkWrite dt x bits w) s = .next t
         ∧ t.get (R.SENSE_SD_CLK_DIV x.val) = bitsOf (w % 2 ^ 32) 0 6
         ∧ t.get (R.SENSE_SD_CLK_PHASE x.val) = bitsOf (w % 2 ^ 32) 8 6
         ∧ t.flag (R.SENSE_SD_CLK_EN x.val) = (w % 2 ^ 32).testBit 16)
  ∧ (∀ (s : State) (dt w : Nat) (x : Fin 8) (bits : List (Fin 64)),
       s.hostOpen (pgSense x.val) = true →
       bitsOf (w % 2 ^ 32) 0 6 < 16 ∨ 40 < bitsOf (w % 2 ^ 32) 0 6 ∨ bitsOf (w % 2 ^ 32) 0 6 ≤ bitsOf (w % 2 ^ 32) 8 6 →
       ∃ t, exec (.sdClkWrite dt x bits w) s = .next t
         ∧ t.get (R.SENSE_SD_CLK_EN x.val) = s.get (R.SENSE_SD_CLK_EN x.val)
         ∧ t.get (R.SENSE_SD_CLK_DIV x.val) = s.get (R.SENSE_SD_CLK_DIV x.val)
         ∧ t.get (H.ERR_COUNT (pgSense x.val)) = counted (H.ERR_COUNT (pgSense x.val)) (s.get (H.ERR_COUNT (pgSense x.val))))
  ∧ (∀ (s : State) (dt w : Nat) (x : Fin 8) (bits : List (Fin 64)) (m : Fin 12),
       s.hostOpen (pgSense x.val) = true →
       ∃ t, exec (.cmpCfgWrite dt x bits m true w) s = .next t
         ∧ t.get (R.SENSE_CMP_THR_LO x.val m.val) = bitsOf (w % 2 ^ 32) 0 16
         ∧ t.get (R.SENSE_CMP_THR_HI x.val m.val) = bitsOf (w % 2 ^ 32) 16 16
         ∧ t.cmpRun x.val m.val = 0)
  ∧ (∀ (s : State) (dt w : Nat) (x : Fin 8) (bits : List (Fin 64)) (m : Fin 12),
       s.hostOpen (pgSense x.val) = true →
       ∃ t, exec (.cmpCfgWrite dt x bits m false w) s = .next t
         ∧ t.get (R.SENSE_CMP_CFG_MODE x.val m.val) = bitsOf (w % 2 ^ 32) 0 2
         ∧ t.get (R.SENSE_CMP_CFG_FILT x.val m.val) = bitsOf (w % 2 ^ 32) 4 4
         ∧ t.get (R.SENSE_CMP_CFG_HYST x.val m.val) = bitsOf (w % 2 ^ 32) 16 12
         ∧ t.cmpRun x.val m.val = 0
         ∧ (bitsOf (w % 2 ^ 32) 0 2 = 0 → t.cmpOut x.val m.val = false))

/-- What a converter's trigger, conversions and pass end do. A trigger that reaches its target at a free
converter starts a pass that samples 3 to 4 cycles later; at a busy one it waits, or with one waiting counts
an overrun. A conversion that ends writes its entry's result: the code, the gain, the marks, and the pass goes
on to the next entry; a result that the crossing discards leaves its register as it was. With the RESTART
policy a trigger abandons the pass: its delivered results are marked PARTIAL, and its own pass starts at the
end of the conversion in progress. A pass whose last entry is done ends, stamps PASS_T0 and latches event 0. A
pair of which one result has been missing for 1 ms counts MISSING and FAIL. (R122, R126, R127, R128, R129,
R130, R132) -/
def Obligations.SarPassCommands : Prop :=
  (∀ (s : State) (dt : Nat) (n : Fin 5) (rest : List Nat),
       s.gridRuns = true →
       s.sarRuns = true →
       takeTarget (s.sarSt n.val).trig (s.now + dt) = some rest →
       s.sarFree n.val = true →
       (s.sarSt n.val).pend = none →
       ∃ t, exec (.sarTriggerFire dt n) s = .next t
         ∧ (t.sarSt n.val).trig = rest
         ∧ (∃ p, (t.sarSt n.val).pass = some p ∧ p.fireAt = s.now + dt ∧ p.idx = 0 ∧ s.now + dt + 3 * sarCycle ≤ p.t0 ∧ p.t0 ≤ s.now + dt + 4 * sarCycle)
         ∧ t.flag (R.SAR_STATUS_RUNNING n.val) = true)
  ∧ (∀ (s : State) (dt : Nat) (n : Fin 5) (rest : List Nat),
       s.gridRuns = true →
       s.sarRuns = true →
       takeTarget (s.sarSt n.val).trig (s.now + dt) = some rest →
       s.sarFree n.val = false →
       (s.sarSt n.val).pend = none →
       s.flag (R.SAR_SEQ_CFG_TRIG_POLICY n.val) = false →
       ∃ t, exec (.sarTriggerFire dt n) s = .next t
         ∧ (t.sarSt n.val).pend = some (s.now + dt)
         ∧ (t.sarSt n.val).pass = (s.sarSt n.val).pass
         ∧ t.flag (R.SAR_STATUS_PENDING n.val) = true)
  ∧ (∀ (s : State) (dt f : Nat) (n : Fin 5) (rest : List Nat),
       s.gridRuns = true →
       s.sarRuns = true →
       takeTarget (s.sarSt n.val).trig (s.now + dt) = some rest →
       (s.sarSt n.val).pend = some f →
       s.flag (R.SAR_SEQ_CFG_TRIG_POLICY n.val) = false →
       ∃ t, exec (.sarTriggerFire dt n) s = .next t
         ∧ (t.sarSt n.val).pend = some f
         ∧ t.flag (R.SAR_STATUS_TRIG_OVR n.val) = true
         ∧ t.get (R.SAR_OVR_COUNT_OVR n.val) = counted (R.SAR_OVR_COUNT_OVR n.val) (s.get (R.SAR_OVR_COUNT_OVR n.val)))
  ∧ (∀ (s : State) (dt : Nat) (n : Fin 5) (rest : List Nat) (p : SarPass),
       s.gridRuns = true →
       s.sarRuns = true →
       takeTarget (s.sarSt n.val).trig (s.now + dt) = some rest →
       (s.sarSt n.val).pass = some p →
       s.flag (R.SAR_SEQ_CFG_TRIG_POLICY n.val) = true →
       p.t0 ≤ s.now + dt →
       ∃ t, exec (.sarTriggerFire dt n) s = .next t
         ∧ (t.sarSt n.val).restart = some (s.now + dt)
         ∧ (t.sarSt n.val).pass = some p
         ∧ (t.sarSt n.val).trig = rest)
  ∧ (∀ (s : State) (dt : Nat) (n : Fin 5) (rest : List Nat) (p : SarPass),
       s.gridRuns = true →
       s.sarRuns = true →
       takeTarget (s.sarSt n.val).trig (s.now + dt) = some rest →
       (s.sarSt n.val).pass = some p →
       s.flag (R.SAR_SEQ_CFG_TRIG_POLICY n.val) = true →
       s.now + dt < p.t0 →
       ∃ t, exec (.sarTriggerFire dt n) s = .next t
         ∧ (t.sarSt n.val).pass.map (fun q => q.fireAt) = some (s.now + dt)
         ∧ t.get (R.SAR_OVR_COUNT_RESTART n.val) = counted (R.SAR_OVR_COUNT_RESTART n.val) (s.get (R.SAR_OVR_COUNT_RESTART n.val)))
  ∧ (∀ (s : State) (dt : Nat) (n : Fin 5) (nv : Int) (p : SarPass),
       s.sarRuns = true →
       (s.sarSt n.val).pass = some p →
       p.idx < 16 →
       p.idx ≤ s.get (R.SAR_SEQ_CFG_LEN n.val) →
       p.ends ≤ s.now + dt →
       s.lostNext 8 = true →
       (s.sarSt n.val).restart = none →
       ∃ t, exec (.sarConversionDone dt n nv) s = .next t
         ∧ t.get (R.SAR_RESULT_CODE n.val p.idx) = s.get (R.SAR_RESULT_CODE n.val p.idx)
         ∧ t.sys.lostWord = s.sys.lostWord.erase 8
         ∧ (t.sarSt n.val).pass.map (fun q => q.idx) = some (p.idx + 1))
  ∧ (∀ (s : State) (dt f : Nat) (n : Fin 5) (nv : Int) (p : SarPass),
       s.sarRuns = true →
       (s.sarSt n.val).pass = some p →
       p.idx < 16 →
       p.idx ≤ s.get (R.SAR_SEQ_CFG_LEN n.val) →
       p.ends ≤ s.now + dt →
       (s.sarSt n.val).restart = some f →
       ∃ t, exec (.sarConversionDone dt n nv) s = .next t
         ∧ (t.sarSt n.val).pass.map (fun q => (q.fireAt, q.t0, q.idx)) = some (f, p.ends, 0)
         ∧ t.flag (R.SAR_RESULT_PARTIAL n.val p.idx) = true
         ∧ t.get (R.SAR_OVR_COUNT_RESTART n.val) = counted (R.SAR_OVR_COUNT_RESTART n.val) (s.get (R.SAR_OVR_COUNT_RESTART n.val)))
  ∧ (∀ (s : State) (dt : Nat) (n : Fin 5) (nv : Int) (p : SarPass),
       s.sarRuns = true →
       s.lostNext 8 = false →
       (s.sarSt n.val).pass = some p →
       (s.sarSt n.val).restart = none →
       p.idx < 16 →
       p.idx ≤ s.get (R.SAR_SEQ_CFG_LEN n.val) →
       p.ends ≤ s.now + dt →
       ∃ t, exec (.sarConversionDone dt n nv) s = .next t
         ∧ t.get (R.SAR_RESULT_CODE n.val p.idx) = ((s.elapse dt).sarCode nv (s.get (R.SAR_ENTRY_GAIN n.val p.idx))).1 % 2 ^ 16
         ∧ t.flag (R.SAR_RESULT_CLIP n.val p.idx) = ((s.elapse dt).sarCode nv (s.get (R.SAR_ENTRY_GAIN n.val p.idx))).2.1
         ∧ t.flag (R.SAR_RESULT_LATE n.val p.idx) = p.late
         ∧ t.flag (R.SAR_RESULT_PARTIAL n.val p.idx) = false
         ∧ (t.sarSt n.val).pass.map (fun q => q.idx) = some (p.idx + 1))
  ∧ (∀ (s : State) (dt : Nat) (n : Fin 5) (p : SarPass),
       s.sarRuns = true →
       (s.sarSt n.val).pass = some p →
       s.get (R.SAR_SEQ_CFG_LEN n.val) < p.idx →
       ((s.elapse dt).undrop (pgSar n.val)).commitWaits (pgSar n.val) = false →
       (s.sarSt n.val).pend = none →
       (s.sarSt n.val).restart = none →
       s.get (R.SAR_TRIG_SRC n.val) ≠ 7 →
       ∃ t, exec (.sarPassEnd dt n) s = .next t
         ∧ t.get (R.SAR_PASS_T0_NS n.val) = p.stamp % 2 ^ 64
         ∧ (t.sarSt n.val).pass = none
         ∧ (t.get (H.IRQ_RAW (pgSar n.val))).testBit 0 = true)
  ∧ (∀ (s : State) (dt t0 : Nat) (p : Fin 2) (v : Int) (c : Bool),
       s.sarRuns = true →
       (s.sarSt (2 * p.val)).pairNew = some (v, c, t0) →
       t0 + ms 1 ≤ s.now + dt →
       ∃ t, exec (.plausMissing dt p) s = .next t
         ∧ (t.sarSt (2 * p.val)).pairNew = none
         ∧ (t.sarSt (2 * p.val + 1)).pairNew = none
         ∧ t.get (R.SAR_PLAUS_COUNT_MISSING (2 * p.val)) = counted (R.SAR_PLAUS_COUNT_MISSING (2 * p.val)) (s.get (R.SAR_PLAUS_COUNT_MISSING (2 * p.val)))
         ∧ t.get (R.SAR_PLAUS_COUNT_FAIL (2 * p.val)) = counted (R.SAR_PLAUS_COUNT_FAIL (2 * p.val)) (s.get (R.SAR_PLAUS_COUNT_FAIL (2 * p.val))))

/-- What calibration and the rover do. A calibration asked of a converter in a pass waits; asked of an idle
converter without a trigger source it starts at once and runs 2,048 SAR cycles. PERIOD_S asks for one. Its end
is counted and shown. A request that has waited 100 ms joins the rover's queue while the rover serves another
converter, takes a free rover at once, and at the rover itself is forced. (R133, R134, R135, R136) -/
def Obligations.SarCalibrationCommands : Prop :=
  (∀ (s : State) (dt : Nat) (n : Fin 5) (p : SarPass),
       s.hostOpen (pgSar n.val) = true →
       (s.sarSt n.val).pass = some p →
       (s.sarSt n.val).calReq = none →
       ∃ t, exec (.calRequest dt n) s = .next t
         ∧ (t.sarSt n.val).calReq = some (s.now + dt)
         ∧ t.flag (R.SAR_CAL_CFG_WAITING n.val) = true
         ∧ (t.sarSt n.val).pass = some p)
  ∧ (∀ (s : State) (dt : Nat) (n : Fin 5),
       s.hostOpen (pgSar n.val) = true →
       s.sarRuns = true →
       s.shape →
       n.val ≠ 4 →
       (s.sarSt n.val).pass = none →
       (s.sarSt n.val).calReq = none →
       (s.sarSt n.val).calEnd = none →
       (s.sarSt n.val).pend = none →
       s.roverQ.contains n.val = false →
       s.flag (R.SAR_CAL_CFG_ROVER n.val) = false →
       s.get (R.SAR_TRIG_SRC n.val) = 0 →
       ∃ t, exec (.calRequest dt n) s = .next t
         ∧ (t.sarSt n.val).calEnd = some (s.now + dt + 2048 * sarCycle)
         ∧ (t.sarSt n.val).calReq = none
         ∧ t.flag (R.SAR_CAL_CFG_BUSY n.val) = true
         ∧ t.flag (R.SAR_CAL_CFG_WAITING n.val) = false)
  ∧ (∀ (s : State) (dt : Nat) (n : Fin 5) (p : SarPass),
       s.sarRuns = true →
       s.get (R.SAR_CAL_CFG_PERIOD_S n.val) ≠ 0 →
       (s.sarSt n.val).periodAt + secs (s.get (R.SAR_CAL_CFG_PERIOD_S n.val)) ≤ s.now + dt →
       (s.sarSt n.val).calReq = none →
       (s.sarSt n.val).pass = some p →
       ∃ t, exec (.calPeriodic dt n) s = .next t
         ∧ (t.sarSt n.val).periodAt = s.now + dt
         ∧ (t.sarSt n.val).calReq = some (s.now + dt)
         ∧ t.flag (R.SAR_CAL_CFG_WAITING n.val) = true)
  ∧ (∀ (s : State) (dt t0 : Nat) (n : Fin 5),
       s.sarRuns = true →
       (s.sarSt n.val).calEnd = some t0 →
       t0 ≤ s.now + dt →
       s.roverQ = [] →
       (s.sarSt n.val).calReq = none →
       ∃ t, exec (.calDone dt n) s = .next t
         ∧ (t.sarSt n.val).calEnd = none
         ∧ t.flag (R.SAR_CAL_CFG_BUSY n.val) = false
         ∧ t.get (R.SAR_CAL_COUNT_CALS n.val) = counted (R.SAR_CAL_COUNT_CALS n.val) (s.get (R.SAR_CAL_COUNT_CALS n.val))
         ∧ (t.get (H.IRQ_RAW (pgSar n.val))).testBit 4 = true)
  ∧ (∀ (s : State) (dt t0 : Nat) (n : Fin 5),
       s.sarRuns = true →
       (s.sarSt n.val).calReq = some t0 →
       t0 + ms 100 ≤ s.now + dt →
       n.val ≠ 4 →
       s.roverQ.contains n.val = false →
       s.roverBusy = true →
       ∃ t, exec (.roverTimeout dt n) s = .next t
         ∧ t.roverQ.contains n.val = true
         ∧ t.roverQ.take s.roverQ.length = s.roverQ
         ∧ (t.sarSt n.val).calReq = some t0)
  ∧ (∀ (s : State) (dt t0 : Nat) (n : Fin 5),
       s.sarRuns = true →
       (s.sarSt n.val).calReq = some t0 →
       t0 + ms 100 ≤ s.now + dt →
       n.val ≠ 4 →
       (s.elapse dt).roverQueue.roverQ = [n.val] →
       s.roverBusy = false →
       (s.sarSt 4).pass = none →
       (s.sarSt 4).calEnd = none →
       (s.sarSt n.val).pass = none →
       (s.sarSt n.val).calEnd = none →
       ∃ t, exec (.roverTimeout dt n) s = .next t
         ∧ t.roverQ = []
         ∧ t.flag (R.SAR_CAL_CFG_ROVER n.val) = true
         ∧ t.roverBusy = true
         ∧ t.get (R.SAR_CAL_CFG_SERVING 4) = n.val
         ∧ (t.sarSt n.val).calEnd = some (s.now + dt + 2048 * sarCycle))
  ∧ (∀ (s : State) (dt t0 : Nat) (n : Fin 5) (p : SarPass),
       s.sarRuns = true →
       (s.sarSt n.val).calReq = some t0 →
       t0 + ms 100 ≤ s.now + dt →
       n.val = 4 →
       (s.sarSt 4).pass = some p →
       ∃ t, exec (.roverTimeout dt n) s = .next t
         ∧ (t.sarSt 4).forced = true
         ∧ (t.sarSt 4).calReq = some t0)

/-- What a capture unit's controls and its sample clock do. An arm of an idle unit with a fit setting is taken
and shows CAPACITY; with an unfit one it shows ARM_ERR and counts an error. A stop of an active unit without a
group in progress ends it, with one it waits. TRIG_NOW offers an armed unit a trigger at the present Canopy
time, and after its trigger is counted as ignored. A clock event sooner than 1.5 us after the last is skipped
and counted. An arm that was taken arms the unit at its next clock event, which is its first set. An armed
unit without reduction, mask or trigger stores one set: the count and the stamp move on, and no byte of memory
outside the set changes. (R422, R424, R426, R429, R430, R432, R434, R435) -/
def Obligations.CaptureCommands : Prop :=
  (∀ (s : State) (dt : Nat) (x : Fin 8),
       s.hostOpen (pgSap x.val) = true →
       s.shape →
       s.captActive x.val = false →
       s.armOk x.val = true →
       (s.maskRead x.val (decide (s.get (R.SAP_CFG_MASK_MODE x.val) ≠ 0))).1 = true →
       ∃ t, exec (.captureArm dt x) s = .next t
         ∧ t.get (R.SAP_CAPACITY_SETS x.val) = s.setCap x.val % 2 ^ (R.SAP_CAPACITY_SETS x.val).width
         ∧ (t.capt1 x.val).armReq = true
         ∧ t.mem = s.mem)
  ∧ (∀ (s : State) (dt : Nat) (x : Fin 8),
       s.hostOpen (pgSap x.val) = true →
       s.captActive x.val = false →
       (s.maskRead x.val (decide (s.get (R.SAP_CFG_MASK_MODE x.val) ≠ 0))).1 = false →
       ∃ t, exec (.captureArm dt x) s = .next t
         ∧ t.flag (R.SAP_STATUS_ARM_ERR x.val) = true
         ∧ t.get (R.SAP_STATUS_STATE x.val) = s.get (R.SAP_STATUS_STATE x.val)
         ∧ (t.get (H.IRQ_RAW (pgSap x.val))).testBit 3 = true)
  ∧ (∀ (s : State) (dt : Nat) (x : Fin 8),
       s.hostOpen (pgSap x.val) = true →
       s.captActive x.val = true →
       ∃ t, exec (.captureArm dt x) s = .next t
         ∧ t = s.elapse dt)
  ∧ (∀ (s : State) (dt : Nat) (x : Fin 8),
       s.hostOpen (pgSap x.val) = true →
       s.captActive x.val = false →
       s.armOk x.val = false →
       s.ecc = [] →
       ∃ t, exec (.captureArm dt x) s = .next t
         ∧ t.flag (R.SAP_STATUS_ARM_ERR x.val) = true
         ∧ t.get (H.ERR_COUNT (pgSap x.val)) = counted (H.ERR_COUNT (pgSap x.val)) (s.get (H.ERR_COUNT (pgSap x.val)))
         ∧ t.capt = s.capt)
  ∧ (∀ (s : State) (dt : Nat) (x : Fin 8),
       s.hostOpen (pgSap x.val) = true →
       s.captActive x.val = true →
       (s.capt1 x.val).pend = [] →
       (s.capt1 x.val).gNum = 0 →
       ∃ t, exec (.captureStop dt x) s = .next t
         ∧ t.get (R.SAP_STATUS_STATE x.val) = csDone
         ∧ t.flag (R.SAP_STATUS_HOST_STOP x.val) = true
         ∧ (t.get (H.IRQ_RAW (pgSap x.val))).testBit 1 = true)
  ∧ (∀ (s : State) (dt : Nat) (x : Fin 8),
       s.hostOpen (pgSap x.val) = true →
       s.captActive x.val = true →
       s.shape →
       (s.capt1 x.val).pend ≠ [] ∨ (s.capt1 x.val).gNum ≠ 0 →
       ∃ t, exec (.captureStop dt x) s = .next t
         ∧ (t.capt1 x.val).stopReq = true
         ∧ t.regs = s.regs)
  ∧ (∀ (s : State) (dt : Nat) (x : Fin 8),
       s.hostOpen (pgSap x.val) = true →
       s.hwRuns = true →
       s.shape →
       s.get (R.SAP_STATUS_STATE x.val) = csArmed →
       ∃ t, exec (.captureTrigNow dt x) s = .next t
         ∧ (t.capt1 x.val).pend = (s.capt1 x.val).pend ++ [((s.elapse dt).stamp (pgSap x.val), 0)]
         ∧ t.regs = s.regs)
  ∧ (∀ (s : State) (dt : Nat) (x : Fin 8),
       s.hostOpen (pgSap x.val) = true →
       s.hwRuns = true →
       s.get (R.SAP_STATUS_STATE x.val) = csPost →
       ∃ t, exec (.captureTrigNow dt x) s = .next t
         ∧ t.get (R.SAP_CNT_IGNORED x.val) = counted (R.SAP_CNT_IGNORED x.val) (s.get (R.SAP_CNT_IGNORED x.val))
         ∧ t.capt = s.capt)
  ∧ (∀ (s : State) (dt t0 a : Nat) (x : Fin 8),
       s.hwRuns = true →
       s.captActive x.val = true →
       (s.elapse dt).clockTime x.val = some t0 →
       (s.capt1 x.val).lastAt = some a →
       s.now + dt < a + ns 1500 →
       ∃ t, exec (.captureSet dt x) s = .next t
         ∧ t.get (R.SAP_CNT_SKIPPED x.val) = counted (R.SAP_CNT_SKIPPED x.val) (s.get (R.SAP_CNT_SKIPPED x.val))
         ∧ (t.get (H.IRQ_RAW (pgSap x.val))).testBit 4 = true
         ∧ t.mem = s.mem)
  ∧ (∀ (s : State) (dt t0 : Nat) (x : Fin 8),
       s.hwRuns = true →
       s.captActive x.val = true →
       (s.elapse dt).clockTime x.val = some t0 →
       (s.capt1 x.val).lastAt = none →
       (s.capt1 x.val).armReq = false →
       s.get (R.SAP_STATUS_STATE x.val) = csArmed →
       s.get (R.SAP_RED_FACTOR x.val) = 1 →
       s.get (R.SAP_CFG_MASK_MODE x.val) = 0 →
       s.get (R.SAP_TRIG_CFG_SRC x.val) ≠ 1 →
       (s.capt1 x.val).pend = [] →
       ∃ t, exec (.captureSet dt x) s = .next t
         ∧ t.get (R.SAP_SET_COUNT_SETS x.val) = (s.get (R.SAP_SET_COUNT_SETS x.val) + 1) % 2 ^ 64
         ∧ t.get (R.SAP_SET_T_NS x.val) = t0 % 2 ^ 64
         ∧ (∀ a : Nat, a < s.setAddr x.val (s.get (R.SAP_SET_COUNT_SETS x.val)) ∨ s.setAddr x.val (s.get (R.SAP_SET_COUNT_SETS x.val)) + s.setBytes x.val ≤ a → t.mem.get a = s.mem.get a))
  ∧ (∀ (s : State) (dt t0 : Nat) (x : Fin 8),
       s.hwRuns = true →
       s.captActive x.val = false →
       (s.capt1 x.val).armReq = true →
       (s.elapse dt).clockTime x.val = some t0 →
       (s.capt1 x.val).lastAt = none →
       s.get (R.SAP_RED_FACTOR x.val) = 1 →
       s.get (R.SAP_CFG_MASK_MODE x.val) = 0 →
       s.get (R.SAP_TRIG_CFG_SRC x.val) ≠ 1 →
       ∃ t, exec (.captureSet dt x) s = .next t
         ∧ t.get (R.SAP_STATUS_STATE x.val) = csArmed
         ∧ t.get (R.SAP_SET_COUNT_SETS x.val) = 1
         ∧ t.get (R.SAP_SET_T_NS x.val) = t0 % 2 ^ 64
         ∧ (t.capt1 x.val).armReq = false)

/-- What a grid cycle, the PLL's lock and a mode hand-over do. At a cycle start whose cycle has not run both
engines show the cycle's Canopy time, and the cycle has run; a cycle runs once. An unlocked, unfrozen PLL
whose error has been small for 40 ms locks; a locked one whose error has been large for 5 ms unlocks; a frozen
one whose conditions are gone for 2 ms runs on. The hand-over ends after RAMP_MS. (R241, R246, R268) -/
def Obligations.GridPllCommands : Prop :=
  (∀ (s : State) (dt : Nat),
       s.gridRuns = true →
       s.arm.startAt ≤ (s.elapse dt).cycleStart →
       s.arm.ran.contains (s.elapse dt).cycleStart = false →
       s.staged.lookup (R.GE_CYCLE_T_NS 0).key = none →
       s.staged.lookup (R.GE_CYCLE_T_NS 1).key = none →
       s.sys.dropped.all (fun d => (d.2.2.1.lookup (R.GE_CYCLE_T_NS 0).key).isNone) = true →
       s.sys.dropped.all (fun d => (d.2.2.1.lookup (R.GE_CYCLE_T_NS 1).key).isNone) = true →
       ∃ t, exec (.gridCycle dt) s = .next t
         ∧ t.arm.ran = ((s.elapse dt).cycleStart :: s.arm.ran).take 256
         ∧ t.get (R.GE_CYCLE_T_NS 0) = (s.elapse dt).cycleStart % 2 ^ 64
         ∧ t.get (R.GE_CYCLE_T_NS 1) = (s.elapse dt).cycleStart % 2 ^ 64)
  ∧ (∀ (s : State) (dt : Nat),
       s.gridRuns = true →
       s.arm.ran.contains (s.elapse dt).cycleStart = true →
       ∃ t, exec (.gridCycle dt) s = .next t
         ∧ t = s.elapse dt)
  ∧ (∀ (s : State) (dt : Nat) (e : Fin 2),
       s.gridRuns = true →
       s.flag (R.GE_PLL_STAT_LOCKED e.val) = false →
       s.flag (R.GE_PLL_STAT_FROZEN e.val) = false →
       heldFor (s.eng e.val).lockSince (ms 40) (s.now + dt) = true →
       ∃ t, exec (.gridPllLock dt e) s = .next t
         ∧ t.flag (R.GE_PLL_STAT_LOCKED e.val) = true
         ∧ (t.get (H.IRQ_RAW (pgGe e.val))).testBit 0 = true)
  ∧ (∀ (s : State) (dt : Nat) (e : Fin 2),
       s.gridRuns = true →
       s.flag (R.GE_PLL_STAT_LOCKED e.val) = true →
       heldFor (s.eng e.val).badSince (ms 5) (s.now + dt) = true ∨ heldFor (s.eng e.val).frozenSince (ms 100) (s.now + dt) = true →
       ∃ t, exec (.gridPllUnlock dt e) s = .next t
         ∧ t.flag (R.GE_PLL_STAT_LOCKED e.val) = false
         ∧ (t.eng e.val).lockSince = none
         ∧ (t.get (H.IRQ_RAW (pgGe e.val))).testBit 1 = true)
  ∧ (∀ (s : State) (dt : Nat) (e : Fin 2),
       s.gridRuns = true →
       s.flag (R.GE_PLL_STAT_FROZEN e.val) = true →
       heldFor (s.eng e.val).clearSince (ms 2) (s.now + dt) = true →
       ∃ t, exec (.gridPllUnfreeze dt e) s = .next t
         ∧ t.flag (R.GE_PLL_STAT_FROZEN e.val) = false
         ∧ (t.eng e.val).frozenSince = none
         ∧ (t.eng e.val).clearSince = none)
  ∧ (∀ (s : State) (dt : Nat) (r : ModeRamp),
       s.gridRuns = true →
       s.arm.ramp = some r →
       r.at_ + ms (s.get R.ARM_XFER_CFG_RAMP_MS) ≤ s.now + dt →
       ∃ t, exec (.modeRampEnd dt) s = .next t
         ∧ t.arm.ramp = none
         ∧ t.flag R.ARM_STATUS_RAMPING = false)

/-- What arm frames, cell reports, the roles and the cross-checks do. A delivered arm frame that a full
crossing discards, or that is not of the format, is dropped; a bad one fails check 5; a good one that comes in
time, the first of its arm and epoch, is the newest accepted frame. A delivered cell report is taken, its last
entry newest. A master whose arm current or voltages are stale for 1 ms resigns, and stands by again after a
clean second. A check that has held is shown and counted, and checks 0 to 6 fault every energised channel. A
set of the frame that covers the instant reaches its channel. (R248, R250, R251, R261, R262, R270) -/
def Obligations.ArmCommands : Prop :=
  (∀ (s : State) (dt : Nat) (d : Delivery),
       s.gridRuns = true →
       s.lostNext 9 = false →
       s.ring.inbox.find? (fun e => decide (e.kind = 0) && decide (e.ptype = 0x0A01)) = some d →
       parseArm d.payload d.src = none →
       ∃ t, exec (.armFrameReceived dt) s = .next t
         ∧ t.ring.inbox = s.ring.inbox.erase d
         ∧ t.arm = s.arm
         ∧ t.regs = s.regs)
  ∧ (∀ (s : State) (dt : Nat) (d : Delivery) (f : ArmFrame),
       s.gridRuns = true →
       s.lostNext 9 = false →
       s.ring.inbox.find? (fun e => decide (e.kind = 0) && decide (e.ptype = 0x0A01)) = some d →
       parseArm d.payload d.src = some f →
       s.frameBad f = true →
       ∃ t, exec (.armFrameReceived dt) s = .next t
         ∧ t.ring.inbox = s.ring.inbox.erase d
         ∧ t.arm = s.arm
         ∧ (t.get (R.GE_XCHK_STAT_FAIL 1)).testBit 5 = true)
  ∧ (∀ (s : State) (dt : Nat) (d : Delivery) (f : ArmFrame),
       s.gridRuns = true →
       s.lostNext 9 = false →
       s.ring.inbox.find? (fun e => decide (e.kind = 0) && decide (e.ptype = 0x0A01)) = some d →
       parseArm d.payload d.src = some f →
       s.frameBad f = false →
       (s.elapse dt).canopy < f.epoch + 10000 →
       s.frameAt f.arm f.epoch = none →
       ∃ t, exec (.armFrameReceived dt) s = .next t
         ∧ t.ring.inbox = s.ring.inbox.erase d
         ∧ t.arm.frames.head? = some f)
  ∧ (∀ (s : State) (dt : Nat) (d : Delivery),
       s.gridRuns = true →
       s.lostNext 9 = true →
       s.ring.inbox.find? (fun e => decide (e.kind = 0) && decide (e.ptype = 0x0A01)) = some d →
       ∃ t, exec (.armFrameReceived dt) s = .next t
         ∧ t.ring.inbox = s.ring.inbox.erase d
         ∧ t.arm = s.arm
         ∧ t.regs = s.regs
         ∧ t.sys.lostWord = s.sys.lostWord.erase 9)
  ∧ (∀ (s : State) (dt : Nat) (d : Delivery),
       s.gridRuns = true →
       s.lostNext 9 = false →
       s.ring.inbox.find? (fun e => decide (e.kind = 0) && decide (e.ptype = 0x0A02)) = some d →
       1 ≤ d.payload.getD 3 0 →
       d.payload.getD 3 0 ≤ 8 →
       d.payload.length = 12 + 20 * d.payload.getD 3 0 →
       s.ownIdx ≠ none →
       d.payload.getD 2 0 = s.ownArm →
       ∃ t, exec (.cellReportReceived dt) s = .next t
         ∧ t.ring.inbox = s.ring.inbox.erase d
         ∧ t.arm.reps.head? = some (parseRep d.payload (d.payload.getD 3 0 - 1))
         ∧ t.regs = s.regs)
  ∧ (∀ (s : State) (dt : Nat),
       s.gridRuns = true →
       s.role = 1 →
       heldFor s.arm.iStale (ms 1) (s.now + dt) = true ∨ heldFor s.arm.vStale (ms 1) (s.now + dt) = true →
       ∃ t, exec (.masterResign dt) s = .next t
         ∧ t.role = 3
         ∧ (t.get (H.IRQ_RAW pgArm)).testBit 1 = true
         ∧ t.arm.cleanSince = none)
  ∧ (∀ (s : State) (dt : Nat),
       s.gridRuns = true →
       s.role = 3 →
       heldFor s.arm.cleanSince (secs 1) (s.now + dt) = true →
       ∃ t, exec (.resignRecovery dt) s = .next t
         ∧ t.role = 2
         ∧ t.arm = s.arm)
  ∧ (∀ (s : State) (dt : Nat) (b : Fin 9),
       s.gridRuns = true →
       s.arm.xDone.getD b.val false = false →
       heldFor (s.arm.xSince.getD b.val none) (ms (s.get (R.GE_XCHK_CFG1_TIME_MS 1))) (s.now + dt) = true →
       ∃ t, exec (.xchkFail dt b) s = .next t
         ∧ (t.get (R.GE_XCHK_STAT_FAIL 1)).testBit b.val = true
         ∧ t.get (R.GE_XCHK_COUNT_COUNT 1) = counted (R.GE_XCHK_COUNT_COUNT 1) (s.get (R.GE_XCHK_COUNT_COUNT 1))
         ∧ (∀ x : Fin 8, b.val < 7 → s.energised x.val = true → t.flag (R.PWM_STATUS_CH_FAULT x.val) = true ∧ t.flag (R.PWM_CTRL_EN x.val) = false))
  ∧ (∀ (s : State) (dt : Nat) (x : Fin 8) (f : ArmFrame),
       s.gridRuns = true →
       s.cellRuns x.val = true →
       s.shape →
       s.lostNext x.val = false →
       s.flag (R.ARM_CH_ASSIGN_VALID x.val) = true →
       s.arm.frames.find? (fun g => decide (g.arm = s.get (R.ARM_CH_ASSIGN_ARM_ID x.val)) && decide (g.epoch ≤ (s.elapse dt).canopy / 500 * 500) && decide ((s.elapse dt).canopy / 500 * 500 < g.epoch + 10000)) = some f →
       ∃ t, exec (.ge0SetDelivery dt x) s = .next t
         ∧ (t.ch x.val).ke.ge.map (fun g => g.gf) = some (f.flag 0)
         ∧ (t.ch x.val).ke.geAge = 0
         ∧ t.flag (R.KE_STATUS_REF_LOST x.val) = false)

/-- What each command leaves alone. For every command, whatever its operands and the state: every part of the
state that `mayChange` does not list for it is after the command what it was before. So a command whose list
lacks `mem` changes no byte of table, queue, log or capture memory, one whose list lacks `fram` no byte of the
FRAM, one whose list lacks `regs` no register, and one whose list lacks a unit's part nothing that this unit
holds. The waiting commands are the same. (R1, R15, R24, R70, R83, R89, R91, chapter 1, chapter 4) -/
def Obligations.FrameOfEveryCommand : Prop :=
  ∀ (c : Instr) (s t : State), exec c s = .next t → s.sameBut (mayChange c) t

/-- Which registers the small events change. Each of the named events leaves every register field as it was,
except those listed for it: its own status bits, its own counters, the interrupt bits of its page and, where
it writes a record, the log's count of lost records and its mark. The events of the delay, of the pulses, of
the scheduled switching and of the 1588 messages change no register at all. (R5, R86, R96, R148, R205, R211,
R294, R314, R319, R440, R465, R467) -/
def Obligations.RegistersThatEventsLeave : Prop :=
  (∀ (s : State) (dt : Nat),
       ∃ t, exec (.pinResetRelease dt) s = .next t
         ∧ s.regsBut [] t)
  ∧ (∀ (s : State) (dt : Nat),
       ∃ t, exec (.testResetRelease dt) s = .next t
         ∧ s.regsBut [] t)
  ∧ (∀ (s : State) (dt : Nat),
       ∃ t, exec (.aonCoarseLoad dt) s = .next t
         ∧ s.regsBut [] t)
  ∧ (∀ (s : State) (dt : Nat),
       ∃ t, exec (.xtalGood dt) s = .next t
         ∧ s.regsBut [R.CLK_PLL_STAT_XTAL_GOOD, R.RSTPWR_PWR_STAT_AON_XTAL] t)
  ∧ (∀ (s : State) (dt : Nat) (r : Fin 6),
       ∃ t, exec (.railGood dt r) s = .next t
         ∧ s.regsBut [R.RSTPWR_PWR_STAT_RAIL_GOOD, R.RSTPWR_PWR_STAT_SEQ_LATE] t)
  ∧ (∀ (s : State) (dt : Nat) (page : Fin 256) (sev : Fin 3) (code : Fin 65536) (data : List Nat) (origin : Fin 3),
       ∃ t, exec (.logRecordSubmit dt page sev code data origin) s = .next t
         ∧ s.regsBut [R.GLOG_CNT_LOST, R.GLOG_STATUS_LOST_SEEN] t)
  ∧ (∀ (s : State) (dt : Nat) (back : Nat),
       ∃ t, exec (.fuseProgramDone dt back) s = .next t
         ∧ s.regsBut [R.BOOT_KEY_FUSE_PROG] t)
  ∧ (∀ (s : State) (dt : Nat) (x : Fin 8) (n : Fin 6) (bits : List (Fin 64)),
       ∃ t, exec (.inputLoss dt x n bits) s = .next t
         ∧ s.regsBut [R.SENSE_FB_STAT_LOSS x.val, H.IRQ_RAW (pgSense x.val)] t)
  ∧ (∀ (s : State) (dt : Nat) (x : Fin 8) (n : Fin 6) (bits : List (Fin 64)),
       ∃ t, exec (.inputLossEnd dt x n bits) s = .next t
         ∧ s.regsBut [R.SENSE_FB_STAT_LOSS x.val] t)
  ∧ (∀ (s : State) (dt : Nat) (x : Fin 8) (n : Fin 6) (bits : List (Fin 64)),
       ∃ t, exec (.inputFreeze dt x n bits) s = .next t
         ∧ s.regsBut [R.SENSE_FB_STAT_FREEZE x.val, H.IRQ_RAW (pgSense x.val)] t)
  ∧ (∀ (s : State) (dt : Nat) (x : Fin 8) (y : Fin 4) (high : Bool),
       ∃ t, exec (.scheduledSwitchOff dt x y high) s = .next t
         ∧ s.regsBut [] t)
  ∧ (∀ (s : State) (dt : Nat) (x : Fin 8) (y : Fin 4) (high : Bool),
       ∃ t, exec (.scheduledSwitchOn dt x y high) s = .next t
         ∧ s.regsBut [] t)
  ∧ (∀ (s : State) (dt : Nat) (x : Fin 8) (y : Fin 4),
       ∃ t, exec (.bootstrapRefresh dt x y) s = .next t
         ∧ s.regsBut [R.PWM_EVT_REFRESH x.val y.val, H.IRQ_RAW (pgPwm x.val)] t)
  ∧ (∀ (s : State) (dt : Nat) (x : Fin 8) (y : Fin 4),
       ∃ t, exec (.refreshEnd dt x y) s = .next t
         ∧ s.regsBut [] t)
  ∧ (∀ (s : State) (dt : Nat) (x : Fin 8) (pass : Bool),
       ∃ t, exec (.kernelTestDone dt x pass) s = .next t
         ∧ s.regsBut [R.KE_CTRL_TEST x.val, R.KE_ACTIVE_STATE x.val, R.KE_STATUS_TEST_PASS x.val, R.KE_STATUS_TEST_FAIL x.val, H.IRQ_RAW (pgKe x.val), R.GLOG_CNT_LOST, R.GLOG_STATUS_LOST_SEEN] t)
  ∧ (∀ (s : State) (dt : Nat) (x : Fin 8),
       ∃ t, exec (.shellCloseTimeout dt x) s = .next t
         ∧ s.regsBut [R.GLOG_CNT_LOST, R.GLOG_STATUS_LOST_SEEN] t)
  ∧ (∀ (s : State) (dt : Nat) (e : Fin 2),
       ∃ t, exec (.gridPllUnfreeze dt e) s = .next t
         ∧ s.regsBut [R.GE_PLL_STAT_FROZEN e.val] t)
  ∧ (∀ (s : State) (dt : Nat),
       ∃ t, exec (.modeRampEnd dt) s = .next t
         ∧ s.regsBut [R.ARM_STATUS_RAMPING] t)
  ∧ (∀ (s : State) (dt : Nat),
       ∃ t, exec (.recoveryRampEnd dt) s = .next t
         ∧ s.regsBut [R.RIDE_STATUS_RECOVER, H.IRQ_RAW pgRide] t)
  ∧ (∀ (s : State) (dt : Nat) (i : Fin 4),
       ∃ t, exec (.voteWindowExpiry dt i) s = .next t
         ∧ s.regsBut [] t)
  ∧ (∀ (s : State) (dt : Nat),
       ∃ t, exec (.activeEpochBoundary dt) s = .next t
         ∧ s.regsBut [R.ISLAND_EPOCH_INDEX, R.ISLAND_EPOCH_SIGN, R.ISLAND_EPOCH_ON] t)
  ∧ (∀ (s : State) (dt : Nat),
       ∃ t, exec (.actSuspend dt) s = .next t
         ∧ s.regsBut [R.ISLAND_STATUS_ACT_SUSP, H.IRQ_RAW pgIsland] t)
  ∧ (∀ (s : State) (dt : Nat),
       ∃ t, exec (.rtBlockEnd dt) s = .next t
         ∧ s.regsBut [R.ISLAND_STATUS_BLOCKED] t)
  ∧ (∀ (s : State) (dt : Nat) (i : Fin 4),
       ∃ t, exec (.islandIndication dt i) s = .next t
         ∧ s.regsBut [R.ISLAND_STATUS_IND, H.IRQ_RAW pgIsland] t)
  ∧ (∀ (s : State) (dt : Nat) (n : Fin 4),
       ∃ t, exec (.pulseStart dt n) s = .next t
         ∧ s.regsBut [R.METER_OWED_OWED n.val] t)
  ∧ (∀ (s : State) (dt : Nat) (n : Fin 4),
       ∃ t, exec (.pulseEnd dt n) s = .next t
         ∧ s.regsBut [] t)
  ∧ (∀ (s : State) (dt : Nat) (c : Fin 4),
       ∃ t, exec (.connectionCheck dt c) s = .next t
         ∧ s.regsBut [chkFlag c.val, H.IRQ_RAW pgMeter, R.GLOG_CNT_LOST, R.GLOG_STATUS_LOST_SEEN] t)
  ∧ (∀ (s : State) (dt : Nat),
       ∃ t, exec (.periodicSave dt) s = .next t
         ∧ s.regsBut [] t)
  ∧ (∀ (s : State) (dt : Nat),
       ∃ t, exec (.heartbeatSave dt) s = .next t
         ∧ s.regsBut [] t)
  ∧ (∀ (s : State) (dt : Nat) (readback : List Nat),
       ∃ t, exec (.saveVerify dt readback) s = .next t
         ∧ s.regsBut [R.METER_STATUS_SAVE_FAIL, R.METER_CNT_B_SAVES, R.METER_CNT_B_SAVE_ERRS, H.IRQ_RAW pgMeter, R.GLOG_CNT_LOST, R.GLOG_STATUS_LOST_SEEN] t)
  ∧ (∀ (s : State) (dt : Nat),
       ∃ t, exec (.finalSaveDone dt) s = .next t
         ∧ s.regsBut [R.METER_STATUS_PF_SAVED, H.IRQ_RAW pgMeter] t)
  ∧ (∀ (s : State) (dt : Nat),
       ∃ t, exec (.pfwRise dt) s = .next t
         ∧ s.regsBut [R.RSTPWR_PWR_STAT_PFW] t)
  ∧ (∀ (s : State) (dt : Nat),
       ∃ t, exec (.pfwResume dt) s = .next t
         ∧ s.regsBut [] t)
  ∧ (∀ (s : State) (dt : Nat) (c : Fin 2) (f : Fin 8),
       ∃ t, exec (.twohandLate dt c f) s = .next t
         ∧ s.regsBut [H.IRQ_RAW pgSafe] t)
  ∧ (∀ (s : State) (dt : Nat),
       ∃ t, exec (.srstInRise dt) s = .next t
         ∧ s.regsBut [] t)
  ∧ (∀ (s : State) (dt : Nat) (up : Bool),
       ∃ t, exec (.ethLinkChange dt up) s = .next t
         ∧ s.regsBut [R.ETH_STATUS_LINK, H.IRQ_RAW pgEth] t)
  ∧ (∀ (s : State) (dt : Nat) (data : Fin 65536),
       ∃ t, exec (.mdioDone dt data) s = .next t
         ∧ s.regsBut [R.ETH_MDIO_CMD_GO, R.ETH_MDIO_CMD_DATA] t)
  ∧ (∀ (s : State) (dt : Nat) (domain prio1 cls acc var prio2 gm steps sender : Nat),
       ∃ t, exec (.ptpAnnounce dt domain prio1 cls acc var prio2 gm steps sender) s = .next t
         ∧ s.regsBut [] t)
  ∧ (∀ (s : State) (dt : Nat),
       ∃ t, exec (.ptpPdelaySend dt) s = .next t
         ∧ s.regsBut [] t)
  ∧ (∀ (s : State) (dt : Nat) (seq : Fin 65536) (t2 t3 : Nat) (corr : Int),
       ∃ t, exec (.ptpPdelayResp dt seq t2 t3 corr) s = .next t
         ∧ s.regsBut [] t)
  ∧ (∀ (s : State) (dt : Nat) (seq : Fin 65536) (port : Nat),
       ∃ t, exec (.ptpPdelayReq dt seq port) s = .next t
         ∧ s.regsBut [] t)

/-- A gate output is high only while every condition of R26 holds. In every state: the two outputs of a leg
are never high together. An output that is high belongs to a running PWM, to a leg that is used, to a device
out of reset whose cell clock runs and to an active gate-enable line of Burl. No output of a channel is high
while an active group of it has action CELL_OFF or CHANNEL_FAULT, nor an output that an active SWITCH_OFF
group names. (R26, R149, R156, R158, R177) -/
def Obligations.GateOutputsOnlyWhilePermitted : Prop :=
  ∀ (s : State) (x : Fin 8) (y : Fin 4) (high : Bool),
    ¬ (s.gd x.val y.val true = true ∧ s.gd x.val y.val false = true)
      ∧ (s.gd x.val y.val high = true →
          s.flag (R.PWM_STATUS_RUN x.val) = true ∧ (s.get (R.GUARD_LEG_USE_USE x.val)).testBit y.val = true
            ∧ s.cellRuns x.val = true ∧ s.sys.inReset = false ∧ s.safe.lines.testBit x.val = true)
      ∧ (∀ g : Fin 16, s.groupActive x.val g.val = true →
          (s.get (R.PWM_GRP_ACTION x.val g.val) = gaCellOff ∨ s.get (R.PWM_GRP_ACTION x.val g.val) = gaChannelFault →
            s.gd x.val y.val high = false)
          ∧ (s.get (R.PWM_GRP_ACTION x.val g.val) = gaSwitchOff →
              (s.get (R.PWM_GRP_OUT x.val g.val)).testBit (2 * y.val + if high then 0 else 1) = true →
              s.gd x.val y.val high = false))

/-- The outputs of an unused leg are off at all times. In every state both gate outputs of a leg whose LEG_USE
bit is 0 are low, and whether the protection map is complete does not depend on how that leg's three sources
are mapped. (R177) -/
def Obligations.UnusedLegsStayOff : Prop :=
  ∀ (s : State) (x : Fin 8) (y : Fin 4), (s.get (R.GUARD_LEG_USE_USE x.val)).testBit y.val = false →
    (∀ high : Bool, s.gd x.val y.val high = false)
      ∧ ∀ n v w : Nat, n ∈ [12 + 2 * y.val, 13 + 2 * y.val, 20 + y.val] →
          ((s.set (R.PWM_FMAP_EN x.val (n / 4) (n % 4)) v).set (R.PWM_FMAP_GROUP x.val (n / 4) (n % 4)) w).mapComplete x.val
            = s.mapComplete x.val

/-- The fault map is written only while the PWM is disabled. A host write of FMAPk or GRPg while CTRL.EN is 1
leaves every register but ERR_COUNT and the interrupt bits of the page as it was, and increments ERR_COUNT;
while EN is 0 the register takes the written fields. FAULT_SOFT takes a write whatever EN is, and its source
follows. (R157) -/
def Obligations.FaultMapIsWrittenWithThePwmOff : Prop :=
  (∀ (s : State) (dt w : Nat) (x : Fin 8) (k : Fin 9),
       s.hostOpen (pgPwm x.val) = true →
       s.flag (R.PWM_CTRL_EN x.val) = true →
       ∃ t, exec (.registerWrite dt (4096 * pgPwm x.val + 0x100 + 4 * k.val) w) s = .next t
         ∧ t.get (H.ERR_COUNT (pgPwm x.val)) = counted (H.ERR_COUNT (pgPwm x.val)) (s.get (H.ERR_COUNT (pgPwm x.val)))
         ∧ s.regsBut [H.ERR_COUNT (pgPwm x.val), H.IRQ_RAW (pgPwm x.val)] t
         ∧ s.sameBut [.now, .recent, .pod, .regs] t)
  ∧ (∀ (s : State) (dt w : Nat) (x : Fin 8) (g : Fin 16),
       s.hostOpen (pgPwm x.val) = true →
       s.flag (R.PWM_CTRL_EN x.val) = true →
       ∃ t, exec (.registerWrite dt (4096 * pgPwm x.val + 0x140 + 4 * g.val) w) s = .next t
         ∧ t.get (H.ERR_COUNT (pgPwm x.val)) = counted (H.ERR_COUNT (pgPwm x.val)) (s.get (H.ERR_COUNT (pgPwm x.val)))
         ∧ s.regsBut [H.ERR_COUNT (pgPwm x.val), H.IRQ_RAW (pgPwm x.val)] t
         ∧ s.sameBut [.now, .recent, .pod, .regs] t)
  ∧ (∀ (s : State) (dt w : Nat) (x : Fin 8) (k : Fin 9),
       s.hostOpen (pgPwm x.val) = true →
       s.flag (R.PWM_CTRL_EN x.val) = false →
       ∃ t, exec (.registerWrite dt (4096 * pgPwm x.val + 0x100 + 4 * k.val) w) s = .next t
         ∧ (∀ j : Fin 4, t.get (R.PWM_FMAP_EN x.val k.val j.val) = bitsOf w (7 + 8 * j.val) 1 ∧ t.get (R.PWM_FMAP_GROUP x.val k.val j.val) = bitsOf w (8 * j.val) 4)
         ∧ t.get (H.ERR_COUNT (pgPwm x.val)) = s.get (H.ERR_COUNT (pgPwm x.val)))
  ∧ (∀ (s : State) (dt w : Nat) (x : Fin 8) (g : Fin 16),
       s.hostOpen (pgPwm x.val) = true →
       s.flag (R.PWM_CTRL_EN x.val) = false →
       bitsOf w 8 3 ≤ 4 →
       ∃ t, exec (.registerWrite dt (4096 * pgPwm x.val + 0x140 + 4 * g.val) w) s = .next t
         ∧ t.get (R.PWM_GRP_OUT x.val g.val) = bitsOf w 0 8
         ∧ t.get (R.PWM_GRP_ACTION x.val g.val) = bitsOf w 8 3
         ∧ t.get (H.ERR_COUNT (pgPwm x.val)) = s.get (H.ERR_COUNT (pgPwm x.val)))
  ∧ (∀ (s : State) (dt w : Nat) (x : Fin 8),
       s.hostOpen (pgPwm x.val) = true →
       ∃ t, exec (.registerWrite dt (4096 * pgPwm x.val + 0x18C) w) s = .next t
         ∧ t.flag (R.PWM_FAULT_SOFT_SET x.val) = w.testBit 0
         ∧ t.source x.val 32 = w.testBit 0)

/-- A trigger unit holds four events in order of arrival and discards a fifth. An event, a timer firing or
TRIG_NOW at a trigger unit that holds fewer than four target times yet to come is added at the end of the
list, which then holds at most four such; at a unit that holds four or more of them the list stays as it is,
TRIG_OVR is set and the overrun count counts. Both for the units of the cell channels and for those of the
converters. (R115) -/
def Obligations.AFifthTriggerIsDiscarded : Prop :=
  (∀ (s : State) (dt : Nat) (u : Fin 13) (cell : Fin 8) (kind : TrigKind) (age : Nat),
       s.cellRuns cell.val = true →
       (s.ch cell.val).pwm.started = true →
       s.carrierMade cell.val (s.now + dt - age) kind = true →
       u.val = cell.val →
       trigMatch (s.get (R.SENSE_TRIG_SRC u.val)) (s.get (R.SENSE_TRIG_LEG u.val)) (s.ch cell.val).pwm.mode kind = true →
       s.shape →
       ((s.ch u.val).sense.trig.filter (fun e => decide (s.now + dt < e))).length < 4 →
       ∃ t, exec (.triggerEvent dt u cell kind age) s = .next t
         ∧ (t.ch u.val).sense.trig = (s.ch u.val).sense.trig ++ [(PageIsland.cell cell.val).edge (s.now + dt - age) + cellCycle * s.get (R.SENSE_TRIG_DELAY u.val)]
         ∧ ((t.ch u.val).sense.trig.filter (fun e => decide (s.now + dt < e))).length ≤ 4
         ∧ t.regs = s.regs)
  ∧ (∀ (s : State) (dt : Nat) (u : Fin 13) (cell : Fin 8) (kind : TrigKind) (age : Nat),
       s.cellRuns cell.val = true →
       (s.ch cell.val).pwm.started = true →
       s.carrierMade cell.val (s.now + dt - age) kind = true →
       u.val = cell.val →
       trigMatch (s.get (R.SENSE_TRIG_SRC u.val)) (s.get (R.SENSE_TRIG_LEG u.val)) (s.ch cell.val).pwm.mode kind = true →
       s.shape →
       4 ≤ ((s.ch u.val).sense.trig.filter (fun e => decide (s.now + dt < e))).length →
       ∃ t, exec (.triggerEvent dt u cell kind age) s = .next t
         ∧ (t.ch u.val).sense.trig = (s.ch u.val).sense.trig
         ∧ t.flag (R.SENSE_FB_STAT_TRIG_OVR u.val) = true
         ∧ t.get (R.SENSE_OVR_COUNT_OVR u.val) = counted (R.SENSE_OVR_COUNT_OVR u.val) (s.get (R.SENSE_OVR_COUNT_OVR u.val)))
  ∧ (∀ (s : State) (dt : Nat) (u : Fin 13) (cell : Fin 8) (kind : TrigKind) (age : Nat) (n : Nat),
       s.cellRuns cell.val = true →
       (s.ch cell.val).pwm.started = true →
       s.carrierMade cell.val (s.now + dt - age) kind = true →
       u.val = 8 + n →
       s.gridRuns = true →
       s.shape →
       s.get (R.SAR_TRIG_CELL n) = cell.val →
       trigMatch (s.get (R.SAR_TRIG_SRC n)) (s.get (R.SAR_TRIG_LEG n)) (s.ch cell.val).pwm.mode kind = true →
       ((s.sarSt n).trig.filter (fun e => decide (s.now + dt < e))).length < 4 →
       ∃ t, exec (.triggerEvent dt u cell kind age) s = .next t
         ∧ (t.sarSt n).trig = (s.sarSt n).trig ++ [max ((PageIsland.cell cell.val).edge (s.now + dt - age) + cellCycle * s.get (R.SAR_TRIG_DELAY n)) (s.now + dt)]
         ∧ ((t.sarSt n).trig.filter (fun e => decide (s.now + dt < e))).length ≤ 4
         ∧ t.regs = s.regs)
  ∧ (∀ (s : State) (dt : Nat) (u : Fin 13) (cell : Fin 8) (kind : TrigKind) (age : Nat) (n : Nat),
       s.cellRuns cell.val = true →
       (s.ch cell.val).pwm.started = true →
       s.carrierMade cell.val (s.now + dt - age) kind = true →
       u.val = 8 + n →
       s.gridRuns = true →
       s.shape →
       s.get (R.SAR_TRIG_CELL n) = cell.val →
       trigMatch (s.get (R.SAR_TRIG_SRC n)) (s.get (R.SAR_TRIG_LEG n)) (s.ch cell.val).pwm.mode kind = true →
       4 ≤ ((s.sarSt n).trig.filter (fun e => decide (s.now + dt < e))).length →
       ∃ t, exec (.triggerEvent dt u cell kind age) s = .next t
         ∧ (t.sarSt n).trig = (s.sarSt n).trig
         ∧ t.flag (R.SAR_STATUS_TRIG_OVR n) = true
         ∧ t.get (R.SAR_OVR_COUNT_OVR n) = counted (R.SAR_OVR_COUNT_OVR n) (s.get (R.SAR_OVR_COUNT_OVR n)))
  ∧ (∀ (s : State) (dt : Nat) (u : Fin 13),
       u.val < 8 →
       s.cellRuns u.val = true →
       s.shape →
       s.get (R.SENSE_TRIG_SRC u.val) = 5 →
       (s.elapse dt).timerDue (.cell u.val) (s.get (R.SENSE_TMR_PERIOD_NS u.val)) (s.get (R.SENSE_TMR_PHASE_NS u.val)) (s.ch u.val).sense.tmrAt = true →
       ((s.ch u.val).sense.trig.filter (fun e => decide (s.now + dt < e))).length < 4 →
       ∃ t, exec (.canopyTimerFire dt u) s = .next t
         ∧ (t.ch u.val).sense.trig = (s.ch u.val).sense.trig ++ [(PageIsland.cell u.val).edge (s.now + dt) + cellCycle * s.get (R.SENSE_TRIG_DELAY u.val)]
         ∧ ((t.ch u.val).sense.trig.filter (fun e => decide (s.now + dt < e))).length ≤ 4
         ∧ t.regs = s.regs)
  ∧ (∀ (s : State) (dt : Nat) (u : Fin 13),
       u.val < 8 →
       s.cellRuns u.val = true →
       s.shape →
       s.get (R.SENSE_TRIG_SRC u.val) = 5 →
       (s.elapse dt).timerDue (.cell u.val) (s.get (R.SENSE_TMR_PERIOD_NS u.val)) (s.get (R.SENSE_TMR_PHASE_NS u.val)) (s.ch u.val).sense.tmrAt = true →
       4 ≤ ((s.ch u.val).sense.trig.filter (fun e => decide (s.now + dt < e))).length →
       ∃ t, exec (.canopyTimerFire dt u) s = .next t
         ∧ (t.ch u.val).sense.trig = (s.ch u.val).sense.trig
         ∧ t.flag (R.SENSE_FB_STAT_TRIG_OVR u.val) = true
         ∧ t.get (R.SENSE_OVR_COUNT_OVR u.val) = counted (R.SENSE_OVR_COUNT_OVR u.val) (s.get (R.SENSE_OVR_COUNT_OVR u.val)))
  ∧ (∀ (s : State) (dt : Nat) (u : Fin 13) (n : Nat),
       u.val = 8 + n →
       s.gridRuns = true →
       s.shape →
       s.get (R.SAR_TRIG_SRC n) = 5 →
       (s.elapse dt).timerDue .grid (s.get (R.SAR_TMR_PERIOD_NS n)) (s.get (R.SAR_TMR_PHASE_NS n)) (s.sarSt n).tmrAt = true →
       ((s.sarSt n).trig.filter (fun e => decide (s.now + dt < e))).length < 4 →
       ∃ t, exec (.canopyTimerFire dt u) s = .next t
         ∧ (t.sarSt n).trig = (s.sarSt n).trig ++ [max (PageIsland.grid.edge (s.now + dt) + cellCycle * s.get (R.SAR_TRIG_DELAY n)) (s.now + dt)]
         ∧ ((t.sarSt n).trig.filter (fun e => decide (s.now + dt < e))).length ≤ 4
         ∧ t.regs = s.regs)
  ∧ (∀ (s : State) (dt : Nat) (u : Fin 13) (n : Nat),
       u.val = 8 + n →
       s.gridRuns = true →
       s.shape →
       s.get (R.SAR_TRIG_SRC n) = 5 →
       (s.elapse dt).timerDue .grid (s.get (R.SAR_TMR_PERIOD_NS n)) (s.get (R.SAR_TMR_PHASE_NS n)) (s.sarSt n).tmrAt = true →
       4 ≤ ((s.sarSt n).trig.filter (fun e => decide (s.now + dt < e))).length →
       ∃ t, exec (.canopyTimerFire dt u) s = .next t
         ∧ (t.sarSt n).trig = (s.sarSt n).trig
         ∧ t.flag (R.SAR_STATUS_TRIG_OVR n) = true
         ∧ t.get (R.SAR_OVR_COUNT_OVR n) = counted (R.SAR_OVR_COUNT_OVR n) (s.get (R.SAR_OVR_COUNT_OVR n)))
  ∧ (∀ (s : State) (dt : Nat) (u : Fin 13),
       u.val < 8 →
       s.hostOpen (pgSense u.val) = true →
       s.shape →
       ((s.ch u.val).sense.trig.filter (fun e => decide (s.now + dt < e))).length < 4 →
       ∃ t, exec (.trigNow dt u) s = .next t
         ∧ (t.ch u.val).sense.trig = (s.ch u.val).sense.trig ++ [s.now + dt + cellCycle * s.get (R.SENSE_TRIG_DELAY u.val)]
         ∧ ((t.ch u.val).sense.trig.filter (fun e => decide (s.now + dt < e))).length ≤ 4
         ∧ t.regs = s.regs)
  ∧ (∀ (s : State) (dt : Nat) (u : Fin 13),
       u.val < 8 →
       s.hostOpen (pgSense u.val) = true →
       s.shape →
       4 ≤ ((s.ch u.val).sense.trig.filter (fun e => decide (s.now + dt < e))).length →
       ∃ t, exec (.trigNow dt u) s = .next t
         ∧ (t.ch u.val).sense.trig = (s.ch u.val).sense.trig
         ∧ t.flag (R.SENSE_FB_STAT_TRIG_OVR u.val) = true
         ∧ t.get (R.SENSE_OVR_COUNT_OVR u.val) = counted (R.SENSE_OVR_COUNT_OVR u.val) (s.get (R.SENSE_OVR_COUNT_OVR u.val)))
  ∧ (∀ (s : State) (dt : Nat) (u : Fin 13) (n : Nat),
       u.val = 8 + n →
       s.hostOpen (pgSar n) = true →
       s.shape →
       s.get (R.SAR_TRIG_SRC n) ≠ 7 →
       ((s.sarSt n).trig.filter (fun e => decide (s.now + dt < e))).length < 4 →
       ∃ t, exec (.trigNow dt u) s = .next t
         ∧ (t.sarSt n).trig = (s.sarSt n).trig ++ [max (s.now + dt + cellCycle * s.get (R.SAR_TRIG_DELAY n)) (s.now + dt)]
         ∧ ((t.sarSt n).trig.filter (fun e => decide (s.now + dt < e))).length ≤ 4
         ∧ t.regs = s.regs)
  ∧ (∀ (s : State) (dt : Nat) (u : Fin 13) (n : Nat),
       u.val = 8 + n →
       s.hostOpen (pgSar n) = true →
       s.shape →
       s.get (R.SAR_TRIG_SRC n) ≠ 7 →
       4 ≤ ((s.sarSt n).trig.filter (fun e => decide (s.now + dt < e))).length →
       ∃ t, exec (.trigNow dt u) s = .next t
         ∧ (t.sarSt n).trig = (s.sarSt n).trig
         ∧ t.flag (R.SAR_STATUS_TRIG_OVR n) = true
         ∧ t.get (R.SAR_OVR_COUNT_OVR n) = counted (R.SAR_OVR_COUNT_OVR n) (s.get (R.SAR_OVR_COUNT_OVR n)))

/-- While CRC_REQ is 1 a transaction without CRC is refused. While the host island runs and SPI_CFG.CRC_REQ is
1: a read with CRC = 0 returns the marker 0x5 and no data; a write with CRC = 0, complete or aborted, returns
nothing and changes no memory and no register but SPI_STAT and the interrupt bits of page HOST. In either case
REFUSED increments and interrupt bit 2 latches. (R450) -/
def Obligations.TransactionsWithoutCrcAreRefused : Prop :=
  (∀ (s : State) (dt : Nat) (fixed : Bool) (count : Fin 32) (addr : Nat) (flips : List (Nat × Nat)),
       s.hostRuns = true →
       s.flag R.HOST_SPI_CFG_CRC_REQ = true →
       ∃ t, exec (.qspiRead dt fixed false count addr flips) s = .next t
         ∧ t.hostOut = [5]
         ∧ t.get R.HOST_SPI_STAT_REFUSED = counted R.HOST_SPI_STAT_REFUSED (s.get R.HOST_SPI_STAT_REFUSED)
         ∧ (t.get (H.IRQ_RAW pgHost)).testBit 2 = true
         ∧ s.regsBut [H.IRQ_RAW pgHost, R.HOST_SPI_STAT_REFUSED] t
         ∧ t.mem = s.mem)
  ∧ (∀ (s : State) (dt : Nat) (fixed : Bool) (addr : Nat) (words : List Nat) (sum : Fin 65536),
       s.hostRuns = true →
       s.flag R.HOST_SPI_CFG_CRC_REQ = true →
       words ≠ [] →
       words.length ≤ 32 →
       ∃ t, exec (.qspiWrite dt fixed false addr words sum) s = .next t
         ∧ t.hostOut = []
         ∧ t.get R.HOST_SPI_STAT_REFUSED = counted R.HOST_SPI_STAT_REFUSED (s.get R.HOST_SPI_STAT_REFUSED)
         ∧ (t.get (H.IRQ_RAW pgHost)).testBit 2 = true
         ∧ s.regsBut [H.IRQ_RAW pgHost, R.HOST_SPI_STAT_REFUSED] t
         ∧ s.sameBut [.now, .recent, .hostOut, .pod, .regs] t)
  ∧ (∀ (s : State) (dt : Nat) (write fixed : Bool) (addr : Nat) (words : List Nat) (count : Fin 33),
       s.hostRuns = true →
       s.flag R.HOST_SPI_CFG_CRC_REQ = true →
       ∃ t, exec (.qspiAbort dt write fixed false addr words count) s = .next t
         ∧ t.hostOut = []
         ∧ t.get R.HOST_SPI_STAT_REFUSED = counted R.HOST_SPI_STAT_REFUSED (s.get R.HOST_SPI_STAT_REFUSED)
         ∧ (t.get (H.IRQ_RAW pgHost)).testBit 2 = true
         ∧ s.regsBut [H.IRQ_RAW pgHost, R.HOST_SPI_STAT_REFUSED, R.HOST_SPI_STAT_ABORTS] t
         ∧ s.sameBut [.now, .recent, .hostOut, .pod, .regs] t)

/-- Before the lock and in Quarantine host writes change nothing. Before the lock, and after it in Quarantine:
a host write to a register of any page but HOST and MBOX changes no register but HOST.ERR_COUNT, which counts
it, HOST.LAST_ERR_ADDR and the interrupt bits of page HOST, and no other part of the state. A host write of
table memory changes no byte of memory and is counted the same way. (R61, R78, R86) -/
def Obligations.HostWritesBeforeTheLockAreIgnored : Prop :=
  (∀ (s : State) (dt addr w : Nat),
       s.hostRuns = true →
       s.locked = false ∨ s.quarantine = true →
       addr < 0x100000 →
       addr / 4096 ≠ pgHost →
       addr / 4096 ≠ pgMbox →
       ∃ t, exec (.registerWrite dt addr w) s = .next t
         ∧ t.get (H.ERR_COUNT pgHost) = counted (H.ERR_COUNT pgHost) (s.get (H.ERR_COUNT pgHost))
         ∧ s.regsBut [H.ERR_COUNT pgHost, H.IRQ_RAW pgHost, R.HOST_LAST_ERR_ADDR] t
         ∧ s.sameBut [.now, .recent, .pod, .regs] t)
  ∧ (∀ (s : State) (dt addr w : Nat) (flips : Fin 3),
       s.hostRuns = true →
       s.locked = false ∨ s.quarantine = true →
       inRegion tableBase tableSize (addr / 4 * 4) = true →
       ∃ t, exec (.tableWindowWrite dt addr w flips) s = .next t
         ∧ t.get (H.ERR_COUNT pgHost) = counted (H.ERR_COUNT pgHost) (s.get (H.ERR_COUNT pgHost))
         ∧ s.regsBut [H.ERR_COUNT pgHost, H.IRQ_RAW pgHost, R.HOST_LAST_ERR_ADDR] t
         ∧ s.sameBut [.now, .recent, .pod, .regs, .ecc] t)
end

