-- ==== Sys2Proof/Laws/Keeps.lean ====
section
/-! SUPPORT. Which parts of the state an operation may change. `Keeps l I` says that the property `I` survives
every change of the parts in the list `l`. One lemma per operation names the parts that it may change and
shows that it keeps every such property: so it changes no other part, and it keeps every invariant that its
parts keep. -/

namespace Sys2Proof.Machine

/-- Every change of the parts in `l` keeps `I`. -/
structure Keeps (l : List Part) (I : State → Prop) : Prop where
  now : .now ∈ l → ∀ {s : State}, I s → ∀ v, I { s with now := v }
  dblTable : .dblTable ∈ l → ∀ {s : State}, I s → ∀ v, I { s with dblTable := v }
  dblCapt : .dblCapt ∈ l → ∀ {s : State}, I s → ∀ v, I { s with dblCapt := v }
  shadow : .shadow ∈ l → ∀ {s : State}, I s → ∀ v, I { s with shadow := v }
  hostOut : .hostOut ∈ l → ∀ {s : State}, I s → ∀ v, I { s with hostOut := v }
  recent : .recent ∈ l → ∀ {s : State}, I s → ∀ v, I { s with recent := v }
  freeCtr : .freeCtr ∈ l → ∀ {s : State}, I s → ∀ v, I { s with freeCtr := v }
  sys : .sys ∈ l → ∀ {s : State}, I s → ∀ v, I { s with sys := v }
  fuse : .fuse ∈ l → ∀ {s : State}, I s → ∀ v, I { s with fuse := v }
  boot : .boot ∈ l → ∀ {s : State}, I s → ∀ v, I { s with boot := v }
  canopyT : .canopyT ∈ l → ∀ {s : State}, I s → ∀ v, I { s with canopyT := v }
  log : .log ∈ l → ∀ {s : State}, I s → ∀ v, I { s with log := v }
  ring : .ring ∈ l → ∀ {s : State}, I s → ∀ v, v.ports.length = s.ring.ports.length → I { s with ring := v }
  pod : .pod ∈ l → ∀ {s : State}, I s → ∀ v, v.q.length = s.pod.q.length → I { s with pod := v }
  gyl : .gyl ∈ l → ∀ {s : State}, I s → ∀ v, v.length = s.gyl.length → I { s with gyl := v }
  safe : .safe ∈ l → ∀ {s : State}, I s → ∀ v, I { s with safe := v }
  hw : .hw ∈ l → ∀ {s : State}, I s → ∀ v, I { s with hw := v }
  eth : .eth ∈ l → ∀ {s : State}, I s → ∀ v, I { s with eth := v }
  chan : .chan ∈ l → ∀ {s : State}, I s → ∀ v, v.length = s.chan.length → I { s with chan := v }
  sar : .sar ∈ l → ∀ {s : State}, I s → ∀ v, v.length = s.sar.length → I { s with sar := v }
  roverQ : .roverQ ∈ l → ∀ {s : State}, I s → ∀ v, I { s with roverQ := v }
  engs : .engs ∈ l → ∀ {s : State}, I s → ∀ v, v.length = s.engs.length → I { s with engs := v }
  arm : .arm ∈ l → ∀ {s : State}, I s → ∀ v, I { s with arm := v }
  ride : .ride ∈ l → ∀ {s : State}, I s → ∀ v, I { s with ride := v }
  isl : .isl ∈ l → ∀ {s : State}, I s → ∀ v, I { s with isl := v }
  capt : .capt ∈ l → ∀ {s : State}, I s → ∀ v, v.length = s.capt.length → I { s with capt := v }
  meter : .meter ∈ l → ∀ {s : State}, I s → ∀ v, v.fram = s.meter.fram → I { s with meter := v }
  framPut : .fram ∈ l → ∀ {s : State}, I s → ∀ a b,
    I { s with meter := { s.meter with fram := s.meter.fram.putBytes a b } }
  framNew : .fram ∈ l → ∀ {s : State}, I s → ∀ b,
    I { s with meter := { s.meter with fram := Memory.putBytes [] 0 b } }
  regSet : .regs ∈ l → ∀ {s : State}, I s → ∀ r v, I { s with regs := s.regs.set r v }
  stageInsert : .staged ∈ l → ∀ {s : State}, I s → ∀ k v, I { s with staged := s.staged.insert k v }
  stageErase : .staged ∈ l → ∀ {s : State}, I s → ∀ k, I { s with staged := s.staged.erase k }
  stageKeep : .staged ∈ l → ∀ {s : State}, I s → ∀ p, I { s with staged := s.staged.filter p }
  eccInsert : .ecc ∈ l → ∀ {s : State}, I s → ∀ k v, I { s with ecc := s.ecc.insert k v }
  eccErase : .ecc ∈ l → ∀ {s : State}, I s → ∀ k, I { s with ecc := s.ecc.erase k }
  memPut : .mem ∈ l → ∀ {s : State}, I s → ∀ a b, I { s with mem := s.mem.putBytes a b }
  memTrim : .mem ∈ l → ∀ {s : State}, I s → ∀ p, I { s with mem := s.mem.filter p }
  eccTrim : .ecc ∈ l → ∀ {s : State}, I s → ∀ p, I { s with ecc := s.ecc.filter p }
  resetRest : .drop ∈ l → ∀ {s : State}, I s → ∀ por core, I (s.resetRest por core)
  regKeep : .drop ∈ l → ∀ {s : State}, I s → ∀ p, I { s with regs := s.regs.filter p }
  regNone : .drop ∈ l → ∀ {s : State}, I s → I { s with regs := [] }
  stageNone : .drop ∈ l → ∀ {s : State}, I s → I { s with staged := [] }
  eccKeep : .drop ∈ l → ∀ {s : State}, I s → ∀ p, I { s with ecc := s.ecc.filter p }
  eccNone : .drop ∈ l → ∀ {s : State}, I s → I { s with ecc := [] }
  memKeep : .drop ∈ l → ∀ {s : State}, I s → ∀ p, I { s with mem := s.mem.filter p }
  memNone : .drop ∈ l → ∀ {s : State}, I s → I { s with mem := [] }

variable {I : State → Prop} {l : List Part}

/-- What survives the changes of more parts survives those of fewer. -/
theorem Keeps.mono {k : List Part} (h : Keeps l I) (hs : k.all (fun p => l.contains p) = true) :
    Keeps k I := by
  have e : ∀ {p}, p ∈ k → p ∈ l := fun hp => by simpa using List.all_eq_true.1 hs _ hp
  exact ⟨fun m => h.now (e m), fun m => h.dblTable (e m), fun m => h.dblCapt (e m), fun m =>
    h.shadow (e m), fun m => h.hostOut (e m), fun m => h.recent (e m), fun m => h.freeCtr (e m), fun m => h.sys (e m), fun m
    => h.fuse (e m), fun m => h.boot (e m), fun m => h.canopyT (e m), fun m => h.log (e m), fun m =>
    h.ring (e m), fun m => h.pod (e m), fun m => h.gyl (e m), fun m => h.safe (e m), fun m => h.hw
    (e m), fun m => h.eth (e m), fun m => h.chan (e m), fun m => h.sar (e m), fun m => h.roverQ (e
    m), fun m => h.engs (e m), fun m => h.arm (e m), fun m => h.ride (e m), fun m => h.isl (e m),
    fun m => h.capt (e m), fun m => h.meter (e m), fun m => h.framPut (e m), fun m => h.framNew (e
    m), fun m => h.regSet (e m), fun m => h.stageInsert (e m), fun m => h.stageErase (e m), fun m =>
    h.stageKeep (e m), fun m => h.eccInsert (e m), fun m => h.eccErase (e m), fun m => h.memPut (e
    m), fun m => h.memTrim (e m), fun m => h.eccTrim (e m), fun m => h.resetRest (e m), fun m => h.regKeep (e m), fun m => h.regNone (e m), fun m => h.stageNone (e m), fun m =>
    h.eccKeep (e m), fun m => h.eccNone (e m), fun m => h.memKeep (e m), fun m => h.memNone (e m)⟩

/-- The property holds of the next state, when there is one. -/
@[irreducible] def OutI (I : State → Prop) (o : Host.Outcome State Fault Refusal) : Prop := ∀ t, o = .next t → I t
/-- The property holds of the state in a result, when there is one. -/
def OptI {α : Type} (I : State → Prop) (o : Option (α × State)) : Prop := ∀ a t, o = some (a, t) → I t

theorem outNext {t : State} (h : I t) : OutI I (.next t) := by
  unfold OutI
  intro u e
  cases e
  exact h

theorem outI {o : Host.Outcome State Fault Refusal} (h : OutI I o) {t : State} (e : o = .next t) : I t := by
  unfold OutI at h
  exact h t e

/-- A state that differs from `s` in parts of `l` only, and in no memory and no register list. -/
theorem partMk (hI : Keeps l I) {s : State} {now_ : Nat} {dblTable_ : Option Nat} {dblCapt_ : Option Nat} {shadow_ : List (Nat × Nat × Nat)} {hostOut_ : List Nat} {recent_ : List (Nat × Nat × Nat)} {freeCtr_ : Nat} {sys_ : SysSt} {fuse_ : FuseSt} {boot_ : BootPhase} {canopyT_ : CanopySt} {log_ : LogSt} {ring_ : RingSt} {pod_ : PodSt} {gyl_ : List GylSt} {safe_ : SafeSt} {hw_ : HwSt} {eth_ : EthSt} {chan_ : List ChSt} {sar_ : List SarSt} {roverQ_ : List Nat} {engs_ : List EngSt} {arm_ : ArmSt} {ride_ : RideSt} {isl_ : IslSt} {capt_ : List CaptSt} {meter_ : MeterSt}
    (h : I s)
    (e_now : now_ = s.now ∨ Part.now ∈ l := by first | exact .inl rfl | exact .inr (by decide))
    (e_dblTable : dblTable_ = s.dblTable ∨ Part.dblTable ∈ l := by first | exact .inl rfl | exact .inr (by decide))
    (e_dblCapt : dblCapt_ = s.dblCapt ∨ Part.dblCapt ∈ l := by first | exact .inl rfl | exact .inr (by decide))
    (e_shadow : shadow_ = s.shadow ∨ Part.shadow ∈ l := by first | exact .inl rfl | exact .inr (by decide))
    (e_hostOut : hostOut_ = s.hostOut ∨ Part.hostOut ∈ l := by first | exact .inl rfl | exact .inr (by decide))
    (e_recent : recent_ = s.recent ∨ Part.recent ∈ l := by first | exact .inl rfl | exact .inr (by decide))
    (e_freeCtr : freeCtr_ = s.freeCtr ∨ Part.freeCtr ∈ l := by first | exact .inl rfl | exact .inr (by decide))
    (e_sys : sys_ = s.sys ∨ Part.sys ∈ l := by first | exact .inl rfl | exact .inr (by decide))
    (e_fuse : fuse_ = s.fuse ∨ Part.fuse ∈ l := by first | exact .inl rfl | exact .inr (by decide))
    (e_boot : boot_ = s.boot ∨ Part.boot ∈ l := by first | exact .inl rfl | exact .inr (by decide))
    (e_canopyT : canopyT_ = s.canopyT ∨ Part.canopyT ∈ l := by first | exact .inl rfl | exact .inr (by decide))
    (e_log : log_ = s.log ∨ Part.log ∈ l := by first | exact .inl rfl | exact .inr (by decide))
    (e_ring : ring_ = s.ring ∨ (Part.ring ∈ l ∧ ring_.ports.length = s.ring.ports.length) := by
      first | exact .inl rfl | exact .inr ⟨by decide, rfl⟩ | exact .inr ⟨by decide, by simp⟩)
    (e_pod : pod_ = s.pod ∨ (Part.pod ∈ l ∧ pod_.q.length = s.pod.q.length) := by
      first | exact .inl rfl | exact .inr ⟨by decide, rfl⟩ | exact .inr ⟨by decide, by simp⟩)
    (e_gyl : gyl_ = s.gyl ∨ (Part.gyl ∈ l ∧ gyl_.length = s.gyl.length) := by
      first | exact .inl rfl | exact .inr ⟨by decide, by simp⟩)
    (e_safe : safe_ = s.safe ∨ Part.safe ∈ l := by first | exact .inl rfl | exact .inr (by decide))
    (e_hw : hw_ = s.hw ∨ Part.hw ∈ l := by first | exact .inl rfl | exact .inr (by decide))
    (e_eth : eth_ = s.eth ∨ Part.eth ∈ l := by first | exact .inl rfl | exact .inr (by decide))
    (e_chan : chan_ = s.chan ∨ (Part.chan ∈ l ∧ chan_.length = s.chan.length) := by
      first | exact .inl rfl | exact .inr ⟨by decide, by simp⟩)
    (e_sar : sar_ = s.sar ∨ (Part.sar ∈ l ∧ sar_.length = s.sar.length) := by
      first | exact .inl rfl | exact .inr ⟨by decide, by simp⟩)
    (e_roverQ : roverQ_ = s.roverQ ∨ Part.roverQ ∈ l := by first | exact .inl rfl | exact .inr (by decide))
    (e_engs : engs_ = s.engs ∨ (Part.engs ∈ l ∧ engs_.length = s.engs.length) := by
      first | exact .inl rfl | exact .inr ⟨by decide, by simp⟩)
    (e_arm : arm_ = s.arm ∨ Part.arm ∈ l := by first | exact .inl rfl | exact .inr (by decide))
    (e_ride : ride_ = s.ride ∨ Part.ride ∈ l := by first | exact .inl rfl | exact .inr (by decide))
    (e_isl : isl_ = s.isl ∨ Part.isl ∈ l := by first | exact .inl rfl | exact .inr (by decide))
    (e_capt : capt_ = s.capt ∨ (Part.capt ∈ l ∧ capt_.length = s.capt.length) := by
      first | exact .inl rfl | exact .inr ⟨by decide, by simp⟩)
    (e_meter : meter_ = s.meter ∨ (Part.meter ∈ l ∧ meter_.fram = s.meter.fram) := by
      first | exact .inl rfl | exact .inr ⟨by decide, rfl⟩) :
    I (State.mk now_ s.pending s.regs s.staged s.mem s.ecc dblTable_ dblCapt_ shadow_ hostOut_ recent_ freeCtr_ sys_ fuse_ boot_ canopyT_ log_ ring_ pod_ gyl_ safe_ hw_ eth_ chan_ sar_ roverQ_ engs_ arm_ ride_ isl_ meter_ capt_) := by
  have h0 : I { s with now := now_ } := by
    rcases e_now with e | e
    · rw [e]; exact h
    · exact hI.now e h _
  have h1 : I { s with now := now_, dblTable := dblTable_ } := by
    rcases e_dblTable with e | e
    · rw [e]; exact h0
    · exact hI.dblTable e h0 _
  have h2 : I { s with now := now_, dblTable := dblTable_, dblCapt := dblCapt_ } := by
    rcases e_dblCapt with e | e
    · rw [e]; exact h1
    · exact hI.dblCapt e h1 _
  have h3 : I { s with now := now_, dblTable := dblTable_, dblCapt := dblCapt_, shadow := shadow_ } := by
    rcases e_shadow with e | e
    · rw [e]; exact h2
    · exact hI.shadow e h2 _
  have h4 : I { s with now := now_, dblTable := dblTable_, dblCapt := dblCapt_, shadow := shadow_, hostOut := hostOut_ } := by
    rcases e_hostOut with e | e
    · rw [e]; exact h3
    · exact hI.hostOut e h3 _
  have h4r : I { s with now := now_, dblTable := dblTable_, dblCapt := dblCapt_, shadow := shadow_, hostOut := hostOut_, recent := recent_ } := by
    rcases e_recent with e | e
    · rw [e]; exact h4
    · exact hI.recent e h4 _
  have h5 : I { s with now := now_, dblTable := dblTable_, dblCapt := dblCapt_, shadow := shadow_, hostOut := hostOut_, recent := recent_, freeCtr := freeCtr_ } := by
    rcases e_freeCtr with e | e
    · rw [e]; exact h4r
    · exact hI.freeCtr e h4r _
  have h6 : I { s with now := now_, dblTable := dblTable_, dblCapt := dblCapt_, shadow := shadow_, hostOut := hostOut_, recent := recent_, freeCtr := freeCtr_, sys := sys_ } := by
    rcases e_sys with e | e
    · rw [e]; exact h5
    · exact hI.sys e h5 _
  have h7 : I { s with now := now_, dblTable := dblTable_, dblCapt := dblCapt_, shadow := shadow_, hostOut := hostOut_, recent := recent_, freeCtr := freeCtr_, sys := sys_, fuse := fuse_ } := by
    rcases e_fuse with e | e
    · rw [e]; exact h6
    · exact hI.fuse e h6 _
  have h8 : I { s with now := now_, dblTable := dblTable_, dblCapt := dblCapt_, shadow := shadow_, hostOut := hostOut_, recent := recent_, freeCtr := freeCtr_, sys := sys_, fuse := fuse_, boot := boot_ } := by
    rcases e_boot with e | e
    · rw [e]; exact h7
    · exact hI.boot e h7 _
  have h9 : I { s with now := now_, dblTable := dblTable_, dblCapt := dblCapt_, shadow := shadow_, hostOut := hostOut_, recent := recent_, freeCtr := freeCtr_, sys := sys_, fuse := fuse_, boot := boot_, canopyT := canopyT_ } := by
    rcases e_canopyT with e | e
    · rw [e]; exact h8
    · exact hI.canopyT e h8 _
  have h10 : I { s with now := now_, dblTable := dblTable_, dblCapt := dblCapt_, shadow := shadow_, hostOut := hostOut_, recent := recent_, freeCtr := freeCtr_, sys := sys_, fuse := fuse_, boot := boot_, canopyT := canopyT_, log := log_ } := by
    rcases e_log with e | e
    · rw [e]; exact h9
    · exact hI.log e h9 _
  have h11 : I { s with now := now_, dblTable := dblTable_, dblCapt := dblCapt_, shadow := shadow_, hostOut := hostOut_, recent := recent_, freeCtr := freeCtr_, sys := sys_, fuse := fuse_, boot := boot_, canopyT := canopyT_, log := log_, ring := ring_ } := by
    rcases e_ring with e | ⟨e, f⟩
    · rw [e]; exact h10
    · exact hI.ring e h10 _ f
  have h12 : I { s with now := now_, dblTable := dblTable_, dblCapt := dblCapt_, shadow := shadow_, hostOut := hostOut_, recent := recent_, freeCtr := freeCtr_, sys := sys_, fuse := fuse_, boot := boot_, canopyT := canopyT_, log := log_, ring := ring_, pod := pod_ } := by
    rcases e_pod with e | ⟨e, f⟩
    · rw [e]; exact h11
    · exact hI.pod e h11 _ f
  have h13 : I { s with now := now_, dblTable := dblTable_, dblCapt := dblCapt_, shadow := shadow_, hostOut := hostOut_, recent := recent_, freeCtr := freeCtr_, sys := sys_, fuse := fuse_, boot := boot_, canopyT := canopyT_, log := log_, ring := ring_, pod := pod_, gyl := gyl_ } := by
    rcases e_gyl with e | ⟨e, f⟩
    · rw [e]; exact h12
    · exact hI.gyl e h12 _ f
  have h14 : I { s with now := now_, dblTable := dblTable_, dblCapt := dblCapt_, shadow := shadow_, hostOut := hostOut_, recent := recent_, freeCtr := freeCtr_, sys := sys_, fuse := fuse_, boot := boot_, canopyT := canopyT_, log := log_, ring := ring_, pod := pod_, gyl := gyl_, safe := safe_ } := by
    rcases e_safe with e | e
    · rw [e]; exact h13
    · exact hI.safe e h13 _
  have h15 : I { s with now := now_, dblTable := dblTable_, dblCapt := dblCapt_, shadow := shadow_, hostOut := hostOut_, recent := recent_, freeCtr := freeCtr_, sys := sys_, fuse := fuse_, boot := boot_, canopyT := canopyT_, log := log_, ring := ring_, pod := pod_, gyl := gyl_, safe := safe_, hw := hw_ } := by
    rcases e_hw with e | e
    · rw [e]; exact h14
    · exact hI.hw e h14 _
  have h16 : I { s with now := now_, dblTable := dblTable_, dblCapt := dblCapt_, shadow := shadow_, hostOut := hostOut_, recent := recent_, freeCtr := freeCtr_, sys := sys_, fuse := fuse_, boot := boot_, canopyT := canopyT_, log := log_, ring := ring_, pod := pod_, gyl := gyl_, safe := safe_, hw := hw_, eth := eth_ } := by
    rcases e_eth with e | e
    · rw [e]; exact h15
    · exact hI.eth e h15 _
  have h17 : I { s with now := now_, dblTable := dblTable_, dblCapt := dblCapt_, shadow := shadow_, hostOut := hostOut_, recent := recent_, freeCtr := freeCtr_, sys := sys_, fuse := fuse_, boot := boot_, canopyT := canopyT_, log := log_, ring := ring_, pod := pod_, gyl := gyl_, safe := safe_, hw := hw_, eth := eth_, chan := chan_ } := by
    rcases e_chan with e | ⟨e, f⟩
    · rw [e]; exact h16
    · exact hI.chan e h16 _ f
  have h18 : I { s with now := now_, dblTable := dblTable_, dblCapt := dblCapt_, shadow := shadow_, hostOut := hostOut_, recent := recent_, freeCtr := freeCtr_, sys := sys_, fuse := fuse_, boot := boot_, canopyT := canopyT_, log := log_, ring := ring_, pod := pod_, gyl := gyl_, safe := safe_, hw := hw_, eth := eth_, chan := chan_, sar := sar_ } := by
    rcases e_sar with e | ⟨e, f⟩
    · rw [e]; exact h17
    · exact hI.sar e h17 _ f
  have h19 : I { s with now := now_, dblTable := dblTable_, dblCapt := dblCapt_, shadow := shadow_, hostOut := hostOut_, recent := recent_, freeCtr := freeCtr_, sys := sys_, fuse := fuse_, boot := boot_, canopyT := canopyT_, log := log_, ring := ring_, pod := pod_, gyl := gyl_, safe := safe_, hw := hw_, eth := eth_, chan := chan_, sar := sar_, roverQ := roverQ_ } := by
    rcases e_roverQ with e | e
    · rw [e]; exact h18
    · exact hI.roverQ e h18 _
  have h20 : I { s with now := now_, dblTable := dblTable_, dblCapt := dblCapt_, shadow := shadow_, hostOut := hostOut_, recent := recent_, freeCtr := freeCtr_, sys := sys_, fuse := fuse_, boot := boot_, canopyT := canopyT_, log := log_, ring := ring_, pod := pod_, gyl := gyl_, safe := safe_, hw := hw_, eth := eth_, chan := chan_, sar := sar_, roverQ := roverQ_, engs := engs_ } := by
    rcases e_engs with e | ⟨e, f⟩
    · rw [e]; exact h19
    · exact hI.engs e h19 _ f
  have h21 : I { s with now := now_, dblTable := dblTable_, dblCapt := dblCapt_, shadow := shadow_, hostOut := hostOut_, recent := recent_, freeCtr := freeCtr_, sys := sys_, fuse := fuse_, boot := boot_, canopyT := canopyT_, log := log_, ring := ring_, pod := pod_, gyl := gyl_, safe := safe_, hw := hw_, eth := eth_, chan := chan_, sar := sar_, roverQ := roverQ_, engs := engs_, arm := arm_ } := by
    rcases e_arm with e | e
    · rw [e]; exact h20
    · exact hI.arm e h20 _
  have h22 : I { s with now := now_, dblTable := dblTable_, dblCapt := dblCapt_, shadow := shadow_, hostOut := hostOut_, recent := recent_, freeCtr := freeCtr_, sys := sys_, fuse := fuse_, boot := boot_, canopyT := canopyT_, log := log_, ring := ring_, pod := pod_, gyl := gyl_, safe := safe_, hw := hw_, eth := eth_, chan := chan_, sar := sar_, roverQ := roverQ_, engs := engs_, arm := arm_, ride := ride_ } := by
    rcases e_ride with e | e
    · rw [e]; exact h21
    · exact hI.ride e h21 _
  have h23 : I { s with now := now_, dblTable := dblTable_, dblCapt := dblCapt_, shadow := shadow_, hostOut := hostOut_, recent := recent_, freeCtr := freeCtr_, sys := sys_, fuse := fuse_, boot := boot_, canopyT := canopyT_, log := log_, ring := ring_, pod := pod_, gyl := gyl_, safe := safe_, hw := hw_, eth := eth_, chan := chan_, sar := sar_, roverQ := roverQ_, engs := engs_, arm := arm_, ride := ride_, isl := isl_ } := by
    rcases e_isl with e | e
    · rw [e]; exact h22
    · exact hI.isl e h22 _
  have h24 : I { s with now := now_, dblTable := dblTable_, dblCapt := dblCapt_, shadow := shadow_, hostOut := hostOut_, recent := recent_, freeCtr := freeCtr_, sys := sys_, fuse := fuse_, boot := boot_, canopyT := canopyT_, log := log_, ring := ring_, pod := pod_, gyl := gyl_, safe := safe_, hw := hw_, eth := eth_, chan := chan_, sar := sar_, roverQ := roverQ_, engs := engs_, arm := arm_, ride := ride_, isl := isl_, capt := capt_ } := by
    rcases e_capt with e | ⟨e, f⟩
    · rw [e]; exact h23
    · exact hI.capt e h23 _ f
  rcases e_meter with e | ⟨e, f⟩
  · rw [e]; exact h24
  · exact hI.meter e h24 _ f

theorem iteI {c : Prop} [Decidable c] {a b : State} (ha : c → I a) (hb : ¬ c → I b) :
    I (if c then a else b) := by
  split
  · exact ha ‹_›
  · exact hb ‹_›
theorem iteOutI {c : Prop} [Decidable c] {a b : Host.Outcome State Fault Refusal}
    (ha : c → OutI I a) (hb : ¬ c → OutI I b) : OutI I (if c then a else b) := by
  split
  · exact ha ‹_›
  · exact hb ‹_›
theorem foldlI {α : Type} {f : State → α → State} {l : List α} {s : State} (h : I s)
    (hf : ∀ t a, I t → I (f t a)) : I (l.foldl f s) := by
  induction l generalizing s with
  | nil => exact h
  | cons a l ih => exact ih (hf s a h)
theorem foldlI2 {α β : Type} {f : β × State → α → β × State} {l : List α} {s : β × State} (h : I s.2)
    (hf : ∀ t a, I t.2 → I (f t a).2) : I (l.foldl f s).2 := by
  induction l generalizing s with
  | nil => exact h
  | cons a l ih => exact ih (hf s a h)
theorem foldlI1 {α β : Type} {f : State × β → α → State × β} {l : List α} {s : State × β} (h : I s.1)
    (hf : ∀ t a, I t.1 → I (f t a).1) : I (l.foldl f s).1 := by
  induction l generalizing s with
  | nil => exact h
  | cons a l ih => exact ih (hf s a h)
theorem foldlI3 {α β γ : Type} {f : β × γ × State → α → β × γ × State} {l : List α} {s : β × γ × State}
    (h : I s.2.2) (hf : ∀ t a, I t.2.2 → I (f t a).2.2) : I (l.foldl f s).2.2 := by
  induction l generalizing s with
  | nil => exact h
  | cons a l ih => exact ih (hf s a h)
theorem sndEq {α : Type} {p : α × State} {a : α} {t : State} (h : I p.2) (e : p = (a, t)) : I t := by
  subst e; exact h
theorem fstEq {α : Type} {p : State × α} {a : α} {t : State} (h : I p.1) (e : p = (t, a)) : I t := by
  subst e; exact h
theorem snd2Eq {α β : Type} {p : α × β × State} {a : α} {b : β} {t : State} (h : I p.2.2)
    (e : p = (a, b, t)) : I t := by
  subst e; exact h
theorem snd3Eq {α β γ : Type} {p : α × β × γ × State} {a : α} {b : β} {c : γ} {t : State}
    (h : I p.2.2.2) (e : p = (a, b, c, t)) : I t := by
  subst e; exact h
theorem optEq {α : Type} {o : Option (α × State)} {a : α} {t : State} (h : OptI I o)
    (e : o = some (a, t)) : I t := h a t e
theorem optNone {α : Type} : OptI (α := α) I none := fun _ _ e => by cases e
theorem optSome {α : Type} {a : α} {t : State} (h : I t) : OptI I (some (a, t)) := fun _ _ e => by
  cases e; exact h

end Sys2Proof.Machine
end

