-- ==== Sys2Proof/Laws/KeepsChannel.lean ====
section
/-! SUPPORT. Which parts of the state may change in the operations and the commands of the cell channels. -/

set_option linter.unusedTactic false
set_option linter.unreachableTactic false

namespace Sys2Proof.Machine

-- One proof after another: many at once wait for the same equations, each in a thread of its own.
set_option Elab.async false

variable {I : State → Prop}

theorem keeps_elapse (hI : Keeps [.now] I) (s : State) (dt : Nat) (h_s : I s) : I (State.elapse s dt) := by
  unfold State.elapse
  with_reducible repeat' first
    | assumption
    | (extract_lets -underBinder +onlyGivenNames x; have hx : I x := ?_; clear_value x; on_goal 2 => subst x)
    | (extract_lets -underBinder +onlyGivenNames x; clear_value x)
    | (refine partMk hI ?_; first | assumption | refine sndEq ?_ (by assumption))

theorem keeps_modSys (hI : Keeps [.sys] I) (s : State) (f : SysSt → SysSt) (h_s : I s) : I
    (State.modSys s f) := by
  unfold State.modSys
  with_reducible repeat' first
    | assumption
    | (extract_lets -underBinder +onlyGivenNames x; have hx : I x := ?_; clear_value x; on_goal 2 => subst x)
    | (extract_lets -underBinder +onlyGivenNames x; clear_value x)
    | (refine partMk hI ?_; first | assumption | refine sndEq ?_ (by assumption))

theorem keeps_modRing (hI : Keeps [.ring] I) (s : State) (f : RingSt → RingSt) (h_s : I s) (hf : ∀ m,
    (f m).ports.length = m.ports.length) : I (State.modRing s f) :=
  hI.ring (by decide) h_s _ (hf _)

theorem keeps_modPod (hI : Keeps [.pod] I) (s : State) (f : PodSt → PodSt) (h_s : I s) (hf : ∀ m, (f
    m).q.length = m.q.length) : I (State.modPod s f) :=
  hI.pod (by decide) h_s _ (hf _)

theorem keeps_modLog (hI : Keeps [.log] I) (s : State) (f : LogSt → LogSt) (h_s : I s) : I
    (State.modLog s f) := by
  unfold State.modLog
  with_reducible repeat' first
    | assumption
    | (extract_lets -underBinder +onlyGivenNames x; have hx : I x := ?_; clear_value x; on_goal 2 => subst x)
    | (extract_lets -underBinder +onlyGivenNames x; clear_value x)
    | (refine partMk hI ?_; first | assumption | refine sndEq ?_ (by assumption))

theorem keeps_modSafe (hI : Keeps [.safe] I) (s : State) (f : SafeSt → SafeSt) (h_s : I s) : I
    (State.modSafe s f) := by
  unfold State.modSafe
  with_reducible repeat' first
    | assumption
    | (extract_lets -underBinder +onlyGivenNames x; have hx : I x := ?_; clear_value x; on_goal 2 => subst x)
    | (extract_lets -underBinder +onlyGivenNames x; clear_value x)
    | (refine partMk hI ?_; first | assumption | refine sndEq ?_ (by assumption))

theorem keeps_modHw (hI : Keeps [.hw] I) (s : State) (f : HwSt → HwSt) (h_s : I s) : I (State.modHw s
    f) := by
  unfold State.modHw
  with_reducible repeat' first
    | assumption
    | (extract_lets -underBinder +onlyGivenNames x; have hx : I x := ?_; clear_value x; on_goal 2 => subst x)
    | (extract_lets -underBinder +onlyGivenNames x; clear_value x)
    | (refine partMk hI ?_; first | assumption | refine sndEq ?_ (by assumption))

theorem keeps_modEth (hI : Keeps [.eth] I) (s : State) (f : EthSt → EthSt) (h_s : I s) : I
    (State.modEth s f) := by
  unfold State.modEth
  with_reducible repeat' first
    | assumption
    | (extract_lets -underBinder +onlyGivenNames x; have hx : I x := ?_; clear_value x; on_goal 2 => subst x)
    | (extract_lets -underBinder +onlyGivenNames x; clear_value x)
    | (refine partMk hI ?_; first | assumption | refine sndEq ?_ (by assumption))

theorem keeps_modCanopy (hI : Keeps [.canopyT] I) (s : State) (f : CanopySt → CanopySt) (h_s : I s) : I
    (State.modCanopy s f) := by
  unfold State.modCanopy
  with_reducible repeat' first
    | assumption
    | (extract_lets -underBinder +onlyGivenNames x; have hx : I x := ?_; clear_value x; on_goal 2 => subst x)
    | (extract_lets -underBinder +onlyGivenNames x; clear_value x)
    | (refine partMk hI ?_; first | assumption | refine sndEq ?_ (by assumption))

theorem keeps_set (hI : Keeps [.regs] I) (s : State) (r : Reg) (v : Nat) (h_s : I s) : I (State.set s r
    v) := by
  unfold State.set
  split
  · exact h_s
  · exact hI.regSet (by decide) h_s r v

theorem keeps_setI (hI : Keeps [.regs] I) (s : State) (r : Reg) (v : Int) (h_s : I s) : I (State.setI s
    r v) := by
  unfold State.setI
  with_reducible repeat' first
    | assumption
    | apply keeps_set hI

theorem keeps_note (hI : Keeps [.recent] I) (s : State) (key bits : Nat) (h_s : I s) : I (State.note s
    key bits) := by
  unfold State.note
  with_reducible repeat' first
    | assumption
    | (extract_lets -underBinder +onlyGivenNames x; have hx : I x := ?_; clear_value x; on_goal 2 => subst x)
    | (extract_lets -underBinder +onlyGivenNames x; clear_value x)
    | (refine partMk hI ?_; first | assumption | refine sndEq ?_ (by assumption))
    | (intro t ht; beta_reduce)
    | (intro m; first | rfl | simp)

theorem keeps_noteW1c (hI : Keeps [.recent] I) (s : State) (r : Reg) (bits : Nat) (h_s : I s) : I
    (State.noteW1c s r bits) := by
  unfold State.noteW1c
  with_reducible repeat' first
    | assumption
    | refine iteI (fun _ => ?_) (fun _ => ?_)
    | apply keeps_note hI

theorem keeps_setB (hI : Keeps [.recent, .regs] I) (s : State) (r : Reg) (b : Bool) (h_s : I s) : I
    (State.setB s r b) := by
  unfold State.setB
  with_reducible repeat' first
    | assumption
    | refine iteI (fun _ => ?_) (fun _ => ?_)
    | apply keeps_set (hI.mono (by decide))
    | apply keeps_noteW1c (hI.mono (by decide))

theorem keeps_setBoot (hI : Keeps [.regs] I) (s : State) (r : Reg) (v : Nat) (h_s : I s) : I
    (State.setBoot s r v) := hI.regSet (by decide) h_s r v

theorem keeps_inc (hI : Keeps [.recent, .regs] I) (s : State) (r : Reg) (h_s : I s) : I (State.inc s r) := by
  unfold State.inc
  with_reducible repeat' first
    | assumption
    | refine iteI (fun _ => ?_) (fun _ => ?_)
    | apply keeps_note (hI.mono (by decide))
    | apply keeps_set (hI.mono (by decide))

theorem keeps_incWrap (hI : Keeps [.regs] I) (s : State) (r : Reg) (h_s : I s) : I (State.incWrap s r) := by
  unfold State.incWrap
  with_reducible repeat' first
    | assumption
    | apply keeps_set hI

theorem keeps_setMaskBit (hI : Keeps [.recent, .regs] I) (s : State) (r : Reg) (b : Nat) (h_s : I s) :
    I (State.setMaskBit s r b) := by
  unfold State.setMaskBit
  with_reducible repeat' first
    | assumption
    | apply keeps_set (hI.mono (by decide))
    | apply keeps_noteW1c (hI.mono (by decide))

theorem keeps_putMaskBit (hI : Keeps [.regs] I) (s : State) (r : Reg) (b : Nat) (v : Bool) (h_s : I s)
    : I (State.putMaskBit s r b v) := by
  unfold State.putMaskBit
  with_reducible repeat' first
    | assumption
    | apply keeps_set hI

theorem keeps_setSat (hI : Keeps [.regs] I) (s : State) (r : Reg) (v : Nat) (h_s : I s) : I
    (State.setSat s r v) := by
  unfold State.setSat
  with_reducible repeat' first
    | assumption
    | apply keeps_set hI

theorem keeps_stage (hI : Keeps [.staged] I) (s : State) (r : Reg) (v : Nat) (h_s : I s) : I
    (State.stage s r v) :=
  hI.stageInsert (by decide) h_s _ _

theorem keeps_stageKey (hI : Keeps [.staged] I) (s : State) (k v : Nat) (h_s : I s) : I (State.stageKey
    s k v) :=
  hI.stageInsert (by decide) h_s _ _

theorem keeps_applyStaged (hI : Keeps [.regs, .staged] I) (s : State) (p : Nat) (h_s : I s) : I
    (State.applyStaged s p) := by
  unfold State.applyStaged
  refine foldlI h_s (fun t r ht => ?_)
  split
  · rename_i o v e0
    have e : (t.set r v).staged = t.staged := by unfold State.set; split <;> rfl
    rw [← e]
    exact hI.stageErase (by decide) (keeps_set (hI.mono (by decide)) t r v ht) r.key
  · exact ht

theorem keeps_dropStaged (hI : Keeps [.staged] I) (s : State) (p : Nat) (h_s : I s) : I
    (State.dropStaged s p) :=
  hI.stageKeep (by decide) h_s _

theorem keeps_clearBits (hI : Keeps [.regs] I) (s : State) (r : Reg) (v : Nat) (h_s : I s) : I
    (State.clearBits s r v) := by
  unfold State.clearBits
  with_reducible repeat' first
    | assumption
    | (extract_lets -underBinder +onlyGivenNames x; have hx : I x := ?_; clear_value x; on_goal 2 => subst x)
    | (extract_lets -underBinder +onlyGivenNames x; clear_value x)
    | apply keeps_set hI

theorem keeps_clearCount (hI : Keeps [.regs] I) (s : State) (r : Reg) (h_s : I s) : I (State.clearCount
    s r) := by
  unfold State.clearCount
  with_reducible repeat' first
    | assumption
    | apply keeps_setSat hI

theorem keeps_takeLost (hI : Keeps [.sys] I) (s : State) (k : Nat) (h_s : I s) : I (State.takeLost s k) := by
  unfold State.takeLost
  with_reducible repeat' first
    | assumption
    | (extract_lets -underBinder +onlyGivenNames x; have hx : I x := ?_; clear_value x; on_goal 2 => subst x)
    | (extract_lets -underBinder +onlyGivenNames x; clear_value x)
    | apply keeps_modSys hI
    | (refine partMk hI ?_; first | assumption | refine sndEq ?_ (by assumption))
    | (intro t ht; beta_reduce)
    | (intro m; first | rfl | simp)

theorem keeps_rebase (hI : Keeps [.canopyT] I) (s : State) (h_s : I s) : I (State.rebase s) := by
  unfold State.rebase
  with_reducible repeat' first
    | assumption
    | (extract_lets -underBinder +onlyGivenNames x; have hx : I x := ?_; clear_value x; on_goal 2 => subst x)
    | (extract_lets -underBinder +onlyGivenNames x; clear_value x)
    | (refine partMk hI ?_; first | assumption | refine sndEq ?_ (by assumption))

theorem keeps_submit (hI : Keeps [.recent, .log, .regs] I) (s : State) (r : LogRec) (h_s : I s) : I
    (State.submit s r) := by
  unfold State.submit
  with_reducible repeat' first
    | assumption
    | (extract_lets -underBinder +onlyGivenNames x; have hx : I x := ?_; clear_value x; on_goal 2 => subst x)
    | (extract_lets -underBinder +onlyGivenNames x; clear_value x)
    | refine iteI (fun _ => ?_) (fun _ => ?_)
    | apply keeps_setB (hI.mono (by decide))
    | apply keeps_inc (hI.mono (by decide))
    | (refine partMk hI ?_; first | assumption | refine sndEq ?_ (by assumption))

theorem keeps_logIt (hI : Keeps [.recent, .log, .regs] I) (s : State) (page sev code : Nat) (data :
    List Nat) (origin : Nat) (h_s : I s) : I (State.logIt s page sev code data origin) := by
  unfold State.logIt
  with_reducible repeat' first
    | assumption
    | apply keeps_submit hI

theorem keeps_noteRise (hI : Keeps [.pod] I) (s : State) (p : Nat) (h_s : I s) : I (State.noteRise s p) := by
  unfold State.noteRise
  with_reducible repeat' first
    | assumption
    | (extract_lets -underBinder +onlyGivenNames x; have hx : I x := ?_; clear_value x; on_goal 2 => subst x)
    | (extract_lets -underBinder +onlyGivenNames x; have _p : PodSt := x; clear _p; subst x)
    | (extract_lets -underBinder +onlyGivenNames x; clear_value x)
    | refine iteI (fun _ => ?_) (fun _ => ?_)
    | (refine partMk hI ?_; first | assumption | refine sndEq ?_ (by assumption))
    | (intro t ht; beta_reduce)
    | (intro m; first | rfl | simp)

theorem keeps_irq (hI : Keeps [.recent, .pod, .regs] I) (s : State) (p b : Nat) (h_s : I s) : I
    (State.irq s p b) := by
  unfold State.irq
  with_reducible repeat' first
    | assumption
    | apply keeps_note (hI.mono (by decide))
    | apply keeps_set (hI.mono (by decide))
    | apply keeps_noteRise (hI.mono (by decide))

theorem keeps_err (hI : Keeps [.recent, .pod, .regs] I) (s : State) (p : Nat) (h_s : I s) : I
    (State.err s p) := by
  unfold State.err
  with_reducible repeat' first
    | assumption
    | apply keeps_irq hI
    | apply keeps_inc (hI.mono (by decide))

theorem keeps_errHost (hI : Keeps [.recent, .pod, .regs] I) (s : State) (addr : Nat) (h_s : I s) : I
    (State.errHost s addr) := by
  unfold State.errHost
  with_reducible repeat' first
    | assumption
    | apply keeps_err hI
    | apply keeps_set (hI.mono (by decide))

theorem keeps_pageAct (hI : Keeps [.recent, .pod, .regs] I) (s : State) (p ofs : Nat) (f : State →
    State) (h_s : I s) (h_f : ∀ t, I t → I (f t)) : I (State.pageAct s p ofs f) := by
  unfold State.pageAct
  with_reducible repeat' first
    | assumption
    | refine iteI (fun _ => ?_) (fun _ => ?_)
    | split
    | apply h_f
    | apply keeps_errHost hI
    | refine sndEq ?_ (by assumption)
    | refine fstEq ?_ (by assumption)
    | refine snd2Eq ?_ (by assumption)
    | refine snd3Eq ?_ (by assumption)
    | refine optEq ?_ (by assumption)
    | (refine partMk hI ?_; first | assumption | refine sndEq ?_ (by assumption))

theorem keeps_hostAct (hI : Keeps [.recent, .pod, .regs] I) (s : State) (p ofs : Nat) (f : State →
    State) (h_s : I s) (h_f : ∀ t, I t → I (f t)) : I (State.hostAct s p ofs f) := by
  unfold State.hostAct
  with_reducible repeat' first
    | assumption
    | refine iteI (fun _ => ?_) (fun _ => ?_)
    | apply h_f
    | apply keeps_pageAct hI

theorem keeps_irqLog (hI : Keeps [.recent, .log, .pod, .regs] I) (s : State) (p b sev : Nat) (origin :
    Nat) (h_s : I s) : I (State.irqLog s p b sev origin) := by
  unfold State.irqLog
  with_reducible repeat' first
    | assumption
    | (extract_lets -underBinder +onlyGivenNames x; have hx : I x := ?_; clear_value x; on_goal 2 => subst x)
    | (extract_lets -underBinder +onlyGivenNames x; clear_value x)
    | apply keeps_irq (hI.mono (by decide))
    | apply keeps_logIt (hI.mono (by decide))

theorem keeps_irqLogD (hI : Keeps [.recent, .log, .pod, .regs] I) (s : State) (p b sev : Nat) (data :
    List Nat) (origin : Nat) (h_s : I s) : I (State.irqLogD s p b sev data origin) := by
  unfold State.irqLogD
  with_reducible repeat' first
    | assumption
    | apply keeps_irq (hI.mono (by decide))
    | apply keeps_logIt (hI.mono (by decide))

theorem keeps_dlMissMax (hI : Keeps [.recent, .log, .pod, .regs] I) (s : State) (d : DlPair) (mx : Nat)
    (h_s : I s) : I (State.dlMissMax s d mx).1 := by
  unfold State.dlMissMax
  with_reducible repeat' first
    | assumption
    | (extract_lets -underBinder +onlyGivenNames x; have hx : I x := ?_; clear_value x; on_goal 2 => subst x)
    | (extract_lets -underBinder +onlyGivenNames x; clear_value x)
    | refine iteI (fun _ => ?_) (fun _ => ?_)
    | split
    | apply keeps_setB (hI.mono (by decide))
    | apply keeps_irq (hI.mono (by decide))
    | apply keeps_logIt (hI.mono (by decide))
    | apply keeps_inc (hI.mono (by decide))

theorem keeps_dlMiss (hI : Keeps [.recent, .log, .pod, .regs] I) (s : State) (d : DlPair) (h_s : I s) :
    I (State.dlMiss s d).1 := by
  unfold State.dlMiss
  with_reducible repeat' first
    | assumption
    | apply keeps_dlMissMax hI

theorem keeps_dlMeet (hI : Keeps [.recent, .regs] I) (s : State) (d : DlPair) (h_s : I s) : I
    (State.dlMeet s d) := by
  unfold State.dlMeet
  with_reducible repeat' first
    | assumption
    | (extract_lets -underBinder +onlyGivenNames x; have hx : I x := ?_; clear_value x; on_goal 2 => subst x)
    | (extract_lets -underBinder +onlyGivenNames x; clear_value x)
    | split
    | apply keeps_setB hI
    | apply keeps_set (hI.mono (by decide))
    | refine sndEq ?_ (by assumption)
    | refine fstEq ?_ (by assumption)
    | refine snd2Eq ?_ (by assumption)
    | refine snd3Eq ?_ (by assumption)
    | refine optEq ?_ (by assumption)
    | (refine partMk hI ?_; first | assumption | refine sndEq ?_ (by assumption))
    | (intro t ht; beta_reduce)
    | (intro m; first | rfl | simp)

theorem keeps_clearBad (hI : Keeps [.dblTable, .dblCapt, .ecc] I) (s : State) (a : Nat) (h_s : I s) : I
    (State.clearBad s a) :=
  partMk hI (hI.eccErase (by decide) h_s (a / 8 * 8))

theorem keeps_recordDouble (hI : Keeps [.dblTable, .dblCapt, .recent, .log, .regs] I) (s : State) (page
    a : Nat) (h_s : I s) : I (State.recordDouble s page a) := by
  unfold State.recordDouble
  with_reducible repeat' first
    | assumption
    | (extract_lets -underBinder +onlyGivenNames x; have hx : I x := ?_; clear_value x; on_goal 2 => subst x)
    | (extract_lets -underBinder +onlyGivenNames x; clear_value x)
    | refine iteI (fun _ => ?_) (fun _ => ?_)
    | apply keeps_logIt (hI.mono (by decide))
    | (refine partMk hI ?_; first | assumption | refine sndEq ?_ (by assumption))

theorem keeps_readEcc (hI : Keeps [.dblTable, .dblCapt, .recent, .log, .pod, .regs] I) (s : State)
    (page a : Nat) (h_s : I s) : I (State.readEcc s page a).2 := by
  unfold State.readEcc
  with_reducible repeat' first
    | assumption
    | (extract_lets -underBinder +onlyGivenNames x; have hx : I x := ?_; clear_value x; on_goal 2 => subst x)
    | (extract_lets -underBinder +onlyGivenNames x; clear_value x)
    | refine iteI (fun _ => ?_) (fun _ => ?_)
    | split
    | apply keeps_err (hI.mono (by decide))
    | apply keeps_recordDouble (hI.mono (by decide))

theorem keeps_fresh (hI : Keeps [.freeCtr] I) (s : State) (h_s : I s) : I (State.fresh s).2 := by
  unfold State.fresh
  with_reducible repeat' first
    | assumption
    | (extract_lets -underBinder +onlyGivenNames x; have hx : I x := ?_; clear_value x; on_goal 2 => subst x)
    | (extract_lets -underBinder +onlyGivenNames x; clear_value x)
    | (refine partMk hI ?_; first | assumption | refine sndEq ?_ (by assumption))

theorem keeps_setCh (hI : Keeps [.chan] I) (s : State) (x : Nat) (f : ChSt → ChSt) (h_s : I s) : I
    (State.setCh s x f) := by
  unfold State.setCh
  with_reducible repeat' first
    | assumption
    | (extract_lets -underBinder +onlyGivenNames x; have hx : I x := ?_; clear_value x; on_goal 2 => subst x)
    | (extract_lets -underBinder +onlyGivenNames x; clear_value x)
    | (refine partMk hI ?_; first | assumption | refine sndEq ?_ (by assumption))

theorem keeps_setPwm (hI : Keeps [.chan] I) (s : State) (x : Nat) (f : PwmSt → PwmSt) (h_s : I s) : I
    (State.setPwm s x f) := by
  unfold State.setPwm
  with_reducible repeat' first
    | assumption
    | (extract_lets -underBinder +onlyGivenNames x; have hx : I x := ?_; clear_value x; on_goal 2 => subst x)
    | (extract_lets -underBinder +onlyGivenNames x; clear_value x)
    | apply keeps_setCh hI
    | (refine partMk hI ?_; first | assumption | refine sndEq ?_ (by assumption))
    | (intro t ht; beta_reduce)
    | (intro m; first | rfl | simp)

theorem keeps_setLeg (hI : Keeps [.chan] I) (s : State) (x y : Nat) (f : LegSt → LegSt) (h_s : I s) : I
    (State.setLeg s x y f) := by
  unfold State.setLeg
  with_reducible repeat' first
    | assumption
    | (extract_lets -underBinder +onlyGivenNames x; have hx : I x := ?_; clear_value x; on_goal 2 => subst x)
    | (extract_lets -underBinder +onlyGivenNames x; clear_value x)
    | apply keeps_setPwm hI
    | (refine partMk hI ?_; first | assumption | refine sndEq ?_ (by assumption))
    | (intro t ht; beta_reduce)
    | (intro m; first | rfl | simp)

theorem keeps_setGuard (hI : Keeps [.chan] I) (s : State) (x : Nat) (f : GuardSt → GuardSt) (h_s : I s)
    : I (State.setGuard s x f) := by
  unfold State.setGuard
  with_reducible repeat' first
    | assumption
    | (extract_lets -underBinder +onlyGivenNames x; have hx : I x := ?_; clear_value x; on_goal 2 => subst x)
    | (extract_lets -underBinder +onlyGivenNames x; clear_value x)
    | apply keeps_setCh hI
    | (refine partMk hI ?_; first | assumption | refine sndEq ?_ (by assumption))
    | (intro t ht; beta_reduce)
    | (intro m; first | rfl | simp)

theorem keeps_setGroup (hI : Keeps [.chan] I) (s : State) (x g : Nat) (f : GroupSt → GroupSt) (h_s : I
    s) : I (State.setGroup s x g f) := by
  unfold State.setGroup
  with_reducible repeat' first
    | assumption
    | (extract_lets -underBinder +onlyGivenNames x; have hx : I x := ?_; clear_value x; on_goal 2 => subst x)
    | (extract_lets -underBinder +onlyGivenNames x; clear_value x)
    | apply keeps_setGuard hI
    | (refine partMk hI ?_; first | assumption | refine sndEq ?_ (by assumption))
    | (intro t ht; beta_reduce)
    | (intro m; first | rfl | simp)

theorem keeps_setKe (hI : Keeps [.chan] I) (s : State) (x : Nat) (f : KeSt → KeSt) (h_s : I s) : I
    (State.setKe s x f) := by
  unfold State.setKe
  with_reducible repeat' first
    | assumption
    | (extract_lets -underBinder +onlyGivenNames x; have hx : I x := ?_; clear_value x; on_goal 2 => subst x)
    | (extract_lets -underBinder +onlyGivenNames x; clear_value x)
    | apply keeps_setCh hI
    | (refine partMk hI ?_; first | assumption | refine sndEq ?_ (by assumption))
    | (intro t ht; beta_reduce)
    | (intro m; first | rfl | simp)

theorem keeps_setCell (hI : Keeps [.chan] I) (s : State) (x : Nat) (f : CellSt → CellSt) (h_s : I s) :
    I (State.setCell s x f) := by
  unfold State.setCell
  with_reducible repeat' first
    | assumption
    | (extract_lets -underBinder +onlyGivenNames x; have hx : I x := ?_; clear_value x; on_goal 2 => subst x)
    | (extract_lets -underBinder +onlyGivenNames x; clear_value x)
    | apply keeps_setCh hI
    | (refine partMk hI ?_; first | assumption | refine sndEq ?_ (by assumption))
    | (intro t ht; beta_reduce)
    | (intro m; first | rfl | simp)

theorem keeps_putSource (hI : Keeps [.regs] I) (s : State) (x n : Nat) (v : Bool) (h_s : I s) : I
    (State.putSource s x n v) := by
  unfold State.putSource
  with_reducible repeat' first
    | assumption
    | refine iteI (fun _ => ?_) (fun _ => ?_)
    | apply keeps_putMaskBit hI

theorem keeps_filterTaken (hI : Keeps [.chan, .regs] I) (s : State) (x k : Nat) (h_s : I s) : I
    (State.filterTaken s x k) := by
  unfold State.filterTaken
  with_reducible repeat' first
    | assumption
    | (extract_lets -underBinder +onlyGivenNames x; have hx : I x := ?_; clear_value x; on_goal 2 => subst x)
    | (extract_lets -underBinder +onlyGivenNames x; clear_value x)
    | apply keeps_setGuard (hI.mono (by decide))
    | apply keeps_set (hI.mono (by decide))
    | (refine partMk hI ?_; first | assumption | refine sndEq ?_ (by assumption))
    | (intro t ht; beta_reduce)
    | (intro m; first | rfl | simp)

theorem keeps_guardSync (hI : Keeps [.recent, .pod, .regs] I) (s : State) (x : Nat) (h_s : I s) : I
    (State.guardSync s x) := by
  unfold State.guardSync
  with_reducible repeat' first
    | assumption
    | (extract_lets -underBinder +onlyGivenNames x; have hx : I x := ?_; clear_value x; on_goal 2 => subst x)
    | (extract_lets -underBinder +onlyGivenNames x; clear_value x)
    | refine iteI (fun _ => ?_) (fun _ => ?_)
    | apply keeps_setB (hI.mono (by decide))
    | apply keeps_irq hI
    | (intro t ht; beta_reduce)
    | (intro m; first | rfl | simp)

theorem keeps_holdSync (hI : Keeps [.recent, .pod, .chan, .regs] I) (s : State) (x : Nat) (h_s : I s) :
    I (State.holdSync s x) := by
  unfold State.holdSync
  with_reducible repeat' first
    | assumption
    | (extract_lets -underBinder +onlyGivenNames x; have hx : I x := ?_; clear_value x; on_goal 2 => subst x)
    | (extract_lets -underBinder +onlyGivenNames x; clear_value x)
    | refine iteI (fun _ => ?_) (fun _ => ?_)
    | apply keeps_setB (hI.mono (by decide))
    | apply keeps_guardSync (hI.mono (by decide))
    | apply keeps_setGuard (hI.mono (by decide))
    | (refine partMk hI ?_; first | assumption | refine sndEq ?_ (by assumption))
    | (intro t ht; beta_reduce)
    | (intro m; first | rfl | simp)

theorem keeps_pwmStop (hI : Keeps [.recent, .pod, .chan, .regs] I) (s : State) (x : Nat) (h_s : I s) :
    I (State.pwmStop s x) := by
  unfold State.pwmStop
  with_reducible repeat' first
    | assumption
    | (extract_lets -underBinder +onlyGivenNames x; have hx : I x := ?_; clear_value x; on_goal 2 => subst x)
    | (extract_lets -underBinder +onlyGivenNames x; clear_value x)
    | apply keeps_setB (hI.mono (by decide))
    | apply keeps_guardSync (hI.mono (by decide))
    | apply keeps_setPwm (hI.mono (by decide))
    | (refine partMk hI ?_; first | assumption | refine sndEq ?_ (by assumption))
    | (intro t ht; beta_reduce)
    | (intro m; first | rfl | simp)

theorem keeps_keHalted (hI : Keeps [.recent, .chan, .regs] I) (s : State) (x : Nat) (h_s : I s) : I
    (State.keHalted s x) := by
  unfold State.keHalted
  with_reducible repeat' first
    | assumption
    | (extract_lets -underBinder +onlyGivenNames x; have hx : I x := ?_; clear_value x; on_goal 2 => subst x)
    | (extract_lets -underBinder +onlyGivenNames x; clear_value x)
    | apply keeps_setB (hI.mono (by decide))
    | apply keeps_setKe (hI.mono (by decide))
    | (refine partMk hI ?_; first | assumption | refine sndEq ?_ (by assumption))
    | (intro t ht; beta_reduce)
    | (intro m; first | rfl | simp)

theorem keeps_keStop (hI : Keeps [.recent, .chan, .regs] I) (s : State) (x : Nat) (h_s : I s) : I
    (State.keStop s x) := by
  unfold State.keStop
  with_reducible repeat' first
    | assumption
    | (extract_lets -underBinder +onlyGivenNames x; have hx : I x := ?_; clear_value x; on_goal 2 => subst x)
    | (extract_lets -underBinder +onlyGivenNames x; clear_value x)
    | refine iteI (fun _ => ?_) (fun _ => ?_)
    | apply keeps_keHalted hI
    | apply keeps_setB (hI.mono (by decide))
    | apply keeps_set (hI.mono (by decide))

theorem keeps_windowLost (hI : Keeps [.recent, .pod, .chan, .regs] I) (s : State) (x code : Nat) (h_s :
    I s) : I (State.windowLost s x code) := by
  unfold State.windowLost
  with_reducible repeat' first
    | assumption
    | (extract_lets -underBinder +onlyGivenNames x; have hx : I x := ?_; clear_value x; on_goal 2 => subst x)
    | (extract_lets -underBinder +onlyGivenNames x; clear_value x)
    | apply keeps_irq (hI.mono (by decide))
    | apply keeps_set (hI.mono (by decide))
    | apply keeps_inc (hI.mono (by decide))
    | apply keeps_setCell (hI.mono (by decide))
    | (refine partMk hI ?_; first | assumption | refine sndEq ?_ (by assumption))
    | (intro t ht; beta_reduce)
    | (intro m; first | rfl | simp)

theorem keeps_showOut (hI : Keeps [.regs] I) (s : State) (x start : Nat) (h_s : I s) : I (State.showOut
    s x start) := by
  unfold State.showOut
  with_reducible repeat' first
    | assumption
    | apply keeps_setSat hI

theorem keeps_dropScan (hI : Keeps [.recent, .chan, .regs] I) (s : State) (x : Nat) (h_s : I s) : I
    (State.dropScan s x) := by
  unfold State.dropScan
  with_reducible repeat' first
    | assumption
    | (extract_lets -underBinder +onlyGivenNames x; have hx : I x := ?_; clear_value x; on_goal 2 => subst x)
    | (extract_lets -underBinder +onlyGivenNames x; clear_value x)
    | split
    | apply keeps_setB (hI.mono (by decide))
    | apply keeps_set (hI.mono (by decide))
    | apply keeps_setCell (hI.mono (by decide))
    | refine sndEq ?_ (by assumption)
    | refine fstEq ?_ (by assumption)
    | refine snd2Eq ?_ (by assumption)
    | refine snd3Eq ?_ (by assumption)
    | refine optEq ?_ (by assumption)
    | (refine partMk hI ?_; first | assumption | refine sndEq ?_ (by assumption))
    | (intro t ht; beta_reduce)
    | (intro m; first | rfl | simp)

theorem keeps_cellEnter (hI : Keeps [.recent, .regs] I) (s : State) (x st : Nat) (h_s : I s) : I
    (State.cellEnter s x st) := by
  unfold State.cellEnter
  with_reducible repeat' first
    | assumption
    | (extract_lets -underBinder +onlyGivenNames x; have hx : I x := ?_; clear_value x; on_goal 2 => subst x)
    | (extract_lets -underBinder +onlyGivenNames x; clear_value x)
    | refine iteI (fun _ => ?_) (fun _ => ?_)
    | apply keeps_setB hI
    | apply keeps_set (hI.mono (by decide))

theorem keeps_zeroWords (hI : Keeps [.chan] I) (s : State) (x : Nat) (h_s : I s) : I (State.zeroWords s
    x) := by
  unfold State.zeroWords
  with_reducible repeat' first
    | assumption
    | (extract_lets -underBinder +onlyGivenNames x; have hx : I x := ?_; clear_value x; on_goal 2 => subst x)
    | (extract_lets -underBinder +onlyGivenNames x; clear_value x)
    | apply keeps_setCell hI
    | (refine partMk hI ?_; first | assumption | refine sndEq ?_ (by assumption))
    | (intro t ht; beta_reduce)
    | (intro m; first | rfl | simp)

theorem keeps_husk (hI : Keeps [.recent, .pod, .chan, .regs] I) (s : State) (x cause : Nat) (h_s : I s)
    : I (State.husk s x cause) := by
  unfold State.husk
  with_reducible repeat' first
    | assumption
    | (extract_lets -underBinder +onlyGivenNames x; have hx : I x := ?_; clear_value x; on_goal 2 => subst x)
    | (extract_lets -underBinder +onlyGivenNames x; clear_value x)
    | refine iteI (fun _ => ?_) (fun _ => ?_)
    | split
    | apply keeps_setB (hI.mono (by decide))
    | apply keeps_irq (hI.mono (by decide))
    | apply keeps_pwmStop hI
    | apply keeps_set (hI.mono (by decide))
    | apply keeps_inc (hI.mono (by decide))
    | apply keeps_windowLost hI
    | apply keeps_cellEnter (hI.mono (by decide))
    | apply keeps_showOut (hI.mono (by decide))
    | apply keeps_dropScan (hI.mono (by decide))
    | apply keeps_holdSync hI
    | apply keeps_zeroWords (hI.mono (by decide))
    | apply keeps_setCell (hI.mono (by decide))
    | refine sndEq ?_ (by assumption)
    | refine fstEq ?_ (by assumption)
    | refine snd2Eq ?_ (by assumption)
    | refine snd3Eq ?_ (by assumption)
    | refine optEq ?_ (by assumption)
    | (refine partMk hI ?_; first | assumption | refine sndEq ?_ (by assumption))
    | (intro t ht; beta_reduce)
    | (intro m; first | rfl | simp)

theorem keeps_channelFault (hI : Keeps [.recent, .pod, .chan, .regs] I) (s : State) (x : Nat) (h_s : I
    s) : I (State.channelFault s x) := by
  unfold State.channelFault
  with_reducible repeat' first
    | assumption
    | (extract_lets -underBinder +onlyGivenNames x; have hx : I x := ?_; clear_value x; on_goal 2 => subst x)
    | (extract_lets -underBinder +onlyGivenNames x; clear_value x)
    | refine iteI (fun _ => ?_) (fun _ => ?_)
    | apply keeps_setB (hI.mono (by decide))
    | apply keeps_irq (hI.mono (by decide))
    | apply keeps_keStop (hI.mono (by decide))
    | apply keeps_husk hI

theorem keeps_latchGroup (hI : Keeps [.recent, .log, .pod, .chan, .regs] I) (s : State) (x g : Nat)
    (h_s : I s) : I (State.latchGroup s x g) := by
  unfold State.latchGroup
  with_reducible repeat' first
    | assumption
    | (extract_lets -underBinder +onlyGivenNames x; have hx : I x := ?_; clear_value x; on_goal 2 => subst x)
    | (extract_lets -underBinder +onlyGivenNames x; clear_value x)
    | refine iteI (fun _ => ?_) (fun _ => ?_)
    | apply keeps_setMaskBit (hI.mono (by decide))
    | apply keeps_note (hI.mono (by decide))
    | apply keeps_setB (hI.mono (by decide))
    | apply keeps_guardSync (hI.mono (by decide))
    | apply keeps_setGroup (hI.mono (by decide))
    | apply keeps_irqLog (hI.mono (by decide))
    | apply keeps_channelFault (hI.mono (by decide))
    | (refine partMk hI ?_; first | assumption | refine sndEq ?_ (by assumption))
    | (intro t ht; beta_reduce)
    | (intro m; first | rfl | simp)

theorem keeps_escalate (hI : Keeps [.recent, .log, .pod, .regs] I) (s : State) (x g : Nat) (h_s : I s)
    : I (State.escalate s x g) := by
  unfold State.escalate
  with_reducible repeat' first
    | assumption
    | refine iteI (fun _ => ?_) (fun _ => ?_)
    | apply keeps_setB (hI.mono (by decide))
    | apply keeps_irqLog hI

theorem keeps_escalateAll (hI : Keeps [.recent, .log, .pod, .regs] I) (s : State) (x : Nat) (h_s : I s)
    : I (State.escalateAll s x) := by
  unfold State.escalateAll
  with_reducible repeat' first
    | assumption
    | refine iteI (fun _ => ?_) (fun _ => ?_)
    | refine foldlI ?_ (fun _ _ _ => ?_)
    | apply keeps_escalate hI
    | (intro t ht; beta_reduce)
    | (intro m; first | rfl | simp)

theorem keeps_closeWindow (hI : Keeps [.recent, .regs] I) (s : State) (x g : Nat) (h_s : I s) : I
    (State.closeWindow s x g) := by
  unfold State.closeWindow
  with_reducible repeat' first
    | assumption
    | refine iteI (fun _ => ?_) (fun _ => ?_)
    | apply keeps_setB hI
    | apply keeps_set (hI.mono (by decide))

theorem keeps_activateGroup (hI : Keeps [.recent, .log, .pod, .chan, .regs] I) (s : State) (x g : Nat)
    (h_s : I s) : I (State.activateGroup s x g) := by
  unfold State.activateGroup
  with_reducible repeat' first
    | assumption
    | (extract_lets -underBinder +onlyGivenNames x; have hx : I x := ?_; clear_value x; on_goal 2 => subst x)
    | (extract_lets -underBinder +onlyGivenNames x; clear_value x)
    | refine iteI (fun _ => ?_) (fun _ => ?_)
    | apply keeps_setMaskBit (hI.mono (by decide))
    | apply keeps_closeWindow (hI.mono (by decide))
    | apply keeps_irq (hI.mono (by decide))
    | apply keeps_logIt (hI.mono (by decide))
    | apply keeps_setGroup (hI.mono (by decide))
    | apply keeps_latchGroup hI
    | apply keeps_escalate (hI.mono (by decide))
    | apply keeps_inc (hI.mono (by decide))
    | apply keeps_channelFault (hI.mono (by decide))
    | (refine partMk hI ?_; first | assumption | refine sndEq ?_ (by assumption))
    | (intro t ht; beta_reduce)
    | (intro m; first | rfl | simp)

theorem keeps_unrelease (hI : Keeps [.recent, .chan, .regs] I) (s : State) (x g n : Nat) (e : Bool)
    (h_s : I s) : I (State.unrelease s x g n e) := by
  unfold State.unrelease
  with_reducible repeat' first
    | assumption
    | (extract_lets -underBinder +onlyGivenNames x; have hx : I x := ?_; clear_value x; on_goal 2 => subst x)
    | (extract_lets -underBinder +onlyGivenNames x; clear_value x)
    | apply keeps_setMaskBit (hI.mono (by decide))
    | apply keeps_setB (hI.mono (by decide))
    | apply keeps_setGroup (hI.mono (by decide))
    | apply keeps_set (hI.mono (by decide))
    | (refine partMk hI ?_; first | assumption | refine sndEq ?_ (by assumption))
    | (intro t ht; beta_reduce)
    | (intro m; first | rfl | simp)

theorem keeps_groupsSync (hI : Keeps [.recent, .log, .pod, .chan, .regs] I) (s : State) (x : Nat) (h_s
    : I s) : I (State.groupsSync s x) := by
  unfold State.groupsSync
  with_reducible repeat' first
    | assumption
    | (extract_lets -underBinder +onlyGivenNames x; have hx : I x := ?_; clear_value x; on_goal 2 => subst x)
    | (extract_lets -underBinder +onlyGivenNames x; clear_value x)
    | refine iteI (fun _ => ?_) (fun _ => ?_)
    | split
    | refine foldlI ?_ (fun _ _ _ => ?_)
    | apply keeps_escalateAll (hI.mono (by decide))
    | apply keeps_unrelease (hI.mono (by decide))
    | apply keeps_setB (hI.mono (by decide))
    | apply keeps_guardSync (hI.mono (by decide))
    | apply keeps_setGroup (hI.mono (by decide))
    | apply keeps_activateGroup hI
    | refine sndEq ?_ (by assumption)
    | refine fstEq ?_ (by assumption)
    | refine snd2Eq ?_ (by assumption)
    | refine snd3Eq ?_ (by assumption)
    | refine optEq ?_ (by assumption)
    | (refine partMk hI ?_; first | assumption | refine sndEq ?_ (by assumption))
    | (intro t ht; beta_reduce)
    | (intro m; first | rfl | simp)

theorem keeps_sourceOn (hI : Keeps [.recent, .log, .pod, .chan, .regs] I) (s : State) (x n : Nat) (h_s
    : I s) : I (State.sourceOn s x n) := by
  unfold State.sourceOn
  with_reducible repeat' first
    | assumption
    | refine iteI (fun _ => ?_) (fun _ => ?_)
    | apply keeps_groupsSync hI
    | apply keeps_putSource (hI.mono (by decide))

theorem keeps_sourceOff (hI : Keeps [.recent, .log, .pod, .chan, .regs] I) (s : State) (x n : Nat) (h_s
    : I s) : I (State.sourceOff s x n) := by
  unfold State.sourceOff
  with_reducible repeat' first
    | assumption
    | refine iteI (fun _ => ?_) (fun _ => ?_)
    | apply keeps_groupsSync hI
    | apply keeps_putSource (hI.mono (by decide))

theorem keeps_countDropped (hI : Keeps [.recent, .pod, .regs] I) (s : State) (x y : Nat) (h_s : I s) :
    I (State.countDropped s x y) := by
  unfold State.countDropped
  with_reducible repeat' first
    | assumption
    | apply keeps_irq hI
    | apply keeps_inc (hI.mono (by decide))

theorem keeps_countStretched (hI : Keeps [.recent, .pod, .regs] I) (s : State) (x y : Nat) (h_s : I s)
    : I (State.countStretched s x y) := by
  unfold State.countStretched
  with_reducible repeat' first
    | assumption
    | apply keeps_irq hI
    | apply keeps_inc (hI.mono (by decide))

theorem keeps_idealEdge (hI : Keeps [.recent, .pod, .chan, .regs] I) (s : State) (x y t : Nat) (d :
    Bool) (h_s : I s) : I (State.idealEdge s x y t d) := by
  unfold State.idealEdge
  with_reducible repeat' first
    | assumption
    | (extract_lets -underBinder +onlyGivenNames x; have hx : I x := ?_; clear_value x; on_goal 2 => subst x)
    | (extract_lets -underBinder +onlyGivenNames x; clear_value x)
    | refine iteI (fun _ => ?_) (fun _ => ?_)
    | split
    | apply keeps_countStretched (hI.mono (by decide))
    | apply keeps_setLeg (hI.mono (by decide))
    | apply keeps_countDropped (hI.mono (by decide))
    | refine sndEq ?_ (by assumption)
    | refine fstEq ?_ (by assumption)
    | refine snd2Eq ?_ (by assumption)
    | refine snd3Eq ?_ (by assumption)
    | refine optEq ?_ (by assumption)
    | (refine partMk hI ?_; first | assumption | refine sndEq ?_ (by assumption))
    | (intro t ht; beta_reduce)
    | (intro m; first | rfl | simp)

theorem keeps_deliver (hI : Keeps [.recent, .pod, .chan, .regs] I) (s : State) (x y t : Nat) (d cross :
    Bool) (h_s : I s) : I (State.deliver s x y t d cross) := by
  unfold State.deliver
  with_reducible repeat' first
    | assumption
    | (extract_lets -underBinder +onlyGivenNames x; have hx : I x := ?_; clear_value x; on_goal 2 => subst x)
    | (extract_lets -underBinder +onlyGivenNames x; clear_value x)
    | refine iteI (fun _ => ?_) (fun _ => ?_)
    | apply keeps_idealEdge hI
    | apply keeps_setLeg (hI.mono (by decide))
    | (refine partMk hI ?_; first | assumption | refine sndEq ?_ (by assumption))
    | (intro t ht; beta_reduce)
    | (intro m; first | rfl | simp)

theorem keeps_showCompares (hI : Keeps [.regs] I) (s : State) (x : Nat) (h_s : I s) : I
    (State.showCompares s x) := by
  unfold State.showCompares
  with_reducible repeat' first
    | assumption
    | refine foldlI ?_ (fun _ _ _ => ?_)
    | apply keeps_set hI
    | (intro t ht; beta_reduce)
    | (intro m; first | rfl | simp)

theorem keeps_refuseCommit (hI : Keeps [.recent, .pod, .regs, .staged] I) (s : State) (p : Nat) (h_s :
    I s) : I (State.refuseCommit s p) := by
  unfold State.refuseCommit
  with_reducible repeat' first
    | assumption
    | apply keeps_setB (hI.mono (by decide))
    | apply keeps_err (hI.mono (by decide))
    | apply keeps_dropStaged (hI.mono (by decide))

theorem keeps_doCommit (hI : Keeps [.recent, .regs, .staged] I) (s : State) (p : Nat) (h_s : I s) : I
    (State.doCommit s p) := by
  unfold State.doCommit
  with_reducible repeat' first
    | assumption
    | apply keeps_setB (hI.mono (by decide))
    | apply keeps_incWrap (hI.mono (by decide))
    | apply keeps_applyStaged (hI.mono (by decide))

theorem keeps_undrop (hI : Keeps [.recent, .sys, .chan, .regs, .staged] I) (s : State) (p : Nat) (h_s :
    I s) : I (State.undrop s p) := by
  unfold State.undrop
  with_reducible repeat' first
    | assumption
    | (extract_lets -underBinder +onlyGivenNames x; have hx : I x := ?_; clear_value x; on_goal 2 => subst x)
    | (extract_lets -underBinder +onlyGivenNames x; have hfn : ∀ (t : State) (a b : Nat), I t → I (x t a b).1 := ?_; clear_value x; on_goal 2 => subst x)
    | (extract_lets -underBinder +onlyGivenNames x; have hfn : ∀ (t : State) (a : Nat), I t → I (x t a) := ?_; clear_value x; on_goal 2 => subst x)
    | (extract_lets -underBinder +onlyGivenNames x; have hfn : ∀ (t : State), I t → I (x t) := ?_; clear_value x; on_goal 2 => subst x)
    | (extract_lets -underBinder +onlyGivenNames x; have hfn : ∀ (t : State) (a b : Bool), I t → I (x t a b) := ?_; clear_value x; on_goal 2 => subst x)
    | apply hfn
    | (intro t a b ht; beta_reduce)
    | (intro t a ht; beta_reduce)
    | (extract_lets -underBinder +onlyGivenNames x; have _p : PodSt := x; clear _p; subst x)
    | (extract_lets -underBinder +onlyGivenNames x; have _p : RingSt := x; clear _p; subst x)
    | (extract_lets -underBinder +onlyGivenNames x; clear_value x)
    | refine outNext ?_
    | exact optNone
    | refine optSome ?_
    | refine iteI (fun _ => ?_) (fun _ => ?_)
    | refine iteOutI (fun _ => ?_) (fun _ => ?_)
    | split
    | refine foldlI ?_ (fun _ _ _ => ?_)
    | refine foldlI2 ?_ (fun _ _ _ => ?_)
    | refine foldlI3 ?_ (fun _ _ _ => ?_)
    | refine foldlI1 ?_ (fun _ _ _ => ?_)
    | apply keeps_setB (hI.mono (by decide))
    | apply keeps_setKe (hI.mono (by decide))
    | apply keeps_modSys (hI.mono (by decide))
    | apply keeps_stageKey (hI.mono (by decide))
    | refine sndEq ?_ (by assumption)
    | refine fstEq ?_ (by assumption)
    | refine snd2Eq ?_ (by assumption)
    | refine snd3Eq ?_ (by assumption)
    | refine optEq ?_ (by assumption)
    | (refine partMk hI ?_; first | assumption | refine sndEq ?_ (by assumption) | apply keeps_setB (hI.mono (by decide)) | apply keeps_setKe (hI.mono (by decide)) | apply keeps_modSys (hI.mono (by decide)) | apply keeps_stageKey (hI.mono (by decide)))
    | with_unfolding_all exact hI.memPut (by decide) (by assumption) _ _
    | exact hI.eccInsert (by decide) (by assumption) _ _
    | exact hI.eccErase (by decide) (by assumption) _
    | exact hI.memKeep (by decide) (by assumption) _
    | exact hI.eccNone (by decide) (by assumption)
    | exact hI.regNone (by decide) (by assumption)
    | exact hI.memNone (by decide) (by assumption)
    | (intro t ht; beta_reduce)
    | (intro m; first | rfl | simp)
    | dsimp only

theorem keeps_pwmCommit (hI : Keeps [.recent, .sys, .pod, .chan, .regs, .staged] I) (s : State) (x :
    Nat) (h_s : I s) : I (State.pwmCommit s x).1 := by
  unfold State.pwmCommit
  with_reducible repeat' first
    | assumption
    | (extract_lets -underBinder +onlyGivenNames x; have hx : I x := ?_; clear_value x; on_goal 2 => subst x)
    | (extract_lets -underBinder +onlyGivenNames x; clear_value x)
    | refine iteI (fun _ => ?_) (fun _ => ?_)
    | split
    | refine foldlI ?_ (fun _ _ _ => ?_)
    | refine foldlI2 ?_ (fun _ _ _ => ?_)
    | refine foldlI3 ?_ (fun _ _ _ => ?_)
    | refine foldlI1 ?_ (fun _ _ _ => ?_)
    | apply keeps_doCommit (hI.mono (by decide))
    | apply keeps_setB (hI.mono (by decide))
    | apply keeps_undrop (hI.mono (by decide))
    | apply keeps_irq (hI.mono (by decide))
    | apply keeps_setLeg (hI.mono (by decide))
    | apply keeps_refuseCommit (hI.mono (by decide))
    | refine sndEq ?_ (by assumption)
    | refine fstEq ?_ (by assumption)
    | refine snd2Eq ?_ (by assumption)
    | refine snd3Eq ?_ (by assumption)
    | refine optEq ?_ (by assumption)
    | (refine partMk hI ?_; first | assumption | refine sndEq ?_ (by assumption))
    | (intro t ht; beta_reduce)
    | (intro m; first | rfl | simp)

theorem keeps_pwmIndices (hI : Keeps [.recent, .chan, .regs] I) (s : State) (x : Nat) (h_s : I s) : I
    (State.pwmIndices s x).1 := by
  unfold State.pwmIndices
  with_reducible repeat' first
    | assumption
    | (extract_lets -underBinder +onlyGivenNames x; have hx : I x := ?_; clear_value x; on_goal 2 => subst x)
    | (extract_lets -underBinder +onlyGivenNames x; have hfn : ∀ (t : State) (a b : Nat), I t → I (x t a b).1 := ?_; clear_value x; on_goal 2 => subst x)
    | (extract_lets -underBinder +onlyGivenNames x; have hfn : ∀ (t : State) (a : Nat), I t → I (x t a) := ?_; clear_value x; on_goal 2 => subst x)
    | (extract_lets -underBinder +onlyGivenNames x; have hfn : ∀ (t : State), I t → I (x t) := ?_; clear_value x; on_goal 2 => subst x)
    | (extract_lets -underBinder +onlyGivenNames x; have hfn : ∀ (t : State) (a b : Bool), I t → I (x t a b) := ?_; clear_value x; on_goal 2 => subst x)
    | apply hfn
    | (intro t a b ht; beta_reduce)
    | (intro t a ht; beta_reduce)
    | (extract_lets -underBinder +onlyGivenNames x; clear_value x)
    | refine iteI (fun _ => ?_) (fun _ => ?_)
    | split
    | refine foldlI ?_ (fun _ _ _ => ?_)
    | refine foldlI2 ?_ (fun _ _ _ => ?_)
    | refine foldlI3 ?_ (fun _ _ _ => ?_)
    | refine foldlI1 ?_ (fun _ _ _ => ?_)
    | apply keeps_setB (hI.mono (by decide))
    | apply keeps_setLeg (hI.mono (by decide))
    | refine sndEq ?_ (by assumption)
    | refine fstEq ?_ (by assumption)
    | refine snd2Eq ?_ (by assumption)
    | refine snd3Eq ?_ (by assumption)
    | refine optEq ?_ (by assumption)
    | (refine partMk hI ?_; first | assumption | refine sndEq ?_ (by assumption))
    | (intro t ht; beta_reduce)
    | (intro m; first | rfl | simp)

theorem keeps_writeIndex (hI : Keeps [.chan] I) (s : State) (x y : Nat) (m : Int) (h_s : I s) : I
    (State.writeIndex s x y m) := by
  unfold State.writeIndex
  with_reducible repeat' first
    | assumption
    | refine iteI (fun _ => ?_) (fun _ => ?_)
    | apply keeps_setLeg hI
    | (refine partMk hI ?_; first | assumption | refine sndEq ?_ (by assumption))
    | (intro t ht; beta_reduce)
    | (intro m; first | rfl | simp)

theorem keeps_clampCheck (hI : Keeps [.recent, .pod, .chan, .regs] I) (s : State) (x : Nat) (h_s : I s)
    : I (State.clampCheck s x) := by
  unfold State.clampCheck
  with_reducible repeat' first
    | assumption
    | (extract_lets -underBinder +onlyGivenNames x; have hx : I x := ?_; clear_value x; on_goal 2 => subst x)
    | (extract_lets -underBinder +onlyGivenNames x; clear_value x)
    | refine iteI (fun _ => ?_) (fun _ => ?_)
    | refine foldlI ?_ (fun _ _ _ => ?_)
    | apply keeps_setB (hI.mono (by decide))
    | apply keeps_irq (hI.mono (by decide))
    | apply keeps_inc (hI.mono (by decide))
    | apply keeps_setLeg (hI.mono (by decide))
    | (refine partMk hI ?_; first | assumption | refine sndEq ?_ (by assumption))
    | (intro t ht; beta_reduce)
    | (intro m; first | rfl | simp)

theorem keeps_evaluateLegs (hI : Keeps [.recent, .pod, .chan, .regs] I) (s : State) (x tau : Nat) (upd
    enabling : Bool) (nat : List Bool) (restart : List Nat) (h_s : I s) : I (State.evaluateLegs s x tau
    upd enabling nat restart) := by
  unfold State.evaluateLegs
  with_reducible repeat' first
    | assumption
    | (extract_lets -underBinder +onlyGivenNames x; have hx : I x := ?_; clear_value x; on_goal 2 => subst x)
    | (extract_lets -underBinder +onlyGivenNames x; clear_value x)
    | refine iteI (fun _ => ?_) (fun _ => ?_)
    | refine foldlI ?_ (fun _ _ _ => ?_)
    | apply keeps_deliver hI
    | (intro t ht; beta_reduce)
    | (intro m; first | rfl | simp)

theorem keeps_engineRead (hI : Keeps [.dblTable, .dblCapt, .recent, .log, .pod, .regs] I) (s : State)
    (page a n : Nat) (h_s : I s) : I (State.engineRead s page a n).2 := by
  unfold State.engineRead
  with_reducible repeat' first
    | assumption
    | refine iteI (fun _ => ?_) (fun _ => ?_)
    | split
    | refine foldlI ?_ (fun _ _ _ => ?_)
    | refine foldlI2 ?_ (fun _ _ _ => ?_)
    | refine foldlI3 ?_ (fun _ _ _ => ?_)
    | refine foldlI1 ?_ (fun _ _ _ => ?_)
    | apply keeps_err (hI.mono (by decide))
    | apply keeps_recordDouble (hI.mono (by decide))
    | (intro t ht; beta_reduce)
    | (intro m; first | rfl | simp)

theorem keeps_refuseJoin (hI : Keeps [.recent, .pod, .regs] I) (s : State) (x code : Nat) (h_s : I s) :
    I (State.refuseJoin s x code) := by
  unfold State.refuseJoin
  with_reducible repeat' first
    | assumption
    | apply keeps_irq hI
    | apply keeps_set (hI.mono (by decide))
    | apply keeps_cellEnter (hI.mono (by decide))

theorem keeps_joinCheck (hI : Keeps [.dblTable, .dblCapt, .recent, .log, .pod, .chan, .regs] I) (s :
    State) (x : Nat) (h_s : I s) : I (State.joinCheck s x).2 := by
  unfold State.joinCheck
  with_reducible repeat' first
    | assumption
    | (extract_lets -underBinder +onlyGivenNames x; have hx : I x := ?_; clear_value x; on_goal 2 => subst x)
    | (extract_lets -underBinder +onlyGivenNames x; clear_value x)
    | refine iteI (fun _ => ?_) (fun _ => ?_)
    | split
    | apply keeps_engineRead (hI.mono (by decide))
    | apply keeps_channelFault (hI.mono (by decide))
    | refine sndEq ?_ (by assumption)
    | refine fstEq ?_ (by assumption)
    | refine snd2Eq ?_ (by assumption)
    | refine snd3Eq ?_ (by assumption)
    | refine optEq ?_ (by assumption)

theorem keeps_requestJoin (hI : Keeps [.dblTable, .dblCapt, .recent, .log, .pod, .chan, .regs] I) (s :
    State) (x : Nat) (h_s : I s) : I (State.requestJoin s x) := by
  unfold State.requestJoin
  with_reducible repeat' first
    | assumption
    | (extract_lets -underBinder +onlyGivenNames x; have hx : I x := ?_; clear_value x; on_goal 2 => subst x)
    | (extract_lets -underBinder +onlyGivenNames x; clear_value x)
    | refine iteI (fun _ => ?_) (fun _ => ?_)
    | split
    | apply keeps_joinCheck hI
    | apply keeps_setB (hI.mono (by decide))
    | apply keeps_refuseJoin (hI.mono (by decide))
    | apply keeps_set (hI.mono (by decide))
    | apply keeps_cellEnter (hI.mono (by decide))
    | apply keeps_setCell (hI.mono (by decide))
    | refine sndEq ?_ (by assumption)
    | refine fstEq ?_ (by assumption)
    | refine snd2Eq ?_ (by assumption)
    | refine snd3Eq ?_ (by assumption)
    | refine optEq ?_ (by assumption)
    | (refine partMk hI ?_; first | assumption | refine sndEq ?_ (by assumption))
    | (intro t ht; beta_reduce)
    | (intro m; first | rfl | simp)

theorem keeps_autoJoin (hI : Keeps [.dblTable, .dblCapt, .recent, .log, .pod, .chan, .regs] I) (s :
    State) (x : Nat) (h_s : I s) : I (State.autoJoin s x) := by
  unfold State.autoJoin
  with_reducible repeat' first
    | assumption
    | refine iteI (fun _ => ?_) (fun _ => ?_)
    | apply keeps_requestJoin hI

theorem keeps_pwmEnable (hI : Keeps [.recent, .pod, .chan, .regs] I) (s : State) (x : Nat) (h_s : I s)
    : I (State.pwmEnable s x) := by
  unfold State.pwmEnable
  with_reducible repeat' first
    | assumption
    | (extract_lets -underBinder +onlyGivenNames x; have hx : I x := ?_; clear_value x; on_goal 2 => subst x)
    | (extract_lets -underBinder +onlyGivenNames x; clear_value x)
    | refine iteI (fun _ => ?_) (fun _ => ?_)
    | refine foldlI ?_ (fun _ _ _ => ?_)
    | apply keeps_setB (hI.mono (by decide))
    | apply keeps_guardSync (hI.mono (by decide))
    | apply keeps_err (hI.mono (by decide))
    | apply keeps_setPwm (hI.mono (by decide))
    | apply keeps_setLeg (hI.mono (by decide))
    | (refine partMk hI ?_; first | assumption | refine sndEq ?_ (by assumption))
    | (intro t ht; beta_reduce)
    | (intro m; first | rfl | simp)

theorem keeps_writeZeroState (hI : Keeps [.chan] I) (s : State) (x : Nat) (h_s : I s) : I
    (State.writeZeroState s x) := by
  unfold State.writeZeroState
  with_reducible repeat' first
    | assumption
    | apply keeps_writeIndex hI

theorem keeps_startSubst (hI : Keeps [.chan] I) (s : State) (x : Nat) (h_s : I s) : I (State.startSubst
    s x) := by
  unfold State.startSubst
  with_reducible repeat' first
    | assumption
    | (extract_lets -underBinder +onlyGivenNames x; have hx : I x := ?_; clear_value x; on_goal 2 => subst x)
    | (extract_lets -underBinder +onlyGivenNames x; clear_value x)
    | apply keeps_writeZeroState hI
    | apply keeps_zeroWords hI
    | apply keeps_setCell hI
    | (refine partMk hI ?_; first | assumption | refine sndEq ?_ (by assumption))
    | (intro t ht; beta_reduce)
    | (intro m; first | rfl | simp)

theorem keeps_joinKernelRuns (hI : Keeps [.recent, .pod, .chan, .regs] I) (s : State) (x : Nat) (h_s :
    I s) : I (State.joinKernelRuns s x) := by
  unfold State.joinKernelRuns
  with_reducible repeat' first
    | assumption
    | (extract_lets -underBinder +onlyGivenNames x; have hx : I x := ?_; clear_value x; on_goal 2 => subst x)
    | (extract_lets -underBinder +onlyGivenNames x; clear_value x)
    | refine iteI (fun _ => ?_) (fun _ => ?_)
    | apply keeps_pwmEnable hI
    | apply keeps_startSubst (hI.mono (by decide))
    | apply keeps_setCell (hI.mono (by decide))
    | (refine partMk hI ?_; first | assumption | refine sndEq ?_ (by assumption))
    | (intro t ht; beta_reduce)
    | (intro m; first | rfl | simp)

theorem keeps_reform (hI : Keeps [.chan, .regs] I) (s : State) (x : Nat) (h_s : I s) : I (State.reform
    s x) := by
  unfold State.reform
  with_reducible repeat' first
    | assumption
    | (extract_lets -underBinder +onlyGivenNames x; have hx : I x := ?_; clear_value x; on_goal 2 => subst x)
    | (extract_lets -underBinder +onlyGivenNames x; clear_value x)
    | refine iteI (fun _ => ?_) (fun _ => ?_)
    | apply keeps_set (hI.mono (by decide))
    | apply keeps_setI (hI.mono (by decide))
    | apply keeps_setCell (hI.mono (by decide))
    | (refine partMk hI ?_; first | assumption | refine sndEq ?_ (by assumption))
    | (intro t ht; beta_reduce)
    | (intro m; first | rfl | simp)

theorem keeps_validVoc (hI : Keeps [.recent, .pod, .chan, .regs] I) (s : State) (x : Nat) (mv : Rat)
    (h_s : I s) : I (State.validVoc s x mv) := by
  unfold State.validVoc
  with_reducible repeat' first
    | assumption
    | (extract_lets -underBinder +onlyGivenNames x; have hx : I x := ?_; clear_value x; on_goal 2 => subst x)
    | (extract_lets -underBinder +onlyGivenNames x; clear_value x)
    | apply keeps_reform (hI.mono (by decide))
    | apply keeps_irq (hI.mono (by decide))
    | apply keeps_set (hI.mono (by decide))
    | apply keeps_inc (hI.mono (by decide))
    | apply keeps_setI (hI.mono (by decide))
    | apply keeps_setCell (hI.mono (by decide))
    | (refine partMk hI ?_; first | assumption | refine sndEq ?_ (by assumption))
    | (intro t ht; beta_reduce)
    | (intro m; first | rfl | simp)

theorem keeps_endWindow (hI : Keeps [.recent, .pod, .chan, .regs] I) (s : State) (x code : Nat) (h_s :
    I s) : I (State.endWindow s x code) := by
  unfold State.endWindow
  with_reducible repeat' first
    | assumption
    | (extract_lets -underBinder +onlyGivenNames x; have hx : I x := ?_; clear_value x; on_goal 2 => subst x)
    | (extract_lets -underBinder +onlyGivenNames x; clear_value x)
    | apply keeps_windowLost hI
    | apply keeps_setCell (hI.mono (by decide))
    | (refine partMk hI ?_; first | assumption | refine sndEq ?_ (by assumption))
    | (intro t ht; beta_reduce)
    | (intro m; first | rfl | simp)

theorem keeps_joinAverage (hI : Keeps [.freeCtr] I) (s : State) (x : Nat) (h_s : I s) : I
    (State.joinAverage s x).2 := by
  unfold State.joinAverage
  with_reducible repeat' first
    | assumption
    | (extract_lets -underBinder +onlyGivenNames x; have hx : I x := ?_; clear_value x; on_goal 2 => subst x)
    | (extract_lets -underBinder +onlyGivenNames x; clear_value x)
    | refine iteI (fun _ => ?_) (fun _ => ?_)
    | split
    | refine foldlI ?_ (fun _ _ _ => ?_)
    | refine foldlI2 ?_ (fun _ _ _ => ?_)
    | refine foldlI3 ?_ (fun _ _ _ => ?_)
    | refine foldlI1 ?_ (fun _ _ _ => ?_)
    | apply keeps_fresh hI
    | refine sndEq ?_ (by assumption)
    | refine fstEq ?_ (by assumption)
    | refine snd2Eq ?_ (by assumption)
    | refine snd3Eq ?_ (by assumption)
    | refine optEq ?_ (by assumption)
    | (intro t ht; beta_reduce)
    | (intro m; first | rfl | simp)

theorem keeps_joinOpened (hI : Keeps [.recent, .freeCtr, .pod, .chan, .regs] I) (s : State) (x : Nat)
    (h_s : I s) : I (State.joinOpened s x) := by
  unfold State.joinOpened
  with_reducible repeat' first
    | assumption
    | (extract_lets -underBinder +onlyGivenNames x; have hx : I x := ?_; clear_value x; on_goal 2 => subst x)
    | (extract_lets -underBinder +onlyGivenNames x; clear_value x)
    | refine iteI (fun _ => ?_) (fun _ => ?_)
    | split
    | apply keeps_joinAverage (hI.mono (by decide))
    | apply keeps_reform (hI.mono (by decide))
    | apply keeps_validVoc (hI.mono (by decide))
    | apply keeps_windowLost (hI.mono (by decide))
    | apply keeps_setCell (hI.mono (by decide))
    | refine sndEq ?_ (by assumption)
    | refine fstEq ?_ (by assumption)
    | refine snd2Eq ?_ (by assumption)
    | refine snd3Eq ?_ (by assumption)
    | refine optEq ?_ (by assumption)
    | (refine partMk hI ?_; first | assumption | refine sndEq ?_ (by assumption))
    | (intro t ht; beta_reduce)
    | (intro m; first | rfl | simp)

theorem keeps_joinCarrier (hI : Keeps [.recent, .freeCtr, .pod, .chan, .regs] I) (s : State) (x : Nat)
    (h_s : I s) : I (State.joinCarrier s x) := by
  unfold State.joinCarrier
  with_reducible repeat' first
    | assumption
    | (extract_lets -underBinder +onlyGivenNames x; have hx : I x := ?_; clear_value x; on_goal 2 => subst x)
    | (extract_lets -underBinder +onlyGivenNames x; clear_value x)
    | refine iteI (fun _ => ?_) (fun _ => ?_)
    | apply keeps_joinOpened hI
    | apply keeps_holdSync (hI.mono (by decide))
    | apply keeps_setCell (hI.mono (by decide))
    | (refine partMk hI ?_; first | assumption | refine sndEq ?_ (by assumption))
    | (intro t ht; beta_reduce)
    | (intro m; first | rfl | simp)

theorem keeps_shellSync (hI : Keeps [.recent, .chan, .regs] I) (s : State) (x : Nat) (h_s : I s) : I
    (State.shellSync s x) := by
  unfold State.shellSync
  with_reducible repeat' first
    | assumption
    | (extract_lets -underBinder +onlyGivenNames x; have hx : I x := ?_; clear_value x; on_goal 2 => subst x)
    | (extract_lets -underBinder +onlyGivenNames x; clear_value x)
    | refine iteI (fun _ => ?_) (fun _ => ?_)
    | apply keeps_setB (hI.mono (by decide))
    | apply keeps_setCell (hI.mono (by decide))
    | (refine partMk hI ?_; first | assumption | refine sndEq ?_ (by assumption))
    | (intro t ht; beta_reduce)
    | (intro m; first | rfl | simp)

theorem keeps_restartPo (hI : Keeps [.chan] I) (s : State) (x : Nat) (h_s : I s) : I (State.restartPo s
    x) := by
  unfold State.restartPo
  with_reducible repeat' first
    | assumption
    | (extract_lets -underBinder +onlyGivenNames x; have hx : I x := ?_; clear_value x; on_goal 2 => subst x)
    | (extract_lets -underBinder +onlyGivenNames x; clear_value x)
    | apply keeps_setCell hI
    | (refine partMk hI ?_; first | assumption | refine sndEq ?_ (by assumption))
    | (intro t ht; beta_reduce)
    | (intro m; first | rfl | simp)

theorem keeps_poCatchUp (hI : Keeps [.chan] I) (s : State) (x : Nat) (h_s : I s) : I (State.poCatchUp s
    x) := by
  unfold State.poCatchUp
  with_reducible repeat' first
    | assumption
    | (extract_lets -underBinder +onlyGivenNames x; have hx : I x := ?_; clear_value x; on_goal 2 => subst x)
    | (extract_lets -underBinder +onlyGivenNames x; clear_value x)
    | refine iteI (fun _ => ?_) (fun _ => ?_)
    | apply keeps_setCell hI
    | (refine partMk hI ?_; first | assumption | refine sndEq ?_ (by assumption))
    | (intro t ht; beta_reduce)
    | (intro m; first | rfl | simp)

theorem keeps_scanTry (hI : Keeps [.recent, .chan, .regs] I) (s : State) (x : Nat) (h_s : I s) : I
    (State.scanTry s x) := by
  unfold State.scanTry
  with_reducible repeat' first
    | assumption
    | (extract_lets -underBinder +onlyGivenNames x; have hx : I x := ?_; clear_value x; on_goal 2 => subst x)
    | (extract_lets -underBinder +onlyGivenNames x; clear_value x)
    | refine iteI (fun _ => ?_) (fun _ => ?_)
    | split
    | apply keeps_setB (hI.mono (by decide))
    | apply keeps_shellSync hI
    | apply keeps_setI (hI.mono (by decide))
    | apply keeps_setCell (hI.mono (by decide))
    | refine sndEq ?_ (by assumption)
    | refine fstEq ?_ (by assumption)
    | refine snd2Eq ?_ (by assumption)
    | refine snd3Eq ?_ (by assumption)
    | refine optEq ?_ (by assumption)
    | (refine partMk hI ?_; first | assumption | refine sndEq ?_ (by assumption))
    | (intro t ht; beta_reduce)
    | (intro m; first | rfl | simp)

theorem keeps_enterRun (hI : Keeps [.recent, .chan, .regs] I) (s : State) (x : Nat) (h_s : I s) : I
    (State.enterRun s x) := by
  unfold State.enterRun
  with_reducible repeat' first
    | assumption
    | (extract_lets -underBinder +onlyGivenNames x; have hx : I x := ?_; clear_value x; on_goal 2 => subst x)
    | (extract_lets -underBinder +onlyGivenNames x; clear_value x)
    | apply keeps_scanTry hI
    | apply keeps_shellSync hI
    | apply keeps_restartPo (hI.mono (by decide))
    | apply keeps_cellEnter (hI.mono (by decide))
    | apply keeps_setCell (hI.mono (by decide))
    | (refine partMk hI ?_; first | assumption | refine sndEq ?_ (by assumption))
    | (intro t ht; beta_reduce)
    | (intro m; first | rfl | simp)

theorem keeps_fraction (hI : Keeps [.freeCtr] I) (s : State) (key : Nat) (v : Rat) (fs : Int) (h_s : I
    s) : I (State.fraction s key v fs).2 := by
  unfold State.fraction
  with_reducible repeat' first
    | assumption
    | (extract_lets -underBinder +onlyGivenNames x; have hx : I x := ?_; clear_value x; on_goal 2 => subst x)
    | (extract_lets -underBinder +onlyGivenNames x; clear_value x)
    | refine iteI (fun _ => ?_) (fun _ => ?_)
    | split
    | apply keeps_fresh hI
    | refine sndEq ?_ (by assumption)
    | refine fstEq ?_ (by assumption)
    | refine snd2Eq ?_ (by assumption)
    | refine snd3Eq ?_ (by assumption)
    | refine optEq ?_ (by assumption)

theorem keeps_powerTerm (hI : Keeps [.freeCtr] I) (s : State) (p : Int) (mv : Int) (h_s : I s) : I
    (State.powerTerm s p mv).2 := by
  unfold State.powerTerm
  with_reducible repeat' first
    | assumption
    | (extract_lets -underBinder +onlyGivenNames x; have hx : I x := ?_; clear_value x; on_goal 2 => subst x)
    | (extract_lets -underBinder +onlyGivenNames x; clear_value x)
    | refine iteI (fun _ => ?_) (fun _ => ?_)
    | split
    | apply keeps_fresh hI
    | refine sndEq ?_ (by assumption)
    | refine fstEq ?_ (by assumption)
    | refine snd2Eq ?_ (by assumption)
    | refine snd3Eq ?_ (by assumption)
    | refine optEq ?_ (by assumption)

theorem keeps_loopOf (hI : Keeps [.freeCtr] I) (s : State) (x : Nat) (h_s : I s) : I (State.loopOf s
    x).2.2 := by
  unfold State.loopOf
  with_reducible repeat' first
    | assumption
    | (extract_lets -underBinder +onlyGivenNames x; have hx : I x := ?_; clear_value x; on_goal 2 => subst x)
    | (extract_lets -underBinder +onlyGivenNames x; clear_value x)
    | refine iteI (fun _ => ?_) (fun _ => ?_)
    | split
    | apply keeps_powerTerm hI
    | refine sndEq ?_ (by assumption)
    | refine fstEq ?_ (by assumption)
    | refine snd2Eq ?_ (by assumption)
    | refine snd3Eq ?_ (by assumption)
    | refine optEq ?_ (by assumption)

theorem keeps_cellLoop (hI : Keeps [.recent, .freeCtr, .pod, .chan, .regs] I) (s : State) (x : Nat)
    (fresh : Bool) (h_s : I s) : I (State.cellLoop s x fresh) := by
  unfold State.cellLoop
  with_reducible repeat' first
    | assumption
    | (extract_lets -underBinder +onlyGivenNames x; have hx : I x := ?_; clear_value x; on_goal 2 => subst x)
    | (extract_lets -underBinder +onlyGivenNames x; clear_value x)
    | refine iteI (fun _ => ?_) (fun _ => ?_)
    | split
    | apply keeps_irq (hI.mono (by decide))
    | apply keeps_loopOf (hI.mono (by decide))
    | apply keeps_setI (hI.mono (by decide))
    | apply keeps_fraction (hI.mono (by decide))
    | apply keeps_setCell (hI.mono (by decide))
    | refine sndEq ?_ (by assumption)
    | refine fstEq ?_ (by assumption)
    | refine snd2Eq ?_ (by assumption)
    | refine snd3Eq ?_ (by assumption)
    | refine optEq ?_ (by assumption)
    | (refine partMk hI ?_; first | assumption | refine sndEq ?_ (by assumption))
    | (intro t ht; beta_reduce)
    | (intro m; first | rfl | simp)

theorem keeps_cellFresh (hI : Keeps [.chan] I) (s : State) (x stale : Nat) (h_s : I s) : I
    (State.cellFresh s x stale) := by
  unfold State.cellFresh
  with_reducible repeat' first
    | assumption
    | (extract_lets -underBinder +onlyGivenNames x; have hx : I x := ?_; clear_value x; on_goal 2 => subst x)
    | (extract_lets -underBinder +onlyGivenNames x; clear_value x)
    | refine iteI (fun _ => ?_) (fun _ => ?_)
    | apply keeps_setCell hI
    | (refine partMk hI ?_; first | assumption | refine sndEq ?_ (by assumption))
    | (intro t ht; beta_reduce)
    | (intro m; first | rfl | simp)

theorem keeps_cellSums (hI : Keeps [.chan] I) (s : State) (x stale : Nat) (h_s : I s) : I
    (State.cellSums s x stale) := by
  unfold State.cellSums
  with_reducible repeat' first
    | assumption
    | (extract_lets -underBinder +onlyGivenNames x; have hx : I x := ?_; clear_value x; on_goal 2 => subst x)
    | (extract_lets -underBinder +onlyGivenNames x; clear_value x)
    | refine iteI (fun _ => ?_) (fun _ => ?_)
    | split
    | apply keeps_setCell hI
    | refine sndEq ?_ (by assumption)
    | refine fstEq ?_ (by assumption)
    | refine snd2Eq ?_ (by assumption)
    | refine snd3Eq ?_ (by assumption)
    | refine optEq ?_ (by assumption)
    | (refine partMk hI ?_; first | assumption | refine sndEq ?_ (by assumption))
    | (intro t ht; beta_reduce)
    | (intro m; first | rfl | simp)

theorem keeps_clipCheck (hI : Keeps [.recent, .pod, .chan, .regs] I) (s : State) (x : Nat) (h_s : I s)
    : I (State.clipCheck s x) := by
  unfold State.clipCheck
  with_reducible repeat' first
    | assumption
    | refine iteI (fun _ => ?_) (fun _ => ?_)
    | split
    | apply keeps_endWindow hI
    | refine sndEq ?_ (by assumption)
    | refine fstEq ?_ (by assumption)
    | refine snd2Eq ?_ (by assumption)
    | refine snd3Eq ?_ (by assumption)
    | refine optEq ?_ (by assumption)
    | (refine partMk hI ?_; first | assumption | refine sndEq ?_ (by assumption))

theorem keeps_cellSample (hI : Keeps [.dblTable, .dblCapt, .recent, .freeCtr, .log, .pod, .chan, .regs]
    I) (s : State) (x : Nat) (h_s : I s) : I (State.cellSample s x) := by
  unfold State.cellSample
  with_reducible repeat' first
    | assumption
    | (extract_lets -underBinder +onlyGivenNames x; have hx : I x := ?_; clear_value x; on_goal 2 => subst x)
    | (extract_lets -underBinder +onlyGivenNames x; clear_value x)
    | refine iteI (fun _ => ?_) (fun _ => ?_)
    | split
    | apply keeps_autoJoin (hI.mono (by decide))
    | apply keeps_cellSums (hI.mono (by decide))
    | apply keeps_cellFresh (hI.mono (by decide))
    | apply keeps_fresh (hI.mono (by decide))
    | apply keeps_clipCheck (hI.mono (by decide))
    | apply keeps_engineRead (hI.mono (by decide))
    | apply keeps_shellSync (hI.mono (by decide))
    | apply keeps_setSat (hI.mono (by decide))
    | apply keeps_setI (hI.mono (by decide))
    | apply keeps_cellLoop (hI.mono (by decide))
    | apply keeps_channelFault (hI.mono (by decide))
    | apply keeps_husk (hI.mono (by decide))
    | apply keeps_zeroWords (hI.mono (by decide))
    | refine sndEq ?_ (by assumption)
    | refine fstEq ?_ (by assumption)
    | refine snd2Eq ?_ (by assumption)
    | refine snd3Eq ?_ (by assumption)
    | refine optEq ?_ (by assumption)

theorem keeps_kernelFault (hI : Keeps [.recent, .log, .pod, .chan, .regs] I) (s : State) (x cause :
    Nat) (h_s : I s) : I (State.kernelFault s x cause) := by
  unfold State.kernelFault
  with_reducible repeat' first
    | assumption
    | (extract_lets -underBinder +onlyGivenNames x; have hx : I x := ?_; clear_value x; on_goal 2 => subst x)
    | (extract_lets -underBinder +onlyGivenNames x; clear_value x)
    | apply keeps_setB (hI.mono (by decide))
    | apply keeps_irqLog (hI.mono (by decide))
    | apply keeps_set (hI.mono (by decide))
    | apply keeps_channelFault (hI.mono (by decide))

theorem keeps_stateWrap (hI : Keeps [.recent, .log, .pod, .chan, .regs] I) (s : State) (x low : Nat)
    (h_s : I s) : I (State.stateWrap s x low) := by
  unfold State.stateWrap
  with_reducible repeat' first
    | assumption
    | (extract_lets -underBinder +onlyGivenNames x; have hx : I x := ?_; clear_value x; on_goal 2 => subst x)
    | (extract_lets -underBinder +onlyGivenNames x; clear_value x)
    | apply keeps_setB (hI.mono (by decide))
    | apply keeps_kernelFault hI
    | apply keeps_irqLog (hI.mono (by decide))
    | apply keeps_set (hI.mono (by decide))

theorem keeps_accSat (hI : Keeps [.recent, .pod, .regs] I) (s : State) (x n : Nat) (h_s : I s) : I
    (State.accSat s x n) := by
  unfold State.accSat
  with_reducible repeat' first
    | assumption
    | (extract_lets -underBinder +onlyGivenNames x; have hx : I x := ?_; clear_value x; on_goal 2 => subst x)
    | (extract_lets -underBinder +onlyGivenNames x; clear_value x)
    | refine iteI (fun _ => ?_) (fun _ => ?_)
    | refine foldlI ?_ (fun _ _ _ => ?_)
    | apply keeps_setB (hI.mono (by decide))
    | apply keeps_irq hI
    | apply keeps_inc (hI.mono (by decide))
    | (intro t ht; beta_reduce)
    | (intro m; first | rfl | simp)

theorem keeps_schedRead (hI : Keeps [.dblTable, .dblCapt, .recent, .log, .pod, .regs] I) (s : State) (x
    d : Nat) (h_s : I s) : I (State.schedRead s x d).2 := by
  unfold State.schedRead
  with_reducible repeat' first
    | assumption
    | (extract_lets -underBinder +onlyGivenNames x; have hx : I x := ?_; clear_value x; on_goal 2 => subst x)
    | (extract_lets -underBinder +onlyGivenNames x; clear_value x)
    | split
    | refine foldlI ?_ (fun _ _ _ => ?_)
    | refine foldlI2 ?_ (fun _ _ _ => ?_)
    | refine foldlI3 ?_ (fun _ _ _ => ?_)
    | refine foldlI1 ?_ (fun _ _ _ => ?_)
    | apply keeps_engineRead hI
    | refine sndEq ?_ (by assumption)
    | refine fstEq ?_ (by assumption)
    | refine snd2Eq ?_ (by assumption)
    | refine snd3Eq ?_ (by assumption)
    | refine optEq ?_ (by assumption)
    | (intro t ht; beta_reduce)
    | (intro m; first | rfl | simp)

theorem keeps_shapeAll (hI : Keeps [.freeCtr] I) (s : State) (x : Nat) (y v : List Int) (h_s : I s) : I
    (State.shapeAll s x y v).2 := by
  unfold State.shapeAll
  with_reducible repeat' first
    | assumption
    | (extract_lets -underBinder +onlyGivenNames x; have hx : I x := ?_; clear_value x; on_goal 2 => subst x)
    | (extract_lets -underBinder +onlyGivenNames x; clear_value x)
    | (refine partMk hI ?_; first | assumption | refine sndEq ?_ (by assumption))
    | (intro t ht; beta_reduce)
    | (intro m; first | rfl | simp)

theorem keeps_keRead (hI : Keeps [.dblTable, .dblCapt, .recent, .log, .pod, .regs] I) (s : State) (x d
    : Nat) (banks : List Nat) (h_s : I s) : I (State.keRead s x d banks).2 := by
  unfold State.keRead
  with_reducible repeat' first
    | assumption
    | (extract_lets -underBinder +onlyGivenNames x; have hx : I x := ?_; clear_value x; on_goal 2 => subst x)
    | (extract_lets -underBinder +onlyGivenNames x; clear_value x)
    | split
    | refine foldlI ?_ (fun _ _ _ => ?_)
    | refine foldlI2 ?_ (fun _ _ _ => ?_)
    | refine foldlI3 ?_ (fun _ _ _ => ?_)
    | refine foldlI1 ?_ (fun _ _ _ => ?_)
    | apply keeps_engineRead hI
    | refine sndEq ?_ (by assumption)
    | refine fstEq ?_ (by assumption)
    | refine snd2Eq ?_ (by assumption)
    | refine snd3Eq ?_ (by assumption)
    | refine optEq ?_ (by assumption)
    | (intro t ht; beta_reduce)
    | (intro m; first | rfl | simp)

theorem keeps_keLaw (hI : Keeps [.recent, .freeCtr, .log, .pod, .chan, .regs] I) (s : State) (x old new
    : Nat) (st yIn y r w : List Int) (hold : Bool) (h_s : I s) : I (State.keLaw s x old new st yIn y r w
    hold) := by
  unfold State.keLaw
  with_reducible repeat' first
    | assumption
    | (extract_lets -underBinder +onlyGivenNames x; have hx : I x := ?_; clear_value x; on_goal 2 => subst x)
    | (extract_lets -underBinder +onlyGivenNames x; clear_value x)
    | refine iteI (fun _ => ?_) (fun _ => ?_)
    | split
    | apply keeps_setKe (hI.mono (by decide))
    | apply keeps_accSat (hI.mono (by decide))
    | apply keeps_shapeAll (hI.mono (by decide))
    | apply keeps_stateWrap (hI.mono (by decide))
    | refine sndEq ?_ (by assumption)
    | refine fstEq ?_ (by assumption)
    | refine snd2Eq ?_ (by assumption)
    | refine snd3Eq ?_ (by assumption)
    | refine optEq ?_ (by assumption)
    | (refine partMk hI ?_; first | assumption | refine sndEq ?_ (by assumption))
    | (intro t ht; beta_reduce)
    | (intro m; first | rfl | simp)

theorem keeps_keOpen (hI : Keeps [.chan] I) (s : State) (x t : Nat) (h_s : I s) : I (State.keOpen s x
    t) := by
  unfold State.keOpen
  with_reducible repeat' first
    | assumption
    | (extract_lets -underBinder +onlyGivenNames x; have hx : I x := ?_; clear_value x; on_goal 2 => subst x)
    | (extract_lets -underBinder +onlyGivenNames x; clear_value x)
    | apply keeps_setKe hI
    | (refine partMk hI ?_; first | assumption | refine sndEq ?_ (by assumption))
    | (intro t ht; beta_reduce)
    | (intro m; first | rfl | simp)

theorem keeps_keStart (hI : Keeps [.dblTable, .dblCapt, .recent, .freeCtr, .log, .pod, .chan, .regs] I)
    (s : State) (x : Nat) (y r : List Int) (stale : Bool) (h_s : I s) : I (State.keStart s x y r stale) := by
  unfold State.keStart
  with_reducible repeat' first
    | assumption
    | (extract_lets -underBinder +onlyGivenNames x; have hx : I x := ?_; clear_value x; on_goal 2 => subst x)
    | (extract_lets -underBinder +onlyGivenNames x; clear_value x)
    | refine iteI (fun _ => ?_) (fun _ => ?_)
    | split
    | apply keeps_joinKernelRuns (hI.mono (by decide))
    | apply keeps_keLaw (hI.mono (by decide))
    | apply keeps_setB (hI.mono (by decide))
    | apply keeps_schedRead (hI.mono (by decide))
    | apply keeps_irq (hI.mono (by decide))
    | apply keeps_setKe (hI.mono (by decide))
    | apply keeps_keOpen (hI.mono (by decide))
    | apply keeps_kernelFault (hI.mono (by decide))
    | apply keeps_accSat (hI.mono (by decide))
    | apply keeps_shapeAll (hI.mono (by decide))
    | apply keeps_set (hI.mono (by decide))
    | apply keeps_keRead (hI.mono (by decide))
    | apply keeps_stateWrap (hI.mono (by decide))
    | refine sndEq ?_ (by assumption)
    | refine fstEq ?_ (by assumption)
    | refine snd2Eq ?_ (by assumption)
    | refine snd3Eq ?_ (by assumption)
    | refine optEq ?_ (by assumption)
    | (refine partMk hI ?_; first | assumption | refine sndEq ?_ (by assumption))
    | (intro t ht; beta_reduce)
    | (intro m; first | rfl | simp)

theorem keeps_keRamp (hI : Keeps [.recent, .chan, .regs] I) (s : State) (x : Nat) (r : List Int)
    (change : Bool) (h_s : I s) : I (State.keRamp s x r change).2 := by
  unfold State.keRamp
  with_reducible repeat' first
    | assumption
    | (extract_lets -underBinder +onlyGivenNames x; have hx : I x := ?_; clear_value x; on_goal 2 => subst x)
    | (extract_lets -underBinder +onlyGivenNames x; clear_value x)
    | refine iteI (fun _ => ?_) (fun _ => ?_)
    | split
    | apply keeps_setB (hI.mono (by decide))
    | apply keeps_setKe (hI.mono (by decide))
    | refine sndEq ?_ (by assumption)
    | refine fstEq ?_ (by assumption)
    | refine snd2Eq ?_ (by assumption)
    | refine snd3Eq ?_ (by assumption)
    | refine optEq ?_ (by assumption)
    | (refine partMk hI ?_; first | assumption | refine sndEq ?_ (by assumption))
    | (intro t ht; beta_reduce)
    | (intro m; first | rfl | simp)

theorem keeps_keStep (hI : Keeps [.dblTable, .dblCapt, .recent, .freeCtr, .log, .pod, .chan, .regs] I)
    (s : State) (x : Nat) (yIn y r : List Int) (staleSlots : List Bool) (h_s : I s) : I (State.keStep s
    x yIn y r staleSlots) := by
  unfold State.keStep
  with_reducible repeat' first
    | assumption
    | (extract_lets -underBinder +onlyGivenNames x; have hx : I x := ?_; clear_value x; on_goal 2 => subst x)
    | (extract_lets -underBinder +onlyGivenNames x; clear_value x)
    | refine iteI (fun _ => ?_) (fun _ => ?_)
    | split
    | apply keeps_keLaw (hI.mono (by decide))
    | apply keeps_setB (hI.mono (by decide))
    | apply keeps_irq (hI.mono (by decide))
    | apply keeps_setKe (hI.mono (by decide))
    | apply keeps_kernelFault (hI.mono (by decide))
    | apply keeps_irqLog (hI.mono (by decide))
    | apply keeps_set (hI.mono (by decide))
    | apply keeps_inc (hI.mono (by decide))
    | apply keeps_keRead (hI.mono (by decide))
    | apply keeps_keRamp (hI.mono (by decide))
    | refine sndEq ?_ (by assumption)
    | refine fstEq ?_ (by assumption)
    | refine snd2Eq ?_ (by assumption)
    | refine snd3Eq ?_ (by assumption)
    | refine optEq ?_ (by assumption)
    | (refine partMk hI ?_; first | assumption | refine sndEq ?_ (by assumption))
    | (intro t ht; beta_reduce)
    | (intro m; first | rfl | simp)

theorem keeps_keCommitAt (hI : Keeps [.recent, .sys, .pod, .chan, .regs, .staged] I) (s : State) (x :
    Nat) (h_s : I s) : I (State.keCommitAt s x) := by
  unfold State.keCommitAt
  with_reducible repeat' first
    | assumption
    | (extract_lets -underBinder +onlyGivenNames x; have hx : I x := ?_; clear_value x; on_goal 2 => subst x)
    | (extract_lets -underBinder +onlyGivenNames x; clear_value x)
    | refine iteI (fun _ => ?_) (fun _ => ?_)
    | apply keeps_doCommit (hI.mono (by decide))
    | apply keeps_undrop (hI.mono (by decide))
    | apply keeps_setKe (hI.mono (by decide))
    | apply keeps_refuseCommit (hI.mono (by decide))
    | (refine partMk hI ?_; first | assumption | refine sndEq ?_ (by assumption))
    | (intro t ht; beta_reduce)
    | (intro m; first | rfl | simp)

theorem keeps_kernelSample (hI : Keeps [.dblTable, .dblCapt, .recent, .freeCtr, .sys, .log, .pod,
    .chan, .regs, .staged] I) (s : State) (x : Nat) (h_s : I s) : I (State.kernelSample s x) := by
  unfold State.kernelSample
  with_reducible repeat' first
    | assumption
    | (extract_lets -underBinder +onlyGivenNames x; have hx : I x := ?_; clear_value x; on_goal 2 => subst x)
    | (extract_lets -underBinder +onlyGivenNames x; clear_value x)
    | refine iteI (fun _ => ?_) (fun _ => ?_)
    | apply keeps_keStep (hI.mono (by decide))
    | apply keeps_keStart (hI.mono (by decide))
    | apply keeps_setB (hI.mono (by decide))
    | apply keeps_irq (hI.mono (by decide))
    | apply keeps_setKe (hI.mono (by decide))
    | apply keeps_kernelFault (hI.mono (by decide))
    | apply keeps_keCommitAt (hI.mono (by decide))
    | apply keeps_inc (hI.mono (by decide))
    | (refine partMk hI ?_; first | assumption | refine sndEq ?_ (by assumption))
    | (intro t ht; beta_reduce)
    | (intro m; first | rfl | simp)

theorem keeps_execKernelCompareWrite (hI : Keeps [.now, .recent, .pod, .chan, .regs] I) (dt : Nat) (x :
    Fin 8) (s : State) (h_s : I s) : OutI I (execKernelCompareWrite dt x s) := by
  unfold execKernelCompareWrite
  with_reducible repeat' first
    | assumption
    | (extract_lets -underBinder +onlyGivenNames x; have hx : I x := ?_; clear_value x; on_goal 2 => subst x)
    | (extract_lets -underBinder +onlyGivenNames x; clear_value x)
    | refine outNext ?_
    | refine iteI (fun _ => ?_) (fun _ => ?_)
    | refine iteOutI (fun _ => ?_) (fun _ => ?_)
    | split
    | refine foldlI ?_ (fun _ _ _ => ?_)
    | apply keeps_writeZeroState (hI.mono (by decide))
    | apply keeps_setB (hI.mono (by decide))
    | apply keeps_irq (hI.mono (by decide))
    | apply keeps_setKe (hI.mono (by decide))
    | apply keeps_keOpen (hI.mono (by decide))
    | apply keeps_set (hI.mono (by decide))
    | apply keeps_writeIndex (hI.mono (by decide))
    | apply keeps_inc (hI.mono (by decide))
    | apply keeps_elapse (hI.mono (by decide))
    | apply keeps_dlMeet (hI.mono (by decide))
    | refine sndEq ?_ (by assumption)
    | refine fstEq ?_ (by assumption)
    | refine snd2Eq ?_ (by assumption)
    | refine snd3Eq ?_ (by assumption)
    | refine optEq ?_ (by assumption)
    | (refine partMk hI ?_; first | assumption | refine sndEq ?_ (by assumption))
    | (intro t ht; beta_reduce)
    | (intro m; first | rfl | simp)

theorem keeps_execKernelPredictionDone (hI : Keeps [.now, .recent, .log, .pod, .chan, .regs] I) (dt :
    Nat) (x : Fin 8) (s : State) (h_s : I s) : OutI I (execKernelPredictionDone dt x s) := by
  unfold execKernelPredictionDone
  with_reducible repeat' first
    | assumption
    | (extract_lets -underBinder +onlyGivenNames x; have hx : I x := ?_; clear_value x; on_goal 2 => subst x)
    | (extract_lets -underBinder +onlyGivenNames x; clear_value x)
    | refine outNext ?_
    | refine iteI (fun _ => ?_) (fun _ => ?_)
    | refine iteOutI (fun _ => ?_) (fun _ => ?_)
    | split
    | refine foldlI ?_ (fun _ _ _ => ?_)
    | refine foldlI2 ?_ (fun _ _ _ => ?_)
    | refine foldlI3 ?_ (fun _ _ _ => ?_)
    | refine foldlI1 ?_ (fun _ _ _ => ?_)
    | apply keeps_keHalted (hI.mono (by decide))
    | apply keeps_setKe (hI.mono (by decide))
    | apply keeps_incWrap (hI.mono (by decide))
    | apply keeps_accSat (hI.mono (by decide))
    | apply keeps_set (hI.mono (by decide))
    | apply keeps_elapse (hI.mono (by decide))
    | apply keeps_stateWrap (hI.mono (by decide))
    | refine sndEq ?_ (by assumption)
    | refine fstEq ?_ (by assumption)
    | refine snd2Eq ?_ (by assumption)
    | refine snd3Eq ?_ (by assumption)
    | refine optEq ?_ (by assumption)
    | (refine partMk hI ?_; first | assumption | refine sndEq ?_ (by assumption))
    | (intro t ht; beta_reduce)
    | (intro m; first | rfl | simp)

theorem keeps_execScheduleValidationDone (hI : Keeps [.now, .dblTable, .dblCapt, .recent, .log, .pod,
    .chan, .regs, .staged] I) (dt : Nat) (x : Fin 8) (s : State) (h_s : I s) : OutI I
    (execScheduleValidationDone dt x s) := by
  unfold execScheduleValidationDone
  with_reducible repeat' first
    | assumption
    | (extract_lets -underBinder +onlyGivenNames x; have hx : I x := ?_; clear_value x; on_goal 2 => subst x)
    | (extract_lets -underBinder +onlyGivenNames x; clear_value x)
    | refine outNext ?_
    | refine iteI (fun _ => ?_) (fun _ => ?_)
    | refine iteOutI (fun _ => ?_) (fun _ => ?_)
    | split
    | apply keeps_setB (hI.mono (by decide))
    | apply keeps_schedRead (hI.mono (by decide))
    | apply keeps_irq (hI.mono (by decide))
    | apply keeps_setKe (hI.mono (by decide))
    | apply keeps_kernelFault (hI.mono (by decide))
    | apply keeps_elapse (hI.mono (by decide))
    | apply keeps_refuseCommit (hI.mono (by decide))
    | refine sndEq ?_ (by assumption)
    | refine fstEq ?_ (by assumption)
    | refine snd2Eq ?_ (by assumption)
    | refine snd3Eq ?_ (by assumption)
    | refine optEq ?_ (by assumption)
    | (refine partMk hI ?_; first | assumption | refine sndEq ?_ (by assumption))
    | (intro t ht; beta_reduce)
    | (intro m; first | rfl | simp)

theorem keeps_keEnable (hI : Keeps [.recent, .pod, .regs] I) (s : State) (x : Nat) (h_s : I s) : I
    (State.keEnable s x) := by
  unfold State.keEnable
  with_reducible repeat' first
    | assumption
    | (extract_lets -underBinder +onlyGivenNames x; have hx : I x := ?_; clear_value x; on_goal 2 => subst x)
    | (extract_lets -underBinder +onlyGivenNames x; clear_value x)
    | refine iteI (fun _ => ?_) (fun _ => ?_)
    | apply keeps_setB (hI.mono (by decide))
    | apply keeps_err hI
    | apply keeps_set (hI.mono (by decide))

theorem keeps_keDisable (hI : Keeps [.recent, .log, .pod, .chan, .regs] I) (s : State) (x : Nat) (h_s :
    I s) : I (State.keDisable s x) := by
  unfold State.keDisable
  with_reducible repeat' first
    | assumption
    | (extract_lets -underBinder +onlyGivenNames x; have hx : I x := ?_; clear_value x; on_goal 2 => subst x)
    | (extract_lets -underBinder +onlyGivenNames x; clear_value x)
    | refine iteI (fun _ => ?_) (fun _ => ?_)
    | apply keeps_keHalted (hI.mono (by decide))
    | apply keeps_setB (hI.mono (by decide))
    | apply keeps_setKe (hI.mono (by decide))
    | apply keeps_kernelFault hI
    | apply keeps_set (hI.mono (by decide))
    | (refine partMk hI ?_; first | assumption | refine sndEq ?_ (by assumption))
    | (intro t ht; beta_reduce)
    | (intro m; first | rfl | simp)

theorem keeps_keTest (hI : Keeps [.recent, .pod, .chan, .regs] I) (s : State) (x : Nat) (h_s : I s) : I
    (State.keTest s x) := by
  unfold State.keTest
  with_reducible repeat' first
    | assumption
    | (extract_lets -underBinder +onlyGivenNames x; have hx : I x := ?_; clear_value x; on_goal 2 => subst x)
    | (extract_lets -underBinder +onlyGivenNames x; clear_value x)
    | refine iteI (fun _ => ?_) (fun _ => ?_)
    | apply keeps_setB (hI.mono (by decide))
    | apply keeps_setKe (hI.mono (by decide))
    | apply keeps_err (hI.mono (by decide))
    | apply keeps_set (hI.mono (by decide))
    | (refine partMk hI ?_; first | assumption | refine sndEq ?_ (by assumption))
    | (intro t ht; beta_reduce)
    | (intro m; first | rfl | simp)

theorem keeps_execKernelEnable (hI : Keeps [.now, .recent, .pod, .regs] I) (dt : Nat) (x : Fin 8) (s :
    State) (h_s : I s) : OutI I (execKernelEnable dt x s) := by
  unfold execKernelEnable
  with_reducible repeat' first
    | assumption
    | refine outNext ?_
    | apply keeps_keEnable (hI.mono (by decide))
    | apply keeps_hostAct (hI.mono (by decide))
    | apply keeps_elapse (hI.mono (by decide))
    | (intro t ht; beta_reduce)
    | (intro m; first | rfl | simp)

theorem keeps_execKernelDisable (hI : Keeps [.now, .recent, .log, .pod, .chan, .regs] I) (dt : Nat) (x
    : Fin 8) (s : State) (h_s : I s) : OutI I (execKernelDisable dt x s) := by
  unfold execKernelDisable
  with_reducible repeat' first
    | assumption
    | refine outNext ?_
    | apply keeps_hostAct (hI.mono (by decide))
    | apply keeps_elapse (hI.mono (by decide))
    | apply keeps_keDisable (hI.mono (by decide))
    | (intro t ht; beta_reduce)
    | (intro m; first | rfl | simp)

theorem keeps_execKernelTestStart (hI : Keeps [.now, .recent, .pod, .chan, .regs] I) (dt : Nat) (x :
    Fin 8) (s : State) (h_s : I s) : OutI I (execKernelTestStart dt x s) := by
  unfold execKernelTestStart
  with_reducible repeat' first
    | assumption
    | refine outNext ?_
    | apply keeps_hostAct (hI.mono (by decide))
    | apply keeps_keTest (hI.mono (by decide))
    | apply keeps_elapse (hI.mono (by decide))
    | (intro t ht; beta_reduce)
    | (intro m; first | rfl | simp)

theorem keeps_execKernelTestDone (hI : Keeps [.now, .recent, .log, .pod, .regs] I) (dt : Nat) (x : Fin
    8) (pass : Bool) (s : State) (h_s : I s) : OutI I (execKernelTestDone dt x pass s) := by
  unfold execKernelTestDone
  with_reducible repeat' first
    | assumption
    | (extract_lets -underBinder +onlyGivenNames x; have hx : I x := ?_; clear_value x; on_goal 2 => subst x)
    | (extract_lets -underBinder +onlyGivenNames x; clear_value x)
    | refine outNext ?_
    | refine iteI (fun _ => ?_) (fun _ => ?_)
    | refine iteOutI (fun _ => ?_) (fun _ => ?_)
    | apply keeps_setB (hI.mono (by decide))
    | apply keeps_irq (hI.mono (by decide))
    | apply keeps_irqLog (hI.mono (by decide))
    | apply keeps_set (hI.mono (by decide))
    | apply keeps_elapse (hI.mono (by decide))

theorem keeps_keMiss (hI : Keeps [.recent, .log, .pod, .chan, .regs] I) (s : State) (x : Nat) (h_s : I
    s) : I (State.keMiss s x) := by
  unfold State.keMiss
  with_reducible repeat' first
    | assumption
    | (extract_lets -underBinder +onlyGivenNames x; have hx : I x := ?_; clear_value x; on_goal 2 => subst x)
    | (extract_lets -underBinder +onlyGivenNames x; clear_value x)
    | refine iteI (fun _ => ?_) (fun _ => ?_)
    | split
    | apply keeps_dlMiss (hI.mono (by decide))
    | apply keeps_setB (hI.mono (by decide))
    | apply keeps_irq (hI.mono (by decide))
    | apply keeps_setKe (hI.mono (by decide))
    | apply keeps_keOpen (hI.mono (by decide))
    | apply keeps_kernelFault hI
    | refine sndEq ?_ (by assumption)
    | refine fstEq ?_ (by assumption)
    | refine snd2Eq ?_ (by assumption)
    | refine snd3Eq ?_ (by assumption)
    | refine optEq ?_ (by assumption)
    | (refine partMk hI ?_; first | assumption | refine sndEq ?_ (by assumption))
    | (intro t ht; beta_reduce)
    | (intro m; first | rfl | simp)

theorem keeps_enableEffect (hI : Keeps [.recent, .freeCtr, .log, .pod, .chan, .regs] I) (s : State) (x
    : Nat) (h_s : I s) : I (State.enableEffect s x) := by
  unfold State.enableEffect
  with_reducible repeat' first
    | assumption
    | (extract_lets -underBinder +onlyGivenNames x; have hx : I x := ?_; clear_value x; on_goal 2 => subst x)
    | (extract_lets -underBinder +onlyGivenNames x; clear_value x)
    | refine iteI (fun _ => ?_) (fun _ => ?_)
    | refine foldlI ?_ (fun _ _ _ => ?_)
    | apply keeps_sourceOff (hI.mono (by decide))
    | apply keeps_setB (hI.mono (by decide))
    | apply keeps_setGuard (hI.mono (by decide))
    | apply keeps_set (hI.mono (by decide))
    | apply keeps_setPwm (hI.mono (by decide))
    | apply keeps_joinCarrier (hI.mono (by decide))
    | (refine partMk hI ?_; first | assumption | refine sndEq ?_ (by assumption))
    | (intro t ht; beta_reduce)
    | (intro m; first | rfl | simp)

theorem keeps_carrierZero (hI : Keeps [.recent, .freeCtr, .sys, .log, .pod, .chan, .regs, .staged] I)
    (s : State) (x : Nat) (h_s : I s) : I (State.carrierZero s x) := by
  unfold State.carrierZero
  with_reducible repeat' first
    | assumption
    | (extract_lets -underBinder +onlyGivenNames x; have hx : I x := ?_; clear_value x; on_goal 2 => subst x)
    | (extract_lets -underBinder +onlyGivenNames x; clear_value x)
    | refine iteI (fun _ => ?_) (fun _ => ?_)
    | split
    | apply keeps_evaluateLegs (hI.mono (by decide))
    | apply keeps_pwmCommit (hI.mono (by decide))
    | apply keeps_setB (hI.mono (by decide))
    | apply keeps_clampCheck (hI.mono (by decide))
    | apply keeps_irq (hI.mono (by decide))
    | apply keeps_set (hI.mono (by decide))
    | apply keeps_setPwm (hI.mono (by decide))
    | apply keeps_showCompares (hI.mono (by decide))
    | apply keeps_pwmIndices (hI.mono (by decide))
    | apply keeps_enableEffect (hI.mono (by decide))
    | refine sndEq ?_ (by assumption)
    | refine fstEq ?_ (by assumption)
    | refine snd2Eq ?_ (by assumption)
    | refine snd3Eq ?_ (by assumption)
    | refine optEq ?_ (by assumption)
    | (refine partMk hI ?_; first | assumption | refine sndEq ?_ (by assumption))
    | (intro t ht; beta_reduce)
    | (intro m; first | rfl | simp)

theorem keeps_execCarrierZero (hI : Keeps [.now, .recent, .freeCtr, .sys, .log, .pod, .chan, .regs,
    .staged] I) (dt : Nat) (x : Fin 8) (s : State) (h_s : I s) : OutI I (execCarrierZero dt x s) := by
  unfold execCarrierZero
  with_reducible repeat' first
    | assumption
    | (extract_lets -underBinder +onlyGivenNames x; have hx : I x := ?_; clear_value x; on_goal 2 => subst x)
    | (extract_lets -underBinder +onlyGivenNames x; clear_value x)
    | refine outNext ?_
    | refine iteI (fun _ => ?_) (fun _ => ?_)
    | refine iteOutI (fun _ => ?_) (fun _ => ?_)
    | apply keeps_carrierZero (hI.mono (by decide))
    | apply keeps_elapse (hI.mono (by decide))

theorem keeps_execCarrierPeak (hI : Keeps [.now, .recent, .sys, .pod, .chan, .regs, .staged] I) (dt :
    Nat) (x : Fin 8) (s : State) (h_s : I s) : OutI I (execCarrierPeak dt x s) := by
  unfold execCarrierPeak
  with_reducible repeat' first
    | assumption
    | (extract_lets -underBinder +onlyGivenNames x; have hx : I x := ?_; clear_value x; on_goal 2 => subst x)
    | (extract_lets -underBinder +onlyGivenNames x; clear_value x)
    | refine outNext ?_
    | refine iteI (fun _ => ?_) (fun _ => ?_)
    | refine iteOutI (fun _ => ?_) (fun _ => ?_)
    | split
    | apply keeps_evaluateLegs (hI.mono (by decide))
    | apply keeps_pwmCommit (hI.mono (by decide))
    | apply keeps_clampCheck (hI.mono (by decide))
    | apply keeps_setPwm (hI.mono (by decide))
    | apply keeps_elapse (hI.mono (by decide))
    | apply keeps_showCompares (hI.mono (by decide))
    | apply keeps_pwmIndices (hI.mono (by decide))
    | refine sndEq ?_ (by assumption)
    | refine fstEq ?_ (by assumption)
    | refine snd2Eq ?_ (by assumption)
    | refine snd3Eq ?_ (by assumption)
    | refine optEq ?_ (by assumption)
    | (refine partMk hI ?_; first | assumption | refine sndEq ?_ (by assumption))
    | (intro t ht; beta_reduce)
    | (intro m; first | rfl | simp)

theorem keeps_execIdealEdge (hI : Keeps [.now, .recent, .pod, .chan, .regs] I) (dt : Nat) (x : Fin 8)
    (y : Fin 4) (s : State) (h_s : I s) : OutI I (execIdealEdge dt x y s) := by
  unfold execIdealEdge
  with_reducible repeat' first
    | assumption
    | (extract_lets -underBinder +onlyGivenNames x; have hx : I x := ?_; clear_value x; on_goal 2 => subst x)
    | (extract_lets -underBinder +onlyGivenNames x; clear_value x)
    | refine outNext ?_
    | refine iteI (fun _ => ?_) (fun _ => ?_)
    | refine iteOutI (fun _ => ?_) (fun _ => ?_)
    | apply keeps_deliver (hI.mono (by decide))
    | apply keeps_elapse (hI.mono (by decide))

theorem keeps_execScheduledSwitchOff (hI : Keeps [.now, .chan] I) (dt : Nat) (x : Fin 8) (y : Fin 4)
    (high : Bool) (s : State) (h_s : I s) : OutI I (execScheduledSwitchOff dt x y high s) := by
  unfold execScheduledSwitchOff
  with_reducible repeat' first
    | assumption
    | (extract_lets -underBinder +onlyGivenNames x; have hx : I x := ?_; clear_value x; on_goal 2 => subst x)
    | (extract_lets -underBinder +onlyGivenNames x; clear_value x)
    | refine outNext ?_
    | refine iteI (fun _ => ?_) (fun _ => ?_)
    | refine iteOutI (fun _ => ?_) (fun _ => ?_)
    | split
    | apply keeps_elapse (hI.mono (by decide))
    | apply keeps_setLeg (hI.mono (by decide))
    | refine sndEq ?_ (by assumption)
    | refine fstEq ?_ (by assumption)
    | refine snd2Eq ?_ (by assumption)
    | refine snd3Eq ?_ (by assumption)
    | refine optEq ?_ (by assumption)
    | (refine partMk hI ?_; first | assumption | refine sndEq ?_ (by assumption))
    | (intro t ht; beta_reduce)
    | (intro m; first | rfl | simp)

theorem keeps_execScheduledSwitchOn (hI : Keeps [.now, .chan] I) (dt : Nat) (x : Fin 8) (y : Fin 4)
    (high : Bool) (s : State) (h_s : I s) : OutI I (execScheduledSwitchOn dt x y high s) := by
  unfold execScheduledSwitchOn
  with_reducible repeat' first
    | assumption
    | (extract_lets -underBinder +onlyGivenNames x; have hx : I x := ?_; clear_value x; on_goal 2 => subst x)
    | (extract_lets -underBinder +onlyGivenNames x; clear_value x)
    | refine outNext ?_
    | refine iteI (fun _ => ?_) (fun _ => ?_)
    | refine iteOutI (fun _ => ?_) (fun _ => ?_)
    | apply keeps_elapse (hI.mono (by decide))
    | apply keeps_setLeg (hI.mono (by decide))
    | (refine partMk hI ?_; first | assumption | refine sndEq ?_ (by assumption))
    | (intro t ht; beta_reduce)
    | (intro m; first | rfl | simp)

theorem keeps_execBootstrapRefresh (hI : Keeps [.now, .recent, .pod, .chan, .regs] I) (dt : Nat) (x :
    Fin 8) (y : Fin 4) (s : State) (h_s : I s) : OutI I (execBootstrapRefresh dt x y s) := by
  unfold execBootstrapRefresh
  with_reducible repeat' first
    | assumption
    | (extract_lets -underBinder +onlyGivenNames x; have hx : I x := ?_; clear_value x; on_goal 2 => subst x)
    | (extract_lets -underBinder +onlyGivenNames x; clear_value x)
    | refine outNext ?_
    | refine iteI (fun _ => ?_) (fun _ => ?_)
    | refine iteOutI (fun _ => ?_) (fun _ => ?_)
    | apply keeps_irq (hI.mono (by decide))
    | apply keeps_inc (hI.mono (by decide))
    | apply keeps_elapse (hI.mono (by decide))
    | apply keeps_setLeg (hI.mono (by decide))
    | (refine partMk hI ?_; first | assumption | refine sndEq ?_ (by assumption))
    | (intro t ht; beta_reduce)
    | (intro m; first | rfl | simp)

theorem keeps_execRefreshEnd (hI : Keeps [.now, .chan] I) (dt : Nat) (x : Fin 8) (y : Fin 4) (s :
    State) (h_s : I s) : OutI I (execRefreshEnd dt x y s) := by
  unfold execRefreshEnd
  with_reducible repeat' first
    | assumption
    | (extract_lets -underBinder +onlyGivenNames x; have hx : I x := ?_; clear_value x; on_goal 2 => subst x)
    | (extract_lets -underBinder +onlyGivenNames x; clear_value x)
    | refine outNext ?_
    | refine iteI (fun _ => ?_) (fun _ => ?_)
    | refine iteOutI (fun _ => ?_) (fun _ => ?_)
    | split
    | apply keeps_elapse (hI.mono (by decide))
    | apply keeps_setLeg (hI.mono (by decide))
    | refine sndEq ?_ (by assumption)
    | refine fstEq ?_ (by assumption)
    | refine snd2Eq ?_ (by assumption)
    | refine snd3Eq ?_ (by assumption)
    | refine optEq ?_ (by assumption)
    | (refine partMk hI ?_; first | assumption | refine sndEq ?_ (by assumption))
    | (intro t ht; beta_reduce)
    | (intro m; first | rfl | simp)

theorem keeps_execShootThrough (hI : Keeps [.now, .recent, .log, .pod, .chan, .regs] I) (dt : Nat) (x :
    Fin 8) (y : Fin 4) (s : State) (h_s : I s) : OutI I (execShootThrough dt x y s) := by
  unfold execShootThrough
  with_reducible repeat' first
    | assumption
    | (extract_lets -underBinder +onlyGivenNames x; have hx : I x := ?_; clear_value x; on_goal 2 => subst x)
    | (extract_lets -underBinder +onlyGivenNames x; clear_value x)
    | refine outNext ?_
    | refine iteI (fun _ => ?_) (fun _ => ?_)
    | refine iteOutI (fun _ => ?_) (fun _ => ?_)
    | apply keeps_setMaskBit (hI.mono (by decide))
    | apply keeps_sourceOn (hI.mono (by decide))
    | apply keeps_irq (hI.mono (by decide))
    | apply keeps_elapse (hI.mono (by decide))
    | apply keeps_setLeg (hI.mono (by decide))
    | (refine partMk hI ?_; first | assumption | refine sndEq ?_ (by assumption))
    | (intro t ht; beta_reduce)
    | (intro m; first | rfl | simp)

theorem keeps_execPwmDisable (hI : Keeps [.now, .recent, .pod, .chan, .regs] I) (dt : Nat) (x : Fin 8)
    (s : State) (h_s : I s) : OutI I (execPwmDisable dt x s) := by
  unfold execPwmDisable
  with_reducible repeat' first
    | assumption
    | refine outNext ?_
    | apply keeps_hostAct (hI.mono (by decide))
    | apply keeps_pwmStop (hI.mono (by decide))
    | apply keeps_elapse (hI.mono (by decide))
    | (intro t ht; beta_reduce)
    | (intro m; first | rfl | simp)

theorem keeps_execPwmEnable (hI : Keeps [.now, .recent, .pod, .chan, .regs] I) (dt : Nat) (x : Fin 8)
    (s : State) (h_s : I s) : OutI I (execPwmEnable dt x s) := by
  unfold execPwmEnable
  with_reducible repeat' first
    | assumption
    | refine outNext ?_
    | apply keeps_hostAct (hI.mono (by decide))
    | apply keeps_pwmEnable (hI.mono (by decide))
    | apply keeps_elapse (hI.mono (by decide))
    | (intro t ht; beta_reduce)
    | (intro m; first | rfl | simp)

theorem keeps_cellJoin (hI : Keeps [.dblTable, .dblCapt, .recent, .log, .pod, .chan, .regs] I) (s :
    State) (x : Nat) (h_s : I s) : I (State.cellJoin s x) := by
  unfold State.cellJoin
  with_reducible repeat' first
    | assumption
    | refine iteI (fun _ => ?_) (fun _ => ?_)
    | apply keeps_requestJoin hI

theorem keeps_execCellJoin (hI : Keeps [.now, .dblTable, .dblCapt, .recent, .log, .pod, .chan, .regs]
    I) (dt : Nat) (x : Fin 8) (s : State) (h_s : I s) : OutI I (execCellJoin dt x s) := by
  unfold execCellJoin
  with_reducible repeat' first
    | assumption
    | refine outNext ?_
    | apply keeps_cellJoin (hI.mono (by decide))
    | apply keeps_hostAct (hI.mono (by decide))
    | apply keeps_elapse (hI.mono (by decide))
    | (intro t ht; beta_reduce)
    | (intro m; first | rfl | simp)

theorem keeps_execDcLinkQualify (hI : Keeps [.now, .dblTable, .dblCapt, .recent, .log, .pod, .chan,
    .regs] I) (dt : Nat) (x : Fin 8) (s : State) (h_s : I s) : OutI I (execDcLinkQualify dt x s) := by
  unfold execDcLinkQualify
  with_reducible repeat' first
    | assumption
    | (extract_lets -underBinder +onlyGivenNames x; have hx : I x := ?_; clear_value x; on_goal 2 => subst x)
    | (extract_lets -underBinder +onlyGivenNames x; clear_value x)
    | refine outNext ?_
    | refine iteI (fun _ => ?_) (fun _ => ?_)
    | refine iteOutI (fun _ => ?_) (fun _ => ?_)
    | split
    | apply keeps_keEnable (hI.mono (by decide))
    | apply keeps_joinKernelRuns (hI.mono (by decide))
    | apply keeps_joinCheck (hI.mono (by decide))
    | apply keeps_setB (hI.mono (by decide))
    | apply keeps_refuseJoin (hI.mono (by decide))
    | apply keeps_elapse (hI.mono (by decide))
    | apply keeps_cellEnter (hI.mono (by decide))
    | apply keeps_setCell (hI.mono (by decide))
    | refine sndEq ?_ (by assumption)
    | refine fstEq ?_ (by assumption)
    | refine snd2Eq ?_ (by assumption)
    | refine snd3Eq ?_ (by assumption)
    | refine optEq ?_ (by assumption)
    | (refine partMk hI ?_; first | assumption | refine sndEq ?_ (by assumption))
    | (intro t ht; beta_reduce)
    | (intro m; first | rfl | simp)

theorem keeps_execJoinKernelTimeout (hI : Keeps [.now, .recent, .pod, .chan, .regs] I) (dt : Nat) (x :
    Fin 8) (s : State) (h_s : I s) : OutI I (execJoinKernelTimeout dt x s) := by
  unfold execJoinKernelTimeout
  with_reducible repeat' first
    | assumption
    | (extract_lets -underBinder +onlyGivenNames x; have hx : I x := ?_; clear_value x; on_goal 2 => subst x)
    | (extract_lets -underBinder +onlyGivenNames x; clear_value x)
    | refine outNext ?_
    | refine iteI (fun _ => ?_) (fun _ => ?_)
    | refine iteOutI (fun _ => ?_) (fun _ => ?_)
    | apply keeps_refuseJoin (hI.mono (by decide))
    | apply keeps_elapse (hI.mono (by decide))
    | apply keeps_setCell (hI.mono (by decide))
    | (refine partMk hI ?_; first | assumption | refine sndEq ?_ (by assumption))
    | (intro t ht; beta_reduce)
    | (intro m; first | rfl | simp)

theorem keeps_cellLeave (hI : Keeps [.recent, .pod, .chan, .regs] I) (s : State) (x : Nat) (h_s : I s)
    : I (State.cellLeave s x) := by
  unfold State.cellLeave
  with_reducible repeat' first
    | assumption
    | (extract_lets -underBinder +onlyGivenNames x; have hx : I x := ?_; clear_value x; on_goal 2 => subst x)
    | (extract_lets -underBinder +onlyGivenNames x; clear_value x)
    | refine iteI (fun _ => ?_) (fun _ => ?_)
    | split
    | apply keeps_setB (hI.mono (by decide))
    | apply keeps_shellSync (hI.mono (by decide))
    | apply keeps_windowLost hI
    | apply keeps_cellEnter (hI.mono (by decide))
    | apply keeps_showOut (hI.mono (by decide))
    | apply keeps_dropScan (hI.mono (by decide))
    | apply keeps_setCell (hI.mono (by decide))
    | refine sndEq ?_ (by assumption)
    | refine fstEq ?_ (by assumption)
    | refine snd2Eq ?_ (by assumption)
    | refine snd3Eq ?_ (by assumption)
    | refine optEq ?_ (by assumption)
    | (refine partMk hI ?_; first | assumption | refine sndEq ?_ (by assumption))
    | (intro t ht; beta_reduce)
    | (intro m; first | rfl | simp)

theorem keeps_execCellLeave (hI : Keeps [.now, .recent, .pod, .chan, .regs] I) (dt : Nat) (x : Fin 8)
    (s : State) (h_s : I s) : OutI I (execCellLeave dt x s) := by
  unfold execCellLeave
  with_reducible repeat' first
    | assumption
    | refine outNext ?_
    | apply keeps_hostAct (hI.mono (by decide))
    | apply keeps_cellLeave (hI.mono (by decide))
    | apply keeps_elapse (hI.mono (by decide))
    | (intro t ht; beta_reduce)
    | (intro m; first | rfl | simp)

theorem keeps_execDcLinkLow (hI : Keeps [.now, .dblTable, .dblCapt, .recent, .log, .pod, .chan, .regs]
    I) (dt : Nat) (x : Fin 8) (s : State) (h_s : I s) : OutI I (execDcLinkLow dt x s) := by
  unfold execDcLinkLow
  with_reducible repeat' first
    | assumption
    | (extract_lets -underBinder +onlyGivenNames x; have hx : I x := ?_; clear_value x; on_goal 2 => subst x)
    | (extract_lets -underBinder +onlyGivenNames x; clear_value x)
    | refine outNext ?_
    | refine iteI (fun _ => ?_) (fun _ => ?_)
    | refine iteOutI (fun _ => ?_) (fun _ => ?_)
    | split
    | apply keeps_autoJoin (hI.mono (by decide))
    | apply keeps_elapse (hI.mono (by decide))
    | apply keeps_husk (hI.mono (by decide))
    | refine sndEq ?_ (by assumption)
    | refine fstEq ?_ (by assumption)
    | refine snd2Eq ?_ (by assumption)
    | refine snd3Eq ?_ (by assumption)
    | refine optEq ?_ (by assumption)
    | (refine partMk hI ?_; first | assumption | refine sndEq ?_ (by assumption))

theorem keeps_execEpochUpdatePoint (hI : Keeps [.now, .recent, .pod, .chan, .regs] I) (dt : Nat) (x :
    Fin 8) (s : State) (h_s : I s) : OutI I (execEpochUpdatePoint dt x s) := by
  unfold execEpochUpdatePoint
  with_reducible repeat' first
    | assumption
    | (extract_lets -underBinder +onlyGivenNames x; have hx : I x := ?_; clear_value x; on_goal 2 => subst x)
    | (extract_lets -underBinder +onlyGivenNames x; clear_value x)
    | refine outNext ?_
    | refine iteI (fun _ => ?_) (fun _ => ?_)
    | refine iteOutI (fun _ => ?_) (fun _ => ?_)
    | split
    | apply keeps_irq (hI.mono (by decide))
    | apply keeps_restartPo (hI.mono (by decide))
    | apply keeps_elapse (hI.mono (by decide))
    | apply keeps_enterRun (hI.mono (by decide))
    | apply keeps_cellEnter (hI.mono (by decide))
    | apply keeps_showOut (hI.mono (by decide))
    | apply keeps_startSubst (hI.mono (by decide))
    | apply keeps_husk (hI.mono (by decide))
    | apply keeps_dropScan (hI.mono (by decide))
    | apply keeps_setCell (hI.mono (by decide))
    | refine sndEq ?_ (by assumption)
    | refine fstEq ?_ (by assumption)
    | refine snd2Eq ?_ (by assumption)
    | refine snd3Eq ?_ (by assumption)
    | refine optEq ?_ (by assumption)
    | (refine partMk hI ?_; first | assumption | refine sndEq ?_ (by assumption))
    | (intro t ht; beta_reduce)
    | (intro m; first | rfl | simp)

theorem keeps_execCurtOn (hI : Keeps [.now, .recent, .pod, .chan, .regs] I) (dt : Nat) (x : Fin 8) (s :
    State) (h_s : I s) : OutI I (execCurtOn dt x s) := by
  unfold execCurtOn
  with_reducible repeat' first
    | assumption
    | (extract_lets -underBinder +onlyGivenNames x; have hx : I x := ?_; clear_value x; on_goal 2 => subst x)
    | (extract_lets -underBinder +onlyGivenNames x; clear_value x)
    | refine outNext ?_
    | refine iteI (fun _ => ?_) (fun _ => ?_)
    | refine iteOutI (fun _ => ?_) (fun _ => ?_)
    | split
    | apply keeps_setB (hI.mono (by decide))
    | apply keeps_irq (hI.mono (by decide))
    | apply keeps_shellSync (hI.mono (by decide))
    | apply keeps_restartPo (hI.mono (by decide))
    | apply keeps_elapse (hI.mono (by decide))
    | apply keeps_dropScan (hI.mono (by decide))
    | refine sndEq ?_ (by assumption)
    | refine fstEq ?_ (by assumption)
    | refine snd2Eq ?_ (by assumption)
    | refine snd3Eq ?_ (by assumption)
    | refine optEq ?_ (by assumption)
    | (refine partMk hI ?_; first | assumption | refine sndEq ?_ (by assumption))

theorem keeps_execCurtOff (hI : Keeps [.now, .recent, .pod, .chan, .regs] I) (dt : Nat) (x : Fin 8) (s
    : State) (h_s : I s) : OutI I (execCurtOff dt x s) := by
  unfold execCurtOff
  with_reducible repeat' first
    | assumption
    | (extract_lets -underBinder +onlyGivenNames x; have hx : I x := ?_; clear_value x; on_goal 2 => subst x)
    | (extract_lets -underBinder +onlyGivenNames x; clear_value x)
    | refine outNext ?_
    | refine iteI (fun _ => ?_) (fun _ => ?_)
    | refine iteOutI (fun _ => ?_) (fun _ => ?_)
    | split
    | apply keeps_scanTry (hI.mono (by decide))
    | apply keeps_reform (hI.mono (by decide))
    | apply keeps_setB (hI.mono (by decide))
    | apply keeps_irq (hI.mono (by decide))
    | apply keeps_shellSync (hI.mono (by decide))
    | apply keeps_restartPo (hI.mono (by decide))
    | apply keeps_elapse (hI.mono (by decide))
    | refine sndEq ?_ (by assumption)
    | refine fstEq ?_ (by assumption)
    | refine snd2Eq ?_ (by assumption)
    | refine snd3Eq ?_ (by assumption)
    | refine optEq ?_ (by assumption)
    | (refine partMk hI ?_; first | assumption | refine sndEq ?_ (by assumption))

theorem keeps_execShellDue (hI : Keeps [.now, .recent, .chan, .regs] I) (dt : Nat) (x : Fin 8) (s :
    State) (h_s : I s) : OutI I (execShellDue dt x s) := by
  unfold execShellDue
  with_reducible repeat' first
    | assumption
    | (extract_lets -underBinder +onlyGivenNames x; have hx : I x := ?_; clear_value x; on_goal 2 => subst x)
    | (extract_lets -underBinder +onlyGivenNames x; clear_value x)
    | refine outNext ?_
    | refine iteI (fun _ => ?_) (fun _ => ?_)
    | refine iteOutI (fun _ => ?_) (fun _ => ?_)
    | apply keeps_shellSync (hI.mono (by decide))
    | apply keeps_elapse (hI.mono (by decide))

theorem keeps_shellNow (hI : Keeps [.recent, .chan, .regs] I) (s : State) (x : Nat) (h_s : I s) : I
    (State.shellNow s x) := by
  unfold State.shellNow
  with_reducible repeat' first
    | assumption
    | (extract_lets -underBinder +onlyGivenNames x; have hx : I x := ?_; clear_value x; on_goal 2 => subst x)
    | (extract_lets -underBinder +onlyGivenNames x; clear_value x)
    | refine iteI (fun _ => ?_) (fun _ => ?_)
    | apply keeps_setB (hI.mono (by decide))
    | apply keeps_shellSync hI
    | apply keeps_setCell (hI.mono (by decide))
    | (refine partMk hI ?_; first | assumption | refine sndEq ?_ (by assumption))
    | (intro t ht; beta_reduce)
    | (intro m; first | rfl | simp)

theorem keeps_execShellNow (hI : Keeps [.now, .recent, .pod, .chan, .regs] I) (dt : Nat) (x : Fin 8) (s
    : State) (h_s : I s) : OutI I (execShellNow dt x s) := by
  unfold execShellNow
  with_reducible repeat' first
    | assumption
    | refine outNext ?_
    | apply keeps_hostAct (hI.mono (by decide))
    | apply keeps_shellNow (hI.mono (by decide))
    | apply keeps_elapse (hI.mono (by decide))
    | (intro t ht; beta_reduce)
    | (intro m; first | rfl | simp)

theorem keeps_execShellBlockEnd (hI : Keeps [.now, .recent, .pod, .chan, .regs] I) (dt : Nat) (x : Fin
    8) (s : State) (h_s : I s) : OutI I (execShellBlockEnd dt x s) := by
  unfold execShellBlockEnd
  with_reducible repeat' first
    | assumption
    | (extract_lets -underBinder +onlyGivenNames x; have hx : I x := ?_; clear_value x; on_goal 2 => subst x)
    | (extract_lets -underBinder +onlyGivenNames x; clear_value x)
    | refine outNext ?_
    | refine iteI (fun _ => ?_) (fun _ => ?_)
    | refine iteOutI (fun _ => ?_) (fun _ => ?_)
    | split
    | apply keeps_validVoc (hI.mono (by decide))
    | apply keeps_elapse (hI.mono (by decide))
    | apply keeps_endWindow (hI.mono (by decide))
    | apply keeps_setCell (hI.mono (by decide))
    | refine sndEq ?_ (by assumption)
    | refine fstEq ?_ (by assumption)
    | refine snd2Eq ?_ (by assumption)
    | refine snd3Eq ?_ (by assumption)
    | refine optEq ?_ (by assumption)
    | (refine partMk hI ?_; first | assumption | refine sndEq ?_ (by assumption))
    | (intro t ht; beta_reduce)
    | (intro m; first | rfl | simp)

theorem keeps_execShellTimeout (hI : Keeps [.now, .recent, .pod, .chan, .regs] I) (dt : Nat) (x : Fin
    8) (s : State) (h_s : I s) : OutI I (execShellTimeout dt x s) := by
  unfold execShellTimeout
  with_reducible repeat' first
    | assumption
    | (extract_lets -underBinder +onlyGivenNames x; have hx : I x := ?_; clear_value x; on_goal 2 => subst x)
    | (extract_lets -underBinder +onlyGivenNames x; clear_value x)
    | refine outNext ?_
    | refine iteI (fun _ => ?_) (fun _ => ?_)
    | refine iteOutI (fun _ => ?_) (fun _ => ?_)
    | split
    | apply keeps_elapse (hI.mono (by decide))
    | apply keeps_endWindow (hI.mono (by decide))
    | refine sndEq ?_ (by assumption)
    | refine fstEq ?_ (by assumption)
    | refine snd2Eq ?_ (by assumption)
    | refine snd3Eq ?_ (by assumption)
    | refine optEq ?_ (by assumption)
    | (refine partMk hI ?_; first | assumption | refine sndEq ?_ (by assumption))

theorem keeps_execShellCloseTimeout (hI : Keeps [.now, .recent, .log, .chan, .regs] I) (dt : Nat) (x :
    Fin 8) (s : State) (h_s : I s) : OutI I (execShellCloseTimeout dt x s) := by
  unfold execShellCloseTimeout
  with_reducible repeat' first
    | assumption
    | (extract_lets -underBinder +onlyGivenNames x; have hx : I x := ?_; clear_value x; on_goal 2 => subst x)
    | (extract_lets -underBinder +onlyGivenNames x; clear_value x)
    | refine outNext ?_
    | refine iteI (fun _ => ?_) (fun _ => ?_)
    | refine iteOutI (fun _ => ?_) (fun _ => ?_)
    | split
    | apply keeps_logIt (hI.mono (by decide))
    | apply keeps_elapse (hI.mono (by decide))
    | apply keeps_setCell (hI.mono (by decide))
    | refine sndEq ?_ (by assumption)
    | refine fstEq ?_ (by assumption)
    | refine snd2Eq ?_ (by assumption)
    | refine snd3Eq ?_ (by assumption)
    | refine optEq ?_ (by assumption)
    | (refine partMk hI ?_; first | assumption | refine sndEq ?_ (by assumption))
    | (intro t ht; beta_reduce)
    | (intro m; first | rfl | simp)

theorem keeps_execPoPeriodEnd (hI : Keeps [.now, .freeCtr, .chan, .regs] I) (dt : Nat) (x : Fin 8) (s :
    State) (h_s : I s) : OutI I (execPoPeriodEnd dt x s) := by
  unfold execPoPeriodEnd
  with_reducible repeat' first
    | assumption
    | (extract_lets -underBinder +onlyGivenNames x; have hx : I x := ?_; clear_value x; on_goal 2 => subst x)
    | (extract_lets -underBinder +onlyGivenNames x; clear_value x)
    | refine outNext ?_
    | refine iteI (fun _ => ?_) (fun _ => ?_)
    | refine iteOutI (fun _ => ?_) (fun _ => ?_)
    | split
    | apply keeps_reform (hI.mono (by decide))
    | apply keeps_fresh (hI.mono (by decide))
    | apply keeps_restartPo (hI.mono (by decide))
    | apply keeps_setSat (hI.mono (by decide))
    | apply keeps_elapse (hI.mono (by decide))
    | apply keeps_setI (hI.mono (by decide))
    | apply keeps_setCell (hI.mono (by decide))
    | refine sndEq ?_ (by assumption)
    | refine fstEq ?_ (by assumption)
    | refine snd2Eq ?_ (by assumption)
    | refine snd3Eq ?_ (by assumption)
    | refine optEq ?_ (by assumption)
    | (refine partMk hI ?_; first | assumption | refine sndEq ?_ (by assumption))
    | (intro t ht; beta_reduce)
    | (intro m; first | rfl | simp)

theorem keeps_execScanDue (hI : Keeps [.now, .recent, .chan, .regs] I) (dt : Nat) (x : Fin 8) (s :
    State) (h_s : I s) : OutI I (execScanDue dt x s) := by
  unfold execScanDue
  with_reducible repeat' first
    | assumption
    | (extract_lets -underBinder +onlyGivenNames x; have hx : I x := ?_; clear_value x; on_goal 2 => subst x)
    | (extract_lets -underBinder +onlyGivenNames x; clear_value x)
    | refine outNext ?_
    | refine iteI (fun _ => ?_) (fun _ => ?_)
    | refine iteOutI (fun _ => ?_) (fun _ => ?_)
    | apply keeps_scanTry (hI.mono (by decide))
    | apply keeps_elapse (hI.mono (by decide))

theorem keeps_scanNow (hI : Keeps [.recent, .chan, .regs] I) (s : State) (x : Nat) (h_s : I s) : I
    (State.scanNow s x) := by
  unfold State.scanNow
  with_reducible repeat' first
    | assumption
    | (extract_lets -underBinder +onlyGivenNames x; have hx : I x := ?_; clear_value x; on_goal 2 => subst x)
    | (extract_lets -underBinder +onlyGivenNames x; clear_value x)
    | refine iteI (fun _ => ?_) (fun _ => ?_)
    | apply keeps_scanTry hI
    | apply keeps_setB (hI.mono (by decide))
    | apply keeps_setCell (hI.mono (by decide))
    | (refine partMk hI ?_; first | assumption | refine sndEq ?_ (by assumption))
    | (intro t ht; beta_reduce)
    | (intro m; first | rfl | simp)

theorem keeps_execScanNow (hI : Keeps [.now, .recent, .pod, .chan, .regs] I) (dt : Nat) (x : Fin 8) (s
    : State) (h_s : I s) : OutI I (execScanNow dt x s) := by
  unfold execScanNow
  with_reducible repeat' first
    | assumption
    | refine outNext ?_
    | apply keeps_hostAct (hI.mono (by decide))
    | apply keeps_scanNow (hI.mono (by decide))
    | apply keeps_elapse (hI.mono (by decide))
    | (intro t ht; beta_reduce)
    | (intro m; first | rfl | simp)

theorem keeps_anyOf (hI : Keeps [.freeCtr] I) {α : Type} (s : State) (l : List α) (d : α) (h_s : I s) :
    I (State.anyOf s l d).2 := by
  unfold State.anyOf
  with_reducible repeat' first
    | assumption
    | (extract_lets -underBinder +onlyGivenNames x; have hx : I x := ?_; clear_value x; on_goal 2 => subst x)
    | (extract_lets -underBinder +onlyGivenNames x; clear_value x)
    | refine iteI (fun _ => ?_) (fun _ => ?_)
    | split
    | apply keeps_fresh hI
    | refine sndEq ?_ (by assumption)
    | refine fstEq ?_ (by assumption)
    | refine snd2Eq ?_ (by assumption)
    | refine snd3Eq ?_ (by assumption)
    | refine optEq ?_ (by assumption)

theorem keeps_scanEnd (hI : Keeps [.recent, .freeCtr, .pod, .chan, .regs] I) (s : State) (x : Nat)
    (done : List (Int × Rat)) (h_s : I s) : I (State.scanEnd s x done) := by
  unfold State.scanEnd
  with_reducible repeat' first
    | assumption
    | (extract_lets -underBinder +onlyGivenNames x; have hx : I x := ?_; clear_value x; on_goal 2 => subst x)
    | (extract_lets -underBinder +onlyGivenNames x; have hfn : ∀ (t : State) (a b : Nat), I t → I (x t a b).1 := ?_; clear_value x; on_goal 2 => subst x)
    | (extract_lets -underBinder +onlyGivenNames x; have hfn : ∀ (t : State) (a : Nat), I t → I (x t a) := ?_; clear_value x; on_goal 2 => subst x)
    | (extract_lets -underBinder +onlyGivenNames x; have hfn : ∀ (t : State), I t → I (x t) := ?_; clear_value x; on_goal 2 => subst x)
    | (extract_lets -underBinder +onlyGivenNames x; have hfn : ∀ (t : State) (a b : Bool), I t → I (x t a b) := ?_; clear_value x; on_goal 2 => subst x)
    | apply hfn
    | (intro t a b ht; beta_reduce)
    | (intro t a ht; beta_reduce)
    | (extract_lets -underBinder +onlyGivenNames x; clear_value x)
    | refine iteI (fun _ => ?_) (fun _ => ?_)
    | split
    | refine foldlI ?_ (fun _ _ _ => ?_)
    | refine foldlI2 ?_ (fun _ _ _ => ?_)
    | refine foldlI3 ?_ (fun _ _ _ => ?_)
    | refine foldlI1 ?_ (fun _ _ _ => ?_)
    | apply keeps_reform (hI.mono (by decide))
    | apply keeps_setB (hI.mono (by decide))
    | apply keeps_irq (hI.mono (by decide))
    | apply keeps_set (hI.mono (by decide))
    | apply keeps_shellSync (hI.mono (by decide))
    | apply keeps_inc (hI.mono (by decide))
    | apply keeps_restartPo (hI.mono (by decide))
    | apply keeps_setI (hI.mono (by decide))
    | apply keeps_anyOf (hI.mono (by decide))
    | apply keeps_setCell (hI.mono (by decide))
    | refine sndEq ?_ (by assumption)
    | refine fstEq ?_ (by assumption)
    | refine snd2Eq ?_ (by assumption)
    | refine snd3Eq ?_ (by assumption)
    | refine optEq ?_ (by assumption)
    | (refine partMk hI ?_; first | assumption | refine sndEq ?_ (by assumption))
    | (intro t ht; beta_reduce)
    | (intro m; first | rfl | simp)

theorem keeps_execScanDwellEnd (hI : Keeps [.now, .recent, .freeCtr, .pod, .chan, .regs] I) (dt : Nat)
    (x : Fin 8) (s : State) (h_s : I s) : OutI I (execScanDwellEnd dt x s) := by
  unfold execScanDwellEnd
  with_reducible repeat' first
    | assumption
    | (extract_lets -underBinder +onlyGivenNames x; have hx : I x := ?_; clear_value x; on_goal 2 => subst x)
    | (extract_lets -underBinder +onlyGivenNames x; clear_value x)
    | refine outNext ?_
    | refine iteI (fun _ => ?_) (fun _ => ?_)
    | refine iteOutI (fun _ => ?_) (fun _ => ?_)
    | split
    | apply keeps_fresh (hI.mono (by decide))
    | apply keeps_scanEnd (hI.mono (by decide))
    | apply keeps_elapse (hI.mono (by decide))
    | apply keeps_setI (hI.mono (by decide))
    | apply keeps_setCell (hI.mono (by decide))
    | refine sndEq ?_ (by assumption)
    | refine fstEq ?_ (by assumption)
    | refine snd2Eq ?_ (by assumption)
    | refine snd3Eq ?_ (by assumption)
    | refine optEq ?_ (by assumption)
    | (refine partMk hI ?_; first | assumption | refine sndEq ?_ (by assumption))
    | (intro t ht; beta_reduce)
    | (intro m; first | rfl | simp)

theorem keeps_cellGrant (hI : Keeps [.recent, .chan, .regs] I) (s : State) (x kind epoch : Nat) (h_s :
    I s) : I (State.cellGrant s x kind epoch) := by
  unfold State.cellGrant
  with_reducible repeat' first
    | assumption
    | (extract_lets -underBinder +onlyGivenNames x; have hx : I x := ?_; clear_value x; on_goal 2 => subst x)
    | (extract_lets -underBinder +onlyGivenNames x; clear_value x)
    | refine iteI (fun _ => ?_) (fun _ => ?_)
    | apply keeps_set (hI.mono (by decide))
    | apply keeps_shellSync hI
    | apply keeps_inc (hI.mono (by decide))
    | apply keeps_setCell (hI.mono (by decide))
    | (refine partMk hI ?_; first | assumption | refine sndEq ?_ (by assumption))
    | (intro t ht; beta_reduce)
    | (intro m; first | rfl | simp)

theorem keeps_cellRide (hI : Keeps [.recent, .pod, .chan, .regs] I) (s : State) (x : Nat) (h_s : I s) :
    I (State.cellRide s x) := by
  unfold State.cellRide
  with_reducible repeat' first
    | assumption
    | (extract_lets -underBinder +onlyGivenNames x; have hx : I x := ?_; clear_value x; on_goal 2 => subst x)
    | (extract_lets -underBinder +onlyGivenNames x; clear_value x)
    | refine iteI (fun _ => ?_) (fun _ => ?_)
    | split
    | apply keeps_endWindow hI
    | apply keeps_setCell (hI.mono (by decide))
    | refine sndEq ?_ (by assumption)
    | refine fstEq ?_ (by assumption)
    | refine snd2Eq ?_ (by assumption)
    | refine snd3Eq ?_ (by assumption)
    | refine optEq ?_ (by assumption)
    | (refine partMk hI ?_; first | assumption | refine sndEq ?_ (by assumption))
    | (intro t ht; beta_reduce)
    | (intro m; first | rfl | simp)

end Sys2Proof.Machine
end

