-- ==== Sys2Proof/Laws/KeepsSensors.lean ====
section
/-! SUPPORT. Which parts of the state may change in the operations and the commands of the ring core, the converters, the grid inputs and the safety functions. -/

set_option linter.unusedTactic false
set_option linter.unreachableTactic false

namespace Sys2Proof.Machine

-- One proof after another: many at once wait for the same equations, each in a thread of its own.
set_option Elab.async false

variable {I : State → Prop}

theorem keeps_setPort (hI : Keeps [.ring] I) (s : State) (p : Nat) (f : PortSt → PortSt) (h_s : I s) :
    I (State.setPort s p f) := by
  unfold State.setPort
  with_reducible repeat' first
    | assumption
    | (extract_lets -underBinder +onlyGivenNames x; have hx : I x := ?_; clear_value x; on_goal 2 => subst x)
    | (extract_lets -underBinder +onlyGivenNames x; have _p : RingSt := x; clear _p; subst x)
    | (extract_lets -underBinder +onlyGivenNames x; clear_value x)
    | (refine partMk hI ?_; first | assumption | refine sndEq ?_ (by assumption))

theorem keeps_enqueue (hI : Keeps [.recent, .ring, .regs] I) (s : State) (p : Nat) (f : Frame) (h_s : I
    s) : I (State.enqueue s p f) := by
  unfold State.enqueue
  with_reducible repeat' first
    | assumption
    | (extract_lets -underBinder +onlyGivenNames x; have hx : I x := ?_; clear_value x; on_goal 2 => subst x)
    | (extract_lets -underBinder +onlyGivenNames x; clear_value x)
    | refine iteI (fun _ => ?_) (fun _ => ?_)
    | split
    | refine foldlI ?_ (fun _ _ _ => ?_)
    | apply keeps_setPort (hI.mono (by decide))
    | apply keeps_inc (hI.mono (by decide))
    | refine sndEq ?_ (by assumption)
    | refine fstEq ?_ (by assumption)
    | refine snd2Eq ?_ (by assumption)
    | refine snd3Eq ?_ (by assumption)
    | refine optEq ?_ (by assumption)
    | (refine partMk hI ?_; first | assumption | refine sndEq ?_ (by assumption))
    | (intro t ht; beta_reduce)
    | (intro m; first | rfl | simp)

theorem keeps_takeSeq (hI : Keeps [.ring, .regs] I) (s : State) (tc : Nat) (h_s : I s) : I
    (State.takeSeq s tc).2 := by
  unfold State.takeSeq
  with_reducible repeat' first
    | assumption
    | (extract_lets -underBinder +onlyGivenNames x; have hx : I x := ?_; clear_value x; on_goal 2 => subst x)
    | (extract_lets -underBinder +onlyGivenNames x; have _p : RingSt := x; clear _p; subst x)
    | (extract_lets -underBinder +onlyGivenNames x; clear_value x)
    | apply keeps_set (hI.mono (by decide))
    | (refine partMk hI ?_; first | assumption | refine sndEq ?_ (by assumption))
    | (intro t ht; beta_reduce)
    | (intro m; first | rfl | simp)

theorem keeps_sendTunnel (hI : Keeps [.recent, .eth, .regs] I) (s : State) (f : Frame) (h_s : I s) : I
    (State.sendTunnel s f) := by
  unfold State.sendTunnel
  with_reducible repeat' first
    | assumption
    | (extract_lets -underBinder +onlyGivenNames x; have hx : I x := ?_; clear_value x; on_goal 2 => subst x)
    | (extract_lets -underBinder +onlyGivenNames x; clear_value x)
    | apply keeps_inc (hI.mono (by decide))
    | (refine partMk hI ?_; first | assumption | refine sndEq ?_ (by assumption))

theorem keeps_sendUnicast (hI : Keeps [.recent, .ring, .eth, .regs] I) (s : State) (f : Frame) (h_s : I
    s) : I (State.sendUnicast s f).1 := by
  unfold State.sendUnicast
  with_reducible repeat' first
    | assumption
    | (extract_lets -underBinder +onlyGivenNames x; have hx : I x := ?_; clear_value x; on_goal 2 => subst x)
    | (extract_lets -underBinder +onlyGivenNames x; clear_value x)
    | refine iteI (fun _ => ?_) (fun _ => ?_)
    | split
    | apply keeps_enqueue (hI.mono (by decide))
    | apply keeps_sendTunnel (hI.mono (by decide))
    | apply keeps_inc (hI.mono (by decide))

theorem keeps_sendGroup (hI : Keeps [.recent, .ring, .regs] I) (s : State) (f : Frame) (h_s : I s) : I
    (State.sendGroup s f).1 := by
  unfold State.sendGroup
  with_reducible repeat' first
    | assumption
    | (extract_lets -underBinder +onlyGivenNames x; have hx : I x := ?_; clear_value x; on_goal 2 => subst x)
    | (extract_lets -underBinder +onlyGivenNames x; have hfn : ∀ (t : State) (a b : Nat), I t → I (x t a b).1 := ?_; clear_value x; on_goal 2 => subst x)
    | (extract_lets -underBinder +onlyGivenNames x; have hfn : ∀ (t : State) (a : Nat), I t → I (x t a) := ?_; clear_value x; on_goal 2 => subst x)
    | (extract_lets -underBinder +onlyGivenNames x; have hfn : ∀ (t : State), I t → I (x t) := ?_; clear_value x; on_goal 2 => subst x)
    | (extract_lets -underBinder +onlyGivenNames x; have hfn : ∀ (t : State) (a b : Bool), I t → I (x t a b) := ?_; clear_value x; on_goal 2 => subst x)
    | apply hfn
    | (intro t a b ht; beta_reduce)
    | (intro t a ht; beta_reduce)
    | (extract_lets -underBinder +onlyGivenNames x; clear_value x)
    | refine iteI (fun _ => ?_) (fun _ => ?_)
    | split
    | apply keeps_enqueue hI
    | refine sndEq ?_ (by assumption)
    | refine fstEq ?_ (by assumption)
    | refine snd2Eq ?_ (by assumption)
    | refine snd3Eq ?_ (by assumption)
    | refine optEq ?_ (by assumption)
    | (refine partMk hI ?_; first | assumption | refine sndEq ?_ (by assumption))

theorem keeps_deliverTo (hI : Keeps [.ring] I) (s : State) (d : Delivery) (h_s : I s) : I
    (State.deliverTo s d) := by
  unfold State.deliverTo
  with_reducible repeat' first
    | assumption
    | (extract_lets -underBinder +onlyGivenNames x; have hx : I x := ?_; clear_value x; on_goal 2 => subst x)
    | (extract_lets -underBinder +onlyGivenNames x; have _p : RingSt := x; clear _p; subst x)
    | (extract_lets -underBinder +onlyGivenNames x; clear_value x)
    | (refine partMk hI ?_; first | assumption | refine sndEq ?_ (by assumption))

theorem keeps_takeInbox (hI : Keeps [.ring] I) (s : State) (p : Delivery → Bool) (h_s : I s) : OptI I
    (State.takeInbox s p) := by
  unfold State.takeInbox
  with_reducible repeat' first
    | assumption
    | (extract_lets -underBinder +onlyGivenNames x; have hx : I x := ?_; clear_value x; on_goal 2 => subst x)
    | (extract_lets -underBinder +onlyGivenNames x; have _p : RingSt := x; clear _p; subst x)
    | (extract_lets -underBinder +onlyGivenNames x; clear_value x)
    | exact optNone
    | refine optSome ?_
    | split
    | refine sndEq ?_ (by assumption)
    | refine fstEq ?_ (by assumption)
    | refine snd2Eq ?_ (by assumption)
    | refine snd3Eq ?_ (by assumption)
    | refine optEq ?_ (by assumption)
    | (refine partMk hI ?_; first | assumption | refine sndEq ?_ (by assumption))

theorem keeps_sendFrame (hI : Keeps [.recent, .ring, .eth, .regs] I) (s : State) (f : Frame) (h_s : I
    s) : I (State.sendFrame s f).1 := by
  unfold State.sendFrame
  with_reducible repeat' first
    | assumption
    | (extract_lets -underBinder +onlyGivenNames x; have hx : I x := ?_; clear_value x; on_goal 2 => subst x)
    | (extract_lets -underBinder +onlyGivenNames x; clear_value x)
    | refine iteI (fun _ => ?_) (fun _ => ?_)
    | split
    | apply keeps_sendUnicast hI
    | apply keeps_deliverTo (hI.mono (by decide))
    | apply keeps_sendGroup (hI.mono (by decide))

theorem keeps_sendOwn (hI : Keeps [.recent, .ring, .eth, .regs] I) (s : State) (tc kind : Nat) (grp exp
    : Bool) (dst : Nat) (payload : List Nat) (queue : Nat) (h_s : I s) : I (State.sendOwn s tc kind grp
    exp dst payload queue).1 := by
  unfold State.sendOwn
  with_reducible repeat' first
    | assumption
    | (extract_lets -underBinder +onlyGivenNames x; have hx : I x := ?_; clear_value x; on_goal 2 => subst x)
    | (extract_lets -underBinder +onlyGivenNames x; clear_value x)
    | split
    | apply keeps_takeSeq (hI.mono (by decide))
    | apply keeps_sendFrame hI
    | refine sndEq ?_ (by assumption)
    | refine fstEq ?_ (by assumption)
    | refine snd2Eq ?_ (by assumption)
    | refine snd3Eq ?_ (by assumption)
    | refine optEq ?_ (by assumption)

theorem keeps_setCapt (hI : Keeps [.capt] I) (s : State) (x : Nat) (f : CaptSt → CaptSt) (h_s : I s) :
    I (State.setCapt s x f) := by
  unfold State.setCapt
  with_reducible repeat' first
    | assumption
    | (extract_lets -underBinder +onlyGivenNames x; have hx : I x := ?_; clear_value x; on_goal 2 => subst x)
    | (extract_lets -underBinder +onlyGivenNames x; clear_value x)
    | (refine partMk hI ?_; first | assumption | refine sndEq ?_ (by assumption))

theorem keeps_captTrigger (hI : Keeps [.recent, .capt, .regs] I) (s : State) (x t cause : Nat) (h_s : I
    s) : I (State.captTrigger s x t cause) := by
  unfold State.captTrigger
  with_reducible repeat' first
    | assumption
    | (extract_lets -underBinder +onlyGivenNames x; have hx : I x := ?_; clear_value x; on_goal 2 => subst x)
    | (extract_lets -underBinder +onlyGivenNames x; clear_value x)
    | refine iteI (fun _ => ?_) (fun _ => ?_)
    | apply keeps_setCapt (hI.mono (by decide))
    | apply keeps_inc (hI.mono (by decide))
    | (refine partMk hI ?_; first | assumption | refine sndEq ?_ (by assumption))
    | (intro t ht; beta_reduce)
    | (intro m; first | rfl | simp)

theorem keeps_offerTrigger (hI : Keeps [.recent, .capt, .regs] I) (s : State) (src t : Nat) (ok : State
    → Nat → Bool) (h_s : I s) : I (State.offerTrigger s src t ok) := by
  unfold State.offerTrigger
  with_reducible repeat' first
    | assumption
    | refine iteI (fun _ => ?_) (fun _ => ?_)
    | refine foldlI ?_ (fun _ _ _ => ?_)
    | apply keeps_captTrigger hI
    | (intro t ht; beta_reduce)
    | (intro m; first | rfl | simp)

theorem keeps_setSense (hI : Keeps [.chan] I) (s : State) (x : Nat) (f : SenseSt → SenseSt) (h_s : I s)
    : I (State.setSense s x f) := by
  unfold State.setSense
  with_reducible repeat' first
    | assumption
    | (extract_lets -underBinder +onlyGivenNames x; have hx : I x := ?_; clear_value x; on_goal 2 => subst x)
    | (extract_lets -underBinder +onlyGivenNames x; clear_value x)
    | apply keeps_setCh hI
    | (refine partMk hI ?_; first | assumption | refine sndEq ?_ (by assumption))
    | (intro t ht; beta_reduce)
    | (intro m; first | rfl | simp)

theorem keeps_setIn (hI : Keeps [.chan] I) (s : State) (x n : Nat) (f : SdIn → SdIn) (h_s : I s) : I
    (State.setIn s x n f) := by
  unfold State.setIn
  with_reducible repeat' first
    | assumption
    | (extract_lets -underBinder +onlyGivenNames x; have hx : I x := ?_; clear_value x; on_goal 2 => subst x)
    | (extract_lets -underBinder +onlyGivenNames x; clear_value x)
    | apply keeps_setSense hI
    | (refine partMk hI ?_; first | assumption | refine sndEq ?_ (by assumption))
    | (intro t ht; beta_reduce)
    | (intro m; first | rfl | simp)

theorem keeps_setCmpRun (hI : Keeps [.chan] I) (s : State) (x m v : Nat) (h_s : I s) : I
    (State.setCmpRun s x m v) := by
  unfold State.setCmpRun
  with_reducible repeat' first
    | assumption
    | (extract_lets -underBinder +onlyGivenNames x; have hx : I x := ?_; clear_value x; on_goal 2 => subst x)
    | (extract_lets -underBinder +onlyGivenNames x; clear_value x)
    | refine iteI (fun _ => ?_) (fun _ => ?_)
    | apply keeps_setIn hI
    | (refine partMk hI ?_; first | assumption | refine sndEq ?_ (by assumption))
    | (intro t ht; beta_reduce)
    | (intro m; first | rfl | simp)

theorem keeps_cmpAssert (hI : Keeps [.recent, .log, .pod, .chan, .capt, .regs] I) (s : State) (x m :
    Nat) (h_s : I s) : I (State.cmpAssert s x m) := by
  unfold State.cmpAssert
  with_reducible repeat' first
    | assumption
    | (extract_lets -underBinder +onlyGivenNames x; have hx : I x := ?_; clear_value x; on_goal 2 => subst x)
    | (extract_lets -underBinder +onlyGivenNames x; clear_value x)
    | apply keeps_offerTrigger (hI.mono (by decide))
    | apply keeps_sourceOn (hI.mono (by decide))
    | apply keeps_irq (hI.mono (by decide))
    | apply keeps_setCmpRun (hI.mono (by decide))
    | apply keeps_setMaskBit (hI.mono (by decide))
    | (intro t ht; beta_reduce)
    | (intro m; first | rfl | simp)

theorem keeps_cmpRelease (hI : Keeps [.recent, .log, .pod, .chan, .regs] I) (s : State) (x m : Nat)
    (h_s : I s) : I (State.cmpRelease s x m) := by
  unfold State.cmpRelease
  with_reducible repeat' first
    | assumption
    | (extract_lets -underBinder +onlyGivenNames x; have hx : I x := ?_; clear_value x; on_goal 2 => subst x)
    | (extract_lets -underBinder +onlyGivenNames x; clear_value x)
    | refine iteI (fun _ => ?_) (fun _ => ?_)
    | apply keeps_sourceOff hI
    | apply keeps_setCmpRun (hI.mono (by decide))
    | apply keeps_putMaskBit (hI.mono (by decide))

theorem keeps_cmpStop (hI : Keeps [.recent, .log, .pod, .chan, .regs] I) (s : State) (x n : Nat) (h_s :
    I s) : I (State.cmpStop s x n) := by
  unfold State.cmpStop
  with_reducible repeat' first
    | assumption
    | apply keeps_cmpRelease hI

theorem keeps_capture (hI : Keeps [.chan] I) (s : State) (x n : Nat) (b : Bool) (h_s : I s) : I
    (State.capture s x n b) := by
  unfold State.capture
  with_reducible repeat' first
    | assumption
    | (extract_lets -underBinder +onlyGivenNames x; have hx : I x := ?_; clear_value x; on_goal 2 => subst x)
    | (extract_lets -underBinder +onlyGivenNames x; clear_value x)
    | refine iteI (fun _ => ?_) (fun _ => ?_)
    | refine foldlI ?_ (fun _ _ _ => ?_)
    | apply keeps_setCmpRun hI
    | apply keeps_setIn hI
    | (refine partMk hI ?_; first | assumption | refine sndEq ?_ (by assumption))
    | (intro t ht; beta_reduce)
    | (intro m; first | rfl | simp)

theorem keeps_captureEdge (hI : Keeps [.chan] I) (s : State) (x mask : Nat) (h_s : I s) : I
    (State.captureEdge s x mask) := by
  unfold State.captureEdge
  with_reducible repeat' first
    | assumption
    | refine iteI (fun _ => ?_) (fun _ => ?_)
    | refine foldlI ?_ (fun _ _ _ => ?_)
    | apply keeps_capture hI
    | (intro t ht; beta_reduce)
    | (intro m; first | rfl | simp)

theorem keeps_feed (hI : Keeps [.chan] I) (s : State) (x : Nat) (bits : List (Fin 64)) (h_s : I s) : I
    (State.feed s x bits) := by
  unfold State.feed
  with_reducible repeat' first
    | assumption
    | refine iteI (fun _ => ?_) (fun _ => ?_)
    | refine foldlI ?_ (fun _ _ _ => ?_)
    | apply keeps_captureEdge hI
    | (intro t ht; beta_reduce)
    | (intro m; first | rfl | simp)

theorem keeps_clearIn (hI : Keeps [.chan] I) (s : State) (x n : Nat) (h_s : I s) : I (State.clearIn s x
    n) := by
  unfold State.clearIn
  with_reducible repeat' first
    | assumption
    | (extract_lets -underBinder +onlyGivenNames x; have hx : I x := ?_; clear_value x; on_goal 2 => subst x)
    | (extract_lets -underBinder +onlyGivenNames x; clear_value x)
    | apply keeps_setIn hI
    | (refine partMk hI ?_; first | assumption | refine sndEq ?_ (by assumption))
    | (intro t ht; beta_reduce)
    | (intro m; first | rfl | simp)

theorem keeps_senseOpen (hI : Keeps [.chan] I) (s : State) (x t : Nat) (h_s : I s) : I (State.senseOpen
    s x t) := by
  unfold State.senseOpen
  with_reducible repeat' first
    | assumption
    | (extract_lets -underBinder +onlyGivenNames x; have hx : I x := ?_; clear_value x; on_goal 2 => subst x)
    | (extract_lets -underBinder +onlyGivenNames x; clear_value x)
    | apply keeps_setSense hI
    | (refine partMk hI ?_; first | assumption | refine sndEq ?_ (by assumption))
    | (intro t ht; beta_reduce)
    | (intro m; first | rfl | simp)

theorem keeps_senseDlSync (hI : Keeps [.chan] I) (s : State) (x : Nat) (h_s : I s) : I
    (State.senseDlSync s x) := by
  unfold State.senseDlSync
  with_reducible repeat' first
    | assumption
    | (extract_lets -underBinder +onlyGivenNames x; have hx : I x := ?_; clear_value x; on_goal 2 => subst x)
    | (extract_lets -underBinder +onlyGivenNames x; clear_value x)
    | refine iteI (fun _ => ?_) (fun _ => ?_)
    | apply keeps_setSense hI
    | apply keeps_senseOpen hI
    | (refine partMk hI ?_; first | assumption | refine sndEq ?_ (by assumption))
    | (intro t ht; beta_reduce)
    | (intro m; first | rfl | simp)

theorem keeps_senseMiss (hI : Keeps [.recent, .log, .pod, .chan, .regs] I) (s : State) (x : Nat) (h_s :
    I s) : I (State.senseMiss s x) := by
  unfold State.senseMiss
  with_reducible repeat' first
    | assumption
    | refine iteI (fun _ => ?_) (fun _ => ?_)
    | split
    | apply keeps_senseOpen (hI.mono (by decide))
    | apply keeps_dlMiss (hI.mono (by decide))
    | refine sndEq ?_ (by assumption)
    | refine fstEq ?_ (by assumption)
    | refine snd2Eq ?_ (by assumption)
    | refine snd3Eq ?_ (by assumption)
    | refine optEq ?_ (by assumption)
    | (refine partMk hI ?_; first | assumption | refine sndEq ?_ (by assumption))

theorem keeps_sdClkWrite (hI : Keeps [.recent, .log, .pod, .chan, .regs] I) (s : State) (x w : Nat)
    (h_s : I s) : I (State.sdClkWrite s x w) := by
  unfold State.sdClkWrite
  with_reducible repeat' first
    | assumption
    | (extract_lets -underBinder +onlyGivenNames x; have hx : I x := ?_; clear_value x; on_goal 2 => subst x)
    | (extract_lets -underBinder +onlyGivenNames x; clear_value x)
    | refine iteI (fun _ => ?_) (fun _ => ?_)
    | refine foldlI ?_ (fun _ _ _ => ?_)
    | apply keeps_clearIn (hI.mono (by decide))
    | apply keeps_senseDlSync (hI.mono (by decide))
    | apply keeps_err (hI.mono (by decide))
    | apply keeps_set (hI.mono (by decide))
    | apply keeps_setSense (hI.mono (by decide))
    | apply keeps_setB (hI.mono (by decide))
    | apply keeps_cmpStop hI
    | (refine partMk hI ?_; first | assumption | refine sndEq ?_ (by assumption))
    | (intro t ht; beta_reduce)
    | (intro m; first | rfl | simp)

theorem keeps_chEnWrite (hI : Keeps [.recent, .log, .pod, .chan, .regs] I) (s : State) (x w : Nat) (h_s
    : I s) : I (State.chEnWrite s x w) := by
  unfold State.chEnWrite
  with_reducible repeat' first
    | assumption
    | (extract_lets -underBinder +onlyGivenNames x; have hx : I x := ?_; clear_value x; on_goal 2 => subst x)
    | (extract_lets -underBinder +onlyGivenNames x; clear_value x)
    | refine iteI (fun _ => ?_) (fun _ => ?_)
    | refine foldlI ?_ (fun _ _ _ => ?_)
    | apply keeps_clearIn (hI.mono (by decide))
    | apply keeps_set (hI.mono (by decide))
    | apply keeps_cmpStop hI
    | (intro t ht; beta_reduce)
    | (intro m; first | rfl | simp)

theorem keeps_filtCfgWrite (hI : Keeps [.recent, .pod, .regs, .staged] I) (s : State) (x w : Nat) (h_s
    : I s) : I (State.filtCfgWrite s x w) := by
  unfold State.filtCfgWrite
  with_reducible repeat' first
    | assumption
    | (extract_lets -underBinder +onlyGivenNames x; have hx : I x := ?_; clear_value x; on_goal 2 => subst x)
    | (extract_lets -underBinder +onlyGivenNames x; clear_value x)
    | refine iteI (fun _ => ?_) (fun _ => ?_)
    | apply keeps_err (hI.mono (by decide))
    | apply keeps_set (hI.mono (by decide))
    | apply keeps_stage (hI.mono (by decide))

theorem keeps_cmpThrWrite (hI : Keeps [.chan, .regs] I) (s : State) (x m w : Nat) (h_s : I s) : I
    (State.cmpThrWrite s x m w) := by
  unfold State.cmpThrWrite
  with_reducible repeat' first
    | assumption
    | (extract_lets -underBinder +onlyGivenNames x; have hx : I x := ?_; clear_value x; on_goal 2 => subst x)
    | (extract_lets -underBinder +onlyGivenNames x; clear_value x)
    | apply keeps_set (hI.mono (by decide))
    | apply keeps_setCmpRun (hI.mono (by decide))

theorem keeps_cmpCfgWrite (hI : Keeps [.recent, .log, .pod, .chan, .regs] I) (s : State) (x m w : Nat)
    (h_s : I s) : I (State.cmpCfgWrite s x m w) := by
  unfold State.cmpCfgWrite
  with_reducible repeat' first
    | assumption
    | (extract_lets -underBinder +onlyGivenNames x; have hx : I x := ?_; clear_value x; on_goal 2 => subst x)
    | (extract_lets -underBinder +onlyGivenNames x; clear_value x)
    | refine iteI (fun _ => ?_) (fun _ => ?_)
    | apply keeps_set (hI.mono (by decide))
    | apply keeps_cmpRelease hI
    | apply keeps_setCmpRun (hI.mono (by decide))

theorem keeps_senseCommit (hI : Keeps [.recent, .pod, .chan, .regs, .staged] I) (s : State) (x : Nat)
    (h_s : I s) : I (State.senseCommit s x) := by
  unfold State.senseCommit
  with_reducible repeat' first
    | assumption
    | (extract_lets -underBinder +onlyGivenNames x; have hx : I x := ?_; clear_value x; on_goal 2 => subst x)
    | (extract_lets -underBinder +onlyGivenNames x; clear_value x)
    | refine iteI (fun _ => ?_) (fun _ => ?_)
    | refine foldlI ?_ (fun _ _ _ => ?_)
    | apply keeps_clearIn (hI.mono (by decide))
    | apply keeps_refuseCommit (hI.mono (by decide))
    | apply keeps_senseDlSync (hI.mono (by decide))
    | apply keeps_doCommit (hI.mono (by decide))
    | (intro t ht; beta_reduce)
    | (intro m; first | rfl | simp)

theorem keeps_senseTrigger (hI : Keeps [.recent, .pod, .chan, .regs] I) (s : State) (x t : Nat) (h_s :
    I s) : I (State.senseTrigger s x t) := by
  unfold State.senseTrigger
  with_reducible repeat' first
    | assumption
    | (extract_lets -underBinder +onlyGivenNames x; have hx : I x := ?_; clear_value x; on_goal 2 => subst x)
    | (extract_lets -underBinder +onlyGivenNames x; clear_value x)
    | refine iteI (fun _ => ?_) (fun _ => ?_)
    | apply keeps_setSense (hI.mono (by decide))
    | apply keeps_irq (hI.mono (by decide))
    | apply keeps_setB (hI.mono (by decide))
    | apply keeps_inc (hI.mono (by decide))
    | (refine partMk hI ?_; first | assumption | refine sndEq ?_ (by assumption))
    | (intro t ht; beta_reduce)
    | (intro m; first | rfl | simp)

theorem keeps_formResult (hI : Keeps [.chan, .regs] I) (s : State) (x n : Nat) (h_s : I s) : I
    (State.formResult s x n).2.2 := by
  unfold State.formResult
  with_reducible repeat' first
    | assumption
    | (extract_lets -underBinder +onlyGivenNames x; have hx : I x := ?_; clear_value x; on_goal 2 => subst x)
    | (extract_lets -underBinder +onlyGivenNames x; clear_value x)
    | refine iteI (fun _ => ?_) (fun _ => ?_)
    | split
    | apply keeps_setIn (hI.mono (by decide))
    | apply keeps_putMaskBit (hI.mono (by decide))
    | apply keeps_setI (hI.mono (by decide))
    | (refine partMk hI ?_; first | assumption | refine sndEq ?_ (by assumption))
    | (intro t ht; beta_reduce)
    | (intro m; first | rfl | simp)

theorem keeps_sampleCentre (hI : Keeps [.dblTable, .dblCapt, .recent, .freeCtr, .sys, .log, .pod,
    .chan, .regs, .staged] I) (s : State) (x : Nat) (h_s : I s) : I (State.sampleCentre s x) := by
  unfold State.sampleCentre
  with_reducible repeat' first
    | assumption
    | (extract_lets -underBinder +onlyGivenNames x; have hx : I x := ?_; clear_value x; on_goal 2 => subst x)
    | (extract_lets -underBinder +onlyGivenNames x; clear_value x)
    | refine iteI (fun _ => ?_) (fun _ => ?_)
    | split
    | refine foldlI ?_ (fun _ _ _ => ?_)
    | refine foldlI2 ?_ (fun _ _ _ => ?_)
    | refine foldlI3 ?_ (fun _ _ _ => ?_)
    | refine foldlI1 ?_ (fun _ _ _ => ?_)
    | apply keeps_undrop (hI.mono (by decide))
    | apply keeps_cellSample (hI.mono (by decide))
    | apply keeps_set (hI.mono (by decide))
    | apply keeps_senseCommit (hI.mono (by decide))
    | apply keeps_senseOpen (hI.mono (by decide))
    | apply keeps_dlMeet (hI.mono (by decide))
    | apply keeps_irq (hI.mono (by decide))
    | apply keeps_formResult (hI.mono (by decide))
    | apply keeps_kernelSample hI
    | apply keeps_incWrap (hI.mono (by decide))
    | refine sndEq ?_ (by assumption)
    | refine fstEq ?_ (by assumption)
    | refine snd2Eq ?_ (by assumption)
    | refine snd3Eq ?_ (by assumption)
    | refine optEq ?_ (by assumption)
    | (refine partMk hI ?_; first | assumption | refine sndEq ?_ (by assumption))
    | (intro t ht; beta_reduce)
    | (intro m; first | rfl | simp)

theorem keeps_setSar (hI : Keeps [.sar] I) (s : State) (n : Nat) (f : SarSt → SarSt) (h_s : I s) : I
    (State.setSar s n f) := by
  unfold State.setSar
  with_reducible repeat' first
    | assumption
    | (extract_lets -underBinder +onlyGivenNames x; have hx : I x := ?_; clear_value x; on_goal 2 => subst x)
    | (extract_lets -underBinder +onlyGivenNames x; clear_value x)
    | (refine partMk hI ?_; first | assumption | refine sndEq ?_ (by assumption))

theorem keeps_sarSync (hI : Keeps [.recent, .regs] I) (s : State) (n : Nat) (h_s : I s) : I
    (State.sarSync s n) := by
  unfold State.sarSync
  with_reducible repeat' first
    | assumption
    | apply keeps_setB hI

theorem keeps_sarOverrun (hI : Keeps [.recent, .pod, .regs] I) (s : State) (n : Nat) (h_s : I s) : I
    (State.sarOverrun s n) := by
  unfold State.sarOverrun
  with_reducible repeat' first
    | assumption
    | apply keeps_irq hI
    | apply keeps_setB (hI.mono (by decide))
    | apply keeps_inc (hI.mono (by decide))

theorem keeps_sarTrigger (hI : Keeps [.recent, .pod, .sar, .regs] I) (s : State) (n t : Nat) (h_s : I
    s) : I (State.sarTrigger s n t) := by
  unfold State.sarTrigger
  with_reducible repeat' first
    | assumption
    | (extract_lets -underBinder +onlyGivenNames x; have hx : I x := ?_; clear_value x; on_goal 2 => subst x)
    | (extract_lets -underBinder +onlyGivenNames x; clear_value x)
    | refine iteI (fun _ => ?_) (fun _ => ?_)
    | apply keeps_setSar (hI.mono (by decide))
    | apply keeps_sarOverrun (hI.mono (by decide))
    | (refine partMk hI ?_; first | assumption | refine sndEq ?_ (by assumption))
    | (intro t ht; beta_reduce)
    | (intro m; first | rfl | simp)

theorem keeps_startPass (hI : Keeps [.recent, .sar, .regs] I) (s : State) (n fire t0 : Nat) (h_s : I s)
    : I (State.startPass s n fire t0) := by
  unfold State.startPass
  with_reducible repeat' first
    | assumption
    | (extract_lets -underBinder +onlyGivenNames x; have hx : I x := ?_; clear_value x; on_goal 2 => subst x)
    | (extract_lets -underBinder +onlyGivenNames x; clear_value x)
    | apply keeps_sarSync (hI.mono (by decide))
    | apply keeps_setSar (hI.mono (by decide))
    | (refine partMk hI ?_; first | assumption | refine sndEq ?_ (by assumption))
    | (intro t ht; beta_reduce)
    | (intro m; first | rfl | simp)

theorem keeps_firedStart (hI : Keeps [.freeCtr] I) (s : State) (h_s : I s) : I (State.firedStart s).2 := by
  unfold State.firedStart
  with_reducible repeat' first
    | assumption
    | (extract_lets -underBinder +onlyGivenNames x; have hx : I x := ?_; clear_value x; on_goal 2 => subst x)
    | (extract_lets -underBinder +onlyGivenNames x; clear_value x)
    | split
    | apply keeps_fresh hI
    | refine sndEq ?_ (by assumption)
    | refine fstEq ?_ (by assumption)
    | refine snd2Eq ?_ (by assumption)
    | refine snd3Eq ?_ (by assumption)
    | refine optEq ?_ (by assumption)

theorem keeps_nextPass (hI : Keeps [.recent, .sar, .regs] I) (s : State) (n t : Nat) (h_s : I s) : I
    (State.nextPass s n t) := by
  unfold State.nextPass
  with_reducible repeat' first
    | assumption
    | refine iteI (fun _ => ?_) (fun _ => ?_)
    | split
    | apply keeps_sarSync (hI.mono (by decide))
    | apply keeps_startPass hI
    | refine sndEq ?_ (by assumption)
    | refine fstEq ?_ (by assumption)
    | refine snd2Eq ?_ (by assumption)
    | refine snd3Eq ?_ (by assumption)
    | refine optEq ?_ (by assumption)
    | (refine partMk hI ?_; first | assumption | refine sndEq ?_ (by assumption))

theorem keeps_sarCommit (hI : Keeps [.recent, .sys, .pod, .chan, .regs, .staged] I) (s : State) (n :
    Nat) (h_s : I s) : I (State.sarCommit s n) := by
  unfold State.sarCommit
  with_reducible repeat' first
    | assumption
    | (extract_lets -underBinder +onlyGivenNames x; have hx : I x := ?_; clear_value x; on_goal 2 => subst x)
    | (extract_lets -underBinder +onlyGivenNames x; clear_value x)
    | refine iteI (fun _ => ?_) (fun _ => ?_)
    | apply keeps_refuseCommit (hI.mono (by decide))
    | apply keeps_undrop (hI.mono (by decide))
    | apply keeps_doCommit (hI.mono (by decide))

theorem keeps_plausFail (hI : Keeps [.recent, .log, .pod, .regs] I) (s : State) (b : Nat) (h_s : I s) :
    I (State.plausFail s b) := by
  unfold State.plausFail
  with_reducible repeat' first
    | assumption
    | (extract_lets -underBinder +onlyGivenNames x; have hx : I x := ?_; clear_value x; on_goal 2 => subst x)
    | (extract_lets -underBinder +onlyGivenNames x; clear_value x)
    | refine iteI (fun _ => ?_) (fun _ => ?_)
    | apply keeps_irq (hI.mono (by decide))
    | apply keeps_inc (hI.mono (by decide))
    | apply keeps_irqLog hI

theorem keeps_pairResult (hI : Keeps [.recent, .log, .pod, .sar, .regs] I) (s : State) (n : Nat) (v :
    Int) (clip : Bool) (h_s : I s) : I (State.pairResult s n v clip) := by
  unfold State.pairResult
  with_reducible repeat' first
    | assumption
    | (extract_lets -underBinder +onlyGivenNames x; have hx : I x := ?_; clear_value x; on_goal 2 => subst x)
    | (extract_lets -underBinder +onlyGivenNames x; clear_value x)
    | refine iteI (fun _ => ?_) (fun _ => ?_)
    | split
    | apply keeps_plausFail (hI.mono (by decide))
    | apply keeps_setSar (hI.mono (by decide))
    | apply keeps_set (hI.mono (by decide))
    | apply keeps_setSat (hI.mono (by decide))
    | refine sndEq ?_ (by assumption)
    | refine fstEq ?_ (by assumption)
    | refine snd2Eq ?_ (by assumption)
    | refine snd3Eq ?_ (by assumption)
    | refine optEq ?_ (by assumption)
    | (refine partMk hI ?_; first | assumption | refine sndEq ?_ (by assumption))
    | (intro t ht; beta_reduce)
    | (intro m; first | rfl | simp)

theorem keeps_calStart (hI : Keeps [.recent, .sar, .roverQ, .regs] I) (s : State) (n : Nat) (h_s : I s)
    : I (State.calStart s n) := by
  unfold State.calStart
  with_reducible repeat' first
    | assumption
    | (extract_lets -underBinder +onlyGivenNames x; have hx : I x := ?_; clear_value x; on_goal 2 => subst x)
    | (extract_lets -underBinder +onlyGivenNames x; clear_value x)
    | apply keeps_setSar (hI.mono (by decide))
    | apply keeps_setB (hI.mono (by decide))
    | (refine partMk hI ?_; first | assumption | refine sndEq ?_ (by assumption))
    | (intro t ht; beta_reduce)
    | (intro m; first | rfl | simp)

theorem keeps_calTry (hI : Keeps [.recent, .sar, .roverQ, .regs] I) (s : State) (n : Nat) (h_s : I s) :
    I (State.calTry s n) := by
  unfold State.calTry
  with_reducible repeat' first
    | assumption
    | (extract_lets -underBinder +onlyGivenNames x; have hx : I x := ?_; clear_value x; on_goal 2 => subst x)
    | (extract_lets -underBinder +onlyGivenNames x; clear_value x)
    | refine iteI (fun _ => ?_) (fun _ => ?_)
    | apply keeps_calStart hI

theorem keeps_calRequest (hI : Keeps [.recent, .sar, .roverQ, .regs] I) (s : State) (n : Nat) (h_s : I
    s) : I (State.calRequest s n) := by
  unfold State.calRequest
  with_reducible repeat' first
    | assumption
    | (extract_lets -underBinder +onlyGivenNames x; have hx : I x := ?_; clear_value x; on_goal 2 => subst x)
    | (extract_lets -underBinder +onlyGivenNames x; clear_value x)
    | refine iteI (fun _ => ?_) (fun _ => ?_)
    | apply keeps_setSar (hI.mono (by decide))
    | apply keeps_setB (hI.mono (by decide))
    | apply keeps_calTry hI
    | (refine partMk hI ?_; first | assumption | refine sndEq ?_ (by assumption))
    | (intro t ht; beta_reduce)
    | (intro m; first | rfl | simp)

theorem keeps_calWrite (hI : Keeps [.recent, .sar, .roverQ, .regs] I) (s : State) (n : Nat) (h_s : I s)
    : I (State.calWrite s n) := by
  unfold State.calWrite
  with_reducible repeat' first
    | assumption
    | apply keeps_calRequest hI
    | apply keeps_setB (hI.mono (by decide))

theorem keeps_roverTake (hI : Keeps [.recent, .pod, .sar, .roverQ, .regs] I) (s : State) (h_s : I s) :
    I (State.roverTake s) := by
  unfold State.roverTake
  with_reducible repeat' first
    | assumption
    | (extract_lets -underBinder +onlyGivenNames x; have hx : I x := ?_; clear_value x; on_goal 2 => subst x)
    | (extract_lets -underBinder +onlyGivenNames x; clear_value x)
    | refine iteI (fun _ => ?_) (fun _ => ?_)
    | split
    | apply keeps_calStart (hI.mono (by decide))
    | apply keeps_set (hI.mono (by decide))
    | apply keeps_irq (hI.mono (by decide))
    | apply keeps_setB (hI.mono (by decide))
    | refine sndEq ?_ (by assumption)
    | refine fstEq ?_ (by assumption)
    | refine snd2Eq ?_ (by assumption)
    | refine snd3Eq ?_ (by assumption)
    | refine optEq ?_ (by assumption)
    | (refine partMk hI ?_; first | assumption | refine sndEq ?_ (by assumption))

theorem keeps_roverReturn (hI : Keeps [.recent, .pod, .sar, .roverQ, .regs] I) (s : State) (n : Nat)
    (h_s : I s) : I (State.roverReturn s n) := by
  unfold State.roverReturn
  with_reducible repeat' first
    | assumption
    | (extract_lets -underBinder +onlyGivenNames x; have hx : I x := ?_; clear_value x; on_goal 2 => subst x)
    | (extract_lets -underBinder +onlyGivenNames x; clear_value x)
    | refine iteI (fun _ => ?_) (fun _ => ?_)
    | apply keeps_roverTake hI
    | apply keeps_set (hI.mono (by decide))
    | apply keeps_nextPass (hI.mono (by decide))
    | apply keeps_irq (hI.mono (by decide))
    | apply keeps_setB (hI.mono (by decide))
    | apply keeps_calTry (hI.mono (by decide))

theorem keeps_sarBoundary (hI : Keeps [.recent, .sys, .pod, .chan, .sar, .roverQ, .regs, .staged] I) (s
    : State) (n t : Nat) (h_s : I s) : I (State.sarBoundary s n t) := by
  unfold State.sarBoundary
  with_reducible repeat' first
    | assumption
    | (extract_lets -underBinder +onlyGivenNames x; have hx : I x := ?_; clear_value x; on_goal 2 => subst x)
    | (extract_lets -underBinder +onlyGivenNames x; clear_value x)
    | apply keeps_roverTake (hI.mono (by decide))
    | apply keeps_nextPass (hI.mono (by decide))
    | apply keeps_roverReturn (hI.mono (by decide))
    | apply keeps_sarCommit (hI.mono (by decide))
    | apply keeps_calTry (hI.mono (by decide))

theorem keeps_calDone (hI : Keeps [.recent, .pod, .sar, .roverQ, .regs] I) (s : State) (n : Nat) (h_s :
    I s) : I (State.calDone s n) := by
  unfold State.calDone
  with_reducible repeat' first
    | assumption
    | (extract_lets -underBinder +onlyGivenNames x; have hx : I x := ?_; clear_value x; on_goal 2 => subst x)
    | (extract_lets -underBinder +onlyGivenNames x; clear_value x)
    | refine iteI (fun _ => ?_) (fun _ => ?_)
    | apply keeps_roverTake hI
    | apply keeps_setSar (hI.mono (by decide))
    | apply keeps_nextPass (hI.mono (by decide))
    | apply keeps_roverReturn hI
    | apply keeps_irq (hI.mono (by decide))
    | apply keeps_setB (hI.mono (by decide))
    | apply keeps_inc (hI.mono (by decide))
    | apply keeps_calTry (hI.mono (by decide))
    | (refine partMk hI ?_; first | assumption | refine sndEq ?_ (by assumption))
    | (intro t ht; beta_reduce)
    | (intro m; first | rfl | simp)

theorem keeps_sarStart (hI : Keeps [.recent, .sar, .roverQ, .regs] I) (s : State) (h_s : I s) : I
    (State.sarStart s) := by
  unfold State.sarStart
  with_reducible repeat' first
    | assumption
    | (extract_lets -underBinder +onlyGivenNames x; have hx : I x := ?_; clear_value x; on_goal 2 => subst x)
    | (extract_lets -underBinder +onlyGivenNames x; clear_value x)
    | refine foldlI ?_ (fun _ _ _ => ?_)
    | apply keeps_calStart hI
    | apply keeps_setSar (hI.mono (by decide))
    | (refine partMk hI ?_; first | assumption | refine sndEq ?_ (by assumption))
    | (intro t ht; beta_reduce)
    | (intro m; first | rfl | simp)

theorem keeps_sarHalt (hI : Keeps [.recent, .sar, .roverQ, .regs] I) (s : State) (h_s : I s) : I
    (State.sarHalt s) := by
  unfold State.sarHalt
  with_reducible repeat' first
    | assumption
    | (extract_lets -underBinder +onlyGivenNames x; have hx : I x := ?_; clear_value x; on_goal 2 => subst x)
    | (extract_lets -underBinder +onlyGivenNames x; clear_value x)
    | refine foldlI ?_ (fun _ _ _ => ?_)
    | apply keeps_sarSync (hI.mono (by decide))
    | apply keeps_setSar (hI.mono (by decide))
    | apply keeps_set (hI.mono (by decide))
    | apply keeps_setB (hI.mono (by decide))
    | (refine partMk hI ?_; first | assumption | refine sndEq ?_ (by assumption))
    | (intro t ht; beta_reduce)
    | (intro m; first | rfl | simp)

theorem keeps_passMissed (hI : Keeps [.recent, .log, .pod, .regs] I) (s : State) (n : Nat) (p :
    SarPass) (h_s : I s) : I (State.passMissed s n p) := by
  unfold State.passMissed
  with_reducible repeat' first
    | assumption
    | (extract_lets -underBinder +onlyGivenNames x; have hx : I x := ?_; clear_value x; on_goal 2 => subst x)
    | (extract_lets -underBinder +onlyGivenNames x; clear_value x)
    | refine iteI (fun _ => ?_) (fun _ => ?_)
    | split
    | apply keeps_dlMissMax hI
    | apply keeps_setB (hI.mono (by decide))
    | refine sndEq ?_ (by assumption)
    | refine fstEq ?_ (by assumption)
    | refine snd2Eq ?_ (by assumption)
    | refine snd3Eq ?_ (by assumption)
    | refine optEq ?_ (by assumption)
    | (refine partMk hI ?_; first | assumption | refine sndEq ?_ (by assumption))

theorem keeps_sarMiss (hI : Keeps [.recent, .log, .pod, .sar, .regs] I) (s : State) (n : Nat) (h_s : I
    s) : I (State.sarMiss s n) := by
  unfold State.sarMiss
  with_reducible repeat' first
    | assumption
    | (extract_lets -underBinder +onlyGivenNames x; have hx : I x := ?_; clear_value x; on_goal 2 => subst x)
    | (extract_lets -underBinder +onlyGivenNames x; clear_value x)
    | refine iteI (fun _ => ?_) (fun _ => ?_)
    | split
    | apply keeps_setSar (hI.mono (by decide))
    | apply keeps_passMissed (hI.mono (by decide))
    | refine sndEq ?_ (by assumption)
    | refine fstEq ?_ (by assumption)
    | refine snd2Eq ?_ (by assumption)
    | refine snd3Eq ?_ (by assumption)
    | refine optEq ?_ (by assumption)
    | (refine partMk hI ?_; first | assumption | refine sndEq ?_ (by assumption))
    | (intro t ht; beta_reduce)
    | (intro m; first | rfl | simp)

theorem keeps_sarCode (hI : Keeps [.freeCtr] I) (s : State) (nv : Int) (g : Nat) (h_s : I s) : I
    (State.sarCode s nv g).2.2 := by
  unfold State.sarCode
  with_reducible repeat' first
    | assumption
    | (extract_lets -underBinder +onlyGivenNames x; have hx : I x := ?_; clear_value x; on_goal 2 => subst x)
    | (extract_lets -underBinder +onlyGivenNames x; clear_value x)
    | refine iteI (fun _ => ?_) (fun _ => ?_)
    | split
    | apply keeps_fresh hI
    | refine sndEq ?_ (by assumption)
    | refine fstEq ?_ (by assumption)
    | refine snd2Eq ?_ (by assumption)
    | refine snd3Eq ?_ (by assumption)
    | refine optEq ?_ (by assumption)

theorem keeps_markPartial (hI : Keeps [.recent, .regs] I) (s : State) (n k : Nat) (h_s : I s) : I
    (State.markPartial s n k) := by
  unfold State.markPartial
  with_reducible repeat' first
    | assumption
    | refine foldlI ?_ (fun _ _ _ => ?_)
    | apply keeps_setB hI
    | (intro t ht; beta_reduce)
    | (intro m; first | rfl | simp)

theorem keeps_setEng (hI : Keeps [.engs] I) (s : State) (e : Nat) (f : EngSt → EngSt) (h_s : I s) : I
    (State.setEng s e f) := by
  unfold State.setEng
  with_reducible repeat' first
    | assumption
    | (extract_lets -underBinder +onlyGivenNames x; have hx : I x := ?_; clear_value x; on_goal 2 => subst x)
    | (extract_lets -underBinder +onlyGivenNames x; clear_value x)
    | (refine partMk hI ?_; first | assumption | refine sndEq ?_ (by assumption))

theorem keeps_setArm (hI : Keeps [.arm] I) (s : State) (f : ArmSt → ArmSt) (h_s : I s) : I
    (State.setArm s f) := by
  unfold State.setArm
  with_reducible repeat' first
    | assumption
    | (extract_lets -underBinder +onlyGivenNames x; have hx : I x := ?_; clear_value x; on_goal 2 => subst x)
    | (extract_lets -underBinder +onlyGivenNames x; clear_value x)
    | (refine partMk hI ?_; first | assumption | refine sndEq ?_ (by assumption))

theorem keeps_setRide (hI : Keeps [.ride] I) (s : State) (f : RideSt → RideSt) (h_s : I s) : I
    (State.setRide s f) := by
  unfold State.setRide
  with_reducible repeat' first
    | assumption
    | (extract_lets -underBinder +onlyGivenNames x; have hx : I x := ?_; clear_value x; on_goal 2 => subst x)
    | (extract_lets -underBinder +onlyGivenNames x; clear_value x)
    | (refine partMk hI ?_; first | assumption | refine sndEq ?_ (by assumption))

theorem keeps_setIsl (hI : Keeps [.isl] I) (s : State) (f : IslSt → IslSt) (h_s : I s) : I
    (State.setIsl s f) := by
  unfold State.setIsl
  with_reducible repeat' first
    | assumption
    | (extract_lets -underBinder +onlyGivenNames x; have hx : I x := ?_; clear_value x; on_goal 2 => subst x)
    | (extract_lets -underBinder +onlyGivenNames x; clear_value x)
    | (refine partMk hI ?_; first | assumption | refine sndEq ?_ (by assumption))

theorem keeps_show (hI : Keeps [.regs] I) (s : State) (r : Reg) (v : Rat) (h_s : I s) : I (State.show s
    r v) := by
  unfold State.show
  with_reducible repeat' first
    | assumption
    | apply keeps_setI hI

theorem keeps_showU (hI : Keeps [.regs] I) (s : State) (r : Reg) (v : Rat) (h_s : I s) : I (State.showU
    s r v) := by
  unfold State.showU
  with_reducible repeat' first
    | assumption
    | apply keeps_setSat hI

theorem keeps_showAngle (hI : Keeps [.regs] I) (s : State) (r : Reg) (v : Rat) (h_s : I s) : I
    (State.showAngle s r v) := by
  unfold State.showAngle
  with_reducible repeat' first
    | assumption
    | apply keeps_set hI

theorem keeps_latchSources (hI : Keeps [.recent, .pod, .engs, .regs] I) (s : State) (t e : Nat) (h_s :
    I s) : I (State.latchSources s t e) := by
  unfold State.latchSources
  with_reducible repeat' first
    | assumption
    | (extract_lets -underBinder +onlyGivenNames x; have hx : I x := ?_; clear_value x; on_goal 2 => subst x)
    | (extract_lets -underBinder +onlyGivenNames x; clear_value x)
    | refine iteI (fun _ => ?_) (fun _ => ?_)
    | apply keeps_setEng (hI.mono (by decide))
    | apply keeps_irq (hI.mono (by decide))
    | apply keeps_setB (hI.mono (by decide))
    | (refine partMk hI ?_; first | assumption | refine sndEq ?_ (by assumption))
    | (intro t ht; beta_reduce)
    | (intro m; first | rfl | simp)

theorem keeps_pllCycle (hI : Keeps [.recent, .pod, .engs, .regs] I) (s : State) (e : Nat) (h_s : I s) :
    I (State.pllCycle s e) := by
  unfold State.pllCycle
  with_reducible repeat' first
    | assumption
    | (extract_lets -underBinder +onlyGivenNames x; have hx : I x := ?_; clear_value x; on_goal 2 => subst x)
    | (extract_lets -underBinder +onlyGivenNames x; have hfn : ∀ (t : State) (a b : Nat), I t → I (x t a b).1 := ?_; clear_value x; on_goal 2 => subst x)
    | (extract_lets -underBinder +onlyGivenNames x; have hfn : ∀ (t : State) (a : Nat), I t → I (x t a) := ?_; clear_value x; on_goal 2 => subst x)
    | (extract_lets -underBinder +onlyGivenNames x; have hfn : ∀ (t : State), I t → I (x t) := ?_; clear_value x; on_goal 2 => subst x)
    | (extract_lets -underBinder +onlyGivenNames x; have hfn : ∀ (t : State) (a b : Bool), I t → I (x t a b) := ?_; clear_value x; on_goal 2 => subst x)
    | apply hfn
    | (intro t a b ht; beta_reduce)
    | (intro t a ht; beta_reduce)
    | (extract_lets -underBinder +onlyGivenNames x; clear_value x)
    | refine iteI (fun _ => ?_) (fun _ => ?_)
    | apply keeps_showU (hI.mono (by decide))
    | apply keeps_showAngle (hI.mono (by decide))
    | apply keeps_setEng (hI.mono (by decide))
    | apply keeps_irq (hI.mono (by decide))
    | apply keeps_setB (hI.mono (by decide))
    | (refine partMk hI ?_; first | assumption | refine sndEq ?_ (by assumption))
    | (intro t ht; beta_reduce)
    | (intro m; first | rfl | simp)

theorem keeps_pllUnlock (hI : Keeps [.recent, .pod, .engs, .regs] I) (s : State) (e : Nat) (h_s : I s)
    : I (State.pllUnlock s e) := by
  unfold State.pllUnlock
  with_reducible repeat' first
    | assumption
    | (extract_lets -underBinder +onlyGivenNames x; have hx : I x := ?_; clear_value x; on_goal 2 => subst x)
    | (extract_lets -underBinder +onlyGivenNames x; clear_value x)
    | apply keeps_setEng (hI.mono (by decide))
    | apply keeps_irq (hI.mono (by decide))
    | apply keeps_setB (hI.mono (by decide))
    | (refine partMk hI ?_; first | assumption | refine sndEq ?_ (by assumption))
    | (intro t ht; beta_reduce)
    | (intro m; first | rfl | simp)

theorem keeps_setSide (hI : Keeps [.safe, .hw] I) (s : State) (c : Nat) (f : ChanSt → ChanSt) (h_s : I
    s) : I (State.setSide s c f) := by
  unfold State.setSide
  with_reducible repeat' first
    | assumption
    | (extract_lets -underBinder +onlyGivenNames x; have hx : I x := ?_; clear_value x; on_goal 2 => subst x)
    | (extract_lets -underBinder +onlyGivenNames x; clear_value x)
    | refine iteI (fun _ => ?_) (fun _ => ?_)
    | apply keeps_modSafe (hI.mono (by decide))
    | (refine partMk hI ?_; first | assumption | refine sndEq ?_ (by assumption))
    | (intro t ht; beta_reduce)
    | (intro m; first | rfl | simp)

theorem keeps_setFn (hI : Keeps [.safe, .hw] I) (s : State) (c f : Nat) (g : FnSt → FnSt) (h_s : I s) :
    I (State.setFn s c f g) := by
  unfold State.setFn
  with_reducible repeat' first
    | assumption
    | (extract_lets -underBinder +onlyGivenNames x; have hx : I x := ?_; clear_value x; on_goal 2 => subst x)
    | (extract_lets -underBinder +onlyGivenNames x; clear_value x)
    | apply keeps_setSide hI
    | (refine partMk hI ?_; first | assumption | refine sndEq ?_ (by assumption))
    | (intro t ht; beta_reduce)
    | (intro m; first | rfl | simp)

theorem keeps_pairsSync (hI : Keeps [.safe, .hw, .regs] I) (s : State) (c : Nat) (h_s : I s) : I
    (State.pairsSync s c) := by
  unfold State.pairsSync
  with_reducible repeat' first
    | assumption
    | (extract_lets -underBinder +onlyGivenNames x; have hx : I x := ?_; clear_value x; on_goal 2 => subst x)
    | (extract_lets -underBinder +onlyGivenNames x; clear_value x)
    | refine iteI (fun _ => ?_) (fun _ => ?_)
    | split
    | refine foldlI ?_ (fun _ _ _ => ?_)
    | apply keeps_set (hI.mono (by decide))
    | apply keeps_setSide (hI.mono (by decide))
    | refine sndEq ?_ (by assumption)
    | refine fstEq ?_ (by assumption)
    | refine snd2Eq ?_ (by assumption)
    | refine snd3Eq ?_ (by assumption)
    | refine optEq ?_ (by assumption)
    | (refine partMk hI ?_; first | assumption | refine sndEq ?_ (by assumption))
    | (intro t ht; beta_reduce)
    | (intro m; first | rfl | simp)

theorem keeps_setOut (hI : Keeps [.safe] I) (s : State) (n : Nat) (f : OutSt → OutSt) (h_s : I s) : I
    (State.setOut s n f) := by
  unfold State.setOut
  with_reducible repeat' first
    | assumption
    | (extract_lets -underBinder +onlyGivenNames x; have hx : I x := ?_; clear_value x; on_goal 2 => subst x)
    | (extract_lets -underBinder +onlyGivenNames x; clear_value x)
    | apply keeps_modSafe hI
    | (refine partMk hI ?_; first | assumption | refine sndEq ?_ (by assumption))
    | (intro t ht; beta_reduce)
    | (intro m; first | rfl | simp)

theorem keeps_driveOut (hI : Keeps [.safe, .regs] I) (s : State) (n : Nat) (a b : Bool) (h_s : I s) : I
    (State.driveOut s n a b) := by
  unfold State.driveOut
  with_reducible repeat' first
    | assumption
    | (extract_lets -underBinder +onlyGivenNames x; have hx : I x := ?_; clear_value x; on_goal 2 => subst x)
    | (extract_lets -underBinder +onlyGivenNames x; clear_value x)
    | refine iteI (fun _ => ?_) (fun _ => ?_)
    | split
    | apply keeps_setOut (hI.mono (by decide))
    | apply keeps_putMaskBit (hI.mono (by decide))
    | refine sndEq ?_ (by assumption)
    | refine fstEq ?_ (by assumption)
    | refine snd2Eq ?_ (by assumption)
    | refine snd3Eq ?_ (by assumption)
    | refine optEq ?_ (by assumption)
    | (refine partMk hI ?_; first | assumption | refine sndEq ?_ (by assumption))
    | (intro t ht; beta_reduce)
    | (intro m; first | rfl | simp)

theorem keeps_showTest (hI : Keeps [.regs] I) (s : State) (n : Nat) (h_s : I s) : I (State.showTest s
    n) := by
  unfold State.showTest
  with_reducible repeat' first
    | assumption
    | apply keeps_putMaskBit hI

theorem keeps_outSync (hI : Keeps [.safe, .regs] I) (s : State) (n : Nat) (h_s : I s) : I
    (State.outSync s n) := by
  unfold State.outSync
  with_reducible repeat' first
    | assumption
    | (extract_lets -underBinder +onlyGivenNames x; have hx : I x := ?_; clear_value x; on_goal 2 => subst x)
    | (extract_lets -underBinder +onlyGivenNames x; clear_value x)
    | refine iteI (fun _ => ?_) (fun _ => ?_)
    | apply keeps_driveOut hI
    | apply keeps_setOut (hI.mono (by decide))
    | apply keeps_showTest (hI.mono (by decide))
    | (refine partMk hI ?_; first | assumption | refine sndEq ?_ (by assumption))
    | (intro t ht; beta_reduce)
    | (intro m; first | rfl | simp)

theorem keeps_linesSync (hI : Keeps [.recent, .pod, .safe, .chan, .regs] I) (s : State) (h_s : I s) : I
    (State.linesSync s) := by
  unfold State.linesSync
  with_reducible repeat' first
    | assumption
    | (extract_lets -underBinder +onlyGivenNames x; have hx : I x := ?_; clear_value x; on_goal 2 => subst x)
    | (extract_lets -underBinder +onlyGivenNames x; clear_value x)
    | refine iteI (fun _ => ?_) (fun _ => ?_)
    | refine foldlI ?_ (fun _ _ _ => ?_)
    | apply keeps_modSafe (hI.mono (by decide))
    | apply keeps_holdSync (hI.mono (by decide))
    | apply keeps_husk (hI.mono (by decide))
    | (refine partMk hI ?_; first | assumption | refine sndEq ?_ (by assumption))
    | (intro t ht; beta_reduce)
    | (intro m; first | rfl | simp)

theorem keeps_noteStates (hI : Keeps [.gyl] I) (s : State) (old : Nat) (h_s : I s) : I
    (State.noteStates s old) := by
  unfold State.noteStates
  with_reducible repeat' first
    | assumption
    | (extract_lets -underBinder +onlyGivenNames x; have hx : I x := ?_; clear_value x; on_goal 2 => subst x)
    | (extract_lets -underBinder +onlyGivenNames x; have hfn : ∀ (t : State) (a b : Nat), I t → I (x t a b).1 := ?_; clear_value x; on_goal 2 => subst x)
    | (extract_lets -underBinder +onlyGivenNames x; have hfn : ∀ (t : State) (a : Nat), I t → I (x t a) := ?_; clear_value x; on_goal 2 => subst x)
    | (extract_lets -underBinder +onlyGivenNames x; have hfn : ∀ (t : State), I t → I (x t) := ?_; clear_value x; on_goal 2 => subst x)
    | (extract_lets -underBinder +onlyGivenNames x; have hfn : ∀ (t : State) (a b : Bool), I t → I (x t a b) := ?_; clear_value x; on_goal 2 => subst x)
    | apply hfn
    | (intro t a b ht; beta_reduce)
    | (intro t a ht; beta_reduce)
    | (extract_lets -underBinder +onlyGivenNames x; have _p : PodSt := x; clear _p; subst x)
    | (extract_lets -underBinder +onlyGivenNames x; have _p : RingSt := x; clear _p; subst x)
    | (extract_lets -underBinder +onlyGivenNames x; clear_value x)
    | refine outNext ?_
    | exact optNone
    | refine optSome ?_
    | refine iteI (fun _ => ?_) (fun _ => ?_)
    | refine iteOutI (fun _ => ?_) (fun _ => ?_)
    | split
    | refine foldlI ?_ (fun _ _ _ => ?_)
    | refine foldlI2 ?_ (fun _ _ _ => ?_)
    | refine foldlI3 ?_ (fun _ _ _ => ?_)
    | refine foldlI1 ?_ (fun _ _ _ => ?_)
    | refine sndEq ?_ (by assumption)
    | refine fstEq ?_ (by assumption)
    | refine snd2Eq ?_ (by assumption)
    | refine snd3Eq ?_ (by assumption)
    | refine optEq ?_ (by assumption)
    | (refine partMk hI ?_; first | assumption | refine sndEq ?_ (by assumption))
    | with_unfolding_all exact hI.memPut (by decide) (by assumption) _ _
    | exact hI.eccInsert (by decide) (by assumption) _ _
    | exact hI.eccErase (by decide) (by assumption) _
    | exact hI.memKeep (by decide) (by assumption) _
    | exact hI.eccNone (by decide) (by assumption)
    | exact hI.regNone (by decide) (by assumption)
    | exact hI.memNone (by decide) (by assumption)
    | (intro t ht; beta_reduce)
    | (intro m; first | rfl | simp)
    | dsimp only

theorem keeps_safeSync (hI : Keeps [.recent, .pod, .safe, .chan, .regs] I) (s : State) (h_s : I s) : I
    (State.safeSync s) := by
  unfold State.safeSync
  with_reducible repeat' first
    | assumption
    | (extract_lets -underBinder +onlyGivenNames x; have hx : I x := ?_; clear_value x; on_goal 2 => subst x)
    | (extract_lets -underBinder +onlyGivenNames x; clear_value x)
    | refine foldlI ?_ (fun _ _ _ => ?_)
    | apply keeps_set (hI.mono (by decide))
    | apply keeps_outSync (hI.mono (by decide))
    | apply keeps_setB (hI.mono (by decide))
    | apply keeps_linesSync hI
    | (intro t ht; beta_reduce)
    | (intro m; first | rfl | simp)

theorem keeps_fnEnter (hI : Keeps [.recent, .log, .pod, .safe, .hw, .regs] I) (s : State) (c f : Nat)
    (st : FnState) (h_s : I s) : I (State.fnEnter s c f st) := by
  unfold State.fnEnter
  with_reducible repeat' first
    | assumption
    | (extract_lets -underBinder +onlyGivenNames x; have hx : I x := ?_; clear_value x; on_goal 2 => subst x)
    | (extract_lets -underBinder +onlyGivenNames x; clear_value x)
    | refine iteI (fun _ => ?_) (fun _ => ?_)
    | apply keeps_set (hI.mono (by decide))
    | apply keeps_setFn (hI.mono (by decide))
    | apply keeps_irq (hI.mono (by decide))
    | apply keeps_inc (hI.mono (by decide))
    | apply keeps_irqLog (hI.mono (by decide))
    | (refine partMk hI ?_; first | assumption | refine sndEq ?_ (by assumption))
    | (intro t ht; beta_reduce)
    | (intro m; first | rfl | simp)

theorem keeps_fnFault (hI : Keeps [.recent, .log, .pod, .safe, .hw, .regs] I) (s : State) (c f : Nat)
    (record : Bool) (h_s : I s) : I (State.fnFault s c f record) := by
  unfold State.fnFault
  with_reducible repeat' first
    | assumption
    | (extract_lets -underBinder +onlyGivenNames x; have hx : I x := ?_; clear_value x; on_goal 2 => subst x)
    | (extract_lets -underBinder +onlyGivenNames x; clear_value x)
    | refine iteI (fun _ => ?_) (fun _ => ?_)
    | apply keeps_fnEnter hI
    | apply keeps_irq (hI.mono (by decide))
    | apply keeps_inc (hI.mono (by decide))
    | apply keeps_irqLog (hI.mono (by decide))

theorem keeps_handsLate (hI : Keeps [.recent, .pod, .safe, .hw, .regs] I) (s : State) (c f : Nat) (h_s
    : I s) : I (State.handsLate s c f) := by
  unfold State.handsLate
  with_reducible repeat' first
    | assumption
    | (extract_lets -underBinder +onlyGivenNames x; have hx : I x := ?_; clear_value x; on_goal 2 => subst x)
    | (extract_lets -underBinder +onlyGivenNames x; clear_value x)
    | apply keeps_setFn (hI.mono (by decide))
    | apply keeps_irq (hI.mono (by decide))
    | (refine partMk hI ?_; first | assumption | refine sndEq ?_ (by assumption))
    | (intro t ht; beta_reduce)
    | (intro m; first | rfl | simp)

theorem keeps_noteHands (hI : Keeps [.safe, .hw] I) (s : State) (c f : Nat) (h_s : I s) : I
    (State.noteHands s c f) := by
  unfold State.noteHands
  with_reducible repeat' first
    | assumption
    | (extract_lets -underBinder +onlyGivenNames x; have hx : I x := ?_; clear_value x; on_goal 2 => subst x)
    | (extract_lets -underBinder +onlyGivenNames x; clear_value x)
    | refine iteI (fun _ => ?_) (fun _ => ?_)
    | split
    | apply keeps_setFn hI
    | refine sndEq ?_ (by assumption)
    | refine fstEq ?_ (by assumption)
    | refine snd2Eq ?_ (by assumption)
    | refine snd3Eq ?_ (by assumption)
    | refine optEq ?_ (by assumption)
    | (refine partMk hI ?_; first | assumption | refine sndEq ?_ (by assumption))
    | (intro t ht; beta_reduce)
    | (intro m; first | rfl | simp)

theorem keeps_fnMove (hI : Keeps [.recent, .log, .pod, .safe, .hw, .regs] I) (s : State) (c f : Nat)
    (h_s : I s) : I (State.fnMove s c f) := by
  unfold State.fnMove
  with_reducible repeat' first
    | assumption
    | (extract_lets -underBinder +onlyGivenNames x; have hx : I x := ?_; clear_value x; on_goal 2 => subst x)
    | (extract_lets -underBinder +onlyGivenNames x; clear_value x)
    | refine iteI (fun _ => ?_) (fun _ => ?_)
    | split
    | apply keeps_fnEnter hI
    | apply keeps_handsLate (hI.mono (by decide))
    | refine sndEq ?_ (by assumption)
    | refine fstEq ?_ (by assumption)
    | refine snd2Eq ?_ (by assumption)
    | refine snd3Eq ?_ (by assumption)
    | refine optEq ?_ (by assumption)
    | (refine partMk hI ?_; first | assumption | refine sndEq ?_ (by assumption))

theorem keeps_fnsMove (hI : Keeps [.recent, .log, .pod, .safe, .hw, .regs] I) (s : State) (c : Nat)
    (h_s : I s) : I (State.fnsMove s c) := by
  unfold State.fnsMove
  with_reducible repeat' first
    | assumption
    | (extract_lets -underBinder +onlyGivenNames x; have hx : I x := ?_; clear_value x; on_goal 2 => subst x)
    | (extract_lets -underBinder +onlyGivenNames x; clear_value x)
    | refine iteI (fun _ => ?_) (fun _ => ?_)
    | split
    | refine foldlI ?_ (fun _ _ _ => ?_)
    | apply keeps_fnMove hI
    | apply keeps_setFn (hI.mono (by decide))
    | apply keeps_pairsSync (hI.mono (by decide))
    | apply keeps_noteHands (hI.mono (by decide))
    | refine sndEq ?_ (by assumption)
    | refine fstEq ?_ (by assumption)
    | refine snd2Eq ?_ (by assumption)
    | refine snd3Eq ?_ (by assumption)
    | refine optEq ?_ (by assumption)
    | (refine partMk hI ?_; first | assumption | refine sndEq ?_ (by assumption))
    | (intro t ht; beta_reduce)
    | (intro m; first | rfl | simp)

theorem keeps_evalBurl (hI : Keeps [.recent, .log, .pod, .gyl, .safe, .hw, .chan, .regs] I) (s : State)
    (h_s : I s) : I (State.evalBurl s) := by
  unfold State.evalBurl
  with_reducible repeat' first
    | assumption
    | (extract_lets -underBinder +onlyGivenNames x; have hx : I x := ?_; clear_value x; on_goal 2 => subst x)
    | (extract_lets -underBinder +onlyGivenNames x; clear_value x)
    | apply keeps_safeSync (hI.mono (by decide))
    | apply keeps_fnsMove (hI.mono (by decide))
    | apply keeps_noteStates (hI.mono (by decide))

theorem keeps_evalHw (hI : Keeps [.recent, .log, .pod, .safe, .hw, .chan, .regs] I) (s : State) (h_s :
    I s) : I (State.evalHw s) := by
  unfold State.evalHw
  with_reducible repeat' first
    | assumption
    | apply keeps_safeSync (hI.mono (by decide))
    | apply keeps_fnsMove (hI.mono (by decide))

theorem keeps_putInput (hI : Keeps [.safe, .hw] I) (s : State) (c p : Nat) (b on : Bool) (h_s : I s) :
    I (State.putInput s c p b on) := by
  unfold State.putInput
  with_reducible repeat' first
    | assumption
    | (extract_lets -underBinder +onlyGivenNames x; have hx : I x := ?_; clear_value x; on_goal 2 => subst x)
    | (extract_lets -underBinder +onlyGivenNames x; clear_value x)
    | refine iteI (fun _ => ?_) (fun _ => ?_)
    | apply keeps_setSide hI
    | (refine partMk hI ?_; first | assumption | refine sndEq ?_ (by assumption))
    | (intro t ht; beta_reduce)
    | (intro m; first | rfl | simp)

theorem keeps_evalRecord (hI : Keeps [.recent, .log, .pod, .safe, .hw, .chan, .regs] I) (s : State)
    (h_s : I s) : I (State.evalRecord s) := by
  unfold State.evalRecord
  with_reducible repeat' first
    | assumption
    | (extract_lets -underBinder +onlyGivenNames x; have hx : I x := ?_; clear_value x; on_goal 2 => subst x)
    | (extract_lets -underBinder +onlyGivenNames x; clear_value x)
    | refine foldlI ?_ (fun _ _ _ => ?_)
    | apply keeps_modSafe (hI.mono (by decide))
    | apply keeps_evalHw hI
    | apply keeps_fnsMove (hI.mono (by decide))
    | apply keeps_putInput (hI.mono (by decide))
    | (refine partMk hI ?_; first | assumption | refine sndEq ?_ (by assumption))
    | (intro t ht; beta_reduce)
    | (intro m; first | rfl | simp)

theorem keeps_evalSide (hI : Keeps [.recent, .log, .pod, .gyl, .safe, .hw, .chan, .regs] I) (s : State)
    (c : Nat) (h_s : I s) : I (State.evalSide s c) := by
  unfold State.evalSide
  with_reducible repeat' first
    | assumption
    | refine iteI (fun _ => ?_) (fun _ => ?_)
    | apply keeps_evalHw (hI.mono (by decide))
    | apply keeps_evalBurl hI

theorem keeps_fnsAtLock (hI : Keeps [.recent, .log, .pod, .safe, .hw, .chan, .regs] I) (s : State) (h_s
    : I s) : I (State.fnsAtLock s) := by
  unfold State.fnsAtLock
  with_reducible repeat' first
    | assumption
    | (extract_lets -underBinder +onlyGivenNames x; have hx : I x := ?_; clear_value x; on_goal 2 => subst x)
    | (extract_lets -underBinder +onlyGivenNames x; have hfn : ∀ (t : State) (a b : Nat), I t → I (x t a b).1 := ?_; clear_value x; on_goal 2 => subst x)
    | (extract_lets -underBinder +onlyGivenNames x; have hfn : ∀ (t : State) (a : Nat), I t → I (x t a) := ?_; clear_value x; on_goal 2 => subst x)
    | (extract_lets -underBinder +onlyGivenNames x; have hfn : ∀ (t : State), I t → I (x t) := ?_; clear_value x; on_goal 2 => subst x)
    | (extract_lets -underBinder +onlyGivenNames x; have hfn : ∀ (t : State) (a b : Bool), I t → I (x t a b) := ?_; clear_value x; on_goal 2 => subst x)
    | apply hfn
    | (intro t a b ht; beta_reduce)
    | (intro t a ht; beta_reduce)
    | (extract_lets -underBinder +onlyGivenNames x; clear_value x)
    | refine iteI (fun _ => ?_) (fun _ => ?_)
    | apply keeps_modSafe (hI.mono (by decide))
    | apply keeps_safeSync (hI.mono (by decide))
    | apply keeps_fnsMove (hI.mono (by decide))
    | (refine partMk hI ?_; first | assumption | refine sndEq ?_ (by assumption))
    | (intro t ht; beta_reduce)
    | (intro m; first | rfl | simp)

theorem keeps_exchange (hI : Keeps [.safe] I) (s : State) (h_s : I s) : I (State.exchange s) := by
  unfold State.exchange
  with_reducible repeat' first
    | assumption
    | (extract_lets -underBinder +onlyGivenNames x; have hx : I x := ?_; clear_value x; on_goal 2 => subst x)
    | (extract_lets -underBinder +onlyGivenNames x; clear_value x)
    | refine iteI (fun _ => ?_) (fun _ => ?_)
    | split
    | apply keeps_modSafe hI
    | refine sndEq ?_ (by assumption)
    | refine fstEq ?_ (by assumption)
    | refine snd2Eq ?_ (by assumption)
    | refine snd3Eq ?_ (by assumption)
    | refine optEq ?_ (by assumption)
    | (refine partMk hI ?_; first | assumption | refine sndEq ?_ (by assumption))
    | (intro t ht; beta_reduce)
    | (intro m; first | rfl | simp)

theorem keeps_burlSafe (hI : Keeps [.recent, .sys, .log, .pod, .safe, .chan, .regs] I) (s : State)
    (cause : Nat) (mask : Nat) (h_s : I s) : I (State.burlSafe s cause mask) := by
  unfold State.burlSafe
  with_reducible repeat' first
    | assumption
    | (extract_lets -underBinder +onlyGivenNames x; have hx : I x := ?_; clear_value x; on_goal 2 => subst x)
    | (extract_lets -underBinder +onlyGivenNames x; clear_value x)
    | refine iteI (fun _ => ?_) (fun _ => ?_)
    | apply keeps_modSys (hI.mono (by decide))
    | apply keeps_set (hI.mono (by decide))
    | apply keeps_safeSync (hI.mono (by decide))
    | apply keeps_modLog (hI.mono (by decide))
    | apply keeps_setB (hI.mono (by decide))
    | apply keeps_irqLogD (hI.mono (by decide))
    | (refine partMk hI ?_; first | assumption | refine sndEq ?_ (by assumption))
    | (intro t ht; beta_reduce)
    | (intro m; first | rfl | simp)

theorem keeps_burlClockFault (hI : Keeps [.recent, .sys, .pod, .safe, .chan, .regs] I) (s : State) (h_s
    : I s) : I (State.burlClockFault s) := by
  unfold State.burlClockFault
  with_reducible repeat' first
    | assumption
    | (extract_lets -underBinder +onlyGivenNames x; have hx : I x := ?_; clear_value x; on_goal 2 => subst x)
    | (extract_lets -underBinder +onlyGivenNames x; clear_value x)
    | refine iteI (fun _ => ?_) (fun _ => ?_)
    | refine foldlI ?_ (fun _ _ _ => ?_)
    | apply keeps_modSys (hI.mono (by decide))
    | apply keeps_safeSync (hI.mono (by decide))
    | apply keeps_husk (hI.mono (by decide))
    | (refine partMk hI ?_; first | assumption | refine sndEq ?_ (by assumption))
    | (intro t ht; beta_reduce)
    | (intro m; first | rfl | simp)

theorem keeps_outFault (hI : Keeps [.recent, .log, .pod, .safe, .regs] I) (s : State) (n : Nat) (h_s :
    I s) : I (State.outFault s n) := by
  unfold State.outFault
  with_reducible repeat' first
    | assumption
    | (extract_lets -underBinder +onlyGivenNames x; have hx : I x := ?_; clear_value x; on_goal 2 => subst x)
    | (extract_lets -underBinder +onlyGivenNames x; clear_value x)
    | refine iteI (fun _ => ?_) (fun _ => ?_)
    | apply keeps_driveOut (hI.mono (by decide))
    | apply keeps_setOut (hI.mono (by decide))
    | apply keeps_showTest (hI.mono (by decide))
    | apply keeps_setMaskBit (hI.mono (by decide))
    | apply keeps_irqLog (hI.mono (by decide))
    | (refine partMk hI ?_; first | assumption | refine sndEq ?_ (by assumption))
    | (intro t ht; beta_reduce)
    | (intro m; first | rfl | simp)

theorem keeps_trip (hI : Keeps [.recent, .pod, .arm, .ride, .capt, .regs] I) (s : State) (causes : List
    Nat) (h_s : I s) : I (State.trip s causes) := by
  unfold State.trip
  with_reducible repeat' first
    | assumption
    | (extract_lets -underBinder +onlyGivenNames x; have hx : I x := ?_; clear_value x; on_goal 2 => subst x)
    | (extract_lets -underBinder +onlyGivenNames x; clear_value x)
    | refine iteI (fun _ => ?_) (fun _ => ?_)
    | split
    | refine foldlI ?_ (fun _ _ _ => ?_)
    | apply keeps_offerTrigger (hI.mono (by decide))
    | apply keeps_set (hI.mono (by decide))
    | apply keeps_setRide (hI.mono (by decide))
    | apply keeps_irq (hI.mono (by decide))
    | apply keeps_setB (hI.mono (by decide))
    | apply keeps_inc (hI.mono (by decide))
    | apply keeps_setArm (hI.mono (by decide))
    | refine sndEq ?_ (by assumption)
    | refine fstEq ?_ (by assumption)
    | refine snd2Eq ?_ (by assumption)
    | refine snd3Eq ?_ (by assumption)
    | refine optEq ?_ (by assumption)
    | (refine partMk hI ?_; first | assumption | refine sndEq ?_ (by assumption))
    | (intro t ht; beta_reduce)
    | (intro m; first | rfl | simp)

theorem keeps_tripRecord (hI : Keeps [.recent, .log, .ride, .regs] I) (s : State) (h_s : I s) : I
    (State.tripRecord s) := by
  unfold State.tripRecord
  with_reducible repeat' first
    | assumption
    | (extract_lets -underBinder +onlyGivenNames x; have hx : I x := ?_; clear_value x; on_goal 2 => subst x)
    | (extract_lets -underBinder +onlyGivenNames x; clear_value x)
    | refine iteI (fun _ => ?_) (fun _ => ?_)
    | refine foldlI ?_ (fun _ _ _ => ?_)
    | apply keeps_logIt (hI.mono (by decide))
    | apply keeps_setRide (hI.mono (by decide))
    | (refine partMk hI ?_; first | assumption | refine sndEq ?_ (by assumption))
    | (intro t ht; beta_reduce)
    | (intro m; first | rfl | simp)

theorem keeps_rtsTry (hI : Keeps [.recent, .pod, .ride, .regs] I) (s : State) (h_s : I s) : I
    (State.rtsTry s) := by
  unfold State.rtsTry
  with_reducible repeat' first
    | assumption
    | (extract_lets -underBinder +onlyGivenNames x; have hx : I x := ?_; clear_value x; on_goal 2 => subst x)
    | (extract_lets -underBinder +onlyGivenNames x; clear_value x)
    | refine iteI (fun _ => ?_) (fun _ => ?_)
    | apply keeps_setRide (hI.mono (by decide))
    | apply keeps_irq (hI.mono (by decide))
    | apply keeps_setB (hI.mono (by decide))
    | (refine partMk hI ?_; first | assumption | refine sndEq ?_ (by assumption))
    | (intro t ht; beta_reduce)
    | (intro m; first | rfl | simp)

theorem keeps_rtSync (hI : Keeps [.recent, .ride, .isl, .regs] I) (s : State) (h_s : I s) : I
    (State.rtSync s) := by
  unfold State.rtSync
  with_reducible repeat' first
    | assumption
    | (extract_lets -underBinder +onlyGivenNames x; have hx : I x := ?_; clear_value x; on_goal 2 => subst x)
    | (extract_lets -underBinder +onlyGivenNames x; clear_value x)
    | refine iteI (fun _ => ?_) (fun _ => ?_)
    | apply keeps_setIsl (hI.mono (by decide))
    | apply keeps_setRide (hI.mono (by decide))
    | apply keeps_setB (hI.mono (by decide))
    | apply keeps_putMaskBit (hI.mono (by decide))
    | (refine partMk hI ?_; first | assumption | refine sndEq ?_ (by assumption))
    | (intro t ht; beta_reduce)
    | (intro m; first | rfl | simp)

theorem keeps_rideMeasure (hI : Keeps [.ride, .regs] I) (s : State) (h_s : I s) : I (State.rideMeasure
    s) := by
  unfold State.rideMeasure
  with_reducible repeat' first
    | assumption
    | (extract_lets -underBinder +onlyGivenNames x; have hx : I x := ?_; clear_value x; on_goal 2 => subst x)
    | (extract_lets -underBinder +onlyGivenNames x; have hfn : ∀ (t : State) (a b : Nat), I t → I (x t a b).1 := ?_; clear_value x; on_goal 2 => subst x)
    | (extract_lets -underBinder +onlyGivenNames x; have hfn : ∀ (t : State) (a : Nat), I t → I (x t a) := ?_; clear_value x; on_goal 2 => subst x)
    | (extract_lets -underBinder +onlyGivenNames x; have hfn : ∀ (t : State), I t → I (x t) := ?_; clear_value x; on_goal 2 => subst x)
    | (extract_lets -underBinder +onlyGivenNames x; have hfn : ∀ (t : State) (a b : Bool), I t → I (x t a b) := ?_; clear_value x; on_goal 2 => subst x)
    | apply hfn
    | (intro t a b ht; beta_reduce)
    | (intro t a ht; beta_reduce)
    | (extract_lets -underBinder +onlyGivenNames x; clear_value x)
    | refine iteI (fun _ => ?_) (fun _ => ?_)
    | refine foldlI ?_ (fun _ _ _ => ?_)
    | apply keeps_showU (hI.mono (by decide))
    | apply keeps_setRide (hI.mono (by decide))
    | (refine partMk hI ?_; first | assumption | refine sndEq ?_ (by assumption))
    | (intro t ht; beta_reduce)
    | (intro m; first | rfl | simp)

theorem keeps_checkCurves (hI : Keeps [.dblTable, .dblCapt, .recent, .sys, .log, .pod, .safe, .chan,
    .regs] I) (s : State) (h_s : I s) : I (State.checkCurves s) := by
  unfold State.checkCurves
  with_reducible repeat' first
    | assumption
    | (extract_lets -underBinder +onlyGivenNames x; have hx : I x := ?_; clear_value x; on_goal 2 => subst x)
    | (extract_lets -underBinder +onlyGivenNames x; clear_value x)
    | refine iteI (fun _ => ?_) (fun _ => ?_)
    | split
    | apply keeps_setB (hI.mono (by decide))
    | apply keeps_engineRead (hI.mono (by decide))
    | apply keeps_burlSafe (hI.mono (by decide))
    | refine sndEq ?_ (by assumption)
    | refine fstEq ?_ (by assumption)
    | refine snd2Eq ?_ (by assumption)
    | refine snd3Eq ?_ (by assumption)
    | refine optEq ?_ (by assumption)

theorem keeps_refuseClear (hI : Keeps [.recent, .pod, .ride, .regs] I) (s : State) (h_s : I s) : I
    (State.refuseClear s) := by
  unfold State.refuseClear
  with_reducible repeat' first
    | assumption
    | (extract_lets -underBinder +onlyGivenNames x; have hx : I x := ?_; clear_value x; on_goal 2 => subst x)
    | (extract_lets -underBinder +onlyGivenNames x; clear_value x)
    | apply keeps_err (hI.mono (by decide))
    | apply keeps_setRide (hI.mono (by decide))
    | (refine partMk hI ?_; first | assumption | refine sndEq ?_ (by assumption))
    | (intro t ht; beta_reduce)
    | (intro m; first | rfl | simp)

theorem keeps_excCycle (hI : Keeps [.dblTable, .dblCapt, .recent, .sys, .log, .pod, .safe, .chan,
    .ride, .capt, .regs] I) (s : State) (c : Nat) (h_s : I s) : I (State.excCycle s c).1 := by
  unfold State.excCycle
  with_reducible repeat' first
    | assumption
    | (extract_lets -underBinder +onlyGivenNames x; have hx : I x := ?_; clear_value x; on_goal 2 => subst x)
    | (extract_lets -underBinder +onlyGivenNames x; clear_value x)
    | refine iteI (fun _ => ?_) (fun _ => ?_)
    | split
    | apply keeps_offerTrigger (hI.mono (by decide))
    | apply keeps_refuseClear (hI.mono (by decide))
    | apply keeps_set (hI.mono (by decide))
    | apply keeps_setRide (hI.mono (by decide))
    | apply keeps_setMaskBit (hI.mono (by decide))
    | apply keeps_engineRead (hI.mono (by decide))
    | apply keeps_inc (hI.mono (by decide))
    | apply keeps_irqLog (hI.mono (by decide))
    | apply keeps_burlSafe (hI.mono (by decide))
    | refine sndEq ?_ (by assumption)
    | refine fstEq ?_ (by assumption)
    | refine snd2Eq ?_ (by assumption)
    | refine snd3Eq ?_ (by assumption)
    | refine optEq ?_ (by assumption)
    | (refine partMk hI ?_; first | assumption | refine sndEq ?_ (by assumption))
    | (intro t ht; beta_reduce)
    | (intro m; first | rfl | simp)

theorem keeps_showExc (hI : Keeps [.regs] I) (s : State) (h_s : I s) : I (State.showExc s) := by
  unfold State.showExc
  with_reducible repeat' first
    | assumption
    | (extract_lets -underBinder +onlyGivenNames x; have hx : I x := ?_; clear_value x; on_goal 2 => subst x)
    | (extract_lets -underBinder +onlyGivenNames x; have hfn : ∀ (t : State) (a b : Nat), I t → I (x t a b).1 := ?_; clear_value x; on_goal 2 => subst x)
    | (extract_lets -underBinder +onlyGivenNames x; have hfn : ∀ (t : State) (a : Nat), I t → I (x t a) := ?_; clear_value x; on_goal 2 => subst x)
    | (extract_lets -underBinder +onlyGivenNames x; have hfn : ∀ (t : State), I t → I (x t) := ?_; clear_value x; on_goal 2 => subst x)
    | (extract_lets -underBinder +onlyGivenNames x; have hfn : ∀ (t : State) (a b : Bool), I t → I (x t a b) := ?_; clear_value x; on_goal 2 => subst x)
    | apply hfn
    | (intro t a b ht; beta_reduce)
    | (intro t a ht; beta_reduce)
    | (extract_lets -underBinder +onlyGivenNames x; clear_value x)
    | split
    | apply keeps_setSat hI
    | refine sndEq ?_ (by assumption)
    | refine fstEq ?_ (by assumption)
    | refine snd2Eq ?_ (by assumption)
    | refine snd3Eq ?_ (by assumption)
    | refine optEq ?_ (by assumption)
    | (refine partMk hI ?_; first | assumption | refine sndEq ?_ (by assumption))

theorem keeps_mcCycle (hI : Keeps [.recent, .pod, .ride, .regs] I) (s : State) (h_s : I s) : I
    (State.mcCycle s) := by
  unfold State.mcCycle
  with_reducible repeat' first
    | assumption
    | (extract_lets -underBinder +onlyGivenNames x; have hx : I x := ?_; clear_value x; on_goal 2 => subst x)
    | (extract_lets -underBinder +onlyGivenNames x; clear_value x)
    | refine iteI (fun _ => ?_) (fun _ => ?_)
    | apply keeps_setRide (hI.mono (by decide))
    | apply keeps_irq (hI.mono (by decide))
    | apply keeps_setB (hI.mono (by decide))
    | (refine partMk hI ?_; first | assumption | refine sndEq ?_ (by assumption))
    | (intro t ht; beta_reduce)
    | (intro m; first | rfl | simp)

theorem keeps_rtsCycle (hI : Keeps [.recent, .pod, .ride, .regs] I) (s : State) (h_s : I s) : I
    (State.rtsCycle s) := by
  unfold State.rtsCycle
  with_reducible repeat' first
    | assumption
    | (extract_lets -underBinder +onlyGivenNames x; have hx : I x := ?_; clear_value x; on_goal 2 => subst x)
    | (extract_lets -underBinder +onlyGivenNames x; have hfn : ∀ (t : State) (a b : Nat), I t → I (x t a b).1 := ?_; clear_value x; on_goal 2 => subst x)
    | (extract_lets -underBinder +onlyGivenNames x; have hfn : ∀ (t : State) (a : Nat), I t → I (x t a) := ?_; clear_value x; on_goal 2 => subst x)
    | (extract_lets -underBinder +onlyGivenNames x; have hfn : ∀ (t : State), I t → I (x t) := ?_; clear_value x; on_goal 2 => subst x)
    | (extract_lets -underBinder +onlyGivenNames x; have hfn : ∀ (t : State) (a b : Bool), I t → I (x t a b) := ?_; clear_value x; on_goal 2 => subst x)
    | apply hfn
    | (intro t a b ht; beta_reduce)
    | (intro t a ht; beta_reduce)
    | (extract_lets -underBinder +onlyGivenNames x; clear_value x)
    | apply keeps_rtsTry hI
    | apply keeps_setRide (hI.mono (by decide))
    | (refine partMk hI ?_; first | assumption | refine sndEq ?_ (by assumption))
    | (intro t ht; beta_reduce)
    | (intro m; first | rfl | simp)

theorem keeps_indRise (hI : Keeps [.recent, .pod, .isl, .regs] I) (s : State) (i : Nat) (h_s : I s) : I
    (State.indRise s i) := by
  unfold State.indRise
  with_reducible repeat' first
    | assumption
    | (extract_lets -underBinder +onlyGivenNames x; have hx : I x := ?_; clear_value x; on_goal 2 => subst x)
    | (extract_lets -underBinder +onlyGivenNames x; clear_value x)
    | apply keeps_setIsl (hI.mono (by decide))
    | apply keeps_set (hI.mono (by decide))
    | apply keeps_irq (hI.mono (by decide))
    | apply keeps_setMaskBit (hI.mono (by decide))
    | (refine partMk hI ?_; first | assumption | refine sndEq ?_ (by assumption))
    | (intro t ht; beta_reduce)
    | (intro m; first | rfl | simp)

theorem keeps_indTry (hI : Keeps [.recent, .pod, .isl, .regs] I) (s : State) (i : Nat) (h_s : I s) : I
    (State.indTry s i) := by
  unfold State.indTry
  with_reducible repeat' first
    | assumption
    | refine iteI (fun _ => ?_) (fun _ => ?_)
    | apply keeps_indRise hI

theorem keeps_islandDecide (hI : Keeps [.recent, .pod, .arm, .capt, .regs] I) (s : State) (who : Nat)
    (h_s : I s) : I (State.islandDecide s who).1 := by
  unfold State.islandDecide
  with_reducible repeat' first
    | assumption
    | (extract_lets -underBinder +onlyGivenNames x; have hx : I x := ?_; clear_value x; on_goal 2 => subst x)
    | (extract_lets -underBinder +onlyGivenNames x; clear_value x)
    | refine iteI (fun _ => ?_) (fun _ => ?_)
    | split
    | apply keeps_offerTrigger (hI.mono (by decide))
    | apply keeps_set (hI.mono (by decide))
    | apply keeps_irq (hI.mono (by decide))
    | apply keeps_setB (hI.mono (by decide))
    | apply keeps_inc (hI.mono (by decide))
    | apply keeps_setArm (hI.mono (by decide))
    | (refine partMk hI ?_; first | assumption | refine sndEq ?_ (by assumption))
    | (intro t ht; beta_reduce)
    | (intro m; first | rfl | simp)

theorem keeps_islandMeasure (hI : Keeps [.recent, .pod, .isl, .regs] I) (s : State) (h_s : I s) : I
    (State.islandMeasure s) := by
  unfold State.islandMeasure
  with_reducible repeat' first
    | assumption
    | (extract_lets -underBinder +onlyGivenNames x; have hx : I x := ?_; clear_value x; on_goal 2 => subst x)
    | (extract_lets -underBinder +onlyGivenNames x; clear_value x)
    | refine iteI (fun _ => ?_) (fun _ => ?_)
    | split
    | apply keeps_setIsl (hI.mono (by decide))
    | apply keeps_irq (hI.mono (by decide))
    | apply keeps_setB (hI.mono (by decide))
    | apply keeps_putMaskBit (hI.mono (by decide))
    | apply keeps_show (hI.mono (by decide))
    | refine sndEq ?_ (by assumption)
    | refine fstEq ?_ (by assumption)
    | refine snd2Eq ?_ (by assumption)
    | refine snd3Eq ?_ (by assumption)
    | refine optEq ?_ (by assumption)
    | (refine partMk hI ?_; first | assumption | refine sndEq ?_ (by assumption))
    | (intro t ht; beta_reduce)
    | (intro m; first | rfl | simp)

theorem keeps_islandCycle (hI : Keeps [.recent, .pod, .arm, .isl, .capt, .regs] I) (s : State) (h_s : I
    s) : I (State.islandCycle s).1 := by
  unfold State.islandCycle
  with_reducible repeat' first
    | assumption
    | (extract_lets -underBinder +onlyGivenNames x; have hx : I x := ?_; clear_value x; on_goal 2 => subst x)
    | (extract_lets -underBinder +onlyGivenNames x; clear_value x)
    | refine iteI (fun _ => ?_) (fun _ => ?_)
    | split
    | refine foldlI ?_ (fun _ _ _ => ?_)
    | refine foldlI2 ?_ (fun _ _ _ => ?_)
    | refine foldlI3 ?_ (fun _ _ _ => ?_)
    | refine foldlI1 ?_ (fun _ _ _ => ?_)
    | apply keeps_indTry (hI.mono (by decide))
    | apply keeps_islandDecide (hI.mono (by decide))
    | apply keeps_islandMeasure (hI.mono (by decide))
    | refine sndEq ?_ (by assumption)
    | refine fstEq ?_ (by assumption)
    | refine snd2Eq ?_ (by assumption)
    | refine snd3Eq ?_ (by assumption)
    | refine optEq ?_ (by assumption)
    | (refine partMk hI ?_; first | assumption | refine sndEq ?_ (by assumption))
    | (intro t ht; beta_reduce)
    | (intro m; first | rfl | simp)

theorem keeps_rideCycle (hI : Keeps [.dblTable, .dblCapt, .recent, .sys, .log, .pod, .safe, .chan,
    .arm, .ride, .isl, .capt, .regs] I) (s : State) (h_s : I s) : I (State.rideCycle s) := by
  unfold State.rideCycle
  with_reducible repeat' first
    | assumption
    | (extract_lets -underBinder +onlyGivenNames x; have hx : I x := ?_; clear_value x; on_goal 2 => subst x)
    | (extract_lets -underBinder +onlyGivenNames x; clear_value x)
    | split
    | refine foldlI ?_ (fun _ _ _ => ?_)
    | refine foldlI2 ?_ (fun _ _ _ => ?_)
    | refine foldlI3 ?_ (fun _ _ _ => ?_)
    | refine foldlI1 ?_ (fun _ _ _ => ?_)
    | apply keeps_rtsCycle (hI.mono (by decide))
    | apply keeps_rtSync (hI.mono (by decide))
    | apply keeps_showExc (hI.mono (by decide))
    | apply keeps_trip (hI.mono (by decide))
    | apply keeps_rideMeasure (hI.mono (by decide))
    | apply keeps_setRide (hI.mono (by decide))
    | apply keeps_islandCycle (hI.mono (by decide))
    | apply keeps_tripRecord (hI.mono (by decide))
    | apply keeps_excCycle (hI.mono (by decide))
    | apply keeps_mcCycle (hI.mono (by decide))
    | refine sndEq ?_ (by assumption)
    | refine fstEq ?_ (by assumption)
    | refine snd2Eq ?_ (by assumption)
    | refine snd3Eq ?_ (by assumption)
    | refine optEq ?_ (by assumption)
    | (refine partMk hI ?_; first | assumption | refine sndEq ?_ (by assumption))
    | (intro t ht; beta_reduce)
    | (intro m; first | rfl | simp)

theorem keeps_ttFrame (hI : Keeps [.recent, .pod, .arm, .ride, .capt, .regs] I) (s : State) (l : List
    Nat) (h_s : I s) : I (State.ttFrame s l) := by
  unfold State.ttFrame
  with_reducible repeat' first
    | assumption
    | (extract_lets -underBinder +onlyGivenNames x; have hx : I x := ?_; clear_value x; on_goal 2 => subst x)
    | (extract_lets -underBinder +onlyGivenNames x; clear_value x)
    | refine iteI (fun _ => ?_) (fun _ => ?_)
    | split
    | apply keeps_trip hI
    | apply keeps_islandDecide (hI.mono (by decide))
    | apply keeps_setRide (hI.mono (by decide))
    | apply keeps_irq (hI.mono (by decide))
    | apply keeps_setB (hI.mono (by decide))
    | apply keeps_inc (hI.mono (by decide))
    | refine sndEq ?_ (by assumption)
    | refine fstEq ?_ (by assumption)
    | refine snd2Eq ?_ (by assumption)
    | refine snd3Eq ?_ (by assumption)
    | refine optEq ?_ (by assumption)
    | (refine partMk hI ?_; first | assumption | refine sndEq ?_ (by assumption))
    | (intro t ht; beta_reduce)
    | (intro m; first | rfl | simp)

theorem keeps_ttLost (hI : Keeps [.recent, .pod, .arm, .ride, .capt, .regs] I) (s : State) (h_s : I s)
    : I (State.ttLost s) := by
  unfold State.ttLost
  with_reducible repeat' first
    | assumption
    | (extract_lets -underBinder +onlyGivenNames x; have hx : I x := ?_; clear_value x; on_goal 2 => subst x)
    | (extract_lets -underBinder +onlyGivenNames x; clear_value x)
    | refine iteI (fun _ => ?_) (fun _ => ?_)
    | apply keeps_trip hI
    | apply keeps_irq (hI.mono (by decide))
    | apply keeps_setB (hI.mono (by decide))

end Sys2Proof.Machine
end

