-- ==== Sys2Proof/Laws/KeepsExchange.lean ====
section
/-! SUPPORT. Which parts of the state may change in the operations and the commands of the arm exchange, Canopy time, the queues and the ring. -/

set_option linter.unusedTactic false
set_option linter.unreachableTactic false

namespace Sys2Proof.Machine

-- One proof after another: many at once wait for the same equations, each in a thread of its own.
set_option Elab.async false

variable {I : State → Prop}

theorem keeps_roleInit (hI : Keeps [.regs] I) (s : State) (h_s : I s) : I (State.roleInit s) := by
  unfold State.roleInit
  with_reducible repeat' first
    | assumption
    | refine iteI (fun _ => ?_) (fun _ => ?_)
    | refine foldlI ?_ (fun _ _ _ => ?_)
    | apply keeps_set hI
    | (intro t ht; beta_reduce)
    | (intro m; first | rfl | simp)

theorem keeps_setRole (hI : Keeps [.regs] I) (s : State) (r : Nat) (h_s : I s) : I (State.setRole s r) := by
  unfold State.setRole
  with_reducible repeat' first
    | assumption
    | split
    | apply keeps_set hI
    | refine sndEq ?_ (by assumption)
    | refine fstEq ?_ (by assumption)
    | refine snd2Eq ?_ (by assumption)
    | refine snd3Eq ?_ (by assumption)
    | refine optEq ?_ (by assumption)
    | (refine partMk hI ?_; first | assumption | refine sndEq ?_ (by assumption))

theorem keeps_resign (hI : Keeps [.recent, .pod, .arm, .regs] I) (s : State) (h_s : I s) : I
    (State.resign s) := by
  unfold State.resign
  with_reducible repeat' first
    | assumption
    | (extract_lets -underBinder +onlyGivenNames x; have hx : I x := ?_; clear_value x; on_goal 2 => subst x)
    | (extract_lets -underBinder +onlyGivenNames x; clear_value x)
    | refine iteI (fun _ => ?_) (fun _ => ?_)
    | apply keeps_setArm (hI.mono (by decide))
    | apply keeps_setRole (hI.mono (by decide))
    | apply keeps_irq (hI.mono (by decide))
    | (refine partMk hI ?_; first | assumption | refine sndEq ?_ (by assumption))
    | (intro t ht; beta_reduce)
    | (intro m; first | rfl | simp)

theorem keeps_xchk (hI : Keeps [.recent, .pod, .regs] I) (s : State) (b : Nat) (h_s : I s) : I
    (State.xchk s b) := by
  unfold State.xchk
  with_reducible repeat' first
    | assumption
    | apply keeps_setMaskBit (hI.mono (by decide))
    | apply keeps_inc (hI.mono (by decide))
    | apply keeps_irq hI

theorem keeps_followFrame (hI : Keeps [.recent, .pod, .chan, .regs] I) (s : State) (f : ArmFrame) (h_s
    : I s) : I (State.followFrame s f) := by
  unfold State.followFrame
  with_reducible repeat' first
    | assumption
    | (extract_lets -underBinder +onlyGivenNames x; have hx : I x := ?_; clear_value x; on_goal 2 => subst x)
    | (extract_lets -underBinder +onlyGivenNames x; clear_value x)
    | refine iteI (fun _ => ?_) (fun _ => ?_)
    | refine foldlI ?_ (fun _ _ _ => ?_)
    | apply keeps_set (hI.mono (by decide))
    | apply keeps_cellGrant (hI.mono (by decide))
    | apply keeps_cellRide hI
    | apply keeps_setCell (hI.mono (by decide))
    | apply keeps_channelFault hI
    | (refine partMk hI ?_; first | assumption | refine sndEq ?_ (by assumption))
    | (intro t ht; beta_reduce)
    | (intro m; first | rfl | simp)

theorem keeps_noteGrant (hI : Keeps [.arm] I) (s : State) (g : Grant) (h_s : I s) : I (State.noteGrant
    s g) := by
  unfold State.noteGrant
  with_reducible repeat' first
    | assumption
    | (extract_lets -underBinder +onlyGivenNames x; have hx : I x := ?_; clear_value x; on_goal 2 => subst x)
    | (extract_lets -underBinder +onlyGivenNames x; clear_value x)
    | refine iteI (fun _ => ?_) (fun _ => ?_)
    | apply keeps_setArm hI
    | (refine partMk hI ?_; first | assumption | refine sndEq ?_ (by assumption))
    | (intro t ht; beta_reduce)
    | (intro m; first | rfl | simp)

theorem keeps_frameMissing (hI : Keeps [.recent, .pod, .arm, .regs] I) (s : State) (a e : Nat) (h_s : I
    s) : I (State.frameMissing s a e) := by
  unfold State.frameMissing
  with_reducible repeat' first
    | assumption
    | refine iteI (fun _ => ?_) (fun _ => ?_)
    | apply keeps_setArm (hI.mono (by decide))
    | apply keeps_inc (hI.mono (by decide))
    | apply keeps_irq (hI.mono (by decide))
    | (refine partMk hI ?_; first | assumption | refine sndEq ?_ (by assumption))
    | (intro t ht; beta_reduce)
    | (intro m; first | rfl | simp)

theorem keeps_takeFrame (hI : Keeps [.recent, .pod, .chan, .arm, .regs] I) (s : State) (f : ArmFrame)
    (h_s : I s) : I (State.takeFrame s f) := by
  unfold State.takeFrame
  with_reducible repeat' first
    | assumption
    | (extract_lets -underBinder +onlyGivenNames x; have hx : I x := ?_; clear_value x; on_goal 2 => subst x)
    | (extract_lets -underBinder +onlyGivenNames x; clear_value x)
    | refine iteI (fun _ => ?_) (fun _ => ?_)
    | split
    | apply keeps_setArm (hI.mono (by decide))
    | apply keeps_inc (hI.mono (by decide))
    | apply keeps_noteGrant (hI.mono (by decide))
    | apply keeps_xchk (hI.mono (by decide))
    | apply keeps_followFrame (hI.mono (by decide))
    | apply keeps_irq (hI.mono (by decide))
    | apply keeps_frameMissing (hI.mono (by decide))
    | refine sndEq ?_ (by assumption)
    | refine fstEq ?_ (by assumption)
    | refine snd2Eq ?_ (by assumption)
    | refine snd3Eq ?_ (by assumption)
    | refine optEq ?_ (by assumption)
    | (refine partMk hI ?_; first | assumption | refine sndEq ?_ (by assumption))
    | (intro t ht; beta_reduce)
    | (intro m; first | rfl | simp)

theorem keeps_crossEntries (hI : Keeps [.sys, .arm, .regs] I) (s : State) (h_s : I s) : I
    (State.crossEntries s) := by
  unfold State.crossEntries
  with_reducible repeat' first
    | assumption
    | (extract_lets -underBinder +onlyGivenNames x; have hx : I x := ?_; clear_value x; on_goal 2 => subst x)
    | (extract_lets -underBinder +onlyGivenNames x; clear_value x)
    | refine iteI (fun _ => ?_) (fun _ => ?_)
    | refine foldlI ?_ (fun _ _ _ => ?_)
    | apply keeps_set (hI.mono (by decide))
    | apply keeps_setArm (hI.mono (by decide))
    | apply keeps_takeLost (hI.mono (by decide))
    | (refine partMk hI ?_; first | assumption | refine sndEq ?_ (by assumption))
    | (intro t ht; beta_reduce)
    | (intro m; first | rfl | simp)

theorem keeps_takeReport (hI : Keeps [.arm] I) (s : State) (l : List Nat) (h_s : I s) : I
    (State.takeReport s l) := by
  unfold State.takeReport
  with_reducible repeat' first
    | assumption
    | (extract_lets -underBinder +onlyGivenNames x; have hx : I x := ?_; clear_value x; on_goal 2 => subst x)
    | (extract_lets -underBinder +onlyGivenNames x; clear_value x)
    | refine iteI (fun _ => ?_) (fun _ => ?_)
    | refine foldlI ?_ (fun _ _ _ => ?_)
    | apply keeps_setArm hI
    | (refine partMk hI ?_; first | assumption | refine sndEq ?_ (by assumption))
    | (intro t ht; beta_reduce)
    | (intro m; first | rfl | simp)

theorem keeps_pruneGrants (hI : Keeps [.arm] I) (s : State) (h_s : I s) : I (State.pruneGrants s) := by
  unfold State.pruneGrants
  with_reducible repeat' first
    | assumption
    | (extract_lets -underBinder +onlyGivenNames x; have hx : I x := ?_; clear_value x; on_goal 2 => subst x)
    | (extract_lets -underBinder +onlyGivenNames x; clear_value x)
    | split
    | apply keeps_setArm hI
    | refine sndEq ?_ (by assumption)
    | refine fstEq ?_ (by assumption)
    | refine snd2Eq ?_ (by assumption)
    | refine snd3Eq ?_ (by assumption)
    | refine optEq ?_ (by assumption)
    | (refine partMk hI ?_; first | assumption | refine sndEq ?_ (by assumption))
    | (intro t ht; beta_reduce)
    | (intro m; first | rfl | simp)

theorem keeps_shareCycle (hI : Keeps [.arm] I) (s : State) (e : Nat) (h_s : I s) : I (State.shareCycle
    s e) := by
  unfold State.shareCycle
  with_reducible repeat' first
    | assumption
    | (extract_lets -underBinder +onlyGivenNames x; have hx : I x := ?_; clear_value x; on_goal 2 => subst x)
    | (extract_lets -underBinder +onlyGivenNames x; clear_value x)
    | apply keeps_setArm hI
    | apply keeps_pruneGrants hI
    | (refine partMk hI ?_; first | assumption | refine sndEq ?_ (by assumption))
    | (intro t ht; beta_reduce)
    | (intro m; first | rfl | simp)

theorem keeps_requestCycle (hI : Keeps [.arm] I) (s : State) (t : Nat) (h_s : I s) : I
    (State.requestCycle s t) := by
  unfold State.requestCycle
  with_reducible repeat' first
    | assumption
    | (extract_lets -underBinder +onlyGivenNames x; have hx : I x := ?_; clear_value x; on_goal 2 => subst x)
    | (extract_lets -underBinder +onlyGivenNames x; have hfn : ∀ (t : State) (a b : Nat), I t → I (x t a b).1 := ?_; clear_value x; on_goal 2 => subst x)
    | (extract_lets -underBinder +onlyGivenNames x; have hfn : ∀ (t : State) (a : Nat), I t → I (x t a) := ?_; clear_value x; on_goal 2 => subst x)
    | (extract_lets -underBinder +onlyGivenNames x; have hfn : ∀ (t : State), I t → I (x t) := ?_; clear_value x; on_goal 2 => subst x)
    | (extract_lets -underBinder +onlyGivenNames x; have hfn : ∀ (t : State) (a b : Bool), I t → I (x t a b) := ?_; clear_value x; on_goal 2 => subst x)
    | apply hfn
    | (intro t a b ht; beta_reduce)
    | (intro t a ht; beta_reduce)
    | (extract_lets -underBinder +onlyGivenNames x; clear_value x)
    | refine iteI (fun _ => ?_) (fun _ => ?_)
    | split
    | apply keeps_setArm hI
    | refine sndEq ?_ (by assumption)
    | refine fstEq ?_ (by assumption)
    | refine snd2Eq ?_ (by assumption)
    | refine snd3Eq ?_ (by assumption)
    | refine optEq ?_ (by assumption)
    | (refine partMk hI ?_; first | assumption | refine sndEq ?_ (by assumption))
    | (intro t ht; beta_reduce)
    | (intro m; first | rfl | simp)

theorem keeps_tokenCycle (hI : Keeps [.arm] I) (s : State) (h_s : I s) : I (State.tokenCycle s) := by
  unfold State.tokenCycle
  with_reducible repeat' first
    | assumption
    | (extract_lets -underBinder +onlyGivenNames x; have hx : I x := ?_; clear_value x; on_goal 2 => subst x)
    | (extract_lets -underBinder +onlyGivenNames x; clear_value x)
    | refine iteI (fun _ => ?_) (fun _ => ?_)
    | apply keeps_setArm hI
    | (refine partMk hI ?_; first | assumption | refine sndEq ?_ (by assumption))
    | (intro t ht; beta_reduce)
    | (intro m; first | rfl | simp)

theorem keeps_armSums (hI : Keeps [.freeCtr] I) (s : State) (h_s : I s) : I (State.armSums s).2 := by
  unfold State.armSums
  with_reducible repeat' first
    | assumption
    | (extract_lets -underBinder +onlyGivenNames x; have hx : I x := ?_; clear_value x; on_goal 2 => subst x)
    | (extract_lets -underBinder +onlyGivenNames x; clear_value x)
    | refine iteI (fun _ => ?_) (fun _ => ?_)
    | split
    | refine foldlI ?_ (fun _ _ _ => ?_)
    | refine foldlI2 ?_ (fun _ _ _ => ?_)
    | refine foldlI3 ?_ (fun _ _ _ => ?_)
    | refine foldlI1 ?_ (fun _ _ _ => ?_)
    | apply keeps_fresh hI
    | refine sndEq ?_ (by assumption)
    | refine fstEq ?_ (by assumption)
    | refine snd2Eq ?_ (by assumption)
    | refine snd3Eq ?_ (by assumption)
    | refine optEq ?_ (by assumption)
    | (refine partMk hI ?_; first | assumption | refine sndEq ?_ (by assumption))
    | (intro t ht; beta_reduce)
    | (intro m; first | rfl | simp)

theorem keeps_keepBursts (hI : Keeps [.arm] I) (s : State) (h_s : I s) : I (State.keepBursts s) := by
  unfold State.keepBursts
  with_reducible repeat' first
    | assumption
    | (extract_lets -underBinder +onlyGivenNames x; have hx : I x := ?_; clear_value x; on_goal 2 => subst x)
    | (extract_lets -underBinder +onlyGivenNames x; clear_value x)
    | refine iteI (fun _ => ?_) (fun _ => ?_)
    | split
    | apply keeps_setArm hI
    | refine sndEq ?_ (by assumption)
    | refine fstEq ?_ (by assumption)
    | refine snd2Eq ?_ (by assumption)
    | refine snd3Eq ?_ (by assumption)
    | refine optEq ?_ (by assumption)
    | (refine partMk hI ?_; first | assumption | refine sndEq ?_ (by assumption))
    | (intro t ht; beta_reduce)
    | (intro m; first | rfl | simp)

theorem keeps_ffrCycle (hI : Keeps [.arm] I) (s : State) (h_s : I s) : I (State.ffrCycle s) := by
  unfold State.ffrCycle
  with_reducible repeat' first
    | assumption
    | (extract_lets -underBinder +onlyGivenNames x; have hx : I x := ?_; clear_value x; on_goal 2 => subst x)
    | (extract_lets -underBinder +onlyGivenNames x; clear_value x)
    | refine iteI (fun _ => ?_) (fun _ => ?_)
    | apply keeps_setArm hI
    | (refine partMk hI ?_; first | assumption | refine sndEq ?_ (by assumption))
    | (intro t ht; beta_reduce)
    | (intro m; first | rfl | simp)

theorem keeps_showBurst (hI : Keeps [.recent, .log, .pod, .arm, .regs] I) (s : State) (want got : Rat)
    (master : Bool) (h_s : I s) : I (State.showBurst s want got master) := by
  unfold State.showBurst
  with_reducible repeat' first
    | assumption
    | (extract_lets -underBinder +onlyGivenNames x; have hx : I x := ?_; clear_value x; on_goal 2 => subst x)
    | (extract_lets -underBinder +onlyGivenNames x; clear_value x)
    | refine iteI (fun _ => ?_) (fun _ => ?_)
    | apply keeps_setArm (hI.mono (by decide))
    | apply keeps_setSat (hI.mono (by decide))
    | apply keeps_setB (hI.mono (by decide))
    | apply keeps_irq (hI.mono (by decide))
    | apply keeps_irqLog (hI.mono (by decide))
    | (refine partMk hI ?_; first | assumption | refine sndEq ?_ (by assumption))
    | (intro t ht; beta_reduce)
    | (intro m; first | rfl | simp)

theorem keeps_vsmCycle (hI : Keeps [.arm] I) (s : State) (pSet qSet : Rat) (h_s : I s) : I
    (State.vsmCycle s pSet qSet).2.2 := by
  unfold State.vsmCycle
  with_reducible repeat' first
    | assumption
    | (extract_lets -underBinder +onlyGivenNames x; have hx : I x := ?_; clear_value x; on_goal 2 => subst x)
    | (extract_lets -underBinder +onlyGivenNames x; clear_value x)
    | refine iteI (fun _ => ?_) (fun _ => ?_)
    | split
    | apply keeps_setArm hI
    | refine sndEq ?_ (by assumption)
    | refine fstEq ?_ (by assumption)
    | refine snd2Eq ?_ (by assumption)
    | refine snd3Eq ?_ (by assumption)
    | refine optEq ?_ (by assumption)
    | (refine partMk hI ?_; first | assumption | refine sndEq ?_ (by assumption))
    | (intro t ht; beta_reduce)
    | (intro m; first | rfl | simp)

theorem keeps_handOver (hI : Keeps [.recent, .freeCtr, .log, .pod, .arm, .regs] I) (s : State) (gf :
    Bool) (h_s : I s) : I (State.handOver s gf) := by
  unfold State.handOver
  with_reducible repeat' first
    | assumption
    | (extract_lets -underBinder +onlyGivenNames x; have hx : I x := ?_; clear_value x; on_goal 2 => subst x)
    | (extract_lets -underBinder +onlyGivenNames x; clear_value x)
    | refine iteI (fun _ => ?_) (fun _ => ?_)
    | split
    | refine foldlI ?_ (fun _ _ _ => ?_)
    | refine foldlI2 ?_ (fun _ _ _ => ?_)
    | refine foldlI3 ?_ (fun _ _ _ => ?_)
    | refine foldlI1 ?_ (fun _ _ _ => ?_)
    | apply keeps_setArm (hI.mono (by decide))
    | apply keeps_setB (hI.mono (by decide))
    | apply keeps_armSums (hI.mono (by decide))
    | apply keeps_irqLog (hI.mono (by decide))
    | refine sndEq ?_ (by assumption)
    | refine fstEq ?_ (by assumption)
    | refine snd2Eq ?_ (by assumption)
    | refine snd3Eq ?_ (by assumption)
    | refine optEq ?_ (by assumption)
    | (refine partMk hI ?_; first | assumption | refine sndEq ?_ (by assumption))
    | (intro t ht; beta_reduce)
    | (intro m; first | rfl | simp)

theorem keeps_biasCycle (hI : Keeps [.isl, .regs] I) (s : State) (h_s : I s) : I (State.biasCycle s) := by
  unfold State.biasCycle
  with_reducible repeat' first
    | assumption
    | (extract_lets -underBinder +onlyGivenNames x; have hx : I x := ?_; clear_value x; on_goal 2 => subst x)
    | (extract_lets -underBinder +onlyGivenNames x; clear_value x)
    | refine iteI (fun _ => ?_) (fun _ => ?_)
    | apply keeps_setIsl (hI.mono (by decide))
    | apply keeps_show (hI.mono (by decide))
    | (refine partMk hI ?_; first | assumption | refine sndEq ?_ (by assumption))
    | (intro t ht; beta_reduce)
    | (intro m; first | rfl | simp)

theorem keeps_armVoltage (hI : Keeps [.arm] I) (s : State) (t : Nat) (v : Wave) (es : List Rat)
    (standby : Bool) (h_s : I s) : I (State.armVoltage s t v es standby).2.2 := by
  unfold State.armVoltage
  with_reducible repeat' first
    | assumption
    | (extract_lets -underBinder +onlyGivenNames x; have hx : I x := ?_; clear_value x; on_goal 2 => subst x)
    | (extract_lets -underBinder +onlyGivenNames x; have hfn : ∀ (t : State) (a b : Nat), I t → I (x t a b).1 := ?_; clear_value x; on_goal 2 => subst x)
    | (extract_lets -underBinder +onlyGivenNames x; have hfn : ∀ (t : State) (a : Nat), I t → I (x t a) := ?_; clear_value x; on_goal 2 => subst x)
    | (extract_lets -underBinder +onlyGivenNames x; have hfn : ∀ (t : State), I t → I (x t) := ?_; clear_value x; on_goal 2 => subst x)
    | (extract_lets -underBinder +onlyGivenNames x; have hfn : ∀ (t : State) (a b : Bool), I t → I (x t a b) := ?_; clear_value x; on_goal 2 => subst x)
    | apply hfn
    | (intro t a b ht; beta_reduce)
    | (intro t a ht; beta_reduce)
    | (extract_lets -underBinder +onlyGivenNames x; clear_value x)
    | split
    | apply keeps_setArm hI
    | refine sndEq ?_ (by assumption)
    | refine fstEq ?_ (by assumption)
    | refine snd2Eq ?_ (by assumption)
    | refine snd3Eq ?_ (by assumption)
    | refine optEq ?_ (by assumption)
    | (refine partMk hI ?_; first | assumption | refine sndEq ?_ (by assumption))
    | (intro t ht; beta_reduce)
    | (intro m; first | rfl | simp)

theorem keeps_peakCycle (hI : Keeps [.arm, .regs] I) (s : State) (v : Rat) (h_s : I s) : I
    (State.peakCycle s v) := by
  unfold State.peakCycle
  with_reducible repeat' first
    | assumption
    | (extract_lets -underBinder +onlyGivenNames x; have hx : I x := ?_; clear_value x; on_goal 2 => subst x)
    | (extract_lets -underBinder +onlyGivenNames x; clear_value x)
    | apply keeps_setArm (hI.mono (by decide))
    | apply keeps_showU (hI.mono (by decide))
    | (refine partMk hI ?_; first | assumption | refine sndEq ?_ (by assumption))
    | (intro t ht; beta_reduce)
    | (intro m; first | rfl | simp)

theorem keeps_showCapable (hI : Keeps [.recent, .log, .pod, .regs] I) (s : State) (c master : Bool)
    (h_s : I s) : I (State.showCapable s c master) := by
  unfold State.showCapable
  with_reducible repeat' first
    | assumption
    | (extract_lets -underBinder +onlyGivenNames x; have hx : I x := ?_; clear_value x; on_goal 2 => subst x)
    | (extract_lets -underBinder +onlyGivenNames x; clear_value x)
    | refine iteI (fun _ => ?_) (fun _ => ?_)
    | apply keeps_setB (hI.mono (by decide))
    | apply keeps_irqLog hI

theorem keeps_stuckCycle (hI : Keeps [.recent, .log, .pod, .arm, .regs] I) (s : State) (master : Bool)
    (h_s : I s) : I (State.stuckCycle s master) := by
  unfold State.stuckCycle
  with_reducible repeat' first
    | assumption
    | (extract_lets -underBinder +onlyGivenNames x; have hx : I x := ?_; clear_value x; on_goal 2 => subst x)
    | (extract_lets -underBinder +onlyGivenNames x; clear_value x)
    | refine iteI (fun _ => ?_) (fun _ => ?_)
    | apply keeps_setArm (hI.mono (by decide))
    | apply keeps_setB (hI.mono (by decide))
    | apply keeps_irqLog (hI.mono (by decide))
    | (refine partMk hI ?_; first | assumption | refine sndEq ?_ (by assumption))
    | (intro t ht; beta_reduce)
    | (intro m; first | rfl | simp)

theorem keeps_armCycle (hI : Keeps [.recent, .freeCtr, .log, .pod, .arm, .isl, .regs] I) (s : State) (t
    : Nat) (h_s : I s) : I (State.armCycle s t).2 := by
  unfold State.armCycle
  with_reducible repeat' first
    | assumption
    | (extract_lets -underBinder +onlyGivenNames x; have hx : I x := ?_; clear_value x; on_goal 2 => subst x)
    | (extract_lets -underBinder +onlyGivenNames x; clear_value x)
    | refine iteI (fun _ => ?_) (fun _ => ?_)
    | split
    | refine foldlI ?_ (fun _ _ _ => ?_)
    | refine foldlI2 ?_ (fun _ _ _ => ?_)
    | refine foldlI3 ?_ (fun _ _ _ => ?_)
    | refine foldlI1 ?_ (fun _ _ _ => ?_)
    | apply keeps_set (hI.mono (by decide))
    | apply keeps_setArm (hI.mono (by decide))
    | apply keeps_shareCycle (hI.mono (by decide))
    | apply keeps_keepBursts (hI.mono (by decide))
    | apply keeps_biasCycle (hI.mono (by decide))
    | apply keeps_stuckCycle (hI.mono (by decide))
    | apply keeps_show (hI.mono (by decide))
    | apply keeps_peakCycle (hI.mono (by decide))
    | apply keeps_armVoltage (hI.mono (by decide))
    | apply keeps_tokenCycle (hI.mono (by decide))
    | apply keeps_ffrCycle (hI.mono (by decide))
    | apply keeps_showBurst (hI.mono (by decide))
    | apply keeps_setB (hI.mono (by decide))
    | apply keeps_requestCycle (hI.mono (by decide))
    | apply keeps_showCapable (hI.mono (by decide))
    | apply keeps_armSums (hI.mono (by decide))
    | apply keeps_vsmCycle (hI.mono (by decide))
    | refine sndEq ?_ (by assumption)
    | refine fstEq ?_ (by assumption)
    | refine snd2Eq ?_ (by assumption)
    | refine snd3Eq ?_ (by assumption)
    | refine optEq ?_ (by assumption)
    | (refine partMk hI ?_; first | assumption | refine sndEq ?_ (by assumption))
    | (intro t ht; beta_reduce)
    | (intro m; first | rfl | simp)

theorem keeps_modMeter (hI : Keeps [.meter] I) (s : State) (f : MeterSt → MeterSt) (h_s : I s) (hf : ∀
    m, (f m).fram = m.fram) : I (State.modMeter s f) :=
  hI.meter (by decide) h_s _ (hf _)

theorem keeps_srcErr (hI : Keeps [.recent, .log, .pod, .regs] I) (s : State) (h_s : I s) : I
    (State.srcErr s) := by
  unfold State.srcErr
  with_reducible repeat' first
    | assumption
    | (extract_lets -underBinder +onlyGivenNames x; have hx : I x := ?_; clear_value x; on_goal 2 => subst x)
    | (extract_lets -underBinder +onlyGivenNames x; clear_value x)
    | refine iteI (fun _ => ?_) (fun _ => ?_)
    | apply keeps_setB (hI.mono (by decide))
    | apply keeps_irq (hI.mono (by decide))
    | apply keeps_irqLog hI

theorem keeps_pushSmp (hI : Keeps [.meter] I) (s : State) (k : Nat) (m : MeterSmp) (h_s : I s) : I
    (State.pushSmp s k m) := by
  unfold State.pushSmp
  with_reducible repeat' first
    | assumption
    | (extract_lets -underBinder +onlyGivenNames x; have hx : I x := ?_; clear_value x; on_goal 2 => subst x)
    | (extract_lets -underBinder +onlyGivenNames x; clear_value x)
    | apply keeps_modMeter hI
    | (refine partMk hI ?_; first | assumption | refine sndEq ?_ (by assumption))
    | (intro t ht; beta_reduce)
    | (intro m; first | rfl | simp)

theorem keeps_meterResult (hI : Keeps [.recent, .log, .pod, .meter, .regs] I) (s : State) (n i t : Nat)
    (h_s : I s) : I (State.meterResult s n i t) := by
  unfold State.meterResult
  with_reducible repeat' first
    | assumption
    | (extract_lets -underBinder +onlyGivenNames x; have hx : I x := ?_; clear_value x; on_goal 2 => subst x)
    | (extract_lets -underBinder +onlyGivenNames x; clear_value x)
    | refine iteI (fun _ => ?_) (fun _ => ?_)
    | refine foldlI ?_ (fun _ _ _ => ?_)
    | apply keeps_modMeter (hI.mono (by decide))
    | apply keeps_pushSmp (hI.mono (by decide))
    | apply keeps_srcErr (hI.mono (by decide))
    | (refine partMk hI ?_; first | assumption | refine sndEq ?_ (by assumption))
    | (intro t ht; beta_reduce)
    | (intro m; first | rfl | simp)

theorem keeps_meterAbsent (hI : Keeps [.meter] I) (s : State) (n : Nat) (p : Nat → Bool) (h_s : I s) :
    I (State.meterAbsent s n p) := by
  unfold State.meterAbsent
  with_reducible repeat' first
    | assumption
    | refine iteI (fun _ => ?_) (fun _ => ?_)
    | refine foldlI ?_ (fun _ _ _ => ?_)
    | apply keeps_pushSmp hI
    | (intro t ht; beta_reduce)
    | (intro m; first | rfl | simp)

theorem keeps_meterMissed (hI : Keeps [.meter] I) (s : State) (n i : Nat) (h_s : I s) : I
    (State.meterMissed s n i) := by
  unfold State.meterMissed
  with_reducible repeat' first
    | assumption
    | apply keeps_meterAbsent hI
    | (intro t ht; beta_reduce)
    | (intro m; first | rfl | simp)

theorem keeps_noteAngle (hI : Keeps [.meter] I) (s : State) (t : Nat) (th w : Rat) (h_s : I s) : I
    (State.noteAngle s t th w) := by
  unfold State.noteAngle
  with_reducible repeat' first
    | assumption
    | (extract_lets -underBinder +onlyGivenNames x; have hx : I x := ?_; clear_value x; on_goal 2 => subst x)
    | (extract_lets -underBinder +onlyGivenNames x; clear_value x)
    | apply keeps_modMeter hI
    | (refine partMk hI ?_; first | assumption | refine sndEq ?_ (by assumption))
    | (intro t ht; beta_reduce)
    | (intro m; first | rfl | simp)

theorem keeps_meterAngle (hI : Keeps [.meter] I) (s : State) (h_s : I s) : I (State.meterAngle s) := by
  unfold State.meterAngle
  with_reducible repeat' first
    | assumption
    | refine iteI (fun _ => ?_) (fun _ => ?_)
    | apply keeps_noteAngle hI

theorem keeps_pllFreeSync (hI : Keeps [.recent, .pod, .meter, .regs] I) (s : State) (h_s : I s) : I
    (State.pllFreeSync s) := by
  unfold State.pllFreeSync
  with_reducible repeat' first
    | assumption
    | (extract_lets -underBinder +onlyGivenNames x; have hx : I x := ?_; clear_value x; on_goal 2 => subst x)
    | (extract_lets -underBinder +onlyGivenNames x; clear_value x)
    | refine iteI (fun _ => ?_) (fun _ => ?_)
    | apply keeps_modMeter (hI.mono (by decide))
    | apply keeps_setB (hI.mono (by decide))
    | apply keeps_irq (hI.mono (by decide))
    | (refine partMk hI ?_; first | assumption | refine sndEq ?_ (by assumption))
    | (intro t ht; beta_reduce)
    | (intro m; first | rfl | simp)

theorem keeps_meterUnlock (hI : Keeps [.recent, .pod, .meter, .regs] I) (s : State) (h_s : I s) : I
    (State.meterUnlock s) := by
  unfold State.meterUnlock
  with_reducible repeat' first
    | assumption
    | apply keeps_pllFreeSync hI
    | apply keeps_noteAngle (hI.mono (by decide))

theorem keeps_corrWord (hI : Keeps [.dblTable, .dblCapt, .recent, .freeCtr, .sys, .log, .pod, .safe,
    .chan, .regs] I) (s : State) (a : Nat) (h_s : I s) : I (State.corrWord s a).2 := by
  unfold State.corrWord
  with_reducible repeat' first
    | assumption
    | split
    | apply keeps_burlSafe (hI.mono (by decide))
    | apply keeps_readEcc (hI.mono (by decide))
    | apply keeps_fresh (hI.mono (by decide))
    | refine sndEq ?_ (by assumption)
    | refine fstEq ?_ (by assumption)
    | refine snd2Eq ?_ (by assumption)
    | refine snd3Eq ?_ (by assumption)
    | refine optEq ?_ (by assumption)
    | (refine partMk hI ?_; first | assumption | refine sndEq ?_ (by assumption))

theorem keeps_meterSync (hI : Keeps [.recent, .pod, .meter, .regs] I) (s : State) (h_s : I s) : I
    (State.meterSync s) := by
  unfold State.meterSync
  with_reducible repeat' first
    | assumption
    | (extract_lets -underBinder +onlyGivenNames x; have hx : I x := ?_; clear_value x; on_goal 2 => subst x)
    | (extract_lets -underBinder +onlyGivenNames x; clear_value x)
    | refine iteI (fun _ => ?_) (fun _ => ?_)
    | apply keeps_pllFreeSync hI
    | apply keeps_modMeter (hI.mono (by decide))
    | apply keeps_setB (hI.mono (by decide))
    | (refine partMk hI ?_; first | assumption | refine sndEq ?_ (by assumption))
    | (intro t ht; beta_reduce)
    | (intro m; first | rfl | simp)

theorem keeps_meterAtLock (hI : Keeps [.dblTable, .dblCapt, .recent, .sys, .log, .pod, .safe, .chan,
    .meter, .regs] I) (s : State) (h_s : I s) : I (State.meterAtLock s) := by
  unfold State.meterAtLock
  with_reducible repeat' first
    | assumption
    | (extract_lets -underBinder +onlyGivenNames x; have hx : I x := ?_; clear_value x; on_goal 2 => subst x)
    | (extract_lets -underBinder +onlyGivenNames x; clear_value x)
    | refine iteI (fun _ => ?_) (fun _ => ?_)
    | split
    | apply keeps_burlSafe (hI.mono (by decide))
    | apply keeps_logIt (hI.mono (by decide))
    | apply keeps_meterSync (hI.mono (by decide))
    | apply keeps_engineRead (hI.mono (by decide))
    | apply keeps_setB (hI.mono (by decide))
    | refine sndEq ?_ (by assumption)
    | refine fstEq ?_ (by assumption)
    | refine snd2Eq ?_ (by assumption)
    | refine snd3Eq ?_ (by assumption)
    | refine optEq ?_ (by assumption)

theorem keeps_segFirst (hI : Keeps [.dblTable, .dblCapt, .recent, .freeCtr, .sys, .log, .pod, .safe,
    .chan, .regs] I) (s : State) (c : Nat) (i : Rat) (n k : Nat) (h_s : I s) : I (State.segFirst s c i n
    k).2 := by
  induction n generalizing s k with
  | zero => exact h_s
  | succ n ih =>
    unfold State.segFirst
    with_reducible repeat' first
    | assumption
    | (extract_lets -underBinder +onlyGivenNames x; have hx : I x := ?_; clear_value x; on_goal 2 => subst x)
    | (extract_lets -underBinder +onlyGivenNames x; clear_value x)
    | refine iteI (fun _ => ?_) (fun _ => ?_)
    | split
    | apply keeps_corrWord hI
    | refine sndEq ?_ (by assumption)
    | refine fstEq ?_ (by assumption)
    | refine snd2Eq ?_ (by assumption)
    | refine snd3Eq ?_ (by assumption)
    | refine optEq ?_ (by assumption)
    | with_reducible apply ih

theorem keeps_segUp (hI : Keeps [.dblTable, .dblCapt, .recent, .freeCtr, .sys, .log, .pod, .safe,
    .chan, .regs] I) (s : State) (c : Nat) (i : Rat) (n k : Nat) (h_s : I s) : I (State.segUp s c i n
    k).2 := by
  induction n generalizing s k with
  | zero => exact h_s
  | succ n ih =>
    unfold State.segUp
    with_reducible repeat' first
    | assumption
    | (extract_lets -underBinder +onlyGivenNames x; have hx : I x := ?_; clear_value x; on_goal 2 => subst x)
    | (extract_lets -underBinder +onlyGivenNames x; clear_value x)
    | refine iteI (fun _ => ?_) (fun _ => ?_)
    | split
    | apply keeps_corrWord hI
    | refine sndEq ?_ (by assumption)
    | refine fstEq ?_ (by assumption)
    | refine snd2Eq ?_ (by assumption)
    | refine snd3Eq ?_ (by assumption)
    | refine optEq ?_ (by assumption)
    | with_reducible apply ih

theorem keeps_segDown (hI : Keeps [.dblTable, .dblCapt, .recent, .freeCtr, .sys, .log, .pod, .safe,
    .chan, .regs] I) (s : State) (c : Nat) (i h : Rat) (n k : Nat) (h_s : I s) : I (State.segDown s c i
    h n k).2 := by
  induction n generalizing s k with
  | zero => exact h_s
  | succ n ih =>
    unfold State.segDown
    with_reducible repeat' first
    | assumption
    | (extract_lets -underBinder +onlyGivenNames x; have hx : I x := ?_; clear_value x; on_goal 2 => subst x)
    | (extract_lets -underBinder +onlyGivenNames x; clear_value x)
    | refine iteI (fun _ => ?_) (fun _ => ?_)
    | split
    | apply keeps_corrWord hI
    | refine sndEq ?_ (by assumption)
    | refine fstEq ?_ (by assumption)
    | refine snd2Eq ?_ (by assumption)
    | refine snd3Eq ?_ (by assumption)
    | refine optEq ?_ (by assumption)
    | with_reducible apply ih

theorem keeps_segMove (hI : Keeps [.dblTable, .dblCapt, .recent, .freeCtr, .sys, .log, .pod, .safe,
    .chan, .regs] I) (s : State) (c : Nat) (i h : Rat) (old : Nat) (h_s : I s) : I (State.segMove s c i
    h old).2 :=
  keeps_segDown hI _ _ _ _ _ _ (keeps_segUp hI _ _ _ _ _ h_s)

theorem keeps_segStart (hI : Keeps [.dblTable, .dblCapt, .recent, .freeCtr, .sys, .log, .pod, .safe,
    .chan, .regs] I) (s : State) (c : Nat) (i : Rat) (h_s : I s) : I (State.segStart s c i).2 :=
  keeps_segFirst hI _ _ _ _ _ h_s

theorem keeps_segTake (hI : Keeps [.dblTable, .dblCapt, .recent, .freeCtr, .sys, .log, .pod, .safe,
    .chan, .regs] I) (s : State) (c : Nat) (i : Rat) (h_s : I s) : I (State.segTake s c i) := by
  unfold State.segTake
  refine iteI (fun _ => ?_) (fun _ => ?_)
  · have h1 := keeps_corrWord hI s corrArea h_s
    generalize s.corrWord corrArea = p at h1 ⊢
    obtain ⟨hw, s1⟩ := p
    dsimp only at h1 ⊢
    have h2 := keeps_segMove hI s1 c i ((hw / 65536 : Nat) : Rat) (s.segOf c) h1
    generalize s1.segMove c i ((hw / 65536 : Nat) : Rat) (s.segOf c) = q at h2 ⊢
    obtain ⟨k, s2⟩ := q
    dsimp only at h2 ⊢
    exact iteI (fun _ => keeps_set (hI.mono (by decide)) _ _ _ h2) (fun _ => keeps_irq (hI.mono (by decide)) _ _ _ (keeps_set (hI.mono (by decide)) _ _ _ h2))
  · have h1 := keeps_segStart hI s c i h_s
    generalize s.segStart c i = p at h1 ⊢
    obtain ⟨k, s1⟩ := p
    dsimp only at h1 ⊢
    exact keeps_set (hI.mono (by decide)) _ _ _ h1

theorem keeps_segsTake (hI : Keeps [.dblTable, .dblCapt, .recent, .freeCtr, .sys, .log, .pod, .safe,
    .chan, .regs] I) (s : State) (q : MeterQ) (h_s : I s) : I (State.segsTake s q) := by
  unfold State.segsTake
  with_reducible repeat' first
    | assumption
    | (extract_lets -underBinder +onlyGivenNames x; have hx : I x := ?_; clear_value x; on_goal 2 => subst x)
    | (extract_lets -underBinder +onlyGivenNames x; clear_value x)
    | refine iteI (fun _ => ?_) (fun _ => ?_)
    | refine foldlI ?_ (fun _ _ _ => ?_)
    | apply keeps_segTake hI
    | (intro t ht; beta_reduce)
    | (intro m; first | rfl | simp)

theorem keeps_repair (hI : Keeps [.freeCtr] I) (s : State) (before : Option (Nat × Rat × Rat)) (l :
    List MPair) (h_s : I s) : I (State.repair s before l).2 := by
  induction l generalizing s before with
  | nil => exact h_s
  | cons a l ih =>
    unfold State.repair
    with_reducible repeat' first
    | assumption
    | (extract_lets -underBinder +onlyGivenNames x; have hx : I x := ?_; clear_value x; on_goal 2 => subst x)
    | (extract_lets -underBinder +onlyGivenNames x; clear_value x)
    | refine iteI (fun _ => ?_) (fun _ => ?_)
    | split
    | apply keeps_fresh hI
    | refine sndEq ?_ (by assumption)
    | refine fstEq ?_ (by assumption)
    | refine snd2Eq ?_ (by assumption)
    | refine snd3Eq ?_ (by assumption)
    | refine optEq ?_ (by assumption)
    | (refine partMk hI ?_; first | assumption | refine sndEq ?_ (by assumption))
    | (intro t ht; beta_reduce)
    | (intro m; first | rfl | simp)
    | with_reducible apply ih

theorem keeps_owe (hI : Keeps [.recent, .log, .pod, .regs] I) (s : State) (n a b : Nat) (h_s : I s) : I
    (State.owe s n a b) := by
  unfold State.owe
  with_reducible repeat' first
    | assumption
    | (extract_lets -underBinder +onlyGivenNames x; have hx : I x := ?_; clear_value x; on_goal 2 => subst x)
    | (extract_lets -underBinder +onlyGivenNames x; clear_value x)
    | refine iteI (fun _ => ?_) (fun _ => ?_)
    | apply keeps_setSat (hI.mono (by decide))
    | apply keeps_setB (hI.mono (by decide))
    | apply keeps_irq (hI.mono (by decide))
    | apply keeps_irqLog hI

theorem keeps_accumulate (hI : Keeps [.recent, .log, .pod, .meter, .regs] I) (s : State) (inc : List
    Rat) (h_s : I s) : I (State.accumulate s inc) := by
  unfold State.accumulate
  with_reducible repeat' first
    | assumption
    | (extract_lets -underBinder +onlyGivenNames x; have hx : I x := ?_; clear_value x; on_goal 2 => subst x)
    | (extract_lets -underBinder +onlyGivenNames x; clear_value x)
    | refine iteI (fun _ => ?_) (fun _ => ?_)
    | refine foldlI ?_ (fun _ _ _ => ?_)
    | apply keeps_set (hI.mono (by decide))
    | apply keeps_modMeter (hI.mono (by decide))
    | apply keeps_owe (hI.mono (by decide))
    | (refine partMk hI ?_; first | assumption | refine sndEq ?_ (by assumption))
    | (intro t ht; beta_reduce)
    | (intro m; first | rfl | simp)

theorem keeps_pulseWidth (hI : Keeps [.freeCtr] I) (s : State) (n : Nat) (h_s : I s) : I
    (State.pulseWidth s n).2 := by
  unfold State.pulseWidth
  with_reducible repeat' first
    | assumption
    | (extract_lets -underBinder +onlyGivenNames x; have hx : I x := ?_; clear_value x; on_goal 2 => subst x)
    | (extract_lets -underBinder +onlyGivenNames x; clear_value x)
    | refine iteI (fun _ => ?_) (fun _ => ?_)
    | split
    | apply keeps_fresh hI
    | refine sndEq ?_ (by assumption)
    | refine fstEq ?_ (by assumption)
    | refine snd2Eq ?_ (by assumption)
    | refine snd3Eq ?_ (by assumption)
    | refine optEq ?_ (by assumption)

theorem keeps_checksTake (hI : Keeps [.meter] I) (s : State) (q : MeterQ) (h_s : I s) : I
    (State.checksTake s q) := by
  unfold State.checksTake
  with_reducible repeat' first
    | assumption
    | (extract_lets -underBinder +onlyGivenNames x; have hx : I x := ?_; clear_value x; on_goal 2 => subst x)
    | (extract_lets -underBinder +onlyGivenNames x; clear_value x)
    | refine iteI (fun _ => ?_) (fun _ => ?_)
    | split
    | apply keeps_modMeter hI
    | refine sndEq ?_ (by assumption)
    | refine fstEq ?_ (by assumption)
    | refine snd2Eq ?_ (by assumption)
    | refine snd3Eq ?_ (by assumption)
    | refine optEq ?_ (by assumption)
    | (refine partMk hI ?_; first | assumption | refine sndEq ?_ (by assumption))
    | (intro t ht; beta_reduce)
    | (intro m; first | rfl | simp)

theorem keeps_showCycle (hI : Keeps [.regs] I) (s : State) (q : MeterQ) (h_s : I s) : I
    (State.showCycle s q) := by
  unfold State.showCycle
  with_reducible repeat' first
    | assumption
    | (extract_lets -underBinder +onlyGivenNames x; have hx : I x := ?_; clear_value x; on_goal 2 => subst x)
    | (extract_lets -underBinder +onlyGivenNames x; have hfn : ∀ (t : State) (a b : Nat), I t → I (x t a b).1 := ?_; clear_value x; on_goal 2 => subst x)
    | (extract_lets -underBinder +onlyGivenNames x; have hfn : ∀ (t : State) (a : Nat), I t → I (x t a) := ?_; clear_value x; on_goal 2 => subst x)
    | (extract_lets -underBinder +onlyGivenNames x; have hfn : ∀ (t : State), I t → I (x t) := ?_; clear_value x; on_goal 2 => subst x)
    | (extract_lets -underBinder +onlyGivenNames x; have hfn : ∀ (t : State) (a b : Bool), I t → I (x t a b) := ?_; clear_value x; on_goal 2 => subst x)
    | apply hfn
    | (intro t a b ht; beta_reduce)
    | (intro t a ht; beta_reduce)
    | (extract_lets -underBinder +onlyGivenNames x; clear_value x)
    | refine foldlI ?_ (fun _ _ _ => ?_)
    | apply keeps_show hI
    | apply keeps_showU hI
    | (intro t ht; beta_reduce)
    | (intro m; first | rfl | simp)

theorem keeps_corrOf (hI : Keeps [.dblTable, .dblCapt, .recent, .freeCtr, .sys, .log, .pod, .safe,
    .chan, .regs] I) (s : State) (c : Nat) (h_s : I s) : I (State.corrOf s c).2.2 := by
  unfold State.corrOf
  with_reducible repeat' first
    | assumption
    | (extract_lets -underBinder +onlyGivenNames x; have hx : I x := ?_; clear_value x; on_goal 2 => subst x)
    | (extract_lets -underBinder +onlyGivenNames x; clear_value x)
    | refine iteI (fun _ => ?_) (fun _ => ?_)
    | split
    | apply keeps_corrWord hI
    | refine sndEq ?_ (by assumption)
    | refine fstEq ?_ (by assumption)
    | refine snd2Eq ?_ (by assumption)
    | refine snd3Eq ?_ (by assumption)
    | refine optEq ?_ (by assumption)

theorem keeps_cyclePairs (hI : Keeps [.dblTable, .dblCapt, .recent, .freeCtr, .sys, .log, .pod, .safe,
    .chan, .regs] I) (s : State) (t z : Nat) (h_s : I s) : I (State.cyclePairs s t z).2 := by
  unfold State.cyclePairs
  with_reducible repeat' first
    | assumption
    | (extract_lets -underBinder +onlyGivenNames x; have hx : I x := ?_; clear_value x; on_goal 2 => subst x)
    | (extract_lets -underBinder +onlyGivenNames x; clear_value x)
    | refine iteI (fun _ => ?_) (fun _ => ?_)
    | split
    | apply keeps_corrOf hI
    | refine sndEq ?_ (by assumption)
    | refine fstEq ?_ (by assumption)
    | refine snd2Eq ?_ (by assumption)
    | refine snd3Eq ?_ (by assumption)
    | refine optEq ?_ (by assumption)
    | (refine partMk hI ?_; first | assumption | refine sndEq ?_ (by assumption))
    | (intro t ht; beta_reduce)
    | (intro m; first | rfl | simp)

theorem keeps_dropSamples (hI : Keeps [.meter] I) (s : State) (z : Nat) (keep : List (List MPair)) (h_s
    : I s) : I (State.dropSamples s z keep) := by
  unfold State.dropSamples
  with_reducible repeat' first
    | assumption
    | (extract_lets -underBinder +onlyGivenNames x; have hx : I x := ?_; clear_value x; on_goal 2 => subst x)
    | (extract_lets -underBinder +onlyGivenNames x; clear_value x)
    | refine iteI (fun _ => ?_) (fun _ => ?_)
    | refine foldlI ?_ (fun _ _ _ => ?_)
    | apply keeps_modMeter hI
    | (refine partMk hI ?_; first | assumption | refine sndEq ?_ (by assumption))
    | (intro t ht; beta_reduce)
    | (intro m; first | rfl | simp)

theorem keeps_formCycle (hI : Keeps [.dblTable, .dblCapt, .recent, .freeCtr, .sys, .log, .pod, .safe,
    .chan, .meter, .regs] I) (s : State) (t z count : Nat) (h_s : I s) : I (State.formCycle s t z
    count).2.2.2 := by
  unfold State.formCycle
  with_reducible repeat' first
    | assumption
    | (extract_lets -underBinder +onlyGivenNames x; have hx : I x := ?_; clear_value x; on_goal 2 => subst x)
    | (extract_lets -underBinder +onlyGivenNames x; have hfn : ∀ (t : State) (a b : Nat), I t → I (x t a b).1 := ?_; clear_value x; on_goal 2 => subst x)
    | (extract_lets -underBinder +onlyGivenNames x; have hfn : ∀ (t : State) (a : Nat), I t → I (x t a) := ?_; clear_value x; on_goal 2 => subst x)
    | (extract_lets -underBinder +onlyGivenNames x; have hfn : ∀ (t : State), I t → I (x t) := ?_; clear_value x; on_goal 2 => subst x)
    | (extract_lets -underBinder +onlyGivenNames x; have hfn : ∀ (t : State) (a b : Bool), I t → I (x t a b) := ?_; clear_value x; on_goal 2 => subst x)
    | apply hfn
    | (intro t a b ht; beta_reduce)
    | (intro t a ht; beta_reduce)
    | (extract_lets -underBinder +onlyGivenNames x; clear_value x)
    | refine iteI (fun _ => ?_) (fun _ => ?_)
    | split
    | apply keeps_modMeter (hI.mono (by decide))
    | apply keeps_cyclePairs (hI.mono (by decide))
    | apply keeps_repair (hI.mono (by decide))
    | apply keeps_srcErr (hI.mono (by decide))
    | apply keeps_dropSamples (hI.mono (by decide))
    | refine sndEq ?_ (by assumption)
    | refine fstEq ?_ (by assumption)
    | refine snd2Eq ?_ (by assumption)
    | refine snd3Eq ?_ (by assumption)
    | refine optEq ?_ (by assumption)
    | (refine partMk hI ?_; first | assumption | refine sndEq ?_ (by assumption))
    | (intro t ht; beta_reduce)
    | (intro m; first | rfl | simp)

theorem keeps_endCycle (hI : Keeps [.dblTable, .dblCapt, .recent, .freeCtr, .sys, .log, .pod, .safe,
    .chan, .meter, .regs] I) (s : State) (t : Nat) (c0 : Int) (z : Nat) (h_s : I s) : I (State.endCycle
    s t c0 z) := by
  unfold State.endCycle
  with_reducible repeat' first
    | assumption
    | (extract_lets -underBinder +onlyGivenNames x; have hx : I x := ?_; clear_value x; on_goal 2 => subst x)
    | (extract_lets -underBinder +onlyGivenNames x; clear_value x)
    | refine iteI (fun _ => ?_) (fun _ => ?_)
    | split
    | refine foldlI ?_ (fun _ _ _ => ?_)
    | refine foldlI2 ?_ (fun _ _ _ => ?_)
    | refine foldlI3 ?_ (fun _ _ _ => ?_)
    | refine foldlI1 ?_ (fun _ _ _ => ?_)
    | apply keeps_set (hI.mono (by decide))
    | apply keeps_formCycle hI
    | apply keeps_checksTake (hI.mono (by decide))
    | apply keeps_showCycle (hI.mono (by decide))
    | apply keeps_inc (hI.mono (by decide))
    | apply keeps_modMeter (hI.mono (by decide))
    | apply keeps_showU (hI.mono (by decide))
    | apply keeps_segsTake (hI.mono (by decide))
    | apply keeps_accumulate (hI.mono (by decide))
    | apply keeps_irq (hI.mono (by decide))
    | refine sndEq ?_ (by assumption)
    | refine fstEq ?_ (by assumption)
    | refine snd2Eq ?_ (by assumption)
    | refine snd3Eq ?_ (by assumption)
    | refine optEq ?_ (by assumption)
    | (refine partMk hI ?_; first | assumption | refine sndEq ?_ (by assumption))
    | (intro t ht; beta_reduce)
    | (intro m; first | rfl | simp)

theorem keeps_beginCycle (hI : Keeps [.dblTable, .dblCapt, .recent, .freeCtr, .sys, .log, .pod, .safe,
    .chan, .meter, .regs] I) (s : State) (z : Nat) (h_s : I s) : I (State.beginCycle s z) := by
  unfold State.beginCycle
  with_reducible repeat' first
    | assumption
    | (extract_lets -underBinder +onlyGivenNames x; have hx : I x := ?_; clear_value x; on_goal 2 => subst x)
    | (extract_lets -underBinder +onlyGivenNames x; clear_value x)
    | refine iteI (fun _ => ?_) (fun _ => ?_)
    | apply keeps_pllFreeSync (hI.mono (by decide))
    | apply keeps_modMeter (hI.mono (by decide))
    | apply keeps_segsTake (hI.mono (by decide))
    | apply keeps_dropSamples (hI.mono (by decide))
    | (refine partMk hI ?_; first | assumption | refine sndEq ?_ (by assumption))
    | (intro t ht; beta_reduce)
    | (intro m; first | rfl | simp)

theorem keeps_select (hI : Keeps [.recent, .pod, .regs] I) (s : State) (c : Nat × Nat × Nat) (h_s : I
    s) : I (State.select s c) := by
  unfold State.select
  with_reducible repeat' first
    | assumption
    | (extract_lets -underBinder +onlyGivenNames x; have hx : I x := ?_; clear_value x; on_goal 2 => subst x)
    | (extract_lets -underBinder +onlyGivenNames x; clear_value x)
    | refine iteI (fun _ => ?_) (fun _ => ?_)
    | apply keeps_set (hI.mono (by decide))
    | apply keeps_irq hI

theorem keeps_setSyncLost (hI : Keeps [.recent, .pod, .regs] I) (s : State) (b : Bool) (h_s : I s) : I
    (State.setSyncLost s b) := by
  unfold State.setSyncLost
  with_reducible repeat' first
    | assumption
    | refine iteI (fun _ => ?_) (fun _ => ?_)
    | apply keeps_setB (hI.mono (by decide))
    | apply keeps_irq hI

theorem keeps_showCorr (hI : Keeps [.canopyT, .regs] I) (s : State) (h_s : I s) : I (State.showCorr s) := by
  unfold State.showCorr
  with_reducible repeat' first
    | assumption
    | (extract_lets -underBinder +onlyGivenNames x; have hx : I x := ?_; clear_value x; on_goal 2 => subst x)
    | (extract_lets -underBinder +onlyGivenNames x; clear_value x)
    | apply keeps_setI (hI.mono (by decide))
    | (refine partMk hI ?_; first | assumption | refine sndEq ?_ (by assumption))

theorem keeps_timersStep (hI : Keeps [.chan, .sar] I) (s : State) (h_s : I s) : I (State.timersStep s) := by
  unfold State.timersStep
  with_reducible repeat' first
    | assumption
    | (extract_lets -underBinder +onlyGivenNames x; have hx : I x := ?_; clear_value x; on_goal 2 => subst x)
    | (extract_lets -underBinder +onlyGivenNames x; clear_value x)
    | (refine partMk hI ?_; first | assumption | refine sndEq ?_ (by assumption))
    | (intro t ht; beta_reduce)
    | (intro m; first | rfl | simp)

theorem keeps_workStep (hI : Keeps [.canopyT, .eth, .arm, .meter] I) (s : State) (o : Rat) (h_s : I s)
    : I (State.workStep s o) := by
  unfold State.workStep
  with_reducible repeat' first
    | assumption
    | (extract_lets -underBinder +onlyGivenNames x; have hx : I x := ?_; clear_value x; on_goal 2 => subst x)
    | (extract_lets -underBinder +onlyGivenNames x; have hfn : ∀ (t : State) (a b : Nat), I t → I (x t a b).1 := ?_; clear_value x; on_goal 2 => subst x)
    | (extract_lets -underBinder +onlyGivenNames x; have hfn : ∀ (t : State) (a : Nat), I t → I (x t a) := ?_; clear_value x; on_goal 2 => subst x)
    | (extract_lets -underBinder +onlyGivenNames x; have hfn : ∀ (t : State), I t → I (x t) := ?_; clear_value x; on_goal 2 => subst x)
    | (extract_lets -underBinder +onlyGivenNames x; have hfn : ∀ (t : State) (a b : Bool), I t → I (x t a b) := ?_; clear_value x; on_goal 2 => subst x)
    | apply hfn
    | (intro t a b ht; beta_reduce)
    | (intro t a ht; beta_reduce)
    | (extract_lets -underBinder +onlyGivenNames x; have _p : PodSt := x; clear _p; subst x)
    | (extract_lets -underBinder +onlyGivenNames x; have _p : RingSt := x; clear _p; subst x)
    | (extract_lets -underBinder +onlyGivenNames x; clear_value x)
    | refine outNext ?_
    | exact optNone
    | refine optSome ?_
    | refine iteI (fun _ => ?_) (fun _ => ?_)
    | refine iteOutI (fun _ => ?_) (fun _ => ?_)
    | split
    | refine foldlI ?_ (fun _ _ _ => ?_)
    | refine foldlI2 ?_ (fun _ _ _ => ?_)
    | refine foldlI3 ?_ (fun _ _ _ => ?_)
    | refine foldlI1 ?_ (fun _ _ _ => ?_)
    | apply keeps_modMeter (hI.mono (by decide))
    | apply keeps_modCanopy (hI.mono (by decide))
    | apply keeps_modEth (hI.mono (by decide))
    | refine sndEq ?_ (by assumption)
    | refine fstEq ?_ (by assumption)
    | refine snd2Eq ?_ (by assumption)
    | refine snd3Eq ?_ (by assumption)
    | refine optEq ?_ (by assumption)
    | (refine partMk hI ?_; first | assumption | refine sndEq ?_ (by assumption) | apply keeps_modMeter (hI.mono (by decide)) | apply keeps_modCanopy (hI.mono (by decide)) | apply keeps_modEth (hI.mono (by decide)))
    | with_unfolding_all exact hI.memPut (by decide) (by assumption) _ _
    | exact hI.eccInsert (by decide) (by assumption) _ _
    | exact hI.eccErase (by decide) (by assumption) _
    | exact hI.memKeep (by decide) (by assumption) _
    | exact hI.eccNone (by decide) (by assumption)
    | exact hI.regNone (by decide) (by assumption)
    | exact hI.memNone (by decide) (by assumption)
    | (intro t ht; beta_reduce)
    | (intro m; first | rfl | simp)
    | dsimp only

theorem keeps_stepBy (hI : Keeps [.recent, .canopyT, .pod, .eth, .chan, .sar, .arm, .meter, .regs] I)
    (s : State) (o : Rat) (h_s : I s) : I (State.stepBy s o) := by
  unfold State.stepBy
  with_reducible repeat' first
    | assumption
    | (extract_lets -underBinder +onlyGivenNames x; have hx : I x := ?_; clear_value x; on_goal 2 => subst x)
    | (extract_lets -underBinder +onlyGivenNames x; have hfn : ∀ (t : State) (a b : Nat), I t → I (x t a b).1 := ?_; clear_value x; on_goal 2 => subst x)
    | (extract_lets -underBinder +onlyGivenNames x; have hfn : ∀ (t : State) (a : Nat), I t → I (x t a) := ?_; clear_value x; on_goal 2 => subst x)
    | (extract_lets -underBinder +onlyGivenNames x; have hfn : ∀ (t : State), I t → I (x t) := ?_; clear_value x; on_goal 2 => subst x)
    | (extract_lets -underBinder +onlyGivenNames x; have hfn : ∀ (t : State) (a b : Bool), I t → I (x t a b) := ?_; clear_value x; on_goal 2 => subst x)
    | apply hfn
    | (intro t a b ht; beta_reduce)
    | (intro t a ht; beta_reduce)
    | (extract_lets -underBinder +onlyGivenNames x; have _p : PodSt := x; clear _p; subst x)
    | (extract_lets -underBinder +onlyGivenNames x; have _p : RingSt := x; clear _p; subst x)
    | (extract_lets -underBinder +onlyGivenNames x; clear_value x)
    | refine outNext ?_
    | exact optNone
    | refine optSome ?_
    | refine iteI (fun _ => ?_) (fun _ => ?_)
    | refine iteOutI (fun _ => ?_) (fun _ => ?_)
    | split
    | refine foldlI ?_ (fun _ _ _ => ?_)
    | refine foldlI2 ?_ (fun _ _ _ => ?_)
    | refine foldlI3 ?_ (fun _ _ _ => ?_)
    | refine foldlI1 ?_ (fun _ _ _ => ?_)
    | apply keeps_rebase (hI.mono (by decide))
    | apply keeps_inc (hI.mono (by decide))
    | apply keeps_modCanopy (hI.mono (by decide))
    | apply keeps_timersStep (hI.mono (by decide))
    | apply keeps_workStep (hI.mono (by decide))
    | apply keeps_irq (hI.mono (by decide))
    | refine sndEq ?_ (by assumption)
    | refine fstEq ?_ (by assumption)
    | refine snd2Eq ?_ (by assumption)
    | refine snd3Eq ?_ (by assumption)
    | refine optEq ?_ (by assumption)
    | (refine partMk hI ?_; first | assumption | refine sndEq ?_ (by assumption) | apply keeps_rebase (hI.mono (by decide)) | apply keeps_inc (hI.mono (by decide)) | apply keeps_modCanopy (hI.mono (by decide)) | apply keeps_timersStep (hI.mono (by decide)) | apply keeps_workStep (hI.mono (by decide)) | apply keeps_irq (hI.mono (by decide)))
    | with_unfolding_all exact hI.memPut (by decide) (by assumption) _ _
    | exact hI.eccInsert (by decide) (by assumption) _ _
    | exact hI.eccErase (by decide) (by assumption) _
    | exact hI.memKeep (by decide) (by assumption) _
    | exact hI.eccNone (by decide) (by assumption)
    | exact hI.regNone (by decide) (by assumption)
    | exact hI.memNone (by decide) (by assumption)
    | (intro t ht; beta_reduce)
    | (intro m; first | rfl | simp)
    | dsimp only

theorem keeps_discipline (hI : Keeps [.recent, .canopyT, .pod, .eth, .chan, .sar, .arm, .meter, .regs]
    I) (s : State) (o : Rat) (stepFlag : Bool) (h_s : I s) : I (State.discipline s o stepFlag) := by
  unfold State.discipline
  with_reducible repeat' first
    | assumption
    | (extract_lets -underBinder +onlyGivenNames x; have hx : I x := ?_; clear_value x; on_goal 2 => subst x)
    | (extract_lets -underBinder +onlyGivenNames x; clear_value x)
    | refine iteI (fun _ => ?_) (fun _ => ?_)
    | split
    | apply keeps_rebase (hI.mono (by decide))
    | apply keeps_setSyncLost (hI.mono (by decide))
    | apply keeps_dlMeet (hI.mono (by decide))
    | apply keeps_stepBy hI
    | apply keeps_setB (hI.mono (by decide))
    | apply keeps_irq (hI.mono (by decide))
    | apply keeps_showCorr (hI.mono (by decide))
    | apply keeps_setI (hI.mono (by decide))
    | refine sndEq ?_ (by assumption)
    | refine fstEq ?_ (by assumption)
    | refine snd2Eq ?_ (by assumption)
    | refine snd3Eq ?_ (by assumption)
    | refine optEq ?_ (by assumption)
    | (refine partMk hI ?_; first | assumption | refine sndEq ?_ (by assumption))

theorem keeps_enterHoldover (hI : Keeps [.recent, .pod, .regs] I) (s : State) (h_s : I s) : I
    (State.enterHoldover s) := by
  unfold State.enterHoldover
  with_reducible repeat' first
    | assumption
    | (extract_lets -underBinder +onlyGivenNames x; have hx : I x := ?_; clear_value x; on_goal 2 => subst x)
    | (extract_lets -underBinder +onlyGivenNames x; clear_value x)
    | apply keeps_setSyncLost hI
    | apply keeps_inc (hI.mono (by decide))
    | apply keeps_setB (hI.mono (by decide))

theorem keeps_stopSource (hI : Keeps [.recent, .regs] I) (s : State) (h_s : I s) : I (State.stopSource
    s) := by
  unfold State.stopSource
  with_reducible repeat' first
    | assumption
    | apply keeps_setB hI

theorem keeps_execBecomeSource (hI : Keeps [.now, .recent, .pod, .regs] I) (dt : Nat) (s : State) (h_s
    : I s) : OutI I (execBecomeSource dt s) := by
  unfold execBecomeSource
  with_reducible repeat' first
    | assumption
    | (extract_lets -underBinder +onlyGivenNames x; have hx : I x := ?_; clear_value x; on_goal 2 => subst x)
    | (extract_lets -underBinder +onlyGivenNames x; clear_value x)
    | refine outNext ?_
    | refine iteI (fun _ => ?_) (fun _ => ?_)
    | refine iteOutI (fun _ => ?_) (fun _ => ?_)
    | split
    | apply keeps_select (hI.mono (by decide))
    | apply keeps_setB (hI.mono (by decide))
    | apply keeps_elapse (hI.mono (by decide))
    | apply keeps_irq (hI.mono (by decide))
    | refine sndEq ?_ (by assumption)
    | refine fstEq ?_ (by assumption)
    | refine snd2Eq ?_ (by assumption)
    | refine snd3Eq ?_ (by assumption)
    | refine optEq ?_ (by assumption)
    | (refine partMk hI ?_; first | assumption | refine sndEq ?_ (by assumption))

theorem keeps_execBeaconSend (hI : Keeps [.now, .recent, .canopyT, .ring, .pod, .regs] I) (dt : Nat) (s
    : State) (h_s : I s) : OutI I (execBeaconSend dt s) := by
  unfold execBeaconSend
  with_reducible repeat' first
    | assumption
    | (extract_lets -underBinder +onlyGivenNames x; have hx : I x := ?_; clear_value x; on_goal 2 => subst x)
    | (extract_lets -underBinder +onlyGivenNames x; have hfn : ∀ (t : State) (a b : Nat), I t → I (x t a b).1 := ?_; clear_value x; on_goal 2 => subst x)
    | (extract_lets -underBinder +onlyGivenNames x; have hfn : ∀ (t : State) (a : Nat), I t → I (x t a) := ?_; clear_value x; on_goal 2 => subst x)
    | (extract_lets -underBinder +onlyGivenNames x; have hfn : ∀ (t : State), I t → I (x t) := ?_; clear_value x; on_goal 2 => subst x)
    | (extract_lets -underBinder +onlyGivenNames x; have hfn : ∀ (t : State) (a b : Bool), I t → I (x t a b) := ?_; clear_value x; on_goal 2 => subst x)
    | apply hfn
    | (intro t a b ht; beta_reduce)
    | (intro t a ht; beta_reduce)
    | (extract_lets -underBinder +onlyGivenNames x; have _p : PodSt := x; clear _p; subst x)
    | (extract_lets -underBinder +onlyGivenNames x; have _p : RingSt := x; clear _p; subst x)
    | (extract_lets -underBinder +onlyGivenNames x; clear_value x)
    | refine outNext ?_
    | exact optNone
    | refine optSome ?_
    | refine iteI (fun _ => ?_) (fun _ => ?_)
    | refine iteOutI (fun _ => ?_) (fun _ => ?_)
    | split
    | refine foldlI ?_ (fun _ _ _ => ?_)
    | refine foldlI2 ?_ (fun _ _ _ => ?_)
    | refine foldlI3 ?_ (fun _ _ _ => ?_)
    | refine foldlI1 ?_ (fun _ _ _ => ?_)
    | apply keeps_setSyncLost (hI.mono (by decide))
    | apply keeps_dlMeet (hI.mono (by decide))
    | apply keeps_enqueue (hI.mono (by decide))
    | apply keeps_takeSeq (hI.mono (by decide))
    | apply keeps_setB (hI.mono (by decide))
    | apply keeps_elapse (hI.mono (by decide))
    | refine sndEq ?_ (by assumption)
    | refine fstEq ?_ (by assumption)
    | refine snd2Eq ?_ (by assumption)
    | refine snd3Eq ?_ (by assumption)
    | refine optEq ?_ (by assumption)
    | (refine partMk hI ?_; first | assumption | refine sndEq ?_ (by assumption) | apply keeps_setSyncLost (hI.mono (by decide)) | apply keeps_dlMeet (hI.mono (by decide)) | apply keeps_enqueue (hI.mono (by decide)) | apply keeps_takeSeq (hI.mono (by decide)) | apply keeps_setB (hI.mono (by decide)) | apply keeps_elapse (hI.mono (by decide)))
    | with_unfolding_all exact hI.memPut (by decide) (by assumption) _ _
    | exact hI.eccInsert (by decide) (by assumption) _ _
    | exact hI.eccErase (by decide) (by assumption) _
    | exact hI.memKeep (by decide) (by assumption) _
    | exact hI.eccNone (by decide) (by assumption)
    | exact hI.regNone (by decide) (by assumption)
    | exact hI.memNone (by decide) (by assumption)
    | (intro t ht; beta_reduce)
    | (intro m; first | rfl | simp)
    | dsimp only

theorem keeps_execBeaconDecide (hI : Keeps [.now, .recent, .canopyT, .ring, .pod, .eth, .chan, .sar,
    .arm, .meter, .regs] I) (dt : Nat) (s : State) (h_s : I s) : OutI I (execBeaconDecide dt s) := by
  unfold execBeaconDecide
  with_reducible repeat' first
    | assumption
    | (extract_lets -underBinder +onlyGivenNames x; have hx : I x := ?_; clear_value x; on_goal 2 => subst x)
    | (extract_lets -underBinder +onlyGivenNames x; have hfn : ∀ (t : State) (a b : Nat), I t → I (x t a b).1 := ?_; clear_value x; on_goal 2 => subst x)
    | (extract_lets -underBinder +onlyGivenNames x; have hfn : ∀ (t : State) (a : Nat), I t → I (x t a) := ?_; clear_value x; on_goal 2 => subst x)
    | (extract_lets -underBinder +onlyGivenNames x; have hfn : ∀ (t : State), I t → I (x t) := ?_; clear_value x; on_goal 2 => subst x)
    | (extract_lets -underBinder +onlyGivenNames x; have hfn : ∀ (t : State) (a b : Bool), I t → I (x t a b) := ?_; clear_value x; on_goal 2 => subst x)
    | apply hfn
    | (intro t a b ht; beta_reduce)
    | (intro t a ht; beta_reduce)
    | (extract_lets -underBinder +onlyGivenNames x; have _p : RingSt := x; clear _p; subst x)
    | (extract_lets -underBinder +onlyGivenNames x; clear_value x)
    | refine outNext ?_
    | refine iteI (fun _ => ?_) (fun _ => ?_)
    | refine iteOutI (fun _ => ?_) (fun _ => ?_)
    | split
    | refine foldlI ?_ (fun _ _ _ => ?_)
    | apply keeps_modRing (hI.mono (by decide))
    | apply keeps_set (hI.mono (by decide))
    | apply keeps_discipline (hI.mono (by decide))
    | apply keeps_dlMeet (hI.mono (by decide))
    | apply keeps_stopSource (hI.mono (by decide))
    | apply keeps_inc (hI.mono (by decide))
    | apply keeps_select (hI.mono (by decide))
    | apply keeps_elapse (hI.mono (by decide))
    | refine sndEq ?_ (by assumption)
    | refine fstEq ?_ (by assumption)
    | refine snd2Eq ?_ (by assumption)
    | refine snd3Eq ?_ (by assumption)
    | refine optEq ?_ (by assumption)
    | (refine partMk hI ?_; first | assumption | refine sndEq ?_ (by assumption))
    | (intro t ht; beta_reduce)
    | (intro m; first | rfl | simp)

theorem keeps_canopySet (hI : Keeps [.recent, .canopyT, .ring, .pod, .eth, .chan, .sar, .arm, .meter,
    .regs] I) (s : State) (h_s : I s) : I (State.canopySet s) := by
  unfold State.canopySet
  with_reducible repeat' first
    | assumption
    | (extract_lets -underBinder +onlyGivenNames x; have hx : I x := ?_; clear_value x; on_goal 2 => subst x)
    | (extract_lets -underBinder +onlyGivenNames x; have _p : RingSt := x; clear _p; subst x)
    | (extract_lets -underBinder +onlyGivenNames x; clear_value x)
    | refine iteI (fun _ => ?_) (fun _ => ?_)
    | apply keeps_err (hI.mono (by decide))
    | apply keeps_stepBy (hI.mono (by decide))
    | (refine partMk hI ?_; first | assumption | refine sndEq ?_ (by assumption))

theorem keeps_execAonCoarseLoad (hI : Keeps [.now, .canopyT] I) (dt : Nat) (s : State) (h_s : I s) :
    OutI I (execAonCoarseLoad dt s) := by
  unfold execAonCoarseLoad
  with_reducible repeat' first
    | assumption
    | (extract_lets -underBinder +onlyGivenNames x; have hx : I x := ?_; clear_value x; on_goal 2 => subst x)
    | (extract_lets -underBinder +onlyGivenNames x; clear_value x)
    | refine outNext ?_
    | refine iteI (fun _ => ?_) (fun _ => ?_)
    | refine iteOutI (fun _ => ?_) (fun _ => ?_)
    | apply keeps_elapse (hI.mono (by decide))
    | (refine partMk hI ?_; first | assumption | refine sndEq ?_ (by assumption))

theorem keeps_setQueue (hI : Keeps [.pod] I) (s : State) (q : Nat) (f : QueueSt → QueueSt) (h_s : I s)
    : I (State.setQueue s q f) := by
  unfold State.setQueue
  with_reducible repeat' first
    | assumption
    | (extract_lets -underBinder +onlyGivenNames x; have hx : I x := ?_; clear_value x; on_goal 2 => subst x)
    | (extract_lets -underBinder +onlyGivenNames x; have _p : PodSt := x; clear _p; subst x)
    | (extract_lets -underBinder +onlyGivenNames x; clear_value x)
    | (refine partMk hI ?_; first | assumption | refine sndEq ?_ (by assumption))

theorem keeps_queuePut (hI : Keeps [.mem] I) (s : State) (q i v : Nat) (h_s : I s) : I (State.queuePut
    s q i v) := by
  unfold State.queuePut
  with_reducible repeat' first
    | assumption
    | (extract_lets -underBinder +onlyGivenNames x; have hx : I x := ?_; clear_value x; on_goal 2 => subst x)
    | (extract_lets -underBinder +onlyGivenNames x; clear_value x)
    | (refine partMk hI ?_; first | assumption | refine sndEq ?_ (by assumption))
    | with_unfolding_all exact hI.memPut (by decide) (by assumption) _ _
    | exact hI.eccInsert (by decide) (by assumption) _ _
    | exact hI.eccErase (by decide) (by assumption) _
    | exact hI.memKeep (by decide) (by assumption) _
    | exact hI.eccNone (by decide) (by assumption)
    | exact hI.regNone (by decide) (by assumption)
    | exact hI.memNone (by decide) (by assumption)

theorem keeps_queuePutAll (hI : Keeps [.mem] I) (s : State) (q i : Nat) (l : List Nat) (h_s : I s) : I
    (State.queuePutAll s q i l) := by
  induction l generalizing s i with
  | nil => exact h_s
  | cons a l ih => exact ih _ _ (keeps_queuePut hI _ _ _ _ h_s)

theorem keeps_podSync (hI : Keeps [.recent, .regs] I) (s : State) (q : Nat) (h_s : I s) : I
    (State.podSync s q) := by
  unfold State.podSync
  with_reducible repeat' first
    | assumption
    | (extract_lets -underBinder +onlyGivenNames x; have hx : I x := ?_; clear_value x; on_goal 2 => subst x)
    | (extract_lets -underBinder +onlyGivenNames x; clear_value x)
    | split
    | apply keeps_set (hI.mono (by decide))
    | apply keeps_setB hI
    | refine sndEq ?_ (by assumption)
    | refine fstEq ?_ (by assumption)
    | refine snd2Eq ?_ (by assumption)
    | refine snd3Eq ?_ (by assumption)
    | refine optEq ?_ (by assumption)
    | (refine partMk hI ?_; first | assumption | refine sndEq ?_ (by assumption))

theorem keeps_packetEvent (hI : Keeps [.recent, .pod, .regs] I) (s : State) (q : Nat) (h_s : I s) : I
    (State.packetEvent s q) := by
  unfold State.packetEvent
  with_reducible repeat' first
    | assumption
    | refine iteI (fun _ => ?_) (fun _ => ?_)
    | apply keeps_setMaskBit (hI.mono (by decide))
    | apply keeps_irq hI

theorem keeps_flushBoundary (hI : Keeps [.recent, .pod, .regs] I) (s : State) (q : Nat) (h_s : I s) : I
    (State.flushBoundary s q) := by
  unfold State.flushBoundary
  with_reducible repeat' first
    | assumption
    | (extract_lets -underBinder +onlyGivenNames x; have hx : I x := ?_; clear_value x; on_goal 2 => subst x)
    | (extract_lets -underBinder +onlyGivenNames x; clear_value x)
    | refine iteI (fun _ => ?_) (fun _ => ?_)
    | apply keeps_podSync (hI.mono (by decide))
    | apply keeps_setQueue (hI.mono (by decide))
    | apply keeps_putMaskBit (hI.mono (by decide))
    | apply keeps_setB (hI.mono (by decide))
    | apply keeps_irq hI
    | (refine partMk hI ?_; first | assumption | refine sndEq ?_ (by assumption))
    | (intro t ht; beta_reduce)
    | (intro m; first | rfl | simp)

theorem keeps_requestFlush (hI : Keeps [.recent, .ring, .pod, .regs] I) (s : State) (q : Nat) (h_s : I
    s) : I (State.requestFlush s q) := by
  unfold State.requestFlush
  with_reducible repeat' first
    | assumption
    | (extract_lets -underBinder +onlyGivenNames x; have hx : I x := ?_; clear_value x; on_goal 2 => subst x)
    | (extract_lets -underBinder +onlyGivenNames x; clear_value x)
    | refine iteI (fun _ => ?_) (fun _ => ?_)
    | apply keeps_modRing (hI.mono (by decide))
    | apply keeps_flushBoundary (hI.mono (by decide))
    | apply keeps_setMaskBit (hI.mono (by decide))
    | apply keeps_podSync (hI.mono (by decide))
    | apply keeps_setQueue (hI.mono (by decide))
    | (refine partMk hI ?_; first | assumption | refine sndEq ?_ (by assumption))
    | (intro t ht; beta_reduce)
    | (intro m; first | rfl | simp)

theorem keeps_packetComplete (hI : Keeps [.recent, .pod, .regs] I) (s : State) (q : Nat) (p : Packet)
    (h_s : I s) : I (State.packetComplete s q p) := by
  unfold State.packetComplete
  with_reducible repeat' first
    | assumption
    | (extract_lets -underBinder +onlyGivenNames x; have hx : I x := ?_; clear_value x; on_goal 2 => subst x)
    | (extract_lets -underBinder +onlyGivenNames x; clear_value x)
    | refine iteI (fun _ => ?_) (fun _ => ?_)
    | apply keeps_flushBoundary hI
    | apply keeps_podSync (hI.mono (by decide))
    | apply keeps_setQueue (hI.mono (by decide))
    | apply keeps_packetEvent hI
    | (refine partMk hI ?_; first | assumption | refine sndEq ?_ (by assumption))
    | (intro t ht; beta_reduce)
    | (intro m; first | rfl | simp)

theorem keeps_podReceive (hI : Keeps [.recent, .pod, .regs, .mem] I) (s : State) (q src seq wraps began
    : Nat) (payload : List Nat) (h_s : I s) : I (State.podReceive s q src seq wraps began payload) := by
  unfold State.podReceive
  with_reducible repeat' first
    | assumption
    | (extract_lets -underBinder +onlyGivenNames x; have hx : I x := ?_; clear_value x; on_goal 2 => subst x)
    | (extract_lets -underBinder +onlyGivenNames x; clear_value x)
    | refine iteI (fun _ => ?_) (fun _ => ?_)
    | apply keeps_queuePutAll (hI.mono (by decide))
    | apply keeps_packetComplete (hI.mono (by decide))
    | apply keeps_inc (hI.mono (by decide))
    | apply keeps_setQueue (hI.mono (by decide))
    | apply keeps_irq (hI.mono (by decide))
    | (refine partMk hI ?_; first | assumption | refine sndEq ?_ (by assumption))
    | (intro t ht; beta_reduce)
    | (intro m; first | rfl | simp)

theorem keeps_podDeliver (hI : Keeps [.recent, .pod, .regs, .mem] I) (s : State) (d : Delivery) (began
    : Nat) (h_s : I s) : I (State.podDeliver s d began) := by
  unfold State.podDeliver
  with_reducible repeat' first
    | assumption
    | (extract_lets -underBinder +onlyGivenNames x; have hx : I x := ?_; clear_value x; on_goal 2 => subst x)
    | (extract_lets -underBinder +onlyGivenNames x; clear_value x)
    | refine iteI (fun _ => ?_) (fun _ => ?_)
    | split
    | apply keeps_podReceive hI
    | apply keeps_inc (hI.mono (by decide))
    | apply keeps_irq (hI.mono (by decide))
    | refine sndEq ?_ (by assumption)
    | refine fstEq ?_ (by assumption)
    | refine snd2Eq ?_ (by assumption)
    | refine snd3Eq ?_ (by assumption)
    | refine optEq ?_ (by assumption)
    | (refine partMk hI ?_; first | assumption | refine sndEq ?_ (by assumption))

theorem keeps_sendPacket (hI : Keeps [.recent, .ring, .pod, .eth, .regs, .mem] I) (s : State) (q : Nat)
    (f : Frame) (h_s : I s) : I (State.sendPacket s q f) := by
  unfold State.sendPacket
  with_reducible repeat' first
    | assumption
    | (extract_lets -underBinder +onlyGivenNames x; have hx : I x := ?_; clear_value x; on_goal 2 => subst x)
    | (extract_lets -underBinder +onlyGivenNames x; have hfn : ∀ (t : State) (a b : Nat), I t → I (x t a b).1 := ?_; clear_value x; on_goal 2 => subst x)
    | (extract_lets -underBinder +onlyGivenNames x; have hfn : ∀ (t : State) (a : Nat), I t → I (x t a) := ?_; clear_value x; on_goal 2 => subst x)
    | (extract_lets -underBinder +onlyGivenNames x; have hfn : ∀ (t : State), I t → I (x t) := ?_; clear_value x; on_goal 2 => subst x)
    | (extract_lets -underBinder +onlyGivenNames x; have hfn : ∀ (t : State) (a b : Bool), I t → I (x t a b) := ?_; clear_value x; on_goal 2 => subst x)
    | apply hfn
    | (intro t a b ht; beta_reduce)
    | (intro t a ht; beta_reduce)
    | (extract_lets -underBinder +onlyGivenNames x; have _p : PodSt := x; clear _p; subst x)
    | (extract_lets -underBinder +onlyGivenNames x; have _p : RingSt := x; clear _p; subst x)
    | (extract_lets -underBinder +onlyGivenNames x; clear_value x)
    | refine outNext ?_
    | exact optNone
    | refine optSome ?_
    | refine iteI (fun _ => ?_) (fun _ => ?_)
    | refine iteOutI (fun _ => ?_) (fun _ => ?_)
    | split
    | refine foldlI ?_ (fun _ _ _ => ?_)
    | refine foldlI2 ?_ (fun _ _ _ => ?_)
    | refine foldlI3 ?_ (fun _ _ _ => ?_)
    | refine foldlI1 ?_ (fun _ _ _ => ?_)
    | apply keeps_set (hI.mono (by decide))
    | apply keeps_podDeliver (hI.mono (by decide))
    | apply keeps_setQueue (hI.mono (by decide))
    | apply keeps_sendFrame (hI.mono (by decide))
    | refine sndEq ?_ (by assumption)
    | refine fstEq ?_ (by assumption)
    | refine snd2Eq ?_ (by assumption)
    | refine snd3Eq ?_ (by assumption)
    | refine optEq ?_ (by assumption)
    | (refine partMk hI ?_; first | assumption | refine sndEq ?_ (by assumption) | apply keeps_set (hI.mono (by decide)) | apply keeps_podDeliver (hI.mono (by decide)) | apply keeps_setQueue (hI.mono (by decide)) | apply keeps_sendFrame (hI.mono (by decide)))
    | with_unfolding_all exact hI.memPut (by decide) (by assumption) _ _
    | exact hI.eccInsert (by decide) (by assumption) _ _
    | exact hI.eccErase (by decide) (by assumption) _
    | exact hI.memKeep (by decide) (by assumption) _
    | exact hI.eccNone (by decide) (by assumption)
    | exact hI.regNone (by decide) (by assumption)
    | exact hI.memNone (by decide) (by assumption)
    | (intro t ht; beta_reduce)
    | (intro m; first | rfl | simp)
    | dsimp only

theorem keeps_packetYields (hI : Keeps [.recent, .ring, .pod, .eth, .regs, .mem] I) (s : State) (e :
    Nat) (old : Frame) (q : Nat) (f : Frame) (h_s : I s) : I (State.packetYields s e old q f) := by
  unfold State.packetYields
  with_reducible repeat' first
    | assumption
    | (extract_lets -underBinder +onlyGivenNames x; have hx : I x := ?_; clear_value x; on_goal 2 => subst x)
    | (extract_lets -underBinder +onlyGivenNames x; have _p : PodSt := x; clear _p; subst x)
    | (extract_lets -underBinder +onlyGivenNames x; clear_value x)
    | apply keeps_set (hI.mono (by decide))
    | apply keeps_sendPacket hI
    | apply keeps_setPort (hI.mono (by decide))
    | apply keeps_setQueue (hI.mono (by decide))
    | (refine partMk hI ?_; first | assumption | refine sndEq ?_ (by assumption))
    | (intro t ht; beta_reduce)
    | (intro m; first | rfl | simp)

theorem keeps_podFeedAt (hI : Keeps [.recent, .ring, .pod, .eth, .regs, .mem] I) (s : State) (e : Nat)
    (h_s : I s) : I (State.podFeedAt s e) := by
  unfold State.podFeedAt
  with_reducible repeat' first
    | assumption
    | (extract_lets -underBinder +onlyGivenNames x; have hx : I x := ?_; clear_value x; on_goal 2 => subst x)
    | (extract_lets -underBinder +onlyGivenNames x; clear_value x)
    | refine iteI (fun _ => ?_) (fun _ => ?_)
    | split
    | apply keeps_packetYields hI
    | apply keeps_sendPacket hI
    | apply keeps_takeSeq (hI.mono (by decide))
    | refine sndEq ?_ (by assumption)
    | refine fstEq ?_ (by assumption)
    | refine snd2Eq ?_ (by assumption)
    | refine snd3Eq ?_ (by assumption)
    | refine optEq ?_ (by assumption)
    | (refine partMk hI ?_; first | assumption | refine sndEq ?_ (by assumption))
    | (intro t ht; beta_reduce)
    | (intro m; first | rfl | simp)

theorem keeps_podFeed (hI : Keeps [.recent, .ring, .pod, .eth, .regs, .mem] I) (s : State) (h_s : I s)
    : I (State.podFeed s) := by
  unfold State.podFeed
  with_reducible repeat' first
    | assumption
    | apply keeps_podFeedAt hI

theorem keeps_releaseHead (hI : Keeps [.recent, .pod, .regs] I) (s : State) (q : Nat) (h_s : I s) : I
    (State.releaseHead s q) := by
  unfold State.releaseHead
  with_reducible repeat' first
    | assumption
    | (extract_lets -underBinder +onlyGivenNames x; have hx : I x := ?_; clear_value x; on_goal 2 => subst x)
    | (extract_lets -underBinder +onlyGivenNames x; clear_value x)
    | apply keeps_podSync (hI.mono (by decide))
    | apply keeps_setQueue (hI.mono (by decide))
    | (refine partMk hI ?_; first | assumption | refine sndEq ?_ (by assumption))
    | (intro t ht; beta_reduce)
    | (intro m; first | rfl | simp)

theorem keeps_parityEnd (hI : Keeps [.recent, .log, .ring, .pod, .eth, .regs, .mem] I) (s : State) (q :
    Nat) (bad : Bool) (h_s : I s) : I (State.parityEnd s q bad) := by
  unfold State.parityEnd
  with_reducible repeat' first
    | assumption
    | (extract_lets -underBinder +onlyGivenNames x; have hx : I x := ?_; clear_value x; on_goal 2 => subst x)
    | (extract_lets -underBinder +onlyGivenNames x; clear_value x)
    | refine iteI (fun _ => ?_) (fun _ => ?_)
    | split
    | apply keeps_err (hI.mono (by decide))
    | apply keeps_inc (hI.mono (by decide))
    | apply keeps_podSync (hI.mono (by decide))
    | apply keeps_setQueue (hI.mono (by decide))
    | apply keeps_podFeed (hI.mono (by decide))
    | apply keeps_queuePut (hI.mono (by decide))
    | apply keeps_setB (hI.mono (by decide))
    | apply keeps_irqLog (hI.mono (by decide))
    | refine sndEq ?_ (by assumption)
    | refine fstEq ?_ (by assumption)
    | refine snd2Eq ?_ (by assumption)
    | refine snd3Eq ?_ (by assumption)
    | refine optEq ?_ (by assumption)
    | (refine partMk hI ?_; first | assumption | refine sndEq ?_ (by assumption))
    | (intro t ht; beta_reduce)
    | (intro m; first | rfl | simp)

theorem keeps_parityHold (hI : Keeps [.recent, .freeCtr, .log, .ring, .pod, .eth, .regs, .mem] I) (s :
    State) (q : Nat) (h_s : I s) : I (State.parityHold s q) := by
  unfold State.parityHold
  with_reducible repeat' first
    | assumption
    | (extract_lets -underBinder +onlyGivenNames x; have hx : I x := ?_; clear_value x; on_goal 2 => subst x)
    | (extract_lets -underBinder +onlyGivenNames x; clear_value x)
    | refine iteI (fun _ => ?_) (fun _ => ?_)
    | split
    | apply keeps_fresh (hI.mono (by decide))
    | apply keeps_parityEnd (hI.mono (by decide))
    | refine sndEq ?_ (by assumption)
    | refine fstEq ?_ (by assumption)
    | refine snd2Eq ?_ (by assumption)
    | refine snd3Eq ?_ (by assumption)
    | refine optEq ?_ (by assumption)
    | (refine partMk hI ?_; first | assumption | refine sndEq ?_ (by assumption))

theorem keeps_qdataRead (hI : Keeps [.recent, .freeCtr, .log, .ring, .pod, .eth, .regs, .mem] I) (s :
    State) (q : Nat) (h_s : I s) : I (State.qdataRead s q).2 := by
  unfold State.qdataRead
  with_reducible repeat' first
    | assumption
    | (extract_lets -underBinder +onlyGivenNames x; have hx : I x := ?_; clear_value x; on_goal 2 => subst x)
    | (extract_lets -underBinder +onlyGivenNames x; clear_value x)
    | refine iteI (fun _ => ?_) (fun _ => ?_)
    | split
    | apply keeps_parityHold hI
    | apply keeps_releaseHead (hI.mono (by decide))
    | apply keeps_err (hI.mono (by decide))
    | apply keeps_podSync (hI.mono (by decide))
    | apply keeps_setQueue (hI.mono (by decide))
    | refine sndEq ?_ (by assumption)
    | refine fstEq ?_ (by assumption)
    | refine snd2Eq ?_ (by assumption)
    | refine snd3Eq ?_ (by assumption)
    | refine optEq ?_ (by assumption)
    | (refine partMk hI ?_; first | assumption | refine sndEq ?_ (by assumption))
    | (intro t ht; beta_reduce)
    | (intro m; first | rfl | simp)

theorem keeps_qdataWrite (hI : Keeps [.recent, .pod, .regs, .mem] I) (s : State) (q v : Nat) (h_s : I
    s) : I (State.qdataWrite s q v) := by
  unfold State.qdataWrite
  with_reducible repeat' first
    | assumption
    | (extract_lets -underBinder +onlyGivenNames x; have hx : I x := ?_; clear_value x; on_goal 2 => subst x)
    | (extract_lets -underBinder +onlyGivenNames x; clear_value x)
    | refine iteI (fun _ => ?_) (fun _ => ?_)
    | split
    | apply keeps_err (hI.mono (by decide))
    | apply keeps_queuePutAll (hI.mono (by decide))
    | apply keeps_flushBoundary (hI.mono (by decide))
    | apply keeps_packetComplete (hI.mono (by decide))
    | apply keeps_podSync (hI.mono (by decide))
    | apply keeps_setQueue (hI.mono (by decide))
    | apply keeps_queuePut (hI.mono (by decide))
    | apply keeps_irq (hI.mono (by decide))
    | refine sndEq ?_ (by assumption)
    | refine fstEq ?_ (by assumption)
    | refine snd2Eq ?_ (by assumption)
    | refine snd3Eq ?_ (by assumption)
    | refine optEq ?_ (by assumption)
    | (refine partMk hI ?_; first | assumption | refine sndEq ?_ (by assumption))
    | (intro t ht; beta_reduce)
    | (intro m; first | rfl | simp)

theorem keeps_sendNotice (hI : Keeps [.recent, .ring, .eth, .regs] I) (s : State) (page merged first :
    Nat) (h_s : I s) : I (State.sendNotice s page merged first) := by
  unfold State.sendNotice
  with_reducible repeat' first
    | assumption
    | (extract_lets -underBinder +onlyGivenNames x; have hx : I x := ?_; clear_value x; on_goal 2 => subst x)
    | (extract_lets -underBinder +onlyGivenNames x; clear_value x)
    | split
    | apply keeps_inc (hI.mono (by decide))
    | apply keeps_sendOwn hI
    | refine sndEq ?_ (by assumption)
    | refine fstEq ?_ (by assumption)
    | refine snd2Eq ?_ (by assumption)
    | refine snd3Eq ?_ (by assumption)
    | refine optEq ?_ (by assumption)

theorem keeps_updateNotice (hI : Keeps [.recent, .ring, .regs] I) (s : State) (page : Nat) (f : Frame)
    (h_s : I s) : I (State.updateNotice s page f) := by
  unfold State.updateNotice
  with_reducible repeat' first
    | assumption
    | (extract_lets -underBinder +onlyGivenNames x; have hx : I x := ?_; clear_value x; on_goal 2 => subst x)
    | (extract_lets -underBinder +onlyGivenNames x; clear_value x)
    | refine iteI (fun _ => ?_) (fun _ => ?_)
    | apply keeps_modRing (hI.mono (by decide))
    | apply keeps_inc (hI.mono (by decide))
    | (refine partMk hI ?_; first | assumption | refine sndEq ?_ (by assumption))
    | (intro t ht; beta_reduce)
    | (intro m; first | rfl | simp)

theorem keeps_execPodPacketSent (hI : Keeps [.now, .recent, .ring, .pod, .eth, .regs, .mem] I) (dt :
    Nat) (q : Fin 32) (s : State) (h_s : I s) : OutI I (execPodPacketSent dt q s) := by
  unfold execPodPacketSent
  with_reducible repeat' first
    | assumption
    | (extract_lets -underBinder +onlyGivenNames x; have hx : I x := ?_; clear_value x; on_goal 2 => subst x)
    | (extract_lets -underBinder +onlyGivenNames x; clear_value x)
    | refine outNext ?_
    | refine iteI (fun _ => ?_) (fun _ => ?_)
    | refine iteOutI (fun _ => ?_) (fun _ => ?_)
    | apply keeps_releaseHead (hI.mono (by decide))
    | apply keeps_setQueue (hI.mono (by decide))
    | apply keeps_packetEvent (hI.mono (by decide))
    | apply keeps_podFeed (hI.mono (by decide))
    | apply keeps_elapse (hI.mono (by decide))
    | (refine partMk hI ?_; first | assumption | refine sndEq ?_ (by assumption))
    | (intro t ht; beta_reduce)
    | (intro m; first | rfl | simp)

theorem keeps_execParityCheckDone (hI : Keeps [.now, .recent, .log, .ring, .pod, .eth, .regs, .mem] I)
    (dt : Nat) (q : Fin 32) (bad : Bool) (s : State) (h_s : I s) : OutI I (execParityCheckDone dt q bad
    s) := by
  unfold execParityCheckDone
  with_reducible repeat' first
    | assumption
    | (extract_lets -underBinder +onlyGivenNames x; have hx : I x := ?_; clear_value x; on_goal 2 => subst x)
    | (extract_lets -underBinder +onlyGivenNames x; clear_value x)
    | refine outNext ?_
    | refine iteI (fun _ => ?_) (fun _ => ?_)
    | refine iteOutI (fun _ => ?_) (fun _ => ?_)
    | apply keeps_parityEnd (hI.mono (by decide))
    | apply keeps_elapse (hI.mono (by decide))

theorem keeps_execPacketTimeout (hI : Keeps [.now, .recent, .log, .pod, .regs] I) (dt : Nat) (q : Fin
    32) (s : State) (h_s : I s) : OutI I (execPacketTimeout dt q s) := by
  unfold execPacketTimeout
  with_reducible repeat' first
    | assumption
    | (extract_lets -underBinder +onlyGivenNames x; have hx : I x := ?_; clear_value x; on_goal 2 => subst x)
    | (extract_lets -underBinder +onlyGivenNames x; clear_value x)
    | refine outNext ?_
    | refine iteI (fun _ => ?_) (fun _ => ?_)
    | refine iteOutI (fun _ => ?_) (fun _ => ?_)
    | apply keeps_flushBoundary (hI.mono (by decide))
    | apply keeps_inc (hI.mono (by decide))
    | apply keeps_podSync (hI.mono (by decide))
    | apply keeps_setQueue (hI.mono (by decide))
    | apply keeps_elapse (hI.mono (by decide))
    | apply keeps_irqLog (hI.mono (by decide))
    | (refine partMk hI ?_; first | assumption | refine sndEq ?_ (by assumption))
    | (intro t ht; beta_reduce)
    | (intro m; first | rfl | simp)

theorem keeps_execNoticeSend (hI : Keeps [.now, .recent, .ring, .pod, .eth, .regs] I) (dt : Nat) (page
    : Fin 256) (s : State) (h_s : I s) : OutI I (execNoticeSend dt page s) := by
  unfold execNoticeSend
  with_reducible repeat' first
    | assumption
    | (extract_lets -underBinder +onlyGivenNames x; have hx : I x := ?_; clear_value x; on_goal 2 => subst x)
    | (extract_lets -underBinder +onlyGivenNames x; have _p : PodSt := x; clear _p; subst x)
    | (extract_lets -underBinder +onlyGivenNames x; clear_value x)
    | refine outNext ?_
    | refine iteI (fun _ => ?_) (fun _ => ?_)
    | refine iteOutI (fun _ => ?_) (fun _ => ?_)
    | split
    | apply keeps_sendNotice (hI.mono (by decide))
    | apply keeps_inc (hI.mono (by decide))
    | apply keeps_updateNotice (hI.mono (by decide))
    | apply keeps_elapse (hI.mono (by decide))
    | refine sndEq ?_ (by assumption)
    | refine fstEq ?_ (by assumption)
    | refine snd2Eq ?_ (by assumption)
    | refine snd3Eq ?_ (by assumption)
    | refine optEq ?_ (by assumption)
    | (refine partMk hI ?_; first | assumption | refine sndEq ?_ (by assumption))
    | (intro t ht; beta_reduce)
    | (intro m; first | rfl | simp)

theorem keeps_dropHold (hI : Keeps [.pod] I) (s : State) (h : NoticeSt) (h_s : I s) : I (State.dropHold
    s h) := by
  unfold State.dropHold
  with_reducible repeat' first
    | assumption
    | (extract_lets -underBinder +onlyGivenNames x; have hx : I x := ?_; clear_value x; on_goal 2 => subst x)
    | (extract_lets -underBinder +onlyGivenNames x; have _p : PodSt := x; clear _p; subst x)
    | (extract_lets -underBinder +onlyGivenNames x; clear_value x)
    | (refine partMk hI ?_; first | assumption | refine sndEq ?_ (by assumption))

theorem keeps_execNoticeHoldExpiry (hI : Keeps [.now, .recent, .ring, .pod, .eth, .regs] I) (dt : Nat)
    (page : Fin 256) (s : State) (h_s : I s) : OutI I (execNoticeHoldExpiry dt page s) := by
  unfold execNoticeHoldExpiry
  with_reducible repeat' first
    | assumption
    | (extract_lets -underBinder +onlyGivenNames x; have hx : I x := ?_; clear_value x; on_goal 2 => subst x)
    | (extract_lets -underBinder +onlyGivenNames x; have _p : PodSt := x; clear _p; subst x)
    | (extract_lets -underBinder +onlyGivenNames x; clear_value x)
    | refine outNext ?_
    | refine iteI (fun _ => ?_) (fun _ => ?_)
    | refine iteOutI (fun _ => ?_) (fun _ => ?_)
    | split
    | apply keeps_sendNotice (hI.mono (by decide))
    | apply keeps_dropHold (hI.mono (by decide))
    | apply keeps_elapse (hI.mono (by decide))
    | refine sndEq ?_ (by assumption)
    | refine fstEq ?_ (by assumption)
    | refine snd2Eq ?_ (by assumption)
    | refine snd3Eq ?_ (by assumption)
    | refine optEq ?_ (by assumption)
    | (refine partMk hI ?_; first | assumption | refine sndEq ?_ (by assumption))
    | (intro t ht; beta_reduce)
    | (intro m; first | rfl | simp)

theorem keeps_setPortState (hI : Keeps [.regs] I) (s : State) (p v : Nat) (h_s : I s) : I
    (State.setPortState s p v) := by
  unfold State.setPortState
  with_reducible repeat' first
    | assumption
    | apply keeps_set hI

theorem keeps_ringSync (hI : Keeps [.recent, .regs] I) (s : State) (h_s : I s) : I (State.ringSync s) := by
  unfold State.ringSync
  with_reducible repeat' first
    | assumption
    | apply keeps_setB hI

theorem keeps_setWrap (hI : Keeps [.recent, .regs] I) (s : State) (p : Nat) (b : Bool) (h_s : I s) : I
    (State.setWrap s p b) := by
  unfold State.setWrap
  with_reducible repeat' first
    | assumption
    | refine iteI (fun _ => ?_) (fun _ => ?_)
    | apply keeps_ringSync hI
    | apply keeps_setB hI

theorem keeps_becomeRepeater (hI : Keeps [.recent, .ring, .pod, .regs] I) (s : State) (cause : Nat)
    (h_s : I s) : I (State.becomeRepeater s cause) := by
  unfold State.becomeRepeater
  with_reducible repeat' first
    | assumption
    | (extract_lets -underBinder +onlyGivenNames x; have hx : I x := ?_; clear_value x; on_goal 2 => subst x)
    | (extract_lets -underBinder +onlyGivenNames x; clear_value x)
    | refine iteI (fun _ => ?_) (fun _ => ?_)
    | refine foldlI ?_ (fun _ _ _ => ?_)
    | apply keeps_set (hI.mono (by decide))
    | apply keeps_setPort (hI.mono (by decide))
    | apply keeps_stopSource (hI.mono (by decide))
    | apply keeps_setPortState (hI.mono (by decide))
    | apply keeps_setWrap (hI.mono (by decide))
    | apply keeps_setB (hI.mono (by decide))
    | apply keeps_irq (hI.mono (by decide))
    | (refine partMk hI ?_; first | assumption | refine sndEq ?_ (by assumption))
    | (intro t ht; beta_reduce)
    | (intro m; first | rfl | simp)

theorem keeps_ringStart (hI : Keeps [.recent, .ring, .pod, .regs] I) (s : State) (h_s : I s) : I
    (State.ringStart s) := by
  unfold State.ringStart
  with_reducible repeat' first
    | assumption
    | (extract_lets -underBinder +onlyGivenNames x; have hx : I x := ?_; clear_value x; on_goal 2 => subst x)
    | (extract_lets -underBinder +onlyGivenNames x; clear_value x)
    | refine iteI (fun _ => ?_) (fun _ => ?_)
    | apply keeps_modRing (hI.mono (by decide))
    | apply keeps_becomeRepeater hI
    | (refine partMk hI ?_; first | assumption | refine sndEq ?_ (by assumption))
    | (intro t ht; beta_reduce)
    | (intro m; first | rfl | simp)

theorem keeps_delayRestart (hI : Keeps [.recent, .ring, .regs] I) (s : State) (p : Nat) (h_s : I s) : I
    (State.delayRestart s p) := by
  unfold State.delayRestart
  with_reducible repeat' first
    | assumption
    | (extract_lets -underBinder +onlyGivenNames x; have hx : I x := ?_; clear_value x; on_goal 2 => subst x)
    | (extract_lets -underBinder +onlyGivenNames x; clear_value x)
    | apply keeps_setPort (hI.mono (by decide))
    | apply keeps_setB (hI.mono (by decide))
    | (refine partMk hI ?_; first | assumption | refine sndEq ?_ (by assumption))
    | (intro t ht; beta_reduce)
    | (intro m; first | rfl | simp)

theorem keeps_addMeas (hI : Keeps [.recent, .ring, .regs] I) (s : State) (p : Nat) (d : Rat) (h_s : I
    s) : I (State.addMeas s p d) := by
  unfold State.addMeas
  with_reducible repeat' first
    | assumption
    | (extract_lets -underBinder +onlyGivenNames x; have hx : I x := ?_; clear_value x; on_goal 2 => subst x)
    | (extract_lets -underBinder +onlyGivenNames x; clear_value x)
    | refine iteI (fun _ => ?_) (fun _ => ?_)
    | apply keeps_setPort (hI.mono (by decide))
    | apply keeps_setSat (hI.mono (by decide))
    | apply keeps_setB (hI.mono (by decide))
    | (refine partMk hI ?_; first | assumption | refine sndEq ?_ (by assumption))
    | (intro t ht; beta_reduce)
    | (intro m; first | rfl | simp)

theorem keeps_copyGone (hI : Keeps [.pod] I) (s : State) (f : Frame) (h_s : I s) : I (State.copyGone s
    f) := by
  unfold State.copyGone
  with_reducible repeat' first
    | assumption
    | (extract_lets -underBinder +onlyGivenNames x; have hx : I x := ?_; clear_value x; on_goal 2 => subst x)
    | (extract_lets -underBinder +onlyGivenNames x; clear_value x)
    | refine iteI (fun _ => ?_) (fun _ => ?_)
    | apply keeps_setQueue hI
    | (refine partMk hI ?_; first | assumption | refine sndEq ?_ (by assumption))
    | (intro t ht; beta_reduce)
    | (intro m; first | rfl | simp)

theorem keeps_wrapWaiting (hI : Keeps [.recent, .ring, .pod, .regs] I) (s : State) (p : Nat) (l : List
    Frame) (h_s : I s) : I (State.wrapWaiting s p l) := by
  unfold State.wrapWaiting
  with_reducible repeat' first
    | assumption
    | (extract_lets -underBinder +onlyGivenNames x; have hx : I x := ?_; clear_value x; on_goal 2 => subst x)
    | (extract_lets -underBinder +onlyGivenNames x; clear_value x)
    | refine iteI (fun _ => ?_) (fun _ => ?_)
    | refine foldlI ?_ (fun _ _ _ => ?_)
    | apply keeps_enqueue (hI.mono (by decide))
    | apply keeps_inc (hI.mono (by decide))
    | apply keeps_copyGone (hI.mono (by decide))
    | (refine partMk hI ?_; first | assumption | refine sndEq ?_ (by assumption))
    | (intro t ht; beta_reduce)
    | (intro m; first | rfl | simp)

theorem keeps_portFall (hI : Keeps [.recent, .log, .ring, .pod, .regs] I) (s : State) (p : Nat) (h_s :
    I s) : I (State.portFall s p) := by
  unfold State.portFall
  with_reducible repeat' first
    | assumption
    | (extract_lets -underBinder +onlyGivenNames x; have hx : I x := ?_; clear_value x; on_goal 2 => subst x)
    | (extract_lets -underBinder +onlyGivenNames x; clear_value x)
    | refine foldlI ?_ (fun _ _ _ => ?_)
    | apply keeps_wrapWaiting (hI.mono (by decide))
    | apply keeps_set (hI.mono (by decide))
    | apply keeps_setPort (hI.mono (by decide))
    | apply keeps_inc (hI.mono (by decide))
    | apply keeps_setPortState (hI.mono (by decide))
    | apply keeps_copyGone (hI.mono (by decide))
    | apply keeps_delayRestart (hI.mono (by decide))
    | apply keeps_setWrap (hI.mono (by decide))
    | apply keeps_irq (hI.mono (by decide))
    | apply keeps_irqLog (hI.mono (by decide))
    | (refine partMk hI ?_; first | assumption | refine sndEq ?_ (by assumption))
    | (intro t ht; beta_reduce)
    | (intro m; first | rfl | simp)

theorem keeps_sendHello (hI : Keeps [.recent, .freeCtr, .ring, .regs] I) (s : State) (p : Nat) (h_s : I
    s) : I (State.sendHello s p) := by
  unfold State.sendHello
  with_reducible repeat' first
    | assumption
    | (extract_lets -underBinder +onlyGivenNames x; have hx : I x := ?_; clear_value x; on_goal 2 => subst x)
    | (extract_lets -underBinder +onlyGivenNames x; clear_value x)
    | refine iteI (fun _ => ?_) (fun _ => ?_)
    | split
    | apply keeps_setPort (hI.mono (by decide))
    | apply keeps_enqueue (hI.mono (by decide))
    | apply keeps_fresh (hI.mono (by decide))
    | apply keeps_takeSeq (hI.mono (by decide))
    | refine sndEq ?_ (by assumption)
    | refine fstEq ?_ (by assumption)
    | refine snd2Eq ?_ (by assumption)
    | refine snd3Eq ?_ (by assumption)
    | refine optEq ?_ (by assumption)
    | (refine partMk hI ?_; first | assumption | refine sndEq ?_ (by assumption))
    | (intro t ht; beta_reduce)
    | (intro m; first | rfl | simp)

theorem keeps_partnerSeen (hI : Keeps [.recent, .freeCtr, .log, .ring, .pod, .regs] I) (s : State) (p
    serial addr : Nat) (h_s : I s) : I (State.partnerSeen s p serial addr) := by
  unfold State.partnerSeen
  with_reducible repeat' first
    | assumption
    | (extract_lets -underBinder +onlyGivenNames x; have hx : I x := ?_; clear_value x; on_goal 2 => subst x)
    | (extract_lets -underBinder +onlyGivenNames x; clear_value x)
    | refine iteI (fun _ => ?_) (fun _ => ?_)
    | split
    | apply keeps_setPort (hI.mono (by decide))
    | apply keeps_irqLogD (hI.mono (by decide))
    | apply keeps_fresh (hI.mono (by decide))
    | apply keeps_delayRestart (hI.mono (by decide))
    | refine sndEq ?_ (by assumption)
    | refine fstEq ?_ (by assumption)
    | refine snd2Eq ?_ (by assumption)
    | refine snd3Eq ?_ (by assumption)
    | refine optEq ?_ (by assumption)
    | (refine partMk hI ?_; first | assumption | refine sndEq ?_ (by assumption))
    | (intro t ht; beta_reduce)
    | (intro m; first | rfl | simp)

theorem keeps_takeHello (hI : Keeps [.recent, .freeCtr, .log, .ring, .pod, .regs] I) (s : State) (p :
    Nat) (l : List Nat) (h_s : I s) : I (State.takeHello s p l) := by
  unfold State.takeHello
  with_reducible repeat' first
    | assumption
    | (extract_lets -underBinder +onlyGivenNames x; have hx : I x := ?_; clear_value x; on_goal 2 => subst x)
    | (extract_lets -underBinder +onlyGivenNames x; clear_value x)
    | refine iteI (fun _ => ?_) (fun _ => ?_)
    | split
    | apply keeps_modRing (hI.mono (by decide))
    | apply keeps_set (hI.mono (by decide))
    | apply keeps_addMeas (hI.mono (by decide))
    | apply keeps_setPort (hI.mono (by decide))
    | apply keeps_partnerSeen hI
    | apply keeps_setPortState (hI.mono (by decide))
    | apply keeps_gap (hI.mono (by decide))
    | apply keeps_delayRestart (hI.mono (by decide))
    | apply keeps_ringSync (hI.mono (by decide))
    | apply keeps_irq (hI.mono (by decide))
    | refine sndEq ?_ (by assumption)
    | refine fstEq ?_ (by assumption)
    | refine snd2Eq ?_ (by assumption)
    | refine snd3Eq ?_ (by assumption)
    | refine optEq ?_ (by assumption)
    | (refine partMk hI ?_; first | assumption | refine sndEq ?_ (by assumption))
    | (intro t ht; beta_reduce)
    | (intro m; first | rfl | simp)

theorem keeps_raAnswer (hI : Keeps [.recent, .ring, .eth, .regs] I) (s : State) (d : Delivery) (code :
    Nat) (data : List Nat) (h_s : I s) : I (State.raAnswer s d code data) := by
  unfold State.raAnswer
  with_reducible repeat' first
    | assumption
    | apply keeps_sendOwn hI

theorem keeps_deliverFrame (hI : Keeps [.recent, .ring, .pod, .eth, .regs, .mem] I) (s : State) (port :
    Nat) (f : Frame) (h_s : I s) : I (State.deliverFrame s port f) := by
  unfold State.deliverFrame
  with_reducible repeat' first
    | assumption
    | (extract_lets -underBinder +onlyGivenNames x; have hx : I x := ?_; clear_value x; on_goal 2 => subst x)
    | (extract_lets -underBinder +onlyGivenNames x; clear_value x)
    | refine iteI (fun _ => ?_) (fun _ => ?_)
    | apply keeps_err (hI.mono (by decide))
    | apply keeps_podDeliver (hI.mono (by decide))
    | apply keeps_deliverTo (hI.mono (by decide))
    | apply keeps_raAnswer (hI.mono (by decide))
    | (intro t ht; beta_reduce)
    | (intro m; first | rfl | simp)

theorem keeps_beaconIn (hI : Keeps [.recent, .ring, .pod, .regs] I) (s : State) (port : Nat) (f :
    Frame) (h_s : I s) : I (State.beaconIn s port f) := by
  unfold State.beaconIn
  with_reducible repeat' first
    | assumption
    | (extract_lets -underBinder +onlyGivenNames x; have hx : I x := ?_; clear_value x; on_goal 2 => subst x)
    | (extract_lets -underBinder +onlyGivenNames x; clear_value x)
    | refine iteI (fun _ => ?_) (fun _ => ?_)
    | apply keeps_modRing (hI.mono (by decide))
    | apply keeps_err (hI.mono (by decide))
    | apply keeps_inc (hI.mono (by decide))
    | (refine partMk hI ?_; first | assumption | refine sndEq ?_ (by assumption))
    | (intro t ht; beta_reduce)
    | (intro m; first | rfl | simp)

theorem keeps_passBeacon (hI : Keeps [.freeCtr] I) (s : State) (port out : Nat) (f : Frame) (h_s : I s)
    : I (State.passBeacon s port out f).2 := by
  unfold State.passBeacon
  with_reducible repeat' first
    | assumption
    | (extract_lets -underBinder +onlyGivenNames x; have hx : I x := ?_; clear_value x; on_goal 2 => subst x)
    | (extract_lets -underBinder +onlyGivenNames x; clear_value x)
    | refine iteI (fun _ => ?_) (fun _ => ?_)
    | split
    | apply keeps_fresh hI
    | refine sndEq ?_ (by assumption)
    | refine fstEq ?_ (by assumption)
    | refine snd2Eq ?_ (by assumption)
    | refine snd3Eq ?_ (by assumption)
    | refine optEq ?_ (by assumption)
    | (refine partMk hI ?_; first | assumption | refine sndEq ?_ (by assumption))

theorem keeps_homeAgain (hI : Keeps [.recent, .log, .pod, .regs] I) (s : State) (f : Frame) (h_s : I s)
    : I (State.homeAgain s f) := by
  unfold State.homeAgain
  with_reducible repeat' first
    | assumption
    | refine iteI (fun _ => ?_) (fun _ => ?_)
    | apply keeps_setB (hI.mono (by decide))
    | apply keeps_irqLog hI

theorem keeps_passOn (hI : Keeps [.recent, .freeCtr, .ring, .eth, .regs] I) (s : State) (port : Nat) (f
    : Frame) (h_s : I s) : I (State.passOn s port f) := by
  unfold State.passOn
  with_reducible repeat' first
    | assumption
    | (extract_lets -underBinder +onlyGivenNames x; have hx : I x := ?_; clear_value x; on_goal 2 => subst x)
    | (extract_lets -underBinder +onlyGivenNames x; clear_value x)
    | refine iteI (fun _ => ?_) (fun _ => ?_)
    | split
    | apply keeps_sendTunnel (hI.mono (by decide))
    | apply keeps_enqueue (hI.mono (by decide))
    | apply keeps_inc (hI.mono (by decide))
    | apply keeps_passBeacon (hI.mono (by decide))
    | refine sndEq ?_ (by assumption)
    | refine fstEq ?_ (by assumption)
    | refine snd2Eq ?_ (by assumption)
    | refine snd3Eq ?_ (by assumption)
    | refine optEq ?_ (by assumption)
    | (refine partMk hI ?_; first | assumption | refine sndEq ?_ (by assumption))

theorem keeps_receiveFrame (hI : Keeps [.recent, .freeCtr, .log, .ring, .pod, .eth, .regs, .mem] I) (s
    : State) (port : Nat) (f : Frame) (h_s : I s) : I (State.receiveFrame s port f) := by
  unfold State.receiveFrame
  with_reducible repeat' first
    | assumption
    | (extract_lets -underBinder +onlyGivenNames x; have hx : I x := ?_; clear_value x; on_goal 2 => subst x)
    | (extract_lets -underBinder +onlyGivenNames x; clear_value x)
    | refine iteI (fun _ => ?_) (fun _ => ?_)
    | apply keeps_beaconIn (hI.mono (by decide))
    | apply keeps_passOn (hI.mono (by decide))
    | apply keeps_deliverFrame (hI.mono (by decide))
    | apply keeps_homeAgain (hI.mono (by decide))

theorem keeps_listenSync (hI : Keeps [.ring] I) (s : State) (h_s : I s) : I (State.listenSync s) := by
  unfold State.listenSync
  with_reducible repeat' first
    | assumption
    | (extract_lets -underBinder +onlyGivenNames x; have hx : I x := ?_; clear_value x; on_goal 2 => subst x)
    | (extract_lets -underBinder +onlyGivenNames x; clear_value x)
    | refine iteI (fun _ => ?_) (fun _ => ?_)
    | apply keeps_modRing hI
    | (refine partMk hI ?_; first | assumption | refine sndEq ?_ (by assumption))
    | (intro t ht; beta_reduce)
    | (intro m; first | rfl | simp)

theorem keeps_listen (hI : Keeps [.ring] I) (s : State) (f : Frame) (h_s : I s) : I (State.listen s f) := by
  unfold State.listen
  with_reducible repeat' first
    | assumption
    | (extract_lets -underBinder +onlyGivenNames x; have hx : I x := ?_; clear_value x; on_goal 2 => subst x)
    | (extract_lets -underBinder +onlyGivenNames x; clear_value x)
    | refine iteI (fun _ => ?_) (fun _ => ?_)
    | apply keeps_modRing hI
    | apply keeps_listenSync hI
    | (refine partMk hI ?_; first | assumption | refine sndEq ?_ (by assumption))
    | (intro t ht; beta_reduce)
    | (intro m; first | rfl | simp)

theorem keeps_raFinish (hI : Keeps [.recent, .pod, .regs] I) (s : State) (code : Nat) (data : List Nat)
    (h_s : I s) : I (State.raFinish s code data) := by
  unfold State.raFinish
  with_reducible repeat' first
    | assumption
    | (extract_lets -underBinder +onlyGivenNames x; have hx : I x := ?_; clear_value x; on_goal 2 => subst x)
    | (extract_lets -underBinder +onlyGivenNames x; clear_value x)
    | refine iteI (fun _ => ?_) (fun _ => ?_)
    | refine foldlI ?_ (fun _ _ _ => ?_)
    | apply keeps_set (hI.mono (by decide))
    | apply keeps_setB (hI.mono (by decide))
    | apply keeps_irq hI
    | (intro t ht; beta_reduce)
    | (intro m; first | rfl | simp)

theorem keeps_putPll (hI : Keeps [.recent, .sys, .regs] I) (s : State) (i : Nat) (v : PllSt) (h_s : I
    s) : I (State.putPll s i v) := by
  unfold State.putPll
  with_reducible repeat' first
    | assumption
    | (extract_lets -underBinder +onlyGivenNames x; have hx : I x := ?_; clear_value x; on_goal 2 => subst x)
    | (extract_lets -underBinder +onlyGivenNames x; clear_value x)
    | refine iteI (fun _ => ?_) (fun _ => ?_)
    | apply keeps_modSys (hI.mono (by decide))
    | apply keeps_putMaskBit (hI.mono (by decide))
    | apply keeps_setB (hI.mono (by decide))
    | (intro t ht; beta_reduce)
    | (intro m; first | rfl | simp)

theorem keeps_notePllLoss (hI : Keeps [.recent, .regs] I) (s : State) (i : Nat) (h_s : I s) : I
    (State.notePllLoss s i) := by
  unfold State.notePllLoss
  with_reducible repeat' first
    | assumption
    | refine iteI (fun _ => ?_) (fun _ => ?_)
    | apply keeps_setMaskBit hI
    | apply keeps_setB hI

theorem keeps_passesCut (hI : Keeps [.meter] I) (s : State) (h_s : I s) : I (State.passesCut s) := by
  unfold State.passesCut
  with_reducible repeat' first
    | assumption
    | split
    | refine foldlI ?_ (fun _ _ _ => ?_)
    | apply keeps_meterMissed hI
    | refine sndEq ?_ (by assumption)
    | refine fstEq ?_ (by assumption)
    | refine snd2Eq ?_ (by assumption)
    | refine snd3Eq ?_ (by assumption)
    | refine optEq ?_ (by assumption)
    | (refine partMk hI ?_; first | assumption | refine sndEq ?_ (by assumption))
    | (intro t ht; beta_reduce)
    | (intro m; first | rfl | simp)

theorem keeps_clockStops (hI : Keeps [.recent, .sys, .pod, .safe, .chan, .sar, .roverQ, .meter, .regs]
    I) (s : State) (i : Nat) (h_s : I s) : I (State.clockStops s i) := by
  unfold State.clockStops
  with_reducible repeat' first
    | assumption
    | (extract_lets -underBinder +onlyGivenNames x; have hx : I x := ?_; clear_value x; on_goal 2 => subst x)
    | (extract_lets -underBinder +onlyGivenNames x; clear_value x)
    | refine iteI (fun _ => ?_) (fun _ => ?_)
    | apply keeps_set (hI.mono (by decide))
    | apply keeps_passesCut (hI.mono (by decide))
    | apply keeps_linesSync (hI.mono (by decide))
    | apply keeps_modSys (hI.mono (by decide))
    | apply keeps_sarHalt (hI.mono (by decide))
    | apply keeps_putPll (hI.mono (by decide))
    | (refine partMk hI ?_; first | assumption | refine sndEq ?_ (by assumption))
    | (intro t ht; beta_reduce)
    | (intro m; first | rfl | simp)

theorem keeps_islandsLost (hI : Keeps [.recent, .sys, .log, .pod, .safe, .chan, .sar, .roverQ, .meter,
    .regs] I) (s : State) (l : List Nat) (how : Nat) (h_s : I s) : I (State.islandsLost s l how) := by
  unfold State.islandsLost
  with_reducible repeat' first
    | assumption
    | (extract_lets -underBinder +onlyGivenNames x; have hx : I x := ?_; clear_value x; on_goal 2 => subst x)
    | (extract_lets -underBinder +onlyGivenNames x; clear_value x)
    | refine iteI (fun _ => ?_) (fun _ => ?_)
    | refine foldlI ?_ (fun _ _ _ => ?_)
    | apply keeps_clockStops (hI.mono (by decide))
    | apply keeps_burlSafe (hI.mono (by decide))
    | apply keeps_logIt (hI.mono (by decide))
    | (intro t ht; beta_reduce)
    | (intro m; first | rfl | simp)

theorem keeps_execStreamXingOverflow (hI : Keeps [.now, .recent, .sys, .log, .pod, .capt, .regs] I) (dt
    : Nat) (b : Fin 13) (tap : Fin 256) (s : State) (h_s : I s) : OutI I (execStreamXingOverflow dt b
    tap s) := by
  unfold execStreamXingOverflow
  with_reducible repeat' first
    | assumption
    | (extract_lets -underBinder +onlyGivenNames x; have hx : I x := ?_; clear_value x; on_goal 2 => subst x)
    | (extract_lets -underBinder +onlyGivenNames x; clear_value x)
    | refine outNext ?_
    | refine iteI (fun _ => ?_) (fun _ => ?_)
    | refine iteOutI (fun _ => ?_) (fun _ => ?_)
    | apply keeps_err (hI.mono (by decide))
    | apply keeps_setMaskBit (hI.mono (by decide))
    | apply keeps_logIt (hI.mono (by decide))
    | apply keeps_modSys (hI.mono (by decide))
    | apply keeps_setB (hI.mono (by decide))
    | apply keeps_elapse (hI.mono (by decide))
    | (refine partMk hI ?_; first | assumption | refine sndEq ?_ (by assumption))
    | (intro t ht; beta_reduce)
    | (intro m; first | rfl | simp)

theorem keeps_execBurlClockWindow (hI : Keeps [.now, .recent, .sys, .log, .pod, .safe, .chan, .sar,
    .roverQ, .meter, .regs] I) (dt : Nat) (bad : Fin 8192) (s : State) (h_s : I s) : OutI I
    (execBurlClockWindow dt bad s) := by
  unfold execBurlClockWindow
  with_reducible repeat' first
    | assumption
    | (extract_lets -underBinder +onlyGivenNames x; have hx : I x := ?_; clear_value x; on_goal 2 => subst x)
    | (extract_lets -underBinder +onlyGivenNames x; clear_value x)
    | refine outNext ?_
    | refine iteI (fun _ => ?_) (fun _ => ?_)
    | refine iteOutI (fun _ => ?_) (fun _ => ?_)
    | apply keeps_islandsLost (hI.mono (by decide))
    | apply keeps_elapse (hI.mono (by decide))
    | (intro t ht; beta_reduce)
    | (intro m; first | rfl | simp)

theorem keeps_execBurlRcMeasure (hI : Keeps [.now, .recent, .sys, .log, .pod, .safe, .chan, .regs] I)
    (dt : Nat) (khz : Fin 65536) (s : State) (h_s : I s) : OutI I (execBurlRcMeasure dt khz s) := by
  unfold execBurlRcMeasure
  with_reducible repeat' first
    | assumption
    | (extract_lets -underBinder +onlyGivenNames x; have hx : I x := ?_; clear_value x; on_goal 2 => subst x)
    | (extract_lets -underBinder +onlyGivenNames x; clear_value x)
    | refine outNext ?_
    | refine iteI (fun _ => ?_) (fun _ => ?_)
    | refine iteOutI (fun _ => ?_) (fun _ => ?_)
    | apply keeps_set (hI.mono (by decide))
    | apply keeps_burlClockFault (hI.mono (by decide))
    | apply keeps_logIt (hI.mono (by decide))
    | apply keeps_elapse (hI.mono (by decide))

theorem keeps_execScrubWord (hI : Keeps [.now, .dblTable, .dblCapt, .recent, .log, .pod, .regs, .ecc]
    I) (dt : Nat) (addr : Nat) (flips : Fin 3) (s : State) (h_s : I s) : OutI I (execScrubWord dt addr
    flips s) := by
  unfold execScrubWord
  with_reducible repeat' first
    | assumption
    | (extract_lets -underBinder +onlyGivenNames x; have hx : I x := ?_; clear_value x; on_goal 2 => subst x)
    | (extract_lets -underBinder +onlyGivenNames x; clear_value x)
    | refine outNext ?_
    | refine iteI (fun _ => ?_) (fun _ => ?_)
    | refine iteOutI (fun _ => ?_) (fun _ => ?_)
    | apply keeps_err (hI.mono (by decide))
    | apply keeps_recordDouble (hI.mono (by decide))
    | apply keeps_clearBad (hI.mono (by decide))
    | apply keeps_elapse (hI.mono (by decide))
    | (refine partMk hI ?_; first | assumption | refine sndEq ?_ (by assumption))
    | with_unfolding_all exact hI.memPut (by decide) (by assumption) _ _
    | exact hI.eccInsert (by decide) (by assumption) _ _
    | exact hI.eccErase (by decide) (by assumption) _
    | exact hI.memKeep (by decide) (by assumption) _
    | exact hI.eccNone (by decide) (by assumption)
    | exact hI.regNone (by decide) (by assumption)
    | exact hI.memNone (by decide) (by assumption)

theorem keeps_cellResume (hI : Keeps [.recent, .pod, .safe, .chan, .regs] I) (s : State) (x : Nat) (h_s
    : I s) : I (State.cellResume s x) := by
  unfold State.cellResume
  with_reducible repeat' first
    | assumption
    | (extract_lets -underBinder +onlyGivenNames x; have hx : I x := ?_; clear_value x; on_goal 2 => subst x)
    | (extract_lets -underBinder +onlyGivenNames x; clear_value x)
    | split
    | apply keeps_husk (hI.mono (by decide))
    | apply keeps_set (hI.mono (by decide))
    | apply keeps_setCh (hI.mono (by decide))
    | apply keeps_cellEnter (hI.mono (by decide))
    | apply keeps_linesSync hI
    | apply keeps_setCell (hI.mono (by decide))
    | apply keeps_keStop (hI.mono (by decide))
    | apply keeps_pwmStop (hI.mono (by decide))
    | refine sndEq ?_ (by assumption)
    | refine fstEq ?_ (by assumption)
    | refine snd2Eq ?_ (by assumption)
    | refine snd3Eq ?_ (by assumption)
    | refine optEq ?_ (by assumption)
    | (refine partMk hI ?_; first | assumption | refine sndEq ?_ (by assumption))
    | (intro t ht; beta_reduce)
    | (intro m; first | rfl | simp)

theorem keeps_carrierLocks (hI : Keeps [.chan] I) (s : State) (x : Nat) (h_s : I s) : I
    (State.carrierLocks s x) := by
  unfold State.carrierLocks
  with_reducible repeat' first
    | assumption
    | (extract_lets -underBinder +onlyGivenNames x; have hx : I x := ?_; clear_value x; on_goal 2 => subst x)
    | (extract_lets -underBinder +onlyGivenNames x; clear_value x)
    | refine iteI (fun _ => ?_) (fun _ => ?_)
    | apply keeps_setPwm hI
    | (refine partMk hI ?_; first | assumption | refine sndEq ?_ (by assumption))
    | (intro t ht; beta_reduce)
    | (intro m; first | rfl | simp)

theorem keeps_execPllLock (hI : Keeps [.now, .recent, .sys, .ring, .pod, .safe, .chan, .sar, .roverQ,
    .arm, .regs] I) (dt : Nat) (i : Fin 13) (s : State) (h_s : I s) : OutI I (execPllLock dt i s) := by
  unfold execPllLock
  with_reducible repeat' first
    | assumption
    | (extract_lets -underBinder +onlyGivenNames x; have hx : I x := ?_; clear_value x; on_goal 2 => subst x)
    | (extract_lets -underBinder +onlyGivenNames x; clear_value x)
    | refine outNext ?_
    | refine iteI (fun _ => ?_) (fun _ => ?_)
    | refine iteOutI (fun _ => ?_) (fun _ => ?_)
    | apply keeps_carrierLocks (hI.mono (by decide))
    | apply keeps_ringStart (hI.mono (by decide))
    | apply keeps_sarStart (hI.mono (by decide))
    | apply keeps_cellResume (hI.mono (by decide))
    | apply keeps_linesSync (hI.mono (by decide))
    | apply keeps_putPll (hI.mono (by decide))
    | apply keeps_elapse (hI.mono (by decide))
    | (refine partMk hI ?_; first | assumption | refine sndEq ?_ (by assumption))

theorem keeps_execPllLoss (hI : Keeps [.now, .recent, .sys, .log, .pod, .safe, .chan, .sar, .roverQ,
    .meter, .regs] I) (dt : Nat) (i : Fin 13) (s : State) (h_s : I s) : OutI I (execPllLoss dt i s) := by
  unfold execPllLoss
  with_reducible repeat' first
    | assumption
    | (extract_lets -underBinder +onlyGivenNames x; have hx : I x := ?_; clear_value x; on_goal 2 => subst x)
    | (extract_lets -underBinder +onlyGivenNames x; clear_value x)
    | refine outNext ?_
    | refine iteI (fun _ => ?_) (fun _ => ?_)
    | refine iteOutI (fun _ => ?_) (fun _ => ?_)
    | apply keeps_islandsLost (hI.mono (by decide))
    | apply keeps_elapse (hI.mono (by decide))
    | apply keeps_notePllLoss (hI.mono (by decide))

end Sys2Proof.Machine
end

