-- ==== Sys2Proof/Laws/KeepsMeter.lean ====
section
/-! SUPPORT. Which parts of the state may change in the operations and the commands of the meter, the resets and the images. -/

set_option linter.unusedTactic false
set_option linter.unreachableTactic false

namespace Sys2Proof.Machine

-- One proof after another: many at once wait for the same equations, each in a thread of its own.
set_option Elab.async false

variable {I : State → Prop}

theorem keeps_recordMade (hI : Keeps [.meter] I) (s : State) (seq : Nat) (h_s : I s) : I
    (State.recordMade s seq) := by
  unfold State.recordMade
  with_reducible repeat' first
    | assumption
    | (extract_lets -underBinder +onlyGivenNames x; have hx : I x := ?_; clear_value x; on_goal 2 => subst x)
    | (extract_lets -underBinder +onlyGivenNames x; clear_value x)
    | apply keeps_modMeter hI
    | (refine partMk hI ?_; first | assumption | refine sndEq ?_ (by assumption))
    | (intro t ht; beta_reduce)
    | (intro m; first | rfl | simp)

theorem keeps_framFill (hI : Keeps [.fram] I) (s : State) (l : List Nat) (h_s : I s) : I
    (State.framFill s l) :=
  hI.framNew (by decide) h_s l

theorem keeps_framPut (hI : Keeps [.fram] I) (s : State) (a : Nat) (l : List Nat) (h_s : I s) : I
    (State.framPut s a l) :=
  hI.framPut (by decide) h_s a l

theorem keeps_nextSlot (hI : Keeps [.freeCtr] I) (s : State) (h_s : I s) : I (State.nextSlot s).2 := by
  unfold State.nextSlot
  with_reducible repeat' first
    | assumption
    | (extract_lets -underBinder +onlyGivenNames x; have hx : I x := ?_; clear_value x; on_goal 2 => subst x)
    | (extract_lets -underBinder +onlyGivenNames x; have hfn : ∀ (t : State) (a b : Nat), I t → I (x t a b).1 := ?_; clear_value x; on_goal 2 => subst x)
    | (extract_lets -underBinder +onlyGivenNames x; have hfn : ∀ (t : State) (a : Nat), I t → I (x t a) := ?_; clear_value x; on_goal 2 => subst x)
    | (extract_lets -underBinder +onlyGivenNames x; have hfn : ∀ (t : State), I t → I (x t) := ?_; clear_value x; on_goal 2 => subst x)
    | (extract_lets -underBinder +onlyGivenNames x; have hfn : ∀ (t : State) (a b : Bool), I t → I (x t a b) := ?_; clear_value x; on_goal 2 => subst x)
    | apply hfn
    | (intro t a b ht; beta_reduce)
    | (intro t a ht; beta_reduce)
    | (extract_lets -underBinder +onlyGivenNames x; clear_value x)
    | refine iteI (fun _ => ?_) (fun _ => ?_)
    | split
    | apply keeps_fresh hI
    | refine sndEq ?_ (by assumption)
    | refine fstEq ?_ (by assumption)
    | refine snd2Eq ?_ (by assumption)
    | refine snd3Eq ?_ (by assumption)
    | refine optEq ?_ (by assumption)
    | (refine partMk hI ?_; first | assumption | refine sndEq ?_ (by assumption))
    | (intro t ht; beta_reduce)
    | (intro m; first | rfl | simp)

theorem keeps_abortHostRead (hI : Keeps [.recent, .pod, .regs] I) (s : State) (h_s : I s) : I
    (State.abortHostRead s) := by
  unfold State.abortHostRead
  with_reducible repeat' first
    | assumption
    | refine iteI (fun _ => ?_) (fun _ => ?_)
    | apply keeps_setB (hI.mono (by decide))
    | apply keeps_irq hI

theorem keeps_abortWrite (hI : Keeps [.freeCtr, .meter, .fram] I) (s : State) (h_s : I s) : I
    (State.abortWrite s) := by
  unfold State.abortWrite
  with_reducible repeat' first
    | assumption
    | (extract_lets -underBinder +onlyGivenNames x; have hx : I x := ?_; clear_value x; on_goal 2 => subst x)
    | (extract_lets -underBinder +onlyGivenNames x; clear_value x)
    | refine iteI (fun _ => ?_) (fun _ => ?_)
    | split
    | apply keeps_fresh (hI.mono (by decide))
    | apply keeps_framPut (hI.mono (by decide))
    | apply keeps_modMeter (hI.mono (by decide))
    | refine sndEq ?_ (by assumption)
    | refine fstEq ?_ (by assumption)
    | refine snd2Eq ?_ (by assumption)
    | refine snd3Eq ?_ (by assumption)
    | refine optEq ?_ (by assumption)
    | (refine partMk hI ?_; first | assumption | refine sndEq ?_ (by assumption))
    | (intro t ht; beta_reduce)
    | (intro m; first | rfl | simp)

theorem keeps_finalSave (hI : Keeps [.recent, .freeCtr, .pod, .meter, .fram, .regs] I) (s : State) (h_s
    : I s) : I (State.finalSave s) := by
  unfold State.finalSave
  with_reducible repeat' first
    | assumption
    | (extract_lets -underBinder +onlyGivenNames x; have hx : I x := ?_; clear_value x; on_goal 2 => subst x)
    | (extract_lets -underBinder +onlyGivenNames x; clear_value x)
    | refine iteI (fun _ => ?_) (fun _ => ?_)
    | apply keeps_abortHostRead (hI.mono (by decide))
    | apply keeps_abortWrite (hI.mono (by decide))
    | apply keeps_modMeter (hI.mono (by decide))
    | apply keeps_recordMade (hI.mono (by decide))
    | (refine partMk hI ?_; first | assumption | refine sndEq ?_ (by assumption))
    | (intro t ht; beta_reduce)
    | (intro m; first | rfl | simp)

theorem keeps_snapshotAgain (hI : Keeps [.meter] I) (s : State) (h_s : I s) : I (State.snapshotAgain s) := by
  unfold State.snapshotAgain
  with_reducible repeat' first
    | assumption
    | (extract_lets -underBinder +onlyGivenNames x; have hx : I x := ?_; clear_value x; on_goal 2 => subst x)
    | (extract_lets -underBinder +onlyGivenNames x; clear_value x)
    | refine iteI (fun _ => ?_) (fun _ => ?_)
    | split
    | apply keeps_modMeter hI
    | refine sndEq ?_ (by assumption)
    | refine fstEq ?_ (by assumption)
    | refine snd2Eq ?_ (by assumption)
    | refine snd3Eq ?_ (by assumption)
    | refine optEq ?_ (by assumption)
    | (refine partMk hI ?_; first | assumption | refine sndEq ?_ (by assumption))
    | (intro t ht; beta_reduce)
    | (intro m; first | rfl | simp)

theorem keeps_gap (hI : Keeps [.recent, .log, .pod, .regs] I) (s : State) (r : List Nat) (h_s : I s) :
    I (State.gap s r) := by
  unfold State.gap
  with_reducible repeat' first
    | assumption
    | (extract_lets -underBinder +onlyGivenNames x; have hx : I x := ?_; clear_value x; on_goal 2 => subst x)
    | (extract_lets -underBinder +onlyGivenNames x; clear_value x)
    | refine iteI (fun _ => ?_) (fun _ => ?_)
    | split
    | apply keeps_set (hI.mono (by decide))
    | apply keeps_irqLogD hI
    | apply keeps_setB (hI.mono (by decide))
    | apply keeps_setSat (hI.mono (by decide))
    | refine sndEq ?_ (by assumption)
    | refine fstEq ?_ (by assumption)
    | refine snd2Eq ?_ (by assumption)
    | refine snd3Eq ?_ (by assumption)
    | refine optEq ?_ (by assumption)
    | (refine partMk hI ?_; first | assumption | refine sndEq ?_ (by assumption))

theorem keeps_logPlain (hI : Keeps [.recent, .log, .regs] I) (s : State) (page sev ofs : Nat) (h_s : I
    s) : I (State.logPlain s page sev ofs) := by
  unfold State.logPlain
  with_reducible repeat' first
    | assumption
    | apply keeps_logIt hI

theorem keeps_startZero (hI : Keeps [.freeCtr, .meter] I) (s : State) (h_s : I s) : I (State.startZero
    s) := by
  unfold State.startZero
  with_reducible repeat' first
    | assumption
    | (extract_lets -underBinder +onlyGivenNames x; have hx : I x := ?_; clear_value x; on_goal 2 => subst x)
    | (extract_lets -underBinder +onlyGivenNames x; clear_value x)
    | split
    | apply keeps_fresh (hI.mono (by decide))
    | apply keeps_modMeter (hI.mono (by decide))
    | refine sndEq ?_ (by assumption)
    | refine fstEq ?_ (by assumption)
    | refine snd2Eq ?_ (by assumption)
    | refine snd3Eq ?_ (by assumption)
    | refine optEq ?_ (by assumption)
    | (refine partMk hI ?_; first | assumption | refine sndEq ?_ (by assumption))
    | (intro t ht; beta_reduce)
    | (intro m; first | rfl | simp)

theorem keeps_takeRecord (hI : Keeps [.recent, .log, .pod, .meter, .regs] I) (s : State) (r : List Nat)
    (h_s : I s) : I (State.takeRecord s r) := by
  unfold State.takeRecord
  with_reducible repeat' first
    | assumption
    | (extract_lets -underBinder +onlyGivenNames x; have hx : I x := ?_; clear_value x; on_goal 2 => subst x)
    | (extract_lets -underBinder +onlyGivenNames x; clear_value x)
    | refine iteI (fun _ => ?_) (fun _ => ?_)
    | refine foldlI ?_ (fun _ _ _ => ?_)
    | apply keeps_set (hI.mono (by decide))
    | apply keeps_gap (hI.mono (by decide))
    | apply keeps_setB (hI.mono (by decide))
    | apply keeps_logPlain (hI.mono (by decide))
    | apply keeps_modMeter (hI.mono (by decide))
    | (refine partMk hI ?_; first | assumption | refine sndEq ?_ (by assumption))
    | (intro t ht; beta_reduce)
    | (intro m; first | rfl | simp)

theorem keeps_restore (hI : Keeps [.recent, .freeCtr, .log, .pod, .meter, .fram, .regs] I) (s : State)
    (content : List Nat) (h_s : I s) : I (State.restore s content) := by
  unfold State.restore
  with_reducible repeat' first
    | assumption
    | (extract_lets -underBinder +onlyGivenNames x; have hx : I x := ?_; clear_value x; on_goal 2 => subst x)
    | (extract_lets -underBinder +onlyGivenNames x; clear_value x)
    | refine iteI (fun _ => ?_) (fun _ => ?_)
    | split
    | apply keeps_takeRecord (hI.mono (by decide))
    | apply keeps_setB (hI.mono (by decide))
    | apply keeps_startZero (hI.mono (by decide))
    | apply keeps_framFill (hI.mono (by decide))
    | apply keeps_framPut (hI.mono (by decide))
    | apply keeps_logPlain (hI.mono (by decide))
    | apply keeps_modMeter (hI.mono (by decide))
    | refine sndEq ?_ (by assumption)
    | refine fstEq ?_ (by assumption)
    | refine snd2Eq ?_ (by assumption)
    | refine snd3Eq ?_ (by assumption)
    | refine optEq ?_ (by assumption)
    | (refine partMk hI ?_; first | assumption | refine sndEq ?_ (by assumption))
    | (intro t ht; beta_reduce)
    | (intro m; first | rfl | simp)

theorem keeps_putFuse (hI : Keeps [.fuse] I) (s : State) (f : FuseSt) (h_s : I s) : I (State.putFuse s
    f) := by
  unfold State.putFuse
  with_reducible repeat' first
    | assumption
    | (extract_lets -underBinder +onlyGivenNames x; have hx : I x := ?_; clear_value x; on_goal 2 => subst x)
    | (extract_lets -underBinder +onlyGivenNames x; clear_value x)
    | (refine partMk hI ?_; first | assumption | refine sndEq ?_ (by assumption))

theorem keeps_cutFuse (hI : Keeps [.freeCtr, .fuse, .regs] I) (s : State) (h_s : I s) : I
    (State.cutFuse s) := by
  unfold State.cutFuse
  with_reducible repeat' first
    | assumption
    | (extract_lets -underBinder +onlyGivenNames x; have hx : I x := ?_; clear_value x; on_goal 2 => subst x)
    | (extract_lets -underBinder +onlyGivenNames x; clear_value x)
    | refine iteI (fun _ => ?_) (fun _ => ?_)
    | split
    | apply keeps_set (hI.mono (by decide))
    | apply keeps_fresh (hI.mono (by decide))
    | apply keeps_putFuse (hI.mono (by decide))
    | refine sndEq ?_ (by assumption)
    | refine fstEq ?_ (by assumption)
    | refine snd2Eq ?_ (by assumption)
    | refine snd3Eq ?_ (by assumption)
    | refine optEq ?_ (by assumption)
    | (refine partMk hI ?_; first | assumption | refine sndEq ?_ (by assumption))

theorem keeps_dropMemories (hI : Keeps [.drop] I) (s : State) (por coreLost : Bool) (h_s : I s) : I
    (State.dropMemories s por coreLost) := by
  have h1 := hI.stageNone (by decide) (hI.regNone (by decide) h_s)
  have h2 := hI.stageNone (by decide) (hI.regKeep (by decide) h_s (fun e => aonKey e.1))
  unfold State.dropMemories
  cases por <;> cases coreLost
  · exact hI.eccKeep (by decide) (hI.memKeep (by decide) h2 (fun c => keptCell c.1)) (fun e => keptCell e.1)
  · exact hI.eccNone (by decide) (hI.memNone (by decide) h2)
  · exact hI.eccKeep (by decide) (hI.memKeep (by decide) h1 (fun c => keptCell c.1)) (fun e => keptCell e.1)
  · exact hI.eccNone (by decide) (hI.memNone (by decide) h1)

theorem keeps_resetRest (hI : Keeps [.now, .dblTable, .dblCapt, .shadow, .hostOut, .recent, .freeCtr,
    .sys, .fuse, .boot, .canopyT, .log, .ring, .pod, .gyl, .safe, .hw, .eth, .chan, .sar, .roverQ,
    .engs, .arm, .ride, .isl, .capt, .meter, .regs, .staged, .ecc, .mem, .drop] I) (s : State) (por
    coreLost : Bool) (h_s : I s) : I (State.resetRest s por coreLost) :=
  hI.resetRest (by decide) h_s por coreLost

theorem keeps_resetIslands (hI : Keeps [.now, .dblTable, .dblCapt, .shadow, .hostOut, .recent,
    .freeCtr, .sys, .fuse, .boot, .canopyT, .log, .ring, .pod, .gyl, .safe, .hw, .eth, .chan, .sar,
    .roverQ, .engs, .arm, .ride, .isl, .capt, .meter, .fram, .regs, .staged, .ecc, .mem, .drop] I) (s :
    State) (por coreLost : Bool) (h_s : I s) : I (State.resetIslands s por coreLost) := by
  unfold State.resetIslands
  with_reducible repeat' first
    | assumption
    | apply keeps_dropMemories (hI.mono (by decide))
    | apply keeps_abortWrite (hI.mono (by decide))
    | apply keeps_resetRest (hI.mono (by decide))
    | apply keeps_cutFuse (hI.mono (by decide))

theorem keeps_dropRegs (hI : Keeps [.drop] I) (s : State) (h_s : I s) : I (State.dropRegs s) := by
  unfold State.dropRegs
  with_reducible repeat' first
    | assumption
    | (extract_lets -underBinder +onlyGivenNames x; have hx : I x := ?_; clear_value x; on_goal 2 => subst x)
    | (extract_lets -underBinder +onlyGivenNames x; clear_value x)
    | (refine partMk hI ?_; first | assumption | refine sndEq ?_ (by assumption))
    | with_unfolding_all exact hI.memPut (by decide) (by assumption) _ _
    | exact hI.eccInsert (by decide) (by assumption) _ _
    | exact hI.eccErase (by decide) (by assumption) _
    | exact hI.memKeep (by decide) (by assumption) _
    | exact hI.eccNone (by decide) (by assumption)
    | exact hI.regNone (by decide) (by assumption)
    | exact hI.memNone (by decide) (by assumption)

theorem keeps_dropTables (hI : Keeps [.drop] I) (s : State) (h_s : I s) : I (State.dropTables s) := by
  unfold State.dropTables
  with_reducible repeat' first
    | assumption
    | (extract_lets -underBinder +onlyGivenNames x; have hx : I x := ?_; clear_value x; on_goal 2 => subst x)
    | (extract_lets -underBinder +onlyGivenNames x; clear_value x)
    | (refine partMk hI ?_; first | assumption | refine sndEq ?_ (by assumption))
    | with_unfolding_all exact hI.memPut (by decide) (by assumption) _ _
    | exact hI.eccInsert (by decide) (by assumption) _ _
    | exact hI.eccErase (by decide) (by assumption) _
    | exact hI.memKeep (by decide) (by assumption) _
    | exact hI.eccNone (by decide) (by assumption)
    | exact hI.regNone (by decide) (by assumption)
    | exact hI.memNone (by decide) (by assumption)

theorem keeps_enterReset (hI : Keeps [.now, .dblTable, .dblCapt, .shadow, .hostOut, .recent, .freeCtr,
    .sys, .fuse, .boot, .canopyT, .log, .ring, .pod, .gyl, .safe, .hw, .eth, .chan, .sar, .roverQ,
    .engs, .arm, .ride, .isl, .capt, .meter, .fram, .regs, .staged, .ecc, .mem, .drop] I) (s : State)
    (por coreLost : Bool) (h_s : I s) : I (State.enterReset s por coreLost) := by
  unfold State.enterReset
  with_reducible repeat' first
    | assumption
    | (extract_lets -underBinder +onlyGivenNames x; have hx : I x := ?_; clear_value x; on_goal 2 => subst x)
    | (extract_lets -underBinder +onlyGivenNames x; clear_value x)
    | refine iteI (fun _ => ?_) (fun _ => ?_)
    | apply keeps_inc (hI.mono (by decide))
    | apply keeps_modSys (hI.mono (by decide))
    | apply keeps_dropRegs (hI.mono (by decide))
    | apply keeps_dropTables (hI.mono (by decide))
    | apply keeps_resetIslands hI
    | (refine partMk hI ?_; first | assumption | refine sndEq ?_ (by assumption))
    | (intro t ht; beta_reduce)
    | (intro m; first | rfl | simp)

theorem keeps_addCause (hI : Keeps [.sys] I) (s : State) (f : Causes → Causes) (h_s : I s) : I
    (State.addCause s f) := by
  unfold State.addCause
  with_reducible repeat' first
    | assumption
    | (extract_lets -underBinder +onlyGivenNames x; have hx : I x := ?_; clear_value x; on_goal 2 => subst x)
    | (extract_lets -underBinder +onlyGivenNames x; clear_value x)
    | apply keeps_modSys hI
    | (refine partMk hI ?_; first | assumption | refine sndEq ?_ (by assumption))
    | (intro t ht; beta_reduce)
    | (intro m; first | rfl | simp)

theorem keeps_railNoted (hI : Keeps [.sys, .regs] I) (s : State) (r : Nat) (h_s : I s) : I
    (State.railNoted s r) := by
  unfold State.railNoted
  with_reducible repeat' first
    | assumption
    | refine iteI (fun _ => ?_) (fun _ => ?_)
    | apply keeps_set (hI.mono (by decide))
    | apply keeps_modSys (hI.mono (by decide))
    | (refine partMk hI ?_; first | assumption | refine sndEq ?_ (by assumption))
    | (intro t ht; beta_reduce)
    | (intro m; first | rfl | simp)

theorem keeps_execRailGood (hI : Keeps [.now, .recent, .sys, .canopyT, .regs] I) (dt : Nat) (r : Fin 6)
    (s : State) (h_s : I s) : OutI I (execRailGood dt r s) := by
  unfold execRailGood
  with_reducible repeat' first
    | assumption
    | (extract_lets -underBinder +onlyGivenNames x; have hx : I x := ?_; clear_value x; on_goal 2 => subst x)
    | (extract_lets -underBinder +onlyGivenNames x; clear_value x)
    | refine outNext ?_
    | refine iteI (fun _ => ?_) (fun _ => ?_)
    | refine iteOutI (fun _ => ?_) (fun _ => ?_)
    | apply keeps_railNoted (hI.mono (by decide))
    | apply keeps_setB (hI.mono (by decide))
    | apply keeps_setMaskBit (hI.mono (by decide))
    | apply keeps_modCanopy (hI.mono (by decide))
    | apply keeps_modSys (hI.mono (by decide))
    | apply keeps_elapse (hI.mono (by decide))
    | (refine partMk hI ?_; first | assumption | refine sndEq ?_ (by assumption))
    | (intro t ht; beta_reduce)
    | (intro m; first | rfl | simp)

theorem keeps_execBrownOutReset (hI : Keeps [.now, .dblTable, .dblCapt, .shadow, .hostOut, .recent,
    .freeCtr, .sys, .fuse, .boot, .canopyT, .log, .ring, .pod, .gyl, .safe, .hw, .eth, .chan, .sar,
    .roverQ, .engs, .arm, .ride, .isl, .capt, .meter, .fram, .regs, .staged, .ecc, .mem, .drop] I) (dt :
    Nat) (r : Fin 5) (s : State) (h_s : I s) : OutI I (execBrownOutReset dt r s) := by
  unfold execBrownOutReset
  with_reducible repeat' first
    | assumption
    | (extract_lets -underBinder +onlyGivenNames x; have hx : I x := ?_; clear_value x; on_goal 2 => subst x)
    | (extract_lets -underBinder +onlyGivenNames x; clear_value x)
    | refine outNext ?_
    | refine iteI (fun _ => ?_) (fun _ => ?_)
    | refine iteOutI (fun _ => ?_) (fun _ => ?_)
    | apply keeps_railNoted (hI.mono (by decide))
    | apply keeps_setB (hI.mono (by decide))
    | apply keeps_setMaskBit (hI.mono (by decide))
    | apply keeps_putMaskBit (hI.mono (by decide))
    | apply keeps_addCause (hI.mono (by decide))
    | apply keeps_elapse (hI.mono (by decide))
    | apply keeps_enterReset hI
    | (refine partMk hI ?_; first | assumption | refine sndEq ?_ (by assumption))
    | (intro t ht; beta_reduce)
    | (intro m; first | rfl | simp)

theorem keeps_execPowerOnReset (hI : Keeps [.now, .dblTable, .dblCapt, .shadow, .hostOut, .recent,
    .freeCtr, .sys, .fuse, .boot, .canopyT, .log, .ring, .pod, .gyl, .safe, .hw, .eth, .chan, .sar,
    .roverQ, .engs, .arm, .ride, .isl, .capt, .meter, .fram, .regs, .staged, .ecc, .mem, .drop] I) (dt :
    Nat) (s : State) (h_s : I s) : OutI I (execPowerOnReset dt s) := by
  unfold execPowerOnReset
  with_reducible repeat' first
    | assumption
    | (extract_lets -underBinder +onlyGivenNames x; have hx : I x := ?_; clear_value x; on_goal 2 => subst x)
    | (extract_lets -underBinder +onlyGivenNames x; clear_value x)
    | refine outNext ?_
    | refine iteI (fun _ => ?_) (fun _ => ?_)
    | refine iteOutI (fun _ => ?_) (fun _ => ?_)
    | apply keeps_set (hI.mono (by decide))
    | apply keeps_railNoted (hI.mono (by decide))
    | apply keeps_setB (hI.mono (by decide))
    | apply keeps_modSys (hI.mono (by decide))
    | apply keeps_elapse (hI.mono (by decide))
    | apply keeps_enterReset hI
    | (refine partMk hI ?_; first | assumption | refine sndEq ?_ (by assumption))
    | (intro t ht; beta_reduce)
    | (intro m; first | rfl | simp)

theorem keeps_execXtalGood (hI : Keeps [.now, .recent, .sys, .regs] I) (dt : Nat) (s : State) (h_s : I
    s) : OutI I (execXtalGood dt s) := by
  unfold execXtalGood
  with_reducible repeat' first
    | assumption
    | (extract_lets -underBinder +onlyGivenNames x; have hx : I x := ?_; clear_value x; on_goal 2 => subst x)
    | (extract_lets -underBinder +onlyGivenNames x; clear_value x)
    | refine outNext ?_
    | refine iteI (fun _ => ?_) (fun _ => ?_)
    | refine iteOutI (fun _ => ?_) (fun _ => ?_)
    | apply keeps_setB (hI.mono (by decide))
    | apply keeps_modSys (hI.mono (by decide))
    | apply keeps_elapse (hI.mono (by decide))
    | (refine partMk hI ?_; first | assumption | refine sndEq ?_ (by assumption))
    | (intro t ht; beta_reduce)
    | (intro m; first | rfl | simp)

theorem keeps_execXtalLoss (hI : Keeps [.now, .recent, .sys, .log, .pod, .safe, .chan, .sar, .roverQ,
    .meter, .regs] I) (dt : Nat) (s : State) (h_s : I s) : OutI I (execXtalLoss dt s) := by
  unfold execXtalLoss
  with_reducible repeat' first
    | assumption
    | (extract_lets -underBinder +onlyGivenNames x; have hx : I x := ?_; clear_value x; on_goal 2 => subst x)
    | (extract_lets -underBinder +onlyGivenNames x; clear_value x)
    | refine outNext ?_
    | refine iteI (fun _ => ?_) (fun _ => ?_)
    | refine iteOutI (fun _ => ?_) (fun _ => ?_)
    | refine foldlI ?_ (fun _ _ _ => ?_)
    | apply keeps_setB (hI.mono (by decide))
    | apply keeps_clockStops (hI.mono (by decide))
    | apply keeps_modSys (hI.mono (by decide))
    | apply keeps_burlSafe (hI.mono (by decide))
    | apply keeps_elapse (hI.mono (by decide))
    | (refine partMk hI ?_; first | assumption | refine sndEq ?_ (by assumption))
    | (intro t ht; beta_reduce)
    | (intro m; first | rfl | simp)

theorem keeps_execXtalLossReset (hI : Keeps [.now, .dblTable, .dblCapt, .shadow, .hostOut, .recent,
    .freeCtr, .sys, .fuse, .boot, .canopyT, .log, .ring, .pod, .gyl, .safe, .hw, .eth, .chan, .sar,
    .roverQ, .engs, .arm, .ride, .isl, .capt, .meter, .fram, .regs, .staged, .ecc, .mem, .drop] I) (dt :
    Nat) (s : State) (h_s : I s) : OutI I (execXtalLossReset dt s) := by
  unfold execXtalLossReset
  with_reducible repeat' first
    | assumption
    | (extract_lets -underBinder +onlyGivenNames x; have hx : I x := ?_; clear_value x; on_goal 2 => subst x)
    | (extract_lets -underBinder +onlyGivenNames x; clear_value x)
    | refine outNext ?_
    | refine iteI (fun _ => ?_) (fun _ => ?_)
    | refine iteOutI (fun _ => ?_) (fun _ => ?_)
    | split
    | apply keeps_setB (hI.mono (by decide))
    | apply keeps_modSys (hI.mono (by decide))
    | apply keeps_addCause (hI.mono (by decide))
    | apply keeps_elapse (hI.mono (by decide))
    | apply keeps_enterReset hI
    | refine sndEq ?_ (by assumption)
    | refine fstEq ?_ (by assumption)
    | refine snd2Eq ?_ (by assumption)
    | refine snd3Eq ?_ (by assumption)
    | refine optEq ?_ (by assumption)
    | (refine partMk hI ?_; first | assumption | refine sndEq ?_ (by assumption))
    | (intro t ht; beta_reduce)
    | (intro m; first | rfl | simp)

theorem keeps_execPinReset (hI : Keeps [.now, .dblTable, .dblCapt, .shadow, .hostOut, .recent,
    .freeCtr, .sys, .fuse, .boot, .canopyT, .log, .ring, .pod, .gyl, .safe, .hw, .eth, .chan, .sar,
    .roverQ, .engs, .arm, .ride, .isl, .capt, .meter, .fram, .regs, .staged, .ecc, .mem, .drop] I) (dt :
    Nat) (s : State) (h_s : I s) : OutI I (execPinReset dt s) := by
  unfold execPinReset
  with_reducible repeat' first
    | assumption
    | (extract_lets -underBinder +onlyGivenNames x; have hx : I x := ?_; clear_value x; on_goal 2 => subst x)
    | (extract_lets -underBinder +onlyGivenNames x; clear_value x)
    | refine outNext ?_
    | refine iteI (fun _ => ?_) (fun _ => ?_)
    | refine iteOutI (fun _ => ?_) (fun _ => ?_)
    | apply keeps_setB (hI.mono (by decide))
    | apply keeps_modSys (hI.mono (by decide))
    | apply keeps_addCause (hI.mono (by decide))
    | apply keeps_elapse (hI.mono (by decide))
    | apply keeps_enterReset hI
    | (refine partMk hI ?_; first | assumption | refine sndEq ?_ (by assumption))
    | (intro t ht; beta_reduce)
    | (intro m; first | rfl | simp)

theorem keeps_execPinResetRelease (hI : Keeps [.now, .sys] I) (dt : Nat) (s : State) (h_s : I s) : OutI
    I (execPinResetRelease dt s) := by
  unfold execPinResetRelease
  with_reducible repeat' first
    | assumption
    | (extract_lets -underBinder +onlyGivenNames x; have hx : I x := ?_; clear_value x; on_goal 2 => subst x)
    | (extract_lets -underBinder +onlyGivenNames x; clear_value x)
    | refine outNext ?_
    | refine iteI (fun _ => ?_) (fun _ => ?_)
    | refine iteOutI (fun _ => ?_) (fun _ => ?_)
    | apply keeps_modSys (hI.mono (by decide))
    | apply keeps_addCause (hI.mono (by decide))
    | apply keeps_elapse (hI.mono (by decide))
    | (refine partMk hI ?_; first | assumption | refine sndEq ?_ (by assumption))
    | (intro t ht; beta_reduce)
    | (intro m; first | rfl | simp)

theorem keeps_execTestReset (hI : Keeps [.now, .dblTable, .dblCapt, .shadow, .hostOut, .recent,
    .freeCtr, .sys, .fuse, .boot, .canopyT, .log, .ring, .pod, .gyl, .safe, .hw, .eth, .chan, .sar,
    .roverQ, .engs, .arm, .ride, .isl, .capt, .meter, .fram, .regs, .staged, .ecc, .mem, .drop] I) (dt :
    Nat) (s : State) (h_s : I s) : OutI I (execTestReset dt s) := by
  unfold execTestReset
  with_reducible repeat' first
    | assumption
    | (extract_lets -underBinder +onlyGivenNames x; have hx : I x := ?_; clear_value x; on_goal 2 => subst x)
    | (extract_lets -underBinder +onlyGivenNames x; clear_value x)
    | refine outNext ?_
    | refine iteI (fun _ => ?_) (fun _ => ?_)
    | refine iteOutI (fun _ => ?_) (fun _ => ?_)
    | apply keeps_setB (hI.mono (by decide))
    | apply keeps_modSys (hI.mono (by decide))
    | apply keeps_addCause (hI.mono (by decide))
    | apply keeps_elapse (hI.mono (by decide))
    | apply keeps_enterReset hI
    | (refine partMk hI ?_; first | assumption | refine sndEq ?_ (by assumption))
    | (intro t ht; beta_reduce)
    | (intro m; first | rfl | simp)

theorem keeps_execTestResetRelease (hI : Keeps [.now, .sys] I) (dt : Nat) (s : State) (h_s : I s) :
    OutI I (execTestResetRelease dt s) := by
  unfold execTestResetRelease
  with_reducible repeat' first
    | assumption
    | (extract_lets -underBinder +onlyGivenNames x; have hx : I x := ?_; clear_value x; on_goal 2 => subst x)
    | (extract_lets -underBinder +onlyGivenNames x; clear_value x)
    | refine outNext ?_
    | refine iteI (fun _ => ?_) (fun _ => ?_)
    | refine iteOutI (fun _ => ?_) (fun _ => ?_)
    | apply keeps_modSys (hI.mono (by decide))
    | apply keeps_addCause (hI.mono (by decide))
    | apply keeps_elapse (hI.mono (by decide))
    | (refine partMk hI ?_; first | assumption | refine sndEq ?_ (by assumption))
    | (intro t ht; beta_reduce)
    | (intro m; first | rfl | simp)

theorem keeps_execWatchdogExpiry (hI : Keeps [.now, .recent, .freeCtr, .sys, .log, .pod, .safe, .chan,
    .meter, .fram, .regs] I) (dt : Nat) (s : State) (h_s : I s) : OutI I (execWatchdogExpiry dt s) := by
  unfold execWatchdogExpiry
  with_reducible repeat' first
    | assumption
    | (extract_lets -underBinder +onlyGivenNames x; have hx : I x := ?_; clear_value x; on_goal 2 => subst x)
    | (extract_lets -underBinder +onlyGivenNames x; clear_value x)
    | refine outNext ?_
    | refine iteI (fun _ => ?_) (fun _ => ?_)
    | refine iteOutI (fun _ => ?_) (fun _ => ?_)
    | apply keeps_modSys (hI.mono (by decide))
    | apply keeps_burlSafe (hI.mono (by decide))
    | apply keeps_elapse (hI.mono (by decide))
    | apply keeps_finalSave (hI.mono (by decide))
    | (refine partMk hI ?_; first | assumption | refine sndEq ?_ (by assumption))
    | (intro t ht; beta_reduce)
    | (intro m; first | rfl | simp)

theorem keeps_execWatchdogReset (hI : Keeps [.now, .dblTable, .dblCapt, .shadow, .hostOut, .recent,
    .freeCtr, .sys, .fuse, .boot, .canopyT, .log, .ring, .pod, .gyl, .safe, .hw, .eth, .chan, .sar,
    .roverQ, .engs, .arm, .ride, .isl, .capt, .meter, .fram, .regs, .staged, .ecc, .mem, .drop] I) (dt :
    Nat) (s : State) (h_s : I s) : OutI I (execWatchdogReset dt s) := by
  unfold execWatchdogReset
  with_reducible repeat' first
    | assumption
    | (extract_lets -underBinder +onlyGivenNames x; have hx : I x := ?_; clear_value x; on_goal 2 => subst x)
    | (extract_lets -underBinder +onlyGivenNames x; clear_value x)
    | refine outNext ?_
    | refine iteI (fun _ => ?_) (fun _ => ?_)
    | refine iteOutI (fun _ => ?_) (fun _ => ?_)
    | split
    | apply keeps_setB (hI.mono (by decide))
    | apply keeps_modSys (hI.mono (by decide))
    | apply keeps_addCause (hI.mono (by decide))
    | apply keeps_elapse (hI.mono (by decide))
    | apply keeps_enterReset hI
    | refine sndEq ?_ (by assumption)
    | refine fstEq ?_ (by assumption)
    | refine snd2Eq ?_ (by assumption)
    | refine snd3Eq ?_ (by assumption)
    | refine optEq ?_ (by assumption)
    | (refine partMk hI ?_; first | assumption | refine sndEq ?_ (by assumption))
    | (intro t ht; beta_reduce)
    | (intro m; first | rfl | simp)

theorem keeps_fuseShow (hI : Keeps [.regs] I) (s : State) (h_s : I s) : I (State.fuseShow s) := by
  unfold State.fuseShow
  with_reducible repeat' first
    | assumption
    | (extract_lets -underBinder +onlyGivenNames x; have hx : I x := ?_; clear_value x; on_goal 2 => subst x)
    | (extract_lets -underBinder +onlyGivenNames x; clear_value x)
    | refine iteI (fun _ => ?_) (fun _ => ?_)
    | refine foldlI ?_ (fun _ _ _ => ?_)
    | apply keeps_set hI
    | (intro t ht; beta_reduce)
    | (intro m; first | rfl | simp)

theorem keeps_canopyRestart (hI : Keeps [.recent, .canopyT, .regs] I) (s : State) (h_s : I s) : I
    (State.canopyRestart s) := by
  unfold State.canopyRestart
  with_reducible repeat' first
    | assumption
    | (extract_lets -underBinder +onlyGivenNames x; have hx : I x := ?_; clear_value x; on_goal 2 => subst x)
    | (extract_lets -underBinder +onlyGivenNames x; clear_value x)
    | refine iteI (fun _ => ?_) (fun _ => ?_)
    | apply keeps_setB (hI.mono (by decide))
    | apply keeps_inc (hI.mono (by decide))
    | apply keeps_setI (hI.mono (by decide))
    | (refine partMk hI ?_; first | assumption | refine sndEq ?_ (by assumption))

theorem keeps_pinsSeen (hI : Keeps [.recent, .meter, .regs] I) (s : State) (h_s : I s) : I
    (State.pinsSeen s) := by
  unfold State.pinsSeen
  with_reducible repeat' first
    | assumption
    | (extract_lets -underBinder +onlyGivenNames x; have hx : I x := ?_; clear_value x; on_goal 2 => subst x)
    | (extract_lets -underBinder +onlyGivenNames x; clear_value x)
    | apply keeps_setB (hI.mono (by decide))
    | apply keeps_modMeter (hI.mono (by decide))
    | (refine partMk hI ?_; first | assumption | refine sndEq ?_ (by assumption))
    | (intro t ht; beta_reduce)
    | (intro m; first | rfl | simp)

theorem keeps_execResetRelease (hI : Keeps [.now, .recent, .sys, .boot, .canopyT, .meter, .regs] I) (dt
    : Nat) (s : State) (h_s : I s) : OutI I (execResetRelease dt s) := by
  unfold execResetRelease
  with_reducible repeat' first
    | assumption
    | (extract_lets -underBinder +onlyGivenNames x; have hx : I x := ?_; clear_value x; on_goal 2 => subst x)
    | (extract_lets -underBinder +onlyGivenNames x; clear_value x)
    | refine outNext ?_
    | refine iteI (fun _ => ?_) (fun _ => ?_)
    | refine iteOutI (fun _ => ?_) (fun _ => ?_)
    | apply keeps_pinsSeen (hI.mono (by decide))
    | apply keeps_setB (hI.mono (by decide))
    | apply keeps_fuseShow (hI.mono (by decide))
    | apply keeps_modSys (hI.mono (by decide))
    | apply keeps_canopyRestart (hI.mono (by decide))
    | apply keeps_elapse (hI.mono (by decide))
    | (refine partMk hI ?_; first | assumption | refine sndEq ?_ (by assumption))
    | (intro t ht; beta_reduce)
    | (intro m; first | rfl | simp)

theorem keeps_writeBo (hI : Keeps [.regs] I) (s : State) (l : List (Nat × Nat)) (h_s : I s) : I
    (State.writeBo s l) := by
  unfold State.writeBo
  with_reducible repeat' first
    | assumption
    | refine foldlI ?_ (fun _ _ _ => ?_)
    | apply keeps_setBoot hI
    | (intro t ht; beta_reduce)
    | (intro m; first | rfl | simp)

theorem keeps_loadSections (hI : Keeps [.mem] I) (b : List Nat) (n : Nat) (x y : List Section) (s :
    State) (h_s : I s) : I (loadSections b n x y s).1 := by
  induction y generalizing s x with
  | nil => exact h_s
  | cons a l ih =>
    unfold loadSections
    split
    · exact ih _ _ (hI.memPut (by decide) h_s _ _)
    · exact ih _ _ h_s

end Sys2Proof.Machine
end

