-- ==== Sys2Proof/Laws/KeepsBlocks.lean ====
section
/-! SUPPORT. Which parts of the state may change in the operations and the commands of Gylen, the log, boot, capture, the gateway, the guard and the mailbox. -/

set_option linter.unusedTactic false
set_option linter.unreachableTactic false

namespace Sys2Proof.Machine

-- One proof after another: many at once wait for the same equations, each in a thread of its own.
set_option Elab.async false

variable {I : State → Prop}

theorem keeps_setConn (hI : Keeps [.gyl] I) (s : State) (n : Nat) (f : GylSt → GylSt) (h_s : I s) : I
    (State.setConn s n f) := by
  unfold State.setConn
  with_reducible repeat' first
    | assumption
    | (extract_lets -underBinder +onlyGivenNames x; have hx : I x := ?_; clear_value x; on_goal 2 => subst x)
    | (extract_lets -underBinder +onlyGivenNames x; clear_value x)
    | (refine partMk hI ?_; first | assumption | refine sndEq ?_ (by assumption))

theorem keeps_setConnState (hI : Keeps [.recent, .regs] I) (s : State) (n st : Nat) (h_s : I s) : I
    (State.setConnState s n st) := by
  unfold State.setConnState
  with_reducible repeat' first
    | assumption
    | (extract_lets -underBinder +onlyGivenNames x; have hx : I x := ?_; clear_value x; on_goal 2 => subst x)
    | (extract_lets -underBinder +onlyGivenNames x; clear_value x)
    | apply keeps_set (hI.mono (by decide))
    | apply keeps_setB hI
    | (intro t ht; beta_reduce)
    | (intro m; first | rfl | simp)

theorem keeps_evalVirtual (hI : Keeps [.recent, .log, .pod, .gyl, .safe, .hw, .chan, .regs] I) (s :
    State) (n : Nat) (h_s : I s) : I (State.evalVirtual s n) := by
  unfold State.evalVirtual
  with_reducible repeat' first
    | assumption
    | refine iteI (fun _ => ?_) (fun _ => ?_)
    | apply keeps_evalBurl hI

theorem keeps_gylFail (hI : Keeps [.recent, .log, .pod, .gyl, .safe, .hw, .chan, .arm, .ride, .capt,
    .regs] I) (s : State) (n : Nat) (expired : Bool) (h_s : I s) : I (State.gylFail s n expired) := by
  unfold State.gylFail
  with_reducible repeat' first
    | assumption
    | (extract_lets -underBinder +onlyGivenNames x; have hx : I x := ?_; clear_value x; on_goal 2 => subst x)
    | (extract_lets -underBinder +onlyGivenNames x; clear_value x)
    | refine iteI (fun _ => ?_) (fun _ => ?_)
    | apply keeps_ttLost (hI.mono (by decide))
    | apply keeps_setConn (hI.mono (by decide))
    | apply keeps_evalVirtual (hI.mono (by decide))
    | apply keeps_setConnState (hI.mono (by decide))
    | apply keeps_irqLog (hI.mono (by decide))
    | (refine partMk hI ?_; first | assumption | refine sndEq ?_ (by assumption))
    | (intro t ht; beta_reduce)
    | (intro m; first | rfl | simp)

theorem keeps_gylErrs (hI : Keeps [.gyl, .regs] I) (s : State) (n : Nat) (h_s : I s) : I (State.gylErrs
    s n) := by
  unfold State.gylErrs
  with_reducible repeat' first
    | assumption
    | (extract_lets -underBinder +onlyGivenNames x; have hx : I x := ?_; clear_value x; on_goal 2 => subst x)
    | (extract_lets -underBinder +onlyGivenNames x; clear_value x)
    | apply keeps_setConn (hI.mono (by decide))
    | apply keeps_setSat (hI.mono (by decide))
    | (refine partMk hI ?_; first | assumption | refine sndEq ?_ (by assumption))
    | (intro t ht; beta_reduce)
    | (intro m; first | rfl | simp)

theorem keeps_gylError (hI : Keeps [.recent, .log, .pod, .gyl, .safe, .hw, .chan, .arm, .ride, .capt,
    .regs] I) (s : State) (n : Nat) (crc : Bool) (h_s : I s) : I (State.gylError s n crc) := by
  unfold State.gylError
  with_reducible repeat' first
    | assumption
    | (extract_lets -underBinder +onlyGivenNames x; have hx : I x := ?_; clear_value x; on_goal 2 => subst x)
    | (extract_lets -underBinder +onlyGivenNames x; clear_value x)
    | refine iteI (fun _ => ?_) (fun _ => ?_)
    | apply keeps_inc (hI.mono (by decide))
    | apply keeps_gylErrs (hI.mono (by decide))
    | apply keeps_setConn (hI.mono (by decide))
    | apply keeps_irq (hI.mono (by decide))
    | apply keeps_gylFail hI
    | (refine partMk hI ?_; first | assumption | refine sndEq ?_ (by assumption))
    | (intro t ht; beta_reduce)
    | (intro m; first | rfl | simp)

theorem keeps_gylAccept (hI : Keeps [.recent, .log, .pod, .gyl, .safe, .hw, .chan, .isl, .regs] I) (s :
    State) (n : Nat) (l : List Nat) (h_s : I s) : I (State.gylAccept s n l) := by
  unfold State.gylAccept
  with_reducible repeat' first
    | assumption
    | (extract_lets -underBinder +onlyGivenNames x; have hx : I x := ?_; clear_value x; on_goal 2 => subst x)
    | (extract_lets -underBinder +onlyGivenNames x; clear_value x)
    | refine iteI (fun _ => ?_) (fun _ => ?_)
    | split
    | refine foldlI ?_ (fun _ _ _ => ?_)
    | apply keeps_setConn (hI.mono (by decide))
    | apply keeps_set (hI.mono (by decide))
    | apply keeps_evalVirtual (hI.mono (by decide))
    | apply keeps_setIsl (hI.mono (by decide))
    | apply keeps_irq (hI.mono (by decide))
    | apply keeps_setConnState (hI.mono (by decide))
    | apply keeps_dlMeet (hI.mono (by decide))
    | refine sndEq ?_ (by assumption)
    | refine fstEq ?_ (by assumption)
    | refine snd2Eq ?_ (by assumption)
    | refine snd3Eq ?_ (by assumption)
    | refine optEq ?_ (by assumption)
    | (refine partMk hI ?_; first | assumption | refine sndEq ?_ (by assumption))
    | (intro t ht; beta_reduce)
    | (intro m; first | rfl | simp)

theorem keeps_gylWatchdog (hI : Keeps [.recent, .log, .pod, .gyl, .safe, .hw, .chan, .arm, .ride,
    .capt, .regs] I) (s : State) (n : Nat) (h_s : I s) : I (State.gylWatchdog s n) := by
  unfold State.gylWatchdog
  with_reducible repeat' first
    | assumption
    | split
    | apply keeps_dlMiss (hI.mono (by decide))
    | apply keeps_gylFail hI
    | refine sndEq ?_ (by assumption)
    | refine fstEq ?_ (by assumption)
    | refine snd2Eq ?_ (by assumption)
    | refine snd3Eq ?_ (by assumption)
    | refine optEq ?_ (by assumption)
    | (refine partMk hI ?_; first | assumption | refine sndEq ?_ (by assumption))

theorem keeps_gylReceive (hI : Keeps [.recent, .log, .pod, .gyl, .safe, .hw, .chan, .arm, .ride, .isl,
    .capt, .regs] I) (s : State) (src : Nat) (l : List Nat) (h_s : I s) : I (State.gylReceive s src l) := by
  unfold State.gylReceive
  with_reducible repeat' first
    | assumption
    | (extract_lets -underBinder +onlyGivenNames x; have hx : I x := ?_; clear_value x; on_goal 2 => subst x)
    | (extract_lets -underBinder +onlyGivenNames x; clear_value x)
    | refine iteI (fun _ => ?_) (fun _ => ?_)
    | split
    | apply keeps_gylWatchdog (hI.mono (by decide))
    | apply keeps_gylError (hI.mono (by decide))
    | apply keeps_setConn (hI.mono (by decide))
    | apply keeps_err (hI.mono (by decide))
    | apply keeps_gylAccept (hI.mono (by decide))
    | refine sndEq ?_ (by assumption)
    | refine fstEq ?_ (by assumption)
    | refine snd2Eq ?_ (by assumption)
    | refine snd3Eq ?_ (by assumption)
    | refine optEq ?_ (by assumption)
    | (refine partMk hI ?_; first | assumption | refine sndEq ?_ (by assumption))
    | (intro t ht; beta_reduce)
    | (intro m; first | rfl | simp)

theorem keeps_execGylenFrameReceived (hI : Keeps [.now, .recent, .log, .ring, .pod, .gyl, .safe, .hw,
    .chan, .arm, .ride, .isl, .capt, .regs] I) (dt : Nat) (s : State) (h_s : I s) : OutI I
    (execGylenFrameReceived dt s) := by
  unfold execGylenFrameReceived
  with_reducible repeat' first
    | assumption
    | (extract_lets -underBinder +onlyGivenNames x; have hx : I x := ?_; clear_value x; on_goal 2 => subst x)
    | (extract_lets -underBinder +onlyGivenNames x; clear_value x)
    | refine outNext ?_
    | refine iteI (fun _ => ?_) (fun _ => ?_)
    | refine iteOutI (fun _ => ?_) (fun _ => ?_)
    | split
    | apply keeps_gylReceive (hI.mono (by decide))
    | apply keeps_elapse (hI.mono (by decide))
    | apply keeps_takeInbox (hI.mono (by decide))
    | refine sndEq ?_ (by assumption)
    | refine fstEq ?_ (by assumption)
    | refine snd2Eq ?_ (by assumption)
    | refine snd3Eq ?_ (by assumption)
    | refine optEq ?_ (by assumption)
    | (refine partMk hI ?_; first | assumption | refine sndEq ?_ (by assumption))
    | (intro t ht; beta_reduce)
    | (intro m; first | rfl | simp)

theorem keeps_execGylenWatchdogExpiry (hI : Keeps [.now, .recent, .log, .pod, .gyl, .safe, .hw, .chan,
    .arm, .ride, .capt, .regs] I) (dt : Nat) (n : Fin 16) (s : State) (h_s : I s) : OutI I
    (execGylenWatchdogExpiry dt n s) := by
  unfold execGylenWatchdogExpiry
  with_reducible repeat' first
    | assumption
    | (extract_lets -underBinder +onlyGivenNames x; have hx : I x := ?_; clear_value x; on_goal 2 => subst x)
    | (extract_lets -underBinder +onlyGivenNames x; clear_value x)
    | refine outNext ?_
    | refine iteI (fun _ => ?_) (fun _ => ?_)
    | refine iteOutI (fun _ => ?_) (fun _ => ?_)
    | apply keeps_gylWatchdog (hI.mono (by decide))
    | apply keeps_elapse (hI.mono (by decide))

theorem keeps_producerMiss (hI : Keeps [.recent, .log, .pod, .gyl, .regs] I) (s : State) (n : Nat) (h_s
    : I s) : I (State.producerMiss s n) := by
  unfold State.producerMiss
  with_reducible repeat' first
    | assumption
    | (extract_lets -underBinder +onlyGivenNames x; have hx : I x := ?_; clear_value x; on_goal 2 => subst x)
    | (extract_lets -underBinder +onlyGivenNames x; clear_value x)
    | refine iteI (fun _ => ?_) (fun _ => ?_)
    | split
    | apply keeps_dlMiss (hI.mono (by decide))
    | apply keeps_setConn (hI.mono (by decide))
    | apply keeps_irq (hI.mono (by decide))
    | apply keeps_setConnState (hI.mono (by decide))
    | refine sndEq ?_ (by assumption)
    | refine fstEq ?_ (by assumption)
    | refine snd2Eq ?_ (by assumption)
    | refine snd3Eq ?_ (by assumption)
    | refine optEq ?_ (by assumption)
    | (refine partMk hI ?_; first | assumption | refine sndEq ?_ (by assumption))
    | (intro t ht; beta_reduce)
    | (intro m; first | rfl | simp)

theorem keeps_gylSend (hI : Keeps [.recent, .ring, .eth, .regs] I) (s : State) (n : Nat) (l : List Nat)
    (h_s : I s) : I (State.gylSend s n l) := by
  unfold State.gylSend
  with_reducible repeat' first
    | assumption
    | (extract_lets -underBinder +onlyGivenNames x; have hx : I x := ?_; clear_value x; on_goal 2 => subst x)
    | (extract_lets -underBinder +onlyGivenNames x; clear_value x)
    | refine iteI (fun _ => ?_) (fun _ => ?_)
    | split
    | apply keeps_sendOwn hI
    | apply keeps_takeSeq (hI.mono (by decide))
    | apply keeps_sendTunnel (hI.mono (by decide))
    | refine sndEq ?_ (by assumption)
    | refine fstEq ?_ (by assumption)
    | refine snd2Eq ?_ (by assumption)
    | refine snd3Eq ?_ (by assumption)
    | refine optEq ?_ (by assumption)

theorem keeps_execGylenProduce (hI : Keeps [.now, .recent, .log, .ring, .pod, .gyl, .eth, .regs] I) (dt
    : Nat) (n : Fin 16) (s : State) (h_s : I s) : OutI I (execGylenProduce dt n s) := by
  unfold execGylenProduce
  with_reducible repeat' first
    | assumption
    | (extract_lets -underBinder +onlyGivenNames x; have hx : I x := ?_; clear_value x; on_goal 2 => subst x)
    | (extract_lets -underBinder +onlyGivenNames x; clear_value x)
    | refine outNext ?_
    | refine iteI (fun _ => ?_) (fun _ => ?_)
    | refine iteOutI (fun _ => ?_) (fun _ => ?_)
    | split
    | apply keeps_gylSend (hI.mono (by decide))
    | apply keeps_setConn (hI.mono (by decide))
    | apply keeps_set (hI.mono (by decide))
    | apply keeps_producerMiss (hI.mono (by decide))
    | apply keeps_elapse (hI.mono (by decide))
    | apply keeps_setB (hI.mono (by decide))
    | apply keeps_setConnState (hI.mono (by decide))
    | apply keeps_dlMeet (hI.mono (by decide))
    | refine sndEq ?_ (by assumption)
    | refine fstEq ?_ (by assumption)
    | refine snd2Eq ?_ (by assumption)
    | refine snd3Eq ?_ (by assumption)
    | refine optEq ?_ (by assumption)
    | (refine partMk hI ?_; first | assumption | refine sndEq ?_ (by assumption))
    | (intro t ht; beta_reduce)
    | (intro m; first | rfl | simp)

theorem keeps_gylHostLoad (hI : Keeps [.recent, .pod, .gyl, .regs] I) (s : State) (h_s : I s) : I
    (State.gylHostLoad s) := by
  unfold State.gylHostLoad
  with_reducible repeat' first
    | assumption
    | (extract_lets -underBinder +onlyGivenNames x; have hx : I x := ?_; clear_value x; on_goal 2 => subst x)
    | (extract_lets -underBinder +onlyGivenNames x; clear_value x)
    | refine iteI (fun _ => ?_) (fun _ => ?_)
    | apply keeps_setConn (hI.mono (by decide))
    | apply keeps_err (hI.mono (by decide))
    | apply keeps_setB (hI.mono (by decide))
    | (refine partMk hI ?_; first | assumption | refine sndEq ?_ (by assumption))
    | (intro t ht; beta_reduce)
    | (intro m; first | rfl | simp)

theorem keeps_gylAtLock (hI : Keeps [.recent, .gyl, .regs] I) (s : State) (h_s : I s) : I
    (State.gylAtLock s) := by
  unfold State.gylAtLock
  with_reducible repeat' first
    | assumption
    | (extract_lets -underBinder +onlyGivenNames x; have hx : I x := ?_; clear_value x; on_goal 2 => subst x)
    | (extract_lets -underBinder +onlyGivenNames x; clear_value x)
    | refine iteI (fun _ => ?_) (fun _ => ?_)
    | refine foldlI ?_ (fun _ _ _ => ?_)
    | apply keeps_setConn (hI.mono (by decide))
    | apply keeps_setConnState (hI.mono (by decide))
    | (refine partMk hI ?_; first | assumption | refine sndEq ?_ (by assumption))
    | (intro t ht; beta_reduce)
    | (intro m; first | rfl | simp)

theorem keeps_gylSecond (hI : Keeps [.recent, .log, .pod, .gyl, .safe, .hw, .chan, .arm, .ride, .capt,
    .regs] I) (s : State) (n : Nat) (l : List Nat) (hw : Bool) (h_s : I s) : I (State.gylSecond s n l
    hw) := by
  unfold State.gylSecond
  with_reducible repeat' first
    | assumption
    | (extract_lets -underBinder +onlyGivenNames x; have hx : I x := ?_; clear_value x; on_goal 2 => subst x)
    | (extract_lets -underBinder +onlyGivenNames x; clear_value x)
    | refine iteI (fun _ => ?_) (fun _ => ?_)
    | apply keeps_inc (hI.mono (by decide))
    | apply keeps_setConn (hI.mono (by decide))
    | apply keeps_irq (hI.mono (by decide))
    | apply keeps_gylFail hI
    | (refine partMk hI ?_; first | assumption | refine sndEq ?_ (by assumption))
    | (intro t ht; beta_reduce)
    | (intro m; first | rfl | simp)

theorem keeps_gylSliceWork (hI : Keeps [.recent, .log, .pod, .gyl, .safe, .hw, .chan, .arm, .ride,
    .capt, .regs] I) (s : State) (h_s : I s) : I (State.gylSliceWork s) := by
  unfold State.gylSliceWork
  with_reducible repeat' first
    | assumption
    | (extract_lets -underBinder +onlyGivenNames x; have hx : I x := ?_; clear_value x; on_goal 2 => subst x)
    | (extract_lets -underBinder +onlyGivenNames x; clear_value x)
    | refine foldlI ?_ (fun _ _ _ => ?_)
    | apply keeps_gylSecond hI
    | apply keeps_modSafe (hI.mono (by decide))
    | apply keeps_setConn (hI.mono (by decide))
    | (refine partMk hI ?_; first | assumption | refine sndEq ?_ (by assumption))
    | (intro t ht; beta_reduce)
    | (intro m; first | rfl | simp)

theorem keeps_logFreeze (hI : Keeps [.recent, .log, .pod, .regs] I) (s : State) (slot seq : Nat) (h_s :
    I s) : I (State.logFreeze s slot seq) := by
  unfold State.logFreeze
  with_reducible repeat' first
    | assumption
    | (extract_lets -underBinder +onlyGivenNames x; have hx : I x := ?_; clear_value x; on_goal 2 => subst x)
    | (extract_lets -underBinder +onlyGivenNames x; clear_value x)
    | apply keeps_set (hI.mono (by decide))
    | apply keeps_logIt (hI.mono (by decide))
    | apply keeps_irq (hI.mono (by decide))
    | apply keeps_setB (hI.mono (by decide))
    | apply keeps_modLog (hI.mono (by decide))
    | (refine partMk hI ?_; first | assumption | refine sndEq ?_ (by assumption))
    | (intro t ht; beta_reduce)
    | (intro m; first | rfl | simp)

theorem keeps_logCritical (hI : Keeps [.recent, .log, .pod, .regs] I) (s : State) (sev slot seq : Nat)
    (h_s : I s) : I (State.logCritical s sev slot seq) := by
  unfold State.logCritical
  with_reducible repeat' first
    | assumption
    | (extract_lets -underBinder +onlyGivenNames x; have hx : I x := ?_; clear_value x; on_goal 2 => subst x)
    | (extract_lets -underBinder +onlyGivenNames x; clear_value x)
    | refine iteI (fun _ => ?_) (fun _ => ?_)
    | apply keeps_inc (hI.mono (by decide))
    | apply keeps_logFreeze hI
    | apply keeps_modLog (hI.mono (by decide))
    | (refine partMk hI ?_; first | assumption | refine sndEq ?_ (by assumption))
    | (intro t ht; beta_reduce)
    | (intro m; first | rfl | simp)

theorem keeps_logWrite (hI : Keeps [.dblTable, .dblCapt, .recent, .freeCtr, .log, .pod, .capt, .regs,
    .ecc, .mem] I) (s : State) (r : LogRec) (h_s : I s) : I (State.logWrite s r) := by
  unfold State.logWrite
  with_reducible repeat' first
    | assumption
    | (extract_lets -underBinder +onlyGivenNames x; have hx : I x := ?_; clear_value x; on_goal 2 => subst x)
    | (extract_lets -underBinder +onlyGivenNames x; clear_value x)
    | apply keeps_logCritical (hI.mono (by decide))
    | apply keeps_offerTrigger (hI.mono (by decide))
    | apply keeps_set (hI.mono (by decide))
    | apply keeps_irq (hI.mono (by decide))
    | apply keeps_setB (hI.mono (by decide))
    | apply keeps_clearBad (hI.mono (by decide))
    | apply keeps_nextSlot (hI.mono (by decide))
    | apply keeps_modLog (hI.mono (by decide))
    | (refine partMk hI ?_; first | assumption | refine sndEq ?_ (by assumption))
    | with_unfolding_all exact hI.memPut (by decide) (by assumption) _ _
    | exact hI.eccInsert (by decide) (by assumption) _ _
    | exact hI.eccErase (by decide) (by assumption) _
    | exact hI.memKeep (by decide) (by assumption) _
    | exact hI.eccNone (by decide) (by assumption)
    | exact hI.regNone (by decide) (by assumption)
    | exact hI.memNone (by decide) (by assumption)
    | (intro t ht; beta_reduce)
    | (intro m; first | rfl | simp)

theorem keeps_logStep (hI : Keeps [.dblTable, .dblCapt, .recent, .freeCtr, .log, .pod, .capt, .regs,
    .ecc, .mem] I) (s : State) (h_s : I s) : I (State.logStep s) := by
  unfold State.logStep
  with_reducible repeat' first
    | assumption
    | (extract_lets -underBinder +onlyGivenNames x; have hx : I x := ?_; clear_value x; on_goal 2 => subst x)
    | (extract_lets -underBinder +onlyGivenNames x; clear_value x)
    | refine iteI (fun _ => ?_) (fun _ => ?_)
    | split
    | apply keeps_logWrite hI
    | apply keeps_irq (hI.mono (by decide))
    | apply keeps_modLog (hI.mono (by decide))
    | refine sndEq ?_ (by assumption)
    | refine fstEq ?_ (by assumption)
    | refine snd2Eq ?_ (by assumption)
    | refine snd3Eq ?_ (by assumption)
    | refine optEq ?_ (by assumption)
    | (refine partMk hI ?_; first | assumption | refine sndEq ?_ (by assumption))
    | (intro t ht; beta_reduce)
    | (intro m; first | rfl | simp)

theorem keeps_logReads (hI : Keeps [.recent, .pod, .regs] I) (s : State) (a n : Nat) (h_s : I s) : I
    (State.logReads s a n) := by
  unfold State.logReads
  with_reducible repeat' first
    | assumption
    | refine iteI (fun _ => ?_) (fun _ => ?_)
    | refine foldlI ?_ (fun _ _ _ => ?_)
    | apply keeps_err hI
    | (intro t ht; beta_reduce)
    | (intro m; first | rfl | simp)

theorem keeps_logResume (hI : Keeps [.recent, .log, .pod, .regs] I) (s : State) (h_s : I s) : I
    (State.logResume s) := by
  unfold State.logResume
  with_reducible repeat' first
    | assumption
    | (extract_lets -underBinder +onlyGivenNames x; have hx : I x := ?_; clear_value x; on_goal 2 => subst x)
    | (extract_lets -underBinder +onlyGivenNames x; have hfn : ∀ (t : State) (a b : Nat), I t → I (x t a b).1 := ?_; clear_value x; on_goal 2 => subst x)
    | (extract_lets -underBinder +onlyGivenNames x; have hfn : ∀ (t : State) (a : Nat), I t → I (x t a) := ?_; clear_value x; on_goal 2 => subst x)
    | (extract_lets -underBinder +onlyGivenNames x; have hfn : ∀ (t : State), I t → I (x t) := ?_; clear_value x; on_goal 2 => subst x)
    | (extract_lets -underBinder +onlyGivenNames x; have hfn : ∀ (t : State) (a b : Bool), I t → I (x t a b) := ?_; clear_value x; on_goal 2 => subst x)
    | apply hfn
    | (intro t a b ht; beta_reduce)
    | (intro t a ht; beta_reduce)
    | (extract_lets -underBinder +onlyGivenNames x; clear_value x)
    | refine iteI (fun _ => ?_) (fun _ => ?_)
    | split
    | refine foldlI ?_ (fun _ _ _ => ?_)
    | apply keeps_set (hI.mono (by decide))
    | apply keeps_setB (hI.mono (by decide))
    | apply keeps_modLog (hI.mono (by decide))
    | apply keeps_logReads (hI.mono (by decide))
    | refine sndEq ?_ (by assumption)
    | refine fstEq ?_ (by assumption)
    | refine snd2Eq ?_ (by assumption)
    | refine snd3Eq ?_ (by assumption)
    | refine optEq ?_ (by assumption)
    | (refine partMk hI ?_; first | assumption | refine sndEq ?_ (by assumption))
    | (intro t ht; beta_reduce)
    | (intro m; first | rfl | simp)

theorem keeps_startPlls (hI : Keeps [.sys] I) (s : State) (h_s : I s) : I (State.startPlls s) := by
  unfold State.startPlls
  with_reducible repeat' first
    | assumption
    | refine iteI (fun _ => ?_) (fun _ => ?_)
    | apply keeps_modSys hI
    | (refine partMk hI ?_; first | assumption | refine sndEq ?_ (by assumption))
    | (intro t ht; beta_reduce)
    | (intro m; first | rfl | simp)

theorem keeps_lateRecord (hI : Keeps [.recent, .sys, .log, .regs] I) (s : State) (h_s : I s) : I
    (State.lateRecord s) := by
  unfold State.lateRecord
  with_reducible repeat' first
    | assumption
    | (extract_lets -underBinder +onlyGivenNames x; have hx : I x := ?_; clear_value x; on_goal 2 => subst x)
    | (extract_lets -underBinder +onlyGivenNames x; clear_value x)
    | refine iteI (fun _ => ?_) (fun _ => ?_)
    | apply keeps_modSys (hI.mono (by decide))
    | apply keeps_logIt (hI.mono (by decide))
    | (refine partMk hI ?_; first | assumption | refine sndEq ?_ (by assumption))
    | (intro t ht; beta_reduce)
    | (intro m; first | rfl | simp)

theorem keeps_showDigest (hI : Keeps [.regs] I) (s : State) (d : List Nat) (h_s : I s) : I
    (State.showDigest s d) := by
  unfold State.showDigest
  with_reducible repeat' first
    | assumption
    | refine foldlI ?_ (fun _ _ _ => ?_)
    | apply keeps_set hI
    | (intro t ht; beta_reduce)
    | (intro m; first | rfl | simp)

theorem keeps_boReset (hI : Keeps [.regs] I) (s : State) (h_s : I s) : I (State.boReset s) := by
  unfold State.boReset
  with_reducible repeat' first
    | assumption
    | apply keeps_setBoot hI

theorem keeps_bootReady (hI : Keeps [.sys, .boot] I) (s : State) (h_s : I s) : I (State.bootReady s) := by
  unfold State.bootReady
  with_reducible repeat' first
    | assumption
    | (extract_lets -underBinder +onlyGivenNames x; have hx : I x := ?_; clear_value x; on_goal 2 => subst x)
    | (extract_lets -underBinder +onlyGivenNames x; clear_value x)
    | (refine partMk hI ?_; first | assumption | refine sndEq ?_ (by assumption))

theorem keeps_enterQuarantine (hI : Keeps [.recent, .sys, .boot, .log, .pod, .regs] I) (s : State)
    (reason : Nat) (digest : Option (List Nat)) (h_s : I s) : I (State.enterQuarantine s reason digest) := by
  unfold State.enterQuarantine
  with_reducible repeat' first
    | assumption
    | (extract_lets -underBinder +onlyGivenNames x; have hx : I x := ?_; clear_value x; on_goal 2 => subst x)
    | (extract_lets -underBinder +onlyGivenNames x; clear_value x)
    | split
    | apply keeps_lateRecord (hI.mono (by decide))
    | apply keeps_showDigest (hI.mono (by decide))
    | apply keeps_set (hI.mono (by decide))
    | apply keeps_bootReady (hI.mono (by decide))
    | apply keeps_logIt (hI.mono (by decide))
    | apply keeps_startPlls (hI.mono (by decide))
    | apply keeps_logResume (hI.mono (by decide))
    | apply keeps_setB (hI.mono (by decide))
    | apply keeps_boReset (hI.mono (by decide))
    | refine sndEq ?_ (by assumption)
    | refine fstEq ?_ (by assumption)
    | refine snd2Eq ?_ (by assumption)
    | refine snd3Eq ?_ (by assumption)
    | refine optEq ?_ (by assumption)
    | (refine partMk hI ?_; first | assumption | refine sndEq ?_ (by assumption))

theorem keeps_zeroFill (hI : Keeps [.dblTable, .ecc, .mem] I) (s : State) (a b : Nat) (h_s : I s) : I
    (State.zeroFill s a b) := by
  have h1 := hI.memTrim (by decide) h_s (fun c => !(decide (a ≤ c.1) && decide (c.1 < a + (b - a))))
  have h2 := hI.eccTrim (by decide) h1 (fun e => !(decide (a ≤ e.1) && decide (e.1 < b)))
  exact hI.dblTable (by decide) h2 (s.dblTable.filter (fun w => !(decide (a ≤ w) && decide (w < b))))

theorem keeps_loadAll (hI : Keeps [.mem] I) (s : State) (l : List (Nat × List Nat)) (h_s : I s) : I
    (State.loadAll s l) := by
  unfold State.loadAll
  with_reducible repeat' first
    | assumption
    | (extract_lets -underBinder +onlyGivenNames x; have hx : I x := ?_; clear_value x; on_goal 2 => subst x)
    | (extract_lets -underBinder +onlyGivenNames x; clear_value x)
    | refine foldlI ?_ (fun _ _ _ => ?_)
    | (refine partMk hI ?_; first | assumption | refine sndEq ?_ (by assumption))
    | with_unfolding_all exact hI.memPut (by decide) (by assumption) _ _
    | exact hI.eccInsert (by decide) (by assumption) _ _
    | exact hI.eccErase (by decide) (by assumption) _
    | exact hI.memKeep (by decide) (by assumption) _
    | exact hI.eccNone (by decide) (by assumption)
    | exact hI.regNone (by decide) (by assumption)
    | exact hI.memNone (by decide) (by assumption)
    | (intro t ht; beta_reduce)
    | (intro m; first | rfl | simp)

theorem keeps_takeImage (hI : Keeps [.dblTable, .recent, .sys, .boot, .log, .pod, .regs, .ecc, .mem] I)
    (s : State) (b : List Nat) (v : ImgVerdict) (h_s : I s) : I (State.takeImage s b v) := by
  unfold State.takeImage
  with_reducible repeat' first
    | assumption
    | (extract_lets -underBinder +onlyGivenNames x; have hx : I x := ?_; clear_value x; on_goal 2 => subst x)
    | (extract_lets -underBinder +onlyGivenNames x; clear_value x)
    | refine iteI (fun _ => ?_) (fun _ => ?_)
    | refine foldlI ?_ (fun _ _ _ => ?_)
    | apply keeps_showDigest (hI.mono (by decide))
    | apply keeps_guardSync (hI.mono (by decide))
    | apply keeps_set (hI.mono (by decide))
    | apply keeps_writeBo (hI.mono (by decide))
    | apply keeps_loadAll (hI.mono (by decide))
    | apply keeps_logIt (hI.mono (by decide))
    | apply keeps_startPlls (hI.mono (by decide))
    | apply keeps_zeroFill (hI.mono (by decide))
    | apply keeps_setB (hI.mono (by decide))
    | apply keeps_roleInit (hI.mono (by decide))
    | apply keeps_boReset (hI.mono (by decide))
    | (refine partMk hI ?_; first | assumption | refine sndEq ?_ (by assumption))
    | (intro t ht; beta_reduce)
    | (intro m; first | rfl | simp)

theorem keeps_execBootProtectionImage (hI : Keeps [.now, .dblTable, .recent, .sys, .fuse, .boot, .log,
    .pod, .regs, .ecc, .mem] I) (dt : Nat) (bytes : List Nat) (back : Fin 16) (s : State) (h_s : I s) :
    OutI I (execBootProtectionImage dt bytes back s) := by
  unfold execBootProtectionImage
  with_reducible repeat' first
    | assumption
    | (extract_lets -underBinder +onlyGivenNames x; have hx : I x := ?_; clear_value x; on_goal 2 => subst x)
    | (extract_lets -underBinder +onlyGivenNames x; clear_value x)
    | refine outNext ?_
    | refine iteI (fun _ => ?_) (fun _ => ?_)
    | refine iteOutI (fun _ => ?_) (fun _ => ?_)
    | apply keeps_set (hI.mono (by decide))
    | apply keeps_elapse (hI.mono (by decide))
    | apply keeps_takeImage (hI.mono (by decide))
    | apply keeps_enterQuarantine (hI.mono (by decide))
    | (refine partMk hI ?_; first | assumption | refine sndEq ?_ (by assumption))

theorem keeps_bootTamper (hI : Keeps [.recent, .log, .regs] I) (s : State) (h_s : I s) : I
    (State.bootTamper s) := by
  unfold State.bootTamper
  with_reducible repeat' first
    | assumption
    | refine iteI (fun _ => ?_) (fun _ => ?_)
    | refine foldlI ?_ (fun _ _ _ => ?_)
    | apply keeps_submit hI
    | (intro t ht; beta_reduce)
    | (intro m; first | rfl | simp)

theorem keeps_bootRecord (hI : Keeps [.recent, .sys, .log, .regs] I) (s : State) (h_s : I s) : I
    (State.bootRecord s) := by
  unfold State.bootRecord
  with_reducible repeat' first
    | assumption
    | (extract_lets -underBinder +onlyGivenNames x; have hx : I x := ?_; clear_value x; on_goal 2 => subst x)
    | (extract_lets -underBinder +onlyGivenNames x; clear_value x)
    | apply keeps_modSys (hI.mono (by decide))
    | apply keeps_logIt (hI.mono (by decide))
    | (refine partMk hI ?_; first | assumption | refine sndEq ?_ (by assumption))
    | (intro t ht; beta_reduce)
    | (intro m; first | rfl | simp)

theorem keeps_execBootTableImage (hI : Keeps [.now, .dblTable, .recent, .sys, .boot, .log, .pod, .regs,
    .ecc, .mem] I) (dt : Nat) (bytes : List Nat) (s : State) (h_s : I s) : OutI I (execBootTableImage dt
    bytes s) := by
  unfold execBootTableImage
  with_reducible repeat' first
    | assumption
    | (extract_lets -underBinder +onlyGivenNames x; have hx : I x := ?_; clear_value x; on_goal 2 => subst x)
    | (extract_lets -underBinder +onlyGivenNames x; have hfn : ∀ (t : State) (a b : Nat), I t → I (x t a b).1 := ?_; clear_value x; on_goal 2 => subst x)
    | (extract_lets -underBinder +onlyGivenNames x; have hfn : ∀ (t : State) (a : Nat), I t → I (x t a) := ?_; clear_value x; on_goal 2 => subst x)
    | (extract_lets -underBinder +onlyGivenNames x; have hfn : ∀ (t : State), I t → I (x t) := ?_; clear_value x; on_goal 2 => subst x)
    | (extract_lets -underBinder +onlyGivenNames x; have hfn : ∀ (t : State) (a b : Bool), I t → I (x t a b) := ?_; clear_value x; on_goal 2 => subst x)
    | apply hfn
    | (intro t a b ht; beta_reduce)
    | (intro t a ht; beta_reduce)
    | (extract_lets -underBinder +onlyGivenNames x; have _p : PodSt := x; clear _p; subst x)
    | (extract_lets -underBinder +onlyGivenNames x; have _p : RingSt := x; clear _p; subst x)
    | (extract_lets -underBinder +onlyGivenNames x; clear_value x)
    | refine outNext ?_
    | exact optNone
    | refine optSome ?_
    | refine iteI (fun _ => ?_) (fun _ => ?_)
    | refine iteOutI (fun _ => ?_) (fun _ => ?_)
    | split
    | refine foldlI ?_ (fun _ _ _ => ?_)
    | refine foldlI2 ?_ (fun _ _ _ => ?_)
    | refine foldlI3 ?_ (fun _ _ _ => ?_)
    | refine foldlI1 ?_ (fun _ _ _ => ?_)
    | apply keeps_lateRecord (hI.mono (by decide))
    | apply keeps_bootTamper (hI.mono (by decide))
    | apply keeps_bootRecord (hI.mono (by decide))
    | apply keeps_set (hI.mono (by decide))
    | apply keeps_bootReady (hI.mono (by decide))
    | apply keeps_elapse (hI.mono (by decide))
    | apply keeps_zeroFill (hI.mono (by decide))
    | apply keeps_logResume (hI.mono (by decide))
    | apply keeps_setB (hI.mono (by decide))
    | apply keeps_loadSections (hI.mono (by decide))
    | refine sndEq ?_ (by assumption)
    | refine fstEq ?_ (by assumption)
    | refine snd2Eq ?_ (by assumption)
    | refine snd3Eq ?_ (by assumption)
    | refine optEq ?_ (by assumption)
    | (refine partMk hI ?_; first | assumption | refine sndEq ?_ (by assumption) | apply keeps_lateRecord (hI.mono (by decide)) | apply keeps_bootTamper (hI.mono (by decide)) | apply keeps_bootRecord (hI.mono (by decide)) | apply keeps_set (hI.mono (by decide)) | apply keeps_bootReady (hI.mono (by decide)) | apply keeps_elapse (hI.mono (by decide)) | apply keeps_zeroFill (hI.mono (by decide)) | apply keeps_logResume (hI.mono (by decide)) | apply keeps_setB (hI.mono (by decide)) | apply keeps_loadSections (hI.mono (by decide)))
    | with_unfolding_all exact hI.memPut (by decide) (by assumption) _ _
    | exact hI.eccInsert (by decide) (by assumption) _ _
    | exact hI.eccErase (by decide) (by assumption) _
    | exact hI.memKeep (by decide) (by assumption) _
    | exact hI.eccNone (by decide) (by assumption)
    | exact hI.regNone (by decide) (by assumption)
    | exact hI.memNone (by decide) (by assumption)
    | (intro t ht; beta_reduce)
    | (intro m; first | rfl | simp)
    | dsimp only

theorem keeps_execBootLock (hI : Keeps [.now, .dblTable, .dblCapt, .recent, .sys, .boot, .log, .pod,
    .gyl, .safe, .hw, .chan, .meter, .regs] I) (dt : Nat) (s : State) (h_s : I s) : OutI I (execBootLock
    dt s) := by
  unfold execBootLock
  with_reducible repeat' first
    | assumption
    | (extract_lets -underBinder +onlyGivenNames x; have hx : I x := ?_; clear_value x; on_goal 2 => subst x)
    | (extract_lets -underBinder +onlyGivenNames x; clear_value x)
    | refine outNext ?_
    | refine iteI (fun _ => ?_) (fun _ => ?_)
    | refine iteOutI (fun _ => ?_) (fun _ => ?_)
    | apply keeps_modSys (hI.mono (by decide))
    | apply keeps_fnsAtLock (hI.mono (by decide))
    | apply keeps_checkCurves (hI.mono (by decide))
    | apply keeps_gylAtLock (hI.mono (by decide))
    | apply keeps_elapse (hI.mono (by decide))
    | apply keeps_setB (hI.mono (by decide))
    | apply keeps_setSat (hI.mono (by decide))
    | apply keeps_meterAtLock (hI.mono (by decide))
    | (refine partMk hI ?_; first | assumption | refine sndEq ?_ (by assumption))
    | (intro t ht; beta_reduce)
    | (intro m; first | rfl | simp)

theorem keeps_execTamperEvent (hI : Keeps [.now, .recent, .sys, .regs] I) (dt : Nat) (n : Fin 2) (level
    : Bool) (s : State) (h_s : I s) : OutI I (execTamperEvent dt n level s) := by
  unfold execTamperEvent
  with_reducible repeat' first
    | assumption
    | (extract_lets -underBinder +onlyGivenNames x; have hx : I x := ?_; clear_value x; on_goal 2 => subst x)
    | (extract_lets -underBinder +onlyGivenNames x; clear_value x)
    | refine outNext ?_
    | refine iteI (fun _ => ?_) (fun _ => ?_)
    | refine iteOutI (fun _ => ?_) (fun _ => ?_)
    | apply keeps_modSys (hI.mono (by decide))
    | apply keeps_inc (hI.mono (by decide))
    | apply keeps_set (hI.mono (by decide))
    | apply keeps_elapse (hI.mono (by decide))
    | apply keeps_setB (hI.mono (by decide))
    | (refine partMk hI ?_; first | assumption | refine sndEq ?_ (by assumption))
    | (intro t ht; beta_reduce)
    | (intro m; first | rfl | simp)

theorem keeps_captPut (hI : Keeps [.dblTable, .dblCapt, .ecc, .mem] I) (s : State) (a : Nat) (l : List
    Nat) (h_s : I s) : I (State.captPut s a l) := by
  induction l generalizing s a with
  | nil => exact h_s
  | cons a l ih => exact ih _ _ (keeps_clearBad (hI.mono (by decide)) _ _ (hI.memPut (by decide) h_s _ _))

theorem keeps_captInvalid (hI : Keeps [.dblTable, .dblCapt, .recent, .pod, .regs, .ecc, .mem] I) (s :
    State) (w : Nat) (h_s : I s) : I (State.captInvalid s w) := by
  unfold State.captInvalid
  with_reducible repeat' first
    | assumption
    | (extract_lets -underBinder +onlyGivenNames x; have hx : I x := ?_; clear_value x; on_goal 2 => subst x)
    | (extract_lets -underBinder +onlyGivenNames x; clear_value x)
    | refine iteI (fun _ => ?_) (fun _ => ?_)
    | split
    | refine foldlI ?_ (fun _ _ _ => ?_)
    | apply keeps_captPut (hI.mono (by decide))
    | apply keeps_err (hI.mono (by decide))
    | refine sndEq ?_ (by assumption)
    | refine fstEq ?_ (by assumption)
    | refine snd2Eq ?_ (by assumption)
    | refine snd3Eq ?_ (by assumption)
    | refine optEq ?_ (by assumption)
    | (refine partMk hI ?_; first | assumption | refine sndEq ?_ (by assumption))
    | (intro t ht; beta_reduce)
    | (intro m; first | rfl | simp)

theorem keeps_captGrain (hI : Keeps [.dblTable, .dblCapt, .recent, .log, .pod, .regs, .ecc, .mem] I) (s
    : State) (x w : Nat) (h_s : I s) : I (State.captGrain s x w) := by
  unfold State.captGrain
  with_reducible repeat' first
    | assumption
    | (extract_lets -underBinder +onlyGivenNames x; have hx : I x := ?_; clear_value x; on_goal 2 => subst x)
    | (extract_lets -underBinder +onlyGivenNames x; clear_value x)
    | refine iteI (fun _ => ?_) (fun _ => ?_)
    | apply keeps_captPut (hI.mono (by decide))
    | apply keeps_recordDouble (hI.mono (by decide))
    | apply keeps_captInvalid (hI.mono (by decide))
    | apply keeps_err (hI.mono (by decide))

theorem keeps_captDone (hI : Keeps [.recent, .pod, .regs] I) (s : State) (x : Nat) (h_s : I s) : I
    (State.captDone s x) := by
  unfold State.captDone
  with_reducible repeat' first
    | assumption
    | apply keeps_set (hI.mono (by decide))
    | apply keeps_irq hI

theorem keeps_markTrig (hI : Keeps [.dblTable, .dblCapt, .recent, .log, .pod, .regs, .ecc, .mem] I) (s
    : State) (x i : Nat) (h_s : I s) : I (State.markTrig s x i) := by
  unfold State.markTrig
  with_reducible repeat' first
    | assumption
    | (extract_lets -underBinder +onlyGivenNames x; have hx : I x := ?_; clear_value x; on_goal 2 => subst x)
    | (extract_lets -underBinder +onlyGivenNames x; have hfn : ∀ (t : State) (a b : Nat), I t → I (x t a b).1 := ?_; clear_value x; on_goal 2 => subst x)
    | (extract_lets -underBinder +onlyGivenNames x; have hfn : ∀ (t : State) (a : Nat), I t → I (x t a) := ?_; clear_value x; on_goal 2 => subst x)
    | (extract_lets -underBinder +onlyGivenNames x; have hfn : ∀ (t : State), I t → I (x t) := ?_; clear_value x; on_goal 2 => subst x)
    | (extract_lets -underBinder +onlyGivenNames x; have hfn : ∀ (t : State) (a b : Bool), I t → I (x t a b) := ?_; clear_value x; on_goal 2 => subst x)
    | apply hfn
    | (intro t a b ht; beta_reduce)
    | (intro t a ht; beta_reduce)
    | (extract_lets -underBinder +onlyGivenNames x; clear_value x)
    | refine iteI (fun _ => ?_) (fun _ => ?_)
    | apply keeps_captPut (hI.mono (by decide))
    | apply keeps_captGrain hI

theorem keeps_captStopped (hI : Keeps [.recent, .freeCtr, .log, .pod, .regs] I) (s : State) (x i : Nat)
    (cs : List Nat) (h_s : I s) : I (State.captStopped s x i cs) := by
  unfold State.captStopped
  with_reducible repeat' first
    | assumption
    | (extract_lets -underBinder +onlyGivenNames x; have hx : I x := ?_; clear_value x; on_goal 2 => subst x)
    | (extract_lets -underBinder +onlyGivenNames x; clear_value x)
    | split
    | apply keeps_set (hI.mono (by decide))
    | apply keeps_irqLog (hI.mono (by decide))
    | apply keeps_fresh (hI.mono (by decide))
    | refine sndEq ?_ (by assumption)
    | refine fstEq ?_ (by assumption)
    | refine snd2Eq ?_ (by assumption)
    | refine snd3Eq ?_ (by assumption)
    | refine optEq ?_ (by assumption)

theorem keeps_retest (hI : Keeps [.dblTable, .dblCapt, .recent, .freeCtr, .log, .pod, .regs, .ecc,
    .mem] I) (s : State) (x i : Nat) (h_s : I s) : I (State.retest s x i) := by
  unfold State.retest
  with_reducible repeat' first
    | assumption
    | (extract_lets -underBinder +onlyGivenNames x; have hx : I x := ?_; clear_value x; on_goal 2 => subst x)
    | (extract_lets -underBinder +onlyGivenNames x; clear_value x)
    | refine iteI (fun _ => ?_) (fun _ => ?_)
    | refine foldlI ?_ (fun _ _ _ => ?_)
    | apply keeps_captPut (hI.mono (by decide))
    | apply keeps_inc (hI.mono (by decide))
    | apply keeps_captStopped (hI.mono (by decide))
    | apply keeps_captGrain (hI.mono (by decide))
    | (intro t ht; beta_reduce)
    | (intro m; first | rfl | simp)

theorem keeps_captAccept (hI : Keeps [.dblTable, .dblCapt, .recent, .freeCtr, .log, .pod, .capt, .regs,
    .ecc, .mem] I) (s : State) (x i t frac cause : Nat) (h_s : I s) : I (State.captAccept s x i t frac
    cause) := by
  unfold State.captAccept
  with_reducible repeat' first
    | assumption
    | (extract_lets -underBinder +onlyGivenNames x; have hx : I x := ?_; clear_value x; on_goal 2 => subst x)
    | (extract_lets -underBinder +onlyGivenNames x; clear_value x)
    | refine iteI (fun _ => ?_) (fun _ => ?_)
    | split
    | refine foldlI ?_ (fun _ _ _ => ?_)
    | refine foldlI2 ?_ (fun _ _ _ => ?_)
    | refine foldlI3 ?_ (fun _ _ _ => ?_)
    | refine foldlI1 ?_ (fun _ _ _ => ?_)
    | apply keeps_setCapt (hI.mono (by decide))
    | apply keeps_offerTrigger (hI.mono (by decide))
    | apply keeps_set (hI.mono (by decide))
    | apply keeps_markTrig (hI.mono (by decide))
    | apply keeps_irq (hI.mono (by decide))
    | apply keeps_retest (hI.mono (by decide))
    | apply keeps_engineRead (hI.mono (by decide))
    | refine sndEq ?_ (by assumption)
    | refine fstEq ?_ (by assumption)
    | refine snd2Eq ?_ (by assumption)
    | refine snd3Eq ?_ (by assumption)
    | refine optEq ?_ (by assumption)
    | (refine partMk hI ?_; first | assumption | refine sndEq ?_ (by assumption))
    | (intro t ht; beta_reduce)
    | (intro m; first | rfl | simp)

theorem keeps_maskRead (hI : Keeps [.dblTable, .dblCapt, .recent, .log, .pod, .regs] I) (s : State) (x
    : Nat) (tested : Bool) (h_s : I s) : I (State.maskRead s x tested).2 := by
  unfold State.maskRead
  with_reducible repeat' first
    | assumption
    | refine iteI (fun _ => ?_) (fun _ => ?_)
    | split
    | apply keeps_engineRead hI

theorem keeps_setViolates (hI : Keeps [.dblTable, .dblCapt, .recent, .freeCtr, .log, .pod, .capt,
    .regs, .ecc, .mem] I) (s : State) (x kind t i st : Nat) (bad : List Nat) (h_s : I s) : I
    (State.setViolates s x kind t i st bad) := by
  unfold State.setViolates
  with_reducible repeat' first
    | assumption
    | (extract_lets -underBinder +onlyGivenNames x; have hx : I x := ?_; clear_value x; on_goal 2 => subst x)
    | (extract_lets -underBinder +onlyGivenNames x; clear_value x)
    | refine iteI (fun _ => ?_) (fun _ => ?_)
    | apply keeps_inc (hI.mono (by decide))
    | apply keeps_captAccept hI
    | apply keeps_captStopped (hI.mono (by decide))

theorem keeps_storeSet (hI : Keeps [.dblTable, .dblCapt, .recent, .freeCtr, .log, .pod, .capt, .regs,
    .ecc, .mem] I) (s : State) (x kind t : Nat) (trig : Bool) (vals : List (Nat × Bool)) (h_s : I s) : I
    (State.storeSet s x kind t trig vals) := by
  unfold State.storeSet
  with_reducible repeat' first
    | assumption
    | (extract_lets -underBinder +onlyGivenNames x; have hx : I x := ?_; clear_value x; on_goal 2 => subst x)
    | (extract_lets -underBinder +onlyGivenNames x; clear_value x)
    | refine iteI (fun _ => ?_) (fun _ => ?_)
    | split
    | apply keeps_captPut (hI.mono (by decide))
    | apply keeps_setViolates hI
    | apply keeps_maskRead (hI.mono (by decide))
    | apply keeps_set (hI.mono (by decide))
    | apply keeps_setB (hI.mono (by decide))
    | refine sndEq ?_ (by assumption)
    | refine fstEq ?_ (by assumption)
    | refine snd2Eq ?_ (by assumption)
    | refine snd3Eq ?_ (by assumption)
    | refine optEq ?_ (by assumption)

theorem keeps_afterSet (hI : Keeps [.recent, .pod, .capt, .regs] I) (s : State) (x : Nat) (h_s : I s) :
    I (State.afterSet s x) := by
  unfold State.afterSet
  with_reducible repeat' first
    | assumption
    | (extract_lets -underBinder +onlyGivenNames x; have hx : I x := ?_; clear_value x; on_goal 2 => subst x)
    | (extract_lets -underBinder +onlyGivenNames x; clear_value x)
    | refine iteI (fun _ => ?_) (fun _ => ?_)
    | apply keeps_setCapt (hI.mono (by decide))
    | apply keeps_captDone (hI.mono (by decide))
    | apply keeps_setB (hI.mono (by decide))
    | (refine partMk hI ?_; first | assumption | refine sndEq ?_ (by assumption))
    | (intro t ht; beta_reduce)
    | (intro m; first | rfl | simp)

theorem keeps_storeOne (hI : Keeps [.dblTable, .dblCapt, .recent, .freeCtr, .log, .pod, .capt, .regs,
    .ecc, .mem] I) (s : State) (x kind t : Nat) (trig : Bool) (vals : List (Nat × Bool)) (h_s : I s) : I
    (State.storeOne s x kind t trig vals) := by
  unfold State.storeOne
  with_reducible repeat' first
    | assumption
    | refine iteI (fun _ => ?_) (fun _ => ?_)
    | apply keeps_storeSet hI
    | apply keeps_afterSet (hI.mono (by decide))

theorem keeps_crossing (hI : Keeps [.freeCtr, .capt] I) (s : State) (x t : Nat) (vals : List (Nat ×
    Bool)) (h_s : I s) : I (State.crossing s x t vals).2 := by
  unfold State.crossing
  with_reducible repeat' first
    | assumption
    | (extract_lets -underBinder +onlyGivenNames x; have hx : I x := ?_; clear_value x; on_goal 2 => subst x)
    | (extract_lets -underBinder +onlyGivenNames x; clear_value x)
    | refine iteI (fun _ => ?_) (fun _ => ?_)
    | split
    | apply keeps_setCapt (hI.mono (by decide))
    | apply keeps_fresh (hI.mono (by decide))
    | refine sndEq ?_ (by assumption)
    | refine fstEq ?_ (by assumption)
    | refine snd2Eq ?_ (by assumption)
    | refine snd3Eq ?_ (by assumption)
    | refine optEq ?_ (by assumption)
    | (refine partMk hI ?_; first | assumption | refine sndEq ?_ (by assumption))
    | (intro t ht; beta_reduce)
    | (intro m; first | rfl | simp)

theorem keeps_groupAdd (hI : Keeps [.capt] I) (s : State) (x t : Nat) (trig : Bool) (vals : List (Nat ×
    Bool)) (h_s : I s) : I (State.groupAdd s x t trig vals) := by
  unfold State.groupAdd
  with_reducible repeat' first
    | assumption
    | (extract_lets -underBinder +onlyGivenNames x; have hx : I x := ?_; clear_value x; on_goal 2 => subst x)
    | (extract_lets -underBinder +onlyGivenNames x; clear_value x)
    | refine iteI (fun _ => ?_) (fun _ => ?_)
    | split
    | apply keeps_setCapt hI
    | refine sndEq ?_ (by assumption)
    | refine fstEq ?_ (by assumption)
    | refine snd2Eq ?_ (by assumption)
    | refine snd3Eq ?_ (by assumption)
    | refine optEq ?_ (by assumption)
    | (refine partMk hI ?_; first | assumption | refine sndEq ?_ (by assumption))
    | (intro t ht; beta_reduce)
    | (intro m; first | rfl | simp)

theorem keeps_groupValues (hI : Keeps [.freeCtr] I) (s : State) (l : List (Option (Int × Int))) (top :
    Bool) (h_s : I s) : I (State.groupValues s l top).2 := by
  unfold State.groupValues
  with_reducible repeat' first
    | assumption
    | (extract_lets -underBinder +onlyGivenNames x; have hx : I x := ?_; clear_value x; on_goal 2 => subst x)
    | (extract_lets -underBinder +onlyGivenNames x; clear_value x)
    | refine iteI (fun _ => ?_) (fun _ => ?_)
    | split
    | refine foldlI ?_ (fun _ _ _ => ?_)
    | refine foldlI2 ?_ (fun _ _ _ => ?_)
    | refine foldlI3 ?_ (fun _ _ _ => ?_)
    | refine foldlI1 ?_ (fun _ _ _ => ?_)
    | apply keeps_fresh hI
    | refine sndEq ?_ (by assumption)
    | refine fstEq ?_ (by assumption)
    | refine snd2Eq ?_ (by assumption)
    | refine snd3Eq ?_ (by assumption)
    | refine optEq ?_ (by assumption)
    | (refine partMk hI ?_; first | assumption | refine sndEq ?_ (by assumption))
    | (intro t ht; beta_reduce)
    | (intro m; first | rfl | simp)

theorem keeps_groupStore (hI : Keeps [.dblTable, .dblCapt, .recent, .freeCtr, .log, .pod, .capt, .regs,
    .ecc, .mem] I) (s : State) (x : Nat) (h_s : I s) : I (State.groupStore s x) := by
  unfold State.groupStore
  with_reducible repeat' first
    | assumption
    | (extract_lets -underBinder +onlyGivenNames x; have hx : I x := ?_; clear_value x; on_goal 2 => subst x)
    | (extract_lets -underBinder +onlyGivenNames x; clear_value x)
    | refine iteI (fun _ => ?_) (fun _ => ?_)
    | split
    | apply keeps_setCapt (hI.mono (by decide))
    | apply keeps_storeOne hI
    | apply keeps_groupValues (hI.mono (by decide))
    | refine sndEq ?_ (by assumption)
    | refine fstEq ?_ (by assumption)
    | refine snd2Eq ?_ (by assumption)
    | refine snd3Eq ?_ (by assumption)
    | refine optEq ?_ (by assumption)
    | (refine partMk hI ?_; first | assumption | refine sndEq ?_ (by assumption))
    | (intro t ht; beta_reduce)
    | (intro m; first | rfl | simp)

theorem keeps_inputSet (hI : Keeps [.dblTable, .dblCapt, .recent, .freeCtr, .log, .pod, .capt, .regs,
    .ecc, .mem] I) (s : State) (x t : Nat) (vals : List (Nat × Bool)) (h_s : I s) : I (State.inputSet s
    x t vals) := by
  unfold State.inputSet
  with_reducible repeat' first
    | assumption
    | (extract_lets -underBinder +onlyGivenNames x; have hx : I x := ?_; clear_value x; on_goal 2 => subst x)
    | (extract_lets -underBinder +onlyGivenNames x; clear_value x)
    | refine iteI (fun _ => ?_) (fun _ => ?_)
    | split
    | apply keeps_crossing (hI.mono (by decide))
    | apply keeps_setCapt (hI.mono (by decide))
    | apply keeps_inc (hI.mono (by decide))
    | apply keeps_captAccept hI
    | apply keeps_captDone (hI.mono (by decide))
    | apply keeps_storeOne hI
    | apply keeps_groupAdd (hI.mono (by decide))
    | apply keeps_groupStore hI
    | refine sndEq ?_ (by assumption)
    | refine fstEq ?_ (by assumption)
    | refine snd2Eq ?_ (by assumption)
    | refine snd3Eq ?_ (by assumption)
    | refine optEq ?_ (by assumption)
    | (refine partMk hI ?_; first | assumption | refine sndEq ?_ (by assumption))
    | (intro t ht; beta_reduce)
    | (intro m; first | rfl | simp)

theorem keeps_captArm (hI : Keeps [.dblTable, .dblCapt, .recent, .log, .pod, .capt, .regs] I) (s :
    State) (x : Nat) (h_s : I s) : I (State.captArm s x) := by
  unfold State.captArm
  with_reducible repeat' first
    | assumption
    | (extract_lets -underBinder +onlyGivenNames x; have hx : I x := ?_; clear_value x; on_goal 2 => subst x)
    | (extract_lets -underBinder +onlyGivenNames x; clear_value x)
    | refine iteI (fun _ => ?_) (fun _ => ?_)
    | split
    | apply keeps_setCapt (hI.mono (by decide))
    | apply keeps_maskRead (hI.mono (by decide))
    | apply keeps_set (hI.mono (by decide))
    | apply keeps_err (hI.mono (by decide))
    | apply keeps_irq (hI.mono (by decide))
    | apply keeps_setB (hI.mono (by decide))
    | refine sndEq ?_ (by assumption)
    | refine fstEq ?_ (by assumption)
    | refine snd2Eq ?_ (by assumption)
    | refine snd3Eq ?_ (by assumption)
    | refine optEq ?_ (by assumption)
    | (refine partMk hI ?_; first | assumption | refine sndEq ?_ (by assumption))
    | (intro t ht; beta_reduce)
    | (intro m; first | rfl | simp)

theorem keeps_captBegin (hI : Keeps [.recent, .capt, .regs] I) (s : State) (x : Nat) (h_s : I s) : I
    (State.captBegin s x) := by
  unfold State.captBegin
  with_reducible repeat' first
    | assumption
    | (extract_lets -underBinder +onlyGivenNames x; have hx : I x := ?_; clear_value x; on_goal 2 => subst x)
    | (extract_lets -underBinder +onlyGivenNames x; clear_value x)
    | apply keeps_setCapt (hI.mono (by decide))
    | apply keeps_set (hI.mono (by decide))
    | apply keeps_setB (hI.mono (by decide))
    | (intro t ht; beta_reduce)
    | (intro m; first | rfl | simp)

theorem keeps_execCaptureArm (hI : Keeps [.now, .dblTable, .dblCapt, .recent, .log, .pod, .capt, .regs]
    I) (dt : Nat) (x : Fin 8) (s : State) (h_s : I s) : OutI I (execCaptureArm dt x s) := by
  unfold execCaptureArm
  with_reducible repeat' first
    | assumption
    | refine outNext ?_
    | apply keeps_captArm (hI.mono (by decide))
    | apply keeps_elapse (hI.mono (by decide))
    | apply keeps_hostAct (hI.mono (by decide))
    | (intro t ht; beta_reduce)
    | (intro m; first | rfl | simp)

theorem keeps_captStop (hI : Keeps [.recent, .pod, .capt, .regs] I) (s : State) (x : Nat) (h_s : I s) :
    I (State.captStop s x) := by
  unfold State.captStop
  with_reducible repeat' first
    | assumption
    | (extract_lets -underBinder +onlyGivenNames x; have hx : I x := ?_; clear_value x; on_goal 2 => subst x)
    | (extract_lets -underBinder +onlyGivenNames x; clear_value x)
    | refine iteI (fun _ => ?_) (fun _ => ?_)
    | apply keeps_setCapt (hI.mono (by decide))
    | apply keeps_captDone (hI.mono (by decide))
    | apply keeps_setB (hI.mono (by decide))
    | (refine partMk hI ?_; first | assumption | refine sndEq ?_ (by assumption))
    | (intro t ht; beta_reduce)
    | (intro m; first | rfl | simp)

theorem keeps_execCaptureStop (hI : Keeps [.now, .recent, .pod, .capt, .regs] I) (dt : Nat) (x : Fin 8)
    (s : State) (h_s : I s) : OutI I (execCaptureStop dt x s) := by
  unfold execCaptureStop
  with_reducible repeat' first
    | assumption
    | refine outNext ?_
    | apply keeps_captStop (hI.mono (by decide))
    | apply keeps_elapse (hI.mono (by decide))
    | apply keeps_hostAct (hI.mono (by decide))
    | (intro t ht; beta_reduce)
    | (intro m; first | rfl | simp)

theorem keeps_execCaptureTrigNow (hI : Keeps [.now, .recent, .pod, .capt, .regs] I) (dt : Nat) (x : Fin
    8) (s : State) (h_s : I s) : OutI I (execCaptureTrigNow dt x s) := by
  unfold execCaptureTrigNow
  with_reducible repeat' first
    | assumption
    | refine outNext ?_
    | apply keeps_captTrigger (hI.mono (by decide))
    | apply keeps_elapse (hI.mono (by decide))
    | apply keeps_hostAct (hI.mono (by decide))
    | (intro t ht; beta_reduce)
    | (intro m; first | rfl | simp)

theorem keeps_execCaptureSet (hI : Keeps [.now, .dblTable, .dblCapt, .recent, .freeCtr, .log, .pod,
    .capt, .regs, .ecc, .mem] I) (dt : Nat) (x : Fin 8) (s : State) (h_s : I s) : OutI I (execCaptureSet
    dt x s) := by
  unfold execCaptureSet
  with_reducible repeat' first
    | assumption
    | (extract_lets -underBinder +onlyGivenNames x; have hx : I x := ?_; clear_value x; on_goal 2 => subst x)
    | (extract_lets -underBinder +onlyGivenNames x; clear_value x)
    | refine outNext ?_
    | refine iteI (fun _ => ?_) (fun _ => ?_)
    | refine iteOutI (fun _ => ?_) (fun _ => ?_)
    | split
    | apply keeps_inputSet (hI.mono (by decide))
    | apply keeps_setCapt (hI.mono (by decide))
    | apply keeps_inc (hI.mono (by decide))
    | apply keeps_captBegin (hI.mono (by decide))
    | apply keeps_elapse (hI.mono (by decide))
    | apply keeps_irq (hI.mono (by decide))
    | refine sndEq ?_ (by assumption)
    | refine fstEq ?_ (by assumption)
    | refine snd2Eq ?_ (by assumption)
    | refine snd3Eq ?_ (by assumption)
    | refine optEq ?_ (by assumption)
    | (refine partMk hI ?_; first | assumption | refine sndEq ?_ (by assumption))
    | (intro t ht; beta_reduce)
    | (intro m; first | rfl | simp)

theorem keeps_execEthLinkChange (hI : Keeps [.now, .recent, .pod, .regs] I) (dt : Nat) (up : Bool) (s :
    State) (h_s : I s) : OutI I (execEthLinkChange dt up s) := by
  unfold execEthLinkChange
  with_reducible repeat' first
    | assumption
    | (extract_lets -underBinder +onlyGivenNames x; have hx : I x := ?_; clear_value x; on_goal 2 => subst x)
    | (extract_lets -underBinder +onlyGivenNames x; clear_value x)
    | refine outNext ?_
    | refine iteI (fun _ => ?_) (fun _ => ?_)
    | refine iteOutI (fun _ => ?_) (fun _ => ?_)
    | apply keeps_elapse (hI.mono (by decide))
    | apply keeps_irq (hI.mono (by decide))
    | apply keeps_setB (hI.mono (by decide))

theorem keeps_mdioGo (hI : Keeps [.recent, .regs] I) (s : State) (h_s : I s) : I (State.mdioGo s) := by
  unfold State.mdioGo
  with_reducible repeat' first
    | assumption
    | refine iteI (fun _ => ?_) (fun _ => ?_)
    | apply keeps_setB hI

theorem keeps_execMdioDone (hI : Keeps [.now, .recent, .regs] I) (dt : Nat) (data : Fin 65536) (s :
    State) (h_s : I s) : OutI I (execMdioDone dt data s) := by
  unfold execMdioDone
  with_reducible repeat' first
    | assumption
    | (extract_lets -underBinder +onlyGivenNames x; have hx : I x := ?_; clear_value x; on_goal 2 => subst x)
    | (extract_lets -underBinder +onlyGivenNames x; clear_value x)
    | refine outNext ?_
    | refine iteI (fun _ => ?_) (fun _ => ?_)
    | refine iteOutI (fun _ => ?_) (fun _ => ?_)
    | apply keeps_set (hI.mono (by decide))
    | apply keeps_elapse (hI.mono (by decide))
    | apply keeps_setB (hI.mono (by decide))

theorem keeps_execTunnelFrameReceived (hI : Keeps [.now, .recent, .ring, .pod, .eth, .regs, .mem] I)
    (dt : Nat) (bytes : List Nat) (s : State) (h_s : I s) : OutI I (execTunnelFrameReceived dt bytes s) := by
  unfold execTunnelFrameReceived
  with_reducible repeat' first
    | assumption
    | (extract_lets -underBinder +onlyGivenNames x; have hx : I x := ?_; clear_value x; on_goal 2 => subst x)
    | (extract_lets -underBinder +onlyGivenNames x; clear_value x)
    | refine outNext ?_
    | refine iteI (fun _ => ?_) (fun _ => ?_)
    | refine iteOutI (fun _ => ?_) (fun _ => ?_)
    | apply keeps_inc (hI.mono (by decide))
    | apply keeps_elapse (hI.mono (by decide))
    | apply keeps_irq (hI.mono (by decide))
    | apply keeps_deliverFrame (hI.mono (by decide))
    | apply keeps_sendUnicast (hI.mono (by decide))
    | (refine partMk hI ?_; first | assumption | refine sndEq ?_ (by assumption))

theorem keeps_rgmiiStamp (hI : Keeps [.freeCtr] I) (s : State) (h_s : I s) : I (State.rgmiiStamp s).2 := by
  unfold State.rgmiiStamp
  with_reducible repeat' first
    | assumption
    | (extract_lets -underBinder +onlyGivenNames x; have hx : I x := ?_; clear_value x; on_goal 2 => subst x)
    | (extract_lets -underBinder +onlyGivenNames x; clear_value x)
    | split
    | apply keeps_fresh hI
    | refine sndEq ?_ (by assumption)
    | refine fstEq ?_ (by assumption)
    | refine snd2Eq ?_ (by assumption)
    | refine snd3Eq ?_ (by assumption)
    | refine optEq ?_ (by assumption)

theorem keeps_execPtpAnnounce (hI : Keeps [.now, .eth] I) (dt : Nat) (domain prio1 cls acc var prio2 gm
    steps sender : Nat) (s : State) (h_s : I s) : OutI I (execPtpAnnounce dt domain prio1 cls acc var
    prio2 gm steps sender s) := by
  unfold execPtpAnnounce
  with_reducible repeat' first
    | assumption
    | (extract_lets -underBinder +onlyGivenNames x; have hx : I x := ?_; clear_value x; on_goal 2 => subst x)
    | (extract_lets -underBinder +onlyGivenNames x; clear_value x)
    | refine outNext ?_
    | refine iteI (fun _ => ?_) (fun _ => ?_)
    | refine iteOutI (fun _ => ?_) (fun _ => ?_)
    | split
    | apply keeps_modEth (hI.mono (by decide))
    | apply keeps_elapse (hI.mono (by decide))
    | refine sndEq ?_ (by assumption)
    | refine fstEq ?_ (by assumption)
    | refine snd2Eq ?_ (by assumption)
    | refine snd3Eq ?_ (by assumption)
    | refine optEq ?_ (by assumption)
    | (refine partMk hI ?_; first | assumption | refine sndEq ?_ (by assumption))
    | (intro t ht; beta_reduce)
    | (intro m; first | rfl | simp)

theorem keeps_classSync (hI : Keeps [.recent, .regs] I) (s : State) (h_s : I s) : I (State.classSync s) := by
  unfold State.classSync
  with_reducible repeat' first
    | assumption
    | refine iteI (fun _ => ?_) (fun _ => ?_)
    | apply keeps_set (hI.mono (by decide))
    | apply keeps_setB hI

theorem keeps_execPtpSync (hI : Keeps [.now, .recent, .freeCtr, .canopyT, .pod, .eth, .chan, .sar,
    .arm, .meter, .regs] I) (dt : Nat) (domain sender origin : Nat) (corr : Int) (s : State) (h_s : I s)
    : OutI I (execPtpSync dt domain sender origin corr s) := by
  unfold execPtpSync
  with_reducible repeat' first
    | assumption
    | (extract_lets -underBinder +onlyGivenNames x; have hx : I x := ?_; clear_value x; on_goal 2 => subst x)
    | (extract_lets -underBinder +onlyGivenNames x; clear_value x)
    | refine outNext ?_
    | refine iteI (fun _ => ?_) (fun _ => ?_)
    | refine iteOutI (fun _ => ?_) (fun _ => ?_)
    | split
    | apply keeps_rgmiiStamp (hI.mono (by decide))
    | apply keeps_modEth (hI.mono (by decide))
    | apply keeps_elapse (hI.mono (by decide))
    | apply keeps_discipline (hI.mono (by decide))
    | apply keeps_irq (hI.mono (by decide))
    | apply keeps_setB (hI.mono (by decide))
    | apply keeps_classSync (hI.mono (by decide))
    | apply keeps_setI (hI.mono (by decide))
    | apply keeps_fresh (hI.mono (by decide))
    | refine sndEq ?_ (by assumption)
    | refine fstEq ?_ (by assumption)
    | refine snd2Eq ?_ (by assumption)
    | refine snd3Eq ?_ (by assumption)
    | refine optEq ?_ (by assumption)
    | (refine partMk hI ?_; first | assumption | refine sndEq ?_ (by assumption))
    | (intro t ht; beta_reduce)
    | (intro m; first | rfl | simp)

theorem keeps_execPtpLoss (hI : Keeps [.now, .recent, .pod, .eth, .regs] I) (dt : Nat) (s : State) (h_s
    : I s) : OutI I (execPtpLoss dt s) := by
  unfold execPtpLoss
  with_reducible repeat' first
    | assumption
    | (extract_lets -underBinder +onlyGivenNames x; have hx : I x := ?_; clear_value x; on_goal 2 => subst x)
    | (extract_lets -underBinder +onlyGivenNames x; clear_value x)
    | refine outNext ?_
    | refine iteI (fun _ => ?_) (fun _ => ?_)
    | refine iteOutI (fun _ => ?_) (fun _ => ?_)
    | apply keeps_modEth (hI.mono (by decide))
    | apply keeps_elapse (hI.mono (by decide))
    | apply keeps_irq (hI.mono (by decide))
    | apply keeps_setB (hI.mono (by decide))
    | apply keeps_classSync (hI.mono (by decide))
    | apply keeps_enterHoldover (hI.mono (by decide))
    | (refine partMk hI ?_; first | assumption | refine sndEq ?_ (by assumption))
    | (intro t ht; beta_reduce)
    | (intro m; first | rfl | simp)

theorem keeps_execPtpPdelaySend (hI : Keeps [.now, .freeCtr, .eth] I) (dt : Nat) (s : State) (h_s : I
    s) : OutI I (execPtpPdelaySend dt s) := by
  unfold execPtpPdelaySend
  with_reducible repeat' first
    | assumption
    | (extract_lets -underBinder +onlyGivenNames x; have hx : I x := ?_; clear_value x; on_goal 2 => subst x)
    | (extract_lets -underBinder +onlyGivenNames x; clear_value x)
    | refine outNext ?_
    | refine iteI (fun _ => ?_) (fun _ => ?_)
    | refine iteOutI (fun _ => ?_) (fun _ => ?_)
    | split
    | apply keeps_rgmiiStamp (hI.mono (by decide))
    | apply keeps_modEth (hI.mono (by decide))
    | apply keeps_elapse (hI.mono (by decide))
    | refine sndEq ?_ (by assumption)
    | refine fstEq ?_ (by assumption)
    | refine snd2Eq ?_ (by assumption)
    | refine snd3Eq ?_ (by assumption)
    | refine optEq ?_ (by assumption)
    | (refine partMk hI ?_; first | assumption | refine sndEq ?_ (by assumption))
    | (intro t ht; beta_reduce)
    | (intro m; first | rfl | simp)

theorem keeps_execPtpPdelayResp (hI : Keeps [.now, .freeCtr, .eth] I) (dt : Nat) (seq : Fin 65536) (t2
    t3 : Nat) (corr : Int) (s : State) (h_s : I s) : OutI I (execPtpPdelayResp dt seq t2 t3 corr s) := by
  unfold execPtpPdelayResp
  with_reducible repeat' first
    | assumption
    | (extract_lets -underBinder +onlyGivenNames x; have hx : I x := ?_; clear_value x; on_goal 2 => subst x)
    | (extract_lets -underBinder +onlyGivenNames x; clear_value x)
    | refine outNext ?_
    | refine iteI (fun _ => ?_) (fun _ => ?_)
    | refine iteOutI (fun _ => ?_) (fun _ => ?_)
    | split
    | apply keeps_rgmiiStamp (hI.mono (by decide))
    | apply keeps_modEth (hI.mono (by decide))
    | apply keeps_elapse (hI.mono (by decide))
    | refine sndEq ?_ (by assumption)
    | refine fstEq ?_ (by assumption)
    | refine snd2Eq ?_ (by assumption)
    | refine snd3Eq ?_ (by assumption)
    | refine optEq ?_ (by assumption)
    | (refine partMk hI ?_; first | assumption | refine sndEq ?_ (by assumption))
    | (intro t ht; beta_reduce)
    | (intro m; first | rfl | simp)

theorem keeps_execPtpPdelayReq (hI : Keeps [.now, .freeCtr, .eth] I) (dt : Nat) (seq : Fin 65536) (port
    : Nat) (s : State) (h_s : I s) : OutI I (execPtpPdelayReq dt seq port s) := by
  unfold execPtpPdelayReq
  with_reducible repeat' first
    | assumption
    | (extract_lets -underBinder +onlyGivenNames x; have hx : I x := ?_; clear_value x; on_goal 2 => subst x)
    | (extract_lets -underBinder +onlyGivenNames x; clear_value x)
    | refine outNext ?_
    | refine iteI (fun _ => ?_) (fun _ => ?_)
    | refine iteOutI (fun _ => ?_) (fun _ => ?_)
    | split
    | apply keeps_rgmiiStamp (hI.mono (by decide))
    | apply keeps_modEth (hI.mono (by decide))
    | apply keeps_elapse (hI.mono (by decide))
    | refine sndEq ?_ (by assumption)
    | refine fstEq ?_ (by assumption)
    | refine snd2Eq ?_ (by assumption)
    | refine snd3Eq ?_ (by assumption)
    | refine optEq ?_ (by assumption)
    | (refine partMk hI ?_; first | assumption | refine sndEq ?_ (by assumption))
    | (intro t ht; beta_reduce)
    | (intro m; first | rfl | simp)

theorem keeps_burstCommit (hI : Keeps [.arm] I) (s : State) (carried : Bool) (h_s : I s) : I
    (State.burstCommit s carried) := by
  unfold State.burstCommit
  with_reducible repeat' first
    | assumption
    | (extract_lets -underBinder +onlyGivenNames x; have hx : I x := ?_; clear_value x; on_goal 2 => subst x)
    | (extract_lets -underBinder +onlyGivenNames x; clear_value x)
    | refine iteI (fun _ => ?_) (fun _ => ?_)
    | apply keeps_setArm hI
    | (refine partMk hI ?_; first | assumption | refine sndEq ?_ (by assumption))
    | (intro t ht; beta_reduce)
    | (intro m; first | rfl | simp)

theorem keeps_armCommit (hI : Keeps [.recent, .freeCtr, .sys, .log, .pod, .chan, .arm, .regs, .staged]
    I) (s : State) (h_s : I s) : I (State.armCommit s) := by
  unfold State.armCommit
  with_reducible repeat' first
    | assumption
    | (extract_lets -underBinder +onlyGivenNames x; have hx : I x := ?_; clear_value x; on_goal 2 => subst x)
    | (extract_lets -underBinder +onlyGivenNames x; clear_value x)
    | refine iteI (fun _ => ?_) (fun _ => ?_)
    | apply keeps_dropStaged (hI.mono (by decide))
    | apply keeps_irq (hI.mono (by decide))
    | apply keeps_setB (hI.mono (by decide))
    | apply keeps_doCommit (hI.mono (by decide))
    | apply keeps_undrop (hI.mono (by decide))
    | apply keeps_burstCommit (hI.mono (by decide))
    | apply keeps_handOver (hI.mono (by decide))

theorem keeps_geCommit (hI : Keeps [.recent, .sys, .chan, .regs, .staged] I) (s : State) (e : Nat) (h_s
    : I s) : I (State.geCommit s e) := by
  unfold State.geCommit
  with_reducible repeat' first
    | assumption
    | (extract_lets -underBinder +onlyGivenNames x; have hx : I x := ?_; clear_value x; on_goal 2 => subst x)
    | (extract_lets -underBinder +onlyGivenNames x; clear_value x)
    | refine iteI (fun _ => ?_) (fun _ => ?_)
    | apply keeps_doCommit (hI.mono (by decide))
    | apply keeps_undrop hI

theorem keeps_orderCycle (hI : Keeps [.recent, .freeCtr, .log, .pod, .arm, .regs] I) (s : State) (h_s :
    I s) : I (State.orderCycle s) := by
  unfold State.orderCycle
  with_reducible repeat' first
    | assumption
    | (extract_lets -underBinder +onlyGivenNames x; have hx : I x := ?_; clear_value x; on_goal 2 => subst x)
    | (extract_lets -underBinder +onlyGivenNames x; clear_value x)
    | refine iteI (fun _ => ?_) (fun _ => ?_)
    | apply keeps_setArm (hI.mono (by decide))
    | apply keeps_handOver hI
    | (refine partMk hI ?_; first | assumption | refine sndEq ?_ (by assumption))
    | (intro t ht; beta_reduce)
    | (intro m; first | rfl | simp)

theorem keeps_missingCycle (hI : Keeps [.recent, .pod, .arm, .regs] I) (s : State) (t : Nat) (h_s : I
    s) : I (State.missingCycle s t) := by
  unfold State.missingCycle
  with_reducible repeat' first
    | assumption
    | refine iteI (fun _ => ?_) (fun _ => ?_)
    | refine foldlI ?_ (fun _ _ _ => ?_)
    | apply keeps_frameMissing hI
    | (intro t ht; beta_reduce)
    | (intro m; first | rfl | simp)

theorem keeps_freshCycle (hI : Keeps [.arm] I) (s : State) (h_s : I s) : I (State.freshCycle s) := by
  unfold State.freshCycle
  with_reducible repeat' first
    | assumption
    | (extract_lets -underBinder +onlyGivenNames x; have hx : I x := ?_; clear_value x; on_goal 2 => subst x)
    | (extract_lets -underBinder +onlyGivenNames x; clear_value x)
    | apply keeps_setArm hI
    | (refine partMk hI ?_; first | assumption | refine sndEq ?_ (by assumption))
    | (intro t ht; beta_reduce)
    | (intro m; first | rfl | simp)

theorem keeps_roleCycle (hI : Keeps [.recent, .log, .pod, .arm, .regs] I) (s : State) (t : Nat) (h_s :
    I s) : I (State.roleCycle s t) := by
  unfold State.roleCycle
  with_reducible repeat' first
    | assumption
    | (extract_lets -underBinder +onlyGivenNames x; have hx : I x := ?_; clear_value x; on_goal 2 => subst x)
    | (extract_lets -underBinder +onlyGivenNames x; clear_value x)
    | refine iteI (fun _ => ?_) (fun _ => ?_)
    | split
    | apply keeps_inc (hI.mono (by decide))
    | apply keeps_set (hI.mono (by decide))
    | apply keeps_setRole (hI.mono (by decide))
    | apply keeps_setArm (hI.mono (by decide))
    | apply keeps_irqLog (hI.mono (by decide))
    | refine sndEq ?_ (by assumption)
    | refine fstEq ?_ (by assumption)
    | refine snd2Eq ?_ (by assumption)
    | refine snd3Eq ?_ (by assumption)
    | refine optEq ?_ (by assumption)
    | (refine partMk hI ?_; first | assumption | refine sndEq ?_ (by assumption))
    | (intro t ht; beta_reduce)
    | (intro m; first | rfl | simp)

theorem keeps_giveTc2 (hI : Keeps [.sys, .ring] I) (s : State) (t : Nat) (exp : Bool) (payload : List
    Nat) (h_s : I s) : I (State.giveTc2 s t exp payload) := by
  unfold State.giveTc2
  with_reducible repeat' first
    | assumption
    | (extract_lets -underBinder +onlyGivenNames x; have hx : I x := ?_; clear_value x; on_goal 2 => subst x)
    | (extract_lets -underBinder +onlyGivenNames x; clear_value x)
    | refine iteI (fun _ => ?_) (fun _ => ?_)
    | apply keeps_modRing (hI.mono (by decide))
    | apply keeps_takeLost (hI.mono (by decide))
    | (refine partMk hI ?_; first | assumption | refine sndEq ?_ (by assumption))
    | (intro t ht; beta_reduce)
    | (intro m; first | rfl | simp)

theorem keeps_checkCycle (hI : Keeps [.arm] I) (s : State) (h_s : I s) : I (State.checkCycle s) := by
  unfold State.checkCycle
  with_reducible repeat' first
    | assumption
    | (extract_lets -underBinder +onlyGivenNames x; have hx : I x := ?_; clear_value x; on_goal 2 => subst x)
    | (extract_lets -underBinder +onlyGivenNames x; clear_value x)
    | apply keeps_setArm hI
    | (refine partMk hI ?_; first | assumption | refine sndEq ?_ (by assumption))
    | (intro t ht; beta_reduce)
    | (intro m; first | rfl | simp)

theorem keeps_releaseFrame (hI : Keeps [.recent, .sys, .ring, .pod, .arm, .regs] I) (s : State) (t :
    Nat) (f : ArmFrame) (h_s : I s) : I (State.releaseFrame s t f) := by
  unfold State.releaseFrame
  with_reducible repeat' first
    | assumption
    | (extract_lets -underBinder +onlyGivenNames x; have hx : I x := ?_; clear_value x; on_goal 2 => subst x)
    | (extract_lets -underBinder +onlyGivenNames x; clear_value x)
    | refine iteI (fun _ => ?_) (fun _ => ?_)
    | split
    | apply keeps_xchk (hI.mono (by decide))
    | apply keeps_inc (hI.mono (by decide))
    | apply keeps_noteGrant (hI.mono (by decide))
    | apply keeps_resign (hI.mono (by decide))
    | apply keeps_setArm (hI.mono (by decide))
    | apply keeps_giveTc2 (hI.mono (by decide))
    | refine sndEq ?_ (by assumption)
    | refine fstEq ?_ (by assumption)
    | refine snd2Eq ?_ (by assumption)
    | refine snd3Eq ?_ (by assumption)
    | refine optEq ?_ (by assumption)
    | (refine partMk hI ?_; first | assumption | refine sndEq ?_ (by assumption))
    | (intro t ht; beta_reduce)
    | (intro m; first | rfl | simp)

theorem keeps_missCycle (hI : Keeps [.recent, .log, .pod, .chan, .arm, .regs] I) (s : State) (e t :
    Nat) (h_s : I s) : I (State.missCycle s e t) := by
  unfold State.missCycle
  with_reducible repeat' first
    | assumption
    | (extract_lets -underBinder +onlyGivenNames x; have hx : I x := ?_; clear_value x; on_goal 2 => subst x)
    | (extract_lets -underBinder +onlyGivenNames x; clear_value x)
    | refine iteI (fun _ => ?_) (fun _ => ?_)
    | split
    | refine foldlI ?_ (fun _ _ _ => ?_)
    | refine foldlI2 ?_ (fun _ _ _ => ?_)
    | refine foldlI3 ?_ (fun _ _ _ => ?_)
    | refine foldlI1 ?_ (fun _ _ _ => ?_)
    | apply keeps_dlMissMax (hI.mono (by decide))
    | apply keeps_set (hI.mono (by decide))
    | apply keeps_resign (hI.mono (by decide))
    | apply keeps_channelFault (hI.mono (by decide))
    | apply keeps_setArm (hI.mono (by decide))
    | refine sndEq ?_ (by assumption)
    | refine fstEq ?_ (by assumption)
    | refine snd2Eq ?_ (by assumption)
    | refine snd3Eq ?_ (by assumption)
    | refine optEq ?_ (by assumption)
    | (refine partMk hI ?_; first | assumption | refine sndEq ?_ (by assumption))
    | (intro t ht; beta_reduce)
    | (intro m; first | rfl | simp)

theorem keeps_gridMiss (hI : Keeps [.recent, .log, .pod, .chan, .arm, .regs] I) (s : State) (e : Nat)
    (h_s : I s) : I (State.gridMiss s e) := by
  unfold State.gridMiss
  with_reducible repeat' first
    | assumption
    | (extract_lets -underBinder +onlyGivenNames x; have hx : I x := ?_; clear_value x; on_goal 2 => subst x)
    | (extract_lets -underBinder +onlyGivenNames x; clear_value x)
    | refine iteI (fun _ => ?_) (fun _ => ?_)
    | apply keeps_missCycle hI

theorem keeps_cycleMet (hI : Keeps [.recent, .regs] I) (s : State) (e : Nat) (h_s : I s) : I
    (State.cycleMet s e) := by
  unfold State.cycleMet
  with_reducible repeat' first
    | assumption
    | split
    | apply keeps_dlMeet hI
    | refine sndEq ?_ (by assumption)
    | refine fstEq ?_ (by assumption)
    | refine snd2Eq ?_ (by assumption)
    | refine snd3Eq ?_ (by assumption)
    | refine optEq ?_ (by assumption)
    | (refine partMk hI ?_; first | assumption | refine sndEq ?_ (by assumption))

theorem keeps_execGridCycle (hI : Keeps [.now, .dblTable, .dblCapt, .recent, .freeCtr, .sys, .log,
    .ring, .pod, .safe, .chan, .engs, .arm, .ride, .isl, .capt, .meter, .regs, .staged] I) (dt : Nat) (s
    : State) (h_s : I s) : OutI I (execGridCycle dt s) := by
  unfold execGridCycle
  with_reducible repeat' first
    | assumption
    | (extract_lets -underBinder +onlyGivenNames x; have hx : I x := ?_; clear_value x; on_goal 2 => subst x)
    | (extract_lets -underBinder +onlyGivenNames x; clear_value x)
    | refine outNext ?_
    | refine iteI (fun _ => ?_) (fun _ => ?_)
    | refine iteOutI (fun _ => ?_) (fun _ => ?_)
    | split
    | refine foldlI ?_ (fun _ _ _ => ?_)
    | refine foldlI2 ?_ (fun _ _ _ => ?_)
    | refine foldlI3 ?_ (fun _ _ _ => ?_)
    | refine foldlI1 ?_ (fun _ _ _ => ?_)
    | apply keeps_checkCycle (hI.mono (by decide))
    | apply keeps_orderCycle (hI.mono (by decide))
    | apply keeps_roleCycle (hI.mono (by decide))
    | apply keeps_rideCycle (hI.mono (by decide))
    | apply keeps_releaseFrame (hI.mono (by decide))
    | apply keeps_cycleMet (hI.mono (by decide))
    | apply keeps_pllCycle (hI.mono (by decide))
    | apply keeps_set (hI.mono (by decide))
    | apply keeps_meterAngle (hI.mono (by decide))
    | apply keeps_elapse (hI.mono (by decide))
    | apply keeps_missingCycle (hI.mono (by decide))
    | apply keeps_geCommit (hI.mono (by decide))
    | apply keeps_setArm (hI.mono (by decide))
    | apply keeps_missCycle (hI.mono (by decide))
    | apply keeps_armCycle (hI.mono (by decide))
    | apply keeps_giveTc2 (hI.mono (by decide))
    | apply keeps_freshCycle (hI.mono (by decide))
    | apply keeps_latchSources (hI.mono (by decide))
    | apply keeps_armCommit (hI.mono (by decide))
    | apply keeps_crossEntries (hI.mono (by decide))
    | refine sndEq ?_ (by assumption)
    | refine fstEq ?_ (by assumption)
    | refine snd2Eq ?_ (by assumption)
    | refine snd3Eq ?_ (by assumption)
    | refine optEq ?_ (by assumption)
    | (refine partMk hI ?_; first | assumption | refine sndEq ?_ (by assumption))
    | (intro t ht; beta_reduce)
    | (intro m; first | rfl | simp)

theorem keeps_execGridPllLock (hI : Keeps [.now, .recent, .pod, .meter, .regs] I) (dt : Nat) (e : Fin
    2) (s : State) (h_s : I s) : OutI I (execGridPllLock dt e s) := by
  unfold execGridPllLock
  with_reducible repeat' first
    | assumption
    | (extract_lets -underBinder +onlyGivenNames x; have hx : I x := ?_; clear_value x; on_goal 2 => subst x)
    | (extract_lets -underBinder +onlyGivenNames x; clear_value x)
    | refine outNext ?_
    | refine iteI (fun _ => ?_) (fun _ => ?_)
    | refine iteOutI (fun _ => ?_) (fun _ => ?_)
    | apply keeps_pllFreeSync (hI.mono (by decide))
    | apply keeps_elapse (hI.mono (by decide))
    | apply keeps_irq (hI.mono (by decide))
    | apply keeps_setB (hI.mono (by decide))

theorem keeps_execGridPllUnlock (hI : Keeps [.now, .recent, .pod, .engs, .meter, .regs] I) (dt : Nat)
    (e : Fin 2) (s : State) (h_s : I s) : OutI I (execGridPllUnlock dt e s) := by
  unfold execGridPllUnlock
  with_reducible repeat' first
    | assumption
    | (extract_lets -underBinder +onlyGivenNames x; have hx : I x := ?_; clear_value x; on_goal 2 => subst x)
    | (extract_lets -underBinder +onlyGivenNames x; clear_value x)
    | refine outNext ?_
    | refine iteI (fun _ => ?_) (fun _ => ?_)
    | refine iteOutI (fun _ => ?_) (fun _ => ?_)
    | apply keeps_elapse (hI.mono (by decide))
    | apply keeps_pllUnlock (hI.mono (by decide))
    | apply keeps_meterUnlock (hI.mono (by decide))

theorem keeps_execGridPllUnfreeze (hI : Keeps [.now, .recent, .engs, .regs] I) (dt : Nat) (e : Fin 2)
    (s : State) (h_s : I s) : OutI I (execGridPllUnfreeze dt e s) := by
  unfold execGridPllUnfreeze
  with_reducible repeat' first
    | assumption
    | (extract_lets -underBinder +onlyGivenNames x; have hx : I x := ?_; clear_value x; on_goal 2 => subst x)
    | (extract_lets -underBinder +onlyGivenNames x; clear_value x)
    | refine outNext ?_
    | refine iteI (fun _ => ?_) (fun _ => ?_)
    | refine iteOutI (fun _ => ?_) (fun _ => ?_)
    | apply keeps_elapse (hI.mono (by decide))
    | apply keeps_setEng (hI.mono (by decide))
    | apply keeps_setB (hI.mono (by decide))
    | (refine partMk hI ?_; first | assumption | refine sndEq ?_ (by assumption))
    | (intro t ht; beta_reduce)
    | (intro m; first | rfl | simp)

theorem keeps_execArmFrameReceived (hI : Keeps [.now, .recent, .sys, .ring, .pod, .chan, .arm, .regs]
    I) (dt : Nat) (s : State) (h_s : I s) : OutI I (execArmFrameReceived dt s) := by
  unfold execArmFrameReceived
  with_reducible repeat' first
    | assumption
    | (extract_lets -underBinder +onlyGivenNames x; have hx : I x := ?_; clear_value x; on_goal 2 => subst x)
    | (extract_lets -underBinder +onlyGivenNames x; clear_value x)
    | refine outNext ?_
    | refine iteI (fun _ => ?_) (fun _ => ?_)
    | refine iteOutI (fun _ => ?_) (fun _ => ?_)
    | split
    | apply keeps_takeFrame (hI.mono (by decide))
    | apply keeps_elapse (hI.mono (by decide))
    | apply keeps_takeLost (hI.mono (by decide))
    | apply keeps_takeInbox (hI.mono (by decide))
    | refine sndEq ?_ (by assumption)
    | refine fstEq ?_ (by assumption)
    | refine snd2Eq ?_ (by assumption)
    | refine snd3Eq ?_ (by assumption)
    | refine optEq ?_ (by assumption)
    | (refine partMk hI ?_; first | assumption | refine sndEq ?_ (by assumption))
    | (intro t ht; beta_reduce)
    | (intro m; first | rfl | simp)

theorem keeps_execCellReportReceived (hI : Keeps [.now, .sys, .ring, .arm] I) (dt : Nat) (s : State)
    (h_s : I s) : OutI I (execCellReportReceived dt s) := by
  unfold execCellReportReceived
  with_reducible repeat' first
    | assumption
    | (extract_lets -underBinder +onlyGivenNames x; have hx : I x := ?_; clear_value x; on_goal 2 => subst x)
    | (extract_lets -underBinder +onlyGivenNames x; clear_value x)
    | refine outNext ?_
    | refine iteI (fun _ => ?_) (fun _ => ?_)
    | refine iteOutI (fun _ => ?_) (fun _ => ?_)
    | split
    | apply keeps_elapse (hI.mono (by decide))
    | apply keeps_takeReport (hI.mono (by decide))
    | apply keeps_takeLost (hI.mono (by decide))
    | apply keeps_takeInbox (hI.mono (by decide))
    | refine sndEq ?_ (by assumption)
    | refine fstEq ?_ (by assumption)
    | refine snd2Eq ?_ (by assumption)
    | refine snd3Eq ?_ (by assumption)
    | refine optEq ?_ (by assumption)
    | (refine partMk hI ?_; first | assumption | refine sndEq ?_ (by assumption))
    | (intro t ht; beta_reduce)
    | (intro m; first | rfl | simp)

theorem keeps_execMasterResign (hI : Keeps [.now, .recent, .pod, .arm, .regs] I) (dt : Nat) (s : State)
    (h_s : I s) : OutI I (execMasterResign dt s) := by
  unfold execMasterResign
  with_reducible repeat' first
    | assumption
    | (extract_lets -underBinder +onlyGivenNames x; have hx : I x := ?_; clear_value x; on_goal 2 => subst x)
    | (extract_lets -underBinder +onlyGivenNames x; clear_value x)
    | refine outNext ?_
    | refine iteI (fun _ => ?_) (fun _ => ?_)
    | refine iteOutI (fun _ => ?_) (fun _ => ?_)
    | apply keeps_elapse (hI.mono (by decide))
    | apply keeps_resign (hI.mono (by decide))

theorem keeps_execResignRecovery (hI : Keeps [.now, .regs] I) (dt : Nat) (s : State) (h_s : I s) : OutI
    I (execResignRecovery dt s) := by
  unfold execResignRecovery
  with_reducible repeat' first
    | assumption
    | (extract_lets -underBinder +onlyGivenNames x; have hx : I x := ?_; clear_value x; on_goal 2 => subst x)
    | (extract_lets -underBinder +onlyGivenNames x; clear_value x)
    | refine outNext ?_
    | refine iteI (fun _ => ?_) (fun _ => ?_)
    | refine iteOutI (fun _ => ?_) (fun _ => ?_)
    | apply keeps_setRole (hI.mono (by decide))
    | apply keeps_elapse (hI.mono (by decide))

theorem keeps_execXchkFail (hI : Keeps [.now, .recent, .log, .pod, .chan, .arm, .regs] I) (dt : Nat) (b
    : Fin 9) (s : State) (h_s : I s) : OutI I (execXchkFail dt b s) := by
  unfold execXchkFail
  with_reducible repeat' first
    | assumption
    | (extract_lets -underBinder +onlyGivenNames x; have hx : I x := ?_; clear_value x; on_goal 2 => subst x)
    | (extract_lets -underBinder +onlyGivenNames x; clear_value x)
    | refine outNext ?_
    | refine iteI (fun _ => ?_) (fun _ => ?_)
    | refine iteOutI (fun _ => ?_) (fun _ => ?_)
    | refine foldlI ?_ (fun _ _ _ => ?_)
    | apply keeps_xchk (hI.mono (by decide))
    | apply keeps_set (hI.mono (by decide))
    | apply keeps_elapse (hI.mono (by decide))
    | apply keeps_resign (hI.mono (by decide))
    | apply keeps_channelFault (hI.mono (by decide))
    | apply keeps_setArm (hI.mono (by decide))
    | apply keeps_irqLog (hI.mono (by decide))
    | (refine partMk hI ?_; first | assumption | refine sndEq ?_ (by assumption))
    | (intro t ht; beta_reduce)
    | (intro m; first | rfl | simp)

theorem keeps_execModeRampEnd (hI : Keeps [.now, .recent, .arm, .regs] I) (dt : Nat) (s : State) (h_s :
    I s) : OutI I (execModeRampEnd dt s) := by
  unfold execModeRampEnd
  with_reducible repeat' first
    | assumption
    | (extract_lets -underBinder +onlyGivenNames x; have hx : I x := ?_; clear_value x; on_goal 2 => subst x)
    | (extract_lets -underBinder +onlyGivenNames x; clear_value x)
    | refine outNext ?_
    | refine iteI (fun _ => ?_) (fun _ => ?_)
    | refine iteOutI (fun _ => ?_) (fun _ => ?_)
    | split
    | apply keeps_elapse (hI.mono (by decide))
    | apply keeps_setB (hI.mono (by decide))
    | apply keeps_setArm (hI.mono (by decide))
    | refine sndEq ?_ (by assumption)
    | refine fstEq ?_ (by assumption)
    | refine snd2Eq ?_ (by assumption)
    | refine snd3Eq ?_ (by assumption)
    | refine optEq ?_ (by assumption)
    | (refine partMk hI ?_; first | assumption | refine sndEq ?_ (by assumption))
    | (intro t ht; beta_reduce)
    | (intro m; first | rfl | simp)

theorem keeps_geSet (hI : Keeps [.recent, .freeCtr, .chan, .regs] I) (s : State) (x tg : Nat) (f :
    ArmFrame) (h_s : I s) : I (State.geSet s x tg f) := by
  unfold State.geSet
  with_reducible repeat' first
    | assumption
    | (extract_lets -underBinder +onlyGivenNames x; have hx : I x := ?_; clear_value x; on_goal 2 => subst x)
    | (extract_lets -underBinder +onlyGivenNames x; clear_value x)
    | split
    | apply keeps_setKe (hI.mono (by decide))
    | apply keeps_setB (hI.mono (by decide))
    | apply keeps_fraction (hI.mono (by decide))
    | refine sndEq ?_ (by assumption)
    | refine fstEq ?_ (by assumption)
    | refine snd2Eq ?_ (by assumption)
    | refine snd3Eq ?_ (by assumption)
    | refine optEq ?_ (by assumption)
    | (refine partMk hI ?_; first | assumption | refine sndEq ?_ (by assumption))
    | (intro t ht; beta_reduce)
    | (intro m; first | rfl | simp)

theorem keeps_execGe0SetDelivery (hI : Keeps [.now, .recent, .freeCtr, .sys, .chan, .regs] I) (dt :
    Nat) (x : Fin 8) (s : State) (h_s : I s) : OutI I (execGe0SetDelivery dt x s) := by
  unfold execGe0SetDelivery
  with_reducible repeat' first
    | assumption
    | (extract_lets -underBinder +onlyGivenNames x; have hx : I x := ?_; clear_value x; on_goal 2 => subst x)
    | (extract_lets -underBinder +onlyGivenNames x; clear_value x)
    | refine outNext ?_
    | refine iteI (fun _ => ?_) (fun _ => ?_)
    | refine iteOutI (fun _ => ?_) (fun _ => ?_)
    | split
    | apply keeps_geSet (hI.mono (by decide))
    | apply keeps_elapse (hI.mono (by decide))
    | apply keeps_takeLost (hI.mono (by decide))
    | refine sndEq ?_ (by assumption)
    | refine fstEq ?_ (by assumption)
    | refine snd2Eq ?_ (by assumption)
    | refine snd3Eq ?_ (by assumption)
    | refine optEq ?_ (by assumption)
    | (refine partMk hI ?_; first | assumption | refine sndEq ?_ (by assumption))
    | (intro t ht; beta_reduce)
    | (intro m; first | rfl | simp)

theorem keeps_scQualify (hI : Keeps [.recent, .log, .pod, .chan, .regs] I) (s : State) (x k : Nat) (h_s
    : I s) : I (State.scQualify s x k) := by
  unfold State.scQualify
  with_reducible repeat' first
    | assumption
    | (extract_lets -underBinder +onlyGivenNames x; have hx : I x := ?_; clear_value x; on_goal 2 => subst x)
    | (extract_lets -underBinder +onlyGivenNames x; clear_value x)
    | refine iteI (fun _ => ?_) (fun _ => ?_)
    | apply keeps_inc (hI.mono (by decide))
    | apply keeps_setGuard (hI.mono (by decide))
    | apply keeps_filterTaken (hI.mono (by decide))
    | apply keeps_set (hI.mono (by decide))
    | apply keeps_sourceOn hI
    | apply keeps_irq (hI.mono (by decide))
    | apply keeps_setMaskBit (hI.mono (by decide))
    | (refine partMk hI ?_; first | assumption | refine sndEq ?_ (by assumption))
    | (intro t ht; beta_reduce)
    | (intro m; first | rfl | simp)

theorem keeps_rdyNotReady (hI : Keeps [.recent, .log, .pod, .chan, .regs] I) (s : State) (x y : Nat)
    (h_s : I s) : I (State.rdyNotReady s x y) := by
  unfold State.rdyNotReady
  with_reducible repeat' first
    | assumption
    | (extract_lets -underBinder +onlyGivenNames x; have hx : I x := ?_; clear_value x; on_goal 2 => subst x)
    | (extract_lets -underBinder +onlyGivenNames x; clear_value x)
    | refine iteI (fun _ => ?_) (fun _ => ?_)
    | apply keeps_filterTaken (hI.mono (by decide))
    | apply keeps_sourceOn hI
    | apply keeps_irq (hI.mono (by decide))
    | apply keeps_setMaskBit (hI.mono (by decide))

theorem keeps_tripLow (hI : Keeps [.recent, .log, .pod, .chan, .regs] I) (s : State) (x n : Nat) (h_s :
    I s) : I (State.tripLow s x n) := by
  unfold State.tripLow
  with_reducible repeat' first
    | assumption
    | refine iteI (fun _ => ?_) (fun _ => ?_)
    | apply keeps_filterTaken (hI.mono (by decide))
    | apply keeps_sourceOn hI

theorem keeps_execFaultSourceActive (hI : Keeps [.now, .recent, .log, .pod, .chan, .regs] I) (dt : Nat)
    (x : Fin 8) (n : Fin 36) (s : State) (h_s : I s) : OutI I (execFaultSourceActive dt x n s) := by
  unfold execFaultSourceActive
  with_reducible repeat' first
    | assumption
    | (extract_lets -underBinder +onlyGivenNames x; have hx : I x := ?_; clear_value x; on_goal 2 => subst x)
    | (extract_lets -underBinder +onlyGivenNames x; clear_value x)
    | refine outNext ?_
    | refine iteI (fun _ => ?_) (fun _ => ?_)
    | refine iteOutI (fun _ => ?_) (fun _ => ?_)
    | apply keeps_rdyNotReady (hI.mono (by decide))
    | apply keeps_tripLow (hI.mono (by decide))
    | apply keeps_scQualify (hI.mono (by decide))
    | apply keeps_elapse (hI.mono (by decide))
    | apply keeps_sourceOn (hI.mono (by decide))

theorem keeps_rdyReady (hI : Keeps [.recent, .log, .pod, .chan, .regs] I) (s : State) (x y : Nat) (h_s
    : I s) : I (State.rdyReady s x y) := by
  unfold State.rdyReady
  with_reducible repeat' first
    | assumption
    | (extract_lets -underBinder +onlyGivenNames x; have hx : I x := ?_; clear_value x; on_goal 2 => subst x)
    | (extract_lets -underBinder +onlyGivenNames x; clear_value x)
    | refine iteI (fun _ => ?_) (fun _ => ?_)
    | apply keeps_putMaskBit (hI.mono (by decide))
    | apply keeps_filterTaken (hI.mono (by decide))
    | apply keeps_sourceOff hI

theorem keeps_execFaultSourceInactive (hI : Keeps [.now, .recent, .log, .pod, .chan, .regs] I) (dt :
    Nat) (x : Fin 8) (n : Fin 36) (s : State) (h_s : I s) : OutI I (execFaultSourceInactive dt x n s) := by
  unfold execFaultSourceInactive
  with_reducible repeat' first
    | assumption
    | (extract_lets -underBinder +onlyGivenNames x; have hx : I x := ?_; clear_value x; on_goal 2 => subst x)
    | (extract_lets -underBinder +onlyGivenNames x; clear_value x)
    | refine outNext ?_
    | refine iteI (fun _ => ?_) (fun _ => ?_)
    | refine iteOutI (fun _ => ?_) (fun _ => ?_)
    | apply keeps_setGuard (hI.mono (by decide))
    | apply keeps_filterTaken (hI.mono (by decide))
    | apply keeps_set (hI.mono (by decide))
    | apply keeps_rdyReady (hI.mono (by decide))
    | apply keeps_elapse (hI.mono (by decide))
    | apply keeps_sourceOff (hI.mono (by decide))
    | (refine partMk hI ?_; first | assumption | refine sndEq ?_ (by assumption))
    | (intro t ht; beta_reduce)
    | (intro m; first | rfl | simp)

theorem keeps_execScQualify (hI : Keeps [.now, .recent, .log, .pod, .chan, .regs] I) (dt : Nat) (x :
    Fin 8) (w : Fin 8) (s : State) (h_s : I s) : OutI I (execScQualify dt x w s) := by
  unfold execScQualify
  with_reducible repeat' first
    | assumption
    | (extract_lets -underBinder +onlyGivenNames x; have hx : I x := ?_; clear_value x; on_goal 2 => subst x)
    | (extract_lets -underBinder +onlyGivenNames x; clear_value x)
    | refine outNext ?_
    | refine iteI (fun _ => ?_) (fun _ => ?_)
    | refine iteOutI (fun _ => ?_) (fun _ => ?_)
    | apply keeps_scQualify (hI.mono (by decide))
    | apply keeps_elapse (hI.mono (by decide))

theorem keeps_execScStuck (hI : Keeps [.now, .recent, .log, .pod, .chan, .regs] I) (dt : Nat) (x : Fin
    8) (w : Fin 8) (s : State) (h_s : I s) : OutI I (execScStuck dt x w s) := by
  unfold execScStuck
  with_reducible repeat' first
    | assumption
    | (extract_lets -underBinder +onlyGivenNames x; have hx : I x := ?_; clear_value x; on_goal 2 => subst x)
    | (extract_lets -underBinder +onlyGivenNames x; clear_value x)
    | refine outNext ?_
    | refine iteI (fun _ => ?_) (fun _ => ?_)
    | refine iteOutI (fun _ => ?_) (fun _ => ?_)
    | split
    | apply keeps_setGuard (hI.mono (by decide))
    | apply keeps_set (hI.mono (by decide))
    | apply keeps_elapse (hI.mono (by decide))
    | apply keeps_irqLog (hI.mono (by decide))
    | apply keeps_setMaskBit (hI.mono (by decide))
    | apply keeps_latchGroup (hI.mono (by decide))
    | refine sndEq ?_ (by assumption)
    | refine fstEq ?_ (by assumption)
    | refine snd2Eq ?_ (by assumption)
    | refine snd3Eq ?_ (by assumption)
    | refine optEq ?_ (by assumption)
    | (refine partMk hI ?_; first | assumption | refine sndEq ?_ (by assumption))
    | (intro t ht; beta_reduce)
    | (intro m; first | rfl | simp)

theorem keeps_execRdyNotReady (hI : Keeps [.now, .recent, .log, .pod, .chan, .regs] I) (dt : Nat) (x :
    Fin 8) (y : Fin 4) (s : State) (h_s : I s) : OutI I (execRdyNotReady dt x y s) := by
  unfold execRdyNotReady
  with_reducible repeat' first
    | assumption
    | (extract_lets -underBinder +onlyGivenNames x; have hx : I x := ?_; clear_value x; on_goal 2 => subst x)
    | (extract_lets -underBinder +onlyGivenNames x; clear_value x)
    | refine outNext ?_
    | refine iteI (fun _ => ?_) (fun _ => ?_)
    | refine iteOutI (fun _ => ?_) (fun _ => ?_)
    | apply keeps_rdyNotReady (hI.mono (by decide))
    | apply keeps_elapse (hI.mono (by decide))

theorem keeps_execRdyBlankEnd (hI : Keeps [.now, .recent, .log, .pod, .chan, .regs] I) (dt : Nat) (x :
    Fin 8) (s : State) (h_s : I s) : OutI I (execRdyBlankEnd dt x s) := by
  unfold execRdyBlankEnd
  with_reducible repeat' first
    | assumption
    | (extract_lets -underBinder +onlyGivenNames x; have hx : I x := ?_; clear_value x; on_goal 2 => subst x)
    | (extract_lets -underBinder +onlyGivenNames x; clear_value x)
    | refine outNext ?_
    | refine iteI (fun _ => ?_) (fun _ => ?_)
    | refine iteOutI (fun _ => ?_) (fun _ => ?_)
    | refine foldlI ?_ (fun _ _ _ => ?_)
    | apply keeps_setGuard (hI.mono (by decide))
    | apply keeps_set (hI.mono (by decide))
    | apply keeps_elapse (hI.mono (by decide))
    | apply keeps_sourceOn (hI.mono (by decide))
    | apply keeps_irq (hI.mono (by decide))
    | (refine partMk hI ?_; first | assumption | refine sndEq ?_ (by assumption))
    | (intro t ht; beta_reduce)
    | (intro m; first | rfl | simp)

theorem keeps_execTripInput (hI : Keeps [.now, .recent, .log, .pod, .chan, .regs] I) (dt : Nat) (n :
    Fin 4) (s : State) (h_s : I s) : OutI I (execTripInput dt n s) := by
  unfold execTripInput
  with_reducible repeat' first
    | assumption
    | (extract_lets -underBinder +onlyGivenNames x; have hx : I x := ?_; clear_value x; on_goal 2 => subst x)
    | (extract_lets -underBinder +onlyGivenNames x; clear_value x)
    | refine outNext ?_
    | refine iteI (fun _ => ?_) (fun _ => ?_)
    | refine iteOutI (fun _ => ?_) (fun _ => ?_)
    | refine foldlI ?_ (fun _ _ _ => ?_)
    | apply keeps_tripLow (hI.mono (by decide))
    | apply keeps_elapse (hI.mono (by decide))
    | (intro t ht; beta_reduce)
    | (intro m; first | rfl | simp)

theorem keeps_execGroupWaitExpiry (hI : Keeps [.now, .recent, .log, .pod, .chan, .regs] I) (dt : Nat)
    (x : Fin 8) (g : Fin 16) (s : State) (h_s : I s) : OutI I (execGroupWaitExpiry dt x g s) := by
  unfold execGroupWaitExpiry
  with_reducible repeat' first
    | assumption
    | (extract_lets -underBinder +onlyGivenNames x; have hx : I x := ?_; clear_value x; on_goal 2 => subst x)
    | (extract_lets -underBinder +onlyGivenNames x; clear_value x)
    | refine outNext ?_
    | refine iteI (fun _ => ?_) (fun _ => ?_)
    | refine iteOutI (fun _ => ?_) (fun _ => ?_)
    | apply keeps_setGroup (hI.mono (by decide))
    | apply keeps_elapse (hI.mono (by decide))
    | apply keeps_escalateAll (hI.mono (by decide))
    | apply keeps_closeWindow (hI.mono (by decide))
    | (refine partMk hI ?_; first | assumption | refine sndEq ?_ (by assumption))
    | (intro t ht; beta_reduce)
    | (intro m; first | rfl | simp)

theorem keeps_execGroupRelease (hI : Keeps [.now, .recent, .log, .pod, .chan, .regs] I) (dt : Nat) (x :
    Fin 8) (g : Fin 16) (s : State) (h_s : I s) : OutI I (execGroupRelease dt x g s) := by
  unfold execGroupRelease
  with_reducible repeat' first
    | assumption
    | (extract_lets -underBinder +onlyGivenNames x; have hx : I x := ?_; clear_value x; on_goal 2 => subst x)
    | (extract_lets -underBinder +onlyGivenNames x; clear_value x)
    | refine outNext ?_
    | refine iteI (fun _ => ?_) (fun _ => ?_)
    | refine iteOutI (fun _ => ?_) (fun _ => ?_)
    | apply keeps_setGroup (hI.mono (by decide))
    | apply keeps_putMaskBit (hI.mono (by decide))
    | apply keeps_elapse (hI.mono (by decide))
    | apply keeps_escalateAll (hI.mono (by decide))
    | apply keeps_setB (hI.mono (by decide))
    | apply keeps_closeWindow (hI.mono (by decide))
    | (refine partMk hI ?_; first | assumption | refine sndEq ?_ (by assumption))
    | (intro t ht; beta_reduce)
    | (intro m; first | rfl | simp)

theorem keeps_execGroupWindowClose (hI : Keeps [.now, .recent, .log, .pod, .regs] I) (dt : Nat) (x :
    Fin 8) (g : Fin 16) (s : State) (h_s : I s) : OutI I (execGroupWindowClose dt x g s) := by
  unfold execGroupWindowClose
  with_reducible repeat' first
    | assumption
    | (extract_lets -underBinder +onlyGivenNames x; have hx : I x := ?_; clear_value x; on_goal 2 => subst x)
    | (extract_lets -underBinder +onlyGivenNames x; clear_value x)
    | refine outNext ?_
    | refine iteI (fun _ => ?_) (fun _ => ?_)
    | refine iteOutI (fun _ => ?_) (fun _ => ?_)
    | apply keeps_elapse (hI.mono (by decide))
    | apply keeps_escalateAll (hI.mono (by decide))
    | apply keeps_closeWindow (hI.mono (by decide))

theorem keeps_clearLatches (hI : Keeps [.recent, .log, .pod, .regs] I) (s : State) (x mask : Nat) (h_s
    : I s) : I (State.clearLatches s x mask) := by
  unfold State.clearLatches
  with_reducible repeat' first
    | assumption
    | (extract_lets -underBinder +onlyGivenNames x; have hx : I x := ?_; clear_value x; on_goal 2 => subst x)
    | (extract_lets -underBinder +onlyGivenNames x; clear_value x)
    | refine iteI (fun _ => ?_) (fun _ => ?_)
    | refine foldlI ?_ (fun _ _ _ => ?_)
    | apply keeps_guardSync (hI.mono (by decide))
    | apply keeps_set (hI.mono (by decide))
    | apply keeps_err (hI.mono (by decide))
    | apply keeps_escalateAll hI
    | apply keeps_setB (hI.mono (by decide))
    | (intro t ht; beta_reduce)
    | (intro m; first | rfl | simp)

theorem keeps_execLatchClear (hI : Keeps [.now, .recent, .log, .pod, .regs] I) (dt : Nat) (x : Fin 8)
    (mask : Fin 65536) (s : State) (h_s : I s) : OutI I (execLatchClear dt x mask s) := by
  unfold execLatchClear
  with_reducible repeat' first
    | assumption
    | refine outNext ?_
    | apply keeps_clearLatches (hI.mono (by decide))
    | apply keeps_elapse (hI.mono (by decide))
    | apply keeps_hostAct (hI.mono (by decide))
    | (intro t ht; beta_reduce)
    | (intro m; first | rfl | simp)

theorem keeps_fbShows (hI : Keeps [.recent, .freeCtr, .log, .pod, .chan, .regs] I) (s : State) (x :
    Nat) (opened : Bool) (h_s : I s) : I (State.fbShows s x opened) := by
  unfold State.fbShows
  with_reducible repeat' first
    | assumption
    | (extract_lets -underBinder +onlyGivenNames x; have hx : I x := ?_; clear_value x; on_goal 2 => subst x)
    | (extract_lets -underBinder +onlyGivenNames x; have hfn : ∀ (t : State) (a b : Nat), I t → I (x t a b).1 := ?_; clear_value x; on_goal 2 => subst x)
    | (extract_lets -underBinder +onlyGivenNames x; have hfn : ∀ (t : State) (a : Nat), I t → I (x t a) := ?_; clear_value x; on_goal 2 => subst x)
    | (extract_lets -underBinder +onlyGivenNames x; have hfn : ∀ (t : State), I t → I (x t) := ?_; clear_value x; on_goal 2 => subst x)
    | (extract_lets -underBinder +onlyGivenNames x; have hfn : ∀ (t : State) (a b : Bool), I t → I (x t a b) := ?_; clear_value x; on_goal 2 => subst x)
    | apply hfn
    | (intro t a b ht; beta_reduce)
    | (intro t a ht; beta_reduce)
    | (extract_lets -underBinder +onlyGivenNames x; clear_value x)
    | refine iteI (fun _ => ?_) (fun _ => ?_)
    | apply keeps_setGuard (hI.mono (by decide))
    | apply keeps_cellEnter (hI.mono (by decide))
    | apply keeps_setB (hI.mono (by decide))
    | apply keeps_channelFault (hI.mono (by decide))
    | apply keeps_irqLog (hI.mono (by decide))
    | apply keeps_joinOpened (hI.mono (by decide))
    | (refine partMk hI ?_; first | assumption | refine sndEq ?_ (by assumption))
    | (intro t ht; beta_reduce)
    | (intro m; first | rfl | simp)

theorem keeps_execBypFbChange (hI : Keeps [.now, .recent, .freeCtr, .log, .pod, .chan, .regs] I) (dt :
    Nat) (x : Fin 8) (level : Bool) (s : State) (h_s : I s) : OutI I (execBypFbChange dt x level s) := by
  unfold execBypFbChange
  with_reducible repeat' first
    | assumption
    | (extract_lets -underBinder +onlyGivenNames x; have hx : I x := ?_; clear_value x; on_goal 2 => subst x)
    | (extract_lets -underBinder +onlyGivenNames x; clear_value x)
    | refine outNext ?_
    | refine iteI (fun _ => ?_) (fun _ => ?_)
    | refine iteOutI (fun _ => ?_) (fun _ => ?_)
    | apply keeps_fbShows (hI.mono (by decide))
    | apply keeps_filterTaken (hI.mono (by decide))
    | apply keeps_elapse (hI.mono (by decide))

theorem keeps_bypCfgWrite (hI : Keeps [.recent, .freeCtr, .log, .pod, .chan, .regs] I) (s : State) (x v
    : Nat) (h_s : I s) : I (State.bypCfgWrite s x v) := by
  unfold State.bypCfgWrite
  with_reducible repeat' first
    | assumption
    | (extract_lets -underBinder +onlyGivenNames x; have hx : I x := ?_; clear_value x; on_goal 2 => subst x)
    | (extract_lets -underBinder +onlyGivenNames x; clear_value x)
    | refine iteI (fun _ => ?_) (fun _ => ?_)
    | apply keeps_fbShows hI
    | apply keeps_set (hI.mono (by decide))
    | apply keeps_err (hI.mono (by decide))

theorem keeps_execBypOpenCheckExpiry (hI : Keeps [.now, .recent, .log, .pod, .chan, .regs] I) (dt :
    Nat) (x : Fin 8) (s : State) (h_s : I s) : OutI I (execBypOpenCheckExpiry dt x s) := by
  unfold execBypOpenCheckExpiry
  with_reducible repeat' first
    | assumption
    | (extract_lets -underBinder +onlyGivenNames x; have hx : I x := ?_; clear_value x; on_goal 2 => subst x)
    | (extract_lets -underBinder +onlyGivenNames x; clear_value x)
    | refine outNext ?_
    | refine iteI (fun _ => ?_) (fun _ => ?_)
    | refine iteOutI (fun _ => ?_) (fun _ => ?_)
    | split
    | apply keeps_elapse (hI.mono (by decide))
    | apply keeps_setB (hI.mono (by decide))
    | apply keeps_channelFault (hI.mono (by decide))
    | apply keeps_irqLog (hI.mono (by decide))
    | refine sndEq ?_ (by assumption)
    | refine fstEq ?_ (by assumption)
    | refine snd2Eq ?_ (by assumption)
    | refine snd3Eq ?_ (by assumption)
    | refine optEq ?_ (by assumption)
    | (refine partMk hI ?_; first | assumption | refine sndEq ?_ (by assumption))

theorem keeps_execBypCloseCheckExpiry (hI : Keeps [.now, .recent, .log, .pod, .chan, .regs] I) (dt :
    Nat) (x : Fin 8) (s : State) (h_s : I s) : OutI I (execBypCloseCheckExpiry dt x s) := by
  unfold execBypCloseCheckExpiry
  with_reducible repeat' first
    | assumption
    | (extract_lets -underBinder +onlyGivenNames x; have hx : I x := ?_; clear_value x; on_goal 2 => subst x)
    | (extract_lets -underBinder +onlyGivenNames x; clear_value x)
    | refine outNext ?_
    | refine iteI (fun _ => ?_) (fun _ => ?_)
    | refine iteOutI (fun _ => ?_) (fun _ => ?_)
    | split
    | apply keeps_setGuard (hI.mono (by decide))
    | apply keeps_cellEnter (hI.mono (by decide))
    | apply keeps_elapse (hI.mono (by decide))
    | apply keeps_irq (hI.mono (by decide))
    | apply keeps_setB (hI.mono (by decide))
    | apply keeps_irqLog (hI.mono (by decide))
    | refine sndEq ?_ (by assumption)
    | refine fstEq ?_ (by assumption)
    | refine snd2Eq ?_ (by assumption)
    | refine snd3Eq ?_ (by assumption)
    | refine optEq ?_ (by assumption)
    | (refine partMk hI ?_; first | assumption | refine sndEq ?_ (by assumption))
    | (intro t ht; beta_reduce)
    | (intro m; first | rfl | simp)

theorem keeps_mboxData (hI : Keeps [.regs] I) (s : State) (a : Nat) (l : List Nat) (h_s : I s) : I
    (State.mboxData s a l) := by
  induction l generalizing s a with
  | nil => exact h_s
  | cons a l ih => exact ih _ _ (keeps_set hI _ _ _ h_s)

theorem keeps_mboxAnswer (hI : Keeps [.recent, .pod, .hw, .regs] I) (s : State) (code : Nat) (data :
    List Nat) (count : Nat) (h_s : I s) : I (State.mboxAnswer s code data count) := by
  unfold State.mboxAnswer
  with_reducible repeat' first
    | assumption
    | (extract_lets -underBinder +onlyGivenNames x; have hx : I x := ?_; clear_value x; on_goal 2 => subst x)
    | (extract_lets -underBinder +onlyGivenNames x; clear_value x)
    | apply keeps_modHw (hI.mono (by decide))
    | apply keeps_set (hI.mono (by decide))
    | apply keeps_irq (hI.mono (by decide))
    | apply keeps_setB (hI.mono (by decide))
    | apply keeps_mboxData (hI.mono (by decide))
    | (refine partMk hI ?_; first | assumption | refine sndEq ?_ (by assumption))
    | (intro t ht; beta_reduce)
    | (intro m; first | rfl | simp)

theorem keeps_mboxBusy (hI : Keeps [.recent, .pod, .hw, .regs] I) (s : State) (h_s : I s) : I
    (State.mboxBusy s) := by
  unfold State.mboxBusy
  with_reducible repeat' first
    | assumption
    | apply keeps_inc (hI.mono (by decide))
    | apply keeps_irq (hI.mono (by decide))
    | apply keeps_mboxAnswer hI

theorem keeps_mailServe (hI : Keeps [.recent, .pod, .hw, .regs] I) (s : State) (h_s : I s) : I
    (State.mailServe s) := by
  unfold State.mailServe
  with_reducible repeat' first
    | assumption
    | (extract_lets -underBinder +onlyGivenNames x; have hx : I x := ?_; clear_value x; on_goal 2 => subst x)
    | (extract_lets -underBinder +onlyGivenNames x; clear_value x)
    | refine iteI (fun _ => ?_) (fun _ => ?_)
    | apply keeps_modHw (hI.mono (by decide))
    | apply keeps_set (hI.mono (by decide))
    | apply keeps_mboxBusy hI
    | (refine partMk hI ?_; first | assumption | refine sndEq ?_ (by assumption))
    | (intro t ht; beta_reduce)
    | (intro m; first | rfl | simp)

theorem keeps_mboxGo (hI : Keeps [.recent, .pod, .hw, .regs] I) (s : State) (h_s : I s) : I
    (State.mboxGo s) := by
  unfold State.mboxGo
  with_reducible repeat' first
    | assumption
    | (extract_lets -underBinder +onlyGivenNames x; have hx : I x := ?_; clear_value x; on_goal 2 => subst x)
    | (extract_lets -underBinder +onlyGivenNames x; clear_value x)
    | refine iteI (fun _ => ?_) (fun _ => ?_)
    | apply keeps_modHw (hI.mono (by decide))
    | apply keeps_set (hI.mono (by decide))
    | apply keeps_err (hI.mono (by decide))
    | apply keeps_setB (hI.mono (by decide))
    | apply keeps_mboxBusy hI
    | apply keeps_mailServe hI
    | (refine partMk hI ?_; first | assumption | refine sndEq ?_ (by assumption))
    | (intro t ht; beta_reduce)
    | (intro m; first | rfl | simp)

theorem keeps_mailDone (hI : Keeps [.hw, .regs] I) (s : State) (h_s : I s) : I (State.mailDone s) := by
  unfold State.mailDone
  with_reducible repeat' first
    | assumption
    | (extract_lets -underBinder +onlyGivenNames x; have hx : I x := ?_; clear_value x; on_goal 2 => subst x)
    | (extract_lets -underBinder +onlyGivenNames x; clear_value x)
    | apply keeps_modHw (hI.mono (by decide))
    | apply keeps_set (hI.mono (by decide))
    | apply keeps_setSat (hI.mono (by decide))
    | (refine partMk hI ?_; first | assumption | refine sndEq ?_ (by assumption))
    | (intro t ht; beta_reduce)
    | (intro m; first | rfl | simp)

theorem keeps_execIdentity (hI : Keeps [.now, .recent, .pod, .hw, .regs] I) (dt : Nat) (s : State) (h_s
    : I s) : OutI I (execIdentity dt s) := by
  unfold execIdentity
  with_reducible repeat' first
    | assumption
    | (extract_lets -underBinder +onlyGivenNames x; have hx : I x := ?_; clear_value x; on_goal 2 => subst x)
    | (extract_lets -underBinder +onlyGivenNames x; clear_value x)
    | refine outNext ?_
    | refine iteI (fun _ => ?_) (fun _ => ?_)
    | refine iteOutI (fun _ => ?_) (fun _ => ?_)
    | apply keeps_mailDone (hI.mono (by decide))
    | apply keeps_elapse (hI.mono (by decide))
    | apply keeps_mboxAnswer (hI.mono (by decide))

theorem keeps_execImageStatus (hI : Keeps [.now, .recent, .pod, .hw, .regs] I) (dt : Nat) (s : State)
    (h_s : I s) : OutI I (execImageStatus dt s) := by
  unfold execImageStatus
  with_reducible repeat' first
    | assumption
    | (extract_lets -underBinder +onlyGivenNames x; have hx : I x := ?_; clear_value x; on_goal 2 => subst x)
    | (extract_lets -underBinder +onlyGivenNames x; clear_value x)
    | refine outNext ?_
    | refine iteI (fun _ => ?_) (fun _ => ?_)
    | refine iteOutI (fun _ => ?_) (fun _ => ?_)
    | apply keeps_mailDone (hI.mono (by decide))
    | apply keeps_elapse (hI.mono (by decide))
    | apply keeps_mboxAnswer (hI.mono (by decide))
    | (intro t ht; beta_reduce)
    | (intro m; first | rfl | simp)

theorem keeps_execLogRead (hI : Keeps [.now, .recent, .pod, .hw, .regs] I) (dt : Nat) (s : State) (h_s
    : I s) : OutI I (execLogRead dt s) := by
  unfold execLogRead
  with_reducible repeat' first
    | assumption
    | (extract_lets -underBinder +onlyGivenNames x; have hx : I x := ?_; clear_value x; on_goal 2 => subst x)
    | (extract_lets -underBinder +onlyGivenNames x; clear_value x)
    | refine outNext ?_
    | refine iteI (fun _ => ?_) (fun _ => ?_)
    | refine iteOutI (fun _ => ?_) (fun _ => ?_)
    | refine foldlI ?_ (fun _ _ _ => ?_)
    | apply keeps_mailDone (hI.mono (by decide))
    | apply keeps_elapse (hI.mono (by decide))
    | apply keeps_mboxAnswer (hI.mono (by decide))
    | apply keeps_logReads (hI.mono (by decide))
    | (intro t ht; beta_reduce)
    | (intro m; first | rfl | simp)

theorem keeps_execKeyProvision (hI : Keeps [.now, .recent, .pod, .hw, .regs] I) (dt : Nat) (s : State)
    (h_s : I s) : OutI I (execKeyProvision dt s) := by
  unfold execKeyProvision
  with_reducible repeat' first
    | assumption
    | (extract_lets -underBinder +onlyGivenNames x; have hx : I x := ?_; clear_value x; on_goal 2 => subst x)
    | (extract_lets -underBinder +onlyGivenNames x; clear_value x)
    | refine outNext ?_
    | refine iteI (fun _ => ?_) (fun _ => ?_)
    | refine iteOutI (fun _ => ?_) (fun _ => ?_)
    | apply keeps_modHw (hI.mono (by decide))
    | apply keeps_mailDone (hI.mono (by decide))
    | apply keeps_elapse (hI.mono (by decide))
    | apply keeps_mboxAnswer (hI.mono (by decide))
    | (refine partMk hI ?_; first | assumption | refine sndEq ?_ (by assumption))
    | (intro t ht; beta_reduce)
    | (intro m; first | rfl | simp)

theorem keeps_execUnknownService (hI : Keeps [.now, .recent, .pod, .hw, .regs] I) (dt : Nat) (s :
    State) (h_s : I s) : OutI I (execUnknownService dt s) := by
  unfold execUnknownService
  with_reducible repeat' first
    | assumption
    | (extract_lets -underBinder +onlyGivenNames x; have hx : I x := ?_; clear_value x; on_goal 2 => subst x)
    | (extract_lets -underBinder +onlyGivenNames x; clear_value x)
    | refine outNext ?_
    | refine iteI (fun _ => ?_) (fun _ => ?_)
    | refine iteOutI (fun _ => ?_) (fun _ => ?_)
    | apply keeps_mailDone (hI.mono (by decide))
    | apply keeps_elapse (hI.mono (by decide))
    | apply keeps_mboxAnswer (hI.mono (by decide))

theorem keeps_execFuseProgramDone (hI : Keeps [.now, .fuse, .hw, .regs] I) (dt : Nat) (back : Nat) (s :
    State) (h_s : I s) : OutI I (execFuseProgramDone dt back s) := by
  unfold execFuseProgramDone
  with_reducible repeat' first
    | assumption
    | (extract_lets -underBinder +onlyGivenNames x; have hx : I x := ?_; clear_value x; on_goal 2 => subst x)
    | (extract_lets -underBinder +onlyGivenNames x; clear_value x)
    | refine outNext ?_
    | refine iteI (fun _ => ?_) (fun _ => ?_)
    | refine iteOutI (fun _ => ?_) (fun _ => ?_)
    | split
    | apply keeps_modHw (hI.mono (by decide))
    | apply keeps_set (hI.mono (by decide))
    | apply keeps_elapse (hI.mono (by decide))
    | refine sndEq ?_ (by assumption)
    | refine fstEq ?_ (by assumption)
    | refine snd2Eq ?_ (by assumption)
    | refine snd3Eq ?_ (by assumption)
    | refine optEq ?_ (by assumption)
    | (refine partMk hI ?_; first | assumption | refine sndEq ?_ (by assumption))
    | (intro t ht; beta_reduce)
    | (intro m; first | rfl | simp)

theorem keeps_fusePoll (hI : Keeps [.recent, .pod, .hw, .regs] I) (s : State) (h_s : I s) : I
    (State.fusePoll s) := by
  unfold State.fusePoll
  with_reducible repeat' first
    | assumption
    | (extract_lets -underBinder +onlyGivenNames x; have hx : I x := ?_; clear_value x; on_goal 2 => subst x)
    | (extract_lets -underBinder +onlyGivenNames x; clear_value x)
    | refine iteI (fun _ => ?_) (fun _ => ?_)
    | split
    | apply keeps_modHw (hI.mono (by decide))
    | apply keeps_mboxAnswer hI
    | refine sndEq ?_ (by assumption)
    | refine fstEq ?_ (by assumption)
    | refine snd2Eq ?_ (by assumption)
    | refine snd3Eq ?_ (by assumption)
    | refine optEq ?_ (by assumption)
    | (refine partMk hI ?_; first | assumption | refine sndEq ?_ (by assumption))
    | (intro t ht; beta_reduce)
    | (intro m; first | rfl | simp)

theorem keeps_sliceMeet (hI : Keeps [.recent, .regs] I) (s : State) (k : Nat) (h_s : I s) : I
    (State.sliceMeet s k) := by
  unfold State.sliceMeet
  with_reducible repeat' first
    | assumption
    | refine iteI (fun _ => ?_) (fun _ => ?_)
    | split
    | apply keeps_dlMeet hI
    | refine sndEq ?_ (by assumption)
    | refine fstEq ?_ (by assumption)
    | refine snd2Eq ?_ (by assumption)
    | refine snd3Eq ?_ (by assumption)
    | refine optEq ?_ (by assumption)
    | (refine partMk hI ?_; first | assumption | refine sndEq ?_ (by assumption))

theorem keeps_sliceMiss (hI : Keeps [.recent, .sys, .log, .pod, .safe, .hw, .chan, .regs] I) (s :
    State) (k : Nat) (h_s : I s) : I (State.sliceMiss s k) := by
  unfold State.sliceMiss
  with_reducible repeat' first
    | assumption
    | (extract_lets -underBinder +onlyGivenNames x; have hx : I x := ?_; clear_value x; on_goal 2 => subst x)
    | (extract_lets -underBinder +onlyGivenNames x; clear_value x)
    | refine iteI (fun _ => ?_) (fun _ => ?_)
    | split
    | apply keeps_modHw (hI.mono (by decide))
    | apply keeps_dlMiss (hI.mono (by decide))
    | apply keeps_set (hI.mono (by decide))
    | apply keeps_burlSafe (hI.mono (by decide))
    | refine sndEq ?_ (by assumption)
    | refine fstEq ?_ (by assumption)
    | refine snd2Eq ?_ (by assumption)
    | refine snd3Eq ?_ (by assumption)
    | refine optEq ?_ (by assumption)
    | (refine partMk hI ?_; first | assumption | refine sndEq ?_ (by assumption))
    | (intro t ht; beta_reduce)
    | (intro m; first | rfl | simp)

theorem keeps_sliceEnd (hI : Keeps [.recent, .sys, .log, .pod, .safe, .hw, .chan, .regs] I) (s : State)
    (k : Nat) (h_s : I s) : I (State.sliceEnd s k) := by
  unfold State.sliceEnd
  with_reducible repeat' first
    | assumption
    | (extract_lets -underBinder +onlyGivenNames x; have hx : I x := ?_; clear_value x; on_goal 2 => subst x)
    | (extract_lets -underBinder +onlyGivenNames x; clear_value x)
    | refine iteI (fun _ => ?_) (fun _ => ?_)
    | apply keeps_modHw (hI.mono (by decide))
    | apply keeps_set (hI.mono (by decide))
    | apply keeps_sliceMiss hI
    | apply keeps_sliceMeet (hI.mono (by decide))
    | apply keeps_setSat (hI.mono (by decide))
    | (refine partMk hI ?_; first | assumption | refine sndEq ?_ (by assumption))
    | (intro t ht; beta_reduce)
    | (intro m; first | rfl | simp)

theorem keeps_execHeartwoodFrame (hI : Keeps [.now, .recent, .sys, .log, .pod, .safe, .hw, .chan,
    .regs] I) (dt : Nat) (s : State) (h_s : I s) : OutI I (execHeartwoodFrame dt s) := by
  unfold execHeartwoodFrame
  with_reducible repeat' first
    | assumption
    | (extract_lets -underBinder +onlyGivenNames x; have hx : I x := ?_; clear_value x; on_goal 2 => subst x)
    | (extract_lets -underBinder +onlyGivenNames x; clear_value x)
    | refine outNext ?_
    | refine iteI (fun _ => ?_) (fun _ => ?_)
    | refine iteOutI (fun _ => ?_) (fun _ => ?_)
    | refine foldlI ?_ (fun _ _ _ => ?_)
    | apply keeps_exchange (hI.mono (by decide))
    | apply keeps_modHw (hI.mono (by decide))
    | apply keeps_modSys (hI.mono (by decide))
    | apply keeps_set (hI.mono (by decide))
    | apply keeps_sliceMiss (hI.mono (by decide))
    | apply keeps_elapse (hI.mono (by decide))
    | apply keeps_sliceMeet (hI.mono (by decide))
    | apply keeps_evalRecord (hI.mono (by decide))
    | apply keeps_takeLost (hI.mono (by decide))
    | (refine partMk hI ?_; first | assumption | refine sndEq ?_ (by assumption))
    | (intro t ht; beta_reduce)
    | (intro m; first | rfl | simp)

theorem keeps_execGylenSlice (hI : Keeps [.now, .recent, .sys, .log, .pod, .gyl, .safe, .hw, .chan,
    .arm, .ride, .capt, .regs] I) (dt : Nat) (s : State) (h_s : I s) : OutI I (execGylenSlice dt s) := by
  unfold execGylenSlice
  with_reducible repeat' first
    | assumption
    | (extract_lets -underBinder +onlyGivenNames x; have hx : I x := ?_; clear_value x; on_goal 2 => subst x)
    | (extract_lets -underBinder +onlyGivenNames x; clear_value x)
    | refine outNext ?_
    | refine iteI (fun _ => ?_) (fun _ => ?_)
    | refine iteOutI (fun _ => ?_) (fun _ => ?_)
    | apply keeps_modHw (hI.mono (by decide))
    | apply keeps_gylSliceWork (hI.mono (by decide))
    | apply keeps_elapse (hI.mono (by decide))
    | apply keeps_sliceEnd (hI.mono (by decide))
    | (refine partMk hI ?_; first | assumption | refine sndEq ?_ (by assumption))
    | (intro t ht; beta_reduce)
    | (intro m; first | rfl | simp)

theorem keeps_tamperRecords (hI : Keeps [.recent, .sys, .log, .pod, .regs] I) (s : State) (h_s : I s) :
    I (State.tamperRecords s) := by
  unfold State.tamperRecords
  with_reducible repeat' first
    | assumption
    | (extract_lets -underBinder +onlyGivenNames x; have hx : I x := ?_; clear_value x; on_goal 2 => subst x)
    | (extract_lets -underBinder +onlyGivenNames x; clear_value x)
    | refine foldlI ?_ (fun _ _ _ => ?_)
    | apply keeps_modSys (hI.mono (by decide))
    | apply keeps_irq (hI.mono (by decide))
    | apply keeps_submit (hI.mono (by decide))
    | (refine partMk hI ?_; first | assumption | refine sndEq ?_ (by assumption))
    | (intro t ht; beta_reduce)
    | (intro m; first | rfl | simp)

theorem keeps_bootTests (hI : Keeps [.recent, .pod, .chan, .regs] I) (s : State) (h_s : I s) : I
    (State.bootTests s) := by
  unfold State.bootTests
  with_reducible repeat' first
    | assumption
    | (extract_lets -underBinder +onlyGivenNames x; have hx : I x := ?_; clear_value x; on_goal 2 => subst x)
    | (extract_lets -underBinder +onlyGivenNames x; clear_value x)
    | refine iteI (fun _ => ?_) (fun _ => ?_)
    | refine foldlI ?_ (fun _ _ _ => ?_)
    | apply keeps_keTest hI
    | apply keeps_setKe (hI.mono (by decide))
    | (refine partMk hI ?_; first | assumption | refine sndEq ?_ (by assumption))
    | (intro t ht; beta_reduce)
    | (intro m; first | rfl | simp)

theorem keeps_execHousekeepingSlice (hI : Keeps [.now, .recent, .sys, .log, .pod, .safe, .hw, .chan,
    .regs] I) (dt : Nat) (s : State) (h_s : I s) : OutI I (execHousekeepingSlice dt s) := by
  unfold execHousekeepingSlice
  with_reducible repeat' first
    | assumption
    | (extract_lets -underBinder +onlyGivenNames x; have hx : I x := ?_; clear_value x; on_goal 2 => subst x)
    | (extract_lets -underBinder +onlyGivenNames x; clear_value x)
    | refine outNext ?_
    | refine iteI (fun _ => ?_) (fun _ => ?_)
    | refine iteOutI (fun _ => ?_) (fun _ => ?_)
    | apply keeps_bootTests (hI.mono (by decide))
    | apply keeps_modHw (hI.mono (by decide))
    | apply keeps_tamperRecords (hI.mono (by decide))
    | apply keeps_elapse (hI.mono (by decide))
    | apply keeps_sliceEnd (hI.mono (by decide))
    | (refine partMk hI ?_; first | assumption | refine sndEq ?_ (by assumption))
    | (intro t ht; beta_reduce)
    | (intro m; first | rfl | simp)

theorem keeps_execMailboxSlice (hI : Keeps [.now, .recent, .sys, .log, .pod, .safe, .hw, .chan, .regs]
    I) (dt : Nat) (s : State) (h_s : I s) : OutI I (execMailboxSlice dt s) := by
  unfold execMailboxSlice
  with_reducible repeat' first
    | assumption
    | (extract_lets -underBinder +onlyGivenNames x; have hx : I x := ?_; clear_value x; on_goal 2 => subst x)
    | (extract_lets -underBinder +onlyGivenNames x; clear_value x)
    | refine outNext ?_
    | refine iteI (fun _ => ?_) (fun _ => ?_)
    | refine iteOutI (fun _ => ?_) (fun _ => ?_)
    | apply keeps_modHw (hI.mono (by decide))
    | apply keeps_set (hI.mono (by decide))
    | apply keeps_elapse (hI.mono (by decide))
    | apply keeps_fusePoll (hI.mono (by decide))
    | apply keeps_sliceEnd (hI.mono (by decide))
    | apply keeps_mailServe (hI.mono (by decide))
    | (refine partMk hI ?_; first | assumption | refine sndEq ?_ (by assumption))
    | (intro t ht; beta_reduce)
    | (intro m; first | rfl | simp)

end Sys2Proof.Machine
end

