-- ==== Sys2Proof/Laws/KeepsPages.lean ====
section
/-! SUPPORT. Which parts of the state may change in the operations and the commands of reads of the fabric and the small blocks. -/

set_option linter.unusedTactic false
set_option linter.unreachableTactic false

namespace Sys2Proof.Machine

-- One proof after another: many at once wait for the same equations, each in a thread of its own.
set_option Elab.async false

variable {I : State → Prop}

theorem keeps_dropShadow (hI : Keeps [.shadow] I) (s : State) (port : Nat) (r : Reg) (h_s : I s) : I
    (State.dropShadow s port r) := by
  unfold State.dropShadow
  with_reducible repeat' first
    | assumption
    | (extract_lets -underBinder +onlyGivenNames x; have hx : I x := ?_; clear_value x; on_goal 2 => subst x)
    | (extract_lets -underBinder +onlyGivenNames x; clear_value x)
    | (refine partMk hI ?_; first | assumption | refine sndEq ?_ (by assumption))
    | (intro t ht; beta_reduce)
    | (intro m; first | rfl | simp)

theorem keeps_snLow (hI : Keeps [.shadow, .regs] I) (s : State) (port : Nat) (r : Reg) (h_s : I s) : I
    (State.snLow s port r).2 := by
  unfold State.snLow
  with_reducible repeat' first
    | assumption
    | (extract_lets -underBinder +onlyGivenNames x; have hx : I x := ?_; clear_value x; on_goal 2 => subst x)
    | (extract_lets -underBinder +onlyGivenNames x; clear_value x)
    | refine iteI (fun _ => ?_) (fun _ => ?_)
    | split
    | apply keeps_dropShadow (hI.mono (by decide))
    | apply keeps_incWrap (hI.mono (by decide))
    | (refine partMk hI ?_; first | assumption | refine sndEq ?_ (by assumption))

theorem keeps_snHigh (hI : Keeps [.shadow, .recent, .regs] I) (s : State) (port : Nat) (r : Reg) (h_s :
    I s) : I (State.snHigh s port r).2 := by
  unfold State.snHigh
  with_reducible repeat' first
    | assumption
    | (extract_lets -underBinder +onlyGivenNames x; have hx : I x := ?_; clear_value x; on_goal 2 => subst x)
    | (extract_lets -underBinder +onlyGivenNames x; clear_value x)
    | refine iteI (fun _ => ?_) (fun _ => ?_)
    | split
    | apply keeps_dropShadow (hI.mono (by decide))
    | apply keeps_setB (hI.mono (by decide))
    | refine sndEq ?_ (by assumption)
    | refine fstEq ?_ (by assumption)
    | refine snd2Eq ?_ (by assumption)
    | refine snd3Eq ?_ (by assumption)
    | refine optEq ?_ (by assumption)
    | (refine partMk hI ?_; first | assumption | refine sndEq ?_ (by assumption))

theorem keeps_snRead (hI : Keeps [.shadow, .recent, .regs] I) (s : State) (port ofs : Nat) (r : Reg)
    (h_s : I s) : I (State.snRead s port ofs r).2 := by
  unfold State.snRead
  with_reducible repeat' first
    | assumption
    | refine iteI (fun _ => ?_) (fun _ => ?_)
    | split
    | apply keeps_snLow (hI.mono (by decide))
    | apply keeps_snHigh hI

theorem keeps_pageRead (hI : Keeps [.shadow, .recent, .freeCtr, .log, .ring, .pod, .eth, .regs, .mem]
    I) (s : State) (port p ofs : Nat) (h_s : I s) : I (State.pageRead s port p ofs).2 := by
  unfold State.pageRead
  with_reducible repeat' first
    | assumption
    | refine iteI (fun _ => ?_) (fun _ => ?_)
    | split
    | apply keeps_snRead (hI.mono (by decide))
    | apply keeps_qdataRead (hI.mono (by decide))
    | refine sndEq ?_ (by assumption)
    | refine fstEq ?_ (by assumption)
    | refine snd2Eq ?_ (by assumption)
    | refine snd3Eq ?_ (by assumption)
    | refine optEq ?_ (by assumption)
    | (refine partMk hI ?_; first | assumption | refine sndEq ?_ (by assumption))

theorem keeps_tableRead (hI : Keeps [.dblTable, .dblCapt, .recent, .log, .pod, .regs] I) (s : State) (a
    : Nat) (h_s : I s) : I (State.tableRead s a).2 := by
  unfold State.tableRead
  with_reducible repeat' first
    | assumption
    | (extract_lets -underBinder +onlyGivenNames x; have hx : I x := ?_; clear_value x; on_goal 2 => subst x)
    | (extract_lets -underBinder +onlyGivenNames x; clear_value x)
    | refine iteI (fun _ => ?_) (fun _ => ?_)
    | split
    | apply keeps_errHost (hI.mono (by decide))
    | apply keeps_recordDouble (hI.mono (by decide))

theorem keeps_captRead (hI : Keeps [.dblTable, .dblCapt, .recent, .log, .pod, .regs, .ecc, .mem] I) (s
    : State) (a : Nat) (h_s : I s) : I (State.captRead s a).2 := by
  unfold State.captRead
  with_reducible repeat' first
    | assumption
    | (extract_lets -underBinder +onlyGivenNames x; have hx : I x := ?_; clear_value x; on_goal 2 => subst x)
    | (extract_lets -underBinder +onlyGivenNames x; clear_value x)
    | refine iteI (fun _ => ?_) (fun _ => ?_)
    | split
    | apply keeps_captPut (hI.mono (by decide))
    | apply keeps_errHost (hI.mono (by decide))
    | apply keeps_recordDouble (hI.mono (by decide))
    | apply keeps_captInvalid (hI.mono (by decide))

theorem keeps_logReadWord (hI : Keeps [.recent, .freeCtr, .pod, .regs] I) (s : State) (a : Nat) (h_s :
    I s) : I (State.logReadWord s a).2 := by
  unfold State.logReadWord
  with_reducible repeat' first
    | assumption
    | (extract_lets -underBinder +onlyGivenNames x; have hx : I x := ?_; clear_value x; on_goal 2 => subst x)
    | (extract_lets -underBinder +onlyGivenNames x; clear_value x)
    | refine iteI (fun _ => ?_) (fun _ => ?_)
    | split
    | apply keeps_errHost (hI.mono (by decide))
    | apply keeps_fresh (hI.mono (by decide))
    | refine sndEq ?_ (by assumption)
    | refine fstEq ?_ (by assumption)
    | refine snd2Eq ?_ (by assumption)
    | refine snd3Eq ?_ (by assumption)
    | refine optEq ?_ (by assumption)

theorem keeps_fabRead (hI : Keeps [.dblTable, .dblCapt, .shadow, .recent, .freeCtr, .log, .ring, .pod,
    .eth, .regs, .ecc, .mem] I) (s : State) (port addr : Nat) (h_s : I s) : I (State.fabRead s port
    addr).2 := by
  unfold State.fabRead
  with_reducible repeat' first
    | assumption
    | (extract_lets -underBinder +onlyGivenNames x; have hx : I x := ?_; clear_value x; on_goal 2 => subst x)
    | (extract_lets -underBinder +onlyGivenNames x; clear_value x)
    | refine iteI (fun _ => ?_) (fun _ => ?_)
    | split
    | apply keeps_pageRead (hI.mono (by decide))
    | apply keeps_captRead (hI.mono (by decide))
    | apply keeps_tableRead (hI.mono (by decide))
    | apply keeps_logReadWord (hI.mono (by decide))

theorem keeps_fieldWrite (hI : Keeps [.regs, .staged] I) (s : State) (v : Nat) (r : Reg) (h_s : I s) :
    I (State.fieldWrite s v r) := by
  unfold State.fieldWrite
  with_reducible repeat' first
    | assumption
    | (extract_lets -underBinder +onlyGivenNames x; have hx : I x := ?_; clear_value x; on_goal 2 => subst x)
    | (extract_lets -underBinder +onlyGivenNames x; clear_value x)
    | split
    | apply keeps_clearBits (hI.mono (by decide))
    | apply keeps_stage (hI.mono (by decide))
    | apply keeps_set (hI.mono (by decide))
    | refine sndEq ?_ (by assumption)
    | refine fstEq ?_ (by assumption)
    | refine snd2Eq ?_ (by assumption)
    | refine snd3Eq ?_ (by assumption)
    | refine optEq ?_ (by assumption)
    | (refine partMk hI ?_; first | assumption | refine sndEq ?_ (by assumption))

theorem keeps_fieldsWrite (hI : Keeps [.recent, .pod, .regs, .staged] I) (s : State) (p ofs v : Nat)
    (h_s : I s) : I (State.fieldsWrite s p ofs v) := by
  unfold State.fieldsWrite
  with_reducible repeat' first
    | assumption
    | (extract_lets -underBinder +onlyGivenNames x; have hx : I x := ?_; clear_value x; on_goal 2 => subst x)
    | (extract_lets -underBinder +onlyGivenNames x; clear_value x)
    | refine iteI (fun _ => ?_) (fun _ => ?_)
    | refine foldlI ?_ (fun _ _ _ => ?_)
    | apply keeps_fieldWrite (hI.mono (by decide))
    | apply keeps_err (hI.mono (by decide))
    | (intro t ht; beta_reduce)
    | (intro m; first | rfl | simp)

theorem keeps_restWrite (hI : Keeps [.recent, .pod, .regs, .staged] I) (s : State) (p ofs v mask : Nat)
    (h_s : I s) : I (State.restWrite s p ofs v mask) := by
  unfold State.restWrite
  with_reducible repeat' first
    | assumption
    | apply keeps_fieldsWrite hI

theorem keeps_counterClear (hI : Keeps [.regs] I) (s : State) (p : Nat) (h_s : I s) : I
    (State.counterClear s p) := by
  unfold State.counterClear
  with_reducible repeat' first
    | assumption
    | refine foldlI ?_ (fun _ _ _ => ?_)
    | apply keeps_clearCount hI
    | (intro t ht; beta_reduce)
    | (intro m; first | rfl | simp)

theorem keeps_dlClear (hI : Keeps [.regs] I) (s : State) (d : DlPair) (h_s : I s) : I (State.dlClear s
    d) := by
  unfold State.dlClear
  with_reducible repeat' first
    | assumption
    | apply keeps_clearCount hI

theorem keeps_commitKick (hI : Keeps [.recent, .sys, .pod, .chan, .sar, .roverQ, .regs, .staged] I) (s
    : State) (p : Nat) (h_s : I s) : I (State.commitKick s p) := by
  unfold State.commitKick
  with_reducible repeat' first
    | assumption
    | (extract_lets -underBinder +onlyGivenNames x; have hx : I x := ?_; clear_value x; on_goal 2 => subst x)
    | (extract_lets -underBinder +onlyGivenNames x; clear_value x)
    | refine iteI (fun _ => ?_) (fun _ => ?_)
    | apply keeps_sarBoundary hI
    | apply keeps_setKe (hI.mono (by decide))
    | (refine partMk hI ?_; first | assumption | refine sndEq ?_ (by assumption))
    | (intro t ht; beta_reduce)
    | (intro m; first | rfl | simp)

theorem keeps_commitGo (hI : Keeps [.recent, .sys, .pod, .chan, .sar, .roverQ, .regs, .staged] I) (s :
    State) (p : Nat) (h_s : I s) : I (State.commitGo s p) := by
  unfold State.commitGo
  with_reducible repeat' first
    | assumption
    | refine iteI (fun _ => ?_) (fun _ => ?_)
    | apply keeps_commitKick hI
    | apply keeps_note (hI.mono (by decide))
    | apply keeps_setB (hI.mono (by decide))

theorem keeps_commitDiscard (hI : Keeps [.recent, .sys, .chan, .regs, .staged] I) (s : State) (p : Nat)
    (h_s : I s) : I (State.commitDiscard s p) := by
  unfold State.commitDiscard
  with_reducible repeat' first
    | assumption
    | (extract_lets -underBinder +onlyGivenNames x; have hx : I x := ?_; clear_value x; on_goal 2 => subst x)
    | (extract_lets -underBinder +onlyGivenNames x; clear_value x)
    | refine iteI (fun _ => ?_) (fun _ => ?_)
    | split
    | apply keeps_dropStaged (hI.mono (by decide))
    | apply keeps_modSys (hI.mono (by decide))
    | apply keeps_setB (hI.mono (by decide))
    | apply keeps_setKe (hI.mono (by decide))
    | refine sndEq ?_ (by assumption)
    | refine fstEq ?_ (by assumption)
    | refine snd2Eq ?_ (by assumption)
    | refine snd3Eq ?_ (by assumption)
    | refine optEq ?_ (by assumption)
    | (refine partMk hI ?_; first | assumption | refine sndEq ?_ (by assumption))
    | (intro t ht; beta_reduce)
    | (intro m; first | rfl | simp)

theorem keeps_updateLock (hI : Keeps [.recent, .sys, .pod, .chan, .sar, .roverQ, .regs, .staged] I) (s
    : State) (p : Nat) (b : Bool) (h_s : I s) : I (State.updateLock s p b) := by
  unfold State.updateLock
  with_reducible repeat' first
    | assumption
    | (extract_lets -underBinder +onlyGivenNames x; have hx : I x := ?_; clear_value x; on_goal 2 => subst x)
    | (extract_lets -underBinder +onlyGivenNames x; clear_value x)
    | refine iteI (fun _ => ?_) (fun _ => ?_)
    | apply keeps_commitKick hI
    | apply keeps_note (hI.mono (by decide))
    | apply keeps_setB (hI.mono (by decide))

theorem keeps_irqEnable (hI : Keeps [.pod, .regs] I) (s : State) (p v : Nat) (h_s : I s) : I
    (State.irqEnable s p v) := by
  unfold State.irqEnable
  with_reducible repeat' first
    | assumption
    | apply keeps_set (hI.mono (by decide))
    | apply keeps_noteRise (hI.mono (by decide))

theorem keeps_irqClear (hI : Keeps [.pod, .regs] I) (s : State) (p v : Nat) (h_s : I s) : I
    (State.irqClear s p v) := by
  unfold State.irqClear
  with_reducible repeat' first
    | assumption
    | apply keeps_clearBits (hI.mono (by decide))
    | apply keeps_noteRise (hI.mono (by decide))

theorem keeps_errClear (hI : Keeps [.regs] I) (s : State) (p : Nat) (h_s : I s) : I (State.errClear s
    p) := by
  unfold State.errClear
  with_reducible repeat' first
    | assumption
    | apply keeps_clearCount hI

theorem keeps_execIslandIndication (hI : Keeps [.now, .recent, .pod, .isl, .regs] I) (dt : Nat) (i :
    Fin 4) (s : State) (h_s : I s) : OutI I (execIslandIndication dt i s) := by
  unfold execIslandIndication
  with_reducible repeat' first
    | assumption
    | (extract_lets -underBinder +onlyGivenNames x; have hx : I x := ?_; clear_value x; on_goal 2 => subst x)
    | (extract_lets -underBinder +onlyGivenNames x; clear_value x)
    | refine outNext ?_
    | refine iteI (fun _ => ?_) (fun _ => ?_)
    | refine iteOutI (fun _ => ?_) (fun _ => ?_)
    | apply keeps_elapse (hI.mono (by decide))
    | apply keeps_indTry (hI.mono (by decide))

theorem keeps_execVoteWindowExpiry (hI : Keeps [.now, .isl, .regs] I) (dt : Nat) (i : Fin 4) (s :
    State) (h_s : I s) : OutI I (execVoteWindowExpiry dt i s) := by
  unfold execVoteWindowExpiry
  with_reducible repeat' first
    | assumption
    | (extract_lets -underBinder +onlyGivenNames x; have hx : I x := ?_; clear_value x; on_goal 2 => subst x)
    | (extract_lets -underBinder +onlyGivenNames x; clear_value x)
    | refine outNext ?_
    | refine iteI (fun _ => ?_) (fun _ => ?_)
    | refine iteOutI (fun _ => ?_) (fun _ => ?_)
    | split
    | apply keeps_set (hI.mono (by decide))
    | apply keeps_elapse (hI.mono (by decide))
    | apply keeps_setIsl (hI.mono (by decide))
    | refine sndEq ?_ (by assumption)
    | refine fstEq ?_ (by assumption)
    | refine snd2Eq ?_ (by assumption)
    | refine snd3Eq ?_ (by assumption)
    | refine optEq ?_ (by assumption)
    | (refine partMk hI ?_; first | assumption | refine sndEq ?_ (by assumption))
    | (intro t ht; beta_reduce)
    | (intro m; first | rfl | simp)

theorem keeps_islandClear (hI : Keeps [.recent, .pod, .arm, .regs] I) (s : State) (h_s : I s) : I
    (State.islandClear s) := by
  unfold State.islandClear
  with_reducible repeat' first
    | assumption
    | (extract_lets -underBinder +onlyGivenNames x; have hx : I x := ?_; clear_value x; on_goal 2 => subst x)
    | (extract_lets -underBinder +onlyGivenNames x; clear_value x)
    | refine iteI (fun _ => ?_) (fun _ => ?_)
    | apply keeps_irq (hI.mono (by decide))
    | apply keeps_setArm (hI.mono (by decide))
    | apply keeps_err (hI.mono (by decide))
    | apply keeps_setB (hI.mono (by decide))
    | (refine partMk hI ?_; first | assumption | refine sndEq ?_ (by assumption))
    | (intro t ht; beta_reduce)
    | (intro m; first | rfl | simp)

theorem keeps_execIslandClear (hI : Keeps [.now, .recent, .pod, .arm, .regs] I) (dt : Nat) (s : State)
    (h_s : I s) : OutI I (execIslandClear dt s) := by
  unfold execIslandClear
  with_reducible repeat' first
    | assumption
    | refine outNext ?_
    | apply keeps_hostAct (hI.mono (by decide))
    | apply keeps_elapse (hI.mono (by decide))
    | apply keeps_islandClear (hI.mono (by decide))

theorem keeps_execActiveEpochBoundary (hI : Keeps [.now, .recent, .regs] I) (dt : Nat) (s : State) (h_s
    : I s) : OutI I (execActiveEpochBoundary dt s) := by
  unfold execActiveEpochBoundary
  with_reducible repeat' first
    | assumption
    | (extract_lets -underBinder +onlyGivenNames x; have hx : I x := ?_; clear_value x; on_goal 2 => subst x)
    | (extract_lets -underBinder +onlyGivenNames x; clear_value x)
    | refine outNext ?_
    | refine iteI (fun _ => ?_) (fun _ => ?_)
    | refine iteOutI (fun _ => ?_) (fun _ => ?_)
    | apply keeps_set (hI.mono (by decide))
    | apply keeps_elapse (hI.mono (by decide))
    | apply keeps_setB (hI.mono (by decide))

theorem keeps_execActSuspend (hI : Keeps [.now, .recent, .pod, .regs] I) (dt : Nat) (s : State) (h_s :
    I s) : OutI I (execActSuspend dt s) := by
  unfold execActSuspend
  with_reducible repeat' first
    | assumption
    | (extract_lets -underBinder +onlyGivenNames x; have hx : I x := ?_; clear_value x; on_goal 2 => subst x)
    | (extract_lets -underBinder +onlyGivenNames x; clear_value x)
    | refine outNext ?_
    | refine iteI (fun _ => ?_) (fun _ => ?_)
    | refine iteOutI (fun _ => ?_) (fun _ => ?_)
    | apply keeps_irq (hI.mono (by decide))
    | apply keeps_elapse (hI.mono (by decide))
    | apply keeps_setB (hI.mono (by decide))

theorem keeps_execRtBlockEnd (hI : Keeps [.now, .recent, .isl, .regs] I) (dt : Nat) (s : State) (h_s :
    I s) : OutI I (execRtBlockEnd dt s) := by
  unfold execRtBlockEnd
  with_reducible repeat' first
    | assumption
    | (extract_lets -underBinder +onlyGivenNames x; have hx : I x := ?_; clear_value x; on_goal 2 => subst x)
    | (extract_lets -underBinder +onlyGivenNames x; clear_value x)
    | refine outNext ?_
    | refine iteI (fun _ => ?_) (fun _ => ?_)
    | refine iteOutI (fun _ => ?_) (fun _ => ?_)
    | split
    | apply keeps_elapse (hI.mono (by decide))
    | apply keeps_setB (hI.mono (by decide))
    | apply keeps_setIsl (hI.mono (by decide))
    | refine sndEq ?_ (by assumption)
    | refine fstEq ?_ (by assumption)
    | refine snd2Eq ?_ (by assumption)
    | refine snd3Eq ?_ (by assumption)
    | refine optEq ?_ (by assumption)
    | (refine partMk hI ?_; first | assumption | refine sndEq ?_ (by assumption))
    | (intro t ht; beta_reduce)
    | (intro m; first | rfl | simp)

theorem keeps_execTransferTripFrame (hI : Keeps [.now, .recent, .pod, .arm, .ride, .isl, .capt, .regs]
    I) (dt : Nat) (s : State) (h_s : I s) : OutI I (execTransferTripFrame dt s) := by
  unfold execTransferTripFrame
  with_reducible repeat' first
    | assumption
    | (extract_lets -underBinder +onlyGivenNames x; have hx : I x := ?_; clear_value x; on_goal 2 => subst x)
    | (extract_lets -underBinder +onlyGivenNames x; clear_value x)
    | refine outNext ?_
    | refine iteI (fun _ => ?_) (fun _ => ?_)
    | refine iteOutI (fun _ => ?_) (fun _ => ?_)
    | split
    | apply keeps_elapse (hI.mono (by decide))
    | apply keeps_ttFrame (hI.mono (by decide))
    | apply keeps_setIsl (hI.mono (by decide))
    | refine sndEq ?_ (by assumption)
    | refine fstEq ?_ (by assumption)
    | refine snd2Eq ?_ (by assumption)
    | refine snd3Eq ?_ (by assumption)
    | refine optEq ?_ (by assumption)
    | (refine partMk hI ?_; first | assumption | refine sndEq ?_ (by assumption))
    | (intro t ht; beta_reduce)
    | (intro m; first | rfl | simp)

theorem keeps_execLogRecordSubmit (hI : Keeps [.now, .recent, .log, .regs] I) (dt : Nat) (page : Fin
    256) (sev : Fin 3) (code : Fin 65536) (data : List Nat) (origin : Fin 3) (s : State) (h_s : I s) :
    OutI I (execLogRecordSubmit dt page sev code data origin s) := by
  unfold execLogRecordSubmit
  with_reducible repeat' first
    | assumption
    | (extract_lets -underBinder +onlyGivenNames x; have hx : I x := ?_; clear_value x; on_goal 2 => subst x)
    | (extract_lets -underBinder +onlyGivenNames x; clear_value x)
    | refine outNext ?_
    | refine iteI (fun _ => ?_) (fun _ => ?_)
    | refine iteOutI (fun _ => ?_) (fun _ => ?_)
    | apply keeps_elapse (hI.mono (by decide))
    | apply keeps_logIt (hI.mono (by decide))

theorem keeps_execLogRecordWrite (hI : Keeps [.now, .dblTable, .dblCapt, .recent, .freeCtr, .log, .pod,
    .capt, .regs, .ecc, .mem] I) (dt : Nat) (s : State) (h_s : I s) : OutI I (execLogRecordWrite dt s) := by
  unfold execLogRecordWrite
  with_reducible repeat' first
    | assumption
    | (extract_lets -underBinder +onlyGivenNames x; have hx : I x := ?_; clear_value x; on_goal 2 => subst x)
    | (extract_lets -underBinder +onlyGivenNames x; clear_value x)
    | refine outNext ?_
    | refine iteI (fun _ => ?_) (fun _ => ?_)
    | refine iteOutI (fun _ => ?_) (fun _ => ?_)
    | apply keeps_logStep (hI.mono (by decide))
    | apply keeps_elapse (hI.mono (by decide))

theorem keeps_unfreeze (hI : Keeps [.recent, .log, .pod, .regs] I) (s : State) (h_s : I s) : I
    (State.unfreeze s) := by
  unfold State.unfreeze
  with_reducible repeat' first
    | assumption
    | (extract_lets -underBinder +onlyGivenNames x; have hx : I x := ?_; clear_value x; on_goal 2 => subst x)
    | (extract_lets -underBinder +onlyGivenNames x; clear_value x)
    | refine iteI (fun _ => ?_) (fun _ => ?_)
    | split
    | apply keeps_logFreeze hI
    | apply keeps_modLog (hI.mono (by decide))
    | apply keeps_setB (hI.mono (by decide))
    | refine sndEq ?_ (by assumption)
    | refine fstEq ?_ (by assumption)
    | refine snd2Eq ?_ (by assumption)
    | refine snd3Eq ?_ (by assumption)
    | refine optEq ?_ (by assumption)
    | (refine partMk hI ?_; first | assumption | refine sndEq ?_ (by assumption))
    | (intro t ht; beta_reduce)
    | (intro m; first | rfl | simp)

theorem keeps_execLogUnfreeze (hI : Keeps [.now, .recent, .log, .pod, .regs] I) (dt : Nat) (s : State)
    (h_s : I s) : OutI I (execLogUnfreeze dt s) := by
  unfold execLogUnfreeze
  with_reducible repeat' first
    | assumption
    | refine outNext ?_
    | apply keeps_hostAct (hI.mono (by decide))
    | apply keeps_unfreeze (hI.mono (by decide))
    | apply keeps_elapse (hI.mono (by decide))

theorem keeps_execMeterCycleEnd (hI : Keeps [.now, .dblTable, .dblCapt, .recent, .freeCtr, .sys, .log,
    .pod, .safe, .chan, .meter, .regs] I) (dt : Nat) (s : State) (h_s : I s) : OutI I (execMeterCycleEnd
    dt s) := by
  unfold execMeterCycleEnd
  with_reducible repeat' first
    | assumption
    | (extract_lets -underBinder +onlyGivenNames x; have hx : I x := ?_; clear_value x; on_goal 2 => subst x)
    | (extract_lets -underBinder +onlyGivenNames x; clear_value x)
    | refine outNext ?_
    | refine iteI (fun _ => ?_) (fun _ => ?_)
    | refine iteOutI (fun _ => ?_) (fun _ => ?_)
    | split
    | apply keeps_elapse (hI.mono (by decide))
    | apply keeps_endCycle (hI.mono (by decide))
    | apply keeps_beginCycle (hI.mono (by decide))
    | apply keeps_snapshotAgain (hI.mono (by decide))
    | refine sndEq ?_ (by assumption)
    | refine fstEq ?_ (by assumption)
    | refine snd2Eq ?_ (by assumption)
    | refine snd3Eq ?_ (by assumption)
    | refine optEq ?_ (by assumption)
    | (refine partMk hI ?_; first | assumption | refine sndEq ?_ (by assumption))

theorem keeps_execPulseStart (hI : Keeps [.now, .freeCtr, .meter, .regs] I) (dt : Nat) (n : Fin 4) (s :
    State) (h_s : I s) : OutI I (execPulseStart dt n s) := by
  unfold execPulseStart
  with_reducible repeat' first
    | assumption
    | (extract_lets -underBinder +onlyGivenNames x; have hx : I x := ?_; clear_value x; on_goal 2 => subst x)
    | (extract_lets -underBinder +onlyGivenNames x; clear_value x)
    | refine outNext ?_
    | refine iteI (fun _ => ?_) (fun _ => ?_)
    | refine iteOutI (fun _ => ?_) (fun _ => ?_)
    | split
    | apply keeps_set (hI.mono (by decide))
    | apply keeps_elapse (hI.mono (by decide))
    | apply keeps_modMeter (hI.mono (by decide))
    | apply keeps_pulseWidth (hI.mono (by decide))
    | refine sndEq ?_ (by assumption)
    | refine fstEq ?_ (by assumption)
    | refine snd2Eq ?_ (by assumption)
    | refine snd3Eq ?_ (by assumption)
    | refine optEq ?_ (by assumption)
    | (refine partMk hI ?_; first | assumption | refine sndEq ?_ (by assumption))
    | (intro t ht; beta_reduce)
    | (intro m; first | rfl | simp)

theorem keeps_execPulseEnd (hI : Keeps [.now, .meter] I) (dt : Nat) (n : Fin 4) (s : State) (h_s : I s)
    : OutI I (execPulseEnd dt n s) := by
  unfold execPulseEnd
  with_reducible repeat' first
    | assumption
    | (extract_lets -underBinder +onlyGivenNames x; have hx : I x := ?_; clear_value x; on_goal 2 => subst x)
    | (extract_lets -underBinder +onlyGivenNames x; clear_value x)
    | refine outNext ?_
    | refine iteI (fun _ => ?_) (fun _ => ?_)
    | refine iteOutI (fun _ => ?_) (fun _ => ?_)
    | split
    | apply keeps_elapse (hI.mono (by decide))
    | apply keeps_modMeter (hI.mono (by decide))
    | refine sndEq ?_ (by assumption)
    | refine fstEq ?_ (by assumption)
    | refine snd2Eq ?_ (by assumption)
    | refine snd3Eq ?_ (by assumption)
    | refine optEq ?_ (by assumption)
    | (refine partMk hI ?_; first | assumption | refine sndEq ?_ (by assumption))
    | (intro t ht; beta_reduce)
    | (intro m; first | rfl | simp)

theorem keeps_execConnectionCheck (hI : Keeps [.now, .recent, .log, .pod, .meter, .regs] I) (dt : Nat)
    (c : Fin 4) (s : State) (h_s : I s) : OutI I (execConnectionCheck dt c s) := by
  unfold execConnectionCheck
  with_reducible repeat' first
    | assumption
    | (extract_lets -underBinder +onlyGivenNames x; have hx : I x := ?_; clear_value x; on_goal 2 => subst x)
    | (extract_lets -underBinder +onlyGivenNames x; clear_value x)
    | refine outNext ?_
    | refine iteI (fun _ => ?_) (fun _ => ?_)
    | refine iteOutI (fun _ => ?_) (fun _ => ?_)
    | split
    | apply keeps_elapse (hI.mono (by decide))
    | apply keeps_modMeter (hI.mono (by decide))
    | apply keeps_logIt (hI.mono (by decide))
    | apply keeps_setB (hI.mono (by decide))
    | apply keeps_irqLog (hI.mono (by decide))
    | refine sndEq ?_ (by assumption)
    | refine fstEq ?_ (by assumption)
    | refine snd2Eq ?_ (by assumption)
    | refine snd3Eq ?_ (by assumption)
    | refine optEq ?_ (by assumption)
    | (refine partMk hI ?_; first | assumption | refine sndEq ?_ (by assumption))
    | (intro t ht; beta_reduce)
    | (intro m; first | rfl | simp)

theorem keeps_execPeriodicSave (hI : Keeps [.now, .freeCtr, .meter] I) (dt : Nat) (s : State) (h_s : I
    s) : OutI I (execPeriodicSave dt s) := by
  unfold execPeriodicSave
  with_reducible repeat' first
    | assumption
    | (extract_lets -underBinder +onlyGivenNames x; have hx : I x := ?_; clear_value x; on_goal 2 => subst x)
    | (extract_lets -underBinder +onlyGivenNames x; clear_value x)
    | refine outNext ?_
    | refine iteI (fun _ => ?_) (fun _ => ?_)
    | refine iteOutI (fun _ => ?_) (fun _ => ?_)
    | split
    | apply keeps_elapse (hI.mono (by decide))
    | apply keeps_recordMade (hI.mono (by decide))
    | apply keeps_modMeter (hI.mono (by decide))
    | apply keeps_nextSlot (hI.mono (by decide))
    | refine sndEq ?_ (by assumption)
    | refine fstEq ?_ (by assumption)
    | refine snd2Eq ?_ (by assumption)
    | refine snd3Eq ?_ (by assumption)
    | refine optEq ?_ (by assumption)
    | (refine partMk hI ?_; first | assumption | refine sndEq ?_ (by assumption))
    | (intro t ht; beta_reduce)
    | (intro m; first | rfl | simp)

theorem keeps_execSaveVerify (hI : Keeps [.now, .recent, .log, .pod, .meter, .fram, .regs] I) (dt :
    Nat) (readback : List Nat) (s : State) (h_s : I s) : OutI I (execSaveVerify dt readback s) := by
  unfold execSaveVerify
  with_reducible repeat' first
    | assumption
    | (extract_lets -underBinder +onlyGivenNames x; have hx : I x := ?_; clear_value x; on_goal 2 => subst x)
    | (extract_lets -underBinder +onlyGivenNames x; clear_value x)
    | refine outNext ?_
    | refine iteI (fun _ => ?_) (fun _ => ?_)
    | refine iteOutI (fun _ => ?_) (fun _ => ?_)
    | split
    | apply keeps_inc (hI.mono (by decide))
    | apply keeps_irq (hI.mono (by decide))
    | apply keeps_elapse (hI.mono (by decide))
    | apply keeps_modMeter (hI.mono (by decide))
    | apply keeps_framPut (hI.mono (by decide))
    | apply keeps_setB (hI.mono (by decide))
    | apply keeps_irqLog (hI.mono (by decide))
    | refine sndEq ?_ (by assumption)
    | refine fstEq ?_ (by assumption)
    | refine snd2Eq ?_ (by assumption)
    | refine snd3Eq ?_ (by assumption)
    | refine optEq ?_ (by assumption)
    | (refine partMk hI ?_; first | assumption | refine sndEq ?_ (by assumption))
    | (intro t ht; beta_reduce)
    | (intro m; first | rfl | simp)

theorem keeps_execHeartbeatSave (hI : Keeps [.now, .meter, .fram] I) (dt : Nat) (s : State) (h_s : I s)
    : OutI I (execHeartbeatSave dt s) := by
  unfold execHeartbeatSave
  with_reducible repeat' first
    | assumption
    | (extract_lets -underBinder +onlyGivenNames x; have hx : I x := ?_; clear_value x; on_goal 2 => subst x)
    | (extract_lets -underBinder +onlyGivenNames x; clear_value x)
    | refine outNext ?_
    | refine iteI (fun _ => ?_) (fun _ => ?_)
    | refine iteOutI (fun _ => ?_) (fun _ => ?_)
    | apply keeps_elapse (hI.mono (by decide))
    | apply keeps_modMeter (hI.mono (by decide))
    | apply keeps_framPut (hI.mono (by decide))
    | (refine partMk hI ?_; first | assumption | refine sndEq ?_ (by assumption))
    | (intro t ht; beta_reduce)
    | (intro m; first | rfl | simp)

theorem keeps_pfwLevel (hI : Keeps [.sys, .meter] I) (s : State) (low : Bool) (h_s : I s) : I
    (State.pfwLevel s low) := by
  unfold State.pfwLevel
  with_reducible repeat' first
    | assumption
    | (extract_lets -underBinder +onlyGivenNames x; have hx : I x := ?_; clear_value x; on_goal 2 => subst x)
    | (extract_lets -underBinder +onlyGivenNames x; clear_value x)
    | refine iteI (fun _ => ?_) (fun _ => ?_)
    | apply keeps_modMeter (hI.mono (by decide))
    | apply keeps_modSys (hI.mono (by decide))
    | (refine partMk hI ?_; first | assumption | refine sndEq ?_ (by assumption))
    | (intro t ht; beta_reduce)
    | (intro m; first | rfl | simp)

theorem keeps_execPfwFall (hI : Keeps [.now, .recent, .freeCtr, .sys, .pod, .meter, .fram, .regs] I)
    (dt : Nat) (s : State) (h_s : I s) : OutI I (execPfwFall dt s) := by
  unfold execPfwFall
  with_reducible repeat' first
    | assumption
    | (extract_lets -underBinder +onlyGivenNames x; have hx : I x := ?_; clear_value x; on_goal 2 => subst x)
    | (extract_lets -underBinder +onlyGivenNames x; clear_value x)
    | refine outNext ?_
    | refine iteI (fun _ => ?_) (fun _ => ?_)
    | refine iteOutI (fun _ => ?_) (fun _ => ?_)
    | apply keeps_elapse (hI.mono (by decide))
    | apply keeps_modMeter (hI.mono (by decide))
    | apply keeps_abortHostRead (hI.mono (by decide))
    | apply keeps_abortWrite (hI.mono (by decide))
    | apply keeps_pfwLevel (hI.mono (by decide))
    | apply keeps_setB (hI.mono (by decide))
    | apply keeps_finalSave (hI.mono (by decide))
    | (refine partMk hI ?_; first | assumption | refine sndEq ?_ (by assumption))
    | (intro t ht; beta_reduce)
    | (intro m; first | rfl | simp)

theorem keeps_execFinalSaveDone (hI : Keeps [.now, .recent, .pod, .meter, .fram, .regs] I) (dt : Nat)
    (s : State) (h_s : I s) : OutI I (execFinalSaveDone dt s) := by
  unfold execFinalSaveDone
  with_reducible repeat' first
    | assumption
    | (extract_lets -underBinder +onlyGivenNames x; have hx : I x := ?_; clear_value x; on_goal 2 => subst x)
    | (extract_lets -underBinder +onlyGivenNames x; clear_value x)
    | refine outNext ?_
    | refine iteI (fun _ => ?_) (fun _ => ?_)
    | refine iteOutI (fun _ => ?_) (fun _ => ?_)
    | split
    | apply keeps_irq (hI.mono (by decide))
    | apply keeps_elapse (hI.mono (by decide))
    | apply keeps_modMeter (hI.mono (by decide))
    | apply keeps_framPut (hI.mono (by decide))
    | apply keeps_setB (hI.mono (by decide))
    | refine sndEq ?_ (by assumption)
    | refine fstEq ?_ (by assumption)
    | refine snd2Eq ?_ (by assumption)
    | refine snd3Eq ?_ (by assumption)
    | refine optEq ?_ (by assumption)
    | (refine partMk hI ?_; first | assumption | refine sndEq ?_ (by assumption))
    | (intro t ht; beta_reduce)
    | (intro m; first | rfl | simp)

theorem keeps_execPfwRise (hI : Keeps [.now, .recent, .sys, .meter, .regs] I) (dt : Nat) (s : State)
    (h_s : I s) : OutI I (execPfwRise dt s) := by
  unfold execPfwRise
  with_reducible repeat' first
    | assumption
    | (extract_lets -underBinder +onlyGivenNames x; have hx : I x := ?_; clear_value x; on_goal 2 => subst x)
    | (extract_lets -underBinder +onlyGivenNames x; clear_value x)
    | refine outNext ?_
    | refine iteI (fun _ => ?_) (fun _ => ?_)
    | refine iteOutI (fun _ => ?_) (fun _ => ?_)
    | apply keeps_elapse (hI.mono (by decide))
    | apply keeps_modMeter (hI.mono (by decide))
    | apply keeps_pfwLevel (hI.mono (by decide))
    | apply keeps_setB (hI.mono (by decide))
    | (refine partMk hI ?_; first | assumption | refine sndEq ?_ (by assumption))
    | (intro t ht; beta_reduce)
    | (intro m; first | rfl | simp)

theorem keeps_execPfwResume (hI : Keeps [.now, .meter] I) (dt : Nat) (s : State) (h_s : I s) : OutI I
    (execPfwResume dt s) := by
  unfold execPfwResume
  with_reducible repeat' first
    | assumption
    | (extract_lets -underBinder +onlyGivenNames x; have hx : I x := ?_; clear_value x; on_goal 2 => subst x)
    | (extract_lets -underBinder +onlyGivenNames x; clear_value x)
    | refine outNext ?_
    | refine iteI (fun _ => ?_) (fun _ => ?_)
    | refine iteOutI (fun _ => ?_) (fun _ => ?_)
    | split
    | apply keeps_elapse (hI.mono (by decide))
    | apply keeps_modMeter (hI.mono (by decide))
    | refine sndEq ?_ (by assumption)
    | refine fstEq ?_ (by assumption)
    | refine snd2Eq ?_ (by assumption)
    | refine snd3Eq ?_ (by assumption)
    | refine optEq ?_ (by assumption)
    | (refine partMk hI ?_; first | assumption | refine sndEq ?_ (by assumption))
    | (intro t ht; beta_reduce)
    | (intro m; first | rfl | simp)

theorem keeps_execMeterRestore (hI : Keeps [.now, .recent, .freeCtr, .log, .pod, .meter, .fram, .regs]
    I) (dt : Nat) (content : List Nat) (s : State) (h_s : I s) : OutI I (execMeterRestore dt content s) := by
  unfold execMeterRestore
  with_reducible repeat' first
    | assumption
    | (extract_lets -underBinder +onlyGivenNames x; have hx : I x := ?_; clear_value x; on_goal 2 => subst x)
    | (extract_lets -underBinder +onlyGivenNames x; clear_value x)
    | refine outNext ?_
    | refine iteI (fun _ => ?_) (fun _ => ?_)
    | refine iteOutI (fun _ => ?_) (fun _ => ?_)
    | apply keeps_irq (hI.mono (by decide))
    | apply keeps_elapse (hI.mono (by decide))
    | apply keeps_modMeter (hI.mono (by decide))
    | apply keeps_meterSync (hI.mono (by decide))
    | apply keeps_restore (hI.mono (by decide))
    | (refine partMk hI ?_; first | assumption | refine sndEq ?_ (by assumption))
    | (intro t ht; beta_reduce)
    | (intro m; first | rfl | simp)

theorem keeps_saveAdopt (hI : Keeps [.recent, .pod, .meter, .fram, .regs] I) (s : State) (h_s : I s) :
    I (State.saveAdopt s) := by
  unfold State.saveAdopt
  with_reducible repeat' first
    | assumption
    | (extract_lets -underBinder +onlyGivenNames x; have hx : I x := ?_; clear_value x; on_goal 2 => subst x)
    | (extract_lets -underBinder +onlyGivenNames x; clear_value x)
    | refine iteI (fun _ => ?_) (fun _ => ?_)
    | apply keeps_modMeter (hI.mono (by decide))
    | apply keeps_framPut (hI.mono (by decide))
    | apply keeps_err (hI.mono (by decide))
    | apply keeps_setB (hI.mono (by decide))
    | (refine partMk hI ?_; first | assumption | refine sndEq ?_ (by assumption))
    | (intro t ht; beta_reduce)
    | (intro m; first | rfl | simp)

theorem keeps_execSaveAdopt (hI : Keeps [.now, .recent, .pod, .meter, .fram, .regs] I) (dt : Nat) (s :
    State) (h_s : I s) : OutI I (execSaveAdopt dt s) := by
  unfold execSaveAdopt
  with_reducible repeat' first
    | assumption
    | refine outNext ?_
    | apply keeps_saveAdopt (hI.mono (by decide))
    | apply keeps_hostAct (hI.mono (by decide))
    | apply keeps_elapse (hI.mono (by decide))

theorem keeps_execEnergyBroadcast (hI : Keeps [.now, .recent, .ring, .eth, .meter, .regs] I) (dt : Nat)
    (s : State) (h_s : I s) : OutI I (execEnergyBroadcast dt s) := by
  unfold execEnergyBroadcast
  with_reducible repeat' first
    | assumption
    | (extract_lets -underBinder +onlyGivenNames x; have hx : I x := ?_; clear_value x; on_goal 2 => subst x)
    | (extract_lets -underBinder +onlyGivenNames x; clear_value x)
    | refine outNext ?_
    | refine iteI (fun _ => ?_) (fun _ => ?_)
    | refine iteOutI (fun _ => ?_) (fun _ => ?_)
    | apply keeps_elapse (hI.mono (by decide))
    | apply keeps_modMeter (hI.mono (by decide))
    | apply keeps_sendOwn (hI.mono (by decide))
    | (refine partMk hI ?_; first | assumption | refine sndEq ?_ (by assumption))
    | (intro t ht; beta_reduce)
    | (intro m; first | rfl | simp)

theorem keeps_execExcursionEnd (hI : Keeps [.now, .recent, .log, .pod, .ride, .isl, .regs] I) (dt :
    Nat) (c : Fin 4) (s : State) (h_s : I s) : OutI I (execExcursionEnd dt c s) := by
  unfold execExcursionEnd
  with_reducible repeat' first
    | assumption
    | (extract_lets -underBinder +onlyGivenNames x; have hx : I x := ?_; clear_value x; on_goal 2 => subst x)
    | (extract_lets -underBinder +onlyGivenNames x; clear_value x)
    | refine outNext ?_
    | refine iteI (fun _ => ?_) (fun _ => ?_)
    | refine iteOutI (fun _ => ?_) (fun _ => ?_)
    | apply keeps_set (hI.mono (by decide))
    | apply keeps_elapse (hI.mono (by decide))
    | apply keeps_setRide (hI.mono (by decide))
    | apply keeps_rtSync (hI.mono (by decide))
    | apply keeps_putMaskBit (hI.mono (by decide))
    | apply keeps_irqLog (hI.mono (by decide))
    | (refine partMk hI ?_; first | assumption | refine sndEq ?_ (by assumption))
    | (intro t ht; beta_reduce)
    | (intro m; first | rfl | simp)

theorem keeps_execSourceStaleTrip (hI : Keeps [.now, .recent, .pod, .arm, .ride, .capt, .regs] I) (dt :
    Nat) (s : State) (h_s : I s) : OutI I (execSourceStaleTrip dt s) := by
  unfold execSourceStaleTrip
  with_reducible repeat' first
    | assumption
    | (extract_lets -underBinder +onlyGivenNames x; have hx : I x := ?_; clear_value x; on_goal 2 => subst x)
    | (extract_lets -underBinder +onlyGivenNames x; clear_value x)
    | refine outNext ?_
    | refine iteI (fun _ => ?_) (fun _ => ?_)
    | refine iteOutI (fun _ => ?_) (fun _ => ?_)
    | apply keeps_elapse (hI.mono (by decide))
    | apply keeps_trip (hI.mono (by decide))

theorem keeps_execRecoveryRampEnd (hI : Keeps [.now, .recent, .pod, .ride, .regs] I) (dt : Nat) (s :
    State) (h_s : I s) : OutI I (execRecoveryRampEnd dt s) := by
  unfold execRecoveryRampEnd
  with_reducible repeat' first
    | assumption
    | (extract_lets -underBinder +onlyGivenNames x; have hx : I x := ?_; clear_value x; on_goal 2 => subst x)
    | (extract_lets -underBinder +onlyGivenNames x; clear_value x)
    | refine outNext ?_
    | refine iteI (fun _ => ?_) (fun _ => ?_)
    | refine iteOutI (fun _ => ?_) (fun _ => ?_)
    | apply keeps_irq (hI.mono (by decide))
    | apply keeps_elapse (hI.mono (by decide))
    | apply keeps_setRide (hI.mono (by decide))
    | apply keeps_setB (hI.mono (by decide))
    | (refine partMk hI ?_; first | assumption | refine sndEq ?_ (by assumption))
    | (intro t ht; beta_reduce)
    | (intro m; first | rfl | simp)

theorem keeps_execRtsWindowHeld (hI : Keeps [.now, .recent, .pod, .ride, .regs] I) (dt : Nat) (s :
    State) (h_s : I s) : OutI I (execRtsWindowHeld dt s) := by
  unfold execRtsWindowHeld
  with_reducible repeat' first
    | assumption
    | (extract_lets -underBinder +onlyGivenNames x; have hx : I x := ?_; clear_value x; on_goal 2 => subst x)
    | (extract_lets -underBinder +onlyGivenNames x; clear_value x)
    | refine outNext ?_
    | refine iteI (fun _ => ?_) (fun _ => ?_)
    | refine iteOutI (fun _ => ?_) (fun _ => ?_)
    | apply keeps_elapse (hI.mono (by decide))
    | apply keeps_rtsTry (hI.mono (by decide))

theorem keeps_tripClear (hI : Keeps [.recent, .pod, .ride, .regs] I) (s : State) (h_s : I s) : I
    (State.tripClear s) := by
  unfold State.tripClear
  with_reducible repeat' first
    | assumption
    | (extract_lets -underBinder +onlyGivenNames x; have hx : I x := ?_; clear_value x; on_goal 2 => subst x)
    | (extract_lets -underBinder +onlyGivenNames x; clear_value x)
    | refine iteI (fun _ => ?_) (fun _ => ?_)
    | apply keeps_setRide (hI.mono (by decide))
    | apply keeps_refuseClear hI
    | apply keeps_err (hI.mono (by decide))
    | apply keeps_rtsTry hI
    | (refine partMk hI ?_; first | assumption | refine sndEq ?_ (by assumption))
    | (intro t ht; beta_reduce)
    | (intro m; first | rfl | simp)

theorem keeps_execTripClear (hI : Keeps [.now, .recent, .pod, .ride, .regs] I) (dt : Nat) (s : State)
    (h_s : I s) : OutI I (execTripClear dt s) := by
  unfold execTripClear
  with_reducible repeat' first
    | assumption
    | refine outNext ?_
    | apply keeps_hostAct (hI.mono (by decide))
    | apply keeps_elapse (hI.mono (by decide))
    | apply keeps_tripClear (hI.mono (by decide))

theorem keeps_execTripNow (hI : Keeps [.now, .recent, .pod, .arm, .ride, .capt, .regs] I) (dt : Nat) (s
    : State) (h_s : I s) : OutI I (execTripNow dt s) := by
  unfold execTripNow
  with_reducible repeat' first
    | assumption
    | refine outNext ?_
    | apply keeps_hostAct (hI.mono (by decide))
    | apply keeps_elapse (hI.mono (by decide))
    | apply keeps_trip (hI.mono (by decide))
    | (intro t ht; beta_reduce)
    | (intro m; first | rfl | simp)

theorem keeps_execPortAligned (hI : Keeps [.now, .ring, .regs] I) (dt : Nat) (p : Fin 2) (s : State)
    (h_s : I s) : OutI I (execPortAligned dt p s) := by
  unfold execPortAligned
  with_reducible repeat' first
    | assumption
    | (extract_lets -underBinder +onlyGivenNames x; have hx : I x := ?_; clear_value x; on_goal 2 => subst x)
    | (extract_lets -underBinder +onlyGivenNames x; clear_value x)
    | refine outNext ?_
    | refine iteI (fun _ => ?_) (fun _ => ?_)
    | refine iteOutI (fun _ => ?_) (fun _ => ?_)
    | apply keeps_setPortState (hI.mono (by decide))
    | apply keeps_setPort (hI.mono (by decide))
    | apply keeps_elapse (hI.mono (by decide))
    | apply keeps_listenSync (hI.mono (by decide))
    | (refine partMk hI ?_; first | assumption | refine sndEq ?_ (by assumption))
    | (intro t ht; beta_reduce)
    | (intro m; first | rfl | simp)

theorem keeps_execPortAlignLoss (hI : Keeps [.now, .ring] I) (dt : Nat) (p : Fin 2) (s : State) (h_s :
    I s) : OutI I (execPortAlignLoss dt p s) := by
  unfold execPortAlignLoss
  with_reducible repeat' first
    | assumption
    | (extract_lets -underBinder +onlyGivenNames x; have hx : I x := ?_; clear_value x; on_goal 2 => subst x)
    | (extract_lets -underBinder +onlyGivenNames x; clear_value x)
    | refine outNext ?_
    | refine iteI (fun _ => ?_) (fun _ => ?_)
    | refine iteOutI (fun _ => ?_) (fun _ => ?_)
    | apply keeps_setPort (hI.mono (by decide))
    | apply keeps_elapse (hI.mono (by decide))
    | apply keeps_listenSync (hI.mono (by decide))
    | (refine partMk hI ?_; first | assumption | refine sndEq ?_ (by assumption))
    | (intro t ht; beta_reduce)
    | (intro m; first | rfl | simp)

theorem keeps_execPortRelock (hI : Keeps [.now, .recent, .ring, .pod, .regs] I) (dt : Nat) (p : Fin 2)
    (s : State) (h_s : I s) : OutI I (execPortRelock dt p s) := by
  unfold execPortRelock
  with_reducible repeat' first
    | assumption
    | (extract_lets -underBinder +onlyGivenNames x; have hx : I x := ?_; clear_value x; on_goal 2 => subst x)
    | (extract_lets -underBinder +onlyGivenNames x; clear_value x)
    | refine outNext ?_
    | refine iteI (fun _ => ?_) (fun _ => ?_)
    | refine iteOutI (fun _ => ?_) (fun _ => ?_)
    | split
    | apply keeps_setPort (hI.mono (by decide))
    | apply keeps_inc (hI.mono (by decide))
    | apply keeps_irq (hI.mono (by decide))
    | apply keeps_elapse (hI.mono (by decide))
    | apply keeps_delayRestart (hI.mono (by decide))
    | refine sndEq ?_ (by assumption)
    | refine fstEq ?_ (by assumption)
    | refine snd2Eq ?_ (by assumption)
    | refine snd3Eq ?_ (by assumption)
    | refine optEq ?_ (by assumption)
    | (refine partMk hI ?_; first | assumption | refine sndEq ?_ (by assumption))
    | (intro t ht; beta_reduce)
    | (intro m; first | rfl | simp)

theorem keeps_execPortDown (hI : Keeps [.now, .recent, .log, .ring, .pod, .regs] I) (dt : Nat) (p : Fin
    2) (s : State) (h_s : I s) : OutI I (execPortDown dt p s) := by
  unfold execPortDown
  with_reducible repeat' first
    | assumption
    | (extract_lets -underBinder +onlyGivenNames x; have hx : I x := ?_; clear_value x; on_goal 2 => subst x)
    | (extract_lets -underBinder +onlyGivenNames x; clear_value x)
    | refine outNext ?_
    | refine iteI (fun _ => ?_) (fun _ => ?_)
    | refine iteOutI (fun _ => ?_) (fun _ => ?_)
    | split
    | apply keeps_portFall (hI.mono (by decide))
    | apply keeps_elapse (hI.mono (by decide))
    | refine sndEq ?_ (by assumption)
    | refine fstEq ?_ (by assumption)
    | refine snd2Eq ?_ (by assumption)
    | refine snd3Eq ?_ (by assumption)
    | refine optEq ?_ (by assumption)
    | (refine partMk hI ?_; first | assumption | refine sndEq ?_ (by assumption))

theorem keeps_execWrapEnd (hI : Keeps [.now, .recent, .pod, .regs] I) (dt : Nat) (p : Fin 2) (s :
    State) (h_s : I s) : OutI I (execWrapEnd dt p s) := by
  unfold execWrapEnd
  with_reducible repeat' first
    | assumption
    | (extract_lets -underBinder +onlyGivenNames x; have hx : I x := ?_; clear_value x; on_goal 2 => subst x)
    | (extract_lets -underBinder +onlyGivenNames x; clear_value x)
    | refine outNext ?_
    | refine iteI (fun _ => ?_) (fun _ => ?_)
    | refine iteOutI (fun _ => ?_) (fun _ => ?_)
    | apply keeps_irq (hI.mono (by decide))
    | apply keeps_elapse (hI.mono (by decide))
    | apply keeps_setWrap (hI.mono (by decide))

theorem keeps_execHelloSend (hI : Keeps [.now, .recent, .freeCtr, .ring, .regs] I) (dt : Nat) (p : Fin
    2) (s : State) (h_s : I s) : OutI I (execHelloSend dt p s) := by
  unfold execHelloSend
  with_reducible repeat' first
    | assumption
    | (extract_lets -underBinder +onlyGivenNames x; have hx : I x := ?_; clear_value x; on_goal 2 => subst x)
    | (extract_lets -underBinder +onlyGivenNames x; clear_value x)
    | refine outNext ?_
    | refine iteI (fun _ => ?_) (fun _ => ?_)
    | refine iteOutI (fun _ => ?_) (fun _ => ?_)
    | apply keeps_elapse (hI.mono (by decide))
    | apply keeps_sendHello (hI.mono (by decide))

theorem keeps_execHelloReceived (hI : Keeps [.now, .recent, .freeCtr, .log, .ring, .pod, .regs] I) (dt
    : Nat) (p : Fin 2) (s : State) (h_s : I s) : OutI I (execHelloReceived dt p s) := by
  unfold execHelloReceived
  with_reducible repeat' first
    | assumption
    | (extract_lets -underBinder +onlyGivenNames x; have hx : I x := ?_; clear_value x; on_goal 2 => subst x)
    | (extract_lets -underBinder +onlyGivenNames x; clear_value x)
    | refine outNext ?_
    | refine iteI (fun _ => ?_) (fun _ => ?_)
    | refine iteOutI (fun _ => ?_) (fun _ => ?_)
    | split
    | apply keeps_takeInbox (hI.mono (by decide))
    | apply keeps_elapse (hI.mono (by decide))
    | apply keeps_takeHello (hI.mono (by decide))
    | refine sndEq ?_ (by assumption)
    | refine fstEq ?_ (by assumption)
    | refine snd2Eq ?_ (by assumption)
    | refine snd3Eq ?_ (by assumption)
    | refine optEq ?_ (by assumption)
    | (refine partMk hI ?_; first | assumption | refine sndEq ?_ (by assumption))
    | (intro t ht; beta_reduce)
    | (intro m; first | rfl | simp)

theorem keeps_execNoverRetry (hI : Keeps [.now, .recent, .ring, .pod, .regs] I) (dt : Nat) (p : Fin 2)
    (s : State) (h_s : I s) : OutI I (execNoverRetry dt p s) := by
  unfold execNoverRetry
  with_reducible repeat' first
    | assumption
    | (extract_lets -underBinder +onlyGivenNames x; have hx : I x := ?_; clear_value x; on_goal 2 => subst x)
    | (extract_lets -underBinder +onlyGivenNames x; clear_value x)
    | refine outNext ?_
    | refine iteI (fun _ => ?_) (fun _ => ?_)
    | refine iteOutI (fun _ => ?_) (fun _ => ?_)
    | apply keeps_setPortState (hI.mono (by decide))
    | apply keeps_setPort (hI.mono (by decide))
    | apply keeps_elapse (hI.mono (by decide))
    | apply keeps_becomeRepeater (hI.mono (by decide))
    | (refine partMk hI ?_; first | assumption | refine sndEq ?_ (by assumption))
    | (intro t ht; beta_reduce)
    | (intro m; first | rfl | simp)

theorem keeps_execFrameReceive (hI : Keeps [.now, .recent, .freeCtr, .log, .ring, .pod, .eth, .regs,
    .mem] I) (dt : Nat) (p : Fin 2) (bytes : List Nat) (ending : Fin 3) (s : State) (h_s : I s) : OutI I
    (execFrameReceive dt p bytes ending s) := by
  unfold execFrameReceive
  with_reducible repeat' first
    | assumption
    | (extract_lets -underBinder +onlyGivenNames x; have hx : I x := ?_; clear_value x; on_goal 2 => subst x)
    | (extract_lets -underBinder +onlyGivenNames x; clear_value x)
    | refine outNext ?_
    | refine iteI (fun _ => ?_) (fun _ => ?_)
    | refine iteOutI (fun _ => ?_) (fun _ => ?_)
    | apply keeps_inc (hI.mono (by decide))
    | apply keeps_receiveFrame (hI.mono (by decide))
    | apply keeps_elapse (hI.mono (by decide))
    | apply keeps_listen (hI.mono (by decide))
    | apply keeps_deliverTo (hI.mono (by decide))

theorem keeps_execFrameSent (hI : Keeps [.now, .recent, .ring, .pod, .eth, .regs, .mem] I) (dt : Nat)
    (p : Fin 2) (s : State) (h_s : I s) : OutI I (execFrameSent dt p s) := by
  unfold execFrameSent
  with_reducible repeat' first
    | assumption
    | (extract_lets -underBinder +onlyGivenNames x; have hx : I x := ?_; clear_value x; on_goal 2 => subst x)
    | (extract_lets -underBinder +onlyGivenNames x; clear_value x)
    | refine outNext ?_
    | refine iteI (fun _ => ?_) (fun _ => ?_)
    | refine iteOutI (fun _ => ?_) (fun _ => ?_)
    | split
    | apply keeps_setPort (hI.mono (by decide))
    | apply keeps_elapse (hI.mono (by decide))
    | apply keeps_podFeed (hI.mono (by decide))
    | apply keeps_copyGone (hI.mono (by decide))
    | refine sndEq ?_ (by assumption)
    | refine fstEq ?_ (by assumption)
    | refine snd2Eq ?_ (by assumption)
    | refine snd3Eq ?_ (by assumption)
    | refine optEq ?_ (by assumption)
    | (refine partMk hI ?_; first | assumption | refine sndEq ?_ (by assumption))
    | (intro t ht; beta_reduce)
    | (intro m; first | rfl | simp)

theorem keeps_execOwnTc2Release (hI : Keeps [.now, .recent, .ring, .eth, .regs] I) (dt : Nat) (s :
    State) (h_s : I s) : OutI I (execOwnTc2Release dt s) := by
  unfold execOwnTc2Release
  with_reducible repeat' first
    | assumption
    | (extract_lets -underBinder +onlyGivenNames x; have hx : I x := ?_; clear_value x; on_goal 2 => subst x)
    | (extract_lets -underBinder +onlyGivenNames x; have hfn : ∀ (t : State) (a b : Nat), I t → I (x t a b).1 := ?_; clear_value x; on_goal 2 => subst x)
    | (extract_lets -underBinder +onlyGivenNames x; have hfn : ∀ (t : State) (a : Nat), I t → I (x t a) := ?_; clear_value x; on_goal 2 => subst x)
    | (extract_lets -underBinder +onlyGivenNames x; have hfn : ∀ (t : State), I t → I (x t) := ?_; clear_value x; on_goal 2 => subst x)
    | (extract_lets -underBinder +onlyGivenNames x; have hfn : ∀ (t : State) (a b : Bool), I t → I (x t a b) := ?_; clear_value x; on_goal 2 => subst x)
    | apply hfn
    | (intro t a b ht; beta_reduce)
    | (intro t a ht; beta_reduce)
    | (extract_lets -underBinder +onlyGivenNames x; clear_value x)
    | refine outNext ?_
    | refine iteI (fun _ => ?_) (fun _ => ?_)
    | refine iteOutI (fun _ => ?_) (fun _ => ?_)
    | refine foldlI ?_ (fun _ _ _ => ?_)
    | apply keeps_elapse (hI.mono (by decide))
    | apply keeps_modRing (hI.mono (by decide))
    | apply keeps_sendOwn (hI.mono (by decide))
    | (refine partMk hI ?_; first | assumption | refine sndEq ?_ (by assumption))
    | (intro t ht; beta_reduce)
    | (intro m; first | rfl | simp)

theorem keeps_execDelayRequest (hI : Keeps [.now, .ring] I) (dt : Nat) (p : Fin 2) (s : State) (h_s : I
    s) : OutI I (execDelayRequest dt p s) := by
  unfold execDelayRequest
  with_reducible repeat' first
    | assumption
    | (extract_lets -underBinder +onlyGivenNames x; have hx : I x := ?_; clear_value x; on_goal 2 => subst x)
    | (extract_lets -underBinder +onlyGivenNames x; clear_value x)
    | refine outNext ?_
    | refine iteI (fun _ => ?_) (fun _ => ?_)
    | refine iteOutI (fun _ => ?_) (fun _ => ?_)
    | apply keeps_setPort (hI.mono (by decide))
    | apply keeps_elapse (hI.mono (by decide))
    | (refine partMk hI ?_; first | assumption | refine sndEq ?_ (by assumption))
    | (intro t ht; beta_reduce)
    | (intro m; first | rfl | simp)

theorem keeps_execDelayMarkerReceived (hI : Keeps [.now, .ring] I) (dt : Nat) (p : Fin 2) (mark : Fin
    65536) (answer : Bool) (ps : Nat) (s : State) (h_s : I s) : OutI I (execDelayMarkerReceived dt p
    mark answer ps s) := by
  unfold execDelayMarkerReceived
  with_reducible repeat' first
    | assumption
    | (extract_lets -underBinder +onlyGivenNames x; have hx : I x := ?_; clear_value x; on_goal 2 => subst x)
    | (extract_lets -underBinder +onlyGivenNames x; clear_value x)
    | refine outNext ?_
    | refine iteI (fun _ => ?_) (fun _ => ?_)
    | refine iteOutI (fun _ => ?_) (fun _ => ?_)
    | apply keeps_setPort (hI.mono (by decide))
    | apply keeps_elapse (hI.mono (by decide))
    | (refine partMk hI ?_; first | assumption | refine sndEq ?_ (by assumption))
    | (intro t ht; beta_reduce)
    | (intro m; first | rfl | simp)

theorem keeps_execInsertion (hI : Keeps [.now, .ring, .regs] I) (dt : Nat) (s : State) (h_s : I s) :
    OutI I (execInsertion dt s) := by
  unfold execInsertion
  with_reducible repeat' first
    | assumption
    | (extract_lets -underBinder +onlyGivenNames x; have hx : I x := ?_; clear_value x; on_goal 2 => subst x)
    | (extract_lets -underBinder +onlyGivenNames x; clear_value x)
    | refine outNext ?_
    | refine iteI (fun _ => ?_) (fun _ => ?_)
    | refine iteOutI (fun _ => ?_) (fun _ => ?_)
    | split
    | refine foldlI ?_ (fun _ _ _ => ?_)
    | apply keeps_setPortState (hI.mono (by decide))
    | apply keeps_setPort (hI.mono (by decide))
    | apply keeps_elapse (hI.mono (by decide))
    | apply keeps_modRing (hI.mono (by decide))
    | refine sndEq ?_ (by assumption)
    | refine fstEq ?_ (by assumption)
    | refine snd2Eq ?_ (by assumption)
    | refine snd3Eq ?_ (by assumption)
    | refine optEq ?_ (by assumption)
    | (refine partMk hI ?_; first | assumption | refine sndEq ?_ (by assumption))
    | (intro t ht; beta_reduce)
    | (intro m; first | rfl | simp)

theorem keeps_execCanopySet (hI : Keeps [.now, .recent, .canopyT, .ring, .pod, .eth, .chan, .sar, .arm,
    .meter, .regs] I) (dt : Nat) (s : State) (h_s : I s) : OutI I (execCanopySet dt s) := by
  unfold execCanopySet
  with_reducible repeat' first
    | assumption
    | refine outNext ?_
    | apply keeps_hostAct (hI.mono (by decide))
    | apply keeps_elapse (hI.mono (by decide))
    | apply keeps_canopySet (hI.mono (by decide))

theorem keeps_execRemoteResponse (hI : Keeps [.now, .recent, .ring, .pod, .regs] I) (dt : Nat) (s :
    State) (h_s : I s) : OutI I (execRemoteResponse dt s) := by
  unfold execRemoteResponse
  with_reducible repeat' first
    | assumption
    | (extract_lets -underBinder +onlyGivenNames x; have hx : I x := ?_; clear_value x; on_goal 2 => subst x)
    | (extract_lets -underBinder +onlyGivenNames x; clear_value x)
    | refine outNext ?_
    | refine iteI (fun _ => ?_) (fun _ => ?_)
    | refine iteOutI (fun _ => ?_) (fun _ => ?_)
    | split
    | apply keeps_takeInbox (hI.mono (by decide))
    | apply keeps_elapse (hI.mono (by decide))
    | apply keeps_raFinish (hI.mono (by decide))
    | refine sndEq ?_ (by assumption)
    | refine fstEq ?_ (by assumption)
    | refine snd2Eq ?_ (by assumption)
    | refine snd3Eq ?_ (by assumption)
    | refine optEq ?_ (by assumption)
    | (refine partMk hI ?_; first | assumption | refine sndEq ?_ (by assumption))
    | (intro t ht; beta_reduce)
    | (intro m; first | rfl | simp)

theorem keeps_execRemoteTimeout (hI : Keeps [.now, .recent, .pod, .regs] I) (dt : Nat) (s : State) (h_s
    : I s) : OutI I (execRemoteTimeout dt s) := by
  unfold execRemoteTimeout
  with_reducible repeat' first
    | assumption
    | (extract_lets -underBinder +onlyGivenNames x; have hx : I x := ?_; clear_value x; on_goal 2 => subst x)
    | (extract_lets -underBinder +onlyGivenNames x; clear_value x)
    | refine outNext ?_
    | refine iteI (fun _ => ?_) (fun _ => ?_)
    | refine iteOutI (fun _ => ?_) (fun _ => ?_)
    | apply keeps_elapse (hI.mono (by decide))
    | apply keeps_raFinish (hI.mono (by decide))

theorem keeps_execSarTriggerFire (hI : Keeps [.now, .recent, .freeCtr, .pod, .sar, .regs] I) (dt : Nat)
    (n : Fin 5) (s : State) (h_s : I s) : OutI I (execSarTriggerFire dt n s) := by
  unfold execSarTriggerFire
  with_reducible repeat' first
    | assumption
    | (extract_lets -underBinder +onlyGivenNames x; have hx : I x := ?_; clear_value x; on_goal 2 => subst x)
    | (extract_lets -underBinder +onlyGivenNames x; clear_value x)
    | refine outNext ?_
    | refine iteI (fun _ => ?_) (fun _ => ?_)
    | refine iteOutI (fun _ => ?_) (fun _ => ?_)
    | split
    | apply keeps_firedStart (hI.mono (by decide))
    | apply keeps_startPass (hI.mono (by decide))
    | apply keeps_inc (hI.mono (by decide))
    | apply keeps_elapse (hI.mono (by decide))
    | apply keeps_setSar (hI.mono (by decide))
    | apply keeps_sarSync (hI.mono (by decide))
    | apply keeps_sarOverrun (hI.mono (by decide))
    | refine sndEq ?_ (by assumption)
    | refine fstEq ?_ (by assumption)
    | refine snd2Eq ?_ (by assumption)
    | refine snd3Eq ?_ (by assumption)
    | refine optEq ?_ (by assumption)
    | (refine partMk hI ?_; first | assumption | refine sndEq ?_ (by assumption))
    | (intro t ht; beta_reduce)
    | (intro m; first | rfl | simp)

theorem keeps_sarResult (hI : Keeps [.recent, .log, .pod, .sar, .meter, .regs] I) (s : State) (n : Nat)
    (p : SarPass) (code g : Nat) (clip : Bool) (h_s : I s) : I (State.sarResult s n p code g clip) := by
  unfold State.sarResult
  with_reducible repeat' first
    | assumption
    | (extract_lets -underBinder +onlyGivenNames x; have hx : I x := ?_; clear_value x; on_goal 2 => subst x)
    | (extract_lets -underBinder +onlyGivenNames x; clear_value x)
    | refine iteI (fun _ => ?_) (fun _ => ?_)
    | apply keeps_pairResult (hI.mono (by decide))
    | apply keeps_irq (hI.mono (by decide))
    | apply keeps_set (hI.mono (by decide))
    | apply keeps_setSar (hI.mono (by decide))
    | apply keeps_meterResult (hI.mono (by decide))
    | apply keeps_setB (hI.mono (by decide))
    | (refine partMk hI ?_; first | assumption | refine sndEq ?_ (by assumption))
    | (intro t ht; beta_reduce)
    | (intro m; first | rfl | simp)

theorem keeps_execSarConversionDone (hI : Keeps [.now, .recent, .freeCtr, .sys, .log, .pod, .sar,
    .meter, .regs] I) (dt : Nat) (n : Fin 5) (nv : Int) (s : State) (h_s : I s) : OutI I
    (execSarConversionDone dt n nv s) := by
  unfold execSarConversionDone
  with_reducible repeat' first
    | assumption
    | (extract_lets -underBinder +onlyGivenNames x; have hx : I x := ?_; clear_value x; on_goal 2 => subst x)
    | (extract_lets -underBinder +onlyGivenNames x; clear_value x)
    | refine outNext ?_
    | refine iteI (fun _ => ?_) (fun _ => ?_)
    | refine iteOutI (fun _ => ?_) (fun _ => ?_)
    | split
    | apply keeps_meterAbsent (hI.mono (by decide))
    | apply keeps_startPass (hI.mono (by decide))
    | apply keeps_meterMissed (hI.mono (by decide))
    | apply keeps_inc (hI.mono (by decide))
    | apply keeps_sarResult (hI.mono (by decide))
    | apply keeps_elapse (hI.mono (by decide))
    | apply keeps_setSar (hI.mono (by decide))
    | apply keeps_takeLost (hI.mono (by decide))
    | apply keeps_dlMeet (hI.mono (by decide))
    | apply keeps_markPartial (hI.mono (by decide))
    | apply keeps_setB (hI.mono (by decide))
    | apply keeps_passMissed (hI.mono (by decide))
    | apply keeps_sarCode (hI.mono (by decide))
    | refine sndEq ?_ (by assumption)
    | refine fstEq ?_ (by assumption)
    | refine snd2Eq ?_ (by assumption)
    | refine snd3Eq ?_ (by assumption)
    | refine optEq ?_ (by assumption)
    | (refine partMk hI ?_; first | assumption | refine sndEq ?_ (by assumption))
    | (intro t ht; beta_reduce)
    | (intro m; first | rfl | simp)

theorem keeps_execPlausMissing (hI : Keeps [.now, .recent, .log, .pod, .sar, .regs] I) (dt : Nat) (p :
    Fin 2) (s : State) (h_s : I s) : OutI I (execPlausMissing dt p s) := by
  unfold execPlausMissing
  with_reducible repeat' first
    | assumption
    | (extract_lets -underBinder +onlyGivenNames x; have hx : I x := ?_; clear_value x; on_goal 2 => subst x)
    | (extract_lets -underBinder +onlyGivenNames x; have hfn : ∀ (t : State) (a b : Nat), I t → I (x t a b).1 := ?_; clear_value x; on_goal 2 => subst x)
    | (extract_lets -underBinder +onlyGivenNames x; have hfn : ∀ (t : State) (a : Nat), I t → I (x t a) := ?_; clear_value x; on_goal 2 => subst x)
    | (extract_lets -underBinder +onlyGivenNames x; have hfn : ∀ (t : State), I t → I (x t) := ?_; clear_value x; on_goal 2 => subst x)
    | (extract_lets -underBinder +onlyGivenNames x; have hfn : ∀ (t : State) (a b : Bool), I t → I (x t a b) := ?_; clear_value x; on_goal 2 => subst x)
    | apply hfn
    | (intro t a b ht; beta_reduce)
    | (intro t a ht; beta_reduce)
    | (extract_lets -underBinder +onlyGivenNames x; clear_value x)
    | refine outNext ?_
    | refine iteI (fun _ => ?_) (fun _ => ?_)
    | refine iteOutI (fun _ => ?_) (fun _ => ?_)
    | split
    | apply keeps_inc (hI.mono (by decide))
    | apply keeps_elapse (hI.mono (by decide))
    | apply keeps_setSar (hI.mono (by decide))
    | apply keeps_plausFail (hI.mono (by decide))
    | refine sndEq ?_ (by assumption)
    | refine fstEq ?_ (by assumption)
    | refine snd2Eq ?_ (by assumption)
    | refine snd3Eq ?_ (by assumption)
    | refine optEq ?_ (by assumption)
    | (refine partMk hI ?_; first | assumption | refine sndEq ?_ (by assumption))
    | (intro t ht; beta_reduce)
    | (intro m; first | rfl | simp)

theorem keeps_execSarPassEnd (hI : Keeps [.now, .recent, .sys, .pod, .chan, .sar, .roverQ, .meter,
    .regs, .staged] I) (dt : Nat) (n : Fin 5) (s : State) (h_s : I s) : OutI I (execSarPassEnd dt n s) := by
  unfold execSarPassEnd
  with_reducible repeat' first
    | assumption
    | (extract_lets -underBinder +onlyGivenNames x; have hx : I x := ?_; clear_value x; on_goal 2 => subst x)
    | (extract_lets -underBinder +onlyGivenNames x; clear_value x)
    | refine outNext ?_
    | refine iteI (fun _ => ?_) (fun _ => ?_)
    | refine iteOutI (fun _ => ?_) (fun _ => ?_)
    | split
    | apply keeps_sarBoundary (hI.mono (by decide))
    | apply keeps_meterMissed (hI.mono (by decide))
    | apply keeps_irq (hI.mono (by decide))
    | apply keeps_set (hI.mono (by decide))
    | apply keeps_elapse (hI.mono (by decide))
    | apply keeps_setSar (hI.mono (by decide))
    | refine sndEq ?_ (by assumption)
    | refine fstEq ?_ (by assumption)
    | refine snd2Eq ?_ (by assumption)
    | refine snd3Eq ?_ (by assumption)
    | refine optEq ?_ (by assumption)
    | (refine partMk hI ?_; first | assumption | refine sndEq ?_ (by assumption))
    | (intro t ht; beta_reduce)
    | (intro m; first | rfl | simp)

theorem keeps_execCalRequest (hI : Keeps [.now, .recent, .pod, .sar, .roverQ, .regs] I) (dt : Nat) (n :
    Fin 5) (s : State) (h_s : I s) : OutI I (execCalRequest dt n s) := by
  unfold execCalRequest
  with_reducible repeat' first
    | assumption
    | refine outNext ?_
    | apply keeps_hostAct (hI.mono (by decide))
    | apply keeps_calWrite (hI.mono (by decide))
    | apply keeps_elapse (hI.mono (by decide))
    | (intro t ht; beta_reduce)
    | (intro m; first | rfl | simp)

theorem keeps_execCalPeriodic (hI : Keeps [.now, .recent, .sar, .roverQ, .regs] I) (dt : Nat) (n : Fin
    5) (s : State) (h_s : I s) : OutI I (execCalPeriodic dt n s) := by
  unfold execCalPeriodic
  with_reducible repeat' first
    | assumption
    | (extract_lets -underBinder +onlyGivenNames x; have hx : I x := ?_; clear_value x; on_goal 2 => subst x)
    | (extract_lets -underBinder +onlyGivenNames x; clear_value x)
    | refine outNext ?_
    | refine iteI (fun _ => ?_) (fun _ => ?_)
    | refine iteOutI (fun _ => ?_) (fun _ => ?_)
    | apply keeps_calRequest (hI.mono (by decide))
    | apply keeps_elapse (hI.mono (by decide))
    | apply keeps_setSar (hI.mono (by decide))
    | (refine partMk hI ?_; first | assumption | refine sndEq ?_ (by assumption))
    | (intro t ht; beta_reduce)
    | (intro m; first | rfl | simp)

theorem keeps_execCalDone (hI : Keeps [.now, .recent, .pod, .sar, .roverQ, .regs] I) (dt : Nat) (n :
    Fin 5) (s : State) (h_s : I s) : OutI I (execCalDone dt n s) := by
  unfold execCalDone
  with_reducible repeat' first
    | assumption
    | (extract_lets -underBinder +onlyGivenNames x; have hx : I x := ?_; clear_value x; on_goal 2 => subst x)
    | (extract_lets -underBinder +onlyGivenNames x; clear_value x)
    | refine outNext ?_
    | refine iteI (fun _ => ?_) (fun _ => ?_)
    | refine iteOutI (fun _ => ?_) (fun _ => ?_)
    | split
    | apply keeps_elapse (hI.mono (by decide))
    | apply keeps_calDone (hI.mono (by decide))
    | refine sndEq ?_ (by assumption)
    | refine fstEq ?_ (by assumption)
    | refine snd2Eq ?_ (by assumption)
    | refine snd3Eq ?_ (by assumption)
    | refine optEq ?_ (by assumption)
    | (refine partMk hI ?_; first | assumption | refine sndEq ?_ (by assumption))

theorem keeps_roverQueue (hI : Keeps [.roverQ] I) (s : State) (h_s : I s) : I (State.roverQueue s) := by
  unfold State.roverQueue
  with_reducible repeat' first
    | assumption
    | (extract_lets -underBinder +onlyGivenNames x; have hx : I x := ?_; clear_value x; on_goal 2 => subst x)
    | (extract_lets -underBinder +onlyGivenNames x; have hfn : ∀ (t : State) (a b : Nat), I t → I (x t a b).1 := ?_; clear_value x; on_goal 2 => subst x)
    | (extract_lets -underBinder +onlyGivenNames x; have hfn : ∀ (t : State) (a : Nat), I t → I (x t a) := ?_; clear_value x; on_goal 2 => subst x)
    | (extract_lets -underBinder +onlyGivenNames x; have hfn : ∀ (t : State), I t → I (x t) := ?_; clear_value x; on_goal 2 => subst x)
    | (extract_lets -underBinder +onlyGivenNames x; have hfn : ∀ (t : State) (a b : Bool), I t → I (x t a b) := ?_; clear_value x; on_goal 2 => subst x)
    | apply hfn
    | (intro t a b ht; beta_reduce)
    | (intro t a ht; beta_reduce)
    | (extract_lets -underBinder +onlyGivenNames x; clear_value x)
    | split
    | refine sndEq ?_ (by assumption)
    | refine fstEq ?_ (by assumption)
    | refine snd2Eq ?_ (by assumption)
    | refine snd3Eq ?_ (by assumption)
    | refine optEq ?_ (by assumption)
    | (refine partMk hI ?_; first | assumption | refine sndEq ?_ (by assumption))
    | (intro t ht; beta_reduce)
    | (intro m; first | rfl | simp)

theorem keeps_execRoverTimeout (hI : Keeps [.now, .recent, .pod, .sar, .roverQ, .regs] I) (dt : Nat) (n
    : Fin 5) (s : State) (h_s : I s) : OutI I (execRoverTimeout dt n s) := by
  unfold execRoverTimeout
  with_reducible repeat' first
    | assumption
    | (extract_lets -underBinder +onlyGivenNames x; have hx : I x := ?_; clear_value x; on_goal 2 => subst x)
    | (extract_lets -underBinder +onlyGivenNames x; clear_value x)
    | refine outNext ?_
    | refine iteI (fun _ => ?_) (fun _ => ?_)
    | refine iteOutI (fun _ => ?_) (fun _ => ?_)
    | split
    | refine foldlI ?_ (fun _ _ _ => ?_)
    | apply keeps_elapse (hI.mono (by decide))
    | apply keeps_setSar (hI.mono (by decide))
    | apply keeps_roverTake (hI.mono (by decide))
    | apply keeps_calTry (hI.mono (by decide))
    | apply keeps_nextPass (hI.mono (by decide))
    | apply keeps_roverQueue (hI.mono (by decide))
    | refine sndEq ?_ (by assumption)
    | refine fstEq ?_ (by assumption)
    | refine snd2Eq ?_ (by assumption)
    | refine snd3Eq ?_ (by assumption)
    | refine optEq ?_ (by assumption)
    | (refine partMk hI ?_; first | assumption | refine sndEq ?_ (by assumption))
    | (intro t ht; beta_reduce)
    | (intro m; first | rfl | simp)

theorem keeps_saveReadGo (hI : Keeps [.recent, .meter, .regs] I) (s : State) (h_s : I s) : I
    (State.saveReadGo s) := by
  unfold State.saveReadGo
  with_reducible repeat' first
    | assumption
    | (extract_lets -underBinder +onlyGivenNames x; have hx : I x := ?_; clear_value x; on_goal 2 => subst x)
    | (extract_lets -underBinder +onlyGivenNames x; clear_value x)
    | refine iteI (fun _ => ?_) (fun _ => ?_)
    | apply keeps_modMeter (hI.mono (by decide))
    | apply keeps_setB (hI.mono (by decide))
    | (refine partMk hI ?_; first | assumption | refine sndEq ?_ (by assumption))
    | (intro t ht; beta_reduce)
    | (intro m; first | rfl | simp)

theorem keeps_execSaveHostReadDone (hI : Keeps [.now, .recent, .pod, .regs] I) (dt : Nat) (flash : List
    Nat) (s : State) (h_s : I s) : OutI I (execSaveHostReadDone dt flash s) := by
  unfold execSaveHostReadDone
  with_reducible repeat' first
    | assumption
    | (extract_lets -underBinder +onlyGivenNames x; have hx : I x := ?_; clear_value x; on_goal 2 => subst x)
    | (extract_lets -underBinder +onlyGivenNames x; clear_value x)
    | refine outNext ?_
    | refine iteI (fun _ => ?_) (fun _ => ?_)
    | refine iteOutI (fun _ => ?_) (fun _ => ?_)
    | refine foldlI ?_ (fun _ _ _ => ?_)
    | apply keeps_irq (hI.mono (by decide))
    | apply keeps_set (hI.mono (by decide))
    | apply keeps_elapse (hI.mono (by decide))
    | apply keeps_setB (hI.mono (by decide))
    | (intro t ht; beta_reduce)
    | (intro m; first | rfl | simp)

theorem keeps_execTriggerEvent (hI : Keeps [.now, .recent, .pod, .chan, .sar, .regs] I) (dt : Nat) (u :
    Fin 13) (cell : Fin 8) (kind : TrigKind) (age : Nat) (s : State) (h_s : I s) : OutI I
    (execTriggerEvent dt u cell kind age s) := by
  unfold execTriggerEvent
  with_reducible repeat' first
    | assumption
    | (extract_lets -underBinder +onlyGivenNames x; have hx : I x := ?_; clear_value x; on_goal 2 => subst x)
    | (extract_lets -underBinder +onlyGivenNames x; clear_value x)
    | refine outNext ?_
    | refine iteI (fun _ => ?_) (fun _ => ?_)
    | refine iteOutI (fun _ => ?_) (fun _ => ?_)
    | apply keeps_sarTrigger (hI.mono (by decide))
    | apply keeps_elapse (hI.mono (by decide))
    | apply keeps_setSar (hI.mono (by decide))
    | apply keeps_senseTrigger (hI.mono (by decide))
    | (refine partMk hI ?_; first | assumption | refine sndEq ?_ (by assumption))
    | (intro t ht; beta_reduce)
    | (intro m; first | rfl | simp)

theorem keeps_execCanopyTimerFire (hI : Keeps [.now, .recent, .pod, .chan, .sar, .regs] I) (dt : Nat)
    (u : Fin 13) (s : State) (h_s : I s) : OutI I (execCanopyTimerFire dt u s) := by
  unfold execCanopyTimerFire
  with_reducible repeat' first
    | assumption
    | (extract_lets -underBinder +onlyGivenNames x; have hx : I x := ?_; clear_value x; on_goal 2 => subst x)
    | (extract_lets -underBinder +onlyGivenNames x; clear_value x)
    | refine outNext ?_
    | refine iteI (fun _ => ?_) (fun _ => ?_)
    | refine iteOutI (fun _ => ?_) (fun _ => ?_)
    | apply keeps_sarTrigger (hI.mono (by decide))
    | apply keeps_elapse (hI.mono (by decide))
    | apply keeps_setSar (hI.mono (by decide))
    | apply keeps_senseTrigger (hI.mono (by decide))
    | apply keeps_setSense (hI.mono (by decide))
    | (refine partMk hI ?_; first | assumption | refine sndEq ?_ (by assumption))
    | (intro t ht; beta_reduce)
    | (intro m; first | rfl | simp)

theorem keeps_execSampleCentre (hI : Keeps [.now, .dblTable, .dblCapt, .recent, .freeCtr, .sys, .log,
    .pod, .chan, .regs, .staged] I) (dt : Nat) (x : Fin 8) (bits : List (Fin 64)) (s : State) (h_s : I
    s) : OutI I (execSampleCentre dt x bits s) := by
  unfold execSampleCentre
  with_reducible repeat' first
    | assumption
    | (extract_lets -underBinder +onlyGivenNames x; have hx : I x := ?_; clear_value x; on_goal 2 => subst x)
    | (extract_lets -underBinder +onlyGivenNames x; clear_value x)
    | refine outNext ?_
    | refine iteI (fun _ => ?_) (fun _ => ?_)
    | refine iteOutI (fun _ => ?_) (fun _ => ?_)
    | apply keeps_feed (hI.mono (by decide))
    | apply keeps_elapse (hI.mono (by decide))
    | apply keeps_sampleCentre (hI.mono (by decide))
    | apply keeps_setSense (hI.mono (by decide))
    | (refine partMk hI ?_; first | assumption | refine sndEq ?_ (by assumption))
    | (intro t ht; beta_reduce)
    | (intro m; first | rfl | simp)

theorem keeps_execInputLoss (hI : Keeps [.now, .recent, .pod, .chan, .regs] I) (dt : Nat) (x : Fin 8)
    (n : Fin 6) (bits : List (Fin 64)) (s : State) (h_s : I s) : OutI I (execInputLoss dt x n bits s) := by
  unfold execInputLoss
  with_reducible repeat' first
    | assumption
    | (extract_lets -underBinder +onlyGivenNames x; have hx : I x := ?_; clear_value x; on_goal 2 => subst x)
    | (extract_lets -underBinder +onlyGivenNames x; clear_value x)
    | refine outNext ?_
    | refine iteI (fun _ => ?_) (fun _ => ?_)
    | refine iteOutI (fun _ => ?_) (fun _ => ?_)
    | apply keeps_irq (hI.mono (by decide))
    | apply keeps_feed (hI.mono (by decide))
    | apply keeps_elapse (hI.mono (by decide))
    | apply keeps_setMaskBit (hI.mono (by decide))

theorem keeps_execInputLossEnd (hI : Keeps [.now, .chan, .regs] I) (dt : Nat) (x : Fin 8) (n : Fin 6)
    (bits : List (Fin 64)) (s : State) (h_s : I s) : OutI I (execInputLossEnd dt x n bits s) := by
  unfold execInputLossEnd
  with_reducible repeat' first
    | assumption
    | (extract_lets -underBinder +onlyGivenNames x; have hx : I x := ?_; clear_value x; on_goal 2 => subst x)
    | (extract_lets -underBinder +onlyGivenNames x; clear_value x)
    | refine outNext ?_
    | refine iteI (fun _ => ?_) (fun _ => ?_)
    | refine iteOutI (fun _ => ?_) (fun _ => ?_)
    | apply keeps_feed (hI.mono (by decide))
    | apply keeps_elapse (hI.mono (by decide))
    | apply keeps_putMaskBit (hI.mono (by decide))
    | apply keeps_setIn (hI.mono (by decide))
    | (refine partMk hI ?_; first | assumption | refine sndEq ?_ (by assumption))
    | (intro t ht; beta_reduce)
    | (intro m; first | rfl | simp)

theorem keeps_execInputFreeze (hI : Keeps [.now, .recent, .pod, .chan, .regs] I) (dt : Nat) (x : Fin 8)
    (n : Fin 6) (bits : List (Fin 64)) (s : State) (h_s : I s) : OutI I (execInputFreeze dt x n bits s) := by
  unfold execInputFreeze
  with_reducible repeat' first
    | assumption
    | (extract_lets -underBinder +onlyGivenNames x; have hx : I x := ?_; clear_value x; on_goal 2 => subst x)
    | (extract_lets -underBinder +onlyGivenNames x; clear_value x)
    | refine outNext ?_
    | refine iteI (fun _ => ?_) (fun _ => ?_)
    | refine iteOutI (fun _ => ?_) (fun _ => ?_)
    | apply keeps_irq (hI.mono (by decide))
    | apply keeps_feed (hI.mono (by decide))
    | apply keeps_elapse (hI.mono (by decide))
    | apply keeps_setMaskBit (hI.mono (by decide))
    | (intro t ht; beta_reduce)
    | (intro m; first | rfl | simp)

theorem keeps_execComparatorAssert (hI : Keeps [.now, .recent, .log, .pod, .chan, .capt, .regs] I) (dt
    : Nat) (x : Fin 8) (m : Fin 12) (bits : List (Fin 64)) (s : State) (h_s : I s) : OutI I
    (execComparatorAssert dt x m bits s) := by
  unfold execComparatorAssert
  with_reducible repeat' first
    | assumption
    | (extract_lets -underBinder +onlyGivenNames x; have hx : I x := ?_; clear_value x; on_goal 2 => subst x)
    | (extract_lets -underBinder +onlyGivenNames x; clear_value x)
    | refine outNext ?_
    | refine iteI (fun _ => ?_) (fun _ => ?_)
    | refine iteOutI (fun _ => ?_) (fun _ => ?_)
    | apply keeps_feed (hI.mono (by decide))
    | apply keeps_elapse (hI.mono (by decide))
    | apply keeps_cmpAssert (hI.mono (by decide))

theorem keeps_execComparatorRelease (hI : Keeps [.now, .recent, .log, .pod, .chan, .regs] I) (dt : Nat)
    (x : Fin 8) (m : Fin 12) (bits : List (Fin 64)) (s : State) (h_s : I s) : OutI I
    (execComparatorRelease dt x m bits s) := by
  unfold execComparatorRelease
  with_reducible repeat' first
    | assumption
    | (extract_lets -underBinder +onlyGivenNames x; have hx : I x := ?_; clear_value x; on_goal 2 => subst x)
    | (extract_lets -underBinder +onlyGivenNames x; clear_value x)
    | refine outNext ?_
    | refine iteI (fun _ => ?_) (fun _ => ?_)
    | refine iteOutI (fun _ => ?_) (fun _ => ?_)
    | apply keeps_feed (hI.mono (by decide))
    | apply keeps_elapse (hI.mono (by decide))
    | apply keeps_cmpRelease (hI.mono (by decide))

end Sys2Proof.Machine
end

