-- ==== Sys2Proof/Laws/KeepsFabric.lean ====
section
/-! SUPPORT. Which parts of the state may change in the operations and the commands of the register fabric and the host port. -/

set_option linter.unusedTactic false
set_option linter.unreachableTactic false

namespace Sys2Proof.Machine

-- One proof after another: many at once wait for the same equations, each in a thread of its own.
set_option Elab.async false

variable {I : State → Prop}

theorem keeps_onBit (hI : Keeps [] I) (v b : Nat) (f : State → State) (t : State) (h_t : I t) (h_f : ∀
    u, I u → I (f u)) : I (onBit v b f t) := by
  unfold onBit
  split
  · exact h_f _ h_t
  · exact h_t

theorem keeps_ctrlAct (hI : Keeps [.dblTable, .dblCapt, .recent, .canopyT, .log, .ring, .pod, .eth,
    .chan, .sar, .arm, .ride, .capt, .meter, .fram, .regs] I) (s : State) (p v : Nat) (h_s : I s) : I
    (State.ctrlAct s p v) := by
  unfold State.ctrlAct
  with_reducible repeat' first
    | assumption
    | (extract_lets -underBinder +onlyGivenNames x; have hx : I x := ?_; clear_value x; on_goal 2 => subst x)
    | (extract_lets -underBinder +onlyGivenNames x; clear_value x)
    | refine iteI (fun _ => ?_) (fun _ => ?_)
    | apply keeps_shellNow (hI.mono (by decide))
    | apply keeps_trip (hI.mono (by decide))
    | apply keeps_canopySet (hI.mono (by decide))
    | apply keeps_captStop (hI.mono (by decide))
    | apply keeps_keDisable (hI.mono (by decide))
    | apply keeps_tripClear (hI.mono (by decide))
    | apply keeps_captArm (hI.mono (by decide))
    | apply keeps_unfreeze (hI.mono (by decide))
    | apply keeps_keEnable (hI.mono (by decide))
    | apply keeps_islandClear (hI.mono (by decide))
    | apply keeps_cellJoin (hI.mono (by decide))
    | apply keeps_keTest (hI.mono (by decide))
    | apply keeps_onBit (hI.mono (by decide))
    | apply keeps_scanNow (hI.mono (by decide))
    | apply keeps_pwmEnable (hI.mono (by decide))
    | apply keeps_pwmStop (hI.mono (by decide))
    | apply keeps_saveAdopt (hI.mono (by decide))
    | apply keeps_captTrigger (hI.mono (by decide))
    | apply keeps_cellLeave (hI.mono (by decide))
    | (intro t ht; beta_reduce)
    | (intro m; first | rfl | simp)

theorem keeps_ctrlWrite (hI : Keeps [.dblTable, .dblCapt, .recent, .sys, .canopyT, .log, .ring, .pod,
    .eth, .chan, .sar, .roverQ, .arm, .ride, .capt, .meter, .fram, .regs, .staged] I) (s : State) (p v :
    Nat) (h_s : I s) : I (State.ctrlWrite s p v) := by
  unfold State.ctrlWrite
  with_reducible repeat' first
    | assumption
    | (extract_lets -underBinder +onlyGivenNames x; have hx : I x := ?_; clear_value x; on_goal 2 => subst x)
    | (extract_lets -underBinder +onlyGivenNames x; clear_value x)
    | refine iteI (fun _ => ?_) (fun _ => ?_)
    | apply keeps_ctrlAct (hI.mono (by decide))
    | apply keeps_updateLock (hI.mono (by decide))

theorem keeps_statusClear (hI : Keeps [.recent, .log, .pod, .chan, .regs, .staged] I) (s : State) (p v
    : Nat) (h_s : I s) : I (State.statusClear s p v) := by
  unfold State.statusClear
  with_reducible repeat' first
    | assumption
    | (extract_lets -underBinder +onlyGivenNames x; have hx : I x := ?_; clear_value x; on_goal 2 => subst x)
    | (extract_lets -underBinder +onlyGivenNames x; clear_value x)
    | refine iteI (fun _ => ?_) (fun _ => ?_)
    | refine foldlI ?_ (fun _ _ _ => ?_)
    | apply keeps_clearBits (hI.mono (by decide))
    | apply keeps_fieldsWrite (hI.mono (by decide))
    | apply keeps_sourceOff (hI.mono (by decide))
    | apply keeps_setLeg (hI.mono (by decide))
    | (refine partMk hI ?_; first | assumption | refine sndEq ?_ (by assumption))
    | (intro t ht; beta_reduce)
    | (intro m; first | rfl | simp)

theorem keeps_sarLimitWrite (hI : Keeps [.recent, .pod, .sar, .regs, .staged] I) (s : State) (n v :
    Nat) (h_s : I s) : I (State.sarLimitWrite s n v) := by
  unfold State.sarLimitWrite
  with_reducible repeat' first
    | assumption
    | (extract_lets -underBinder +onlyGivenNames x; have hx : I x := ?_; clear_value x; on_goal 2 => subst x)
    | (extract_lets -underBinder +onlyGivenNames x; clear_value x)
    | refine iteI (fun _ => ?_) (fun _ => ?_)
    | apply keeps_fieldsWrite (hI.mono (by decide))
    | apply keeps_setSar (hI.mono (by decide))
    | (refine partMk hI ?_; first | assumption | refine sndEq ?_ (by assumption))
    | (intro t ht; beta_reduce)
    | (intro m; first | rfl | simp)

theorem keeps_sarWrite (hI : Keeps [.recent, .pod, .sar, .roverQ, .regs, .staged] I) (s : State) (n ofs
    v : Nat) (h_s : I s) : I (State.sarWrite s n ofs v) := by
  unfold State.sarWrite
  with_reducible repeat' first
    | assumption
    | (extract_lets -underBinder +onlyGivenNames x; have hx : I x := ?_; clear_value x; on_goal 2 => subst x)
    | (extract_lets -underBinder +onlyGivenNames x; clear_value x)
    | refine iteI (fun _ => ?_) (fun _ => ?_)
    | apply keeps_sarLimitWrite (hI.mono (by decide))
    | apply keeps_fieldsWrite (hI.mono (by decide))
    | apply keeps_restWrite (hI.mono (by decide))
    | apply keeps_sarTrigger (hI.mono (by decide))
    | apply keeps_calWrite (hI.mono (by decide))
    | apply keeps_err (hI.mono (by decide))

theorem keeps_senseWrite (hI : Keeps [.recent, .log, .pod, .chan, .regs, .staged] I) (s : State) (x ofs
    v : Nat) (h_s : I s) : I (State.senseWrite s x ofs v) := by
  unfold State.senseWrite
  with_reducible repeat' first
    | assumption
    | (extract_lets -underBinder +onlyGivenNames x; have hx : I x := ?_; clear_value x; on_goal 2 => subst x)
    | (extract_lets -underBinder +onlyGivenNames x; clear_value x)
    | refine iteI (fun _ => ?_) (fun _ => ?_)
    | apply keeps_sdClkWrite (hI.mono (by decide))
    | apply keeps_fieldsWrite (hI.mono (by decide))
    | apply keeps_filtCfgWrite (hI.mono (by decide))
    | apply keeps_senseTrigger (hI.mono (by decide))
    | apply keeps_cmpCfgWrite (hI.mono (by decide))
    | apply keeps_chEnWrite (hI.mono (by decide))
    | apply keeps_cmpThrWrite (hI.mono (by decide))
    | apply keeps_err (hI.mono (by decide))

theorem keeps_pwmWrite (hI : Keeps [.recent, .log, .pod, .chan, .regs, .staged] I) (s : State) (x ofs v
    : Nat) (h_s : I s) : I (State.pwmWrite s x ofs v) := by
  unfold State.pwmWrite
  with_reducible repeat' first
    | assumption
    | (extract_lets -underBinder +onlyGivenNames x; have hx : I x := ?_; clear_value x; on_goal 2 => subst x)
    | (extract_lets -underBinder +onlyGivenNames x; clear_value x)
    | refine iteI (fun _ => ?_) (fun _ => ?_)
    | apply keeps_groupsSync (hI.mono (by decide))
    | apply keeps_fieldsWrite (hI.mono (by decide))
    | apply keeps_sourceOff (hI.mono (by decide))
    | apply keeps_sourceOn (hI.mono (by decide))
    | apply keeps_err (hI.mono (by decide))
    | apply keeps_guardSync (hI.mono (by decide))
    | (intro t ht; beta_reduce)
    | (intro m; first | rfl | simp)

theorem keeps_guardWrite (hI : Keeps [.recent, .freeCtr, .log, .pod, .chan, .regs, .staged] I) (s :
    State) (x ofs v : Nat) (h_s : I s) : I (State.guardWrite s x ofs v) := by
  unfold State.guardWrite
  with_reducible repeat' first
    | assumption
    | (extract_lets -underBinder +onlyGivenNames x; have hx : I x := ?_; clear_value x; on_goal 2 => subst x)
    | (extract_lets -underBinder +onlyGivenNames x; clear_value x)
    | refine iteI (fun _ => ?_) (fun _ => ?_)
    | apply keeps_bypCfgWrite (hI.mono (by decide))
    | apply keeps_fieldsWrite (hI.mono (by decide))
    | apply keeps_escalateAll (hI.mono (by decide))
    | apply keeps_clearLatches (hI.mono (by decide))
    | apply keeps_guardSync (hI.mono (by decide))

theorem keeps_cellCfgWrite (hI : Keeps [.dblTable, .dblCapt, .recent, .log, .pod, .chan, .regs,
    .staged] I) (s : State) (x v : Nat) (h_s : I s) : I (State.cellCfgWrite s x v) := by
  unfold State.cellCfgWrite
  with_reducible repeat' first
    | assumption
    | (extract_lets -underBinder +onlyGivenNames x; have hx : I x := ?_; clear_value x; on_goal 2 => subst x)
    | (extract_lets -underBinder +onlyGivenNames x; clear_value x)
    | refine iteI (fun _ => ?_) (fun _ => ?_)
    | apply keeps_setB (hI.mono (by decide))
    | apply keeps_dropScan (hI.mono (by decide))
    | apply keeps_scanTry (hI.mono (by decide))
    | apply keeps_fieldsWrite (hI.mono (by decide))
    | apply keeps_restartPo (hI.mono (by decide))
    | apply keeps_shellSync (hI.mono (by decide))
    | apply keeps_err (hI.mono (by decide))
    | apply keeps_poCatchUp (hI.mono (by decide))
    | apply keeps_irq (hI.mono (by decide))
    | apply keeps_autoJoin (hI.mono (by decide))

theorem keeps_cellWrite (hI : Keeps [.dblTable, .dblCapt, .recent, .log, .pod, .chan, .regs, .staged]
    I) (s : State) (x ofs v : Nat) (h_s : I s) : I (State.cellWrite s x ofs v) := by
  unfold State.cellWrite
  with_reducible repeat' first
    | assumption
    | (extract_lets -underBinder +onlyGivenNames x; have hx : I x := ?_; clear_value x; on_goal 2 => subst x)
    | (extract_lets -underBinder +onlyGivenNames x; clear_value x)
    | refine iteI (fun _ => ?_) (fun _ => ?_)
    | apply keeps_fieldsWrite (hI.mono (by decide))
    | apply keeps_reform (hI.mono (by decide))
    | apply keeps_err (hI.mono (by decide))
    | apply keeps_cellCfgWrite hI

theorem keeps_geLimitWrite (hI : Keeps [.recent, .pod, .arm, .regs, .staged] I) (s : State) (e v : Nat)
    (h_s : I s) : I (State.geLimitWrite s e v) := by
  unfold State.geLimitWrite
  with_reducible repeat' first
    | assumption
    | (extract_lets -underBinder +onlyGivenNames x; have hx : I x := ?_; clear_value x; on_goal 2 => subst x)
    | (extract_lets -underBinder +onlyGivenNames x; clear_value x)
    | refine iteI (fun _ => ?_) (fun _ => ?_)
    | split
    | apply keeps_fieldsWrite (hI.mono (by decide))
    | apply keeps_set (hI.mono (by decide))
    | apply keeps_setArm (hI.mono (by decide))
    | refine sndEq ?_ (by assumption)
    | refine fstEq ?_ (by assumption)
    | refine snd2Eq ?_ (by assumption)
    | refine snd3Eq ?_ (by assumption)
    | refine optEq ?_ (by assumption)
    | (refine partMk hI ?_; first | assumption | refine sndEq ?_ (by assumption))
    | (intro t ht; beta_reduce)
    | (intro m; first | rfl | simp)

theorem keeps_armWrite (hI : Keeps [.recent, .pod, .regs, .staged] I) (s : State) (ofs v : Nat) (h_s :
    I s) : I (State.armWrite s ofs v) := by
  unfold State.armWrite
  with_reducible repeat' first
    | assumption
    | (extract_lets -underBinder +onlyGivenNames x; have hx : I x := ?_; clear_value x; on_goal 2 => subst x)
    | (extract_lets -underBinder +onlyGivenNames x; clear_value x)
    | refine iteI (fun _ => ?_) (fun _ => ?_)
    | apply keeps_fieldsWrite hI
    | apply keeps_err (hI.mono (by decide))

theorem keeps_raGo (hI : Keeps [.recent, .ring, .pod, .eth, .regs] I) (s : State) (h_s : I s) : I
    (State.raGo s) := by
  unfold State.raGo
  with_reducible repeat' first
    | assumption
    | (extract_lets -underBinder +onlyGivenNames x; have hx : I x := ?_; clear_value x; on_goal 2 => subst x)
    | (extract_lets -underBinder +onlyGivenNames x; clear_value x)
    | refine iteI (fun _ => ?_) (fun _ => ?_)
    | apply keeps_modRing (hI.mono (by decide))
    | apply keeps_setB (hI.mono (by decide))
    | apply keeps_deliverTo (hI.mono (by decide))
    | apply keeps_raFinish (hI.mono (by decide))
    | apply keeps_sendOwn (hI.mono (by decide))
    | (refine partMk hI ?_; first | assumption | refine sndEq ?_ (by assumption))
    | (intro t ht; beta_reduce)
    | (intro m; first | rfl | simp)

theorem keeps_vodorWrite (hI : Keeps [.recent, .ring, .pod, .eth, .regs, .staged] I) (s : State) (ofs v
    : Nat) (h_s : I s) : I (State.vodorWrite s ofs v) := by
  unfold State.vodorWrite
  with_reducible repeat' first
    | assumption
    | (extract_lets -underBinder +onlyGivenNames x; have hx : I x := ?_; clear_value x; on_goal 2 => subst x)
    | (extract_lets -underBinder +onlyGivenNames x; clear_value x)
    | refine iteI (fun _ => ?_) (fun _ => ?_)
    | apply keeps_setB (hI.mono (by decide))
    | apply keeps_fieldsWrite (hI.mono (by decide))
    | apply keeps_restWrite (hI.mono (by decide))
    | apply keeps_raGo (hI.mono (by decide))
    | apply keeps_err (hI.mono (by decide))

theorem keeps_gylenWrite (hI : Keeps [.recent, .pod, .gyl, .regs, .staged] I) (s : State) (ofs v : Nat)
    (h_s : I s) : I (State.gylenWrite s ofs v) := by
  unfold State.gylenWrite
  with_reducible repeat' first
    | assumption
    | (extract_lets -underBinder +onlyGivenNames x; have hx : I x := ?_; clear_value x; on_goal 2 => subst x)
    | (extract_lets -underBinder +onlyGivenNames x; clear_value x)
    | refine iteI (fun _ => ?_) (fun _ => ?_)
    | apply keeps_fieldsWrite (hI.mono (by decide))
    | apply keeps_restWrite (hI.mono (by decide))
    | apply keeps_err (hI.mono (by decide))
    | apply keeps_gylHostLoad (hI.mono (by decide))

theorem keeps_queueOpen (hI : Keeps [.recent, .pod, .regs] I) (s : State) (q : Nat) (h_s : I s) : I
    (State.queueOpen s q) := by
  unfold State.queueOpen
  with_reducible repeat' first
    | assumption
    | (extract_lets -underBinder +onlyGivenNames x; have hx : I x := ?_; clear_value x; on_goal 2 => subst x)
    | (extract_lets -underBinder +onlyGivenNames x; clear_value x)
    | apply keeps_setB (hI.mono (by decide))
    | apply keeps_setQueue (hI.mono (by decide))
    | apply keeps_podSync (hI.mono (by decide))
    | (intro t ht; beta_reduce)
    | (intro m; first | rfl | simp)

theorem keeps_qcfgWrite (hI : Keeps [.recent, .ring, .pod, .regs, .staged] I) (s : State) (q v : Nat)
    (h_s : I s) : I (State.qcfgWrite s q v) := by
  unfold State.qcfgWrite
  with_reducible repeat' first
    | assumption
    | (extract_lets -underBinder +onlyGivenNames x; have hx : I x := ?_; clear_value x; on_goal 2 => subst x)
    | (extract_lets -underBinder +onlyGivenNames x; clear_value x)
    | refine iteI (fun _ => ?_) (fun _ => ?_)
    | apply keeps_restWrite (hI.mono (by decide))
    | apply keeps_setQueue (hI.mono (by decide))
    | apply keeps_err (hI.mono (by decide))
    | apply keeps_podSync (hI.mono (by decide))
    | apply keeps_queueOpen (hI.mono (by decide))
    | apply keeps_requestFlush (hI.mono (by decide))
    | (refine partMk hI ?_; first | assumption | refine sndEq ?_ (by assumption))
    | (intro t ht; beta_reduce)
    | (intro m; first | rfl | simp)

theorem keeps_flushWrite (hI : Keeps [.recent, .ring, .pod, .regs] I) (s : State) (v : Nat) (h_s : I s)
    : I (State.flushWrite s v) := by
  unfold State.flushWrite
  with_reducible repeat' first
    | assumption
    | refine iteI (fun _ => ?_) (fun _ => ?_)
    | refine foldlI ?_ (fun _ _ _ => ?_)
    | apply keeps_requestFlush hI
    | (intro t ht; beta_reduce)
    | (intro m; first | rfl | simp)

theorem keeps_podWrite (hI : Keeps [.recent, .ring, .pod, .regs, .staged, .mem] I) (s : State) (ofs v :
    Nat) (h_s : I s) : I (State.podWrite s ofs v) := by
  unfold State.podWrite
  with_reducible repeat' first
    | assumption
    | refine iteI (fun _ => ?_) (fun _ => ?_)
    | apply keeps_flushWrite (hI.mono (by decide))
    | apply keeps_qdataWrite (hI.mono (by decide))
    | apply keeps_fieldsWrite (hI.mono (by decide))
    | apply keeps_qcfgWrite (hI.mono (by decide))

theorem keeps_safeWrite (hI : Keeps [.recent, .pod, .safe, .regs, .staged] I) (s : State) (ofs v : Nat)
    (h_s : I s) : I (State.safeWrite s ofs v) := by
  unfold State.safeWrite
  with_reducible repeat' first
    | assumption
    | (extract_lets -underBinder +onlyGivenNames x; have hx : I x := ?_; clear_value x; on_goal 2 => subst x)
    | (extract_lets -underBinder +onlyGivenNames x; clear_value x)
    | refine iteI (fun _ => ?_) (fun _ => ?_)
    | refine foldlI ?_ (fun _ _ _ => ?_)
    | apply keeps_fieldsWrite (hI.mono (by decide))
    | apply keeps_outSync (hI.mono (by decide))
    | (intro t ht; beta_reduce)
    | (intro m; first | rfl | simp)

theorem keeps_sapWrite (hI : Keeps [.recent, .pod, .regs, .staged] I) (s : State) (x ofs v : Nat) (h_s
    : I s) : I (State.sapWrite s x ofs v) := by
  unfold State.sapWrite
  with_reducible repeat' first
    | assumption
    | (extract_lets -underBinder +onlyGivenNames x; have hx : I x := ?_; clear_value x; on_goal 2 => subst x)
    | (extract_lets -underBinder +onlyGivenNames x; clear_value x)
    | refine iteI (fun _ => ?_) (fun _ => ?_)
    | apply keeps_fieldsWrite hI
    | apply keeps_err (hI.mono (by decide))

theorem keeps_mboxWrite (hI : Keeps [.recent, .pod, .hw, .regs, .staged] I) (s : State) (ofs v : Nat)
    (h_s : I s) : I (State.mboxWrite s ofs v) := by
  unfold State.mboxWrite
  with_reducible repeat' first
    | assumption
    | (extract_lets -underBinder +onlyGivenNames x; have hx : I x := ?_; clear_value x; on_goal 2 => subst x)
    | (extract_lets -underBinder +onlyGivenNames x; clear_value x)
    | refine iteI (fun _ => ?_) (fun _ => ?_)
    | apply keeps_mboxGo (hI.mono (by decide))
    | apply keeps_setB (hI.mono (by decide))
    | apply keeps_fieldsWrite (hI.mono (by decide))
    | apply keeps_restWrite (hI.mono (by decide))
    | apply keeps_err (hI.mono (by decide))

theorem keeps_ethWrite (hI : Keeps [.recent, .pod, .regs, .staged] I) (s : State) (ofs v : Nat) (h_s :
    I s) : I (State.ethWrite s ofs v) := by
  unfold State.ethWrite
  with_reducible repeat' first
    | assumption
    | (extract_lets -underBinder +onlyGivenNames x; have hx : I x := ?_; clear_value x; on_goal 2 => subst x)
    | (extract_lets -underBinder +onlyGivenNames x; clear_value x)
    | refine iteI (fun _ => ?_) (fun _ => ?_)
    | apply keeps_mdioGo (hI.mono (by decide))
    | apply keeps_fieldsWrite hI
    | apply keeps_restWrite hI

theorem keeps_saveWrite (hI : Keeps [.recent, .pod, .meter, .regs, .staged] I) (s : State) (ofs v :
    Nat) (h_s : I s) : I (State.saveWrite s ofs v) := by
  unfold State.saveWrite
  with_reducible repeat' first
    | assumption
    | (extract_lets -underBinder +onlyGivenNames x; have hx : I x := ?_; clear_value x; on_goal 2 => subst x)
    | (extract_lets -underBinder +onlyGivenNames x; clear_value x)
    | refine iteI (fun _ => ?_) (fun _ => ?_)
    | apply keeps_fieldsWrite (hI.mono (by decide))
    | apply keeps_restWrite (hI.mono (by decide))
    | apply keeps_saveReadGo (hI.mono (by decide))

theorem keeps_blockWrite (hI : Keeps [.dblTable, .dblCapt, .recent, .freeCtr, .log, .ring, .pod, .gyl,
    .safe, .hw, .eth, .chan, .sar, .roverQ, .arm, .meter, .regs, .staged, .mem] I) (s : State) (p ofs v
    : Nat) (h_s : I s) : I (State.blockWrite s p ofs v) := by
  unfold State.blockWrite
  with_reducible repeat' first
    | assumption
    | (extract_lets -underBinder +onlyGivenNames x; have hx : I x := ?_; clear_value x; on_goal 2 => subst x)
    | (extract_lets -underBinder +onlyGivenNames x; clear_value x)
    | refine iteI (fun _ => ?_) (fun _ => ?_)
    | apply keeps_geLimitWrite (hI.mono (by decide))
    | apply keeps_cellWrite (hI.mono (by decide))
    | apply keeps_ethWrite (hI.mono (by decide))
    | apply keeps_sarWrite (hI.mono (by decide))
    | apply keeps_saveWrite (hI.mono (by decide))
    | apply keeps_fieldsWrite (hI.mono (by decide))
    | apply keeps_senseWrite (hI.mono (by decide))
    | apply keeps_guardWrite (hI.mono (by decide))
    | apply keeps_gylenWrite (hI.mono (by decide))
    | apply keeps_podWrite (hI.mono (by decide))
    | apply keeps_safeWrite (hI.mono (by decide))
    | apply keeps_sapWrite (hI.mono (by decide))
    | apply keeps_pwmWrite (hI.mono (by decide))
    | apply keeps_mboxWrite (hI.mono (by decide))
    | apply keeps_armWrite (hI.mono (by decide))
    | apply keeps_vodorWrite (hI.mono (by decide))

theorem keeps_regWrite (hI : Keeps [.dblTable, .dblCapt, .recent, .freeCtr, .sys, .canopyT, .log,
    .ring, .pod, .gyl, .safe, .hw, .eth, .chan, .sar, .roverQ, .arm, .ride, .capt, .meter, .fram, .regs,
    .staged, .mem] I) (s : State) (p ofs v : Nat) (h_s : I s) : I (State.regWrite s p ofs v) := by
  unfold State.regWrite
  with_reducible repeat' first
    | assumption
    | refine iteI (fun _ => ?_) (fun _ => ?_)
    | split
    | apply keeps_irqEnable (hI.mono (by decide))
    | apply keeps_blockWrite (hI.mono (by decide))
    | apply keeps_ctrlWrite (hI.mono (by decide))
    | apply keeps_errClear (hI.mono (by decide))
    | apply keeps_counterClear (hI.mono (by decide))
    | apply keeps_commitDiscard (hI.mono (by decide))
    | apply keeps_commitGo (hI.mono (by decide))
    | apply keeps_dlClear (hI.mono (by decide))
    | apply keeps_irqClear (hI.mono (by decide))
    | apply keeps_statusClear (hI.mono (by decide))
    | refine sndEq ?_ (by assumption)
    | refine fstEq ?_ (by assumption)
    | refine snd2Eq ?_ (by assumption)
    | refine snd3Eq ?_ (by assumption)
    | refine optEq ?_ (by assumption)
    | (refine partMk hI ?_; first | assumption | refine sndEq ?_ (by assumption))

theorem keeps_pageWrite (hI : Keeps [.dblTable, .dblCapt, .recent, .freeCtr, .sys, .canopyT, .log,
    .ring, .pod, .gyl, .safe, .hw, .eth, .chan, .sar, .roverQ, .arm, .ride, .capt, .meter, .fram, .regs,
    .staged, .mem] I) (s : State) (p ofs v : Nat) (h_s : I s) : I (State.pageWrite s p ofs v) := by
  unfold State.pageWrite
  with_reducible repeat' first
    | assumption
    | refine iteI (fun _ => ?_) (fun _ => ?_)
    | apply keeps_regWrite hI
    | apply keeps_set (hI.mono (by decide))
    | apply keeps_mboxBusy (hI.mono (by decide))
    | apply keeps_pageAct (hI.mono (by decide))
    | apply keeps_errHost (hI.mono (by decide))
    | (intro t ht; beta_reduce)
    | (intro m; first | rfl | simp)

theorem keeps_tableCharge (hI : Keeps [.recent, .pod, .regs] I) (s : State) (a p : Nat) (h_s : I s) : I
    (State.tableCharge s a p) := by
  unfold State.tableCharge
  with_reducible repeat' first
    | assumption
    | refine iteI (fun _ => ?_) (fun _ => ?_)
    | apply keeps_err hI
    | apply keeps_errHost hI

theorem keeps_tableWrite (hI : Keeps [.dblTable, .dblCapt, .recent, .log, .pod, .regs, .ecc, .mem] I)
    (s : State) (a v : Nat) (h_s : I s) : I (State.tableWrite s a v) := by
  unfold State.tableWrite
  with_reducible repeat' first
    | assumption
    | (extract_lets -underBinder +onlyGivenNames x; have hx : I x := ?_; clear_value x; on_goal 2 => subst x)
    | (extract_lets -underBinder +onlyGivenNames x; clear_value x)
    | refine iteI (fun _ => ?_) (fun _ => ?_)
    | split
    | apply keeps_recordDouble (hI.mono (by decide))
    | apply keeps_clearBad (hI.mono (by decide))
    | apply keeps_tableCharge (hI.mono (by decide))
    | apply keeps_errHost (hI.mono (by decide))
    | refine sndEq ?_ (by assumption)
    | refine fstEq ?_ (by assumption)
    | refine snd2Eq ?_ (by assumption)
    | refine snd3Eq ?_ (by assumption)
    | refine optEq ?_ (by assumption)
    | (refine partMk hI ?_; first | assumption | refine sndEq ?_ (by assumption))
    | with_unfolding_all exact hI.memPut (by decide) (by assumption) _ _
    | exact hI.eccInsert (by decide) (by assumption) _ _
    | exact hI.eccErase (by decide) (by assumption) _
    | exact hI.memKeep (by decide) (by assumption) _
    | exact hI.eccNone (by decide) (by assumption)
    | exact hI.regNone (by decide) (by assumption)
    | exact hI.memNone (by decide) (by assumption)

theorem keeps_tablePair (hI : Keeps [.dblTable, .dblCapt, .recent, .pod, .regs, .ecc, .mem] I) (s :
    State) (a w0 w1 : Nat) (h_s : I s) : I (State.tablePair s a w0 w1) := by
  unfold State.tablePair
  split
  · exact keeps_tableCharge (hI.mono (by decide)) _ _ _ (keeps_tableCharge (hI.mono (by decide)) _ _ _ h_s)
  · refine keeps_clearBad (hI.mono (by decide)) _ _ ?_
    have h := hI.memPut (by decide) h_s a (bytesLE 4 w0)
    exact hI.memPut (by decide) h (a + 4) (bytesLE 4 w1)

theorem keeps_fabWrite (hI : Keeps [.dblTable, .dblCapt, .recent, .freeCtr, .sys, .canopyT, .log,
    .ring, .pod, .gyl, .safe, .hw, .eth, .chan, .sar, .roverQ, .arm, .ride, .capt, .meter, .fram, .regs,
    .staged, .ecc, .mem] I) (s : State) (addr w : Nat) (h_s : I s) : I (State.fabWrite s addr w) := by
  unfold State.fabWrite
  with_reducible repeat' first
    | assumption
    | (extract_lets -underBinder +onlyGivenNames x; have hx : I x := ?_; clear_value x; on_goal 2 => subst x)
    | (extract_lets -underBinder +onlyGivenNames x; clear_value x)
    | refine iteI (fun _ => ?_) (fun _ => ?_)
    | apply keeps_pageWrite (hI.mono (by decide))
    | apply keeps_tableWrite (hI.mono (by decide))
    | apply keeps_errHost (hI.mono (by decide))

theorem keeps_burstWrite (hI : Keeps [.dblTable, .dblCapt, .recent, .freeCtr, .sys, .canopyT, .log,
    .ring, .pod, .gyl, .safe, .hw, .eth, .chan, .sar, .roverQ, .arm, .ride, .capt, .meter, .fram, .regs,
    .staged, .ecc, .mem] I) (fixed : Bool) (s : State) (a : Nat) (l : List Nat) (h_s : I s) : I
    (State.burstWrite fixed s a l) := by
  fun_induction State.burstWrite fixed s a l with
  | case1 => exact h_s
  | case2 => exact keeps_fabWrite hI _ _ _ h_s
  | case3 _ _ _ _ _ _ ih => exact ih (keeps_tablePair (hI.mono (by decide)) _ _ _ _ h_s)
  | case4 _ _ _ _ _ _ ih => exact ih (keeps_fabWrite hI _ _ _ h_s)

theorem keeps_burstRead (hI : Keeps [.dblTable, .dblCapt, .shadow, .recent, .freeCtr, .log, .ring,
    .pod, .eth, .regs, .ecc, .mem] I) (port : Nat) (fixed : Bool) (s : State) (a n : Nat) (h_s : I s) :
    I (State.burstRead port fixed s a n).2 := by
  induction n generalizing s a with
  | zero => exact h_s
  | succ n ih => exact ih _ _ (keeps_fabRead hI _ _ _ h_s)

theorem keeps_hostWrite (hI : Keeps [.dblTable, .dblCapt, .recent, .freeCtr, .sys, .canopyT, .log,
    .ring, .pod, .gyl, .safe, .hw, .eth, .chan, .sar, .roverQ, .arm, .ride, .capt, .meter, .fram, .regs,
    .staged, .ecc, .mem] I) (s : State) (a v : Nat) (h_s : I s) : I (State.hostWrite s a v) := by
  unfold State.hostWrite
  with_reducible repeat' first
    | assumption
    | refine iteI (fun _ => ?_) (fun _ => ?_)
    | apply keeps_fabWrite hI

theorem keeps_spoil (hI : Keeps [.ecc] I) (s : State) (l : List (Nat × Nat)) (h_s : I s) : I
    (State.spoil s l) := by
  unfold State.spoil
  with_reducible repeat' first
    | assumption
    | (extract_lets -underBinder +onlyGivenNames x; have hx : I x := ?_; clear_value x; on_goal 2 => subst x)
    | (extract_lets -underBinder +onlyGivenNames x; clear_value x)
    | refine iteI (fun _ => ?_) (fun _ => ?_)
    | refine foldlI ?_ (fun _ _ _ => ?_)
    | (refine partMk hI ?_; first | assumption | refine sndEq ?_ (by assumption))
    | with_unfolding_all exact hI.memPut (by decide) (by assumption) _ _
    | exact hI.eccInsert (by decide) (by assumption) _ _
    | exact hI.eccErase (by decide) (by assumption) _
    | exact hI.memKeep (by decide) (by assumption) _
    | exact hI.eccNone (by decide) (by assumption)
    | exact hI.regNone (by decide) (by assumption)
    | exact hI.memNone (by decide) (by assumption)
    | (intro t ht; beta_reduce)
    | (intro m; first | rfl | simp)

theorem keeps_spiRefuse (hI : Keeps [.recent, .pod, .regs] I) (s : State) (h_s : I s) : I
    (State.spiRefuse s) := by
  unfold State.spiRefuse
  with_reducible repeat' first
    | assumption
    | apply keeps_inc (hI.mono (by decide))
    | apply keeps_irq hI

theorem keeps_execQspiRead (hI : Keeps [.now, .dblTable, .dblCapt, .shadow, .hostOut, .recent,
    .freeCtr, .log, .ring, .pod, .eth, .regs, .ecc, .mem] I) (dt : Nat) (fixed crc : Bool) (count : Fin
    32) (addr : Nat) (flips : List (Nat × Nat)) (s : State) (h_s : I s) : OutI I (execQspiRead dt fixed
    crc count addr flips s) := by
  unfold execQspiRead
  with_reducible repeat' first
    | assumption
    | (extract_lets -underBinder +onlyGivenNames x; have hx : I x := ?_; clear_value x; on_goal 2 => subst x)
    | (extract_lets -underBinder +onlyGivenNames x; have hfn : ∀ (t : State) (a b : Nat), I t → I (x t a b).1 := ?_; clear_value x; on_goal 2 => subst x)
    | (extract_lets -underBinder +onlyGivenNames x; have hfn : ∀ (t : State) (a : Nat), I t → I (x t a) := ?_; clear_value x; on_goal 2 => subst x)
    | (extract_lets -underBinder +onlyGivenNames x; have hfn : ∀ (t : State), I t → I (x t) := ?_; clear_value x; on_goal 2 => subst x)
    | (extract_lets -underBinder +onlyGivenNames x; have hfn : ∀ (t : State) (a b : Bool), I t → I (x t a b) := ?_; clear_value x; on_goal 2 => subst x)
    | apply hfn
    | (intro t a b ht; beta_reduce)
    | (intro t a ht; beta_reduce)
    | (extract_lets -underBinder +onlyGivenNames x; have _p : PodSt := x; clear _p; subst x)
    | (extract_lets -underBinder +onlyGivenNames x; have _p : RingSt := x; clear _p; subst x)
    | (extract_lets -underBinder +onlyGivenNames x; clear_value x)
    | refine outNext ?_
    | exact optNone
    | refine optSome ?_
    | refine iteI (fun _ => ?_) (fun _ => ?_)
    | refine iteOutI (fun _ => ?_) (fun _ => ?_)
    | split
    | refine foldlI ?_ (fun _ _ _ => ?_)
    | refine foldlI2 ?_ (fun _ _ _ => ?_)
    | refine foldlI3 ?_ (fun _ _ _ => ?_)
    | refine foldlI1 ?_ (fun _ _ _ => ?_)
    | apply keeps_spoil (hI.mono (by decide))
    | apply keeps_burstRead (hI.mono (by decide))
    | apply keeps_elapse (hI.mono (by decide))
    | apply keeps_spiRefuse (hI.mono (by decide))
    | refine sndEq ?_ (by assumption)
    | refine fstEq ?_ (by assumption)
    | refine snd2Eq ?_ (by assumption)
    | refine snd3Eq ?_ (by assumption)
    | refine optEq ?_ (by assumption)
    | (refine partMk hI ?_; first | assumption | refine sndEq ?_ (by assumption) | apply keeps_spoil (hI.mono (by decide)) | apply keeps_burstRead (hI.mono (by decide)) | apply keeps_elapse (hI.mono (by decide)) | apply keeps_spiRefuse (hI.mono (by decide)))
    | with_unfolding_all exact hI.memPut (by decide) (by assumption) _ _
    | exact hI.eccInsert (by decide) (by assumption) _ _
    | exact hI.eccErase (by decide) (by assumption) _
    | exact hI.memKeep (by decide) (by assumption) _
    | exact hI.eccNone (by decide) (by assumption)
    | exact hI.regNone (by decide) (by assumption)
    | exact hI.memNone (by decide) (by assumption)
    | (intro t ht; beta_reduce)
    | (intro m; first | rfl | simp)
    | dsimp only

theorem keeps_execQspiWrite (hI : Keeps [.now, .dblTable, .dblCapt, .hostOut, .recent, .freeCtr, .sys,
    .canopyT, .log, .ring, .pod, .gyl, .safe, .hw, .eth, .chan, .sar, .roverQ, .arm, .ride, .capt,
    .meter, .fram, .regs, .staged, .ecc, .mem] I) (dt : Nat) (fixed crc : Bool) (addr : Nat) (words :
    List Nat) (sum : Fin 65536) (s : State) (h_s : I s) : OutI I (execQspiWrite dt fixed crc addr words
    sum s) := by
  unfold execQspiWrite
  with_reducible repeat' first
    | assumption
    | (extract_lets -underBinder +onlyGivenNames x; have hx : I x := ?_; clear_value x; on_goal 2 => subst x)
    | (extract_lets -underBinder +onlyGivenNames x; clear_value x)
    | refine outNext ?_
    | refine iteI (fun _ => ?_) (fun _ => ?_)
    | refine iteOutI (fun _ => ?_) (fun _ => ?_)
    | apply keeps_burstWrite (hI.mono (by decide))
    | apply keeps_inc (hI.mono (by decide))
    | apply keeps_elapse (hI.mono (by decide))
    | apply keeps_spiRefuse (hI.mono (by decide))
    | apply keeps_irq (hI.mono (by decide))
    | (refine partMk hI ?_; first | assumption | refine sndEq ?_ (by assumption))

theorem keeps_execQspiAbort (hI : Keeps [.now, .dblTable, .dblCapt, .shadow, .hostOut, .recent,
    .freeCtr, .sys, .canopyT, .log, .ring, .pod, .gyl, .safe, .hw, .eth, .chan, .sar, .roverQ, .arm,
    .ride, .capt, .meter, .fram, .regs, .staged, .ecc, .mem] I) (dt : Nat) (write fixed crc : Bool)
    (addr : Nat) (words : List Nat) (count : Fin 33) (s : State) (h_s : I s) : OutI I (execQspiAbort dt
    write fixed crc addr words count s) := by
  unfold execQspiAbort
  with_reducible repeat' first
    | assumption
    | (extract_lets -underBinder +onlyGivenNames x; have hx : I x := ?_; clear_value x; on_goal 2 => subst x)
    | (extract_lets -underBinder +onlyGivenNames x; clear_value x)
    | refine outNext ?_
    | refine iteI (fun _ => ?_) (fun _ => ?_)
    | refine iteOutI (fun _ => ?_) (fun _ => ?_)
    | split
    | apply keeps_burstWrite (hI.mono (by decide))
    | apply keeps_inc (hI.mono (by decide))
    | apply keeps_burstRead (hI.mono (by decide))
    | apply keeps_elapse (hI.mono (by decide))
    | apply keeps_spiRefuse (hI.mono (by decide))
    | apply keeps_irq (hI.mono (by decide))
    | refine sndEq ?_ (by assumption)
    | refine fstEq ?_ (by assumption)
    | refine snd2Eq ?_ (by assumption)
    | refine snd3Eq ?_ (by assumption)
    | refine optEq ?_ (by assumption)
    | (refine partMk hI ?_; first | assumption | refine sndEq ?_ (by assumption))

theorem keeps_execDebugAccess (hI : Keeps [.now, .dblTable, .dblCapt, .shadow, .hostOut, .recent,
    .freeCtr, .sys, .canopyT, .log, .ring, .pod, .gyl, .safe, .hw, .eth, .chan, .sar, .roverQ, .arm,
    .ride, .capt, .meter, .fram, .regs, .staged, .ecc, .mem] I) (dt : Nat) (write sram : Bool) (addr w :
    Nat) (s : State) (h_s : I s) : OutI I (execDebugAccess dt write sram addr w s) := by
  unfold execDebugAccess
  with_reducible repeat' first
    | assumption
    | (extract_lets -underBinder +onlyGivenNames x; have hx : I x := ?_; clear_value x; on_goal 2 => subst x)
    | (extract_lets -underBinder +onlyGivenNames x; have hfn : ∀ (t : State) (a b : Nat), I t → I (x t a b).1 := ?_; clear_value x; on_goal 2 => subst x)
    | (extract_lets -underBinder +onlyGivenNames x; have hfn : ∀ (t : State) (a : Nat), I t → I (x t a) := ?_; clear_value x; on_goal 2 => subst x)
    | (extract_lets -underBinder +onlyGivenNames x; have hfn : ∀ (t : State), I t → I (x t) := ?_; clear_value x; on_goal 2 => subst x)
    | (extract_lets -underBinder +onlyGivenNames x; have hfn : ∀ (t : State) (a b : Bool), I t → I (x t a b) := ?_; clear_value x; on_goal 2 => subst x)
    | apply hfn
    | (intro t a b ht; beta_reduce)
    | (intro t a ht; beta_reduce)
    | (extract_lets -underBinder +onlyGivenNames x; have _p : PodSt := x; clear _p; subst x)
    | (extract_lets -underBinder +onlyGivenNames x; have _p : RingSt := x; clear _p; subst x)
    | (extract_lets -underBinder +onlyGivenNames x; clear_value x)
    | refine outNext ?_
    | exact optNone
    | refine optSome ?_
    | refine iteI (fun _ => ?_) (fun _ => ?_)
    | refine iteOutI (fun _ => ?_) (fun _ => ?_)
    | split
    | refine foldlI ?_ (fun _ _ _ => ?_)
    | refine foldlI2 ?_ (fun _ _ _ => ?_)
    | refine foldlI3 ?_ (fun _ _ _ => ?_)
    | refine foldlI1 ?_ (fun _ _ _ => ?_)
    | apply keeps_fresh (hI.mono (by decide))
    | apply keeps_fabWrite (hI.mono (by decide))
    | apply keeps_fabRead (hI.mono (by decide))
    | apply keeps_elapse (hI.mono (by decide))
    | refine sndEq ?_ (by assumption)
    | refine fstEq ?_ (by assumption)
    | refine snd2Eq ?_ (by assumption)
    | refine snd3Eq ?_ (by assumption)
    | refine optEq ?_ (by assumption)
    | (refine partMk hI ?_; first | assumption | refine sndEq ?_ (by assumption) | apply keeps_fresh (hI.mono (by decide)) | apply keeps_fabWrite (hI.mono (by decide)) | apply keeps_fabRead (hI.mono (by decide)) | apply keeps_elapse (hI.mono (by decide)))
    | with_unfolding_all exact hI.memPut (by decide) (by assumption) _ _
    | exact hI.eccInsert (by decide) (by assumption) _ _
    | exact hI.eccErase (by decide) (by assumption) _
    | exact hI.memKeep (by decide) (by assumption) _
    | exact hI.eccNone (by decide) (by assumption)
    | exact hI.regNone (by decide) (by assumption)
    | exact hI.memNone (by decide) (by assumption)
    | (intro t ht; beta_reduce)
    | (intro m; first | rfl | simp)
    | dsimp only

theorem keeps_execRemoteAccessGo (hI : Keeps [.now, .recent, .ring, .pod, .eth, .regs, .staged] I) (dt
    : Nat) (write : Bool) (count : Fin 8) (s : State) (h_s : I s) : OutI I (execRemoteAccessGo dt write
    count s) := by
  unfold execRemoteAccessGo
  with_reducible repeat' first
    | assumption
    | refine outNext ?_
    | refine iteI (fun _ => ?_) (fun _ => ?_)
    | refine iteOutI (fun _ => ?_) (fun _ => ?_)
    | apply keeps_hostAct (hI.mono (by decide))
    | apply keeps_elapse (hI.mono (by decide))
    | apply keeps_vodorWrite (hI.mono (by decide))
    | (intro t ht; beta_reduce)
    | (intro m; first | rfl | simp)

theorem keeps_remoteReply (hI : Keeps [.recent, .ring, .pod, .eth, .regs] I) (s : State) (d : Delivery)
    (code : Nat) (data : List Nat) (h_s : I s) : I (State.remoteReply s d code data) := by
  unfold State.remoteReply
  with_reducible repeat' first
    | assumption
    | refine iteI (fun _ => ?_) (fun _ => ?_)
    | apply keeps_raFinish (hI.mono (by decide))
    | apply keeps_raAnswer (hI.mono (by decide))

theorem keeps_execRemoteRequest (hI : Keeps [.now, .dblTable, .dblCapt, .shadow, .recent, .freeCtr,
    .sys, .canopyT, .log, .ring, .pod, .gyl, .safe, .hw, .eth, .chan, .sar, .roverQ, .arm, .ride, .capt,
    .meter, .fram, .regs, .staged, .ecc, .mem] I) (dt : Nat) (s : State) (h_s : I s) : OutI I
    (execRemoteRequest dt s) := by
  unfold execRemoteRequest
  with_reducible repeat' first
    | assumption
    | (extract_lets -underBinder +onlyGivenNames x; have hx : I x := ?_; clear_value x; on_goal 2 => subst x)
    | (extract_lets -underBinder +onlyGivenNames x; clear_value x)
    | refine outNext ?_
    | refine iteI (fun _ => ?_) (fun _ => ?_)
    | refine iteOutI (fun _ => ?_) (fun _ => ?_)
    | split
    | apply keeps_burstWrite (hI.mono (by decide))
    | apply keeps_takeInbox (hI.mono (by decide))
    | apply keeps_remoteReply (hI.mono (by decide))
    | apply keeps_burstRead (hI.mono (by decide))
    | apply keeps_elapse (hI.mono (by decide))
    | refine sndEq ?_ (by assumption)
    | refine fstEq ?_ (by assumption)
    | refine snd2Eq ?_ (by assumption)
    | refine snd3Eq ?_ (by assumption)
    | refine optEq ?_ (by assumption)
    | (refine partMk hI ?_; first | assumption | refine sndEq ?_ (by assumption))
    | (intro t ht; beta_reduce)
    | (intro m; first | rfl | simp)

theorem keeps_execQueueEnable (hI : Keeps [.now, .recent, .ring, .pod, .regs, .staged] I) (dt : Nat) (q
    : Fin 32) (base : Fin 512) (size : Fin 1024) (tx : Bool) (prio : Fin 8) (notify : Bool) (s : State)
    (h_s : I s) : OutI I (execQueueEnable dt q base size tx prio notify s) := by
  unfold execQueueEnable
  with_reducible repeat' first
    | assumption
    | (extract_lets -underBinder +onlyGivenNames x; have hx : I x := ?_; clear_value x; on_goal 2 => subst x)
    | (extract_lets -underBinder +onlyGivenNames x; clear_value x)
    | refine outNext ?_
    | refine iteI (fun _ => ?_) (fun _ => ?_)
    | refine iteOutI (fun _ => ?_) (fun _ => ?_)
    | apply keeps_hostAct (hI.mono (by decide))
    | apply keeps_elapse (hI.mono (by decide))
    | apply keeps_qcfgWrite (hI.mono (by decide))
    | (intro t ht; beta_reduce)
    | (intro m; first | rfl | simp)

theorem keeps_execQueueDisable (hI : Keeps [.now, .recent, .ring, .pod, .regs, .staged] I) (dt : Nat)
    (q : Fin 32) (s : State) (h_s : I s) : OutI I (execQueueDisable dt q s) := by
  unfold execQueueDisable
  with_reducible repeat' first
    | assumption
    | refine outNext ?_
    | apply keeps_hostAct (hI.mono (by decide))
    | apply keeps_elapse (hI.mono (by decide))
    | apply keeps_qcfgWrite (hI.mono (by decide))
    | (intro t ht; beta_reduce)
    | (intro m; first | rfl | simp)

theorem keeps_execQueueFlush (hI : Keeps [.now, .recent, .ring, .pod, .regs] I) (dt : Nat) (mask : Nat)
    (s : State) (h_s : I s) : OutI I (execQueueFlush dt mask s) := by
  unfold execQueueFlush
  with_reducible repeat' first
    | assumption
    | refine outNext ?_
    | apply keeps_flushWrite (hI.mono (by decide))
    | apply keeps_hostAct (hI.mono (by decide))
    | apply keeps_elapse (hI.mono (by decide))
    | (intro t ht; beta_reduce)
    | (intro m; first | rfl | simp)

theorem keeps_execQdataPop (hI : Keeps [.now, .dblTable, .dblCapt, .shadow, .hostOut, .recent,
    .freeCtr, .log, .ring, .pod, .eth, .regs, .ecc, .mem] I) (dt : Nat) (q : Fin 32) (s : State) (h_s :
    I s) : OutI I (execQdataPop dt q s) := by
  unfold execQdataPop
  with_reducible repeat' first
    | assumption
    | (extract_lets -underBinder +onlyGivenNames x; have hx : I x := ?_; clear_value x; on_goal 2 => subst x)
    | (extract_lets -underBinder +onlyGivenNames x; have hfn : ∀ (t : State) (a b : Nat), I t → I (x t a b).1 := ?_; clear_value x; on_goal 2 => subst x)
    | (extract_lets -underBinder +onlyGivenNames x; have hfn : ∀ (t : State) (a : Nat), I t → I (x t a) := ?_; clear_value x; on_goal 2 => subst x)
    | (extract_lets -underBinder +onlyGivenNames x; have hfn : ∀ (t : State), I t → I (x t) := ?_; clear_value x; on_goal 2 => subst x)
    | (extract_lets -underBinder +onlyGivenNames x; have hfn : ∀ (t : State) (a b : Bool), I t → I (x t a b) := ?_; clear_value x; on_goal 2 => subst x)
    | apply hfn
    | (intro t a b ht; beta_reduce)
    | (intro t a ht; beta_reduce)
    | (extract_lets -underBinder +onlyGivenNames x; have _p : PodSt := x; clear _p; subst x)
    | (extract_lets -underBinder +onlyGivenNames x; have _p : RingSt := x; clear _p; subst x)
    | (extract_lets -underBinder +onlyGivenNames x; clear_value x)
    | refine outNext ?_
    | exact optNone
    | refine optSome ?_
    | refine iteI (fun _ => ?_) (fun _ => ?_)
    | refine iteOutI (fun _ => ?_) (fun _ => ?_)
    | split
    | refine foldlI ?_ (fun _ _ _ => ?_)
    | refine foldlI2 ?_ (fun _ _ _ => ?_)
    | refine foldlI3 ?_ (fun _ _ _ => ?_)
    | refine foldlI1 ?_ (fun _ _ _ => ?_)
    | apply keeps_fabRead (hI.mono (by decide))
    | apply keeps_elapse (hI.mono (by decide))
    | refine sndEq ?_ (by assumption)
    | refine fstEq ?_ (by assumption)
    | refine snd2Eq ?_ (by assumption)
    | refine snd3Eq ?_ (by assumption)
    | refine optEq ?_ (by assumption)
    | (refine partMk hI ?_; first | assumption | refine sndEq ?_ (by assumption) | apply keeps_fabRead (hI.mono (by decide)) | apply keeps_elapse (hI.mono (by decide)))
    | with_unfolding_all exact hI.memPut (by decide) (by assumption) _ _
    | exact hI.eccInsert (by decide) (by assumption) _ _
    | exact hI.eccErase (by decide) (by assumption) _
    | exact hI.memKeep (by decide) (by assumption) _
    | exact hI.eccNone (by decide) (by assumption)
    | exact hI.regNone (by decide) (by assumption)
    | exact hI.memNone (by decide) (by assumption)
    | (intro t ht; beta_reduce)
    | (intro m; first | rfl | simp)
    | dsimp only

theorem keeps_execQdataPush (hI : Keeps [.now, .recent, .pod, .regs, .mem] I) (dt : Nat) (q : Fin 32)
    (w : Nat) (s : State) (h_s : I s) : OutI I (execQdataPush dt q w s) := by
  unfold execQdataPush
  with_reducible repeat' first
    | assumption
    | refine outNext ?_
    | apply keeps_qdataWrite (hI.mono (by decide))
    | apply keeps_hostAct (hI.mono (by decide))
    | apply keeps_elapse (hI.mono (by decide))
    | (intro t ht; beta_reduce)
    | (intro m; first | rfl | simp)

theorem keeps_execGylenHostLoad (hI : Keeps [.now, .recent, .pod, .gyl, .regs, .staged] I) (dt : Nat)
    (conn : Fin 16) (len : Fin 64) (s : State) (h_s : I s) : OutI I (execGylenHostLoad dt conn len s) := by
  unfold execGylenHostLoad
  with_reducible repeat' first
    | assumption
    | refine outNext ?_
    | apply keeps_gylenWrite (hI.mono (by decide))
    | apply keeps_hostAct (hI.mono (by decide))
    | apply keeps_elapse (hI.mono (by decide))
    | (intro t ht; beta_reduce)
    | (intro m; first | rfl | simp)

theorem keeps_execMailboxGo (hI : Keeps [.now, .dblTable, .dblCapt, .recent, .freeCtr, .sys, .canopyT,
    .log, .ring, .pod, .gyl, .safe, .hw, .eth, .chan, .sar, .roverQ, .arm, .ride, .capt, .meter, .fram,
    .regs, .staged, .ecc, .mem] I) (dt : Nat) (service tag : Fin 256) (s : State) (h_s : I s) : OutI I
    (execMailboxGo dt service tag s) := by
  unfold execMailboxGo
  with_reducible repeat' first
    | assumption
    | refine outNext ?_
    | apply keeps_hostWrite (hI.mono (by decide))
    | apply keeps_elapse (hI.mono (by decide))

theorem keeps_execMdioCommand (hI : Keeps [.now, .recent, .pod, .regs, .staged] I) (dt : Nat) (data :
    Fin 65536) (reg phy : Fin 32) (write : Bool) (s : State) (h_s : I s) : OutI I (execMdioCommand dt
    data reg phy write s) := by
  unfold execMdioCommand
  with_reducible repeat' first
    | assumption
    | (extract_lets -underBinder +onlyGivenNames x; have hx : I x := ?_; clear_value x; on_goal 2 => subst x)
    | (extract_lets -underBinder +onlyGivenNames x; clear_value x)
    | refine outNext ?_
    | refine iteI (fun _ => ?_) (fun _ => ?_)
    | refine iteOutI (fun _ => ?_) (fun _ => ?_)
    | apply keeps_ethWrite (hI.mono (by decide))
    | apply keeps_hostAct (hI.mono (by decide))
    | apply keeps_elapse (hI.mono (by decide))
    | (intro t ht; beta_reduce)
    | (intro m; first | rfl | simp)

theorem keeps_execSaveHostRead (hI : Keeps [.now, .recent, .pod, .meter, .regs, .staged] I) (dt : Nat)
    (count : Fin 64) (s : State) (h_s : I s) : OutI I (execSaveHostRead dt count s) := by
  unfold execSaveHostRead
  with_reducible repeat' first
    | assumption
    | refine outNext ?_
    | apply keeps_saveWrite (hI.mono (by decide))
    | apply keeps_hostAct (hI.mono (by decide))
    | apply keeps_elapse (hI.mono (by decide))
    | (intro t ht; beta_reduce)
    | (intro m; first | rfl | simp)

theorem keeps_beaconMiss (hI : Keeps [.recent, .canopyT, .log, .pod, .regs] I) (s : State) (h_s : I s)
    : I (State.beaconMiss s) := by
  unfold State.beaconMiss
  with_reducible repeat' first
    | assumption
    | (extract_lets -underBinder +onlyGivenNames x; have hx : I x := ?_; clear_value x; on_goal 2 => subst x)
    | (extract_lets -underBinder +onlyGivenNames x; clear_value x)
    | refine iteI (fun _ => ?_) (fun _ => ?_)
    | split
    | apply keeps_dlMiss (hI.mono (by decide))
    | apply keeps_modCanopy (hI.mono (by decide))
    | apply keeps_enterHoldover (hI.mono (by decide))
    | refine sndEq ?_ (by assumption)
    | refine fstEq ?_ (by assumption)
    | refine snd2Eq ?_ (by assumption)
    | refine snd3Eq ?_ (by assumption)
    | refine optEq ?_ (by assumption)
    | (refine partMk hI ?_; first | assumption | refine sndEq ?_ (by assumption))
    | (intro t ht; beta_reduce)
    | (intro m; first | rfl | simp)

theorem keeps_execDeadlineMiss (hI : Keeps [.now, .recent, .sys, .canopyT, .log, .pod, .gyl, .safe,
    .hw, .chan, .sar, .arm, .ride, .capt, .regs] I) (dt : Nat) (page : Fin 256) (ofs : Fin 4096) (s :
    State) (h_s : I s) : OutI I (execDeadlineMiss dt page ofs s) := by
  unfold execDeadlineMiss
  with_reducible repeat' first
    | assumption
    | (extract_lets -underBinder +onlyGivenNames x; have hx : I x := ?_; clear_value x; on_goal 2 => subst x)
    | (extract_lets -underBinder +onlyGivenNames x; clear_value x)
    | refine outNext ?_
    | refine iteI (fun _ => ?_) (fun _ => ?_)
    | refine iteOutI (fun _ => ?_) (fun _ => ?_)
    | apply keeps_producerMiss (hI.mono (by decide))
    | apply keeps_gylWatchdog (hI.mono (by decide))
    | apply keeps_sliceMiss (hI.mono (by decide))
    | apply keeps_beaconMiss (hI.mono (by decide))
    | apply keeps_senseMiss (hI.mono (by decide))
    | apply keeps_sarMiss (hI.mono (by decide))
    | apply keeps_gridMiss (hI.mono (by decide))
    | apply keeps_elapse (hI.mono (by decide))
    | apply keeps_keMiss (hI.mono (by decide))

theorem keeps_execRegisterWrite (hI : Keeps [.now, .dblTable, .dblCapt, .recent, .freeCtr, .sys,
    .canopyT, .log, .ring, .pod, .gyl, .safe, .hw, .eth, .chan, .sar, .roverQ, .arm, .ride, .capt,
    .meter, .fram, .regs, .staged, .ecc, .mem] I) (dt : Nat) (addr w : Nat) (s : State) (h_s : I s) :
    OutI I (execRegisterWrite dt addr w s) := by
  unfold execRegisterWrite
  with_reducible repeat' first
    | assumption
    | refine outNext ?_
    | apply keeps_hostWrite (hI.mono (by decide))
    | apply keeps_elapse (hI.mono (by decide))

theorem keeps_portRead (hI : Keeps [.dblTable, .dblCapt, .shadow, .hostOut, .recent, .freeCtr, .log,
    .ring, .pod, .eth, .regs, .ecc, .mem] I) (s : State) (port p ofs : Nat) (h_s : I s) : I
    (State.portRead s port p ofs) := by
  unfold State.portRead
  with_reducible repeat' first
    | assumption
    | (extract_lets -underBinder +onlyGivenNames x; have hx : I x := ?_; clear_value x; on_goal 2 => subst x)
    | (extract_lets -underBinder +onlyGivenNames x; clear_value x)
    | refine iteI (fun _ => ?_) (fun _ => ?_)
    | split
    | apply keeps_fabRead (hI.mono (by decide))
    | refine sndEq ?_ (by assumption)
    | refine fstEq ?_ (by assumption)
    | refine snd2Eq ?_ (by assumption)
    | refine snd3Eq ?_ (by assumption)
    | refine optEq ?_ (by assumption)
    | (refine partMk hI ?_; first | assumption | refine sndEq ?_ (by assumption))

theorem keeps_execSnLowRead (hI : Keeps [.now, .dblTable, .dblCapt, .shadow, .hostOut, .recent,
    .freeCtr, .log, .ring, .pod, .eth, .regs, .ecc, .mem] I) (dt : Nat) (port : Fin 2) (page : Fin 256)
    (ofs : Fin 4096) (s : State) (h_s : I s) : OutI I (execSnLowRead dt port page ofs s) := by
  unfold execSnLowRead
  with_reducible repeat' first
    | assumption
    | (extract_lets -underBinder +onlyGivenNames x; have hx : I x := ?_; clear_value x; on_goal 2 => subst x)
    | (extract_lets -underBinder +onlyGivenNames x; clear_value x)
    | refine outNext ?_
    | refine iteI (fun _ => ?_) (fun _ => ?_)
    | refine iteOutI (fun _ => ?_) (fun _ => ?_)
    | apply keeps_portRead (hI.mono (by decide))
    | apply keeps_elapse (hI.mono (by decide))

theorem keeps_execSnHighRead (hI : Keeps [.now, .dblTable, .dblCapt, .shadow, .hostOut, .recent,
    .freeCtr, .log, .ring, .pod, .eth, .regs, .ecc, .mem] I) (dt : Nat) (port : Fin 2) (page : Fin 256)
    (ofs : Fin 4096) (s : State) (h_s : I s) : OutI I (execSnHighRead dt port page ofs s) := by
  unfold execSnHighRead
  with_reducible repeat' first
    | assumption
    | (extract_lets -underBinder +onlyGivenNames x; have hx : I x := ?_; clear_value x; on_goal 2 => subst x)
    | (extract_lets -underBinder +onlyGivenNames x; clear_value x)
    | refine outNext ?_
    | refine iteI (fun _ => ?_) (fun _ => ?_)
    | refine iteOutI (fun _ => ?_) (fun _ => ?_)
    | apply keeps_portRead (hI.mono (by decide))
    | apply keeps_elapse (hI.mono (by decide))

theorem keeps_execCommitGo (hI : Keeps [.now, .recent, .sys, .pod, .chan, .sar, .roverQ, .regs,
    .staged] I) (dt : Nat) (page : Fin 256) (s : State) (h_s : I s) : OutI I (execCommitGo dt page s) := by
  unfold execCommitGo
  with_reducible repeat' first
    | assumption
    | refine outNext ?_
    | refine iteI (fun _ => ?_) (fun _ => ?_)
    | refine iteOutI (fun _ => ?_) (fun _ => ?_)
    | apply keeps_hostAct (hI.mono (by decide))
    | apply keeps_commitGo (hI.mono (by decide))
    | apply keeps_elapse (hI.mono (by decide))
    | (intro t ht; beta_reduce)
    | (intro m; first | rfl | simp)

theorem keeps_execCommitDiscard (hI : Keeps [.now, .recent, .sys, .pod, .chan, .regs, .staged] I) (dt :
    Nat) (page : Fin 256) (s : State) (h_s : I s) : OutI I (execCommitDiscard dt page s) := by
  unfold execCommitDiscard
  with_reducible repeat' first
    | assumption
    | refine outNext ?_
    | refine iteI (fun _ => ?_) (fun _ => ?_)
    | refine iteOutI (fun _ => ?_) (fun _ => ?_)
    | apply keeps_commitDiscard (hI.mono (by decide))
    | apply keeps_hostAct (hI.mono (by decide))
    | apply keeps_elapse (hI.mono (by decide))
    | (intro t ht; beta_reduce)
    | (intro m; first | rfl | simp)

theorem keeps_execCommitApply (hI : Keeps [.now, .recent, .sys, .pod, .chan, .sar, .roverQ, .regs,
    .staged] I) (dt : Nat) (page : Fin 256) (s : State) (h_s : I s) : OutI I (execCommitApply dt page s) := by
  unfold execCommitApply
  with_reducible repeat' first
    | assumption
    | (extract_lets -underBinder +onlyGivenNames x; have hx : I x := ?_; clear_value x; on_goal 2 => subst x)
    | (extract_lets -underBinder +onlyGivenNames x; clear_value x)
    | refine outNext ?_
    | refine iteI (fun _ => ?_) (fun _ => ?_)
    | refine iteOutI (fun _ => ?_) (fun _ => ?_)
    | apply keeps_doCommit (hI.mono (by decide))
    | apply keeps_undrop (hI.mono (by decide))
    | apply keeps_refuseCommit (hI.mono (by decide))
    | apply keeps_commitKick (hI.mono (by decide))
    | apply keeps_elapse (hI.mono (by decide))
    | apply keeps_senseCommit (hI.mono (by decide))

theorem keeps_execUpdateLockClear (hI : Keeps [.now, .recent, .sys, .pod, .chan, .sar, .roverQ, .regs,
    .staged] I) (dt : Nat) (page : Fin 256) (s : State) (h_s : I s) : OutI I (execUpdateLockClear dt
    page s) := by
  unfold execUpdateLockClear
  with_reducible repeat' first
    | assumption
    | refine outNext ?_
    | refine iteI (fun _ => ?_) (fun _ => ?_)
    | refine iteOutI (fun _ => ?_) (fun _ => ?_)
    | apply keeps_hostAct (hI.mono (by decide))
    | apply keeps_updateLock (hI.mono (by decide))
    | apply keeps_elapse (hI.mono (by decide))
    | (intro t ht; beta_reduce)
    | (intro m; first | rfl | simp)

theorem keeps_execErrCountClear (hI : Keeps [.now, .recent, .pod, .regs] I) (dt : Nat) (page : Fin 256)
    (s : State) (h_s : I s) : OutI I (execErrCountClear dt page s) := by
  unfold execErrCountClear
  with_reducible repeat' first
    | assumption
    | refine outNext ?_
    | apply keeps_errClear (hI.mono (by decide))
    | apply keeps_hostAct (hI.mono (by decide))
    | apply keeps_elapse (hI.mono (by decide))
    | (intro t ht; beta_reduce)
    | (intro m; first | rfl | simp)

theorem keeps_execDlCountClear (hI : Keeps [.now, .recent, .pod, .regs] I) (dt : Nat) (page : Fin 256)
    (ofs : Fin 4096) (s : State) (h_s : I s) : OutI I (execDlCountClear dt page ofs s) := by
  unfold execDlCountClear
  with_reducible repeat' first
    | assumption
    | (extract_lets -underBinder +onlyGivenNames x; have hx : I x := ?_; clear_value x; on_goal 2 => subst x)
    | (extract_lets -underBinder +onlyGivenNames x; clear_value x)
    | refine outNext ?_
    | split
    | apply keeps_hostAct (hI.mono (by decide))
    | apply keeps_elapse (hI.mono (by decide))
    | apply keeps_dlClear (hI.mono (by decide))
    | refine sndEq ?_ (by assumption)
    | refine fstEq ?_ (by assumption)
    | refine snd2Eq ?_ (by assumption)
    | refine snd3Eq ?_ (by assumption)
    | refine optEq ?_ (by assumption)
    | (refine partMk hI ?_; first | assumption | refine sndEq ?_ (by assumption))
    | (intro t ht; beta_reduce)
    | (intro m; first | rfl | simp)

theorem keeps_execIrqStatClear (hI : Keeps [.now, .recent, .pod, .regs] I) (dt : Nat) (page : Fin 256)
    (mask : Fin 4294967296) (s : State) (h_s : I s) : OutI I (execIrqStatClear dt page mask s) := by
  unfold execIrqStatClear
  with_reducible repeat' first
    | assumption
    | refine outNext ?_
    | apply keeps_hostAct (hI.mono (by decide))
    | apply keeps_elapse (hI.mono (by decide))
    | apply keeps_irqClear (hI.mono (by decide))
    | (intro t ht; beta_reduce)
    | (intro m; first | rfl | simp)

theorem keeps_execCounterClear (hI : Keeps [.now, .recent, .pod, .regs] I) (dt : Nat) (page : Fin 256)
    (s : State) (h_s : I s) : OutI I (execCounterClear dt page s) := by
  unfold execCounterClear
  with_reducible repeat' first
    | assumption
    | (extract_lets -underBinder +onlyGivenNames x; have hx : I x := ?_; clear_value x; on_goal 2 => subst x)
    | (extract_lets -underBinder +onlyGivenNames x; clear_value x)
    | refine outNext ?_
    | refine iteI (fun _ => ?_) (fun _ => ?_)
    | refine iteOutI (fun _ => ?_) (fun _ => ?_)
    | apply keeps_counterClear (hI.mono (by decide))
    | apply keeps_hostAct (hI.mono (by decide))
    | apply keeps_elapse (hI.mono (by decide))
    | (intro t ht; beta_reduce)
    | (intro m; first | rfl | simp)

theorem keeps_execTrigNow (hI : Keeps [.now, .recent, .log, .pod, .chan, .sar, .roverQ, .regs, .staged]
    I) (dt : Nat) (u : Fin 13) (s : State) (h_s : I s) : OutI I (execTrigNow dt u s) := by
  unfold execTrigNow
  with_reducible repeat' first
    | assumption
    | (extract_lets -underBinder +onlyGivenNames x; have hx : I x := ?_; clear_value x; on_goal 2 => subst x)
    | (extract_lets -underBinder +onlyGivenNames x; clear_value x)
    | refine outNext ?_
    | refine iteI (fun _ => ?_) (fun _ => ?_)
    | refine iteOutI (fun _ => ?_) (fun _ => ?_)
    | apply keeps_sarWrite (hI.mono (by decide))
    | apply keeps_senseWrite (hI.mono (by decide))
    | apply keeps_hostAct (hI.mono (by decide))
    | apply keeps_elapse (hI.mono (by decide))
    | (intro t ht; beta_reduce)
    | (intro m; first | rfl | simp)

theorem keeps_execSdClkWrite (hI : Keeps [.now, .recent, .log, .pod, .chan, .regs] I) (dt : Nat) (x :
    Fin 8) (bits : List (Fin 64)) (w : Nat) (s : State) (h_s : I s) : OutI I (execSdClkWrite dt x bits w
    s) := by
  unfold execSdClkWrite
  with_reducible repeat' first
    | assumption
    | refine outNext ?_
    | apply keeps_sdClkWrite (hI.mono (by decide))
    | apply keeps_feed (hI.mono (by decide))
    | apply keeps_hostAct (hI.mono (by decide))
    | apply keeps_elapse (hI.mono (by decide))
    | (intro t ht; beta_reduce)
    | (intro m; first | rfl | simp)

theorem keeps_execCmpCfgWrite (hI : Keeps [.now, .recent, .log, .pod, .chan, .regs, .staged] I) (dt :
    Nat) (x : Fin 8) (bits : List (Fin 64)) (m : Fin 12) (thr : Bool) (w : Nat) (s : State) (h_s : I s)
    : OutI I (execCmpCfgWrite dt x bits m thr w s) := by
  unfold execCmpCfgWrite
  with_reducible repeat' first
    | assumption
    | (extract_lets -underBinder +onlyGivenNames x; have hx : I x := ?_; clear_value x; on_goal 2 => subst x)
    | (extract_lets -underBinder +onlyGivenNames x; clear_value x)
    | refine outNext ?_
    | refine iteI (fun _ => ?_) (fun _ => ?_)
    | refine iteOutI (fun _ => ?_) (fun _ => ?_)
    | apply keeps_senseWrite (hI.mono (by decide))
    | apply keeps_feed (hI.mono (by decide))
    | apply keeps_hostAct (hI.mono (by decide))
    | apply keeps_elapse (hI.mono (by decide))
    | (intro t ht; beta_reduce)
    | (intro m; first | rfl | simp)

theorem keeps_execTableWindowWrite (hI : Keeps [.now, .dblTable, .dblCapt, .recent, .log, .pod, .regs,
    .ecc, .mem] I) (dt : Nat) (addr w : Nat) (flips : Fin 3) (s : State) (h_s : I s) : OutI I
    (execTableWindowWrite dt addr w flips s) := by
  unfold execTableWindowWrite
  with_reducible repeat' first
    | assumption
    | (extract_lets -underBinder +onlyGivenNames x; have hx : I x := ?_; clear_value x; on_goal 2 => subst x)
    | (extract_lets -underBinder +onlyGivenNames x; clear_value x)
    | refine outNext ?_
    | refine iteI (fun _ => ?_) (fun _ => ?_)
    | refine iteOutI (fun _ => ?_) (fun _ => ?_)
    | apply keeps_spoil (hI.mono (by decide))
    | apply keeps_tableWrite (hI.mono (by decide))
    | apply keeps_elapse (hI.mono (by decide))

theorem keeps_execTablePairWrite (hI : Keeps [.now, .dblTable, .dblCapt, .recent, .pod, .regs, .ecc,
    .mem] I) (dt : Nat) (addr w0 w1 : Nat) (s : State) (h_s : I s) : OutI I (execTablePairWrite dt addr
    w0 w1 s) := by
  unfold execTablePairWrite
  with_reducible repeat' first
    | assumption
    | (extract_lets -underBinder +onlyGivenNames x; have hx : I x := ?_; clear_value x; on_goal 2 => subst x)
    | (extract_lets -underBinder +onlyGivenNames x; clear_value x)
    | refine outNext ?_
    | refine iteI (fun _ => ?_) (fun _ => ?_)
    | refine iteOutI (fun _ => ?_) (fun _ => ?_)
    | apply keeps_tablePair (hI.mono (by decide))
    | apply keeps_elapse (hI.mono (by decide))

theorem keeps_inputChange (hI : Keeps [.recent, .log, .pod, .gyl, .safe, .hw, .chan, .regs] I) (s :
    State) (c p : Nat) (b on : Bool) (h_s : I s) : I (State.inputChange s c p b on) := by
  unfold State.inputChange
  with_reducible repeat' first
    | assumption
    | (extract_lets -underBinder +onlyGivenNames x; have hx : I x := ?_; clear_value x; on_goal 2 => subst x)
    | (extract_lets -underBinder +onlyGivenNames x; clear_value x)
    | refine iteI (fun _ => ?_) (fun _ => ?_)
    | apply keeps_setSide (hI.mono (by decide))
    | apply keeps_putInput (hI.mono (by decide))
    | apply keeps_evalBurl hI
    | apply keeps_set (hI.mono (by decide))
    | apply keeps_modSafe (hI.mono (by decide))
    | (refine partMk hI ?_; first | assumption | refine sndEq ?_ (by assumption))
    | (intro t ht; beta_reduce)
    | (intro m; first | rfl | simp)

theorem keeps_execSafetyInputChange (hI : Keeps [.now, .recent, .log, .pod, .gyl, .safe, .hw, .chan,
    .regs] I) (dt : Nat) (c : Fin 2) (p : Fin 12) (b : Bool) (ev : Fin 3) (s : State) (h_s : I s) : OutI
    I (execSafetyInputChange dt c p b ev s) := by
  unfold execSafetyInputChange
  with_reducible repeat' first
    | assumption
    | (extract_lets -underBinder +onlyGivenNames x; have hx : I x := ?_; clear_value x; on_goal 2 => subst x)
    | (extract_lets -underBinder +onlyGivenNames x; clear_value x)
    | refine outNext ?_
    | refine iteI (fun _ => ?_) (fun _ => ?_)
    | refine iteOutI (fun _ => ?_) (fun _ => ?_)
    | refine foldlI ?_ (fun _ _ _ => ?_)
    | apply keeps_setFn (hI.mono (by decide))
    | apply keeps_inputChange (hI.mono (by decide))
    | apply keeps_elapse (hI.mono (by decide))
    | (refine partMk hI ?_; first | assumption | refine sndEq ?_ (by assumption))
    | (intro t ht; beta_reduce)
    | (intro m; first | rfl | simp)

theorem keeps_execDiscrepancyFault (hI : Keeps [.now, .recent, .log, .pod, .gyl, .safe, .hw, .chan,
    .regs] I) (dt : Nat) (c : Fin 2) (f : Fin 8) (s : State) (h_s : I s) : OutI I (execDiscrepancyFault
    dt c f s) := by
  unfold execDiscrepancyFault
  with_reducible repeat' first
    | assumption
    | (extract_lets -underBinder +onlyGivenNames x; have hx : I x := ?_; clear_value x; on_goal 2 => subst x)
    | (extract_lets -underBinder +onlyGivenNames x; clear_value x)
    | refine outNext ?_
    | refine iteI (fun _ => ?_) (fun _ => ?_)
    | refine iteOutI (fun _ => ?_) (fun _ => ?_)
    | split
    | apply keeps_fnFault (hI.mono (by decide))
    | apply keeps_evalSide (hI.mono (by decide))
    | apply keeps_elapse (hI.mono (by decide))
    | refine sndEq ?_ (by assumption)
    | refine fstEq ?_ (by assumption)
    | refine snd2Eq ?_ (by assumption)
    | refine snd3Eq ?_ (by assumption)
    | refine optEq ?_ (by assumption)
    | (refine partMk hI ?_; first | assumption | refine sndEq ?_ (by assumption))
    | (intro t ht; beta_reduce)
    | (intro m; first | rfl | simp)

theorem keeps_execStopDelayEnd (hI : Keeps [.now, .recent, .log, .pod, .gyl, .safe, .hw, .chan, .regs]
    I) (dt : Nat) (c : Fin 2) (f : Fin 8) (s : State) (h_s : I s) : OutI I (execStopDelayEnd dt c f s) := by
  unfold execStopDelayEnd
  with_reducible repeat' first
    | assumption
    | (extract_lets -underBinder +onlyGivenNames x; have hx : I x := ?_; clear_value x; on_goal 2 => subst x)
    | (extract_lets -underBinder +onlyGivenNames x; clear_value x)
    | refine outNext ?_
    | refine iteI (fun _ => ?_) (fun _ => ?_)
    | refine iteOutI (fun _ => ?_) (fun _ => ?_)
    | apply keeps_fnEnter (hI.mono (by decide))
    | apply keeps_evalSide (hI.mono (by decide))
    | apply keeps_elapse (hI.mono (by decide))

theorem keeps_execChannelDivergence (hI : Keeps [.now, .recent, .log, .pod, .gyl, .safe, .hw, .chan,
    .regs] I) (dt : Nat) (f : Fin 8) (s : State) (h_s : I s) : OutI I (execChannelDivergence dt f s) := by
  unfold execChannelDivergence
  with_reducible repeat' first
    | assumption
    | (extract_lets -underBinder +onlyGivenNames x; have hx : I x := ?_; clear_value x; on_goal 2 => subst x)
    | (extract_lets -underBinder +onlyGivenNames x; clear_value x)
    | refine outNext ?_
    | refine iteI (fun _ => ?_) (fun _ => ?_)
    | refine iteOutI (fun _ => ?_) (fun _ => ?_)
    | split
    | apply keeps_evalBurl (hI.mono (by decide))
    | apply keeps_fnFault (hI.mono (by decide))
    | apply keeps_set (hI.mono (by decide))
    | apply keeps_irqLog (hI.mono (by decide))
    | apply keeps_elapse (hI.mono (by decide))
    | apply keeps_setMaskBit (hI.mono (by decide))
    | apply keeps_modSafe (hI.mono (by decide))
    | refine sndEq ?_ (by assumption)
    | refine fstEq ?_ (by assumption)
    | refine snd2Eq ?_ (by assumption)
    | refine snd3Eq ?_ (by assumption)
    | refine optEq ?_ (by assumption)
    | (refine partMk hI ?_; first | assumption | refine sndEq ?_ (by assumption))
    | (intro t ht; beta_reduce)
    | (intro m; first | rfl | simp)

theorem keeps_execCurtainPulseMissing (hI : Keeps [.now, .recent, .log, .pod, .gyl, .safe, .hw, .chan,
    .regs] I) (dt : Nat) (c : Fin 2) (f : Fin 8) (s : State) (h_s : I s) : OutI I
    (execCurtainPulseMissing dt c f s) := by
  unfold execCurtainPulseMissing
  with_reducible repeat' first
    | assumption
    | (extract_lets -underBinder +onlyGivenNames x; have hx : I x := ?_; clear_value x; on_goal 2 => subst x)
    | (extract_lets -underBinder +onlyGivenNames x; clear_value x)
    | refine outNext ?_
    | refine iteI (fun _ => ?_) (fun _ => ?_)
    | refine iteOutI (fun _ => ?_) (fun _ => ?_)
    | split
    | apply keeps_fnFault (hI.mono (by decide))
    | apply keeps_evalSide (hI.mono (by decide))
    | apply keeps_elapse (hI.mono (by decide))
    | refine sndEq ?_ (by assumption)
    | refine fstEq ?_ (by assumption)
    | refine snd2Eq ?_ (by assumption)
    | refine snd3Eq ?_ (by assumption)
    | refine optEq ?_ (by assumption)
    | (refine partMk hI ?_; first | assumption | refine sndEq ?_ (by assumption))

theorem keeps_execTwohandLate (hI : Keeps [.now, .recent, .pod, .safe, .hw, .regs] I) (dt : Nat) (c :
    Fin 2) (f : Fin 8) (s : State) (h_s : I s) : OutI I (execTwohandLate dt c f s) := by
  unfold execTwohandLate
  with_reducible repeat' first
    | assumption
    | (extract_lets -underBinder +onlyGivenNames x; have hx : I x := ?_; clear_value x; on_goal 2 => subst x)
    | (extract_lets -underBinder +onlyGivenNames x; clear_value x)
    | refine outNext ?_
    | refine iteI (fun _ => ?_) (fun _ => ?_)
    | refine iteOutI (fun _ => ?_) (fun _ => ?_)
    | split
    | apply keeps_handsLate (hI.mono (by decide))
    | apply keeps_elapse (hI.mono (by decide))
    | refine sndEq ?_ (by assumption)
    | refine fstEq ?_ (by assumption)
    | refine snd2Eq ?_ (by assumption)
    | refine snd3Eq ?_ (by assumption)
    | refine optEq ?_ (by assumption)
    | (refine partMk hI ?_; first | assumption | refine sndEq ?_ (by assumption))

theorem keeps_execSrstInRise (hI : Keeps [.now, .safe] I) (dt : Nat) (s : State) (h_s : I s) : OutI I
    (execSrstInRise dt s) := by
  unfold execSrstInRise
  with_reducible repeat' first
    | assumption
    | (extract_lets -underBinder +onlyGivenNames x; have hx : I x := ?_; clear_value x; on_goal 2 => subst x)
    | (extract_lets -underBinder +onlyGivenNames x; clear_value x)
    | refine outNext ?_
    | refine iteI (fun _ => ?_) (fun _ => ?_)
    | refine iteOutI (fun _ => ?_) (fun _ => ?_)
    | split
    | apply keeps_elapse (hI.mono (by decide))
    | apply keeps_modSafe (hI.mono (by decide))
    | refine sndEq ?_ (by assumption)
    | refine fstEq ?_ (by assumption)
    | refine snd2Eq ?_ (by assumption)
    | refine snd3Eq ?_ (by assumption)
    | refine optEq ?_ (by assumption)
    | (refine partMk hI ?_; first | assumption | refine sndEq ?_ (by assumption))
    | (intro t ht; beta_reduce)
    | (intro m; first | rfl | simp)

theorem keeps_acceptReset (hI : Keeps [.recent, .log, .pod, .gyl, .safe, .hw, .chan, .regs] I) (s :
    State) (h_s : I s) : I (State.acceptReset s) := by
  unfold State.acceptReset
  with_reducible repeat' first
    | assumption
    | (extract_lets -underBinder +onlyGivenNames x; have hx : I x := ?_; clear_value x; on_goal 2 => subst x)
    | (extract_lets -underBinder +onlyGivenNames x; clear_value x)
    | refine iteI (fun _ => ?_) (fun _ => ?_)
    | split
    | refine foldlI ?_ (fun _ _ _ => ?_)
    | apply keeps_setB (hI.mono (by decide))
    | apply keeps_evalBurl hI
    | apply keeps_fnEnter (hI.mono (by decide))
    | apply keeps_putMaskBit (hI.mono (by decide))
    | refine sndEq ?_ (by assumption)
    | refine fstEq ?_ (by assumption)
    | refine snd2Eq ?_ (by assumption)
    | refine snd3Eq ?_ (by assumption)
    | refine optEq ?_ (by assumption)
    | (refine partMk hI ?_; first | assumption | refine sndEq ?_ (by assumption))
    | (intro t ht; beta_reduce)
    | (intro m; first | rfl | simp)

theorem keeps_execResetPulse (hI : Keeps [.now, .recent, .log, .pod, .gyl, .safe, .hw, .chan, .regs] I)
    (dt : Nat) (burlMs : Nat) (s : State) (h_s : I s) : OutI I (execResetPulse dt burlMs s) := by
  unfold execResetPulse
  with_reducible repeat' first
    | assumption
    | (extract_lets -underBinder +onlyGivenNames x; have hx : I x := ?_; clear_value x; on_goal 2 => subst x)
    | (extract_lets -underBinder +onlyGivenNames x; clear_value x)
    | refine outNext ?_
    | refine iteI (fun _ => ?_) (fun _ => ?_)
    | refine iteOutI (fun _ => ?_) (fun _ => ?_)
    | split
    | apply keeps_setB (hI.mono (by decide))
    | apply keeps_elapse (hI.mono (by decide))
    | apply keeps_acceptReset (hI.mono (by decide))
    | apply keeps_irq (hI.mono (by decide))
    | apply keeps_setSat (hI.mono (by decide))
    | apply keeps_modSafe (hI.mono (by decide))
    | refine sndEq ?_ (by assumption)
    | refine fstEq ?_ (by assumption)
    | refine snd2Eq ?_ (by assumption)
    | refine snd3Eq ?_ (by assumption)
    | refine optEq ?_ (by assumption)
    | (refine partMk hI ?_; first | assumption | refine sndEq ?_ (by assumption))
    | (intro t ht; beta_reduce)
    | (intro m; first | rfl | simp)

theorem keeps_execOutputReadbackFault (hI : Keeps [.now, .recent, .log, .pod, .safe, .regs] I) (dt :
    Nat) (n : Fin 4) (rbA rbB : Bool) (s : State) (h_s : I s) : OutI I (execOutputReadbackFault dt n rbA
    rbB s) := by
  unfold execOutputReadbackFault
  with_reducible repeat' first
    | assumption
    | (extract_lets -underBinder +onlyGivenNames x; have hx : I x := ?_; clear_value x; on_goal 2 => subst x)
    | (extract_lets -underBinder +onlyGivenNames x; have hfn : ∀ (t : State) (a b : Nat), I t → I (x t a b).1 := ?_; clear_value x; on_goal 2 => subst x)
    | (extract_lets -underBinder +onlyGivenNames x; have hfn : ∀ (t : State) (a : Nat), I t → I (x t a) := ?_; clear_value x; on_goal 2 => subst x)
    | (extract_lets -underBinder +onlyGivenNames x; have hfn : ∀ (t : State), I t → I (x t) := ?_; clear_value x; on_goal 2 => subst x)
    | (extract_lets -underBinder +onlyGivenNames x; have hfn : ∀ (t : State) (a b : Bool), I t → I (x t a b) := ?_; clear_value x; on_goal 2 => subst x)
    | apply hfn
    | (intro t a b ht; beta_reduce)
    | (intro t a ht; beta_reduce)
    | (extract_lets -underBinder +onlyGivenNames x; clear_value x)
    | refine outNext ?_
    | refine iteI (fun _ => ?_) (fun _ => ?_)
    | refine iteOutI (fun _ => ?_) (fun _ => ?_)
    | split
    | apply keeps_outFault (hI.mono (by decide))
    | apply keeps_setOut (hI.mono (by decide))
    | apply keeps_elapse (hI.mono (by decide))
    | apply keeps_putMaskBit (hI.mono (by decide))
    | refine sndEq ?_ (by assumption)
    | refine fstEq ?_ (by assumption)
    | refine snd2Eq ?_ (by assumption)
    | refine snd3Eq ?_ (by assumption)
    | refine optEq ?_ (by assumption)
    | (refine partMk hI ?_; first | assumption | refine sndEq ?_ (by assumption))
    | (intro t ht; beta_reduce)
    | (intro m; first | rfl | simp)

theorem keeps_execTestPulseStart (hI : Keeps [.now, .safe, .regs] I) (dt : Nat) (n : Fin 4) (s : State)
    (h_s : I s) : OutI I (execTestPulseStart dt n s) := by
  unfold execTestPulseStart
  with_reducible repeat' first
    | assumption
    | (extract_lets -underBinder +onlyGivenNames x; have hx : I x := ?_; clear_value x; on_goal 2 => subst x)
    | (extract_lets -underBinder +onlyGivenNames x; clear_value x)
    | refine outNext ?_
    | refine iteI (fun _ => ?_) (fun _ => ?_)
    | refine iteOutI (fun _ => ?_) (fun _ => ?_)
    | apply keeps_driveOut (hI.mono (by decide))
    | apply keeps_showTest (hI.mono (by decide))
    | apply keeps_setOut (hI.mono (by decide))
    | apply keeps_elapse (hI.mono (by decide))
    | (refine partMk hI ?_; first | assumption | refine sndEq ?_ (by assumption))
    | (intro t ht; beta_reduce)
    | (intro m; first | rfl | simp)

theorem keeps_pulseEnd (hI : Keeps [.recent, .log, .pod, .safe, .regs] I) (s : State) (n : Nat) (last
    ok : Bool) (h_s : I s) : I (State.pulseEnd s n last ok) := by
  unfold State.pulseEnd
  with_reducible repeat' first
    | assumption
    | (extract_lets -underBinder +onlyGivenNames x; have hx : I x := ?_; clear_value x; on_goal 2 => subst x)
    | (extract_lets -underBinder +onlyGivenNames x; clear_value x)
    | refine iteI (fun _ => ?_) (fun _ => ?_)
    | apply keeps_driveOut (hI.mono (by decide))
    | apply keeps_inc (hI.mono (by decide))
    | apply keeps_outSync (hI.mono (by decide))
    | apply keeps_outFault hI
    | apply keeps_showTest (hI.mono (by decide))
    | apply keeps_setOut (hI.mono (by decide))
    | apply keeps_irq (hI.mono (by decide))
    | (refine partMk hI ?_; first | assumption | refine sndEq ?_ (by assumption))
    | (intro t ht; beta_reduce)
    | (intro m; first | rfl | simp)

theorem keeps_execTestPulseEnd (hI : Keeps [.now, .recent, .log, .pod, .safe, .regs] I) (dt : Nat) (n :
    Fin 4) (ok : Bool) (s : State) (h_s : I s) : OutI I (execTestPulseEnd dt n ok s) := by
  unfold execTestPulseEnd
  with_reducible repeat' first
    | assumption
    | (extract_lets -underBinder +onlyGivenNames x; have hx : I x := ?_; clear_value x; on_goal 2 => subst x)
    | (extract_lets -underBinder +onlyGivenNames x; clear_value x)
    | refine outNext ?_
    | refine iteI (fun _ => ?_) (fun _ => ?_)
    | refine iteOutI (fun _ => ?_) (fun _ => ?_)
    | split
    | apply keeps_pulseEnd (hI.mono (by decide))
    | apply keeps_elapse (hI.mono (by decide))
    | refine sndEq ?_ (by assumption)
    | refine fstEq ?_ (by assumption)
    | refine snd2Eq ?_ (by assumption)
    | refine snd3Eq ?_ (by assumption)
    | refine optEq ?_ (by assumption)
    | (refine partMk hI ?_; first | assumption | refine sndEq ?_ (by assumption))

theorem keeps_execTestPulseBStart (hI : Keeps [.now, .safe, .regs] I) (dt : Nat) (n : Fin 4) (s :
    State) (h_s : I s) : OutI I (execTestPulseBStart dt n s) := by
  unfold execTestPulseBStart
  with_reducible repeat' first
    | assumption
    | (extract_lets -underBinder +onlyGivenNames x; have hx : I x := ?_; clear_value x; on_goal 2 => subst x)
    | (extract_lets -underBinder +onlyGivenNames x; clear_value x)
    | refine outNext ?_
    | refine iteI (fun _ => ?_) (fun _ => ?_)
    | refine iteOutI (fun _ => ?_) (fun _ => ?_)
    | split
    | apply keeps_driveOut (hI.mono (by decide))
    | apply keeps_showTest (hI.mono (by decide))
    | apply keeps_setOut (hI.mono (by decide))
    | apply keeps_elapse (hI.mono (by decide))
    | refine sndEq ?_ (by assumption)
    | refine fstEq ?_ (by assumption)
    | refine snd2Eq ?_ (by assumption)
    | refine snd3Eq ?_ (by assumption)
    | refine optEq ?_ (by assumption)
    | (refine partMk hI ?_; first | assumption | refine sndEq ?_ (by assumption))
    | (intro t ht; beta_reduce)
    | (intro m; first | rfl | simp)

end Sys2Proof.Machine
end

