-- ==== Sys2Proof/Laws/Memory.lean ====
section
/-! SUPPORT. The memory laws: every operation keeps the canonical form, a read after a write to the same
byte gives the written value, and a write leaves every other byte alone. -/

namespace Sys2Proof.Machine

/-- The canonical form, said of the whole list. -/
theorem Memory.wf_iff (m : Memory) :
    m.wf = true ↔ m.Pairwise (fun c d => c.1 < d.1) ∧ ∀ c ∈ m, c.2 ≠ Memory.blank := by
  induction m with
  | nil => simp [Memory.wf]
  | cons c t ih =>
    cases t with
    | nil => obtain ⟨k, v⟩ := c; simp [Memory.wf]
    | cons d t =>
      obtain ⟨k, v⟩ := c
      obtain ⟨k', v'⟩ := d
      rw [Memory.wf, Bool.and_eq_true, Bool.and_eq_true, ih]
      simp only [List.pairwise_cons, List.mem_cons, forall_eq_or_imp, bne_iff_ne, decide_eq_true_eq]
      constructor
      · rintro ⟨⟨hv, hk⟩, ⟨h1, h2⟩, h3, h4⟩
        exact ⟨⟨⟨hk, fun a ha => lt_trans hk (h1 a ha)⟩, h1, h2⟩, hv, h3, h4⟩
      · rintro ⟨⟨⟨hk, -⟩, h1, h2⟩, hv, h3, h4⟩
        exact ⟨⟨hv, hk⟩, ⟨h1, h2⟩, h3, h4⟩

theorem Memory.wf_filter {m : Memory} (h : m.wf = true) (p : Host.Cell → Bool) :
    Memory.wf (m.filter p) = true := by
  rw [Memory.wf_iff] at h ⊢
  exact ⟨h.1.filter p, fun c hc => h.2 c (List.mem_of_mem_filter hc)⟩

theorem Memory.drop_eq_filter (m : Memory) (a : Nat) : m.drop a = m.filter (fun c => !decide (c.1 = a)) := by
  induction m with
  | nil => rfl
  | cons c t ih =>
    obtain ⟨k, v⟩ := c
    by_cases e : k = a <;> simp [Memory.drop, e, ih]

theorem Memory.mem_place {m : Memory} {a : Nat} {v : BitVec 8} {c : Host.Cell} (h : c ∈ m.place a v) :
    c = (a, v) ∨ c ∈ m := by
  induction m with
  | nil => simp_all [Memory.place]
  | cons d t ih =>
    obtain ⟨k, w⟩ := d
    unfold Memory.place at h
    split at h
    · simpa using h
    · split at h
      · rcases List.mem_cons.1 h with h | h
        · exact .inl h
        · exact .inr (List.mem_cons_of_mem _ h)
      · rcases List.mem_cons.1 h with h | h
        · exact .inr (h ▸ List.mem_cons_self)
        · rcases ih h with h | h
          · exact .inl h
          · exact .inr (List.mem_cons_of_mem _ h)

theorem Memory.wf_place {m : Memory} (h : m.wf = true) (a : Nat) {v : BitVec 8} (hv : v ≠ Memory.blank) :
    (m.place a v).wf = true := by
  rw [Memory.wf_iff] at h ⊢
  induction m with
  | nil => simpa [Memory.place] using hv
  | cons d t ih =>
    obtain ⟨k, w⟩ := d
    obtain ⟨hp, hb⟩ := h
    rw [List.pairwise_cons] at hp
    have hbt : ∀ c ∈ t, c.2 ≠ Memory.blank := fun c hc => hb c (List.mem_cons_of_mem _ hc)
    unfold Memory.place
    split
    next hlt =>
      refine ⟨?_, ?_⟩
      · rw [List.pairwise_cons]
        refine ⟨fun c hc => ?_, by rw [List.pairwise_cons]; exact hp⟩
        rcases List.mem_cons.1 hc with rfl | hc
        · exact hlt
        · exact lt_trans hlt (hp.1 c hc)
      · intro c hc
        rcases List.mem_cons.1 hc with rfl | hc
        · exact hv
        · exact hb c hc
    next hge =>
      split
      next e =>
        subst e
        refine ⟨by rw [List.pairwise_cons]; exact hp, fun c hc => ?_⟩
        rcases List.mem_cons.1 hc with rfl | hc
        · exact hv
        · exact hbt c hc
      next hne =>
        have it := ih ⟨hp.2, hbt⟩
        refine ⟨?_, fun c hc => ?_⟩
        · rw [List.pairwise_cons]
          refine ⟨fun c hc => ?_, it.1⟩
          rcases Memory.mem_place hc with rfl | hc
          · exact lt_of_le_of_ne (not_lt.1 hge) (Ne.symm hne)
          · exact hp.1 c hc
        · rcases List.mem_cons.1 hc with rfl | hc
          · exact hb _ List.mem_cons_self
          · exact it.2 c hc

theorem Memory.wf_put {m : Memory} (h : m.wf = true) (a : Nat) (v : BitVec 8) : (m.put a v).wf = true := by
  unfold Memory.put
  split
  · rw [Memory.drop_eq_filter]; exact Memory.wf_filter h _
  · exact Memory.wf_place h a ‹_›

theorem Memory.wf_putBytes {m : Memory} (h : m.wf = true) (a : Nat) (l : List Nat) :
    (m.putBytes a l).wf = true := by
  induction l generalizing m a with
  | nil => exact h
  | cons b l ih => exact ih (Memory.wf_put h a _) _

/-- A byte read where it was just placed. -/
theorem Memory.get_place_same (m : Memory) (a : Nat) (v : BitVec 8) : (m.place a v).get a = v := by
  induction m with
  | nil => simp [Memory.place, Memory.get]
  | cons c t ih =>
    obtain ⟨k, w⟩ := c
    unfold Memory.place
    split
    · simp [Memory.get]
    · split
      · simp [Memory.get]
      · rename_i h
        simp [Memory.get, Ne.symm h, ih]

/-- Any other byte after a byte is placed. -/
theorem Memory.get_place_other (m : Memory) {a b : Nat} (v : BitVec 8) (e : b ≠ a) :
    (m.place a v).get b = m.get b := by
  induction m with
  | nil => simp [Memory.place, Memory.get, Ne.symm e]
  | cons c t ih =>
    obtain ⟨k, w⟩ := c
    unfold Memory.place
    split
    · simp [Memory.get, Ne.symm e]
    · split
      · rename_i h; subst h; simp [Memory.get, Ne.symm e]
      · simp [Memory.get, ih]

theorem Memory.get_drop_same (m : Memory) (a : Nat) : (m.drop a).get a = Memory.blank := by
  induction m with
  | nil => rfl
  | cons c t ih =>
    obtain ⟨k, w⟩ := c
    by_cases e : k = a
    · simpa [Memory.drop, e] using ih
    · simpa [Memory.drop, Memory.get, e] using ih

theorem Memory.get_drop_other (m : Memory) {a b : Nat} (e : b ≠ a) : (m.drop a).get b = m.get b := by
  induction m with
  | nil => rfl
  | cons c t ih =>
    obtain ⟨k, w⟩ := c
    by_cases h : k = a
    · subst h; simpa [Memory.drop, Memory.get, Ne.symm e] using ih
    · simp [Memory.drop, Memory.get, h, ih]

/-- Read after write. -/
@[simp] theorem Memory.get_put_same (m : Memory) (a : Nat) (v : BitVec 8) : (m.put a v).get a = v := by
  unfold Memory.put
  split
  · rename_i h; rw [Memory.get_drop_same, h]
  · exact Memory.get_place_same m a v

theorem Memory.get_put_other (m : Memory) {a b : Nat} (v : BitVec 8) (e : b ≠ a) :
    (m.put a v).get b = m.get b := by
  unfold Memory.put
  split
  · exact Memory.get_drop_other m e
  · exact Memory.get_place_other m v e

/-- A byte outside the written range. -/
theorem Memory.get_putBytes_other (m : Memory) (a : Nat) (l : List Nat) {b : Nat}
    (h : b < a ∨ a + l.length ≤ b) : (m.putBytes a l).get b = m.get b := by
  induction l generalizing m a with
  | nil => rfl
  | cons c l ih =>
    simp only [List.length_cons] at h
    rw [Memory.putBytes, ih _ _ (by omega), Memory.get_put_other _ _ (by omega)]

/-- A byte of the written range. -/
theorem Memory.get_putBytes (m : Memory) (a : Nat) (l : List Nat) {i : Nat} (h : i < l.length) :
    (m.putBytes a l).get (a + i) = BitVec.ofNat 8 l[i] := by
  induction l generalizing m a i with
  | nil => simp at h
  | cons c l ih =>
    cases i with
    | zero =>
      rw [Memory.putBytes, Memory.get_putBytes_other _ _ _ (.inl (by omega))]
      simp
    | succ i =>
      have := ih (m.put a (BitVec.ofNat 8 c)) (a + 1) (i := i) (by simpa using h)
      rw [Memory.putBytes, show a + (i + 1) = a + 1 + i by omega, this]
      simp

/-- A filtered memory at an address it keeps. -/
theorem Memory.get_filter_keep (m : Memory) (p : Nat → Bool) {a : Nat} (h : p a = true) :
    Memory.get (m.filter (fun c => p c.1)) a = m.get a := by
  induction m with
  | nil => rfl
  | cons c t ih =>
    obtain ⟨k, w⟩ := c
    by_cases e : k = a
    · subst e; simp [Memory.get, h]
    · by_cases q : p k = true <;> simp [Memory.get, e, q, ih]

/-- A filtered memory at an address it does not keep. -/
theorem Memory.get_filter_gone (m : Memory) (p : Nat → Bool) {a : Nat} (h : p a = false) :
    Memory.get (m.filter (fun c => p c.1)) a = Memory.blank := by
  induction m with
  | nil => rfl
  | cons c t ih =>
    obtain ⟨k, w⟩ := c
    by_cases q : p k = true
    · have e : k ≠ a := fun e => by rw [e, h] at q; exact absurd q (by decide)
      simp [Memory.get, e, q, ih]
    · simp [q, ih]

end Sys2Proof.Machine
end

