-- ==== Sys2Proof/Laws/RegFile.lean ====
section
/-! SUPPORT. The register file laws: a field reads what was written to it, no other field changes, and the
canonical form is kept. -/

namespace Sys2Proof.Machine

theorem RegFile.wf_iff (f : RegFile) : f.wf = true ↔ f.Pairwise (fun c d => c.1 < d.1) := by
  induction f with
  | nil => simp [RegFile.wf]
  | cons c t ih =>
    cases t with
    | nil => obtain ⟨k, v⟩ := c; simp [RegFile.wf]
    | cons d t =>
      obtain ⟨k, v⟩ := c
      obtain ⟨k', v'⟩ := d
      rw [RegFile.wf, Bool.and_eq_true, ih]
      simp only [List.pairwise_cons, List.mem_cons, forall_eq_or_imp, decide_eq_true_eq]
      constructor
      · rintro ⟨hk, h1, h2⟩
        exact ⟨⟨hk, fun a ha => lt_trans hk (h1 a ha)⟩, h1, h2⟩
      · rintro ⟨⟨hk, -⟩, h1, h2⟩
        exact ⟨hk, h1, h2⟩

theorem RegFile.wf_filter {f : RegFile} (h : f.wf = true) (p : Nat × Nat → Bool) :
    RegFile.wf (f.filter p) = true := by
  rw [RegFile.wf_iff] at h ⊢
  exact h.filter p

theorem RegFile.erase_eq_filter (f : RegFile) (k : Nat) : f.erase k = f.filter (fun c => !decide (c.1 = k)) := by
  induction f with
  | nil => rfl
  | cons c t ih =>
    obtain ⟨k', v⟩ := c
    by_cases e : k' = k <;> simp [RegFile.erase, e, ih]

theorem RegFile.wf_erase {f : RegFile} (h : f.wf = true) (k : Nat) : (f.erase k).wf = true := by
  rw [RegFile.erase_eq_filter]; exact RegFile.wf_filter h _

theorem RegFile.mem_insert {f : RegFile} {k v : Nat} {c : Nat × Nat} (h : c ∈ f.insert k v) :
    c = (k, v) ∨ c ∈ f := by
  induction f with
  | nil => simp_all [RegFile.insert]
  | cons d t ih =>
    obtain ⟨k', w⟩ := d
    unfold RegFile.insert at h
    split at h
    · simpa using h
    · split at h
      · rcases List.mem_cons.1 h with h | h
        · exact .inl h
        · exact .inr (List.mem_cons_of_mem _ h)
      · rcases List.mem_cons.1 h with h | h
        · exact .inr (h ▸ List.mem_cons_self)
        · rcases ih h with h | h
          · exact .inl h
          · exact .inr (List.mem_cons_of_mem _ h)

theorem RegFile.wf_insert {f : RegFile} (h : f.wf = true) (k v : Nat) : (f.insert k v).wf = true := by
  rw [RegFile.wf_iff] at h ⊢
  induction f with
  | nil => simp [RegFile.insert]
  | cons d t ih =>
    obtain ⟨k', w⟩ := d
    rw [List.pairwise_cons] at h
    unfold RegFile.insert
    split
    next hlt =>
      rw [List.pairwise_cons]
      refine ⟨fun c hc => ?_, by rw [List.pairwise_cons]; exact h⟩
      rcases List.mem_cons.1 hc with rfl | hc
      · exact hlt
      · exact lt_trans hlt (h.1 c hc)
    next hge =>
      split
      next e => subst e; rw [List.pairwise_cons]; exact h
      next hne =>
        rw [List.pairwise_cons]
        refine ⟨fun c hc => ?_, ih h.2⟩
        rcases RegFile.mem_insert hc with rfl | hc
        · exact lt_of_le_of_ne (not_lt.1 hge) (Ne.symm hne)
        · exact h.1 c hc

theorem RegFile.wf_set {f : RegFile} (h : f.wf = true) (r : Reg) (v : Nat) : (f.set r v).wf = true := by
  unfold RegFile.set
  split
  · exact RegFile.wf_erase h _
  · exact RegFile.wf_insert h _ _

theorem RegFile.lookup_insert_same (f : RegFile) (k v : Nat) : (f.insert k v).lookup k = some v := by
  induction f with
  | nil => simp [RegFile.insert, RegFile.lookup]
  | cons c t ih =>
    obtain ⟨k', w⟩ := c
    unfold RegFile.insert
    split
    · simp [RegFile.lookup]
    · split
      · simp [RegFile.lookup]
      · rename_i h
        simp [RegFile.lookup, Ne.symm h, ih]

theorem RegFile.lookup_insert_other (f : RegFile) {k k' : Nat} (v : Nat) (e : k' ≠ k) :
    (f.insert k v).lookup k' = f.lookup k' := by
  induction f with
  | nil => simp [RegFile.insert, RegFile.lookup, Ne.symm e]
  | cons c t ih =>
    obtain ⟨j, w⟩ := c
    unfold RegFile.insert
    split
    · simp [RegFile.lookup, Ne.symm e]
    · split
      · rename_i h; subst h; simp [RegFile.lookup, Ne.symm e]
      · simp [RegFile.lookup, ih]

theorem RegFile.lookup_erase_same (f : RegFile) (k : Nat) : (f.erase k).lookup k = none := by
  induction f with
  | nil => rfl
  | cons c t ih =>
    obtain ⟨j, w⟩ := c
    by_cases e : j = k
    · simpa [RegFile.erase, e] using ih
    · simpa [RegFile.erase, RegFile.lookup, e] using ih

theorem RegFile.lookup_erase_other (f : RegFile) {k k' : Nat} (e : k' ≠ k) :
    (f.erase k).lookup k' = f.lookup k' := by
  induction f with
  | nil => rfl
  | cons c t ih =>
    obtain ⟨j, w⟩ := c
    by_cases h : j = k
    · subst h; simpa [RegFile.erase, RegFile.lookup, Ne.symm e] using ih
    · simp [RegFile.erase, RegFile.lookup, h, ih]

/-- A field reads the low bits of what was written. -/
@[simp] theorem RegFile.get_set_same (f : RegFile) (r : Reg) (v : Nat) :
    (f.set r v).get r = v % 2 ^ r.width := by
  unfold RegFile.set RegFile.get
  split
  · rename_i h; rw [RegFile.lookup_erase_same, h]; rfl
  · rw [RegFile.lookup_insert_same]; rfl

/-- A field under another key is left alone. -/
theorem RegFile.get_set_other (f : RegFile) {r q : Reg} (v : Nat) (e : q.key ≠ r.key) :
    (f.set r v).get q = f.get q := by
  unfold RegFile.set RegFile.get
  split
  · rw [RegFile.lookup_erase_other _ e]
  · rw [RegFile.lookup_insert_other _ _ e]

end Sys2Proof.Machine
end

