-- ==== Sys2Proof/Laws/Parts.lean ====
section
/-! SUPPORT. Properties that the changes of a list of parts keep: the canonical form of every list, the queue
of commands that wait, and what lies outside the list. -/

namespace Sys2Proof.Machine

/-- Every change keeps the canonical forms. -/
theorem keeps_canonical (l : List Part) : Keeps l State.canonical where
  now := fun _ _ h _ => h
  dblTable := fun _ _ h _ => h
  dblCapt := fun _ _ h _ => h
  shadow := fun _ _ h _ => h
  hostOut := fun _ _ h _ => h
  recent := fun _ _ h _ => h
  freeCtr := fun _ _ h _ => h
  sys := fun _ _ h _ => h
  fuse := fun _ _ h _ => h
  boot := fun _ _ h _ => h
  canopyT := fun _ _ h _ => h
  log := fun _ _ h _ => h
  ring := fun _ _ h _ _ => h
  pod := fun _ _ h _ _ => h
  gyl := fun _ _ h _ _ => h
  safe := fun _ _ h _ => h
  hw := fun _ _ h _ => h
  eth := fun _ _ h _ => h
  chan := fun _ _ h _ _ => h
  sar := fun _ _ h _ _ => h
  roverQ := fun _ _ h _ => h
  engs := fun _ _ h _ _ => h
  arm := fun _ _ h _ => h
  ride := fun _ _ h _ => h
  isl := fun _ _ h _ => h
  capt := fun _ _ h _ _ => h
  meter := fun _ _ ⟨h1, h2, h3, h4, h5⟩ _ e => ⟨h1, e ▸ h2, h3, h4, h5⟩
  framPut := fun _ _ ⟨h1, h2, h3, h4, h5⟩ a b => ⟨h1, Memory.wf_putBytes h2 a b, h3, h4, h5⟩
  framNew := fun _ _ ⟨h1, _, h3, h4, h5⟩ b => ⟨h1, Memory.wf_putBytes rfl 0 b, h3, h4, h5⟩
  regSet := fun _ _ ⟨h1, h2, h3, h4, h5⟩ r v => ⟨h1, h2, RegFile.wf_set h3 r v, h4, h5⟩
  stageInsert := fun _ _ ⟨h1, h2, h3, h4, h5⟩ k v => ⟨h1, h2, h3, RegFile.wf_insert h4 k v, h5⟩
  stageErase := fun _ _ ⟨h1, h2, h3, h4, h5⟩ k => ⟨h1, h2, h3, RegFile.wf_erase h4 k, h5⟩
  stageKeep := fun _ _ ⟨h1, h2, h3, h4, h5⟩ p => ⟨h1, h2, h3, RegFile.wf_filter h4 p, h5⟩
  eccInsert := fun _ _ ⟨h1, h2, h3, h4, h5⟩ k v => ⟨h1, h2, h3, h4, RegFile.wf_insert h5 k v⟩
  eccErase := fun _ _ ⟨h1, h2, h3, h4, h5⟩ k => ⟨h1, h2, h3, h4, RegFile.wf_erase h5 k⟩
  memPut := fun _ _ ⟨h1, h2, h3, h4, h5⟩ a b => ⟨Memory.wf_putBytes h1 a b, h2, h3, h4, h5⟩
  memTrim := fun _ _ ⟨h1, h2, h3, h4, h5⟩ p => ⟨Memory.wf_filter h1 p, h2, h3, h4, h5⟩
  eccTrim := fun _ _ ⟨h1, h2, h3, h4, h5⟩ p => ⟨h1, h2, h3, h4, RegFile.wf_filter h5 p⟩
  resetRest := fun _ _ ⟨h1, h2, h3, h4, h5⟩ _ _ => ⟨h1, h2, h3, h4, h5⟩
  regKeep := fun _ _ ⟨h1, h2, h3, h4, h5⟩ p => ⟨h1, h2, RegFile.wf_filter h3 p, h4, h5⟩
  regNone := fun _ _ ⟨h1, h2, _, h4, h5⟩ => ⟨h1, h2, rfl, h4, h5⟩
  stageNone := fun _ _ ⟨h1, h2, h3, _, h5⟩ => ⟨h1, h2, h3, rfl, h5⟩
  eccKeep := fun _ _ ⟨h1, h2, h3, h4, h5⟩ p => ⟨h1, h2, h3, h4, RegFile.wf_filter h5 p⟩
  eccNone := fun _ _ ⟨h1, h2, h3, h4, _⟩ => ⟨h1, h2, h3, h4, rfl⟩
  memKeep := fun _ _ ⟨h1, h2, h3, h4, h5⟩ p => ⟨Memory.wf_filter h1 p, h2, h3, h4, h5⟩
  memNone := fun _ _ ⟨_, h2, h3, h4, h5⟩ => ⟨rfl, h2, h3, h4, h5⟩

/-- Every change leaves the queue of waiting commands alone. -/
theorem keeps_pending (l : List Part) (q : List Instr) : Keeps l (fun s => s.pending = q) where
  now := fun _ _ h _ => h
  dblTable := fun _ _ h _ => h
  dblCapt := fun _ _ h _ => h
  shadow := fun _ _ h _ => h
  hostOut := fun _ _ h _ => h
  recent := fun _ _ h _ => h
  freeCtr := fun _ _ h _ => h
  sys := fun _ _ h _ => h
  fuse := fun _ _ h _ => h
  boot := fun _ _ h _ => h
  canopyT := fun _ _ h _ => h
  log := fun _ _ h _ => h
  ring := fun _ _ h _ _ => h
  pod := fun _ _ h _ _ => h
  gyl := fun _ _ h _ _ => h
  safe := fun _ _ h _ => h
  hw := fun _ _ h _ => h
  eth := fun _ _ h _ => h
  chan := fun _ _ h _ _ => h
  sar := fun _ _ h _ _ => h
  roverQ := fun _ _ h _ => h
  engs := fun _ _ h _ _ => h
  arm := fun _ _ h _ => h
  ride := fun _ _ h _ => h
  isl := fun _ _ h _ => h
  capt := fun _ _ h _ _ => h
  meter := fun _ _ h _ _ => h
  framPut := fun _ _ h _ _ => h
  framNew := fun _ _ h _ => h
  regSet := fun _ _ h _ _ => h
  stageInsert := fun _ _ h _ _ => h
  stageErase := fun _ _ h _ => h
  stageKeep := fun _ _ h _ => h
  eccInsert := fun _ _ h _ _ => h
  eccErase := fun _ _ h _ => h
  memPut := fun _ _ h _ _ => h
  memTrim := fun _ _ h _ => h
  eccTrim := fun _ _ h _ => h
  resetRest := fun _ _ h _ _ => h
  regKeep := fun _ _ h _ => h
  regNone := fun _ _ h => h
  stageNone := fun _ _ h => h
  eccKeep := fun _ _ h _ => h
  eccNone := fun _ _ h => h
  memKeep := fun _ _ h _ => h
  memNone := fun _ _ h => h

/-- Every change keeps the number of channels, converters, engines, connections and capture units. -/
theorem keeps_shape (l : List Part) : Keeps l State.shape where
  now := fun _ _ h _ => h
  dblTable := fun _ _ h _ => h
  dblCapt := fun _ _ h _ => h
  shadow := fun _ _ h _ => h
  hostOut := fun _ _ h _ => h
  recent := fun _ _ h _ => h
  freeCtr := fun _ _ h _ => h
  sys := fun _ _ h _ => h
  fuse := fun _ _ h _ => h
  boot := fun _ _ h _ => h
  canopyT := fun _ _ h _ => h
  log := fun _ _ h _ => h
  ring := fun _ _ ⟨h0, h1, h2, h3, h4, h5, h6⟩ _ e => ⟨h0, h1, h2, h3, h4, h5, e.trans h6⟩
  pod := fun _ _ ⟨h0, h1, h2, h3, h4, h5, h6⟩ _ e => ⟨h0, h1, h2, h3, h4, e.trans h5, h6⟩
  gyl := fun _ _ ⟨h0, h1, h2, h3, h4, h5, h6⟩ _ e => ⟨h0, h1, h2, e.trans h3, h4, h5, h6⟩
  safe := fun _ _ h _ => h
  hw := fun _ _ h _ => h
  eth := fun _ _ h _ => h
  chan := fun _ _ ⟨h0, h1, h2, h3, h4, h5, h6⟩ _ e => ⟨e.trans h0, h1, h2, h3, h4, h5, h6⟩
  sar := fun _ _ ⟨h0, h1, h2, h3, h4, h5, h6⟩ _ e => ⟨h0, e.trans h1, h2, h3, h4, h5, h6⟩
  roverQ := fun _ _ h _ => h
  engs := fun _ _ ⟨h0, h1, h2, h3, h4, h5, h6⟩ _ e => ⟨h0, h1, e.trans h2, h3, h4, h5, h6⟩
  arm := fun _ _ h _ => h
  ride := fun _ _ h _ => h
  isl := fun _ _ h _ => h
  capt := fun _ _ ⟨h0, h1, h2, h3, h4, h5, h6⟩ _ e => ⟨h0, h1, h2, h3, e.trans h4, h5, h6⟩
  meter := fun _ _ h _ _ => h
  framPut := fun _ _ h _ _ => h
  framNew := fun _ _ h _ => h
  regSet := fun _ _ h _ _ => h
  stageInsert := fun _ _ h _ _ => h
  stageErase := fun _ _ h _ => h
  stageKeep := fun _ _ h _ => h
  eccInsert := fun _ _ h _ _ => h
  eccErase := fun _ _ h _ => h
  memPut := fun _ _ h _ _ => h
  memTrim := fun _ _ h _ => h
  eccTrim := fun _ _ h _ => h
  resetRest := fun _ _ _ _ _ => ⟨rfl, rfl, rfl, rfl, rfl, rfl, rfl⟩
  regKeep := fun _ _ h _ => h
  regNone := fun _ _ h  => h
  stageNone := fun _ _ h  => h
  eccKeep := fun _ _ h _ => h
  eccNone := fun _ _ h  => h
  memKeep := fun _ _ h _ => h
  memNone := fun _ _ h  => h

/-- A change of the parts in `l` leaves the rest as it was. -/
theorem keeps_sameBut (l : List Part) (s₀ : State) : Keeps l (State.sameBut l s₀) where
  now := fun m _ h _ => by
    obtain ⟨e0, d | ⟨_, e_dblTable, e_dblCapt, e_shadow, e_hostOut, e_recent, e_freeCtr, e_sys, e_fuse, e_boot, e_canopyT, e_log, e_ring, e_pod, e_gyl, e_safe, e_hw, e_eth, e_chan, e_sar, e_roverQ, e_engs, e_arm, e_ride, e_isl, e_capt, e_meter, e_fram, e_regs, e_staged, e_ecc, e_mem⟩⟩ := h
    · exact ⟨e0, .inl d⟩
    · exact ⟨e0, .inr ⟨.inl m, e_dblTable, e_dblCapt, e_shadow, e_hostOut, e_recent, e_freeCtr, e_sys, e_fuse,
        e_boot, e_canopyT, e_log, e_ring, e_pod, e_gyl, e_safe, e_hw, e_eth, e_chan, e_sar, e_roverQ,
        e_engs, e_arm, e_ride, e_isl, e_capt, e_meter, e_fram, e_regs, e_staged, e_ecc, e_mem⟩⟩
  dblTable := fun m _ h _ => by
    obtain ⟨e0, d | ⟨e_now, _, e_dblCapt, e_shadow, e_hostOut, e_recent, e_freeCtr, e_sys, e_fuse, e_boot, e_canopyT, e_log, e_ring, e_pod, e_gyl, e_safe, e_hw, e_eth, e_chan, e_sar, e_roverQ, e_engs, e_arm, e_ride, e_isl, e_capt, e_meter, e_fram, e_regs, e_staged, e_ecc, e_mem⟩⟩ := h
    · exact ⟨e0, .inl d⟩
    · exact ⟨e0, .inr ⟨e_now, .inl m, e_dblCapt, e_shadow, e_hostOut, e_recent, e_freeCtr, e_sys, e_fuse, e_boot,
        e_canopyT, e_log, e_ring, e_pod, e_gyl, e_safe, e_hw, e_eth, e_chan, e_sar, e_roverQ, e_engs,
        e_arm, e_ride, e_isl, e_capt, e_meter, e_fram, e_regs, e_staged, e_ecc, e_mem⟩⟩
  dblCapt := fun m _ h _ => by
    obtain ⟨e0, d | ⟨e_now, e_dblTable, _, e_shadow, e_hostOut, e_recent, e_freeCtr, e_sys, e_fuse, e_boot, e_canopyT, e_log, e_ring, e_pod, e_gyl, e_safe, e_hw, e_eth, e_chan, e_sar, e_roverQ, e_engs, e_arm, e_ride, e_isl, e_capt, e_meter, e_fram, e_regs, e_staged, e_ecc, e_mem⟩⟩ := h
    · exact ⟨e0, .inl d⟩
    · exact ⟨e0, .inr ⟨e_now, e_dblTable, .inl m, e_shadow, e_hostOut, e_recent, e_freeCtr, e_sys, e_fuse, e_boot,
        e_canopyT, e_log, e_ring, e_pod, e_gyl, e_safe, e_hw, e_eth, e_chan, e_sar, e_roverQ, e_engs,
        e_arm, e_ride, e_isl, e_capt, e_meter, e_fram, e_regs, e_staged, e_ecc, e_mem⟩⟩
  shadow := fun m _ h _ => by
    obtain ⟨e0, d | ⟨e_now, e_dblTable, e_dblCapt, _, e_hostOut, e_recent, e_freeCtr, e_sys, e_fuse, e_boot, e_canopyT, e_log, e_ring, e_pod, e_gyl, e_safe, e_hw, e_eth, e_chan, e_sar, e_roverQ, e_engs, e_arm, e_ride, e_isl, e_capt, e_meter, e_fram, e_regs, e_staged, e_ecc, e_mem⟩⟩ := h
    · exact ⟨e0, .inl d⟩
    · exact ⟨e0, .inr ⟨e_now, e_dblTable, e_dblCapt, .inl m, e_hostOut, e_recent, e_freeCtr, e_sys, e_fuse,
        e_boot, e_canopyT, e_log, e_ring, e_pod, e_gyl, e_safe, e_hw, e_eth, e_chan, e_sar, e_roverQ,
        e_engs, e_arm, e_ride, e_isl, e_capt, e_meter, e_fram, e_regs, e_staged, e_ecc, e_mem⟩⟩
  hostOut := fun m _ h _ => by
    obtain ⟨e0, d | ⟨e_now, e_dblTable, e_dblCapt, e_shadow, _, e_recent, e_freeCtr, e_sys, e_fuse, e_boot, e_canopyT, e_log, e_ring, e_pod, e_gyl, e_safe, e_hw, e_eth, e_chan, e_sar, e_roverQ, e_engs, e_arm, e_ride, e_isl, e_capt, e_meter, e_fram, e_regs, e_staged, e_ecc, e_mem⟩⟩ := h
    · exact ⟨e0, .inl d⟩
    · exact ⟨e0, .inr ⟨e_now, e_dblTable, e_dblCapt, e_shadow, .inl m, e_recent, e_freeCtr, e_sys, e_fuse, e_boot,
        e_canopyT, e_log, e_ring, e_pod, e_gyl, e_safe, e_hw, e_eth, e_chan, e_sar, e_roverQ, e_engs,
        e_arm, e_ride, e_isl, e_capt, e_meter, e_fram, e_regs, e_staged, e_ecc, e_mem⟩⟩
  recent := fun m _ h _ => by
    obtain ⟨e0, d | ⟨e_now, e_dblTable, e_dblCapt, e_shadow, e_hostOut, _, e_freeCtr, e_sys, e_fuse, e_boot, e_canopyT, e_log, e_ring, e_pod, e_gyl, e_safe, e_hw, e_eth, e_chan, e_sar, e_roverQ, e_engs, e_arm, e_ride, e_isl, e_capt, e_meter, e_fram, e_regs, e_staged, e_ecc, e_mem⟩⟩ := h
    · exact ⟨e0, .inl d⟩
    · exact ⟨e0, .inr ⟨e_now, e_dblTable, e_dblCapt, e_shadow, e_hostOut, .inl m, e_freeCtr, e_sys, e_fuse, e_boot,
        e_canopyT, e_log, e_ring, e_pod, e_gyl, e_safe, e_hw, e_eth, e_chan, e_sar, e_roverQ, e_engs,
        e_arm, e_ride, e_isl, e_capt, e_meter, e_fram, e_regs, e_staged, e_ecc, e_mem⟩⟩
  freeCtr := fun m _ h _ => by
    obtain ⟨e0, d | ⟨e_now, e_dblTable, e_dblCapt, e_shadow, e_hostOut, e_recent, _, e_sys, e_fuse, e_boot, e_canopyT, e_log, e_ring, e_pod, e_gyl, e_safe, e_hw, e_eth, e_chan, e_sar, e_roverQ, e_engs, e_arm, e_ride, e_isl, e_capt, e_meter, e_fram, e_regs, e_staged, e_ecc, e_mem⟩⟩ := h
    · exact ⟨e0, .inl d⟩
    · exact ⟨e0, .inr ⟨e_now, e_dblTable, e_dblCapt, e_shadow, e_hostOut, e_recent, .inl m, e_sys, e_fuse, e_boot,
        e_canopyT, e_log, e_ring, e_pod, e_gyl, e_safe, e_hw, e_eth, e_chan, e_sar, e_roverQ, e_engs,
        e_arm, e_ride, e_isl, e_capt, e_meter, e_fram, e_regs, e_staged, e_ecc, e_mem⟩⟩
  sys := fun m _ h _ => by
    obtain ⟨e0, d | ⟨e_now, e_dblTable, e_dblCapt, e_shadow, e_hostOut, e_recent, e_freeCtr, _, e_fuse, e_boot, e_canopyT, e_log, e_ring, e_pod, e_gyl, e_safe, e_hw, e_eth, e_chan, e_sar, e_roverQ, e_engs, e_arm, e_ride, e_isl, e_capt, e_meter, e_fram, e_regs, e_staged, e_ecc, e_mem⟩⟩ := h
    · exact ⟨e0, .inl d⟩
    · exact ⟨e0, .inr ⟨e_now, e_dblTable, e_dblCapt, e_shadow, e_hostOut, e_recent, e_freeCtr, .inl m, e_fuse,
        e_boot, e_canopyT, e_log, e_ring, e_pod, e_gyl, e_safe, e_hw, e_eth, e_chan, e_sar, e_roverQ,
        e_engs, e_arm, e_ride, e_isl, e_capt, e_meter, e_fram, e_regs, e_staged, e_ecc, e_mem⟩⟩
  fuse := fun m _ h _ => by
    obtain ⟨e0, d | ⟨e_now, e_dblTable, e_dblCapt, e_shadow, e_hostOut, e_recent, e_freeCtr, e_sys, _, e_boot, e_canopyT, e_log, e_ring, e_pod, e_gyl, e_safe, e_hw, e_eth, e_chan, e_sar, e_roverQ, e_engs, e_arm, e_ride, e_isl, e_capt, e_meter, e_fram, e_regs, e_staged, e_ecc, e_mem⟩⟩ := h
    · exact ⟨e0, .inl d⟩
    · exact ⟨e0, .inr ⟨e_now, e_dblTable, e_dblCapt, e_shadow, e_hostOut, e_recent, e_freeCtr, e_sys, .inl m,
        e_boot, e_canopyT, e_log, e_ring, e_pod, e_gyl, e_safe, e_hw, e_eth, e_chan, e_sar, e_roverQ,
        e_engs, e_arm, e_ride, e_isl, e_capt, e_meter, e_fram, e_regs, e_staged, e_ecc, e_mem⟩⟩
  boot := fun m _ h _ => by
    obtain ⟨e0, d | ⟨e_now, e_dblTable, e_dblCapt, e_shadow, e_hostOut, e_recent, e_freeCtr, e_sys, e_fuse, _, e_canopyT, e_log, e_ring, e_pod, e_gyl, e_safe, e_hw, e_eth, e_chan, e_sar, e_roverQ, e_engs, e_arm, e_ride, e_isl, e_capt, e_meter, e_fram, e_regs, e_staged, e_ecc, e_mem⟩⟩ := h
    · exact ⟨e0, .inl d⟩
    · exact ⟨e0, .inr ⟨e_now, e_dblTable, e_dblCapt, e_shadow, e_hostOut, e_recent, e_freeCtr, e_sys, e_fuse, .inl
        m, e_canopyT, e_log, e_ring, e_pod, e_gyl, e_safe, e_hw, e_eth, e_chan, e_sar, e_roverQ, e_engs,
        e_arm, e_ride, e_isl, e_capt, e_meter, e_fram, e_regs, e_staged, e_ecc, e_mem⟩⟩
  canopyT := fun m _ h _ => by
    obtain ⟨e0, d | ⟨e_now, e_dblTable, e_dblCapt, e_shadow, e_hostOut, e_recent, e_freeCtr, e_sys, e_fuse, e_boot, _, e_log, e_ring, e_pod, e_gyl, e_safe, e_hw, e_eth, e_chan, e_sar, e_roverQ, e_engs, e_arm, e_ride, e_isl, e_capt, e_meter, e_fram, e_regs, e_staged, e_ecc, e_mem⟩⟩ := h
    · exact ⟨e0, .inl d⟩
    · exact ⟨e0, .inr ⟨e_now, e_dblTable, e_dblCapt, e_shadow, e_hostOut, e_recent, e_freeCtr, e_sys, e_fuse,
        e_boot, .inl m, e_log, e_ring, e_pod, e_gyl, e_safe, e_hw, e_eth, e_chan, e_sar, e_roverQ,
        e_engs, e_arm, e_ride, e_isl, e_capt, e_meter, e_fram, e_regs, e_staged, e_ecc, e_mem⟩⟩
  log := fun m _ h _ => by
    obtain ⟨e0, d | ⟨e_now, e_dblTable, e_dblCapt, e_shadow, e_hostOut, e_recent, e_freeCtr, e_sys, e_fuse, e_boot, e_canopyT, _, e_ring, e_pod, e_gyl, e_safe, e_hw, e_eth, e_chan, e_sar, e_roverQ, e_engs, e_arm, e_ride, e_isl, e_capt, e_meter, e_fram, e_regs, e_staged, e_ecc, e_mem⟩⟩ := h
    · exact ⟨e0, .inl d⟩
    · exact ⟨e0, .inr ⟨e_now, e_dblTable, e_dblCapt, e_shadow, e_hostOut, e_recent, e_freeCtr, e_sys, e_fuse,
        e_boot, e_canopyT, .inl m, e_ring, e_pod, e_gyl, e_safe, e_hw, e_eth, e_chan, e_sar, e_roverQ,
        e_engs, e_arm, e_ride, e_isl, e_capt, e_meter, e_fram, e_regs, e_staged, e_ecc, e_mem⟩⟩
  ring := fun m _ h _ _ => by
    obtain ⟨e0, d | ⟨e_now, e_dblTable, e_dblCapt, e_shadow, e_hostOut, e_recent, e_freeCtr, e_sys, e_fuse, e_boot, e_canopyT, e_log, _, e_pod, e_gyl, e_safe, e_hw, e_eth, e_chan, e_sar, e_roverQ, e_engs, e_arm, e_ride, e_isl, e_capt, e_meter, e_fram, e_regs, e_staged, e_ecc, e_mem⟩⟩ := h
    · exact ⟨e0, .inl d⟩
    · exact ⟨e0, .inr ⟨e_now, e_dblTable, e_dblCapt, e_shadow, e_hostOut, e_recent, e_freeCtr, e_sys, e_fuse,
        e_boot, e_canopyT, e_log, .inl m, e_pod, e_gyl, e_safe, e_hw, e_eth, e_chan, e_sar, e_roverQ,
        e_engs, e_arm, e_ride, e_isl, e_capt, e_meter, e_fram, e_regs, e_staged, e_ecc, e_mem⟩⟩
  pod := fun m _ h _ _ => by
    obtain ⟨e0, d | ⟨e_now, e_dblTable, e_dblCapt, e_shadow, e_hostOut, e_recent, e_freeCtr, e_sys, e_fuse, e_boot, e_canopyT, e_log, e_ring, _, e_gyl, e_safe, e_hw, e_eth, e_chan, e_sar, e_roverQ, e_engs, e_arm, e_ride, e_isl, e_capt, e_meter, e_fram, e_regs, e_staged, e_ecc, e_mem⟩⟩ := h
    · exact ⟨e0, .inl d⟩
    · exact ⟨e0, .inr ⟨e_now, e_dblTable, e_dblCapt, e_shadow, e_hostOut, e_recent, e_freeCtr, e_sys, e_fuse,
        e_boot, e_canopyT, e_log, e_ring, .inl m, e_gyl, e_safe, e_hw, e_eth, e_chan, e_sar, e_roverQ,
        e_engs, e_arm, e_ride, e_isl, e_capt, e_meter, e_fram, e_regs, e_staged, e_ecc, e_mem⟩⟩
  gyl := fun m _ h _ _ => by
    obtain ⟨e0, d | ⟨e_now, e_dblTable, e_dblCapt, e_shadow, e_hostOut, e_recent, e_freeCtr, e_sys, e_fuse, e_boot, e_canopyT, e_log, e_ring, e_pod, _, e_safe, e_hw, e_eth, e_chan, e_sar, e_roverQ, e_engs, e_arm, e_ride, e_isl, e_capt, e_meter, e_fram, e_regs, e_staged, e_ecc, e_mem⟩⟩ := h
    · exact ⟨e0, .inl d⟩
    · exact ⟨e0, .inr ⟨e_now, e_dblTable, e_dblCapt, e_shadow, e_hostOut, e_recent, e_freeCtr, e_sys, e_fuse,
        e_boot, e_canopyT, e_log, e_ring, e_pod, .inl m, e_safe, e_hw, e_eth, e_chan, e_sar, e_roverQ,
        e_engs, e_arm, e_ride, e_isl, e_capt, e_meter, e_fram, e_regs, e_staged, e_ecc, e_mem⟩⟩
  safe := fun m _ h _ => by
    obtain ⟨e0, d | ⟨e_now, e_dblTable, e_dblCapt, e_shadow, e_hostOut, e_recent, e_freeCtr, e_sys, e_fuse, e_boot, e_canopyT, e_log, e_ring, e_pod, e_gyl, _, e_hw, e_eth, e_chan, e_sar, e_roverQ, e_engs, e_arm, e_ride, e_isl, e_capt, e_meter, e_fram, e_regs, e_staged, e_ecc, e_mem⟩⟩ := h
    · exact ⟨e0, .inl d⟩
    · exact ⟨e0, .inr ⟨e_now, e_dblTable, e_dblCapt, e_shadow, e_hostOut, e_recent, e_freeCtr, e_sys, e_fuse,
        e_boot, e_canopyT, e_log, e_ring, e_pod, e_gyl, .inl m, e_hw, e_eth, e_chan, e_sar, e_roverQ,
        e_engs, e_arm, e_ride, e_isl, e_capt, e_meter, e_fram, e_regs, e_staged, e_ecc, e_mem⟩⟩
  hw := fun m _ h _ => by
    obtain ⟨e0, d | ⟨e_now, e_dblTable, e_dblCapt, e_shadow, e_hostOut, e_recent, e_freeCtr, e_sys, e_fuse, e_boot, e_canopyT, e_log, e_ring, e_pod, e_gyl, e_safe, _, e_eth, e_chan, e_sar, e_roverQ, e_engs, e_arm, e_ride, e_isl, e_capt, e_meter, e_fram, e_regs, e_staged, e_ecc, e_mem⟩⟩ := h
    · exact ⟨e0, .inl d⟩
    · exact ⟨e0, .inr ⟨e_now, e_dblTable, e_dblCapt, e_shadow, e_hostOut, e_recent, e_freeCtr, e_sys, e_fuse,
        e_boot, e_canopyT, e_log, e_ring, e_pod, e_gyl, e_safe, .inl m, e_eth, e_chan, e_sar, e_roverQ,
        e_engs, e_arm, e_ride, e_isl, e_capt, e_meter, e_fram, e_regs, e_staged, e_ecc, e_mem⟩⟩
  eth := fun m _ h _ => by
    obtain ⟨e0, d | ⟨e_now, e_dblTable, e_dblCapt, e_shadow, e_hostOut, e_recent, e_freeCtr, e_sys, e_fuse, e_boot, e_canopyT, e_log, e_ring, e_pod, e_gyl, e_safe, e_hw, _, e_chan, e_sar, e_roverQ, e_engs, e_arm, e_ride, e_isl, e_capt, e_meter, e_fram, e_regs, e_staged, e_ecc, e_mem⟩⟩ := h
    · exact ⟨e0, .inl d⟩
    · exact ⟨e0, .inr ⟨e_now, e_dblTable, e_dblCapt, e_shadow, e_hostOut, e_recent, e_freeCtr, e_sys, e_fuse,
        e_boot, e_canopyT, e_log, e_ring, e_pod, e_gyl, e_safe, e_hw, .inl m, e_chan, e_sar, e_roverQ,
        e_engs, e_arm, e_ride, e_isl, e_capt, e_meter, e_fram, e_regs, e_staged, e_ecc, e_mem⟩⟩
  chan := fun m _ h _ _ => by
    obtain ⟨e0, d | ⟨e_now, e_dblTable, e_dblCapt, e_shadow, e_hostOut, e_recent, e_freeCtr, e_sys, e_fuse, e_boot, e_canopyT, e_log, e_ring, e_pod, e_gyl, e_safe, e_hw, e_eth, _, e_sar, e_roverQ, e_engs, e_arm, e_ride, e_isl, e_capt, e_meter, e_fram, e_regs, e_staged, e_ecc, e_mem⟩⟩ := h
    · exact ⟨e0, .inl d⟩
    · exact ⟨e0, .inr ⟨e_now, e_dblTable, e_dblCapt, e_shadow, e_hostOut, e_recent, e_freeCtr, e_sys, e_fuse,
        e_boot, e_canopyT, e_log, e_ring, e_pod, e_gyl, e_safe, e_hw, e_eth, .inl m, e_sar, e_roverQ,
        e_engs, e_arm, e_ride, e_isl, e_capt, e_meter, e_fram, e_regs, e_staged, e_ecc, e_mem⟩⟩
  sar := fun m _ h _ _ => by
    obtain ⟨e0, d | ⟨e_now, e_dblTable, e_dblCapt, e_shadow, e_hostOut, e_recent, e_freeCtr, e_sys, e_fuse, e_boot, e_canopyT, e_log, e_ring, e_pod, e_gyl, e_safe, e_hw, e_eth, e_chan, _, e_roverQ, e_engs, e_arm, e_ride, e_isl, e_capt, e_meter, e_fram, e_regs, e_staged, e_ecc, e_mem⟩⟩ := h
    · exact ⟨e0, .inl d⟩
    · exact ⟨e0, .inr ⟨e_now, e_dblTable, e_dblCapt, e_shadow, e_hostOut, e_recent, e_freeCtr, e_sys, e_fuse,
        e_boot, e_canopyT, e_log, e_ring, e_pod, e_gyl, e_safe, e_hw, e_eth, e_chan, .inl m, e_roverQ,
        e_engs, e_arm, e_ride, e_isl, e_capt, e_meter, e_fram, e_regs, e_staged, e_ecc, e_mem⟩⟩
  roverQ := fun m _ h _ => by
    obtain ⟨e0, d | ⟨e_now, e_dblTable, e_dblCapt, e_shadow, e_hostOut, e_recent, e_freeCtr, e_sys, e_fuse, e_boot, e_canopyT, e_log, e_ring, e_pod, e_gyl, e_safe, e_hw, e_eth, e_chan, e_sar, _, e_engs, e_arm, e_ride, e_isl, e_capt, e_meter, e_fram, e_regs, e_staged, e_ecc, e_mem⟩⟩ := h
    · exact ⟨e0, .inl d⟩
    · exact ⟨e0, .inr ⟨e_now, e_dblTable, e_dblCapt, e_shadow, e_hostOut, e_recent, e_freeCtr, e_sys, e_fuse,
        e_boot, e_canopyT, e_log, e_ring, e_pod, e_gyl, e_safe, e_hw, e_eth, e_chan, e_sar, .inl m,
        e_engs, e_arm, e_ride, e_isl, e_capt, e_meter, e_fram, e_regs, e_staged, e_ecc, e_mem⟩⟩
  engs := fun m _ h _ _ => by
    obtain ⟨e0, d | ⟨e_now, e_dblTable, e_dblCapt, e_shadow, e_hostOut, e_recent, e_freeCtr, e_sys, e_fuse, e_boot, e_canopyT, e_log, e_ring, e_pod, e_gyl, e_safe, e_hw, e_eth, e_chan, e_sar, e_roverQ, _, e_arm, e_ride, e_isl, e_capt, e_meter, e_fram, e_regs, e_staged, e_ecc, e_mem⟩⟩ := h
    · exact ⟨e0, .inl d⟩
    · exact ⟨e0, .inr ⟨e_now, e_dblTable, e_dblCapt, e_shadow, e_hostOut, e_recent, e_freeCtr, e_sys, e_fuse,
        e_boot, e_canopyT, e_log, e_ring, e_pod, e_gyl, e_safe, e_hw, e_eth, e_chan, e_sar, e_roverQ,
        .inl m, e_arm, e_ride, e_isl, e_capt, e_meter, e_fram, e_regs, e_staged, e_ecc, e_mem⟩⟩
  arm := fun m _ h _ => by
    obtain ⟨e0, d | ⟨e_now, e_dblTable, e_dblCapt, e_shadow, e_hostOut, e_recent, e_freeCtr, e_sys, e_fuse, e_boot, e_canopyT, e_log, e_ring, e_pod, e_gyl, e_safe, e_hw, e_eth, e_chan, e_sar, e_roverQ, e_engs, _, e_ride, e_isl, e_capt, e_meter, e_fram, e_regs, e_staged, e_ecc, e_mem⟩⟩ := h
    · exact ⟨e0, .inl d⟩
    · exact ⟨e0, .inr ⟨e_now, e_dblTable, e_dblCapt, e_shadow, e_hostOut, e_recent, e_freeCtr, e_sys, e_fuse,
        e_boot, e_canopyT, e_log, e_ring, e_pod, e_gyl, e_safe, e_hw, e_eth, e_chan, e_sar, e_roverQ,
        e_engs, .inl m, e_ride, e_isl, e_capt, e_meter, e_fram, e_regs, e_staged, e_ecc, e_mem⟩⟩
  ride := fun m _ h _ => by
    obtain ⟨e0, d | ⟨e_now, e_dblTable, e_dblCapt, e_shadow, e_hostOut, e_recent, e_freeCtr, e_sys, e_fuse, e_boot, e_canopyT, e_log, e_ring, e_pod, e_gyl, e_safe, e_hw, e_eth, e_chan, e_sar, e_roverQ, e_engs, e_arm, _, e_isl, e_capt, e_meter, e_fram, e_regs, e_staged, e_ecc, e_mem⟩⟩ := h
    · exact ⟨e0, .inl d⟩
    · exact ⟨e0, .inr ⟨e_now, e_dblTable, e_dblCapt, e_shadow, e_hostOut, e_recent, e_freeCtr, e_sys, e_fuse,
        e_boot, e_canopyT, e_log, e_ring, e_pod, e_gyl, e_safe, e_hw, e_eth, e_chan, e_sar, e_roverQ,
        e_engs, e_arm, .inl m, e_isl, e_capt, e_meter, e_fram, e_regs, e_staged, e_ecc, e_mem⟩⟩
  isl := fun m _ h _ => by
    obtain ⟨e0, d | ⟨e_now, e_dblTable, e_dblCapt, e_shadow, e_hostOut, e_recent, e_freeCtr, e_sys, e_fuse, e_boot, e_canopyT, e_log, e_ring, e_pod, e_gyl, e_safe, e_hw, e_eth, e_chan, e_sar, e_roverQ, e_engs, e_arm, e_ride, _, e_capt, e_meter, e_fram, e_regs, e_staged, e_ecc, e_mem⟩⟩ := h
    · exact ⟨e0, .inl d⟩
    · exact ⟨e0, .inr ⟨e_now, e_dblTable, e_dblCapt, e_shadow, e_hostOut, e_recent, e_freeCtr, e_sys, e_fuse,
        e_boot, e_canopyT, e_log, e_ring, e_pod, e_gyl, e_safe, e_hw, e_eth, e_chan, e_sar, e_roverQ,
        e_engs, e_arm, e_ride, .inl m, e_capt, e_meter, e_fram, e_regs, e_staged, e_ecc, e_mem⟩⟩
  capt := fun m _ h _ _ => by
    obtain ⟨e0, d | ⟨e_now, e_dblTable, e_dblCapt, e_shadow, e_hostOut, e_recent, e_freeCtr, e_sys, e_fuse, e_boot, e_canopyT, e_log, e_ring, e_pod, e_gyl, e_safe, e_hw, e_eth, e_chan, e_sar, e_roverQ, e_engs, e_arm, e_ride, e_isl, _, e_meter, e_fram, e_regs, e_staged, e_ecc, e_mem⟩⟩ := h
    · exact ⟨e0, .inl d⟩
    · exact ⟨e0, .inr ⟨e_now, e_dblTable, e_dblCapt, e_shadow, e_hostOut, e_recent, e_freeCtr, e_sys, e_fuse,
        e_boot, e_canopyT, e_log, e_ring, e_pod, e_gyl, e_safe, e_hw, e_eth, e_chan, e_sar, e_roverQ,
        e_engs, e_arm, e_ride, e_isl, .inl m, e_meter, e_fram, e_regs, e_staged, e_ecc, e_mem⟩⟩
  meter := fun m _ h _ e => by
    obtain ⟨e0, d | ⟨e_now, e_dblTable, e_dblCapt, e_shadow, e_hostOut, e_recent, e_freeCtr, e_sys, e_fuse, e_boot, e_canopyT, e_log, e_ring, e_pod, e_gyl, e_safe, e_hw, e_eth, e_chan, e_sar, e_roverQ, e_engs, e_arm, e_ride, e_isl, e_capt, _, e_fram, e_regs, e_staged, e_ecc, e_mem⟩⟩ := h
    · exact ⟨e0, .inl d⟩
    · exact ⟨e0, .inr ⟨e_now, e_dblTable, e_dblCapt, e_shadow, e_hostOut, e_recent, e_freeCtr, e_sys, e_fuse,
        e_boot, e_canopyT, e_log, e_ring, e_pod, e_gyl, e_safe, e_hw, e_eth, e_chan, e_sar, e_roverQ,
        e_engs, e_arm, e_ride, e_isl, e_capt, .inl m, (e_fram.imp id e.trans), e_regs, e_staged, e_ecc,
        e_mem⟩⟩
  framPut := fun m _ h _ _ => by
    obtain ⟨e0, d | ⟨e_now, e_dblTable, e_dblCapt, e_shadow, e_hostOut, e_recent, e_freeCtr, e_sys, e_fuse, e_boot, e_canopyT, e_log, e_ring, e_pod, e_gyl, e_safe, e_hw, e_eth, e_chan, e_sar, e_roverQ, e_engs, e_arm, e_ride, e_isl, e_capt, _, _, e_regs, e_staged, e_ecc, e_mem⟩⟩ := h
    · exact ⟨e0, .inl d⟩
    · exact ⟨e0, .inr ⟨e_now, e_dblTable, e_dblCapt, e_shadow, e_hostOut, e_recent, e_freeCtr, e_sys, e_fuse,
        e_boot, e_canopyT, e_log, e_ring, e_pod, e_gyl, e_safe, e_hw, e_eth, e_chan, e_sar, e_roverQ,
        e_engs, e_arm, e_ride, e_isl, e_capt, .inr (.inl m), .inl m, e_regs, e_staged, e_ecc, e_mem⟩⟩
  framNew := fun m _ h _ => by
    obtain ⟨e0, d | ⟨e_now, e_dblTable, e_dblCapt, e_shadow, e_hostOut, e_recent, e_freeCtr, e_sys, e_fuse, e_boot, e_canopyT, e_log, e_ring, e_pod, e_gyl, e_safe, e_hw, e_eth, e_chan, e_sar, e_roverQ, e_engs, e_arm, e_ride, e_isl, e_capt, _, _, e_regs, e_staged, e_ecc, e_mem⟩⟩ := h
    · exact ⟨e0, .inl d⟩
    · exact ⟨e0, .inr ⟨e_now, e_dblTable, e_dblCapt, e_shadow, e_hostOut, e_recent, e_freeCtr, e_sys, e_fuse,
        e_boot, e_canopyT, e_log, e_ring, e_pod, e_gyl, e_safe, e_hw, e_eth, e_chan, e_sar, e_roverQ,
        e_engs, e_arm, e_ride, e_isl, e_capt, .inr (.inl m), .inl m, e_regs, e_staged, e_ecc, e_mem⟩⟩
  regSet := fun m _ h _ _ => by
    obtain ⟨e0, d | ⟨e_now, e_dblTable, e_dblCapt, e_shadow, e_hostOut, e_recent, e_freeCtr, e_sys, e_fuse, e_boot, e_canopyT, e_log, e_ring, e_pod, e_gyl, e_safe, e_hw, e_eth, e_chan, e_sar, e_roverQ, e_engs, e_arm, e_ride, e_isl, e_capt, e_meter, e_fram, _, e_staged, e_ecc, e_mem⟩⟩ := h
    · exact ⟨e0, .inl d⟩
    · exact ⟨e0, .inr ⟨e_now, e_dblTable, e_dblCapt, e_shadow, e_hostOut, e_recent, e_freeCtr, e_sys, e_fuse,
        e_boot, e_canopyT, e_log, e_ring, e_pod, e_gyl, e_safe, e_hw, e_eth, e_chan, e_sar, e_roverQ,
        e_engs, e_arm, e_ride, e_isl, e_capt, e_meter, e_fram, .inl m, e_staged, e_ecc, e_mem⟩⟩
  stageInsert := fun m _ h _ _ => by
    obtain ⟨e0, d | ⟨e_now, e_dblTable, e_dblCapt, e_shadow, e_hostOut, e_recent, e_freeCtr, e_sys, e_fuse, e_boot, e_canopyT, e_log, e_ring, e_pod, e_gyl, e_safe, e_hw, e_eth, e_chan, e_sar, e_roverQ, e_engs, e_arm, e_ride, e_isl, e_capt, e_meter, e_fram, e_regs, _, e_ecc, e_mem⟩⟩ := h
    · exact ⟨e0, .inl d⟩
    · exact ⟨e0, .inr ⟨e_now, e_dblTable, e_dblCapt, e_shadow, e_hostOut, e_recent, e_freeCtr, e_sys, e_fuse,
        e_boot, e_canopyT, e_log, e_ring, e_pod, e_gyl, e_safe, e_hw, e_eth, e_chan, e_sar, e_roverQ,
        e_engs, e_arm, e_ride, e_isl, e_capt, e_meter, e_fram, e_regs, .inl m, e_ecc, e_mem⟩⟩
  stageErase := fun m _ h _ => by
    obtain ⟨e0, d | ⟨e_now, e_dblTable, e_dblCapt, e_shadow, e_hostOut, e_recent, e_freeCtr, e_sys, e_fuse, e_boot, e_canopyT, e_log, e_ring, e_pod, e_gyl, e_safe, e_hw, e_eth, e_chan, e_sar, e_roverQ, e_engs, e_arm, e_ride, e_isl, e_capt, e_meter, e_fram, e_regs, _, e_ecc, e_mem⟩⟩ := h
    · exact ⟨e0, .inl d⟩
    · exact ⟨e0, .inr ⟨e_now, e_dblTable, e_dblCapt, e_shadow, e_hostOut, e_recent, e_freeCtr, e_sys, e_fuse,
        e_boot, e_canopyT, e_log, e_ring, e_pod, e_gyl, e_safe, e_hw, e_eth, e_chan, e_sar, e_roverQ,
        e_engs, e_arm, e_ride, e_isl, e_capt, e_meter, e_fram, e_regs, .inl m, e_ecc, e_mem⟩⟩
  stageKeep := fun m _ h _ => by
    obtain ⟨e0, d | ⟨e_now, e_dblTable, e_dblCapt, e_shadow, e_hostOut, e_recent, e_freeCtr, e_sys, e_fuse, e_boot, e_canopyT, e_log, e_ring, e_pod, e_gyl, e_safe, e_hw, e_eth, e_chan, e_sar, e_roverQ, e_engs, e_arm, e_ride, e_isl, e_capt, e_meter, e_fram, e_regs, _, e_ecc, e_mem⟩⟩ := h
    · exact ⟨e0, .inl d⟩
    · exact ⟨e0, .inr ⟨e_now, e_dblTable, e_dblCapt, e_shadow, e_hostOut, e_recent, e_freeCtr, e_sys, e_fuse,
        e_boot, e_canopyT, e_log, e_ring, e_pod, e_gyl, e_safe, e_hw, e_eth, e_chan, e_sar, e_roverQ,
        e_engs, e_arm, e_ride, e_isl, e_capt, e_meter, e_fram, e_regs, .inl m, e_ecc, e_mem⟩⟩
  eccInsert := fun m _ h _ _ => by
    obtain ⟨e0, d | ⟨e_now, e_dblTable, e_dblCapt, e_shadow, e_hostOut, e_recent, e_freeCtr, e_sys, e_fuse, e_boot, e_canopyT, e_log, e_ring, e_pod, e_gyl, e_safe, e_hw, e_eth, e_chan, e_sar, e_roverQ, e_engs, e_arm, e_ride, e_isl, e_capt, e_meter, e_fram, e_regs, e_staged, _, e_mem⟩⟩ := h
    · exact ⟨e0, .inl d⟩
    · exact ⟨e0, .inr ⟨e_now, e_dblTable, e_dblCapt, e_shadow, e_hostOut, e_recent, e_freeCtr, e_sys, e_fuse,
        e_boot, e_canopyT, e_log, e_ring, e_pod, e_gyl, e_safe, e_hw, e_eth, e_chan, e_sar, e_roverQ,
        e_engs, e_arm, e_ride, e_isl, e_capt, e_meter, e_fram, e_regs, e_staged, .inl m, e_mem⟩⟩
  eccErase := fun m _ h _ => by
    obtain ⟨e0, d | ⟨e_now, e_dblTable, e_dblCapt, e_shadow, e_hostOut, e_recent, e_freeCtr, e_sys, e_fuse, e_boot, e_canopyT, e_log, e_ring, e_pod, e_gyl, e_safe, e_hw, e_eth, e_chan, e_sar, e_roverQ, e_engs, e_arm, e_ride, e_isl, e_capt, e_meter, e_fram, e_regs, e_staged, _, e_mem⟩⟩ := h
    · exact ⟨e0, .inl d⟩
    · exact ⟨e0, .inr ⟨e_now, e_dblTable, e_dblCapt, e_shadow, e_hostOut, e_recent, e_freeCtr, e_sys, e_fuse,
        e_boot, e_canopyT, e_log, e_ring, e_pod, e_gyl, e_safe, e_hw, e_eth, e_chan, e_sar, e_roverQ,
        e_engs, e_arm, e_ride, e_isl, e_capt, e_meter, e_fram, e_regs, e_staged, .inl m, e_mem⟩⟩
  memPut := fun m _ h _ _ => by
    obtain ⟨e0, d | ⟨e_now, e_dblTable, e_dblCapt, e_shadow, e_hostOut, e_recent, e_freeCtr, e_sys, e_fuse, e_boot, e_canopyT, e_log, e_ring, e_pod, e_gyl, e_safe, e_hw, e_eth, e_chan, e_sar, e_roverQ, e_engs, e_arm, e_ride, e_isl, e_capt, e_meter, e_fram, e_regs, e_staged, e_ecc, _⟩⟩ := h
    · exact ⟨e0, .inl d⟩
    · exact ⟨e0, .inr ⟨e_now, e_dblTable, e_dblCapt, e_shadow, e_hostOut, e_recent, e_freeCtr, e_sys, e_fuse,
        e_boot, e_canopyT, e_log, e_ring, e_pod, e_gyl, e_safe, e_hw, e_eth, e_chan, e_sar, e_roverQ,
        e_engs, e_arm, e_ride, e_isl, e_capt, e_meter, e_fram, e_regs, e_staged, e_ecc, .inl m⟩⟩
  memTrim := fun m _ h _ => by
    obtain ⟨e0, d | ⟨e_now, e_dblTable, e_dblCapt, e_shadow, e_hostOut, e_recent, e_freeCtr, e_sys, e_fuse, e_boot, e_canopyT, e_log, e_ring, e_pod, e_gyl, e_safe, e_hw, e_eth, e_chan, e_sar, e_roverQ, e_engs, e_arm, e_ride, e_isl, e_capt, e_meter, e_fram, e_regs, e_staged, e_ecc, _⟩⟩ := h
    · exact ⟨e0, .inl d⟩
    · exact ⟨e0, .inr ⟨e_now, e_dblTable, e_dblCapt, e_shadow, e_hostOut, e_recent, e_freeCtr, e_sys, e_fuse,
        e_boot, e_canopyT, e_log, e_ring, e_pod, e_gyl, e_safe, e_hw, e_eth, e_chan, e_sar, e_roverQ,
        e_engs, e_arm, e_ride, e_isl, e_capt, e_meter, e_fram, e_regs, e_staged, e_ecc, .inl m⟩⟩
  eccTrim := fun m _ h _ => by
    obtain ⟨e0, d | ⟨e_now, e_dblTable, e_dblCapt, e_shadow, e_hostOut, e_recent, e_freeCtr, e_sys, e_fuse, e_boot, e_canopyT, e_log, e_ring, e_pod, e_gyl, e_safe, e_hw, e_eth, e_chan, e_sar, e_roverQ, e_engs, e_arm, e_ride, e_isl, e_capt, e_meter, e_fram, e_regs, e_staged, _, e_mem⟩⟩ := h
    · exact ⟨e0, .inl d⟩
    · exact ⟨e0, .inr ⟨e_now, e_dblTable, e_dblCapt, e_shadow, e_hostOut, e_recent, e_freeCtr, e_sys, e_fuse,
        e_boot, e_canopyT, e_log, e_ring, e_pod, e_gyl, e_safe, e_hw, e_eth, e_chan, e_sar, e_roverQ,
        e_engs, e_arm, e_ride, e_isl, e_capt, e_meter, e_fram, e_regs, e_staged, .inl m, e_mem⟩⟩
  resetRest := fun m _ h _ _ => ⟨h.1, .inl m⟩
  regKeep := fun m _ h _ => ⟨h.1, .inl m⟩
  regNone := fun m _ h  => ⟨h.1, .inl m⟩
  stageNone := fun m _ h  => ⟨h.1, .inl m⟩
  eccKeep := fun m _ h _ => ⟨h.1, .inl m⟩
  eccNone := fun m _ h  => ⟨h.1, .inl m⟩
  memKeep := fun m _ h _ => ⟨h.1, .inl m⟩
  memNone := fun m _ h  => ⟨h.1, .inl m⟩

/-- Every state is the same as itself. -/
theorem State.sameBut_refl (l : List Part) (s : State) : s.sameBut l s := by
  unfold State.sameBut
  simp

/-- What a command that may change the parts in `k` leaves alone. -/
theorem sameBut_of {k : List Part} {s t : State} {o : Host.Outcome State Fault Refusal}
    (h : OutI (State.sameBut k s) o) (e : o = .next t) : s.sameBut k t := outI h e

end Sys2Proof.Machine
end

