-- ==== Sys2Proof/Laws/State.lean ====
section
/-! SUPPORT. What the named operations over the state do to each field: one lemma per field and operation,
so that no proof unfolds a record update. -/

namespace Sys2Proof.Machine

variable (s : State)

@[simp] theorem State.pending_elapse (dt : Nat) : (s.elapse dt).pending = s.pending := rfl
@[simp] theorem State.regs_elapse (dt : Nat) : (s.elapse dt).regs = s.regs := rfl
@[simp] theorem State.staged_elapse (dt : Nat) : (s.elapse dt).staged = s.staged := rfl
@[simp] theorem State.mem_elapse (dt : Nat) : (s.elapse dt).mem = s.mem := rfl
@[simp] theorem State.ecc_elapse (dt : Nat) : (s.elapse dt).ecc = s.ecc := rfl
@[simp] theorem State.dblTable_elapse (dt : Nat) : (s.elapse dt).dblTable = s.dblTable := rfl
@[simp] theorem State.dblCapt_elapse (dt : Nat) : (s.elapse dt).dblCapt = s.dblCapt := rfl
@[simp] theorem State.shadow_elapse (dt : Nat) : (s.elapse dt).shadow = s.shadow := rfl
@[simp] theorem State.hostOut_elapse (dt : Nat) : (s.elapse dt).hostOut = s.hostOut := rfl
@[simp] theorem State.recent_elapse (dt : Nat) : (s.elapse dt).recent = s.recent := rfl
@[simp] theorem State.freeCtr_elapse (dt : Nat) : (s.elapse dt).freeCtr = s.freeCtr := rfl
@[simp] theorem State.sys_elapse (dt : Nat) : (s.elapse dt).sys = s.sys := rfl
@[simp] theorem State.fuse_elapse (dt : Nat) : (s.elapse dt).fuse = s.fuse := rfl
@[simp] theorem State.boot_elapse (dt : Nat) : (s.elapse dt).boot = s.boot := rfl
@[simp] theorem State.canopyT_elapse (dt : Nat) : (s.elapse dt).canopyT = s.canopyT := rfl
@[simp] theorem State.log_elapse (dt : Nat) : (s.elapse dt).log = s.log := rfl
@[simp] theorem State.ring_elapse (dt : Nat) : (s.elapse dt).ring = s.ring := rfl
@[simp] theorem State.pod_elapse (dt : Nat) : (s.elapse dt).pod = s.pod := rfl
@[simp] theorem State.gyl_elapse (dt : Nat) : (s.elapse dt).gyl = s.gyl := rfl
@[simp] theorem State.safe_elapse (dt : Nat) : (s.elapse dt).safe = s.safe := rfl
@[simp] theorem State.hw_elapse (dt : Nat) : (s.elapse dt).hw = s.hw := rfl
@[simp] theorem State.eth_elapse (dt : Nat) : (s.elapse dt).eth = s.eth := rfl
@[simp] theorem State.chan_elapse (dt : Nat) : (s.elapse dt).chan = s.chan := rfl
@[simp] theorem State.sar_elapse (dt : Nat) : (s.elapse dt).sar = s.sar := rfl
@[simp] theorem State.roverQ_elapse (dt : Nat) : (s.elapse dt).roverQ = s.roverQ := rfl
@[simp] theorem State.engs_elapse (dt : Nat) : (s.elapse dt).engs = s.engs := rfl
@[simp] theorem State.arm_elapse (dt : Nat) : (s.elapse dt).arm = s.arm := rfl
@[simp] theorem State.ride_elapse (dt : Nat) : (s.elapse dt).ride = s.ride := rfl
@[simp] theorem State.isl_elapse (dt : Nat) : (s.elapse dt).isl = s.isl := rfl
@[simp] theorem State.meter_elapse (dt : Nat) : (s.elapse dt).meter = s.meter := rfl
@[simp] theorem State.capt_elapse (dt : Nat) : (s.elapse dt).capt = s.capt := rfl

@[simp] theorem State.now_set (r : Reg) (v : Nat) : (s.set r v).now = s.now := by
  unfold State.set; split <;> rfl
@[simp] theorem State.pending_set (r : Reg) (v : Nat) : (s.set r v).pending = s.pending := by
  unfold State.set; split <;> rfl
@[simp] theorem State.staged_set (r : Reg) (v : Nat) : (s.set r v).staged = s.staged := by
  unfold State.set; split <;> rfl
@[simp] theorem State.mem_set (r : Reg) (v : Nat) : (s.set r v).mem = s.mem := by
  unfold State.set; split <;> rfl
@[simp] theorem State.ecc_set (r : Reg) (v : Nat) : (s.set r v).ecc = s.ecc := by
  unfold State.set; split <;> rfl
@[simp] theorem State.dblTable_set (r : Reg) (v : Nat) : (s.set r v).dblTable = s.dblTable := by
  unfold State.set; split <;> rfl
@[simp] theorem State.dblCapt_set (r : Reg) (v : Nat) : (s.set r v).dblCapt = s.dblCapt := by
  unfold State.set; split <;> rfl
@[simp] theorem State.shadow_set (r : Reg) (v : Nat) : (s.set r v).shadow = s.shadow := by
  unfold State.set; split <;> rfl
@[simp] theorem State.hostOut_set (r : Reg) (v : Nat) : (s.set r v).hostOut = s.hostOut := by
  unfold State.set; split <;> rfl
@[simp] theorem State.recent_set (r : Reg) (v : Nat) : (s.set r v).recent = s.recent := by
  unfold State.set; split <;> rfl
@[simp] theorem State.freeCtr_set (r : Reg) (v : Nat) : (s.set r v).freeCtr = s.freeCtr := by
  unfold State.set; split <;> rfl
@[simp] theorem State.sys_set (r : Reg) (v : Nat) : (s.set r v).sys = s.sys := by
  unfold State.set; split <;> rfl
@[simp] theorem State.fuse_set (r : Reg) (v : Nat) : (s.set r v).fuse = s.fuse := by
  unfold State.set; split <;> rfl
@[simp] theorem State.boot_set (r : Reg) (v : Nat) : (s.set r v).boot = s.boot := by
  unfold State.set; split <;> rfl
@[simp] theorem State.canopyT_set (r : Reg) (v : Nat) : (s.set r v).canopyT = s.canopyT := by
  unfold State.set; split <;> rfl
@[simp] theorem State.log_set (r : Reg) (v : Nat) : (s.set r v).log = s.log := by
  unfold State.set; split <;> rfl
@[simp] theorem State.ring_set (r : Reg) (v : Nat) : (s.set r v).ring = s.ring := by
  unfold State.set; split <;> rfl
@[simp] theorem State.pod_set (r : Reg) (v : Nat) : (s.set r v).pod = s.pod := by
  unfold State.set; split <;> rfl
@[simp] theorem State.gyl_set (r : Reg) (v : Nat) : (s.set r v).gyl = s.gyl := by
  unfold State.set; split <;> rfl
@[simp] theorem State.safe_set (r : Reg) (v : Nat) : (s.set r v).safe = s.safe := by
  unfold State.set; split <;> rfl
@[simp] theorem State.hw_set (r : Reg) (v : Nat) : (s.set r v).hw = s.hw := by
  unfold State.set; split <;> rfl
@[simp] theorem State.eth_set (r : Reg) (v : Nat) : (s.set r v).eth = s.eth := by
  unfold State.set; split <;> rfl
@[simp] theorem State.chan_set (r : Reg) (v : Nat) : (s.set r v).chan = s.chan := by
  unfold State.set; split <;> rfl
@[simp] theorem State.sar_set (r : Reg) (v : Nat) : (s.set r v).sar = s.sar := by
  unfold State.set; split <;> rfl
@[simp] theorem State.roverQ_set (r : Reg) (v : Nat) : (s.set r v).roverQ = s.roverQ := by
  unfold State.set; split <;> rfl
@[simp] theorem State.engs_set (r : Reg) (v : Nat) : (s.set r v).engs = s.engs := by
  unfold State.set; split <;> rfl
@[simp] theorem State.arm_set (r : Reg) (v : Nat) : (s.set r v).arm = s.arm := by
  unfold State.set; split <;> rfl
@[simp] theorem State.ride_set (r : Reg) (v : Nat) : (s.set r v).ride = s.ride := by
  unfold State.set; split <;> rfl
@[simp] theorem State.isl_set (r : Reg) (v : Nat) : (s.set r v).isl = s.isl := by
  unfold State.set; split <;> rfl
@[simp] theorem State.meter_set (r : Reg) (v : Nat) : (s.set r v).meter = s.meter := by
  unfold State.set; split <;> rfl
@[simp] theorem State.capt_set (r : Reg) (v : Nat) : (s.set r v).capt = s.capt := by
  unfold State.set; split <;> rfl

@[simp] theorem State.now_setBoot (r : Reg) (v : Nat) : (s.setBoot r v).now = s.now := rfl
@[simp] theorem State.pending_setBoot (r : Reg) (v : Nat) : (s.setBoot r v).pending = s.pending := rfl
@[simp] theorem State.staged_setBoot (r : Reg) (v : Nat) : (s.setBoot r v).staged = s.staged := rfl
@[simp] theorem State.mem_setBoot (r : Reg) (v : Nat) : (s.setBoot r v).mem = s.mem := rfl
@[simp] theorem State.ecc_setBoot (r : Reg) (v : Nat) : (s.setBoot r v).ecc = s.ecc := rfl
@[simp] theorem State.dblTable_setBoot (r : Reg) (v : Nat) : (s.setBoot r v).dblTable = s.dblTable := rfl
@[simp] theorem State.dblCapt_setBoot (r : Reg) (v : Nat) : (s.setBoot r v).dblCapt = s.dblCapt := rfl
@[simp] theorem State.shadow_setBoot (r : Reg) (v : Nat) : (s.setBoot r v).shadow = s.shadow := rfl
@[simp] theorem State.hostOut_setBoot (r : Reg) (v : Nat) : (s.setBoot r v).hostOut = s.hostOut := rfl
@[simp] theorem State.recent_setBoot (r : Reg) (v : Nat) : (s.setBoot r v).recent = s.recent := rfl
@[simp] theorem State.freeCtr_setBoot (r : Reg) (v : Nat) : (s.setBoot r v).freeCtr = s.freeCtr := rfl
@[simp] theorem State.sys_setBoot (r : Reg) (v : Nat) : (s.setBoot r v).sys = s.sys := rfl
@[simp] theorem State.fuse_setBoot (r : Reg) (v : Nat) : (s.setBoot r v).fuse = s.fuse := rfl
@[simp] theorem State.boot_setBoot (r : Reg) (v : Nat) : (s.setBoot r v).boot = s.boot := rfl
@[simp] theorem State.canopyT_setBoot (r : Reg) (v : Nat) : (s.setBoot r v).canopyT = s.canopyT := rfl
@[simp] theorem State.log_setBoot (r : Reg) (v : Nat) : (s.setBoot r v).log = s.log := rfl
@[simp] theorem State.ring_setBoot (r : Reg) (v : Nat) : (s.setBoot r v).ring = s.ring := rfl
@[simp] theorem State.pod_setBoot (r : Reg) (v : Nat) : (s.setBoot r v).pod = s.pod := rfl
@[simp] theorem State.gyl_setBoot (r : Reg) (v : Nat) : (s.setBoot r v).gyl = s.gyl := rfl
@[simp] theorem State.safe_setBoot (r : Reg) (v : Nat) : (s.setBoot r v).safe = s.safe := rfl
@[simp] theorem State.hw_setBoot (r : Reg) (v : Nat) : (s.setBoot r v).hw = s.hw := rfl
@[simp] theorem State.eth_setBoot (r : Reg) (v : Nat) : (s.setBoot r v).eth = s.eth := rfl
@[simp] theorem State.chan_setBoot (r : Reg) (v : Nat) : (s.setBoot r v).chan = s.chan := rfl
@[simp] theorem State.sar_setBoot (r : Reg) (v : Nat) : (s.setBoot r v).sar = s.sar := rfl
@[simp] theorem State.roverQ_setBoot (r : Reg) (v : Nat) : (s.setBoot r v).roverQ = s.roverQ := rfl
@[simp] theorem State.engs_setBoot (r : Reg) (v : Nat) : (s.setBoot r v).engs = s.engs := rfl
@[simp] theorem State.arm_setBoot (r : Reg) (v : Nat) : (s.setBoot r v).arm = s.arm := rfl
@[simp] theorem State.ride_setBoot (r : Reg) (v : Nat) : (s.setBoot r v).ride = s.ride := rfl
@[simp] theorem State.isl_setBoot (r : Reg) (v : Nat) : (s.setBoot r v).isl = s.isl := rfl
@[simp] theorem State.meter_setBoot (r : Reg) (v : Nat) : (s.setBoot r v).meter = s.meter := rfl
@[simp] theorem State.capt_setBoot (r : Reg) (v : Nat) : (s.setBoot r v).capt = s.capt := rfl

@[simp] theorem State.now_note (key bits : Nat) : (s.note key bits).now = s.now := rfl
@[simp] theorem State.pending_note (key bits : Nat) : (s.note key bits).pending = s.pending := rfl
@[simp] theorem State.regs_note (key bits : Nat) : (s.note key bits).regs = s.regs := rfl
@[simp] theorem State.staged_note (key bits : Nat) : (s.note key bits).staged = s.staged := rfl
@[simp] theorem State.mem_note (key bits : Nat) : (s.note key bits).mem = s.mem := rfl
@[simp] theorem State.ecc_note (key bits : Nat) : (s.note key bits).ecc = s.ecc := rfl
@[simp] theorem State.dblTable_note (key bits : Nat) : (s.note key bits).dblTable = s.dblTable := rfl
@[simp] theorem State.dblCapt_note (key bits : Nat) : (s.note key bits).dblCapt = s.dblCapt := rfl
@[simp] theorem State.shadow_note (key bits : Nat) : (s.note key bits).shadow = s.shadow := rfl
@[simp] theorem State.hostOut_note (key bits : Nat) : (s.note key bits).hostOut = s.hostOut := rfl
@[simp] theorem State.freeCtr_note (key bits : Nat) : (s.note key bits).freeCtr = s.freeCtr := rfl
@[simp] theorem State.sys_note (key bits : Nat) : (s.note key bits).sys = s.sys := rfl
@[simp] theorem State.fuse_note (key bits : Nat) : (s.note key bits).fuse = s.fuse := rfl
@[simp] theorem State.boot_note (key bits : Nat) : (s.note key bits).boot = s.boot := rfl
@[simp] theorem State.canopyT_note (key bits : Nat) : (s.note key bits).canopyT = s.canopyT := rfl
@[simp] theorem State.log_note (key bits : Nat) : (s.note key bits).log = s.log := rfl
@[simp] theorem State.ring_note (key bits : Nat) : (s.note key bits).ring = s.ring := rfl
@[simp] theorem State.pod_note (key bits : Nat) : (s.note key bits).pod = s.pod := rfl
@[simp] theorem State.gyl_note (key bits : Nat) : (s.note key bits).gyl = s.gyl := rfl
@[simp] theorem State.safe_note (key bits : Nat) : (s.note key bits).safe = s.safe := rfl
@[simp] theorem State.hw_note (key bits : Nat) : (s.note key bits).hw = s.hw := rfl
@[simp] theorem State.eth_note (key bits : Nat) : (s.note key bits).eth = s.eth := rfl
@[simp] theorem State.chan_note (key bits : Nat) : (s.note key bits).chan = s.chan := rfl
@[simp] theorem State.sar_note (key bits : Nat) : (s.note key bits).sar = s.sar := rfl
@[simp] theorem State.roverQ_note (key bits : Nat) : (s.note key bits).roverQ = s.roverQ := rfl
@[simp] theorem State.engs_note (key bits : Nat) : (s.note key bits).engs = s.engs := rfl
@[simp] theorem State.arm_note (key bits : Nat) : (s.note key bits).arm = s.arm := rfl
@[simp] theorem State.ride_note (key bits : Nat) : (s.note key bits).ride = s.ride := rfl
@[simp] theorem State.isl_note (key bits : Nat) : (s.note key bits).isl = s.isl := rfl
@[simp] theorem State.meter_note (key bits : Nat) : (s.note key bits).meter = s.meter := rfl
@[simp] theorem State.capt_note (key bits : Nat) : (s.note key bits).capt = s.capt := rfl

@[simp] theorem State.now_noteW1c (r : Reg) (bits : Nat) : (s.noteW1c r bits).now = s.now := by
  unfold State.noteW1c; split <;> simp
@[simp] theorem State.pending_noteW1c (r : Reg) (bits : Nat) : (s.noteW1c r bits).pending = s.pending := by
  unfold State.noteW1c; split <;> simp
@[simp] theorem State.regs_noteW1c (r : Reg) (bits : Nat) : (s.noteW1c r bits).regs = s.regs := by
  unfold State.noteW1c; split <;> simp
@[simp] theorem State.staged_noteW1c (r : Reg) (bits : Nat) : (s.noteW1c r bits).staged = s.staged := by
  unfold State.noteW1c; split <;> simp
@[simp] theorem State.mem_noteW1c (r : Reg) (bits : Nat) : (s.noteW1c r bits).mem = s.mem := by
  unfold State.noteW1c; split <;> simp
@[simp] theorem State.ecc_noteW1c (r : Reg) (bits : Nat) : (s.noteW1c r bits).ecc = s.ecc := by
  unfold State.noteW1c; split <;> simp
@[simp] theorem State.dblTable_noteW1c (r : Reg) (bits : Nat) : (s.noteW1c r bits).dblTable = s.dblTable := by
  unfold State.noteW1c; split <;> simp
@[simp] theorem State.dblCapt_noteW1c (r : Reg) (bits : Nat) : (s.noteW1c r bits).dblCapt = s.dblCapt := by
  unfold State.noteW1c; split <;> simp
@[simp] theorem State.shadow_noteW1c (r : Reg) (bits : Nat) : (s.noteW1c r bits).shadow = s.shadow := by
  unfold State.noteW1c; split <;> simp
@[simp] theorem State.hostOut_noteW1c (r : Reg) (bits : Nat) : (s.noteW1c r bits).hostOut = s.hostOut := by
  unfold State.noteW1c; split <;> simp
@[simp] theorem State.freeCtr_noteW1c (r : Reg) (bits : Nat) : (s.noteW1c r bits).freeCtr = s.freeCtr := by
  unfold State.noteW1c; split <;> simp
@[simp] theorem State.sys_noteW1c (r : Reg) (bits : Nat) : (s.noteW1c r bits).sys = s.sys := by
  unfold State.noteW1c; split <;> simp
@[simp] theorem State.fuse_noteW1c (r : Reg) (bits : Nat) : (s.noteW1c r bits).fuse = s.fuse := by
  unfold State.noteW1c; split <;> simp
@[simp] theorem State.boot_noteW1c (r : Reg) (bits : Nat) : (s.noteW1c r bits).boot = s.boot := by
  unfold State.noteW1c; split <;> simp
@[simp] theorem State.canopyT_noteW1c (r : Reg) (bits : Nat) : (s.noteW1c r bits).canopyT = s.canopyT := by
  unfold State.noteW1c; split <;> simp
@[simp] theorem State.log_noteW1c (r : Reg) (bits : Nat) : (s.noteW1c r bits).log = s.log := by
  unfold State.noteW1c; split <;> simp
@[simp] theorem State.ring_noteW1c (r : Reg) (bits : Nat) : (s.noteW1c r bits).ring = s.ring := by
  unfold State.noteW1c; split <;> simp
@[simp] theorem State.pod_noteW1c (r : Reg) (bits : Nat) : (s.noteW1c r bits).pod = s.pod := by
  unfold State.noteW1c; split <;> simp
@[simp] theorem State.gyl_noteW1c (r : Reg) (bits : Nat) : (s.noteW1c r bits).gyl = s.gyl := by
  unfold State.noteW1c; split <;> simp
@[simp] theorem State.safe_noteW1c (r : Reg) (bits : Nat) : (s.noteW1c r bits).safe = s.safe := by
  unfold State.noteW1c; split <;> simp
@[simp] theorem State.hw_noteW1c (r : Reg) (bits : Nat) : (s.noteW1c r bits).hw = s.hw := by
  unfold State.noteW1c; split <;> simp
@[simp] theorem State.eth_noteW1c (r : Reg) (bits : Nat) : (s.noteW1c r bits).eth = s.eth := by
  unfold State.noteW1c; split <;> simp
@[simp] theorem State.chan_noteW1c (r : Reg) (bits : Nat) : (s.noteW1c r bits).chan = s.chan := by
  unfold State.noteW1c; split <;> simp
@[simp] theorem State.sar_noteW1c (r : Reg) (bits : Nat) : (s.noteW1c r bits).sar = s.sar := by
  unfold State.noteW1c; split <;> simp
@[simp] theorem State.roverQ_noteW1c (r : Reg) (bits : Nat) : (s.noteW1c r bits).roverQ = s.roverQ := by
  unfold State.noteW1c; split <;> simp
@[simp] theorem State.engs_noteW1c (r : Reg) (bits : Nat) : (s.noteW1c r bits).engs = s.engs := by
  unfold State.noteW1c; split <;> simp
@[simp] theorem State.arm_noteW1c (r : Reg) (bits : Nat) : (s.noteW1c r bits).arm = s.arm := by
  unfold State.noteW1c; split <;> simp
@[simp] theorem State.ride_noteW1c (r : Reg) (bits : Nat) : (s.noteW1c r bits).ride = s.ride := by
  unfold State.noteW1c; split <;> simp
@[simp] theorem State.isl_noteW1c (r : Reg) (bits : Nat) : (s.noteW1c r bits).isl = s.isl := by
  unfold State.noteW1c; split <;> simp
@[simp] theorem State.meter_noteW1c (r : Reg) (bits : Nat) : (s.noteW1c r bits).meter = s.meter := by
  unfold State.noteW1c; split <;> simp
@[simp] theorem State.capt_noteW1c (r : Reg) (bits : Nat) : (s.noteW1c r bits).capt = s.capt := by
  unfold State.noteW1c; split <;> simp

@[simp] theorem State.now_setB (r : Reg) (b : Bool) : (s.setB r b).now = s.now := by
  unfold State.setB; split <;> simp
@[simp] theorem State.pending_setB (r : Reg) (b : Bool) : (s.setB r b).pending = s.pending := by
  unfold State.setB; split <;> simp
@[simp] theorem State.staged_setB (r : Reg) (b : Bool) : (s.setB r b).staged = s.staged := by
  unfold State.setB; split <;> simp
@[simp] theorem State.mem_setB (r : Reg) (b : Bool) : (s.setB r b).mem = s.mem := by
  unfold State.setB; split <;> simp
@[simp] theorem State.ecc_setB (r : Reg) (b : Bool) : (s.setB r b).ecc = s.ecc := by
  unfold State.setB; split <;> simp
@[simp] theorem State.dblTable_setB (r : Reg) (b : Bool) : (s.setB r b).dblTable = s.dblTable := by
  unfold State.setB; split <;> simp
@[simp] theorem State.dblCapt_setB (r : Reg) (b : Bool) : (s.setB r b).dblCapt = s.dblCapt := by
  unfold State.setB; split <;> simp
@[simp] theorem State.shadow_setB (r : Reg) (b : Bool) : (s.setB r b).shadow = s.shadow := by
  unfold State.setB; split <;> simp
@[simp] theorem State.hostOut_setB (r : Reg) (b : Bool) : (s.setB r b).hostOut = s.hostOut := by
  unfold State.setB; split <;> simp
@[simp] theorem State.freeCtr_setB (r : Reg) (b : Bool) : (s.setB r b).freeCtr = s.freeCtr := by
  unfold State.setB; split <;> simp
@[simp] theorem State.sys_setB (r : Reg) (b : Bool) : (s.setB r b).sys = s.sys := by
  unfold State.setB; split <;> simp
@[simp] theorem State.fuse_setB (r : Reg) (b : Bool) : (s.setB r b).fuse = s.fuse := by
  unfold State.setB; split <;> simp
@[simp] theorem State.boot_setB (r : Reg) (b : Bool) : (s.setB r b).boot = s.boot := by
  unfold State.setB; split <;> simp
@[simp] theorem State.canopyT_setB (r : Reg) (b : Bool) : (s.setB r b).canopyT = s.canopyT := by
  unfold State.setB; split <;> simp
@[simp] theorem State.log_setB (r : Reg) (b : Bool) : (s.setB r b).log = s.log := by
  unfold State.setB; split <;> simp
@[simp] theorem State.ring_setB (r : Reg) (b : Bool) : (s.setB r b).ring = s.ring := by
  unfold State.setB; split <;> simp
@[simp] theorem State.pod_setB (r : Reg) (b : Bool) : (s.setB r b).pod = s.pod := by
  unfold State.setB; split <;> simp
@[simp] theorem State.gyl_setB (r : Reg) (b : Bool) : (s.setB r b).gyl = s.gyl := by
  unfold State.setB; split <;> simp
@[simp] theorem State.safe_setB (r : Reg) (b : Bool) : (s.setB r b).safe = s.safe := by
  unfold State.setB; split <;> simp
@[simp] theorem State.hw_setB (r : Reg) (b : Bool) : (s.setB r b).hw = s.hw := by
  unfold State.setB; split <;> simp
@[simp] theorem State.eth_setB (r : Reg) (b : Bool) : (s.setB r b).eth = s.eth := by
  unfold State.setB; split <;> simp
@[simp] theorem State.chan_setB (r : Reg) (b : Bool) : (s.setB r b).chan = s.chan := by
  unfold State.setB; split <;> simp
@[simp] theorem State.sar_setB (r : Reg) (b : Bool) : (s.setB r b).sar = s.sar := by
  unfold State.setB; split <;> simp
@[simp] theorem State.roverQ_setB (r : Reg) (b : Bool) : (s.setB r b).roverQ = s.roverQ := by
  unfold State.setB; split <;> simp
@[simp] theorem State.engs_setB (r : Reg) (b : Bool) : (s.setB r b).engs = s.engs := by
  unfold State.setB; split <;> simp
@[simp] theorem State.arm_setB (r : Reg) (b : Bool) : (s.setB r b).arm = s.arm := by
  unfold State.setB; split <;> simp
@[simp] theorem State.ride_setB (r : Reg) (b : Bool) : (s.setB r b).ride = s.ride := by
  unfold State.setB; split <;> simp
@[simp] theorem State.isl_setB (r : Reg) (b : Bool) : (s.setB r b).isl = s.isl := by
  unfold State.setB; split <;> simp
@[simp] theorem State.meter_setB (r : Reg) (b : Bool) : (s.setB r b).meter = s.meter := by
  unfold State.setB; split <;> simp
@[simp] theorem State.capt_setB (r : Reg) (b : Bool) : (s.setB r b).capt = s.capt := by
  unfold State.setB; split <;> simp

@[simp] theorem State.now_setI (r : Reg) (v : Int) : (s.setI r v).now = s.now := by
  simp [State.setI]
@[simp] theorem State.pending_setI (r : Reg) (v : Int) : (s.setI r v).pending = s.pending := by
  simp [State.setI]
@[simp] theorem State.staged_setI (r : Reg) (v : Int) : (s.setI r v).staged = s.staged := by
  simp [State.setI]
@[simp] theorem State.mem_setI (r : Reg) (v : Int) : (s.setI r v).mem = s.mem := by
  simp [State.setI]
@[simp] theorem State.ecc_setI (r : Reg) (v : Int) : (s.setI r v).ecc = s.ecc := by
  simp [State.setI]
@[simp] theorem State.dblTable_setI (r : Reg) (v : Int) : (s.setI r v).dblTable = s.dblTable := by
  simp [State.setI]
@[simp] theorem State.dblCapt_setI (r : Reg) (v : Int) : (s.setI r v).dblCapt = s.dblCapt := by
  simp [State.setI]
@[simp] theorem State.shadow_setI (r : Reg) (v : Int) : (s.setI r v).shadow = s.shadow := by
  simp [State.setI]
@[simp] theorem State.hostOut_setI (r : Reg) (v : Int) : (s.setI r v).hostOut = s.hostOut := by
  simp [State.setI]
@[simp] theorem State.recent_setI (r : Reg) (v : Int) : (s.setI r v).recent = s.recent := by
  simp [State.setI]
@[simp] theorem State.freeCtr_setI (r : Reg) (v : Int) : (s.setI r v).freeCtr = s.freeCtr := by
  simp [State.setI]
@[simp] theorem State.sys_setI (r : Reg) (v : Int) : (s.setI r v).sys = s.sys := by
  simp [State.setI]
@[simp] theorem State.fuse_setI (r : Reg) (v : Int) : (s.setI r v).fuse = s.fuse := by
  simp [State.setI]
@[simp] theorem State.boot_setI (r : Reg) (v : Int) : (s.setI r v).boot = s.boot := by
  simp [State.setI]
@[simp] theorem State.canopyT_setI (r : Reg) (v : Int) : (s.setI r v).canopyT = s.canopyT := by
  simp [State.setI]
@[simp] theorem State.log_setI (r : Reg) (v : Int) : (s.setI r v).log = s.log := by
  simp [State.setI]
@[simp] theorem State.ring_setI (r : Reg) (v : Int) : (s.setI r v).ring = s.ring := by
  simp [State.setI]
@[simp] theorem State.pod_setI (r : Reg) (v : Int) : (s.setI r v).pod = s.pod := by
  simp [State.setI]
@[simp] theorem State.gyl_setI (r : Reg) (v : Int) : (s.setI r v).gyl = s.gyl := by
  simp [State.setI]
@[simp] theorem State.safe_setI (r : Reg) (v : Int) : (s.setI r v).safe = s.safe := by
  simp [State.setI]
@[simp] theorem State.hw_setI (r : Reg) (v : Int) : (s.setI r v).hw = s.hw := by
  simp [State.setI]
@[simp] theorem State.eth_setI (r : Reg) (v : Int) : (s.setI r v).eth = s.eth := by
  simp [State.setI]
@[simp] theorem State.chan_setI (r : Reg) (v : Int) : (s.setI r v).chan = s.chan := by
  simp [State.setI]
@[simp] theorem State.sar_setI (r : Reg) (v : Int) : (s.setI r v).sar = s.sar := by
  simp [State.setI]
@[simp] theorem State.roverQ_setI (r : Reg) (v : Int) : (s.setI r v).roverQ = s.roverQ := by
  simp [State.setI]
@[simp] theorem State.engs_setI (r : Reg) (v : Int) : (s.setI r v).engs = s.engs := by
  simp [State.setI]
@[simp] theorem State.arm_setI (r : Reg) (v : Int) : (s.setI r v).arm = s.arm := by
  simp [State.setI]
@[simp] theorem State.ride_setI (r : Reg) (v : Int) : (s.setI r v).ride = s.ride := by
  simp [State.setI]
@[simp] theorem State.isl_setI (r : Reg) (v : Int) : (s.setI r v).isl = s.isl := by
  simp [State.setI]
@[simp] theorem State.meter_setI (r : Reg) (v : Int) : (s.setI r v).meter = s.meter := by
  simp [State.setI]
@[simp] theorem State.capt_setI (r : Reg) (v : Int) : (s.setI r v).capt = s.capt := by
  simp [State.setI]

@[simp] theorem State.now_inc (r : Reg) : (s.inc r).now = s.now := by
  unfold State.inc; split <;> simp
@[simp] theorem State.pending_inc (r : Reg) : (s.inc r).pending = s.pending := by
  unfold State.inc; split <;> simp
@[simp] theorem State.staged_inc (r : Reg) : (s.inc r).staged = s.staged := by
  unfold State.inc; split <;> simp
@[simp] theorem State.mem_inc (r : Reg) : (s.inc r).mem = s.mem := by
  unfold State.inc; split <;> simp
@[simp] theorem State.ecc_inc (r : Reg) : (s.inc r).ecc = s.ecc := by
  unfold State.inc; split <;> simp
@[simp] theorem State.dblTable_inc (r : Reg) : (s.inc r).dblTable = s.dblTable := by
  unfold State.inc; split <;> simp
@[simp] theorem State.dblCapt_inc (r : Reg) : (s.inc r).dblCapt = s.dblCapt := by
  unfold State.inc; split <;> simp
@[simp] theorem State.shadow_inc (r : Reg) : (s.inc r).shadow = s.shadow := by
  unfold State.inc; split <;> simp
@[simp] theorem State.hostOut_inc (r : Reg) : (s.inc r).hostOut = s.hostOut := by
  unfold State.inc; split <;> simp
@[simp] theorem State.freeCtr_inc (r : Reg) : (s.inc r).freeCtr = s.freeCtr := by
  unfold State.inc; split <;> simp
@[simp] theorem State.sys_inc (r : Reg) : (s.inc r).sys = s.sys := by
  unfold State.inc; split <;> simp
@[simp] theorem State.fuse_inc (r : Reg) : (s.inc r).fuse = s.fuse := by
  unfold State.inc; split <;> simp
@[simp] theorem State.boot_inc (r : Reg) : (s.inc r).boot = s.boot := by
  unfold State.inc; split <;> simp
@[simp] theorem State.canopyT_inc (r : Reg) : (s.inc r).canopyT = s.canopyT := by
  unfold State.inc; split <;> simp
@[simp] theorem State.log_inc (r : Reg) : (s.inc r).log = s.log := by
  unfold State.inc; split <;> simp
@[simp] theorem State.ring_inc (r : Reg) : (s.inc r).ring = s.ring := by
  unfold State.inc; split <;> simp
@[simp] theorem State.pod_inc (r : Reg) : (s.inc r).pod = s.pod := by
  unfold State.inc; split <;> simp
@[simp] theorem State.gyl_inc (r : Reg) : (s.inc r).gyl = s.gyl := by
  unfold State.inc; split <;> simp
@[simp] theorem State.safe_inc (r : Reg) : (s.inc r).safe = s.safe := by
  unfold State.inc; split <;> simp
@[simp] theorem State.hw_inc (r : Reg) : (s.inc r).hw = s.hw := by
  unfold State.inc; split <;> simp
@[simp] theorem State.eth_inc (r : Reg) : (s.inc r).eth = s.eth := by
  unfold State.inc; split <;> simp
@[simp] theorem State.chan_inc (r : Reg) : (s.inc r).chan = s.chan := by
  unfold State.inc; split <;> simp
@[simp] theorem State.sar_inc (r : Reg) : (s.inc r).sar = s.sar := by
  unfold State.inc; split <;> simp
@[simp] theorem State.roverQ_inc (r : Reg) : (s.inc r).roverQ = s.roverQ := by
  unfold State.inc; split <;> simp
@[simp] theorem State.engs_inc (r : Reg) : (s.inc r).engs = s.engs := by
  unfold State.inc; split <;> simp
@[simp] theorem State.arm_inc (r : Reg) : (s.inc r).arm = s.arm := by
  unfold State.inc; split <;> simp
@[simp] theorem State.ride_inc (r : Reg) : (s.inc r).ride = s.ride := by
  unfold State.inc; split <;> simp
@[simp] theorem State.isl_inc (r : Reg) : (s.inc r).isl = s.isl := by
  unfold State.inc; split <;> simp
@[simp] theorem State.meter_inc (r : Reg) : (s.inc r).meter = s.meter := by
  unfold State.inc; split <;> simp
@[simp] theorem State.capt_inc (r : Reg) : (s.inc r).capt = s.capt := by
  unfold State.inc; split <;> simp

@[simp] theorem State.now_setMaskBit (r : Reg) (b : Nat) : (s.setMaskBit r b).now = s.now := by
  simp [State.setMaskBit]
@[simp] theorem State.pending_setMaskBit (r : Reg) (b : Nat) : (s.setMaskBit r b).pending = s.pending := by
  simp [State.setMaskBit]
@[simp] theorem State.staged_setMaskBit (r : Reg) (b : Nat) : (s.setMaskBit r b).staged = s.staged := by
  simp [State.setMaskBit]
@[simp] theorem State.mem_setMaskBit (r : Reg) (b : Nat) : (s.setMaskBit r b).mem = s.mem := by
  simp [State.setMaskBit]
@[simp] theorem State.ecc_setMaskBit (r : Reg) (b : Nat) : (s.setMaskBit r b).ecc = s.ecc := by
  simp [State.setMaskBit]
@[simp] theorem State.dblTable_setMaskBit (r : Reg) (b : Nat) : (s.setMaskBit r b).dblTable = s.dblTable := by
  simp [State.setMaskBit]
@[simp] theorem State.dblCapt_setMaskBit (r : Reg) (b : Nat) : (s.setMaskBit r b).dblCapt = s.dblCapt := by
  simp [State.setMaskBit]
@[simp] theorem State.shadow_setMaskBit (r : Reg) (b : Nat) : (s.setMaskBit r b).shadow = s.shadow := by
  simp [State.setMaskBit]
@[simp] theorem State.hostOut_setMaskBit (r : Reg) (b : Nat) : (s.setMaskBit r b).hostOut = s.hostOut := by
  simp [State.setMaskBit]
@[simp] theorem State.freeCtr_setMaskBit (r : Reg) (b : Nat) : (s.setMaskBit r b).freeCtr = s.freeCtr := by
  simp [State.setMaskBit]
@[simp] theorem State.sys_setMaskBit (r : Reg) (b : Nat) : (s.setMaskBit r b).sys = s.sys := by
  simp [State.setMaskBit]
@[simp] theorem State.fuse_setMaskBit (r : Reg) (b : Nat) : (s.setMaskBit r b).fuse = s.fuse := by
  simp [State.setMaskBit]
@[simp] theorem State.boot_setMaskBit (r : Reg) (b : Nat) : (s.setMaskBit r b).boot = s.boot := by
  simp [State.setMaskBit]
@[simp] theorem State.canopyT_setMaskBit (r : Reg) (b : Nat) : (s.setMaskBit r b).canopyT = s.canopyT := by
  simp [State.setMaskBit]
@[simp] theorem State.log_setMaskBit (r : Reg) (b : Nat) : (s.setMaskBit r b).log = s.log := by
  simp [State.setMaskBit]
@[simp] theorem State.ring_setMaskBit (r : Reg) (b : Nat) : (s.setMaskBit r b).ring = s.ring := by
  simp [State.setMaskBit]
@[simp] theorem State.pod_setMaskBit (r : Reg) (b : Nat) : (s.setMaskBit r b).pod = s.pod := by
  simp [State.setMaskBit]
@[simp] theorem State.gyl_setMaskBit (r : Reg) (b : Nat) : (s.setMaskBit r b).gyl = s.gyl := by
  simp [State.setMaskBit]
@[simp] theorem State.safe_setMaskBit (r : Reg) (b : Nat) : (s.setMaskBit r b).safe = s.safe := by
  simp [State.setMaskBit]
@[simp] theorem State.hw_setMaskBit (r : Reg) (b : Nat) : (s.setMaskBit r b).hw = s.hw := by
  simp [State.setMaskBit]
@[simp] theorem State.eth_setMaskBit (r : Reg) (b : Nat) : (s.setMaskBit r b).eth = s.eth := by
  simp [State.setMaskBit]
@[simp] theorem State.chan_setMaskBit (r : Reg) (b : Nat) : (s.setMaskBit r b).chan = s.chan := by
  simp [State.setMaskBit]
@[simp] theorem State.sar_setMaskBit (r : Reg) (b : Nat) : (s.setMaskBit r b).sar = s.sar := by
  simp [State.setMaskBit]
@[simp] theorem State.roverQ_setMaskBit (r : Reg) (b : Nat) : (s.setMaskBit r b).roverQ = s.roverQ := by
  simp [State.setMaskBit]
@[simp] theorem State.engs_setMaskBit (r : Reg) (b : Nat) : (s.setMaskBit r b).engs = s.engs := by
  simp [State.setMaskBit]
@[simp] theorem State.arm_setMaskBit (r : Reg) (b : Nat) : (s.setMaskBit r b).arm = s.arm := by
  simp [State.setMaskBit]
@[simp] theorem State.ride_setMaskBit (r : Reg) (b : Nat) : (s.setMaskBit r b).ride = s.ride := by
  simp [State.setMaskBit]
@[simp] theorem State.isl_setMaskBit (r : Reg) (b : Nat) : (s.setMaskBit r b).isl = s.isl := by
  simp [State.setMaskBit]
@[simp] theorem State.meter_setMaskBit (r : Reg) (b : Nat) : (s.setMaskBit r b).meter = s.meter := by
  simp [State.setMaskBit]
@[simp] theorem State.capt_setMaskBit (r : Reg) (b : Nat) : (s.setMaskBit r b).capt = s.capt := by
  simp [State.setMaskBit]

@[simp] theorem State.now_putMaskBit (r : Reg) (b : Nat) (v : Bool) : (s.putMaskBit r b v).now = s.now := by
  simp [State.putMaskBit]
@[simp] theorem State.pending_putMaskBit (r : Reg) (b : Nat) (v : Bool) : (s.putMaskBit r b v).pending = s.pending := by
  simp [State.putMaskBit]
@[simp] theorem State.staged_putMaskBit (r : Reg) (b : Nat) (v : Bool) : (s.putMaskBit r b v).staged = s.staged := by
  simp [State.putMaskBit]
@[simp] theorem State.mem_putMaskBit (r : Reg) (b : Nat) (v : Bool) : (s.putMaskBit r b v).mem = s.mem := by
  simp [State.putMaskBit]
@[simp] theorem State.ecc_putMaskBit (r : Reg) (b : Nat) (v : Bool) : (s.putMaskBit r b v).ecc = s.ecc := by
  simp [State.putMaskBit]
@[simp] theorem State.dblTable_putMaskBit (r : Reg) (b : Nat) (v : Bool) : (s.putMaskBit r b v).dblTable = s.dblTable := by
  simp [State.putMaskBit]
@[simp] theorem State.dblCapt_putMaskBit (r : Reg) (b : Nat) (v : Bool) : (s.putMaskBit r b v).dblCapt = s.dblCapt := by
  simp [State.putMaskBit]
@[simp] theorem State.shadow_putMaskBit (r : Reg) (b : Nat) (v : Bool) : (s.putMaskBit r b v).shadow = s.shadow := by
  simp [State.putMaskBit]
@[simp] theorem State.hostOut_putMaskBit (r : Reg) (b : Nat) (v : Bool) : (s.putMaskBit r b v).hostOut = s.hostOut := by
  simp [State.putMaskBit]
@[simp] theorem State.recent_putMaskBit (r : Reg) (b : Nat) (v : Bool) : (s.putMaskBit r b v).recent = s.recent := by
  simp [State.putMaskBit]
@[simp] theorem State.freeCtr_putMaskBit (r : Reg) (b : Nat) (v : Bool) : (s.putMaskBit r b v).freeCtr = s.freeCtr := by
  simp [State.putMaskBit]
@[simp] theorem State.sys_putMaskBit (r : Reg) (b : Nat) (v : Bool) : (s.putMaskBit r b v).sys = s.sys := by
  simp [State.putMaskBit]
@[simp] theorem State.fuse_putMaskBit (r : Reg) (b : Nat) (v : Bool) : (s.putMaskBit r b v).fuse = s.fuse := by
  simp [State.putMaskBit]
@[simp] theorem State.boot_putMaskBit (r : Reg) (b : Nat) (v : Bool) : (s.putMaskBit r b v).boot = s.boot := by
  simp [State.putMaskBit]
@[simp] theorem State.canopyT_putMaskBit (r : Reg) (b : Nat) (v : Bool) : (s.putMaskBit r b v).canopyT = s.canopyT := by
  simp [State.putMaskBit]
@[simp] theorem State.log_putMaskBit (r : Reg) (b : Nat) (v : Bool) : (s.putMaskBit r b v).log = s.log := by
  simp [State.putMaskBit]
@[simp] theorem State.ring_putMaskBit (r : Reg) (b : Nat) (v : Bool) : (s.putMaskBit r b v).ring = s.ring := by
  simp [State.putMaskBit]
@[simp] theorem State.pod_putMaskBit (r : Reg) (b : Nat) (v : Bool) : (s.putMaskBit r b v).pod = s.pod := by
  simp [State.putMaskBit]
@[simp] theorem State.gyl_putMaskBit (r : Reg) (b : Nat) (v : Bool) : (s.putMaskBit r b v).gyl = s.gyl := by
  simp [State.putMaskBit]
@[simp] theorem State.safe_putMaskBit (r : Reg) (b : Nat) (v : Bool) : (s.putMaskBit r b v).safe = s.safe := by
  simp [State.putMaskBit]
@[simp] theorem State.hw_putMaskBit (r : Reg) (b : Nat) (v : Bool) : (s.putMaskBit r b v).hw = s.hw := by
  simp [State.putMaskBit]
@[simp] theorem State.eth_putMaskBit (r : Reg) (b : Nat) (v : Bool) : (s.putMaskBit r b v).eth = s.eth := by
  simp [State.putMaskBit]
@[simp] theorem State.chan_putMaskBit (r : Reg) (b : Nat) (v : Bool) : (s.putMaskBit r b v).chan = s.chan := by
  simp [State.putMaskBit]
@[simp] theorem State.sar_putMaskBit (r : Reg) (b : Nat) (v : Bool) : (s.putMaskBit r b v).sar = s.sar := by
  simp [State.putMaskBit]
@[simp] theorem State.roverQ_putMaskBit (r : Reg) (b : Nat) (v : Bool) : (s.putMaskBit r b v).roverQ = s.roverQ := by
  simp [State.putMaskBit]
@[simp] theorem State.engs_putMaskBit (r : Reg) (b : Nat) (v : Bool) : (s.putMaskBit r b v).engs = s.engs := by
  simp [State.putMaskBit]
@[simp] theorem State.arm_putMaskBit (r : Reg) (b : Nat) (v : Bool) : (s.putMaskBit r b v).arm = s.arm := by
  simp [State.putMaskBit]
@[simp] theorem State.ride_putMaskBit (r : Reg) (b : Nat) (v : Bool) : (s.putMaskBit r b v).ride = s.ride := by
  simp [State.putMaskBit]
@[simp] theorem State.isl_putMaskBit (r : Reg) (b : Nat) (v : Bool) : (s.putMaskBit r b v).isl = s.isl := by
  simp [State.putMaskBit]
@[simp] theorem State.meter_putMaskBit (r : Reg) (b : Nat) (v : Bool) : (s.putMaskBit r b v).meter = s.meter := by
  simp [State.putMaskBit]
@[simp] theorem State.capt_putMaskBit (r : Reg) (b : Nat) (v : Bool) : (s.putMaskBit r b v).capt = s.capt := by
  simp [State.putMaskBit]

@[simp] theorem State.now_stage (r : Reg) (v : Nat) : (s.stage r v).now = s.now := rfl
@[simp] theorem State.pending_stage (r : Reg) (v : Nat) : (s.stage r v).pending = s.pending := rfl
@[simp] theorem State.regs_stage (r : Reg) (v : Nat) : (s.stage r v).regs = s.regs := rfl
@[simp] theorem State.mem_stage (r : Reg) (v : Nat) : (s.stage r v).mem = s.mem := rfl
@[simp] theorem State.ecc_stage (r : Reg) (v : Nat) : (s.stage r v).ecc = s.ecc := rfl
@[simp] theorem State.dblTable_stage (r : Reg) (v : Nat) : (s.stage r v).dblTable = s.dblTable := rfl
@[simp] theorem State.dblCapt_stage (r : Reg) (v : Nat) : (s.stage r v).dblCapt = s.dblCapt := rfl
@[simp] theorem State.shadow_stage (r : Reg) (v : Nat) : (s.stage r v).shadow = s.shadow := rfl
@[simp] theorem State.hostOut_stage (r : Reg) (v : Nat) : (s.stage r v).hostOut = s.hostOut := rfl
@[simp] theorem State.recent_stage (r : Reg) (v : Nat) : (s.stage r v).recent = s.recent := rfl
@[simp] theorem State.freeCtr_stage (r : Reg) (v : Nat) : (s.stage r v).freeCtr = s.freeCtr := rfl
@[simp] theorem State.sys_stage (r : Reg) (v : Nat) : (s.stage r v).sys = s.sys := rfl
@[simp] theorem State.fuse_stage (r : Reg) (v : Nat) : (s.stage r v).fuse = s.fuse := rfl
@[simp] theorem State.boot_stage (r : Reg) (v : Nat) : (s.stage r v).boot = s.boot := rfl
@[simp] theorem State.canopyT_stage (r : Reg) (v : Nat) : (s.stage r v).canopyT = s.canopyT := rfl
@[simp] theorem State.log_stage (r : Reg) (v : Nat) : (s.stage r v).log = s.log := rfl
@[simp] theorem State.ring_stage (r : Reg) (v : Nat) : (s.stage r v).ring = s.ring := rfl
@[simp] theorem State.pod_stage (r : Reg) (v : Nat) : (s.stage r v).pod = s.pod := rfl
@[simp] theorem State.gyl_stage (r : Reg) (v : Nat) : (s.stage r v).gyl = s.gyl := rfl
@[simp] theorem State.safe_stage (r : Reg) (v : Nat) : (s.stage r v).safe = s.safe := rfl
@[simp] theorem State.hw_stage (r : Reg) (v : Nat) : (s.stage r v).hw = s.hw := rfl
@[simp] theorem State.eth_stage (r : Reg) (v : Nat) : (s.stage r v).eth = s.eth := rfl
@[simp] theorem State.chan_stage (r : Reg) (v : Nat) : (s.stage r v).chan = s.chan := rfl
@[simp] theorem State.sar_stage (r : Reg) (v : Nat) : (s.stage r v).sar = s.sar := rfl
@[simp] theorem State.roverQ_stage (r : Reg) (v : Nat) : (s.stage r v).roverQ = s.roverQ := rfl
@[simp] theorem State.engs_stage (r : Reg) (v : Nat) : (s.stage r v).engs = s.engs := rfl
@[simp] theorem State.arm_stage (r : Reg) (v : Nat) : (s.stage r v).arm = s.arm := rfl
@[simp] theorem State.ride_stage (r : Reg) (v : Nat) : (s.stage r v).ride = s.ride := rfl
@[simp] theorem State.isl_stage (r : Reg) (v : Nat) : (s.stage r v).isl = s.isl := rfl
@[simp] theorem State.meter_stage (r : Reg) (v : Nat) : (s.stage r v).meter = s.meter := rfl
@[simp] theorem State.capt_stage (r : Reg) (v : Nat) : (s.stage r v).capt = s.capt := rfl

@[simp] theorem State.now_modSys (f : SysSt → SysSt) : (s.modSys f).now = s.now := rfl
@[simp] theorem State.pending_modSys (f : SysSt → SysSt) : (s.modSys f).pending = s.pending := rfl
@[simp] theorem State.regs_modSys (f : SysSt → SysSt) : (s.modSys f).regs = s.regs := rfl
@[simp] theorem State.staged_modSys (f : SysSt → SysSt) : (s.modSys f).staged = s.staged := rfl
@[simp] theorem State.mem_modSys (f : SysSt → SysSt) : (s.modSys f).mem = s.mem := rfl
@[simp] theorem State.ecc_modSys (f : SysSt → SysSt) : (s.modSys f).ecc = s.ecc := rfl
@[simp] theorem State.dblTable_modSys (f : SysSt → SysSt) : (s.modSys f).dblTable = s.dblTable := rfl
@[simp] theorem State.dblCapt_modSys (f : SysSt → SysSt) : (s.modSys f).dblCapt = s.dblCapt := rfl
@[simp] theorem State.shadow_modSys (f : SysSt → SysSt) : (s.modSys f).shadow = s.shadow := rfl
@[simp] theorem State.hostOut_modSys (f : SysSt → SysSt) : (s.modSys f).hostOut = s.hostOut := rfl
@[simp] theorem State.recent_modSys (f : SysSt → SysSt) : (s.modSys f).recent = s.recent := rfl
@[simp] theorem State.freeCtr_modSys (f : SysSt → SysSt) : (s.modSys f).freeCtr = s.freeCtr := rfl
@[simp] theorem State.fuse_modSys (f : SysSt → SysSt) : (s.modSys f).fuse = s.fuse := rfl
@[simp] theorem State.boot_modSys (f : SysSt → SysSt) : (s.modSys f).boot = s.boot := rfl
@[simp] theorem State.canopyT_modSys (f : SysSt → SysSt) : (s.modSys f).canopyT = s.canopyT := rfl
@[simp] theorem State.log_modSys (f : SysSt → SysSt) : (s.modSys f).log = s.log := rfl
@[simp] theorem State.ring_modSys (f : SysSt → SysSt) : (s.modSys f).ring = s.ring := rfl
@[simp] theorem State.pod_modSys (f : SysSt → SysSt) : (s.modSys f).pod = s.pod := rfl
@[simp] theorem State.gyl_modSys (f : SysSt → SysSt) : (s.modSys f).gyl = s.gyl := rfl
@[simp] theorem State.safe_modSys (f : SysSt → SysSt) : (s.modSys f).safe = s.safe := rfl
@[simp] theorem State.hw_modSys (f : SysSt → SysSt) : (s.modSys f).hw = s.hw := rfl
@[simp] theorem State.eth_modSys (f : SysSt → SysSt) : (s.modSys f).eth = s.eth := rfl
@[simp] theorem State.chan_modSys (f : SysSt → SysSt) : (s.modSys f).chan = s.chan := rfl
@[simp] theorem State.sar_modSys (f : SysSt → SysSt) : (s.modSys f).sar = s.sar := rfl
@[simp] theorem State.roverQ_modSys (f : SysSt → SysSt) : (s.modSys f).roverQ = s.roverQ := rfl
@[simp] theorem State.engs_modSys (f : SysSt → SysSt) : (s.modSys f).engs = s.engs := rfl
@[simp] theorem State.arm_modSys (f : SysSt → SysSt) : (s.modSys f).arm = s.arm := rfl
@[simp] theorem State.ride_modSys (f : SysSt → SysSt) : (s.modSys f).ride = s.ride := rfl
@[simp] theorem State.isl_modSys (f : SysSt → SysSt) : (s.modSys f).isl = s.isl := rfl
@[simp] theorem State.meter_modSys (f : SysSt → SysSt) : (s.modSys f).meter = s.meter := rfl
@[simp] theorem State.capt_modSys (f : SysSt → SysSt) : (s.modSys f).capt = s.capt := rfl

@[simp] theorem State.now_noteRise (p : Nat) : (s.noteRise p).now = s.now := by
  unfold State.noteRise; repeat' split
  all_goals rfl
@[simp] theorem State.pending_noteRise (p : Nat) : (s.noteRise p).pending = s.pending := by
  unfold State.noteRise; repeat' split
  all_goals rfl
@[simp] theorem State.regs_noteRise (p : Nat) : (s.noteRise p).regs = s.regs := by
  unfold State.noteRise; repeat' split
  all_goals rfl
@[simp] theorem State.staged_noteRise (p : Nat) : (s.noteRise p).staged = s.staged := by
  unfold State.noteRise; repeat' split
  all_goals rfl
@[simp] theorem State.mem_noteRise (p : Nat) : (s.noteRise p).mem = s.mem := by
  unfold State.noteRise; repeat' split
  all_goals rfl
@[simp] theorem State.ecc_noteRise (p : Nat) : (s.noteRise p).ecc = s.ecc := by
  unfold State.noteRise; repeat' split
  all_goals rfl
@[simp] theorem State.dblTable_noteRise (p : Nat) : (s.noteRise p).dblTable = s.dblTable := by
  unfold State.noteRise; repeat' split
  all_goals rfl
@[simp] theorem State.dblCapt_noteRise (p : Nat) : (s.noteRise p).dblCapt = s.dblCapt := by
  unfold State.noteRise; repeat' split
  all_goals rfl
@[simp] theorem State.shadow_noteRise (p : Nat) : (s.noteRise p).shadow = s.shadow := by
  unfold State.noteRise; repeat' split
  all_goals rfl
@[simp] theorem State.hostOut_noteRise (p : Nat) : (s.noteRise p).hostOut = s.hostOut := by
  unfold State.noteRise; repeat' split
  all_goals rfl
@[simp] theorem State.recent_noteRise (p : Nat) : (s.noteRise p).recent = s.recent := by
  unfold State.noteRise; repeat' split
  all_goals rfl
@[simp] theorem State.freeCtr_noteRise (p : Nat) : (s.noteRise p).freeCtr = s.freeCtr := by
  unfold State.noteRise; repeat' split
  all_goals rfl
@[simp] theorem State.sys_noteRise (p : Nat) : (s.noteRise p).sys = s.sys := by
  unfold State.noteRise; repeat' split
  all_goals rfl
@[simp] theorem State.fuse_noteRise (p : Nat) : (s.noteRise p).fuse = s.fuse := by
  unfold State.noteRise; repeat' split
  all_goals rfl
@[simp] theorem State.boot_noteRise (p : Nat) : (s.noteRise p).boot = s.boot := by
  unfold State.noteRise; repeat' split
  all_goals rfl
@[simp] theorem State.canopyT_noteRise (p : Nat) : (s.noteRise p).canopyT = s.canopyT := by
  unfold State.noteRise; repeat' split
  all_goals rfl
@[simp] theorem State.log_noteRise (p : Nat) : (s.noteRise p).log = s.log := by
  unfold State.noteRise; repeat' split
  all_goals rfl
@[simp] theorem State.ring_noteRise (p : Nat) : (s.noteRise p).ring = s.ring := by
  unfold State.noteRise; repeat' split
  all_goals rfl
@[simp] theorem State.gyl_noteRise (p : Nat) : (s.noteRise p).gyl = s.gyl := by
  unfold State.noteRise; repeat' split
  all_goals rfl
@[simp] theorem State.safe_noteRise (p : Nat) : (s.noteRise p).safe = s.safe := by
  unfold State.noteRise; repeat' split
  all_goals rfl
@[simp] theorem State.hw_noteRise (p : Nat) : (s.noteRise p).hw = s.hw := by
  unfold State.noteRise; repeat' split
  all_goals rfl
@[simp] theorem State.eth_noteRise (p : Nat) : (s.noteRise p).eth = s.eth := by
  unfold State.noteRise; repeat' split
  all_goals rfl
@[simp] theorem State.chan_noteRise (p : Nat) : (s.noteRise p).chan = s.chan := by
  unfold State.noteRise; repeat' split
  all_goals rfl
@[simp] theorem State.sar_noteRise (p : Nat) : (s.noteRise p).sar = s.sar := by
  unfold State.noteRise; repeat' split
  all_goals rfl
@[simp] theorem State.roverQ_noteRise (p : Nat) : (s.noteRise p).roverQ = s.roverQ := by
  unfold State.noteRise; repeat' split
  all_goals rfl
@[simp] theorem State.engs_noteRise (p : Nat) : (s.noteRise p).engs = s.engs := by
  unfold State.noteRise; repeat' split
  all_goals rfl
@[simp] theorem State.arm_noteRise (p : Nat) : (s.noteRise p).arm = s.arm := by
  unfold State.noteRise; repeat' split
  all_goals rfl
@[simp] theorem State.ride_noteRise (p : Nat) : (s.noteRise p).ride = s.ride := by
  unfold State.noteRise; repeat' split
  all_goals rfl
@[simp] theorem State.isl_noteRise (p : Nat) : (s.noteRise p).isl = s.isl := by
  unfold State.noteRise; repeat' split
  all_goals rfl
@[simp] theorem State.meter_noteRise (p : Nat) : (s.noteRise p).meter = s.meter := by
  unfold State.noteRise; repeat' split
  all_goals rfl
@[simp] theorem State.capt_noteRise (p : Nat) : (s.noteRise p).capt = s.capt := by
  unfold State.noteRise; repeat' split
  all_goals rfl

@[simp] theorem State.now_irq (p b : Nat) : (s.irq p b).now = s.now := by
  simp [State.irq]
@[simp] theorem State.pending_irq (p b : Nat) : (s.irq p b).pending = s.pending := by
  simp [State.irq]
@[simp] theorem State.staged_irq (p b : Nat) : (s.irq p b).staged = s.staged := by
  simp [State.irq]
@[simp] theorem State.mem_irq (p b : Nat) : (s.irq p b).mem = s.mem := by
  simp [State.irq]
@[simp] theorem State.ecc_irq (p b : Nat) : (s.irq p b).ecc = s.ecc := by
  simp [State.irq]
@[simp] theorem State.dblTable_irq (p b : Nat) : (s.irq p b).dblTable = s.dblTable := by
  simp [State.irq]
@[simp] theorem State.dblCapt_irq (p b : Nat) : (s.irq p b).dblCapt = s.dblCapt := by
  simp [State.irq]
@[simp] theorem State.shadow_irq (p b : Nat) : (s.irq p b).shadow = s.shadow := by
  simp [State.irq]
@[simp] theorem State.hostOut_irq (p b : Nat) : (s.irq p b).hostOut = s.hostOut := by
  simp [State.irq]
@[simp] theorem State.freeCtr_irq (p b : Nat) : (s.irq p b).freeCtr = s.freeCtr := by
  simp [State.irq]
@[simp] theorem State.sys_irq (p b : Nat) : (s.irq p b).sys = s.sys := by
  simp [State.irq]
@[simp] theorem State.fuse_irq (p b : Nat) : (s.irq p b).fuse = s.fuse := by
  simp [State.irq]
@[simp] theorem State.boot_irq (p b : Nat) : (s.irq p b).boot = s.boot := by
  simp [State.irq]
@[simp] theorem State.canopyT_irq (p b : Nat) : (s.irq p b).canopyT = s.canopyT := by
  simp [State.irq]
@[simp] theorem State.log_irq (p b : Nat) : (s.irq p b).log = s.log := by
  simp [State.irq]
@[simp] theorem State.ring_irq (p b : Nat) : (s.irq p b).ring = s.ring := by
  simp [State.irq]
@[simp] theorem State.gyl_irq (p b : Nat) : (s.irq p b).gyl = s.gyl := by
  simp [State.irq]
@[simp] theorem State.safe_irq (p b : Nat) : (s.irq p b).safe = s.safe := by
  simp [State.irq]
@[simp] theorem State.hw_irq (p b : Nat) : (s.irq p b).hw = s.hw := by
  simp [State.irq]
@[simp] theorem State.eth_irq (p b : Nat) : (s.irq p b).eth = s.eth := by
  simp [State.irq]
@[simp] theorem State.chan_irq (p b : Nat) : (s.irq p b).chan = s.chan := by
  simp [State.irq]
@[simp] theorem State.sar_irq (p b : Nat) : (s.irq p b).sar = s.sar := by
  simp [State.irq]
@[simp] theorem State.roverQ_irq (p b : Nat) : (s.irq p b).roverQ = s.roverQ := by
  simp [State.irq]
@[simp] theorem State.engs_irq (p b : Nat) : (s.irq p b).engs = s.engs := by
  simp [State.irq]
@[simp] theorem State.arm_irq (p b : Nat) : (s.irq p b).arm = s.arm := by
  simp [State.irq]
@[simp] theorem State.ride_irq (p b : Nat) : (s.irq p b).ride = s.ride := by
  simp [State.irq]
@[simp] theorem State.isl_irq (p b : Nat) : (s.irq p b).isl = s.isl := by
  simp [State.irq]
@[simp] theorem State.meter_irq (p b : Nat) : (s.irq p b).meter = s.meter := by
  simp [State.irq]
@[simp] theorem State.capt_irq (p b : Nat) : (s.irq p b).capt = s.capt := by
  simp [State.irq]

@[simp] theorem State.now_err (p : Nat) : (s.err p).now = s.now := by
  simp [State.err]
@[simp] theorem State.pending_err (p : Nat) : (s.err p).pending = s.pending := by
  simp [State.err]
@[simp] theorem State.staged_err (p : Nat) : (s.err p).staged = s.staged := by
  simp [State.err]
@[simp] theorem State.mem_err (p : Nat) : (s.err p).mem = s.mem := by
  simp [State.err]
@[simp] theorem State.ecc_err (p : Nat) : (s.err p).ecc = s.ecc := by
  simp [State.err]
@[simp] theorem State.dblTable_err (p : Nat) : (s.err p).dblTable = s.dblTable := by
  simp [State.err]
@[simp] theorem State.dblCapt_err (p : Nat) : (s.err p).dblCapt = s.dblCapt := by
  simp [State.err]
@[simp] theorem State.shadow_err (p : Nat) : (s.err p).shadow = s.shadow := by
  simp [State.err]
@[simp] theorem State.hostOut_err (p : Nat) : (s.err p).hostOut = s.hostOut := by
  simp [State.err]
@[simp] theorem State.freeCtr_err (p : Nat) : (s.err p).freeCtr = s.freeCtr := by
  simp [State.err]
@[simp] theorem State.sys_err (p : Nat) : (s.err p).sys = s.sys := by
  simp [State.err]
@[simp] theorem State.fuse_err (p : Nat) : (s.err p).fuse = s.fuse := by
  simp [State.err]
@[simp] theorem State.boot_err (p : Nat) : (s.err p).boot = s.boot := by
  simp [State.err]
@[simp] theorem State.canopyT_err (p : Nat) : (s.err p).canopyT = s.canopyT := by
  simp [State.err]
@[simp] theorem State.log_err (p : Nat) : (s.err p).log = s.log := by
  simp [State.err]
@[simp] theorem State.ring_err (p : Nat) : (s.err p).ring = s.ring := by
  simp [State.err]
@[simp] theorem State.gyl_err (p : Nat) : (s.err p).gyl = s.gyl := by
  simp [State.err]
@[simp] theorem State.safe_err (p : Nat) : (s.err p).safe = s.safe := by
  simp [State.err]
@[simp] theorem State.hw_err (p : Nat) : (s.err p).hw = s.hw := by
  simp [State.err]
@[simp] theorem State.eth_err (p : Nat) : (s.err p).eth = s.eth := by
  simp [State.err]
@[simp] theorem State.chan_err (p : Nat) : (s.err p).chan = s.chan := by
  simp [State.err]
@[simp] theorem State.sar_err (p : Nat) : (s.err p).sar = s.sar := by
  simp [State.err]
@[simp] theorem State.roverQ_err (p : Nat) : (s.err p).roverQ = s.roverQ := by
  simp [State.err]
@[simp] theorem State.engs_err (p : Nat) : (s.err p).engs = s.engs := by
  simp [State.err]
@[simp] theorem State.arm_err (p : Nat) : (s.err p).arm = s.arm := by
  simp [State.err]
@[simp] theorem State.ride_err (p : Nat) : (s.err p).ride = s.ride := by
  simp [State.err]
@[simp] theorem State.isl_err (p : Nat) : (s.err p).isl = s.isl := by
  simp [State.err]
@[simp] theorem State.meter_err (p : Nat) : (s.err p).meter = s.meter := by
  simp [State.err]
@[simp] theorem State.capt_err (p : Nat) : (s.err p).capt = s.capt := by
  simp [State.err]

@[simp] theorem State.now_errHost (a : Nat) : (s.errHost a).now = s.now := by
  simp [State.errHost]
@[simp] theorem State.pending_errHost (a : Nat) : (s.errHost a).pending = s.pending := by
  simp [State.errHost]
@[simp] theorem State.staged_errHost (a : Nat) : (s.errHost a).staged = s.staged := by
  simp [State.errHost]
@[simp] theorem State.mem_errHost (a : Nat) : (s.errHost a).mem = s.mem := by
  simp [State.errHost]
@[simp] theorem State.ecc_errHost (a : Nat) : (s.errHost a).ecc = s.ecc := by
  simp [State.errHost]
@[simp] theorem State.dblTable_errHost (a : Nat) : (s.errHost a).dblTable = s.dblTable := by
  simp [State.errHost]
@[simp] theorem State.dblCapt_errHost (a : Nat) : (s.errHost a).dblCapt = s.dblCapt := by
  simp [State.errHost]
@[simp] theorem State.shadow_errHost (a : Nat) : (s.errHost a).shadow = s.shadow := by
  simp [State.errHost]
@[simp] theorem State.hostOut_errHost (a : Nat) : (s.errHost a).hostOut = s.hostOut := by
  simp [State.errHost]
@[simp] theorem State.freeCtr_errHost (a : Nat) : (s.errHost a).freeCtr = s.freeCtr := by
  simp [State.errHost]
@[simp] theorem State.sys_errHost (a : Nat) : (s.errHost a).sys = s.sys := by
  simp [State.errHost]
@[simp] theorem State.fuse_errHost (a : Nat) : (s.errHost a).fuse = s.fuse := by
  simp [State.errHost]
@[simp] theorem State.boot_errHost (a : Nat) : (s.errHost a).boot = s.boot := by
  simp [State.errHost]
@[simp] theorem State.canopyT_errHost (a : Nat) : (s.errHost a).canopyT = s.canopyT := by
  simp [State.errHost]
@[simp] theorem State.log_errHost (a : Nat) : (s.errHost a).log = s.log := by
  simp [State.errHost]
@[simp] theorem State.ring_errHost (a : Nat) : (s.errHost a).ring = s.ring := by
  simp [State.errHost]
@[simp] theorem State.gyl_errHost (a : Nat) : (s.errHost a).gyl = s.gyl := by
  simp [State.errHost]
@[simp] theorem State.safe_errHost (a : Nat) : (s.errHost a).safe = s.safe := by
  simp [State.errHost]
@[simp] theorem State.hw_errHost (a : Nat) : (s.errHost a).hw = s.hw := by
  simp [State.errHost]
@[simp] theorem State.eth_errHost (a : Nat) : (s.errHost a).eth = s.eth := by
  simp [State.errHost]
@[simp] theorem State.chan_errHost (a : Nat) : (s.errHost a).chan = s.chan := by
  simp [State.errHost]
@[simp] theorem State.sar_errHost (a : Nat) : (s.errHost a).sar = s.sar := by
  simp [State.errHost]
@[simp] theorem State.roverQ_errHost (a : Nat) : (s.errHost a).roverQ = s.roverQ := by
  simp [State.errHost]
@[simp] theorem State.engs_errHost (a : Nat) : (s.errHost a).engs = s.engs := by
  simp [State.errHost]
@[simp] theorem State.arm_errHost (a : Nat) : (s.errHost a).arm = s.arm := by
  simp [State.errHost]
@[simp] theorem State.ride_errHost (a : Nat) : (s.errHost a).ride = s.ride := by
  simp [State.errHost]
@[simp] theorem State.isl_errHost (a : Nat) : (s.errHost a).isl = s.isl := by
  simp [State.errHost]
@[simp] theorem State.meter_errHost (a : Nat) : (s.errHost a).meter = s.meter := by
  simp [State.errHost]
@[simp] theorem State.capt_errHost (a : Nat) : (s.errHost a).capt = s.capt := by
  simp [State.errHost]

@[simp] theorem State.now_submit (r : LogRec) : (s.submit r).now = s.now := by
  unfold State.submit; split <;> simp
@[simp] theorem State.pending_submit (r : LogRec) : (s.submit r).pending = s.pending := by
  unfold State.submit; split <;> simp
@[simp] theorem State.staged_submit (r : LogRec) : (s.submit r).staged = s.staged := by
  unfold State.submit; split <;> simp
@[simp] theorem State.mem_submit (r : LogRec) : (s.submit r).mem = s.mem := by
  unfold State.submit; split <;> simp
@[simp] theorem State.ecc_submit (r : LogRec) : (s.submit r).ecc = s.ecc := by
  unfold State.submit; split <;> simp
@[simp] theorem State.dblTable_submit (r : LogRec) : (s.submit r).dblTable = s.dblTable := by
  unfold State.submit; split <;> simp
@[simp] theorem State.dblCapt_submit (r : LogRec) : (s.submit r).dblCapt = s.dblCapt := by
  unfold State.submit; split <;> simp
@[simp] theorem State.shadow_submit (r : LogRec) : (s.submit r).shadow = s.shadow := by
  unfold State.submit; split <;> simp
@[simp] theorem State.hostOut_submit (r : LogRec) : (s.submit r).hostOut = s.hostOut := by
  unfold State.submit; split <;> simp
@[simp] theorem State.freeCtr_submit (r : LogRec) : (s.submit r).freeCtr = s.freeCtr := by
  unfold State.submit; split <;> simp
@[simp] theorem State.sys_submit (r : LogRec) : (s.submit r).sys = s.sys := by
  unfold State.submit; split <;> simp
@[simp] theorem State.fuse_submit (r : LogRec) : (s.submit r).fuse = s.fuse := by
  unfold State.submit; split <;> simp
@[simp] theorem State.boot_submit (r : LogRec) : (s.submit r).boot = s.boot := by
  unfold State.submit; split <;> simp
@[simp] theorem State.canopyT_submit (r : LogRec) : (s.submit r).canopyT = s.canopyT := by
  unfold State.submit; split <;> simp
@[simp] theorem State.ring_submit (r : LogRec) : (s.submit r).ring = s.ring := by
  unfold State.submit; split <;> simp
@[simp] theorem State.pod_submit (r : LogRec) : (s.submit r).pod = s.pod := by
  unfold State.submit; split <;> simp
@[simp] theorem State.gyl_submit (r : LogRec) : (s.submit r).gyl = s.gyl := by
  unfold State.submit; split <;> simp
@[simp] theorem State.safe_submit (r : LogRec) : (s.submit r).safe = s.safe := by
  unfold State.submit; split <;> simp
@[simp] theorem State.hw_submit (r : LogRec) : (s.submit r).hw = s.hw := by
  unfold State.submit; split <;> simp
@[simp] theorem State.eth_submit (r : LogRec) : (s.submit r).eth = s.eth := by
  unfold State.submit; split <;> simp
@[simp] theorem State.chan_submit (r : LogRec) : (s.submit r).chan = s.chan := by
  unfold State.submit; split <;> simp
@[simp] theorem State.sar_submit (r : LogRec) : (s.submit r).sar = s.sar := by
  unfold State.submit; split <;> simp
@[simp] theorem State.roverQ_submit (r : LogRec) : (s.submit r).roverQ = s.roverQ := by
  unfold State.submit; split <;> simp
@[simp] theorem State.engs_submit (r : LogRec) : (s.submit r).engs = s.engs := by
  unfold State.submit; split <;> simp
@[simp] theorem State.arm_submit (r : LogRec) : (s.submit r).arm = s.arm := by
  unfold State.submit; split <;> simp
@[simp] theorem State.ride_submit (r : LogRec) : (s.submit r).ride = s.ride := by
  unfold State.submit; split <;> simp
@[simp] theorem State.isl_submit (r : LogRec) : (s.submit r).isl = s.isl := by
  unfold State.submit; split <;> simp
@[simp] theorem State.meter_submit (r : LogRec) : (s.submit r).meter = s.meter := by
  unfold State.submit; split <;> simp
@[simp] theorem State.capt_submit (r : LogRec) : (s.submit r).capt = s.capt := by
  unfold State.submit; split <;> simp

@[simp] theorem State.now_elapse (dt : Nat) : (s.elapse dt).now = s.now + dt := rfl
@[simp] theorem State.get_elapse (dt : Nat) (r : Reg) : (s.elapse dt).get r = s.get r := rfl
@[simp] theorem State.geti_elapse (dt : Nat) (r : Reg) : (s.elapse dt).geti r = s.geti r := rfl
@[simp] theorem State.flag_elapse (dt : Nat) (r : Reg) : (s.elapse dt).flag r = s.flag r := rfl
@[simp] theorem State.get_note (key bits : Nat) (r : Reg) : (s.note key bits).get r = s.get r := rfl
@[simp] theorem State.get_noteW1c (q : Reg) (bits : Nat) (r : Reg) : (s.noteW1c q bits).get r = s.get r := by
  unfold State.noteW1c; split <;> rfl
@[simp] theorem State.get_modSys (f : SysSt → SysSt) (r : Reg) : (s.modSys f).get r = s.get r := rfl
@[simp] theorem State.flag_modSys (f : SysSt → SysSt) (r : Reg) : (s.modSys f).flag r = s.flag r := rfl
@[simp] theorem State.get_stage (q : Reg) (v : Nat) (r : Reg) : (s.stage q v).get r = s.get r := rfl

/-- A field that is not boot-only reads the low bits of what the device wrote. -/
theorem State.get_set_same {r : Reg} (v : Nat) (h : r.acc ≠ .bo) : (s.set r v).get r = v % 2 ^ r.width := by
  simp [State.set, State.get, h]
/-- A field under another key keeps its value. -/
theorem State.get_set_other {r q : Reg} (v : Nat) (h : q.key ≠ r.key) : (s.set r v).get q = s.get q := by
  unfold State.set State.get
  split
  · rfl
  · exact RegFile.get_set_other _ _ h
/-- A boot-only field keeps its value (R74). -/
theorem State.set_bo {r : Reg} (v : Nat) (h : r.acc = .bo) : s.set r v = s := by simp [State.set, h]
theorem State.get_setBoot_same (r : Reg) (v : Nat) : (s.setBoot r v).get r = v % 2 ^ r.width := by
  simp [State.setBoot, State.get]
theorem State.flag_eq (r : Reg) : s.flag r = decide (s.get r ≠ 0) := rfl
@[simp] theorem State.get_noteRise (p : Nat) (r : Reg) : (s.noteRise p).get r = s.get r := by
  simp [State.get]
/-- The staged value of a field just staged (R5). -/
theorem State.stagedOf_stage (r : Reg) (v : Nat) : (s.stage r v).stagedOf r = v % 2 ^ r.width := by
  simp [State.stage, State.stagedOf, RegFile.lookup_insert_same]

end Sys2Proof.Machine
end

