-- ==== Sys2Proof/WellFormed.lean ====
section
/-! DEFINITION. Well-formed commands: operands that the device can be given (R3, R83, R334, R436, R447,
R464). A command that is not well-formed stands for nothing that can happen. -/

namespace Sys2Proof

/-- A 32-bit word or address (R3). -/
def word (v : Nat) : Bool := decide (v < 2 ^ 32)
/-- A string of bytes. -/
def octets (l : List Nat) : Bool := l.all (fun b => decide (b < 256))
/-- An address of the table memory window (R82). -/
def tableAddr (a : Nat) : Bool := decide (0x01000000 ≤ a) && decide (a < 0x01180000)

/-- The operands of a command are ones it can have. -/
def WellFormed : Instr → Bool
  | .registerWrite _ addr w =>
    word addr && word w
  | .snLowRead _ _ _ _ => true
  | .snHighRead _ _ _ _ => true
  | .commitGo _ _ => true
  | .commitDiscard _ _ => true
  | .commitApply _ _ => true
  | .updateLockClear _ _ => true
  | .errCountClear _ _ => true
  | .dlCountClear _ _ _ => true
  | .irqStatClear _ _ _ => true
  | .counterClear _ _ => true
  | .deadlineMiss _ _ _ => true
  | .streamXingOverflow _ _ _ => true
  | .burlClockWindow _ _ => true
  | .burlRcMeasure _ _ => true
  | .scrubWord _ addr _ =>
    decide (0x01000000 ≤ addr) && decide (addr < 0x01180000) && decide (addr % 8 = 0)
  | .aonCoarseLoad _ => true
  | .railGood _ _ => true
  | .brownOutReset _ _ => true
  | .powerOnReset _ => true
  | .xtalGood _ => true
  | .xtalLoss _ => true
  | .xtalLossReset _ => true
  | .pinReset _ => true
  | .pinResetRelease _ => true
  | .testReset _ => true
  | .testResetRelease _ => true
  | .watchdogExpiry _ => true
  | .watchdogReset _ => true
  | .resetRelease _ => true
  | .pllLock _ _ => true
  | .pllLoss _ _ => true
  | .bootProtectionImage _ bytes _ =>
    octets bytes
  | .bootTableImage _ bytes =>
    octets bytes
  | .bootLock _ => true
  | .tamperEvent _ _ _ => true
  | .debugAccess _ _ _ addr w =>
    word addr && word w
  | .tableWindowWrite _ addr w _ =>
    tableAddr addr && decide (addr % 4 = 0) && word w
  | .tablePairWrite _ addr w0 w1 =>
    tableAddr addr && decide (addr % 8 = 0) && word w0 && word w1
  | .sdClkWrite _ _ _ w =>
    word w
  | .cmpCfgWrite _ _ _ _ _ w =>
    word w
  | .triggerEvent _ _ _ _ _ => true
  | .trigNow _ _ => true
  | .canopyTimerFire _ _ => true
  | .sampleCentre _ _ _ => true
  | .inputLoss _ _ _ _ => true
  | .inputLossEnd _ _ _ _ => true
  | .inputFreeze _ _ _ _ => true
  | .comparatorAssert _ _ _ _ => true
  | .comparatorRelease _ _ _ _ => true
  | .sarTriggerFire _ _ => true
  | .sarConversionDone _ _ _ => true
  | .plausMissing _ _ => true
  | .sarPassEnd _ _ => true
  | .calRequest _ _ => true
  | .calPeriodic _ _ => true
  | .calDone _ _ => true
  | .roverTimeout _ _ => true
  | .carrierZero _ _ => true
  | .carrierPeak _ _ => true
  | .idealEdge _ _ _ => true
  | .scheduledSwitchOff _ _ _ _ => true
  | .scheduledSwitchOn _ _ _ _ => true
  | .bootstrapRefresh _ _ _ => true
  | .refreshEnd _ _ _ => true
  | .shootThrough _ _ _ => true
  | .pwmDisable _ _ => true
  | .pwmEnable _ _ => true
  | .faultSourceActive _ _ _ => true
  | .groupWaitExpiry _ _ _ => true
  | .groupRelease _ _ _ => true
  | .groupWindowClose _ _ _ => true
  | .latchClear _ _ _ => true
  | .scQualify _ _ _ => true
  | .scStuck _ _ _ => true
  | .rdyNotReady _ _ _ => true
  | .rdyBlankEnd _ _ => true
  | .tripInput _ _ => true
  | .bypFbChange _ _ _ => true
  | .bypOpenCheckExpiry _ _ => true
  | .bypCloseCheckExpiry _ _ => true
  | .kernelCompareWrite _ _ => true
  | .kernelPredictionDone _ _ => true
  | .scheduleValidationDone _ _ => true
  | .kernelEnable _ _ => true
  | .kernelDisable _ _ => true
  | .kernelTestStart _ _ => true
  | .kernelTestDone _ _ _ => true
  | .ge0SetDelivery _ _ => true
  | .cellJoin _ _ => true
  | .dcLinkQualify _ _ => true
  | .joinKernelTimeout _ _ => true
  | .cellLeave _ _ => true
  | .dcLinkLow _ _ => true
  | .epochUpdatePoint _ _ => true
  | .curtOn _ _ => true
  | .curtOff _ _ => true
  | .shellDue _ _ => true
  | .shellNow _ _ => true
  | .shellBlockEnd _ _ => true
  | .shellTimeout _ _ => true
  | .shellCloseTimeout _ _ => true
  | .poPeriodEnd _ _ => true
  | .scanDue _ _ => true
  | .scanNow _ _ => true
  | .scanDwellEnd _ _ => true
  | .gridCycle _ => true
  | .gridPllLock _ _ => true
  | .gridPllUnlock _ _ => true
  | .gridPllUnfreeze _ _ => true
  | .armFrameReceived _ => true
  | .cellReportReceived _ => true
  | .masterResign _ => true
  | .resignRecovery _ => true
  | .xchkFail _ _ => true
  | .modeRampEnd _ => true
  | .excursionEnd _ _ => true
  | .sourceStaleTrip _ => true
  | .recoveryRampEnd _ => true
  | .rtsWindowHeld _ => true
  | .tripClear _ => true
  | .tripNow _ => true
  | .islandIndication _ _ => true
  | .voteWindowExpiry _ _ => true
  | .islandClear _ => true
  | .activeEpochBoundary _ => true
  | .actSuspend _ => true
  | .rtBlockEnd _ => true
  | .transferTripFrame _ => true
  | .meterCycleEnd _ => true
  | .pulseStart _ _ => true
  | .pulseEnd _ _ => true
  | .connectionCheck _ _ => true
  | .periodicSave _ => true
  | .saveVerify _ readback =>
    octets readback
  | .heartbeatSave _ => true
  | .pfwFall _ => true
  | .finalSaveDone _ => true
  | .pfwResume _ => true
  | .meterRestore _ content =>
    octets content
  | .saveAdopt _ => true
  | .energyBroadcast _ => true
  | .portAligned _ _ => true
  | .portAlignLoss _ _ => true
  | .portRelock _ _ => true
  | .portDown _ _ => true
  | .wrapEnd _ _ => true
  | .helloSend _ _ => true
  | .helloReceived _ _ => true
  | .noverRetry _ _ => true
  | .frameReceive _ _ bytes _ =>
    octets bytes
  | .delayRequest _ _ => true
  | .delayMarkerReceived _ _ _ _ _ => true
  | .insertion _ => true
  | .beaconSend _ => true
  | .beaconDecide _ => true
  | .becomeSource _ => true
  | .canopySet _ => true
  | .remoteAccessGo _ _ _ => true
  | .remoteRequest _ => true
  | .remoteResponse _ => true
  | .remoteTimeout _ => true
  | .queueEnable _ _ _ _ _ _ _ => true
  | .queueDisable _ _ => true
  | .qdataPop _ _ => true
  | .qdataPush _ _ w =>
    word w
  | .podPacketSent _ _ => true
  | .parityCheckDone _ _ _ => true
  | .packetTimeout _ _ => true
  | .queueFlush _ mask =>
    word mask
  | .noticeSend _ _ => true
  | .noticeHoldExpiry _ _ => true
  | .safetyInputChange _ _ _ _ _ => true
  | .discrepancyFault _ _ _ => true
  | .stopDelayEnd _ _ _ => true
  | .channelDivergence _ _ => true
  | .curtainPulseMissing _ _ _ => true
  | .twohandLate _ _ _ => true
  | .resetPulse _ _ => true
  | .outputReadbackFault _ _ _ _ => true
  | .testPulseStart _ _ => true
  | .testPulseEnd _ _ _ => true
  | .testPulseBStart _ _ => true
  | .gylenFrameReceived _ => true
  | .gylenWatchdogExpiry _ _ => true
  | .gylenProduce _ _ => true
  | .gylenHostLoad _ _ _ => true
  | .captureArm _ _ => true
  | .captureStop _ _ => true
  | .captureTrigNow _ _ => true
  | .captureSet _ _ => true
  | .logRecordSubmit _ _ _ _ data _ =>
    octets data && decide (data.length ≤ 17)
  | .logRecordWrite _ => true
  | .logUnfreeze _ => true
  | .qspiRead _ _ _ _ addr _ =>
    word addr && decide (addr % 4 = 0)
  | .qspiWrite _ _ _ addr words _ =>
    word addr && decide (addr % 4 = 0) && words.all word && decide (0 < words.length)
      && decide (words.length ≤ 32)
  | .qspiAbort _ _ _ _ addr words _ =>
    word addr && decide (addr % 4 = 0) && words.all word && decide (words.length ≤ 32)
  | .mailboxGo _ _ _ => true
  | .identity _ => true
  | .imageStatus _ => true
  | .logRead _ => true
  | .keyProvision _ => true
  | .unknownService _ => true
  | .fuseProgramDone _ back =>
    decide (back < 2 ^ 256)
  | .heartwoodFrame _ => true
  | .gylenSlice _ => true
  | .housekeepingSlice _ => true
  | .mailboxSlice _ => true
  | .mdioCommand _ _ _ _ _ => true
  | .mdioDone _ _ => true
  | .tunnelFrameReceived _ bytes =>
    octets bytes
  | .ptpSync _ domain sender origin _ =>
    decide (domain < 256) && decide (sender < 2 ^ 80) && decide (origin < 2 ^ 80)
  | .ptpAnnounce _ domain prio1 cls acc var prio2 gm steps sender =>
    decide (domain < 256) && decide (prio1 < 256) && decide (cls < 256) && decide (acc < 256)
      && decide (var < 65536) && decide (prio2 < 256) && decide (gm < 2 ^ 64) && decide (steps < 65536)
      && decide (sender < 2 ^ 80)
  | .ptpPdelayReq _ _ port =>
    decide (port < 2 ^ 80)
  | .ptpPdelaySend _ => true
  | .ptpLoss _ => true
  | .saveHostRead _ _ => true
  | .saveHostReadDone _ flash =>
    octets flash && decide (flash.length ≤ 64)
  | .faultSourceInactive _ _ _ => true
  | .frameSent _ _ => true
  | .ownTc2Release _ => true
  | .pfwRise _ => true
  | .srstInRise _ => true
  | .ethLinkChange _ _ => true
  | .ptpPdelayResp _ _ _ _ _ => true

end Sys2Proof
end

