-- ==== Sys2Proof/Tests/Slice0.lean ====
section
/-! SUPPORT. The model's own tests: ill-formed commands refused, small runs of one command, and, for every
statement with hypotheses, a state and operands that meet them. -/

namespace Sys2Proof.Tests

-- One theorem after another: each is evaluated by the kernel, and many at once take a thread each.
set_option Elab.async false

open Sys2Proof.Machine

/-! ### States -/

/-- Register fields set in turn. -/
def put (s : State) (l : List (Reg × Nat)) : State := l.foldl (fun t e => t.setBoot e.1 e.2) s

/-- A locked device whose islands all run. -/
def wRun : State :=
  put { State.reset with
    boot := .done
    sys := { pllCell := List.replicate 8 .locked, pllGrid := .locked, pllSar := .locked, pllVod := .locked,
             pllHost := .locked, pllHw := .locked } }
    [(R.BOOT_BOOT_STAT_LOCKED, 1)]

/-- The same with register fields set. -/
def wPut (l : List (Reg × Nat)) : State := put wRun l

/-- A PWM of channel 2 that runs, with every line of Burl on and the high switch of leg 1 on. -/
def wGates (l : List (Reg × Nat)) : State :=
  { wPut ((R.PWM_STATUS_RUN 2, 1) :: l) with
    safe := { lines := 255 }
    chan := wRun.chan.set 2 { pwm := { legs := List.replicate 4 { h := { st := .on } } } } }

/-- A device held in reset. -/
def wHeld : State := { State.reset with sys := { inReset := true }, boot := .held }

/-- A request to write one table word of this node. -/
def wReq : Delivery :=
  ⟨2, 0, 0, 0, 0, [0x10, 0x0D, 1, 1, 0, 0, 0, 0, 4, 0, 0x12, 1, 7, 0, 0, 0], 0⟩

/-- One copy of a beacon, as received. -/
def wCopy : BeaconCopy :=
  { port := 0, cls := 2, prio := 3, node := 9, dist := 1, origin := 1000000, corr := 0, flags := 0, bseq := 5,
    stamp := 0, delay := 100, dlyOk := true, at_ := 0 }

/-- The bytes of a hello frame of node 7. -/
def wHelloBytes : List Nat :=
  [7, 0, 5, 0, 9, 0, 255, 63, 20, 0, 2, 0, 87, 157, 2, 13, 7, 0, 9, 0,
   1, 1, 1, 1, 1, 1, 1, 1, 1, 1, 1, 1, 1, 1, 124, 162, 68, 217]

/-- A frame of two bytes. -/
def wFrame : Frame := ⟨2, 0, true, false, 0, 0x3000, 9, 16383, 2, [1, 2], true, 32⟩

/-- A response to remote access 0. -/
def wAns : Delivery := ⟨2, 0, 0, 0, 0, [0x11, 0x0D, 0, 0, 0, 0, 0, 0, 0, 0, 0, 0], 0⟩

/-- A cyclic frame of connection 5 of node 4. -/
def wGyl : Delivery := ⟨0, 4, 0, 0, 0, [1, 15, 1, 2, 5, 0, 0, 0, 3, 0, 0, 0, 1, 2, 202, 98, 48, 124], 0⟩

/-- A notice whose hold time runs. -/
def wHold : NoticeSt := { page := 0x18, holdEnd := 0, merged := 0, first := 0 }

/-- A tunnelled frame of node 7 for node 5. -/
def wTunnel : List Nat :=
  List.replicate 12 0 ++ [0x88, 0xB5, 1, 0] ++
    [3, 0, 5, 0, 7, 0, 255, 63, 4, 0, 2, 0, 53, 21, 1, 12, 7, 0, 181, 199, 221, 132]

/-- A hello of node 9, as delivered. -/
def wHello : Delivery := ⟨1, 9, 2, 0, 1, [2, 13, 7, 0, 9, 0, 1, 1, 1, 1, 1, 1, 1, 1, 1, 1, 1, 1, 1, 1], 0⟩

/-- A log record. -/
def wRec : LogRec := ⟨9, false, 0x30, 0, 0x0101, [1, 2, 3], 0⟩

/-- Kernel memory of channel 2 with one usable bank. -/
def wSched : Memory := Memory.putBytes [] (bankBase 2 0 + 4) [255, 255]

/-- A cell that may join: time locked, assignment and tables valid, a curve of two points. -/
def wCell : State :=
  put { wRun with mem := (Memory.putBytes [] (cellArea 2) [1, 0, 1, 0]).putBytes (cellArea 2 + 0x20) [9] }
    [(R.CANOPY_STATUS_EVER_LOCKED, 1), (R.ARM_CH_ASSIGN_VALID 2, 1), (R.BOOT_TBL_VALID_KE, 255),
     (R.BOOT_TBL_VALID_CELL, 255), (R.BOOT_PERMIT_PV, 1), (R.BOOT_PERMIT_STORE_CHG, 1), (R.CELL_DC_CAP_UF 2, 5), (R.GUARD_LEG_USE_USE 2, 0)]

/-- A hand-over in progress. -/
def wRamp : ModeRamp := { at_ := 0, p := 0, q := 0, onP := true, onQ := true }

/-- An arm frame of arm 3 with the epoch `e`, as delivered and as read. -/
def wArm (e : Nat) : Delivery :=
  ⟨0, 9, 0, 0, 0, [1, 10, 3, 0, 0, 0, 0, 0, e] ++ List.replicate 71 0, 0⟩
/-- What the frame says. -/
def wArmF (e : Nat) : ArmFrame := ((parseArm (wArm e).payload 9).getD
  ⟨0, 0, 0, 0, 0, 0, 0, 0, 0, 0, 0, 0, 0, 0, 0, 0, 0, 0, 0, 0, 0, 0, 0, [], 9⟩)

/-- A report of one cell of arm 3. -/
def wRep : Delivery := ⟨0, 9, 0, 0, 0, [2, 10, 3, 1] ++ List.replicate 28 0, 0⟩


/-- 2π is not 0. -/
theorem turn_ne : turn ≠ 0 := by
  have h : (0 : Rat) ≤ unit Config.twoPiPart := by
    unfold unit; split
    · exact le_refl _
    · split
      · exact zero_le_one
      · exact not_lt.mp ‹_›
  have h2 : (0 : Rat) < (twoPiFix : Rat) := by norm_num [twoPiFix]
  exact (div_pos (by linarith) (by positivity)).ne'

/-- The floor of 0. -/
theorem floor_zero : Rat.floor 0 = 0 := by decide
/-- States and operands that meet the hypotheses of `AnIdleStepChangesNothing`. -/
theorem witness_AnIdleStepChangesNothing :
    (∃ s : State, s.pending = []) :=
  ⟨wRun, by decide⟩

/-- States and operands that meet the hypotheses of `EveryCommandKeepsTheQueue`. -/
theorem witness_EveryCommandKeepsTheQueue :
    (∃ (c : Instr) (s t : State), exec c s = .next t) :=
  ⟨.pinResetRelease 0, wHeld, _, rfl⟩

/-- States and operands that meet the hypotheses of `EveryStepKeepsTheCanonicalForms`. -/
theorem witness_EveryStepKeepsTheCanonicalForms :
    (∃ s t : State, s.canonical ∧ step s = .next t) :=
  ⟨{ wRun with pending := [.pinResetRelease 0] }, _, by decide, rfl⟩

/-- States and operands that meet the hypotheses of `EveryStepKeepsTheShape`. -/
theorem witness_EveryStepKeepsTheShape :
    (∃ s t : State, s.shape ∧ step s = .next t) :=
  ⟨{ wRun with pending := [.pinResetRelease 0] }, _, by decide, rfl⟩

/-- States and operands that meet the hypotheses of `ClockWatchCommands`. -/
theorem witness_ClockWatchCommands :
    (∃ (s : State), s.sys.inReset = false)
    ∧ (∃ (s : State), s.hwRuns = true)
    ∧ (∃ (s : State) (addr : Nat) (flips : Fin 3), s.sys.inReset = false ∧ addr % 8 = 0 ∧ inRegion tableBase tableSize addr = true ∧ s.badBits addr + flips.val = 1)
    ∧ (∃ (s : State) (addr : Nat) (flips : Fin 3), s.sys.inReset = false ∧ addr % 8 = 0 ∧ inRegion tableBase tableSize addr = true ∧ 2 ≤ s.badBits addr + flips.val) :=
  ⟨⟨wRun, by decide +kernel⟩,
   ⟨wRun, by decide +kernel⟩,
   ⟨wRun, (0x01000008), (1), by decide +kernel⟩,
   ⟨wRun, (0x01000008), (2), by decide +kernel⟩⟩

/-- States and operands that meet the hypotheses of `PllCommands`. -/
theorem witness_PllCommands :
    (∃ (s : State) (i : Fin 13), s.sys.inReset = false ∧ s.sys.xtalGood = true ∧ (s.sys.pll i.val = .starting ∨ (s.sys.pll i.val = .lost ∧ i.val < 8)))
    ∧ (∃ (s : State) (i : Fin 13), s.sys.inReset = false ∧ s.sys.pll i.val = .locked)
    ∧ (∃ (s : State) (i : Fin 13), s.sys.inReset = false ∧ s.sys.pll i.val = .lost)
    ∧ (∃ (s : State), s.sys.inReset = false) :=
  ⟨⟨{ wRun with sys := { wRun.sys with pllSar := .starting } }, (9), by decide +kernel⟩,
   ⟨wRun, (3), by decide +kernel⟩,
   ⟨{ wRun with sys := { wRun.sys with pllCell := List.replicate 8 .lost } }, (3), by decide +kernel⟩,
   ⟨wRun, by decide +kernel⟩⟩

/-- States and operands that meet the hypotheses of `RailAndCrystalCommands`. -/
theorem witness_RailAndCrystalCommands :
    (∃ (s : State) (dt : Nat) (r : Fin 6), s.rails.testBit r.val = false ∧ (r.val = 2 ∨ s.rails.testBit 2 = true) ∧ (s.elapse dt).railRan r.val = true)
    ∧ (∃ (s : State) (dt : Nat) (r : Fin 5), s.rails.testBit 2 = true ∧ s.rails.testBit (borRail r.val) = true ∧ (s.elapse dt).railRan (borRail r.val) = true)
    ∧ (∃ (s : State) (dt : Nat), (s.rails.testBit 2 = false ∨ (s.elapse dt).railRan 2 = true))
    ∧ (∃ (s : State), s.rails.testBit 2 = true)
    ∧ (∃ (s : State), s.sys.xtalGood = true ∧ s.sys.inReset = false)
    ∧ (∃ (s : State) (dt : Nat) (t0 : Nat), s.sys.xtalStopAt = some t0 ∧ t0 + ms 1 ≤ s.now + dt) :=
  ⟨⟨wPut [(R.RSTPWR_PWR_STAT_RAIL_GOOD, 4)], (ms 11), (0), by decide +kernel⟩,
   ⟨wPut [(R.RSTPWR_PWR_STAT_RAIL_GOOD, 63)], (0), (3), by decide +kernel⟩,
   ⟨wRun, (5), by decide +kernel⟩,
   ⟨wPut [(R.RSTPWR_PWR_STAT_RAIL_GOOD, 63)], by decide +kernel⟩,
   ⟨wRun, by decide +kernel⟩,
   ⟨{ wRun with sys := { wRun.sys with xtalStopAt := some 0 } }, (ms 1), (0), by decide +kernel⟩⟩

/-- States and operands that meet the hypotheses of `ResetCommands`. -/
theorem witness_ResetCommands :
    (∃ (s : State) (dt : Nat), s.sys.causes.pin = false ∧ (s.elapse dt).filterRan s.sys.pinAt (us 9) = true)
    ∧ (∃ (s : State) (dt : Nat), s.sys.causes.pin = true ∧ (s.elapse dt).filterRan s.sys.pinAt (us 9) = true)
    ∧ (∃ (s : State) (dt : Nat), s.sys.causes.test = false ∧ (s.elapse dt).filterRan s.sys.testAt (us 9) = true)
    ∧ (∃ (s : State) (dt : Nat), s.sys.causes.test = true ∧ (s.elapse dt).filterRan s.sys.testAt (us 9) = true)
    ∧ (∃ (s : State) (dt : Nat), (s.boot = .ready ∨ s.boot = .done) ∧ s.sys.wdogExpired = none ∧ s.sys.wdogServed + burlTime (ms (s.get R.RSTPWR_WDOG_CFG_TIMEOUT_MS)) ≤ s.now + dt)
    ∧ (∃ (s : State) (dt : Nat) (t0 : Nat), s.sys.wdogExpired = some t0 ∧ t0 + burlTime (ms 1) ≤ s.now + dt)
    ∧ (∃ (s : State) (dt : Nat), s.sys.inReset = true ∧ (s.elapse dt).mayRelease = true) :=
  ⟨⟨wRun, (0), by decide +kernel⟩,
   ⟨{ wHeld with sys := { wHeld.sys with causes := { pin := true }, pinAt := some 0 } }, (us 9), by decide +kernel⟩,
   ⟨wRun, (0), by decide +kernel⟩,
   ⟨{ wHeld with sys := { wHeld.sys with causes := { test := true }, testAt := some 0 } }, (us 9), by decide +kernel⟩,
   ⟨wRun, (ms 100000), by decide +kernel⟩,
   ⟨{ wRun with sys := { wRun.sys with wdogExpired := some 0 } }, (ms 1), (0), by decide +kernel⟩,
   ⟨put wHeld [(R.RSTPWR_PWR_STAT_RAIL_GOOD, 63)], (secs 10), by decide +kernel⟩⟩

/-- States and operands that meet the hypotheses of `BootCommands`. -/
theorem witness_BootCommands :
    (∃ (s : State), s.hwRuns = true ∧ s.boot = .started)
    ∧ (∃ (s : State), s.hwRuns = true ∧ s.boot = .tables)
    ∧ (∃ (s : State), s.hwRuns = true ∧ s.boot = .ready ∧ s.locked = false)
    ∧ (∃ (s : State) (n : Fin 2) (level : Bool), s.rails.testBit 2 = true ∧ s.flag (R.BOOT_TAMPER_STAT_LEVEL n) ≠ level) :=
  ⟨⟨{ wRun with boot := .started }, by decide +kernel⟩,
   ⟨{ wRun with boot := .tables }, by decide +kernel⟩,
   ⟨{ wPut [(R.BOOT_BOOT_STAT_LOCKED, 0)] with boot := .ready }, by decide +kernel⟩,
   ⟨wPut [(R.RSTPWR_PWR_STAT_RAIL_GOOD, 63)], (1), (true), by decide +kernel⟩⟩

/-- States and operands that meet the hypotheses of `PageHeaderCommands`. -/
theorem witness_PageHeaderCommands :
    (∃ (s : State) (page : Fin 256), s.hostOpen page.val = true ∧ hasSH page.val = true ∧ (page.val < 8 ∨ 12 < page.val))
    ∧ (∃ (s : State) (page : Fin 256), s.hostOpen page.val = true ∧ hasSH page.val = true)
    ∧ (∃ (s : State) (dt : Nat) (page : Fin 256), 0x28 ≤ page.val ∧ page.val ≤ 0x2F ∧ ((s.elapse dt).undrop page.val).commitWaits page.val = true ∧ ((s.elapse dt).undrop page.val).commitFresh page.val 2 = false ∧ s.pageRuns page.val = true ∧ s.keState (page.val - 0x28) = kOff ∧ ((s.elapse dt).undrop page.val).keCommitOk (page.val - 0x28) = true)
    ∧ (∃ (s : State) (page : Fin 256), s.hostOpen page.val = true ∧ hasSH page.val = true)
    ∧ (∃ (s : State) (page : Fin 256), s.hostOpen page.val = true)
    ∧ (∃ (s : State) (page : Fin 256) (ofs : Fin 4096) (d : DlPair), s.hostOpen page.val = true ∧ dlPair page.val (ofs.val - 4) = some d)
    ∧ (∃ (s : State) (page : Fin 256), s.hostOpen page.val = true)
    ∧ (∃ (s : State) (page : Fin 256), s.hostOpen page.val = true ∧ cntClrOfs page.val ≠ 0) :=
  ⟨⟨wRun, (0x10), by decide +kernel⟩,
   ⟨wRun, (0x28), by decide +kernel⟩,
   ⟨{ wPut [(H.COMMIT_GO 0x29, 1)] with staged := [((R.KE_NORM_MIN_MIN 1).key, 1)] }, (0), (0x29), by decide +kernel⟩,
   ⟨wRun, (0x28), by decide +kernel⟩,
   ⟨wRun, (0), by decide +kernel⟩,
   ⟨wRun, (0x71), (0x0D4), (⟨pgMbox, 0x0D0, R.MBOX_DL_LIMIT_SAFETY_LIMIT, R.MBOX_DL_LIMIT_SAFETY_MISS_MAX, R.MBOX_DL_COUNT_SAFETY_TOTAL, R.MBOX_DL_COUNT_SAFETY_RUN⟩), by decide +kernel⟩,
   ⟨wPut [(H.IRQ_RAW 0x18, 5), (H.IRQ_EN 0x18, 6)], (0x18), by decide +kernel⟩,
   ⟨wRun, (0x18), by decide +kernel⟩⟩

/-- States and operands that meet the hypotheses of `SnapshotPairReads`. -/
theorem witness_SnapshotPairReads :
    (∃ (s : State) (port : Fin 2) (page : Fin 256) (ofs : Fin 4096) (r : Reg), (if port.val = 0 then s.hostRuns else !s.sys.inReset && s.locked && s.flag R.BOOT_DEBUG_CFG_LEVEL) = true ∧ snAt page.val ofs.val = some r ∧ r.ofs = ofs.val ∧ s.pageRuns page.val = true)
    ∧ (∃ (s : State) (port : Fin 2) (page : Fin 256) (ofs : Fin 4096) (r : Reg) (v : Nat), (if port.val = 0 then s.hostRuns else !s.sys.inReset && s.locked && s.flag R.BOOT_DEBUG_CFG_LEVEL) = true ∧ snAt page.val ofs.val = some r ∧ r.ofs + 4 = ofs.val ∧ s.pageRuns page.val = true ∧ s.shadowOf port.val r = some v)
    ∧ (∃ (s : State) (port : Fin 2) (page : Fin 256) (ofs : Fin 4096) (r : Reg), (if port.val = 0 then s.hostRuns else !s.sys.inReset && s.locked && s.flag R.BOOT_DEBUG_CFG_LEVEL) = true ∧ snAt page.val ofs.val = some r ∧ r.ofs + 4 = ofs.val ∧ s.pageRuns page.val = true ∧ s.shadowOf port.val r = none) :=
  ⟨⟨wRun, (0), (3), (0x040), (R.CANOPY_NOW_NS), by decide +kernel⟩,
   ⟨{ wRun with shadow := [(0, 3 * 4096 + 0x040, 9)] }, (0), (3), (0x044), (R.CANOPY_NOW_NS), (9), by decide +kernel⟩,
   ⟨wRun, (0), (3), (0x044), (R.CANOPY_NOW_NS), by decide +kernel⟩⟩

/-- States and operands that meet the hypotheses of `TableMemoryWrites`. -/
theorem witness_TableMemoryWrites :
    (∃ (s : State) (addr : Nat) (flips : Fin 3), s.hostRuns = true ∧ inRegion tableBase tableSize (addr / 4 * 4) = true ∧ s.tableShut (addr / 4 * 4) = none ∧ s.badBits (addr / 4 * 4) + flips.val ≤ 1)
    ∧ (∃ (s : State) (addr : Nat) (flips : Fin 3), s.hostRuns = true ∧ inRegion tableBase tableSize (addr / 4 * 4) = true ∧ s.tableShut (addr / 4 * 4) = none ∧ 2 ≤ s.badBits (addr / 4 * 4) + flips.val)
    ∧ (∃ (s : State) (addr : Nat), s.hostRuns = true ∧ inRegion tableBase tableSize (addr / 4 * 4) = true ∧ s.tableShut (addr / 4 * 4) ≠ none)
    ∧ (∃ (s : State) (addr : Nat), s.hostRuns = true ∧ inRegion tableBase tableSize (addr / 8 * 8) = true ∧ s.tableShut (addr / 8 * 8) = none)
    ∧ (∃ (s : State) (addr : Nat), s.hostRuns = true ∧ inRegion tableBase tableSize (addr / 4 * 4) = true ∧ s.tableShut (addr / 4 * 4) = none ∧ s.badBits (addr / 4 * 4) = 0) :=
  ⟨⟨wRun, (0x01120004), (1), by decide +kernel⟩,
   ⟨wRun, (0x01120004), (2), by decide +kernel⟩,
   ⟨wRun, (0x01160004), by decide +kernel⟩,
   ⟨wRun, (0x01120004), by decide +kernel⟩,
   ⟨wRun, (0x01120004), by decide +kernel⟩⟩

/-- States and operands that meet the hypotheses of `RegisterWritesByAccessCode`. -/
theorem witness_RegisterWritesByAccessCode :
    (∃ (s : State) (w : Nat) (ofs : Nat) (q : Reg), s.hostOpen pgCanopy = true ∧ 0x040 ≤ ofs ∧ ofs < 4096 ∧ ofs % 4 = 0 ∧ ofs ≠ cntClrOfs pgCanopy ∧ ofs ≠ 0x064 ∧ s.refuses pgCanopy ofs (w % 2 ^ 32) = false ∧ q ∈ pageFields pgCanopy ∧ q.acc = .rw ∧ q.ofs = ofs)
    ∧ (∃ (s : State) (w : Nat) (ofs : Nat), s.hostOpen pgCanopy = true ∧ 0x040 ≤ ofs ∧ ofs < 4096 ∧ ofs % 4 = 0 ∧ ofs ≠ cntClrOfs pgCanopy ∧ ofs ≠ 0x064 ∧ s.refuses pgCanopy ofs (w % 2 ^ 32) = true) :=
  ⟨⟨wRun, (0x03E80D81), (0x058), (R.CANOPY_SERVO_KP), by decide +kernel⟩,
   ⟨wRun, (0), (0x058), by decide +kernel⟩⟩

/-- States and operands that meet the hypotheses of `HostTransactions`. -/
theorem witness_HostTransactions :
    (∃ (s : State) (crc : Bool), s.hostRuns = true ∧ s.spiRefuses crc = false)
    ∧ (∃ (s : State) (crc : Bool), s.hostRuns = true ∧ s.spiRefuses crc = true)
    ∧ (∃ (s : State) (fixed : Bool) (crc : Bool) (addr : Nat) (w : Nat) (sum : Fin 65536), s.hostRuns = true ∧ s.spiRefuses crc = false ∧ (crc = true → spiCrc true fixed crc addr [w] 1 = sum.val) ∧ addr < 2 ^ 32 ∧ addr % 4 = 0 ∧ inRegion tableBase tableSize addr = true ∧ s.tableShut addr = none ∧ s.badBits addr = 0)
    ∧ (∃ (s : State) (fixed : Bool) (addr : Nat) (words : List Nat) (sum : Fin 65536), s.hostRuns = true ∧ words ≠ [] ∧ words.length ≤ 32 ∧ spiCrc true fixed true (addr % 2 ^ 32) words words.length ≠ sum.val)
    ∧ (∃ (s : State), s.hostRuns = true)
    ∧ (∃ (s : State) (addr : Nat), s.hostRuns = true ∧ s.spiRefuses false = false ∧ addr < 2 ^ 32 ∧ addr % 4 = 0 ∧ inRegion tableBase tableSize addr = true ∧ s.tableShut addr = none ∧ s.badBits addr = 0)
    ∧ (∃ (s : State) (addr : Nat), s.sys.inReset = false ∧ s.locked = true ∧ s.get R.BOOT_DEBUG_CFG_LEVEL ≠ 0 ∧ addr % 4 = 0 ∧ inRegion tableBase tableSize addr = true ∧ s.badBits addr = 0)
    ∧ (∃ (s : State) (addr : Nat), s.sys.inReset = false ∧ s.locked = true ∧ s.get R.BOOT_DEBUG_CFG_LEVEL = 2 ∧ addr % 4 = 0 ∧ inRegion tableBase tableSize addr = true ∧ s.tableShut addr = none ∧ s.badBits addr = 0)
    ∧ (∃ (s : State), s.sys.inReset = false ∧ s.locked = true ∧ s.get R.BOOT_DEBUG_CFG_LEVEL ≠ 0)
    ∧ (∃ (s : State), s.sys.inReset = false ∧ s.locked = true ∧ s.get R.BOOT_DEBUG_CFG_LEVEL = 2)
    ∧ (∃ (s : State), s.sys.inReset = false ∧ s.locked = true ∧ s.get R.BOOT_DEBUG_CFG_LEVEL = 2)
    ∧ (∃ (s : State) (write : Bool) (sram : Bool), (s.sys.inReset = true ∨ s.locked = false ∨ s.get R.BOOT_DEBUG_CFG_LEVEL = 0 ∨ (s.get R.BOOT_DEBUG_CFG_LEVEL = 1 ∧ (write = true ∨ sram = true)))) :=
  ⟨⟨wRun, (true), by decide +kernel⟩,
   ⟨wPut [(R.HOST_SPI_CFG_CRC_REQ, 1)], (false), by decide +kernel⟩,
   ⟨wRun, (false), (false), (0x01120004), (7), (0), by decide +kernel⟩,
   ⟨wRun, (false), (0x01120004), ([7]), (1), by decide +kernel⟩,
   ⟨wRun, by decide +kernel⟩,
   ⟨wRun, (0x01120004), by decide +kernel⟩,
   ⟨wPut [(R.BOOT_DEBUG_CFG_LEVEL, 1)], (0x01120004), by decide +kernel⟩,
   ⟨wPut [(R.BOOT_DEBUG_CFG_LEVEL, 2)], (0x01120004), by decide +kernel⟩,
   ⟨wPut [(R.BOOT_DEBUG_CFG_LEVEL, 1)], by decide +kernel⟩,
   ⟨wPut [(R.BOOT_DEBUG_CFG_LEVEL, 2)], by decide +kernel⟩,
   ⟨wPut [(R.BOOT_DEBUG_CFG_LEVEL, 2)], by decide +kernel⟩,
   ⟨wPut [(R.BOOT_DEBUG_CFG_LEVEL, 1)], (true), (false), by decide +kernel⟩⟩

/-- States and operands that meet the hypotheses of `RemoteAccessCommands`. -/
theorem witness_RemoteAccessCommands :
    (∃ (s : State), s.hostOpen pgVodor = true ∧ s.flag R.VODOR_RA_STAT_BUSY = false ∧ s.get R.VODOR_RA_NODE_NODE ≠ s.addr)
    ∧ (∃ (s : State) (d : Delivery), s.ringRuns = true ∧ s.ring.inbox.find? (fun e => decide (e.kind = 2) && decide (e.ptype = 0x0D10)) = some d ∧ s.remoteCode d = none ∧ (d.payload.getD 2 0).testBit 0 = true ∧ d.payload.getD 3 0 = 1 ∧ inRegion tableBase tableSize (leAt d.payload 8 4) = true ∧ s.tableShut (leAt d.payload 8 4) = none ∧ s.badBits (leAt d.payload 8 4) = 0) :=
  ⟨⟨wPut [(R.VODOR_RA_NODE_NODE, 5)], by decide +kernel⟩,
   ⟨{ wPut [(R.VODOR_RA_CFG_WRITE_EN, 1), (R.VODOR_STATUS_REPEATER, 0)] with ring := { inbox := [wReq] } }, (wReq), by decide +kernel⟩⟩

/-- States and operands that meet the hypotheses of `QueueCommands`. -/
theorem witness_QueueCommands :
    (∃ (s : State) (q : Fin 32) (base : Fin 512) (size : Fin 1024), s.hostOpen pgPod = true ∧ s.flag (R.POD_QCFG_EN q) = false ∧ s.regionOk q.val base.val size.val = true)
    ∧ (∃ (s : State) (q : Fin 32), s.hostOpen pgPod = true ∧ s.shape ∧ s.flag (R.POD_QCFG_EN q) = true ∧ (s.queue q).closing = false ∧ (s.queue q).flush = false ∧ (s.queue q).part = none)
    ∧ (∃ (s : State), s.hostOpen pgPod = true)
    ∧ (∃ (s : State) (dt : Nat) (q : Fin 32) (p : Packet) (l : List Packet), s.hostRuns = true ∧ s.vodRuns = true ∧ s.shape ∧ s.flag (R.POD_QCFG_EN q) = true ∧ s.flag (R.POD_QCFG_DIR q) = false ∧ (s.queue q).pkts = p :: l ∧ p.checked = true ∧ (s.elapse dt).cutWord q = none)
    ∧ (∃ (s : State) (q : Fin 32) (p : Packet), s.hostOpen pgPod = true ∧ s.shape ∧ s.flag (R.POD_QCFG_EN q) = true ∧ s.flag (R.POD_QCFG_DIR q) = true ∧ (s.queue q).part = some p ∧ (s.queue q).partLen + 1 < p.words) :=
  ⟨⟨wRun, (3), (0), (512), by decide +kernel⟩,
   ⟨wPut [(R.POD_QCFG_EN 3, 1)], (3), by decide +kernel⟩,
   ⟨wRun, by decide +kernel⟩,
   ⟨{ wPut [(R.POD_QCFG_EN 3, 1), (R.POD_QCFG_SIZE 3, 1)] with pod := { q := wRun.pod.q.set 3 { pkts := [{ start := 0, words := 5, checked := true }] } } }, (0), (3), ({ start := 0, words := 5, checked := true }), ([]), by decide +kernel⟩,
   ⟨{ wPut [(R.POD_QCFG_EN 3, 1), (R.POD_QCFG_DIR 3, 1), (R.POD_QCFG_SIZE 3, 1)] with pod := { q := wRun.pod.q.set 3 { part := some { start := 0, words := 6 }, partLen := 4 } } }, (3), ({ start := 0, words := 6 }), by decide +kernel⟩⟩

/-- States and operands that meet the hypotheses of `HostServiceCommands`. -/
theorem witness_HostServiceCommands :
    (∃ (s : State) (conn : Fin 16) (len : Fin 64), s.hostOpen pgGylen = true ∧ s.shape ∧ s.refuses pgGylen 0x244 (conn.val + 256 * len.val + 0x10000) = false ∧ s.flag (R.GYLEN_CCFG_EN conn) = true ∧ s.flag (R.GYLEN_CCFG_DIR conn) = true ∧ s.flag (R.GYLEN_CCFG_SRC_HOST conn) = true)
    ∧ (∃ (s : State) (dt : Nat), s.hostOpen pgMbox = true ∧ s.locked = true ∧ (s.elapse dt).mboxShut = false ∧ s.mboxAccepted < 2000 ∧ s.hw.slice ≠ .mail)
    ∧ (∃ (s : State), s.hostRuns = true ∧ s.locked = false)
    ∧ (∃ (s : State), s.hostOpen pgEth = true ∧ s.flag R.ETH_CFG_EN = true)
    ∧ (∃ (s : State) (count : Fin 64), s.hostOpen pgSave = true ∧ s.refuses pgSave 0x048 count.val = false)
    ∧ (∃ (s : State) (dt : Nat) (ofs : Fin 4096) (d : DlPair), dlPair pgMbox ofs.val = some d ∧ (s.elapse dt).sliceLate ((ofs.val - 0x0D0) / 8) = true) :=
  ⟨⟨wPut [(R.GYLEN_CCFG_EN 3, 1), (R.GYLEN_CCFG_DIR 3, 1), (R.GYLEN_CCFG_SRC_HOST 3, 1)], (3), (8), by decide +kernel⟩,
   ⟨wRun, (0), by decide +kernel⟩,
   ⟨wPut [(R.BOOT_BOOT_STAT_LOCKED, 0)], by decide +kernel⟩,
   ⟨wPut [(R.ETH_CFG_EN, 1)], by decide +kernel⟩,
   ⟨wRun, (8), by decide +kernel⟩,
   ⟨{ wRun with hw := { frames := 1 } }, (us 900), (0x0D8), (⟨pgMbox, 0x0D8, R.MBOX_DL_LIMIT_GYLEN_LIMIT, R.MBOX_DL_LIMIT_GYLEN_MISS_MAX, R.MBOX_DL_COUNT_GYLEN_TOTAL, R.MBOX_DL_COUNT_GYLEN_RUN⟩), by decide +kernel⟩⟩

/-- States and operands that meet the hypotheses of `CanopyTimeCommands`. -/
theorem witness_CanopyTimeCommands :
    (∃ (s : State) (dt : Nat) (t0 : Nat), s.vodRuns = true ∧ s.ring.inserted = true ∧ s.ring.firstUp = some t0 ∧ t0 + ms 5 ≤ s.now + dt ∧ s.get R.VODOR_RING_CFG_TIME_PRIO < 15 ∧ s.ring.betterAt + ms 5 ≤ s.now + dt ∧ s.flag R.CANOPY_STATUS_SOURCE = false)
    ∧ (∃ (s : State) (dt : Nat), s.vodRuns = true ∧ s.flag R.CANOPY_STATUS_SOURCE = true ∧ s.ring.beaconAt ≠ (s.elapse dt).canopy / 1000000 * 1000000)
    ∧ (∃ (s : State) (dt : Nat) (c : BeaconCopy) (l : List BeaconCopy), s.vodRuns = true ∧ s.ring.copies = c :: l ∧ c.at_ + us 500 ≤ s.now + dt)
    ∧ (∃ (s : State), s.hostOpen pgCanopy = true ∧ s.flag R.CANOPY_STATUS_SOURCE = true ∧ s.sourceClass = 2)
    ∧ (∃ (s : State), s.gridRuns = true) :=
  ⟨⟨{ wPut [(R.VODOR_RING_CFG_TIME_PRIO, 3)] with ring := { inserted := true, firstUp := some 0 } }, (ms 6), (0), by decide +kernel⟩,
   ⟨wPut [(R.CANOPY_STATUS_SOURCE, 1)], (ms 1), by decide +kernel⟩,
   ⟨{ wRun with ring := { copies := [wCopy] } }, (us 500), (wCopy), ([]), by decide +kernel⟩,
   ⟨wPut [(R.CANOPY_STATUS_SOURCE, 1), (R.CANOPY_SETT_LO_NS, 77)], by decide +kernel⟩,
   ⟨wRun, by decide +kernel⟩⟩

/-- States and operands that meet the hypotheses of `RingPortCommands`. -/
theorem witness_RingPortCommands :
    (∃ (s : State) (p : Fin 2), s.vodRuns = true ∧ s.shape ∧ (s.port p).aligned = false ∧ s.portUp p = false)
    ∧ (∃ (s : State) (p : Fin 2), s.vodRuns = true ∧ s.shape ∧ (s.port p).aligned = true)
    ∧ (∃ (s : State) (dt : Nat) (p : Fin 2) (t0 : Nat), s.ringRuns = true ∧ (s.port p).lostAt = some t0 ∧ s.portUp p = true ∧ s.now + dt ≤ t0 + us 2)
    ∧ (∃ (s : State) (dt : Nat) (p : Fin 2) (t0 : Nat), s.ringRuns = true ∧ (s.port p).lostAt = some t0 ∧ s.portUp p = true ∧ t0 + us 2 < s.now + dt)
    ∧ (∃ (s : State) (dt : Nat) (p : Fin 2), s.ringRuns = true ∧ s.isWrapped p = true ∧ s.portUp p = true ∧ (s.port p).lostAt = none ∧ (s.port p).upSince + ms 100 ≤ s.now + dt ∧ wrapBoundary (s.canopyT.at ((s.port p).upSince + ms 100)).ceil.toNat ≤ (s.elapse dt).canopy)
    ∧ (∃ (s : State) (dt : Nat) (p : Fin 2), s.ringRuns = true ∧ s.portState p = psNover ∧ (s.port p).noverAt + ms 1 ≤ s.now + dt) :=
  ⟨⟨{ wRun with ring := { inserted := true } }, (1), by decide +kernel⟩,
   ⟨{ wRun with ring := { ports := [{}, { aligned := true }] } }, (1), by decide +kernel⟩,
   ⟨{ wPut [(R.VPORT_STATUS_STATE 0, psUp), (R.VODOR_STATUS_REPEATER, 0)] with ring := { ports := [{ lostAt := some 0 }, {}] } }, (us 2), (0), (0), by decide +kernel⟩,
   ⟨{ wPut [(R.VPORT_STATUS_STATE 0, psUp), (R.VODOR_STATUS_REPEATER, 0)] with ring := { ports := [{ lostAt := some 0 }, {}] } }, (us 3), (0), (0), by decide +kernel⟩,
   ⟨wPut [(R.VPORT_STATUS_STATE 0, psUp), (R.VODOR_STATUS_REPEATER, 0), (R.VODOR_STATUS_WRAP_E, 1)], (ms 101), (0), by decide +kernel⟩,
   ⟨wPut [(R.VPORT_STATUS_STATE 0, psNover), (R.VODOR_STATUS_REPEATER, 0)], (ms 1), (0), by decide +kernel⟩⟩

/-- States and operands that meet the hypotheses of `RingHelloAndDelayCommands`. -/
theorem witness_RingHelloAndDelayCommands :
    (∃ (s : State) (dt : Nat), s.vodRuns = true ∧ s.ring.started = true ∧ s.ring.inserted = false ∧ s.ring.startedAt + ms 10 ≤ s.now + dt - ns ((s.elapse dt).coarseTime % 10000) ∧ (s.elapse dt).coarseTime / 10000 * 10000 % 1000000 ≠ 0)
    ∧ (∃ (s : State) (dt : Nat) (t0 : Nat), s.vodRuns = true ∧ s.ring.started = true ∧ s.ring.inserted = false ∧ s.ring.listenAt = some t0 ∧ t0 ≤ s.now + dt - ns ((s.elapse dt).coarseTime % 10000) ∧ (s.elapse dt).coarseTime / 10000 * 10000 % 1000000 ≠ 0)
    ∧ (∃ (s : State) (dt : Nat) (p : Fin 2), s.ringRuns = true ∧ s.shape ∧ s.ring.inserted = true ∧ (s.portState p = psNegotiate ∨ s.portUp p = true) ∧ ((s.port p).helloDue ≤ s.now + dt ∨ (s.port p).helloNow = true))
    ∧ (∃ (s : State) (p : Fin 2) (d : Delivery), s.ringRuns = true ∧ s.ring.inserted = true ∧ s.ring.inbox.find? (fun e => decide (e.kind = 1) && decide (e.port = p.val)) = some d ∧ d.ptype = 0x0D02 ∧ d.payload.length = 20)
    ∧ (∃ (s : State) (dt : Nat) (p : Fin 2), s.ringRuns = true ∧ s.shape ∧ s.portUp p = true ∧ (s.port p).reqDue ≤ s.now + dt)
    ∧ (∃ (s : State) (p : Fin 2), s.ringRuns = true ∧ s.shape ∧ (s.port p).aligned = true ∧ s.portState p = psUp) :=
  ⟨⟨{ wRun with ring := { started := true } }, (ms 10 + us 20), by decide +kernel⟩,
   ⟨{ wRun with ring := { started := true, listenAt := some 0 } }, (us 21), (0), by decide +kernel⟩,
   ⟨{ wPut [(R.VODOR_STATUS_REPEATER, 0), (R.VPORT_STATUS_STATE 1, psUp)] with ring := { inserted := true } }, (us 5), (1), by decide +kernel⟩,
   ⟨{ wPut [(R.VODOR_STATUS_REPEATER, 0), (R.VPORT_STATUS_STATE 1, psNegotiate)] with ring := { inserted := true, inbox := [wHello] } }, (1), (wHello), by decide +kernel⟩,
   ⟨wPut [(R.VODOR_STATUS_REPEATER, 0), (R.VPORT_STATUS_STATE 1, psUp)], (us 5), (1), by decide +kernel⟩,
   ⟨{ wPut [(R.VODOR_STATUS_REPEATER, 0), (R.VPORT_STATUS_STATE 1, psUp)] with ring := { ports := [{}, { aligned := true }] } }, (1), by decide +kernel⟩⟩

/-- States and operands that meet the hypotheses of `RingFrameCommands`. -/
theorem witness_RingFrameCommands :
    (∃ (s : State) (p : Fin 2) (bytes : List Nat), s.ringRuns = true ∧ (s.port p).aligned = true ∧ headerGood bytes = false)
    ∧ (∃ (s : State) (p : Fin 2) (bytes : List Nat), s.ringRuns = true ∧ (s.port p).aligned = true ∧ headerGood bytes = true ∧ fcsGood bytes = false)
    ∧ (∃ (s : State) (p : Fin 2) (bytes : List Nat), s.ringRuns = true ∧ (s.port p).aligned = true ∧ headerGood bytes = true ∧ fcsGood bytes = true ∧ s.ring.inserted = true ∧ (parseFrame bytes).kind = 1)
    ∧ (∃ (s : State) (dt : Nat) (p : Fin 2) (f : Frame), s.ringRuns = true ∧ s.shape ∧ (s.port p).sending = some f ∧ (s.port p).sendEnd ≤ s.now + dt)
    ∧ (∃ (s : State) (dt : Nat) (p : Fin 2) (f : Frame), s.ringRuns = true ∧ s.shape ∧ (s.port p).sending = some f ∧ (s.port p).sendEnd ≤ s.now + dt ∧ ((∀ e : Fin 3, s.txQueue e.val = none)))
    ∧ (∃ (s : State) (dt : Nat) (p : Fin 2) (f : Frame), s.ringRuns = true ∧ s.shape ∧ (s.port p).sending = some f ∧ (s.port p).sendEnd ≤ s.now + dt ∧ f.queue < 32 ∧ (s.queue f.queue).inFlight = 1)
    ∧ (∃ (s : State), s.ringRuns = true)
    ∧ (∃ (s : State) (dt : Nat) (d : Delivery), s.ringRuns = true ∧ s.ring.inbox.find? (fun e => decide (e.kind = 2) && decide (e.ptype = 0x0D11)) = some d ∧ s.flag R.VODOR_RA_STAT_BUSY = true ∧ leAt d.payload 4 2 = s.ring.raTag ∧ s.now + dt < s.ring.raDue)
    ∧ (∃ (s : State) (dt : Nat), s.vodRuns = true ∧ s.flag R.VODOR_RA_STAT_BUSY = true ∧ s.ring.raDue ≤ s.now + dt) :=
  ⟨⟨{ wPut [(R.VODOR_STATUS_REPEATER, 0)] with ring := { inserted := true, ports := [{ aligned := true }, {}] } }, (0), ([1]), by decide +kernel⟩,
   ⟨{ wPut [(R.VODOR_STATUS_REPEATER, 0)] with ring := { inserted := true, ports := [{ aligned := true }, {}] } }, (0), (wHelloBytes.dropLast), by decide +kernel⟩,
   ⟨{ wPut [(R.VODOR_STATUS_REPEATER, 0)] with ring := { inserted := true, ports := [{ aligned := true }, {}] } }, (0), (wHelloBytes), by decide +kernel⟩,
   ⟨{ wPut [(R.VODOR_STATUS_REPEATER, 0)] with ring := { ports := [{ sending := some wFrame }, {}] } }, (0), (0), (wFrame), by decide +kernel⟩,
   ⟨{ wPut [(R.VODOR_STATUS_REPEATER, 0)] with ring := { ports := [{ sending := some wFrame }, {}] } }, (0), (0), (wFrame), by decide +kernel⟩,
   ⟨{ wPut [(R.VODOR_STATUS_REPEATER, 0)] with ring := { ports := [{ sending := some { wFrame with queue := 4 } }, {}] }, pod := { q := wRun.pod.q.set 4 { inFlight := 1 } } }, (0), (0), ({ wFrame with queue := 4 }), by decide +kernel⟩,
   ⟨{ wPut [(R.VODOR_STATUS_REPEATER, 0)] with ring := { held := [(0, wFrame), (90000, wFrame)] } }, by decide +kernel⟩,
   ⟨{ wPut [(R.VODOR_STATUS_REPEATER, 0), (R.VODOR_RA_STAT_BUSY, 1)] with ring := { inbox := [wAns], raDue := 5 } }, (0), (wAns), by decide +kernel⟩,
   ⟨wPut [(R.VODOR_RA_STAT_BUSY, 1)], (ms 10), by decide +kernel⟩⟩

/-- States and operands that meet the hypotheses of `QueueEvents`. -/
theorem witness_QueueEvents :
    (∃ (s : State) (q : Fin 32), s.vodRuns = true ∧ s.shape ∧ s.flag (R.POD_QCFG_DIR q) = true ∧ (s.queue q).gone = true ∧ (s.queue q).orphan = false)
    ∧ (∃ (s : State) (q : Fin 32), s.vodRuns = true ∧ s.shape ∧ s.flag (R.POD_QCFG_DIR q) = true ∧ (s.queue q).gone = true ∧ (s.queue q).orphan = true)
    ∧ (∃ (s : State) (q : Fin 32) (p : Packet) (l : List Packet), s.vodRuns = true ∧ s.shape ∧ (s.queue q).pkts = p :: l ∧ p.checked = false ∧ (s.flag (R.POD_QCFG_DIR q) = true ∨ (s.queue q).flush = false))
    ∧ (∃ (s : State) (q : Fin 32) (p : Packet) (l : List Packet), s.vodRuns = true ∧ s.shape ∧ (s.queue q).pkts = p :: l ∧ p.checked = false)
    ∧ (∃ (s : State) (dt : Nat) (q : Fin 32), s.vodRuns = true ∧ s.shape ∧ (s.queue q).part ≠ none ∧ PageIsland.vodor.cycle ((s.queue q).partAt + us (s.get R.POD_TIMEOUT_PKT_US)) < PageIsland.vodor.cycle (s.now + dt))
    ∧ (∃ (s : State) (page : Fin 256) (r : Nat × Nat), s.vodRuns = true ∧ s.heldNotice page.val = none ∧ s.pod.rises.find? (fun e => decide (e.1 = page.val)) = some r ∧ s.flag R.POD_NOTICE_CFG_EN = true ∧ s.pod.holds.find? (fun h => decide (h.page = page.val)) = none)
    ∧ (∃ (s : State) (page : Fin 256) (r : Nat × Nat) (f : Frame), s.vodRuns = true ∧ s.heldNotice page.val = some f ∧ s.pod.rises.find? (fun e => decide (e.1 = page.val)) = some r ∧ s.flag R.POD_NOTICE_CFG_EN = true)
    ∧ (∃ (s : State) (page : Fin 256) (r : Nat × Nat), s.vodRuns = true ∧ s.pod.rises.find? (fun e => decide (e.1 = page.val)) = some r ∧ s.flag R.POD_NOTICE_CFG_EN = false)
    ∧ (∃ (s : State) (page : Fin 256) (r : Nat × Nat) (h : NoticeSt), s.vodRuns = true ∧ s.heldNotice page.val = none ∧ s.pod.rises.find? (fun e => decide (e.1 = page.val)) = some r ∧ s.flag R.POD_NOTICE_CFG_EN = true ∧ s.pod.holds.find? (fun h => decide (h.page = page.val)) = some h)
    ∧ (∃ (s : State) (dt : Nat) (page : Fin 256) (h : NoticeSt), s.vodRuns = true ∧ s.pod.holds.find? (fun h => decide (h.page = page.val) && decide (h.holdEnd ≤ s.now + dt)) = some h ∧ h.merged = 0)
    ∧ (∃ (s : State) (dt : Nat) (page : Fin 256) (h : NoticeSt), s.vodRuns = true ∧ s.pod.holds.find? (fun h => decide (h.page = page.val) && decide (h.holdEnd ≤ s.now + dt)) = some h ∧ h.merged ≠ 0 ∧ s.pagePending page.val = true ∧ s.flag R.POD_NOTICE_CFG_EN = true) :=
  ⟨⟨{ wPut [(R.POD_QCFG_DIR 3, 1), (R.POD_QCFG_NOTIFY 3, 1)] with pod := { q := wRun.pod.q.set 3 { gone := true, inFlight := 1, pkts := [{ start := 0, words := 5 }] } } }, (3), by decide +kernel⟩,
   ⟨{ wPut [(R.POD_QCFG_DIR 3, 1)] with pod := { q := wRun.pod.q.set 3 { gone := true, orphan := true } } }, (3), by decide +kernel⟩,
   ⟨{ wRun with pod := { q := wRun.pod.q.set 3 { pkts := [{ start := 0, words := 5 }] } } }, (3), ({ start := 0, words := 5 }), ([]), by decide +kernel⟩,
   ⟨{ wRun with pod := { q := wRun.pod.q.set 3 { pkts := [{ start := 0, words := 5 }] } } }, (3), ({ start := 0, words := 5 }), ([]), by decide +kernel⟩,
   ⟨{ wRun with pod := { q := wRun.pod.q.set 3 { part := some { start := 0, words := 5 } } } }, (secs 10), (3), by decide +kernel⟩,
   ⟨{ wPut [(R.POD_NOTICE_CFG_EN, 1), (R.POD_NOTICE_CFG_DEST, 9)] with pod := { rises := [(0x18, 5)] } }, (0x18), ((0x18, 5)), by decide +kernel⟩,
   ⟨{ wPut [(R.POD_NOTICE_CFG_EN, 1)] with pod := { rises := [(0x18, 5)] }, ring := { ports := [{ waiting := [⟨3, 0, false, false, 0, 9, 9, 16383, 2, [0, 0, 0x18, 0], true, 33⟩] }, {}] } }, (0x18), ((0x18, 5)), (⟨3, 0, false, false, 0, 9, 9, 16383, 2, [0, 0, 0x18, 0], true, 33⟩), by decide +kernel⟩,
   ⟨{ wRun with pod := { rises := [(0x18, 5)] } }, (0x18), ((0x18, 5)), by decide +kernel⟩,
   ⟨{ wPut [(R.POD_NOTICE_CFG_EN, 1)] with pod := { rises := [(0x18, 5)], holds := [wHold] } }, (0x18), ((0x18, 5)), (wHold), by decide +kernel⟩,
   ⟨{ wRun with pod := { holds := [wHold] } }, (0), (0x18), (wHold), by decide +kernel⟩,
   ⟨{ wPut [(R.POD_NOTICE_CFG_EN, 1), (R.POD_NOTICE_CFG_DEST, 9), (H.IRQ_RAW 0x18, 1), (H.IRQ_EN 0x18, 1)] with pod := { holds := [{ wHold with merged := 2 }] } }, (0), (0x18), ({ wHold with merged := 2 }), by decide +kernel⟩⟩

/-- States and operands that meet the hypotheses of `GylenCommands`. -/
theorem witness_GylenCommands :
    (∃ (s : State) (d : Delivery), s.vodRuns = true ∧ s.ring.inbox.find? (fun e => decide (e.kind = 0) && decide (e.ptype = 0x0F01)) = some d ∧ s.gylMatch d.src d.payload = none)
    ∧ (∃ (s : State) (n : Nat) (d : Delivery), s.vodRuns = true ∧ s.ring.inbox.find? (fun e => decide (e.kind = 0) && decide (e.ptype = 0x0F01)) = some d ∧ s.gylMatch d.src d.payload = some n ∧ s.gylFrameOk n d.payload = true ∧ s.connState n ≠ gsRun)
    ∧ (∃ (s : State) (dt : Nat) (n : Nat) (d : Delivery), s.vodRuns = true ∧ s.ring.inbox.find? (fun e => decide (e.kind = 0) && decide (e.ptype = 0x0F01)) = some d ∧ s.gylMatch d.src d.payload = some n ∧ s.gylFrameOk n d.payload = true ∧ s.connState n = gsRun ∧ (s.elapse dt).gylExpired n = false ∧ s.gylInWindow n (s.get (R.GYLEN_CSTAT_SEQ n)) (gylSeq d.payload) = true)
    ∧ (∃ (s : State) (dt : Nat) (n : Nat) (d : Delivery), s.vodRuns = true ∧ s.ring.inbox.find? (fun e => decide (e.kind = 0) && decide (e.ptype = 0x0F01)) = some d ∧ s.gylMatch d.src d.payload = some n ∧ s.gylFrameOk n d.payload = true ∧ s.connState n = gsRun ∧ (s.elapse dt).gylExpired n = false ∧ s.gylInWindow n (s.get (R.GYLEN_CSTAT_SEQ n)) (gylSeq d.payload) = false)
    ∧ (∃ (s : State) (n : Nat) (d : Delivery), s.vodRuns = true ∧ s.ring.inbox.find? (fun e => decide (e.kind = 0) && decide (e.ptype = 0x0F01)) = some d ∧ s.gylMatch d.src d.payload = some n ∧ s.gylFrameOk n d.payload = false)
    ∧ (∃ (s : State) (dt : Nat) (n : Fin 16), s.vodRuns = true ∧ (s.elapse dt).gylExpired n.val = true)
    ∧ (∃ (s : State) (dt : Nat) (n : Fin 16), s.vodRuns = true ∧ s.shape ∧ (s.elapse dt).gylDue n.val = true) :=
  ⟨⟨{ wRun with ring := { inbox := [wGyl] } }, (wGyl), by decide +kernel⟩,
   ⟨{ wPut [(R.GYLEN_CCFG_EN 2, 1), (R.GYLEN_CCFG_NODE 2, 4), (R.GYLEN_CID_ID 2, 5), (R.GYLEN_CSTAT_STATE 2, gsWait)] with ring := { inbox := [wGyl] } }, (2), (wGyl), by decide +kernel⟩,
   ⟨{ wPut [(R.GYLEN_CCFG_EN 2, 1), (R.GYLEN_CCFG_NODE 2, 4), (R.GYLEN_CID_ID 2, 5), (R.GYLEN_CSTAT_STATE 2, gsRun), (R.GYLEN_CCHK_SEQ_WIN 2, 8), (R.GYLEN_CSTAT_SEQ 2, 2), (R.GYLEN_DL_LIMIT_LIMIT 2, 100)] with ring := { inbox := [wGyl] } }, (0), (2), (wGyl), by decide +kernel⟩,
   ⟨{ wPut [(R.GYLEN_CCFG_EN 2, 1), (R.GYLEN_CCFG_NODE 2, 4), (R.GYLEN_CID_ID 2, 5), (R.GYLEN_CSTAT_STATE 2, gsRun), (R.GYLEN_CCHK_SEQ_WIN 2, 8), (R.GYLEN_CSTAT_SEQ 2, 99), (R.GYLEN_DL_LIMIT_LIMIT 2, 100)] with ring := { inbox := [wGyl] } }, (0), (2), (wGyl), by decide +kernel⟩,
   ⟨{ wPut [(R.GYLEN_CCFG_EN 2, 1), (R.GYLEN_CCFG_NODE 2, 4), (R.GYLEN_CID_ID 2, 5), (R.GYLEN_CSTAT_STATE 2, gsWait)] with ring := { inbox := [{ wGyl with payload := wGyl.payload.set 12 9 }] } }, (2), ({ wGyl with payload := wGyl.payload.set 12 9 }), by decide +kernel⟩,
   ⟨wPut [(R.GYLEN_CCFG_EN 2, 1), (R.GYLEN_CSTAT_STATE 2, gsRun), (R.GYLEN_DL_LIMIT_LIMIT 2, 5)], (secs 9), (2), by decide +kernel⟩,
   ⟨wPut [(R.GYLEN_CCFG_EN 2, 1), (R.GYLEN_CCFG_DIR 2, 1), (R.GYLEN_CCFG_NODE 2, 4), (R.GYLEN_CSTAT_STATE 2, gsRun)], (0), (2), by decide +kernel⟩⟩

/-- States and operands that meet the hypotheses of `GatewayCommands`. -/
theorem witness_GatewayCommands :
    (∃ (s : State) (up : Bool), s.hostRuns = true ∧ s.flag R.ETH_CFG_EN = true ∧ s.flag R.ETH_STATUS_LINK ≠ up)
    ∧ (∃ (s : State), s.hostRuns = true ∧ s.flag R.ETH_MDIO_CMD_GO = true)
    ∧ (∃ (s : State) (bytes : List Nat), s.hostRuns = true ∧ s.locked = true ∧ s.flag R.ETH_CFG_EN = true ∧ s.flag R.ETH_CFG_TUN_EN = true ∧ bytes.getD 12 0 = 0x88 ∧ bytes.getD 13 0 = 0xB5 ∧ s.tunnelGood bytes = true ∧ s.ingressUse + ({ parseFrame (bytes.drop 16) with own := true, queue := tunnelMark } : Frame).size ≤ 16384)
    ∧ (∃ (s : State) (bytes : List Nat), s.hostRuns = true ∧ s.locked = true ∧ s.flag R.ETH_CFG_EN = true ∧ s.flag R.ETH_CFG_TUN_EN = true ∧ bytes.getD 12 0 = 0x88 ∧ bytes.getD 13 0 = 0xB5 ∧ s.tunnelGood bytes = false) :=
  ⟨⟨wPut [(R.ETH_CFG_EN, 1)], (true), by decide +kernel⟩,
   ⟨wPut [(R.ETH_MDIO_CMD_GO, 1)], by decide +kernel⟩,
   ⟨wPut [(R.ETH_CFG_EN, 1), (R.ETH_CFG_TUN_EN, 1), (R.ETH_TUN_RANGE_LO, 7), (R.ETH_TUN_RANGE_HI, 7)], (wTunnel), by decide +kernel⟩,
   ⟨wPut [(R.ETH_CFG_EN, 1), (R.ETH_CFG_TUN_EN, 1)], (wTunnel.take 40), by decide +kernel⟩⟩

/-- States and operands that meet the hypotheses of `PrecisionTimeCommands`. -/
theorem witness_PrecisionTimeCommands :
    (∃ (s : State) (domain : Nat), s.ptpRuns = true ∧ domain = s.get R.ETH_CFG_DOMAIN ∧ s.eth.best = none)
    ∧ (∃ (s : State) (domain : Nat) (sender : Nat) (b : List Nat), s.ptpRuns = true ∧ domain = s.get R.ETH_CFG_DOMAIN ∧ s.eth.best = some b ∧ b.getLast? = some sender)
    ∧ (∃ (s : State) (dt : Nat), s.ptpRuns = true ∧ s.eth.live = true ∧ s.eth.lastSync + secs (s.get R.ETH_PTP_CFG_LOSS_S) ≤ s.now + dt)
    ∧ (∃ (s : State) (dt : Nat), s.ptpRuns = true ∧ s.eth.pdAt.all (fun t0 => decide (t0 + secs 1 ≤ s.now + dt)) = true)
    ∧ (∃ (s : State) (seq : Fin 65536), s.ptpRuns = true ∧ s.eth.pdOut = true ∧ seq.val = s.eth.pdSeq)
    ∧ (∃ (s : State), s.ptpRuns = true) :=
  ⟨⟨wPut [(R.ETH_CFG_EN, 1), (R.ETH_CFG_PTP_EN, 1)], (0), by decide +kernel⟩,
   ⟨{ wPut [(R.ETH_CFG_EN, 1), (R.ETH_CFG_PTP_EN, 1)] with eth := { best := some [1, 8] } }, (0), (8), ([1, 8]), by decide +kernel⟩,
   ⟨{ wPut [(R.ETH_CFG_EN, 1), (R.ETH_CFG_PTP_EN, 1), (R.ETH_STATUS_PTP_LOCKED, 1)] with eth := { live := true } }, (secs 300), by decide +kernel⟩,
   ⟨wPut [(R.ETH_CFG_EN, 1), (R.ETH_CFG_PTP_EN, 1)], (0), by decide +kernel⟩,
   ⟨{ wPut [(R.ETH_CFG_EN, 1), (R.ETH_CFG_PTP_EN, 1)] with eth := { pdOut := true } }, (0), by decide +kernel⟩,
   ⟨wPut [(R.ETH_CFG_EN, 1), (R.ETH_CFG_PTP_EN, 1)], by decide +kernel⟩⟩

/-- States and operands that meet the hypotheses of `LogCommands`. -/
theorem witness_LogCommands :
    (∃ (s : State), s.sys.inReset = false ∧ s.log.queue.length < 256)
    ∧ (∃ (s : State), s.sys.inReset = false ∧ 256 ≤ s.log.queue.length)
    ∧ (∃ (s : State) (r : LogRec) (q : List LogRec), s.hwRuns = true ∧ s.log.resumed = true ∧ s.log.queue = r :: q ∧ s.log.lost = 0 ∧ q.length < 256)
    ∧ (∃ (s : State) (r : LogRec) (q : List LogRec), s.hwRuns = true ∧ s.log.resumed = true ∧ s.log.queue = r :: q)
    ∧ (∃ (s : State) (dt : Nat) (t0 : Nat) (slot : Nat), s.hostOpen pgGlog = true ∧ s.log.critAt = some (t0, slot, s.get R.GLOG_FREEZE_SEQ) ∧ PageIsland.heartwood.cycle t0 = PageIsland.heartwood.cycle (s.now + dt) ∧ s.flag R.GLOG_CFG_FREEZE_EN = true)
    ∧ (∃ (s : State) (dt : Nat), s.hostOpen pgGlog = true ∧ s.log.critAt.all (fun e => decide (PageIsland.heartwood.cycle e.1 ≠ PageIsland.heartwood.cycle (s.now + dt))) = true) :=
  ⟨⟨wRun, by decide +kernel⟩,
   ⟨{ wRun with log := { queue := List.replicate 256 wRec } }, by decide +kernel⟩,
   ⟨{ wRun with log := { queue := [wRec, wRec], resumed := true } }, (wRec), ([wRec]), by decide +kernel⟩,
   ⟨{ wRun with log := { queue := [wRec, wRec], resumed := true, lost := 3 } }, (wRec), ([wRec]), by decide +kernel⟩,
   ⟨{ wPut [(R.GLOG_STATUS_FROZEN, 1), (R.GLOG_CFG_FREEZE_EN, 1), (R.GLOG_FREEZE_SEQ, 9)] with log := { prot := [3], critAt := some (0, 3, 9) } }, (0), (0), (3), by decide +kernel⟩,
   ⟨{ wPut [(R.GLOG_STATUS_FROZEN, 1)] with log := { prot := [3] } }, (0), by decide +kernel⟩⟩

/-- States and operands that meet the hypotheses of `MailboxServices`. -/
theorem witness_MailboxServices :
    (∃ (s : State), s.serving 1 = true)
    ∧ (∃ (s : State), s.serving 2 = true)
    ∧ (∃ (s : State), s.serving 3 = true ∧ (s.get (R.MBOX_ARG_ARG 1) = 1 ∨ s.get (R.MBOX_ARG_ARG 1) = 2))
    ∧ (∃ (s : State), s.serving 3 = true ∧ s.get (R.MBOX_ARG_ARG 1) ≠ 1 ∧ s.get (R.MBOX_ARG_ARG 1) ≠ 2)
    ∧ (∃ (s : State), s.serving 4 = true ∧ s.hw.fuseBusy = none ∧ s.quarantine = false)
    ∧ (∃ (s : State), s.serving 4 = true ∧ s.hw.fuseBusy = none ∧ s.quarantine = true ∧ s.get (R.MBOX_ARG_ARG 0) / 256 % 256 = 0x5A ∧ s.argHash ≠ 0 ∧ s.fuse.keys.getD (s.get (R.MBOX_ARG_ARG 0) % 4) 0 = 0 ∧ s.fuse.revoked.testBit (s.get (R.MBOX_ARG_ARG 0) % 4) = false)
    ∧ (∃ (s : State), s.serving (s.get R.MBOX_REQ_SERVICE) = true ∧ (s.get R.MBOX_REQ_SERVICE = 0 ∨ 4 < s.get R.MBOX_REQ_SERVICE))
    ∧ (∃ (s : State) (slot : Fin 4) (h : Nat), s.hw.fuseBusy = some (slot.val, h) ∧ s.hw.fuseDone = false ∧ s.fuse.keys.length = 4) :=
  ⟨⟨{ wPut [(R.MBOX_REQ_SERVICE, 1), (R.MBOX_RSP_PENDING, 1)] with hw := { taken := true } }, by decide +kernel⟩,
   ⟨{ wPut [(R.MBOX_REQ_SERVICE, 2), (R.MBOX_RSP_PENDING, 1)] with hw := { taken := true } }, by decide +kernel⟩,
   ⟨{ wPut [(R.MBOX_REQ_SERVICE, 3), (R.MBOX_RSP_PENDING, 1), (R.MBOX_ARG_ARG 1, 2)] with hw := { taken := true } }, by decide +kernel⟩,
   ⟨{ wPut [(R.MBOX_REQ_SERVICE, 3), (R.MBOX_RSP_PENDING, 1), (R.MBOX_ARG_ARG 1, 3)] with hw := { taken := true } }, by decide +kernel⟩,
   ⟨{ wPut [(R.MBOX_REQ_SERVICE, 4), (R.MBOX_RSP_PENDING, 1)] with hw := { taken := true } }, by decide +kernel⟩,
   ⟨{ wPut [(R.MBOX_REQ_SERVICE, 4), (R.MBOX_RSP_PENDING, 1), (R.BOOT_BOOT_STAT_QUARANTINE, 1), (R.MBOX_ARG_ARG 0, 0x5A02), (R.MBOX_ARG_ARG 1, 7)] with hw := { taken := true } }, by decide +kernel⟩,
   ⟨{ wPut [(R.MBOX_REQ_SERVICE, 9), (R.MBOX_RSP_PENDING, 1)] with hw := { taken := true } }, by decide +kernel⟩,
   ⟨{ wRun with hw := { fuseBusy := some (2, 5) } }, (2), (5), by decide +kernel⟩⟩

/-- States and operands that meet the hypotheses of `HeartwoodCommands`. -/
theorem witness_HeartwoodCommands :
    (∃ (s : State) (dt : Nat), s.hwRuns = true ∧ (s.boot = .ready ∨ s.boot = .done) ∧ (s.hw.frames = 0 ∨ s.hw.frameAt + us 990 ≤ s.now + dt))
    ∧ (∃ (s : State), s.hwRuns = true ∧ s.hw.slice = .safety)
    ∧ (∃ (s : State), s.hwRuns = true ∧ s.hw.slice = .gylen)
    ∧ (∃ (s : State) (dt : Nat), s.hwRuns = true ∧ s.hw.slice = .house ∧ s.mboxPending = true ∧ s.hw.taken = false ∧ s.hw.fuseBusy = none ∧ s.now + dt + us (serviceCost (s.get R.MBOX_REQ_SERVICE)) ≤ s.hw.frameAt + us 950)
    ∧ (∃ (s : State), s.hwRuns = true ∧ s.hw.slice = .house ∧ s.mboxPending = false ∧ s.hw.fuseBusy = none)
    ∧ (∃ (s : State) (dt : Nat), s.hostRuns = true ∧ s.flag R.SAVE_HOST_CTRL_BUSY = true ∧ s.meter.write = none ∧ max s.meter.readAt s.meter.saveEnd + s.readTime (s.get R.SAVE_HOST_CTRL_COUNT + 1) ≤ s.now + dt ∧ s.flag R.SAVE_HOST_ADDR_CS = false ∧ s.get R.SAVE_HOST_CTRL_COUNT = 3) :=
  ⟨⟨wRun, (ms 1), by decide +kernel⟩,
   ⟨{ wRun with hw := { slice := .safety } }, by decide +kernel⟩,
   ⟨{ wRun with hw := { slice := .gylen } }, by decide +kernel⟩,
   ⟨{ wPut [(R.MBOX_RSP_PENDING, 1), (R.MBOX_REQ_SERVICE, 1)] with hw := { slice := .house } }, (0), by decide +kernel⟩,
   ⟨{ wRun with hw := { slice := .house } }, by decide +kernel⟩,
   ⟨wPut [(R.SAVE_HOST_CTRL_BUSY, 1), (R.SAVE_HOST_CTRL_COUNT, 3)], (ms 1), by decide +kernel⟩⟩

/-- States and operands that meet the hypotheses of `MeterCommands`. -/
theorem witness_MeterCommands :
    (∃ (s : State) (dt : Nat) (z : Nat), s.gridRuns = true ∧ s.flag R.METER_STATUS_RUN = true ∧ s.meter.start = none ∧ (s.elapse dt).zeroPassed = some z ∧ s.meter.runAt ≤ z)
    ∧ (∃ (s : State) (dt : Nat) (t0 : Nat) (z : Nat) (c0 : Int), s.gridRuns = true ∧ s.flag R.METER_STATUS_RUN = true ∧ s.meter.start = some (t0, c0) ∧ (s.elapse dt).zeroPassed = some z ∧ t0 + ms 1 ≤ z)
    ∧ (∃ (s : State) (dt : Nat) (t0 : Nat) (z : Nat) (c0 : Int), s.gridRuns = true ∧ s.flag R.METER_STATUS_RUN = true ∧ s.meter.start = some (t0, c0) ∧ (s.elapse dt).zeroPassed = some z ∧ z < t0 + ms 1)
    ∧ (∃ (s : State) (n : Fin 4), s.gridRuns = true ∧ s.flag R.METER_STATUS_RUN = true ∧ s.meter.pulse.length = 4 ∧ s.flag (R.METER_PULSE_CFG_EN n) = true ∧ 0 < s.get (R.METER_OWED_OWED n) ∧ (s.meter.pulse.getD n.val {}).high = false ∧ (s.meter.pulse.getD n.val {}).startAt = none)
    ∧ (∃ (s : State) (dt : Nat) (t0 : Nat) (n : Fin 4), s.gridRuns = true ∧ s.meter.pulse.length = 4 ∧ (s.meter.pulse.getD n.val {}).high = true ∧ (s.meter.pulse.getD n.val {}).startAt = some t0 ∧ t0 + (s.meter.pulse.getD n.val {}).w ≤ s.now + dt)
    ∧ (∃ (s : State) (dt : Nat) (t0 : Nat) (c : Fin 4) (b : Bool), s.gridRuns = true ∧ s.flag R.METER_STATUS_RUN = true ∧ s.meter.chk.getD c.val (false, 0) = (b, t0) ∧ t0 + secs 1 ≤ s.now + dt ∧ s.flag (chkFlag c.val) ≠ b)
    ∧ (∃ (s : State) (dt : Nat), s.gridRuns = true ∧ s.flag R.METER_STATUS_RUN = true ∧ s.vodRuns = true ∧ s.flag R.METER_BCAST_EN = true ∧ s.meter.castAt / 100000000 < (s.elapse dt).canopy / 100000000) :=
  ⟨⟨{ wPut [(R.METER_STATUS_RUN, 1)] with meter := { angs := [(ms 1, 0, 0)] } }, (ms 2), (ms 1), by refine ⟨?_, ?_, ?_, ?_, ?_⟩ <;> first | decide +kernel | simp [State.zeroPassed, State.elapse, lastZero, zeroIn, quot, turn_ne, floor_zero, ms, wPut, put, wRun, State.setBoot]⟩,
   ⟨{ wPut [(R.METER_STATUS_RUN, 1)] with meter := { start := some (0, 0), angs := [(ms 1, 0, 0)] } }, (ms 2), (0), (ms 1), (0), by refine ⟨?_, ?_, ?_, ?_, ?_⟩ <;> first | decide +kernel | simp [State.zeroPassed, State.elapse, lastZero, zeroIn, quot, turn_ne, floor_zero, ms, wPut, put, wRun, State.setBoot]⟩,
   ⟨{ wPut [(R.METER_STATUS_RUN, 1)] with meter := { start := some (5, 0), angs := [(ms 1, 0, 0)] } }, (ms 2), (5), (ms 1), (0), by refine ⟨?_, ?_, ?_, ?_, ?_⟩ <;> first | decide +kernel | simp [State.zeroPassed, State.elapse, lastZero, zeroIn, quot, turn_ne, floor_zero, ms, wPut, put, wRun, State.setBoot]⟩,
   ⟨{ wPut [(R.METER_STATUS_RUN, 1), (R.METER_PULSE_CFG_EN 2, 1), (R.METER_OWED_OWED 2, 3)] with now := 0 }, (2), by decide +kernel⟩,
   ⟨{ wPut [(R.METER_STATUS_RUN, 1)] with meter := { pulse := [{}, {}, { high := true, startAt := some 0, w := us 9 }, {}] } }, (us 9), (0), (2), by decide +kernel⟩,
   ⟨{ wPut [(R.METER_STATUS_RUN, 1)] with meter := { chk := [(false, 0), (false, 0), (true, 0), (false, 0)] } }, (secs 1), (0), (2), (true), by decide +kernel⟩,
   ⟨{ wPut [(R.METER_STATUS_RUN, 1), (R.METER_BCAST_EN, 1), (R.METER_BCAST_POI_NODE, 9)] with now := 0 }, (ms 100), by decide +kernel⟩⟩

/-- States and operands that meet the hypotheses of `MeterSaveCommands`. -/
theorem witness_MeterSaveCommands :
    (∃ (s : State) (dt : Nat), s.mayWrite = true ∧ s.meter.write = none ∧ s.meter.perAt / 1000000000 < (s.elapse dt).canopy / 1000000000)
    ∧ (∃ (s : State) (dt : Nat) (a : Nat) (readback : List Nat) (l : List Nat), s.mayWrite = true ∧ s.meter.write = some (a, l) ∧ a ≠ slotFinal ∧ s.meter.writeAt + s.writeTime 512 + s.readTime 512 ≤ s.now + dt ∧ slice readback 0 512 = l)
    ∧ (∃ (s : State) (dt : Nat) (a : Nat) (readback : List Nat) (l : List Nat), s.mayWrite = true ∧ s.meter.write = some (a, l) ∧ a ≠ slotFinal ∧ s.meter.writeAt + s.writeTime 512 + s.readTime 512 ≤ s.now + dt ∧ slice readback 0 512 ≠ l)
    ∧ (∃ (s : State) (dt : Nat), s.mayWrite = true ∧ s.meter.write = none ∧ s.meter.resync = false ∧ (s.elapse dt).canopy / 1000000000 ≤ s.meter.perAt / 1000000000 ∧ s.meter.beatAt / 100000000 < (s.elapse dt).canopy / 100000000)
    ∧ (∃ (s : State), s.sys.inReset = true)
    ∧ (∃ (s : State), s.flag R.RSTPWR_PWR_STAT_PFW = false ∧ s.sys.inReset = false)
    ∧ (∃ (s : State), s.flag R.RSTPWR_PWR_STAT_PFW = false ∧ s.gridRuns = true ∧ s.hostRuns = true ∧ s.flag R.METER_STATUS_RUN = true ∧ s.meter.saving = true)
    ∧ (∃ (s : State) (dt : Nat) (l : List Nat), s.gridRuns = true ∧ s.hostRuns = true ∧ s.meter.write = some (slotFinal, l) ∧ s.meter.writeAt + s.writeTime 512 ≤ s.now + dt)
    ∧ (∃ (s : State), s.sys.inReset = false ∧ s.flag R.RSTPWR_PWR_STAT_PFW = true)
    ∧ (∃ (s : State) (dt : Nat) (t0 : Nat), s.meter.riseAt = some t0 ∧ s.meter.stopped = true ∧ t0 + ms 10 ≤ s.now + dt)
    ∧ (∃ (s : State), s.gridRuns = true ∧ s.hostRuns = true ∧ s.locked = true ∧ s.quarantine = false ∧ s.meter.ready = false)
    ∧ (∃ (s : State) (content : List Nat), s.gridRuns = true ∧ s.hostRuns = true ∧ s.locked = true ∧ s.quarantine = false ∧ s.meter.ready = false ∧ content ≠ [] ∧ (s.framFill content).headerOk = false ∧ (s.framFill content).framBlank = false)
    ∧ (∃ (s : State) (content : List Nat), s.gridRuns = true ∧ s.hostRuns = true ∧ s.locked = true ∧ s.quarantine = false ∧ s.meter.ready = false ∧ content ≠ [] ∧ (s.framFill content).headerOk = true)
    ∧ (∃ (s : State), s.hostOpen pgMeter = true ∧ s.flag R.METER_STATUS_FOREIGN = true)
    ∧ (∃ (s : State), s.hostOpen pgMeter = true ∧ s.flag R.METER_STATUS_FOREIGN = false) :=
  ⟨⟨{ wPut [(R.METER_STATUS_RUN, 1)] with meter := { saving := true } }, (secs 1), by decide +kernel⟩,
   ⟨{ wPut [(R.METER_STATUS_RUN, 1)] with meter := { saving := true, write := some (slotA, List.replicate 512 0) } }, (secs 1), (slotA), ([]), (List.replicate 512 0), by decide +kernel⟩,
   ⟨{ wPut [(R.METER_STATUS_RUN, 1)] with meter := { saving := true, write := some (slotA, [1]) } }, (secs 1), (slotA), ([]), ([1]), by decide +kernel⟩,
   ⟨{ wPut [(R.METER_STATUS_RUN, 1)] with meter := { saving := true } }, (ms 100), by decide +kernel⟩,
   ⟨wHeld, by decide +kernel⟩,
   ⟨wRun, by decide +kernel⟩,
   ⟨{ wPut [(R.METER_STATUS_RUN, 1)] with meter := { saving := true } }, by decide +kernel⟩,
   ⟨{ wPut [(R.METER_STATUS_RUN, 1)] with meter := { write := some (slotFinal, [4, 5]) } }, (secs 1), ([4, 5]), by decide +kernel⟩,
   ⟨wPut [(R.RSTPWR_PWR_STAT_PFW, 1)], by decide +kernel⟩,
   ⟨{ wRun with meter := { stopped := true, riseAt := some 0 } }, (ms 10), (0), by decide +kernel⟩,
   ⟨wRun, by decide +kernel⟩,
   ⟨wRun, ([1]), by decide +kernel⟩,
   ⟨wRun, (wRun.framHeader), by decide +kernel⟩,
   ⟨{ wPut [(R.METER_STATUS_RUN, 1), (R.METER_STATUS_FOREIGN, 1)] with now := 0 }, by decide +kernel⟩,
   ⟨wRun, by decide +kernel⟩⟩

/-- States and operands that meet the hypotheses of `RideCommands`. -/
theorem witness_RideCommands :
    (∃ (s : State) (dt : Nat) (c : Fin 4), s.gridRuns = true ∧ (s.ride.exc.getD c.val none).isSome = true ∧ heldFor (s.ride.back.getD c.val none) (ms (s.get R.RIDE_RT_TIME_RESET_MS)) (s.now + dt) = true)
    ∧ (∃ (s : State) (dt : Nat), s.gridRuns = true ∧ heldFor s.ride.staleSince (ms 100) (s.now + dt) = true ∧ s.flag R.RIDE_STATUS_TRIPPED = false)
    ∧ (∃ (s : State), s.hostOpen pgRide = true ∧ s.flag R.RIDE_STATUS_TRIPPED = false)
    ∧ (∃ (s : State), s.hostOpen pgRide = true ∧ s.flag R.RIDE_STATUS_TRIPPED = true ∧ s.ride.causes = [])
    ∧ (∃ (s : State), s.hostOpen pgRide = true ∧ s.flag R.RIDE_STATUS_TRIPPED = true ∧ s.ride.causes ≠ [])
    ∧ (∃ (s : State) (dt : Nat), s.gridRuns = true ∧ heldFor s.ride.recAt (ms (s.get R.RIDE_REC_CFG_REC_RAMP_MS)) (s.now + dt) = true)
    ∧ (∃ (s : State) (dt : Nat), s.gridRuns = true ∧ s.flag R.RIDE_STATUS_TRIPPED = true ∧ heldFor s.ride.rtsSince (secs (s.get R.RIDE_RTS_CFG_RTS_S)) (s.now + dt) = true ∧ s.flag (R.GE_PLL_STAT_LOCKED 1) = true ∧ s.get R.RIDE_STATUS_EXC = 0 ∧ s.flag R.ISLAND_STATUS_DECIDED = false ∧ s.ride.ttBlock = false ∧ s.get R.RIDE_STATUS_TRIP_CAUSE ≠ tcLink ∧ s.ride.causes = [] ∧ s.flag R.RIDE_RTS_CFG_AUTO = true)
    ∧ (∃ (s : State) (dt : Nat), s.hostOpen pgRide = true ∧ s.flag R.RIDE_STATUS_TRIPPED = true ∧ heldFor s.ride.rtsSince (secs (s.get R.RIDE_RTS_CFG_RTS_S)) (s.now + dt) = true ∧ s.flag (R.GE_PLL_STAT_LOCKED 1) = true ∧ s.get R.RIDE_STATUS_EXC = 0 ∧ s.flag R.ISLAND_STATUS_DECIDED = false ∧ s.ride.ttBlock = false ∧ s.get R.RIDE_STATUS_TRIP_CAUSE ≠ tcLink ∧ s.ride.causes = [] ∧ s.arm.ran.contains (s.elapse dt).cycleStart = true ∧ s.ride.excNew = false)
    ∧ (∃ (s : State) (dt : Nat), s.hostOpen pgRide = true ∧ s.flag R.RIDE_STATUS_TRIPPED = true ∧ s.ride.rtsSince ≠ none ∧ s.arm.ran.contains (s.elapse dt).cycleStart = false)
    ∧ (∃ (s : State) (dt : Nat), s.hostOpen pgRide = true ∧ s.flag R.RIDE_STATUS_TRIPPED = true ∧ s.ride.rtsSince ≠ none ∧ s.arm.ran.contains (s.elapse dt).cycleStart = true ∧ s.ride.excNew = true)
    ∧ (∃ (s : State), s.hostOpen pgRide = true ∧ s.flag R.RIDE_STATUS_TRIPPED = false)
    ∧ (∃ (s : State), s.hostOpen pgRide = true ∧ s.ride.rtsSince = none) :=
  ⟨⟨{ wPut [(R.RIDE_STATUS_EXC, 4)] with ride := { exc := [none, none, some 0, none], back := [none, none, some 0, none] } }, (secs 10), (2), by decide +kernel⟩,
   ⟨{ wPut [(R.RIDE_STATUS_TRIPPED, 0)] with ride := { staleSince := some 0 } }, (ms 100), by decide +kernel⟩,
   ⟨wPut [(R.RIDE_STATUS_TRIPPED, 0)], by decide +kernel⟩,
   ⟨wPut [(R.RIDE_STATUS_TRIPPED, 1)], by decide +kernel⟩,
   ⟨{ wPut [(R.RIDE_STATUS_TRIPPED, 1), (R.RIDE_STATUS_TRIP_CAUSE, 8)] with ride := { causes := [8] } }, by decide +kernel⟩,
   ⟨{ wPut [(R.RIDE_STATUS_RECOVER, 1)] with ride := { recAt := some 0 } }, (secs 100), by decide +kernel⟩,
   ⟨{ wPut [(R.RIDE_STATUS_TRIPPED, 1), (R.GE_PLL_STAT_LOCKED 1, 1), (R.RIDE_RTS_CFG_AUTO, 1)] with ride := { rtsSince := some 0 } }, (secs 9999), by decide +kernel⟩,
   ⟨{ wPut [(R.RIDE_STATUS_TRIPPED, 1), (R.GE_PLL_STAT_LOCKED 1, 1), (R.RIDE_RTS_CFG_AUTO, 0)] with ride := { rtsSince := some 0 }, arm := { ran := [(wRun.elapse (secs 9999)).cycleStart] } }, (secs 9999), by decide +kernel⟩,
   ⟨{ wPut [(R.RIDE_STATUS_TRIPPED, 1), (R.GE_PLL_STAT_LOCKED 1, 1)] with ride := { rtsSince := some 0 } }, (5), by decide +kernel⟩,
   ⟨{ wPut [(R.RIDE_STATUS_TRIPPED, 1), (R.GE_PLL_STAT_LOCKED 1, 1)] with ride := { rtsSince := some 0, excNew := true }, arm := { ran := [(wRun.elapse (secs 9999)).cycleStart] } }, (secs 9999), by decide +kernel⟩,
   ⟨{ wPut [(R.RIDE_STATUS_TRIPPED, 0)] with ride := { rtsSince := some 0 } }, by decide +kernel⟩,
   ⟨wPut [(R.RIDE_STATUS_TRIPPED, 1), (R.GE_PLL_STAT_LOCKED 1, 1)], by decide +kernel⟩⟩

/-- States and operands that meet the hypotheses of `IslandingCommands`. -/
theorem witness_IslandingCommands :
    (∃ (s : State) (dt : Nat) (i : Fin 4), s.gridRuns = true ∧ (s.elapse dt).indReady i.val = true ∧ s.indOn i.val = false)
    ∧ (∃ (s : State) (dt : Nat) (t0 : Nat) (i : Fin 4), s.gridRuns = true ∧ s.isl.vote.getD i.val none = some t0 ∧ t0 ≤ s.now + dt)
    ∧ (∃ (s : State), s.gridRuns = true)
    ∧ (∃ (s : State) (dt : Nat), s.gridRuns = true ∧ s.syncLost = true ∧ heldFor s.isl.syncSince (secs 600) (s.now + dt) = true ∧ s.flag R.ISLAND_STATUS_ACT_SUSP = false)
    ∧ (∃ (s : State) (dt : Nat) (t0 : Nat), s.gridRuns = true ∧ s.isl.blockEnd = some t0 ∧ t0 ≤ s.now + dt)
    ∧ (∃ (s : State) (l : List Nat) (m : List (List Nat)), s.gridRuns = true ∧ s.isl.ttIn = l :: m ∧ s.flag R.ISLAND_METHOD_TT_EN = true ∧ l.getD 2 0 = 0x5A ∧ s.flag R.RIDE_STATUS_TRIPPED = false)
    ∧ (∃ (s : State) (l : List Nat) (m : List (List Nat)), s.gridRuns = true ∧ s.isl.ttIn = l :: m ∧ s.flag R.ISLAND_METHOD_TT_EN = true ∧ l.getD 2 0 ≠ 0x5A)
    ∧ (∃ (s : State) (l : List Nat) (m : List (List Nat)), s.gridRuns = true ∧ s.isl.ttIn = l :: m ∧ s.flag R.ISLAND_METHOD_TT_EN = true ∧ l.getD 2 0 = 0x5A ∧ s.flag R.RIDE_STATUS_TRIPPED = true ∧ s.ride.causes = [])
    ∧ (∃ (s : State) (l : List Nat) (m : List (List Nat)), s.gridRuns = true ∧ s.isl.ttIn = l :: m ∧ s.flag R.ISLAND_METHOD_TT_EN = false)
    ∧ (∃ (s : State), s.hostOpen pgIsland = true ∧ (s.flag R.RIDE_STATUS_TRIPPED = true ∨ s.flag R.ARM_STATUS_CURRENT_ON = false))
    ∧ (∃ (s : State), s.hostOpen pgIsland = true ∧ s.flag R.RIDE_STATUS_TRIPPED = false ∧ s.flag R.ARM_STATUS_CURRENT_ON = true) :=
  ⟨⟨{ wRun with isl := { actOn := some 0 } }, (ms 10), (3), by decide +kernel⟩,
   ⟨{ wRun with isl := { vote := [none, none, some 5, none] } }, (9), (5), (2), by decide +kernel⟩,
   ⟨wRun, by decide +kernel⟩,
   ⟨{ wPut [(R.CANOPY_STATUS_SYNC_LOST, 1)] with isl := { syncSince := some 0 } }, (secs 600), by decide +kernel⟩,
   ⟨{ wPut [(R.ISLAND_STATUS_BLOCKED, 1)] with isl := { blockEnd := some 5 } }, (9), (5), by decide +kernel⟩,
   ⟨{ wPut [(R.ISLAND_METHOD_TT_EN, 1), (R.RIDE_STATUS_TRIPPED, 0)] with isl := { ttIn := [[1, 11, 0x5A]] } }, ([1, 11, 0x5A]), ([]), by decide +kernel⟩,
   ⟨{ wPut [(R.ISLAND_METHOD_TT_EN, 1), (R.RIDE_STATUS_TRIPPED, 0)] with isl := { ttIn := [[1, 11, 0]] } }, ([1, 11, 0]), ([]), by decide +kernel⟩,
   ⟨{ wPut [(R.ISLAND_METHOD_TT_EN, 1), (R.RIDE_STATUS_TRIPPED, 1)] with isl := { ttIn := [[1, 11, 0x5A]] } }, ([1, 11, 0x5A]), ([]), by decide +kernel⟩,
   ⟨{ wPut [(R.ISLAND_METHOD_TT_EN, 0)] with isl := { ttIn := [[1, 11, 0x5A]] } }, ([1, 11, 0x5A]), ([]), by decide +kernel⟩,
   ⟨wPut [(R.ISLAND_STATUS_DECIDED, 1)], by decide +kernel⟩,
   ⟨wPut [(R.RIDE_STATUS_TRIPPED, 0), (R.ISLAND_STATUS_DECIDED, 1), (R.ARM_STATUS_CURRENT_ON, 1)], by decide +kernel⟩⟩

/-- States and operands that meet the hypotheses of `SafetyFunctionCommands`. -/
theorem witness_SafetyFunctionCommands :
    (∃ (s : State) (dt : Nat) (p : Fin 12) (b : Bool) (ev : Fin 3), s.sideRuns 0 = true ∧ ev.val ≠ 2 ∧ (s.elapse dt).inputLevel 0 p.val b ≠ decide (ev.val = 1) ∧ (s.elapse dt).inputFiltered 0 p.val b (decide (ev.val = 1)) = true)
    ∧ (∃ (s : State) (dt : Nat) (p : Fin 12) (b : Bool) (ev : Fin 3), s.sideRuns 1 = true ∧ ev.val ≠ 2 ∧ (s.elapse dt).inputLevel 1 p.val b ≠ decide (ev.val = 1) ∧ (s.elapse dt).inputFiltered 1 p.val b (decide (ev.val = 1)) = true)
    ∧ (∃ (s : State) (dt : Nat) (c : Fin 2) (p : Fin 12) (b : Bool) (ev : Fin 3), s.sideRuns c.val = true ∧ ev.val ≠ 2 ∧ ((s.elapse dt).inputLevel c.val p.val b = decide (ev.val = 1) ∨ (s.elapse dt).inputFiltered c.val p.val b (decide (ev.val = 1)) = false))
    ∧ (∃ (s : State) (c : Fin 2) (p : Fin 12) (f : Fin 8), s.sideRuns c.val = true ∧ (s.side c.val).fn.length = 8 ∧ s.get (R.SAFE_FUNC_TYPE f.val) = 4 ∧ s.get (R.SAFE_FUNC_PAIR_A f.val) = p.val)
    ∧ (∃ (s : State) (dt : Nat) (t0 : Nat) (c : Fin 2) (f : Fin 8), s.sideRuns c.val = true ∧ (s.side c.val).fn.length = 8 ∧ (s.fnPairs f.val).any (fun p => decide ((s.side c.val).disSince.getD p none = some t0)) = true ∧ t0 + ms (5 * s.get (R.SAFE_FUNC_DISC f.val)) < s.now + dt ∧ (s.fn c.val f.val).st ≠ .unused ∧ (s.fn c.val f.val).st ≠ .fault ∧ (s.fnPairs f.val).all (s.pairOff c.val) = false)
    ∧ (∃ (s : State) (dt : Nat) (c : Fin 2) (f : Fin 8), s.sideRuns c.val = true ∧ (s.fn c.val f.val).st = .stopping ∧ (s.fn c.val f.val).since + ms (s.get (R.SAFE_FTIME_STOP_MS f.val)) ≤ s.now + dt ∧ (s.fnPairs f.val).all (s.pairOn c.val) = false)
    ∧ (∃ (s : State) (dt : Nat) (t0 : Nat) (f : Fin 8), s.sideRuns 0 = true ∧ s.safe.divSince.getD f.val none = some t0 ∧ t0 + ms 20 < s.now + dt)
    ∧ (∃ (s : State) (dt : Nat) (t0 : Nat) (c : Fin 2) (f : Fin 8), s.sideRuns c.val = true ∧ s.get (R.SAFE_FUNC_TYPE f.val) = 4 ∧ s.get (R.SAFE_FTIME_TP_EXP f.val) ≠ 0 ∧ (s.fn c.val f.val).onSince = some t0 ∧ max t0 (min (s.fn c.val f.val).pulseA (s.fn c.val f.val).pulseB) + ms (100 * s.get (R.SAFE_FTIME_TP_EXP f.val)) ≤ s.now + dt ∧ (s.fn c.val f.val).st ≠ .unused ∧ (s.fn c.val f.val).st ≠ .fault ∧ (s.fnPairs f.val).all (s.pairOff c.val) = false)
    ∧ (∃ (s : State) (dt : Nat) (t0 : Nat) (c : Fin 2) (f : Fin 8), s.sideRuns c.val = true ∧ s.get (R.SAFE_FUNC_TYPE f.val) = 3 ∧ (s.fn c.val f.val).st = .stopped ∧ (s.fn c.val f.val).rearmed = true ∧ (s.fn c.val f.val).first = some t0 ∧ t0 + handTime c.val < s.now + dt) :=
  ⟨⟨{ wPut [(R.SAFE_FUNC_TYPE 2, 1), (R.SAFE_FUNC_PAIR_A 2, 3)] with safe := { burl := { inA := 8, inB := 8, fn := [{}, {}, { st := .permit }, {}, {}, {}, {}, {}] } } }, (0), (3), (true), (0), by decide +kernel⟩,
   ⟨{ wPut [(R.SAFE_FUNC_TYPE 2, 1)] with safe := {  } }, (0), (3), (true), (1), by decide +kernel⟩,
   ⟨wRun, (0), (0), (3), (true), (0), by decide +kernel⟩,
   ⟨{ wPut [(R.SAFE_FUNC_TYPE 2, 4), (R.SAFE_FUNC_PAIR_A 2, 3)] with safe := {  } }, (0), (3), (2), by decide +kernel⟩,
   ⟨{ wPut [(R.SAFE_FUNC_TYPE 2, 1), (R.SAFE_FUNC_PAIR_A 2, 0)] with safe := { burl := { inA := 1, disSince := some 0 :: List.replicate 15 none, fn := [{}, {}, { st := .permit }, {}, {}, {}, {}, {}] } } }, (secs 99), (0), (0), (2), by decide +kernel⟩,
   ⟨{ wPut [(R.SAFE_FUNC_TYPE 2, 1)] with safe := { burl := { fn := [{}, {}, { st := .stopping }, {}, {}, {}, {}, {}] } } }, (secs 99), (0), (2), by decide +kernel⟩,
   ⟨{ wPut [(R.SAFE_FUNC_TYPE 2, 1)] with safe := { burl := { fn := [{}, {}, { st := .permit }, {}, {}, {}, {}, {}] }, divSince := [none, none, some 0, none, none, none, none, none] } }, (ms 21), (0), (2), by decide +kernel⟩,
   ⟨{ wPut [(R.SAFE_FUNC_TYPE 2, 4), (R.SAFE_FTIME_TP_EXP 2, 3)] with safe := { burl := { inA := 1, inB := 1, fn := [{}, {}, { st := .permit, onSince := some 0 }, {}, {}, {}, {}, {}] } } }, (secs 99), (0), (0), (2), by decide +kernel⟩,
   ⟨{ wPut [(R.SAFE_FUNC_TYPE 2, 3)] with safe := { hw := { fn := [{}, {}, { st := .stopped, rearmed := true, first := some 0 }, {}, {}, {}, {}, {}] } } }, (ms 501), (0), (1), (2), by decide +kernel⟩⟩

/-- States and operands that meet the hypotheses of `SafetyOutputCommands`. -/
theorem witness_SafetyOutputCommands :
    (∃ (s : State), (s.sys.inReset = true ∨ s.safe.srstRise ≠ none))
    ∧ (∃ (s : State), s.sys.inReset = false ∧ s.safe.srstRise = none)
    ∧ (∃ (s : State) (dt : Nat) (t0 : Nat), s.sys.inReset = false ∧ s.safe.srstRise = some t0 ∧ t0 ≤ s.now + dt ∧ s.now + dt < t0 + ms 100)
    ∧ (∃ (s : State) (dt : Nat) (t0 : Nat), s.sys.inReset = false ∧ s.safe.srstRise = some t0 ∧ t0 + ms 2100 < s.now + dt)
    ∧ (∃ (s : State) (dt : Nat) (t0 : Nat), s.sys.inReset = false ∧ s.safe.srstRise = some t0 ∧ t0 + ms 104 ≤ s.now + dt ∧ s.now + dt ≤ t0 + ms 1900)
    ∧ (∃ (s : State) (dt : Nat) (t0 : Nat) (n : Fin 4), s.sys.inReset = false ∧ s.safe.srstRise = some t0 ∧ t0 + ms 104 ≤ s.now + dt ∧ s.now + dt ≤ t0 + ms 1900 ∧ s.safe.out.length = 4 ∧ (s.get R.SAFE_OUT_STAT_FAULT).testBit n.val = true ∧ heldFor (s.out n.val).lowSince (secs 1) (s.now + dt) = true)
    ∧ (∃ (s : State) (dt : Nat) (t0 : Nat) (n : Fin 4), s.sys.inReset = false ∧ s.safe.srstRise = some t0 ∧ t0 + ms 104 ≤ s.now + dt ∧ s.now + dt ≤ t0 + ms 1900 ∧ s.safe.out.length = 4 ∧ (s.get R.SAFE_OUT_STAT_FAULT).testBit n.val = true ∧ heldFor (s.out n.val).lowSince (secs 1) (s.now + dt) = false)
    ∧ (∃ (s : State) (dt : Nat) (n : Fin 4) (rbA : Bool) (rbB : Bool), s.sys.inReset = false ∧ (s.get R.SAFE_OUT_STAT_FAULT).testBit n.val = false ∧ (rbA ≠ (s.out n.val).soA ∨ rbB ≠ (s.out n.val).soB) ∧ (s.out n.val).changedAt + us (s.get (R.SAFE_OUTCFG_RB_US n.val)) < s.now + dt)
    ∧ (∃ (s : State) (n : Fin 4), s.sys.inReset = false ∧ (s.get R.SAFE_OUT_STAT_FAULT).testBit n.val = true)
    ∧ (∃ (s : State) (dt : Nat) (n : Fin 4), s.sys.inReset = false ∧ s.flag (R.SAFE_OUTCFG_TP_EN n.val) = true ∧ (s.out n.val).soA = true ∧ (s.out n.val).soB = true ∧ (s.out n.val).phase = .idle ∧ (s.out n.val).testDue ≤ s.now + dt)
    ∧ (∃ (s : State) (dt : Nat) (t0 : Nat) (n : Fin 4), (s.out n.val).phase = .pulseA t0 ∧ (s.out n.val).spoiled = false ∧ t0 + us (s.get (R.SAFE_OUTCFG_TP_WIDTH n.val)) ≤ s.now + dt)
    ∧ (∃ (s : State) (dt : Nat) (t0 : Nat) (n : Fin 4), (s.out n.val).phase = .pulseB t0 ∧ (s.out n.val).spoiled = false ∧ t0 + us (s.get (R.SAFE_OUTCFG_TP_WIDTH n.val)) ≤ s.now + dt)
    ∧ (∃ (s : State) (dt : Nat) (t0 : Nat) (n : Fin 4), (s.out n.val).phase = .pulseA t0 ∧ (s.out n.val).spoiled = false ∧ t0 + us (s.get (R.SAFE_OUTCFG_TP_WIDTH n.val)) ≤ s.now + dt ∧ (s.get R.SAFE_OUT_STAT_FAULT).testBit n.val = false)
    ∧ (∃ (s : State) (dt : Nat) (t0 : Nat) (n : Fin 4), ((s.out n.val).phase = .pulseA t0 ∨ (s.out n.val).phase = .pulseB t0) ∧ (s.out n.val).spoiled = true ∧ t0 + us (s.get (R.SAFE_OUTCFG_TP_WIDTH n.val)) ≤ s.now + dt)
    ∧ (∃ (s : State) (dt : Nat) (t0 : Nat) (n : Fin 4), (s.out n.val).phase = .between t0 ∧ t0 + ms 1 ≤ s.now + dt) :=
  ⟨⟨wHeld, by decide +kernel⟩,
   ⟨wRun, by decide +kernel⟩,
   ⟨{ wPut [] with safe := { srstRise := some 0 } }, (ms 50), (0), by decide +kernel⟩,
   ⟨{ wPut [] with safe := { srstRise := some 0 } }, (ms 2500), (0), by decide +kernel⟩,
   ⟨{ wPut [(R.SAFE_FUNC_TYPE 2, 1)] with safe := { burl := { inA := 1, inB := 1, fn := [{}, {}, { st := .ready }, {}, {}, {}, {}, {}] }, srstRise := some 0 } }, (ms 500), (0), by decide +kernel⟩,
   ⟨{ wPut [(R.SAFE_OUT_STAT_FAULT, 2)] with safe := { srstRise := some 0, out := [{}, { lowSince := some 0 }, {}, {}] } }, (ms 1500), (0), (1), by decide +kernel⟩,
   ⟨{ wPut [(R.SAFE_OUT_STAT_FAULT, 2)] with safe := { srstRise := some 0, out := [{}, { lowSince := none }, {}, {}] } }, (ms 1500), (0), (1), by decide +kernel⟩,
   ⟨{ wPut [(R.SAFE_OUT_STAT_FAULT, 0)] with safe := { out := [{}, { soA := true, soB := true }, {}, {}] } }, (secs 1), (1), (true), (false), by decide +kernel⟩,
   ⟨{ wPut [(R.SAFE_OUT_STAT_FAULT, 2)] with safe := { out := [{}, {  }, {}, {}] } }, (1), by decide +kernel⟩,
   ⟨{ wPut [(R.SAFE_OUTCFG_TP_EN 1, 1)] with safe := { out := [{}, { soA := true, soB := true }, {}, {}] } }, (9), (1), by decide +kernel⟩,
   ⟨{ wPut [] with safe := { out := [{}, { soB := true, phase := .pulseA 0 }, {}, {}] } }, (secs 1), (0), (1), by decide +kernel⟩,
   ⟨{ wPut [] with safe := { out := [{}, { soA := true, phase := .pulseB 0 }, {}, {}] } }, (secs 1), (0), (1), by decide +kernel⟩,
   ⟨{ wPut [(R.SAFE_OUT_STAT_FAULT, 0)] with safe := { out := [{}, { soB := true, phase := .pulseA 0 }, {}, {}] } }, (secs 1), (0), (1), by decide +kernel⟩,
   ⟨{ wPut [] with safe := { out := [{}, { spoiled := true, phase := .pulseA 0 }, {}, {}] } }, (secs 1), (0), (1), by decide +kernel⟩,
   ⟨{ wPut [] with safe := { out := [{}, { soA := true, soB := true, phase := .between 0 }, {}, {}] } }, (ms 1), (0), (1), by decide +kernel⟩⟩

/-- States and operands that meet the hypotheses of `FaultSourceCommands`. -/
theorem witness_FaultSourceCommands :
    (∃ (s : State) (x : Fin 8) (n : Fin 36), s.cellRuns x.val = true ∧ (n.val < 12 ∨ 28 ≤ n.val) ∧ s.sourceCondition x.val n.val true = true ∧ s.source x.val n.val = false)
    ∧ (∃ (s : State) (dt : Nat) (x : Fin 8) (n : Fin 36), s.cellRuns x.val = true ∧ 12 ≤ n.val ∧ n.val < 20 ∧ s.source x.val n.val = false ∧ (s.elapse dt).filterDone x.val (n.val - 12) = true)
    ∧ (∃ (s : State) (dt : Nat) (x : Fin 8) (n : Fin 36), s.cellRuns x.val = true ∧ 20 ≤ n.val ∧ n.val < 24 ∧ s.source x.val n.val = false ∧ (s.get (R.GUARD_SC_STAT_RDY_LOW x.val)).testBit (n.val - 20) = false ∧ (s.ch x.val).guard.blanking = false ∧ (s.elapse dt).filterDone x.val (8 + (n.val - 20)) = true)
    ∧ (∃ (s : State) (dt : Nat) (x : Fin 8) (n : Fin 36), s.cellRuns x.val = true ∧ 24 ≤ n.val ∧ n.val < 28 ∧ s.source x.val n.val = false ∧ (s.elapse dt).filterDone x.val (12 + (n.val - 24)) = true)
    ∧ (∃ (s : State) (x : Fin 8) (n : Fin 36), s.cellRuns x.val = true ∧ (n.val < 12 ∨ 28 ≤ n.val) ∧ s.sourceCondition x.val n.val false = true)
    ∧ (∃ (s : State) (dt : Nat) (x : Fin 8) (n : Fin 36), s.cellRuns x.val = true ∧ 12 ≤ n.val ∧ n.val < 28 ∧ (n.val < 20 ∨ 24 ≤ n.val) ∧ (s.elapse dt).filterDone x.val (n.val - 12) = true)
    ∧ (∃ (s : State) (dt : Nat) (x : Fin 8) (n : Fin 36), s.cellRuns x.val = true ∧ 20 ≤ n.val ∧ n.val < 24 ∧ (s.get (R.GUARD_SC_STAT_RDY_LOW x.val)).testBit (n.val - 20) = true ∧ (s.elapse dt).filterDone x.val (8 + (n.val - 20)) = true)
    ∧ (∃ (s : State) (dt : Nat) (x : Fin 8) (w : Fin 8), (s.source x.val (12 + w.val) = true ∨ (s.elapse dt).filterDone x.val w.val = false))
    ∧ (∃ (s : State) (dt : Nat) (x : Fin 8) (w : Fin 8), s.cellRuns x.val = true ∧ s.source x.val (12 + w.val) = false ∧ (s.elapse dt).filterDone x.val w.val = true)
    ∧ (∃ (s : State) (dt : Nat) (t0 : Nat) (x : Fin 8) (w : Fin 8), s.cellRuns x.val = true ∧ (s.ch x.val).guard.scSince.getD w.val none = some t0 ∧ t0 + ms 1 ≤ s.now + dt)
    ∧ (∃ (s : State) (dt : Nat) (x : Fin 8) (y : Fin 4), s.cellRuns x.val = true ∧ (s.get (R.GUARD_SC_STAT_RDY_LOW x.val)).testBit y.val = false ∧ (s.elapse dt).filterDone x.val (8 + y.val) = true)
    ∧ (∃ (s : State) (dt : Nat) (x : Fin 8), s.cellRuns x.val = true ∧ (s.ch x.val).guard.blanking = true ∧ (s.ch x.val).pwm.runAt + us (s.get (R.GUARD_RDY_CFG_BLANK x.val)) ≤ s.now + dt) :=
  ⟨⟨wPut [(R.SENSE_CMP_STAT_OUT 2, 32), (R.PWM_FMAP_EN 2 1 1, 1), (R.PWM_FMAP_GROUP 2 1 1, 7)], (2), (5), by decide +kernel⟩,
   ⟨wRun, (0), (2), (15), by decide +kernel⟩,
   ⟨wRun, (0), (2), (21), by decide +kernel⟩,
   ⟨wRun, (0), (2), (25), by decide +kernel⟩,
   ⟨wPut [(R.PWM_FSRC_LO_ACTIVE 2, 32)], (2), (5), by decide +kernel⟩,
   ⟨wPut [(R.PWM_FSRC_LO_ACTIVE 2, 8192)], (0), (2), (13), by decide +kernel⟩,
   ⟨wPut [(R.PWM_FSRC_LO_ACTIVE 2, 0x200000), (R.GUARD_SC_STAT_RDY_LOW 2, 2)], (0), (2), (21), by decide +kernel⟩,
   ⟨wPut [(R.PWM_FSRC_LO_ACTIVE 2, 32768)], (9), (2), (3), by decide +kernel⟩,
   ⟨wRun, (9), (2), (3), by decide +kernel⟩,
   ⟨{ wPut [(R.PWM_FMAP_EN 2 3 3, 1), (R.PWM_FMAP_GROUP 2 3 3, 7)] with chan := wRun.chan.set 2 { guard := { scSince := [none, none, none, some 0, none, none, none, none] } } }, (ms 1), (0), (2), (3), by decide +kernel⟩,
   ⟨wRun, (0), (2), (1), by decide +kernel⟩,
   ⟨{ wPut [(R.GUARD_SC_STAT_RDY_LOW 2, 2)] with chan := wRun.chan.set 2 { guard := { blanking := true } } }, (secs 9), (2), by decide +kernel⟩⟩

/-- States and operands that meet the hypotheses of `FaultGroupCommands`. -/
theorem witness_FaultGroupCommands :
    (∃ (s : State) (dt : Nat) (x : Fin 8) (g : Fin 16), s.cellRuns x.val = true ∧ s.groupActive x.val g.val = true ∧ s.flag (R.GUARD_GSTAT_WAITING x.val g.val) = true ∧ (s.group x.val g.val).lastActive + us (s.get (R.GUARD_GCFG_WAIT x.val g.val)) ≤ s.now + dt ∧ (s.ch x.val).guard.groups.length = 16 ∧ s.shape)
    ∧ (∃ (s : State) (dt : Nat) (x : Fin 8) (g : Fin 16), s.cellRuns x.val = true ∧ s.groupActive x.val g.val = true ∧ (s.group x.val g.val).release = true ∧ (s.elapse dt).releasePoint x.val g.val = true)
    ∧ (∃ (s : State) (dt : Nat) (x : Fin 8) (g : Fin 16), (s.elapse dt).releasePoint x.val g.val = false)
    ∧ (∃ (s : State) (dt : Nat) (x : Fin 8) (g : Fin 16), s.cellRuns x.val = true ∧ s.groupSourced x.val g.val = false ∧ s.flag (R.GUARD_GSTAT_LATCHED x.val g.val) = false ∧ (s.group x.val g.val).winOpen + ms (s.get (R.GUARD_GWIN_WINDOW x.val g.val)) ≤ s.now + dt)
    ∧ (∃ (s : State) (x : Fin 8), s.hostOpen (pgGuard x.val) = true ∧ s.flag (R.PWM_CTRL_EN x.val) = false)
    ∧ (∃ (s : State) (x : Fin 8), s.hostOpen (pgGuard x.val) = true ∧ s.flag (R.PWM_CTRL_EN x.val) = true)
    ∧ (∃ (s : State) (dt : Nat) (x : Fin 8) (level : Bool), s.cellRuns x.val = true ∧ ((level != s.flag (R.GUARD_BYP_CFG_FB_POL x.val)) = s.flag (R.GUARD_BYP_STAT_FB_OPEN x.val) ∨ (s.elapse dt).filterDone x.val 16 = true))
    ∧ (∃ (s : State) (dt : Nat) (t0 : Nat) (x : Fin 8), s.cellRuns x.val = true ∧ (s.ch x.val).guard.openDue = some t0 ∧ t0 ≤ s.now + dt)
    ∧ (∃ (s : State) (dt : Nat) (t0 : Nat) (x : Fin 8), s.cellRuns x.val = true ∧ (s.ch x.val).guard.closeDue = some t0 ∧ t0 ≤ s.now + dt) :=
  ⟨⟨wPut [(R.PWM_GRP_ACT_ACTIVE 2, 128), (R.GUARD_GSTAT_WAITING 2 7, 1)], (secs 9), (2), (7), by decide +kernel⟩,
   ⟨{ wPut [(R.PWM_GRP_ACT_ACTIVE 2, 128)] with chan := wRun.chan.set 2 { pwm := { started := true }, guard := { groups := (List.replicate 16 {}).set 7 { release := true } } } }, (0), (2), (7), by decide +kernel⟩,
   ⟨wRun, (0), (2), (7), by decide +kernel⟩,
   ⟨wPut [(R.GUARD_GSTAT_COUNT 2 7, 2)], (secs 999), (2), (7), by decide +kernel⟩,
   ⟨wPut [(R.GUARD_GSTAT_LATCHED 2 7, 1)], (2), by decide +kernel⟩,
   ⟨wPut [(R.GUARD_GSTAT_LATCHED 2 7, 1), (R.PWM_CTRL_EN 2, 1)], (2), by decide +kernel⟩,
   ⟨wRun, (0), (2), (true), by decide +kernel⟩,
   ⟨{ wRun with chan := wRun.chan.set 2 { guard := { openDue := some 5 } } }, (9), (5), (2), by decide +kernel⟩,
   ⟨{ wRun with chan := wRun.chan.set 2 { guard := { closeDue := some 5 } } }, (9), (5), (2), by decide +kernel⟩⟩

/-- States and operands that meet the hypotheses of `PwmCarrierCommands`. -/
theorem witness_PwmCarrierCommands :
    (∃ (s : State) (dt : Nat) (x : Fin 8), s.cellRuns x.val = true ∧ s.shape ∧ (s.ch x.val).pwm.started = true ∧ (s.ch x.val).pwm.zeroAt + fine * periodSteps (s.ch x.val).pwm.mode (s.ch x.val).pwm.top ≤ s.now + dt)
    ∧ (∃ (s : State) (dt : Nat) (x : Fin 8), s.cellRuns x.val = true ∧ s.shape ∧ (s.ch x.val).pwm.started = false ∧ (s.elapse dt).firstZero x.val = true)
    ∧ (∃ (s : State) (dt : Nat) (x : Fin 8), s.cellRuns x.val = true ∧ (s.ch x.val).pwm.started = true ∧ (s.ch x.val).pwm.mode ≠ 0 ∧ (s.ch x.val).pwm.falling = false ∧ (s.ch x.val).pwm.zeroAt + fine * (s.ch x.val).pwm.top ≤ s.now + dt)
    ∧ (∃ (s : State) (x : Fin 8), s.cellRuns x.val = true)
    ∧ (∃ (s : State) (x : Fin 8), s.hostOpen (pgPwm x.val) = true)
    ∧ (∃ (s : State) (x : Fin 8), s.hostOpen (pgPwm x.val) = true ∧ s.shape ∧ s.flag (R.PWM_STATUS_CH_FAULT x.val) = false ∧ s.mayLeaveHusk x.val = true ∧ s.flag (R.PWM_CTRL_EN x.val) = false)
    ∧ (∃ (s : State) (x : Fin 8), s.hostOpen (pgPwm x.val) = true ∧ s.flag (R.PWM_STATUS_CH_FAULT x.val) = false ∧ s.mayLeaveHusk x.val = true ∧ s.flag (R.PWM_CTRL_EN x.val) = true)
    ∧ (∃ (s : State) (x : Fin 8), s.hostOpen (pgPwm x.val) = true ∧ (s.flag (R.PWM_STATUS_CH_FAULT x.val) = true ∨ s.mayLeaveHusk x.val = false)) :=
  ⟨⟨{ wPut [] with chan := wRun.chan.set 2 { pwm := { started := true } } }, (secs 1), (2), by decide +kernel⟩,
   ⟨wRun, (0), (2), by decide +kernel⟩,
   ⟨{ wPut [] with chan := wRun.chan.set 2 { pwm := { started := true, mode := 1 } } }, (secs 1), (2), by decide +kernel⟩,
   ⟨wRun, (2), by decide +kernel⟩,
   ⟨wPut [(R.PWM_CTRL_EN 2, 1), (R.PWM_STATUS_RUN 2, 1)], (2), by decide +kernel⟩,
   ⟨wCell, (2), by decide +kernel⟩,
   ⟨put wCell [(R.PWM_CTRL_EN 2, 1)], (2), by decide +kernel⟩,
   ⟨wPut [(R.PWM_STATUS_CH_FAULT 2, 1)], (2), by decide +kernel⟩⟩

/-- States and operands that meet the hypotheses of `PwmLegCommands`. -/
theorem witness_PwmLegCommands :
    (∃ (s : State) (dt : Nat) (x : Fin 8) (y : Fin 4), s.cellRuns x.val = true ∧ (s.ch x.val).pwm.legs.length = 4 ∧ (s.ch x.val).pwm.started = true ∧ (s.elapse dt).idealAt x.val y.val ((s.now + dt - (s.ch x.val).pwm.zeroAt) / fine) ≠ (s.leg x.val y.val).d)
    ∧ (∃ (s : State) (dt : Nat) (t0 : Nat) (x : Fin 8) (y : Fin 4) (high : Bool), s.cellRuns x.val = true ∧ ((s.leg x.val y.val).sw high).st = .on ∧ ((s.leg x.val y.val).sw high).stop = some t0 ∧ t0 ≤ s.now + dt)
    ∧ (∃ (s : State) (dt : Nat) (x : Fin 8) (y : Fin 4) (high : Bool), s.cellRuns x.val = true ∧ ((s.leg x.val y.val).sw high).st = .wait ∧ ((s.leg x.val y.val).sw high).start ≤ s.now + dt)
    ∧ (∃ (s : State) (dt : Nat) (x : Fin 8) (y : Fin 4), s.cellRuns x.val = true ∧ s.get (R.PWM_LEGCFG_BOOT_MAX_ON x.val y.val) ≠ 0 ∧ (s.leg x.val y.val).h.st = .on ∧ (s.leg x.val y.val).h.stop = none ∧ (s.leg x.val y.val).h.start + us (s.get (R.PWM_LEGCFG_BOOT_MAX_ON x.val y.val)) ≤ s.now + dt)
    ∧ (∃ (s : State) (dt : Nat) (t0 : Nat) (x : Fin 8) (y : Fin 4), s.cellRuns x.val = true ∧ (s.leg x.val y.val).refresh = some t0 ∧ t0 ≤ s.now + dt) :=
  ⟨⟨{ wPut [(R.PWM_CMP_CMP 2 1, 30000)] with chan := wRun.chan.set 2 { pwm := { started := true, mode := 1 } } }, (us 1), (2), (1), by decide +kernel⟩,
   ⟨{ wPut [] with chan := wRun.chan.set 2 { pwm := { started := true, legs := [{}, { h := { st := .on, stop := some 5 } }, {}, {}] } } }, (9), (5), (2), (1), (true), by decide +kernel⟩,
   ⟨{ wPut [] with chan := wRun.chan.set 2 { pwm := { started := true, legs := [{}, { h := { st := .wait, start := 5 } }, {}, {}] } } }, (9), (2), (1), (true), by decide +kernel⟩,
   ⟨{ wPut [(R.PWM_LEGCFG_BOOT_MAX_ON 2 1, 7)] with chan := wRun.chan.set 2 { pwm := { started := true, legs := [{}, { h := { st := .on } }, {}, {}] } } }, (secs 1), (2), (1), by decide +kernel⟩,
   ⟨{ wPut [] with chan := wRun.chan.set 2 { pwm := { started := true, legs := [{}, { refresh := some 5 }, {}, {}] } } }, (9), (5), (2), (1), by decide +kernel⟩⟩

/-- States and operands that meet the hypotheses of `CellJoinCommands`. -/
theorem witness_CellJoinCommands :
    (∃ (s : State) (x : Fin 8), s.hostOpen (pgCell x.val) = true ∧ s.cellState x.val = csHusk ∧ s.joinRefusal x.val = 0 ∧ (s.engineRead (pgCell x.val) (cellArea x.val) 0x2000).1 = true)
    ∧ (∃ (s : State) (x : Fin 8), s.hostOpen (pgCell x.val) = true ∧ s.cellState x.val = csHusk ∧ s.joinRefusal x.val ≠ 0)
    ∧ (∃ (s : State) (x : Fin 8), s.hostOpen (pgCell x.val) = true ∧ s.cellState x.val = csHusk ∧ s.joinRefusal x.val = 0 ∧ (s.engineRead (pgCell x.val) (cellArea x.val) 0x2000).1 = false)
    ∧ (∃ (s : State) (dt : Nat) (t0 : Nat) (x : Fin 8), s.cellRuns x.val = true ∧ (s.ch x.val).cell.highSince = some t0 ∧ s.cellState x.val = csWaitDc ∧ t0 + ms (s.get (R.CELL_JOIN_TIME_JOIN_MS x.val)) ≤ s.now + dt ∧ s.joinRefusal x.val = 0 ∧ (s.engineRead (pgCell x.val) (cellArea x.val) 0x2000).1 = true ∧ s.keState x.val = kRun ∧ (s.ch x.val).ke.stopping = false)
    ∧ (∃ (s : State) (dt : Nat) (t0 : Nat) (x : Fin 8), s.cellRuns x.val = true ∧ (s.ch x.val).cell.highSince = some t0 ∧ s.cellState x.val = csWaitDc ∧ t0 + ms (s.get (R.CELL_JOIN_TIME_JOIN_MS x.val)) ≤ s.now + dt ∧ s.joinRefusal x.val = 0 ∧ (s.engineRead (pgCell x.val) (cellArea x.val) 0x2000).1 = true ∧ s.keState x.val ≠ kTest ∧ s.keState x.val ≠ kRun)
    ∧ (∃ (s : State) (dt : Nat) (t0 : Nat) (x : Fin 8), s.cellRuns x.val = true ∧ (s.ch x.val).cell.highSince = some t0 ∧ s.cellState x.val = csWaitDc ∧ t0 + ms (s.get (R.CELL_JOIN_TIME_JOIN_MS x.val)) ≤ s.now + dt ∧ s.joinRefusal x.val ≠ 0)
    ∧ (∃ (s : State) (dt : Nat) (x : Fin 8), s.cellRuns x.val = true ∧ s.cellState x.val = csJoining ∧ (s.ch x.val).cell.join = .kernel ∧ (s.ch x.val).cell.joinAt + ms 1 ≤ s.now + dt)
    ∧ (∃ (s : State) (x : Fin 8), s.hostOpen (pgCell x.val) = true ∧ (s.cellState x.val = csRun ∨ s.cellState x.val = csShell))
    ∧ (∃ (s : State) (x : Fin 8), s.hostOpen (pgCell x.val) = true ∧ s.cellState x.val = csWaitDc)
    ∧ (∃ (s : State) (dt : Nat) (t0 : Nat) (x : Fin 8), s.cellRuns x.val = true ∧ (s.ch x.val).cell.lowSince = some t0 ∧ csJoining ≤ s.cellState x.val ∧ s.cellState x.val ≤ csLeaving ∧ t0 + us (s.get (R.CELL_JOIN_TIME_LEAVE_US x.val)) ≤ s.now + dt ∧ s.flag (R.CELL_CFG_AUTO_JOIN x.val) = false)
    ∧ (∃ (s : State) (dt : Nat) (x : Fin 8), s.cellRuns x.val = true ∧ (s.elapse dt).atUpdatePoint x.val = true ∧ (s.elapse dt).epochDue x.val = true ∧ s.cellState x.val = csJoining ∧ (s.ch x.val).cell.join = .epoch)
    ∧ (∃ (s : State) (dt : Nat) (x : Fin 8), s.cellRuns x.val = true ∧ (s.elapse dt).atUpdatePoint x.val = true ∧ (s.elapse dt).epochDue x.val = true ∧ s.cellState x.val = csRun ∧ (s.ch x.val).cell.shellGrant = true)
    ∧ (∃ (s : State) (dt : Nat) (x : Fin 8) (w : WindowSt), s.cellRuns x.val = true ∧ (s.elapse dt).atUpdatePoint x.val = true ∧ (s.elapse dt).epochDue x.val = true ∧ s.cellState x.val = csShell ∧ (s.ch x.val).cell.window = some w ∧ w.asked ≠ none)
    ∧ (∃ (s : State) (dt : Nat) (x : Fin 8), s.cellRuns x.val = true ∧ (s.elapse dt).atUpdatePoint x.val = true ∧ (s.elapse dt).epochDue x.val = true ∧ s.cellState x.val = csLeaving ∧ (s.ch x.val).cell.leaving = false)
    ∧ (∃ (s : State) (dt : Nat) (x : Fin 8), s.cellRuns x.val = true ∧ (s.elapse dt).atUpdatePoint x.val = true ∧ (s.elapse dt).epochDue x.val = true ∧ s.cellState x.val = csLeaving ∧ (s.ch x.val).cell.leaving = true)
    ∧ (∃ (s : State) (dt : Nat) (t0 : Nat) (x : Fin 8), s.cellRuns x.val = true ∧ (s.ch x.val).cell.lowSince = some t0 ∧ csJoining ≤ s.cellState x.val ∧ s.cellState x.val ≤ csLeaving ∧ t0 + us (s.get (R.CELL_JOIN_TIME_LEAVE_US x.val)) ≤ s.now + dt ∧ s.flag (R.CELL_CFG_AUTO_JOIN x.val) = true ∧ s.joinRefusal x.val = 0 ∧ (s.engineRead (pgCell x.val) (cellArea x.val) 0x2000).1 = true) :=
  ⟨⟨wCell, (2), by decide +kernel⟩,
   ⟨wRun, (2), by decide +kernel⟩,
   ⟨{ wCell with ecc := [(cellArea 2, 2)] }, (2), by decide +kernel⟩,
   ⟨{ put wCell [(R.CELL_STATUS_STATE 2, csWaitDc), (R.KE_ACTIVE_STATE 2, kRun)] with chan := wRun.chan.set 2 { cell := { highSince := some 0 } } }, (secs 99), (0), (2), by decide +kernel⟩,
   ⟨{ put wCell [(R.CELL_STATUS_STATE 2, csWaitDc)] with chan := wRun.chan.set 2 { cell := { highSince := some 0 } } }, (secs 99), (0), (2), by decide +kernel⟩,
   ⟨{ wPut [(R.CELL_STATUS_STATE 2, csWaitDc)] with chan := wRun.chan.set 2 { cell := { highSince := some 0 } } }, (secs 99), (0), (2), by decide +kernel⟩,
   ⟨{ wPut [(R.CELL_STATUS_STATE 2, csJoining)] with chan := wRun.chan.set 2 { cell := { join := .kernel } } }, (ms 1), (2), by decide +kernel⟩,
   ⟨wPut [(R.CELL_STATUS_STATE 2, csRun)], (2), by decide +kernel⟩,
   ⟨wPut [(R.CELL_STATUS_STATE 2, csWaitDc)], (2), by decide +kernel⟩,
   ⟨{ wPut [(R.CELL_STATUS_STATE 2, csRun), (R.CELL_CFG_AUTO_JOIN 2, 0)] with chan := wRun.chan.set 2 { cell := { lowSince := some 0 } } }, (secs 99), (0), (2), by decide +kernel⟩,
   ⟨{ { wPut [(R.CELL_STATUS_STATE 2, csJoining)] with chan := wRun.chan.set 2 { pwm := { started := true, zeroAt := 5 }, cell := { epoch := some 0, join := .epoch } } } with now := 5 }, (0), (2), by decide +kernel⟩,
   ⟨{ { wPut [(R.CELL_STATUS_STATE 2, csRun)] with chan := wRun.chan.set 2 { pwm := { started := true, zeroAt := 5 }, cell := { epoch := some 0, shellGrant := true } } } with now := 5 }, (0), (2), by decide +kernel⟩,
   ⟨{ { wPut [(R.CELL_STATUS_STATE 2, csShell)] with chan := wRun.chan.set 2 { pwm := { started := true, zeroAt := 5 }, cell := { epoch := some 0, window := some { start := 0, blockAt := 0, asked := some 0 } } } } with now := 5 }, (0), (2), ({ start := 0, blockAt := 0, asked := some 0 }), by decide +kernel⟩,
   ⟨{ { wPut [(R.CELL_STATUS_STATE 2, csLeaving)] with chan := wRun.chan.set 2 { pwm := { started := true, zeroAt := 5 }, cell := { epoch := some 0, leaving := false } } } with now := 5 }, (0), (2), by decide +kernel⟩,
   ⟨{ { wPut [(R.CELL_STATUS_STATE 2, csLeaving)] with chan := wRun.chan.set 2 { pwm := { started := true, zeroAt := 5 }, cell := { epoch := some 0, leaving := true } } } with now := 5 }, (0), (2), by decide +kernel⟩,
   ⟨{ put wCell [(R.CELL_STATUS_STATE 2, csRun), (R.CELL_CFG_AUTO_JOIN 2, 1)] with chan := wRun.chan.set 2 { cell := { lowSince := some 0 } } }, (secs 99), (0), (2), by decide +kernel⟩⟩

/-- States and operands that meet the hypotheses of `CellShellCommands`. -/
theorem witness_CellShellCommands :
    (∃ (s : State) (x : Fin 8), s.cellRuns x.val = true)
    ∧ (∃ (s : State) (x : Fin 8), s.hostOpen (pgCell x.val) = true ∧ s.shape ∧ s.flag (R.CELL_STATUS_SHELL_REQ x.val) = false ∧ s.hasPv x.val = true ∧ s.flag (R.CELL_CFG_SHELL_EN x.val) = true ∧ s.cellState x.val = csRun ∧ s.syncLost = false ∧ s.flag (R.CELL_STATUS_CURT x.val) = false ∧ s.flag (R.CELL_STATUS_SCANNING x.val) = false ∧ (s.ch x.val).cell.shellGrant = false)
    ∧ (∃ (s : State) (dt : Nat) (x : Fin 8) (w : WindowSt), s.cellRuns x.val = true ∧ (s.ch x.val).cell.window = some w ∧ s.cellState x.val = csShell ∧ w.asked = none ∧ w.blockAt + ms (s.get (R.CELL_SETTLE_CFG_BLOCK_MS x.val)) ≤ s.now + dt ∧ s.clipped x.val = true)
    ∧ (∃ (s : State) (dt : Nat) (x : Fin 8) (w : WindowSt), s.cellRuns x.val = true ∧ (s.ch x.val).cell.window = some w ∧ s.cellState x.val = csShell ∧ w.asked = none ∧ w.blockAt + ms (s.get (R.CELL_SETTLE_CFG_BLOCK_MS x.val)) ≤ s.now + dt ∧ s.clipped x.val = false ∧ w.num ≠ 0 ∧ w.last = none)
    ∧ (∃ (s : State) (dt : Nat) (x : Fin 8) (w : WindowSt) (l : Rat), s.cellRuns x.val = true ∧ (s.ch x.val).cell.window = some w ∧ s.cellState x.val = csShell ∧ w.asked = none ∧ w.blockAt + ms (s.get (R.CELL_SETTLE_CFG_BLOCK_MS x.val)) ≤ s.now + dt ∧ s.clipped x.val = false ∧ w.num ≠ 0 ∧ w.last = some l ∧ |(w.sum : Rat) / (w.num : Rat) - l| ≤ (s.get (R.CELL_SETTLE_CFG_DV x.val) : Rat))
    ∧ (∃ (s : State) (dt : Nat) (x : Fin 8) (w : WindowSt), s.cellRuns x.val = true ∧ (s.ch x.val).cell.window = some w ∧ s.cellState x.val = csShell ∧ w.asked = none ∧ w.blockAt + ms (s.get (R.CELL_SETTLE_CFG_BLOCK_MS x.val)) ≤ s.now + dt ∧ s.clipped x.val = false ∧ w.num = 0)
    ∧ (∃ (s : State) (dt : Nat) (x : Fin 8) (w : WindowSt), s.cellRuns x.val = true ∧ (s.ch x.val).cell.window = some w ∧ s.cellState x.val = csShell ∧ w.asked = none ∧ w.start + ms (s.get (R.CELL_SHELL_CFG_MAX_MS x.val)) ≤ s.now + dt)
    ∧ (∃ (s : State) (dt : Nat) (t0 : Nat) (x : Fin 8) (w : WindowSt), s.cellRuns x.val = true ∧ (s.ch x.val).cell.window = some w ∧ w.asked = some t0 ∧ s.cellState x.val = csShell ∧ (s.ch x.val).cell.epoch = none ∧ t0 + ms 1 ≤ s.now + dt)
    ∧ (∃ (s : State) (dt : Nat) (t0 : Nat) (x : Fin 8), s.cellRuns x.val = true ∧ (s.ch x.val).cell.onSince = some t0 ∧ s.hasPv x.val = true ∧ s.cellState x.val = csRun ∧ s.flag (R.CELL_STATUS_CURT x.val) = false ∧ t0 + ms (s.get (R.CELL_CURT_CFG_ON_MS x.val)) ≤ s.now + dt)
    ∧ (∃ (s : State) (dt : Nat) (t0 : Nat) (x : Fin 8), s.cellRuns x.val = true ∧ (s.ch x.val).cell.offSince = some t0 ∧ s.flag (R.CELL_STATUS_CURT x.val) = true ∧ t0 + ms (s.get (R.CELL_CURT_CFG_OFF_MS x.val)) ≤ s.now + dt) :=
  ⟨⟨wRun, (2), by decide +kernel⟩,
   ⟨wPut [(R.CELL_STATUS_STATE 2, csRun), (R.CELL_CFG_SHELL_EN 2, 1), (R.CANOPY_STATUS_SYNC_LOST, 0)], (2), by decide +kernel⟩,
   ⟨{ wPut [(R.CELL_STATUS_STATE 2, csShell), (R.CELL_SETTLE_CFG_CLIP_V 2, 1)] with chan := wRun.chan.set 2 { cell := { window := some { start := 0, blockAt := 0 } } } }, (secs 99), (2), ({ start := 0, blockAt := 0 }), by decide +kernel⟩,
   ⟨{ wPut [(R.CELL_STATUS_STATE 2, csShell), (R.CELL_SETTLE_CFG_CLIP_V 2, 0), (R.SENSE_PRI_VAL 2 0, 7)] with chan := wRun.chan.set 2 { cell := { window := some { start := 0, blockAt := 0, sum := 8, num := 2 }, pri := [5000, 1000, 0] } } }, (secs 99), (2), ({ start := 0, blockAt := 0, sum := 8, num := 2 }), by decide +kernel⟩,
   ⟨{ wPut [(R.CELL_STATUS_STATE 2, csShell), (R.CELL_SETTLE_CFG_CLIP_V 2, 0), (R.SENSE_PRI_VAL 2 0, 7)] with chan := wRun.chan.set 2 { cell := { window := some { start := 0, blockAt := 0, sum := 8, num := 2, last := some 4 }, pri := [5000, 1000, 0] } } }, (secs 99), (2), ({ start := 0, blockAt := 0, sum := 8, num := 2, last := some 4 }), (4), by decide +kernel⟩,
   ⟨{ wPut [(R.CELL_STATUS_STATE 2, csShell), (R.CELL_SETTLE_CFG_CLIP_V 2, 0), (R.SENSE_PRI_VAL 2 0, 7)] with chan := wRun.chan.set 2 { cell := { window := some { start := 0, blockAt := 0 }, pri := [5000, 1000, 0] } } }, (secs 99), (2), ({ start := 0, blockAt := 0 }), by decide +kernel⟩,
   ⟨{ wPut [(R.CELL_STATUS_STATE 2, csShell)] with chan := wRun.chan.set 2 { cell := { window := some { start := 0, blockAt := 0 } } } }, (secs 99), (2), ({ start := 0, blockAt := 0 }), by decide +kernel⟩,
   ⟨{ wPut [(R.CELL_STATUS_STATE 2, csShell)] with chan := wRun.chan.set 2 { cell := { window := some { start := 0, blockAt := 0, asked := some 0 } } } }, (ms 1), (0), (2), ({ start := 0, blockAt := 0, asked := some 0 }), by decide +kernel⟩,
   ⟨{ wPut [(R.CELL_STATUS_STATE 2, csRun)] with chan := wRun.chan.set 2 { cell := { onSince := some 0 } } }, (secs 99), (0), (2), by decide +kernel⟩,
   ⟨{ wPut [(R.CELL_STATUS_STATE 2, csRun), (R.CELL_STATUS_CURT 2, 1)] with chan := wRun.chan.set 2 { cell := { offSince := some 0 } } }, (secs 99), (0), (2), by decide +kernel⟩⟩

/-- States and operands that meet the hypotheses of `CellTrackingCommands`. -/
theorem witness_CellTrackingCommands :
    (∃ (s : State) (dt : Nat) (x : Fin 8), s.cellRuns x.val = true ∧ s.hasPv x.val = true ∧ s.flag (R.CELL_CFG_PO_EN x.val) = true ∧ s.cellState x.val = csRun ∧ s.flag (R.CELL_STATUS_CURT x.val) = false ∧ (s.ch x.val).cell.scan = none ∧ (s.ch x.val).cell.poNum ≠ 0 ∧ (s.ch x.val).cell.poAt + ms (s.get (R.CELL_PO_CFG_PERIOD_MS x.val)) ≤ s.now + dt)
    ∧ (∃ (s : State) (dt : Nat) (x : Fin 8), s.cellRuns x.val = true ∧ s.hasPv x.val = true ∧ s.flag (R.CELL_CFG_PO_EN x.val) = false ∧ s.cellState x.val = csRun ∧ s.flag (R.CELL_STATUS_CURT x.val) = false ∧ (s.ch x.val).cell.scan = none ∧ (s.ch x.val).cell.poAt + ms (s.get (R.CELL_PO_CFG_PERIOD_MS x.val)) ≤ s.now + dt)
    ∧ (∃ (s : State) (dt : Nat) (t0 : Nat) (x : Fin 8), s.cellRuns x.val = true ∧ (s.ch x.val).cell.scanDue = some t0 ∧ t0 ≤ s.now + dt ∧ (s.ch x.val).cell.scan = none ∧ s.flag (R.CELL_CFG_SCAN_EN x.val) = true ∧ s.cellState x.val = csRun ∧ s.flag (R.CELL_STATUS_CURT x.val) = false ∧ (s.ch x.val).cell.vocValid = true ∧ (s.ch x.val).cell.window = none)
    ∧ (∃ (s : State) (x : Fin 8), s.hostOpen (pgCell x.val) = true ∧ (s.ch x.val).cell.scan = none ∧ s.flag (R.CELL_CFG_SCAN_EN x.val) = true ∧ s.cellState x.val = csRun ∧ s.flag (R.CELL_STATUS_CURT x.val) = false ∧ (s.ch x.val).cell.vocValid = true ∧ (s.ch x.val).cell.window = none)
    ∧ (∃ (s : State) (dt : Nat) (x : Fin 8) (c : ScanSt), s.cellRuns x.val = true ∧ (s.ch x.val).cell.scan = some c ∧ c.at_ + ms (s.get (R.CELL_SCAN_CFG_DWELL_MS x.val)) ≤ s.now + dt ∧ c.k = 0)
    ∧ (∃ (s : State) (dt : Nat) (x : Fin 8) (c : ScanSt), s.cellRuns x.val = true ∧ (s.ch x.val).cell.scan = some c ∧ c.at_ + ms (s.get (R.CELL_SCAN_CFG_DWELL_MS x.val)) ≤ s.now + dt ∧ c.k ≠ 0 ∧ c.num ≠ 0) :=
  ⟨⟨{ wPut [(R.CELL_STATUS_STATE 2, csRun), (R.CELL_CFG_PO_EN 2, 1)] with chan := wRun.chan.set 2 { cell := { poNum := 2, poSum := 8, pLast := 9 } } }, (secs 99), (2), by decide +kernel⟩,
   ⟨wPut [(R.CELL_STATUS_STATE 2, csRun), (R.CELL_CFG_PO_EN 2, 0)], (secs 99), (2), by decide +kernel⟩,
   ⟨{ wPut [(R.CELL_STATUS_STATE 2, csRun), (R.CELL_CFG_SCAN_EN 2, 1)] with chan := wRun.chan.set 2 { cell := { scanDue := some 5, vocValid := true } } }, (9), (5), (2), by decide +kernel⟩,
   ⟨{ wPut [(R.CELL_STATUS_STATE 2, csRun), (R.CELL_CFG_SCAN_EN 2, 1)] with chan := wRun.chan.set 2 { cell := { vocValid := true } } }, (2), by decide +kernel⟩,
   ⟨{ wPut [] with chan := wRun.chan.set 2 { cell := { scan := some { k := 0, at_ := 0, num := 1, vref := 0 } } } }, (secs 99), (2), ({ k := 0, at_ := 0, num := 1, vref := 0 }), by decide +kernel⟩,
   ⟨{ wPut [] with chan := wRun.chan.set 2 { cell := { scan := some { k := 3, at_ := 0, num := 1, vref := 0 } } } }, (secs 99), (2), ({ k := 3, at_ := 0, num := 1, vref := 0 }), by decide +kernel⟩⟩

/-- States and operands that meet the hypotheses of `KernelCommands`. -/
theorem witness_KernelCommands :
    (∃ (s : State) (dt : Nat) (x : Fin 8) (p : KeSample), s.cellRuns x.val = true ∧ (s.ch x.val).ke.sample = some p ∧ p.written = false ∧ p.at_ + 448 * cellCycle ≤ s.now + dt)
    ∧ (∃ (s : State) (dt : Nat) (x : Fin 8) (p : KeSample), s.cellRuns x.val = true ∧ (s.ch x.val).ke.sample = some p ∧ p.written = true ∧ p.at_ + 608 * cellCycle ≤ s.now + dt)
    ∧ (∃ (s : State) (x : Fin 8) (v : KeValid), s.cellRuns x.val = true ∧ (s.ch x.val).ke.valid = some v ∧ (s.schedRead x.val v.sched).1 = true ∧ s.schedValid x.val v.sched = true)
    ∧ (∃ (s : State) (x : Fin 8) (v : KeValid), s.cellRuns x.val = true ∧ (s.ch x.val).ke.valid = some v ∧ (s.schedRead x.val v.sched).1 = true ∧ s.schedValid x.val v.sched = false ∧ v.commit = true)
    ∧ (∃ (s : State) (x : Fin 8) (v : KeValid), s.cellRuns x.val = true ∧ (s.ch x.val).ke.valid = some v ∧ (s.schedRead x.val v.sched).1 = true ∧ s.schedValid x.val v.sched = false ∧ v.commit = false)
    ∧ (∃ (s : State) (x : Fin 8) (v : KeValid), s.cellRuns x.val = true ∧ (s.ch x.val).ke.valid = some v ∧ (s.schedRead x.val v.sched).1 = false)
    ∧ (∃ (s : State) (x : Fin 8), s.hostOpen (pgKe x.val) = true ∧ s.flag (R.PWM_STATUS_CH_FAULT x.val) = false ∧ s.flag (R.KE_STATUS_TEST_FAIL x.val) = false ∧ s.keState x.val ≠ kTest)
    ∧ (∃ (s : State) (x : Fin 8), s.hostOpen (pgKe x.val) = true ∧ (s.flag (R.PWM_STATUS_CH_FAULT x.val) = true ∨ s.flag (R.KE_STATUS_TEST_FAIL x.val) = true ∨ s.keState x.val = kTest))
    ∧ (∃ (s : State) (x : Fin 8), s.hostOpen (pgKe x.val) = true ∧ s.flag (R.KE_CTRL_EN x.val) = true ∧ s.flag (R.PWM_CTRL_EN x.val) = false)
    ∧ (∃ (s : State) (x : Fin 8), s.hostOpen (pgKe x.val) = true ∧ s.flag (R.KE_CTRL_EN x.val) = true ∧ s.flag (R.PWM_CTRL_EN x.val) = true ∧ (List.range 4).any (s.legKernel x.val) = true)
    ∧ (∃ (s : State) (x : Fin 8), s.hostOpen (pgKe x.val) = true ∧ s.shape ∧ s.flag (R.KE_CTRL_EN x.val) = false ∧ s.flag (R.PWM_CTRL_EN x.val) = false ∧ s.keState x.val ≠ kTest)
    ∧ (∃ (s : State) (dt : Nat) (x : Fin 8), s.cellRuns x.val = true ∧ s.keState x.val = kTest ∧ (s.ch x.val).ke.testEnd ≤ s.now + dt) :=
  ⟨⟨{ wPut [] with chan := wRun.chan.set 2 { ke := { sample := some { at_ := 0, idx := [5, -6, 7, 8], lim := [true, false, false, false], raised := [], sc := [], ubar := [], r := [], w := [], bank := 0 } } } }, (us 2), (2), ({ at_ := 0, idx := [5, -6, 7, 8], lim := [true, false, false, false], raised := [], sc := [], ubar := [], r := [], w := [], bank := 0 }), by decide +kernel⟩,
   ⟨{ wPut [] with chan := wRun.chan.set 2 { ke := { sample := some { at_ := 0, idx := [5, -6, 7, 8], lim := [true, false, false, false], raised := [], sc := [], ubar := [], r := [], w := [], bank := 0, written := true } } } }, (us 2), (2), ({ at_ := 0, idx := [5, -6, 7, 8], lim := [true, false, false, false], raised := [], sc := [], ubar := [], r := [], w := [], bank := 0, written := true }), by decide +kernel⟩,
   ⟨{ { wPut [(R.BOOT_TBL_VALID_KE, 255)] with chan := wRun.chan.set 2 { ke := { valid := some ⟨1, true, 0⟩ } } } with mem := wSched }, (2), (⟨1, true, 0⟩), by decide +kernel⟩,
   ⟨{ wPut [] with chan := wRun.chan.set 2 { ke := { valid := some ⟨1, true, 0⟩ } } }, (2), (⟨1, true, 0⟩), by decide +kernel⟩,
   ⟨{ wPut [] with chan := wRun.chan.set 2 { ke := { valid := some ⟨1, false, 0⟩ } } }, (2), (⟨1, false, 0⟩), by decide +kernel⟩,
   ⟨{ { wPut [] with chan := wRun.chan.set 2 { ke := { valid := some ⟨1, false, 0⟩ } } } with ecc := [(schedBase 2 1, 2)] }, (2), (⟨1, false, 0⟩), by decide +kernel⟩,
   ⟨wRun, (2), by decide +kernel⟩,
   ⟨wPut [(R.PWM_STATUS_CH_FAULT 2, 1)], (2), by decide +kernel⟩,
   ⟨wPut [(R.KE_CTRL_EN 2, 1)], (2), by decide +kernel⟩,
   ⟨wPut [(R.KE_CTRL_EN 2, 1), (R.PWM_CTRL_EN 2, 1), (R.PWM_LEGCFG_SRC 2 1, 1)], (2), by decide +kernel⟩,
   ⟨wRun, (2), by decide +kernel⟩,
   ⟨wPut [(R.KE_ACTIVE_STATE 2, kTest)], (secs 1), (2), by decide +kernel⟩⟩

/-- States and operands that meet the hypotheses of `TriggerCommands`. -/
theorem witness_TriggerCommands :
    (∃ (s : State) (dt : Nat) (u : Fin 13) (cell : Fin 8) (kind : TrigKind) (age : Nat), s.cellRuns cell.val = true ∧ (s.ch cell.val).pwm.started = true ∧ u.val = cell.val ∧ trigMatch (s.get (R.SENSE_TRIG_SRC u.val)) (s.get (R.SENSE_TRIG_LEG u.val)) (s.ch cell.val).pwm.mode kind = true ∧ s.carrierMade cell.val (s.now + dt - age) kind = true ∧ ((s.ch u.val).sense.trig.filter (fun e => decide (s.now + dt < e))).length < 4)
    ∧ (∃ (s : State) (dt : Nat) (u : Fin 13) (cell : Fin 8) (kind : TrigKind) (age : Nat) (n : Nat), s.cellRuns cell.val = true ∧ (s.ch cell.val).pwm.started = true ∧ u.val = 8 + n ∧ s.gridRuns = true ∧ s.shape ∧ s.get (R.SAR_TRIG_CELL n) = cell.val ∧ trigMatch (s.get (R.SAR_TRIG_SRC n)) (s.get (R.SAR_TRIG_LEG n)) (s.ch cell.val).pwm.mode kind = true ∧ s.carrierMade cell.val (s.now + dt - age) kind = true ∧ ((s.sarSt n).trig.filter (fun e => decide (s.now + dt < e))).length < 4)
    ∧ (∃ (s : State) (dt : Nat) (u : Fin 13), u.val < 8 ∧ s.cellRuns u.val = true ∧ s.shape ∧ s.get (R.SENSE_TRIG_SRC u.val) = 5 ∧ (s.elapse dt).timerDue (.cell u.val) (s.get (R.SENSE_TMR_PERIOD_NS u.val)) (s.get (R.SENSE_TMR_PHASE_NS u.val)) (s.ch u.val).sense.tmrAt = true ∧ ((s.ch u.val).sense.trig.filter (fun e => decide (s.now + dt < e))).length < 4)
    ∧ (∃ (s : State) (dt : Nat) (n : Nat) (u : Fin 13), u.val = 8 + n ∧ s.gridRuns = true ∧ s.shape ∧ s.get (R.SAR_TRIG_SRC n) = 5 ∧ (s.elapse dt).timerDue .grid (s.get (R.SAR_TMR_PERIOD_NS n)) (s.get (R.SAR_TMR_PHASE_NS n)) (s.sarSt n).tmrAt = true ∧ ((s.sarSt n).trig.filter (fun e => decide (s.now + dt < e))).length < 4)
    ∧ (∃ (s : State) (dt : Nat) (u : Fin 13), u.val < 8 ∧ s.cellRuns u.val = true ∧ s.get (R.SENSE_TRIG_SRC u.val) = 5 ∧ (s.elapse dt).timerDue (.cell u.val) (s.get (R.SENSE_TMR_PERIOD_NS u.val)) (s.get (R.SENSE_TMR_PHASE_NS u.val)) (s.ch u.val).sense.tmrAt = true ∧ 4 ≤ ((s.ch u.val).sense.trig.filter (fun e => decide (s.now + dt < e))).length)
    ∧ (∃ (s : State) (dt : Nat) (u : Fin 13), u.val < 8 ∧ s.hostOpen (pgSense u.val) = true ∧ s.shape ∧ ((s.ch u.val).sense.trig.filter (fun e => decide (s.now + dt < e))).length < 4)
    ∧ (∃ (s : State) (x : Fin 8), s.sdRuns x.val = false)
    ∧ (∃ (s : State) (dt : Nat) (x : Fin 8), s.sdRuns x.val = true ∧ (s.ch x.val).sense.trig.any (fun e => (s.elapse dt).firstEdge x.val e) = true ∧ s.staged.lookup (R.SENSE_SAMPLE_T_NS x.val).key = none ∧ s.sys.dropped.all (fun d => (d.2.2.1.lookup (R.SENSE_SAMPLE_T_NS x.val).key).isNone) = true ∧ s.staged.lookup (R.SENSE_SAMPLE_SEQ_COUNT x.val).key = none ∧ s.sys.dropped.all (fun d => (d.2.2.1.lookup (R.SENSE_SAMPLE_SEQ_COUNT x.val).key).isNone) = true) :=
  ⟨⟨{ wPut [(R.SENSE_TRIG_SRC 2, 1)] with chan := wRun.chan.set 2 { pwm := { started := true, zeroAt := 8 } } }, (9), (2), (2), (.zero), (1), by decide +kernel⟩,
   ⟨{ wPut [(R.SAR_TRIG_SRC 3, 1), (R.SAR_TRIG_CELL 3, 2)] with chan := wRun.chan.set 2 { pwm := { started := true, zeroAt := 8 } } }, (9), (11), (2), (.zero), (1), (3), by decide +kernel⟩,
   ⟨wPut [(R.SENSE_TRIG_SRC 2, 5), (R.SENSE_TMR_PERIOD_NS 2, 1000)], (ns 1000), (2), by decide +kernel⟩,
   ⟨wPut [(R.SAR_TRIG_SRC 3, 5), (R.SAR_TMR_PERIOD_NS 3, 1000)], (ns 1000), (3), (11), by decide +kernel⟩,
   ⟨{ wPut [(R.SENSE_TRIG_SRC 2, 5), (R.SENSE_TMR_PERIOD_NS 2, 1000)] with chan := wRun.chan.set 2 { sense := { trig := [64090, 64091, 64092, 64093] } } }, (ns 1000), (2), by decide +kernel⟩,
   ⟨wRun, (9), (2), by decide +kernel⟩,
   ⟨{ wPut [] with chan := wRun.chan.set 2 { sense := { trig := [5, 90] } } }, (2), by decide +kernel⟩,
   ⟨{ wPut [(R.SENSE_SD_CLK_EN 2, 1)] with chan := wRun.chan.set 2 { sense := { trig := [0, 90] } } }, (9), (2), by decide +kernel⟩⟩

/-- States and operands that meet the hypotheses of `SensingInputCommands`. -/
theorem witness_SensingInputCommands :
    (∃ (s : State) (dt : Nat) (x : Fin 8) (n : Fin 6) (bits : List (Fin 64)), s.sdRuns x.val = true ∧ s.inOn x.val n.val = true ∧ 64 ≤ (((s.elapse dt).feed x.val bits).sdIn x.val n.val).run ∧ (s.get (R.SENSE_FB_STAT_LOSS x.val)).testBit n.val = false)
    ∧ (∃ (s : State) (dt : Nat) (x : Fin 8) (n : Fin 6) (bits : List (Fin 64)), s.sdRuns x.val = true ∧ s.inOn x.val n.val = true ∧ (((s.elapse dt).feed x.val bits).sdIn x.val n.val).run < 64 ∧ (s.get (R.SENSE_FB_STAT_LOSS x.val)).testBit n.val = true)
    ∧ (∃ (s : State) (dt : Nat) (x : Fin 8) (n : Fin 6) (bits : List (Fin 64)), s.sdRuns x.val = true ∧ s.inOn x.val n.val = true ∧ (s.get (R.SENSE_FB_STAT_FREEZE x.val)).testBit n.val = false ∧ s.get (R.SENSE_FILT_CFG_FREEZE_N x.val) ≤ (((s.elapse dt).feed x.val bits).sdIn x.val n.val).rawRun)
    ∧ (∃ (s : State) (dt : Nat) (x : Fin 8) (m : Fin 12) (bits : List (Fin 64)), s.sdRuns x.val = true ∧ s.inOn x.val (m.val / 2) = true ∧ s.get (R.SENSE_CMP_CFG_FILT x.val m.val) < ((s.elapse dt).feed x.val bits).cmpRun x.val m.val ∧ s.cmpOut x.val m.val = false)
    ∧ (∃ (s : State) (dt : Nat) (x : Fin 8) (m : Fin 12) (bits : List (Fin 64)), s.sdRuns x.val = true ∧ s.inOn x.val (m.val / 2) = true ∧ s.get (R.SENSE_CMP_CFG_FILT x.val m.val) < ((s.elapse dt).feed x.val bits).cmpRun x.val m.val ∧ s.cmpOut x.val m.val = true)
    ∧ (∃ (s : State) (w : Nat) (x : Fin 8), s.hostOpen (pgSense x.val) = true ∧ s.flag (R.SENSE_SD_CLK_EN x.val) = false ∧ 16 ≤ bitsOf (w % 2 ^ 32) 0 6 ∧ bitsOf (w % 2 ^ 32) 0 6 ≤ 40 ∧ bitsOf (w % 2 ^ 32) 8 6 < bitsOf (w % 2 ^ 32) 0 6)
    ∧ (∃ (s : State) (w : Nat) (x : Fin 8), s.hostOpen (pgSense x.val) = true ∧ (bitsOf (w % 2 ^ 32) 0 6 < 16 ∨ 40 < bitsOf (w % 2 ^ 32) 0 6 ∨ bitsOf (w % 2 ^ 32) 0 6 ≤ bitsOf (w % 2 ^ 32) 8 6))
    ∧ (∃ (s : State) (x : Fin 8), s.hostOpen (pgSense x.val) = true)
    ∧ (∃ (s : State) (x : Fin 8), s.hostOpen (pgSense x.val) = true) :=
  ⟨⟨wPut [(R.SENSE_SD_CLK_EN 2, 1), (R.SENSE_CH_EN_EN 2, 63)], (9), (2), (3), (List.replicate 64 63), by decide +kernel⟩,
   ⟨wPut [(R.SENSE_SD_CLK_EN 2, 1), (R.SENSE_CH_EN_EN 2, 63), (R.SENSE_FB_STAT_LOSS 2, 8)], (9), (2), (3), ([0, 63]), by decide +kernel⟩,
   ⟨{ wPut [(R.SENSE_SD_CLK_EN 2, 1), (R.SENSE_CH_EN_EN 2, 63)] with chan := wRun.chan.set 2 { sense := { ins := List.replicate 6 { rawRun := 999 } } } }, (9), (2), (3), ([0, 63]), by decide +kernel⟩,
   ⟨{ wPut [(R.SENSE_SD_CLK_EN 2, 1), (R.SENSE_CH_EN_EN 2, 63)] with chan := wRun.chan.set 2 { sense := { ins := List.replicate 6 { cmpA := 99 } } } }, (9), (2), (6), ([]), by decide +kernel⟩,
   ⟨{ wPut [(R.SENSE_SD_CLK_EN 2, 1), (R.SENSE_CH_EN_EN 2, 63), (R.SENSE_CMP_STAT_OUT 2, 64), (R.PWM_FSRC_LO_ACTIVE 2, 64)] with chan := wRun.chan.set 2 { sense := { ins := List.replicate 6 { cmpA := 99 } } } }, (9), (2), (6), ([]), by decide +kernel⟩,
   ⟨wRun, (0x10314), (2), by decide +kernel⟩,
   ⟨wRun, (5), (2), by decide +kernel⟩,
   ⟨wRun, (2), by decide +kernel⟩,
   ⟨wPut [(R.SENSE_CMP_STAT_OUT 2, 64)], (2), by decide +kernel⟩⟩

/-- States and operands that meet the hypotheses of `SarPassCommands`. -/
theorem witness_SarPassCommands :
    (∃ (s : State) (dt : Nat) (n : Fin 5) (rest : List Nat), s.gridRuns = true ∧ s.sarRuns = true ∧ takeTarget (s.sarSt n.val).trig (s.now + dt) = some rest ∧ s.sarFree n.val = true ∧ (s.sarSt n.val).pend = none)
    ∧ (∃ (s : State) (dt : Nat) (n : Fin 5) (rest : List Nat), s.gridRuns = true ∧ s.sarRuns = true ∧ takeTarget (s.sarSt n.val).trig (s.now + dt) = some rest ∧ s.sarFree n.val = false ∧ (s.sarSt n.val).pend = none ∧ s.flag (R.SAR_SEQ_CFG_TRIG_POLICY n.val) = false)
    ∧ (∃ (s : State) (dt : Nat) (f : Nat) (n : Fin 5) (rest : List Nat), s.gridRuns = true ∧ s.sarRuns = true ∧ takeTarget (s.sarSt n.val).trig (s.now + dt) = some rest ∧ (s.sarSt n.val).pend = some f ∧ s.flag (R.SAR_SEQ_CFG_TRIG_POLICY n.val) = false)
    ∧ (∃ (s : State) (dt : Nat) (n : Fin 5) (rest : List Nat) (p : SarPass), s.gridRuns = true ∧ s.sarRuns = true ∧ takeTarget (s.sarSt n.val).trig (s.now + dt) = some rest ∧ (s.sarSt n.val).pass = some p ∧ s.flag (R.SAR_SEQ_CFG_TRIG_POLICY n.val) = true ∧ p.t0 ≤ s.now + dt)
    ∧ (∃ (s : State) (dt : Nat) (n : Fin 5) (rest : List Nat) (p : SarPass), s.gridRuns = true ∧ s.sarRuns = true ∧ takeTarget (s.sarSt n.val).trig (s.now + dt) = some rest ∧ (s.sarSt n.val).pass = some p ∧ s.flag (R.SAR_SEQ_CFG_TRIG_POLICY n.val) = true ∧ s.now + dt < p.t0)
    ∧ (∃ (s : State) (dt : Nat) (n : Fin 5) (p : SarPass), s.sarRuns = true ∧ (s.sarSt n.val).pass = some p ∧ p.idx < 16 ∧ p.idx ≤ s.get (R.SAR_SEQ_CFG_LEN n.val) ∧ p.ends ≤ s.now + dt ∧ s.lostNext 8 = true ∧ (s.sarSt n.val).restart = none)
    ∧ (∃ (s : State) (dt : Nat) (f : Nat) (n : Fin 5) (p : SarPass), s.sarRuns = true ∧ (s.sarSt n.val).pass = some p ∧ p.idx < 16 ∧ p.idx ≤ s.get (R.SAR_SEQ_CFG_LEN n.val) ∧ p.ends ≤ s.now + dt ∧ (s.sarSt n.val).restart = some f)
    ∧ (∃ (s : State) (dt : Nat) (n : Fin 5) (p : SarPass), s.sarRuns = true ∧ s.lostNext 8 = false ∧ (s.sarSt n.val).pass = some p ∧ (s.sarSt n.val).restart = none ∧ p.idx < 16 ∧ p.idx ≤ s.get (R.SAR_SEQ_CFG_LEN n.val) ∧ p.ends ≤ s.now + dt)
    ∧ (∃ (s : State) (dt : Nat) (n : Fin 5) (p : SarPass), s.sarRuns = true ∧ (s.sarSt n.val).pass = some p ∧ s.get (R.SAR_SEQ_CFG_LEN n.val) < p.idx ∧ ((s.elapse dt).undrop (pgSar n.val)).commitWaits (pgSar n.val) = false ∧ (s.sarSt n.val).pend = none ∧ (s.sarSt n.val).restart = none ∧ s.get (R.SAR_TRIG_SRC n.val) ≠ 7)
    ∧ (∃ (s : State) (dt : Nat) (t0 : Nat) (p : Fin 2) (v : Int) (c : Bool), s.sarRuns = true ∧ (s.sarSt (2 * p.val)).pairNew = some (v, c, t0) ∧ t0 + ms 1 ≤ s.now + dt) :=
  ⟨⟨{ wPut [] with sar := wRun.sar.set 3 { trig := [5] } }, (9), (3), ([]), by decide +kernel⟩,
   ⟨{ wPut [] with sar := wRun.sar.set 3 { trig := [5], pass := some { fireAt := 0, t0 := 0, stamp := 0, ends := 0 } } }, (9), (3), ([]), by decide +kernel⟩,
   ⟨{ wPut [] with sar := wRun.sar.set 3 { trig := [5], pend := some 4 } }, (9), (4), (3), ([]), by decide +kernel⟩,
   ⟨{ wPut [(R.SAR_SEQ_CFG_TRIG_POLICY 3, 1)] with sar := wRun.sar.set 3 { trig := [5], pass := some { fireAt := 0, t0 := 0, stamp := 0, ends := 0 } } }, (9), (3), ([]), ({ fireAt := 0, t0 := 0, stamp := 0, ends := 0 }), by decide +kernel⟩,
   ⟨{ wPut [(R.SAR_SEQ_CFG_TRIG_POLICY 3, 1)] with sar := wRun.sar.set 3 { trig := [5], pass := some { fireAt := 0, t0 := 90, stamp := 0, ends := 0 } } }, (9), (3), ([]), ({ fireAt := 0, t0 := 90, stamp := 0, ends := 0 }), by decide +kernel⟩,
   ⟨{ wPut [] with sar := wRun.sar.set 3 { pass := some { fireAt := 0, t0 := 0, stamp := 0, ends := 0 } }, sys := { wRun.sys with lostWord := [8] } }, (9), (3), ({ fireAt := 0, t0 := 0, stamp := 0, ends := 0 }), by decide +kernel⟩,
   ⟨{ wPut [] with sar := wRun.sar.set 3 { restart := some 5, pass := some { fireAt := 0, t0 := 0, stamp := 0, ends := 0 } } }, (9), (5), (3), ({ fireAt := 0, t0 := 0, stamp := 0, ends := 0 }), by decide +kernel⟩,
   ⟨{ wPut [] with sar := wRun.sar.set 3 { pass := some { fireAt := 0, t0 := 0, stamp := 0, ends := 0 } } }, (9), (3), ({ fireAt := 0, t0 := 0, stamp := 0, ends := 0 }), by decide +kernel⟩,
   ⟨{ wPut [] with sar := wRun.sar.set 3 { pass := some { idx := 16, fireAt := 0, t0 := 0, stamp := 7, ends := 0 } } }, (9), (3), ({ idx := 16, fireAt := 0, t0 := 0, stamp := 7, ends := 0 }), by decide +kernel⟩,
   ⟨{ wPut [] with sar := wRun.sar.set 2 { pairNew := some (7, false, 0) } }, (ms 1), (0), (1), (7), (false), by decide +kernel⟩⟩

/-- States and operands that meet the hypotheses of `SarCalibrationCommands`. -/
theorem witness_SarCalibrationCommands :
    (∃ (s : State) (n : Fin 5) (p : SarPass), s.hostOpen (pgSar n.val) = true ∧ (s.sarSt n.val).pass = some p ∧ (s.sarSt n.val).calReq = none)
    ∧ (∃ (s : State) (n : Fin 5), s.hostOpen (pgSar n.val) = true ∧ s.sarRuns = true ∧ s.shape ∧ n.val ≠ 4 ∧ (s.sarSt n.val).pass = none ∧ (s.sarSt n.val).calReq = none ∧ (s.sarSt n.val).calEnd = none ∧ (s.sarSt n.val).pend = none ∧ s.roverQ.contains n.val = false ∧ s.flag (R.SAR_CAL_CFG_ROVER n.val) = false ∧ s.get (R.SAR_TRIG_SRC n.val) = 0)
    ∧ (∃ (s : State) (dt : Nat) (n : Fin 5) (p : SarPass), s.sarRuns = true ∧ s.get (R.SAR_CAL_CFG_PERIOD_S n.val) ≠ 0 ∧ (s.sarSt n.val).periodAt + secs (s.get (R.SAR_CAL_CFG_PERIOD_S n.val)) ≤ s.now + dt ∧ (s.sarSt n.val).calReq = none ∧ (s.sarSt n.val).pass = some p)
    ∧ (∃ (s : State) (dt : Nat) (t0 : Nat) (n : Fin 5), s.sarRuns = true ∧ (s.sarSt n.val).calEnd = some t0 ∧ t0 ≤ s.now + dt ∧ s.roverQ = [] ∧ (s.sarSt n.val).calReq = none)
    ∧ (∃ (s : State) (dt : Nat) (t0 : Nat) (n : Fin 5), s.sarRuns = true ∧ (s.sarSt n.val).calReq = some t0 ∧ t0 + ms 100 ≤ s.now + dt ∧ n.val ≠ 4 ∧ s.roverQ.contains n.val = false ∧ s.roverBusy = true)
    ∧ (∃ (s : State) (dt : Nat) (t0 : Nat) (n : Fin 5), s.sarRuns = true ∧ (s.sarSt n.val).calReq = some t0 ∧ t0 + ms 100 ≤ s.now + dt ∧ n.val ≠ 4 ∧ (s.elapse dt).roverQueue.roverQ = [n.val] ∧ s.roverBusy = false ∧ (s.sarSt 4).pass = none ∧ (s.sarSt 4).calEnd = none ∧ (s.sarSt n.val).pass = none ∧ (s.sarSt n.val).calEnd = none)
    ∧ (∃ (s : State) (dt : Nat) (t0 : Nat) (n : Fin 5) (p : SarPass), s.sarRuns = true ∧ (s.sarSt n.val).calReq = some t0 ∧ t0 + ms 100 ≤ s.now + dt ∧ n.val = 4 ∧ (s.sarSt 4).pass = some p) :=
  ⟨⟨{ wPut [] with sar := wRun.sar.set 3 { pass := some { fireAt := 0, t0 := 0, stamp := 0, ends := 0 } } }, (3), ({ fireAt := 0, t0 := 0, stamp := 0, ends := 0 }), by decide +kernel⟩,
   ⟨wRun, (3), by decide +kernel⟩,
   ⟨{ wPut [(R.SAR_CAL_CFG_PERIOD_S 3, 2)] with sar := wRun.sar.set 3 { pass := some { fireAt := 0, t0 := 0, stamp := 0, ends := 0 } } }, (secs 5), (3), ({ fireAt := 0, t0 := 0, stamp := 0, ends := 0 }), by decide +kernel⟩,
   ⟨{ wPut [] with sar := wRun.sar.set 3 { calEnd := some 5 } }, (9), (5), (3), by decide +kernel⟩,
   ⟨{ wPut [(R.SAR_CAL_CFG_SUBST 4, 1)] with sar := wRun.sar.set 3 { calReq := some 0 } }, (ms 100), (0), (3), by decide +kernel⟩,
   ⟨{ wPut [] with sar := wRun.sar.set 3 { calReq := some 0 } }, (ms 100), (0), (3), by decide +kernel⟩,
   ⟨{ wPut [] with sar := wRun.sar.set 4 { calReq := some 0, pass := some { fireAt := 0, t0 := 0, stamp := 0, ends := 0 } } }, (ms 100), (0), (4), ({ fireAt := 0, t0 := 0, stamp := 0, ends := 0 }), by decide +kernel⟩⟩

/-- States and operands that meet the hypotheses of `CaptureCommands`. -/
theorem witness_CaptureCommands :
    (∃ (s : State) (x : Fin 8), s.hostOpen (pgSap x.val) = true ∧ s.shape ∧ s.captActive x.val = false ∧ s.armOk x.val = true ∧ (s.maskRead x.val (decide (s.get (R.SAP_CFG_MASK_MODE x.val) ≠ 0))).1 = true)
    ∧ (∃ (s : State) (x : Fin 8), s.hostOpen (pgSap x.val) = true ∧ s.captActive x.val = false ∧ (s.maskRead x.val (decide (s.get (R.SAP_CFG_MASK_MODE x.val) ≠ 0))).1 = false)
    ∧ (∃ (s : State) (x : Fin 8), s.hostOpen (pgSap x.val) = true ∧ s.captActive x.val = true)
    ∧ (∃ (s : State) (x : Fin 8), s.hostOpen (pgSap x.val) = true ∧ s.captActive x.val = false ∧ s.armOk x.val = false ∧ s.ecc = [])
    ∧ (∃ (s : State) (x : Fin 8), s.hostOpen (pgSap x.val) = true ∧ s.captActive x.val = true ∧ (s.capt1 x.val).pend = [] ∧ (s.capt1 x.val).gNum = 0)
    ∧ (∃ (s : State) (x : Fin 8), s.hostOpen (pgSap x.val) = true ∧ s.captActive x.val = true ∧ s.shape ∧ ((s.capt1 x.val).pend ≠ [] ∨ (s.capt1 x.val).gNum ≠ 0))
    ∧ (∃ (s : State) (x : Fin 8), s.hostOpen (pgSap x.val) = true ∧ s.hwRuns = true ∧ s.shape ∧ s.get (R.SAP_STATUS_STATE x.val) = csArmed)
    ∧ (∃ (s : State) (x : Fin 8), s.hostOpen (pgSap x.val) = true ∧ s.hwRuns = true ∧ s.get (R.SAP_STATUS_STATE x.val) = csPost)
    ∧ (∃ (s : State) (dt : Nat) (t0 : Nat) (a : Nat) (x : Fin 8), s.hwRuns = true ∧ s.captActive x.val = true ∧ (s.elapse dt).clockTime x.val = some t0 ∧ (s.capt1 x.val).lastAt = some a ∧ s.now + dt < a + ns 1500)
    ∧ (∃ (s : State) (dt : Nat) (t0 : Nat) (x : Fin 8), s.hwRuns = true ∧ s.captActive x.val = true ∧ (s.elapse dt).clockTime x.val = some t0 ∧ (s.capt1 x.val).lastAt = none ∧ (s.capt1 x.val).armReq = false ∧ s.get (R.SAP_STATUS_STATE x.val) = csArmed ∧ s.get (R.SAP_RED_FACTOR x.val) = 1 ∧ s.get (R.SAP_CFG_MASK_MODE x.val) = 0 ∧ s.get (R.SAP_TRIG_CFG_SRC x.val) ≠ 1 ∧ (s.capt1 x.val).pend = [])
    ∧ (∃ (s : State) (dt : Nat) (t0 : Nat) (x : Fin 8), s.hwRuns = true ∧ s.captActive x.val = false ∧ (s.capt1 x.val).armReq = true ∧ (s.elapse dt).clockTime x.val = some t0 ∧ (s.capt1 x.val).lastAt = none ∧ s.get (R.SAP_RED_FACTOR x.val) = 1 ∧ s.get (R.SAP_CFG_MASK_MODE x.val) = 0 ∧ s.get (R.SAP_TRIG_CFG_SRC x.val) ≠ 1) :=
  ⟨⟨wPut [(R.SAP_CFG_BUF_SIZE 2, 1), (R.SAP_CFG_NCH 2, 1), (R.SAP_PRE_SETS 2, 0), (R.SAP_POST_SETS 2, 0)], (2), by decide +kernel⟩,
   ⟨{ wPut [(R.SAP_CFG_MASK_MODE 2, 1)] with ecc := [(maskArea 2, 2)] }, (2), by decide +kernel⟩,
   ⟨wPut [(R.SAP_STATUS_STATE 2, csArmed)], (2), by decide +kernel⟩,
   ⟨wPut [(R.SAP_CFG_BUF_SIZE 2, 90)], (2), by decide +kernel⟩,
   ⟨wPut [(R.SAP_STATUS_STATE 2, csArmed)], (2), by decide +kernel⟩,
   ⟨{ wPut [(R.SAP_STATUS_STATE 2, csArmed)] with capt := wRun.capt.set 2 { pend := [(1, 0)] } }, (2), by decide +kernel⟩,
   ⟨wPut [(R.SAP_STATUS_STATE 2, csArmed)], (2), by decide +kernel⟩,
   ⟨wPut [(R.SAP_STATUS_STATE 2, csPost)], (2), by decide +kernel⟩,
   ⟨{ wPut [(R.SAP_STATUS_STATE 2, csArmed), (R.SAP_CFG_CLK_SRC 2, 1), (R.SAR_PASS_T0_NS 0, 77)] with capt := wRun.capt.set 2 { lastAt := some 0 } }, (ns 100), (77), (0), (2), by decide +kernel⟩,
   ⟨wPut [(R.SAP_STATUS_STATE 2, csArmed), (R.SAP_RED_FACTOR 2, 1), (R.SAP_CFG_CLK_SRC 2, 1), (R.SAR_PASS_T0_NS 0, 77)], (ns 100), (77), (2), by decide +kernel⟩,
   ⟨{ wPut [(R.SAP_RED_FACTOR 2, 1), (R.SAP_CFG_CLK_SRC 2, 1), (R.SAR_PASS_T0_NS 0, 77)] with capt := wRun.capt.set 2 { armReq := true } }, (ns 100), (77), (2), by decide +kernel⟩⟩

/-- States and operands that meet the hypotheses of `GridPllCommands`. -/
theorem witness_GridPllCommands :
    (∃ (s : State) (dt : Nat), s.gridRuns = true ∧ s.arm.startAt ≤ (s.elapse dt).cycleStart ∧ s.arm.ran.contains (s.elapse dt).cycleStart = false ∧ s.staged.lookup (R.GE_CYCLE_T_NS 0).key = none ∧ s.staged.lookup (R.GE_CYCLE_T_NS 1).key = none ∧ s.sys.dropped.all (fun d => (d.2.2.1.lookup (R.GE_CYCLE_T_NS 0).key).isNone) = true ∧ s.sys.dropped.all (fun d => (d.2.2.1.lookup (R.GE_CYCLE_T_NS 1).key).isNone) = true)
    ∧ (∃ (s : State) (dt : Nat), s.gridRuns = true ∧ s.arm.ran.contains (s.elapse dt).cycleStart = true)
    ∧ (∃ (s : State) (dt : Nat) (e : Fin 2), s.gridRuns = true ∧ s.flag (R.GE_PLL_STAT_LOCKED e.val) = false ∧ s.flag (R.GE_PLL_STAT_FROZEN e.val) = false ∧ heldFor (s.eng e.val).lockSince (ms 40) (s.now + dt) = true)
    ∧ (∃ (s : State) (dt : Nat) (e : Fin 2), s.gridRuns = true ∧ s.flag (R.GE_PLL_STAT_LOCKED e.val) = true ∧ (heldFor (s.eng e.val).badSince (ms 5) (s.now + dt) = true ∨ heldFor (s.eng e.val).frozenSince (ms 100) (s.now + dt) = true))
    ∧ (∃ (s : State) (dt : Nat) (e : Fin 2), s.gridRuns = true ∧ s.flag (R.GE_PLL_STAT_FROZEN e.val) = true ∧ heldFor (s.eng e.val).clearSince (ms 2) (s.now + dt) = true)
    ∧ (∃ (s : State) (dt : Nat) (r : ModeRamp), s.gridRuns = true ∧ s.arm.ramp = some r ∧ r.at_ + ms (s.get R.ARM_XFER_CFG_RAMP_MS) ≤ s.now + dt) :=
  ⟨⟨wRun, (us 10), by decide +kernel⟩,
   ⟨{ wRun with arm := { ran := [(wRun.elapse (us 10)).cycleStart] } }, (us 10), by decide +kernel⟩,
   ⟨{ wPut [(R.GE_PLL_STAT_FROZEN 1, 0)] with engs := [{}, { lockSince := some 0 }] }, (ms 40), (1), by decide +kernel⟩,
   ⟨{ wPut [(R.GE_PLL_STAT_LOCKED 1, 1)] with engs := [{}, { badSince := some 0 }] }, (ms 5), (1), by decide +kernel⟩,
   ⟨{ wPut [(R.GE_PLL_STAT_FROZEN 1, 1)] with engs := [{}, { clearSince := some 0 }] }, (ms 5), (1), by decide +kernel⟩,
   ⟨{ wPut [(R.ARM_STATUS_RAMPING, 1)] with arm := { ramp := some wRamp } }, (secs 99), (wRamp), by decide +kernel⟩⟩

/-- States and operands that meet the hypotheses of `ArmCommands`. -/
theorem witness_ArmCommands :
    (∃ (s : State) (d : Delivery), s.gridRuns = true ∧ s.lostNext 9 = false ∧ s.ring.inbox.find? (fun e => decide (e.kind = 0) && decide (e.ptype = 0x0A01)) = some d ∧ parseArm d.payload d.src = none)
    ∧ (∃ (s : State) (d : Delivery) (f : ArmFrame), s.gridRuns = true ∧ s.lostNext 9 = false ∧ s.ring.inbox.find? (fun e => decide (e.kind = 0) && decide (e.ptype = 0x0A01)) = some d ∧ parseArm d.payload d.src = some f ∧ s.frameBad f = true)
    ∧ (∃ (s : State) (dt : Nat) (d : Delivery) (f : ArmFrame), s.gridRuns = true ∧ s.lostNext 9 = false ∧ s.ring.inbox.find? (fun e => decide (e.kind = 0) && decide (e.ptype = 0x0A01)) = some d ∧ parseArm d.payload d.src = some f ∧ s.frameBad f = false ∧ (s.elapse dt).canopy < f.epoch + 10000 ∧ s.frameAt f.arm f.epoch = none)
    ∧ (∃ (s : State) (d : Delivery), s.gridRuns = true ∧ s.lostNext 9 = true ∧ s.ring.inbox.find? (fun e => decide (e.kind = 0) && decide (e.ptype = 0x0A01)) = some d)
    ∧ (∃ (s : State) (d : Delivery), s.gridRuns = true ∧ s.lostNext 9 = false ∧ s.ring.inbox.find? (fun e => decide (e.kind = 0) && decide (e.ptype = 0x0A02)) = some d ∧ 1 ≤ d.payload.getD 3 0 ∧ d.payload.getD 3 0 ≤ 8 ∧ d.payload.length = 12 + 20 * d.payload.getD 3 0 ∧ s.ownIdx ≠ none ∧ d.payload.getD 2 0 = s.ownArm)
    ∧ (∃ (s : State) (dt : Nat), s.gridRuns = true ∧ s.role = 1 ∧ (heldFor s.arm.iStale (ms 1) (s.now + dt) = true ∨ heldFor s.arm.vStale (ms 1) (s.now + dt) = true))
    ∧ (∃ (s : State) (dt : Nat), s.gridRuns = true ∧ s.role = 3 ∧ heldFor s.arm.cleanSince (secs 1) (s.now + dt) = true)
    ∧ (∃ (s : State) (dt : Nat) (b : Fin 9), s.gridRuns = true ∧ s.arm.xDone.getD b.val false = false ∧ heldFor (s.arm.xSince.getD b.val none) (ms (s.get (R.GE_XCHK_CFG1_TIME_MS 1))) (s.now + dt) = true)
    ∧ (∃ (s : State) (dt : Nat) (x : Fin 8) (f : ArmFrame), s.gridRuns = true ∧ s.cellRuns x.val = true ∧ s.shape ∧ s.lostNext x.val = false ∧ s.flag (R.ARM_CH_ASSIGN_VALID x.val) = true ∧ s.arm.frames.find? (fun g => decide (g.arm = s.get (R.ARM_CH_ASSIGN_ARM_ID x.val)) && decide (g.epoch ≤ (s.elapse dt).canopy / 500 * 500) && decide ((s.elapse dt).canopy / 500 * 500 < g.epoch + 10000)) = some f) :=
  ⟨⟨{ wRun with ring := { inbox := [⟨0, 9, 0, 0, 0, [1, 10], 0⟩] } }, (⟨0, 9, 0, 0, 0, [1, 10], 0⟩), by decide +kernel⟩,
   ⟨{ wRun with ring := { inbox := [wArm 7] } }, (wArm 7), (wArmF 7), by decide +kernel⟩,
   ⟨{ wRun with ring := { inbox := [wArm 0] } }, (0), (wArm 0), (wArmF 0), by decide +kernel⟩,
   ⟨{ wRun with ring := { inbox := [wArm 0] }, sys := { wRun.sys with lostWord := [3, 9] } }, (wArm 0), by decide +kernel⟩,
   ⟨{ wPut [(R.ARM_ROLE_CFG_ROLE 0, 1), (R.ARM_ROLE_CFG_ARM_ID 0, 3)] with ring := { inbox := [wRep] } }, (wRep), by decide +kernel⟩,
   ⟨{ wPut [(R.ARM_ROLE_CFG_ROLE 0, 1), (R.ARM_ROLE_CFG_ARM_ID 0, 3), (R.ARM_ROLE_STAT_ROLE 0, 1)] with arm := { iStale := some 0 } }, (ms 1), by decide +kernel⟩,
   ⟨{ wPut [(R.ARM_ROLE_CFG_ROLE 0, 1), (R.ARM_ROLE_CFG_ARM_ID 0, 3), (R.ARM_ROLE_STAT_ROLE 0, 3)] with arm := { cleanSince := some 0 } }, (secs 1), by decide +kernel⟩,
   ⟨{ wPut [(R.PWM_CTRL_EN 4, 1)] with arm := { xSince := [none, none, some 0, none, none, none, none, none, none] } }, (secs 99), (2), by decide +kernel⟩,
   ⟨{ wPut [(R.ARM_CH_ASSIGN_VALID 2, 1), (R.ARM_CH_ASSIGN_ARM_ID 2, 3)] with arm := { frames := [wArmF 0] } }, (0), (2), (wArmF 0), by decide +kernel⟩⟩

/-- States and operands that meet the hypotheses of `FrameOfEveryCommand`. -/
theorem witness_FrameOfEveryCommand :
    (∃ (c : Instr) (s t : State), exec c s = .next t) :=
  ⟨.pinResetRelease 0, wHeld, _, rfl⟩

/-- States and operands that meet the hypotheses of `GateOutputsOnlyWhilePermitted`. -/
theorem witness_GateOutputsOnlyWhilePermitted :
    (∃ s : State, s.gd 2 1 true = true ∧ s.gd 2 1 false = false)
    ∧ (∃ s : State, s.groupActive 2 3 = true ∧ s.get (R.PWM_GRP_ACTION 2 3) = gaCellOff)
    ∧ (∃ s : State, s.groupActive 2 3 = true ∧ s.get (R.PWM_GRP_ACTION 2 3) = gaSwitchOff ∧ (s.get (R.PWM_GRP_OUT 2 3)).testBit (2 * 1 + if true then 0 else 1) = true) :=
  ⟨⟨wGates [], by decide +kernel⟩,
   ⟨wGates [(R.PWM_GRP_ACT_ACTIVE 2, 8), (R.PWM_GRP_ACTION 2 3, gaCellOff)], by decide +kernel⟩,
   ⟨wGates [(R.PWM_GRP_ACT_ACTIVE 2, 8), (R.PWM_GRP_ACTION 2 3, gaSwitchOff), (R.PWM_GRP_OUT 2 3, 4)], by decide +kernel⟩⟩

/-- States and operands that meet the hypotheses of `UnusedLegsStayOff`. -/
theorem witness_UnusedLegsStayOff :
    (∃ s : State, (s.get (R.GUARD_LEG_USE_USE 2)).testBit 3 = false) :=
  ⟨wPut [(R.GUARD_LEG_USE_USE 2, 7)], by decide +kernel⟩

/-- States and operands that meet the hypotheses of `FaultMapIsWrittenWithThePwmOff`. -/
theorem witness_FaultMapIsWrittenWithThePwmOff :
    (∃ (s : State) (x : Fin 8), s.hostOpen (pgPwm x.val) = true ∧ s.flag (R.PWM_CTRL_EN x.val) = true)
    ∧ (∃ (s : State) (x : Fin 8), s.hostOpen (pgPwm x.val) = true ∧ s.flag (R.PWM_CTRL_EN x.val) = true)
    ∧ (∃ (s : State) (x : Fin 8), s.hostOpen (pgPwm x.val) = true ∧ s.flag (R.PWM_CTRL_EN x.val) = false)
    ∧ (∃ (s : State) (w : Nat) (x : Fin 8), s.hostOpen (pgPwm x.val) = true ∧ s.flag (R.PWM_CTRL_EN x.val) = false ∧ bitsOf w 8 3 ≤ 4)
    ∧ (∃ (s : State) (x : Fin 8), s.hostOpen (pgPwm x.val) = true) :=
  ⟨⟨wPut [(R.PWM_CTRL_EN 2, 1)], (2), by decide +kernel⟩,
   ⟨wPut [(R.PWM_CTRL_EN 2, 1)], (2), by decide +kernel⟩,
   ⟨wRun, (2), by decide +kernel⟩,
   ⟨wRun, (0x3A5), (2), by decide +kernel⟩,
   ⟨wPut [(R.PWM_CTRL_EN 2, 1)], (2), by decide +kernel⟩⟩

/-- States and operands that meet the hypotheses of `AFifthTriggerIsDiscarded`. -/
theorem witness_AFifthTriggerIsDiscarded :
    (∃ (s : State) (dt : Nat) (u : Fin 13) (cell : Fin 8) (kind : TrigKind) (age : Nat), s.cellRuns cell.val = true ∧ (s.ch cell.val).pwm.started = true ∧ s.carrierMade cell.val (s.now + dt - age) kind = true ∧ u.val = cell.val ∧ trigMatch (s.get (R.SENSE_TRIG_SRC u.val)) (s.get (R.SENSE_TRIG_LEG u.val)) (s.ch cell.val).pwm.mode kind = true ∧ s.shape ∧ ((s.ch u.val).sense.trig.filter (fun e => decide (s.now + dt < e))).length < 4)
    ∧ (∃ (s : State) (dt : Nat) (u : Fin 13) (cell : Fin 8) (kind : TrigKind) (age : Nat), s.cellRuns cell.val = true ∧ (s.ch cell.val).pwm.started = true ∧ s.carrierMade cell.val (s.now + dt - age) kind = true ∧ u.val = cell.val ∧ trigMatch (s.get (R.SENSE_TRIG_SRC u.val)) (s.get (R.SENSE_TRIG_LEG u.val)) (s.ch cell.val).pwm.mode kind = true ∧ s.shape ∧ 4 ≤ ((s.ch u.val).sense.trig.filter (fun e => decide (s.now + dt < e))).length)
    ∧ (∃ (s : State) (dt : Nat) (u : Fin 13) (cell : Fin 8) (kind : TrigKind) (age : Nat) (n : Nat), s.cellRuns cell.val = true ∧ (s.ch cell.val).pwm.started = true ∧ s.carrierMade cell.val (s.now + dt - age) kind = true ∧ u.val = 8 + n ∧ s.gridRuns = true ∧ s.shape ∧ s.get (R.SAR_TRIG_CELL n) = cell.val ∧ trigMatch (s.get (R.SAR_TRIG_SRC n)) (s.get (R.SAR_TRIG_LEG n)) (s.ch cell.val).pwm.mode kind = true ∧ ((s.sarSt n).trig.filter (fun e => decide (s.now + dt < e))).length < 4)
    ∧ (∃ (s : State) (dt : Nat) (u : Fin 13) (cell : Fin 8) (kind : TrigKind) (age : Nat) (n : Nat), s.cellRuns cell.val = true ∧ (s.ch cell.val).pwm.started = true ∧ s.carrierMade cell.val (s.now + dt - age) kind = true ∧ u.val = 8 + n ∧ s.gridRuns = true ∧ s.shape ∧ s.get (R.SAR_TRIG_CELL n) = cell.val ∧ trigMatch (s.get (R.SAR_TRIG_SRC n)) (s.get (R.SAR_TRIG_LEG n)) (s.ch cell.val).pwm.mode kind = true ∧ 4 ≤ ((s.sarSt n).trig.filter (fun e => decide (s.now + dt < e))).length)
    ∧ (∃ (s : State) (dt : Nat) (u : Fin 13), u.val < 8 ∧ s.cellRuns u.val = true ∧ s.shape ∧ s.get (R.SENSE_TRIG_SRC u.val) = 5 ∧ (s.elapse dt).timerDue (.cell u.val) (s.get (R.SENSE_TMR_PERIOD_NS u.val)) (s.get (R.SENSE_TMR_PHASE_NS u.val)) (s.ch u.val).sense.tmrAt = true ∧ ((s.ch u.val).sense.trig.filter (fun e => decide (s.now + dt < e))).length < 4)
    ∧ (∃ (s : State) (dt : Nat) (u : Fin 13), u.val < 8 ∧ s.cellRuns u.val = true ∧ s.shape ∧ s.get (R.SENSE_TRIG_SRC u.val) = 5 ∧ (s.elapse dt).timerDue (.cell u.val) (s.get (R.SENSE_TMR_PERIOD_NS u.val)) (s.get (R.SENSE_TMR_PHASE_NS u.val)) (s.ch u.val).sense.tmrAt = true ∧ 4 ≤ ((s.ch u.val).sense.trig.filter (fun e => decide (s.now + dt < e))).length)
    ∧ (∃ (s : State) (dt : Nat) (u : Fin 13) (n : Nat), u.val = 8 + n ∧ s.gridRuns = true ∧ s.shape ∧ s.get (R.SAR_TRIG_SRC n) = 5 ∧ (s.elapse dt).timerDue .grid (s.get (R.SAR_TMR_PERIOD_NS n)) (s.get (R.SAR_TMR_PHASE_NS n)) (s.sarSt n).tmrAt = true ∧ ((s.sarSt n).trig.filter (fun e => decide (s.now + dt < e))).length < 4)
    ∧ (∃ (s : State) (dt : Nat) (u : Fin 13) (n : Nat), u.val = 8 + n ∧ s.gridRuns = true ∧ s.shape ∧ s.get (R.SAR_TRIG_SRC n) = 5 ∧ (s.elapse dt).timerDue .grid (s.get (R.SAR_TMR_PERIOD_NS n)) (s.get (R.SAR_TMR_PHASE_NS n)) (s.sarSt n).tmrAt = true ∧ 4 ≤ ((s.sarSt n).trig.filter (fun e => decide (s.now + dt < e))).length)
    ∧ (∃ (s : State) (dt : Nat) (u : Fin 13), u.val < 8 ∧ s.hostOpen (pgSense u.val) = true ∧ s.shape ∧ ((s.ch u.val).sense.trig.filter (fun e => decide (s.now + dt < e))).length < 4)
    ∧ (∃ (s : State) (dt : Nat) (u : Fin 13), u.val < 8 ∧ s.hostOpen (pgSense u.val) = true ∧ s.shape ∧ 4 ≤ ((s.ch u.val).sense.trig.filter (fun e => decide (s.now + dt < e))).length)
    ∧ (∃ (s : State) (dt : Nat) (u : Fin 13) (n : Nat), u.val = 8 + n ∧ s.hostOpen (pgSar n) = true ∧ s.shape ∧ s.get (R.SAR_TRIG_SRC n) ≠ 7 ∧ ((s.sarSt n).trig.filter (fun e => decide (s.now + dt < e))).length < 4)
    ∧ (∃ (s : State) (dt : Nat) (u : Fin 13) (n : Nat), u.val = 8 + n ∧ s.hostOpen (pgSar n) = true ∧ s.shape ∧ s.get (R.SAR_TRIG_SRC n) ≠ 7 ∧ 4 ≤ ((s.sarSt n).trig.filter (fun e => decide (s.now + dt < e))).length) :=
  ⟨⟨{ wPut [(R.SENSE_TRIG_SRC 2, 1)] with chan := wRun.chan.set 2 { pwm := { started := true, zeroAt := 8 }, sense := { trig := [3, 90, 91, 92] } } }, (9), (2), (2), (.zero), (1), by decide +kernel⟩,
   ⟨{ wPut [(R.SENSE_TRIG_SRC 2, 1)] with chan := wRun.chan.set 2 { pwm := { started := true, zeroAt := 8 }, sense := { trig := [90, 91, 92, 93] } } }, (9), (2), (2), (.zero), (1), by decide +kernel⟩,
   ⟨{ wPut [(R.SAR_TRIG_SRC 3, 1), (R.SAR_TRIG_CELL 3, 2)] with chan := wRun.chan.set 2 { pwm := { started := true, zeroAt := 8 } }, sar := wRun.sar.set 3 { trig := [3, 90, 91, 92] } }, (9), (11), (2), (.zero), (1), (3), by decide +kernel⟩,
   ⟨{ wPut [(R.SAR_TRIG_SRC 3, 1), (R.SAR_TRIG_CELL 3, 2)] with chan := wRun.chan.set 2 { pwm := { started := true, zeroAt := 8 } }, sar := wRun.sar.set 3 { trig := [90, 91, 92, 93] } }, (9), (11), (2), (.zero), (1), (3), by decide +kernel⟩,
   ⟨{ wPut [(R.SENSE_TRIG_SRC 2, 5), (R.SENSE_TMR_PERIOD_NS 2, 1000)] with chan := wRun.chan.set 2 { pwm := { started := true, zeroAt := 8 }, sense := { trig := [3, 64090, 64091, 64092] } } }, (ns 1000), (2), by decide +kernel⟩,
   ⟨{ wPut [(R.SENSE_TRIG_SRC 2, 5), (R.SENSE_TMR_PERIOD_NS 2, 1000)] with chan := wRun.chan.set 2 { pwm := { started := true, zeroAt := 8 }, sense := { trig := [64090, 64091, 64092, 64093] } } }, (ns 1000), (2), by decide +kernel⟩,
   ⟨{ wPut [(R.SAR_TRIG_SRC 3, 5), (R.SAR_TMR_PERIOD_NS 3, 1000)] with chan := wRun.chan.set 2 { pwm := { started := true, zeroAt := 8 } }, sar := wRun.sar.set 3 { trig := [3, 64090, 64091, 64092] } }, (ns 1000), (11), (3), by decide +kernel⟩,
   ⟨{ wPut [(R.SAR_TRIG_SRC 3, 5), (R.SAR_TMR_PERIOD_NS 3, 1000)] with chan := wRun.chan.set 2 { pwm := { started := true, zeroAt := 8 } }, sar := wRun.sar.set 3 { trig := [64090, 64091, 64092, 64093] } }, (ns 1000), (11), (3), by decide +kernel⟩,
   ⟨{ wPut [] with chan := wRun.chan.set 2 { pwm := { started := true, zeroAt := 8 }, sense := { trig := [3, 90, 91, 92] } } }, (9), (2), by decide +kernel⟩,
   ⟨{ wPut [] with chan := wRun.chan.set 2 { pwm := { started := true, zeroAt := 8 }, sense := { trig := [90, 91, 92, 93] } } }, (9), (2), by decide +kernel⟩,
   ⟨{ wPut [] with chan := wRun.chan.set 2 { pwm := { started := true, zeroAt := 8 } }, sar := wRun.sar.set 3 { trig := [3, 90, 91, 92] } }, (9), (11), (3), by decide +kernel⟩,
   ⟨{ wPut [] with chan := wRun.chan.set 2 { pwm := { started := true, zeroAt := 8 } }, sar := wRun.sar.set 3 { trig := [90, 91, 92, 93] } }, (9), (11), (3), by decide +kernel⟩⟩

/-- States and operands that meet the hypotheses of `TransactionsWithoutCrcAreRefused`. -/
theorem witness_TransactionsWithoutCrcAreRefused :
    (∃ (s : State), s.hostRuns = true ∧ s.flag R.HOST_SPI_CFG_CRC_REQ = true)
    ∧ (∃ (s : State) (words : List Nat), s.hostRuns = true ∧ s.flag R.HOST_SPI_CFG_CRC_REQ = true ∧ words ≠ [] ∧ words.length ≤ 32)
    ∧ (∃ (s : State), s.hostRuns = true ∧ s.flag R.HOST_SPI_CFG_CRC_REQ = true) :=
  ⟨⟨wPut [(R.HOST_SPI_CFG_CRC_REQ, 1)], by decide +kernel⟩,
   ⟨wPut [(R.HOST_SPI_CFG_CRC_REQ, 1)], ([7]), by decide +kernel⟩,
   ⟨wPut [(R.HOST_SPI_CFG_CRC_REQ, 1)], by decide +kernel⟩⟩

/-- States and operands that meet the hypotheses of `HostWritesBeforeTheLockAreIgnored`. -/
theorem witness_HostWritesBeforeTheLockAreIgnored :
    (∃ (s : State) (addr : Nat), s.hostRuns = true ∧ (s.locked = false ∨ s.quarantine = true) ∧ addr < 0x100000 ∧ addr / 4096 ≠ pgHost ∧ addr / 4096 ≠ pgMbox)
    ∧ (∃ (s : State) (addr : Nat), s.hostRuns = true ∧ (s.locked = false ∨ s.quarantine = true) ∧ inRegion tableBase tableSize (addr / 4 * 4) = true) :=
  ⟨⟨{ wRun with regs := [] }, (0x11040), by decide +kernel⟩,
   ⟨{ wRun with regs := [] }, (0x01120000), by decide +kernel⟩⟩

/-! ### Ill-formed commands -/

/-- Words, addresses and byte strings out of their range are refused; each line breaks one check. -/
theorem test_ill_formed_words :
    WellFormed (.registerWrite 0 (2 ^ 32) 0) = false ∧ WellFormed (.registerWrite 0 0 (2 ^ 32)) = false
      ∧ WellFormed (.debugAccess 0 false false (2 ^ 32) 0) = false
      ∧ WellFormed (.debugAccess 0 true false 0 (2 ^ 32)) = false
      ∧ WellFormed (.sdClkWrite 0 0 [] (2 ^ 32)) = false
      ∧ WellFormed (.cmpCfgWrite 0 0 [] 0 true (2 ^ 32)) = false
      ∧ WellFormed (.qdataPush 0 0 (2 ^ 32)) = false ∧ WellFormed (.queueFlush 0 (2 ^ 32)) = false := by decide

/-- Table addresses outside the window or not aligned are refused. -/
theorem test_ill_formed_table :
    WellFormed (.scrubWord 0 0x00FFFFF8 0) = false ∧ WellFormed (.scrubWord 0 0x01180000 0) = false
      ∧ WellFormed (.scrubWord 0 0x01000004 0) = false
      ∧ WellFormed (.tableWindowWrite 0 0x01180000 0 0) = false
      ∧ WellFormed (.tableWindowWrite 0 0x01000002 0 0) = false
      ∧ WellFormed (.tableWindowWrite 0 0x01000000 (2 ^ 32) 0) = false
      ∧ WellFormed (.tablePairWrite 0 0x00FFFFF8 0 0) = false
      ∧ WellFormed (.tablePairWrite 0 0x01000004 0 0) = false
      ∧ WellFormed (.tablePairWrite 0 0x01000000 (2 ^ 32) 0) = false
      ∧ WellFormed (.tablePairWrite 0 0x01000000 0 (2 ^ 32)) = false := by decide

/-- Byte strings that hold more than bytes, and ones too long, are refused. -/
theorem test_ill_formed_bytes :
    WellFormed (.bootProtectionImage 0 [256] 0) = false ∧ WellFormed (.bootTableImage 0 [256]) = false
      ∧ WellFormed (.saveVerify 0 [256]) = false ∧ WellFormed (.meterRestore 0 [256]) = false
      ∧ WellFormed (.frameReceive 0 0 [256] 0) = false ∧ WellFormed (.tunnelFrameReceived 0 [256]) = false
      ∧ WellFormed (.logRecordSubmit 0 0 0 0 [256] 0) = false
      ∧ WellFormed (.logRecordSubmit 0 0 0 0 (List.replicate 18 0) 0) = false
      ∧ WellFormed (.saveHostReadDone 0 [256]) = false
      ∧ WellFormed (.saveHostReadDone 0 (List.replicate 65 0)) = false
      ∧ WellFormed (.fuseProgramDone 0 (2 ^ 256)) = false := by decide

/-- Transactions that the host port cannot carry are refused. -/
theorem test_ill_formed_transactions :
    WellFormed (.qspiRead 0 false false 0 (2 ^ 32) []) = false ∧ WellFormed (.qspiRead 0 false false 0 2 []) = false
      ∧ WellFormed (.qspiWrite 0 false false (2 ^ 32) [0] 0) = false
      ∧ WellFormed (.qspiWrite 0 false false 2 [0] 0) = false
      ∧ WellFormed (.qspiWrite 0 false false 0 [2 ^ 32] 0) = false
      ∧ WellFormed (.qspiWrite 0 false false 0 [] 0) = false
      ∧ WellFormed (.qspiWrite 0 false false 0 (List.replicate 33 0) 0) = false
      ∧ WellFormed (.qspiAbort 0 true false false (2 ^ 32) [] 0) = false
      ∧ WellFormed (.qspiAbort 0 true false false 2 [] 0) = false
      ∧ WellFormed (.qspiAbort 0 true false false 0 [2 ^ 32] 0) = false
      ∧ WellFormed (.qspiAbort 0 true false false 0 (List.replicate 33 0) 0) = false := by decide

/-- Fields of the 1588 messages out of their widths are refused. -/
theorem test_ill_formed_ptp :
    WellFormed (.ptpSync 0 256 0 0 0) = false ∧ WellFormed (.ptpSync 0 0 (2 ^ 80) 0 0) = false
      ∧ WellFormed (.ptpSync 0 0 0 (2 ^ 80) 0) = false
      ∧ WellFormed (.ptpAnnounce 0 256 0 0 0 0 0 0 0 0) = false ∧ WellFormed (.ptpAnnounce 0 0 256 0 0 0 0 0 0 0) = false
      ∧ WellFormed (.ptpAnnounce 0 0 0 256 0 0 0 0 0 0) = false ∧ WellFormed (.ptpAnnounce 0 0 0 0 256 0 0 0 0 0) = false
      ∧ WellFormed (.ptpAnnounce 0 0 0 0 0 65536 0 0 0 0) = false
      ∧ WellFormed (.ptpAnnounce 0 0 0 0 0 0 256 0 0 0) = false
      ∧ WellFormed (.ptpAnnounce 0 0 0 0 0 0 0 (2 ^ 64) 0 0) = false
      ∧ WellFormed (.ptpAnnounce 0 0 0 0 0 0 0 0 65536 0) = false
      ∧ WellFormed (.ptpAnnounce 0 0 0 0 0 0 0 0 0 (2 ^ 80)) = false
      ∧ WellFormed (.ptpPdelayReq 0 0 (2 ^ 80)) = false := by decide

/-! ### The spec's worked examples -/

/-- One command's next state. -/
def after (c : Instr) (s : State) : State :=
  match exec c s with
  | .next t => t
  | .fault _ => s
  | .refused _ => s

/-- The example after R281: 500 ms into the curve the bound is 8,240. -/
theorem test_curve_bound :
    (let m := [(0x00, 0x10103), (0x10, 0), (0x14, 0), (0x18, 320), (0x1C, 7373), (0x20, 1000), (0x24, 10650),
        (0x28, 3000), (0x2C, 14746)].foldl (fun (m : Memory) e => m.putWord (0x01160000 + e.1) e.2) [];
      ({ wRun with mem := m } : State).curveBound 0 (ms 500)) = 8240 := by decide +kernel

/-- The example after R294: Canopy time 81,604,378,608 ns is in epoch 816, whose sign bit is 0, in its window. -/
theorem test_active_epoch :
    (let t := after (.activeEpochBoundary 0)
        { wPut [(R.ISLAND_ACT_CFG_EP_MS, 100), (R.ISLAND_ACT_CFG_ON_MS, 60), (R.ISLAND_ACT_PAT_PATTERN, 0xF0)] with
          canopyT := { base := 81604378608 } };
      [t.get R.ISLAND_EPOCH_INDEX, t.get R.ISLAND_EPOCH_SIGN, t.get R.ISLAND_EPOCH_ON]) = [816, 0, 1] := by
  decide +kernel

/-- The example after R228: 4,700 µF at 1,600 V over 600 V hold 5,170,000 mJ. -/
theorem test_usable_energy : usableEnergy 4700 1600000 600 = 5170000 := by decide

/-- The example after R426: the region holds 10,922 sets. -/
theorem test_capture_capacity :
    (wPut [(R.SAP_CFG_NCH 2, 4), (R.SAP_CFG_STAMP 2, 1), (R.SAP_CFG_BUF_SIZE 2, 4)]).setCap 2 = 10922 := by
  decide +kernel

/-- The example after R451: an incrementing read of two words with CRC has the command byte 0x21. -/
theorem test_spi_command : spiCommand false false true 2 = 0x21 := by decide

/-- The example after R132: readings of 65,632 and 65,608 differ by 24, which passes a limit of 64. -/
theorem test_plausibility :
    (let s := (wPut [(R.SAR_PLAUS_CFG_LIMIT 0, 64), (R.SAR_PLAUS_STAT_RUN 0, 3)]).pairResult 0 65632 false
      let t := s.pairResult 1 65608 false
      [t.get (R.SAR_PLAUS_STAT_DIFF 0), t.get (R.SAR_PLAUS_STAT_RUN 0)]) = [24, 0] := by decide +kernel

/-- The example after R140: a grid 40,000 fine steps late is closed by 512 a period, the last 64 at once. -/
theorem test_carrier_slew :
    (let s := wPut [(R.PWM_CARRIER_SLEW 2, 32)];
      [s.slewStep 2 1 20000 (-40000), s.slewStep 2 1 20000 (-64)]).map Int.natAbs = [512, 64] := by decide +kernel

/-- The example of R89: the high word read is the one of the low word's moment. -/
theorem test_snapshot_pair :
    (let s := after (.snLowRead 0 0 3 0x40) { wRun with canopyT := { base := 81604378608 } }
      let t := after (.snHighRead (ns 30) 0 3 0x44) s
      s.hostOut ++ t.hostOut) = [0xFFFFFFF0, 0x12] := by decide +kernel

/-- The check value of CRC-32C (R412): its digits "123456789" give 0xE3069283. -/
theorem test_crc32c : crc32c [0x31, 0x32, 0x33, 0x34, 0x35, 0x36, 0x37, 0x38, 0x39] = 0xE3069283 := by
  decide +kernel

/-- A reset leaves Canopy's table memory blank and no command waits (R72). -/
theorem test_reset_is_blank : State.reset.mem = [] ∧ State.reset.pending = [] := by decide

/-- `IRQ_N` (R97): low while `IRQ_CFG.EN` is 1 and a page has an interrupt pending, released with `EN` at 0. -/
theorem test_irq_n :
    ([1, 0].map (fun en => (wPut [(R.HOST_IRQ_CFG_EN, en), (H.IRQ_EN 1, 4), (H.IRQ_RAW 1, 4)]).irqLow)
      ++ [(wPut [(R.HOST_IRQ_CFG_EN, 1), (H.IRQ_EN 1, 4), (H.IRQ_RAW 1, 2)]).irqLow])
      = [true, false, false] := by decide +kernel

/-- `BYP_HOLD` (R179): 20,000 cycles of 2.5 ns high, then 20,000 low, the first edge rising. -/
theorem test_byp_hold :
    ([0, 49999, 50000, 99999, 100000].map (fun t =>
      (({ wRun with now := ns t, safe := { wRun.safe with lines := 255 } }.setBoot (R.GUARD_BYP_STAT_HOLD_ON 2) 1).setCell 2
        (fun c => { c with cmd := true })).bypHold 2)) = [true, true, false, false, true] := by decide +kernel

end Sys2Proof.Tests
end

section
/-! What every command and every step keeps. A property that the parts of a command keep survives the command
(`keeps_exec`); the invariants and the frame of the commands are this one fact at three properties. -/

namespace Sys2Proof.Machine

variable {I : State → Prop}

/-- What the parts of a command keep, survives the command: the commands' own lemmas, one for each. -/
theorem keeps_exec (c : Instr) (hI : Keeps (mayChange c) I) {s : State} (h : I s) :
    OutI I (exec c s) := by
  cases c with
  | registerWrite dt addr w => exact keeps_execRegisterWrite hI dt addr w s h
  | snLowRead dt port page ofs => exact keeps_execSnLowRead hI dt port page ofs s h
  | snHighRead dt port page ofs => exact keeps_execSnHighRead hI dt port page ofs s h
  | commitGo dt page => exact keeps_execCommitGo hI dt page s h
  | commitDiscard dt page => exact keeps_execCommitDiscard hI dt page s h
  | commitApply dt page => exact keeps_execCommitApply hI dt page s h
  | updateLockClear dt page => exact keeps_execUpdateLockClear hI dt page s h
  | errCountClear dt page => exact keeps_execErrCountClear hI dt page s h
  | dlCountClear dt page ofs => exact keeps_execDlCountClear hI dt page ofs s h
  | irqStatClear dt page mask => exact keeps_execIrqStatClear hI dt page mask s h
  | counterClear dt page => exact keeps_execCounterClear hI dt page s h
  | deadlineMiss dt page ofs => exact keeps_execDeadlineMiss hI dt page ofs s h
  | streamXingOverflow dt b tap => exact keeps_execStreamXingOverflow hI dt b tap s h
  | burlClockWindow dt bad => exact keeps_execBurlClockWindow hI dt bad s h
  | burlRcMeasure dt khz => exact keeps_execBurlRcMeasure hI dt khz s h
  | scrubWord dt addr flips => exact keeps_execScrubWord hI dt addr flips s h
  | aonCoarseLoad dt => exact keeps_execAonCoarseLoad hI dt s h
  | railGood dt r => exact keeps_execRailGood hI dt r s h
  | brownOutReset dt r => exact keeps_execBrownOutReset hI dt r s h
  | powerOnReset dt => exact keeps_execPowerOnReset hI dt s h
  | xtalGood dt => exact keeps_execXtalGood hI dt s h
  | xtalLoss dt => exact keeps_execXtalLoss hI dt s h
  | xtalLossReset dt => exact keeps_execXtalLossReset hI dt s h
  | pinReset dt => exact keeps_execPinReset hI dt s h
  | pinResetRelease dt => exact keeps_execPinResetRelease hI dt s h
  | testReset dt => exact keeps_execTestReset hI dt s h
  | testResetRelease dt => exact keeps_execTestResetRelease hI dt s h
  | watchdogExpiry dt => exact keeps_execWatchdogExpiry hI dt s h
  | watchdogReset dt => exact keeps_execWatchdogReset hI dt s h
  | resetRelease dt => exact keeps_execResetRelease hI dt s h
  | pllLock dt k => exact keeps_execPllLock hI dt k s h
  | pllLoss dt k => exact keeps_execPllLoss hI dt k s h
  | bootProtectionImage dt bytes back => exact keeps_execBootProtectionImage hI dt bytes back s h
  | bootTableImage dt bytes => exact keeps_execBootTableImage hI dt bytes s h
  | bootLock dt => exact keeps_execBootLock hI dt s h
  | tamperEvent dt n level => exact keeps_execTamperEvent hI dt n level s h
  | debugAccess dt write sram addr w => exact keeps_execDebugAccess hI dt write sram addr w s h
  | tableWindowWrite dt addr w flips => exact keeps_execTableWindowWrite hI dt addr w flips s h
  | tablePairWrite dt addr w0 w1 => exact keeps_execTablePairWrite hI dt addr w0 w1 s h
  | sdClkWrite dt x bits w => exact keeps_execSdClkWrite hI dt x bits w s h
  | cmpCfgWrite dt x bits m thr w => exact keeps_execCmpCfgWrite hI dt x bits m thr w s h
  | triggerEvent dt u cell kind age => exact keeps_execTriggerEvent hI dt u cell kind age s h
  | trigNow dt u => exact keeps_execTrigNow hI dt u s h
  | canopyTimerFire dt u => exact keeps_execCanopyTimerFire hI dt u s h
  | sampleCentre dt x bits => exact keeps_execSampleCentre hI dt x bits s h
  | inputLoss dt x n bits => exact keeps_execInputLoss hI dt x n bits s h
  | inputLossEnd dt x n bits => exact keeps_execInputLossEnd hI dt x n bits s h
  | inputFreeze dt x n bits => exact keeps_execInputFreeze hI dt x n bits s h
  | comparatorAssert dt x m bits => exact keeps_execComparatorAssert hI dt x m bits s h
  | comparatorRelease dt x m bits => exact keeps_execComparatorRelease hI dt x m bits s h
  | sarTriggerFire dt n => exact keeps_execSarTriggerFire hI dt n s h
  | sarConversionDone dt n nv => exact keeps_execSarConversionDone hI dt n nv s h
  | plausMissing dt p => exact keeps_execPlausMissing hI dt p s h
  | sarPassEnd dt n => exact keeps_execSarPassEnd hI dt n s h
  | calRequest dt n => exact keeps_execCalRequest hI dt n s h
  | calPeriodic dt n => exact keeps_execCalPeriodic hI dt n s h
  | calDone dt n => exact keeps_execCalDone hI dt n s h
  | roverTimeout dt n => exact keeps_execRoverTimeout hI dt n s h
  | carrierZero dt x => exact keeps_execCarrierZero hI dt x s h
  | carrierPeak dt x => exact keeps_execCarrierPeak hI dt x s h
  | idealEdge dt x y => exact keeps_execIdealEdge hI dt x y s h
  | scheduledSwitchOff dt x y high => exact keeps_execScheduledSwitchOff hI dt x y high s h
  | scheduledSwitchOn dt x y high => exact keeps_execScheduledSwitchOn hI dt x y high s h
  | bootstrapRefresh dt x y => exact keeps_execBootstrapRefresh hI dt x y s h
  | refreshEnd dt x y => exact keeps_execRefreshEnd hI dt x y s h
  | shootThrough dt x y => exact keeps_execShootThrough hI dt x y s h
  | pwmDisable dt x => exact keeps_execPwmDisable hI dt x s h
  | pwmEnable dt x => exact keeps_execPwmEnable hI dt x s h
  | faultSourceActive dt x n => exact keeps_execFaultSourceActive hI dt x n s h
  | groupWaitExpiry dt x g => exact keeps_execGroupWaitExpiry hI dt x g s h
  | groupRelease dt x g => exact keeps_execGroupRelease hI dt x g s h
  | groupWindowClose dt x g => exact keeps_execGroupWindowClose hI dt x g s h
  | latchClear dt x mask => exact keeps_execLatchClear hI dt x mask s h
  | scQualify dt x w => exact keeps_execScQualify hI dt x w s h
  | scStuck dt x w => exact keeps_execScStuck hI dt x w s h
  | rdyNotReady dt x y => exact keeps_execRdyNotReady hI dt x y s h
  | rdyBlankEnd dt x => exact keeps_execRdyBlankEnd hI dt x s h
  | tripInput dt n => exact keeps_execTripInput hI dt n s h
  | bypFbChange dt x level => exact keeps_execBypFbChange hI dt x level s h
  | bypOpenCheckExpiry dt x => exact keeps_execBypOpenCheckExpiry hI dt x s h
  | bypCloseCheckExpiry dt x => exact keeps_execBypCloseCheckExpiry hI dt x s h
  | kernelCompareWrite dt x => exact keeps_execKernelCompareWrite hI dt x s h
  | kernelPredictionDone dt x => exact keeps_execKernelPredictionDone hI dt x s h
  | scheduleValidationDone dt x => exact keeps_execScheduleValidationDone hI dt x s h
  | kernelEnable dt x => exact keeps_execKernelEnable hI dt x s h
  | kernelDisable dt x => exact keeps_execKernelDisable hI dt x s h
  | kernelTestStart dt x => exact keeps_execKernelTestStart hI dt x s h
  | kernelTestDone dt x pass => exact keeps_execKernelTestDone hI dt x pass s h
  | ge0SetDelivery dt x => exact keeps_execGe0SetDelivery hI dt x s h
  | cellJoin dt x => exact keeps_execCellJoin hI dt x s h
  | dcLinkQualify dt x => exact keeps_execDcLinkQualify hI dt x s h
  | joinKernelTimeout dt x => exact keeps_execJoinKernelTimeout hI dt x s h
  | cellLeave dt x => exact keeps_execCellLeave hI dt x s h
  | dcLinkLow dt x => exact keeps_execDcLinkLow hI dt x s h
  | epochUpdatePoint dt x => exact keeps_execEpochUpdatePoint hI dt x s h
  | curtOn dt x => exact keeps_execCurtOn hI dt x s h
  | curtOff dt x => exact keeps_execCurtOff hI dt x s h
  | shellDue dt x => exact keeps_execShellDue hI dt x s h
  | shellNow dt x => exact keeps_execShellNow hI dt x s h
  | shellBlockEnd dt x => exact keeps_execShellBlockEnd hI dt x s h
  | shellTimeout dt x => exact keeps_execShellTimeout hI dt x s h
  | shellCloseTimeout dt x => exact keeps_execShellCloseTimeout hI dt x s h
  | poPeriodEnd dt x => exact keeps_execPoPeriodEnd hI dt x s h
  | scanDue dt x => exact keeps_execScanDue hI dt x s h
  | scanNow dt x => exact keeps_execScanNow hI dt x s h
  | scanDwellEnd dt x => exact keeps_execScanDwellEnd hI dt x s h
  | gridCycle dt => exact keeps_execGridCycle hI dt s h
  | gridPllLock dt e => exact keeps_execGridPllLock hI dt e s h
  | gridPllUnlock dt e => exact keeps_execGridPllUnlock hI dt e s h
  | gridPllUnfreeze dt e => exact keeps_execGridPllUnfreeze hI dt e s h
  | armFrameReceived dt => exact keeps_execArmFrameReceived hI dt s h
  | cellReportReceived dt => exact keeps_execCellReportReceived hI dt s h
  | masterResign dt => exact keeps_execMasterResign hI dt s h
  | resignRecovery dt => exact keeps_execResignRecovery hI dt s h
  | xchkFail dt b => exact keeps_execXchkFail hI dt b s h
  | modeRampEnd dt => exact keeps_execModeRampEnd hI dt s h
  | excursionEnd dt c => exact keeps_execExcursionEnd hI dt c s h
  | sourceStaleTrip dt => exact keeps_execSourceStaleTrip hI dt s h
  | recoveryRampEnd dt => exact keeps_execRecoveryRampEnd hI dt s h
  | rtsWindowHeld dt => exact keeps_execRtsWindowHeld hI dt s h
  | tripClear dt => exact keeps_execTripClear hI dt s h
  | tripNow dt => exact keeps_execTripNow hI dt s h
  | islandIndication dt k => exact keeps_execIslandIndication hI dt k s h
  | voteWindowExpiry dt k => exact keeps_execVoteWindowExpiry hI dt k s h
  | islandClear dt => exact keeps_execIslandClear hI dt s h
  | activeEpochBoundary dt => exact keeps_execActiveEpochBoundary hI dt s h
  | actSuspend dt => exact keeps_execActSuspend hI dt s h
  | rtBlockEnd dt => exact keeps_execRtBlockEnd hI dt s h
  | transferTripFrame dt => exact keeps_execTransferTripFrame hI dt s h
  | meterCycleEnd dt => exact keeps_execMeterCycleEnd hI dt s h
  | pulseStart dt n => exact keeps_execPulseStart hI dt n s h
  | pulseEnd dt n => exact keeps_execPulseEnd hI dt n s h
  | connectionCheck dt c => exact keeps_execConnectionCheck hI dt c s h
  | periodicSave dt => exact keeps_execPeriodicSave hI dt s h
  | saveVerify dt readback => exact keeps_execSaveVerify hI dt readback s h
  | heartbeatSave dt => exact keeps_execHeartbeatSave hI dt s h
  | pfwFall dt => exact keeps_execPfwFall hI dt s h
  | finalSaveDone dt => exact keeps_execFinalSaveDone hI dt s h
  | pfwResume dt => exact keeps_execPfwResume hI dt s h
  | meterRestore dt content => exact keeps_execMeterRestore hI dt content s h
  | saveAdopt dt => exact keeps_execSaveAdopt hI dt s h
  | energyBroadcast dt => exact keeps_execEnergyBroadcast hI dt s h
  | portAligned dt p => exact keeps_execPortAligned hI dt p s h
  | portAlignLoss dt p => exact keeps_execPortAlignLoss hI dt p s h
  | portRelock dt p => exact keeps_execPortRelock hI dt p s h
  | portDown dt p => exact keeps_execPortDown hI dt p s h
  | wrapEnd dt p => exact keeps_execWrapEnd hI dt p s h
  | helloSend dt p => exact keeps_execHelloSend hI dt p s h
  | helloReceived dt p => exact keeps_execHelloReceived hI dt p s h
  | noverRetry dt p => exact keeps_execNoverRetry hI dt p s h
  | frameReceive dt p bytes ending => exact keeps_execFrameReceive hI dt p bytes ending s h
  | delayRequest dt p => exact keeps_execDelayRequest hI dt p s h
  | delayMarkerReceived dt p mark answer ps =>
    exact keeps_execDelayMarkerReceived hI dt p mark answer ps s h
  | insertion dt => exact keeps_execInsertion hI dt s h
  | beaconSend dt => exact keeps_execBeaconSend hI dt s h
  | beaconDecide dt => exact keeps_execBeaconDecide hI dt s h
  | becomeSource dt => exact keeps_execBecomeSource hI dt s h
  | canopySet dt => exact keeps_execCanopySet hI dt s h
  | remoteAccessGo dt write count => exact keeps_execRemoteAccessGo hI dt write count s h
  | remoteRequest dt => exact keeps_execRemoteRequest hI dt s h
  | remoteResponse dt => exact keeps_execRemoteResponse hI dt s h
  | remoteTimeout dt => exact keeps_execRemoteTimeout hI dt s h
  | queueEnable dt q base size tx prio notify =>
    exact keeps_execQueueEnable hI dt q base size tx prio notify s h
  | queueDisable dt q => exact keeps_execQueueDisable hI dt q s h
  | qdataPop dt q => exact keeps_execQdataPop hI dt q s h
  | qdataPush dt q w => exact keeps_execQdataPush hI dt q w s h
  | podPacketSent dt q => exact keeps_execPodPacketSent hI dt q s h
  | parityCheckDone dt q bad => exact keeps_execParityCheckDone hI dt q bad s h
  | packetTimeout dt q => exact keeps_execPacketTimeout hI dt q s h
  | queueFlush dt mask => exact keeps_execQueueFlush hI dt mask s h
  | noticeSend dt page => exact keeps_execNoticeSend hI dt page s h
  | noticeHoldExpiry dt page => exact keeps_execNoticeHoldExpiry hI dt page s h
  | safetyInputChange dt c p b ev => exact keeps_execSafetyInputChange hI dt c p b ev s h
  | discrepancyFault dt c f => exact keeps_execDiscrepancyFault hI dt c f s h
  | stopDelayEnd dt c f => exact keeps_execStopDelayEnd hI dt c f s h
  | channelDivergence dt f => exact keeps_execChannelDivergence hI dt f s h
  | curtainPulseMissing dt c f => exact keeps_execCurtainPulseMissing hI dt c f s h
  | twohandLate dt c f => exact keeps_execTwohandLate hI dt c f s h
  | resetPulse dt burlMs => exact keeps_execResetPulse hI dt burlMs s h
  | outputReadbackFault dt n rbA rbB => exact keeps_execOutputReadbackFault hI dt n rbA rbB s h
  | testPulseStart dt n => exact keeps_execTestPulseStart hI dt n s h
  | testPulseEnd dt n ok => exact keeps_execTestPulseEnd hI dt n ok s h
  | testPulseBStart dt n => exact keeps_execTestPulseBStart hI dt n s h
  | gylenFrameReceived dt => exact keeps_execGylenFrameReceived hI dt s h
  | gylenWatchdogExpiry dt n => exact keeps_execGylenWatchdogExpiry hI dt n s h
  | gylenProduce dt n => exact keeps_execGylenProduce hI dt n s h
  | gylenHostLoad dt conn len => exact keeps_execGylenHostLoad hI dt conn len s h
  | captureArm dt x => exact keeps_execCaptureArm hI dt x s h
  | captureStop dt x => exact keeps_execCaptureStop hI dt x s h
  | captureTrigNow dt x => exact keeps_execCaptureTrigNow hI dt x s h
  | captureSet dt x => exact keeps_execCaptureSet hI dt x s h
  | logRecordSubmit dt page sev code data origin =>
    exact keeps_execLogRecordSubmit hI dt page sev code data origin s h
  | logRecordWrite dt => exact keeps_execLogRecordWrite hI dt s h
  | logUnfreeze dt => exact keeps_execLogUnfreeze hI dt s h
  | qspiRead dt fixed crc count addr flips =>
    exact keeps_execQspiRead hI dt fixed crc count addr flips s h
  | qspiWrite dt fixed crc addr words sum =>
    exact keeps_execQspiWrite hI dt fixed crc addr words sum s h
  | qspiAbort dt write fixed crc addr words count =>
    exact keeps_execQspiAbort hI dt write fixed crc addr words count s h
  | mailboxGo dt service tag => exact keeps_execMailboxGo hI dt service tag s h
  | identity dt => exact keeps_execIdentity hI dt s h
  | imageStatus dt => exact keeps_execImageStatus hI dt s h
  | logRead dt => exact keeps_execLogRead hI dt s h
  | keyProvision dt => exact keeps_execKeyProvision hI dt s h
  | unknownService dt => exact keeps_execUnknownService hI dt s h
  | fuseProgramDone dt back => exact keeps_execFuseProgramDone hI dt back s h
  | heartwoodFrame dt => exact keeps_execHeartwoodFrame hI dt s h
  | gylenSlice dt => exact keeps_execGylenSlice hI dt s h
  | housekeepingSlice dt => exact keeps_execHousekeepingSlice hI dt s h
  | mailboxSlice dt => exact keeps_execMailboxSlice hI dt s h
  | mdioCommand dt data reg phy write => exact keeps_execMdioCommand hI dt data reg phy write s h
  | mdioDone dt data => exact keeps_execMdioDone hI dt data s h
  | tunnelFrameReceived dt bytes => exact keeps_execTunnelFrameReceived hI dt bytes s h
  | ptpSync dt domain sender origin corr =>
    exact keeps_execPtpSync hI dt domain sender origin corr s h
  | ptpAnnounce dt domain prio1 cls acc var prio2 gm steps sender =>
    exact keeps_execPtpAnnounce hI dt domain prio1 cls acc var prio2 gm steps sender s h
  | ptpPdelayReq dt seq port => exact keeps_execPtpPdelayReq hI dt seq port s h
  | ptpPdelaySend dt => exact keeps_execPtpPdelaySend hI dt s h
  | ptpLoss dt => exact keeps_execPtpLoss hI dt s h
  | saveHostRead dt count => exact keeps_execSaveHostRead hI dt count s h
  | saveHostReadDone dt flash => exact keeps_execSaveHostReadDone hI dt flash s h
  | faultSourceInactive dt x n => exact keeps_execFaultSourceInactive hI dt x n s h
  | frameSent dt p => exact keeps_execFrameSent hI dt p s h
  | ownTc2Release dt => exact keeps_execOwnTc2Release hI dt s h
  | pfwRise dt => exact keeps_execPfwRise hI dt s h
  | srstInRise dt => exact keeps_execSrstInRise hI dt s h
  | ethLinkChange dt up => exact keeps_execEthLinkChange hI dt up s h
  | ptpPdelayResp dt seq t2 t3 corr => exact keeps_execPtpPdelayResp hI dt seq t2 t3 corr s h

/-- What the parts of every command keep, whatever commands wait, survives a step. -/
theorem keeps_step (hI : ∀ c, Keeps (mayChange c) I)
    (hq : ∀ {s}, I s → ∀ q, I { s with pending := q }) {s : State} (h : I s) : OutI I (step s) := by
  unfold step
  split
  · exact outNext h
  · exact keeps_exec _ (hI _) (hq h _)

end Sys2Proof.Machine

open Sys2Proof.Machine

/-- Settles O5: each list of the state after reset is short enough to look at. -/
theorem theResetStateIsSound : Obligations.TheResetStateIsSound := by
  unfold Obligations.TheResetStateIsSound
  decide

/-- Settles O6: every change of every part keeps the canonical forms, and the queue is no part of them. -/
theorem everyStepKeepsTheCanonicalForms : Obligations.EveryStepKeepsTheCanonicalForms := by
  intro s t h e
  have hstep : OutI State.canonical (step s) :=
    keeps_step (fun c => keeps_canonical (mayChange c)) (fun hs _ => hs) h
  exact outI hstep e

/-- Settles O7: every change of a part keeps the lengths of the lists of units. -/
theorem everyStepKeepsTheShape : Obligations.EveryStepKeepsTheShape := by
  intro s t h e
  have hstep : OutI State.shape (step s) :=
    keeps_step (fun c => keeps_shape (mayChange c)) (fun hs _ => hs) h
  exact outI hstep e

/-- Settles O53: agreement with `s` outside the parts of a command is a property that those parts keep. -/
theorem frameOfEveryCommand : Obligations.FrameOfEveryCommand := by
  intro c s t e
  exact sameBut_of (keeps_exec c (keeps_sameBut (mayChange c) s) (State.sameBut_refl _ s)) e

end

section
/-! Which register fields an operation may change: `s.regsBut l t` survives every operation on `t` that writes
fields of `l` only. The membership of the written field is found by `simp` in a list that is written out. -/

namespace Sys2Proof.Machine

-- One proof after another, each in the same thread (see Laws/KeepsChannel).
set_option Elab.async false

variable {s t u : State} {l : List Reg} {r : Reg} {k : List Part}

/-! The writes of registers, the interrupt bits and the records. -/

/-- Where every chain of writes begins: nothing has touched a register yet. -/
theorem State.regsBut_of_regs (s : State) {t : State} (e : t.regs = s.regs := by rfl) :
    s.regsBut l t :=
  fun q _ => congrArg (RegFile.get · q) e

theorem State.regsBut.ite {c : Prop} [Decidable c] (ht : s.regsBut l t) (hu : s.regsBut l u) :
    s.regsBut l (if c then t else u) := by
  split
  · exact ht
  · exact hu

theorem State.regsBut.keep (h : s.regsBut l t) (e : u.regs = t.regs := by rfl) : s.regsBut l u :=
  fun q hq => (congrArg (RegFile.get · q) e).trans (h q hq)

theorem State.regsBut.set (h : s.regsBut l t) {v : Nat} (hr : r ∈ l := by simp) :
    s.regsBut l (t.set r v) :=
  fun q hq => (t.get_set_other v (fun e => hq (List.mem_map.2 ⟨r, hr, e.symm⟩))).trans (h q hq)

theorem State.regsBut.setB (h : s.regsBut l t) {b : Bool} (hr : r ∈ l := by simp) :
    s.regsBut l (t.setB r b) := by
  cases b
  · exact h.set hr
  · exact (h.set (v := 1) hr).keep (State.regs_noteW1c ..)

theorem State.regsBut.setMaskBit (h : s.regsBut l t) {b : Nat} (hr : r ∈ l := by simp) :
    s.regsBut l (t.setMaskBit r b) :=
  (h.set (v := setBit (t.get r) b) hr).keep (State.regs_noteW1c ..)

theorem State.regsBut.putMaskBit (h : s.regsBut l t) {b : Nat} {v : Bool} (hr : r ∈ l := by simp) :
    s.regsBut l (t.putMaskBit r b v) := h.set hr

theorem State.regsBut.inc (h : s.regsBut l t) (hr : r ∈ l := by simp) : s.regsBut l (t.inc r) := by
  unfold State.inc
  split
  · exact (h.set hr).keep
  · exact h.keep

theorem State.regsBut.irq (h : s.regsBut l t) {p b : Nat} (hr : H.IRQ_RAW p ∈ l := by simp) :
    s.regsBut l (t.irq p b) :=
  (h.set (v := setBit (t.get (H.IRQ_RAW p)) b) hr).keep (State.regs_noteRise ..)

theorem State.regsBut.submit (h : s.regsBut l t) {e : LogRec} (hc : R.GLOG_CNT_LOST ∈ l := by simp)
    (hm : R.GLOG_STATUS_LOST_SEEN ∈ l := by simp) : s.regsBut l (t.submit e) := by
  unfold State.submit
  split
  · exact h.keep
  · exact ((h.inc hc).setB hm).keep

theorem State.regsBut.logIt (h : s.regsBut l t) {page sev code o : Nat} {d : List Nat}
    (hc : R.GLOG_CNT_LOST ∈ l := by simp) (hm : R.GLOG_STATUS_LOST_SEEN ∈ l := by simp) :
    s.regsBut l (t.logIt page sev code d o) := h.submit hc hm

theorem State.regsBut.irqLog (h : s.regsBut l t) {p b sev o : Nat} (hr : H.IRQ_RAW p ∈ l := by simp)
    (hc : R.GLOG_CNT_LOST ∈ l := by simp) (hm : R.GLOG_STATUS_LOST_SEEN ∈ l := by simp) :
    s.regsBut l (t.irqLog p b sev o) := (h.irq hr).logIt hc hm

theorem State.regsBut.modSys (h : s.regsBut l t) {f : SysSt → SysSt} :
    s.regsBut l (t.modSys f) := h.keep

theorem State.regsBut.modCanopy (h : s.regsBut l t) {f : CanopySt → CanopySt} :
    s.regsBut l (t.modCanopy f) := h.keep

theorem State.regsBut.modHw (h : s.regsBut l t) {f : HwSt → HwSt} :
    s.regsBut l (t.modHw f) := h.keep

theorem State.regsBut.setIn (h : s.regsBut l t) {x n : Nat} {f : SdIn → SdIn} :
    s.regsBut l (t.setIn x n f) := h.keep

theorem State.regsBut.setEng (h : s.regsBut l t) {e : Nat} {f : EngSt → EngSt} :
    s.regsBut l (t.setEng e f) := h.keep

theorem State.regsBut.setRide (h : s.regsBut l t) {f : RideSt → RideSt} :
    s.regsBut l (t.setRide f) := h.keep

theorem State.regsBut.setIsl (h : s.regsBut l t) {f : IslSt → IslSt} :
    s.regsBut l (t.setIsl f) := h.keep

theorem State.regsBut.modMeter (h : s.regsBut l t) {f : MeterSt → MeterSt} :
    s.regsBut l (t.modMeter f) := h.keep

theorem State.regsBut.recordMade (h : s.regsBut l t) {seq : Nat} :
    s.regsBut l (t.recordMade seq) := h.keep

theorem State.regsBut.indTry (h : s.regsBut l t) {i : Nat} (hr : R.ISLAND_STATUS_IND ∈ l := by simp)
    (hq : H.IRQ_RAW pgIsland ∈ l := by simp) : s.regsBut l (t.indTry i) :=
  ((h.setMaskBit hr).setIsl.irq hq).ite h

/-! Operations whose parts have no registers among them. -/

/-- An operation whose parts have no registers among them leaves the registers alone. -/
theorem State.regs_of_sameBut (h : s.sameBut k t) (hr : .regs ∉ k := by decide)
    (hd : .drop ∉ k := by decide) : t.regs = s.regs := by
  obtain ⟨-, hd' | hs⟩ := h
  · exact absurd hd' hd
  · simp only [hr, false_or] at hs
    simp only [hs]

theorem State.regs_feed (s : State) (x : Nat) (bits : List (Fin 64)) :
    (s.feed x bits).regs = s.regs :=
  State.regs_of_sameBut (keeps_feed (keeps_sameBut [.chan] s) s x bits (State.sameBut_refl _ s))

theorem State.regs_pulseWidth (s : State) (n : Nat) : (s.pulseWidth n).2.regs = s.regs :=
  State.regs_of_sameBut (keeps_pulseWidth (keeps_sameBut [.freeCtr] s) s n (State.sameBut_refl _ s))

theorem State.regs_nextSlot (s : State) : s.nextSlot.2.regs = s.regs :=
  State.regs_of_sameBut (keeps_nextSlot (keeps_sameBut [.freeCtr] s) s (State.sameBut_refl _ s))

theorem State.regs_setFn (s : State) (c f : Nat) (g : FnSt → FnSt) :
    (s.setFn c f g).regs = s.regs :=
  State.regs_of_sameBut (keeps_setFn (keeps_sameBut [.safe, .hw] s) s c f g (State.sameBut_refl _ s))

theorem State.regs_pfwLevel (s : State) (low : Bool) : (s.pfwLevel low).regs = s.regs :=
  State.regs_of_sameBut (keeps_pfwLevel (keeps_sameBut [.sys, .meter] s) s low (State.sameBut_refl _ s))

end Sys2Proof.Machine
end

section
/-! The registers that the small events leave (O54): each proof follows the branches of the event's meaning. -/

namespace Sys2Proof.Machine

-- One proof after another, each in the same thread (see Laws/KeepsChannel).
set_option Elab.async false

variable {s t : State} {l : List Reg}

/-- The outcome is a next state that has every register field of `s` but those in `l`. -/
def State.answersBut (s : State) (l : List Reg) (o : Host.Outcome State Fault Refusal) : Prop :=
  ∃ t, o = .next t ∧ s.regsBut l t

theorem State.regsBut.answers (h : s.regsBut l t) : s.answersBut l (.next t) := ⟨t, rfl, h⟩

theorem State.answersBut.ite {c : Prop} [Decidable c] {a b : Host.Outcome State Fault Refusal}
    (ha : s.answersBut l a) (hb : s.answersBut l b) : s.answersBut l (if c then a else b) := by
  split
  · exact ha
  · exact hb

variable (s) (dt : Nat)

theorem execPinResetRelease_answersBut : s.answersBut [] (execPinResetRelease dt s) := by
  unfold execPinResetRelease
  exact .ite s.regsBut_of_regs.answers s.regsBut_of_regs.answers

theorem execTestResetRelease_answersBut : s.answersBut [] (execTestResetRelease dt s) := by
  unfold execTestResetRelease
  exact .ite s.regsBut_of_regs.answers s.regsBut_of_regs.answers

theorem execAonCoarseLoad_answersBut : s.answersBut [] (execAonCoarseLoad dt s) := by
  unfold execAonCoarseLoad
  exact .ite s.regsBut_of_regs.answers s.regsBut_of_regs.answers

theorem execXtalGood_answersBut :
    s.answersBut [R.CLK_PLL_STAT_XTAL_GOOD, R.RSTPWR_PWR_STAT_AON_XTAL] (execXtalGood dt s) := by
  unfold execXtalGood
  exact .ite s.regsBut_of_regs.setB.setB.answers s.regsBut_of_regs.answers

theorem execRailGood_answersBut (r : Fin 6) :
    s.answersBut [R.RSTPWR_PWR_STAT_RAIL_GOOD, R.RSTPWR_PWR_STAT_SEQ_LATE]
      (execRailGood dt r s) := by
  have h : s.regsBut [R.RSTPWR_PWR_STAT_RAIL_GOOD, R.RSTPWR_PWR_STAT_SEQ_LATE]
      (((s.elapse dt).railNoted r).setMaskBit R.RSTPWR_PWR_STAT_RAIL_GOOD r) :=
    s.regsBut_of_regs.modSys.setMaskBit
  unfold execRailGood
  refine .ite s.regsBut_of_regs.answers (.ite ?_ (.ite ?_ ?_))
  · exact (h.modSys.ite h).modSys.modCanopy.answers
  · exact (h.modSys.ite h).setB.modSys.answers
  · exact (h.modSys.ite h).answers

theorem execLogRecordSubmit_answersBut (page : Fin 256) (sev : Fin 3) (code : Fin 65536)
    (data : List Nat) (origin : Fin 3) :
    s.answersBut [R.GLOG_CNT_LOST, R.GLOG_STATUS_LOST_SEEN]
      (execLogRecordSubmit dt page sev code data origin s) := by
  unfold execLogRecordSubmit
  exact (s.regsBut_of_regs.ite s.regsBut_of_regs.logIt).answers

theorem execFuseProgramDone_answersBut (back : Nat) :
    s.answersBut [R.BOOT_KEY_FUSE_PROG] (execFuseProgramDone dt back s) := by
  unfold execFuseProgramDone
  dsimp only
  split
  · exact s.regsBut_of_regs.answers
  · exact .ite s.regsBut_of_regs.answers s.regsBut_of_regs.set.modHw.answers

theorem execInputLoss_answersBut (x : Fin 8) (n : Fin 6) (bits : List (Fin 64)) :
    s.answersBut [R.SENSE_FB_STAT_LOSS x.val, H.IRQ_RAW (pgSense x.val)]
      (execInputLoss dt x n bits s) := by
  have h := fun l => s.regsBut_of_regs (l := l) ((s.elapse dt).regs_feed x bits)
  unfold execInputLoss
  exact ((h _).setMaskBit.irq.ite (h _)).answers

theorem execInputLossEnd_answersBut (x : Fin 8) (n : Fin 6) (bits : List (Fin 64)) :
    s.answersBut [R.SENSE_FB_STAT_LOSS x.val] (execInputLossEnd dt x n bits s) := by
  have h := fun l => s.regsBut_of_regs (l := l) ((s.elapse dt).regs_feed x bits)
  unfold execInputLossEnd
  exact ((h _).putMaskBit.setIn.ite (h _)).answers

theorem execInputFreeze_answersBut (x : Fin 8) (n : Fin 6) (bits : List (Fin 64)) :
    s.answersBut [R.SENSE_FB_STAT_FREEZE x.val, H.IRQ_RAW (pgSense x.val)]
      (execInputFreeze dt x n bits s) := by
  have h := fun l => s.regsBut_of_regs (l := l) ((s.elapse dt).regs_feed x bits)
  unfold execInputFreeze
  exact ((h _).setMaskBit.irq.ite (h _)).answers

theorem execScheduledSwitchOff_answersBut (x : Fin 8) (y : Fin 4) (high : Bool) :
    s.answersBut [] (execScheduledSwitchOff dt x y high s) := by
  unfold execScheduledSwitchOff
  dsimp only
  split
  · exact s.regsBut_of_regs.answers
  · exact .ite s.regsBut_of_regs.answers s.regsBut_of_regs.answers

theorem execScheduledSwitchOn_answersBut (x : Fin 8) (y : Fin 4) (high : Bool) :
    s.answersBut [] (execScheduledSwitchOn dt x y high s) := by
  unfold execScheduledSwitchOn
  exact .ite s.regsBut_of_regs.answers s.regsBut_of_regs.answers

theorem execBootstrapRefresh_answersBut (x : Fin 8) (y : Fin 4) :
    s.answersBut [R.PWM_EVT_REFRESH x.val y.val, H.IRQ_RAW (pgPwm x.val)]
      (execBootstrapRefresh dt x y s) := by
  unfold execBootstrapRefresh
  exact .ite s.regsBut_of_regs.inc.irq.answers s.regsBut_of_regs.answers

theorem execRefreshEnd_answersBut (x : Fin 8) (y : Fin 4) :
    s.answersBut [] (execRefreshEnd dt x y s) := by
  unfold execRefreshEnd
  dsimp only
  split
  · exact s.regsBut_of_regs.answers
  · exact .ite s.regsBut_of_regs.answers s.regsBut_of_regs.answers

theorem execKernelTestDone_answersBut (x : Fin 8) (pass : Bool) :
    s.answersBut [R.KE_CTRL_TEST x.val, R.KE_ACTIVE_STATE x.val, R.KE_STATUS_TEST_PASS x.val,
        R.KE_STATUS_TEST_FAIL x.val, H.IRQ_RAW (pgKe x.val), R.GLOG_CNT_LOST,
        R.GLOG_STATUS_LOST_SEEN] (execKernelTestDone dt x pass s) := by
  unfold execKernelTestDone
  refine .ite ?_ s.regsBut_of_regs.answers
  exact (s.regsBut_of_regs.setB.set.setB.setB.irq.ite
    s.regsBut_of_regs.setB.set.setB.setB.irqLog).answers

theorem execShellCloseTimeout_answersBut (x : Fin 8) :
    s.answersBut [R.GLOG_CNT_LOST, R.GLOG_STATUS_LOST_SEEN] (execShellCloseTimeout dt x s) := by
  unfold execShellCloseTimeout
  dsimp only
  split
  · exact s.regsBut_of_regs.answers
  · exact .ite s.regsBut_of_regs.logIt.answers s.regsBut_of_regs.answers

theorem execGridPllUnfreeze_answersBut (e : Fin 2) :
    s.answersBut [R.GE_PLL_STAT_FROZEN e.val] (execGridPllUnfreeze dt e s) := by
  unfold execGridPllUnfreeze
  exact (s.regsBut_of_regs.setB.setEng.ite s.regsBut_of_regs).answers

theorem execModeRampEnd_answersBut :
    s.answersBut [R.ARM_STATUS_RAMPING] (execModeRampEnd dt s) := by
  unfold execModeRampEnd
  dsimp only
  split
  · exact .ite s.regsBut_of_regs.setB.answers s.regsBut_of_regs.answers
  · exact s.regsBut_of_regs.answers

theorem execRecoveryRampEnd_answersBut :
    s.answersBut [R.RIDE_STATUS_RECOVER, H.IRQ_RAW pgRide] (execRecoveryRampEnd dt s) := by
  unfold execRecoveryRampEnd
  exact .ite s.regsBut_of_regs.setB.setRide.irq.answers s.regsBut_of_regs.answers

theorem execVoteWindowExpiry_answersBut (i : Fin 4) :
    s.answersBut [] (execVoteWindowExpiry dt i s) := by
  unfold execVoteWindowExpiry
  dsimp only
  split
  · exact (s.regsBut_of_regs.ite s.regsBut_of_regs).answers
  · exact s.regsBut_of_regs.answers

theorem execActiveEpochBoundary_answersBut :
    s.answersBut [R.ISLAND_EPOCH_INDEX, R.ISLAND_EPOCH_SIGN, R.ISLAND_EPOCH_ON]
      (execActiveEpochBoundary dt s) := by
  unfold execActiveEpochBoundary
  exact (s.regsBut_of_regs.set.setB.setB.ite s.regsBut_of_regs).answers

theorem execActSuspend_answersBut :
    s.answersBut [R.ISLAND_STATUS_ACT_SUSP, H.IRQ_RAW pgIsland] (execActSuspend dt s) := by
  unfold execActSuspend
  exact (s.regsBut_of_regs.setB.irq.ite s.regsBut_of_regs).answers

theorem execRtBlockEnd_answersBut :
    s.answersBut [R.ISLAND_STATUS_BLOCKED] (execRtBlockEnd dt s) := by
  unfold execRtBlockEnd
  dsimp only
  split
  · exact (s.regsBut_of_regs.setB.setIsl.ite s.regsBut_of_regs).answers
  · exact s.regsBut_of_regs.answers

theorem execIslandIndication_answersBut (i : Fin 4) :
    s.answersBut [R.ISLAND_STATUS_IND, H.IRQ_RAW pgIsland] (execIslandIndication dt i s) := by
  unfold execIslandIndication
  exact (s.regsBut_of_regs.indTry.ite s.regsBut_of_regs).answers

theorem execPulseStart_answersBut (n : Fin 4) :
    s.answersBut [R.METER_OWED_OWED n.val] (execPulseStart dt n s) := by
  unfold execPulseStart
  refine .ite ?_ s.regsBut_of_regs.answers
  have h := fun l => s.regsBut_of_regs (l := l) ((s.elapse dt).regs_pulseWidth n)
  exact .ite (h _).set.modMeter.answers (h _).answers

theorem execPulseEnd_answersBut (n : Fin 4) : s.answersBut [] (execPulseEnd dt n s) := by
  unfold execPulseEnd
  dsimp only
  split
  · exact (s.regsBut_of_regs.ite s.regsBut_of_regs).answers
  · exact s.regsBut_of_regs.answers

theorem execConnectionCheck_answersBut (c : Fin 4) :
    s.answersBut [chkFlag c.val, H.IRQ_RAW pgMeter, R.GLOG_CNT_LOST, R.GLOG_STATUS_LOST_SEEN]
      (execConnectionCheck dt c s) := by
  unfold execConnectionCheck
  exact ((s.regsBut_of_regs.setB.modMeter.irqLog.ite s.regsBut_of_regs.setB.logIt).ite
    s.regsBut_of_regs).answers

theorem execPeriodicSave_answersBut : s.answersBut [] (execPeriodicSave dt s) := by
  unfold execPeriodicSave
  refine .ite ?_ ?_
  · split
    next a u e =>
      have hu : u.regs = (s.elapse dt).regs := by rw [← (s.elapse dt).regs_nextSlot, e]
      exact (s.regsBut_of_regs hu).recordMade.modMeter.answers
  · exact s.regsBut_of_regs.answers

theorem execHeartbeatSave_answersBut : s.answersBut [] (execHeartbeatSave dt s) := by
  unfold execHeartbeatSave
  exact .ite s.regsBut_of_regs.answers s.regsBut_of_regs.answers

theorem execSaveVerify_answersBut (readback : List Nat) :
    s.answersBut [R.METER_STATUS_SAVE_FAIL, R.METER_CNT_B_SAVES, R.METER_CNT_B_SAVE_ERRS,
        H.IRQ_RAW pgMeter, R.GLOG_CNT_LOST, R.GLOG_STATUS_LOST_SEEN]
      (execSaveVerify dt readback s) := by
  unfold execSaveVerify
  dsimp only
  split
  · refine .ite (.ite ?_ ?_) s.regsBut_of_regs.answers
    · exact s.regsBut_of_regs.setB.inc.irq.answers
    · exact s.regsBut_of_regs.setB.inc.irqLog.answers
  · exact s.regsBut_of_regs.answers

theorem execFinalSaveDone_answersBut :
    s.answersBut [R.METER_STATUS_PF_SAVED, H.IRQ_RAW pgMeter] (execFinalSaveDone dt s) := by
  unfold execFinalSaveDone
  dsimp only
  split
  · exact .ite s.regsBut_of_regs.setB.irq.answers s.regsBut_of_regs.answers
  · exact s.regsBut_of_regs.answers

theorem execPfwRise_answersBut : s.answersBut [R.RSTPWR_PWR_STAT_PFW] (execPfwRise dt s) := by
  unfold execPfwRise
  have h := fun l => s.regsBut_of_regs (l := l) ((s.elapse dt).regs_pfwLevel false)
  exact .ite (h _).setB.modMeter.answers (h _).answers

theorem execPfwResume_answersBut : s.answersBut [] (execPfwResume dt s) := by
  unfold execPfwResume
  dsimp only
  split
  · exact (s.regsBut_of_regs.ite s.regsBut_of_regs).answers
  · exact s.regsBut_of_regs.answers

theorem execTwohandLate_answersBut (c : Fin 2) (f : Fin 8) :
    s.answersBut [H.IRQ_RAW pgSafe] (execTwohandLate dt c f s) := by
  unfold execTwohandLate
  exact .ite (s.regsBut_of_regs.irq.keep (State.regs_setFn ..)).answers s.regsBut_of_regs.answers

theorem execSrstInRise_answersBut : s.answersBut [] (execSrstInRise dt s) := by
  unfold execSrstInRise
  dsimp only
  split
  · exact s.regsBut_of_regs.answers
  · exact (s.regsBut_of_regs.ite s.regsBut_of_regs).answers

theorem execEthLinkChange_answersBut (up : Bool) :
    s.answersBut [R.ETH_STATUS_LINK, H.IRQ_RAW pgEth] (execEthLinkChange dt up s) := by
  unfold execEthLinkChange
  exact .ite s.regsBut_of_regs.setB.irq.answers s.regsBut_of_regs.answers

theorem execMdioDone_answersBut (data : Fin 65536) :
    s.answersBut [R.ETH_MDIO_CMD_GO, R.ETH_MDIO_CMD_DATA] (execMdioDone dt data s) := by
  unfold execMdioDone
  exact .ite (s.regsBut_of_regs.ite s.regsBut_of_regs.set).setB.answers s.regsBut_of_regs.answers

theorem execPtpAnnounce_answersBut (domain prio1 cls acc var prio2 gm steps sender : Nat) :
    s.answersBut [] (execPtpAnnounce dt domain prio1 cls acc var prio2 gm steps sender s) := by
  unfold execPtpAnnounce
  exact .ite (s.regsBut_of_regs.ite s.regsBut_of_regs).answers s.regsBut_of_regs.answers

theorem execPtpPdelaySend_answersBut : s.answersBut [] (execPtpPdelaySend dt s) := by
  unfold execPtpPdelaySend
  exact .ite s.regsBut_of_regs.answers s.regsBut_of_regs.answers

theorem execPtpPdelayResp_answersBut (seq : Fin 65536) (t2 t3 : Nat) (corr : Int) :
    s.answersBut [] (execPtpPdelayResp dt seq t2 t3 corr s) := by
  unfold execPtpPdelayResp
  exact .ite s.regsBut_of_regs.answers s.regsBut_of_regs.answers

theorem execPtpPdelayReq_answersBut (seq : Fin 65536) (port : Nat) :
    s.answersBut [] (execPtpPdelayReq dt seq port s) := by
  unfold execPtpPdelayReq
  exact .ite s.regsBut_of_regs.answers s.regsBut_of_regs.answers

end Sys2Proof.Machine

open Sys2Proof.Machine

/-- Settles O54, event by event. -/
theorem registersThatEventsLeave : Obligations.RegistersThatEventsLeave := by
  unfold Obligations.RegistersThatEventsLeave
  exact ⟨execPinResetRelease_answersBut, execTestResetRelease_answersBut,
    execAonCoarseLoad_answersBut, execXtalGood_answersBut, execRailGood_answersBut,
    execLogRecordSubmit_answersBut, execFuseProgramDone_answersBut, execInputLoss_answersBut,
    execInputLossEnd_answersBut, execInputFreeze_answersBut, execScheduledSwitchOff_answersBut,
    execScheduledSwitchOn_answersBut, execBootstrapRefresh_answersBut, execRefreshEnd_answersBut,
    execKernelTestDone_answersBut, execShellCloseTimeout_answersBut, execGridPllUnfreeze_answersBut,
    execModeRampEnd_answersBut, execRecoveryRampEnd_answersBut, execVoteWindowExpiry_answersBut,
    execActiveEpochBoundary_answersBut, execActSuspend_answersBut, execRtBlockEnd_answersBut,
    execIslandIndication_answersBut, execPulseStart_answersBut, execPulseEnd_answersBut,
    execConnectionCheck_answersBut, execPeriodicSave_answersBut, execHeartbeatSave_answersBut,
    execSaveVerify_answersBut, execFinalSaveDone_answersBut, execPfwRise_answersBut,
    execPfwResume_answersBut, execTwohandLate_answersBut, execSrstInRise_answersBut,
    execEthLinkChange_answersBut, execMdioDone_answersBut, execPtpAnnounce_answersBut,
    execPtpPdelaySend_answersBut, execPtpPdelayResp_answersBut, execPtpPdelayReq_answersBut⟩

end

section
/-! What holds a gate output off (O55): the masks of `heldOff` bit by bit, and what a high output implies. -/

namespace Sys2Proof.Machine

variable {s : State} {x y g k : Nat}

/-- Both outputs of every leg below `n` that `p` picks. -/
def legMask (p : Nat → Bool) (n : Nat) : Nat :=
  (List.range n).foldl (fun m y => if p y then m + 3 * 4 ^ y else m) 0

theorem legMask_succ (p : Nat → Bool) (n : Nat) :
    legMask p (n + 1) = if p n then legMask p n + 3 * 4 ^ n else legMask p n := by
  unfold legMask
  rw [List.range_succ, List.foldl_append]
  rfl

theorem legMask_lt (p : Nat → Bool) (n : Nat) : legMask p n < 4 ^ n := by
  induction n with
  | zero => exact Nat.one_pos
  | succ n ih =>
    rw [legMask_succ, pow_succ]
    split <;> omega

/-- The two bits of leg `y` in the mask say whether the leg is picked. -/
theorem testBit_legMask (p : Nat → Bool) {n : Nat} (hy : y < n) (hk : k < 2) :
    (legMask p n).testBit (2 * y + k) = p y := by
  induction n with
  | zero => omega
  | succ n ih =>
    have hlt : legMask p n < 2 ^ (2 * n) := by
      have h := legMask_lt p n
      rwa [show 4 = 2 ^ 2 from rfl, ← pow_mul] at h
    have hsum : legMask p n + 3 * 4 ^ n = 2 ^ (2 * n) * 3 + legMask p n := by
      rw [pow_mul, show 2 ^ 2 = 4 from rfl]
      omega
    rw [legMask_succ, hsum]
    rcases Nat.lt_succ_iff_lt_or_eq.1 hy with hlow | rfl
    · have hbit : 2 * y + k < 2 * n := by omega
      split
      · rw [Nat.testBit_two_pow_mul_add 3 hlt, if_pos hbit, ih hlow]
      · exact ih hlow
    · have hbit : ¬ 2 * y + k < 2 * y := by omega
      have hthree : Nat.testBit 3 (2 * y + k - 2 * y) = true := by
        rw [Nat.add_sub_cancel_left]
        interval_cases k <;> rfl
      split
      next hp => rw [Nat.testBit_two_pow_mul_add 3 hlt, if_neg hbit, hthree, hp]
      next hp =>
        rw [Nat.testBit_lt_two_pow (hlt.trans_le (Nat.pow_le_pow_right (by decide) (by omega)))]
        simpa using hp

/-- The mask of the legs that are not picked. -/
theorem legMask_not (p : Nat → Bool) (n : Nat) : legMask (fun y => !p y) n =
    (List.range n).foldl (fun m y => if p y then m else m + 3 * 4 ^ y) 0 := by
  simp only [legMask, Bool.not_eq_true', ← Bool.not_eq_true, ite_not]

theorem legsOf_eq_legMask (out : Nat) :
    legsOf out = legMask (fun y => decide (bitsOf out (2 * y) 2 ≠ 0)) 4 := by
  simp only [legsOf, legMask, decide_eq_true_eq]

/-- A leg of which either switch is named is held off whole. -/
theorem testBit_legsOf {out : Nat} (hy : y < 4) (hk : k < 2) (h : out.testBit (2 * y + k) = true) :
    (legsOf out).testBit (2 * y + k) = true := by
  rw [legsOf_eq_legMask, testBit_legMask _ hy hk, decide_eq_true_eq]
  intro hzero
  have hfield : (bitsOf out (2 * y) 2).testBit k = out.testBit (2 * y + k) := by
    unfold bitsOf
    rw [Nat.testBit_mod_two_pow, Nat.testBit_shiftRight, decide_eq_true hk, Bool.true_and]
  rw [hzero, Nat.zero_testBit, h] at hfield
  exact absurd hfield (by decide)

/-- Every output of a channel is a bit of the mask of all eight. -/
theorem testBit_allOutputs {i : Nat} (h : i < 8) : Nat.testBit 0xFF i = true := by
  interval_cases i <;> rfl

/-- A bit of the joined masks is a bit of one that is joined. -/
theorem testBit_foldl_or (a : Nat → Bool) (f : Nat → Nat) (l : List Nat) (m i : Nat) :
    (l.foldl (fun m g => if a g then m ||| f g else m) m).testBit i
      = (m.testBit i || l.any (fun g => a g && (f g).testBit i)) := by
  induction l generalizing m with
  | nil => simp
  | cons g l ih =>
    rw [List.foldl_cons, ih, List.any_cons]
    cases a g <;> simp [Bool.or_assoc]

/-- CELL_OFF and CHANNEL_FAULT hold off every output (R156). -/
theorem State.groupHold_of_allOff
    (h : s.get (R.PWM_GRP_ACTION x g) = gaCellOff ∨ s.get (R.PWM_GRP_ACTION x g) = gaChannelFault) :
    s.groupHold x g = 0xFF := by
  rcases h with h | h <;>
    simp [State.groupHold, h, gaCellOff, gaChannelFault, gaSwitchOff, gaLegOff]

/-- SWITCH_OFF holds off the outputs it names, also once it is latched or escalated (R156, R171, R172). -/
theorem State.testBit_groupHold_of_switchOff (hy : y < 4) (hk : k < 2)
    (ha : s.get (R.PWM_GRP_ACTION x g) = gaSwitchOff)
    (ho : (s.get (R.PWM_GRP_OUT x g)).testBit (2 * y + k) = true) :
    (s.groupHold x g).testBit (2 * y + k) = true := by
  unfold State.groupHold
  dsimp only
  rw [if_pos ha]
  split
  · exact testBit_allOutputs (by omega)
  · split
    · exact testBit_legsOf hy hk ho
    · exact ho

/-- What an active group holds off is held off. -/
theorem State.testBit_heldOff_of_group {i : Nat} (hg : g < 16) (ha : s.groupActive x g = true)
    (h : (s.groupHold x g).testBit i = true) : (s.heldOff x).testBit i = true := by
  have hany : (List.range 16).any (fun g => s.groupActive x g && (s.groupHold x g).testBit i) = true :=
    List.any_eq_true.2 ⟨g, List.mem_range.2 hg, by rw [ha, h]; rfl⟩
  unfold State.heldOff
  simp only [Nat.testBit_or, testBit_foldl_or, hany, Bool.or_true, Bool.true_or]

/-- Both outputs of an unused leg are held off (R177). -/
theorem State.testBit_heldOff_of_unused (hy : y < 4) (hk : k < 2)
    (h : (s.get (R.GUARD_LEG_USE_USE x)).testBit y = false) :
    (s.heldOff x).testBit (2 * y + k) = true := by
  have hmask := testBit_legMask (fun y => !(s.get (R.GUARD_LEG_USE_USE x)).testBit y) hy hk
  rw [legMask_not, h] at hmask
  unfold State.heldOff
  simp only [Nat.testBit_or, hmask, Bool.not_false, Bool.or_true, Bool.true_or]

/-- The bit of an output in the masks of a channel. -/
abbrev outBit (y : Nat) (high : Bool) : Nat := 2 * y + if high then 0 else 1

variable {high : Bool}

/-- A high output passes the shoot-through guard and is gated by nothing (R26, R149, R158). -/
theorem State.gd_iff : s.gd x y high = true ↔
    s.demand x y high = true ∧ s.demand x y (!high) = false ∧ s.gateLine x = true
      ∧ s.cellRuns x = true := by
  simp only [State.gd, Bool.and_eq_true, Bool.not_eq_true', and_assoc]

/-- A switch demanded while the other of its leg is not, is demanded by a running PWM, and nothing holds it off:
a fault upstream would demand both (R149). -/
theorem State.demand_alone (h : s.demand x y high = true) (ho : s.demand x y (!high) = false) :
    s.flag (R.PWM_STATUS_RUN x) = true ∧ (s.heldOff x).testBit (outBit y high) = false := by
  have hboth : (s.leg x y).both = false := (Bool.or_eq_false_iff.1 ho).1
  simp only [State.demand, hboth, Bool.false_or, Bool.and_eq_true, Bool.not_eq_true'] at h
  exact ⟨h.1.1, h.2⟩

/-- An output that is held off is low. -/
theorem State.gd_of_heldOff (h : (s.heldOff x).testBit (outBit y high) = true) :
    s.gd x y high = false := by
  rw [← Bool.not_eq_true, State.gd_iff]
  rintro ⟨hd, ho, -, -⟩
  exact absurd h (by rw [(State.demand_alone hd ho).2]; decide)

theorem State.not_gd_both : ¬ (s.gd x y true = true ∧ s.gd x y false = true) := by
  rw [State.gd_iff, State.gd_iff]
  rintro ⟨⟨hd, -⟩, -, ho, -⟩
  exact absurd hd (by rw [show s.demand x y true = false from ho]; decide)

theorem State.not_inReset_of_cellRuns (h : s.cellRuns x = true) : s.sys.inReset = false := by
  simp only [State.cellRuns, Bool.and_eq_true, Bool.not_eq_true'] at h
  exact h.1

/-- What a high output implies (R26). -/
theorem State.permitted_of_gd (hy : y < 4) (h : s.gd x y high = true) :
    s.flag (R.PWM_STATUS_RUN x) = true ∧ (s.get (R.GUARD_LEG_USE_USE x)).testBit y = true
      ∧ s.cellRuns x = true ∧ s.sys.inReset = false ∧ s.safe.lines.testBit x = true := by
  obtain ⟨hd, ho, hline, hclock⟩ := State.gd_iff.1 h
  obtain ⟨hrun, hfree⟩ := State.demand_alone hd ho
  refine ⟨hrun, ?_, hclock, State.not_inReset_of_cellRuns hclock, hline⟩
  by_contra hunused
  have hheld := State.testBit_heldOff_of_unused hy (k := if high then 0 else 1) (by split <;> decide)
    (Bool.not_eq_true _ ▸ hunused)
  exact absurd hheld (by rw [hfree]; decide)

end Sys2Proof.Machine

open Sys2Proof.Machine

/-- Settles O55: the guard lets one demand of a leg through, and each condition is a gate or a bit of `heldOff`. -/
theorem gateOutputsOnlyWhilePermitted : Obligations.GateOutputsOnlyWhilePermitted := by
  intro s x y high
  have hk : (if high then 0 else 1) < 2 := by split <;> decide
  have hbit : outBit y high < 8 := by unfold outBit; omega
  refine ⟨State.not_gd_both, State.permitted_of_gd y.isLt, fun g ha => ⟨fun hact => ?_, fun hact hout => ?_⟩⟩
  · refine State.gd_of_heldOff (State.testBit_heldOff_of_group g.isLt ha ?_)
    rw [State.groupHold_of_allOff hact]
    exact testBit_allOutputs hbit
  · exact State.gd_of_heldOff (State.testBit_heldOff_of_group g.isLt ha
      (State.testBit_groupHold_of_switchOff y.isLt hk hact hout))

end

section
/-! Rules of the shared operations that this family's statements rest on: what an operation leaves of the parts of
the state, what a field reads after a write, and what a host write reaches. -/

namespace Sys2Proof.Machine

variable {s t : State} {k : List Part} {p b i n a : Nat}

/-! ### Parts -/

/-- An operation whose parts have no memory among them leaves the memories alone. -/
theorem State.mem_of_sameBut (h : s.sameBut k t) (hm : .mem ∉ k := by decide)
    (hd : .drop ∉ k := by decide) : t.mem = s.mem := by
  obtain ⟨-, hd' | hs⟩ := h
  · exact absurd hd' hd
  · simp only [hm, false_or] at hs
    simp only [hs]

/-- An operation whose parts have no log among them leaves the log alone. -/
theorem State.log_of_sameBut (h : s.sameBut k t) (hl : .log ∉ k := by decide)
    (hd : .drop ∉ k := by decide) : t.log = s.log := by
  obtain ⟨-, hd' | hs⟩ := h
  · exact absurd hd' hd
  · simp only [hl, false_or] at hs
    simp only [hs]

@[simp] theorem State.log_modLog (f : LogSt → LogSt) : (s.modLog f).log = f s.log := rfl

@[simp] theorem State.mem_modLog (f : LogSt → LogSt) : (s.modLog f).mem = s.mem := rfl

@[simp] theorem State.get_modLog (f : LogSt → LogSt) (r : Reg) : (s.modLog f).get r = s.get r := rfl

@[simp] theorem State.mem_clearBad (s : State) (a : Nat) : (s.clearBad a).mem = s.mem := rfl

@[simp] theorem State.log_clearBad (s : State) (a : Nat) : (s.clearBad a).log = s.log := rfl

@[simp] theorem State.get_clearBad (s : State) (a : Nat) (r : Reg) : (s.clearBad a).get r = s.get r := rfl

theorem State.get_withMem (s : State) (m : Memory) (r : Reg) :
    ({ s with mem := m } : State).get r = s.get r := rfl

/-! ### Fields -/

theorem State.get_inc_same {r : Reg} (h : r.acc ≠ .bo) : (s.inc r).get r = counted r (s.get r) := by
  unfold State.inc counted
  rw [State.get_note]
  split
  next hlt => rw [State.get_set_same _ _ h, Nat.mod_eq_of_lt hlt]
  next => rfl

theorem State.get_inc_other {r q : Reg} (h : q.key ≠ r.key) : (s.inc r).get q = s.get q := by
  have hs : s.regsBut [r] (s.inc r) := s.regsBut_of_regs.inc
  exact hs q (by simpa using h)

theorem State.get_setB_other {r q : Reg} {v : Bool} (h : q.key ≠ r.key) :
    (s.setB r v).get q = s.get q := by
  have hs : s.regsBut [r] (s.setB r v) := s.regsBut_of_regs.setB
  exact hs q (by simpa using h)

theorem State.get_setB_same {r : Reg} {v : Bool} (h : r.acc ≠ .bo) :
    (s.setB r v).get r = v.toNat % 2 ^ r.width := by
  cases v
  · exact s.get_set_same 0 h
  · exact (State.get_noteW1c _ _ _ _).trans (s.get_set_same 1 h)

/-- A record touches no register but the two that say that records were lost (R440). -/
theorem State.get_logIt {page sev code o : Nat} {d : List Nat} {q : Reg}
    (h : q.key ∉ [R.GLOG_CNT_LOST, R.GLOG_STATUS_LOST_SEEN].map Reg.key := by decide) :
    (s.logIt page sev code d o).get q = s.get q := by
  have hs : s.regsBut [R.GLOG_CNT_LOST, R.GLOG_STATUS_LOST_SEEN] (s.logIt page sev code d o) :=
    s.regsBut_of_regs.logIt
  exact hs q h

/-! ### Interrupt bits and counts -/

theorem State.get_irq_other {b : Nat} {r : Reg} (h : r.key ≠ (H.IRQ_RAW p).key) :
    (s.irq p b).get r = s.get r := by
  unfold State.irq
  rw [State.get_noteRise, State.get_note, State.get_set_other _ _ h]

/-- An event sets its own bit and no other (R96). -/
theorem State.testBit_irq (hi : i < 32) : ((s.irq p b).get (H.IRQ_RAW p)).testBit i
    = (decide (i = b) || (s.get (H.IRQ_RAW p)).testBit i) := by
  unfold State.irq
  rw [State.get_noteRise, State.get_note,
    State.get_set_same (r := H.IRQ_RAW p) _ _ (by simp [H.IRQ_RAW])]
  change (setBit (s.get (H.IRQ_RAW p)) b % 2 ^ 32).testBit i = _
  rw [Nat.testBit_mod_two_pow, decide_eq_true hi, Bool.true_and, setBit, Nat.testBit_or,
    Nat.testBit_two_pow, Bool.or_comm, decide_eq_decide.2 eq_comm]

/-- A latched bit stays latched when any event latches (R96). -/
theorem State.testBit_irq_of (hi : i < 32) (h : (s.get (H.IRQ_RAW p)).testBit i = true) :
    ((s.irq p b).get (H.IRQ_RAW p)).testBit i = true := by
  rw [State.testBit_irq hi, h, Bool.or_true]

/-- An error counts once (R86). -/
theorem State.errCount_err (s : State) (p : Nat) :
    (s.err p).get (H.ERR_COUNT p) = counted (H.ERR_COUNT p) (s.get (H.ERR_COUNT p)) := by
  have hkey : (H.ERR_COUNT p).key ≠ (H.IRQ_RAW p).key := by
    simp only [Reg.key, H.ERR_COUNT, H.IRQ_RAW]; omega
  unfold State.err
  rw [State.get_irq_other hkey, State.get_inc_same (by simp [H.ERR_COUNT])]

/-- A write that carries out its effect: the port serves, the page takes it and has its clock. -/
theorem State.hostAct_of_hostOpen {ofs : Nat} {f : State → State} (h : s.hostOpen p = true) :
    s.hostAct p ofs f = f s := by
  simp only [State.hostOpen, State.pageRuns, Bool.and_eq_true] at h
  obtain ⟨⟨hserves, hok⟩, hclock⟩ := h
  unfold State.hostAct State.pageAct
  rw [if_pos hserves, hok]
  cases hp : pageInfo p with
  | none => simp [hp] at hclock
  | some info =>
    rw [hp] at hclock
    exact if_pos hclock

/-! ### Memory -/

theorem inRegion_iff {b : Nat} : inRegion b n a = true ↔ b ≤ a ∧ a < b + n := by
  simp [inRegion]

theorem Memory.getBytes_putBytes (m : Memory) (a : Nat) (l : List Nat) :
    (m.putBytes a l).getBytes a l.length = l.map (· % 256) := by
  refine List.ext_getElem (by simp [Memory.getBytes]) (fun j hj _ => ?_)
  have hlt : j < l.length := by simpa [Memory.getBytes] using hj
  simp [Memory.getBytes, Memory.get_putBytes m a l hlt]

theorem length_bytesLE (n v : Nat) : (bytesLE n v).length = n := by
  induction n generalizing v with
  | zero => rfl
  | succ n ih => exact congrArg (· + 1) (ih _)

end Sys2Proof.Machine
end

section
/-! Table memory written through the fabric (O15): what the word's check bits and its lock do to a write. -/

namespace Sys2Proof.Machine

variable {s t : State} {l : List Reg} {a v n p : Nat}

@[simp] theorem State.mem_recordDouble (s : State) (p a : Nat) : (s.recordDouble p a).mem = s.mem :=
  State.mem_of_sameBut (keeps_recordDouble (keeps_sameBut [.dblTable, .dblCapt, .recent, .log, .regs] s)
    s p a (State.sameBut_refl _ s))

@[simp] theorem State.mem_tableCharge (s : State) (a p : Nat) : (s.tableCharge a p).mem = s.mem :=
  State.mem_of_sameBut (keeps_tableCharge (keeps_sameBut [.recent, .pod, .regs] s) s a p
    (State.sameBut_refl _ s))

/-! ### Errors charged to the host -/

theorem State.errCount_errHost (s : State) (a : Nat) : (s.errHost a).get (H.ERR_COUNT pgHost)
    = counted (H.ERR_COUNT pgHost) (s.get (H.ERR_COUNT pgHost)) := by
  unfold State.errHost
  rw [State.get_set_other _ _ (by decide), State.errCount_err]

/-- The record of a double error touches no register but the log's own two (R440). -/
theorem State.regsBut.recordDouble (h : s.regsBut l t) (hc : R.GLOG_CNT_LOST ∈ l := by simp)
    (hm : R.GLOG_STATUS_LOST_SEEN ∈ l := by simp) : s.regsBut l (t.recordDouble p a) := by
  unfold State.recordDouble
  exact .ite h (.ite (.ite h (h.logIt hc hm).keep) (.ite h (h.logIt hc hm).keep))

theorem State.errCount_recordDouble (s : State) (p a : Nat) :
    (s.recordDouble p a).get (H.ERR_COUNT pgHost) = s.get (H.ERR_COUNT pgHost) :=
  have h : s.regsBut [R.GLOG_CNT_LOST, R.GLOG_STATUS_LOST_SEEN] (s.recordDouble p a) :=
    s.regsBut_of_regs.recordDouble
  h _ (by decide)

/-! ### Check bits -/

/-- A word stored with fresh check bits has no bad bit. -/
theorem State.badBits_clearBad (s : State) (a : Nat) : (s.clearBad a).badBits a = 0 := by
  simp only [State.badBits, State.clearBad, RegFile.lookup_erase_same, Option.getD_none]

/-- A word of table memory stands in it as a whole. -/
theorem inTable_word (h : inRegion tableBase tableSize a = true) :
    inRegion tableBase tableSize (a / 8 * 8) = true := by
  simp only [inRegion_iff, tableBase, tableSize] at h ⊢
  omega

/-- Bits of one table word go bad: nothing but the check bits knows. -/
theorem State.spoil_single (h : inRegion tableBase tableSize a = true) : s.spoil [(a, n)] =
    { s with ecc := if n ≠ 0 then s.ecc.insert (a / 8 * 8) (min 2 (s.badBits (a / 8 * 8) + n))
                    else s.ecc } := by
  simp only [State.spoil, List.foldl_cons, List.foldl_nil, inTable_word h, true_or, and_true]
  split <;> rfl

theorem State.mem_spoil_single (h : inRegion tableBase tableSize a = true) :
    (s.spoil [(a, n)]).mem = s.mem := by rw [State.spoil_single h]

theorem State.tableShut_spoil_single (h : inRegion tableBase tableSize a = true) :
    (s.spoil [(a, n)]).tableShut v = s.tableShut v := by rw [State.spoil_single h]; rfl

theorem State.get_spoil_single (h : inRegion tableBase tableSize a = true) (r : Reg) :
    (s.spoil [(a, n)]).get r = s.get r := by rw [State.spoil_single h]; rfl

theorem State.badBits_word (s : State) (a : Nat) : s.badBits (a / 8 * 8) = s.badBits a := by
  unfold State.badBits
  rw [Nat.mul_div_cancel _ (by decide)]

/-- A word is read with the bits that were bad and those that have gone bad since, two at the most (R21). -/
theorem State.badBits_spoil_single (h : inRegion tableBase tableSize a = true) :
    (s.spoil [(a, n)]).badBits a = if n = 0 then s.badBits a else min 2 (s.badBits a + n) := by
  rw [State.spoil_single h, State.badBits_word]
  by_cases hn : n = 0 <;> simp [State.badBits, hn, RegFile.lookup_insert_same]

/-! ### The write -/

/-- A write that the word's region does not take (R4, R61, R70) leaves every byte. -/
theorem State.mem_tableWrite_of_shut (h : s.tableShut a ≠ none) : (s.tableWrite a v).mem = s.mem := by
  obtain ⟨p, hp⟩ := Option.ne_none_iff_exists'.1 h
  unfold State.tableWrite
  rw [hp]
  exact s.mem_tableCharge a p

/-- A word with two bad bits cannot be merged with the new half: nothing is stored (R21, R83). -/
theorem State.tableWrite_of_double (h : s.tableShut a = none) (hb : 2 ≤ s.badBits a) :
    s.tableWrite a v = (s.errHost a).recordDouble pgHost a := by
  unfold State.tableWrite
  rw [h]
  exact if_pos hb

/-- A word that can be read is stored with fresh check bits; one bad bit of it is counted (R21, R83). -/
theorem State.tableWrite_of_readable (h : s.tableShut a = none) (hb : s.badBits a ≤ 1) :
    s.tableWrite a v = ({ (if s.badBits a = 1 then s.errHost a else s) with
      mem := s.mem.putWord a v } : State).clearBad a := by
  unfold State.tableWrite
  rw [h]
  have hread : ¬ 2 ≤ s.badBits a := by omega
  simp only [hread, if_false]
  split
  · rw [State.mem_errHost]
  · rfl

theorem State.mem_tableWrite_of_readable (h : s.tableShut a = none) (hb : s.badBits a ≤ 1) :
    (s.tableWrite a v).mem = s.mem.putWord a v := by
  rw [State.tableWrite_of_readable h hb, State.mem_clearBad]

theorem State.badBits_tableWrite_of_readable (h : s.tableShut a = none) (hb : s.badBits a ≤ 1) :
    (s.tableWrite a v).badBits a = 0 := by
  rw [State.tableWrite_of_readable h hb, State.badBits_clearBad]

/-- Both halves are stored whatever the word held: it is not read (R83). -/
theorem State.tablePair_of_open {w0 w1 : Nat} (h : s.tableShut a = none) : s.tablePair a w0 w1 =
    ({ s with mem := (s.mem.putWord a w0).putWord (a + 4) w1 } : State).clearBad a := by
  unfold State.tablePair
  rw [h]

/-! ### The commands -/

variable {dt addr w : Nat}

/-- A 32-bit write to table memory through the serving host port. -/
theorem exec_tableWindowWrite {flips : Fin 3} (hr : s.hostRuns = true)
    (hin : inRegion tableBase tableSize (addr / 4 * 4) = true) :
    exec (.tableWindowWrite dt addr w flips) s = .next
      (((s.elapse dt).spoil [(addr / 4 * 4, flips.val)]).tableWrite (addr / 4 * 4) (w % 2 ^ 32)) :=
  congrArg Host.Outcome.next (if_pos ⟨hr, hin⟩)

/-- A write of both halves of a table word through the serving host port. -/
theorem exec_tablePairWrite {w0 w1 : Nat} (hr : s.hostRuns = true)
    (hin : inRegion tableBase tableSize (addr / 8 * 8) = true) :
    exec (.tablePairWrite dt addr w0 w1) s = .next
      ((s.elapse dt).tablePair (addr / 8 * 8) (w0 % 2 ^ 32) (w1 % 2 ^ 32)) :=
  congrArg Host.Outcome.next (if_pos ⟨hr, hin⟩)

/-- A register write at an address of table memory is a 32-bit write to it. -/
theorem exec_registerWrite_table (hr : s.hostRuns = true)
    (hin : inRegion tableBase tableSize (addr / 4 * 4) = true) :
    exec (.registerWrite dt addr w) s = .next
      ((s.elapse dt).tableWrite (addr / 4 * 4) (w % 2 ^ 32)) := by
  have habove : ¬ addr / 4 * 4 < 0x100000 := by
    simp only [inRegion_iff, tableBase] at hin
    omega
  have hfab : (s.elapse dt).fabWrite addr w
      = (s.elapse dt).tableWrite (addr / 4 * 4) (w % 2 ^ 32) := by
    unfold State.fabWrite
    dsimp only
    rw [if_neg habove, if_pos hin]
  exact congrArg Host.Outcome.next ((if_pos hr).trans hfab)

@[simp] theorem State.tableShut_elapse (s : State) (dt a : Nat) :
    (s.elapse dt).tableShut a = s.tableShut a := rfl

@[simp] theorem State.badBits_elapse (s : State) (dt a : Nat) : (s.elapse dt).badBits a = s.badBits a := rfl

end Sys2Proof.Machine

open Sys2Proof.Machine

/-- Settles O15: what a write does turns on the bad bits that the word has when it is read. -/
theorem tableMemoryWrites : Obligations.TableMemoryWrites := by
  unfold Obligations.TableMemoryWrites
  refine ⟨?readable, ?double, ?shut, ?pair, ?register⟩
  case readable =>
    intro s dt addr w flips hr hin hopen hbits
    have hopen' := (State.tableShut_spoil_single hin (s := s.elapse dt) (n := flips)).trans hopen
    have hread : ((s.elapse dt).spoil [(addr / 4 * 4, flips.val)]).badBits (addr / 4 * 4) ≤ 1 := by
      rw [State.badBits_spoil_single hin, State.badBits_elapse]
      split <;> omega
    refine ⟨_, exec_tableWindowWrite hr hin, ?_, State.badBits_tableWrite_of_readable hopen' hread⟩
    rw [State.mem_tableWrite_of_readable hopen' hread, State.mem_spoil_single hin, State.mem_elapse]
  case double =>
    intro s dt addr w flips hr hin hopen hbits
    have hopen' := (State.tableShut_spoil_single hin (s := s.elapse dt) (n := flips)).trans hopen
    have htwo : 2 ≤ ((s.elapse dt).spoil [(addr / 4 * 4, flips.val)]).badBits (addr / 4 * 4) := by
      rw [State.badBits_spoil_single hin, State.badBits_elapse]
      split <;> omega
    refine ⟨_, exec_tableWindowWrite hr hin, ?_, ?_⟩ <;> rw [State.tableWrite_of_double hopen' htwo]
    · rw [State.mem_recordDouble, State.mem_errHost, State.mem_spoil_single hin, State.mem_elapse]
    · rw [State.errCount_recordDouble, State.errCount_errHost, State.get_spoil_single hin,
        State.get_elapse]
  case shut =>
    intro s dt addr w flips hr hin hshut
    refine ⟨_, exec_tableWindowWrite hr hin, ?_⟩
    rw [State.mem_tableWrite_of_shut (by rwa [State.tableShut_spoil_single hin]),
      State.mem_spoil_single hin, State.mem_elapse]
  case pair =>
    intro s dt addr w0 w1 hr hin hopen
    refine ⟨_, exec_tablePairWrite hr hin, ?_⟩
    rw [State.tablePair_of_open (s := s.elapse dt) hopen]
    exact ⟨rfl, State.badBits_clearBad _ _⟩
  case register =>
    intro s dt addr w hr hin hopen hclean
    have hread : (s.elapse dt).badBits (addr / 4 * 4) ≤ 1 := by rw [State.badBits_elapse]; omega
    exact ⟨_, exec_registerWrite_table hr hin,
      State.mem_tableWrite_of_readable (s := s.elapse dt) hopen hread⟩

end

section
/-! The Growth Log's queue, writer and freeze (O29): what each of them does to the log, to the interrupt bits of
its page and to the memories. -/

namespace Sys2Proof.Machine

variable {s : State} {i seq slot sev : Nat} {e r : LogRec}

/-! ### A record submitted (R439, R440) -/

theorem State.submit_of_space (h : s.log.queue.length < 256) :
    s.submit e = { s with log := { s.log with queue := s.log.queue ++ [e] } } := if_pos h

theorem State.submit_of_full (h : 256 ≤ s.log.queue.length) : s.submit e =
    ((s.inc R.GLOG_CNT_LOST).setB R.GLOG_STATUS_LOST_SEEN true).modLog
      (fun d => { d with lost := d.lost + 1 }) := by
  unfold State.submit
  rw [if_neg (not_lt.2 h)]
  rfl

/-- From the log `c` to the log `d`, records joined the queue or were lost: nothing left the queue, the writer's
number stayed, and nothing was lost while there was space. -/
def LogSt.grows (c d : LogSt) : Prop :=
  c.queue <+: d.queue ∧ d.nextSeq = c.nextSeq ∧ (c.queue.length < 256 → d.lost = c.lost)

theorem LogSt.grows_refl (c : LogSt) : c.grows c := ⟨List.prefix_refl _, rfl, fun _ => rfl⟩

/-- Only the queue, the writer's number and the losses of the first log matter. -/
theorem LogSt.grows.of_same {c c' d : LogSt} (h : c'.grows d) (hq : c'.queue = c.queue)
    (hn : c'.nextSeq = c.nextSeq) (hl : c'.lost = c.lost) : c.grows d := by
  unfold LogSt.grows at h ⊢
  rwa [hq, hn, hl] at h

theorem State.grows_submit (s : State) (e : LogRec) : s.log.grows (s.submit e).log := by
  rcases lt_or_ge s.log.queue.length 256 with h | h
  · rw [State.submit_of_space h]
    exact ⟨List.prefix_append _ _, rfl, fun _ => rfl⟩
  · rw [State.submit_of_full h]
    simp only [State.log_modLog, State.log_setB, State.log_inc]
    exact ⟨List.prefix_refl _, rfl, fun hlt => absurd h (not_le.2 hlt)⟩

/-! ### A critical record (R441) -/

/-- The freeze's own record joins the queue. -/
theorem State.grows_logFreeze (s : State) (slot seq : Nat) :
    s.log.grows (s.logFreeze slot seq).log := by
  unfold State.logFreeze
  dsimp only
  rw [State.log_irq]
  refine (State.grows_submit _ _).of_same ?_ ?_ ?_ <;> simp

theorem State.grows_logCritical (s : State) (sev slot seq : Nat) :
    s.log.grows (s.logCritical sev slot seq).log := by
  unfold State.logCritical
  split
  · dsimp only
    split
    · refine (State.grows_logFreeze _ _ _).of_same ?_ ?_ ?_ <;> simp
    · refine (LogSt.grows_refl _).of_same ?_ ?_ ?_ <;> simp
  · exact LogSt.grows_refl _

theorem State.testBit_logFreeze (hi : i < 32)
    (h : (s.get (H.IRQ_RAW pgGlog)).testBit i = true) :
    ((s.logFreeze slot seq).get (H.IRQ_RAW pgGlog)).testBit i = true := by
  unfold State.logFreeze
  refine State.testBit_irq_of hi ?_
  rwa [State.get_logIt, State.get_set_other _ _ (by decide), State.get_set_other _ _ (by decide),
    State.get_setB_other (by decide), State.get_modLog]

theorem State.testBit_logCritical (hi : i < 32)
    (h : (s.get (H.IRQ_RAW pgGlog)).testBit i = true) :
    ((s.logCritical sev slot seq).get (H.IRQ_RAW pgGlog)).testBit i = true := by
  have hinc : ((s.inc R.GLOG_CNT_CRIT).get (H.IRQ_RAW pgGlog)).testBit i = true := by
    rwa [State.get_inc_other (by decide)]
  unfold State.logCritical
  split
  · dsimp only
    split
    · exact State.testBit_logFreeze hi hinc
    · exact hinc
  · exact h

@[simp] theorem State.mem_logCritical (s : State) (sev slot seq : Nat) :
    (s.logCritical sev slot seq).mem = s.mem :=
  State.mem_of_sameBut (keeps_logCritical (keeps_sameBut [.recent, .log, .pod, .regs] s) s sev slot seq
    (State.sameBut_refl _ s))

/-! ### The trigger that a record offers (R430) -/

section
variable (s : State) (src time : Nat) (ok : State → Nat → Bool)

theorem State.sameBut_offerTrigger : s.sameBut [.recent, .capt, .regs] (s.offerTrigger src time ok) :=
  keeps_offerTrigger (keeps_sameBut _ s) s src time ok (State.sameBut_refl _ s)

@[simp] theorem State.mem_offerTrigger : (s.offerTrigger src time ok).mem = s.mem :=
  State.mem_of_sameBut (s.sameBut_offerTrigger src time ok)

@[simp] theorem State.log_offerTrigger : (s.offerTrigger src time ok).log = s.log :=
  State.log_of_sameBut (s.sameBut_offerTrigger src time ok)

theorem State.get_captTrigger {q : Reg} (x cause : Nat) (h : q.key ≠ (R.SAP_CNT_IGNORED x).key) :
    (s.captTrigger x time cause).get q = s.get q := by
  unfold State.captTrigger
  dsimp only
  split
  · rfl
  · split
    · rfl
    · split
      · exact State.get_inc_other h
      · rfl

/-- A capture unit counts a trigger that it ignores, and writes no other register. -/
theorem State.get_offerTrigger {q : Reg} (h : ∀ x, q.key ≠ (R.SAP_CNT_IGNORED x).key) :
    (s.offerTrigger src time ok).get q = s.get q := by
  unfold State.offerTrigger
  generalize List.range 8 = units
  induction units generalizing s with
  | nil => rfl
  | cons x units ih =>
    rw [List.foldl_cons, ih]
    split
    · exact s.get_captTrigger time x src (h x)
    · rfl

end

/-! ### The writer (R436, R439) -/

/-- The slot that the next record takes. -/
def State.writeSlot (s : State) : Nat :=
  freeSlot s.log.prot (s.log.prot.length + 1) s.log.nextSlot

theorem State.mem_logWrite (s : State) (r : LogRec) : (s.logWrite r).mem
    = s.mem.putBytes (slotAddr s.writeSlot) (r.bytes s.log.nextSeq) := by
  unfold State.logWrite State.writeSlot
  dsimp only
  rw [State.mem_logCritical, State.mem_offerTrigger]
  simp

/-- A written record takes the next number; the log may grow by the record of a freeze. -/
theorem State.log_logWrite (s : State) (r : LogRec) :
    ∃ c : LogSt, c.queue = s.log.queue ∧ c.nextSeq = seqAfter s.log.nextSeq ∧ c.lost = s.log.lost
      ∧ c.grows (s.logWrite r).log := by
  unfold State.logWrite
  refine ⟨_, ?_, ?_, ?_, State.grows_logCritical _ _ _ _⟩ <;>
    simp

theorem State.queue_logWrite (s : State) (r : LogRec) : s.log.queue <+: (s.logWrite r).log.queue := by
  obtain ⟨c, hq, -, -, hg, -, -⟩ := s.log_logWrite r
  rwa [← hq]

theorem State.testBit_logWrite (hi : i < 32)
    (h : i = r.sev % 4 ∨ (s.get (H.IRQ_RAW pgGlog)).testBit i = true) :
    ((s.logWrite r).get (H.IRQ_RAW pgGlog)).testBit i = true := by
  unfold State.logWrite
  refine State.testBit_logCritical hi ?_
  rw [State.get_offerTrigger _ _ _ _ (fun x => by
      simp only [Reg.key, H.IRQ_RAW, R.SAP_CNT_IGNORED, pgGlog]; omega),
    State.testBit_irq hi, State.get_set_other _ _ (by decide), State.get_set_other _ _ (by decide),
    State.get_modLog, State.get_clearBad, State.get_clearBad, State.get_clearBad, State.get_clearBad,
    State.get_withMem, State.get_setB_other (by decide), Bool.or_eq_true, decide_eq_true_eq]
  exact h

/-! ### A step of the writer (R439, R440) -/

/-- The state in which the oldest record has been written. -/
def State.oldestWritten (s : State) (r : LogRec) (q : List LogRec) : State :=
  (s.modLog (fun d => { d with queue := q })).logWrite r

variable {q : List LogRec}

theorem State.logStep_of_noneLost (h : s.log.queue = r :: q)
    (hl : (s.oldestWritten r q).log.lost = 0) : s.logStep = s.oldestWritten r q := by
  unfold State.logStep
  rw [h]
  exact if_pos hl

/-- The report of lost records (R440). -/
def State.lossReport (s : State) : LogRec :=
  ⟨s.stamp pgGlog, s.syncLost, pgGlog, 1, 0x0020, slice (bytesLE 4 s.log.lost) 0 17, 0⟩

theorem State.logStep_of_lost (h : s.log.queue = r :: q)
    (hl : (s.oldestWritten r q).log.lost ≠ 0) : s.logStep =
      (((s.oldestWritten r q).modLog (fun d => { d with lost := 0 })).logWrite
        (s.oldestWritten r q).lossReport).irq pgGlog 4 := by
  unfold State.logStep
  rw [h]
  exact if_neg hl

/-- The queue behind the oldest record stays in its order. -/
theorem State.queue_logStep (h : s.log.queue = r :: q) : q <+: s.logStep.log.queue := by
  have hfirst : q <+: (s.oldestWritten r q).log.queue :=
    State.queue_logWrite (s.modLog (fun d => { d with queue := q })) r
  by_cases hl : (s.oldestWritten r q).log.lost = 0
  · rwa [State.logStep_of_noneLost h hl]
  · rw [State.logStep_of_lost h hl, State.log_irq]
    have hsecond := State.queue_logWrite ((s.oldestWritten r q).modLog (fun d => { d with lost := 0 }))
      (s.oldestWritten r q).lossReport
    rw [State.log_modLog] at hsecond
    exact hfirst.trans hsecond

/-- The written record's severity latches (R439). -/
theorem State.testBit_logStep (h : s.log.queue = r :: q) :
    (s.logStep.get (H.IRQ_RAW pgGlog)).testBit (r.sev % 4) = true := by
  have hi : r.sev % 4 < 32 := by omega
  have hfirst : ((s.oldestWritten r q).get (H.IRQ_RAW pgGlog)).testBit (r.sev % 4) = true :=
    State.testBit_logWrite (s := s.modLog (fun d => { d with queue := q })) hi (.inl rfl)
  by_cases hl : (s.oldestWritten r q).log.lost = 0
  · rwa [State.logStep_of_noneLost h hl]
  · rw [State.logStep_of_lost h hl]
    refine State.testBit_irq_of hi (State.testBit_logWrite hi (.inr ?_))
    rwa [State.get_modLog]

/-- While nothing has been lost and the queue has space, a step writes one record. -/
theorem State.logStep_of_space (h : s.log.queue = r :: q) (hl : s.log.lost = 0)
    (hq : q.length < 256) : s.logStep = s.oldestWritten r q := by
  obtain ⟨c, hcq, -, hcl, -, -, hlost⟩ :=
    (s.modLog (fun d => { d with queue := q })).log_logWrite r
  refine State.logStep_of_noneLost h ((hlost ?_).trans (hcl.trans hl))
  rwa [hcq]

theorem State.nextSeq_oldestWritten (s : State) (r : LogRec) (q : List LogRec) :
    (s.oldestWritten r q).log.nextSeq = seqAfter s.log.nextSeq := by
  obtain ⟨c, -, hn, -, -, hg, -⟩ := (s.modLog (fun d => { d with queue := q })).log_logWrite r
  exact hg.trans hn

theorem State.mem_oldestWritten (s : State) (r : LogRec) (q : List LogRec) :
    (s.oldestWritten r q).mem = s.mem.putBytes (slotAddr s.writeSlot) (r.bytes s.log.nextSeq) :=
  State.mem_logWrite _ r

/-- A record has 32 bytes (R436). -/
theorem LogRec.length_bytes (r : LogRec) (seq : Nat) : (r.bytes seq).length = 32 := by
  simp [LogRec.bytes, length_bytesLE, slice]

/-! ### The commands -/

variable {dt : Nat}

theorem exec_logRecordSubmit {page : Fin 256} {sev : Fin 3} {code : Fin 65536} {data : List Nat}
    {origin : Fin 3} (h : s.sys.inReset = false) :
    exec (.logRecordSubmit dt page sev code data origin) s = .next ((s.elapse dt).submit
      ⟨(s.elapse dt).stamp page, s.syncLost, page, sev, code, slice data 0 17, origin⟩) :=
  congrArg Host.Outcome.next (if_neg (by simp [h]))

theorem exec_logRecordWrite (hr : s.hwRuns = true) (hres : s.log.resumed = true) :
    exec (.logRecordWrite dt) s = .next (s.elapse dt).logStep :=
  congrArg Host.Outcome.next (if_pos ⟨hr, hres⟩)

theorem exec_logUnfreeze (h : s.hostOpen pgGlog = true) :
    exec (.logUnfreeze dt) s = .next (s.elapse dt).unfreeze :=
  congrArg Host.Outcome.next (State.hostAct_of_hostOpen (s := s.elapse dt) h)

/-- An unfreeze in the cycle of a critical record that froze the log changes nothing (R441). -/
theorem State.unfreeze_of_frozenNow {t0 : Nat}
    (hc : s.log.critAt = some (t0, slot, s.get R.GLOG_FREEZE_SEQ))
    (ht : PageIsland.heartwood.cycle t0 = PageIsland.heartwood.cycle s.now)
    (hen : s.flag R.GLOG_CFG_FREEZE_EN = true) : s.unfreeze = s := by
  unfold State.unfreeze
  rw [hc]
  dsimp only
  rw [if_pos ⟨ht, hen⟩, if_pos rfl]

/-- Without a critical record in its cycle an unfreeze ends the freeze and every protection (R441). -/
theorem State.unfreeze_of_noneNow (h : s.log.critAt.all (fun e =>
      decide (PageIsland.heartwood.cycle e.1 ≠ PageIsland.heartwood.cycle s.now)) = true) :
    s.unfreeze = (s.setB R.GLOG_STATUS_FROZEN false).modLog (fun d => { d with prot := [] }) := by
  unfold State.unfreeze
  cases hc : s.log.critAt with
  | none => rfl
  | some e =>
    rw [hc, Option.all_some, decide_eq_true_eq] at h
    exact if_neg (fun hnow => h hnow.1)

end Sys2Proof.Machine

open Sys2Proof.Machine

/-- Settles O29: the queue only grows at its end, and the writer takes it from its front. -/
theorem logCommands : Obligations.LogCommands := by
  unfold Obligations.LogCommands
  refine ⟨?submit, ?lost, ?write, ?latch, ?frozenNow, ?unfreeze⟩
  case submit =>
    intro s dt page sev code data origin hr hspace
    refine ⟨_, exec_logRecordSubmit hr, ?_, State.mem_submit _ _⟩
    rw [State.submit_of_space (s := s.elapse dt) hspace]
    rfl
  case lost =>
    intro s dt page sev code data origin hr hfull
    refine ⟨_, exec_logRecordSubmit hr, ?_⟩
    rw [State.submit_of_full (s := s.elapse dt) hfull]
    refine ⟨?_, ?_, ?_, ?_⟩
    · simp
    · simp
    · rw [State.flag_eq, State.get_modLog, State.get_setB_same (by decide)]
      decide
    · rw [State.get_modLog, State.get_setB_other (by decide), State.get_inc_same (by decide),
        State.get_elapse]
  case write =>
    intro s dt r q hr hres hqueue hlost hspace
    have hstep : (s.elapse dt).logStep = (s.elapse dt).oldestWritten r q :=
      State.logStep_of_space hqueue hlost hspace
    have hmem : ((s.elapse dt).oldestWritten r q).mem
        = s.mem.putBytes (slotAddr s.writeSlot) (r.bytes s.log.nextSeq) :=
      (s.elapse dt).mem_oldestWritten r q
    refine ⟨_, exec_logRecordWrite hr hres, ?_, ?_, ?_, ?_⟩
    · rw [hstep, State.nextSeq_oldestWritten, State.log_elapse]
    · exact (List.prefix_iff_eq_take.1 (State.queue_logStep (s := s.elapse dt) hqueue)).symm
    · rw [hstep, hmem]
      have hbytes := s.mem.getBytes_putBytes (slotAddr s.writeSlot) (r.bytes s.log.nextSeq)
      rwa [LogRec.length_bytes] at hbytes
    · intro a ha
      rw [hstep, hmem]
      exact s.mem.get_putBytes_other _ _ (by rwa [LogRec.length_bytes])
  case latch =>
    intro s dt r q hr hres hqueue
    exact ⟨_, exec_logRecordWrite hr hres,
      (List.prefix_iff_eq_take.1 (State.queue_logStep (s := s.elapse dt) hqueue)).symm,
      State.testBit_logStep (s := s.elapse dt) hqueue⟩
  case frozenNow =>
    intro s dt t0 slot hopen hcrit hcycle hen
    exact ⟨_, exec_logUnfreeze hopen, State.unfreeze_of_frozenNow (s := s.elapse dt) hcrit hcycle hen⟩
  case unfreeze =>
    intro s dt hopen hcrit
    refine ⟨_, exec_logUnfreeze hopen, ?_⟩
    rw [State.unfreeze_of_noneNow (s := s.elapse dt) hcrit]
    refine ⟨?_, rfl⟩
    rw [State.flag_eq, State.get_modLog, State.get_setB_same (by decide)]
    decide

end

section
/-! Why O8 fails: a word of a register is the sum of its fields in place, and no statement says that a field stays
within its width. -/

namespace Sys2Proof.Machine

/-- A device out of reset whose 8-bit field `XING_ERR.CELL_GRID` lists 256. -/
def overfullXingErr : State :=
  { State.reset with
    sys := { State.reset.sys with inReset := false }
    regs := [(R.CLK_XING_ERR_CELL_GRID.key, 256)] }

/-- The bit of the SAR island's crossing is set, and the field below it carries into it. -/
theorem wordOf_xingErr_of_overfull {t : State}
    (e : exec (.streamXingOverflow 0 8 0) overfullXingErr = .next t) : t.wordOf pgClk 0x0C0 = 512 := by
  cases e
  decide

end Sys2Proof.Machine

open Sys2Proof.Machine

/-- Refutes O8: where the field of the cells' crossings lists 256, a word lost at the crossing from SAR to grid
leaves its bit of `XING_ERR` 0. -/
theorem not_clockWatchCommands : ¬ Obligations.ClockWatchCommands := by
  unfold Obligations.ClockWatchCommands
  rintro ⟨hcrossing, -, -, -⟩
  obtain ⟨t, he, hbit, -⟩ := hcrossing overfullXingErr 0 8 0 rfl
  rw [wordOf_xingErr_of_overfull he] at hbit
  exact absurd hbit (by decide)

end

section
/-! Rules for the clock, reset and power state: which operations leave it, what a flag reads after a write, and
what the stop of a clock and Burl's safe state change of it. -/

namespace Sys2Proof.Machine

variable {s t : State} {k : List Part} {r : Reg}

/-! ### Parts -/

/-- An operation whose parts have no clock, reset and power state among them leaves it alone. -/
theorem State.sys_of_sameBut (h : s.sameBut k t) (hsys : .sys ∉ k := by decide)
    (hd : .drop ∉ k := by decide) : t.sys = s.sys := by
  obtain ⟨-, hd' | hs⟩ := h
  · exact absurd hd' hd
  · simp only [hsys, false_or] at hs
    simp only [hs]

/-- An operation whose parts have no boot phase among them leaves it alone. -/
theorem State.boot_of_sameBut (h : s.sameBut k t) (hb : .boot ∉ k := by decide)
    (hd : .drop ∉ k := by decide) : t.boot = s.boot := by
  obtain ⟨-, hd' | hs⟩ := h
  · exact absurd hd' hd
  · simp only [hb, false_or] at hs
    simp only [hs]

@[simp] theorem State.sys_linesSync (s : State) : s.linesSync.sys = s.sys :=
  State.sys_of_sameBut (keeps_linesSync (keeps_sameBut [.recent, .pod, .safe, .chan, .regs] s) s
    (State.sameBut_refl _ s))

@[simp] theorem State.sys_safeSync (s : State) : s.safeSync.sys = s.sys :=
  State.sys_of_sameBut (keeps_safeSync (keeps_sameBut [.recent, .pod, .safe, .chan, .regs] s) s
    (State.sameBut_refl _ s))

@[simp] theorem State.sys_passesCut (s : State) : s.passesCut.sys = s.sys :=
  State.sys_of_sameBut (keeps_passesCut (keeps_sameBut [.meter] s) s (State.sameBut_refl _ s))

@[simp] theorem State.sys_sarHalt (s : State) : s.sarHalt.sys = s.sys :=
  State.sys_of_sameBut (keeps_sarHalt (keeps_sameBut [.recent, .sar, .roverQ, .regs] s) s
    (State.sameBut_refl _ s))

@[simp] theorem State.sys_irqLogD (s : State) (p b sev : Nat) (data : List Nat) (o : Nat) :
    (s.irqLogD p b sev data o).sys = s.sys :=
  State.sys_of_sameBut (keeps_irqLogD (keeps_sameBut [.recent, .log, .pod, .regs] s) s p b sev data o
    (State.sameBut_refl _ s))

@[simp] theorem State.sys_finalSave (s : State) : s.finalSave.sys = s.sys :=
  State.sys_of_sameBut (keeps_finalSave (keeps_sameBut [.recent, .freeCtr, .pod, .meter, .fram, .regs] s) s
    (State.sameBut_refl _ s))

@[simp] theorem State.regs_abortWrite (s : State) : s.abortWrite.regs = s.regs :=
  State.regs_of_sameBut (keeps_abortWrite (keeps_sameBut [.freeCtr, .meter, .fram] s) s
    (State.sameBut_refl _ s))

@[simp] theorem State.regs_cutFuse (s : State) : s.cutFuse.regs = s.regs := by
  unfold State.cutFuse
  split
  · rfl
  · split <;> rfl

@[simp] theorem State.sys_modSys (f : SysSt → SysSt) : (s.modSys f).sys = f s.sys := rfl

@[simp] theorem State.sys_modLog (f : LogSt → LogSt) : (s.modLog f).sys = s.sys := rfl

/-! ### Fields -/

/-- A one-bit field reads as it was written. -/
theorem State.flag_setB_same {v : Bool} (h : r.acc ≠ .bo) (hw : r.width ≠ 0) : (s.setB r v).flag r = v := by
  have h1 : 1 % 2 ^ r.width = 1 := Nat.mod_eq_of_lt (Nat.one_lt_two_pow hw)
  rw [State.flag_eq, State.get_setB_same h]
  cases v <;> simp [h1]

theorem State.flag_setB_other {q : Reg} {v : Bool} (h : q.key ≠ r.key) : (s.setB r v).flag q = s.flag q := by
  rw [State.flag_eq, State.flag_eq, State.get_setB_other h]

theorem State.get_setMaskBit_same (s : State) {b : Nat} (h : r.acc ≠ .bo) :
    (s.setMaskBit r b).get r = setBit (s.get r) b % 2 ^ r.width :=
  (State.get_noteW1c _ _ _ _).trans (s.get_set_same _ h)

theorem State.get_setMaskBit_other {q : Reg} {b : Nat} (h : q.key ≠ r.key) :
    (s.setMaskBit r b).get q = s.get q :=
  (State.get_noteW1c _ _ _ _).trans (s.get_set_other _ h)

/-- A bit of a mask that was set reads 1. -/
theorem State.testBit_setMaskBit_same (s : State) {b : Nat} (h : r.acc ≠ .bo) (hb : b < r.width) :
    ((s.setMaskBit r b).get r).testBit b = true := by
  rw [State.get_setMaskBit_same s h, Nat.testBit_mod_two_pow, setBit, Nat.testBit_or, Nat.testBit_two_pow]
  simp [hb]

theorem testBit_clrBit_same (w b : Nat) : (clrBit w b).testBit b = false := by
  unfold clrBit
  by_cases h : w.testBit b = true
  · have hle : 2 ^ b ≤ w := Nat.ge_two_pow_of_testBit h
    have hflip := Nat.testBit_two_pow_add_eq (w - 2 ^ b) b
    rw [Nat.add_sub_cancel' hle, h] at hflip
    rw [if_pos h]
    simpa using hflip.symm
  · rw [if_neg h]
    simpa using h

/-- A bit of a mask that was cleared reads 0. -/
theorem State.testBit_putMaskBit_false (s : State) {b : Nat} (h : r.acc ≠ .bo) :
    ((s.putMaskBit r b false).get r).testBit b = false := by
  unfold State.putMaskBit putBit
  rw [State.get_set_same _ _ h, Nat.testBit_mod_two_pow, if_neg Bool.false_ne_true, testBit_clrBit_same,
    Bool.and_false]

/-! ### Clocks -/

/-- A cell's PLL after one of them is lost: lost, or as it was. -/
theorem getD_set_lost (l : List PllSt) (i j : Nat) :
    (l.set i .lost).getD j .off = .lost ∨ (l.set i .lost).getD j .off = l.getD j .off := by
  simp only [List.getD_eq_getElem?_getD, List.getElem?_set]
  split
  · split
    · exact .inl rfl
    next hlen => exact .inr (by rw [‹i = j›] at hlen; simp [hlen])
  · exact .inr rfl

/-- Where an island's clock is lost, every PLL is lost or as it was. -/
theorem SysSt.pll_putPll_lost (d : SysSt) (i j : Nat) :
    (d.putPll i .lost).pll j = .lost ∨ (d.putPll i .lost).pll j = d.pll j := by
  have hcell := getD_set_lost d.pllCell i j
  unfold SysSt.putPll
  split_ifs <;> simp only [SysSt.pll] <;> split_ifs <;> simp only [hcell, true_or, or_true]

/-- The island whose clock is lost has no locked PLL. -/
theorem SysSt.pll_putPll_lost_same (d : SysSt) (j : Nat) : (d.putPll j .lost).pll j ≠ .locked := by
  have hcell : (d.pllCell.set j .lost).getD j .off ≠ .locked := by
    simp only [List.getD_eq_getElem?_getD, List.getElem?_set_self']
    cases d.pllCell[j]? <;> simp
  unfold SysSt.putPll
  split_ifs <;> simp_all only [SysSt.pll, if_true, if_false, ne_eq, not_false_eq_true, reduceCtorEq]

/-- The part of the clock, reset and power state that an island's stop leaves. -/
theorem State.sys_clockStops (s : State) (i : Nat) :
    ∃ l, (s.clockStops i).sys = { s.sys.putPll i .lost with cellStop := l } := by
  have hput : (s.putPll i .lost).sys = s.sys.putPll i .lost := by
    unfold State.putPll
    dsimp only
    split_ifs <;> simp only [State.sys_putMaskBit, State.sys_setB, State.sys_modSys]
  unfold State.clockStops
  dsimp only
  split_ifs
  · exact ⟨_, by rw [State.sys_linesSync, State.sys_modSys, hput]⟩
  · exact ⟨_, by rw [State.sys_sarHalt, State.sys_passesCut, hput]⟩
  · exact ⟨_, hput⟩

theorem State.pll_clockStops (s : State) (i j : Nat) :
    (s.clockStops i).sys.pll j = (s.sys.putPll i .lost).pll j := by
  obtain ⟨l, hl⟩ := s.sys_clockStops i
  rw [hl]
  rfl

@[simp] theorem State.xtalGood_clockStops (s : State) (i : Nat) :
    (s.clockStops i).sys.xtalGood = s.sys.xtalGood := by
  obtain ⟨l, hl⟩ := s.sys_clockStops i
  rw [hl]
  unfold SysSt.putPll
  split_ifs <;> rfl

@[simp] theorem State.xtalStopAt_clockStops (s : State) (i : Nat) :
    (s.clockStops i).sys.xtalStopAt = s.sys.xtalStopAt := by
  obtain ⟨l, hl⟩ := s.sys_clockStops i
  rw [hl]
  unfold SysSt.putPll
  split_ifs <;> rfl

/-- No island of the list has a locked PLL once their clocks have stopped, and none locks by it. -/
theorem State.pll_foldl_clockStops {l : List Nat} {j : Nat} (h : j ∈ l ∨ s.sys.pll j ≠ .locked) :
    (l.foldl State.clockStops s).sys.pll j ≠ .locked := by
  induction l generalizing s with
  | nil => simpa using h
  | cons i l ih =>
    refine ih ?_
    rw [List.mem_cons] at h
    rw [State.pll_clockStops]
    obtain (rfl | hl) | hs := h
    · exact .inr (s.sys.pll_putPll_lost_same j)
    · exact .inl hl
    · right
      rcases s.sys.pll_putPll_lost i j with e | e
      · simp [e]
      · rwa [e]

/-- Burl's safe state touches its own two fields of the clock, reset and power state (R391). -/
theorem State.sys_burlSafe (s : State) (cause mask : Nat) :
    ∃ c a, (s.burlSafe cause mask).sys = { s.sys with keptCause := c, safeAt := a } := by
  unfold State.burlSafe
  dsimp only
  split_ifs
  · exact ⟨_, s.sys.safeAt, by rw [State.sys_modLog, State.sys_modSys, State.sys_set]⟩
  · exact ⟨s.sys.keptCause, s.sys.safeAt, rfl⟩
  · exact ⟨cause, s.now, by
      rw [State.sys_irqLogD, State.sys_safeSync, State.sys_modSys, State.sys_set, State.sys_setB,
        State.now_set, State.now_setB]⟩

end Sys2Proof.Machine
end

section
/-! The entry into reset and the commands of the pins, the watchdog and the release (O11). -/

namespace Sys2Proof.Machine

variable {s : State} {r : Reg} {f : Causes → Causes} {dt t0 : Nat}

/-! ### What an entry into reset keeps and takes -/

/-- A kept key reads as before. -/
theorem RegFile.lookup_filter_key (m : RegFile) {p : Nat → Bool} {j : Nat} (h : p j = true) :
    RegFile.lookup (m.filter (fun e => p e.1)) j = m.lookup j := by
  induction m with
  | nil => rfl
  | cons e m ih =>
    obtain ⟨i, v⟩ := e
    by_cases hp : p i = true
    · simp only [List.filter_cons, hp, if_true, RegFile.lookup, ih]
    · have hne : i ≠ j := fun e => hp (e ▸ h)
      simp only [List.filter_cons, hp, RegFile.lookup, hne, if_false, ih, Bool.false_eq_true]

/-- The always-on fields keep their values through a reset that is no power-on reset (R52, R53). -/
theorem State.get_resetIslands_aon (s : State) (coreLost : Bool) (h : aonKey r.key = true) :
    (s.resetIslands false coreLost).get r = s.get r := by
  have hregs : (s.resetIslands false coreLost).regs = s.regs.filter (fun e => aonKey e.1) :=
    congrArg (List.filter _) ((State.regs_abortWrite _).trans s.regs_cutFuse)
  unfold State.get RegFile.get
  rw [hregs, RegFile.lookup_filter_key _ h]

@[simp] theorem State.inReset_enterReset (s : State) (por coreLost : Bool) :
    (s.enterReset por coreLost).sys.inReset = true := by
  unfold State.enterReset
  split
  next hin => cases por <;> cases coreLost <;> exact hin
  next =>
    cases por
    · exact congrArg SysSt.inReset (State.sys_inc ..)
    · rfl

/-- A power-on reset takes every register field (R48). -/
theorem State.regs_enterReset_por (s : State) (coreLost : Bool) : (s.enterReset true coreLost).regs = [] := by
  unfold State.enterReset
  split
  · cases coreLost <;> rfl
  · rfl

/-- A reset that removes `VDD_CORE` takes every memory (R52). -/
theorem State.mem_enterReset_coreLost (s : State) (por : Bool) : (s.enterReset por true).mem = [] := by
  unfold State.enterReset
  split
  · rfl
  · cases por
    · exact State.mem_inc ..
    · rfl

/-- An entry into reset counts once (R53). -/
theorem State.count_enterReset (s : State) (coreLost : Bool) (h : s.sys.inReset = false) :
    (s.enterReset false coreLost).get R.RSTPWR_RST_COUNT_COUNT
      = counted R.RSTPWR_RST_COUNT_COUNT (s.get R.RSTPWR_RST_COUNT_COUNT) := by
  unfold State.enterReset
  rw [if_neg (by simp [h])]
  refine (State.get_inc_same (by decide)).trans (congrArg _ ?_)
  exact State.get_resetIslands_aon _ coreLost (by decide)

theorem State.sys_addCause (s : State) (f : Causes → Causes) :
    (s.addCause f).sys = { s.sys with causes := f s.sys.causes } := rfl

theorem State.get_addCause (s : State) (f : Causes → Causes) (r : Reg) : (s.addCause f).get r = s.get r := rfl

theorem State.flag_addCause (s : State) (f : Causes → Causes) (r : Reg) :
    (s.addCause f).flag r = s.flag r := rfl

/-- A cause other than a loss of a supply is asserted: the entry into reset, the cause's flag and the cause. -/
def State.resetBy (s : State) (r : Reg) (f : Causes → Causes) : State :=
  ((s.enterReset false false).setB r true).addCause f

@[simp] theorem State.inReset_resetBy (s : State) (r : Reg) (f : Causes → Causes) :
    (s.resetBy r f).sys.inReset = true := by
  simp [State.resetBy, State.sys_addCause]

theorem State.flag_resetBy (s : State) (f : Causes → Causes) (h : r.acc ≠ .bo) (hw : r.width ≠ 0) :
    (s.resetBy r f).flag r = true := by
  rw [State.resetBy, State.flag_addCause, State.flag_setB_same h hw]

theorem State.count_resetBy (s : State) (f : Causes → Causes) (hr : R.RSTPWR_RST_COUNT_COUNT.key ≠ r.key)
    (h : s.sys.inReset = false) : (s.resetBy r f).get R.RSTPWR_RST_COUNT_COUNT
      = counted R.RSTPWR_RST_COUNT_COUNT (s.get R.RSTPWR_RST_COUNT_COUNT) := by
  rw [State.resetBy, State.get_addCause, State.get_setB_other hr, State.count_enterReset _ _ h]

/-! ### The commands -/

theorem exec_pinReset (hc : s.sys.causes.pin = false)
    (hf : (s.elapse dt).filterRan s.sys.pinAt (us 9) = true) :
    ∃ a, exec (.pinReset dt) s = .next
      (((s.elapse dt).resetBy R.RSTPWR_RST_CAUSE_PIN (fun c => { c with pin := true })).modSys
        (fun d => { d with pinAt := a })) :=
  ⟨_, if_neg (by simp [hc, hf])⟩

theorem exec_pinResetRelease (hc : s.sys.causes.pin = true)
    (hf : (s.elapse dt).filterRan s.sys.pinAt (us 9) = true) :
    exec (.pinResetRelease dt) s = .next
      (((s.elapse dt).addCause (fun c => { c with pin := false })).modSys
        (fun d => { d with pinAt := some (s.now + dt) })) :=
  if_pos ⟨hc, hf⟩

theorem exec_testReset (hc : s.sys.causes.test = false)
    (hf : (s.elapse dt).filterRan s.sys.testAt (us 9) = true) :
    ∃ a, exec (.testReset dt) s = .next
      (((s.elapse dt).resetBy R.RSTPWR_RST_CAUSE_TEST (fun c => { c with test := true })).modSys
        (fun d => { d with testAt := a })) :=
  ⟨_, if_neg (by simp [hc, hf])⟩

theorem exec_testResetRelease (hc : s.sys.causes.test = true)
    (hf : (s.elapse dt).filterRan s.sys.testAt (us 9) = true) :
    exec (.testResetRelease dt) s = .next
      (((s.elapse dt).addCause (fun c => { c with test := false })).modSys
        (fun d => { d with testAt := some (s.now + dt) })) :=
  if_pos ⟨hc, hf⟩

theorem exec_watchdogExpiry (hb : s.boot = .ready ∨ s.boot = .done) (hw : s.sys.wdogExpired = none)
    (ht : s.sys.wdogServed + burlTime (ms (s.get R.RSTPWR_WDOG_CFG_TIMEOUT_MS)) ≤ s.now + dt) :
    exec (.watchdogExpiry dt) s = .next
      ((((s.elapse dt).modSys (fun d => { d with wdogExpired := some (s.now + dt) })).burlSafe 2).finalSave) :=
  if_pos ⟨hb, hw, ht⟩

theorem exec_watchdogReset (hw : s.sys.wdogExpired = some t0) (ht : t0 + burlTime (ms 1) ≤ s.now + dt) :
    ∃ a, exec (.watchdogReset dt) s = .next
      (((s.elapse dt).resetBy R.RSTPWR_RST_CAUSE_WDOG (fun c => { c with wdog := true })).modSys
        (fun d => { d with wdogResetAt := a })) := by
  change ∃ a, execWatchdogReset dt s = _
  unfold execWatchdogReset
  simp only [State.sys_elapse, hw]
  exact ⟨_, if_pos ht⟩

/-- The device runs again: out of reset, no cause, its first two PLLs started, the boot begun. -/
def State.released (s : State) : State :=
  { s.modSys (fun d => { d with
      inReset := false, causes := {}, releasedAt := s.now, pllHost := .starting, pllHw := .starting }) with
    boot := .started }

theorem exec_resetRelease (hr : s.sys.inReset = true) (hm : (s.elapse dt).mayRelease = true) :
    exec (.resetRelease dt) s = .next
      ((s.elapse dt).released.canopyRestart.fuseShow.pinsSeen.setB R.CLK_PLL_STAT_XTAL_GOOD true) :=
  if_pos ⟨hr, hm⟩

/-- What is shown at a release touches neither the clock, reset and power state nor the boot's phase. -/
theorem State.sameBut_releaseShown (s : State) :
    s.sameBut [.recent, .canopyT, .meter, .regs]
      (s.canopyRestart.fuseShow.pinsSeen.setB R.CLK_PLL_STAT_XTAL_GOOD true) :=
  have hI := keeps_sameBut [.recent, .canopyT, .meter, .regs] s
  keeps_setB (hI.mono (by decide)) _ _ _ (keeps_pinsSeen (hI.mono (by decide)) _
    (keeps_fuseShow (hI.mono (by decide)) _ (keeps_canopyRestart (hI.mono (by decide)) s
      (State.sameBut_refl _ s))))

end Sys2Proof.Machine

open Sys2Proof.Machine

/-- Settles O11: each clause cites what its command does; an entry into reset sets `inReset` whatever it takes,
and nothing that happens beside a release or an expiry touches the fields that the statement reads. -/
theorem resetCommands : Obligations.ResetCommands := by
  unfold Obligations.ResetCommands
  refine ⟨?pin, ?pinEnd, ?test, ?testEnd, ?expiry, ?watchdog, ?release⟩
  case pin =>
    intro s dt hc hf
    obtain ⟨a, he⟩ := exec_pinReset hc hf
    refine ⟨_, he, by simp, rfl, ?_, fun hrun => ?_⟩
    · rw [State.flag_modSys, State.flag_resetBy _ _ (by decide) (by decide)]
    · rw [State.get_modSys, (s.elapse dt).count_resetBy _ (by decide) hrun, State.get_elapse]
  case pinEnd =>
    intro s dt hc hf
    exact ⟨_, exec_pinResetRelease hc hf, rfl⟩
  case test =>
    intro s dt hc hf
    obtain ⟨a, he⟩ := exec_testReset hc hf
    refine ⟨_, he, by simp, rfl, ?_⟩
    rw [State.flag_modSys, State.flag_resetBy _ _ (by decide) (by decide)]
  case testEnd =>
    intro s dt hc hf
    exact ⟨_, exec_testResetRelease hc hf, rfl⟩
  case expiry =>
    intro s dt hb hw ht
    refine ⟨_, exec_watchdogExpiry hb hw ht, ?_⟩
    obtain ⟨c, a, hsafe⟩ :=
      ((s.elapse dt).modSys (fun d => { d with wdogExpired := some (s.now + dt) })).sys_burlSafe 2 (2 ^ 2)
    rw [State.sys_finalSave, hsafe]
    rfl
  case watchdog =>
    intro s dt t0 hw ht
    obtain ⟨a, he⟩ := exec_watchdogReset hw ht
    refine ⟨_, he, by simp, rfl, ?_⟩
    rw [State.flag_modSys, State.flag_resetBy _ _ (by decide) (by decide)]
  case release =>
    intro s dt hr hm
    have hsys := State.sys_of_sameBut (s.elapse dt).released.sameBut_releaseShown
    have hboot := State.boot_of_sameBut (s.elapse dt).released.sameBut_releaseShown
    refine ⟨_, exec_resetRelease hr hm, ?_⟩
    rw [hsys, hboot]
    exact ⟨rfl, rfl, rfl, rfl, rfl, rfl⟩

end

section
/-! The rail monitors and the crystal (O10). -/

namespace Sys2Proof.Machine

variable {s : State} {dt t0 : Nat}

/-! ### A rail declared good -/

/-- A rail's bit is set; once all six are, the time is kept (R38, R48). -/
def State.railRisen (s : State) (r : Nat) : State :=
  let u := (s.railNoted r).setMaskBit R.RSTPWR_PWR_STAT_RAIL_GOOD r
  if u.rails = 63 then u.modSys (fun d => { d with railsGoodAt := u.now }) else u

/-- `VDD_AON` starts the count of the others' time; another rail later than 10 ms is late (R38). -/
def State.railTimed (s : State) (r : Nat) : State :=
  if r = railAon then
    (s.modSys (fun d => { d with aonGoodAt := s.now })).modCanopy
      (fun c => { c with coarse := 0, coarseAt := s.now })
  else if s.sys.aonGoodAt + ms 10 < s.now then
    (s.setB R.RSTPWR_PWR_STAT_SEQ_LATE true).modSys (fun d => { d with lateNew := true })
  else s

theorem exec_railGood {r : Fin 6} (hbad : s.rails.testBit r.val = false)
    (haon : r.val = 2 ∨ s.rails.testBit 2 = true) (hran : (s.elapse dt).railRan r.val = true) :
    exec (.railGood dt r) s = .next (((s.elapse dt).railRisen r).railTimed r) := by
  have hact : ¬ (((s.elapse dt).rails.testBit r = true)
      ∨ (r.val ≠ railAon ∧ ¬ (s.elapse dt).rails.testBit railAon = true)
      ∨ ¬ (s.elapse dt).railRan r = true) := by
    rintro (hgood | ⟨hne, hoff⟩ | hearly)
    · exact Bool.false_ne_true (hbad.symm.trans hgood)
    · exact haon.elim hne hoff
    · exact hearly hran
  unfold State.railTimed
  rw [apply_ite Host.Outcome.next, apply_ite Host.Outcome.next]
  exact if_neg hact

/-- Beside the rail's bit, its rise leaves at most the time since which all six are good. -/
theorem State.railRisen_eq (s : State) (r : Nat) : ∃ a, s.railRisen r =
    ((s.railNoted r).setMaskBit R.RSTPWR_PWR_STAT_RAIL_GOOD r).modSys
      (fun d => { d with railsGoodAt := a }) := by
  unfold State.railRisen
  dsimp only
  split_ifs
  · exact ⟨_, rfl⟩
  · exact ⟨((s.railNoted r).setMaskBit R.RSTPWR_PWR_STAT_RAIL_GOOD r).sys.railsGoodAt, rfl⟩

theorem State.rails_railRisen (s : State) {r : Nat} (h : r < 6) :
    (s.railRisen r).rails.testBit r = true := by
  obtain ⟨a, hrisen⟩ := s.railRisen_eq r
  rw [hrisen, State.rails, State.get_modSys]
  exact State.testBit_setMaskBit_same _ (by decide) h

@[simp] theorem State.now_railRisen (s : State) (r : Nat) : (s.railRisen r).now = s.now := by
  obtain ⟨a, hrisen⟩ := s.railRisen_eq r
  rw [hrisen]
  exact State.now_setMaskBit (s.railNoted r) _ _

@[simp] theorem State.aonGoodAt_railRisen (s : State) (r : Nat) :
    (s.railRisen r).sys.aonGoodAt = s.sys.aonGoodAt := by
  obtain ⟨a, hrisen⟩ := s.railRisen_eq r
  rw [hrisen, State.sys_modSys, State.sys_setMaskBit]
  rfl

theorem State.rails_railTimed (s : State) (r : Nat) : (s.railTimed r).rails = s.rails := by
  unfold State.railTimed
  split_ifs
  · rfl
  · exact State.get_setB_other (by decide)
  · rfl

theorem State.seqLate_railTimed {r : Nat} (hr : r ≠ railAon) (h : s.sys.aonGoodAt + ms 10 < s.now) :
    (s.railTimed r).flag R.RSTPWR_PWR_STAT_SEQ_LATE = true := by
  unfold State.railTimed
  rw [if_neg hr, if_pos h, State.flag_modSys]
  exact State.flag_setB_same (by decide) (by decide)

theorem State.aonGoodAt_railTimed (s : State) : (s.railTimed railAon).sys.aonGoodAt = s.now := rfl

/-! ### A rail declared bad -/

theorem State.rails_addCause (s : State) (f : Causes → Causes) : (s.addCause f).rails = s.rails := rfl

/-- What a brown-out shows of rail `r`, as numbered in `BOR_RAIL` (R40, R53). -/
def State.brownOutShown (s : State) (r : Nat) : State :=
  (((s.railNoted (borRail r)).putMaskBit R.RSTPWR_PWR_STAT_RAIL_GOOD (borRail r) false).setB
    R.RSTPWR_RST_CAUSE_BOR true).setMaskBit R.RSTPWR_RST_CAUSE_BOR_RAIL r

theorem exec_brownOutReset {r : Fin 5} (haon : s.rails.testBit 2 = true)
    (hgood : s.rails.testBit (borRail r.val) = true) (hran : (s.elapse dt).railRan (borRail r.val) = true) :
    exec (.brownOutReset dt r) s = .next
      ((((s.elapse dt).enterReset false (decide (r = 0))).brownOutShown r).addCause
        (fun c => { c with bor := true })) :=
  if_pos ⟨haon, hgood, hran⟩

theorem State.inReset_brownOutShown (s : State) (r : Nat) :
    (s.brownOutShown r).sys.inReset = s.sys.inReset := by
  simp [State.brownOutShown, State.railNoted]

theorem State.rails_brownOutShown (s : State) (r : Nat) :
    (s.brownOutShown r).rails.testBit (borRail r) = false := by
  unfold State.rails State.brownOutShown
  rw [State.get_setMaskBit_other (by decide), State.get_setB_other (by decide)]
  exact State.testBit_putMaskBit_false _ (by decide)

theorem State.bor_brownOutShown (s : State) (r : Nat) :
    (s.brownOutShown r).flag R.RSTPWR_RST_CAUSE_BOR = true := by
  unfold State.brownOutShown
  rw [State.flag_eq, State.get_setMaskBit_other (by decide), ← State.flag_eq]
  exact State.flag_setB_same (by decide) (by decide)

theorem State.borRail_brownOutShown (s : State) {r : Nat} (h : r < 5) :
    ((s.brownOutShown r).get R.RSTPWR_RST_CAUSE_BOR_RAIL).testBit r = true :=
  State.testBit_setMaskBit_same _ (by decide) h

/-- What a power-on reset shows: every rail and the crystal bad, and the levels that are present (R53, log
entry 72). -/
def State.powerLossShown (s : State) (held : Causes) : State :=
  (((s.set R.RSTPWR_PWR_STAT_RAIL_GOOD 0).setB R.RSTPWR_PWR_STAT_AON_XTAL false).setB
    R.RSTPWR_RST_CAUSE_PIN held.pin).setB R.RSTPWR_RST_CAUSE_TEST held.test

/-- The device as `VDD_AON` leaves it: no crystal, every register and memory lost. -/
def State.powerLost (s : State) : State :=
  (s.modSys (fun d => { d with xtalGood := false, xtalStopAt := none, lateNew := false })).enterReset true true

theorem exec_powerOnReset (h : s.rails.testBit 2 = false ∨ (s.elapse dt).railRan 2 = true) :
    exec (.powerOnReset dt) s = .next
      ((((s.elapse dt).powerLost.powerLossShown s.sys.causes).railNoted railAon).modSys (fun d =>
        { d with causes := { por := true, pin := s.sys.causes.pin, test := s.sys.causes.test } })) := by
  refine if_neg ?_
  rintro ⟨haon, hearly⟩
  exact h.elim (fun hoff => Bool.false_ne_true (hoff.symm.trans haon)) hearly

theorem State.get_powerLost (s : State) (r : Reg) : s.powerLost.get r = r.rst :=
  congrArg (RegFile.get · r) (State.regs_enterReset_por _ true)

theorem State.regsBut_powerLossShown (s : State) (held : Causes) :
    s.regsBut [R.RSTPWR_PWR_STAT_RAIL_GOOD, R.RSTPWR_PWR_STAT_AON_XTAL, R.RSTPWR_RST_CAUSE_PIN,
      R.RSTPWR_RST_CAUSE_TEST] (s.powerLossShown held) :=
  (((s.regsBut_of_regs.set).setB).setB).setB

@[simp] theorem State.sys_powerLossShown (s : State) (held : Causes) : (s.powerLossShown held).sys = s.sys := by
  simp [State.powerLossShown]

@[simp] theorem State.mem_powerLossShown (s : State) (held : Causes) : (s.powerLossShown held).mem = s.mem := by
  simp [State.powerLossShown]

theorem State.rails_powerLossShown (s : State) (held : Causes) : (s.powerLossShown held).rails = 0 := by
  unfold State.rails State.powerLossShown
  rw [State.get_setB_other (by decide), State.get_setB_other (by decide), State.get_setB_other (by decide)]
  exact s.get_set_same 0 (by decide)

theorem State.pin_powerLossShown (s : State) (held : Causes) :
    (s.powerLossShown held).flag R.RSTPWR_RST_CAUSE_PIN = held.pin := by
  unfold State.powerLossShown
  rw [State.flag_setB_other (by decide), State.flag_setB_same (by decide) (by decide)]

theorem State.aonXtal_powerLossShown (s : State) (held : Causes) :
    (s.powerLossShown held).flag R.RSTPWR_PWR_STAT_AON_XTAL = false := by
  unfold State.powerLossShown
  rw [State.flag_setB_other (by decide), State.flag_setB_other (by decide),
    State.flag_setB_same (by decide) (by decide)]

/-! ### The crystal -/

theorem exec_xtalGood (haon : s.rails.testBit 2 = true) :
    exec (.xtalGood dt) s = .next
      ((((s.elapse dt).modSys (fun d => { d with xtalGood := true })).setB R.CLK_PLL_STAT_XTAL_GOOD true).setB
        R.RSTPWR_PWR_STAT_AON_XTAL true) :=
  if_pos haon

/-- The islands that have a clock. -/
def State.lockedIslands (s : State) : List Nat :=
  (List.range 13).filter (fun i => decide (s.sys.pll i = .locked))

/-- The stop of the crystal is shown and its instant kept (R46). -/
def State.xtalStops (s : State) : State :=
  let u := ((s.modSys (fun d => { d with xtalGood := false })).setB R.CLK_PLL_STAT_XTAL_GOOD false).setB
    R.RSTPWR_PWR_STAT_AON_XTAL false
  u.modSys (fun d => { d with xtalStopAt := some u.now })

theorem exec_xtalLoss (hx : s.sys.xtalGood = true) (hr : s.sys.inReset = false) :
    exec (.xtalLoss dt) s = .next
      (((s.elapse dt).xtalStops.lockedIslands.foldl State.clockStops (s.elapse dt).xtalStops).burlSafe 1 18) := by
  refine (if_pos hx).trans (if_neg ?_)
  simp [hr]

theorem State.sys_xtalStops (s : State) :
    s.xtalStops.sys = { s.sys with xtalGood := false, xtalStopAt := some s.now } := by
  simp [State.xtalStops, State.modSys]

/-- The stops of the islands' clocks leave what is kept of the crystal. -/
theorem State.xtal_foldl_clockStops (s : State) (l : List Nat) :
    (l.foldl State.clockStops s).sys.xtalGood = s.sys.xtalGood
      ∧ (l.foldl State.clockStops s).sys.xtalStopAt = s.sys.xtalStopAt :=
  foldlI (I := fun t => t.sys.xtalGood = s.sys.xtalGood ∧ t.sys.xtalStopAt = s.sys.xtalStopAt) ⟨rfl, rfl⟩
    (fun t i h => by rwa [State.xtalGood_clockStops, State.xtalStopAt_clockStops])

/-- Once every running clock has stopped, no island's PLL is locked. -/
theorem State.pll_allStopped (s : State) (i : Fin 13) :
    (s.lockedIslands.foldl State.clockStops s).sys.pll i.val ≠ .locked := by
  refine State.pll_foldl_clockStops ?_
  by_cases h : s.sys.pll i.val = .locked
  · exact .inl (List.mem_filter.2 ⟨List.mem_range.2 i.isLt, decide_eq_true h⟩)
  · exact .inr h

theorem exec_xtalLossReset (hx : s.sys.xtalStopAt = some t0) (ht : t0 + ms 1 ≤ s.now + dt) :
    exec (.xtalLossReset dt) s = .next
      (((s.elapse dt).resetBy R.RSTPWR_RST_CAUSE_XTAL_LOSS (fun c => { c with xtal := true })).modSys
        (fun d => { d with xtalStopAt := none })) := by
  change execXtalLossReset dt s = _
  unfold execXtalLossReset
  simp only [State.sys_elapse, hx]
  exact if_pos ht

end Sys2Proof.Machine

open Sys2Proof.Machine

/-- Settles O10: each clause cites what its command does. The registers are lost with `VDD_AON` before its reset
shows anything, and the clocks that the crystal takes are all those that ran. -/
theorem railAndCrystalCommands : Obligations.RailAndCrystalCommands := by
  unfold Obligations.RailAndCrystalCommands
  refine ⟨?good, ?brownOut, ?powerOn, ?xtalGood, ?xtalLoss, ?xtalReset⟩
  case good =>
    intro s dt r hbad haon hran
    refine ⟨_, exec_railGood hbad haon hran, ?_, fun hr hlate => ?_, fun hr => ?_⟩
    · rw [State.rails_railTimed]
      exact State.rails_railRisen _ r.isLt
    · refine State.seqLate_railTimed hr ?_
      rwa [State.aonGoodAt_railRisen, State.now_railRisen]
    · rw [show r.val = railAon from hr, State.aonGoodAt_railTimed, State.now_railRisen, State.now_elapse]
  case brownOut =>
    intro s dt r haon hgood hran
    refine ⟨_, exec_brownOutReset haon hgood hran, ?_, ?_, ?_, ?_, ?_⟩
    · rw [State.sys_addCause, State.inReset_brownOutShown, State.inReset_enterReset]
    · rw [State.sys_addCause]
    · rw [State.rails_addCause, State.rails_brownOutShown]
    · rw [State.flag_addCause, State.bor_brownOutShown]
    · rw [State.get_addCause, State.borRail_brownOutShown _ r.isLt]
  case powerOn =>
    intro s dt h
    refine ⟨_, exec_powerOnReset h, ?_, rfl, fun r hr => ?_, State.pin_powerLossShown _ _,
      State.aonXtal_powerLossShown _ _, ?_, State.rails_powerLossShown _ _⟩
    · exact (congrArg SysSt.inReset (State.sys_powerLossShown _ _)).trans (State.inReset_enterReset _ _ _)
    · exact (State.regsBut_powerLossShown _ _ r hr).trans (State.get_powerLost _ r)
    · exact (State.mem_powerLossShown _ _).trans (State.mem_enterReset_coreLost _ true)
  case xtalGood =>
    intro s dt haon
    refine ⟨_, exec_xtalGood haon, ?_, ?_, State.flag_setB_same (by decide) (by decide)⟩
    · rw [State.sys_setB, State.sys_setB, State.sys_modSys]
    · rw [State.flag_setB_other (by decide), State.flag_setB_same (by decide) (by decide)]
  case xtalLoss =>
    intro s dt hx hr
    obtain ⟨c, a, hsafe⟩ := ((s.elapse dt).xtalStops.lockedIslands.foldl State.clockStops
      (s.elapse dt).xtalStops).sys_burlSafe 1 18
    obtain ⟨hgood, hstop⟩ :=
      (s.elapse dt).xtalStops.xtal_foldl_clockStops (s.elapse dt).xtalStops.lockedIslands
    refine ⟨_, exec_xtalLoss hx hr, ?_⟩
    rw [hsafe]
    refine ⟨?_, ?_, fun i => (s.elapse dt).xtalStops.pll_allStopped i⟩
    · rw [hgood, State.sys_xtalStops]
    · rw [hstop, State.sys_xtalStops]
      rfl
  case xtalReset =>
    intro s dt t0 hx ht
    refine ⟨_, exec_xtalLossReset hx ht, by simp, rfl, ?_⟩
    rw [State.flag_modSys, State.flag_resetBy _ _ (by decide) (by decide)]

end

section
/-! The outcomes of the commands (O3): every branch of every effect ends in a next state. -/

-- One proof after another: many at once take a thread each (see Laws/KeepsChannel).
set_option Elab.async false

namespace Sys2Proof.Machine

/-- The outcome is a next state. -/
def Answers (o : Host.Outcome State Fault Refusal) : Prop := ∃ t, o = .next t

theorem Answers.next (t : State) : Answers (.next t) := ⟨t, rfl⟩

theorem Answers.ite {c : Prop} [Decidable c] {a b : Host.Outcome State Fault Refusal}
    (ha : Answers a) (hb : Answers b) : Answers (if c then a else b) := by
  split
  · exact ha
  · exact hb

/-- The commands by the shape of their effect: its matches and conditions, with a next state at every
end. -/
theorem exec_answers (c : Instr) (s : State) : Answers (exec c s) := by
  cases c with
  -- The effect is a next state written out.
  | registerWrite | snLowRead | snHighRead | commitGo | commitDiscard | updateLockClear |
    errCountClear | irqStatClear | counterClear | tableWindowWrite | tablePairWrite | sdClkWrite |
    cmpCfgWrite | trigNow | inputLoss | inputLossEnd | inputFreeze | comparatorAssert |
    comparatorRelease | calRequest | calPeriodic | pwmDisable | pwmEnable | faultSourceActive |
    latchClear | scQualify | rdyNotReady | tripInput | kernelEnable | kernelDisable | kernelTestStart |
    cellJoin | cellLeave | shellDue | shellNow | scanDue | scanNow | gridPllLock | gridPllUnlock |
    gridPllUnfreeze | masterResign | resignRecovery | sourceStaleTrip | rtsWindowHeld | tripClear |
    tripNow | islandIndication | voteWindowExpiry | islandClear | activeEpochBoundary | actSuspend |
    rtBlockEnd | transferTripFrame | connectionCheck | saveAdopt | portAlignLoss | wrapEnd | helloSend |
    noverRetry | delayRequest | delayMarkerReceived | canopySet | remoteAccessGo | remoteTimeout |
    queueEnable | queueDisable | qdataPush | parityCheckDone | queueFlush | gylenWatchdogExpiry |
    gylenHostLoad | captureArm | captureStop | captureTrigNow | logRecordSubmit | logRecordWrite |
    logUnfreeze | mailboxGo | mdioCommand | saveHostRead =>
    exact .next _
  -- Conditions, and a next state on every side of them.
  | streamXingOverflow | burlClockWindow | aonCoarseLoad | brownOutReset | powerOnReset | xtalGood |
    pinReset | pinResetRelease | testReset | testResetRelease | watchdogExpiry | resetRelease |
    bootTableImage | bootLock | canopyTimerFire | sampleCentre | plausMissing | carrierZero |
    carrierPeak | idealEdge | scheduledSwitchOn | bootstrapRefresh | shootThrough | groupWaitExpiry |
    groupRelease | groupWindowClose | rdyBlankEnd | bypFbChange | kernelTestDone | joinKernelTimeout |
    gridCycle | excursionEnd | recoveryRampEnd | heartbeatSave | pfwFall | meterRestore |
    energyBroadcast | insertion | beaconSend | becomeSource | qdataPop | podPacketSent | packetTimeout |
    discrepancyFault | stopDelayEnd | channelDivergence | curtainPulseMissing | twohandLate |
    testPulseStart | gylenProduce | qspiAbort | identity | imageStatus | unknownService |
    heartwoodFrame | gylenSlice | housekeepingSlice | mailboxSlice | mdioDone | ptpAnnounce |
    ptpPdelayReq | ptpPdelaySend | saveHostReadDone | ownTc2Release | pfwRise | ethLinkChange |
    ptpPdelayResp =>
    exact .ite (.next _) (.next _)
  | burlRcMeasure | xtalLoss | tamperEvent | triggerEvent | poPeriodEnd | xchkFail | pulseStart |
    portAligned | safetyInputChange | logRead | ptpSync | ptpLoss =>
    exact .ite (.ite (.next _) (.next _)) (.next _)
  | qspiRead =>
    exact .ite (.next _) (.ite (.next _) (.next _))
  | railGood | pllLoss | outputReadbackFault | qspiWrite =>
    exact .ite (.next _) (.ite (.next _) (.ite (.next _) (.next _)))
  | scrubWord | bootProtectionImage | keyProvision =>
    exact .ite (.ite (.next _) (.ite (.next _) (.next _))) (.next _)
  | tunnelFrameReceived =>
    exact .ite (.ite (.ite (.next _) (.ite (.next _) (.next _))) (.next _)) (.next _)
  | faultSourceInactive =>
    exact .ite (.ite (.next _) (.ite (.ite (.next _) (.next _)) (.next _))) (.next _)
  | debugAccess =>
    exact .ite (.next _) (.ite (.ite (.next _) (.next _)) (.ite (.ite (.next _) (.next _)) (.next _)))
  | commitApply =>
    exact .ite (.ite (.next _) (.ite (.ite (.next _) (.ite (.next _) (.next _))) (.next _))) (.next _)
  | pllLock =>
    refine .ite (.next _) (.ite (.ite (.next _) ?_) (.ite (.next _) (.next _)))
    exact .ite (.next _) (.ite (.next _) (.ite (.next _) (.next _)))
  | frameReceive =>
    refine .ite (.ite (.next _) (.ite (.next _) (.ite (.next _) ?_))) (.next _)
    exact .ite (.next _) (.ite (.next _) (.ite (.next _) (.next _)))
  | deadlineMiss =>
    refine .ite (.next _) (.ite (.next _) (.ite (.next _) (.ite (.next _) (.ite (.next _) ?_))))
    exact .ite (.next _) (.ite (.next _) (.ite (.next _) (.next _)))
  -- A match on what the state holds, then conditions.
  | dlCountClear | calDone | shellTimeout | pulseEnd | periodicSave | pfwResume | portDown | srstInRise =>
    dsimp only [exec, execDlCountClear, execCalDone, execShellTimeout, execPulseEnd, execPeriodicSave,
      execPfwResume, execPortDown, execSrstInRise]
    split
    · exact .next _
    · exact .next _
  | xtalLossReset | watchdogReset | sarPassEnd | scheduledSwitchOff | refreshEnd | scStuck |
    bypOpenCheckExpiry | bypCloseCheckExpiry | kernelCompareWrite | dcLinkLow | curtOn | curtOff |
    shellCloseTimeout | noticeHoldExpiry | fuseProgramDone =>
    dsimp only [exec, execXtalLossReset, execWatchdogReset, execSarPassEnd, execScheduledSwitchOff,
      execRefreshEnd, execScStuck, execBypOpenCheckExpiry, execBypCloseCheckExpiry,
      execKernelCompareWrite, execDcLinkLow, execCurtOn, execCurtOff, execShellCloseTimeout,
      execNoticeHoldExpiry, execFuseProgramDone]
    split
    · exact .next _
    · exact .ite (.next _) (.next _)
  | ge0SetDelivery | modeRampEnd | finalSaveDone | portRelock | testPulseBStart | frameSent =>
    dsimp only [exec, execGe0SetDelivery, execModeRampEnd, execFinalSaveDone, execPortRelock,
      execTestPulseBStart, execFrameSent]
    split
    · exact .ite (.next _) (.next _)
    · exact .next _
  | dcLinkQualify | scanDwellEnd =>
    dsimp only [exec, execDcLinkQualify, execScanDwellEnd]
    split
    · exact .next _
    · exact .ite (.ite (.next _) (.next _)) (.next _)
  | roverTimeout | saveVerify =>
    dsimp only [exec, execRoverTimeout, execSaveVerify]
    split
    · exact .ite (.ite (.next _) (.next _)) (.next _)
    · exact .next _
  | scheduleValidationDone | shellBlockEnd =>
    dsimp only [exec, execScheduleValidationDone, execShellBlockEnd]
    split
    · exact .next _
    · exact .ite (.ite (.next _) (.ite (.next _) (.ite (.next _) (.next _)))) (.next _)
  | beaconDecide =>
    dsimp only [exec, execBeaconDecide]
    split
    · exact .next _
    · exact .ite (.ite (.ite (.next _) (.next _)) (.next _)) (.next _)
  | resetPulse =>
    dsimp only [exec, execResetPulse]
    split
    · exact .next _
    · exact .ite (.next _) (.ite (.next _) (.ite (.next _) (.next _)))
  | testPulseEnd =>
    dsimp only [exec, execTestPulseEnd]
    split
    · exact .next _
    · exact .next _
    · exact .next _
    · exact .next _
  -- A condition, then a match where it holds.
  | cellReportReceived | helloReceived | gylenFrameReceived =>
    dsimp only [exec, execCellReportReceived, execHelloReceived, execGylenFrameReceived]
    refine .ite ?_ (.next _)
    split
    · exact .next _
    · exact .next _
  | remoteResponse | captureSet =>
    dsimp only [exec, execRemoteResponse, execCaptureSet]
    refine .ite ?_ (.next _)
    split
    · exact .next _
    · exact .ite (.next _) (.next _)
  | meterCycleEnd =>
    dsimp only [exec, execMeterCycleEnd]
    refine .ite ?_ (.next _)
    split
    · exact .next _
    · exact .next _
    · exact .next _
  | armFrameReceived =>
    dsimp only [exec, execArmFrameReceived]
    refine .ite ?_ (.next _)
    split
    · exact .next _
    · refine .ite (.next _) ?_
      split
      · exact .next _
      · exact .next _
  | remoteRequest =>
    dsimp only [exec, execRemoteRequest]
    refine .ite ?_ (.next _)
    split
    · exact .next _
    · split
      · exact .next _
      · exact .ite (.next _) (.next _)
  | epochUpdatePoint =>
    dsimp only [exec, execEpochUpdatePoint]
    refine .ite (.ite (.next _) (.ite (.next _) (.ite ?_ ?_))) (.next _)
    rotate_left
    · exact .ite (.ite (.next _) (.next _)) (.next _)
    split
    · exact .ite (.next _) (.next _)
    · exact .next _
  -- A match behind a match.
  | kernelPredictionDone =>
    dsimp only [exec, execKernelPredictionDone]
    split
    · exact .next _
    · refine .ite ?_ (.next _)
      split
      · exact .next _
      · exact .ite (.next _) (.next _)
  | sarConversionDone =>
    dsimp only [exec, execSarConversionDone]
    split
    · exact .next _
    · refine .ite ?_ (.next _)
      split
      · exact .next _
      · exact .ite (.next _) (.ite (.next _) (.next _))
  | noticeSend =>
    dsimp only [exec, execNoticeSend]
    split
    · exact .next _
    · refine .ite ?_ (.next _)
      split
      · exact .next _
      · split
        · exact .next _
        · exact .next _
  | sarTriggerFire =>
    dsimp only [exec, execSarTriggerFire]
    split
    · exact .next _
    · refine .ite (.next _) (.ite ?_ (.ite (.next _) (.next _)))
      split
      · exact .ite (.next _) (.next _)
      · exact .next _

end Sys2Proof.Machine

open Sys2Proof.Machine

/-- Settles O3: each command's effect ends in a next state on each of its branches. -/
theorem everyCommandIsCarriedOut : Obligations.EveryCommandIsCarriedOut := exec_answers

end

section
/-! Host writes that the lock or Quarantine shuts out (O60): the port's error count and what moves with it. -/

-- One proof after another: many at once take a thread each (see Laws/KeepsChannel).
set_option Elab.async false

namespace Sys2Proof.Machine

variable {s t : State} {l : List Reg} {a p ofs v : Nat}

/-! ### The port's error count -/

/-- An error charged to HOST moves the count, its interrupt and the address of the last error (R86). -/
theorem State.regsBut.errHost (h : s.regsBut l t) (hc : H.ERR_COUNT pgHost ∈ l := by simp)
    (hi : H.IRQ_RAW pgHost ∈ l := by simp) (ha : R.HOST_LAST_ERR_ADDR ∈ l := by simp) :
    s.regsBut l (t.errHost a) := by
  unfold State.errHost State.err
  exact ((h.inc hc).irq hi).set ha

theorem State.regsBut_errHost_elapse (s : State) (dt a : Nat) :
    s.regsBut [H.ERR_COUNT pgHost, H.IRQ_RAW pgHost, R.HOST_LAST_ERR_ADDR] ((s.elapse dt).errHost a) :=
  s.regsBut_of_regs.errHost

theorem State.sameBut_errHost_elapse (s : State) (dt a : Nat) :
    s.sameBut [.now, .recent, .pod, .regs] ((s.elapse dt).errHost a) :=
  have hI := keeps_sameBut [.now, .recent, .pod, .regs] s
  keeps_errHost (hI.mono (by decide)) _ a (keeps_elapse (hI.mono (by decide)) s dt (State.sameBut_refl _ s))

/-! ### A page that is shut -/

/-- Before the lock and in Quarantine the host reaches HOST and MBOX alone (R61, R78). -/
theorem State.hostOk_of_shut (h : s.locked = false ∨ s.quarantine = true) (hh : p ≠ pgHost)
    (hm : p ≠ pgMbox) : s.hostOk p = false := by
  unfold State.hostOk
  rcases h with h | h <;> simp [h, hh, hm]

/-- A write to a page that takes none is counted, and that is all (R61, R78). -/
theorem State.pageWrite_of_shut (hok : s.hostOk p = false) (hm : p ≠ pgMbox) :
    s.pageWrite p ofs v = s.errHost (p * 4096 + ofs) := by
  unfold State.pageWrite State.pageAct
  rw [if_neg (fun h => hm h.1), hok]
  rfl

/-- Before the lock and in Quarantine all of table memory is shut, and the error is the host's (R61, R78). -/
theorem State.tableShut_of_shut (h : s.locked = false ∨ s.quarantine = true) (a : Nat) :
    s.tableShut a = some pgHost := by
  unfold State.tableShut
  exact if_pos (by rcases h with h | h <;> simp [h])

theorem State.tableWrite_of_hostCharge (h : s.tableShut a = some pgHost) :
    s.tableWrite a v = s.errHost a := by
  unfold State.tableWrite
  rw [h]
  exact if_pos rfl

/-! ### The commands -/

variable {dt addr w : Nat}

/-- A write to a register of a page that the host does not reach is an error of its address. -/
theorem exec_registerWrite_of_shut (hr : s.hostRuns = true) (hs : s.locked = false ∨ s.quarantine = true)
    (ha : addr < 0x100000) (hh : addr / 4096 ≠ pgHost) (hm : addr / 4096 ≠ pgMbox) :
    exec (.registerWrite dt addr w) s = .next ((s.elapse dt).errHost (addr / 4 * 4)) := by
  have hpage : addr / 4 * 4 / 4096 = addr / 4096 := by omega
  have hword : addr / 4096 * 4096 + addr / 4 * 4 % 4096 = addr / 4 * 4 := by omega
  have hlow : addr / 4 * 4 < 0x100000 := by omega
  have hok : (s.elapse dt).hostOk (addr / 4096) = false := State.hostOk_of_shut hs hh hm
  change Host.Outcome.next ((s.elapse dt).hostWrite addr w) = _
  unfold State.hostWrite State.fabWrite
  rw [if_pos (show (s.elapse dt).hostRuns = true from hr)]
  simp only [hlow, if_true, hpage]
  rw [State.pageWrite_of_shut hok hm, hword]

/-- A write to table memory that is shut to the host is an error of its address. -/
theorem exec_tableWindowWrite_of_shut {flips : Fin 3} (hr : s.hostRuns = true)
    (hs : s.locked = false ∨ s.quarantine = true)
    (hin : inRegion tableBase tableSize (addr / 4 * 4) = true) :
    exec (.tableWindowWrite dt addr w flips) s = .next
      (((s.elapse dt).spoil [(addr / 4 * 4, flips.val)]).errHost (addr / 4 * 4)) := by
  have hshut : (s.elapse dt).tableShut (addr / 4 * 4) = some pgHost := State.tableShut_of_shut hs _
  rw [exec_tableWindowWrite hr hin,
    State.tableWrite_of_hostCharge ((State.tableShut_spoil_single hin).trans hshut)]

end Sys2Proof.Machine

open Sys2Proof.Machine

/-- Settles O60: either write is an error charged to HOST and nothing else (`exec_registerWrite_of_shut`,
`exec_tableWindowWrite_of_shut`). -/
theorem hostWritesBeforeTheLockAreIgnored : Obligations.HostWritesBeforeTheLockAreIgnored := by
  unfold Obligations.HostWritesBeforeTheLockAreIgnored
  refine ⟨?register, ?table⟩
  case register =>
    intro s dt addr w hr hs ha hh hm
    exact ⟨_, exec_registerWrite_of_shut hr hs ha hh hm, State.errCount_errHost _ _,
      s.regsBut_errHost_elapse dt _, s.sameBut_errHost_elapse dt _⟩
  case table =>
    intro s dt addr w flips hr hs hin
    refine ⟨_, exec_tableWindowWrite_of_shut hr hs hin, ?_, ?_, ?_⟩
    · rw [State.errCount_errHost, State.get_spoil_single hin, State.get_elapse]
    · exact State.regsBut.errHost (fun r _ => State.get_spoil_single hin r)
    · have hI := keeps_sameBut [.now, .recent, .pod, .regs, .ecc] s
      exact keeps_errHost (hI.mono (by decide)) _ _ (keeps_spoil (hI.mono (by decide)) _ _
        (keeps_elapse (hI.mono (by decide)) s dt (State.sameBut_refl _ s)))

end

section
/-! The boot's table image (O12): the rewritable areas are filled with zeros before the image's header is
looked at (R72), so a wrong header does not leave what stood in them. -/

-- One proof after another: many at once take a thread each (see Laws/KeepsChannel).
set_option Elab.async false

namespace Sys2Proof.Machine

variable {s : State} {dt : Nat} {bytes : List Nat}

/-! ### What the end of the table load does to the memories -/

@[simp] theorem State.mem_logResume (s : State) : s.logResume.mem = s.mem :=
  State.mem_of_sameBut (keeps_logResume (keeps_sameBut [.recent, .log, .pod, .regs] s) s
    (State.sameBut_refl _ s))

@[simp] theorem State.mem_lateRecord (s : State) : s.lateRecord.mem = s.mem :=
  State.mem_of_sameBut (keeps_lateRecord (keeps_sameBut [.recent, .sys, .log, .regs] s) s
    (State.sameBut_refl _ s))

@[simp] theorem State.mem_bootTamper (s : State) : s.bootTamper.mem = s.mem :=
  State.mem_of_sameBut (keeps_bootTamper (keeps_sameBut [.recent, .log, .regs] s) s (State.sameBut_refl _ s))

@[simp] theorem State.mem_bootRecord (s : State) : s.bootRecord.mem = s.mem :=
  State.mem_of_sameBut (keeps_bootRecord (keeps_sameBut [.recent, .sys, .log, .regs] s) s
    (State.sameBut_refl _ s))

@[simp] theorem State.mem_bootReady (s : State) : s.bootReady.mem = s.mem :=
  State.mem_of_sameBut (keeps_bootReady (keeps_sameBut [.sys, .boot] s) s (State.sameBut_refl _ s))

@[simp] theorem State.mem_zeroFill (s : State) (a b : Nat) :
    (s.zeroFill a b).mem = s.mem.zero a (b - a) := rfl

/-- A table image with a wrong header stores nothing, and the areas it would have filled are zero (R72). -/
theorem exec_bootTableImage_of_badHeader (hr : s.hwRuns = true) (hb : s.boot = .tables)
    (hh : tableHeaderOk bytes = false) :
    ∃ t, exec (.bootTableImage dt bytes) s = .next t
      ∧ t.mem = s.mem.zero tableBase (0x01150000 - tableBase) := by
  have hgo : (s.elapse dt).hwRuns = true ∧ (s.elapse dt).boot = .tables := ⟨hr, hb⟩
  change ∃ t, execBootTableImage dt bytes s = .next t ∧ _
  unfold execBootTableImage
  simp only [hgo, hh, and_self, if_true, Bool.false_eq_true, if_false]
  exact ⟨_, rfl, by simp⟩

/-! ### The counterexample -/

/-- The boot at its table image, with one byte of the first converter's tables left over from before. -/
def staleTable : State :=
  { State.reset with
    sys := { State.reset.sys with inReset := false, pllHw := .locked }
    boot := .tables
    mem := [(tableBase, 1)] }

theorem zero_staleTable : staleTable.mem.zero tableBase (0x01150000 - tableBase) ≠ staleTable.mem := by
  decide

end Sys2Proof.Machine

open Sys2Proof.Machine

/-- Refutes O12: its clause of a table image with a wrong header keeps the memories as they were, but the boot
has filled the rewritable areas with zeros by then (R72). In `staleTable` a byte of them is lost to the empty
image. -/
theorem not_bootCommands : ¬ Obligations.BootCommands := by
  unfold Obligations.BootCommands
  rintro ⟨-, htable, -, -⟩
  have hbad : tableHeaderOk [] = false := by decide
  obtain ⟨t, ht, -, hwrong⟩ := htable staleTable 0 [] (by decide) (by decide)
  obtain ⟨-, -, -, -, -, hkept⟩ := hwrong hbad
  obtain ⟨u, hu, hzero⟩ :=
    exec_bootTableImage_of_badHeader (s := staleTable) (dt := 0) (by decide) (by decide) hbad
  obtain rfl : t = u := by simpa [ht] using hu
  exact zero_staleTable (hzero.symm.trans hkept)

end

section
/-! A register written field by field: what the write is once no field of it is out of range (R5, R490). -/

-- One proof after another: many at once take a thread each (see Laws/KeepsChannel).
set_option Elab.async false

namespace Sys2Proof.Machine

variable {s t : State} {l fs : List Reg} {r : Reg} {p ofs v w n k : Nat}

/-- The fields of the register at offset `ofs` of page `p`. -/
def fieldsOf (p ofs : Nat) : List Reg := (pageFields p).filter (fun r => r.ofs = ofs)

/-- The field takes a write whenever it comes: it is RW without a condition, or W1S. -/
def Reg.takes (r : Reg) : Bool := decide (r.acc = .rw) || decide (r.acc = .w1s)

/-- The field's stated range is all that fits in it. -/
def Reg.fullRange (r : Reg) : Bool := decide (r.mn = 0) && decide (r.mx + 1 = 2 ^ r.width)

theorem Reg.not_conditional_of_takes (h : r.takes = true) : r.acc.conditional = false ∧ r.acc ≠ .bo := by
  simp only [Reg.takes, Bool.or_eq_true, decide_eq_true_eq] at h
  rcases h with h | h <;> simp [h, Acc.conditional]

/-- No value is out of range for a field that takes every value that fits in it. -/
theorem Reg.outside_of_fullRange (h : r.fullRange = true) (v : Nat) : r.outside v = false := by
  simp only [Reg.fullRange, Bool.and_eq_true, decide_eq_true_eq] at h
  obtain ⟨hmin, hmax⟩ := h
  have hfits : r.ofWord v < 2 ^ r.width := Nat.mod_lt _ (Nat.two_pow_pos _)
  have hlow : ¬ r.ofWord v < r.mn := by omega
  have hhigh : ¬ r.mx < r.ofWord v := by omega
  simp [Reg.outside, hlow, hhigh]

/-- Only the field's own bits of the word decide whether it is in range. -/
theorem Reg.outside_congr (h : r.ofWord v = r.ofWord w) : r.outside v = r.outside w := by
  unfold Reg.outside
  rw [h]

/-- A write that is not ignored carries no value out of range. -/
theorem State.outside_of_accepted (h : s.refuses p ofs v = false) (hr : r ∈ fieldsOf p ofs) :
    r.outside v = false := by
  have hall := List.any_eq_false.1 h r hr
  simp only [Bool.or_eq_true, not_or, Bool.not_eq_true] at hall
  exact hall.1

/-- A write of a register whose fields all take it is a write of each field. -/
theorem State.fieldsWrite_of_takes (hf : fieldsOf p ofs = fs) (ht : fs.all Reg.takes = true)
    (hin : ∀ r ∈ fs, r.outside v = false) :
    s.fieldsWrite p ofs v = fs.foldl (fun t r => t.fieldWrite v r) s := by
  have htakes : ∀ r ∈ fs, r.acc.conditional = false ∧ r.acc ≠ .bo :=
    fun r hr => Reg.not_conditional_of_takes (List.all_eq_true.1 ht r hr)
  have hgood : fs.any (fun r => r.outside v || s.shut p v fs r) = false := by
    refine List.any_eq_false.2 (fun r hr => ?_)
    simp [hin r hr, State.shut, (htakes r hr).1]
  have hbo : fs.any (fun r => r.acc = .bo) = false :=
    List.any_eq_false.2 (fun r hr => by simp [(htakes r hr).2])
  unfold fieldsOf at hf
  unfold State.fieldsWrite
  simp only [hf, hgood, hbo, Bool.false_eq_true, if_false]

/-- The same where every value that fits is in range. -/
theorem State.fieldsWrite_of_fullRange (hf : fieldsOf p ofs = fs) (ht : fs.all Reg.takes = true)
    (hr : fs.all Reg.fullRange = true) (s : State) (v : Nat) :
    s.fieldsWrite p ofs v = fs.foldl (fun t r => t.fieldWrite v r) s :=
  State.fieldsWrite_of_takes hf ht (fun r hmem => Reg.outside_of_fullRange (List.all_eq_true.1 hr r hmem) v)

/-! ### The bit that starts something -/

/-- A word without the bit added to it. -/
theorem sub_and_two_pow (h : n < 2 ^ k) : n + 2 ^ k - ((n + 2 ^ k) &&& 2 ^ k) = n := by
  rw [Nat.and_two_pow, Nat.add_comm, Nat.testBit_two_pow_add_eq, Nat.testBit_lt_two_pow h]
  simp

theorem testBit_add_two_pow (h : n < 2 ^ k) : (n + 2 ^ k).testBit k = true := by
  rw [Nat.add_comm, Nat.testBit_two_pow_add_eq, Nat.testBit_lt_two_pow h]
  rfl

/-- The bit of the mask stays out of the rest of the register. -/
theorem State.restWrite_add_two_pow (h : n < 2 ^ k) :
    s.restWrite p ofs (n + 2 ^ k) (2 ^ k) = s.fieldsWrite p ofs n := by
  unfold State.restWrite
  rw [sub_and_two_pow h]

end Sys2Proof.Machine
end

section
/-! The host's commands with a GO of their own (O20): the Gylen buffer, the mailbox, the PHY, the save
port. -/

-- One proof after another: many at once take a thread each (see Laws/KeepsChannel).
set_option Elab.async false

namespace Sys2Proof.Machine

variable {s : State} {ofs p w : Nat}

/-- A value that fits is read back. -/
theorem State.get_set_fits {r : Reg} {v : Nat} (hv : v < 2 ^ r.width) (h : r.acc ≠ .bo := by decide) :
    (s.set r v).get r = v := by
  rw [State.get_set_same _ _ h, Nat.mod_eq_of_lt hv]

/-- A flag outside the written registers stays. -/
theorem State.regsBut.flag {l : List Reg} {t : State} {r : Reg} (h : s.regsBut l t)
    (hr : r.key ∉ l.map Reg.key) : t.flag r = s.flag r := by
  rw [State.flag_eq, State.flag_eq, h r hr]

/-- A page that takes a host write is reached through a port that serves. -/
theorem State.hostRuns_of_hostOpen (h : s.hostOpen p = true) : s.hostRuns = true := by
  simp only [State.hostOpen, Bool.and_eq_true] at h
  obtain ⟨⟨hserves, -⟩, -⟩ := h
  exact hserves

theorem State.pageAct_of_hostOpen {f : State → State} (h : s.hostOpen p = true) :
    s.pageAct p ofs f = f s := by
  have hact := State.hostAct_of_hostOpen h (ofs := ofs) (f := f)
  unfold State.hostAct at hact
  rwa [if_pos (State.hostRuns_of_hostOpen h)] at hact

/-! ### The Gylen buffer (R417, R421) -/

/-- `HTX_CTRL` written, its fields in their order. -/
theorem State.fieldsWrite_htxCtrl (h : R.GYLEN_HTX_CTRL_LEN.outside w = false) :
    ∃ g, s.fieldsWrite pgGylen 0x244 w =
      ((s.set R.GYLEN_HTX_CTRL_CONN (R.GYLEN_HTX_CTRL_CONN.ofWord w)).set R.GYLEN_HTX_CTRL_LEN
        (R.GYLEN_HTX_CTRL_LEN.ofWord w)).set R.GYLEN_HTX_CTRL_GO g := by
  have hf : fieldsOf pgGylen 0x244 =
      [R.GYLEN_HTX_CTRL_CONN, R.GYLEN_HTX_CTRL_LEN, R.GYLEN_HTX_CTRL_GO] := by decide
  refine ⟨_, (State.fieldsWrite_of_takes hf (by decide) ?_).trans rfl⟩
  simp only [List.forall_mem_cons, List.not_mem_nil, false_implies, implies_true, and_true]
  exact ⟨Reg.outside_of_fullRange (by decide) w, h, Reg.outside_of_fullRange (by decide) w⟩

/-- The word that starts a host load, without its GO. -/
def htxWord (conn : Fin 16) (len : Fin 64) : Nat := conn.val + 256 * len.val

theorem ofWord_htxCtrl_conn (conn : Fin 16) (len : Fin 64) :
    R.GYLEN_HTX_CTRL_CONN.ofWord (htxWord conn len) = conn.val := by
  simp only [Reg.ofWord, bitsOf, htxWord, R.GYLEN_HTX_CTRL_CONN, Nat.shiftRight_eq_div_pow]
  omega

theorem ofWord_htxCtrl_len (conn : Fin 16) (len : Fin 64) :
    R.GYLEN_HTX_CTRL_LEN.ofWord (htxWord conn len) = len.val := by
  simp only [Reg.ofWord, bitsOf, htxWord, R.GYLEN_HTX_CTRL_LEN, Nat.shiftRight_eq_div_pow]
  omega

/-- The GO of the word has no part in its length. -/
theorem outside_htxCtrl_len {conn : Fin 16} {len : Fin 64}
    (h : s.refuses pgGylen 0x244 (htxWord conn len + 2 ^ 16) = false) :
    R.GYLEN_HTX_CTRL_LEN.outside (htxWord conn len) = false := by
  have hlen : R.GYLEN_HTX_CTRL_LEN.outside (htxWord conn len + 2 ^ 16) = false :=
    State.outside_of_accepted h (by decide)
  rwa [Reg.outside_congr] at hlen
  simp only [Reg.ofWord, bitsOf, R.GYLEN_HTX_CTRL_LEN, Nat.shiftRight_eq_div_pow]
  omega

/-- `HTX_CTRL` as a host load leaves it. -/
def State.htxSet (s : State) (conn : Fin 16) (len : Fin 64) (g : Nat) : State :=
  ((s.set R.GYLEN_HTX_CTRL_CONN conn.val).set R.GYLEN_HTX_CTRL_LEN len.val).set R.GYLEN_HTX_CTRL_GO g

theorem State.get_htxSet_conn (s : State) (conn : Fin 16) (len : Fin 64) (g : Nat) :
    (s.htxSet conn len g).get R.GYLEN_HTX_CTRL_CONN = conn.val := by
  unfold State.htxSet
  rw [State.get_set_other _ _ (by decide), State.get_set_other _ _ (by decide), State.get_set_fits conn.isLt]

theorem State.get_htxSet_len (s : State) (conn : Fin 16) (len : Fin 64) (g : Nat) :
    (s.htxSet conn len g).get R.GYLEN_HTX_CTRL_LEN = len.val := by
  unfold State.htxSet
  rw [State.get_set_other _ _ (by decide), State.get_set_fits len.isLt]

theorem State.gylenWrite_htxCtrl {conn : Fin 16} {len : Fin 64}
    (h : s.refuses pgGylen 0x244 (htxWord conn len + 2 ^ 16) = false) :
    ∃ g, s.gylenWrite 0x244 (htxWord conn len + 2 ^ 16) = (s.htxSet conn len g).gylHostLoad := by
  have hbits : htxWord conn len < 2 ^ 16 := by
    have hconn := conn.isLt
    have hlen := len.isLt
    unfold htxWord
    omega
  obtain ⟨g, hg⟩ := State.fieldsWrite_htxCtrl (s := s) (outside_htxCtrl_len h)
  refine ⟨g, ?_⟩
  unfold State.gylenWrite
  rw [if_pos rfl, h, show (0x10000 : Nat) = 2 ^ 16 from rfl, State.restWrite_add_two_pow hbits,
    testBit_add_two_pow hbits, hg, ofWord_htxCtrl_conn, ofWord_htxCtrl_len]
  rfl

/-- The bytes of the first `n` that stand in `HTX_DATA`. -/
def State.htxBytes (s : State) (n : Nat) : List Nat :=
  ((List.range 8).flatMap (fun i => bytesLE 4 (s.get (R.GYLEN_HTX_DATA_DATA i)))).take n

theorem State.htxBytes_congr {t : State}
    (h : ∀ i, t.get (R.GYLEN_HTX_DATA_DATA i) = s.get (R.GYLEN_HTX_DATA_DATA i)) (n : Nat) :
    t.htxBytes n = s.htxBytes n := by
  unfold State.htxBytes
  simp only [h]

/-- The buffer of the connection that `HTX_CTRL` names, a host-fed producer, is loaded. -/
theorem State.host_gylHostLoad {n : Nat} (hn : s.get R.GYLEN_HTX_CTRL_CONN = n) (hlt : n < s.gyl.length)
    (hen : s.flag (R.GYLEN_CCFG_EN n) = true) (hdir : s.flag (R.GYLEN_CCFG_DIR n) = true)
    (hsrc : s.flag (R.GYLEN_CCFG_SRC_HOST n) = true) :
    (s.gylHostLoad.conn n).host = s.htxBytes (s.get R.GYLEN_HTX_CTRL_LEN) := by
  unfold State.gylHostLoad
  simp only [hn, hen, hdir, hsrc, and_self, if_true]
  simp [State.conn, State.setConn, hlt, State.htxBytes, List.getD]

/-- The fields of `HTX_CTRL`. -/
abbrev htxCtrl : List Reg := [R.GYLEN_HTX_CTRL_CONN, R.GYLEN_HTX_CTRL_LEN, R.GYLEN_HTX_CTRL_GO]

theorem State.regsBut_htxSet (s : State) (conn : Fin 16) (len : Fin 64) (g : Nat) :
    s.regsBut htxCtrl (s.htxSet conn len g) := s.regsBut_of_regs.set.set.set

/-- `HTX_CTRL` lies behind the connections' registers and before `HTX_DATA`. -/
theorem key_notMem_htxCtrl {r : Reg} (hp : r.page = pgGylen) (ho : r.ofs < 0x244 ∨ 0x244 < r.ofs)
    (hl : r.lo < 32) : r.key ∉ htxCtrl.map Reg.key := by
  simp only [List.map_cons, List.map_nil, List.mem_cons, List.not_mem_nil, or_false, Reg.key, hp, pgGylen,
    R.GYLEN_HTX_CTRL_CONN, R.GYLEN_HTX_CTRL_LEN, R.GYLEN_HTX_CTRL_GO]
  omega

/-- A host load of an enabled host-fed producer. -/
theorem State.host_gylenWrite {conn : Fin 16} {len : Fin 64} (hs : s.gyl.length = 16)
    (h : s.refuses pgGylen 0x244 (htxWord conn len + 2 ^ 16) = false)
    (hen : s.flag (R.GYLEN_CCFG_EN conn) = true) (hdir : s.flag (R.GYLEN_CCFG_DIR conn) = true)
    (hsrc : s.flag (R.GYLEN_CCFG_SRC_HOST conn) = true) :
    ((s.gylenWrite 0x244 (htxWord conn len + 2 ^ 16)).conn conn).host = s.htxBytes len := by
  obtain ⟨g, hg⟩ := State.gylenWrite_htxCtrl h
  have hkeep := s.regsBut_htxSet conn len g
  have hcfg : ∀ {r : Reg}, r.page = pgGylen → r.ofs < 0x244 → r.lo < 32 →
      (s.htxSet conn len g).flag r = s.flag r :=
    fun hp ho hl => hkeep.flag (key_notMem_htxCtrl hp (.inl ho) hl)
  have hdata : ∀ i, (R.GYLEN_HTX_DATA_DATA i).key ∉ htxCtrl.map Reg.key := fun i =>
    key_notMem_htxCtrl rfl (.inr (by dsimp only [R.GYLEN_HTX_DATA_DATA]; omega)) (by decide : 0 < 32)
  have hofs : 0x044 + 32 * conn.val < 0x244 := by omega
  have hlt : conn.val < (s.htxSet conn len g).gyl.length := by simp [State.htxSet, hs]
  rw [hg, State.host_gylHostLoad (s.get_htxSet_conn conn len g) hlt
    ((hcfg rfl hofs (by decide : 0 < 32)).trans hen) ((hcfg rfl hofs (by decide : 1 < 32)).trans hdir)
    ((hcfg rfl hofs (by decide : 2 < 32)).trans hsrc), State.get_htxSet_len]
  exact State.htxBytes_congr (fun i => hkeep _ (hdata i)) _

/-! ### The mailbox (R453, R454) -/

/-- The fields of `REQ`. -/
abbrev req : List Reg := [R.MBOX_REQ_SERVICE, R.MBOX_REQ_TAG, R.MBOX_REQ_GO]

/-- `REQ` written, its fields in their order. -/
theorem State.fieldsWrite_req (s : State) (w : Nat) : ∃ g, s.fieldsWrite pgMbox 0x040 w =
    ((s.set R.MBOX_REQ_SERVICE (R.MBOX_REQ_SERVICE.ofWord w)).set R.MBOX_REQ_TAG
      (R.MBOX_REQ_TAG.ofWord w)).set R.MBOX_REQ_GO g :=
  have hf : fieldsOf pgMbox 0x040 = req := by decide
  ⟨_, (State.fieldsWrite_of_fullRange hf (by decide) (by decide) s w).trans rfl⟩

/-- The word of a mailbox request, without its GO. -/
def reqWord (service tag : Fin 256) : Nat := service.val + 256 * tag.val

theorem reqWord_lt (service tag : Fin 256) : reqWord service tag < 2 ^ 16 := by
  have hservice := service.isLt
  have htag := tag.isLt
  unfold reqWord
  omega

theorem ofWord_req_service (service tag : Fin 256) :
    R.MBOX_REQ_SERVICE.ofWord (reqWord service tag) = service.val := by
  simp only [Reg.ofWord, bitsOf, reqWord, R.MBOX_REQ_SERVICE, Nat.shiftRight_eq_div_pow]
  omega

theorem ofWord_req_tag (service tag : Fin 256) : R.MBOX_REQ_TAG.ofWord (reqWord service tag) = tag.val := by
  simp only [Reg.ofWord, bitsOf, reqWord, R.MBOX_REQ_TAG, Nat.shiftRight_eq_div_pow]
  omega

/-- A request written as the host writes it, with GO set. -/
def State.requested (s : State) (service tag : Fin 256) (g : Nat) : State :=
  (((s.set R.MBOX_REQ_SERVICE service.val).set R.MBOX_REQ_TAG tag.val).set R.MBOX_REQ_GO g).setB R.MBOX_REQ_GO
    true

theorem State.regsBut_requested (s : State) (service tag : Fin 256) (g : Nat) :
    s.regsBut req (s.requested service tag g) := s.regsBut_of_regs.set.set.set.setB

theorem State.get_requested_service (s : State) (service tag : Fin 256) (g : Nat) :
    (s.requested service tag g).get R.MBOX_REQ_SERVICE = service.val := by
  unfold State.requested
  rw [State.get_setB_other (by decide), State.get_set_other _ _ (by decide),
    State.get_set_other _ _ (by decide), State.get_set_fits service.isLt]

theorem State.get_requested_tag (s : State) (service tag : Fin 256) (g : Nat) :
    (s.requested service tag g).get R.MBOX_REQ_TAG = tag.val := by
  unfold State.requested
  rw [State.get_setB_other (by decide), State.get_set_other _ _ (by decide), State.get_set_fits tag.isLt]

theorem State.flag_requested_go (s : State) (service tag : Fin 256) (g : Nat) :
    (s.requested service tag g).flag R.MBOX_REQ_GO = true := State.flag_setB_same (by decide) (by decide)

theorem State.locked_requested (s : State) (service tag : Fin 256) (g : Nat) :
    (s.requested service tag g).locked = s.locked := (s.regsBut_requested service tag g).flag (by decide)

@[simp] theorem State.hw_requested (s : State) (service tag : Fin 256) (g : Nat) :
    (s.requested service tag g).hw = s.hw := by simp [State.requested]

@[simp] theorem State.now_requested (s : State) (service tag : Fin 256) (g : Nat) :
    (s.requested service tag g).now = s.now := by simp [State.requested]

theorem State.mboxShut_requested (s : State) (service tag : Fin 256) (g : Nat) :
    (s.requested service tag g).mboxShut = s.mboxShut := by
  have hpending : (s.requested service tag g).mboxPending = s.mboxPending :=
    (s.regsBut_requested service tag g).flag (by decide)
  unfold State.mboxShut
  rw [hpending, State.hw_requested, State.now_requested]

/-- A mailbox that is open takes the request's word and looks at it. -/
theorem State.mboxWrite_req (h : s.mboxShut = false) (service tag : Fin 256) :
    ∃ g, s.mboxWrite 0x040 (reqWord service tag + 2 ^ 16) = (s.requested service tag g).mboxGo := by
  have hbits := reqWord_lt service tag
  obtain ⟨g, hg⟩ := s.fieldsWrite_req (reqWord service tag)
  refine ⟨g, ?_⟩
  unfold State.mboxWrite
  rw [if_neg (by simp [h]), if_pos rfl, show (0x10000 : Nat) = 2 ^ 16 from rfl,
    State.restWrite_add_two_pow hbits, testBit_add_two_pow hbits, hg, ofWord_req_service, ofWord_req_tag]
  rfl

/-- Outside the mailbox slice a pending request waits (R459). -/
theorem State.mailServe_of_otherSlice (h : s.hw.slice ≠ .mail) : s.mailServe = s := by
  unfold State.mailServe
  simp [h]

/-- A request is accepted: it is pending and counted, and outside the mailbox slice nothing else moves. -/
theorem State.mboxGo_of_accepted (hshut : s.mboxShut = false) (hl : s.locked = true)
    (hacc : s.mboxAccepted < 2000) (hslice : s.hw.slice ≠ .mail) :
    s.mboxGo.mboxPending = true ∧ s.regsBut [R.MBOX_RSP_PENDING, R.MBOX_STAT_ACCEPTED] s.mboxGo := by
  have hfew : ¬ 2000 ≤ s.mboxAccepted := by omega
  unfold State.mboxGo
  simp only [hshut, hl, hfew, Bool.not_true, decide_false, Bool.or_self, Bool.false_eq_true, if_false]
  rw [State.mailServe_of_otherSlice (by simpa [State.modHw] using hslice)]
  have hafter := fun l => (s.setB R.MBOX_RSP_PENDING true).regsBut_of_regs (l := l)
  refine ⟨((hafter [R.MBOX_STAT_ACCEPTED]).modHw.set.flag (by decide)).trans ?_,
    s.regsBut_of_regs.setB.modHw.set⟩
  exact State.flag_setB_same (by decide) (by decide)

/-- A request before the lock is answered BUSY on the spot, and is an error of the host's (R61). -/
theorem State.pageWrite_req_of_unlocked (hl : s.locked = false) (service tag : Fin 256) :
    s.pageWrite pgMbox 0x040 (reqWord service tag + 2 ^ 16) =
      ((s.errHost (pgMbox * 4096 + 0x040)).mboxBusy).set R.MBOX_RSP_TAG tag.val := by
  have htag : bitsOf (reqWord service tag + 2 ^ 16) 8 8 = tag.val := by
    simp only [bitsOf, reqWord, Nat.shiftRight_eq_div_pow]
    omega
  unfold State.pageWrite
  rw [if_pos ⟨rfl, rfl, testBit_add_two_pow (reqWord_lt service tag), by simp [hl]⟩, htag]

/-- An answer without data writes the response's registers. -/
theorem State.regsBut_mboxAnswer (s : State) (code : Nat) : (s.set R.MBOX_RSP_CODE code).regsBut
    [R.MBOX_RSP_TAG, R.MBOX_RSP_COUNT, R.MBOX_RSP_PENDING, R.MBOX_REQ_GO, R.MBOX_RSP_DONE, H.IRQ_RAW pgMbox]
    (s.mboxAnswer code [] 0) :=
  ((((((s.set R.MBOX_RSP_CODE code).regsBut_of_regs.set).set).setB).setB).setB).modHw.irq

theorem State.code_mboxBusy (s : State) : s.mboxBusy.get R.MBOX_RSP_CODE = rcBusy := by
  unfold State.mboxBusy
  rw [State.get_irq_other (by decide), State.get_inc_other (by decide),
    s.regsBut_mboxAnswer rcBusy _ (by decide), State.get_set_fits (by decide)]

theorem State.errCount_mboxBusy (s : State) :
    s.mboxBusy.get (H.ERR_COUNT pgHost) = s.get (H.ERR_COUNT pgHost) := by
  unfold State.mboxBusy
  rw [State.get_irq_other (by decide), State.get_inc_other (by decide),
    s.regsBut_mboxAnswer rcBusy _ (by decide), State.get_set_other _ _ (by decide)]

/-- The host port hands a mailbox request to its page. -/
theorem exec_mailboxGo {dt : Nat} {service tag : Fin 256} (hr : s.hostRuns = true) :
    exec (.mailboxGo dt service tag) s = .next
      ((s.elapse dt).pageWrite pgMbox 0x040 (reqWord service tag + 2 ^ 16)) := by
  have hword : (reqWord service tag + 2 ^ 16) % 2 ^ 32 = reqWord service tag + 2 ^ 16 := by
    have := reqWord_lt service tag
    omega
  have hexec : exec (.mailboxGo dt service tag) s = .next
      ((s.elapse dt).hostWrite (pgMbox * 4096 + 0x040) (reqWord service tag + 0x10000)) := rfl
  have hreg : pgMbox * 4096 + 0x040 < 0x100000 := by decide
  rw [hexec, show (0x10000 : Nat) = 2 ^ 16 from rfl]
  unfold State.hostWrite State.fabWrite
  rw [if_pos (show (s.elapse dt).hostRuns = true from hr), hword]
  exact congrArg Host.Outcome.next (if_pos hreg)

theorem State.regWrite_req (s : State) (w : Nat) : s.regWrite pgMbox 0x040 w = s.mboxWrite 0x040 w := rfl

/-- With the device locked the page's own register takes the request. -/
theorem exec_mailboxGo_of_locked {dt : Nat} {service tag : Fin 256} (ho : s.hostOpen pgMbox = true)
    (hl : s.locked = true) : exec (.mailboxGo dt service tag) s = .next
      ((s.elapse dt).mboxWrite 0x040 (reqWord service tag + 2 ^ 16)) := by
  have hl' : (s.elapse dt).locked = true := hl
  have ho' : (s.elapse dt).hostOpen pgMbox = true := ho
  rw [exec_mailboxGo (State.hostRuns_of_hostOpen ho)]
  unfold State.pageWrite
  rw [if_neg (by simp [hl']), State.pageAct_of_hostOpen ho', State.regWrite_req]

/-! ### The PHY's management (R460) -/

/-- The fields of `MDIO_CMD`. -/
abbrev mdioCmd : List Reg :=
  [R.ETH_MDIO_CMD_DATA, R.ETH_MDIO_CMD_REG, R.ETH_MDIO_CMD_PHY, R.ETH_MDIO_CMD_WRITE, R.ETH_MDIO_CMD_GO]

/-- The word of a management command, without its GO. -/
def mdioWord (data : Fin 65536) (reg phy : Fin 32) (write : Bool) : Nat :=
  data.val + 2 ^ 16 * reg.val + 2 ^ 21 * phy.val + (if write then 2 ^ 26 else 0)

/-- The command's operands as they stand in their fields. -/
def State.mdioSet (s : State) (data : Fin 65536) (reg phy : Fin 32) (write : Bool) : State :=
  (((s.set R.ETH_MDIO_CMD_DATA data.val).set R.ETH_MDIO_CMD_REG reg.val).set R.ETH_MDIO_CMD_PHY phy.val).set
    R.ETH_MDIO_CMD_WRITE write.toNat

theorem mdioWord_lt (data : Fin 65536) (reg phy : Fin 32) (write : Bool) :
    mdioWord data reg phy write < 2 ^ 27 := by
  have hdata := data.isLt
  have hreg := reg.isLt
  have hphy := phy.isLt
  unfold mdioWord
  split <;> omega

/-- `MDIO_CMD` written, its fields in their order. -/
theorem State.fieldsWrite_mdioCmd (s : State) (w : Nat) : ∃ g, s.fieldsWrite pgEth 0x078 w =
    ((((s.set R.ETH_MDIO_CMD_DATA (R.ETH_MDIO_CMD_DATA.ofWord w)).set R.ETH_MDIO_CMD_REG
      (R.ETH_MDIO_CMD_REG.ofWord w)).set R.ETH_MDIO_CMD_PHY (R.ETH_MDIO_CMD_PHY.ofWord w)).set
      R.ETH_MDIO_CMD_WRITE (R.ETH_MDIO_CMD_WRITE.ofWord w)).set R.ETH_MDIO_CMD_GO g :=
  have hf : fieldsOf pgEth 0x078 = mdioCmd := by decide
  ⟨_, (State.fieldsWrite_of_fullRange hf (by decide) (by decide) s w).trans rfl⟩

/-- The operands come out of the word as they went in. -/
theorem ofWord_mdioWord (data : Fin 65536) (reg phy : Fin 32) (write : Bool) :
    R.ETH_MDIO_CMD_DATA.ofWord (mdioWord data reg phy write) = data.val
    ∧ R.ETH_MDIO_CMD_REG.ofWord (mdioWord data reg phy write) = reg.val
    ∧ R.ETH_MDIO_CMD_PHY.ofWord (mdioWord data reg phy write) = phy.val
    ∧ R.ETH_MDIO_CMD_WRITE.ofWord (mdioWord data reg phy write) = write.toNat := by
  simp only [Reg.ofWord, bitsOf, mdioWord, R.ETH_MDIO_CMD_DATA, R.ETH_MDIO_CMD_REG, R.ETH_MDIO_CMD_PHY,
    R.ETH_MDIO_CMD_WRITE, Nat.shiftRight_eq_div_pow]
  cases write <;>
    simp only [if_true, Bool.false_eq_true, if_false, Bool.toNat_true, Bool.toNat_false] <;> omega

theorem State.operands_mdioSet (s : State) (data : Fin 65536) (reg phy : Fin 32) (write : Bool) :
    (s.mdioSet data reg phy write).get R.ETH_MDIO_CMD_DATA = data.val
    ∧ (s.mdioSet data reg phy write).get R.ETH_MDIO_CMD_REG = reg.val
    ∧ (s.mdioSet data reg phy write).get R.ETH_MDIO_CMD_PHY = phy.val
    ∧ (s.mdioSet data reg phy write).flag R.ETH_MDIO_CMD_WRITE = write := by
  unfold State.mdioSet
  refine ⟨?_, ?_, ?_, ?_⟩
  · rw [State.get_set_other _ _ (by decide), State.get_set_other _ _ (by decide),
      State.get_set_other _ _ (by decide), State.get_set_fits data.isLt]
  · rw [State.get_set_other _ _ (by decide), State.get_set_other _ _ (by decide),
      State.get_set_fits reg.isLt]
  · rw [State.get_set_other _ _ (by decide), State.get_set_fits phy.isLt]
  · rw [State.flag_eq, State.get_set_fits (Bool.toNat_lt write)]
    cases write <;> rfl

/-- The start of a command touches its GO alone. -/
theorem State.regsBut_mdioStart (s : State) (g : Nat) :
    s.regsBut [R.ETH_MDIO_CMD_GO] ((s.set R.ETH_MDIO_CMD_GO g).setB R.ETH_MDIO_CMD_GO true) :=
  s.regsBut_of_regs.set.setB

/-- A management command of an enabled controller keeps its operands and starts. -/
theorem State.ethWrite_mdioCmd (h : s.flag R.ETH_CFG_EN = true) (data : Fin 65536) (reg phy : Fin 32)
    (write : Bool) : ∃ g, s.ethWrite 0x078 (mdioWord data reg phy write + 2 ^ 27) =
      ((s.mdioSet data reg phy write).set R.ETH_MDIO_CMD_GO g).setB R.ETH_MDIO_CMD_GO true := by
  have hbits := mdioWord_lt data reg phy write
  obtain ⟨hdata, hreg, hphy, hwrite⟩ := ofWord_mdioWord data reg phy write
  obtain ⟨g, hg⟩ := s.fieldsWrite_mdioCmd (mdioWord data reg phy write)
  rw [hdata, hreg, hphy, hwrite] at hg
  have hen : ((s.mdioSet data reg phy write).set R.ETH_MDIO_CMD_GO g).flag R.ETH_CFG_EN = true :=
    (State.regsBut.flag (l := mdioCmd) s.regsBut_of_regs.set.set.set.set.set (by decide)).trans h
  refine ⟨g, ?_⟩
  unfold State.ethWrite
  rw [if_pos rfl, State.restWrite_add_two_pow hbits, testBit_add_two_pow hbits, hg]
  exact if_pos hen

/-! ### The save port (R467) -/

/-- A host read leaves the port busy, whether it starts or was refused for one that runs. -/
theorem State.flag_saveReadGo (s : State) : s.saveReadGo.flag R.SAVE_HOST_CTRL_BUSY = true := by
  unfold State.saveReadGo
  split
  · assumption
  · exact (State.flag_setB_other (by decide)).trans (State.flag_setB_same (by decide) (by decide))

theorem State.flag_saveWrite (s : State) (count : Fin 64) :
    (s.saveWrite 0x048 (count.val + 2 ^ 8)).flag R.SAVE_HOST_CTRL_BUSY = true := by
  have hgo : (count.val + 2 ^ 8).testBit 8 = true := testBit_add_two_pow (by omega)
  unfold State.saveWrite
  rw [if_pos rfl, hgo]
  exact State.flag_saveReadGo _

end Sys2Proof.Machine
end

section
/-! The registers that Burl's safe state can touch (R389, R391, R394, R403): those of the functions, the
outputs and the guard, PWM and cell pages of the channels that are stopped. The mailbox's page is none of
them. -/

-- One proof after another: many at once take a thread each (see Laws/KeepsChannel).
set_option Elab.async false

namespace Sys2Proof.Machine

variable {s t u : State} {l k : List Reg} {x n : Nat}

/-! ### Chains of writes put together -/

theorem State.regsBut.mono (h : s.regsBut l t) (hl : l ⊆ k) : s.regsBut k t :=
  fun r hr => h r (fun hmem => hr (List.map_subset _ hl hmem))

theorem State.regsBut.trans (h : s.regsBut l t) (h' : t.regsBut l u) : s.regsBut l u :=
  fun r hr => (h' r hr).trans (h r hr)

theorem State.regsBut.foldl {α : Type} {xs : List α} {f : State → α → State}
    (h : ∀ (t : State), ∀ a ∈ xs, t.regsBut l (f t a)) (s : State) : s.regsBut l (xs.foldl f s) :=
  List.foldlRecOn xs f (s.regsBut_of_regs) (fun t ht a ha => ht.trans (h t a ha))

theorem State.regsBut.setGuard (h : s.regsBut l t) {f : GuardSt → GuardSt} :
    s.regsBut l (t.setGuard x f) := h.keep

theorem State.regsBut.setPwm (h : s.regsBut l t) {f : PwmSt → PwmSt} : s.regsBut l (t.setPwm x f) := h.keep

theorem State.regsBut.setCell (h : s.regsBut l t) {f : CellSt → CellSt} : s.regsBut l (t.setCell x f) :=
  h.keep

theorem State.regsBut.modSafe (h : s.regsBut l t) {f : SafeSt → SafeSt} : s.regsBut l (t.modSafe f) :=
  h.keep

theorem State.regsBut.modLog (h : s.regsBut l t) {f : LogSt → LogSt} : s.regsBut l (t.modLog f) := h.keep

theorem State.regsBut.setOut (h : s.regsBut l t) {f : OutSt → OutSt} : s.regsBut l (t.setOut n f) := h.keep

/-! ### A channel is stopped -/

/-- The registers of channel `x` that a change of its bypass or its stop can touch. -/
abbrev chanFields (x : Nat) : List Reg :=
  [R.GUARD_STATUS_MAP_OK x, R.GUARD_STATUS_ANY_LATCHED x, R.GUARD_STATUS_HUSK x, H.IRQ_RAW (pgGuard x),
    R.GUARD_BYP_STAT_HOLD_ON x, R.PWM_CTRL_EN x, R.PWM_STATUS_RUN x, R.CELL_V_REF_MV x,
    R.CELL_STATUS_SCANNING x, R.CELL_SHELL_RESULT_OUT_US x, R.CELL_SHELL_RESULT_CODE x, R.CELL_CNT_A_MISSED x,
    H.IRQ_RAW (pgCell x), R.CELL_STATUS_SHELL_REQ x, R.CELL_STATUS_STATE x, R.CELL_CTRL_JOIN x,
    R.CELL_CTRL_SHELL_NOW x, R.CELL_CTRL_LEAVE x, R.CELL_CTRL_SCAN_NOW x, R.CELL_STATUS_LEAVE_CAUSE x,
    R.CELL_CNT_B_LOW_LEAVES x]

theorem State.regsBut_guardSync (s : State) (x : Nat) : s.regsBut (chanFields x) (s.guardSync x) := by
  unfold State.guardSync
  have h := s.regsBut_of_regs.setB (l := chanFields x) (r := R.GUARD_STATUS_MAP_OK x) (b := s.mapComplete x)
  exact (h.setB.setB.irq).ite h.setB.setB

theorem State.regsBut_holdSync (s : State) (x : Nat) : s.regsBut (chanFields x) (s.holdSync x) := by
  unfold State.holdSync
  refine State.regsBut.trans ?_ (State.regsBut_guardSync _ x)
  have h := s.regsBut_of_regs (l := chanFields x)
  exact (h.ite h.setB.setGuard).ite (h.setB.setGuard.ite h)

theorem State.regsBut_pwmStop (s : State) (x : Nat) : s.regsBut (chanFields x) (s.pwmStop x) :=
  State.regsBut.trans s.regsBut_of_regs.setB.setB.setPwm (State.regsBut_guardSync _ x)

theorem State.regsBut_dropScan (s : State) (x : Nat) : s.regsBut (chanFields x) (s.dropScan x) := by
  unfold State.dropScan
  split
  · exact s.regsBut_of_regs
  · exact s.regsBut_of_regs.set.setB.setCell

theorem State.regsBut_windowLost (s : State) (x code : Nat) :
    s.regsBut (chanFields x) (s.windowLost x code) := s.regsBut_of_regs.set.inc.irq.setCell

theorem State.regsBut_showOut (s : State) (x start : Nat) : s.regsBut (chanFields x) (s.showOut x start) :=
  s.regsBut_of_regs.set

theorem State.regsBut_cellEnter (s : State) (x st : Nat) : s.regsBut (chanFields x) (s.cellEnter x st) := by
  unfold State.cellEnter
  have h := s.regsBut_of_regs.set (l := chanFields x) (r := R.CELL_STATUS_STATE x) (v := st)
  have hjoin := h.ite (c := st = csWaitDc) (h.setB (r := R.CELL_CTRL_JOIN x) (b := false))
  have hnow := (hjoin.setB (r := R.CELL_CTRL_SHELL_NOW x) (b := false)).ite
    (c := st = csShell ∨ st = csHusk) hjoin
  exact (hnow.setB.setB).ite hnow

theorem State.regsBut_husk (s : State) (x cause : Nat) : s.regsBut (chanFields x) (s.husk x cause) := by
  unfold State.husk
  extract_lets st stopped noScan noWindow idle silent left after
  have hscan : s.regsBut (chanFields x) noScan := (s.regsBut_pwmStop x).trans (State.regsBut_dropScan _ x)
  have hwindow : s.regsBut (chanFields x) noWindow := by
    dsimp only [noWindow]
    split
    next w _ =>
      have hshown := hscan.trans (State.regsBut_showOut _ x w.start)
      exact ((hshown.trans (State.regsBut_windowLost _ x 4)).ite hshown).ite hscan
    next => exact hscan
  have hsilent : s.regsBut (chanFields x) silent := hwindow.setCell.setCell.setB
  have hleft : s.regsBut (chanFields x) left :=
    ((hsilent.trans (State.regsBut_cellEnter _ x csHusk)).set).irq
  have hafter : s.regsBut (chanFields x) after := (hleft.inc.ite hleft).ite hsilent
  exact hafter.trans (State.regsBut_holdSync _ x)

/-! ### Burl's safe state -/

/-- The registers that Burl's safe state can touch. -/
abbrev burlFields : List Reg :=
  [R.SAFE_STATUS_SAFE_STATE, R.SAFE_STATUS_SAFE_CAUSE, R.SAFE_STATUS_ANY_STOP, R.SAFE_OUT_STAT_RB_A,
    R.SAFE_OUT_STAT_RB_B, R.SAFE_OUT_STAT_ON, R.SAFE_OUT_STAT_TESTING, H.IRQ_RAW pgSafe, R.GLOG_CNT_LOST,
    R.GLOG_STATUS_LOST_SEEN]
  ++ ((List.range 8).map R.SAFE_FSTATE_STATE ++ (List.range 8).flatMap chanFields)

theorem chanFields_subset (hx : x ∈ List.range 8) : chanFields x ⊆ burlFields := fun _ hr =>
  List.mem_append_right _ (List.mem_append_right _ (List.mem_flatMap.2 ⟨x, hx, hr⟩))

theorem fstate_mem (hx : x ∈ List.range 8) : R.SAFE_FSTATE_STATE x ∈ burlFields :=
  List.mem_append_right _ (List.mem_append_left _ (List.mem_map_of_mem hx))

theorem State.regsBut_linesSync (s : State) : s.regsBut burlFields s.linesSync := by
  unfold State.linesSync
  refine State.regsBut.foldl (fun t x hx => ?_) s
  have h := (t.regsBut_of_regs (l := burlFields)).modSafe
    (f := fun d => { d with lines := putBit d.lines x (t.linePermit 0 x && t.linePermit 1 x) })
  have hsub := chanFields_subset hx
  exact h.ite ((h.trans ((State.regsBut_holdSync _ x).mono hsub)).ite
    (h.trans ((State.regsBut_husk _ x 4).mono hsub)))

theorem State.regsBut_driveOut (s : State) (n : Nat) (a b : Bool) :
    s.regsBut burlFields (s.driveOut n a b) := s.regsBut_of_regs.putMaskBit.putMaskBit.putMaskBit.setOut

theorem State.regsBut_outSync (s : State) (n : Nat) : s.regsBut burlFields (s.outSync n) := by
  unfold State.outSync
  have h := s.regsBut_of_regs (l := burlFields)
  have hoff := s.regsBut_driveOut n false false
  refine .ite (h.ite (s.regsBut_driveOut n true true).setOut) (.ite ?_ h)
  exact (hoff.setOut.ite (hoff.setOut.ite hoff)).putMaskBit

theorem State.regsBut_safeSync (s : State) : s.regsBut burlFields s.safeSync := by
  unfold State.safeSync
  have hfn : s.regsBut burlFields ((List.range 8).foldl
      (fun t f => t.set (R.SAFE_FSTATE_STATE f) (fnCode (t.fn 0 f).st)) s) :=
    State.regsBut.foldl (fun t f hf => t.regsBut_of_regs.set (fstate_mem hf)) s
  exact (hfn.setB.trans (State.regsBut_linesSync _)).trans
    (State.regsBut.foldl (fun t n _ => t.regsBut_outSync n) _)

theorem State.regsBut_burlSafe (s : State) (cause mask : Nat) :
    s.regsBut burlFields (s.burlSafe cause mask) := by
  unfold State.burlSafe
  have h := s.regsBut_of_regs (l := burlFields)
  refine .ite (.ite h.set.modSys.modLog h) ?_
  exact (h.setB.set.modSys.trans (State.regsBut_safeSync _)).irq.logIt

end Sys2Proof.Machine
end

section
/-! A Heartwood slice that runs late (O20): its miss is counted, and what the miss sets off leaves the count
alone. -/

-- One proof after another: many at once take a thread each (see Laws/KeepsChannel).
set_option Elab.async false

namespace Sys2Proof.Machine

variable {s : State} {d : DlPair} {o dt : Nat}

/-- The registers that a miss can touch beside the pair's total. -/
abbrev missFields (d : DlPair) : List Reg :=
  [d.run, H.DL_RUN d.page, H.IRQ_RAW d.page, R.GLOG_CNT_LOST, R.GLOG_STATUS_LOST_SEEN]

/-- A miss is counted in the pair's total; the rest are its run, its bits and its records (R95). -/
theorem State.regsBut_dlMissMax (s : State) (d : DlPair) (mx : Nat) :
    (s.inc d.total).regsBut (missFields d) (s.dlMissMax d mx).1 := by
  unfold State.dlMissMax
  extract_lets run first counted shown recorded
  have hcounted : (s.inc d.total).regsBut (missFields d) counted := (s.inc d.total).regsBut_of_regs.inc
  have hshown : (s.inc d.total).regsBut (missFields d) shown := hcounted.setB.irq
  have hrecorded : (s.inc d.total).regsBut (missFields d) recorded := hshown.logIt.ite hshown
  split
  · exact hrecorded.logIt
  · exact hrecorded

/-- The pairs of the mailbox's page are those of the four slices (R458). -/
theorem slice_of_dlPair (h : dlPair pgMbox o = some d) : ∃ k : Fin 4, o = sliceOfs k := by
  by_contra hno
  have hsafety : o ≠ 0x0D0 := fun e => hno ⟨0, e⟩
  have hgylen : o ≠ 0x0D8 := fun e => hno ⟨1, e⟩
  have hhouse : o ≠ 0x0E0 := fun e => hno ⟨2, e⟩
  have hmail : o ≠ 0x0E8 := fun e => hno ⟨3, e⟩
  simp [dlPair, pgMbox, pgCanopy, pgGylen, hsafety, hgylen, hhouse, hmail] at h

/-- No slice's total is among the registers that its miss, or the safe state that follows, can touch. -/
theorem sliceTotal_notMem : ∀ k : Fin 4, ∀ d ∈ dlPair pgMbox (sliceOfs k), d.total.acc ≠ .bo
    ∧ d.total.key ∉ (missFields d).map Reg.key ∧ d.total.key ∉ burlFields.map Reg.key := by
  decide

theorem State.total_sliceMiss {k : Fin 4} (h : dlPair pgMbox (sliceOfs k) = some d) :
    (s.sliceMiss k).get d.total = counted d.total (s.get d.total) := by
  obtain ⟨hacc, hmiss, hburl⟩ := sliceTotal_notMem k d h
  have hcount : (s.dlMissMax d (s.get d.max)).1.get d.total = counted d.total (s.get d.total) :=
    (s.regsBut_dlMissMax d _ _ hmiss).trans (State.get_inc_same hacc)
  unfold State.sliceMiss State.dlMiss
  rw [h]
  dsimp only
  split
  · exact (State.regsBut_burlSafe _ 3 _ _ hburl).trans hcount
  · exact hcount

/-- A slice of the running frame that is late is missed. -/
theorem exec_deadlineMiss_slice {ofs : Fin 4096} (h : dlPair pgMbox ofs.val = some d)
    (hl : (s.elapse dt).sliceLate ((ofs.val - 0x0D0) / 8) = true) :
    exec (.deadlineMiss dt 0x71 ofs) s = .next ((s.elapse dt).sliceMiss ((ofs.val - 0x0D0) / 8)) := by
  change execDeadlineMiss dt 0x71 ofs s = _
  have hpair : (dlPair 0x71 ofs.val).isNone = false := congrArg Option.isNone h
  unfold execDeadlineMiss
  simp [hpair, hl, pgMbox, pgCanopy, pgGylen]

end Sys2Proof.Machine

open Sys2Proof.Machine

/-- Settles O20: a written register keeps the operands in their fields, a GO that is taken up leaves them
there, and the safe state that a missed safety slice may end in touches no slice's count. -/
theorem hostServiceCommands : Obligations.HostServiceCommands := by
  unfold Obligations.HostServiceCommands
  refine ⟨?load, ?request, ?busy, ?mdio, ?save, ?slice⟩
  case load =>
    intro s dt conn len ho hs href hen hdir hsrc
    refine ⟨_, congrArg Host.Outcome.next (State.hostAct_of_hostOpen (s := s.elapse dt) ho), ?_⟩
    obtain ⟨-, -, -, hgyl, -⟩ := hs
    exact State.host_gylenWrite (s := s.elapse dt) hgyl href hen hdir hsrc
  case request =>
    intro s dt service tag ho hl hshut hacc hslice
    obtain ⟨g, hg⟩ := State.mboxWrite_req hshut service tag
    have hopen : ((s.elapse dt).requested service tag g).mboxShut = false :=
      (State.mboxShut_requested _ service tag g).trans hshut
    have hlock : ((s.elapse dt).requested service tag g).locked = true :=
      (State.locked_requested _ service tag g).trans hl
    have hfew : ((s.elapse dt).requested service tag g).mboxAccepted < 2000 := by
      simpa [State.mboxAccepted] using hacc
    obtain ⟨hpending, hkept⟩ := State.mboxGo_of_accepted hopen hlock hfew (by simpa using hslice)
    refine ⟨_, (exec_mailboxGo_of_locked ho hl).trans (congrArg Host.Outcome.next hg), hpending, ?_, ?_, ?_⟩
    · exact (hkept.flag (by decide)).trans (State.flag_requested_go _ service tag g)
    · exact (hkept _ (by decide)).trans (State.get_requested_service _ service tag g)
    · exact (hkept _ (by decide)).trans (State.get_requested_tag _ service tag g)
  case busy =>
    intro s dt service tag hr hl
    have hl' : (s.elapse dt).locked = false := hl
    refine ⟨_, (exec_mailboxGo hr).trans
      (congrArg Host.Outcome.next (State.pageWrite_req_of_unlocked hl' service tag)), ?_, ?_, ?_⟩
    · rw [State.get_set_other _ _ (by decide), State.code_mboxBusy]
    · exact State.get_set_fits tag.isLt
    · rw [State.get_set_other _ _ (by decide), State.errCount_mboxBusy, State.errCount_errHost,
        State.get_elapse]
  case mdio =>
    intro s dt data reg phy write ho hen
    obtain ⟨g, hg⟩ := State.ethWrite_mdioCmd (s := s.elapse dt) hen data reg phy write
    refine ⟨_, congrArg Host.Outcome.next ((State.hostAct_of_hostOpen (s := s.elapse dt) ho).trans hg), ?_⟩
    have hkept := ((s.elapse dt).mdioSet data reg phy write).regsBut_mdioStart g
    obtain ⟨hdata, hreg, hphy, hwrite⟩ := (s.elapse dt).operands_mdioSet data reg phy write
    exact ⟨State.flag_setB_same (by decide) (by decide), (hkept _ (by decide)).trans hdata,
      (hkept _ (by decide)).trans hreg, (hkept _ (by decide)).trans hphy,
      (hkept.flag (by decide)).trans hwrite⟩
  case save =>
    intro s dt count ho _
    exact ⟨_, congrArg Host.Outcome.next (State.hostAct_of_hostOpen (s := s.elapse dt) ho),
      State.flag_saveWrite _ count⟩
  case slice =>
    intro s dt ofs d hd hlate
    refine ⟨_, exec_deadlineMiss_slice hd hlate, ?_⟩
    obtain ⟨k, hk⟩ := slice_of_dlPair hd
    have hslice : (ofs.val - 0x0D0) / 8 = k := by
      rw [hk, sliceOfs]
      omega
    rw [hslice, State.total_sliceMiss (hk ▸ hd), State.get_elapse]

end

section
/-! Where the fields of a page stand: beside the page's header, and the SN pairs 8-byte-aligned (R85, R89). -/

-- One proof after another: many at once take a thread each (see Laws/KeepsChannel).
set_option Elab.async false

namespace Sys2Proof.Machine

variable {r q : Reg}

/-- The field is one of page `p`: a block register from 0x040 on, or in the low half of `CTRL` or `STATUS`
(R85); an SN pair is 8-byte-aligned (R89). -/
abbrev Reg.StandsOn (r : Reg) (p : Nat) : Prop :=
  r.page = p ∧ r.ofs < 4096 ∧ r.lo < 32 ∧ (0x040 ≤ r.ofs ∨ r.ofs < 0x010 ∧ r.lo < 16)
    ∧ (r.acc = .sn → r.ofs % 8 = 0 ∧ 0x040 ≤ r.ofs ∧ r.ofs + 4 < 4096)

theorem pageFields_standOn : ∀ p : Fin 256, ∀ r ∈ pageFields p, r.StandsOn p := by
  decide +kernel

theorem standsOn_of_mem {p : Fin 256} (h : r ∈ pageFields p) : r.StandsOn p := pageFields_standOn p r h

/-- The field stands in the header of its page, where that leaves no room for the block's own fields (R85). -/
def Reg.inHeader (r : Reg) : Bool :=
  decide (r.lo < 32) && decide (r.ofs < 0x040) && (decide (0x010 ≤ r.ofs) || decide (16 ≤ r.lo))

/-- No field of a page stands where its header has one (R85). -/
theorem header_notMem_pageFields {p : Fin 256} (hp : q.page = p) (hq : q.inHeader = true) :
    q.key ∉ (pageFields p).map Reg.key := by
  intro hmem
  simp only [Reg.inHeader, Bool.and_eq_true, Bool.or_eq_true, decide_eq_true_eq] at hq
  obtain ⟨r, hr, hkey⟩ := List.mem_map.1 hmem
  obtain ⟨hpage, hofs, hlo, hroom, -⟩ := standsOn_of_mem hr
  simp only [Reg.key, hpage, hp] at hkey
  omega

end Sys2Proof.Machine
end

section
/-! Clears that keep the events of their own clock cycle (O13): the bits of a field, a count, a list of counts
(R7, R161). -/

-- One proof after another: many at once take a thread each (see Laws/KeepsChannel).
set_option Elab.async false

namespace Sys2Proof.Machine

variable {s : State} {l : List Reg} {r q : Reg} {p v i : Nat}

/-! ### Bits -/

/-- A number is its bits within a mask and its bits outside it. -/
theorem and_add_ldiff (x y : Nat) : (x &&& y) + x.ldiff y = x := by
  induction x using Nat.binaryRec generalizing y with
  | zero => simp [Nat.ldiff]
  | bit b n ih =>
    have hn := ih y.div2
    rw [← Nat.bit_bodd_div2 y, Nat.land_bit, Nat.ldiff_bit, Nat.bit_val, Nat.bit_val, Nat.bit_val]
    cases b <;> cases y.bodd <;> simp <;> omega

theorem sub_and_eq_ldiff (x y : Nat) : x - (x &&& y) = x.ldiff y := by
  have := and_add_ldiff x y
  omega

/-- A cleared field keeps the bits outside the mask and those that an event of this cycle sets (R7). -/
theorem State.clearBits_eq (s : State) (r : Reg) (v : Nat) :
    s.clearBits r v = s.set r ((s.get r).ldiff (v.ldiff (s.bitsNow r))) := by
  have hmask : ((s.get r) &&& v).ldiff (s.bitsNow r) = (s.get r) &&& v.ldiff (s.bitsNow r) :=
    Nat.eq_of_testBit_eq (fun i => by simp [Bool.and_assoc])
  unfold State.clearBits
  dsimp only
  rw [sub_and_eq_ldiff, hmask, sub_and_eq_ldiff]

theorem State.testBit_clearBits (h : r.acc ≠ .bo) (hi : i < r.width) :
    ((s.clearBits r v).get r).testBit i
      = ((s.get r).testBit i && (!v.testBit i || (s.bitsNow r).testBit i)) := by
  rw [State.clearBits_eq, State.get_set_same _ _ h, Nat.testBit_mod_two_pow, decide_eq_true hi]
  simp

/-- Ones written to `IRQ_STAT` (R96). -/
theorem State.testBit_irqClear (hi : i < 32) : ((s.irqClear p v).get (H.IRQ_RAW p)).testBit i
    = ((s.get (H.IRQ_RAW p)).testBit i && (!((s.get (H.IRQ_EN p)).testBit i && v.testBit i)
      || (s.bitsNow (H.IRQ_RAW p)).testBit i)) := by
  have hacc : (H.IRQ_RAW p).acc ≠ .bo := by simp [H.IRQ_RAW]
  unfold State.irqClear
  rw [State.get_noteRise, State.testBit_clearBits hacc hi, Nat.testBit_and]

/-! ### Counts -/

theorem satN_lt (w n : Nat) : satN w n < 2 ^ w := by
  have := Nat.two_pow_pos w
  unfold satN
  omega

/-- A cleared count stands at the events of the same cycle. -/
theorem State.get_clearCount_same (h : r.acc ≠ .bo) :
    (s.clearCount r).get r = satN r.width (s.countNow r) := by
  unfold State.clearCount State.setSat
  rw [State.get_set_same _ _ h, Nat.mod_eq_of_lt (satN_lt _ _)]

/-- A clear is no event. -/
@[simp] theorem State.countNow_clearCount (s : State) (r q : Reg) :
    (s.clearCount r).countNow q = s.countNow q := by
  simp [State.countNow, State.metNow, State.clearCount, State.setSat]

/-- Counts cleared one after another do not see each other. -/
theorem State.get_foldl_clearCount (hk : (l.map Reg.key).Nodup) (ha : ∀ r ∈ l, r.acc ≠ .bo)
    (s : State) (hr : r ∈ l) :
    (l.foldl State.clearCount s).get r = satN r.width (s.countNow r) := by
  induction l generalizing s with
  | nil => exact absurd hr List.not_mem_nil
  | cons q l ih =>
    obtain ⟨hq, hl⟩ := List.nodup_cons.1 hk
    rw [List.foldl_cons]
    rcases List.mem_cons.1 hr with rfl | hmem
    · have hrest : (s.clearCount r).regsBut l (l.foldl State.clearCount (s.clearCount r)) :=
        State.regsBut.foldl (fun t q hq => t.regsBut_of_regs.set hq) _
      rw [hrest r hq, State.get_clearCount_same (ha r List.mem_cons_self)]
    · rw [ih hl (fun q hq => ha q (List.mem_cons_of_mem _ hq)) (s.clearCount q) hmem,
        State.countNow_clearCount]

/-- The counters that a page's `CNT_CLR` clears are different fields, and none of them is boot-only. -/
theorem cntFields_sound (p : Fin 256) :
    ((cntFields p).map Reg.key).Nodup ∧ ∀ r ∈ cntFields p, r.acc ≠ .bo := by
  revert p
  decide +kernel

theorem forall_mem_ite {α : Type} {c : Prop} [Decidable c] {a b : Option α} {P : α → Prop}
    (ha : ∀ x ∈ a, P x) (hb : ∀ x ∈ b, P x) : ∀ x ∈ (if c then a else b), P x := by
  split
  · exact ha
  · exact hb

/-- The counts of the deadline pairs are written by the device alone (R95). -/
theorem total_acc_of_dlPair (p o : Nat) : ∀ d ∈ dlPair p o, d.total.acc = .ro := by
  have hpair {d : DlPair} (h : d.total.acc = .ro) : ∀ e ∈ some d, e.total.acc = .ro := by simpa using h
  have hnone : ∀ e ∈ (none : Option DlPair), e.total.acc = .ro := by simp
  unfold dlPair
  exact forall_mem_ite (hpair rfl) <| forall_mem_ite (hpair rfl) <| forall_mem_ite (hpair rfl) <|
    forall_mem_ite (hpair rfl) <| forall_mem_ite (hpair rfl) <| forall_mem_ite (hpair rfl) <|
    forall_mem_ite (hpair rfl) <| forall_mem_ite (hpair rfl) <| forall_mem_ite (hpair rfl) <|
    forall_mem_ite (hpair rfl) hnone

end Sys2Proof.Machine
end

section
/-! Commits (O13): what a commit applied or refused, a `DISCARD` and a late `DISCARD` taken back leave of the
registers and of the staged values (R91, R92). -/

-- One proof after another: many at once take a thread each (see Laws/KeepsChannel).
set_option Elab.async false

namespace Sys2Proof.Machine

variable {s t : State} {l : List Reg} {r : Reg} {p x : Nat}

/-! ### Registers -/

theorem State.regsBut.setKe (h : s.regsBut l t) {f : KeSt → KeSt} : s.regsBut l (t.setKe x f) := h.keep

theorem State.regsBut.incWrap (h : s.regsBut l t) (hr : r ∈ l := by simp) : s.regsBut l (t.incWrap r) :=
  h.set hr

theorem State.regsBut.err (h : s.regsBut l t) (hc : H.ERR_COUNT p ∈ l := by simp)
    (hi : H.IRQ_RAW p ∈ l := by simp) : s.regsBut l (t.err p) := (h.inc hc).irq hi

theorem State.regs_foldl_stageKey (s : State) (l : List (Nat × Nat)) :
    (l.foldl (fun (u : State) e => u.stageKey e.1 e.2) s).regs = s.regs :=
  List.foldlRecOn (motive := fun (u : State) => u.regs = s.regs) l _ rfl (fun _ h _ _ => h)

/-- A `DISCARD` taken back shows in `GO` alone (R92). -/
theorem State.regsBut_undrop (s : State) (p : Nat) : s.regsBut [H.COMMIT_GO p] (s.undrop p) := by
  unfold State.undrop
  split
  · exact s.regsBut_of_regs
  · split
    · exact s.regsBut_of_regs
    · have hstaged := fun l => s.regsBut_of_regs (l := [H.COMMIT_GO p]) (s.regs_foldl_stageKey l)
      exact (((hstaged _).setKe.ite (hstaged _)).setB).modSys

/-- A commit makes the values of its page's own fields active (R91). -/
theorem State.regsBut_applyStaged (s : State) (p : Nat) : s.regsBut (pageFields p) (s.applyStaged p) := by
  refine State.regsBut.foldl (fun t r hr => ?_) s
  split
  · exact (t.regsBut_of_regs.set hr).keep
  · exact t.regsBut_of_regs

/-- The registers that a commit of the page can touch, whether it applies or is refused. -/
abbrev commitFields (p : Nat) : List Reg :=
  H.COMMIT_GO p :: H.COMMIT_APPLIED p :: H.ERR_COUNT p :: H.IRQ_RAW p :: pageFields p

theorem State.regsBut_doCommit (s : State) (p : Nat) : s.regsBut (commitFields p) (s.doCommit p) := by
  have hsub : pageFields p ⊆ commitFields p := fun r hr => by simp [hr]
  exact ((s.regsBut_applyStaged p).mono hsub).setB.incWrap

theorem State.regsBut_refuseCommit (s : State) (p : Nat) : s.regsBut (commitFields p) (s.refuseCommit p) := by
  have hdropped : s.regsBut (commitFields p) (s.dropStaged p) := s.regsBut_of_regs
  exact hdropped.setB.err

theorem lock_notMem_commitFields (p : Fin 256) :
    (H.UPDATE_LOCK p).key ∉ (commitFields p).map Reg.key := by
  have hlock : (H.UPDATE_LOCK p).key ∉ (pageFields p).map Reg.key :=
    header_notMem_pageFields rfl rfl
  simp only [List.map_cons, List.mem_cons, not_or, hlock, not_false_iff, and_true]
  simp only [Reg.key, H.UPDATE_LOCK, H.COMMIT_GO, H.COMMIT_APPLIED, H.ERR_COUNT, H.IRQ_RAW]
  omega

theorem key_applied_ne_go (p : Nat) : (H.COMMIT_APPLIED p).key ≠ (H.COMMIT_GO p).key := by
  simp only [Reg.key, H.COMMIT_APPLIED, H.COMMIT_GO]
  omega

/-- A commit applied is no longer pending (R91). -/
theorem State.flag_doCommit_go (s : State) (p : Nat) : (s.doCommit p).flag (H.COMMIT_GO p) = false := by
  have hother : (s.doCommit p).get (H.COMMIT_GO p) = _ :=
    State.get_set_other _ _ (key_applied_ne_go p).symm
  rw [State.flag_eq, hother, ← State.flag_eq]
  exact State.flag_setB_same (by simp [H.COMMIT_GO]) (by simp [H.COMMIT_GO])

/-- A commit applied is counted (R91). -/
theorem State.applied_doCommit (s : State) (p : Fin 256) : (s.doCommit p).get (H.COMMIT_APPLIED p)
    = (s.get (H.COMMIT_APPLIED p) + 1) % 2 ^ 16 := by
  have happlied : (H.COMMIT_APPLIED p).key ∉ (pageFields p).map Reg.key :=
    header_notMem_pageFields rfl rfl
  unfold State.doCommit State.incWrap
  rw [State.get_set_same _ _ (by simp [H.COMMIT_APPLIED]), State.get_setB_other (key_applied_ne_go p),
    s.regsBut_applyStaged p _ happlied]
  exact Nat.mod_mod _ _

/-! ### Staged values -/

/-- No value is listed under a key that was filtered out. -/
theorem RegFile.lookup_filter_out {m : RegFile} {c : Nat → Bool} {j : Nat} (h : c j = false) :
    RegFile.lookup (m.filter (fun e => c e.1)) j = none := by
  induction m with
  | nil => rfl
  | cons e m ih =>
    obtain ⟨i, v⟩ := e
    by_cases hi : c i = true
    · have hne : i ≠ j := fun e => by simp [e, h] at hi
      simp only [List.filter_cons, hi, if_true, RegFile.lookup, hne, if_false, ih]
    · simp only [List.filter_cons, hi, if_false, ih, Bool.false_eq_true]

/-- A `DISCARD` drops the page's staged values and no other page's (R92). -/
theorem State.staged_commitDiscard (s : State) (p : Nat) : (s.commitDiscard p).staged
    = s.staged.filter (fun e => decide (e.1 / (4096 * 32) ≠ p)) := by
  unfold State.commitDiscard
  dsimp only
  split
  · exact State.staged_setB _ _ _
  · exact State.staged_setB _ _ _

/-- A `DISCARD` ends the pending commit (R92). -/
theorem State.flag_commitDiscard_go (s : State) (p : Nat) :
    (s.commitDiscard p).flag (H.COMMIT_GO p) = false := by
  have hgo : ((s.dropStaged p).setB (H.COMMIT_GO p) false).flag (H.COMMIT_GO p) = false :=
    State.flag_setB_same (by simp [H.COMMIT_GO]) (by simp [H.COMMIT_GO])
  unfold State.commitDiscard
  dsimp only
  split
  · exact hgo
  · exact hgo

/-- After a `DISCARD` every staged value of the page reads as its active value (R92). -/
theorem State.stagedOf_commitDiscard (h : r.key / 131072 = p) :
    (s.commitDiscard p).stagedOf r = (s.commitDiscard p).get r := by
  unfold State.stagedOf
  rw [State.staged_commitDiscard,
    RegFile.lookup_filter_out (c := fun k => decide (k / (4096 * 32) ≠ p)) (by simp [h]), Option.getD_none]

end Sys2Proof.Machine
end

section
/-! A converter's sequence boundary (O13): the registers that it can touch are those of its commit, of its
calibration and of the rover's (R126 to R136). An update lock is none of them. -/

-- One proof after another: many at once take a thread each (see Laws/KeepsChannel).
set_option Elab.async false

namespace Sys2Proof.Machine

variable {s t : State} {l : List Reg} {q : Reg} {n p : Nat}

/-- The registers of converter `n`, and those of the rover, that a pass or a calibration of `n` that begins or
ends can touch. -/
abbrev boundaryFields (n : Nat) : List Reg :=
  [R.SAR_STATUS_RUNNING n, R.SAR_STATUS_PENDING n, R.SAR_CAL_CFG_REQ n, R.SAR_CAL_CFG_WAITING n,
    R.SAR_CAL_CFG_BUSY n, R.SAR_CAL_CFG_ROVER n, R.SAR_CAL_CFG_SUBST 4, R.SAR_CAL_CFG_SERVING 4,
    H.IRQ_RAW (pgSar n), H.IRQ_RAW (pgSar 4)]

theorem State.regsBut.sarSync (h : s.regsBut (boundaryFields n) t) :
    s.regsBut (boundaryFields n) (t.sarSync n) := h.setB.setB

theorem State.regsBut_startPass (s : State) (n fire t0 : Nat) :
    s.regsBut (boundaryFields n) (s.startPass n fire t0) := s.regsBut_of_regs.sarSync

theorem State.regsBut_nextPass (s : State) (n t0 : Nat) :
    s.regsBut (boundaryFields n) (s.nextPass n t0) := by
  have hidle : s.regsBut (boundaryFields n) (s.sarSync n) := s.regsBut_of_regs.sarSync
  unfold State.nextPass
  refine .ite ?_ hidle
  split
  · exact s.regsBut_startPass n _ t0
  · exact .ite (s.regsBut_startPass n t0 t0) hidle

theorem State.regsBut.calStart (h : s.regsBut (boundaryFields n) t) :
    s.regsBut (boundaryFields n) (t.calStart n) := by
  have hbusy : s.regsBut (boundaryFields n) (((t.setB (R.SAR_CAL_CFG_REQ n) false).setB
      (R.SAR_CAL_CFG_WAITING n) false).setB (R.SAR_CAL_CFG_BUSY n) true) := h.setB.setB.setB
  exact hbusy.keep

theorem State.regsBut_calTry (s : State) (n : Nat) : s.regsBut (boundaryFields n) (s.calTry n) := by
  unfold State.calTry
  exact .ite s.regsBut_of_regs.calStart s.regsBut_of_regs

/-- The rover takes over the converter that waits first. -/
theorem State.regsBut_roverTake (s : State) : ∃ n, s.regsBut (boundaryFields n) s.roverTake := by
  unfold State.roverTake
  split
  · exact ⟨0, s.regsBut_of_regs⟩
  next n _ _ =>
    exact ⟨n, .ite (State.regsBut.calStart s.regsBut_of_regs.setB.setB.set.irq.irq) s.regsBut_of_regs⟩

theorem State.regsBut_sarCommit (s : State) (n : Nat) :
    s.regsBut (commitFields (pgSar n)) (s.sarCommit n) := by
  have hundrop : s.regsBut (commitFields (pgSar n)) (s.undrop (pgSar n)) :=
    (s.regsBut_undrop (pgSar n)).mono (by simp)
  unfold State.sarCommit
  refine .ite (.ite ?_ ?_) hundrop
  · exact hundrop.trans (State.regsBut_doCommit _ _)
  · exact hundrop.trans (State.regsBut_refuseCommit _ _)

section
variable (hq : ∀ n, q.key ∉ (boundaryFields n).map Reg.key)
include hq

theorem State.get_roverTake (s : State) : s.roverTake.get q = s.get q := by
  obtain ⟨n, hn⟩ := s.regsBut_roverTake
  exact hn q (hq n)

theorem State.get_roverReturn (s : State) (n : Nat) : (s.roverReturn n).get q = s.get q := by
  have hback : s.regsBut (boundaryFields n) (((((s.setB (R.SAR_CAL_CFG_ROVER n) false).setB
      (R.SAR_CAL_CFG_SUBST 4) false).set (R.SAR_CAL_CFG_SERVING 4) 0).irq (pgSar n) 5).irq (pgSar 4) 5) :=
    s.regsBut_of_regs.setB.setB.set.irq.irq
  unfold State.roverReturn
  split
  · rw [State.regsBut_nextPass _ 4 _ q (hq 4), State.get_roverTake hq, State.regsBut_calTry _ 4 q (hq 4),
      hback q (hq n)]
  · rfl

/-- A field that neither the converter's commit nor any pass or calibration touches keeps its value. -/
theorem State.get_sarBoundary (hc : q.key ∉ (commitFields (pgSar n)).map Reg.key) (s : State) (t0 : Nat) :
    (s.sarBoundary n t0).get q = s.get q := by
  unfold State.sarBoundary
  rw [State.regsBut_nextPass _ n t0 q (hq n), State.get_roverTake hq, State.regsBut_calTry _ n q (hq n),
    State.get_roverReturn hq, s.regsBut_sarCommit n q hc]

end

theorem lock_notMem_boundaryFields (p n : Nat) :
    (H.UPDATE_LOCK p).key ∉ (boundaryFields n).map Reg.key := by
  simp only [List.map_cons, List.map_nil, List.mem_cons, List.not_mem_nil, or_false, not_or, Reg.key,
    H.UPDATE_LOCK, H.IRQ_RAW, R.SAR_STATUS_RUNNING, R.SAR_STATUS_PENDING, R.SAR_CAL_CFG_REQ,
    R.SAR_CAL_CFG_WAITING, R.SAR_CAL_CFG_BUSY, R.SAR_CAL_CFG_ROVER, R.SAR_CAL_CFG_SUBST,
    R.SAR_CAL_CFG_SERVING]
  omega

/-! ### What a GO or the end of an update lock starts -/

/-- On every page but a converter's nothing of the registers moves yet (R91, R205). -/
theorem State.regs_commitKick (h : p < 0x08 ∨ 0x0C < p) : (s.commitKick p).regs = s.regs := by
  unfold State.commitKick
  have hpage : ¬ (0x08 ≤ p ∧ p ≤ 0x0C) := by omega
  rw [if_neg hpage]
  split
  · dsimp only
    split <;> rfl
  · rfl

/-- On a converter's page it is a sequence boundary, or nothing (R129). -/
theorem State.commitKick_pgSar (s : State) (n : Fin 5) :
    s.commitKick (pgSar n) = s.sarBoundary n s.now ∨ s.commitKick (pgSar n) = s := by
  have hke : ¬ (0x28 ≤ pgSar n ∧ pgSar n ≤ 0x2F) := by unfold pgSar; omega
  have hsar : 0x08 ≤ pgSar n ∧ pgSar n ≤ 0x0C := by unfold pgSar; omega
  have hn : pgSar n - 8 = n := by unfold pgSar; omega
  unfold State.commitKick
  rw [if_neg hke, if_pos hsar, hn]
  dsimp only
  split
  · exact .inl rfl
  · exact .inr rfl

/-- The update lock stays as it is written, also where an idle converter's commit applies at once (R92, R129). -/
theorem State.lock_commitKick (s : State) (p : Fin 256) :
    (s.commitKick p).get (H.UPDATE_LOCK p) = s.get (H.UPDATE_LOCK p) := by
  by_cases h : p.val < 0x08 ∨ 0x0C < p.val
  · exact congrArg (RegFile.get · _) (State.regs_commitKick h)
  · obtain ⟨n, hn⟩ : ∃ n : Fin 5, p.val = pgSar n :=
      ⟨⟨p.val - 8, by omega⟩, by simp only [pgSar]; omega⟩
    have hc := lock_notMem_commitFields p
    rw [hn] at hc ⊢
    rcases s.commitKick_pgSar n with hb | hb
    · rw [hb]
      exact State.get_sarBoundary (lock_notMem_boundaryFields _) hc s s.now
    · rw [hb]

/-- `GO` is pending once it is written (R91). -/
theorem State.flag_commitGo (h : p < 0x08 ∨ 0x0C < p) : (s.commitGo p).flag (H.COMMIT_GO p) = true := by
  unfold State.commitGo
  split
  · assumption
  · have hset : (s.setB (H.COMMIT_GO p) true).flag (H.COMMIT_GO p) = true :=
      State.flag_setB_same (by simp [H.COMMIT_GO]) (by simp [H.COMMIT_GO])
    rw [State.flag_eq, State.get, State.regs_commitKick h]
    exact hset

/-- A cleared update lock stays cleared (R92). -/
theorem State.flag_updateLock_false (s : State) (p : Fin 256) :
    (s.updateLock p false).flag (H.UPDATE_LOCK p) = false := by
  have hset : (s.setB (H.UPDATE_LOCK p) false).flag (H.UPDATE_LOCK p) = false :=
    State.flag_setB_same (by simp [H.UPDATE_LOCK]) (by simp [H.UPDATE_LOCK])
  unfold State.updateLock
  dsimp only
  split
  · rw [State.flag_eq, State.lock_commitKick]
    exact hset
  · exact hset

/-! ### The commands -/

/-- A page that the host reaches still is reached after the time to the command. -/
theorem State.hostAct_elapse {ofs dt : Nat} {f : State → State} (h : s.hostOpen p = true) :
    (s.elapse dt).hostAct p ofs f = f (s.elapse dt) := State.hostAct_of_hostOpen (s := s.elapse dt) h

/-- The commit of a stopped Kernel whose staged values are in range applies (R91, R205). -/
theorem exec_commitApply_kernel {dt : Nat} {page : Fin 256} (hlo : 0x28 ≤ page.val) (hhi : page.val ≤ 0x2F)
    (hw : ((s.elapse dt).undrop page.val).commitWaits page.val = true)
    (hf : ((s.elapse dt).undrop page.val).commitFresh page.val 2 = false)
    (hr : s.pageRuns page.val = true) (hk : s.keState (page.val - 0x28) = kOff)
    (hok : ((s.elapse dt).undrop page.val).keCommitOk (page.val - 0x28) = true) :
    exec (.commitApply dt page) s = .next (((s.elapse dt).undrop page.val).doCommit page.val) := by
  have hsar : ¬ (0x08 ≤ page.val ∧ page.val ≤ 0x0C) := by omega
  have hsense : ¬ page.val ≤ 0x17 := by omega
  have hr' : (s.elapse dt).pageRuns page.val = true := hr
  have hk' : (s.elapse dt).keState (page.val - 0x28) = kOff := hk
  change execCommitApply dt page s = _
  unfold execCommitApply
  simp only [hr', hsar, hw, hf, hsense, hlo, hhi, hk', hok, if_true, if_false, and_true,
    false_and, and_false, not_false_iff, Bool.false_eq_true]

end Sys2Proof.Machine

open Sys2Proof.Machine

/-- Settles O13: each command's effect, on a page that the host reaches, is one operation on the page's own
fields; what a `GO` or an ended update lock starts at once does not take the flag back. -/
theorem pageHeaderCommands : Obligations.PageHeaderCommands := by
  unfold Obligations.PageHeaderCommands
  refine ⟨?go, ?discard, ?apply, ?lock, ?err, ?dl, ?irq, ?cnt⟩
  case go =>
    intro s dt page ho hsh hp
    exact ⟨_, congrArg Host.Outcome.next ((State.hostAct_elapse ho).trans (if_pos hsh)),
      State.flag_commitGo hp⟩
  case discard =>
    intro s dt page ho hsh
    exact ⟨_, congrArg Host.Outcome.next ((State.hostAct_elapse ho).trans (if_pos hsh)),
      State.flag_commitDiscard_go _ _, fun r hr => State.stagedOf_commitDiscard hr⟩
  case apply =>
    intro s dt page hlo hhi hw hf hr hk hok
    refine ⟨_, exec_commitApply_kernel hlo hhi hw hf hr hk hok, State.flag_doCommit_go _ _, ?_⟩
    have hundrop : ((s.elapse dt).undrop page.val).get (H.COMMIT_APPLIED page.val)
        = s.get (H.COMMIT_APPLIED page.val) :=
      (s.elapse dt).regsBut_undrop page.val _ (by simpa using key_applied_ne_go page.val)
    rw [State.applied_doCommit, hundrop]
  case lock =>
    intro s dt page ho hsh
    exact ⟨_, congrArg Host.Outcome.next ((State.hostAct_elapse ho).trans (if_pos hsh)),
      State.flag_updateLock_false _ page⟩
  case err =>
    intro s dt page ho
    exact ⟨_, congrArg Host.Outcome.next (State.hostAct_elapse ho),
      State.get_clearCount_same (by simp [H.ERR_COUNT])⟩
  case dl =>
    intro s dt page ofs d ho hd
    have hexec : exec (.dlCountClear dt page ofs) s
        = .next ((s.elapse dt).hostAct page ofs (fun t => t.dlClear d)) := by
      change execDlCountClear dt page ofs s = _
      unfold execDlCountClear
      rw [hd]
    exact ⟨_, hexec.trans (congrArg Host.Outcome.next (State.hostAct_elapse ho)),
      State.get_clearCount_same (by simp [total_acc_of_dlPair _ _ d hd])⟩
  case irq =>
    intro s dt page mask ho
    exact ⟨_, congrArg Host.Outcome.next (State.hostAct_elapse ho), fun i => State.testBit_irqClear i.isLt⟩
  case cnt =>
    intro s dt page ho hc
    obtain ⟨hkeys, hacc⟩ := cntFields_sound page
    exact ⟨_, congrArg Host.Outcome.next ((if_neg hc).trans (State.hostAct_elapse ho)),
      fun r hr => State.get_foldl_clearCount hkeys hacc _ hr⟩

end

section
/-! An SN pair read through a port (O14): where a pair stands, and what the read does to the pair's shadow at
that port (R89). -/

-- One proof after another: many at once take a thread each (see Laws/KeepsChannel).
set_option Elab.async false

namespace Sys2Proof.Machine

variable {s : State} {r : Reg} {port port' p ofs dt : Nat}

/-! ### Where a pair stands -/

theorem snAt_placed {page : Fin 256} (h : snAt page ofs = some r) :
    r.page = page ∧ r.ofs % 8 = 0 ∧ 0x040 ≤ r.ofs ∧ r.ofs + 4 < 4096 := by
  have hfound := List.find?_some h
  simp only [Bool.and_eq_true, decide_eq_true_eq] at hfound
  obtain ⟨hpage, -, -, -, hpair⟩ := standsOn_of_mem (List.mem_of_find?_eq_some h)
  exact ⟨hpage, hpair hfound.1⟩

/-! ### The shadow -/

/-- A shadow dropped at a port is gone there. -/
theorem State.shadowOf_dropShadow_same (s : State) (port : Nat) (r : Reg) :
    (s.dropShadow port r).shadowOf port r = none := by
  simp only [State.shadowOf, State.dropShadow, Option.map_eq_none_iff, List.find?_eq_none,
    List.mem_filter, Bool.not_eq_true]
  rintro e ⟨-, he⟩
  simpa only [Bool.not_eq_true'] using he

/-- The other port's shadow of the pair stays. -/
theorem State.shadowOf_dropShadow_other (h : port' ≠ port) (s : State) (r : Reg) :
    (s.dropShadow port r).shadowOf port' r = s.shadowOf port' r := by
  have hkept (e : Nat × Nat × Nat)
      (he : (decide (e.1 = port') && decide (e.2.1 = r.page * 4096 + r.ofs)) = true) :
      (!(decide (e.1 = port) && decide (e.2.1 = r.page * 4096 + r.ofs))) = true := by
    simp only [Bool.and_eq_true, decide_eq_true_eq] at he
    simp [he.1, h]
  simp only [State.shadowOf, State.dropShadow, List.find?_filter]
  refine congrArg (Option.map _) (congrArg (List.find? · s.shadow) (funext fun e => ?_))
  rw [Bool.decide_and, Bool.decide_eq_true, Bool.decide_eq_true]
  exact Bool.and_eq_right_iff_imp.2 (hkept e)

/-- The shadow `v` of the pair taken at a port, in the place of the port's older one. -/
def State.takeShadow (s : State) (port : Nat) (r : Reg) (v : Nat) : State :=
  { s.dropShadow port r with
    shadow := (port, r.page * 4096 + r.ofs, v) :: (s.dropShadow port r).shadow }

theorem State.shadowOf_takeShadow_same (s : State) (port : Nat) (r : Reg) (v : Nat) :
    (s.takeShadow port r v).shadowOf port r = some v := by
  simp [State.shadowOf, State.takeShadow]

theorem State.shadowOf_takeShadow_other (h : port' ≠ port) (s : State) (r : Reg) (v : Nat) :
    (s.takeShadow port r v).shadowOf port' r = s.shadowOf port' r := by
  rw [← State.shadowOf_dropShadow_other h s r]
  simp [State.shadowOf, State.takeShadow, Ne.symm h]

theorem State.shadowOf_incWrap (s : State) (q r : Reg) (port : Nat) :
    (s.incWrap q).shadowOf port r = s.shadowOf port r := by
  simp [State.shadowOf, State.incWrap]

/-- A read of the low word: the word, the live high word in the port's shadow, `SNAP_SEQ` one on (R89). -/
theorem State.snLow_of_local (h : port ≠ 2) (s : State) (r : Reg) :
    s.snLow port r = (s.snValue r % 2 ^ 32,
      (s.takeShadow port r (s.snValue r / 2 ^ 32 % 2 ^ 32)).incWrap (H.SNAP_SEQ r.page)) := by
  unfold State.snLow
  exact if_neg h

theorem State.get_takeShadow (s : State) (port : Nat) (r : Reg) (v : Nat) (q : Reg) :
    (s.takeShadow port r v).get q = s.get q := rfl

theorem State.snapSeq_incWrap (s : State) (p : Nat) :
    (s.incWrap (H.SNAP_SEQ p)).get (H.SNAP_SEQ p) = (s.get (H.SNAP_SEQ p) + 1) % 2 ^ 8 :=
  (State.get_set_same _ _ (by simp [H.SNAP_SEQ])).trans (Nat.mod_mod _ _)

/-- A read of the high word with a shadow gives the shadow and clears it (R89). -/
theorem State.snHigh_of_shadow {v : Nat} (h : port ≠ 2) (hv : s.shadowOf port r = some v) :
    s.snHigh port r = (v, s.dropShadow port r) := by
  unfold State.snHigh
  dsimp only
  rw [if_neg h, hv]

/-- One without a shadow gives the live word and is an order error (R89). -/
theorem State.snHigh_of_noShadow (h : port ≠ 2) (hv : s.shadowOf port r = none) :
    s.snHigh port r = (s.snValue r / 2 ^ 32 % 2 ^ 32, s.setB (H.SNAP_ORDER_ERR r.page) true) := by
  unfold State.snHigh
  dsimp only
  rw [if_neg h, hv]

/-! ### The commands -/

/-- The port serves reads: the host port with its clock, the debug port once the lock and the level allow it. -/
def State.portServes (s : State) (port : Nat) : Bool :=
  if port = 0 then s.hostRuns else !s.sys.inReset && s.locked && s.flag R.BOOT_DEBUG_CFG_LEVEL

theorem State.pageExists_of_pageRuns (h : s.pageRuns p = true) : pageExists p = true := by
  unfold State.pageRuns at h
  unfold pageExists
  split at h
  next i hi => rw [hi]; rfl
  next => exact absurd h Bool.false_ne_true

/-- A word of a pair is read as the pair's own (R82, R89). -/
theorem State.fabRead_snAt {page : Fin 256} (h : snAt page ofs = some r) (ho : ofs = r.ofs ∨ ofs = r.ofs + 4)
    (hr : s.pageRuns page = true) : s.fabRead port (page * 4096 + ofs)
      = if r.ofs = ofs then s.snLow port r else s.snHigh port r := by
  obtain ⟨hpage, halign, hlow, hhigh⟩ := snAt_placed h
  have hword : (page.val * 4096 + ofs) / 4 * 4 = page.val * 4096 + ofs := by omega
  have hreg : page.val * 4096 + ofs < 0x100000 := by omega
  have hdiv : (page.val * 4096 + ofs) / 4096 = page := by omega
  have hmod : (page.val * 4096 + ofs) % 4096 = ofs := by omega
  have hblock : ¬ ofs < 0x040 := by omega
  unfold State.fabRead
  dsimp only
  rw [hword, if_pos hreg, hdiv, hmod]
  unfold State.pageRead
  simp only [State.pageExists_of_pageRuns hr, Bool.not_true, Bool.false_eq_true, if_false, hblock, h]
  unfold State.snRead
  rw [hpage, if_pos hr]

/-- The word of a read handed out, with the state that the read leaves. -/
def answered (o : Nat × State) : State := { o.2 with hostOut := [o.1] }

@[simp] theorem hostOut_answered (o : Nat × State) : (answered o).hostOut = [o.1] := rfl

@[simp] theorem get_answered (o : Nat × State) (q : Reg) : (answered o).get q = o.2.get q := rfl

@[simp] theorem flag_answered (o : Nat × State) (q : Reg) : (answered o).flag q = o.2.flag q := rfl

@[simp] theorem shadowOf_answered (o : Nat × State) (port : Nat) (q : Reg) :
    (answered o).shadowOf port q = o.2.shadowOf port q := rfl

theorem State.portRead_of_serves (h : s.portServes port = true) :
    s.portRead port p ofs = answered (s.fabRead port (p * 4096 + ofs)) := if_pos h

/-- A read of the low word of a pair through a port that serves. -/
theorem exec_snLowRead {port : Fin 2} {page : Fin 256} {ofs : Fin 4096} (hp : s.portServes port = true)
    (h : snAt page ofs = some r) (ho : r.ofs = ofs) (hr : s.pageRuns page = true) :
    exec (.snLowRead dt port page ofs) s = .next (answered ((s.elapse dt).snLow port r)) := by
  have hlow : snIsLow page ofs = true := by simp [snIsLow, h, ho]
  have hread := State.fabRead_snAt (s := s.elapse dt) (port := port) h (.inl ho.symm) hr
  rw [if_pos ho] at hread
  refine congrArg Host.Outcome.next ((if_pos hlow).trans ?_)
  rw [State.portRead_of_serves (s := s.elapse dt) hp, hread]

/-- A read of the high word of a pair through a port that serves. -/
theorem exec_snHighRead {port : Fin 2} {page : Fin 256} {ofs : Fin 4096} (hp : s.portServes port = true)
    (h : snAt page ofs = some r) (ho : r.ofs + 4 = ofs) (hr : s.pageRuns page = true) :
    exec (.snHighRead dt port page ofs) s = .next (answered ((s.elapse dt).snHigh port r)) := by
  have hhigh : snIsHigh page ofs = true := by simp [snIsHigh, h, ho]
  have hread := State.fabRead_snAt (s := s.elapse dt) (port := port) h (.inr ho.symm) hr
  rw [if_neg (by omega)] at hread
  refine congrArg Host.Outcome.next ((if_pos hhigh).trans ?_)
  rw [State.portRead_of_serves (s := s.elapse dt) hp, hread]

end Sys2Proof.Machine

open Sys2Proof.Machine

/-- Settles O14: the command is the pair's own read at the port (`exec_snLowRead`, `exec_snHighRead`), and neither
port is the remote access that touches no shadow. -/
theorem snapshotPairReads : Obligations.SnapshotPairReads := by
  unfold Obligations.SnapshotPairReads
  have hlocal : ∀ port : Fin 2, port.val ≠ 2 := fun port => by omega
  refine ⟨?low, ?shadow, ?live⟩
  case low =>
    intro s dt port page ofs r hp h ho hr
    obtain ⟨hpage, -, -, -⟩ := snAt_placed h
    refine ⟨_, exec_snLowRead hp h ho hr, ?_⟩
    rw [State.snLow_of_local (hlocal port), ← hpage]
    refine ⟨hostOut_answered _, ?_, ?_, fun q hq => ?_⟩
    · rw [shadowOf_answered, State.shadowOf_incWrap, State.shadowOf_takeShadow_same]
    · rw [get_answered, State.snapSeq_incWrap, State.get_takeShadow, State.get_elapse]
    · have hne : q.val ≠ port.val := fun e => hq (Fin.ext e)
      rw [shadowOf_answered, State.shadowOf_incWrap, State.shadowOf_takeShadow_other hne]
      rfl
  case shadow =>
    intro s dt port page ofs r v hp h ho hr hv
    have hread := State.snHigh_of_shadow (s := s.elapse dt) (hlocal port) hv
    refine ⟨_, exec_snHighRead hp h ho hr, ?_, ?_⟩
    · rw [hostOut_answered, hread]
    · rw [shadowOf_answered, hread, State.shadowOf_dropShadow_same]
  case live =>
    intro s dt port page ofs r hp h ho hr hv
    obtain ⟨hpage, -, -, -⟩ := snAt_placed h
    have hread := State.snHigh_of_noShadow (s := s.elapse dt) (hlocal port) hv
    refine ⟨_, exec_snHighRead hp h ho hr, ?_, ?_⟩
    · rw [hostOut_answered, hread]
    · rw [flag_answered, hread, ← hpage]
      exact State.flag_setB_same (by simp [H.SNAP_ORDER_ERR]) (by simp [H.SNAP_ORDER_ERR])

end

section
/-! The trigger units of the sensing pages and of the converters (O46, O58): what an event does to the target
times that a unit holds (R113 to R115), and which events the commands bring. -/

-- One proof after another: many at once take a thread each (see Laws/KeepsChannel).
set_option Elab.async false

namespace Sys2Proof.Machine

variable {s t : State} {x n m t0 dt : Nat}

/-! ### Channels and converters -/

theorem State.ch_of_chan (e : t.chan = s.chan := by simp) : t.ch x = s.ch x := by
  unfold State.ch
  rw [e]

theorem State.ch_setCh_same {f : ChSt → ChSt} (h : x < s.chan.length) : (s.setCh x f).ch x = f (s.ch x) := by
  simp [State.ch, State.setCh, List.getD_eq_getElem?_getD, h]

/-- A channel beyond the list is the channel after reset. -/
theorem State.ch_of_le (h : s.chan.length ≤ x) : s.ch x = {} := by
  simp [State.ch, List.getD_eq_getElem?_getD, h]

/-- A channel that is not as after reset is one of the list. -/
theorem State.ch_lt (h : s.ch x ≠ {}) : x < s.chan.length :=
  lt_of_not_ge (fun hle => h (State.ch_of_le hle))

theorem State.sense_setSense_same {f : SenseSt → SenseSt} (h : x < s.chan.length) :
    ((s.setSense x f).ch x).sense = f (s.ch x).sense := by
  unfold State.setSense
  rw [State.ch_setCh_same h]

@[simp] theorem State.get_setSense (s : State) (x : Nat) (f : SenseSt → SenseSt) (r : Reg) :
    (s.setSense x f).get r = s.get r := rfl

@[simp] theorem State.now_setSense (s : State) (x : Nat) (f : SenseSt → SenseSt) :
    (s.setSense x f).now = s.now := rfl

theorem State.length_chan_setSense (s : State) (x : Nat) (f : SenseSt → SenseSt) :
    (s.setSense x f).chan.length = s.chan.length := List.length_modify ..

theorem State.sarSt_of_sar (e : t.sar = s.sar := by simp) : t.sarSt n = s.sarSt n := by
  unfold State.sarSt
  rw [e]

theorem State.sarSt_setSar_same {f : SarSt → SarSt} (h : n < s.sar.length) :
    (s.setSar n f).sarSt n = f (s.sarSt n) := by
  simp [State.sarSt, State.setSar, List.getD_eq_getElem?_getD, h]

theorem State.sarSt_setSar_other {f : SarSt → SarSt} (h : m ≠ n) : (s.setSar n f).sarSt m = s.sarSt m := by
  simp [State.sarSt, State.setSar, List.getD_eq_getElem?_getD, List.getElem?_modify_ne _ _ h.symm]

/-- A converter beyond the list is the converter after reset. -/
theorem State.sarSt_of_le (h : s.sar.length ≤ n) : s.sarSt n = {} := by
  simp [State.sarSt, List.getD_eq_getElem?_getD, h]

/-- A converter that is not as after reset is one of the list. -/
theorem State.sar_lt (h : s.sarSt n ≠ {}) : n < s.sar.length :=
  lt_of_not_ge (fun hle => h (State.sarSt_of_le hle))

@[simp] theorem State.get_setSar (s : State) (n : Nat) (f : SarSt → SarSt) (r : Reg) :
    (s.setSar n f).get r = s.get r := rfl

@[simp] theorem State.now_setSar (s : State) (n : Nat) (f : SarSt → SarSt) : (s.setSar n f).now = s.now := rfl

theorem State.length_sar_setSar (s : State) (n : Nat) (f : SarSt → SarSt) :
    (s.setSar n f).sar.length = s.sar.length := List.length_modify ..

/-! ### A unit's list (R115) -/

/-- The target times of a list that are yet to come. -/
abbrev yetToCome (l : List Nat) (now : Nat) : List Nat := l.filter (fun e => decide (now < e))

/-- One more target makes at most one more that is yet to come. -/
theorem length_yetToCome_append {l : List Nat} {now : Nat} (e : Nat) (h : (yetToCome l now).length < 4) :
    (yetToCome (l ++ [e]) now).length ≤ 4 := by
  have hone : (yetToCome [e] now).length ≤ 1 := List.length_filter_le _ _
  unfold yetToCome at h hone ⊢
  rw [List.filter_append, List.length_append]
  omega

/-! ### A sensing page's unit -/

/-- The unit's list with the target of an event at `t0` at its end. -/
def State.senseHeld (s : State) (x t0 : Nat) : List Nat :=
  (s.ch x).sense.trig ++ [t0 + cellCycle * s.get (R.SENSE_TRIG_DELAY x)]

theorem State.senseTrigger_of_room (h : (yetToCome (s.ch x).sense.trig s.now).length < 4) :
    s.senseTrigger x t0 = s.setSense x (fun e =>
      { e with trig := e.trig ++ [t0 + cellCycle * s.get (R.SENSE_TRIG_DELAY x)] }) := if_neg (not_le.2 h)

theorem State.senseTrigger_of_full (h : 4 ≤ (yetToCome (s.ch x).sense.trig s.now).length) :
    s.senseTrigger x t0 = ((s.setB (R.SENSE_FB_STAT_TRIG_OVR x) true).inc (R.SENSE_OVR_COUNT_OVR x)).irq
      (pgSense x) 24 := if_pos h

theorem State.regs_senseTrigger_of_room (h : (yetToCome (s.ch x).sense.trig s.now).length < 4) :
    (s.senseTrigger x t0).regs = s.regs := by
  rw [State.senseTrigger_of_room h]
  rfl

/-- With room the event's target joins the list at its end. -/
theorem State.sense_senseTrigger_of_room (hx : x < s.chan.length)
    (h : (yetToCome (s.ch x).sense.trig s.now).length < 4) :
    ((s.senseTrigger x t0).ch x).sense = { (s.ch x).sense with trig := s.senseHeld x t0 } := by
  rw [State.senseTrigger_of_room h, State.sense_setSense_same hx]
  rfl

/-- A full unit discards the event. -/
theorem State.sense_senseTrigger_of_full (h : 4 ≤ (yetToCome (s.ch x).sense.trig s.now).length) :
    ((s.senseTrigger x t0).ch x).sense = (s.ch x).sense := by
  rw [State.senseTrigger_of_full h, State.ch_of_chan (s := s)]

/-- A full unit shows and counts the overrun. -/
theorem State.overrun_senseTrigger_of_full (h : 4 ≤ (yetToCome (s.ch x).sense.trig s.now).length) :
    (s.senseTrigger x t0).flag (R.SENSE_FB_STAT_TRIG_OVR x) = true
    ∧ (s.senseTrigger x t0).get (R.SENSE_OVR_COUNT_OVR x)
      = counted (R.SENSE_OVR_COUNT_OVR x) (s.get (R.SENSE_OVR_COUNT_OVR x)) := by
  have hflag : (R.SENSE_FB_STAT_TRIG_OVR x).key ≠ (R.SENSE_OVR_COUNT_OVR x).key := by
    simp only [Reg.key, R.SENSE_FB_STAT_TRIG_OVR, R.SENSE_OVR_COUNT_OVR]; omega
  have hraw : ∀ r ∈ [R.SENSE_FB_STAT_TRIG_OVR x, R.SENSE_OVR_COUNT_OVR x], r.key ≠ (H.IRQ_RAW (pgSense x)).key := by
    simp only [List.forall_mem_cons, Reg.key, R.SENSE_FB_STAT_TRIG_OVR, R.SENSE_OVR_COUNT_OVR, H.IRQ_RAW, pgSense]
    exact ⟨by omega, by omega, by simp⟩
  rw [State.senseTrigger_of_full h, State.flag_eq, State.get_irq_other (hraw _ (by simp)),
    State.get_inc_other hflag, ← State.flag_eq, State.get_irq_other (hraw _ (by simp)),
    State.get_inc_same (by simp [R.SENSE_OVR_COUNT_OVR]), State.get_setB_other hflag.symm]
  exact ⟨State.flag_setB_same (by simp [R.SENSE_FB_STAT_TRIG_OVR]) (by simp [R.SENSE_FB_STAT_TRIG_OVR]), rfl⟩

/-- An event that finds room: its target joins the list, and no register moves. -/
theorem State.senseTrigger_takes (hx : x < s.chan.length)
    (h : (yetToCome (s.ch x).sense.trig s.now).length < 4) :
    ((s.senseTrigger x t0).ch x).sense.trig = s.senseHeld x t0
    ∧ (yetToCome ((s.senseTrigger x t0).ch x).sense.trig s.now).length ≤ 4
    ∧ (s.senseTrigger x t0).regs = s.regs := by
  rw [State.sense_senseTrigger_of_room hx h]
  exact ⟨rfl, length_yetToCome_append _ h, State.regs_senseTrigger_of_room h⟩

/-- An event that finds none: the list stays, and the overrun is shown and counted. -/
theorem State.senseTrigger_discards (h : 4 ≤ (yetToCome (s.ch x).sense.trig s.now).length) :
    ((s.senseTrigger x t0).ch x).sense.trig = (s.ch x).sense.trig
    ∧ (s.senseTrigger x t0).flag (R.SENSE_FB_STAT_TRIG_OVR x) = true
    ∧ (s.senseTrigger x t0).get (R.SENSE_OVR_COUNT_OVR x)
      = counted (R.SENSE_OVR_COUNT_OVR x) (s.get (R.SENSE_OVR_COUNT_OVR x)) := by
  rw [State.sense_senseTrigger_of_full h]
  exact ⟨rfl, State.overrun_senseTrigger_of_full h⟩

/-- The page's Canopy timer has been judged up to now (R116). -/
def State.senseTimed (s : State) (x : Nat) : State := s.setSense x (fun e => { e with tmrAt := s.canopy })

theorem State.sense_senseTimed (hx : x < s.chan.length) :
    ((s.senseTimed x).ch x).sense = { (s.ch x).sense with tmrAt := s.canopy } :=
  State.sense_setSense_same hx

theorem State.senseTimed_takes (hx : x < s.chan.length)
    (h : (yetToCome (s.ch x).sense.trig s.now).length < 4) :
    (((s.senseTimed x).senseTrigger x t0).ch x).sense
      = { (s.ch x).sense with tmrAt := s.canopy, trig := s.senseHeld x t0 }
    ∧ ((s.senseTimed x).senseTrigger x t0).regs = s.regs := by
  have hroom : (yetToCome ((s.senseTimed x).ch x).sense.trig s.now).length < 4 := by
    rwa [State.sense_senseTimed hx]
  have hx' : x < (s.senseTimed x).chan.length := by rwa [State.senseTimed, State.length_chan_setSense]
  refine ⟨?_, State.regs_senseTrigger_of_room hroom⟩
  rw [State.sense_senseTrigger_of_room hx' hroom, State.senseHeld, State.sense_senseTimed hx]
  rfl

theorem State.senseTimed_discards (hx : x < s.chan.length)
    (h : 4 ≤ (yetToCome (s.ch x).sense.trig s.now).length) :
    (((s.senseTimed x).senseTrigger x t0).ch x).sense.trig = (s.ch x).sense.trig
    ∧ ((s.senseTimed x).senseTrigger x t0).flag (R.SENSE_FB_STAT_TRIG_OVR x) = true
    ∧ ((s.senseTimed x).senseTrigger x t0).get (R.SENSE_OVR_COUNT_OVR x)
      = counted (R.SENSE_OVR_COUNT_OVR x) (s.get (R.SENSE_OVR_COUNT_OVR x)) := by
  have hfull : 4 ≤ (yetToCome ((s.senseTimed x).ch x).sense.trig s.now).length := by
    rwa [State.sense_senseTimed hx]
  obtain ⟨htrig, hovr⟩ := State.senseTrigger_discards (s := s.senseTimed x) (t0 := t0) hfull
  exact ⟨htrig.trans (by rw [State.sense_senseTimed hx]), hovr⟩

/-! ### A converter's unit -/

/-- The unit's list with the target of an event at `t0`, or its arrival if that is later, at its end. -/
def State.sarHeld (s : State) (n t0 : Nat) : List Nat :=
  (s.sarSt n).trig ++ [max (t0 + cellCycle * s.get (R.SAR_TRIG_DELAY n)) s.now]

theorem State.sarTrigger_of_room (h : (yetToCome (s.sarSt n).trig s.now).length < 4) :
    s.sarTrigger n t0 = s.setSar n (fun d =>
      { d with trig := d.trig ++ [max (t0 + cellCycle * s.get (R.SAR_TRIG_DELAY n)) s.now] }) :=
  if_neg (not_le.2 h)

theorem State.sarTrigger_of_full (h : 4 ≤ (yetToCome (s.sarSt n).trig s.now).length) :
    s.sarTrigger n t0 = s.sarOverrun n := if_pos h

theorem State.sarSt_sarOverrun (s : State) (n m : Nat) : (s.sarOverrun n).sarSt m = s.sarSt m :=
  State.sarSt_of_sar (by simp [State.sarOverrun])

/-- A discarded trigger is shown and counted (R115, R127). -/
theorem State.shown_sarOverrun (s : State) (n : Nat) :
    (s.sarOverrun n).flag (R.SAR_STATUS_TRIG_OVR n) = true
    ∧ (s.sarOverrun n).get (R.SAR_OVR_COUNT_OVR n)
      = counted (R.SAR_OVR_COUNT_OVR n) (s.get (R.SAR_OVR_COUNT_OVR n)) := by
  have hflag : (R.SAR_STATUS_TRIG_OVR n).key ≠ (R.SAR_OVR_COUNT_OVR n).key := by
    simp only [Reg.key, R.SAR_STATUS_TRIG_OVR, R.SAR_OVR_COUNT_OVR]; omega
  have hraw : ∀ r ∈ [R.SAR_STATUS_TRIG_OVR n, R.SAR_OVR_COUNT_OVR n], r.key ≠ (H.IRQ_RAW (pgSar n)).key := by
    simp only [List.forall_mem_cons, Reg.key, R.SAR_STATUS_TRIG_OVR, R.SAR_OVR_COUNT_OVR, H.IRQ_RAW, pgSar]
    exact ⟨by omega, by omega, by simp⟩
  unfold State.sarOverrun
  rw [State.flag_eq, State.get_irq_other (hraw _ (by simp)), State.get_inc_other hflag, ← State.flag_eq,
    State.get_irq_other (hraw _ (by simp)), State.get_inc_same (by simp [R.SAR_OVR_COUNT_OVR]),
    State.get_setB_other hflag.symm]
  exact ⟨State.flag_setB_same (by simp [R.SAR_STATUS_TRIG_OVR]) (by simp [R.SAR_STATUS_TRIG_OVR]), rfl⟩

/-- An event that finds room: its target joins the list, and no register moves. -/
theorem State.sarTrigger_takes (hn : n < s.sar.length)
    (h : (yetToCome (s.sarSt n).trig s.now).length < 4) :
    (s.sarTrigger n t0).sarSt n = { s.sarSt n with trig := s.sarHeld n t0 }
    ∧ (s.sarTrigger n t0).regs = s.regs := by
  rw [State.sarTrigger_of_room h, State.sarSt_setSar_same hn]
  exact ⟨rfl, rfl⟩

/-- The same where the unit has noted something beside its list. -/
theorem State.sarTrigger_setSar_takes {f : SarSt → SarSt} (hf : ∀ d, (f d).trig = d.trig)
    (hn : n < s.sar.length) (h : (yetToCome (s.sarSt n).trig s.now).length < 4) :
    ((s.setSar n f).sarTrigger n t0).sarSt n = { f (s.sarSt n) with trig := s.sarHeld n t0 }
    ∧ ((s.setSar n f).sarTrigger n t0).regs = s.regs := by
  have htrig : ((s.setSar n f).sarSt n).trig = (s.sarSt n).trig := by rw [State.sarSt_setSar_same hn, hf]
  obtain ⟨hst, hregs⟩ := State.sarTrigger_takes (s := s.setSar n f) (n := n) (t0 := t0)
    (by rwa [State.length_sar_setSar]) (by rwa [htrig])
  refine ⟨?_, hregs⟩
  rw [hst, State.sarHeld, htrig, State.sarSt_setSar_same hn]
  rfl

/-- An event that finds none: the list stays, and the overrun is shown and counted. -/
theorem State.sarTrigger_discards {f : SarSt → SarSt} (hf : ∀ d, (f d).trig = d.trig) (hn : n < s.sar.length)
    (h : 4 ≤ (yetToCome (s.sarSt n).trig s.now).length) :
    (((s.setSar n f).sarTrigger n t0).sarSt n).trig = (s.sarSt n).trig
    ∧ ((s.setSar n f).sarTrigger n t0).flag (R.SAR_STATUS_TRIG_OVR n) = true
    ∧ ((s.setSar n f).sarTrigger n t0).get (R.SAR_OVR_COUNT_OVR n)
      = counted (R.SAR_OVR_COUNT_OVR n) (s.get (R.SAR_OVR_COUNT_OVR n)) := by
  have htrig : ((s.setSar n f).sarSt n).trig = (s.sarSt n).trig := by rw [State.sarSt_setSar_same hn, hf]
  rw [State.sarTrigger_of_full (by rwa [htrig]), State.sarSt_sarOverrun, htrig]
  exact ⟨rfl, State.shown_sarOverrun _ n⟩

/-! ### The commands -/

variable {u : Fin 13} {cell : Fin 8} {kind : TrigKind} {age : Nat}

/-- The time of a carrier event: the cell island's cycle in which it fell (R154). -/
def State.eventTime (s : State) (cell : Fin 8) (age : Nat) : Nat := (PageIsland.cell cell.val).edge (s.now - age)

theorem State.chan_of_started (h : (s.ch x).pwm.started = true) : x < s.chan.length :=
  State.ch_lt (fun e => by simp [e] at h)

/-- An event of a channel's own carrier that its page's trigger selects. -/
theorem exec_triggerEvent_sense (hr : s.cellRuns cell.val = true) (hs : (s.ch cell.val).pwm.started = true)
    (hmade : s.carrierMade cell.val (s.now + dt - age) kind = true) (hu : u.val = cell.val)
    (hm : trigMatch (s.get (R.SENSE_TRIG_SRC u.val)) (s.get (R.SENSE_TRIG_LEG u.val))
      (s.ch cell.val).pwm.mode kind = true) :
    exec (.triggerEvent dt u cell kind age) s
      = .next ((s.elapse dt).senseTrigger u.val ((s.elapse dt).eventTime cell age)) := by
  have hlt : u.val < 8 := by omega
  exact (if_pos ⟨hr, hs, hmade⟩).trans ((if_pos hlt).trans (congrArg Host.Outcome.next (if_pos ⟨hu, hm⟩)))

/-- An event of the carrier that a converter's trigger selects. -/
theorem exec_triggerEvent_sar (hr : s.cellRuns cell.val = true) (hs : (s.ch cell.val).pwm.started = true)
    (hmade : s.carrierMade cell.val (s.now + dt - age) kind = true) (hu : u.val = 8 + n)
    (hg : s.gridRuns = true) (hc : s.get (R.SAR_TRIG_CELL n) = cell.val)
    (hm : trigMatch (s.get (R.SAR_TRIG_SRC n)) (s.get (R.SAR_TRIG_LEG n)) (s.ch cell.val).pwm.mode kind = true) :
    exec (.triggerEvent dt u cell kind age) s = .next (((s.elapse dt).setSar n (fun d =>
      { d with lastEvt := some ((s.elapse dt).eventTime cell age) })).sarTrigger n
        ((s.elapse dt).eventTime cell age)) := by
  have hlt : ¬ u.val < 8 := by omega
  have hn : u.val - 8 = n := by omega
  refine (if_pos ⟨hr, hs, hmade⟩).trans ((if_neg hlt).trans ?_)
  dsimp only
  rw [hn]
  exact congrArg Host.Outcome.next (if_pos ⟨hg, hc, hm⟩)

/-- A firing of a sensing page's Canopy timer. -/
theorem exec_canopyTimerFire_sense (hu : u.val < 8) (hr : s.cellRuns u.val = true)
    (hsrc : s.get (R.SENSE_TRIG_SRC u.val) = 5)
    (hdue : (s.elapse dt).timerDue (.cell u.val) (s.get (R.SENSE_TMR_PERIOD_NS u.val))
      (s.get (R.SENSE_TMR_PHASE_NS u.val)) (s.ch u.val).sense.tmrAt = true) :
    exec (.canopyTimerFire dt u) s = .next (((s.elapse dt).senseTimed u.val).senseTrigger u.val
      ((PageIsland.cell u.val).edge (s.now + dt))) :=
  (if_pos hu).trans (congrArg Host.Outcome.next (if_pos ⟨hr, hsrc, hdue⟩))

/-- A firing of a converter's Canopy timer. -/
theorem exec_canopyTimerFire_sar (hu : u.val = 8 + n) (hg : s.gridRuns = true) (hsrc : s.get (R.SAR_TRIG_SRC n) = 5)
    (hdue : (s.elapse dt).timerDue .grid (s.get (R.SAR_TMR_PERIOD_NS n)) (s.get (R.SAR_TMR_PHASE_NS n))
      (s.sarSt n).tmrAt = true) :
    exec (.canopyTimerFire dt u) s = .next (((s.elapse dt).setSar n (fun d =>
      { d with tmrAt := (s.elapse dt).canopy })).sarTrigger n (PageIsland.grid.edge (s.now + dt))) := by
  have hlt : ¬ u.val < 8 := by omega
  have hn : u.val - 8 = n := by omega
  refine (if_neg hlt).trans ?_
  rw [hn]
  exact congrArg Host.Outcome.next (if_pos ⟨hg, hsrc, hdue⟩)

/-- `TRIG_NOW` of a sensing page. -/
theorem exec_trigNow_sense (hu : u.val < 8) (ho : s.hostOpen (pgSense u.val) = true) :
    exec (.trigNow dt u) s = .next ((s.elapse dt).senseTrigger u.val (s.now + dt)) :=
  congrArg Host.Outcome.next ((if_pos hu).trans (State.hostAct_elapse ho))

/-- `TRIG_NOW` of a converter that does not run CONTINUOUS. -/
theorem exec_trigNow_sar (hu : u.val = 8 + n) (ho : s.hostOpen (pgSar n) = true)
    (hsrc : s.get (R.SAR_TRIG_SRC n) ≠ 7) :
    exec (.trigNow dt u) s = .next ((s.elapse dt).sarTrigger n (s.now + dt)) := by
  have hlt : ¬ u.val < 8 := by omega
  have hn : u.val - 8 = n := by omega
  refine congrArg Host.Outcome.next ((if_neg hlt).trans ?_)
  rw [hn]
  exact (State.hostAct_elapse ho).trans (if_pos ⟨rfl, hsrc⟩)

end Sys2Proof.Machine

open Sys2Proof.Machine

/-- Settles O58: every event reaches its unit by `senseTrigger` or `sarTrigger`, and these take it or discard it by
the number of targets yet to come. -/
theorem aFifthTriggerIsDiscarded : Obligations.AFifthTriggerIsDiscarded := by
  unfold Obligations.AFifthTriggerIsDiscarded
  have hchan {s : State} (hs : s.shape) {x : Nat} (hx : x < 8) : x < s.chan.length := by
    obtain ⟨hlen, -⟩ := hs
    omega
  have hsar {s : State} (hs : s.shape) {u : Fin 13} {n : Nat} (hu : u.val = 8 + n) : n < s.sar.length := by
    obtain ⟨-, hlen, -⟩ := hs
    omega
  refine ⟨?event, ?eventFull, ?sarEvent, ?sarEventFull, ?timer, ?timerFull, ?sarTimer, ?sarTimerFull, ?now, ?nowFull,
    ?sarNow, ?sarNowFull⟩
  case event =>
    intro s dt u cell kind age hr hst hmade hu hm hs h
    exact ⟨_, exec_triggerEvent_sense hr hst hmade hu hm,
      State.senseTrigger_takes (s := s.elapse dt) (hchan hs (by omega)) h⟩
  case eventFull =>
    intro s dt u cell kind age hr hst hmade hu hm hs h
    exact ⟨_, exec_triggerEvent_sense hr hst hmade hu hm, State.senseTrigger_discards (s := s.elapse dt) h⟩
  case sarEvent =>
    intro s dt u cell kind age n hr hst hmade hu hg hs hc hm h
    obtain ⟨hst', hregs⟩ := State.sarTrigger_setSar_takes (s := s.elapse dt) (n := n)
      (t0 := (s.elapse dt).eventTime cell age)
      (f := fun d => { d with lastEvt := some ((s.elapse dt).eventTime cell age) }) (fun _ => rfl) (hsar hs hu) h
    refine ⟨_, exec_triggerEvent_sar hr hst hmade hu hg hc hm, ?_, ?_, hregs⟩ <;> rw [hst']
    · rfl
    · exact length_yetToCome_append _ h
  case sarEventFull =>
    intro s dt u cell kind age n hr hst hmade hu hg hs hc hm h
    exact ⟨_, exec_triggerEvent_sar hr hst hmade hu hg hc hm,
      State.sarTrigger_discards (s := s.elapse dt) (fun _ => rfl) (hsar hs hu) h⟩
  case timer =>
    intro s dt u hu hr hs hsrc hdue h
    obtain ⟨hst, hregs⟩ := State.senseTimed_takes (s := s.elapse dt)
      (t0 := (PageIsland.cell u.val).edge (s.now + dt)) (hchan hs hu) h
    refine ⟨_, exec_canopyTimerFire_sense hu hr hsrc hdue, ?_, ?_, hregs⟩ <;> rw [hst]
    · rfl
    · exact length_yetToCome_append _ h
  case timerFull =>
    intro s dt u hu hr hs hsrc hdue h
    exact ⟨_, exec_canopyTimerFire_sense hu hr hsrc hdue,
      State.senseTimed_discards (s := s.elapse dt) (hchan hs hu) h⟩
  case sarTimer =>
    intro s dt u n hu hg hs hsrc hdue h
    obtain ⟨hst, hregs⟩ := State.sarTrigger_setSar_takes (s := s.elapse dt) (n := n)
      (t0 := PageIsland.grid.edge (s.now + dt)) (f := fun d => { d with tmrAt := (s.elapse dt).canopy })
      (fun _ => rfl) (hsar hs hu) h
    refine ⟨_, exec_canopyTimerFire_sar hu hg hsrc hdue, ?_, ?_, hregs⟩ <;> rw [hst]
    · rfl
    · exact length_yetToCome_append _ h
  case sarTimerFull =>
    intro s dt u n hu hg hs hsrc hdue h
    exact ⟨_, exec_canopyTimerFire_sar hu hg hsrc hdue,
      State.sarTrigger_discards (s := s.elapse dt) (fun _ => rfl) (hsar hs hu) h⟩
  case now =>
    intro s dt u hu ho hs h
    exact ⟨_, exec_trigNow_sense hu ho, State.senseTrigger_takes (s := s.elapse dt) (hchan hs hu) h⟩
  case nowFull =>
    intro s dt u hu ho hs h
    exact ⟨_, exec_trigNow_sense hu ho, State.senseTrigger_discards (s := s.elapse dt) h⟩
  case sarNow =>
    intro s dt u n hu ho hs hsrc h
    obtain ⟨hst, hregs⟩ := State.sarTrigger_takes (s := s.elapse dt) (t0 := s.now + dt) (hsar hs hu) h
    refine ⟨_, exec_trigNow_sar hu ho hsrc, ?_, ?_, hregs⟩ <;> rw [hst]
    · rfl
    · exact length_yetToCome_append _ h
  case sarNowFull =>
    intro s dt u n hu ho hs hsrc h
    have hfull := State.sarTrigger_of_full (s := s.elapse dt) (t0 := s.now + dt) h
    refine ⟨_, exec_trigNow_sar hu ho hsrc, ?_⟩
    rw [hfull, State.sarSt_sarOverrun]
    exact ⟨rfl, State.shown_sarOverrun _ n⟩

end

section
/-! Passes, calibrations and the rover (O48, O49): what a pass that starts, a calibration that starts and the rover's
moves do to each converter's sequence, to the rover's queue, and to the registers (R126, R127, R133 to R136). -/

-- One proof after another: many at once take a thread each (see Laws/KeepsChannel).
set_option Elab.async false

namespace Sys2Proof.Machine

variable {s t : State} {l : List Reg} {q : Reg} {n m k p b i t0 fire : Nat}

/-! ### Fields of a converter's sequence -/

/-- A change that leaves a part of the sequence leaves that part of every converter. -/
theorem State.sarSt_setSar_part {α : Type} (g : SarSt → α) {f : SarSt → SarSt} (hf : ∀ d, g (f d) = g d)
    (s : State) (n m : Nat) : g ((s.setSar n f).sarSt m) = g (s.sarSt m) := by
  rcases eq_or_ne m n with rfl | hne
  · rcases lt_or_ge m s.sar.length with hlt | hge
    · rw [State.sarSt_setSar_same hlt, hf]
    · rw [State.sarSt_of_le hge, State.sarSt_of_le (by rwa [State.length_sar_setSar])]
  · rw [State.sarSt_setSar_other hne]

/-- The part that passes change and calibrations leave: the pass in progress, the pending trigger, the trigger
that abandons the pass. -/
def SarSt.run (d : SarSt) : Option SarPass × Option Nat × Option Nat := (d.pass, d.pend, d.restart)

/-- The part that calibrations change and passes leave: the request, the end of the running one, the force. -/
def SarSt.cal (d : SarSt) : Option Nat × Option Nat × Bool := (d.calReq, d.calEnd, d.forced)

/-! ### The readouts (R137) -/

/-- The registers that a pass which starts touches. -/
abbrev passFields (n : Nat) : List Reg := [R.SAR_STATUS_RUNNING n, R.SAR_STATUS_PENDING n]

@[simp] theorem State.sar_sarSync (s : State) (n : Nat) : (s.sarSync n).sar = s.sar := by simp [State.sarSync]

theorem State.sarSt_sarSync (s : State) (n m : Nat) : (s.sarSync n).sarSt m = s.sarSt m := State.sarSt_of_sar

theorem State.regsBut_sarSync (s : State) (n : Nat) : s.regsBut (passFields n) (s.sarSync n) :=
  s.regsBut_of_regs.setB.setB

theorem State.running_sarSync (s : State) (n : Nat) :
    (s.sarSync n).flag (R.SAR_STATUS_RUNNING n) = (s.sarSt n).pass.isSome := by
  have hne : (R.SAR_STATUS_RUNNING n).key ≠ (R.SAR_STATUS_PENDING n).key := by
    simp only [Reg.key, R.SAR_STATUS_RUNNING, R.SAR_STATUS_PENDING]; omega
  unfold State.sarSync
  rw [State.flag_setB_other hne,
    State.flag_setB_same (by simp [R.SAR_STATUS_RUNNING]) (by simp [R.SAR_STATUS_RUNNING])]

theorem State.pending_sarSync (s : State) (n : Nat) :
    (s.sarSync n).flag (R.SAR_STATUS_PENDING n) = (s.sarSt n).pend.isSome := by
  unfold State.sarSync
  rw [State.flag_setB_same (by simp [R.SAR_STATUS_PENDING]) (by simp [R.SAR_STATUS_PENDING])]

/-! ### A pass starts (R126) -/

/-- The pass that starts at `t0`, for a trigger that fired at `fire`. -/
def State.newPass (s : State) (n fire t0 : Nat) : SarPass :=
  { fireAt := fire, t0 := t0, stamp := (s.canopyT.at (PageIsland.sar.edge t0)).floor.toNat % 2 ^ 64,
    ends := t0 + s.entryTime n 0 }

/-- The sequence once the pass has started. -/
def State.passBegun (s : State) (n fire t0 : Nat) (d : SarSt) : SarSt :=
  { d with pass := some (s.newPass n fire t0), passNo := d.passNo + 1, pend := none, restart := none,
           limOld := d.limOld.filter (fun e => decide (fire < e.1)) }

theorem State.startPass_eq (s : State) (n fire t0 : Nat) :
    s.startPass n fire t0 = (s.setSar n (s.passBegun n fire t0)).sarSync n := rfl

theorem State.sarSt_startPass_same (hn : n < s.sar.length) :
    (s.startPass n fire t0).sarSt n = s.passBegun n fire t0 (s.sarSt n) := by
  rw [State.startPass_eq, State.sarSt_sarSync, State.sarSt_setSar_same hn]

theorem State.sarSt_startPass_other (h : m ≠ n) : (s.startPass n fire t0).sarSt m = s.sarSt m := by
  rw [State.startPass_eq, State.sarSt_sarSync, State.sarSt_setSar_other h]

theorem State.sarSt_startPass_part {α : Type} (g : SarSt → α)
    (hg : ∀ d, g (s.passBegun n fire t0 d) = g d) : g ((s.startPass n fire t0).sarSt m) = g (s.sarSt m) := by
  rw [State.startPass_eq, State.sarSt_sarSync]
  exact State.sarSt_setSar_part g hg s n m

theorem State.regsBut_startPass_pass (s : State) (n fire t0 : Nat) :
    s.regsBut (passFields n) (s.startPass n fire t0) := State.regsBut_sarSync (s.setSar n _) n

theorem State.running_startPass (hn : n < s.sar.length) :
    (s.startPass n fire t0).flag (R.SAR_STATUS_RUNNING n) = true := by
  rw [State.startPass_eq, State.running_sarSync, State.sarSt_setSar_same hn]
  rfl

/-! ### The next pass (R126, R127) -/

/-- A converter with no trigger pending that does not run CONTINUOUS starts none. -/
theorem State.nextPass_of_idle (hp : (s.sarSt n).pend = none) (hsrc : s.get (R.SAR_TRIG_SRC n) ≠ 7) :
    s.nextPass n t0 = s.sarSync n := by
  unfold State.nextPass
  rw [hp]
  dsimp only
  rw [if_neg hsrc, ite_self]

/-- A pass starts, or none. -/
theorem State.nextPass_cases (s : State) (n t0 : Nat) :
    s.nextPass n t0 = s.sarSync n ∨ ∃ fire, s.nextPass n t0 = s.startPass n fire t0 := by
  unfold State.nextPass
  split
  · split
    · exact .inr ⟨_, rfl⟩
    · split
      · exact .inr ⟨_, rfl⟩
      · exact .inl rfl
  · exact .inl rfl

theorem State.regsBut_nextPass_pass (s : State) (n t0 : Nat) : s.regsBut (passFields n) (s.nextPass n t0) := by
  rcases s.nextPass_cases n t0 with h | ⟨fire, h⟩ <;> rw [h]
  · exact s.regsBut_sarSync n
  · exact s.regsBut_startPass_pass n fire t0

/-- A next pass leaves every calibration. -/
theorem State.cal_nextPass (s : State) (n t0 m : Nat) : ((s.nextPass n t0).sarSt m).cal = (s.sarSt m).cal := by
  rcases s.nextPass_cases n t0 with h | ⟨fire, h⟩ <;> rw [h]
  · rw [State.sarSt_sarSync]
  · exact State.sarSt_startPass_part _ (fun _ => rfl)

/-- It leaves the passes of the other converters, and its own where none starts. -/
theorem State.run_nextPass (h : m = n → (s.sarSt n).pend = none ∧ s.get (R.SAR_TRIG_SRC n) ≠ 7) :
    ((s.nextPass n t0).sarSt m).run = (s.sarSt m).run := by
  rcases eq_or_ne m n with rfl | hne
  · obtain ⟨hp, hsrc⟩ := h rfl
    rw [State.nextPass_of_idle hp hsrc, State.sarSt_sarSync]
  · rcases s.nextPass_cases n t0 with h | ⟨fire, h⟩ <;> rw [h]
    · rw [State.sarSt_sarSync]
    · rw [State.sarSt_startPass_other hne]

theorem State.roverQ_nextPass (s : State) (n t0 : Nat) : (s.nextPass n t0).roverQ = s.roverQ := by
  rcases s.nextPass_cases n t0 with h | ⟨fire, h⟩ <;> rw [h]
  · simp [State.sarSync]
  · simp [State.startPass_eq, State.sarSync, State.setSar]

/-! ### A calibration starts (R133) -/

/-- The registers of a converter that a calibration which starts touches. -/
abbrev calFields (n : Nat) : List Reg := [R.SAR_CAL_CFG_REQ n, R.SAR_CAL_CFG_WAITING n, R.SAR_CAL_CFG_BUSY n]

/-- What a calibration that starts shows. -/
def State.calShown (s : State) (n : Nat) : State :=
  ((s.setB (R.SAR_CAL_CFG_REQ n) false).setB (R.SAR_CAL_CFG_WAITING n) false).setB (R.SAR_CAL_CFG_BUSY n) true

/-- The sequence once its calibration runs from `now`. -/
def calBegun (now : Nat) (d : SarSt) : SarSt :=
  { d with calReq := none, forced := false, calEnd := some (now + 2048 * sarCycle) }

theorem State.calStart_eq (s : State) (n : Nat) : s.calStart n =
    { (s.calShown n).setSar n (calBegun s.now) with roverQ := s.roverQ.filter (fun k => decide (k ≠ n)) } := by
  unfold State.calStart State.calShown
  simp only [State.setSar, State.now_setB, State.roverQ_setB]
  rfl

theorem State.get_calStart (s : State) (n : Nat) (q : Reg) : (s.calStart n).get q = (s.calShown n).get q := by
  rw [State.calStart_eq]
  rfl

theorem State.regsBut_calStart (s : State) (n : Nat) : s.regsBut (calFields n) (s.calStart n) := by
  have hshown : s.regsBut (calFields n) (s.calShown n) := s.regsBut_of_regs.setB.setB.setB
  rw [State.calStart_eq]
  exact hshown.keep

theorem State.sarSt_calStart_eq (s : State) (n m : Nat) :
    (s.calStart n).sarSt m = (s.setSar n (calBegun s.now)).sarSt m := by
  rw [State.calStart_eq]
  exact State.sarSt_of_sar (by simp [State.calShown, State.setSar])

theorem State.sarSt_calStart_same (hn : n < s.sar.length) :
    (s.calStart n).sarSt n = calBegun s.now (s.sarSt n) := by
  rw [State.sarSt_calStart_eq, State.sarSt_setSar_same hn]

theorem State.sarSt_calStart_other (h : m ≠ n) : (s.calStart n).sarSt m = s.sarSt m := by
  rw [State.sarSt_calStart_eq, State.sarSt_setSar_other h]

theorem State.run_calStart (s : State) (n m : Nat) : ((s.calStart n).sarSt m).run = (s.sarSt m).run := by
  rw [State.sarSt_calStart_eq]
  exact State.sarSt_setSar_part SarSt.run (f := calBegun s.now) (fun _ => rfl) s n m

theorem State.roverQ_calStart (s : State) (n : Nat) :
    (s.calStart n).roverQ = s.roverQ.filter (fun k => decide (k ≠ n)) := by
  rw [State.calStart_eq]

theorem State.busy_calStart (s : State) (n : Nat) : (s.calStart n).flag (R.SAR_CAL_CFG_BUSY n) = true := by
  rw [State.flag_eq, State.get_calStart, ← State.flag_eq]
  exact State.flag_setB_same (by simp [R.SAR_CAL_CFG_BUSY]) (by simp [R.SAR_CAL_CFG_BUSY])

theorem State.waiting_calStart (s : State) (n : Nat) : (s.calStart n).flag (R.SAR_CAL_CFG_WAITING n) = false := by
  have hne : (R.SAR_CAL_CFG_WAITING n).key ≠ (R.SAR_CAL_CFG_BUSY n).key := by
    simp only [Reg.key, R.SAR_CAL_CFG_WAITING, R.SAR_CAL_CFG_BUSY]; omega
  rw [State.flag_eq, State.get_calStart, ← State.flag_eq, State.calShown, State.flag_setB_other hne]
  exact State.flag_setB_same (by simp [R.SAR_CAL_CFG_WAITING]) (by simp [R.SAR_CAL_CFG_WAITING])

/-! ### A calibration is tried (R134, R136) -/

/-- The conditions under which a calibration starts at a boundary. -/
abbrev State.mayCalibrate (s : State) (n : Nat) : Prop :=
  s.sarRuns ∧ (s.sarSt n).calReq.isSome ∧ (s.sarSt n).pass.isNone ∧ (s.sarSt n).calEnd.isNone
    ∧ ¬ s.flag (R.SAR_CAL_CFG_ROVER n) ∧ ¬ s.roverQ.contains n ∧ (n ≠ 4 ∨ ¬ s.roverBusy)
    ∧ (((s.sarSt n).pend.isNone ∧ s.gapQualifies n) ∨ (n = 4 ∧ (s.sarSt n).forced))

theorem State.calTry_eq (s : State) (n : Nat) : s.calTry n = if s.mayCalibrate n then s.calStart n else s := rfl

theorem State.calTry_cases (s : State) (n : Nat) : s.calTry n = s ∨ s.calTry n = s.calStart n := by
  rw [State.calTry_eq]
  split_ifs
  · exact .inr rfl
  · exact .inl rfl

theorem State.calTry_of_noRequest (h : (s.sarSt n).calReq = none) : s.calTry n = s := by
  rw [State.calTry_eq, if_neg]
  rintro ⟨-, hreq, -⟩
  simp [h] at hreq

theorem State.calTry_of_pass {p : SarPass} (h : (s.sarSt n).pass = some p) : s.calTry n = s := by
  rw [State.calTry_eq, if_neg]
  rintro ⟨-, -, hpass, -⟩
  simp [h] at hpass

theorem State.regsBut_calTry_cal (s : State) (n : Nat) : s.regsBut (calFields n) (s.calTry n) := by
  rcases s.calTry_cases n with h | h <;> rw [h]
  · exact s.regsBut_of_regs
  · exact s.regsBut_calStart n

theorem State.run_calTry (s : State) (n m : Nat) : ((s.calTry n).sarSt m).run = (s.sarSt m).run := by
  rcases s.calTry_cases n with h | h <;> rw [h]
  exact s.run_calStart n m

theorem State.sarSt_calTry_other (h : m ≠ n) : (s.calTry n).sarSt m = s.sarSt m := by
  rcases s.calTry_cases n with e | e <;> rw [e]
  exact State.sarSt_calStart_other h

theorem State.roverQ_calTry_of_empty (h : s.roverQ = []) : (s.calTry n).roverQ = [] := by
  rcases s.calTry_cases n with e | e <;> rw [e]
  · exact h
  · rw [State.roverQ_calStart, h]
    rfl

/-! ### The rover takes over, and returns (R135) -/

/-- The rover shows that it serves converter `n`. -/
def State.roverShown (s : State) (n : Nat) : State :=
  ((((s.setB (R.SAR_CAL_CFG_ROVER n) true).setB (R.SAR_CAL_CFG_SUBST 4) true).set
    (R.SAR_CAL_CFG_SERVING 4) n).irq (pgSar n) 5).irq (pgSar 4) 5

@[simp] theorem State.sar_roverShown (s : State) (n : Nat) : (s.roverShown n).sar = s.sar := by
  simp [State.roverShown]

@[simp] theorem State.roverQ_roverShown (s : State) (n : Nat) : (s.roverShown n).roverQ = s.roverQ := by
  simp [State.roverShown]

@[simp] theorem State.now_roverShown (s : State) (n : Nat) : (s.roverShown n).now = s.now := by
  simp [State.roverShown]

/-- The rover shows that it serves no converter any more. -/
def State.roverFreed (s : State) (n : Nat) : State :=
  ((((s.setB (R.SAR_CAL_CFG_ROVER n) false).setB (R.SAR_CAL_CFG_SUBST 4) false).set
    (R.SAR_CAL_CFG_SERVING 4) 0).irq (pgSar n) 5).irq (pgSar 4) 5

@[simp] theorem State.sar_roverFreed (s : State) (n : Nat) : (s.roverFreed n).sar = s.sar := by
  simp [State.roverFreed]

@[simp] theorem State.roverQ_roverFreed (s : State) (n : Nat) : (s.roverFreed n).roverQ = s.roverQ := by
  simp [State.roverFreed]

/-- The registers that the rover's moves at converter `n` touch. -/
abbrev roverFields (n : Nat) : List Reg :=
  [R.SAR_CAL_CFG_ROVER n, R.SAR_CAL_CFG_SUBST 4, R.SAR_CAL_CFG_SERVING 4, H.IRQ_RAW (pgSar n), H.IRQ_RAW (pgSar 4)]

theorem State.regsBut_roverFreed (s : State) (n : Nat) : s.regsBut (roverFields n) (s.roverFreed n) :=
  s.regsBut_of_regs.setB.setB.set.irq.irq

theorem State.roverTake_of_empty (h : s.roverQ = []) : s.roverTake = s := by
  unfold State.roverTake
  rw [h]

theorem State.roverTake_of_busy (h : s.roverBusy = true) : s.roverTake = s := by
  unfold State.roverTake
  split
  · rfl
  · exact if_neg (by simp [h])

/-- The rover takes over the converter that waits first, or does nothing. -/
theorem State.roverTake_cases (s : State) :
    s.roverTake = s ∨ ∃ k, s.roverTake = (s.roverShown k).calStart k := by
  unfold State.roverTake
  split
  · exact .inl rfl
  · dsimp only
    split_ifs
    · exact .inr ⟨_, rfl⟩
    · exact .inl rfl

theorem State.run_roverTake (s : State) (m : Nat) : (s.roverTake.sarSt m).run = (s.sarSt m).run := by
  rcases s.roverTake_cases with h | ⟨k, h⟩ <;> rw [h]
  rw [State.run_calStart, State.sarSt_of_sar (State.sar_roverShown s k)]

/-- The sequence returns to its converter, or nothing happens. -/
theorem State.roverReturn_cases (s : State) (n : Nat) : s.roverReturn n = s ∨ s.roverReturn n =
    ((((s.roverFreed n).calTry 4).roverTake).nextPass 4 ((s.roverFreed n).calTry 4).now) := by
  unfold State.roverReturn
  split_ifs
  · exact .inr rfl
  · exact .inl rfl

end Sys2Proof.Machine
end

section
/-! Calibrations asked for, ended, and taken over by the rover (O49): requests merge and wait for a gap; after
100 ms the rover takes the converter's place (R133 to R136). -/

-- One proof after another: many at once take a thread each (see Laws/KeepsChannel).
set_option Elab.async false

namespace Sys2Proof.Machine

variable {s t : State} {q : Reg} {n m k p b i c dt t0 : Nat}

/-! ### A request (R133) -/

/-- The request is outstanding and shown. -/
def State.calAsked (s : State) (n : Nat) : State :=
  (s.setB (R.SAR_CAL_CFG_WAITING n) true).setSar n (fun d => { d with calReq := some s.now })

theorem State.sarSt_calAsked (hn : n < s.sar.length) :
    (s.calAsked n).sarSt n = { s.sarSt n with calReq := some s.now } := by
  unfold State.calAsked
  rw [State.sarSt_setSar_same (by rwa [State.sar_setB]), State.sarSt_of_sar (s := s)]

theorem State.waiting_calAsked (s : State) (n : Nat) :
    (s.calAsked n).flag (R.SAR_CAL_CFG_WAITING n) = true :=
  State.flag_setB_same (by simp [R.SAR_CAL_CFG_WAITING]) (by simp [R.SAR_CAL_CFG_WAITING])

theorem State.get_calAsked (h : q.key ≠ (R.SAR_CAL_CFG_WAITING n).key) :
    (s.calAsked n).get q = s.get q := State.get_setB_other h

theorem State.calRequest_of_none (h : (s.sarSt n).calReq = none) :
    s.calRequest n = (s.calAsked n).calTry n := by
  unfold State.calRequest
  rw [if_neg (by simp [h])]
  rfl

/-- Asked in a pass, the calibration waits. -/
theorem State.calRequest_of_pass {p : SarPass} (hr : (s.sarSt n).calReq = none)
    (hp : (s.sarSt n).pass = some p) : s.calRequest n = s.calAsked n := by
  have hn : n < s.sar.length := State.sar_lt (fun e => by simp [e] at hp)
  rw [State.calRequest_of_none hr, State.calTry_of_pass (p := p) (by rw [State.sarSt_calAsked hn, hp])]

/-- Asked of an idle converter without a trigger source, it starts (R134). -/
theorem State.calRequest_of_idle (hn : n < s.sar.length) (h4 : n ≠ 4) (hruns : s.sarRuns = true)
    (hpass : (s.sarSt n).pass = none) (hreq : (s.sarSt n).calReq = none) (hend : (s.sarSt n).calEnd = none)
    (hpend : (s.sarSt n).pend = none) (hq : s.roverQ.contains n = false)
    (hrover : s.flag (R.SAR_CAL_CFG_ROVER n) = false) (hsrc : s.get (R.SAR_TRIG_SRC n) = 0) :
    s.calRequest n = (s.calAsked n).calStart n := by
  have hst := State.sarSt_calAsked (s := s) hn
  have hruns' : (s.calAsked n).sarRuns = true := by simpa [State.sarRuns, State.calAsked, State.setSar] using hruns
  have hq' : n ∉ (s.calAsked n).roverQ := by simpa [State.calAsked, State.setSar] using hq
  have hrover' : (s.calAsked n).flag (R.SAR_CAL_CFG_ROVER n) = false := by
    rw [State.flag_eq, State.get_calAsked, ← State.flag_eq, hrover]
    simp only [Reg.key, R.SAR_CAL_CFG_ROVER, R.SAR_CAL_CFG_WAITING]; omega
  have hgap : (s.calAsked n).gapQualifies n = true := by
    refine if_pos ((State.get_calAsked ?_).trans hsrc)
    simp only [Reg.key, R.SAR_TRIG_SRC, R.SAR_CAL_CFG_WAITING]; omega
  rw [State.calRequest_of_none hreq, State.calTry_eq, if_pos]
  simp [State.mayCalibrate, hst, hruns', hq', hrover', hgap, hpass, hend, hpend, h4]

/-! ### An interrupt bit once latched (R96) -/

/-- The interrupt bit `i` of page `p` is latched. -/
abbrev State.latched (s : State) (p i : Nat) : Prop := (s.get (H.IRQ_RAW p)).testBit i = true

/-- No event of any page takes a latched bit back. -/
theorem State.latched_irq {r : Nat} (hi : i < 32) (h : s.latched p i) : (s.irq r b).latched p i := by
  rcases eq_or_ne r p with rfl | hne
  · exact State.testBit_irq_of hi h
  · have hkey : (H.IRQ_RAW p).key ≠ (H.IRQ_RAW r).key := by simp only [Reg.key, H.IRQ_RAW]; omega
    rwa [State.latched, State.get_irq_other hkey]

theorem State.latched_irq_same (s : State) (hi : i < 32) : (s.irq p i).latched p i := by
  rw [State.latched, State.testBit_irq hi, decide_eq_true rfl, Bool.true_or]

theorem State.latched.of_regsBut {l : List Reg} (h : s.latched p i) (ht : s.regsBut l t)
    (hp : (H.IRQ_RAW p).key ∉ l.map Reg.key) : t.latched p i := by
  rwa [State.latched, ht _ hp]

/-! ### What the end of a calibration shows stays (R133, R135) -/

/-- Converter `n` has no calibration, running or asked for, its count stands at `c`, its event is latched, and no
converter waits for the rover. -/
structure State.calOver (s : State) (n c : Nat) : Prop where
  queue : s.roverQ = []
  req : (s.sarSt n).calReq = none
  ended : (s.sarSt n).calEnd = none
  busy : s.flag (R.SAR_CAL_CFG_BUSY n) = false
  count : s.get (R.SAR_CAL_COUNT_CALS n) = c
  event : s.latched (pgSar n) 4

/-- What touches neither the calibration nor its registers keeps it so. -/
theorem State.calOver.step {l : List Reg} (h : s.calOver n c) (hq : t.roverQ = [])
    (hc : (t.sarSt n).cal = (s.sarSt n).cal) (ht : s.regsBut l t)
    (hb : (R.SAR_CAL_CFG_BUSY n).key ∉ l.map Reg.key) (hk : (R.SAR_CAL_COUNT_CALS n).key ∉ l.map Reg.key)
    (he : t.latched (pgSar n) 4) : t.calOver n c := by
  simp only [SarSt.cal, Prod.mk.injEq] at hc
  obtain ⟨hreq, hend, -⟩ := hc
  exact ⟨hq, hreq.trans h.req, hend.trans h.ended, (ht.flag hb).trans h.busy, (ht _ hk).trans h.count, he⟩

theorem State.calOver.nextPass (h : s.calOver n c) (k t0 : Nat) : (s.nextPass k t0).calOver n c := by
  have hnot : ∀ r ∈ [R.SAR_CAL_CFG_BUSY n, R.SAR_CAL_COUNT_CALS n, H.IRQ_RAW (pgSar n)],
      r.key ∉ (passFields k).map Reg.key := by
    simp only [List.mem_cons, List.not_mem_nil, or_false, forall_eq_or_imp, forall_eq, List.map_cons,
      List.map_nil, Reg.key, pgSar,
      R.SAR_CAL_CFG_BUSY, R.SAR_CAL_COUNT_CALS, H.IRQ_RAW, R.SAR_STATUS_RUNNING, R.SAR_STATUS_PENDING]
    omega
  have hregs := s.regsBut_nextPass_pass k t0
  exact h.step ((s.roverQ_nextPass k t0).trans h.queue) (s.cal_nextPass k t0 n) hregs (hnot _ (by simp))
    (hnot _ (by simp)) (h.event.of_regsBut hregs (hnot _ (by simp)))

theorem State.calOver.calTry (h : s.calOver n c) (k : Nat) : (s.calTry k).calOver n c := by
  rcases eq_or_ne n k with rfl | hne
  · rwa [State.calTry_of_noRequest h.req]
  · have hnot : ∀ r ∈ [R.SAR_CAL_CFG_BUSY n, R.SAR_CAL_COUNT_CALS n, H.IRQ_RAW (pgSar n)],
        r.key ∉ (calFields k).map Reg.key := by
      simp only [List.mem_cons, List.not_mem_nil, or_false, forall_eq_or_imp, forall_eq, List.map_cons,
      List.map_nil, Reg.key, pgSar,
        R.SAR_CAL_CFG_BUSY, R.SAR_CAL_COUNT_CALS, H.IRQ_RAW, R.SAR_CAL_CFG_REQ, R.SAR_CAL_CFG_WAITING]
      omega
    have hregs := s.regsBut_calTry_cal k
    exact h.step (State.roverQ_calTry_of_empty h.queue) (congrArg SarSt.cal (State.sarSt_calTry_other hne)) hregs
      (hnot _ (by simp)) (hnot _ (by simp)) (h.event.of_regsBut hregs (hnot _ (by simp)))

theorem State.calOver.roverTake (h : s.calOver n c) : s.roverTake.calOver n c := by
  rwa [State.roverTake_of_empty h.queue]

theorem State.calOver.roverFreed (h : s.calOver n c) (k : Nat) : (s.roverFreed k).calOver n c := by
  have hnot : ∀ r ∈ [R.SAR_CAL_CFG_BUSY n, R.SAR_CAL_COUNT_CALS n], r.key ∉ (roverFields k).map Reg.key := by
    simp only [List.mem_cons, List.not_mem_nil, or_false, forall_eq_or_imp, forall_eq, List.map_cons,
      List.map_nil, Reg.key, pgSar,
      R.SAR_CAL_CFG_BUSY, R.SAR_CAL_COUNT_CALS, H.IRQ_RAW, R.SAR_CAL_CFG_ROVER, R.SAR_CAL_CFG_SUBST,
      R.SAR_CAL_CFG_SERVING]
    omega
  have hflags : s.regsBut [R.SAR_CAL_CFG_ROVER k, R.SAR_CAL_CFG_SUBST 4, R.SAR_CAL_CFG_SERVING 4]
      (((s.setB (R.SAR_CAL_CFG_ROVER k) false).setB (R.SAR_CAL_CFG_SUBST 4) false).set (R.SAR_CAL_CFG_SERVING 4) 0) :=
    s.regsBut_of_regs.setB.setB.set
  have hraw := h.event.of_regsBut hflags (by
    simp only [List.map_cons, List.map_nil, List.mem_cons, List.not_mem_nil, or_false, Reg.key, pgSar, H.IRQ_RAW,
      R.SAR_CAL_CFG_ROVER, R.SAR_CAL_CFG_SUBST, R.SAR_CAL_CFG_SERVING]
    omega)
  exact h.step ((State.roverQ_roverFreed s k).trans h.queue)
    (congrArg SarSt.cal (State.sarSt_of_sar (State.sar_roverFreed s k))) (s.regsBut_roverFreed k)
    (hnot _ (by simp)) (hnot _ (by simp)) (State.latched_irq (by decide) (State.latched_irq (by decide) hraw))

theorem State.calOver.roverReturn (h : s.calOver n c) (k : Nat) : (s.roverReturn k).calOver n c := by
  rcases s.roverReturn_cases k with e | e <;> rw [e]
  · exact h
  · exact (((h.roverFreed k).calTry 4).roverTake).nextPass 4 _

/-- A trigger held for the calibration that ends is counted and shown (R134). -/
def State.calHeld (s : State) (n : Nat) : State :=
  if (s.sarSt n).pend.isSome && s.sarFree n then (s.inc (R.SAR_CAL_COUNT_LATE n)).irq (pgSar n) 7 else s

theorem State.calOver.calHeld (h : s.calOver n c) : (s.calHeld n).calOver n c := by
  unfold State.calHeld
  split
  · have hinc : s.regsBut [R.SAR_CAL_COUNT_LATE n] (s.inc (R.SAR_CAL_COUNT_LATE n)) := s.regsBut_of_regs.inc
    have hall : s.regsBut [R.SAR_CAL_COUNT_LATE n, H.IRQ_RAW (pgSar n)]
        ((s.inc (R.SAR_CAL_COUNT_LATE n)).irq (pgSar n) 7) := s.regsBut_of_regs.inc.irq
    refine h.step (by simpa using h.queue) (congrArg SarSt.cal (State.sarSt_of_sar (s := s))) hall ?_ ?_
      (State.latched_irq (by decide) (h.event.of_regsBut hinc ?_)) <;>
    · simp only [List.map_cons, List.map_nil, List.mem_cons, List.not_mem_nil, or_false, Reg.key, pgSar, H.IRQ_RAW,
        R.SAR_CAL_CFG_BUSY, R.SAR_CAL_COUNT_CALS, R.SAR_CAL_COUNT_LATE]
      omega
  · exact h

/-- The calibration's end is shown, counted and told. -/
def State.calEnded (s : State) (n : Nat) : State :=
  (((s.setB (R.SAR_CAL_CFG_BUSY n) false).inc (R.SAR_CAL_COUNT_CALS n)).irq (pgSar n) 4).setSar n
    (fun d => { d with calEnd := none })

theorem State.calDone_eq (s : State) (n : Nat) : s.calDone n =
    ((((((s.calEnded n).roverReturn n).calTry n).roverTake).calHeld n).nextPass n
      (((((s.calEnded n).roverReturn n).calTry n).roverTake).calHeld n).now) := rfl

theorem State.calOver_calEnded (hn : n < s.sar.length) (hq : s.roverQ = []) (hr : (s.sarSt n).calReq = none) :
    (s.calEnded n).calOver n (counted (R.SAR_CAL_COUNT_CALS n) (s.get (R.SAR_CAL_COUNT_CALS n))) := by
  have hst : (s.calEnded n).sarSt n = { s.sarSt n with calEnd := none } := by
    unfold State.calEnded
    rw [State.sarSt_setSar_same (by simpa using hn), State.sarSt_of_sar (s := s)]
  have hbusy : (R.SAR_CAL_CFG_BUSY n).key ≠ (R.SAR_CAL_COUNT_CALS n).key := by
    simp only [Reg.key, R.SAR_CAL_CFG_BUSY, R.SAR_CAL_COUNT_CALS]; omega
  have hraw : ∀ r ∈ [R.SAR_CAL_CFG_BUSY n, R.SAR_CAL_COUNT_CALS n], r.key ≠ (H.IRQ_RAW (pgSar n)).key := by
    simp only [List.mem_cons, List.not_mem_nil, or_false, forall_eq_or_imp, forall_eq, Reg.key, R.SAR_CAL_CFG_BUSY,
      R.SAR_CAL_COUNT_CALS, H.IRQ_RAW, pgSar]
    omega
  refine ⟨by simpa [State.calEnded, State.setSar] using hq, by rw [hst, hr], by rw [hst], ?_, ?_,
    State.latched_irq_same _ (by decide)⟩
  · unfold State.calEnded
    rw [State.flag_eq, State.get_setSar, State.get_irq_other (hraw _ (by simp)), State.get_inc_other hbusy,
      ← State.flag_eq]
    exact State.flag_setB_same (by simp [R.SAR_CAL_CFG_BUSY]) (by simp [R.SAR_CAL_CFG_BUSY])
  · unfold State.calEnded
    rw [State.get_setSar, State.get_irq_other (hraw _ (by simp)),
      State.get_inc_same (by simp [R.SAR_CAL_COUNT_CALS]), State.get_setB_other hbusy.symm]

/-- With no converter waiting for the rover and none of its own asked for, the end of a calibration is its end. -/
theorem State.calOver_calDone (hn : n < s.sar.length) (hq : s.roverQ = []) (hr : (s.sarSt n).calReq = none) :
    (s.calDone n).calOver n (counted (R.SAR_CAL_COUNT_CALS n) (s.get (R.SAR_CAL_COUNT_CALS n))) := by
  rw [State.calDone_eq]
  exact ((((State.calOver_calEnded hn hq hr).roverReturn n).calTry n).roverTake.calHeld).nextPass n _

/-! ### The rover's queue (R135) -/

/-- The converters that have waited 100 ms stand behind those that waited before them. -/
theorem State.roverQ_roverQueue (s : State) : s.roverQ <+: s.roverQueue.roverQ := List.prefix_append _ _

/-- A converter whose request has waited 100 ms is in the queue. -/
theorem State.mem_roverQueue (hn : n < 4) (hreq : (s.sarSt n).calReq = some t0) (hdue : t0 + ms 100 ≤ s.now) :
    n ∈ s.roverQueue.roverQ := by
  by_cases hin : n ∈ s.roverQ
  · exact (s.roverQ_roverQueue).subset hin
  · refine List.mem_append_right _ (List.mem_mergeSort.2 (List.mem_filter.2 ⟨?_, ?_⟩))
    · simp only [List.mem_cons, List.not_mem_nil, or_false]
      omega
    · have hage : ms 100 ≤ s.now - t0 := by omega
      simp [hin, hreq, hage]

/-- Converters 0 to 3 go on with their passes. -/
def State.nextPasses (s : State) : State := [0, 1, 2, 3].foldl (fun t k => t.nextPass k t.now) s

theorem State.roverQ_nextPasses (s : State) : s.nextPasses.roverQ = s.roverQ :=
  List.foldlRecOn (motive := fun (u : State) => u.roverQ = s.roverQ) _ _ rfl
    (fun u hu k _ => (u.roverQ_nextPass k u.now).trans hu)

theorem State.cal_nextPasses (s : State) (m : Nat) : (s.nextPasses.sarSt m).cal = (s.sarSt m).cal :=
  List.foldlRecOn (motive := fun (u : State) => (u.sarSt m).cal = (s.sarSt m).cal) _ _ rfl
    (fun u hu k _ => (u.cal_nextPass k u.now m).trans hu)

theorem State.get_nextPasses (hq : ∀ k, q.key ∉ (passFields k).map Reg.key) (s : State) :
    s.nextPasses.get q = s.get q :=
  List.foldlRecOn (motive := fun (u : State) => u.get q = s.get q) _ _ rfl
    (fun u hu k _ => (u.regsBut_nextPass_pass k u.now q (hq k)).trans hu)

/-- The rover free, and it and the first converter of the queue at a boundary: it takes its place. -/
theorem State.roverTake_of_free {rest : List Nat} (hq : s.roverQ = n :: rest) (hruns : s.sarRuns = true)
    (hb : s.roverBusy = false) (hp4 : (s.sarSt 4).pass = none) (hc4 : (s.sarSt 4).calEnd = none)
    (hp : (s.sarSt n).pass = none) (hc : (s.sarSt n).calEnd = none) :
    s.roverTake = (s.roverShown n).calStart n := by
  unfold State.roverTake
  rw [hq]
  dsimp only
  rw [if_pos (by simp [hruns, hb, hp4, hc4, hp, hc])]
  rfl

/-- The registers that show whom the rover serves are not those of passes and calibrations. -/
theorem roverShown_notMem (n k : Nat) : ∀ r ∈ [R.SAR_CAL_CFG_ROVER n, R.SAR_CAL_CFG_SUBST 4, R.SAR_CAL_CFG_SERVING 4],
    r.key ∉ (passFields k).map Reg.key ∧ r.key ∉ (calFields k).map Reg.key
      ∧ r.key ∉ [H.IRQ_RAW (pgSar n), H.IRQ_RAW (pgSar 4)].map Reg.key := by
  simp only [List.mem_cons, List.not_mem_nil, or_false, forall_eq_or_imp, forall_eq, List.map_cons,
      List.map_nil, Reg.key, pgSar,
    H.IRQ_RAW, R.SAR_CAL_CFG_BUSY, R.SAR_CAL_CFG_REQ, R.SAR_CAL_CFG_WAITING, R.SAR_STATUS_RUNNING,
    R.SAR_STATUS_PENDING, R.SAR_CAL_CFG_ROVER, R.SAR_CAL_CFG_SUBST, R.SAR_CAL_CFG_SERVING]
  omega

/-- What the rover shows once it serves converter `n`. -/
theorem State.shown_roverShown (s : State) (hn : n < 4) :
    (s.roverShown n).flag (R.SAR_CAL_CFG_ROVER n) = true ∧ (s.roverShown n).flag (R.SAR_CAL_CFG_SUBST 4) = true
    ∧ (s.roverShown n).get (R.SAR_CAL_CFG_SERVING 4) = n := by
  have hirq : (((s.setB (R.SAR_CAL_CFG_ROVER n) true).setB (R.SAR_CAL_CFG_SUBST 4) true).set
      (R.SAR_CAL_CFG_SERVING 4) n).regsBut [H.IRQ_RAW (pgSar n), H.IRQ_RAW (pgSar 4)] (s.roverShown n) :=
    (State.regsBut_of_regs _).irq.irq
  have hnot := fun r hr => (roverShown_notMem n 0 r hr).2.2
  have hrover : (R.SAR_CAL_CFG_ROVER n).key ≠ (R.SAR_CAL_CFG_SUBST 4).key
      ∧ (R.SAR_CAL_CFG_ROVER n).key ≠ (R.SAR_CAL_CFG_SERVING 4).key := by
    simp only [Reg.key, R.SAR_CAL_CFG_ROVER, R.SAR_CAL_CFG_SUBST, R.SAR_CAL_CFG_SERVING]; omega
  obtain ⟨hsubst, hserving⟩ := hrover
  refine ⟨(hirq.flag (hnot _ (by simp))).trans ?_, (hirq.flag (hnot _ (by simp))).trans ?_,
    (hirq _ (hnot _ (by simp))).trans (State.get_set_fits hn)⟩
  · rw [State.flag_eq, State.get_set_other _ _ hserving, ← State.flag_eq, State.flag_setB_other hsubst]
    exact State.flag_setB_same (by simp [R.SAR_CAL_CFG_ROVER]) (by simp [R.SAR_CAL_CFG_ROVER])
  · rw [State.flag_eq, State.get_set_other _ _ (by decide), ← State.flag_eq]
    exact State.flag_setB_same (by decide) (by decide)

/-! ### The commands -/

theorem exec_calRequest {n : Fin 5} (ho : s.hostOpen (pgSar n.val) = true) :
    exec (.calRequest dt n) s = .next ((s.elapse dt).calWrite n.val) :=
  congrArg Host.Outcome.next (State.hostAct_elapse ho)

theorem exec_calPeriodic {n : Fin 5} (hr : s.sarRuns = true) (hper : s.get (R.SAR_CAL_CFG_PERIOD_S n.val) ≠ 0)
    (hdue : (s.sarSt n.val).periodAt + secs (s.get (R.SAR_CAL_CFG_PERIOD_S n.val)) ≤ s.now + dt) :
    exec (.calPeriodic dt n) s = .next
      (((s.elapse dt).setSar n.val (fun d => { d with periodAt := s.now + dt })).calRequest n.val) :=
  congrArg Host.Outcome.next (if_pos ⟨hr, hper, hdue⟩)

theorem exec_calDone {n : Fin 5} (hr : s.sarRuns = true) (hend : (s.sarSt n.val).calEnd = some t0)
    (hdue : t0 ≤ s.now + dt) : exec (.calDone dt n) s = .next ((s.elapse dt).calDone n.val) := by
  have hend' : ((s.elapse dt).sarSt n.val).calEnd = some t0 := hend
  change execCalDone dt n s = _
  unfold execCalDone
  dsimp only
  rw [hend']
  exact congrArg Host.Outcome.next (if_pos ⟨hr, hdue⟩)

/-- Converter 0 to 3 after 100 ms: it joins the queue, the rover takes the first one, the passes go on. -/
theorem exec_roverTimeout_converter {n : Fin 5} (hr : s.sarRuns = true) (hreq : (s.sarSt n.val).calReq = some t0)
    (hdue : t0 + ms 100 ≤ s.now + dt) (hn : n.val ≠ 4) :
    exec (.roverTimeout dt n) s = .next (s.elapse dt).roverQueue.roverTake.nextPasses := by
  have hreq' : ((s.elapse dt).sarSt n.val).calReq = some t0 := hreq
  change execRoverTimeout dt n s = _
  unfold execRoverTimeout
  dsimp only
  rw [hreq']
  exact (if_pos ⟨hr, hdue⟩).trans (if_neg hn)

/-- The rover's own request after 100 ms. -/
theorem exec_roverTimeout_rover {n : Fin 5} (hr : s.sarRuns = true) (hreq : (s.sarSt n.val).calReq = some t0)
    (hdue : t0 + ms 100 ≤ s.now + dt) (hn : n.val = 4) :
    exec (.roverTimeout dt n) s = .next
      (((s.elapse dt).setSar 4 (fun d => { d with forced := true })).calTry 4) := by
  have hreq' : ((s.elapse dt).sarSt n.val).calReq = some t0 := hreq
  change execRoverTimeout dt n s = _
  unfold execRoverTimeout
  dsimp only
  rw [hreq']
  exact (if_pos ⟨hr, hdue⟩).trans (if_pos hn)

end Sys2Proof.Machine

open Sys2Proof.Machine

/-- Settles O49: a request is `calAsked` and then waits or starts (`calRequest_of_pass`, `calRequest_of_idle`); what
the end of a calibration shows survives what the boundary starts (`calOver_calDone`); passes that go on leave every
calibration and the rover's queue. -/
theorem sarCalibrationCommands : Obligations.SarCalibrationCommands := by
  unfold Obligations.SarCalibrationCommands
  have hlt {s : State} {n : Nat} {g : SarSt → Option Nat} {v : Nat} (hg : g {} = none)
      (h : g (s.sarSt n) = some v) : n < s.sar.length := State.sar_lt (fun e => by rw [e, hg] at h; cases h)
  refine ⟨?waits, ?starts, ?period, ?ends, ?queued, ?taken, ?forced⟩
  case waits =>
    intro s dt n p ho hpass hreq
    have hn : n.val < s.sar.length := State.sar_lt (fun e => by simp [e] at hpass)
    have hsar : ((s.elapse dt).setB (R.SAR_CAL_CFG_REQ n.val) true).sarSt n.val = s.sarSt n.val :=
      State.sarSt_of_sar
    have hcal := State.calRequest_of_pass (s := (s.elapse dt).setB (R.SAR_CAL_CFG_REQ n.val) true)
      (by rw [hsar, hreq]) (by rw [hsar, hpass])
    refine ⟨_, (exec_calRequest ho).trans (congrArg Host.Outcome.next hcal), ?_, State.waiting_calAsked _ _, ?_⟩ <;>
      rw [State.sarSt_calAsked (by simpa using hn), hsar]
    · simp
    · exact hpass
  case starts =>
    intro s dt n ho hr hs h4 hpass hreq hend hpend hq hrover hsrc
    obtain ⟨-, hlen, -⟩ := hs
    have hn : n.val < s.sar.length := by omega
    have hsar : ((s.elapse dt).setB (R.SAR_CAL_CFG_REQ n.val) true).sarSt n.val = s.sarSt n.val :=
      State.sarSt_of_sar
    have hkeep : (s.elapse dt).regsBut [R.SAR_CAL_CFG_REQ n.val]
        ((s.elapse dt).setB (R.SAR_CAL_CFG_REQ n.val) true) := (State.regsBut_of_regs _).setB
    have hcal := State.calRequest_of_idle (s := (s.elapse dt).setB (R.SAR_CAL_CFG_REQ n.val) true)
      (by simpa using hn) h4 (by simpa [State.sarRuns] using hr) (by rw [hsar, hpass]) (by rw [hsar, hreq])
      (by rw [hsar, hend]) (by rw [hsar, hpend]) (by simpa using hq)
      ((hkeep.flag (by simp [Reg.key, R.SAR_CAL_CFG_ROVER, R.SAR_CAL_CFG_REQ])).trans hrover)
      ((hkeep _ (by simp [Reg.key, R.SAR_TRIG_SRC, R.SAR_CAL_CFG_REQ]; omega)).trans hsrc)
    have hn' : n.val < (((s.elapse dt).setB (R.SAR_CAL_CFG_REQ n.val) true).calAsked n.val).sar.length := by
      simpa [State.calAsked, State.setSar] using hn
    refine ⟨_, (exec_calRequest ho).trans (congrArg Host.Outcome.next hcal), ?_, ?_, State.busy_calStart _ _,
      State.waiting_calStart _ _⟩ <;> rw [State.sarSt_calStart_same hn']
    · simp [calBegun, State.calAsked]
    · rfl
  case period =>
    intro s dt n p hr hper hdue hreq hpass
    have hn : n.val < s.sar.length := State.sar_lt (fun e => by simp [e] at hpass)
    have hsar : ((s.elapse dt).setSar n.val (fun d => { d with periodAt := s.now + dt })).sarSt n.val
        = { s.sarSt n.val with periodAt := s.now + dt } := State.sarSt_setSar_same (s := s.elapse dt) hn
    have hcal := State.calRequest_of_pass
      (s := (s.elapse dt).setSar n.val (fun d => { d with periodAt := s.now + dt }))
      (by rw [hsar, hreq]) (by rw [hsar, hpass])
    refine ⟨_, (exec_calPeriodic hr hper hdue).trans (congrArg Host.Outcome.next hcal), ?_, ?_,
      State.waiting_calAsked _ _⟩ <;>
      rw [State.sarSt_calAsked (by rw [State.length_sar_setSar]; exact hn), hsar]
    rfl
  case ends =>
    intro s dt t0 n hr hend hdue hq hreq
    obtain ⟨-, -, hover, hbusy, hcount, hevent⟩ :=
      State.calOver_calDone (s := s.elapse dt) (hlt (g := SarSt.calEnd) rfl hend) hq hreq
    exact ⟨_, exec_calDone hr hend hdue, hover, hbusy, hcount, hevent⟩
  case queued =>
    intro s dt t0 n hr hreq hdue h4 _ hb
    refine ⟨_, exec_roverTimeout_converter hr hreq hdue h4, ?_⟩
    rw [State.roverTake_of_busy (s := (s.elapse dt).roverQueue) hb, State.roverQ_nextPasses]
    refine ⟨?_, ?_, ?_⟩
    · exact List.contains_iff_mem.2 (State.mem_roverQueue (s := s.elapse dt) (by omega) hreq hdue)
    · exact (List.prefix_iff_eq_take.1 (State.roverQ_roverQueue (s.elapse dt))).symm
    · have hcal := State.cal_nextPasses (s.elapse dt).roverQueue n.val
      simp only [SarSt.cal, Prod.mk.injEq] at hcal
      exact hcal.1.trans hreq
  case taken =>
    intro s dt t0 n hr hreq hdue h4 hq hb hp4 hc4 hp hc
    have hn : n.val < s.sar.length := hlt (g := SarSt.calReq) rfl hreq
    have hn4 : n.val < 4 := by omega
    have htake := State.roverTake_of_free (s := (s.elapse dt).roverQueue) hq hr hb hp4 hc4 hp hc
    have hexec := exec_roverTimeout_converter hr hreq hdue h4
    rw [htake] at hexec
    have hnot := fun k r hr => roverShown_notMem n.val k r hr
    obtain ⟨hrover, hsubst, hserving⟩ := State.shown_roverShown (s.elapse dt).roverQueue hn4
    have hget : ∀ r ∈ [R.SAR_CAL_CFG_ROVER n.val, R.SAR_CAL_CFG_SUBST 4, R.SAR_CAL_CFG_SERVING 4],
        (((s.elapse dt).roverQueue.roverShown n.val).calStart n.val).nextPasses.get r
          = ((s.elapse dt).roverQueue.roverShown n.val).get r := fun r hr => by
      rw [State.get_nextPasses (fun k => (hnot k r hr).1), State.regsBut_calStart _ _ r (hnot n.val r hr).2.1]
    refine ⟨_, hexec, ?_, ?_, ?_, (hget _ (by simp)).trans hserving, ?_⟩
    · rw [State.roverQ_nextPasses, State.roverQ_calStart, State.roverQ_roverShown, hq]
      simp
    · rw [State.flag_eq, hget _ (by simp), ← State.flag_eq, hrover]
    · rw [State.roverBusy, State.flag_eq, hget _ (by simp), ← State.flag_eq, hsubst]
    · have hcal := State.cal_nextPasses (((s.elapse dt).roverQueue.roverShown n.val).calStart n.val) n.val
      rw [State.sarSt_calStart_same (by rw [State.sar_roverShown]; exact hn)] at hcal
      simp only [SarSt.cal, Prod.mk.injEq] at hcal
      refine hcal.2.1.trans ?_
      simp only [calBegun, State.now_roverShown]
      rfl
  case forced =>
    intro s dt t0 n p hr hreq hdue h4 hpass
    have hn : 4 < s.sar.length := State.sar_lt (fun e => by simp [e] at hpass)
    have hsar : ((s.elapse dt).setSar 4 (fun d => { d with forced := true })).sarSt 4
        = { s.sarSt 4 with forced := true } := State.sarSt_setSar_same (s := s.elapse dt) hn
    have htry : ((s.elapse dt).setSar 4 (fun d => { d with forced := true })).calTry 4 = _ :=
      State.calTry_of_pass (p := p) (by rw [hsar, hpass])
    refine ⟨_, (exec_roverTimeout_rover hr hreq hdue h4).trans (congrArg Host.Outcome.next htry), ?_⟩
    rw [hsar]
    exact ⟨rfl, by rw [← h4, hreq]⟩

end

section
/-! A converter's triggers and conversions (O48): what a firing does by the policy, what a conversion that ends
delivers, and what closes a pass (R122, R126 to R128, R130 to R132). -/

-- One proof after another: many at once take a thread each (see Laws/KeepsChannel).
set_option Elab.async false

namespace Sys2Proof.Machine

variable {s t : State} {l : List Reg} {q : Reg} {n m k i g code f dt t0 : Nat} {p : SarPass} {clip : Bool}
  {rest : List Nat}

/-- An operation whose parts have no converters among them leaves them alone. -/
theorem State.sar_of_sameBut {k : List Part} (h : s.sameBut k t) (hs : .sar ∉ k := by decide)
    (hd : .drop ∉ k := by decide) : t.sar = s.sar := by
  obtain ⟨-, hd' | hall⟩ := h
  · exact absurd hd' hd
  · simp only [hs, false_or] at hall
    simp only [hall]

/-! ### A trigger fires (R114, R127) -/

/-- The target that has come leaves the unit. -/
def State.trigTaken (s : State) (n : Nat) (rest : List Nat) : State := s.setSar n (fun d => { d with trig := rest })

theorem State.sarSt_trigTaken (hn : n < s.sar.length) :
    (s.trigTaken n rest).sarSt n = { s.sarSt n with trig := rest } := State.sarSt_setSar_same hn

theorem State.sarFree_trigTaken (s : State) (n : Nat) (rest : List Nat) :
    (s.trigTaken n rest).sarFree n = s.sarFree n := by
  have hpass : ((s.trigTaken n rest).sarSt n).pass = (s.sarSt n).pass :=
    State.sarSt_setSar_part SarSt.pass (by intro; rfl) s n n
  have hend : ((s.trigTaken n rest).sarSt n).calEnd = (s.sarSt n).calEnd :=
    State.sarSt_setSar_part SarSt.calEnd (by intro; rfl) s n n
  unfold State.sarFree
  rw [hpass, hend]
  rfl

theorem State.sarFree_of_pass (h : (s.sarSt n).pass = some p) : s.sarFree n = false := by
  simp [State.sarFree, h]

theorem lt_of_takeTarget (h : takeTarget (s.sarSt n).trig t0 = some rest) : n < s.sar.length :=
  State.sar_lt (fun e => by simp [e, takeTarget] at h)

/-- A triggered pass samples 3 to 4 SAR cycles after the firing (R114). -/
theorem State.firedStart_bounds (s : State) :
    s.now + 3 * sarCycle ≤ s.firedStart.1 ∧ s.firedStart.1 ≤ s.now + 4 * sarCycle := by
  have hmod : Config.freeValue s.freeCtr % (sarCycle + 1) < sarCycle + 1 := Nat.mod_lt _ (by decide)
  simp only [State.firedStart, State.fresh, sarCycle] at hmod ⊢
  omega

/-- A firing of converter `n` in the state at the command. -/
abbrev State.fires (s : State) (n dt : Nat) (rest : List Nat) : Prop :=
  s.gridRuns = true ∧ s.sarRuns = true ∧ takeTarget (s.sarSt n).trig (s.now + dt) = some rest

/-- The state in which the target has left the unit. -/
abbrev State.fired (s : State) (n dt : Nat) (rest : List Nat) : State := (s.elapse dt).trigTaken n rest

/-- A free converter starts a pass. -/
theorem exec_fire_free {n : Fin 5} (h : s.fires n.val dt rest) (hfree : s.sarFree n.val = true)
    (hp : (s.sarSt n.val).pend = none) :
    exec (.sarTriggerFire dt n) s = .next ((s.fired n.val dt rest).firedStart.2.startPass n.val (s.now + dt)
      (s.fired n.val dt rest).firedStart.1) := by
  obtain ⟨hg, hr, ht⟩ := h
  have ht' : takeTarget ((s.elapse dt).sarSt n.val).trig (s.elapse dt).now = some rest := ht
  have hfree' : ((s.elapse dt).trigTaken n.val rest).sarFree n.val = true := (State.sarFree_trigTaken _ _ _).trans hfree
  have hp' : ((s.elapse dt).sarSt n.val).pend.isNone = true := by
    rw [show (s.elapse dt).sarSt n.val = s.sarSt n.val from rfl, hp]
    rfl
  change execSarTriggerFire dt n s = _
  unfold execSarTriggerFire
  dsimp only
  rw [if_pos ⟨hg, hr⟩, ht']
  exact if_pos ⟨hfree', hp'⟩

/-- A busy converter of the other policy keeps one trigger pending. -/
theorem exec_fire_waits {n : Fin 5} (h : s.fires n.val dt rest) (hfree : s.sarFree n.val = false)
    (hp : (s.sarSt n.val).pend = none) (hpol : s.flag (R.SAR_SEQ_CFG_TRIG_POLICY n.val) = false) :
    exec (.sarTriggerFire dt n) s = .next
      (((s.fired n.val dt rest).setSar n.val (fun d => { d with pend := some (s.now + dt) })).sarSync n.val) := by
  obtain ⟨hg, hr, ht⟩ := h
  have ht' : takeTarget ((s.elapse dt).sarSt n.val).trig (s.elapse dt).now = some rest := ht
  have hfree' : ((s.elapse dt).trigTaken n.val rest).sarFree n.val = false :=
    (State.sarFree_trigTaken _ _ _).trans hfree
  have hp' : ((s.elapse dt).sarSt n.val).pend = none := hp
  have hpol' : ((s.elapse dt).trigTaken n.val rest).flag (R.SAR_SEQ_CFG_TRIG_POLICY n.val) = false := hpol
  change execSarTriggerFire dt n s = _
  unfold execSarTriggerFire
  dsimp only
  rw [if_pos ⟨hg, hr⟩, ht']
  refine (if_neg ?_).trans ((if_neg ?_).trans (if_neg ?_))
  · rintro ⟨hfree'', -⟩
    exact absurd (hfree''.symm.trans hfree') (by decide)
  · rintro ⟨-, hpol''⟩
    exact absurd (hpol''.symm.trans hpol') (by decide)
  · simp [hp']

/-- With one pending a further trigger is discarded. -/
theorem exec_fire_overrun {n : Fin 5} (h : s.fires n.val dt rest) (hp : (s.sarSt n.val).pend = some f)
    (hpol : s.flag (R.SAR_SEQ_CFG_TRIG_POLICY n.val) = false) :
    exec (.sarTriggerFire dt n) s = .next ((s.fired n.val dt rest).sarOverrun n.val) := by
  obtain ⟨hg, hr, ht⟩ := h
  have ht' : takeTarget ((s.elapse dt).sarSt n.val).trig (s.elapse dt).now = some rest := ht
  have hp' : ((s.elapse dt).sarSt n.val).pend = some f := hp
  have hpol' : ((s.elapse dt).trigTaken n.val rest).flag (R.SAR_SEQ_CFG_TRIG_POLICY n.val) = false := hpol
  change execSarTriggerFire dt n s = _
  unfold execSarTriggerFire
  dsimp only
  rw [if_pos ⟨hg, hr⟩, ht']
  refine (if_neg ?_).trans ((if_neg ?_).trans (if_pos ?_))
  · simp [hp']
  · rintro ⟨-, hpol''⟩
    exact absurd (hpol''.symm.trans hpol') (by decide)
  · simp [hp']

/-- A RESTART trigger in a pass: it abandons one that has begun to sample, and replaces one that has not. -/
theorem exec_fire_restart {n : Fin 5} (h : s.fires n.val dt rest) (hp : (s.sarSt n.val).pass = some p)
    (hpol : s.flag (R.SAR_SEQ_CFG_TRIG_POLICY n.val) = true) :
    exec (.sarTriggerFire dt n) s = .next (if s.now + dt < p.t0 then
        ((s.fired n.val dt rest).firedStart.2.inc (R.SAR_OVR_COUNT_RESTART n.val)).startPass n.val (s.now + dt)
          (s.fired n.val dt rest).firedStart.1
      else (s.fired n.val dt rest).setSar n.val (fun d => { d with restart := some (s.now + dt) })) := by
  obtain ⟨hg, hr, ht⟩ := h
  have ht' : takeTarget ((s.elapse dt).sarSt n.val).trig (s.elapse dt).now = some rest := ht
  have hfree' : ((s.elapse dt).trigTaken n.val rest).sarFree n.val = false :=
    (State.sarFree_trigTaken _ _ _).trans (State.sarFree_of_pass (s := s.elapse dt) hp)
  have hp' : ((s.elapse dt).sarSt n.val).pass = some p := hp
  have hpol' : ((s.elapse dt).trigTaken n.val rest).flag (R.SAR_SEQ_CFG_TRIG_POLICY n.val) = true := hpol
  change execSarTriggerFire dt n s = _
  unfold execSarTriggerFire
  dsimp only
  rw [if_pos ⟨hg, hr⟩, ht']
  refine (if_neg ?_).trans ((if_pos ⟨by simp [hp'], hpol'⟩).trans ?_)
  · rintro ⟨hfree'', -⟩
    exact absurd (hfree''.symm.trans hfree') (by decide)
  · rw [hp']
    dsimp only
    rw [apply_ite Host.Outcome.next]
    rfl

/-! ### The result of a conversion (R126) -/

/-- The registers of a result. -/
abbrev resultFields (n i : Nat) : List Reg :=
  [R.SAR_RESULT_CODE n i, R.SAR_RESULT_GAIN n i, R.SAR_RESULT_CLIP n i, R.SAR_RESULT_ROVER n i,
    R.SAR_RESULT_PARTIAL n i, R.SAR_RESULT_STALE n i, R.SAR_RESULT_LATE n i, R.SAR_RESULT_PASS n i]

/-- The result as it stands in its registers. -/
def State.resultShown (s : State) (n : Nat) (p : SarPass) (code g : Nat) (clip : Bool) : State :=
  let s := (s.set (R.SAR_RESULT_CODE n p.idx) code).set (R.SAR_RESULT_GAIN n p.idx) g
  let s := (s.setB (R.SAR_RESULT_CLIP n p.idx) clip).setB (R.SAR_RESULT_ROVER n p.idx)
    (s.flag (R.SAR_CAL_CFG_ROVER n))
  let s := (s.setB (R.SAR_RESULT_PARTIAL n p.idx) false).setB (R.SAR_RESULT_STALE n p.idx)
    (s.flag (R.SAR_STATUS_SEQ_STALE n))
  (s.setB (R.SAR_RESULT_LATE n p.idx) p.late).set (R.SAR_RESULT_PASS n p.idx) (s.sarSt n).passNo

@[simp] theorem State.sar_resultShown (s : State) (n : Nat) (p : SarPass) (code g : Nat) (clip : Bool) :
    (s.resultShown n p code g clip).sar = s.sar := by simp [State.resultShown]

theorem State.regsBut_resultShown (s : State) (n : Nat) (p : SarPass) (code g : Nat) (clip : Bool) :
    s.regsBut (resultFields n p.idx) (s.resultShown n p code g clip) :=
  s.regsBut_of_regs.set.set.setB.setB.setB.setB.setB.set

/-- What the result's registers read. -/
theorem State.shown_resultShown (s : State) (n : Nat) (p : SarPass) (code g : Nat) (clip : Bool) :
    (s.resultShown n p code g clip).get (R.SAR_RESULT_CODE n p.idx) = code % 2 ^ 16
    ∧ (s.resultShown n p code g clip).flag (R.SAR_RESULT_CLIP n p.idx) = clip
    ∧ (s.resultShown n p code g clip).flag (R.SAR_RESULT_LATE n p.idx) = p.late
    ∧ (s.resultShown n p code g clip).flag (R.SAR_RESULT_PARTIAL n p.idx) = false := by
  unfold State.resultShown
  extract_lets coded clipped marked
  have hcode : (s.set (R.SAR_RESULT_CODE n p.idx) code).regsBut (resultFields n p.idx).tail
      ((marked.setB (R.SAR_RESULT_LATE n p.idx) p.late).set (R.SAR_RESULT_PASS n p.idx) (marked.sarSt n).passNo) :=
    (State.regsBut_of_regs _).set.setB.setB.setB.setB.setB.set
  have hclip : (coded.setB (R.SAR_RESULT_CLIP n p.idx) clip).regsBut ((resultFields n p.idx).drop 3)
      ((marked.setB (R.SAR_RESULT_LATE n p.idx) p.late).set (R.SAR_RESULT_PASS n p.idx) (marked.sarSt n).passNo) :=
    (State.regsBut_of_regs _).setB.setB.setB.setB.set
  have hpartial : (clipped.setB (R.SAR_RESULT_PARTIAL n p.idx) false).regsBut ((resultFields n p.idx).drop 5)
      ((marked.setB (R.SAR_RESULT_LATE n p.idx) p.late).set (R.SAR_RESULT_PASS n p.idx) (marked.sarSt n).passNo) :=
    (State.regsBut_of_regs _).setB.setB.set
  have hlate : (marked.setB (R.SAR_RESULT_LATE n p.idx) p.late).regsBut ((resultFields n p.idx).drop 7)
      ((marked.setB (R.SAR_RESULT_LATE n p.idx) p.late).set (R.SAR_RESULT_PASS n p.idx) (marked.sarSt n).passNo) :=
    (State.regsBut_of_regs _).set
  refine ⟨(hcode _ ?_).trans (State.get_set_same _ _ (by simp [R.SAR_RESULT_CODE])),
    (hclip.flag ?_).trans (State.flag_setB_same (by simp [R.SAR_RESULT_CLIP]) (by simp [R.SAR_RESULT_CLIP])),
    (hlate.flag ?_).trans (State.flag_setB_same (by simp [R.SAR_RESULT_LATE]) (by simp [R.SAR_RESULT_LATE])),
    (hpartial.flag ?_).trans
      (State.flag_setB_same (by simp [R.SAR_RESULT_PARTIAL]) (by simp [R.SAR_RESULT_PARTIAL]))⟩ <;>
  · simp only [List.tail_cons, List.drop_succ_cons, List.drop_zero, List.map_cons, List.map_nil, List.mem_cons,
      List.not_mem_nil, or_false, Reg.key, R.SAR_RESULT_CODE, R.SAR_RESULT_GAIN, R.SAR_RESULT_CLIP,
      R.SAR_RESULT_ROVER, R.SAR_RESULT_PARTIAL, R.SAR_RESULT_STALE, R.SAR_RESULT_LATE, R.SAR_RESULT_PASS]
    omega

/-! ### What a result is passed on to (R130 to R132, R303) -/

/-- The registers that the meter and the plausibility check of a result touch. -/
abbrev checkFields (n : Nat) : List Reg :=
  [H.IRQ_RAW (pgSar n), R.METER_STATUS_SRC_ERR, H.IRQ_RAW pgMeter, R.GLOG_CNT_LOST, R.GLOG_STATUS_LOST_SEEN,
    R.SAR_PLAUS_STAT_DIFF (n / 2 * 2), R.SAR_PLAUS_STAT_RUN (n / 2 * 2), R.SAR_PLAUS_COUNT_FAIL (n / 2 * 2),
    H.IRQ_RAW (pgSar (n / 2 * 2))]

theorem State.regsBut.setSar (h : s.regsBut l t) {f : SarSt → SarSt} : s.regsBut l (t.setSar n f) := h.keep

theorem State.regsBut.srcErr (h : s.regsBut (checkFields n) t) : s.regsBut (checkFields n) t.srcErr := by
  unfold State.srcErr
  exact h.setB.irqLog.ite h.setB.irq

theorem State.regsBut_meterResult (s : State) (n k i t0 : Nat) :
    s.regsBut (checkFields k) (s.meterResult n i t0) := by
  unfold State.meterResult
  refine .ite s.regsBut_of_regs (State.regsBut.foldl (fun t j _ => ?_) s)
  have h := t.regsBut_of_regs (l := checkFields k)
  exact .ite ((State.regsBut.ite (h.srcErr.ite h).modMeter (h.srcErr.ite h)).modMeter) h

/-- A failed pair (R132). -/
theorem State.regsBut_plausFail (s : State) (b : Nat) :
    s.regsBut [R.SAR_PLAUS_STAT_RUN b, R.SAR_PLAUS_COUNT_FAIL b, H.IRQ_RAW (pgSar b), R.GLOG_CNT_LOST,
      R.GLOG_STATUS_LOST_SEEN] (s.plausFail b) := by
  unfold State.plausFail
  have h := (s.regsBut_of_regs (l := [R.SAR_PLAUS_STAT_RUN b, R.SAR_PLAUS_COUNT_FAIL b, H.IRQ_RAW (pgSar b),
    R.GLOG_CNT_LOST, R.GLOG_STATUS_LOST_SEEN])).inc (r := R.SAR_PLAUS_STAT_RUN b)
  exact .ite (h.inc.irq).irqLog h.inc.irq

theorem State.regsBut_pairResult (s : State) (n : Nat) (v : Int) (clip : Bool) :
    s.regsBut (checkFields n) (s.pairResult n v clip) := by
  unfold State.pairResult
  dsimp only
  split
  · exact s.regsBut_of_regs
  · have h := (s.regsBut_of_regs (l := checkFields n)).setSar (n := n) (f := fun d => { d with pairNew := none })
    refine .ite (State.regsBut.trans h.setSar.set ((State.regsBut_plausFail _ _).mono ?_)) h.setSar.set.set
    simp

/-- A pair result leaves every pass and every calibration. -/
theorem State.run_pairResult (s : State) (n m : Nat) (v : Int) (clip : Bool) :
    ((s.pairResult n v clip).sarSt m).run = (s.sarSt m).run := by
  have hfail (u : State) (b : Nat) : (u.plausFail b).sarSt m = u.sarSt m := State.sarSt_of_sar
    (State.sar_of_sameBut (keeps_plausFail (keeps_sameBut [.recent, .log, .pod, .regs] u) u b (State.sameBut_refl _ u)))
  unfold State.pairResult
  dsimp only
  split
  · exact State.sarSt_setSar_part SarSt.run (by intro; rfl) s n m
  · rw [apply_ite (State.sarSt · m), hfail, State.sarSt_of_sar (s := State.setSat _ _ _) (State.sar_set _ _ _),
      ite_self, State.setSat, State.sarSt_of_sar (State.sar_set _ _ _)]
    exact (State.sarSt_setSar_part SarSt.run (by intro; rfl) _ _ m).trans
      (State.sarSt_setSar_part SarSt.run (by intro; rfl) s n m)

end Sys2Proof.Machine
end

section
/-! A conversion that ends, and a pass that ends (O48): the result delivered or lost, the pass abandoned, gone on
with or closed, and the boundary after it (R126 to R129, R132). -/

-- One proof after another: many at once take a thread each (see Laws/KeepsChannel).
set_option Elab.async false

namespace Sys2Proof.Machine

variable {s t : State} {l : List Reg} {q : Reg} {n m k i g b v code f dt t0 : Nat} {p : SarPass} {clip : Bool}
  {nv : Int}

/-! ### The result delivered (R126) -/

@[simp] theorem State.sar_meterResult (s : State) (n i t0 : Nat) : (s.meterResult n i t0).sar = s.sar :=
  State.sar_of_sameBut (keeps_meterResult (keeps_sameBut [.recent, .log, .pod, .meter, .regs] s) s n i t0
    (State.sameBut_refl _ s))

@[simp] theorem State.sar_meterAbsent (s : State) (n : Nat) (c : Nat → Bool) : (s.meterAbsent n c).sar = s.sar :=
  State.sar_of_sameBut (keeps_meterAbsent (keeps_sameBut [.meter] s) s n c (State.sameBut_refl _ s))

@[simp] theorem State.regs_meterAbsent (s : State) (n : Nat) (c : Nat → Bool) : (s.meterAbsent n c).regs = s.regs :=
  State.regs_of_sameBut (keeps_meterAbsent (keeps_sameBut [.meter] s) s n c (State.sameBut_refl _ s))

@[simp] theorem State.sys_meterAbsent (s : State) (n : Nat) (c : Nat → Bool) : (s.meterAbsent n c).sys = s.sys :=
  State.sys_of_sameBut (keeps_meterAbsent (keeps_sameBut [.meter] s) s n c (State.sameBut_refl _ s))

/-- The result in its registers, with its sample instant and its clip told. -/
def State.resultTold (s : State) (n : Nat) (p : SarPass) (code g : Nat) (clip : Bool) : State :=
  let s := (s.resultShown n p code g clip).setSar n
    (fun d => { d with resAt := d.resAt.set p.idx (some (p.ends - 16 * sarCycle)) })
  (if clip then s.irq (pgSar n) 6 else s).meterResult n p.idx (p.ends - 16 * sarCycle)

theorem State.sarResult_eq (s : State) (n : Nat) (p : SarPass) (code g : Nat) (clip : Bool) :
    s.sarResult n p code g clip =
      if n < 4 ∧ (s.resultTold n p code g clip).flag (R.SAR_ENTRY_PAIR n p.idx) then
        (s.resultTold n p code g clip).pairResult n ((((code : Nat) : Int) - 32768) * 16 / 2 ^ g) clip
      else s.resultTold n p code g clip := rfl

theorem State.regsBut_resultTold (s : State) (n : Nat) (p : SarPass) (code g : Nat) (clip : Bool) :
    (s.resultShown n p code g clip).regsBut (checkFields n) (s.resultTold n p code g clip) := by
  have h := ((s.resultShown n p code g clip).regsBut_of_regs (l := checkFields n)).setSar (n := n)
    (f := fun d => { d with resAt := d.resAt.set p.idx (some (p.ends - 16 * sarCycle)) })
  exact (h.irq.ite h).trans (State.regsBut_meterResult _ n n p.idx _)

/-- Behind the result's own registers only those of the checks move. -/
theorem State.regsBut_sarResult (s : State) (n : Nat) (p : SarPass) (code g : Nat) (clip : Bool) :
    (s.resultShown n p code g clip).regsBut (checkFields n) (s.sarResult n p code g clip) := by
  rw [State.sarResult_eq]
  have h := s.regsBut_resultTold n p code g clip
  exact .ite (h.trans (State.regsBut_pairResult _ n _ clip)) h

theorem State.run_sarResult (s : State) (n m : Nat) (p : SarPass) (code g : Nat) (clip : Bool) :
    ((s.sarResult n p code g clip).sarSt m).run = (s.sarSt m).run := by
  have hclip (u : State) : (if clip then u.irq (pgSar n) 6 else u).sar = u.sar := by
    split
    · exact State.sar_irq u _ _
    · rfl
  have htold : ((s.resultTold n p code g clip).sarSt m).run = (s.sarSt m).run := by
    unfold State.resultTold
    rw [State.sarSt_of_sar (State.sar_meterResult _ n p.idx _), State.sarSt_of_sar (hclip _),
      State.sarSt_setSar_part SarSt.run (by intro; rfl), State.sarSt_of_sar (State.sar_resultShown s n p code g clip)]
  rw [State.sarResult_eq]
  split
  · exact (State.run_pairResult _ n m _ clip).trans htold
  · exact htold

/-- The conversion's code, its clip, and the state that the rounding leaves. -/
abbrev State.coded (s : State) (n : Nat) (p : SarPass) (nv : Int) : Nat × Bool × State :=
  s.sarCode nv (s.get (R.SAR_ENTRY_GAIN n p.idx))

/-- A conversion's result enters the grid island, or is lost at the crossing. -/
def State.delivered (s : State) (n : Nat) (p : SarPass) (nv : Int) : State :=
  if (s.coded n p nv).2.2.lostNext 8 then
    ((s.coded n p nv).2.2.takeLost 8).meterAbsent n (fun e => decide (e = p.idx))
  else (s.coded n p nv).2.2.sarResult n p (s.coded n p nv).1 (s.get (R.SAR_ENTRY_GAIN n p.idx)) (s.coded n p nv).2.1

/-- The rounding takes a free value at most. -/
theorem State.sameBut_coded (s : State) (n : Nat) (p : SarPass) (nv : Int) :
    s.sameBut [.freeCtr] (s.coded n p nv).2.2 :=
  keeps_sarCode (keeps_sameBut [.freeCtr] s) s nv _ (State.sameBut_refl _ s)

theorem State.lostNext_coded (s : State) (n : Nat) (p : SarPass) (nv : Int) :
    (s.coded n p nv).2.2.lostNext k = s.lostNext k := by
  unfold State.lostNext
  rw [State.sys_of_sameBut (s.sameBut_coded n p nv)]

theorem State.delivered_of_lost (h : s.lostNext 8 = true) : s.delivered n p nv =
    ((s.coded n p nv).2.2.takeLost 8).meterAbsent n (fun e => decide (e = p.idx)) :=
  if_pos (by rw [State.lostNext_coded, h])

theorem State.delivered_of_kept (h : s.lostNext 8 = false) : s.delivered n p nv =
    (s.coded n p nv).2.2.sarResult n p (s.coded n p nv).1 (s.get (R.SAR_ENTRY_GAIN n p.idx)) (s.coded n p nv).2.1 :=
  if_neg (by rw [State.lostNext_coded, h]; decide)

/-- A result, delivered or lost, leaves every pass as it was. -/
theorem State.run_delivered (s : State) (n m : Nat) (p : SarPass) (nv : Int) :
    ((s.delivered n p nv).sarSt m).run = (s.sarSt m).run := by
  have hcoded : (s.coded n p nv).2.2.sarSt m = s.sarSt m :=
    State.sarSt_of_sar (State.sar_of_sameBut (s.sameBut_coded n p nv))
  unfold State.delivered
  split
  · rw [State.sarSt_of_sar (State.sar_meterAbsent _ n _)]
    exact congrArg SarSt.run hcoded
  · rw [State.run_sarResult, hcoded]

/-- A result, delivered or lost, touches its own registers and those of the checks. -/
theorem State.regsBut_delivered (s : State) (n : Nat) (p : SarPass) (nv : Int) :
    s.regsBut (resultFields n p.idx ++ checkFields n) (s.delivered n p nv) := by
  have hcoded : s.regsBut (resultFields n p.idx) (s.coded n p nv).2.2 :=
    s.regsBut_of_regs (State.regs_of_sameBut (s.sameBut_coded n p nv))
  unfold State.delivered
  refine .ite ?_ ?_
  · exact (hcoded.mono (List.subset_append_left _ _)).keep (State.regs_meterAbsent _ n _)
  · exact ((hcoded.trans (State.regsBut_resultShown _ n p _ _ _)).mono (List.subset_append_left _ _)).trans
      ((State.regsBut_sarResult _ n p _ _ _).mono (List.subset_append_right _ _))

/-! ### The pass closed (R95, R128) -/

/-- The registers of a converter's deadline. -/
abbrev deadlineFields (n : Nat) : List Reg :=
  [R.SAR_STATUS_SEQ_STALE n, R.SAR_DL_COUNT_TOTAL n, R.SAR_DL_COUNT_RUN n, H.DL_RUN (pgSar n), H.IRQ_RAW (pgSar n),
    R.GLOG_CNT_LOST, R.GLOG_STATUS_LOST_SEEN]

theorem dlPair_pgSar (n : Fin 5) : dlPair (pgSar n.val) 0x060 = some ⟨pgSar n.val, 0x060, R.SAR_DL_LIMIT_LIMIT n.val,
    R.SAR_DL_LIMIT_MISS_MAX n.val, R.SAR_DL_COUNT_TOTAL n.val, R.SAR_DL_COUNT_RUN n.val⟩ := by
  revert n
  decide

theorem State.regsBut_dlMeet (s : State) (d : DlPair) : s.regsBut [d.run, H.DL_RUN d.page] (s.dlMeet d) :=
  s.regsBut_of_regs.set.setB

theorem State.regsBut_passMissed (s : State) (n : Fin 5) (p : SarPass) :
    s.regsBut (deadlineFields n.val) (s.passMissed n.val p) := by
  have hmiss : s.regsBut (deadlineFields n.val) (s.dlMissMax ⟨pgSar n.val, 0x060, R.SAR_DL_LIMIT_LIMIT n.val,
      R.SAR_DL_LIMIT_MISS_MAX n.val, R.SAR_DL_COUNT_TOTAL n.val, R.SAR_DL_COUNT_RUN n.val⟩ (s.passLimit n.val p).2).1 :=
    s.regsBut_of_regs.inc.trans ((State.regsBut_dlMissMax _ _ _).mono (by simp [missFields]))
  unfold State.passMissed
  rw [dlPair_pgSar]
  exact .ite hmiss.setB hmiss

/-- The pass stands at its next entry. -/
def State.advanced (s : State) (n : Nat) (p : SarPass) (len : Nat) : State :=
  s.setSar n (fun d => { d with pass := some { p with
    idx := p.idx + 1, ends := if p.idx < len then p.ends + s.entryTime n (p.idx + 1) else p.ends } })

/-- The deadline of a pass whose last entry is done is judged, unless it has been. -/
def State.closed (s : State) (n : Nat) (p : SarPass) (len : Nat) (lost : Bool) : State :=
  if p.idx = len ∧ p.late = false ∧ lost then s.passMissed n p
  else if p.idx = len ∧ p.late = false ∧ s.now ≤ s.passDue n p then
    match dlPair (pgSar n) 0x060 with
    | some d => (s.setB (R.SAR_STATUS_SEQ_STALE n) false).dlMeet d
    | none => s.setB (R.SAR_STATUS_SEQ_STALE n) false
  else s

theorem State.regsBut_closed (s : State) (n : Fin 5) (p : SarPass) (len : Nat) (lost : Bool) :
    s.regsBut (deadlineFields n.val) (s.closed n.val p len lost) := by
  have h := s.regsBut_of_regs (l := deadlineFields n.val)
  unfold State.closed
  rw [dlPair_pgSar]
  refine .ite (s.regsBut_passMissed n p) (.ite ?_ h)
  exact h.setB.trans ((State.regsBut_dlMeet _ _).mono (by simp))

theorem State.sameBut_closed (s : State) (n : Nat) (p : SarPass) (len : Nat) (lost : Bool) :
    s.sameBut [.recent, .log, .pod, .regs] (s.closed n p len lost) := by
  have hI := keeps_sameBut [.recent, .log, .pod, .regs] s
  have hstale := keeps_setB (hI.mono (by decide)) s (R.SAR_STATUS_SEQ_STALE n) false (State.sameBut_refl _ s)
  unfold State.closed
  refine iteI (fun _ => keeps_passMissed hI s n p (State.sameBut_refl _ s)) (fun _ => iteI (fun _ => ?_)
    (fun _ => State.sameBut_refl _ s))
  split
  · exact keeps_dlMeet (hI.mono (by decide)) _ _ hstale
  · exact hstale

/-! ### The commands -/

/-- The conversion in progress has ended. -/
abbrev State.converts (s : State) (n dt : Nat) (p : SarPass) : Prop :=
  s.sarRuns = true ∧ (s.sarSt n).pass = some p ∧ p.idx ≤ s.get (R.SAR_SEQ_CFG_LEN n) ∧ p.ends ≤ s.now + dt

/-- In a pass that no trigger abandons, the pass goes on or closes. -/
theorem exec_conversion_goesOn {n : Fin 5} (h : s.converts n.val dt p) (hr : (s.sarSt n.val).restart = none) :
    exec (.sarConversionDone dt n nv) s = .next ((((s.elapse dt).delivered n.val p nv).advanced n.val p
      (s.get (R.SAR_SEQ_CFG_LEN n.val))).closed n.val p (s.get (R.SAR_SEQ_CFG_LEN n.val))
        (((s.elapse dt).coded n.val p nv).2.2.lostNext 8)) := by
  obtain ⟨hruns, hpass, hlen, hends⟩ := h
  have hpass' : ((s.elapse dt).sarSt n.val).pass = some p := hpass
  have hrun := (s.elapse dt).run_delivered n.val n.val p nv
  have hrestart : (((s.elapse dt).delivered n.val p nv).sarSt n.val).restart = none := by
    simp only [SarSt.run, Prod.mk.injEq] at hrun
    exact hrun.2.2.trans hr
  have hout (c : Prop) [Decidable c] (a b : State) : (if c then Host.Outcome.next a else .next b)
      = (Host.Outcome.next (if c then a else b) : Host.Outcome State Fault Refusal) := by split <;> rfl
  change execSarConversionDone dt n nv s = _
  unfold execSarConversionDone
  dsimp only
  rw [hpass']
  refine (if_pos ⟨hruns, hlen, hends⟩).trans ?_
  change (match (((s.elapse dt).delivered n.val p nv).sarSt n.val).restart with
    | some f => _
    | none => _) = _
  rw [hrestart]
  dsimp only
  rw [hout, hout]
  rfl

/-- The delivered results of a pass are marked, the restart counted, and its entries left out told to the meter. -/
def State.abandoned (s : State) (n i : Nat) : State :=
  ((s.markPartial n (i + 1)).inc (R.SAR_OVR_COUNT_RESTART n)).meterMissed n (i + 1)

/-- In a pass that a trigger abandons, that trigger's own pass starts (R127). -/
theorem exec_conversion_abandons {n : Fin 5} (h : s.converts n.val dt p) (hr : (s.sarSt n.val).restart = some f) :
    exec (.sarConversionDone dt n nv) s = .next
      ((((s.elapse dt).delivered n.val p nv).abandoned n.val p.idx).startPass n.val f p.ends) := by
  obtain ⟨hruns, hpass, hlen, hends⟩ := h
  have hpass' : ((s.elapse dt).sarSt n.val).pass = some p := hpass
  have hrun := (s.elapse dt).run_delivered n.val n.val p nv
  have hrestart : (((s.elapse dt).delivered n.val p nv).sarSt n.val).restart = some f := by
    simp only [SarSt.run, Prod.mk.injEq] at hrun
    exact hrun.2.2.trans hr
  change execSarConversionDone dt n nv s = _
  unfold execSarConversionDone
  dsimp only
  rw [hpass']
  refine (if_pos ⟨hruns, hlen, hends⟩).trans ?_
  change (match (((s.elapse dt).delivered n.val p nv).sarSt n.val).restart with
    | some f => _
    | none => _) = _
  rw [hrestart]
  rfl

/-! ### A pass abandoned (R127) -/

@[simp] theorem State.regs_meterMissed (s : State) (n i : Nat) : (s.meterMissed n i).regs = s.regs :=
  s.regs_meterAbsent n _

@[simp] theorem State.get_meterMissed (s : State) (n i : Nat) (q : Reg) : (s.meterMissed n i).get q = s.get q := by
  unfold State.get
  rw [State.regs_meterMissed]

@[simp] theorem State.sar_meterMissed (s : State) (n i : Nat) : (s.meterMissed n i).sar = s.sar :=
  s.sar_meterAbsent n _

@[simp] theorem State.sys_meterMissed (s : State) (n i : Nat) : (s.meterMissed n i).sys = s.sys :=
  s.sys_meterAbsent n _

theorem State.now_of_sameBut {k : List Part} (h : s.sameBut k t) (hn : .now ∉ k := by decide)
    (hd : .drop ∉ k := by decide) : t.now = s.now := by
  obtain ⟨-, hd' | hall⟩ := h
  · exact absurd hd' hd
  · simp only [hn, false_or] at hall
    simp only [hall]

@[simp] theorem State.now_meterMissed (s : State) (n i : Nat) : (s.meterMissed n i).now = s.now :=
  State.now_of_sameBut (keeps_meterAbsent (keeps_sameBut [.meter] s) s n _ (State.sameBut_refl _ s))

theorem State.regsBut_markPartial (s : State) (n k : Nat) :
    s.regsBut ((List.range k).map (R.SAR_RESULT_PARTIAL n)) (s.markPartial n k) :=
  State.regsBut.foldl (fun t _ hi => t.regsBut_of_regs.setB (List.mem_map_of_mem hi)) s

@[simp] theorem State.sar_markPartial (s : State) (n k : Nat) : (s.markPartial n k).sar = s.sar :=
  State.sar_of_sameBut (keeps_markPartial (keeps_sameBut [.recent, .regs] s) s n k (State.sameBut_refl _ s))

/-- The newest of the delivered results is marked last. -/
theorem State.flag_markPartial (s : State) (n i : Nat) :
    (s.markPartial n (i + 1)).flag (R.SAR_RESULT_PARTIAL n i) = true := by
  unfold State.markPartial
  rw [List.range_succ, List.foldl_append, List.foldl_cons, List.foldl_nil]
  exact State.flag_setB_same (r := R.SAR_RESULT_PARTIAL n i) (by simp [R.SAR_RESULT_PARTIAL])
    (by simp [R.SAR_RESULT_PARTIAL])

@[simp] theorem State.sar_abandoned (s : State) (n i : Nat) : (s.abandoned n i).sar = s.sar := by
  simp [State.abandoned]

/-- An abandoned pass is counted, and its newest result marked. -/
theorem State.shown_abandoned (s : State) (n i : Nat) :
    (s.abandoned n i).flag (R.SAR_RESULT_PARTIAL n i) = true
    ∧ (s.abandoned n i).get (R.SAR_OVR_COUNT_RESTART n)
      = counted (R.SAR_OVR_COUNT_RESTART n) (s.get (R.SAR_OVR_COUNT_RESTART n)) := by
  have hne (j : Nat) : (R.SAR_RESULT_PARTIAL n j).key ≠ (R.SAR_OVR_COUNT_RESTART n).key := by
    simp only [Reg.key, R.SAR_RESULT_PARTIAL, R.SAR_OVR_COUNT_RESTART]; omega
  have hmark : (R.SAR_OVR_COUNT_RESTART n).key ∉ ((List.range (i + 1)).map (R.SAR_RESULT_PARTIAL n)).map Reg.key := by
    simp only [List.map_map, List.mem_map, Function.comp_apply, not_exists, not_and]
    exact fun j _ => hne j
  have hget (q : Reg) : (s.abandoned n i).get q = ((s.markPartial n (i + 1)).inc (R.SAR_OVR_COUNT_RESTART n)).get q :=
    State.get_meterMissed _ n (i + 1) q
  constructor
  · rw [State.flag_eq, hget, State.get_inc_other (hne i), ← State.flag_eq, State.flag_markPartial]
  · rw [hget, State.get_inc_same (by simp [R.SAR_OVR_COUNT_RESTART]), s.regsBut_markPartial n (i + 1) _ hmark]

/-! ### What the end of a pass shows stays (R126, R129) -/

/-- Converter `n` has neither a pass nor a trigger that would start one; the time of its last pass stands at `v`,
and the pass's end has been told. -/
structure State.passOver (s : State) (n v : Nat) : Prop where
  run : (s.sarSt n).run = (none, none, none)
  src : s.get (R.SAR_TRIG_SRC n) ≠ 7
  time : s.get (R.SAR_PASS_T0_NS n) = v
  event : s.latched (pgSar n) 0

/-- What leaves passes and the two registers alone keeps it so. -/
theorem State.passOver.step (h : s.passOver n v) (hr : (t.sarSt n).run = (s.sarSt n).run)
    (hregs : ∀ r ∈ [R.SAR_TRIG_SRC n, R.SAR_PASS_T0_NS n], t.get r = s.get r) (he : t.latched (pgSar n) 0) :
    t.passOver n v := by
  obtain ⟨hsrc, htime⟩ : t.get (R.SAR_TRIG_SRC n) = s.get (R.SAR_TRIG_SRC n)
      ∧ t.get (R.SAR_PASS_T0_NS n) = s.get (R.SAR_PASS_T0_NS n) := ⟨hregs _ (by simp), hregs _ (by simp)⟩
  exact ⟨hr.trans h.run, by rw [hsrc]; exact h.src, htime.trans h.time, he⟩

/-- The source and the time of the last pass are not among what a boundary touches beside the commit. -/
theorem passRegs_notMem (n k : Nat) : ∀ r ∈ [R.SAR_TRIG_SRC n, R.SAR_PASS_T0_NS n],
    r.key ∉ (passFields k).map Reg.key ∧ r.key ∉ (calFields k).map Reg.key ∧ r.key ∉ (roverFields k).map Reg.key
      ∧ r.key ∉ (boundaryFields k).map Reg.key := by
  simp only [List.mem_cons, List.not_mem_nil, or_false, forall_eq_or_imp, forall_eq, List.map_cons, List.map_nil,
    Reg.key, pgSar, H.IRQ_RAW, R.SAR_TRIG_SRC, R.SAR_PASS_T0_NS, R.SAR_CAL_CFG_BUSY, R.SAR_CAL_CFG_REQ,
    R.SAR_CAL_CFG_WAITING, R.SAR_STATUS_RUNNING, R.SAR_STATUS_PENDING, R.SAR_CAL_CFG_ROVER, R.SAR_CAL_CFG_SUBST,
    R.SAR_CAL_CFG_SERVING]
  omega

/-- No interrupt bits are among what a pass or a calibration that starts touches. -/
theorem irqRaw_notMem_starts (p k : Nat) :
    (H.IRQ_RAW p).key ∉ (passFields k).map Reg.key ∧ (H.IRQ_RAW p).key ∉ (calFields k).map Reg.key
      ∧ (H.IRQ_RAW p).key ∉ [R.SAR_CAL_CFG_ROVER k, R.SAR_CAL_CFG_SUBST 4, R.SAR_CAL_CFG_SERVING 4].map Reg.key := by
  simp only [List.mem_cons, List.not_mem_nil, or_false, List.map_cons, List.map_nil, Reg.key, H.IRQ_RAW,
    R.SAR_CAL_CFG_BUSY, R.SAR_CAL_CFG_REQ, R.SAR_CAL_CFG_WAITING, R.SAR_STATUS_RUNNING, R.SAR_STATUS_PENDING,
    R.SAR_CAL_CFG_ROVER, R.SAR_CAL_CFG_SUBST, R.SAR_CAL_CFG_SERVING]
  omega

theorem State.passOver.nextPass (h : s.passOver n v) (k t0 : Nat) : (s.nextPass k t0).passOver n v := by
  have hrun := h.run
  simp only [SarSt.run, Prod.mk.injEq] at hrun
  obtain ⟨-, hpend, -⟩ := hrun
  have hregs := s.regsBut_nextPass_pass k t0
  refine h.step (State.run_nextPass ?_) (fun r hr => hregs r (passRegs_notMem n k r hr).1)
    (h.event.of_regsBut hregs (irqRaw_notMem_starts _ k).1)
  rintro rfl
  exact ⟨hpend, h.src⟩

theorem State.passOver.calTry (h : s.passOver n v) (k : Nat) : (s.calTry k).passOver n v := by
  have hregs := s.regsBut_calTry_cal k
  exact h.step (s.run_calTry k n) (fun r hr => hregs r (passRegs_notMem n k r hr).2.1)
    (h.event.of_regsBut hregs (irqRaw_notMem_starts _ k).2.1)

theorem State.latched_roverShown (h : s.latched b i) (hi : i < 32) (k : Nat) : (s.roverShown k).latched b i :=
  State.latched_irq hi (State.latched_irq hi
    (h.of_regsBut s.regsBut_of_regs.setB.setB.set (irqRaw_notMem_starts b k).2.2))

theorem State.latched_roverFreed (h : s.latched b i) (hi : i < 32) (k : Nat) : (s.roverFreed k).latched b i :=
  State.latched_irq hi (State.latched_irq hi
    (h.of_regsBut s.regsBut_of_regs.setB.setB.set (irqRaw_notMem_starts b k).2.2))

theorem State.passOver.roverTake (h : s.passOver n v) : s.roverTake.passOver n v := by
  refine h.step (s.run_roverTake n)
    (fun r hr => State.get_roverTake (fun k => (passRegs_notMem n k r hr).2.2.2) s) ?_
  rcases s.roverTake_cases with e | ⟨k, e⟩ <;> rw [e]
  · exact h.event
  · exact (State.latched_roverShown h.event (by decide) k).of_regsBut (State.regsBut_calStart _ k)
      (irqRaw_notMem_starts _ k).2.1

theorem State.passOver.roverReturn (h : s.passOver n v) (k : Nat) : (s.roverReturn k).passOver n v := by
  have hfreed : (s.roverFreed k).passOver n v :=
    h.step (congrArg SarSt.run (State.sarSt_of_sar (State.sar_roverFreed s k)))
      (fun r hr => s.regsBut_roverFreed k r (passRegs_notMem n k r hr).2.2.1)
      (State.latched_roverFreed h.event (by decide) k)
  rcases s.roverReturn_cases k with e | e <;> rw [e]
  · exact h
  · exact ((hfreed.calTry 4).roverTake).nextPass 4 _

/-! ### A commit that waits (R91, R92) -/

/-- A `DISCARD` of this cycle came too late for the page's commit (R92). -/
def State.takesBack (s : State) (p : Nat) : Bool :=
  match pageInfo p with
  | none => false
  | some i => (s.sys.dropped.find? (fun e =>
      decide (e.1 = p) && decide (i.isl.cycle e.2.1 = i.isl.cycle s.now))).isSome

/-- A late `DISCARD` taken back makes the commit pending again; nothing else about it moves. -/
theorem State.commitWaits_undrop (s : State) (p : Nat) : (s.undrop p).commitWaits p
    = ((s.takesBack p || s.flag (H.COMMIT_GO p)) && !s.flag (H.UPDATE_LOCK p)) := by
  have hlock : (s.undrop p).flag (H.UPDATE_LOCK p) = s.flag (H.UPDATE_LOCK p) :=
    (s.regsBut_undrop p).flag (by simp [Reg.key, H.UPDATE_LOCK, H.COMMIT_GO]; omega)
  have hgo : (s.undrop p).flag (H.COMMIT_GO p) = (s.takesBack p || s.flag (H.COMMIT_GO p)) := by
    unfold State.undrop State.takesBack
    cases pageInfo p with
    | none => rfl
    | some i =>
      dsimp only
      cases s.sys.dropped.find? (fun e => decide (e.1 = p) && decide (i.isl.cycle e.2.1 = i.isl.cycle s.now)) with
      | none => rfl
      | some e => exact State.flag_setB_same (by simp [H.COMMIT_GO]) (by simp [H.COMMIT_GO])
  unfold State.commitWaits
  rw [hgo, hlock]

@[simp] theorem State.sar_undrop (s : State) (p : Nat) : (s.undrop p).sar = s.sar :=
  State.sar_of_sameBut (keeps_undrop (keeps_sameBut [.recent, .sys, .chan, .regs, .staged] s) s p
    (State.sameBut_refl _ s))

/-- With no commit waiting, the boundary after a pass leaves what its end shows. -/
theorem State.passOver.sarBoundary (h : s.passOver n v)
    (hc : (s.undrop (pgSar n)).commitWaits (pgSar n) = false) (t0 : Nat) : (s.sarBoundary n t0).passOver n v := by
  have hcommit : s.sarCommit n = s.undrop (pgSar n) := if_neg (by simp [hc])
  have hundrop : (s.undrop (pgSar n)).passOver n v := by
    have hregs := s.regsBut_undrop (pgSar n)
    refine h.step (congrArg SarSt.run (State.sarSt_of_sar (State.sar_undrop s _))) (fun r hr => hregs r ?_)
      (h.event.of_regsBut hregs (by simp [Reg.key, H.IRQ_RAW, H.COMMIT_GO]))
    revert r
    simp only [List.mem_cons, List.not_mem_nil, or_false, forall_eq_or_imp, forall_eq, List.map_cons, List.map_nil,
      Reg.key, pgSar, H.COMMIT_GO, R.SAR_TRIG_SRC, R.SAR_PASS_T0_NS]
    omega
  unfold State.sarBoundary
  rw [hcommit]
  exact (((hundrop.roverReturn n).calTry n).roverTake).nextPass n t0

/-! ### The end of a pass -/

/-- The pass's end is shown and told. -/
def State.passShown (s : State) (n : Nat) (p : SarPass) : State :=
  ((s.set (R.SAR_PASS_T0_NS n) p.stamp).irq (pgSar n) 0).meterMissed n p.idx

/-- The sequence after its pass: a trigger that abandons the pass waits for it as a pending one does. -/
def passEnded (d : SarSt) : SarSt :=
  { d with pass := none, restart := none,
           pend := match d.pend, d.restart with
             | some f, _ => some f
             | none, r => r }

theorem exec_sarPassEnd {n : Fin 5} (hr : s.sarRuns = true) (hp : (s.sarSt n.val).pass = some p)
    (hlen : s.get (R.SAR_SEQ_CFG_LEN n.val) < p.idx) : exec (.sarPassEnd dt n) s = .next
      ((((s.elapse dt).passShown n.val p).setSar n.val passEnded).sarBoundary n.val p.ends) := by
  have hp' : ((s.elapse dt).sarSt n.val).pass = some p := hp
  change execSarPassEnd dt n s = _
  unfold execSarPassEnd
  dsimp only
  rw [hp']
  exact if_pos ⟨hr, hlen⟩

@[simp] theorem State.sar_passShown (s : State) (n : Nat) (p : SarPass) : (s.passShown n p).sar = s.sar := by
  simp [State.passShown]

theorem State.get_passShown (s : State) (n : Nat) (p : SarPass) (q : Reg) : (s.passShown n p).get q
    = ((s.set (R.SAR_PASS_T0_NS n) p.stamp).irq (pgSar n) 0).get q :=
  State.get_meterMissed _ n p.idx q

theorem State.regsBut_passShown (s : State) (n : Nat) (p : SarPass) :
    s.regsBut [R.SAR_PASS_T0_NS n, H.IRQ_RAW (pgSar n)] (s.passShown n p) :=
  (s.regsBut_of_regs.set.irq).keep (State.regs_meterMissed _ n p.idx)

/-- The end of a pass behind which no trigger waits. -/
theorem State.passOver_passShown (hn : n < s.sar.length) (hp : (s.sarSt n).pend = none)
    (hr : (s.sarSt n).restart = none) (hsrc : s.get (R.SAR_TRIG_SRC n) ≠ 7) :
    ((s.passShown n p).setSar n passEnded).passOver n (p.stamp % 2 ^ 64) := by
  have hst : (((s.passShown n p).setSar n passEnded).sarSt n) = passEnded (s.sarSt n) := by
    rw [State.sarSt_setSar_same (by simpa using hn), State.sarSt_of_sar (s := s)]
  refine ⟨?_, ?_, ?_, ?_⟩
  · rw [hst]
    simp [passEnded, SarSt.run, hp, hr]
  · have hkeep : (s.passShown n p).get (R.SAR_TRIG_SRC n) = s.get (R.SAR_TRIG_SRC n) :=
      s.regsBut_passShown n p _ (by
        simp only [List.mem_cons, List.not_mem_nil, or_false, List.map_cons, List.map_nil, Reg.key, pgSar, H.IRQ_RAW,
          R.SAR_TRIG_SRC, R.SAR_PASS_T0_NS]
        omega)
    rwa [State.get_setSar, hkeep]
  · rw [State.get_setSar, State.get_passShown, State.get_irq_other, State.get_set_same _ _ (by simp [R.SAR_PASS_T0_NS])]
    · rfl
    · simp only [Reg.key, pgSar, H.IRQ_RAW, R.SAR_PASS_T0_NS]
      omega
  · rw [State.latched, State.get_setSar, State.get_passShown]
    exact State.latched_irq_same _ (by decide)

/-- Whether a commit of the page waits is not the end of a pass's business. -/
theorem State.commitWaits_passShown (s : State) (n : Nat) (p : SarPass) (f : SarSt → SarSt) :
    ((((s.passShown n p).setSar n f).undrop (pgSar n)).commitWaits (pgSar n))
      = (s.undrop (pgSar n)).commitWaits (pgSar n) := by
  have hsys : ((s.passShown n p).setSar n f).sys = s.sys := by
    rw [State.setSar, State.passShown, State.sys_meterMissed, State.sys_irq, State.sys_set]
  have hnow : ((s.passShown n p).setSar n f).now = s.now := by
    rw [State.now_setSar, State.passShown, State.now_meterMissed, State.now_irq, State.now_set]
  have hflag : ∀ r ∈ [H.COMMIT_GO (pgSar n), H.UPDATE_LOCK (pgSar n)], (s.passShown n p).flag r = s.flag r := by
    intro r hr
    refine (s.regsBut_passShown n p).flag ?_
    revert r
    simp only [List.mem_cons, List.not_mem_nil, or_false, forall_eq_or_imp, forall_eq, List.map_cons, List.map_nil,
      Reg.key, pgSar, H.COMMIT_GO, H.UPDATE_LOCK, H.IRQ_RAW, R.SAR_PASS_T0_NS]
    omega
  have hback : ((s.passShown n p).setSar n f).takesBack (pgSar n) = s.takesBack (pgSar n) := by
    unfold State.takesBack
    rw [hsys, hnow]
  rw [State.commitWaits_undrop, State.commitWaits_undrop, hback]
  exact congrArg₂ (fun a b => (s.takesBack (pgSar n) || a) && !b) (hflag _ (by simp)) (hflag _ (by simp))

end Sys2Proof.Machine
end

section
/-! The statement on the converters' passes (O48): its ten situations, each from what its command does. -/

-- One proof after another: many at once take a thread each (see Laws/KeepsChannel).
set_option Elab.async false

namespace Sys2Proof.Machine

variable {s t : State} {l : List Reg} {q : Reg} {m k b v f dt t0 : Nat} {n : Fin 5} {p : SarPass} {nv : Int}
  {rest : List Nat}

theorem lt_of_pass (h : (s.sarSt m).pass = some p) : m < s.sar.length := State.sar_lt (fun e => by simp [e] at h)

theorem lt_of_pend (h : (s.sarSt m).pend = some f) : m < s.sar.length := State.sar_lt (fun e => by simp [e] at h)

/-! ### Firings -/

theorem State.length_sar_fired (s : State) (m dt : Nat) (rest : List Nat) :
    (s.fired m dt rest).sar.length = s.sar.length := State.length_sar_setSar _ _ _

theorem State.sarSt_fired (h : m < s.sar.length) :
    (s.fired m dt rest).sarSt m = { s.sarSt m with trig := rest } := State.sarSt_trigTaken (s := s.elapse dt) h

theorem fire_free_starts (h : s.fires n.val dt rest) (hfree : s.sarFree n.val = true)
    (hp : (s.sarSt n.val).pend = none) :
    ∃ t, exec (.sarTriggerFire dt n) s = .next t ∧ (t.sarSt n.val).trig = rest
      ∧ (∃ p, (t.sarSt n.val).pass = some p ∧ p.fireAt = s.now + dt ∧ p.idx = 0
        ∧ s.now + dt + 3 * sarCycle ≤ p.t0 ∧ p.t0 ≤ s.now + dt + 4 * sarCycle)
      ∧ t.flag (R.SAR_STATUS_RUNNING n.val) = true := by
  have hlt := lt_of_takeTarget h.2.2
  have hlt' : n.val < (s.fired n.val dt rest).firedStart.2.sar.length := by
    rw [show (s.fired n.val dt rest).firedStart.2.sar = (s.fired n.val dt rest).sar from rfl]
    rwa [State.length_sar_fired]
  have hst : (s.fired n.val dt rest).firedStart.2.sarSt n.val = { s.sarSt n.val with trig := rest } :=
    State.sarSt_fired hlt
  obtain ⟨hlo, hhi⟩ := (s.fired n.val dt rest).firedStart_bounds
  refine ⟨_, exec_fire_free h hfree hp, ?_, ⟨(s.fired n.val dt rest).firedStart.2.newPass n.val (s.now + dt)
    (s.fired n.val dt rest).firedStart.1, ?_, rfl, rfl, hlo, hhi⟩, State.running_startPass hlt'⟩
  · rw [State.sarSt_startPass_same hlt', hst]
    rfl
  · rw [State.sarSt_startPass_same hlt']
    rfl

theorem fire_busy_waits (h : s.fires n.val dt rest) (hfree : s.sarFree n.val = false)
    (hp : (s.sarSt n.val).pend = none) (hpol : s.flag (R.SAR_SEQ_CFG_TRIG_POLICY n.val) = false) :
    ∃ t, exec (.sarTriggerFire dt n) s = .next t ∧ (t.sarSt n.val).pend = some (s.now + dt)
      ∧ (t.sarSt n.val).pass = (s.sarSt n.val).pass ∧ t.flag (R.SAR_STATUS_PENDING n.val) = true := by
  have hlt := lt_of_takeTarget h.2.2
  have hst : ((s.fired n.val dt rest).setSar n.val (fun d => { d with pend := some (s.now + dt) })).sarSt n.val
      = { s.sarSt n.val with trig := rest, pend := some (s.now + dt) } := by
    rw [State.sarSt_setSar_same (by rwa [State.length_sar_fired]), State.sarSt_fired hlt]
  refine ⟨_, exec_fire_waits h hfree hp hpol, ?_, ?_, ?_⟩
  · rw [State.sarSt_sarSync, hst]
  · rw [State.sarSt_sarSync, hst]
  · rw [State.pending_sarSync, hst]
    rfl

theorem fire_pending_overruns (h : s.fires n.val dt rest) (hp : (s.sarSt n.val).pend = some f)
    (hpol : s.flag (R.SAR_SEQ_CFG_TRIG_POLICY n.val) = false) :
    ∃ t, exec (.sarTriggerFire dt n) s = .next t ∧ (t.sarSt n.val).pend = some f
      ∧ t.flag (R.SAR_STATUS_TRIG_OVR n.val) = true
      ∧ t.get (R.SAR_OVR_COUNT_OVR n.val)
        = counted (R.SAR_OVR_COUNT_OVR n.val) (s.get (R.SAR_OVR_COUNT_OVR n.val)) := by
  refine ⟨_, exec_fire_overrun h hp hpol, ?_, (s.fired n.val dt rest).shown_sarOverrun n.val⟩
  rw [State.sarSt_sarOverrun, State.sarSt_fired (lt_of_pend hp)]
  exact hp

theorem fire_restart_abandons (h : s.fires n.val dt rest) (hp : (s.sarSt n.val).pass = some p)
    (hpol : s.flag (R.SAR_SEQ_CFG_TRIG_POLICY n.val) = true) (ht0 : p.t0 ≤ s.now + dt) :
    ∃ t, exec (.sarTriggerFire dt n) s = .next t ∧ (t.sarSt n.val).restart = some (s.now + dt)
      ∧ (t.sarSt n.val).pass = some p ∧ (t.sarSt n.val).trig = rest := by
  have hlt := lt_of_pass hp
  have hst : ((s.fired n.val dt rest).setSar n.val (fun d => { d with restart := some (s.now + dt) })).sarSt n.val
      = { s.sarSt n.val with trig := rest, restart := some (s.now + dt) } := by
    rw [State.sarSt_setSar_same (by rwa [State.length_sar_fired]), State.sarSt_fired hlt]
  refine ⟨_, (exec_fire_restart h hp hpol).trans (congrArg Host.Outcome.next (if_neg (by omega))), ?_⟩
  rw [hst]
  exact ⟨rfl, hp, rfl⟩

theorem fire_restart_replaces (h : s.fires n.val dt rest) (hp : (s.sarSt n.val).pass = some p)
    (hpol : s.flag (R.SAR_SEQ_CFG_TRIG_POLICY n.val) = true) (ht0 : s.now + dt < p.t0) :
    ∃ t, exec (.sarTriggerFire dt n) s = .next t
      ∧ (t.sarSt n.val).pass.map (fun q => q.fireAt) = some (s.now + dt)
      ∧ t.get (R.SAR_OVR_COUNT_RESTART n.val)
        = counted (R.SAR_OVR_COUNT_RESTART n.val) (s.get (R.SAR_OVR_COUNT_RESTART n.val)) := by
  refine ⟨_, (exec_fire_restart h hp hpol).trans (congrArg Host.Outcome.next (if_pos ht0)), ?_, ?_⟩
  · rw [State.sarSt_startPass_same]
    · rfl
    · rw [State.sar_inc]
      change n.val < (s.fired n.val dt rest).sar.length
      rw [State.length_sar_fired]
      exact lt_of_pass hp
  · rw [State.regsBut_startPass_pass _ _ _ _ _ (by
      simp only [List.mem_cons, List.not_mem_nil, or_false, List.map_cons, List.map_nil, Reg.key,
        R.SAR_OVR_COUNT_RESTART, R.SAR_STATUS_RUNNING, R.SAR_STATUS_PENDING]
      omega),
      State.get_inc_same (by simp [R.SAR_OVR_COUNT_RESTART])]
    rfl

/-! ### Conversions -/

/-- A pass that goes on stands at its next entry. -/
theorem pass_goesOn (hp : (s.sarSt n.val).pass = some p) (nv : Int) (len : Nat) (lost : Bool) :
    (((((s.delivered n.val p nv).advanced n.val p len).closed n.val p len lost).sarSt n.val).pass.map
      (fun q => q.idx)) = some (p.idx + 1) := by
  have hrun := s.run_delivered n.val n.val p nv
  simp only [SarSt.run, Prod.mk.injEq] at hrun
  have hlt : n.val < (s.delivered n.val p nv).sar.length := lt_of_pass (hrun.1.trans hp)
  rw [State.sarSt_of_sar (State.sar_of_sameBut (State.sameBut_closed _ n.val p len lost)), State.advanced,
    State.sarSt_setSar_same hlt]
  rfl

/-- What the deadline of a pass touches is no result's. -/
theorem results_notMem_deadline (n : Fin 5) (i : Fin 16) : ∀ r ∈ [R.SAR_RESULT_CODE n.val i.val,
    R.SAR_RESULT_CLIP n.val i.val, R.SAR_RESULT_LATE n.val i.val, R.SAR_RESULT_PARTIAL n.val i.val],
    r.key ∉ (deadlineFields n.val).map Reg.key ∧ r.key ∉ (checkFields n.val).map Reg.key := by
  revert n i
  decide

/-- Past the result's delivery its registers stay. -/
theorem get_goesOn (s : State) (n : Fin 5) (i : Fin 16) (p : SarPass) (len : Nat) (lost : Bool) :
    ∀ r ∈ [R.SAR_RESULT_CODE n.val i.val, R.SAR_RESULT_CLIP n.val i.val, R.SAR_RESULT_LATE n.val i.val,
      R.SAR_RESULT_PARTIAL n.val i.val], ((s.advanced n.val p len).closed n.val p len lost).get r = s.get r :=
  fun r hr => (s.advanced n.val p len).regsBut_closed n p len lost r (results_notMem_deadline n i r hr).1

theorem conversion_lost (h : s.converts n.val dt p) (hi : p.idx < 16) (hl : s.lostNext 8 = true)
    (hr : (s.sarSt n.val).restart = none) :
    ∃ t, exec (.sarConversionDone dt n nv) s = .next t
      ∧ t.get (R.SAR_RESULT_CODE n.val p.idx) = s.get (R.SAR_RESULT_CODE n.val p.idx)
      ∧ t.sys.lostWord = s.sys.lostWord.erase 8
      ∧ (t.sarSt n.val).pass.map (fun q => q.idx) = some (p.idx + 1) := by
  have hregs := State.regs_of_sameBut ((s.elapse dt).sameBut_coded n.val p nv)
  have hsys := State.sys_of_sameBut ((s.elapse dt).sameBut_coded n.val p nv)
  have hlost : (s.elapse dt).delivered n.val p nv = _ := State.delivered_of_lost hl
  refine ⟨_, exec_conversion_goesOn h hr, ?_, ?_, pass_goesOn (s := s.elapse dt) h.2.1 nv _ _⟩
  · rw [get_goesOn _ n ⟨p.idx, hi⟩ p _ _ _ (by simp), hlost, State.get, State.regs_meterAbsent]
    exact congrArg (RegFile.get · (R.SAR_RESULT_CODE n.val p.idx)) hregs
  · rw [State.sys_of_sameBut (State.sameBut_closed _ n.val p _ _)]
    change ((s.elapse dt).delivered n.val p nv).sys.lostWord = _
    rw [hlost, State.sys_meterAbsent]
    exact congrArg (fun d : SysSt => d.lostWord.erase 8) hsys

/-- A result that the crossing lets through stands in its registers when the pass goes on. -/
theorem shown_goesOn (s : State) (n : Fin 5) (p : SarPass) (nv : Int) (len : Nat) (lost : Bool) (hi : p.idx < 16)
    (hl : s.lostNext 8 = false) :
    let t := ((s.delivered n.val p nv).advanced n.val p len).closed n.val p len lost
    t.get (R.SAR_RESULT_CODE n.val p.idx) = (s.coded n.val p nv).1 % 2 ^ 16
    ∧ t.flag (R.SAR_RESULT_CLIP n.val p.idx) = (s.coded n.val p nv).2.1
    ∧ t.flag (R.SAR_RESULT_LATE n.val p.idx) = p.late
    ∧ t.flag (R.SAR_RESULT_PARTIAL n.val p.idx) = false := by
  intro t
  obtain ⟨hcode, hclip, hlate, hpartial⟩ := (s.coded n.val p nv).2.2.shown_resultShown n.val p
    (s.coded n.val p nv).1 (s.get (R.SAR_ENTRY_GAIN n.val p.idx)) (s.coded n.val p nv).2.1
  have hkeep : ∀ r ∈ [R.SAR_RESULT_CODE n.val p.idx, R.SAR_RESULT_CLIP n.val p.idx, R.SAR_RESULT_LATE n.val p.idx,
      R.SAR_RESULT_PARTIAL n.val p.idx], t.get r = ((s.coded n.val p nv).2.2.resultShown n.val p (s.coded n.val p nv).1
        (s.get (R.SAR_ENTRY_GAIN n.val p.idx)) (s.coded n.val p nv).2.1).get r := by
    intro r hr
    rw [get_goesOn _ n ⟨p.idx, hi⟩ p len lost r hr, State.delivered_of_kept hl]
    exact State.regsBut_sarResult _ n.val p _ _ _ r (results_notMem_deadline n ⟨p.idx, hi⟩ r hr).2
  refine ⟨(hkeep _ (by simp)).trans hcode, ?_, ?_, ?_⟩ <;> rw [State.flag_eq, hkeep _ (by simp), ← State.flag_eq]
  · exact hclip
  · exact hlate
  · exact hpartial

theorem conversion_delivered (h : s.converts n.val dt p) (hi : p.idx < 16) (hl : s.lostNext 8 = false)
    (hr : (s.sarSt n.val).restart = none) :
    ∃ t, exec (.sarConversionDone dt n nv) s = .next t
      ∧ t.get (R.SAR_RESULT_CODE n.val p.idx)
        = ((s.elapse dt).sarCode nv (s.get (R.SAR_ENTRY_GAIN n.val p.idx))).1 % 2 ^ 16
      ∧ t.flag (R.SAR_RESULT_CLIP n.val p.idx)
        = ((s.elapse dt).sarCode nv (s.get (R.SAR_ENTRY_GAIN n.val p.idx))).2.1
      ∧ t.flag (R.SAR_RESULT_LATE n.val p.idx) = p.late
      ∧ t.flag (R.SAR_RESULT_PARTIAL n.val p.idx) = false
      ∧ (t.sarSt n.val).pass.map (fun q => q.idx) = some (p.idx + 1) := by
  obtain ⟨hcode, hclip, hlate, hpartial⟩ := shown_goesOn (s.elapse dt) n p nv (s.get (R.SAR_SEQ_CFG_LEN n.val))
    (((s.elapse dt).coded n.val p nv).2.2.lostNext 8) hi hl
  exact ⟨_, exec_conversion_goesOn h hr, hcode, hclip, hlate, hpartial, pass_goesOn (s := s.elapse dt) h.2.1 nv _ _⟩

/-- A restart's count and a result's mark are not what a delivery's checks or a pass that starts touch. -/
theorem restartCount_notMem (n : Fin 5) (i : Fin 16) :
    (R.SAR_OVR_COUNT_RESTART n.val).key ∉ (resultFields n.val i.val ++ checkFields n.val).map Reg.key
    ∧ (R.SAR_OVR_COUNT_RESTART n.val).key ∉ (passFields n.val).map Reg.key
    ∧ (R.SAR_RESULT_PARTIAL n.val i.val).key ∉ (passFields n.val).map Reg.key := by
  revert n i
  decide

theorem conversion_abandoned (h : s.converts n.val dt p) (hi : p.idx < 16)
    (hr : (s.sarSt n.val).restart = some f) :
    ∃ t, exec (.sarConversionDone dt n nv) s = .next t
      ∧ (t.sarSt n.val).pass.map (fun q => (q.fireAt, q.t0, q.idx)) = some (f, p.ends, 0)
      ∧ t.flag (R.SAR_RESULT_PARTIAL n.val p.idx) = true
      ∧ t.get (R.SAR_OVR_COUNT_RESTART n.val)
        = counted (R.SAR_OVR_COUNT_RESTART n.val) (s.get (R.SAR_OVR_COUNT_RESTART n.val)) := by
  obtain ⟨hcount, hcount', hmark⟩ := restartCount_notMem n ⟨p.idx, hi⟩
  obtain ⟨hpartial, hrestart⟩ := ((s.elapse dt).delivered n.val p nv).shown_abandoned n.val p.idx
  have hrun := (s.elapse dt).run_delivered n.val n.val p nv
  simp only [SarSt.run, Prod.mk.injEq] at hrun
  have hlt : n.val < (((s.elapse dt).delivered n.val p nv).abandoned n.val p.idx).sar.length := by
    rw [State.sar_abandoned]
    exact lt_of_pass (hrun.1.trans h.2.1)
  refine ⟨_, exec_conversion_abandons h hr, ?_, ?_, ?_⟩
  · rw [State.sarSt_startPass_same hlt]
    rfl
  · rw [(State.regsBut_startPass_pass _ n.val f p.ends).flag hmark, hpartial]
  · rw [State.regsBut_startPass_pass _ n.val f p.ends _ hcount', hrestart,
      (s.elapse dt).regsBut_delivered n.val p nv _ hcount]
    rfl

/-! ### A pair with one result missing (R132) -/

theorem State.exec_plausMissing {p : Fin 2} {w : Int} {c : Bool} (hr : s.sarRuns = true)
    (hp : (s.sarSt (2 * p.val)).pairNew = some (w, c, t0)) (ht : t0 + ms 1 ≤ s.now + dt) :
    exec (.plausMissing dt p) s = .next (((((s.elapse dt).setSar (2 * p.val)
      (fun d => { d with pairNew := none })).setSar (2 * p.val + 1) (fun d => { d with pairNew := none })).inc
        (R.SAR_PLAUS_COUNT_MISSING (2 * p.val))).plausFail (2 * p.val)) := by
  have hp' : ((s.elapse dt).sarSt (2 * p.val)).pairNew = some (w, c, t0) := hp
  change execPlausMissing dt p s = _
  exact if_pos ⟨hr, .inl (by dsimp only; rw [hp']; exact decide_eq_true ht)⟩

@[simp] theorem State.sar_plausFail (s : State) (b : Nat) : (s.plausFail b).sar = s.sar :=
  State.sar_of_sameBut (keeps_plausFail (keeps_sameBut [.recent, .log, .pod, .regs] s) s b (State.sameBut_refl _ s))

theorem plausFail_notMem (p : Fin 2) : ∀ r ∈ [H.IRQ_RAW (pgSar (2 * p.val)), R.GLOG_CNT_LOST, R.GLOG_STATUS_LOST_SEEN],
    (R.SAR_PLAUS_COUNT_FAIL (2 * p.val)).key ≠ r.key := by
  revert p
  decide

/-- A failed pair is counted. -/
theorem State.fail_plausFail (s : State) (p : Fin 2) :
    (s.plausFail (2 * p.val)).get (R.SAR_PLAUS_COUNT_FAIL (2 * p.val))
    = counted (R.SAR_PLAUS_COUNT_FAIL (2 * p.val)) (s.get (R.SAR_PLAUS_COUNT_FAIL (2 * p.val))) := by
  have hne : (R.SAR_PLAUS_COUNT_FAIL (2 * p.val)).key ≠ (R.SAR_PLAUS_STAT_RUN (2 * p.val)).key := by
    simp only [Reg.key, R.SAR_PLAUS_COUNT_FAIL, R.SAR_PLAUS_STAT_RUN]
    omega
  have hkeep : ((s.inc (R.SAR_PLAUS_STAT_RUN (2 * p.val))).inc (R.SAR_PLAUS_COUNT_FAIL (2 * p.val))).regsBut
      [H.IRQ_RAW (pgSar (2 * p.val)), R.GLOG_CNT_LOST, R.GLOG_STATUS_LOST_SEEN] (s.plausFail (2 * p.val)) := by
    have h := ((s.inc (R.SAR_PLAUS_STAT_RUN (2 * p.val))).inc (R.SAR_PLAUS_COUNT_FAIL (2 * p.val))).regsBut_of_regs
      (l := [H.IRQ_RAW (pgSar (2 * p.val)), R.GLOG_CNT_LOST, R.GLOG_STATUS_LOST_SEEN])
    unfold State.plausFail
    exact .ite h.irq.irqLog h.irq
  rw [hkeep _ (by simpa using plausFail_notMem p), State.get_inc_same (by simp [R.SAR_PLAUS_COUNT_FAIL]),
    State.get_inc_other hne]

theorem missing_notMem (p : Fin 2) : (R.SAR_PLAUS_COUNT_MISSING (2 * p.val)).key ∉
    [R.SAR_PLAUS_STAT_RUN (2 * p.val), R.SAR_PLAUS_COUNT_FAIL (2 * p.val), H.IRQ_RAW (pgSar (2 * p.val)),
      R.GLOG_CNT_LOST, R.GLOG_STATUS_LOST_SEEN].map Reg.key := by
  revert p
  decide

theorem plausMissing_counts {p : Fin 2} {w : Int} {c : Bool} (hr : s.sarRuns = true)
    (hp : (s.sarSt (2 * p.val)).pairNew = some (w, c, t0)) (ht : t0 + ms 1 ≤ s.now + dt) :
    ∃ t, exec (.plausMissing dt p) s = .next t ∧ (t.sarSt (2 * p.val)).pairNew = none
      ∧ (t.sarSt (2 * p.val + 1)).pairNew = none
      ∧ t.get (R.SAR_PLAUS_COUNT_MISSING (2 * p.val))
        = counted (R.SAR_PLAUS_COUNT_MISSING (2 * p.val)) (s.get (R.SAR_PLAUS_COUNT_MISSING (2 * p.val)))
      ∧ t.get (R.SAR_PLAUS_COUNT_FAIL (2 * p.val))
        = counted (R.SAR_PLAUS_COUNT_FAIL (2 * p.val)) (s.get (R.SAR_PLAUS_COUNT_FAIL (2 * p.val))) := by
  have hcleared (u : State) (j : Nat) :
      ((u.setSar j (fun d => { d with pairNew := none })).sarSt j).pairNew = none := by
    rcases lt_or_ge j u.sar.length with hlt | hge
    · rw [State.sarSt_setSar_same hlt]
    · rw [State.sarSt_of_le (by rwa [State.length_sar_setSar])]
  have hne : (R.SAR_PLAUS_COUNT_FAIL (2 * p.val)).key ≠ (R.SAR_PLAUS_COUNT_MISSING (2 * p.val)).key := by
    simp only [Reg.key, R.SAR_PLAUS_COUNT_FAIL, R.SAR_PLAUS_COUNT_MISSING]
    omega
  refine ⟨_, State.exec_plausMissing hr hp ht, ?_, ?_, ?_, ?_⟩
  · rw [State.sarSt_of_sar (State.sar_plausFail _ _), State.sarSt_of_sar (State.sar_inc _ _),
      State.sarSt_setSar_other (by omega)]
    exact hcleared _ _
  · rw [State.sarSt_of_sar (State.sar_plausFail _ _), State.sarSt_of_sar (State.sar_inc _ _)]
    exact hcleared _ _
  · rw [State.regsBut_plausFail _ _ _ (missing_notMem p), State.get_inc_same (by simp [R.SAR_PLAUS_COUNT_MISSING])]
    rfl
  · rw [State.fail_plausFail, State.get_inc_other hne]
    rfl

/-! ### The end of a pass -/

theorem passEnd_shows (hr : s.sarRuns = true) (hp : (s.sarSt n.val).pass = some p)
    (hlen : s.get (R.SAR_SEQ_CFG_LEN n.val) < p.idx)
    (hc : ((s.elapse dt).undrop (pgSar n.val)).commitWaits (pgSar n.val) = false)
    (hpend : (s.sarSt n.val).pend = none) (hrestart : (s.sarSt n.val).restart = none)
    (hsrc : s.get (R.SAR_TRIG_SRC n.val) ≠ 7) :
    ∃ t, exec (.sarPassEnd dt n) s = .next t ∧ t.get (R.SAR_PASS_T0_NS n.val) = p.stamp % 2 ^ 64
      ∧ (t.sarSt n.val).pass = none ∧ (t.get (H.IRQ_RAW (pgSar n.val))).testBit 0 = true := by
  have hover := ((s.elapse dt).passOver_passShown (p := p) (lt_of_pass hp) hpend hrestart hsrc).sarBoundary
    ((State.commitWaits_passShown _ n.val p passEnded).trans hc) p.ends
  have hrun := hover.run
  simp only [SarSt.run, Prod.mk.injEq] at hrun
  exact ⟨_, exec_sarPassEnd hr hp hlen, hover.time, hrun.1, hover.event⟩

end Sys2Proof.Machine

open Sys2Proof.Machine

/-- Settles O48, situation by situation. -/
theorem sarPassCommands : Obligations.SarPassCommands :=
  ⟨fun _ _ _ _ hg hr ht hf hp => fire_free_starts ⟨hg, hr, ht⟩ hf hp,
    fun _ _ _ _ hg hr ht hf hp hpol => fire_busy_waits ⟨hg, hr, ht⟩ hf hp hpol,
    fun _ _ _ _ _ hg hr ht hp hpol => fire_pending_overruns ⟨hg, hr, ht⟩ hp hpol,
    fun _ _ _ _ _ hg hr ht hp hpol ht0 => fire_restart_abandons ⟨hg, hr, ht⟩ hp hpol ht0,
    fun _ _ _ _ _ hg hr ht hp hpol ht0 => fire_restart_replaces ⟨hg, hr, ht⟩ hp hpol ht0,
    fun _ _ _ _ _ hr hp hi hlen he hl hres => conversion_lost ⟨hr, hp, hlen, he⟩ hi hl hres,
    fun _ _ _ _ _ _ hr hp hi hlen he hres => conversion_abandoned ⟨hr, hp, hlen, he⟩ hi hres,
    fun _ _ _ _ _ hr hl hp hres hi hlen he => conversion_delivered ⟨hr, hp, hlen, he⟩ hi hl hres,
    fun _ _ _ _ hr hp hlen hc hpend hres hsrc => passEnd_shows hr hp hlen hc hpend hres hsrc,
    fun _ _ _ _ _ _ hr hp ht => plausMissing_counts hr hp ht⟩
end

section
/-! What the cell power block, the guard and the Kernel leave of the sensing engines (O46, O47): each of their
operations touches registers of a list and no sensing engine. -/

-- One proof after another: many at once take a thread each (see Laws/KeepsChannel).
set_option Elab.async false

namespace Sys2Proof.Machine

variable {s t u : State} {l k : List Reg} {r : Reg} {x y g n p b v : Nat}

/-! ### Operations that spare the sensing engines -/

/-- The sensing engines of the channels. -/
def State.senses (s : State) : List SenseSt := s.chan.map ChSt.sense

/-- From `s` to `t` every register but those of `l` stays, and every sensing engine. -/
structure State.spares (s : State) (l : List Reg) (t : State) : Prop where
  regs : s.regsBut l t
  senses : t.senses = s.senses

theorem State.sense_eq_senses (s : State) (x : Nat) : (s.ch x).sense = s.senses.getD x {} := by
  unfold State.ch State.senses
  rw [List.getD_eq_getElem?_getD, List.getD_eq_getElem?_getD, List.getElem?_map]
  cases s.chan[x]? <;> rfl

theorem State.spares.sense (h : s.spares l t) (x : Nat) : (t.ch x).sense = (s.ch x).sense := by
  rw [State.sense_eq_senses, State.sense_eq_senses, h.senses]

theorem State.spares.get (h : s.spares l t) (hr : r.key ∉ l.map Reg.key) : t.get r = s.get r := h.regs r hr

theorem State.spares_refl (s : State) : s.spares l s := ⟨s.regsBut_of_regs, rfl⟩

theorem State.spares.trans (h : s.spares l t) (h' : t.spares l u) : s.spares l u :=
  ⟨h.regs.trans h'.regs, h'.senses.trans h.senses⟩

theorem State.spares.mono (h : s.spares l t) (hl : l ⊆ k) : s.spares k t := ⟨h.regs.mono hl, h.senses⟩

theorem State.spares.ite {c : Prop} [Decidable c] (ht : s.spares l t) (hu : s.spares l u) :
    s.spares l (if c then t else u) := by
  split
  · exact ht
  · exact hu

theorem State.spares.foldl {α : Type} {xs : List α} {f : State → α → State}
    (h : ∀ (t : State), ∀ a ∈ xs, t.spares l (f t a)) (s : State) : s.spares l (xs.foldl f s) :=
  List.foldlRecOn xs f s.spares_refl (fun t ht a ha => ht.trans (h t a ha))

/-- What leaves the channels alone spares what it leaves of the registers. -/
theorem State.spares.of_regs (h : s.spares l t) (hr : s.regsBut l u) (hc : u.chan = t.chan := by simp) :
    s.spares l u :=
  ⟨hr, (congrArg (List.map ChSt.sense) hc).trans h.senses⟩

theorem State.spares.keep (h : s.spares l t) (hr : u.regs = t.regs := by rfl) (hc : u.chan = t.chan := by rfl) :
    s.spares l u := h.of_regs (h.regs.keep hr) hc

/-- An operation whose parts have neither channels nor registers among them. -/
theorem State.spares_of_sameBut {k : List Part} (h : s.sameBut k t) (hr : .regs ∉ k := by decide)
    (hc : .chan ∉ k := by decide) (hd : .drop ∉ k := by decide) : s.spares l t := by
  obtain ⟨-, hd' | hall⟩ := h
  · exact absurd hd' hd
  · simp only [hr, hc, false_or] at hall
    exact s.spares_refl.keep (by simp only [hall]) (by simp only [hall])

theorem State.spares.set (h : s.spares l t) (hr : r ∈ l := by simp) : s.spares l (t.set r v) :=
  h.of_regs (h.regs.set hr)

theorem State.spares.setI (h : s.spares l t) {v : Int} (hr : r ∈ l := by simp) : s.spares l (t.setI r v) :=
  h.of_regs (h.regs.set hr)

theorem State.spares.setB (h : s.spares l t) {b : Bool} (hr : r ∈ l := by simp) : s.spares l (t.setB r b) :=
  h.of_regs (h.regs.setB hr)

theorem State.spares.setMaskBit (h : s.spares l t) (hr : r ∈ l := by simp) : s.spares l (t.setMaskBit r b) :=
  h.of_regs (h.regs.setMaskBit hr)

theorem State.spares.inc (h : s.spares l t) (hr : r ∈ l := by simp) : s.spares l (t.inc r) :=
  h.of_regs (h.regs.inc hr)

theorem State.spares.incWrap (h : s.spares l t) (hr : r ∈ l := by simp) : s.spares l (t.incWrap r) :=
  h.of_regs (h.regs.incWrap hr) (State.chan_set ..)

theorem State.spares.irq (h : s.spares l t) (hr : H.IRQ_RAW p ∈ l := by simp) : s.spares l (t.irq p b) :=
  h.of_regs (h.regs.irq hr)

theorem State.spares.logIt (h : s.spares l t) {sev code o : Nat} {d : List Nat} (hc : R.GLOG_CNT_LOST ∈ l := by simp)
    (hm : R.GLOG_STATUS_LOST_SEEN ∈ l := by simp) : s.spares l (t.logIt p sev code d o) :=
  h.of_regs (h.regs.logIt hc hm) (State.chan_submit ..)

theorem State.spares.irqLog (h : s.spares l t) {sev o : Nat} (hr : H.IRQ_RAW p ∈ l := by simp)
    (hc : R.GLOG_CNT_LOST ∈ l := by simp) (hm : R.GLOG_STATUS_LOST_SEEN ∈ l := by simp) :
    s.spares l (t.irqLog p b sev o) := (h.irq hr).logIt hc hm

theorem State.spares.err (h : s.spares l t) (hc : H.ERR_COUNT p ∈ l := by simp) (hi : H.IRQ_RAW p ∈ l := by simp) :
    s.spares l (t.err p) := h.of_regs (h.regs.err hc hi)

theorem State.spares.recordDouble (h : s.spares l t) (hc : R.GLOG_CNT_LOST ∈ l := by simp)
    (hm : R.GLOG_STATUS_LOST_SEEN ∈ l := by simp) : s.spares l (t.recordDouble p v) := by
  unfold State.recordDouble
  exact .ite h (.ite (.ite h (h.logIt hc hm).keep) (.ite h (h.logIt hc hm).keep))

/-- A change of a channel beside its sensing. -/
theorem State.spares.setCh (h : s.spares l t) {f : ChSt → ChSt} (hf : ∀ c, (f c).sense = c.sense) :
    s.spares l (t.setCh x f) := by
  refine ⟨h.regs.keep, Eq.trans ?_ h.senses⟩
  unfold State.senses State.setCh
  apply List.ext_getElem?
  intro i
  rw [List.getElem?_map, List.getElem?_map, List.getElem?_modify]
  cases t.chan[i]? with
  | none => rfl
  | some c =>
    simp only [Option.map_eq_map, Option.map_some, Option.some.injEq]
    split
    · exact hf c
    · rfl

theorem State.spares.setPwm (h : s.spares l t) {f : PwmSt → PwmSt} : s.spares l (t.setPwm x f) :=
  h.setCh (fun _ => rfl)

theorem State.spares.setLeg (h : s.spares l t) {f : LegSt → LegSt} : s.spares l (t.setLeg x y f) := h.setPwm

theorem State.spares.setGuard (h : s.spares l t) {f : GuardSt → GuardSt} : s.spares l (t.setGuard x f) :=
  h.setCh (fun _ => rfl)

theorem State.spares.setGroup (h : s.spares l t) {f : GroupSt → GroupSt} : s.spares l (t.setGroup x g f) := h.setGuard

theorem State.spares.setCell (h : s.spares l t) {f : CellSt → CellSt} : s.spares l (t.setCell x f) :=
  h.setCh (fun _ => rfl)

theorem State.spares.setKe (h : s.spares l t) {f : KeSt → KeSt} : s.spares l (t.setKe x f) :=
  h.setCh (fun _ => rfl)

/-! ### A channel is stopped -/

theorem State.spares_guardSync (s : State) (x : Nat) : s.spares (chanFields x) (s.guardSync x) := by
  unfold State.guardSync
  have h := s.spares_refl.setB (l := chanFields x) (r := R.GUARD_STATUS_MAP_OK x) (b := s.mapComplete x)
  exact .ite h.setB.setB.irq h.setB.setB

theorem State.spares_holdSync (s : State) (x : Nat) : s.spares (chanFields x) (s.holdSync x) := by
  unfold State.holdSync
  have h := s.spares_refl (l := chanFields x)
  exact .trans (.ite (.ite h h.setB.setGuard) (.ite h.setB.setGuard h)) (State.spares_guardSync _ x)

theorem State.spares_pwmStop (s : State) (x : Nat) : s.spares (chanFields x) (s.pwmStop x) := by
  unfold State.pwmStop
  exact .trans s.spares_refl.setB.setB.setPwm (State.spares_guardSync _ x)

theorem State.spares_dropScan (s : State) (x : Nat) : s.spares (chanFields x) (s.dropScan x) := by
  unfold State.dropScan
  split
  · exact s.spares_refl
  · exact s.spares_refl.set.setB.setCell

theorem State.spares_windowLost (s : State) (x code : Nat) : s.spares (chanFields x) (s.windowLost x code) := by
  unfold State.windowLost
  exact s.spares_refl.set.inc.irq.setCell

theorem State.spares_showOut (s : State) (x start : Nat) : s.spares (chanFields x) (s.showOut x start) := by
  unfold State.showOut State.setSat
  exact s.spares_refl.set

theorem State.spares_cellEnter (s : State) (x st : Nat) : s.spares (chanFields x) (s.cellEnter x st) :=
  s.spares_refl.of_regs (s.regsBut_cellEnter x st)
    (by unfold State.cellEnter; simp only [apply_ite State.chan, State.chan_setB, State.chan_set, ite_self])

theorem State.spares_husk (s : State) (x cause : Nat) : s.spares (chanFields x) (s.husk x cause) := by
  unfold State.husk
  extract_lets st stopped noScan noWindow idle silent left after
  have hscan : s.spares (chanFields x) noScan := (s.spares_pwmStop x).trans (State.spares_dropScan _ x)
  have hwindow : s.spares (chanFields x) noWindow := by
    dsimp only [noWindow]
    split
    next w _ =>
      have hshown := hscan.trans (State.spares_showOut _ x w.start)
      exact ((hshown.trans (State.spares_windowLost _ x 4)).ite hshown).ite hscan
    next => exact hscan
  have hsilent : s.spares (chanFields x) silent := hwindow.setCell.setCell.setB
  have hleft : s.spares (chanFields x) left := (hsilent.trans (State.spares_cellEnter _ x csHusk)).set.irq
  have hafter : s.spares (chanFields x) after := (hleft.inc.ite hleft).ite hsilent
  exact hafter.trans (State.spares_holdSync _ x)

/-- The registers that a channel fault can touch. -/
abbrev stopFields (x : Nat) : List Reg :=
  chanFields x ++ [R.PWM_STATUS_CH_FAULT x, H.IRQ_RAW (pgPwm x), R.KE_CTRL_EN x, R.KE_ACTIVE_STATE x,
    R.KE_STATUS_FB_DEGRADED x]

theorem State.spares_channelFault (s : State) (x : Nat) : s.spares (stopFields x) (s.channelFault x) := by
  have hstop (w : State) : w.spares (stopFields x) (w.keStop x) := by
    unfold State.keStop State.keHalted
    exact (State.spares.ite w.spares_refl.setB w.spares_refl.setB.set).setB.setKe
  unfold State.channelFault
  have h := s.spares_refl.setB (l := stopFields x) (r := R.PWM_STATUS_CH_FAULT x) (b := true)
  exact ((h.ite h.irq).trans (hstop _)).trans ((State.spares_husk _ x _).mono (List.subset_append_left _ _))

/-! ### The groups (R156, R171, R172) -/

/-- The registers of a group's state. -/
abbrev groupFields (x g : Nat) : List Reg :=
  [R.GUARD_GSTAT_LATCHED x g, R.GUARD_GSTAT_WAITING x g, R.GUARD_GSTAT_ESCALATED x g, R.GUARD_GSTAT_TRIPS x g,
    R.GUARD_GSTAT_COUNT x g]

/-- The registers that group `g` can touch. -/
abbrev mapFields (x g : Nat) : List Reg :=
  stopFields x ++ [R.PWM_GRP_ACT_ACTIVE x, R.GLOG_CNT_LOST, R.GLOG_STATUS_LOST_SEEN] ++ groupFields x g

theorem stop_subset_map (x g : Nat) : stopFields x ⊆ mapFields x g := fun _ h => by
  simp only [List.mem_append] at h ⊢
  exact .inl (.inl h)

theorem State.spares.guardSync (h : s.spares (mapFields x g) t) : s.spares (mapFields x g) (t.guardSync x) :=
  h.trans ((t.spares_guardSync x).mono fun _ hm => stop_subset_map x g (List.mem_append_left _ hm))

theorem State.spares.channelFault (h : s.spares (mapFields x g) t) : s.spares (mapFields x g) (t.channelFault x) :=
  h.trans ((t.spares_channelFault x).mono (stop_subset_map x g))

theorem State.spares_latchGroup (s : State) (x g : Nat) : s.spares (mapFields x g) (s.latchGroup x g) := by
  unfold State.latchGroup
  extract_lets latched noted released shown told
  have hlatched : s.spares (mapFields x g) latched := s.spares_refl.setB.setB
  have hnoted : s.spares (mapFields x g) noted := hlatched.keep
  have htold : s.spares (mapFields x g) told := hnoted.setGroup.setMaskBit.guardSync.irqLog
  exact .ite s.spares_refl (.ite htold.channelFault htold)

theorem State.spares_escalate (s : State) (x g : Nat) : s.spares (mapFields x g) (s.escalate x g) := by
  unfold State.escalate
  exact .ite s.spares_refl.setB.irqLog s.spares_refl

theorem State.spares_closeWindow (s : State) (x g : Nat) : s.spares (mapFields x g) (s.closeWindow x g) := by
  unfold State.closeWindow
  exact .ite s.spares_refl.set.setB s.spares_refl

theorem State.spares_activateGroup (s : State) (x g : Nat) : s.spares (mapFields x g) (s.activateGroup x g) := by
  unfold State.activateGroup
  extract_lets active shown closed opened counted n judged
  have hshown : s.spares (mapFields x g) shown := s.spares_refl.setMaskBit.inc.irq
  have hclosed : s.spares (mapFields x g) closed := hshown.trans (State.spares_closeWindow _ x g)
  have hcounted : s.spares (mapFields x g) counted := ((hclosed.setGroup.logIt).ite hclosed).inc
  have hjudged : s.spares (mapFields x g) judged := ((hcounted.trans (State.spares_latchGroup _ x g)).ite
    ((hcounted.trans (State.spares_escalate _ x g)).ite hcounted)).ite hshown
  exact .ite hjudged.channelFault hjudged

theorem State.spares_unrelease (s : State) (x g n : Nat) (e : Bool) :
    s.spares (mapFields x g) (s.unrelease x g n e) := by
  unfold State.unrelease
  exact s.spares_refl.setMaskBit.set.setB.setGroup

/-- The registers that the groups of the channel can touch. -/
abbrev groupsFields (x : Nat) : List Reg := (List.range 16).flatMap (mapFields x)

theorem map_subset_groups (hg : g ∈ List.range 16) : mapFields x g ⊆ groupsFields x :=
  fun _ hr => List.mem_flatMap.2 ⟨g, hg, hr⟩

theorem State.spares_groupsSync (s : State) (x : Nat) : s.spares (groupsFields x) (s.groupsSync x) := by
  unfold State.groupsSync
  extract_lets sourced
  have hsources : s.spares (groupsFields x) sourced := State.spares.foldl (fun t g hg => by
    refine State.spares.mono ?_ (map_subset_groups hg)
    dsimp only
    have hon : t.spares (mapFields x g) (t.setB (R.GUARD_GSTAT_WAITING x g) false) := t.spares_refl.setB
    have hoff := t.spares_refl (l := mapFields x g)
    refine .ite (.ite hon.setGroup ?_) (.ite hoff.setGroup.setB hoff.setGroup)
    split
    · exact hon.setGroup.trans (State.spares_unrelease ..)
    · exact hon.setGroup.trans (State.spares_activateGroup ..)) s
  have hescalated (w : State) : w.spares (groupsFields x) (w.escalateAll x) := State.spares.foldl (fun t g hg =>
    ((t.spares_escalate x g).ite t.spares_refl).mono (map_subset_groups hg)) w
  exact (hsources.trans (hescalated _)).trans ((State.spares_guardSync _ x).mono fun _ hr =>
    map_subset_groups (g := 0) (by decide) (stop_subset_map x 0 (List.mem_append_left _ hr)))

end Sys2Proof.Machine
end

section
/-! What a sample centre's cell power block and Kernel leave of the sensing engines (O46): the registers that they
touch are their own pages', and no sensing engine is among their parts (R185 to R216, R223 to R239). -/

-- One proof after another: many at once take a thread each (see Laws/KeepsChannel).
set_option Elab.async false

namespace Sys2Proof.Machine

variable {s t u : State} {l k : List Reg} {r : Reg} {x y n p b v : Nat}

theorem State.spares.iteSnd {α : Type} {c : Prop} [Decidable c] {e f : α × State} (he : s.spares l e.2)
    (hf : s.spares l f.2) : s.spares l (if c then e else f).2 := by
  split
  · exact he
  · exact hf

theorem State.spares.irqIf (h : s.spares l t) {c : Prop} [Decidable c] (hr : H.IRQ_RAW p ∈ l := by simp) :
    s.spares l (if c then t.irq p b else t) := (h.irq hr).ite h

/-! ### Reads of table memory (R21) -/

theorem State.spares_engineRead (s : State) (p a n : Nat) (hc : H.ERR_COUNT p ∈ l) (hi : H.IRQ_RAW p ∈ l)
    (hg : R.GLOG_CNT_LOST ∈ l) (hm : R.GLOG_STATUS_LOST_SEEN ∈ l) : s.spares l (s.engineRead p a n).2 := by
  unfold State.engineRead
  refine List.foldlRecOn (motive := fun (e : Bool × State) => s.spares l e.2) s.ecc _ s.spares_refl (fun e he w _ => ?_)
  obtain ⟨ok, t⟩ := e
  obtain ⟨a', bits⟩ := w
  dsimp only at he ⊢
  split
  · split
    · exact he.err hc hi
    · exact he.recordDouble hg hm
  · exact he

/-! ### The cell power block -/

/-- The registers that a sample centre's cell power block can touch. -/
abbrev blockFields (x : Nat) : List Reg :=
  stopFields x ++ [R.CELL_E_USABLE_MJ x, R.CELL_P_AVAIL_W x, R.CELL_I_REF_MA x, R.CELL_STATUS_REFUSE x,
    H.ERR_COUNT (pgCell x), R.GLOG_CNT_LOST, R.GLOG_STATUS_LOST_SEEN]

theorem stop_subset_block (x : Nat) : stopFields x ⊆ blockFields x := List.subset_append_left _ _

theorem chan_subset_block (x : Nat) : chanFields x ⊆ blockFields x :=
  fun _ h => stop_subset_block x (List.mem_append_left _ h)

theorem State.spares.blockFault (h : s.spares (blockFields x) t) : s.spares (blockFields x) (t.channelFault x) :=
  h.trans ((t.spares_channelFault x).mono (stop_subset_block x))

theorem State.spares_curveRead (s : State) (x n : Nat) :
    s.spares (blockFields x) (s.engineRead (pgCell x) (cellArea x) n).2 :=
  s.spares_engineRead _ _ _ (by simp) (by simp) (by simp) (by simp)

theorem State.spares_cellFresh (s : State) (x stale : Nat) : s.spares l (s.cellFresh x stale) := by
  unfold State.cellFresh
  exact s.spares_refl.setCell.setCell

theorem State.spares_cellSums (s : State) (x stale : Nat) : s.spares l (s.cellSums x stale) := by
  unfold State.cellSums
  exact s.spares_refl.setCell.setCell.setCell

theorem State.spares_zeroWords (s : State) (x : Nat) : s.spares l (s.zeroWords x) := by
  unfold State.zeroWords
  exact s.spares_refl.setCell

theorem State.spares_clipCheck (s : State) (x : Nat) : s.spares (blockFields x) (s.clipCheck x) := by
  have hend : s.spares (blockFields x) (s.endWindow x 3) := by
    unfold State.endWindow
    exact ((s.spares_windowLost x 3).mono (chan_subset_block x)).setCell
  unfold State.clipCheck
  split
  · exact hend.ite s.spares_refl
  · exact s.spares_refl

theorem State.spares_loopOf (s : State) (x : Nat) : s.spares l (s.loopOf x).2.2 :=
  State.spares_of_sameBut (keeps_loopOf (keeps_sameBut [.freeCtr] s) s x (State.sameBut_refl _ s))

theorem State.spares_fraction (s : State) (key : Nat) (v : Rat) (fs : Int) : s.spares l (s.fraction key v fs).2 :=
  State.spares_of_sameBut (keeps_fraction (keeps_sameBut [.freeCtr] s) s key v fs (State.sameBut_refl _ s))

theorem State.spares_cellLoop (s : State) (x : Nat) (fresh : Bool) : s.spares (blockFields x) (s.cellLoop x fresh) := by
  have hloop := s.spares_loopOf x (l := blockFields x)
  unfold State.cellLoop
  dsimp only
  exact ((((State.spares.iteSnd ((hloop.setI.ite hloop).trans (State.spares_fraction ..)) (hloop.setI.ite hloop)).trans
    (State.spares_fraction ..)).trans (State.spares_fraction ..)).irqIf).setCell

theorem State.spares_joinCheck (s : State) (x : Nat) : s.spares (blockFields x) (s.joinCheck x).2 := by
  unfold State.joinCheck
  have hread := s.spares_curveRead x 0x2000
  dsimp only
  split
  · exact s.spares_refl
  · split
    · exact hread
    · exact hread.blockFault

theorem State.spares_requestJoin (s : State) (x : Nat) : s.spares (blockFields x) (s.requestJoin x) := by
  have hcheck := s.spares_joinCheck x
  have henter {w : State} (st : Nat) (h : s.spares (blockFields x) w) : s.spares (blockFields x) (w.cellEnter x st) :=
    h.trans ((w.spares_cellEnter x st).mono (chan_subset_block x))
  unfold State.requestJoin State.refuseJoin
  exact .ite (henter csHusk hcheck.set.irq) (henter csWaitDc hcheck.set.setB).setCell

theorem State.spares_autoJoin (s : State) (x : Nat) : s.spares (blockFields x) (s.autoJoin x) :=
  (s.spares_requestJoin x).ite s.spares_refl

theorem State.spares_shellSync (s : State) (x : Nat) : s.spares (blockFields x) (s.shellSync x) := by
  unfold State.shellSync
  exact .ite s.spares_refl.setB.setCell (.ite s.spares_refl.setB s.spares_refl)

theorem State.spares_cellSample (s : State) (x : Nat) : s.spares (blockFields x) (s.cellSample x) := by
  unfold State.cellSample
  extract_lets stale usable judged c summed sampled
  have hjudged : s.spares (blockFields x) judged := by
    have hset : s.spares (blockFields x) usable := by
      dsimp only [usable, State.setSat]
      exact s.spares_refl.set
    exact hset.trans (State.spares_cellFresh _ x stale)
  have hsummed : s.spares (blockFields x) summed :=
    (hjudged.trans (State.spares_cellSums _ x stale)).trans (State.spares_clipCheck _ x)
  clear_value summed
  have hsampled : s.spares (blockFields x) sampled := by
    dsimp only [sampled]
    have hread := hsummed.trans (State.spares_curveRead _ x 0x110)
    generalize summed.engineRead (pgCell x) (cellArea x) 0x110 = read at hread ⊢
    exact .ite (.ite hread.blockFault ((State.spares.ite hread hread.setI).trans (State.spares_cellLoop ..)))
      (hsummed.trans (State.spares_zeroWords ..))
  clear_value sampled
  split
  · exact hjudged.trans ((State.spares_refl _).keep.trans ((State.spares_husk _ x _).mono (chan_subset_block x)))
  · exact (hsampled.trans (State.spares_autoJoin _ x)).trans (State.spares_shellSync _ x)

end Sys2Proof.Machine
end

section
/-! What the Kernel's part of a sample centre leaves of the sensing engines (O46): law, start, step, commit and
faults (R185 to R216, R224, R225). -/

-- One proof after another: many at once take a thread each (see Laws/KeepsChannel).
set_option Elab.async false

namespace Sys2Proof.Machine

variable {s t u : State} {l k : List Reg} {r : Reg} {x y n p b v : Nat}

/-- The registers that the Kernel's law, its start and its faults can touch. -/
abbrev lawFields (x : Nat) : List Reg :=
  stopFields x ++ [R.KE_CNT_A_DROPPED x, H.IRQ_RAW (pgKe x), R.KE_STATUS_REF_LOST x, R.KE_STATUS_KFAULT x,
    R.KE_FAULT_CAUSE x, R.KE_STATUS_INT_WRAP x, R.KE_FAULT_WRAP_STATE x, R.KE_CNT_C_ACC_SAT x,
    R.KE_STATUS_ACC_SAT x, R.KE_ACTIVE_REGION x, R.KE_ACTIVE_SCHED x, R.KE_ACTIVE_BANK x, R.KE_ACTIVE_MODE_CODE x,
    R.KE_ACTIVE_HOLD x, R.KE_ACTIVE_RAMPING x, R.KE_CNT_A_HOLDOVERS x, R.KE_CNT_B_REGIONS x, R.KE_CNT_B_XFERS x,
    H.ERR_COUNT (pgKe x), H.ERR_COUNT (pgPwm x), R.GLOG_CNT_LOST, R.GLOG_STATUS_LOST_SEEN]
  ++ (List.range 4).map (R.PWM_ACMP_KWAIT x)

/-- The registers that the Kernel can touch at a sample centre: those and its page's commit. -/
abbrev kernelFields (x : Nat) : List Reg := lawFields x ++ commitFields (pgKe x)

theorem stop_subset_kernel (x : Nat) : stopFields x ⊆ kernelFields x := fun _ h => by
  simp only [List.mem_append] at h ⊢
  exact .inl (.inl (.inl h))

theorem chan_subset_kernel (x : Nat) : chanFields x ⊆ kernelFields x :=
  fun _ h => stop_subset_kernel x (List.mem_append_left _ h)

theorem commit_subset_kernel (x : Nat) : commitFields (pgKe x) ⊆ kernelFields x := List.subset_append_right _ _

theorem kwait_mem_kernel (hy : y ∈ List.range 4) : R.PWM_ACMP_KWAIT x y ∈ kernelFields x :=
  List.mem_append_left _ (List.mem_append_right _ (List.mem_map_of_mem hy))

theorem irqKe_mem_kernel (x : Nat) : H.IRQ_RAW (pgKe x) ∈ kernelFields x := by simp

/-! ### Faults and counts (R192, R193, R216) -/

theorem State.spares_kernelFault (s : State) (x cause : Nat) : s.spares (kernelFields x) (s.kernelFault x cause) := by
  unfold State.kernelFault
  exact s.spares_refl.setB.set.irqLog.trans ((State.spares_channelFault _ x).mono (stop_subset_kernel x))

theorem State.spares_stateWrap (s : State) (x low : Nat) : s.spares (kernelFields x) (s.stateWrap x low) := by
  unfold State.stateWrap
  exact s.spares_refl.setB.set.irqLog.trans (State.spares_kernelFault _ x 3)

theorem State.spares_accSat (s : State) (x n : Nat) : s.spares (kernelFields x) (s.accSat x n) := by
  unfold State.accSat
  exact .ite s.spares_refl (State.spares.foldl (fun t _ _ => t.spares_refl.inc) s).setB.irq

theorem State.spares_shapeAll (s : State) (x : Nat) (y v : List Int) : s.spares l (s.shapeAll x y v).2 :=
  s.spares_refl.keep

/-! ### Reads of the Kernel's area (R21) -/

theorem State.spares_keEngineRead (s : State) (x a n : Nat) :
    s.spares (kernelFields x) (s.engineRead (pgKe x) a n).2 :=
  s.spares_engineRead _ _ _ (by simp) (irqKe_mem_kernel x) (by simp) (by simp)

theorem State.spares_keRead (s : State) (x d : Nat) (banks : List Nat) :
    s.spares (kernelFields x) (s.keRead x d banks).2 :=
  List.foldlRecOn (motive := fun (e : Bool × State) => s.spares (kernelFields x) e.2) banks _
    (s.spares_keEngineRead x _ _) (fun _ he _ _ => he.trans (State.spares_keEngineRead _ x _ _))

theorem State.spares_schedRead (s : State) (x d : Nat) : s.spares (kernelFields x) (s.schedRead x d).2 :=
  List.foldlRecOn (motive := fun (e : Bool × State) => s.spares (kernelFields x) e.2) _ _
    (s.spares_keEngineRead x _ _)
    (fun _ he _ _ => (he.trans (State.spares_keEngineRead _ x _ _)).trans (State.spares_keEngineRead _ x _ _))

/-! ### The commit at a sample centre (R205, R208) -/

theorem State.chan_of_sameBut {k : List Part} (h : s.sameBut k t) (hc : .chan ∉ k := by decide)
    (hd : .drop ∉ k := by decide) : t.chan = s.chan := by
  obtain ⟨-, hd' | hall⟩ := h
  · exact absurd hd' hd
  · simp only [hc, false_or] at hall
    simp only [hall]

theorem State.spares_undrop (s : State) (p : Nat) : s.spares [H.COMMIT_GO p] (s.undrop p) := by
  have hstaged (l : List (Nat × Nat)) :
      s.spares [H.COMMIT_GO p] (l.foldl (fun (u : State) e => u.stageKey e.1 e.2) s) :=
    State.spares.foldl (fun t _ _ => t.spares_refl.keep) s
  unfold State.undrop
  split
  · exact s.spares_refl
  · split
    · exact s.spares_refl
    · exact State.spares.keep (((hstaged _).setKe.ite (hstaged _)).setB (r := H.COMMIT_GO p) (b := true))

theorem State.spares_doCommit (s : State) (p : Nat) : s.spares (commitFields p) (s.doCommit p) :=
  s.spares_refl.of_regs (s.regsBut_doCommit p)
    (State.chan_of_sameBut (keeps_doCommit (keeps_sameBut [.recent, .regs, .staged] s) s p (State.sameBut_refl _ s)))

theorem State.spares_refuseCommit (s : State) (p : Nat) : s.spares (commitFields p) (s.refuseCommit p) :=
  s.spares_refl.of_regs (s.regsBut_refuseCommit p)
    (State.chan_of_sameBut (keeps_refuseCommit (keeps_sameBut [.recent, .pod, .regs, .staged] s) s p
      (State.sameBut_refl _ s)))

theorem State.spares_keCommitAt (s : State) (x : Nat) : s.spares (kernelFields x) (s.keCommitAt x) := by
  unfold State.keCommitAt
  extract_lets undropped c d
  have hback : s.spares (kernelFields x) undropped := (s.spares_undrop (pgKe x)).mono (by simp)
  clear_value undropped
  refine .ite (.ite (.ite hback hback.setKe) (.ite ?_ ?_)) hback
  · exact hback.trans ((State.spares_doCommit _ _).mono (commit_subset_kernel x))
  · exact hback.trans ((State.spares_refuseCommit _ _).mono (commit_subset_kernel x))

/-! ### A join's step (R224) -/

theorem State.spares_writeIndex (s : State) (x y : Nat) (m : Int) : s.spares l (s.writeIndex x y m) := by
  unfold State.writeIndex
  exact s.spares_refl.setLeg.ite s.spares_refl

theorem State.spares_startSubst (s : State) (x : Nat) : s.spares l (s.startSubst x) := by
  unfold State.startSubst State.writeZeroState
  exact ((s.spares_refl.setCell.trans (State.spares_zeroWords _ x)).trans (State.spares_writeIndex ..)).trans
    (State.spares_writeIndex ..)

theorem State.spares_pwmEnable (s : State) (x : Nat) : s.spares (kernelFields x) (s.pwmEnable x) := by
  unfold State.pwmEnable
  extract_lets shown enabled waiting
  have hwaiting : s.spares (kernelFields x) waiting :=
    State.spares.trans s.spares_refl.setB.setPwm (State.spares.foldl
      (fun t _ hy => (t.spares_refl.setB (kwait_mem_kernel hy)).setLeg.ite t.spares_refl) enabled)
  exact .ite s.spares_refl.err (.ite s.spares_refl
    (hwaiting.trans ((State.spares_guardSync _ x).mono (chan_subset_kernel x))))

theorem State.spares_joinKernelRuns (s : State) (x : Nat) : s.spares (kernelFields x) (s.joinKernelRuns x) := by
  unfold State.joinKernelRuns
  exact .ite ((s.spares_pwmEnable x).trans (State.spares_startSubst _ x)).setCell s.spares_refl

/-! ### The law (R185, R186, R206) -/

theorem State.spares_keLaw (s : State) (x old new : Nat) (st yIn y r w : List Int) (hold : Bool) :
    s.spares (kernelFields x) (s.keLaw x old new st yIn y r w hold) := by
  unfold State.keLaw
  extract_lets busy
  have hbusy : s.spares (kernelFields x) busy := s.spares_refl.setKe
  clear_value busy
  have hcounted {w : State} (h : s.spares (kernelFields x) w) (n : Nat) : s.spares (kernelFields x) (w.accSat x n) :=
    h.trans (w.spares_accSat x n)
  dsimp only
  split
  · exact (hcounted hbusy _).trans (State.spares_stateWrap ..)
  · split
    · exact (hcounted ((hcounted (hcounted hbusy _) _).trans (State.spares_shapeAll ..)) _).trans
        (State.spares_stateWrap ..)
    · exact (hcounted ((hcounted (hcounted hbusy _) _).trans (State.spares_shapeAll ..)) _).setKe

/-! ### Start and step (R203 to R209, R214) -/

theorem State.spares_keStart (s : State) (x : Nat) (y r : List Int) (stale : Bool) :
    s.spares (kernelFields x) (s.keStart x y r stale) := by
  unfold State.keStart
  dsimp -zeta only
  extract_lets c d sigma region b running placed settled told begun joined w zero start counted pre
  have hsched := s.spares_schedRead x d
  have hread : s.spares (kernelFields x) (if (s.schedRead x d).2.schedValid x d then
      (s.schedRead x d).2.keRead x d [b] else (true, (s.schedRead x d).2)).2 :=
    .iteSnd (hsched.trans (State.spares_keRead _ x d [b])) hsched
  have hcounted : s.spares (kernelFields x) counted := by
    have hbegun : s.spares (kernelFields x) begun := hread.set.set.set.set.set.set.set.setB.setB.irq.setKe
    have hjoined : s.spares (kernelFields x) joined := hbegun.setKe.trans (State.spares_joinKernelRuns ..)
    exact (hjoined.trans (joined.spares_shapeAll x y start)).trans (State.spares_accSat ..)
  clear_value counted
  refine .ite s.spares_refl (.ite (hread.trans (State.spares_kernelFault ..)) (.ite hread ?_))
  split
  · exact hcounted.trans (State.spares_stateWrap ..)
  · exact hcounted.trans (State.spares_keLaw ..)

theorem State.spares_keRamp (s : State) (x : Nat) (r : List Int) (change : Bool) :
    s.spares (kernelFields x) (s.keRamp x r change).2 := by
  unfold State.keRamp
  dsimp only
  exact s.spares_refl.setB.setKe

theorem State.spares_keStep (s : State) (x : Nat) (yIn y r : List Int) (staleSlots : List Bool) :
    s.spares (kernelFields x) (s.keStep x yIn y r staleSlots) := by
  unfold State.keStep
  dsimp -zeta only
  extract_lets stale hold held holding degraded c moded cur d' change judged d changed sig sigStale sigma region region'
    old new counted placed told w
  have hchanged : s.spares (kernelFields x) changed := by
    have hmoded : s.spares (kernelFields x) moded :=
      (State.spares.ite (State.spares.ite s.spares_refl.irq.inc s.spares_refl).set s.spares_refl.set).setB.set
    have hjudged : s.spares (kernelFields x) judged := .ite hmoded.setKe (.ite hmoded hmoded.setKe)
    exact .ite hjudged.setKe hjudged
  have hread := (hchanged.trans (changed.spares_keRamp x r change)).trans
    (State.spares_keRead _ x d (if old = new then [old] else [old, new]))
  have htold : s.spares (kernelFields x) told := by
    have hplaced : s.spares (kernelFields x) placed := (State.spares.ite hread hread.inc.irq).set.set.set
    exact .ite hplaced hplaced.inc.irqLog
  clear_value told
  exact .ite (State.spares_kernelFault ..) (.ite (hread.trans (State.spares_kernelFault ..))
    (htold.trans (State.spares_keLaw ..)))

theorem State.spares_kernelSample (s : State) (x : Nat) : s.spares (kernelFields x) (s.kernelSample x) := by
  unfold State.kernelSample
  extract_lets st aged dropped committed meas y valued r stale
  have hdropped : s.spares (kernelFields x) dropped := by
    have haged : s.spares (kernelFields x) aged := s.spares_refl.setKe
    exact .ite haged.inc.irq haged
  have hvalued : s.spares (kernelFields x) valued := (hdropped.trans (State.spares_keCommitAt _ x)).setKe
  clear_value dropped valued
  refine .ite hdropped (.ite ?_ (.ite hdropped (.ite ?_ ?_)))
  · exact hdropped.setB.irq.trans (State.spares_kernelFault ..)
  · exact hvalued.trans (State.spares_keStart ..)
  · exact hvalued.trans (State.spares_keStep ..)

end Sys2Proof.Machine
end

section
/-! A sample centre (O46): its stamp and count stand when it ends, and no target joins or leaves the list in it
(R104 to R108, R114, R120, R121). -/

-- One proof after another: many at once take a thread each (see Laws/KeepsChannel).
set_option Elab.async false

namespace Sys2Proof.Machine

variable {s t u : State} {l k : List Reg} {r q : Reg} {x y n p b v dt : Nat} {bits : List (Fin 64)}

/-! ### Operations that keep the targets held -/

/-- From `s` to `t` every register but those of `l` stays, and every unit's list of targets. -/
structure State.holds (s : State) (l : List Reg) (t : State) : Prop where
  regs : s.regsBut l t
  trig : ∀ y, (t.ch y).sense.trig = (s.ch y).sense.trig

theorem State.holds_refl (s : State) : s.holds l s := ⟨s.regsBut_of_regs, fun _ => rfl⟩

theorem State.spares.holds (h : s.spares l t) : s.holds l t :=
  ⟨h.regs, fun y => congrArg SenseSt.trig (h.sense y)⟩

theorem State.holds.trans (h : s.holds l t) (h' : t.holds l u) : s.holds l u :=
  ⟨h.regs.trans h'.regs, fun y => (h'.trig y).trans (h.trig y)⟩

theorem State.holds.mono (h : s.holds l t) (hl : l ⊆ k) : s.holds k t := ⟨h.regs.mono hl, h.trig⟩

theorem State.holds.ite {c : Prop} [Decidable c] (ht : s.holds l t) (hu : s.holds l u) :
    s.holds l (if c then t else u) := by
  split
  · exact ht
  · exact hu

theorem State.holds.foldl {α : Type} {xs : List α} {f : State → α → State}
    (h : ∀ (t : State), ∀ a ∈ xs, t.holds l (f t a)) (s : State) : s.holds l (xs.foldl f s) :=
  List.foldlRecOn xs f s.holds_refl (fun t ht a ha => ht.trans (h t a ha))

theorem State.sense_setSense_part {α : Type} (g : SenseSt → α) {f : SenseSt → SenseSt} (hf : ∀ d, g (f d) = g d)
    (s : State) (x y : Nat) : g ((s.setSense x f).ch y).sense = g (s.ch y).sense := by
  unfold State.ch State.setSense State.setCh
  simp only [List.getD_eq_getElem?_getD, List.getElem?_modify]
  cases s.chan[y]? with
  | none => rfl
  | some c =>
    simp only [Option.map_eq_map, Option.map_some, Option.getD_some]
    split
    · exact hf c.sense
    · rfl

/-- A change of a sensing engine beside its list. -/
theorem State.holds.setSense (h : s.holds l t) {f : SenseSt → SenseSt} (hf : ∀ d, (f d).trig = d.trig) :
    s.holds l (t.setSense x f) :=
  ⟨h.regs.keep, fun y => (State.sense_setSense_part SenseSt.trig hf t x y).trans (h.trig y)⟩

theorem State.holds.setIn (h : s.holds l t) {f : SdIn → SdIn} : s.holds l (t.setIn x n f) := h.setSense fun _ => rfl

theorem State.holds.setCmpRun (h : s.holds l t) {m : Nat} : s.holds l (t.setCmpRun x m v) := h.setIn

/-- Registers of the list are written, and nothing of the channels. -/
theorem State.holds.regsOnly (h : s.holds l t) (hr : t.regsBut l u) (hc : u.chan = t.chan := by simp) :
    s.holds l u :=
  ⟨h.regs.trans hr, fun y => (congrArg (fun c => (c.getD y {}).sense.trig) hc).trans (h.trig y)⟩

/-! ### The bits captured (R102, R108 to R110) -/

theorem State.holds_feed (s : State) (x : Nat) (bits : List (Fin 64)) : s.holds l (s.feed x bits) := by
  have hcapture (t : State) (n : Nat) (b : Bool) : t.holds l (t.capture x n b) := by
    unfold State.capture
    exact t.holds_refl.setIn.trans (State.holds.foldl (fun u _ _ => u.holds_refl.setCmpRun) _)
  unfold State.feed State.captureEdge
  exact .ite (State.holds.foldl (fun t _ _ => State.holds.foldl (fun u _ _ => (hcapture u _ _).ite u.holds_refl) t) s)
    s.holds_refl

theorem State.sameBut_feed (s : State) (x : Nat) (bits : List (Fin 64)) : s.sameBut [.chan] (s.feed x bits) :=
  keeps_feed (keeps_sameBut [.chan] s) s x bits (State.sameBut_refl _ s)

theorem State.get_feed (s : State) (x : Nat) (bits : List (Fin 64)) (q : Reg) : (s.feed x bits).get q = s.get q := by
  unfold State.get
  rw [State.regs_feed]

theorem State.now_feed (s : State) (x : Nat) (bits : List (Fin 64)) : (s.feed x bits).now = s.now :=
  State.now_of_sameBut (s.sameBut_feed x bits)

theorem State.sys_feed (s : State) (x : Nat) (bits : List (Fin 64)) : (s.feed x bits).sys = s.sys :=
  State.sys_of_sameBut (s.sameBut_feed x bits)

theorem State.canopyT_of_sameBut {k : List Part} (h : s.sameBut k t) (hc : .canopyT ∉ k := by decide)
    (hd : .drop ∉ k := by decide) : t.canopyT = s.canopyT := by
  obtain ⟨-, hd' | hall⟩ := h
  · exact absurd hd' hd
  · simp only [hc, false_or] at hall
    simp only [hall]

theorem State.staged_of_sameBut {k : List Part} (h : s.sameBut k t) (hc : .staged ∉ k := by decide)
    (hd : .drop ∉ k := by decide) : t.staged = s.staged := by
  obtain ⟨-, hd' | hall⟩ := h
  · exact absurd hd' hd
  · simp only [hc, false_or] at hall
    simp only [hall]

theorem State.stamp_of_sameBut {k : List Part} (h : s.sameBut k t) (hn : .now ∉ k := by decide)
    (hc : .canopyT ∉ k := by decide) (hd : .drop ∉ k := by decide) (p : Nat) : t.stamp p = s.stamp p := by
  unfold State.stamp State.canopy
  rw [State.now_of_sameBut h hn hd, State.canopyT_of_sameBut h hc hd]

theorem State.sdRuns_feed (s : State) (x : Nat) (bits : List (Fin 64)) (y : Nat) :
    (s.feed x bits).sdRuns y = s.sdRuns y := by
  unfold State.sdRuns State.cellRuns
  rw [State.sys_feed, State.flag_eq, State.flag_eq, State.get_feed]

theorem State.firstEdge_feed (s : State) (x : Nat) (bits : List (Fin 64)) (y v : Nat) :
    (s.feed x bits).firstEdge y v = s.firstEdge y v := by
  unfold State.firstEdge State.sdcAge State.cellTicks
  simp only [State.now_feed, State.get_feed, State.canopyT_of_sameBut (s.sameBut_feed x bits)]

/-! ### Fields that no commit changes (R91, R92) -/

/-- No value is staged for the key, nor held by a `DISCARD` that a commit may take back. -/
structure State.unstaged (s : State) (k : Nat) : Prop where
  staged : s.staged.lookup k = none
  dropped : ∀ d ∈ s.sys.dropped, d.2.2.1.lookup k = none

theorem State.unstaged.of_sameBut {k : List Part} (h : s.unstaged v) (hk : s.sameBut k t)
    (hs : .staged ∉ k := by decide) (hy : .sys ∉ k := by decide) (hd : .drop ∉ k := by decide) : t.unstaged v :=
  ⟨by rw [State.staged_of_sameBut hk hs hd]; exact h.staged, by rw [State.sys_of_sameBut hk hy hd]; exact h.dropped⟩

theorem lookup_stageKey (h : s.staged.lookup v = none) {l : List (Nat × Nat)} (hl : l.lookup v = none) :
    (l.foldl (fun (u : State) e => u.stageKey e.1 e.2) s).staged.lookup v = none := by
  refine List.foldlRecOn (motive := fun (u : State) => u.staged.lookup v = none) l _ h (fun u hu e he => ?_)
  have hne : v ≠ e.1 := fun heq => by
    have := List.lookup_eq_none_iff.1 hl e he
    simp [heq] at this
  exact (RegFile.lookup_insert_other u.staged e.2 hne).trans hu

theorem State.lookup_undrop (h : s.unstaged v) (p : Nat) : (s.undrop p).staged.lookup v = none := by
  unfold State.undrop
  split
  · exact h.staged
  · split
    · exact h.staged
    next a b l c hfind =>
      have hl := lookup_stageKey h.staged (h.dropped _ (List.mem_of_find?_eq_some hfind))
      have hset (u : State) (e : u.staged = (l.foldl (fun (u : State) e => u.stageKey e.1 e.2) s).staged) :
          ((u.setB (H.COMMIT_GO p) true).modSys (fun d =>
            { d with dropped := d.dropped.filter (fun e => decide (e.1 ≠ p)) })).staged.lookup v = none := by
        rw [State.staged_modSys, State.staged_setB, e, hl]
      split
      · exact hset _ rfl
      · exact hset _ rfl

/-- A commit leaves a field for which nothing is staged. -/
theorem State.get_applyStaged (h : s.staged.lookup q.key = none) (p : Nat) : (s.applyStaged p).get q = s.get q := by
  have hboth : (s.applyStaged p).staged.lookup q.key = none ∧ (s.applyStaged p).get q = s.get q := by
    refine List.foldlRecOn (motive := fun (u : State) => u.staged.lookup q.key = none ∧ u.get q = s.get q) _ _ ⟨h, rfl⟩
      (fun u hu r _ => ?_)
    obtain ⟨hstaged, hget⟩ := hu
    split
    next w hw =>
      have hne : q.key ≠ r.key := fun heq => by rw [← heq, hstaged] at hw; cases hw
      exact ⟨(RegFile.lookup_erase_other _ hne).trans hstaged, (State.get_set_other u w hne).trans hget⟩
    next => exact ⟨hstaged, hget⟩
  exact hboth.2

/-- The header's registers that a commit of the page touches. -/
abbrev goFields (p : Nat) : List Reg := [H.COMMIT_GO p, H.COMMIT_APPLIED p, H.ERR_COUNT p, H.IRQ_RAW p]

theorem State.holds_senseOpen (s : State) (x v : Nat) : s.holds l (s.senseOpen x v) :=
  s.holds_refl.setSense fun _ => rfl

theorem State.holds_senseDlSync (s : State) (x : Nat) : s.holds l (s.senseDlSync x) := by
  unfold State.senseDlSync
  exact .ite (.ite s.holds_refl (s.holds_senseOpen x _)) (s.holds_refl.setSense fun _ => rfl)

theorem State.holds_clearIns (s : State) (x : Nat) :
    s.holds l ((List.range 6).foldl (fun t n => t.clearIn x n) s) :=
  State.holds.foldl (fun t _ _ => t.holds_refl.setIn) s

/-- A commit of a sensing page, refused or applied, holds the lists and leaves an unstaged field. -/
theorem State.senseCommit_keeps (s : State) (x : Nat) :
    (∀ y, ((s.senseCommit x).ch y).sense.trig = (s.ch y).sense.trig)
    ∧ ∀ q : Reg, s.staged.lookup q.key = none → q.key ∉ (goFields (pgSense x)).map Reg.key →
      (s.senseCommit x).get q = s.get q := by
  unfold State.senseCommit
  extract_lets p per old applied cleared
  split
  · have hrefused : s.regsBut (goFields p) (s.refuseCommit p) := by
      have hdropped : s.regsBut (goFields p) (s.dropStaged p) := s.regsBut_of_regs
      exact hdropped.setB.err
    exact ⟨(s.spares_refuseCommit p).holds.trig, fun q _ hq => hrefused q hq⟩
  · have hcleared : applied.holds [] (cleared.senseDlSync x) :=
      .trans (.ite applied.holds_refl (applied.holds_clearIns x)) (cleared.holds_senseDlSync x)
    refine ⟨fun y => (hcleared.trig y).trans ((s.spares_doCommit p).holds.trig y), fun q hs hq => ?_⟩
    have hheader : (s.applyStaged p).regsBut (goFields p) applied := (State.regsBut_of_regs _).setB.incWrap
    rw [hcleared.regs q (by simp), hheader q hq, State.get_applyStaged hs]

/-! ### The centre (R104 to R108, R120, R121) -/

/-- The registers of the results. -/
abbrev resFields (x : Nat) : List Reg :=
  [R.SENSE_FB_STAT_FREEZE x, R.SENSE_FB_STAT_STALE x, R.SENSE_FB_STAT_SAT x, H.IRQ_RAW (pgSense x)]
  ++ (List.range 6).map (R.SENSE_RES_VAL x) ++ (List.range 6).map (R.SENSE_PRI_VAL x)

theorem State.holds_formResult (hn : n ∈ List.range 6) (s : State) (x : Nat) :
    s.holds (resFields x) (s.formResult x n).2.2 := by
  have hres : R.SENSE_RES_VAL x n ∈ resFields x := by
    simp only [List.mem_append]
    exact .inl (.inr (List.mem_map_of_mem hn))
  have hpri : R.SENSE_PRI_VAL x n ∈ resFields x := List.mem_append_right _ (List.mem_map_of_mem hn)
  unfold State.formResult
  extract_lets k d raw on same thawed counted full y r res p pri shown stale
  have hthawed : s.holds (resFields x) thawed :=
    .ite (s.holds_refl.regsOnly (s.regsBut_of_regs.putMaskBit)) s.holds_refl
  have hcounted : s.holds (resFields x) counted := .ite hthawed.setIn hthawed
  exact hcounted.regsOnly ((counted.regsBut_of_regs.set hres).set hpri)
    ((State.chan_setI ..).trans (State.chan_setI ..))

/-- The deadline pair of a sensing page. -/
theorem dlPair_pgSense (x : Fin 8) : ∃ d, dlPair (pgSense x.val) 0x078 = some d
    ∧ ∀ q ∈ [R.SENSE_SAMPLE_T_NS x.val, R.SENSE_SAMPLE_SEQ_COUNT x.val],
      q.key ∉ [d.run, H.DL_RUN d.page].map Reg.key := by
  revert x
  decide

/-- The six results, whether they are stale and whether they saturated. -/
def State.formed (s : State) (x : Nat) : Nat × Nat × State :=
  (List.range 6).foldl
    (fun (a, b, t) n =>
      let (st, sa, t) := t.formResult x n
      (putBit a n st, putBit b n sa, t)) ((0, 0, s) : Nat × Nat × State)

theorem State.holds_formed (s : State) (x : Nat) : s.holds (resFields x) (s.formed x).2.2 :=
  List.foldlRecOn (motive := fun (e : Nat × Nat × State) => s.holds (resFields x) e.2.2) _ _ s.holds_refl
    (fun e he _ hn => he.trans (State.holds_formResult hn e.2.2 x))

theorem keeps_formed {I : State → Prop} (hI : Keeps [.chan, .regs] I) (s : State) (x : Nat) (h : I s) :
    I (s.formed x).2.2 :=
  List.foldlRecOn (motive := fun (e : Nat × Nat × State) => I e.2.2) _ _ h
    (fun e he n _ => keeps_formResult hI e.2.2 x n he)

/-- The results with the page's readout of them. -/
def State.centred (s : State) (x : Nat) : State :=
  let e := s.formed x
  let t := (e.2.2.set (R.SENSE_FB_STAT_STALE x) e.1).set (R.SENSE_FB_STAT_SAT x) e.2.1
  if e.2.1 = 0 then t else t.irq (pgSense x) 25

/-- The centre's stamp and its count. -/
def State.stamped (s : State) (x : Nat) : State :=
  (s.set (R.SENSE_SAMPLE_T_NS x) (s.stamp (pgSense x))).incWrap (R.SENSE_SAMPLE_SEQ_COUNT x)

/-- The interval deadline that the centre meets, and the next one (R121). -/
def State.intervalMet (s : State) (x : Nat) : State :=
  if s.senseJudged x then
    let met : Bool := match (s.ch x).sense.due with
      | some e => decide (s.now ≤ e)
      | none => false
    let t := match met, dlPair (pgSense x) 0x078 with
      | true, some d => s.dlMeet d
      | _, _ => s
    t.senseOpen x t.now
  else s

/-- The page's update point (R120). -/
def State.senseUpdated (s : State) (x : Nat) : State :=
  if (s.undrop (pgSense x)).commitDue (pgSense x) then (s.undrop (pgSense x)).senseCommit x else s.undrop (pgSense x)

theorem State.sampleCentre_eq (s : State) (x : Nat) : s.sampleCentre x
    = (((((s.centred x).stamped x).intervalMet x).senseUpdated x).cellSample x).kernelSample x := by
  unfold State.sampleCentre
  split
  next a b t hfold =>
    have hformed : s.formed x = (a, b, t) := hfold
    unfold State.centred
    rw [hformed]
    rfl

theorem State.holds_centred (s : State) (x : Nat) : s.holds (resFields x) (s.centred x) := by
  have hset := (State.regsBut_of_regs (l := resFields x) (s.formed x).2.2).set (r := R.SENSE_FB_STAT_STALE x)
    (v := (s.formed x).1) |>.set (r := R.SENSE_FB_STAT_SAT x) (v := (s.formed x).2.1)
  exact .ite ((s.holds_formed x).regsOnly hset) ((s.holds_formed x).regsOnly hset.irq)

theorem State.sameBut_centred (s : State) (x : Nat) : s.sameBut [.recent, .pod, .chan, .regs] (s.centred x) := by
  have hI := keeps_sameBut [.recent, .pod, .chan, .regs] s
  have hset := keeps_set (hI.mono (by decide)) _ (R.SENSE_FB_STAT_SAT x) (s.formed x).2.1
    (keeps_set (hI.mono (by decide)) _ (R.SENSE_FB_STAT_STALE x) (s.formed x).1
      (keeps_formed (hI.mono (by decide)) s x (State.sameBut_refl _ s)))
  exact iteI (fun _ => hset) (fun _ => keeps_irq (hI.mono (by decide)) _ _ _ hset)

/-- The registers of a sample's time and count. -/
abbrev sampleRegs (x : Nat) : List Reg := [R.SENSE_SAMPLE_T_NS x, R.SENSE_SAMPLE_SEQ_COUNT x]

theorem State.holds_intervalMet (s : State) (x : Fin 8) :
    (∀ y, ((s.intervalMet x.val).ch y).sense.trig = (s.ch y).sense.trig)
    ∧ ∀ q ∈ sampleRegs x.val, (s.intervalMet x.val).get q = s.get q := by
  obtain ⟨d, hd, hq⟩ := dlPair_pgSense x
  have hmet : s.holds [d.run, H.DL_RUN d.page] (s.intervalMet x.val) := by
    unfold State.intervalMet
    rw [hd]
    refine .ite ?_ s.holds_refl
    dsimp only
    split
    next heq =>
      injection heq with heq
      subst heq
      exact (s.holds_refl.regsOnly (s.regsBut_dlMeet d) (by simp [State.dlMeet])).trans (State.holds_senseOpen _ _ _)
    next => exact s.holds_senseOpen _ _
  exact ⟨hmet.trig, fun q h => hmet.regs q (hq q h)⟩

/-- No field of another page, nor of the page's header, is the sample's. -/
theorem sampleRegs_notMem (x : Fin 8) : ∀ q ∈ sampleRegs x.val, q.key ∉ (resFields x.val).map Reg.key
    ∧ q.key ∉ (goFields (pgSense x.val)).map Reg.key := by
  revert x
  decide

theorem State.holds_senseUpdated (s : State) (x : Fin 8) (h : ∀ q ∈ sampleRegs x.val, s.unstaged q.key) :
    (∀ y, ((s.senseUpdated x.val).ch y).sense.trig = (s.ch y).sense.trig)
    ∧ ∀ q ∈ sampleRegs x.val, (s.senseUpdated x.val).get q = s.get q := by
  have hback : s.holds (goFields (pgSense x.val)) (s.undrop (pgSense x.val)) :=
    ((s.spares_undrop (pgSense x.val)).mono (by simp)).holds
  have hget : ∀ q ∈ sampleRegs x.val, (s.undrop (pgSense x.val)).get q = s.get q :=
    fun q hq => hback.regs q (sampleRegs_notMem x q hq).2
  obtain ⟨htrig, hkeep⟩ := (s.undrop (pgSense x.val)).senseCommit_keeps x.val
  unfold State.senseUpdated
  split
  · exact ⟨fun y => (htrig y).trans (hback.trig y), fun q hq => (hkeep q (State.lookup_undrop (h q hq) _)
      (sampleRegs_notMem x q hq).2).trans (hget q hq)⟩
  · exact ⟨hback.trig, hget⟩

/-- The cell power block touches neither. -/
theorem sampleRegs_notMem_block (x : Fin 8) : ∀ q ∈ sampleRegs x.val, q.key ∉ (blockFields x.val).map Reg.key := by
  revert x
  decide

/-- Neither does the Kernel: its own page's fields stand on another page. -/
theorem sampleRegs_notMem_kernel (x : Fin 8) : ∀ q ∈ sampleRegs x.val, q.key ∉ (kernelFields x.val).map Reg.key := by
  have hown : ∀ x : Fin 8, ∀ q ∈ sampleRegs x.val, q.key / 131072 = pgSense x.val
      ∧ q.key ∉ (lawFields x.val).map Reg.key ∧ q.key ∉ (goFields (pgKe x.val)).map Reg.key := by decide
  intro q hq hmem
  obtain ⟨hpage, hlaw, hheader⟩ := hown x q hq
  have hfield : q.key ∉ (pageFields (pgKe x.val)).map Reg.key := by
    intro hf
    obtain ⟨r, hr, hkey⟩ := List.mem_map.1 hf
    obtain ⟨hstands, hofs, hlo, -⟩ := standsOn_of_mem (p := ⟨pgKe x.val, by simp [pgKe]; omega⟩) hr
    simp only [pgKe] at hstands
    rw [← hkey] at hpage
    simp only [Reg.key, pgSense] at hpage
    omega
  rw [List.map_append, List.mem_append] at hmem
  simp only [commitFields, List.map_cons, List.mem_cons, hfield, or_false] at hmem hheader
  simp only [List.map_nil, List.not_mem_nil, or_false] at hheader
  exact hmem.elim hlaw hheader

theorem State.holds_stamped (s : State) (x : Nat) : s.holds (sampleRegs x) (s.stamped x) :=
  s.holds_refl.regsOnly (State.regsBut.incWrap s.regsBut_of_regs.set) ((State.chan_set ..).trans (State.chan_set ..))

/-- The stamp and the count that the centre shows. -/
theorem State.shown_stamped (s : State) (x : Nat) :
    (s.stamped x).get (R.SENSE_SAMPLE_T_NS x) = s.stamp (pgSense x) % 2 ^ 64
    ∧ (s.stamped x).get (R.SENSE_SAMPLE_SEQ_COUNT x)
      = (s.get (R.SENSE_SAMPLE_SEQ_COUNT x) + 1) % 2 ^ (R.SENSE_SAMPLE_SEQ_COUNT x).width := by
  have hne : (R.SENSE_SAMPLE_T_NS x).key ≠ (R.SENSE_SAMPLE_SEQ_COUNT x).key := by
    simp only [Reg.key, R.SENSE_SAMPLE_T_NS, R.SENSE_SAMPLE_SEQ_COUNT]
    omega
  unfold State.stamped State.incWrap
  rw [State.get_set_other _ _ hne, State.get_set_same _ _ (by simp [R.SENSE_SAMPLE_T_NS]),
    State.get_set_same _ _ (by simp [R.SENSE_SAMPLE_SEQ_COUNT]), State.get_set_other _ _ hne.symm]
  exact ⟨rfl, Nat.mod_mod _ _⟩

/-- Neither a stamp nor a deadline stages anything. -/
theorem State.sameBut_interval (s : State) (x : Nat) :
    s.sameBut [.recent, .pod, .chan, .regs] (((s.centred x).stamped x).intervalMet x) := by
  have hI := keeps_sameBut [.recent, .pod, .chan, .regs] s
  have hstamped : s.sameBut [.recent, .pod, .chan, .regs] ((s.centred x).stamped x) :=
    keeps_incWrap (hI.mono (by decide)) _ _ (keeps_set (hI.mono (by decide)) _ _ _ (s.sameBut_centred x))
  unfold State.intervalMet
  refine iteI (fun _ => keeps_senseOpen (hI.mono (by decide)) _ _ _ ?_) (fun _ => hstamped)
  split
  · exact keeps_dlMeet (hI.mono (by decide)) _ _ hstamped
  · exact hstamped

/-- What a sample centre shows, and the targets that it leaves. -/
theorem State.sampleCentre_shows (s : State) (x : Fin 8) (h : ∀ q ∈ sampleRegs x.val, s.unstaged q.key) :
    (s.sampleCentre x.val).get (R.SENSE_SAMPLE_T_NS x.val) = s.stamp (pgSense x.val) % 2 ^ 64
    ∧ (s.sampleCentre x.val).get (R.SENSE_SAMPLE_SEQ_COUNT x.val)
      = (s.get (R.SENSE_SAMPLE_SEQ_COUNT x.val) + 1) % 2 ^ (R.SENSE_SAMPLE_SEQ_COUNT x.val).width
    ∧ ((s.sampleCentre x.val).ch x.val).sense.trig = (s.ch x.val).sense.trig := by
  have hcentred := s.holds_centred x.val
  obtain ⟨hstamp, hcount⟩ := (s.centred x.val).shown_stamped x.val
  obtain ⟨hmetTrig, hmet⟩ := ((s.centred x.val).stamped x.val).holds_intervalMet x
  obtain ⟨hupdTrig, hupd⟩ := (((s.centred x.val).stamped x.val).intervalMet x.val).holds_senseUpdated x
    (fun q hq => (h q hq).of_sameBut (s.sameBut_interval x.val))
  rw [State.sampleCentre_eq]
  generalize (((s.centred x.val).stamped x.val).intervalMet x.val).senseUpdated x.val = updated at *
  have hblock := updated.spares_cellSample x.val
  have hkernel := (updated.cellSample x.val).spares_kernelSample x.val
  have hkeep : ∀ q ∈ sampleRegs x.val, ((updated.cellSample x.val).kernelSample x.val).get q
      = ((s.centred x.val).stamped x.val).get q := fun q hq =>
    (hkernel.get (sampleRegs_notMem_kernel x q hq)).trans ((hblock.get (sampleRegs_notMem_block x q hq)).trans
      ((hupd q hq).trans (hmet q hq)))
  refine ⟨?_, ?_, ?_⟩
  · rw [hkeep _ (by simp), hstamp, State.stamp_of_sameBut (s.sameBut_centred x.val)]
  · rw [hkeep _ (by simp), hcount, hcentred.regs _ (sampleRegs_notMem x _ (by simp)).1]
  · rw [hkernel.sense, hblock.sense, hupdTrig, hmetTrig, ((s.centred x.val).holds_stamped x.val).trig, hcentred.trig]

end Sys2Proof.Machine
end

section
/-! The statement on triggers and sample centres (O46). -/

-- One proof after another: many at once take a thread each (see Laws/KeepsChannel).
set_option Elab.async false

namespace Sys2Proof.Machine

variable {s : State} {x : Fin 8} {bits : List (Fin 64)} {dt : Nat}

/-- The targets that have come leave the page's list. -/
def State.served (s : State) (x : Nat) : State :=
  s.setSense x (fun e => { e with trig := e.trig.filter (fun t => decide (s.now < t)) })

theorem State.trig_served (s : State) (x : Nat) :
    ((s.served x).ch x).sense.trig = yetToCome (s.ch x).sense.trig s.now := by
  rcases lt_or_ge x s.chan.length with hlt | hge
  · rw [State.served, State.sense_setSense_same hlt, yetToCome]
  · rw [State.ch_of_le hge, State.ch_of_le (by rwa [State.served, State.length_chan_setSense]), yetToCome,
      List.filter_nil]

/-- With the modulator clock off a target that has come is dropped, and no register moves. -/
theorem exec_sampleCentre_off (h : s.sdRuns x.val = false) :
    exec (.sampleCentre dt x bits) s = .next (((s.elapse dt).feed x.val bits).served x.val) := by
  have hoff : ((s.elapse dt).feed x.val bits).sdRuns x.val = false := (State.sdRuns_feed _ _ _ _).trans h
  have hstill : ¬ (((s.elapse dt).feed x.val bits).served x.val).sdRuns x.val = true := Bool.eq_false_iff.1 hoff
  exact (if_pos (.inl hoff)).trans (congrArg Host.Outcome.next (if_neg hstill))

/-- At the first edge at or after a target the page samples. -/
theorem exec_sampleCentre_on (h : s.sdRuns x.val = true)
    (hany : (s.ch x.val).sense.trig.any (fun e => (s.elapse dt).firstEdge x.val e) = true) :
    exec (.sampleCentre dt x bits) s
      = .next ((((s.elapse dt).feed x.val bits).served x.val).sampleCentre x.val) := by
  have hon : (((s.elapse dt).feed x.val bits).served x.val).sdRuns x.val = true := (State.sdRuns_feed _ _ _ _).trans h
  have htrig : (((s.elapse dt).feed x.val bits).ch x.val).sense.trig = (s.ch x.val).sense.trig :=
    ((s.elapse dt).holds_feed (l := []) x.val bits).trig x.val
  have hdue : (((s.elapse dt).feed x.val bits).ch x.val).sense.trig.filter
      (fun t => ((s.elapse dt).feed x.val bits).firstEdge x.val t) ≠ [] := by
    obtain ⟨e, he, hfirst⟩ := List.any_eq_true.1 hany
    refine List.ne_nil_of_mem (a := e) (List.mem_filter.2 ⟨by rwa [htrig], ?_⟩)
    rw [State.firstEdge_feed]
    exact hfirst
  exact (if_pos (.inr hdue)).trans (congrArg Host.Outcome.next (if_pos hon))

/-- What a sample centre answers: the stamp, the count, and the targets that it served dropped. -/
theorem sampleCentre_answers (h : s.sdRuns x.val = true)
    (hany : (s.ch x.val).sense.trig.any (fun e => (s.elapse dt).firstEdge x.val e) = true)
    (hun : ∀ q ∈ sampleRegs x.val, s.unstaged q.key) :
    ∃ t, exec (.sampleCentre dt x bits) s = .next t
      ∧ t.get (R.SENSE_SAMPLE_T_NS x.val) = (s.elapse dt).stamp (pgSense x.val) % 2 ^ 64
      ∧ t.get (R.SENSE_SAMPLE_SEQ_COUNT x.val)
        = (s.get (R.SENSE_SAMPLE_SEQ_COUNT x.val) + 1) % 2 ^ (R.SENSE_SAMPLE_SEQ_COUNT x.val).width
      ∧ (t.ch x.val).sense.trig = (s.ch x.val).sense.trig.filter (fun e => decide (s.now + dt < e)) := by
  have hserved : (s.elapse dt).sameBut [.chan] (((s.elapse dt).feed x.val bits).served x.val) :=
    keeps_setSense (keeps_sameBut [.chan] (s.elapse dt)) _ _ _ ((s.elapse dt).sameBut_feed x.val bits)
  obtain ⟨hstamp, hcount, htrig⟩ := (((s.elapse dt).feed x.val bits).served x.val).sampleCentre_shows x
    (fun q hq => State.unstaged.of_sameBut (s := s.elapse dt) ⟨(hun q hq).staged, (hun q hq).dropped⟩ hserved)
  refine ⟨_, exec_sampleCentre_on h hany, ?_, ?_, ?_⟩
  · rw [hstamp, State.stamp_of_sameBut hserved]
  · rw [hcount, State.get, State.regs_of_sameBut hserved]
    rfl
  · rw [htrig, State.trig_served, ((s.elapse dt).holds_feed (l := []) x.val bits).trig, State.now_feed]
    rfl

end Sys2Proof.Machine

open Sys2Proof.Machine

/-- Settles O46: every event reaches its unit by `senseTrigger` or `sarTrigger`; a sample centre's stamp and count
outlast the commit and the work of the cell power block and the Kernel (`State.sampleCentre_shows`). -/
theorem triggerCommands : Obligations.TriggerCommands := by
  unfold Obligations.TriggerCommands
  have hchan {s : State} (hs : s.shape) {x : Nat} (hx : x < 8) : x < s.chan.length := by
    obtain ⟨hlen, -⟩ := hs
    omega
  have hsar {s : State} (hs : s.shape) {u : Fin 13} {n : Nat} (hu : u.val = 8 + n) : n < s.sar.length := by
    obtain ⟨-, hlen, -⟩ := hs
    omega
  have hheld {s : State} {x now : Nat} (h : 4 ≤ (yetToCome (s.ch x).sense.trig now).length) : x < s.chan.length :=
    State.ch_lt (fun e => by simp [e, yetToCome] at h)
  refine ⟨?event, ?sarEvent, ?timer, ?sarTimer, ?timerFull, ?now, ?clockOff, ?centre⟩
  case event =>
    intro s dt u cell kind age hr hst hu hm hmade h
    obtain ⟨htrig, -, hregs⟩ := State.senseTrigger_takes (s := s.elapse dt) (t0 := (s.elapse dt).eventTime cell age)
      (hu ▸ State.chan_of_started hst) h
    exact ⟨_, exec_triggerEvent_sense hr hst hmade hu hm, htrig, hregs⟩
  case sarEvent =>
    intro s dt u cell kind age n hr hst hu hg hs hc hm hmade h
    obtain ⟨hst', hregs⟩ := State.sarTrigger_setSar_takes (s := s.elapse dt) (n := n)
      (t0 := (s.elapse dt).eventTime cell age)
      (f := fun d => { d with lastEvt := some ((s.elapse dt).eventTime cell age) }) (fun _ => rfl) (hsar hs hu) h
    exact ⟨_, exec_triggerEvent_sar hr hst hmade hu hg hc hm, congrArg SarSt.trig hst', congrArg SarSt.lastEvt hst',
      hregs⟩
  case timer =>
    intro s dt u hu hr hs hsrc hdue h
    obtain ⟨hst, hregs⟩ := State.senseTimed_takes (s := s.elapse dt)
      (t0 := (PageIsland.cell u.val).edge (s.now + dt)) (hchan hs hu) h
    exact ⟨_, exec_canopyTimerFire_sense hu hr hsrc hdue, congrArg SenseSt.trig hst, congrArg SenseSt.tmrAt hst, hregs⟩
  case sarTimer =>
    intro s dt n u hu hg hs hsrc hdue h
    obtain ⟨hst, hregs⟩ := State.sarTrigger_setSar_takes (s := s.elapse dt) (n := n)
      (t0 := PageIsland.grid.edge (s.now + dt)) (f := fun d => { d with tmrAt := (s.elapse dt).canopy })
      (fun _ => rfl) (hsar hs hu) h
    exact ⟨_, exec_canopyTimerFire_sar hu hg hsrc hdue, congrArg SarSt.trig hst, congrArg SarSt.tmrAt hst, hregs⟩
  case timerFull =>
    intro s dt u hu hr hsrc hdue h
    obtain ⟨htrig, hovr, hcount⟩ := State.senseTimed_discards (s := s.elapse dt)
      (t0 := (PageIsland.cell u.val).edge (s.now + dt)) (hheld h) h
    exact ⟨_, exec_canopyTimerFire_sense hu hr hsrc hdue, hovr, hcount, htrig⟩
  case now =>
    intro s dt u hu ho hs h
    obtain ⟨htrig, -, hregs⟩ := State.senseTrigger_takes (s := s.elapse dt) (t0 := s.now + dt) (hchan hs hu) h
    exact ⟨_, exec_trigNow_sense hu ho, htrig, hregs⟩
  case clockOff =>
    intro s dt x bits h
    refine ⟨_, exec_sampleCentre_off h, (s.elapse dt).regs_feed x.val bits, ?_⟩
    rw [State.trig_served, ((s.elapse dt).holds_feed (l := []) x.val bits).trig, State.now_feed]
    rfl
  case centre =>
    intro s dt x bits h hany ht htd hn hnd
    refine sampleCentre_answers h hany (fun q hq => ?_)
    simp only [List.mem_cons, List.not_mem_nil, or_false] at hq
    rcases hq with rfl | rfl
    · exact ⟨ht, fun d hd => Option.isNone_iff_eq_none.1 (List.all_eq_true.1 htd d hd)⟩
    · exact ⟨hn, fun d hd => Option.isNone_iff_eq_none.1 (List.all_eq_true.1 hnd d hd)⟩

end

section
/-! What the inputs, the comparators and their settings do (O47): the marks of lost and frozen inputs, a comparator
with its fault source, and the writes of `SD_CLK`, `CMPm_THR` and `CMPm_CFG` (R100, R101, R110, R112, R117, R118). -/

-- One proof after another: many at once take a thread each (see Laws/KeepsChannel).
set_option Elab.async false

namespace Sys2Proof.Machine

variable {s t u : State} {l : List Reg} {r q : Reg} {p b i y v w dt : Nat} {x : Fin 8} {n : Fin 6} {m : Fin 12}
  {bits : List (Fin 64)}

theorem bitsOf_lt (w lo width : Nat) : bitsOf w lo width < 2 ^ width := Nat.mod_lt _ (Nat.two_pow_pos width)

/-- The state in which the bits captured until now have been taken. -/
abbrev State.fed (s : State) (dt : Nat) (x : Fin 8) (bits : List (Fin 64)) : State := (s.elapse dt).feed x.val bits

theorem State.get_fed (s : State) (dt : Nat) (x : Fin 8) (bits : List (Fin 64)) (q : Reg) :
    (s.fed dt x bits).get q = s.get q := (s.elapse dt).get_feed x.val bits q

theorem State.sdRuns_fed (h : s.sdRuns x.val = true) : (s.fed dt x bits).sdRuns x.val = true :=
  ((s.elapse dt).sdRuns_feed x.val bits x.val).trans h

theorem State.inOn_fed (h : s.inOn x.val b = true) : (s.fed dt x bits).inOn x.val b = true := by
  unfold State.inOn
  rw [State.get_fed]
  exact h

theorem State.cmpOut_fed (s : State) (dt : Nat) (x : Fin 8) (bits : List (Fin 64)) (b : Nat) :
    (s.fed dt x bits).cmpOut x.val b = s.cmpOut x.val b := by
  unfold State.cmpOut
  rw [State.get_fed]

theorem State.hostOpen_fed (h : s.hostOpen p = true) : (s.fed dt x bits).hostOpen p = true := by
  have hsys := (s.elapse dt).sys_feed x.val bits
  unfold State.hostOpen State.hostRuns State.hostOk State.pageRuns State.locked State.quarantine at h ⊢
  rw [State.flag_eq, State.flag_eq, State.get_fed, State.get_fed, hsys]
  cases hp : pageInfo p with
  | none => simp [hp] at h
  | some info =>
    simp only [hp] at h ⊢
    rw [← h]
    unfold State.islandRuns State.hostRuns State.hwRuns State.gridRuns State.sarRuns State.cellRuns State.vodRuns
    rw [hsys]
    rfl

/-! ### Marks with their events -/

/-- The event of a mark reads 1. -/
theorem State.event_irq (s : State) (hb : b < 32) : ((s.irq p b).get (H.IRQ_RAW p)).testBit b = true := by
  rw [State.testBit_irq hb, decide_eq_true rfl, Bool.true_or]

/-- A mask's bit set beside its page's event. -/
theorem State.mark_setMaskBit (s : State) (hacc : r.acc ≠ .bo) (hw : b < r.width) (hr : r.key ≠ (H.IRQ_RAW p).key) :
    (((s.setMaskBit r b).irq p i).get r).testBit b = true := by
  rw [State.get_irq_other hr, State.testBit_setMaskBit_same s hacc hw]

theorem exec_inputLoss (hr : s.sdRuns x.val = true) (hon : s.inOn x.val n.val = true)
    (hrun : 64 ≤ ((s.fed dt x bits).sdIn x.val n.val).run)
    (hno : (s.get (R.SENSE_FB_STAT_LOSS x.val)).testBit n.val = false) :
    exec (.inputLoss dt x n bits) s = .next (((s.fed dt x bits).setMaskBit (R.SENSE_FB_STAT_LOSS x.val) n.val).irq
      (pgSense x.val) n.val) := by
  have hno' : ¬ ((s.fed dt x bits).get (R.SENSE_FB_STAT_LOSS x.val)).testBit n.val = true := by
    rw [State.get_fed, hno]
    exact Bool.false_ne_true
  exact congrArg Host.Outcome.next (if_pos ⟨State.sdRuns_fed hr, State.inOn_fed hon, hrun, hno'⟩)

theorem exec_inputLossEnd (hr : s.sdRuns x.val = true) (hon : s.inOn x.val n.val = true)
    (hrun : ((s.fed dt x bits).sdIn x.val n.val).run < 64)
    (hyes : (s.get (R.SENSE_FB_STAT_LOSS x.val)).testBit n.val = true) :
    exec (.inputLossEnd dt x n bits) s = .next (((s.fed dt x bits).putMaskBit (R.SENSE_FB_STAT_LOSS x.val) n.val
      false).setIn x.val n.val (fun d => { d with cnt := d.run })) :=
  congrArg Host.Outcome.next (if_pos ⟨State.sdRuns_fed hr, State.inOn_fed hon, hrun, by rw [State.get_fed]; exact hyes⟩)

theorem exec_inputFreeze (hr : s.sdRuns x.val = true) (hon : s.inOn x.val n.val = true)
    (hno : (s.get (R.SENSE_FB_STAT_FREEZE x.val)).testBit n.val = false)
    (hrun : s.get (R.SENSE_FILT_CFG_FREEZE_N x.val) ≤ ((s.fed dt x bits).sdIn x.val n.val).rawRun) :
    exec (.inputFreeze dt x n bits) s = .next (((s.fed dt x bits).setMaskBit (R.SENSE_FB_STAT_FREEZE x.val)
      n.val).irq (pgSense x.val) (6 + n.val)) := by
  have hno' : ¬ ((s.fed dt x bits).get (R.SENSE_FB_STAT_FREEZE x.val)).testBit n.val = true := by
    rw [State.get_fed, hno]
    exact Bool.false_ne_true
  have hrun' : (s.fed dt x bits).get (R.SENSE_FILT_CFG_FREEZE_N x.val)
      ≤ ((s.fed dt x bits).sdIn x.val n.val).rawRun := by rwa [State.get_fed]
  exact congrArg Host.Outcome.next (if_pos ⟨State.sdRuns_fed hr, State.inOn_fed hon, hno', .inl hrun'⟩)

/-! ### A comparator's count (R110) -/

theorem State.cmpRun_of_sense (h : (t.ch y).sense = (s.ch y).sense) (m : Nat) : t.cmpRun y m = s.cmpRun y m := by
  unfold State.cmpRun State.sdIn
  rw [h]

/-- A part that a change sets to its initial value reads so, also on an input that is not there. -/
theorem State.sdIn_setIn_cleared {α : Type} (g : SdIn → α) {f : SdIn → SdIn} (hf : ∀ d, g (f d) = g {}) (s : State)
    (y i : Nat) : g ((s.setIn y i f).sdIn y i) = g {} := by
  unfold State.sdIn State.setIn
  rcases lt_or_ge y s.chan.length with hlt | hge
  · rw [State.sense_setSense_same hlt, List.getD_eq_getElem?_getD, List.getElem?_modify]
    cases (s.ch y).sense.ins[i]? with
    | none => rfl
    | some d => simpa using hf d
  · rw [State.ch_of_le (by rwa [State.length_chan_setSense]), List.getD_eq_getElem?_getD]
    change g ((List.replicate 6 ({} : SdIn))[i]?.getD {}) = g {}
    rw [List.getElem?_replicate]
    split <;> rfl

@[simp] theorem State.get_setCmpRun (s : State) (y m v : Nat) (q : Reg) : (s.setCmpRun y m v).get q = s.get q := rfl

/-- A count set to 0 reads 0. -/
theorem State.cmpRun_setCmpRun_zero (s : State) (y m : Nat) : (s.setCmpRun y m 0).cmpRun y m = 0 := by
  unfold State.cmpRun State.setCmpRun
  rcases Nat.mod_two_eq_zero_or_one m with heven | hodd
  · simp only [heven, if_true]
    exact State.sdIn_setIn_cleared SdIn.cmpA (f := fun d => { d with cmpA := 0 }) (fun _ => rfl) s y (m / 2)
  · simp only [hodd, Nat.one_ne_zero, if_false]
    exact State.sdIn_setIn_cleared SdIn.cmpB (f := fun d => { d with cmpB := 0 }) (fun _ => rfl) s y (m / 2)

/-! ### The fault source of a comparator (R112, R155) -/

/-- No register of the groups' upkeep stands on the sensing page, and none is the readout of the low sources. -/
theorem groups_offPage (x : Fin 8) : ∀ r ∈ groupsFields x.val,
    r.key / 131072 ≠ pgSense x.val ∧ r.key ≠ (R.PWM_FSRC_LO_ACTIVE x.val).key := by
  have hstop : ∀ x : Fin 8, ∀ r ∈ stopFields x.val ++ [R.PWM_GRP_ACT_ACTIVE x.val, R.GLOG_CNT_LOST,
      R.GLOG_STATUS_LOST_SEEN], r.key / 131072 ≠ pgSense x.val ∧ r.key ≠ (R.PWM_FSRC_LO_ACTIVE x.val).key := by decide
  have hgroup : ∀ g < 16, ∀ r ∈ groupFields x.val g,
      r.key / 131072 ≠ pgSense x.val ∧ r.key ≠ (R.PWM_FSRC_LO_ACTIVE x.val).key := by
    intro g hg
    simp only [groupFields, List.mem_cons, List.not_mem_nil, or_false, forall_eq_or_imp, forall_eq, Reg.key, pgSense,
      R.GUARD_GSTAT_LATCHED, R.GUARD_GSTAT_WAITING, R.GUARD_GSTAT_ESCALATED, R.GUARD_GSTAT_TRIPS,
      R.GUARD_GSTAT_COUNT, R.PWM_FSRC_LO_ACTIVE]
    omega
  intro r hr
  obtain ⟨g, hg, hmap⟩ := List.mem_flatMap.1 hr
  exact (List.mem_append.1 hmap).elim (hstop x r) (hgroup g (List.mem_range.1 hg) r)

theorem sensePage_notMem_groups (h : q.key / 131072 = pgSense x.val) : q.key ∉ (groupsFields x.val).map Reg.key := by
  intro hmem
  obtain ⟨r, hr, hkey⟩ := List.mem_map.1 hmem
  exact (groups_offPage x r hr).1 (by rw [hkey, h])

theorem lowSources_notMem_groups (x : Fin 8) :
    (R.PWM_FSRC_LO_ACTIVE x.val).key ∉ (groupsFields x.val).map Reg.key := by
  intro hmem
  obtain ⟨r, hr, hkey⟩ := List.mem_map.1 hmem
  exact (groups_offPage x r hr).2 hkey

/-- The page's events and its comparators' outputs and settings. -/
theorem cmpRegs_onPage (x : Fin 8) (m : Fin 12) : ∀ q ∈ [R.SENSE_CMP_STAT_OUT x.val, H.IRQ_RAW (pgSense x.val),
    R.SENSE_CMP_CFG_MODE x.val m.val, R.SENSE_CMP_CFG_FILT x.val m.val, R.SENSE_CMP_CFG_HYST x.val m.val],
    q.key / 131072 = pgSense x.val := by
  revert x m
  decide

theorem State.source_low (s : State) (x : Fin 8) (m : Fin 12) :
    s.source x.val m.val = (s.get (R.PWM_FSRC_LO_ACTIVE x.val)).testBit m.val := if_pos (by omega)

theorem State.putSource_low (s : State) (x : Fin 8) (m : Fin 12) (b : Bool) :
    s.putSource x.val m.val b = s.putMaskBit (R.PWM_FSRC_LO_ACTIVE x.val) m.val b := if_pos (by omega)

/-- What a change of a comparator's source can touch. -/
abbrev sourceFields (x : Nat) : List Reg := R.PWM_FSRC_LO_ACTIVE x :: groupsFields x

theorem State.spares_putSource (s : State) (x : Fin 8) (m : Fin 12) (b : Bool) :
    s.spares (sourceFields x.val) ((s.putSource x.val m.val b).groupsSync x.val) := by
  rw [State.putSource_low]
  exact (s.spares_refl.of_regs (s.regsBut_of_regs.putMaskBit)).trans
    ((State.spares_groupsSync _ _).mono (List.subset_cons_self _ _))

theorem State.spares_sourceOn (s : State) (x : Fin 8) (m : Fin 12) :
    s.spares (sourceFields x.val) (s.sourceOn x.val m.val) :=
  .ite s.spares_refl (s.spares_putSource x m true)

theorem State.spares_sourceOff (s : State) (x : Fin 8) (m : Fin 12) :
    s.spares (sourceFields x.val) (s.sourceOff x.val m.val) :=
  .ite (s.spares_putSource x m false) s.spares_refl

theorem State.source_groupsSync (s : State) (x : Fin 8) (m : Fin 12) :
    (s.groupsSync x.val).source x.val m.val = s.source x.val m.val := by
  rw [State.source_low, State.source_low, (s.spares_groupsSync x.val).get (lowSources_notMem_groups x)]

/-- A source that is on stays so, or becomes so (R155). -/
theorem State.source_sourceOn (s : State) (x : Fin 8) (m : Fin 12) :
    (s.sourceOn x.val m.val).source x.val m.val = true := by
  unfold State.sourceOn
  split
  next h => exact h
  next =>
    rw [State.source_groupsSync, State.source_low, State.putSource_low]
    unfold State.putMaskBit putBit setBit
    rw [State.get_set_same _ _ (by simp [R.PWM_FSRC_LO_ACTIVE]), Nat.testBit_mod_two_pow, if_pos rfl, Nat.testBit_or,
      Nat.testBit_two_pow]
    have hlt : m.val < (R.PWM_FSRC_LO_ACTIVE x.val).width := lt_of_lt_of_le m.isLt (by simp [R.PWM_FSRC_LO_ACTIVE])
    simp [hlt]

theorem State.source_sourceOff (s : State) (x : Fin 8) (m : Fin 12) :
    (s.sourceOff x.val m.val).source x.val m.val = false := by
  unfold State.sourceOff
  split
  next =>
    rw [State.source_groupsSync, State.source_low, State.putSource_low,
      State.testBit_putMaskBit_false _ (by simp [R.PWM_FSRC_LO_ACTIVE])]
  next h => exact Bool.eq_false_iff.2 h

/-- What stands on the sensing page is not touched by a change of a source. -/
theorem sensePage_notMem_source (h : q.key / 131072 = pgSense x.val) : q.key ∉ (sourceFields x.val).map Reg.key := by
  have hne : q.key ≠ (R.PWM_FSRC_LO_ACTIVE x.val).key := by
    intro heq
    rw [heq] at h
    simp only [Reg.key, R.PWM_FSRC_LO_ACTIVE, pgSense] at h
    omega
  rw [List.map_cons, List.mem_cons, not_or]
  exact ⟨hne, sensePage_notMem_groups h⟩

/-! ### A comparator asserts and releases (R110, R112) -/

/-- The capture units' counts stand on no page of the sensing or the PWM. -/
theorem ignored_key_ne (x : Fin 8) : ∀ q ∈ [R.SENSE_CMP_STAT_OUT x.val, H.IRQ_RAW (pgSense x.val),
    R.PWM_FSRC_LO_ACTIVE x.val], ∀ y, q.key ≠ (R.SAP_CNT_IGNORED y).key := by
  simp only [List.mem_cons, List.not_mem_nil, or_false, forall_eq_or_imp, forall_eq, Reg.key, pgSense, H.IRQ_RAW,
    R.SENSE_CMP_STAT_OUT, R.PWM_FSRC_LO_ACTIVE, R.SAP_CNT_IGNORED]
  exact ⟨fun y => by omega, fun y => by omega, fun y => by omega⟩

theorem exec_comparatorAssert (hr : s.sdRuns x.val = true) (hon : s.inOn x.val (m.val / 2) = true)
    (hrun : s.get (R.SENSE_CMP_CFG_FILT x.val m.val) < (s.fed dt x bits).cmpRun x.val m.val)
    (hout : s.cmpOut x.val m.val = false) :
    exec (.comparatorAssert dt x m bits) s = .next ((s.fed dt x bits).cmpAssert x.val m.val) := by
  have hrun' : (s.fed dt x bits).get (R.SENSE_CMP_CFG_FILT x.val m.val) < (s.fed dt x bits).cmpRun x.val m.val := by
    rwa [State.get_fed]
  have hout' : ¬ (s.fed dt x bits).cmpOut x.val m.val = true := by
    rw [State.cmpOut_fed, hout]
    exact Bool.false_ne_true
  exact congrArg Host.Outcome.next (if_pos ⟨State.sdRuns_fed hr, State.inOn_fed hon, hout', hrun'⟩)

theorem exec_comparatorRelease (hr : s.sdRuns x.val = true) (hon : s.inOn x.val (m.val / 2) = true)
    (hrun : s.get (R.SENSE_CMP_CFG_FILT x.val m.val) < (s.fed dt x bits).cmpRun x.val m.val)
    (hout : s.cmpOut x.val m.val = true) :
    exec (.comparatorRelease dt x m bits) s = .next ((s.fed dt x bits).cmpRelease x.val m.val) := by
  have hrun' : (s.fed dt x bits).get (R.SENSE_CMP_CFG_FILT x.val m.val) < (s.fed dt x bits).cmpRun x.val m.val := by
    rwa [State.get_fed]
  have hout' : (s.fed dt x bits).cmpOut x.val m.val = true := by
    rw [State.cmpOut_fed, hout]
  exact congrArg Host.Outcome.next (if_pos ⟨State.sdRuns_fed hr, State.inOn_fed hon, hout', hrun'⟩)

/-- A comparator asserted shows its output, its source and its event. -/
theorem State.shown_cmpAssert (s : State) (x : Fin 8) (m : Fin 12) :
    (s.cmpAssert x.val m.val).cmpOut x.val m.val = true ∧ (s.cmpAssert x.val m.val).source x.val m.val = true
    ∧ ((s.cmpAssert x.val m.val).get (H.IRQ_RAW (pgSense x.val))).testBit (12 + m.val) = true := by
  unfold State.cmpAssert
  extract_lets shown told
  have hkeep : ∀ q ∈ [R.SENSE_CMP_STAT_OUT x.val, H.IRQ_RAW (pgSense x.val), R.PWM_FSRC_LO_ACTIVE x.val],
      ∀ src time ok, (told.offerTrigger src time ok).get q = told.get q :=
    fun q hq _ _ _ => State.get_offerTrigger _ _ _ _ (ignored_key_ne x q hq)
  have hpage : ∀ q ∈ [R.SENSE_CMP_STAT_OUT x.val, H.IRQ_RAW (pgSense x.val)],
      told.get q = (shown.irq (pgSense x.val) (12 + m.val)).get q := fun q hq =>
    (State.spares_sourceOn _ x m).get (sensePage_notMem_source (cmpRegs_onPage x m q (by
      simp only [List.mem_cons, List.not_mem_nil, or_false] at hq ⊢
      tauto)))
  refine ⟨?_, ?_, ?_⟩
  · rw [State.cmpOut, hkeep _ (by simp), hpage _ (by simp), State.get_irq_other, State.get_setCmpRun,
      State.testBit_setMaskBit_same _ (by simp [R.SENSE_CMP_STAT_OUT]) m.isLt]
    simp only [Reg.key, R.SENSE_CMP_STAT_OUT, H.IRQ_RAW, pgSense]
    omega
  · rw [State.source_low, hkeep _ (by simp), ← State.source_low, State.source_sourceOn]
  · rw [hkeep _ (by simp), hpage _ (by simp), State.event_irq _ (by omega)]

/-- A comparator released: its count starts again, its output and its source are off; nothing else of the page's
settings moves. -/
theorem State.shown_cmpRelease (s : State) (x : Fin 8) (m : Fin 12) :
    (s.cmpRelease x.val m.val).cmpOut x.val m.val = false
    ∧ (s.cmpRelease x.val m.val).cmpRun x.val m.val = 0
    ∧ (s.cmpOut x.val m.val = true → (s.cmpRelease x.val m.val).source x.val m.val = false)
    ∧ ∀ q : Reg, q.key / 131072 = pgSense x.val → q.key ≠ (R.SENSE_CMP_STAT_OUT x.val).key →
      (s.cmpRelease x.val m.val).get q = s.get q := by
  have hout : (s.setCmpRun x.val m.val 0).cmpOut x.val m.val = s.cmpOut x.val m.val := rfl
  have hcount := s.cmpRun_setCmpRun_zero x.val m.val
  unfold State.cmpRelease
  extract_lets counted
  split
  next h =>
    have hoff := State.spares_sourceOff (counted.putMaskBit (R.SENSE_CMP_STAT_OUT x.val) m.val false) x m
    refine ⟨?_, ?_, fun _ => State.source_sourceOff _ x m, fun q hq hne => ?_⟩
    · rw [State.cmpOut, hoff.get (sensePage_notMem_source (cmpRegs_onPage x m _ (by simp))),
        State.testBit_putMaskBit_false _ (by simp [R.SENSE_CMP_STAT_OUT])]
    · rw [State.cmpRun_of_sense (hoff.sense x.val), ← hcount]
      exact State.cmpRun_of_sense (congrArg ChSt.sense (State.ch_of_chan (State.chan_putMaskBit ..))) _
    · exact (hoff.get (sensePage_notMem_source hq)).trans (State.get_set_other _ _ hne)
  next h => exact ⟨Bool.eq_false_iff.2 h, hcount, fun hs => absurd (hout.trans hs) h, fun _ _ _ => rfl⟩

/-! ### Writes of the settings (R100, R101, R112) -/

theorem exec_sdClkWrite (ho : s.hostOpen (pgSense x.val) = true) :
    exec (.sdClkWrite dt x bits w) s = .next ((s.fed dt x bits).sdClkWrite x.val (w % 2 ^ 32)) :=
  congrArg Host.Outcome.next (State.hostAct_of_hostOpen (State.hostOpen_fed ho))

/-- The divider and the phase do not suit each other (R100). -/
abbrev badDivider (w : Nat) : Prop := bitsOf w 0 6 < 16 ∨ 40 < bitsOf w 0 6 ∨ bitsOf w 0 6 ≤ bitsOf w 8 6

/-- An illegal divider is counted, and nothing else of the page's clock moves. -/
theorem State.sdClkWrite_bad (h : badDivider w) (s : State) (y : Nat) : s.sdClkWrite y w = s.err (pgSense y) := by
  refine if_pos ?_
  rcases h with h | h | h
  · exact .inl h
  · exact .inr (.inl h)
  · exact .inr (.inr (.inl h))

/-- The clock's three fields as a write gives them. -/
def State.sdClkSet (s : State) (y w : Nat) : State :=
  ((s.set (R.SENSE_SD_CLK_DIV y) (bitsOf w 0 6)).set (R.SENSE_SD_CLK_PHASE y) (bitsOf w 8 6)).setB
    (R.SENSE_SD_CLK_EN y) (w.testBit 16)

theorem State.shown_sdClkSet (s : State) (y w : Nat) :
    (s.sdClkSet y w).get (R.SENSE_SD_CLK_DIV y) = bitsOf w 0 6
    ∧ (s.sdClkSet y w).get (R.SENSE_SD_CLK_PHASE y) = bitsOf w 8 6
    ∧ (s.sdClkSet y w).flag (R.SENSE_SD_CLK_EN y) = w.testBit 16 := by
  have hkeys : (R.SENSE_SD_CLK_DIV y).key ≠ (R.SENSE_SD_CLK_PHASE y).key
      ∧ (R.SENSE_SD_CLK_DIV y).key ≠ (R.SENSE_SD_CLK_EN y).key
      ∧ (R.SENSE_SD_CLK_PHASE y).key ≠ (R.SENSE_SD_CLK_EN y).key := by
    simp only [Reg.key, R.SENSE_SD_CLK_DIV, R.SENSE_SD_CLK_PHASE, R.SENSE_SD_CLK_EN]
    omega
  obtain ⟨hphase, hdivEn, hphaseEn⟩ := hkeys
  unfold State.sdClkSet
  refine ⟨?_, ?_, State.flag_setB_same (by simp [R.SENSE_SD_CLK_EN]) (by simp [R.SENSE_SD_CLK_EN])⟩
  · rw [State.get_setB_other hdivEn, State.get_set_other _ _ hphase,
      State.get_set_fits (bitsOf_lt w 0 6) (by simp [R.SENSE_SD_CLK_DIV])]
  · rw [State.get_setB_other hphaseEn, State.get_set_fits (bitsOf_lt w 8 6) (by simp [R.SENSE_SD_CLK_PHASE])]

/-- With the clock off a legal write is taken, and what follows it touches no register. -/
theorem State.get_sdClkWrite (hoff : s.flag (R.SENSE_SD_CLK_EN y) = false) (h : ¬ badDivider w) (q : Reg) :
    (s.sdClkWrite y w).get q = (s.sdClkSet y w).get q := by
  have hnot : ¬ (bitsOf w 0 6 < 16 ∨ 40 < bitsOf w 0 6 ∨ bitsOf w 0 6 ≤ bitsOf w 8 6
      ∨ s.flag (R.SENSE_SD_CLK_EN y) = true ∧ (bitsOf w 0 6 ≠ s.get (R.SENSE_SD_CLK_DIV y) ∨ bitsOf w 8 6 ≠ s.get (R.SENSE_SD_CLK_PHASE y))) := by
    rw [hoff]
    rintro (hc | hc | hc | ⟨hc, -⟩)
    · exact h (.inl hc)
    · exact h (.inr (.inl hc))
    · exact h (.inr (.inr hc))
    · exact absurd hc Bool.false_ne_true
  unfold State.sdClkWrite
  extract_lets div phase en was set shown cleared started
  rw [if_neg hnot]
  have hcleared : shown.regsBut [] cleared := shown.regsBut_of_regs
  have hstarted : shown.regsBut [] started := by
    have hstop : ¬ (was = true ∧ ¬ en = true) := fun hc => absurd (hc.1.symm.trans hoff) (by decide)
    dsimp only [started]
    rw [if_neg hstop]
    exact .ite (hcleared.trans (cleared.holds_clearIns y).regs) shown.regsBut_of_regs
  exact (hstarted.trans (started.holds_senseDlSync y).regs) q (by simp)

/-- The write of one of a comparator's two registers. -/
theorem State.senseWrite_cmp (s : State) (x : Fin 8) (m : Fin 12) (w : Nat) :
    s.senseWrite x.val (0x080 + 8 * m.val + 0) w = s.cmpThrWrite x.val m.val w
    ∧ s.senseWrite x.val (0x080 + 8 * m.val + 4) w = s.cmpCfgWrite x.val m.val w := by
  have hthr : (0x080 + 8 * m.val + 0 - 0x080) / 8 = m.val := by omega
  have hcfg : (0x080 + 8 * m.val + 4 - 0x080) / 8 = m.val := by omega
  unfold State.senseWrite
  constructor
  · rw [if_neg (by omega), if_neg (by omega), if_neg (by omega), if_neg (by omega), if_neg (by omega),
      if_pos (by omega), hthr, if_pos (by omega)]
  · rw [if_neg (by omega), if_neg (by omega), if_neg (by omega), if_neg (by omega), if_neg (by omega),
      if_pos (by omega), hcfg, if_neg (by omega)]

theorem exec_cmpThrWrite (ho : s.hostOpen (pgSense x.val) = true) :
    exec (.cmpCfgWrite dt x bits m true w) s = .next ((s.fed dt x bits).cmpThrWrite x.val m.val (w % 2 ^ 32)) := by
  exact congrArg Host.Outcome.next ((State.hostAct_of_hostOpen (State.hostOpen_fed ho)).trans
    (State.senseWrite_cmp _ x m _).1)

theorem exec_cmpCfgWrite (ho : s.hostOpen (pgSense x.val) = true) :
    exec (.cmpCfgWrite dt x bits m false w) s = .next ((s.fed dt x bits).cmpCfgWrite x.val m.val (w % 2 ^ 32)) := by
  exact congrArg Host.Outcome.next ((State.hostAct_of_hostOpen (State.hostOpen_fed ho)).trans
    (State.senseWrite_cmp _ x m _).2)

/-- A write of the thresholds takes effect and restarts the count. -/
theorem State.shown_cmpThrWrite (s : State) (y m w : Nat) :
    (s.cmpThrWrite y m w).get (R.SENSE_CMP_THR_LO y m) = bitsOf w 0 16
    ∧ (s.cmpThrWrite y m w).get (R.SENSE_CMP_THR_HI y m) = bitsOf w 16 16
    ∧ (s.cmpThrWrite y m w).cmpRun y m = 0 := by
  have hne : (R.SENSE_CMP_THR_LO y m).key ≠ (R.SENSE_CMP_THR_HI y m).key := by
    simp only [Reg.key, R.SENSE_CMP_THR_LO, R.SENSE_CMP_THR_HI]
    omega
  unfold State.cmpThrWrite
  refine ⟨?_, ?_, State.cmpRun_setCmpRun_zero _ y m⟩
  · rw [State.get_setCmpRun, State.get_set_other _ _ hne,
      State.get_set_fits (bitsOf_lt w 0 16) (by simp [R.SENSE_CMP_THR_LO])]
  · rw [State.get_setCmpRun, State.get_set_fits (bitsOf_lt w 16 16) (by simp [R.SENSE_CMP_THR_HI])]

/-- The comparator's three settings as a write gives them. -/
def State.cmpCfgSet (s : State) (y m w : Nat) : State :=
  ((s.set (R.SENSE_CMP_CFG_MODE y m) (bitsOf w 0 2)).set (R.SENSE_CMP_CFG_FILT y m) (bitsOf w 4 4)).set
    (R.SENSE_CMP_CFG_HYST y m) (bitsOf w 16 12)

theorem State.shown_cmpCfgSet (s : State) (y m w : Nat) :
    (s.cmpCfgSet y m w).get (R.SENSE_CMP_CFG_MODE y m) = bitsOf w 0 2
    ∧ (s.cmpCfgSet y m w).get (R.SENSE_CMP_CFG_FILT y m) = bitsOf w 4 4
    ∧ (s.cmpCfgSet y m w).get (R.SENSE_CMP_CFG_HYST y m) = bitsOf w 16 12 := by
  have hkeys : (R.SENSE_CMP_CFG_MODE y m).key ≠ (R.SENSE_CMP_CFG_FILT y m).key
      ∧ (R.SENSE_CMP_CFG_MODE y m).key ≠ (R.SENSE_CMP_CFG_HYST y m).key
      ∧ (R.SENSE_CMP_CFG_FILT y m).key ≠ (R.SENSE_CMP_CFG_HYST y m).key := by
    simp only [Reg.key, R.SENSE_CMP_CFG_MODE, R.SENSE_CMP_CFG_FILT, R.SENSE_CMP_CFG_HYST]
    omega
  obtain ⟨hfilt, hmodeHyst, hfiltHyst⟩ := hkeys
  unfold State.cmpCfgSet
  refine ⟨?_, ?_, State.get_set_fits (bitsOf_lt w 16 12) (by simp [R.SENSE_CMP_CFG_HYST])⟩
  · rw [State.get_set_other _ _ hmodeHyst, State.get_set_other _ _ hfilt,
      State.get_set_fits (bitsOf_lt w 0 2) (by simp [R.SENSE_CMP_CFG_MODE])]
  · rw [State.get_set_other _ _ hfiltHyst, State.get_set_fits (bitsOf_lt w 4 4) (by simp [R.SENSE_CMP_CFG_FILT])]

/-- After the settings the comparator is released, with mode 0, or its count starts again. -/
theorem State.cmpCfgWrite_eq (s : State) (y m w : Nat) : s.cmpCfgWrite y m w =
    if bitsOf w 0 2 = 0 then (s.cmpCfgSet y m w).cmpRelease y m else (s.cmpCfgSet y m w).setCmpRun y m 0 := rfl

theorem cmpSettings_ne_output (x : Fin 8) (m : Fin 12) : ∀ q ∈ [R.SENSE_CMP_CFG_MODE x.val m.val,
    R.SENSE_CMP_CFG_FILT x.val m.val, R.SENSE_CMP_CFG_HYST x.val m.val],
    q.key / 131072 = pgSense x.val ∧ q.key ≠ (R.SENSE_CMP_STAT_OUT x.val).key := by
  revert x m
  decide

/-- A write of the settings takes effect and restarts the count; mode 0 releases the comparator. -/
theorem State.shown_cmpCfgWrite (s : State) (x : Fin 8) (m : Fin 12) (w : Nat) :
    (∀ q ∈ [R.SENSE_CMP_CFG_MODE x.val m.val, R.SENSE_CMP_CFG_FILT x.val m.val, R.SENSE_CMP_CFG_HYST x.val m.val],
      (s.cmpCfgWrite x.val m.val w).get q = (s.cmpCfgSet x.val m.val w).get q)
    ∧ (s.cmpCfgWrite x.val m.val w).cmpRun x.val m.val = 0
    ∧ (bitsOf w 0 2 = 0 → (s.cmpCfgWrite x.val m.val w).cmpOut x.val m.val = false) := by
  obtain ⟨hout, hrun, -, hkeep⟩ := (s.cmpCfgSet x.val m.val w).shown_cmpRelease x m
  rw [State.cmpCfgWrite_eq]
  split
  next =>
    refine ⟨fun q hq => ?_, hrun, fun _ => hout⟩
    obtain ⟨hpage, hne⟩ := cmpSettings_ne_output x m q hq
    exact hkeep q hpage hne
  next h => exact ⟨fun _ _ => rfl, State.cmpRun_setCmpRun_zero _ _ _, fun h0 => absurd h0 h⟩

/-- The marks of an input stand beside the page's events. -/
theorem marks_ne_irq (x : Fin 8) : (R.SENSE_FB_STAT_LOSS x.val).key ≠ (H.IRQ_RAW (pgSense x.val)).key
    ∧ (R.SENSE_FB_STAT_FREEZE x.val).key ≠ (H.IRQ_RAW (pgSense x.val)).key := by
  revert x
  decide

/-- The clock's fields are not those of an error. -/
theorem clock_notMem_err (x : Fin 8) : ∀ q ∈ [R.SENSE_SD_CLK_EN x.val, R.SENSE_SD_CLK_DIV x.val],
    q.key ∉ [H.ERR_COUNT (pgSense x.val), H.IRQ_RAW (pgSense x.val)].map Reg.key := by
  revert x
  decide

end Sys2Proof.Machine

open Sys2Proof.Machine

/-- Settles O47: the captured bits touch no register, so each command's own rule decides; a comparator's output and
settings outlast the upkeep of the groups that its source moves (`State.spares_groupsSync`). -/
theorem sensingInputCommands : Obligations.SensingInputCommands := by
  unfold Obligations.SensingInputCommands
  refine ⟨?loss, ?lossEnd, ?freeze, ?assert, ?release, ?clock, ?badClock, ?thresholds, ?settings⟩
  case loss =>
    intro s dt x n bits hr hon hrun hno
    exact ⟨_, exec_inputLoss hr hon hrun hno, State.mark_setMaskBit _ (by simp [R.SENSE_FB_STAT_LOSS]) n.isLt
      (marks_ne_irq x).1, State.event_irq _ (by omega)⟩
  case lossEnd =>
    intro s dt x n bits hr hon hrun hyes
    exact ⟨_, exec_inputLossEnd hr hon hrun hyes, State.testBit_putMaskBit_false _ (by simp [R.SENSE_FB_STAT_LOSS])⟩
  case freeze =>
    intro s dt x n bits hr hon hno hrun
    exact ⟨_, exec_inputFreeze hr hon hno hrun, State.mark_setMaskBit _ (by simp [R.SENSE_FB_STAT_FREEZE]) n.isLt
      (marks_ne_irq x).2, State.event_irq _ (by omega)⟩
  case assert =>
    intro s dt x m bits hr hon hrun hout
    exact ⟨_, exec_comparatorAssert hr hon hrun hout, (s.fed dt x bits).shown_cmpAssert x m⟩
  case release =>
    intro s dt x m bits hr hon hrun hout
    obtain ⟨hreleased, -, hsource, -⟩ := (s.fed dt x bits).shown_cmpRelease x m
    exact ⟨_, exec_comparatorRelease hr hon hrun hout, hreleased, hsource ((State.cmpOut_fed ..).trans hout)⟩
  case clock =>
    intro s dt w x bits ho hoff hlo hhi hphase
    have hoff' : (s.fed dt x bits).flag (R.SENSE_SD_CLK_EN x.val) = false := by
      rw [State.flag_eq, State.get_fed]
      exact hoff
    have hgood : ¬ badDivider (w % 2 ^ 32) := by
      rintro (h | h | h) <;> omega
    have hget := State.get_sdClkWrite hoff' hgood
    obtain ⟨hdiv, hph, hen⟩ := (s.fed dt x bits).shown_sdClkSet x.val (w % 2 ^ 32)
    refine ⟨_, exec_sdClkWrite ho, (hget _).trans hdiv, (hget _).trans hph, ?_⟩
    rw [State.flag_eq, hget, ← State.flag_eq, hen]
  case badClock =>
    intro s dt w x bits ho hbad
    have herr : (s.fed dt x bits).regsBut [H.ERR_COUNT (pgSense x.val), H.IRQ_RAW (pgSense x.val)]
        ((s.fed dt x bits).err (pgSense x.val)) := (State.regsBut_of_regs _).err
    have hkeep : ∀ q ∈ [R.SENSE_SD_CLK_EN x.val, R.SENSE_SD_CLK_DIV x.val],
        ((s.fed dt x bits).err (pgSense x.val)).get q = s.get q := fun q hq =>
      (herr q (clock_notMem_err x q hq)).trans (State.get_fed ..)
    refine ⟨_, (exec_sdClkWrite ho).trans (congrArg Host.Outcome.next (State.sdClkWrite_bad hbad _ _)),
      hkeep _ (by simp), hkeep _ (by simp), ?_⟩
    rw [State.errCount_err, State.get_fed]
  case thresholds =>
    intro s dt w x bits m ho
    exact ⟨_, exec_cmpThrWrite ho, State.shown_cmpThrWrite _ _ _ _⟩
  case settings =>
    intro s dt w x bits m ho
    obtain ⟨hget, hrun, hout⟩ := (s.fed dt x bits).shown_cmpCfgWrite x m (w % 2 ^ 32)
    obtain ⟨hmode, hfilt, hhyst⟩ := (s.fed dt x bits).shown_cmpCfgSet x.val m.val (w % 2 ^ 32)
    exact ⟨_, exec_cmpCfgWrite ho, (hget _ (by simp)).trans hmode, (hget _ (by simp)).trans hfilt,
      (hget _ (by simp)).trans hhyst, hrun, hout⟩

end

section
/-! What a change of a fault source shows and what it leaves (O38, O40, O57): the source and its mapped group are
active, the bits of the groups and of the page's events only rise, and the carrier, the demands from upstream and the
guard's inputs stay (R155, R156, R158, R160, R167, R171, R172). -/

-- One proof after another: many at once take a thread each (see Laws/KeepsChannel).
set_option Elab.async false

namespace Sys2Proof.Machine

variable {s t u : State} {l : List Reg} {q r : Reg} {y g n b v : Nat} {x : Fin 8}

/-! ### Parts of a channel -/

section
variable {β : Type} {φ : ChSt → β}

/-- From `s` to `t` the part `φ` of every channel stays. -/
def State.agreesOn (φ : ChSt → β) (s t : State) : Prop := ∀ y, φ (t.ch y) = φ (s.ch y)

theorem State.agreesOn_refl (s : State) : s.agreesOn φ s := fun _ => rfl

theorem State.agreesOn.trans (h : s.agreesOn φ t) (h' : t.agreesOn φ u) : s.agreesOn φ u :=
  fun y => (h' y).trans (h y)

/-- What leaves the channels alone. -/
theorem State.agreesOn.keep (h : s.agreesOn φ t) (e : u.chan = t.chan := by simp) : s.agreesOn φ u :=
  h.trans fun _ => congrArg φ (State.ch_of_chan e)

theorem State.agreesOn.ite {c : Prop} [Decidable c] (ht : s.agreesOn φ t) (hu : s.agreesOn φ u) :
    s.agreesOn φ (if c then t else u) := by
  split
  · exact ht
  · exact hu

theorem State.agreesOn.foldl {α : Type} {xs : List α} {f : State → α → State}
    (h : ∀ (t : State), ∀ a ∈ xs, t.agreesOn φ (f t a)) (s : State) : s.agreesOn φ (xs.foldl f s) :=
  List.foldlRecOn xs f s.agreesOn_refl (fun t ht a ha => ht.trans (h t a ha))

theorem State.ch_setCh_other {f : ChSt → ChSt} {z : Nat} (h : z ≠ y) : (s.setCh y f).ch z = s.ch z := by
  simp [State.ch, State.setCh, List.getD_eq_getElem?_getD, List.getElem?_modify_ne _ _ h.symm]

/-- A change of a channel beside the part. -/
theorem State.agreesOn.setCh (h : s.agreesOn φ t) {f : ChSt → ChSt} (hf : ∀ c, φ (f c) = φ c) :
    s.agreesOn φ (t.setCh y f) := by
  refine h.trans fun z => ?_
  rcases eq_or_ne z y with rfl | hne
  · rcases lt_or_ge z t.chan.length with hlt | hge
    · rw [State.ch_setCh_same hlt, hf]
    · rw [State.ch_of_le hge, State.ch_of_le ((List.length_modify ..).trans_le hge)]
  · rw [State.ch_setCh_other hne]

end

/-- A step of a fold reaches `P`, and every other step keeps it: the fold ends with it. -/
theorem foldl_reaches {α : Type} {xs : List α} {f : State → α → State} {I P : State → Prop} {a : α} (ha : a ∈ xs)
    (hkeep : ∀ t, ∀ b ∈ xs, I t → I (f t b)) (hreach : ∀ t, I t → P (f t a))
    (hstay : ∀ t, ∀ b ∈ xs, P t → P (f t b)) (h : I s) : P (xs.foldl f s) := by
  obtain ⟨before, after, rfl⟩ := List.append_of_mem ha
  rw [List.foldl_append, List.foldl_cons]
  refine List.foldlRecOn after f (hreach _ ?_) (fun t ht b hb => hstay t b (by simp [hb]) ht)
  exact List.foldlRecOn before f h (fun t ht b hb => hkeep t b (by simp [hb]) ht)

/-! ### A channel is stopped -/

/-- Where the carrier of a channel stands. -/
def ChSt.carrier (c : ChSt) : Bool × Nat × Bool := (c.pwm.started, c.pwm.zeroAt, c.pwm.falling)

/-- What of a channel no fault of it changes: the carrier, the demands from upstream of both switches of a leg, whether
blanking runs, and when the filtered inputs changed. -/
def ChSt.steady (c : ChSt) : (Bool × Nat × Bool) × List Bool × Bool × List (Option Nat) :=
  (c.carrier, c.pwm.legs.map LegSt.both, c.guard.blanking, c.guard.filtAt)

theorem State.agreesOn.setCell (h : s.agreesOn ChSt.steady t) {f : CellSt → CellSt} :
    s.agreesOn ChSt.steady (t.setCell y f) := h.setCh fun _ => rfl

theorem State.chan_guardSync (s : State) (x : Nat) : (s.guardSync x).chan = s.chan :=
  State.chan_of_sameBut (keeps_guardSync (keeps_sameBut [.recent, .pod, .regs] s) s x (State.sameBut_refl _ s))

theorem State.steady_holdSync (s : State) (x : Nat) : s.agreesOn ChSt.steady (s.holdSync x) := by
  unfold State.holdSync
  extract_lets on fb held
  have hheld : s.agreesOn ChSt.steady held :=
    .ite (.ite s.agreesOn_refl (.setCh s.agreesOn_refl.keep fun _ => rfl))
      (.ite (.setCh s.agreesOn_refl.keep fun _ => rfl) s.agreesOn_refl)
  exact hheld.keep (State.chan_guardSync _ x)

theorem State.steady_pwmStop (s : State) (x : Nat) : s.agreesOn ChSt.steady (s.pwmStop x) := by
  unfold State.pwmStop
  refine State.agreesOn.keep (State.agreesOn.setCh (s.agreesOn_refl.keep ?_) fun c => ?_) (State.chan_guardSync _ x)
  · simp
  · simp [ChSt.steady, ChSt.carrier, Function.comp_def]

theorem State.steady_dropScan (s : State) (x : Nat) : s.agreesOn ChSt.steady (s.dropScan x) := by
  unfold State.dropScan
  split
  · exact s.agreesOn_refl
  · exact .setCh s.agreesOn_refl.keep fun _ => rfl

theorem State.steady_windowLost (s : State) (x code : Nat) : s.agreesOn ChSt.steady (s.windowLost x code) := by
  unfold State.windowLost
  exact .setCh s.agreesOn_refl.keep fun _ => rfl

theorem State.chan_cellEnter (s : State) (x st : Nat) : (s.cellEnter x st).chan = s.chan :=
  State.chan_of_sameBut (keeps_cellEnter (keeps_sameBut [.recent, .regs] s) s x st (State.sameBut_refl _ s))

theorem State.steady_husk (s : State) (x cause : Nat) : s.agreesOn ChSt.steady (s.husk x cause) := by
  unfold State.husk
  extract_lets st stopped noScan noWindow idle silent left after
  have hscan : s.agreesOn ChSt.steady noScan := (s.steady_pwmStop x).trans (State.steady_dropScan _ x)
  have hwindow : s.agreesOn ChSt.steady noWindow := by
    dsimp only [noWindow]
    split
    next w _ =>
      have hshown : s.agreesOn ChSt.steady (noScan.showOut x w.start) := hscan.keep (State.chan_set ..)
      exact ((hshown.trans (State.steady_windowLost _ x 4)).ite hshown).ite hscan
    next => exact hscan
  have hsilent : s.agreesOn ChSt.steady silent := hwindow.setCell.setCell.keep (State.chan_setB ..)
  have hleft : s.agreesOn ChSt.steady left := by
    refine hsilent.keep ?_
    simp only [left, State.chan_irq, State.chan_set, State.chan_cellEnter]
  have hafter : s.agreesOn ChSt.steady after := (hleft.keep.ite hleft).ite hsilent
  exact hafter.trans (State.steady_holdSync _ x)

theorem State.steady_keStop (s : State) (x : Nat) : s.agreesOn ChSt.steady (s.keStop x) := by
  unfold State.keStop State.keHalted
  refine .setCh (s.agreesOn_refl.keep ?_) fun _ => rfl
  simp only [apply_ite State.chan, State.chan_setB, State.chan_set, ite_self]

/-! ### The upkeep of the groups -/

/-- The registers that the upkeep of group `g` and its sources touch, but for those whose bits it only sets. -/
abbrev quietFields (x g : Nat) : List Reg :=
  chanFields x ++ [R.PWM_STATUS_CH_FAULT x, R.KE_CTRL_EN x, R.KE_ACTIVE_STATE x, R.KE_STATUS_FB_DEGRADED x,
    R.GLOG_CNT_LOST, R.GLOG_STATUS_LOST_SEEN, R.PWM_FSRC_LO_ACTIVE x, R.PWM_FSRC_HI_ACTIVE x] ++ groupFields x g

theorem chan_subset_quiet (x g : Nat) : chanFields x ⊆ quietFields x g :=
  fun _ h => List.mem_append_left _ (List.mem_append_left _ h)

theorem risingFields_notMem_quiet (x : Fin 8) (g : Nat) : ∀ q ∈ [R.PWM_GRP_ACT_ACTIVE x.val, H.IRQ_RAW (pgPwm x.val)],
    q.key ∉ (quietFields x.val g).map Reg.key := by
  have hstop : ∀ x : Fin 8, ∀ q ∈ [R.PWM_GRP_ACT_ACTIVE x.val, H.IRQ_RAW (pgPwm x.val)],
      ∀ r ∈ chanFields x.val ++ [R.PWM_STATUS_CH_FAULT x.val, R.KE_CTRL_EN x.val, R.KE_ACTIVE_STATE x.val,
        R.KE_STATUS_FB_DEGRADED x.val, R.GLOG_CNT_LOST, R.GLOG_STATUS_LOST_SEEN, R.PWM_FSRC_LO_ACTIVE x.val,
        R.PWM_FSRC_HI_ACTIVE x.val], q.key ≠ r.key := by decide +kernel
  have hgroup : ∀ q ∈ [R.PWM_GRP_ACT_ACTIVE x.val, H.IRQ_RAW (pgPwm x.val)], ∀ r ∈ groupFields x.val g,
      q.key ≠ r.key := by
    simp only [groupFields, List.mem_cons, List.not_mem_nil, or_false, forall_eq_or_imp, forall_eq, Reg.key, pgPwm,
      H.IRQ_RAW, R.PWM_GRP_ACT_ACTIVE, R.GUARD_GSTAT_LATCHED, R.GUARD_GSTAT_WAITING, R.GUARD_GSTAT_ESCALATED,
      R.GUARD_GSTAT_TRIPS, R.GUARD_GSTAT_COUNT]
    omega
  intro q hq hmem
  obtain ⟨r, hr, hkey⟩ := List.mem_map.1 hmem
  exact (List.mem_append.1 hr).elim (fun h => hstop x q hq r h hkey.symm) (fun h => hgroup q hq r h hkey.symm)

/-- From `s` to `t` the steady parts of the channels stay, and the active groups and the latched events of the PWM page
of channel `x` only grow. -/
structure State.upkept (x : Fin 8) (s t : State) : Prop where
  steady : s.agreesOn ChSt.steady t
  active : ∀ g < 16, s.groupActive x.val g = true → t.groupActive x.val g = true
  events : ∀ b < 32, s.latched (pgPwm x.val) b → t.latched (pgPwm x.val) b

theorem State.upkept_refl (s : State) : s.upkept x s := ⟨s.agreesOn_refl, fun _ _ h => h, fun _ _ h => h⟩

theorem State.upkept.trans (h : s.upkept x t) (h' : t.upkept x u) : s.upkept x u :=
  ⟨h.steady.trans h'.steady, fun g hg ha => h'.active g hg (h.active g hg ha),
    fun b hb hl => h'.events b hb (h.events b hb hl)⟩

theorem State.upkept.ite {c : Prop} [Decidable c] (ht : s.upkept x t) (hu : s.upkept x u) :
    s.upkept x (if c then t else u) := by
  split
  · exact ht
  · exact hu

theorem State.upkept.foldl {α : Type} {xs : List α} {f : State → α → State}
    (h : ∀ (t : State), ∀ a ∈ xs, t.upkept x (f t a)) (s : State) : s.upkept x (xs.foldl f s) :=
  List.foldlRecOn xs f s.upkept_refl (fun t ht a ha => ht.trans (h t a ha))

/-- What writes quiet registers alone. -/
theorem State.upkept.quiet (h : s.upkept x t) (hr : t.regsBut (quietFields x.val g) u)
    (hs : t.agreesOn ChSt.steady u) : s.upkept x u := by
  have hkept : ∀ q ∈ [R.PWM_GRP_ACT_ACTIVE x.val, H.IRQ_RAW (pgPwm x.val)], u.get q = t.get q :=
    fun q hq => hr q (risingFields_notMem_quiet x g q hq)
  refine h.trans ⟨hs, fun g _ ha => ?_, fun b _ hl => ?_⟩
  · rwa [State.groupActive, hkept _ (by simp)]
  · rwa [State.latched, hkept _ (by simp)]

theorem State.upkept.quietRegs (h : s.upkept x t) (hr : t.regsBut (quietFields x.val g) u)
    (hc : u.chan = t.chan := by simp) : s.upkept x u := h.quiet hr (t.agreesOn_refl.keep hc)

theorem State.upkept.setGroup (h : s.upkept x t) {f : GroupSt → GroupSt} : s.upkept x (t.setGroup x.val g f) :=
  h.quiet (g := 0) t.regsBut_of_regs (t.agreesOn_refl.setCh fun _ => rfl)

/-- A group becomes active. -/
theorem State.upkept.activate (h : s.upkept x t) : s.upkept x (t.setMaskBit (R.PWM_GRP_ACT_ACTIVE x.val) g) := by
  have hirq : (H.IRQ_RAW (pgPwm x.val)).key ≠ (R.PWM_GRP_ACT_ACTIVE x.val).key := by
    simp only [Reg.key, H.IRQ_RAW, R.PWM_GRP_ACT_ACTIVE, pgPwm]
    omega
  refine h.trans ⟨t.agreesOn_refl.keep, fun k hk ha => ?_, fun b _ hl => ?_⟩
  · rw [State.groupActive, State.get_setMaskBit_same t (by simp [R.PWM_GRP_ACT_ACTIVE]), Nat.testBit_mod_two_pow,
      setBit, Nat.testBit_or, ← State.groupActive, ha]
    simp [R.PWM_GRP_ACT_ACTIVE, hk]
  · rwa [State.latched, State.get_setMaskBit_other hirq]

theorem State.active_setMaskBit (s : State) (x : Nat) (hg : g < 16) :
    (s.setMaskBit (R.PWM_GRP_ACT_ACTIVE x) g).groupActive x g = true :=
  State.testBit_setMaskBit_same s (by simp [R.PWM_GRP_ACT_ACTIVE]) hg

/-- An event of the PWM page. -/
theorem State.upkept.event (h : s.upkept x t) : s.upkept x (t.irq (pgPwm x.val) b) := by
  have hact : (R.PWM_GRP_ACT_ACTIVE x.val).key ≠ (H.IRQ_RAW (pgPwm x.val)).key := by
    simp only [Reg.key, H.IRQ_RAW, R.PWM_GRP_ACT_ACTIVE, pgPwm]
    omega
  refine h.trans ⟨t.agreesOn_refl.keep, fun k _ ha => ?_, fun b hb hl => State.latched_irq hb hl⟩
  rwa [State.groupActive, State.get_irq_other hact]

theorem State.upkept_channelFault (s : State) (x : Fin 8) : s.upkept x (s.channelFault x.val) := by
  unfold State.channelFault
  extract_lets was faulted told stopped j
  have hfaulted : s.upkept x faulted := s.upkept_refl.quietRegs (g := 0) s.regsBut_of_regs.setB (State.chan_setB ..)
  have htold : s.upkept x told := hfaulted.ite hfaulted.event
  have hstop (w : State) : w.regsBut (quietFields x.val 0) (w.keStop x.val) := by
    unfold State.keStop State.keHalted
    exact (State.regsBut.ite w.regsBut_of_regs.setB w.regsBut_of_regs.setB.set).setB.setKe
  exact (htold.quiet (hstop _) (State.steady_keStop _ x.val)).quiet
    ((State.regsBut_husk _ x.val _).mono (chan_subset_quiet _ 0)) (State.steady_husk _ x.val _)

theorem State.upkept.guardSync (h : s.upkept x t) : s.upkept x (t.guardSync x.val) :=
  h.quietRegs ((t.regsBut_guardSync x.val).mono (chan_subset_quiet _ 0)) (State.chan_guardSync _ _)

theorem State.upkept_latchGroup (s : State) (x : Fin 8) (g : Nat) : s.upkept x (s.latchGroup x.val g) := by
  unfold State.latchGroup
  extract_lets latched noted released shown told
  have hlatched : s.upkept x latched :=
    s.upkept_refl.quietRegs (g := g) s.regsBut_of_regs.setB.setB ((State.chan_setB ..).trans (State.chan_setB ..))
  have hnoted : s.upkept x noted := hlatched.quietRegs (g := g) latched.regsBut_of_regs rfl
  have htold : s.upkept x told := (hnoted.setGroup (g := g)).activate.guardSync.quietRegs (g := g)
    (State.regsBut_of_regs _).irqLog ((State.chan_submit ..).trans (State.chan_irq ..))
  exact .ite s.upkept_refl (.ite (htold.trans (State.upkept_channelFault _ x)) htold)

theorem State.upkept_escalate (s : State) (x : Fin 8) (g : Nat) : s.upkept x (s.escalate x.val g) := by
  unfold State.escalate
  exact .ite (s.upkept_refl.quietRegs (g := g) s.regsBut_of_regs.setB.irqLog
    ((State.chan_submit ..).trans (by simp))) s.upkept_refl

theorem State.upkept_escalateAll (s : State) (x : Fin 8) : s.upkept x (s.escalateAll x.val) :=
  State.upkept.foldl (fun t g _ => (t.upkept_escalate x g).ite t.upkept_refl) s

theorem State.upkept_closeWindow (s : State) (x : Fin 8) (g : Nat) : s.upkept x (s.closeWindow x.val g) := by
  unfold State.closeWindow
  exact .ite (s.upkept_refl.quietRegs (g := g) s.regsBut_of_regs.set.setB) s.upkept_refl

/-- A group that goes from inactive to active: its bit is set, and from there the rest only grows. -/
theorem State.upkept_activateGroup (s : State) (x : Fin 8) (g : Nat) :
    (s.setMaskBit (R.PWM_GRP_ACT_ACTIVE x.val) g).upkept x (s.activateGroup x.val g) := by
  unfold State.activateGroup
  extract_lets active shown closed opened counted n judged
  have hshown : (s.setMaskBit (R.PWM_GRP_ACT_ACTIVE x.val) g).upkept x shown :=
    ((State.upkept_refl _).quietRegs (g := g) (State.regsBut_of_regs _).inc (State.chan_inc ..)).event
  have hopened : closed.upkept x opened :=
    .ite ((closed.upkept_refl.setGroup (g := g)).quietRegs (g := g) (State.regsBut_of_regs _).logIt
      (State.chan_submit ..))
      closed.upkept_refl
  have hcounted : shown.upkept x counted := (State.upkept_closeWindow _ x g).trans
    (hopened.quietRegs (g := g) (State.regsBut_of_regs _).inc (State.chan_inc ..))
  have hjudged : shown.upkept x judged := .ite (hcounted.trans (.ite (State.upkept_latchGroup _ x g)
    (.ite (State.upkept_escalate _ x g) (State.upkept_refl _)))) shown.upkept_refl
  exact hshown.trans (.ite (hjudged.trans (State.upkept_channelFault _ x)) hjudged)

theorem State.upkept_unrelease (s : State) (x : Fin 8) (g n : Nat) (e : Bool) :
    (s.setMaskBit (R.PWM_GRP_ACT_ACTIVE x.val) g).upkept x (s.unrelease x.val g n e) := by
  unfold State.unrelease
  exact ((State.upkept_refl _).quietRegs (g := g) (State.regsBut_of_regs _).set.setB).setGroup

/-! ### One group brought up to date -/

/-- Group `g` brought up to date with its sources (R156, R172). -/
def State.groupSync (s : State) (x g : Nat) : State :=
  if s.groupSourced x g then
    let t := (s.setB (R.GUARD_GSTAT_WAITING x g) false).setGroup x g
      (fun d => { d with release := false, sourced := true })
    if t.groupActive x g then t
    else
      match t.releasedNow x g with
      | some (n, e) => t.unrelease x g n e
      | none => t.activateGroup x g
  else
    let t := s.setGroup x g (fun d =>
      { d with sourced := false, lastActive := if (s.group x g).sourced then s.now - cellCycle else d.lastActive })
    if t.groupActive x g && !t.flag (R.GUARD_GSTAT_LATCHED x g) && !t.flag (R.GUARD_GSTAT_WAITING x g) then
      t.setB (R.GUARD_GSTAT_WAITING x g) true
    else t

theorem State.groupsSync_eq (s : State) (x : Nat) : s.groupsSync x =
    (((List.range 16).foldl (fun t g => t.groupSync x g) s).escalateAll x).guardSync x := rfl

/-- A group with an active source is active already, or becomes so. -/
theorem State.groupSync_of_sourced (h : s.groupSourced x.val g = true) : ∃ t, s.upkept x t
    ∧ (s.groupSync x.val g = t ∧ t.groupActive x.val g = true
      ∨ (t.setMaskBit (R.PWM_GRP_ACT_ACTIVE x.val) g).upkept x (s.groupSync x.val g)) := by
  unfold State.groupSync
  rw [if_pos h]
  extract_lets t
  refine ⟨t, (s.upkept_refl.quietRegs (g := g) s.regsBut_of_regs.setB).setGroup, ?_⟩
  split
  next ha => exact .inl ⟨rfl, ha⟩
  next =>
    right
    split
    · exact State.upkept_unrelease ..
    · exact State.upkept_activateGroup ..

theorem State.active_groupSync (hg : g < 16) (h : s.groupSourced x.val g = true) :
    (s.groupSync x.val g).groupActive x.val g = true := by
  obtain ⟨t, -, ⟨heq, ha⟩ | hup⟩ := State.groupSync_of_sourced h
  · rwa [heq]
  · exact hup.active g hg (t.active_setMaskBit x.val hg)

theorem State.upkept_groupSync (s : State) (x : Fin 8) (g : Nat) : s.upkept x (s.groupSync x.val g) := by
  by_cases h : s.groupSourced x.val g = true
  · obtain ⟨t, ht, ⟨heq, -⟩ | hup⟩ := State.groupSync_of_sourced h
    · rwa [heq]
    · exact ht.activate.trans hup
  · unfold State.groupSync
    rw [if_neg h]
    have hidle := s.upkept_refl (x := x)
    exact .ite (hidle.setGroup.quietRegs (g := g) (State.regsBut_of_regs _).setB) hidle.setGroup

/-- What one group's upkeep can touch. -/
theorem State.regsBut_groupSync (s : State) (x g : Nat) : s.regsBut (mapFields x g) (s.groupSync x g) := by
  have hon : s.regsBut (mapFields x g) (s.setB (R.GUARD_GSTAT_WAITING x g) false) := s.regsBut_of_regs.setB
  unfold State.groupSync
  refine .ite (.ite hon.keep ?_) (.ite (State.regsBut_of_regs s).setB s.regsBut_of_regs)
  split
  · exact hon.keep.trans (State.spares_unrelease ..).regs
  · exact hon.keep.trans (State.spares_activateGroup ..).regs

theorem State.upkept_groupsSync (s : State) (x : Fin 8) : s.upkept x (s.groupsSync x.val) := by
  rw [State.groupsSync_eq]
  exact ((State.upkept.foldl (fun t g _ => t.upkept_groupSync x g) s).trans (State.upkept_escalateAll _ x)).guardSync

/-! ### The sources and their map (R155, R156) -/

/-- The field stands where no upkeep of the groups of channel `x` writes: a block register of the guard's page below
the groups' states, one of the PWM page beside its header and the active groups, or on another channel's PWM page. -/
abbrev Reg.beside (q : Reg) (x : Nat) : Prop := q.lo < 32 ∧ q.ofs < 4096
  ∧ (q.page = 0x20 + x ∧ 0x040 ≤ q.ofs ∧ q.ofs < 0x100
    ∨ q.page = 0x18 + x ∧ (0x014 ≤ q.ofs ∧ q.ofs ≠ 0x188 ∨ q.ofs = 0x00C ∧ 0 < q.lo ∧ q.lo < 8)
    ∨ 0x18 ≤ q.page ∧ q.page < 0x20 ∧ q.page ≠ 0x18 + x)

theorem groups_notBeside (x : Fin 8) : ∀ r ∈ groupsFields x.val, r.lo < 32 ∧ r.ofs < 4096 ∧ ¬ r.beside x.val := by
  have hstop : ∀ x : Fin 8, ∀ r ∈ stopFields x.val ++ [R.PWM_GRP_ACT_ACTIVE x.val, R.GLOG_CNT_LOST,
      R.GLOG_STATUS_LOST_SEEN], r.lo < 32 ∧ r.ofs < 4096 ∧ ¬ r.beside x.val := by decide +kernel
  have hgroup : ∀ g < 16, ∀ r ∈ groupFields x.val g, r.lo < 32 ∧ r.ofs < 4096 ∧ ¬ r.beside x.val := by
    intro g hg
    simp only [groupFields, List.mem_cons, List.not_mem_nil, or_false, forall_eq_or_imp, forall_eq, Reg.beside,
      R.GUARD_GSTAT_LATCHED, R.GUARD_GSTAT_WAITING, R.GUARD_GSTAT_ESCALATED, R.GUARD_GSTAT_TRIPS,
      R.GUARD_GSTAT_COUNT]
    omega
  intro r hr
  obtain ⟨g, hg, hmap⟩ := List.mem_flatMap.1 hr
  exact (List.mem_append.1 hmap).elim (hstop x r) (hgroup g (List.mem_range.1 hg) r)

theorem Reg.beside.notMem_groups (h : q.beside x.val) : q.key ∉ (groupsFields x.val).map Reg.key := by
  intro hmem
  obtain ⟨r, hr, hkey⟩ := List.mem_map.1 hmem
  obtain ⟨hlo, hofs, hnot⟩ := groups_notBeside x r hr
  obtain ⟨hqlo, hqofs, hq⟩ := h
  unfold Reg.key at hkey
  have hpage : r.page = q.page := by omega
  have hof : r.ofs = q.ofs := by omega
  have hlow : r.lo = q.lo := by omega
  exact hnot ⟨hlo, hofs, by rwa [hpage, hof, hlow]⟩

/-- The register that shows source `n`. -/
abbrev sourceReg (x n : Nat) : Reg := if n < 32 then R.PWM_FSRC_LO_ACTIVE x else R.PWM_FSRC_HI_ACTIVE x

/-- The bit of source `n` in its register. -/
abbrev sourceBit (n : Nat) : Nat := if n < 32 then n else n - 32

theorem State.source_eq (s : State) (x n : Nat) :
    s.source x n = (s.get (sourceReg x n)).testBit (sourceBit n) := by
  unfold State.source sourceReg sourceBit
  split <;> rfl

theorem State.putSource_eq (s : State) (x n : Nat) (v : Bool) :
    s.putSource x n v = s.putMaskBit (sourceReg x n) (sourceBit n) v := by
  unfold State.putSource sourceReg sourceBit
  split <;> rfl

theorem sourceReg_beside (x : Fin 8) (n : Nat) : (sourceReg x.val n).beside x.val := by
  unfold sourceReg
  split <;> simp [Reg.beside, R.PWM_FSRC_LO_ACTIVE, R.PWM_FSRC_HI_ACTIVE]

/-- What a change of a source can touch. -/
abbrev srcFields (x : Nat) : List Reg := R.PWM_FSRC_LO_ACTIVE x :: R.PWM_FSRC_HI_ACTIVE x :: groupsFields x

theorem sourceReg_mem (x n : Nat) : sourceReg x n ∈ srcFields x := by
  unfold sourceReg
  split <;> simp [srcFields]

theorem groups_subset_src (x : Nat) : groupsFields x ⊆ srcFields x := fun _ h => by simp [srcFields, h]

/-- A field beside the groups that is not one of the two readouts of the sources. -/
theorem Reg.beside.notMem_src (h : q.beside x.val) (hlo : q.key ≠ (R.PWM_FSRC_LO_ACTIVE x.val).key)
    (hhi : q.key ≠ (R.PWM_FSRC_HI_ACTIVE x.val).key) : q.key ∉ (srcFields x.val).map Reg.key := by
  simp only [srcFields, List.map_cons, List.mem_cons, not_or]
  exact ⟨hlo, hhi, h.notMem_groups⟩

/-- The registers of the fault sources and of their map are read from `t` as from `s`. -/
structure State.sameInputs (s : State) (x : Nat) (t : State) : Prop where
  source : ∀ n, t.source x n = s.source x n
  mapped : ∀ n < 36, t.mapped x n = s.mapped x n

theorem State.sameInputs.trans (h : s.sameInputs b t) (h' : t.sameInputs b u) : s.sameInputs b u :=
  ⟨fun n => (h'.source n).trans (h.source n), fun n hn => (h'.mapped n hn).trans (h.mapped n hn)⟩

theorem State.mapped_congr (h : s.regsBut l t) (he : (R.PWM_FMAP_EN b (n / 4) (n % 4)).key ∉ l.map Reg.key)
    (hg : (R.PWM_FMAP_GROUP b (n / 4) (n % 4)).key ∉ l.map Reg.key) : t.mapped b n = s.mapped b n := by
  unfold State.mapped
  rw [h.flag he, h _ hg]

/-- The fields of the map that a source is looked up in. -/
theorem fmap_beside (x : Fin 8) (hn : n < 36) : (R.PWM_FMAP_EN x.val (n / 4) (n % 4)).beside x.val
    ∧ (R.PWM_FMAP_GROUP x.val (n / 4) (n % 4)).beside x.val := by
  simp only [Reg.beside, R.PWM_FMAP_EN, R.PWM_FMAP_GROUP, true_and]
  omega

/-- The upkeep of the groups touches neither the sources nor the map. -/
theorem State.regsBut.sameInputs (h : s.regsBut (groupsFields x.val) t) : s.sameInputs x.val t := by
  refine ⟨fun n => ?_, fun n hn => ?_⟩
  · rw [State.source_eq, State.source_eq, h _ (sourceReg_beside x n).notMem_groups]
  · obtain ⟨hen, hgroup⟩ := fmap_beside x hn
    exact State.mapped_congr h hen.notMem_groups hgroup.notMem_groups

/-- Neither does what writes on the guard's pages and behind them alone. -/
theorem State.regsBut.sameInputs_of_le (h : s.regsBut l t) (hl : ∀ r ∈ l, 0x400000 ≤ r.key) (x : Fin 8) :
    s.sameInputs x.val t := by
  have hnot : ∀ q : Reg, q.key < 0x400000 → q.key ∉ l.map Reg.key := fun q hq hmem => by
    obtain ⟨r, hr, hkey⟩ := List.mem_map.1 hmem
    exact absurd (hl r hr) (by omega)
  refine ⟨fun n => ?_, fun n hn => State.mapped_congr h (hnot _ ?_) (hnot _ ?_)⟩
  · rw [State.source_eq, State.source_eq, h _ (hnot _ ?_)]
    unfold sourceReg
    split <;> simp only [Reg.key, R.PWM_FSRC_LO_ACTIVE, R.PWM_FSRC_HI_ACTIVE] <;> omega
  · simp only [Reg.key, R.PWM_FMAP_EN]
    omega
  · simp only [Reg.key, R.PWM_FMAP_GROUP]
    omega

theorem State.groupSourced_of_mapped (hn : n < 36) (hs : s.source b n = true) (hm : s.mapped b n = some g) :
    s.groupSourced b g = true :=
  List.any_eq_true.2 ⟨n, List.mem_range.2 hn, by simp [hs, hm]⟩

/-- The group of an active source is active once the groups are brought up to date (R156). -/
theorem State.active_groupsSync (hn : n < 36) (hg : g < 16) (hs : s.source x.val n = true)
    (hm : s.mapped x.val n = some g) : (s.groupsSync x.val).groupActive x.val g = true := by
  have hfold : ((List.range 16).foldl (fun t g => t.groupSync x.val g) s).groupActive x.val g = true := by
    refine foldl_reaches (I := fun t => s.sameInputs x.val t) (List.mem_range.2 hg) (fun t k hk ht => ?_)
      (fun t ht => ?_) (fun t k _ ha => (t.upkept_groupSync x k).active g hg ha) ⟨fun _ => rfl, fun _ _ => rfl⟩
    · exact ht.trans ((t.regsBut_groupSync x.val k).mono (map_subset_groups hk)).sameInputs
    · exact State.active_groupSync hg
        (State.groupSourced_of_mapped hn ((ht.source n).trans hs) ((ht.mapped n hn).trans hm))
  rw [State.groupsSync_eq]
  exact (State.upkept_escalateAll _ x).guardSync.active g hg hfold

/-! ### A source changes -/

theorem State.regsBut_putSource (s : State) (x n : Nat) (v : Bool) : s.regsBut (srcFields x) (s.putSource x n v) := by
  rw [State.putSource_eq]
  exact s.regsBut_of_regs.putMaskBit (sourceReg_mem x n)

theorem State.regsBut_putSource_sync (s : State) (x n : Nat) (v : Bool) :
    s.regsBut (srcFields x) ((s.putSource x n v).groupsSync x) :=
  (s.regsBut_putSource x n v).trans ((State.spares_groupsSync _ x).regs.mono (groups_subset_src x))

theorem State.regsBut_sourceOn (s : State) (x n : Nat) : s.regsBut (srcFields x) (s.sourceOn x n) :=
  s.regsBut_of_regs.ite (s.regsBut_putSource_sync x n true)

theorem State.regsBut_sourceOff (s : State) (x n : Nat) : s.regsBut (srcFields x) (s.sourceOff x n) :=
  (s.regsBut_putSource_sync x n false).ite s.regsBut_of_regs

theorem State.upkept_putSource_sync (s : State) (x : Fin 8) (n : Nat) (v : Bool) :
    s.upkept x ((s.putSource x.val n v).groupsSync x.val) := by
  refine State.upkept.trans (s.upkept_refl.quietRegs (g := 0) ?_ ?_) (State.upkept_groupsSync _ x)
  · rw [State.putSource_eq]
    exact s.regsBut_of_regs.putMaskBit (by unfold sourceReg; split <;> simp)
  · rw [State.putSource_eq]
    exact State.chan_set ..

theorem State.upkept_sourceOn (s : State) (x : Fin 8) (n : Nat) : s.upkept x (s.sourceOn x.val n) :=
  s.upkept_refl.ite (s.upkept_putSource_sync x n true)

theorem State.upkept_sourceOff (s : State) (x : Fin 8) (n : Nat) : s.upkept x (s.sourceOff x.val n) :=
  (s.upkept_putSource_sync x n false).ite s.upkept_refl

theorem sourceReg_fits (x : Nat) (hn : n < 36) :
    (sourceReg x n).acc ≠ .bo ∧ sourceBit n < (sourceReg x n).width := by
  unfold sourceReg sourceBit
  split <;> simp only [R.PWM_FSRC_LO_ACTIVE, R.PWM_FSRC_HI_ACTIVE, ne_eq, reduceCtorEq, not_false_eq_true, true_and] <;>
    omega

theorem State.source_putSource (s : State) (x : Nat) (hn : n < 36) (v : Bool) :
    (s.putSource x n v).source x n = v := by
  obtain ⟨hacc, hbit⟩ := sourceReg_fits x hn
  rw [State.source_eq, State.putSource_eq]
  cases v
  · exact State.testBit_putMaskBit_false s hacc
  · have hset := State.testBit_setMaskBit_same s hacc hbit
    unfold State.setMaskBit at hset
    rwa [State.get_noteW1c] at hset

theorem State.source_putSource_sync (s : State) (x : Fin 8) (hn : n < 36) (v : Bool) :
    ((s.putSource x.val n v).groupsSync x.val).source x.val n = v :=
  ((State.spares_groupsSync _ x.val).regs.sameInputs.source n).trans (s.source_putSource x.val hn v)

/-- A source turned on is active (R155). -/
theorem State.active_of_sourceOn (s : State) (x : Fin 8) (hn : n < 36) :
    (s.sourceOn x.val n).source x.val n = true := by
  unfold State.sourceOn
  split
  next h => exact h
  next => exact s.source_putSource_sync x hn true

/-- A source turned off is inactive. -/
theorem State.inactive_of_sourceOff (s : State) (x : Fin 8) (hn : n < 36) :
    (s.sourceOff x.val n).source x.val n = false := by
  unfold State.sourceOff
  split
  next => exact s.source_putSource_sync x hn false
  next h => exact Bool.eq_false_iff.2 h

theorem State.mapped_putSource (s : State) (x : Fin 8) (hn : n < 36) (m : Nat) (v : Bool) :
    (s.putSource x.val m v).mapped x.val n = s.mapped x.val n := by
  obtain ⟨hen, hgroup⟩ := fmap_beside x hn
  refine State.mapped_congr (s.regsBut_putSource x.val m v) (hen.notMem_src ?_ ?_) (hgroup.notMem_src ?_ ?_) <;>
    simp only [Reg.key, R.PWM_FMAP_EN, R.PWM_FMAP_GROUP, R.PWM_FSRC_LO_ACTIVE, R.PWM_FSRC_HI_ACTIVE] <;> omega

/-- A source that becomes active is shown, and the group that it is mapped to is active (R155, R156). -/
theorem State.shown_sourceOn (h : s.source x.val n = false) (hn : n < 36) :
    (s.sourceOn x.val n).source x.val n = true
    ∧ ∀ g : Fin 16, s.mapped x.val n = some g.val → (s.sourceOn x.val n).groupActive x.val g.val = true := by
  refine ⟨s.active_of_sourceOn x hn, fun g hm => ?_⟩
  have hon : s.sourceOn x.val n = (s.putSource x.val n true).groupsSync x.val := by
    unfold State.sourceOn
    rw [if_neg (by simp [h])]
  rw [hon]
  exact State.active_groupsSync hn g.isLt (s.source_putSource x.val hn true) ((s.mapped_putSource x hn n true).trans hm)

end Sys2Proof.Machine
end

section
/-! What a fault source does when it becomes active or inactive (O38): the commands of the sources and of the guard's
inputs (R155, R156, R162 to R164, R166, R167, R169). -/

-- One proof after another: many at once take a thread each (see Laws/KeepsChannel).
set_option Elab.async false

namespace Sys2Proof.Machine

variable {s t u : State} {l : List Reg} {q r : Reg} {n m k y dt t0 : Nat} {x : Fin 8}

/-! ### Marks of the guard's page -/

/-- Source `n` is active in `t`, and so is the group that it is mapped to in `s` (R155, R156). -/
abbrev State.sourceShown (s : State) (x : Fin 8) (n : Nat) (t : State) : Prop :=
  t.source x.val n = true ∧ ∀ g : Fin 16, s.mapped x.val n = some g.val → t.groupActive x.val g.val = true

/-- A source turned on after marks that touch neither the sources nor their map. -/
theorem State.sameInputs.sourceShown (h : s.sameInputs x.val t) (hs : s.source x.val n = false) (hn : n < 36) :
    s.sourceShown x n (t.sourceOn x.val n) := by
  obtain ⟨hon, hgroups⟩ := State.shown_sourceOn ((h.source n).trans hs) hn
  exact ⟨hon, fun g hm => hgroups g ((h.mapped n hn).trans hm)⟩

theorem State.sameInputs_of_regs (s : State) (x : Nat) {t : State} (e : t.regs = s.regs := by rfl) : s.sameInputs x t :=
  ⟨fun n => by rw [State.source_eq, State.source_eq, State.get, e]; rfl,
    fun n _ => State.mapped_congr (l := []) (s.regsBut_of_regs e) (by simp) (by simp)⟩

/-- A register of the guard's page that is neither of its header nor a group's state. -/
theorem guardPage_notMem_src (hp : q.page = 0x20 + x.val) (hlo : q.lo < 32) (ho : 0x040 ≤ q.ofs) (ho' : q.ofs < 0x100) :
    q.key ∉ (srcFields x.val).map Reg.key := by
  have hb : q.beside x.val := ⟨hlo, by omega, .inl ⟨hp, ho, ho'⟩⟩
  refine hb.notMem_src ?_ ?_ <;> simp only [Reg.key, hp, R.PWM_FSRC_LO_ACTIVE, R.PWM_FSRC_HI_ACTIVE] <;> omega

/-- A change of a source leaves such a register. -/
theorem State.get_sourceOn_guard (s : State) (hp : q.page = 0x20 + x.val) (hlo : q.lo < 32) (ho : 0x040 ≤ q.ofs)
    (ho' : q.ofs < 0x100) (n : Nat) : (s.sourceOn x.val n).get q = s.get q :=
  s.regsBut_sourceOn x.val n _ (guardPage_notMem_src hp hlo ho ho')

theorem State.get_sourceOff_guard (s : State) (hp : q.page = 0x20 + x.val) (hlo : q.lo < 32) (ho : 0x040 ≤ q.ofs)
    (ho' : q.ofs < 0x100) (n : Nat) : (s.sourceOff x.val n).get q = s.get q :=
  s.regsBut_sourceOff x.val n _ (guardPage_notMem_src hp hlo ho ho')

theorem State.stamp_congr (hn : t.now = s.now) (hc : t.canopyT = s.canopyT) : t.stamp n = s.stamp n := by
  unfold State.stamp State.canopy
  rw [hn, hc]

/-! ### A short circuit qualified (R162, R163) -/

/-- The count of the switch of input `k`. -/
abbrev scCount (x k : Nat) : Reg := if k % 2 = 0 then R.GUARD_SC_CNT_HIGH x (k / 2) else R.GUARD_SC_CNT_LOW x (k / 2)

/-- A qualified short circuit marked, counted, stamped and told, before its source is turned on. -/
def State.scMarked (s : State) (x k : Nat) : State :=
  let s := (s.filterTaken x k).setMaskBit (R.GUARD_SC_STAT_SEEN x) k
  let s := s.inc (scCount x k)
  let s := (s.set (R.GUARD_SC_T_NS x) (s.stamp (pgGuard x))).irq (pgGuard x) k
  s.setGuard x (fun d => { d with scSince := d.scSince.set k (some s.now) })

theorem State.scQualify_of_qualified (hs : s.source x.val (12 + k) = false) (hf : s.filterDone x.val k = true) :
    s.scQualify x.val k = (s.scMarked x.val k).sourceOn x.val (12 + k) := by
  have hnot : ¬ (s.source x.val (12 + k) = true ∨ ¬ s.filterDone x.val k = true) := by simp [hs, hf]
  exact if_neg hnot

theorem State.scQualify_of_not (h : s.source x.val (12 + k) = true ∨ s.filterDone x.val k = false) :
    s.scQualify x.val k = s := by
  have hnot : s.source x.val (12 + k) = true ∨ ¬ s.filterDone x.val k = true := by simpa using h
  exact if_pos hnot

theorem State.regsBut_scMarked (s : State) (x k : Nat) : s.regsBut [R.GUARD_SC_STAT_SEEN x, scCount x k,
    R.GUARD_SC_T_NS x, H.IRQ_RAW (pgGuard x)] (s.scMarked x k) :=
  (s.regsBut_of_regs (t := s.filterTaken x k)).setMaskBit.inc.set.irq.setGuard

theorem scCount_eq (x k : Nat) : (scCount x k).page = 0x20 + x ∧ (scCount x k).lo ≤ 16
    ∧ (scCount x k).ofs = 0x060 + 4 * (k / 2) ∧ (scCount x k).acc = .ro := by
  unfold scCount
  split <;> simp [R.GUARD_SC_CNT_HIGH, R.GUARD_SC_CNT_LOW]

/-- What a qualified short circuit shows on the guard's page (R163). -/
theorem State.shown_scMarked (s : State) (x : Nat) (hk : k < 8) :
    ((s.scMarked x k).get (R.GUARD_SC_STAT_SEEN x)).testBit k = true
    ∧ (s.scMarked x k).get (R.GUARD_SC_T_NS x) = s.stamp (pgGuard x) % 2 ^ 64
    ∧ (s.scMarked x k).get (scCount x k) = counted (scCount x k) (s.get (scCount x k)) := by
  obtain ⟨hpage, hlo, hofs, hacc⟩ := scCount_eq x k
  have hcount : (R.GUARD_SC_STAT_SEEN x).key ≠ (scCount x k).key ∧ (scCount x k).key ≠ (R.GUARD_SC_T_NS x).key
      ∧ (scCount x k).key ≠ (H.IRQ_RAW (pgGuard x)).key ∧ (scCount x k).key ≠ (R.GUARD_SC_STAT_SEEN x).key := by
    simp only [Reg.key, hpage, hofs, R.GUARD_SC_STAT_SEEN, R.GUARD_SC_T_NS, H.IRQ_RAW, pgGuard]
    omega
  have hkeys : (R.GUARD_SC_STAT_SEEN x).key ≠ (H.IRQ_RAW (pgGuard x)).key
      ∧ (R.GUARD_SC_STAT_SEEN x).key ≠ (R.GUARD_SC_T_NS x).key
      ∧ (R.GUARD_SC_T_NS x).key ≠ (H.IRQ_RAW (pgGuard x)).key := by
    simp only [Reg.key, R.GUARD_SC_STAT_SEEN, R.GUARD_SC_T_NS, H.IRQ_RAW, pgGuard]
    omega
  obtain ⟨hseenCount, hcountTime, hcountIrq, hcountSeen⟩ := hcount
  obtain ⟨hseenIrq, hseenTime, htimeIrq⟩ := hkeys
  have hstamp : (((s.filterTaken x k).setMaskBit (R.GUARD_SC_STAT_SEEN x) k).inc (scCount x k)).stamp (pgGuard x)
      = s.stamp (pgGuard x) := State.stamp_congr (by simp [State.filterTaken, State.setGuard, State.setCh])
        (by simp [State.filterTaken, State.setGuard, State.setCh])
  refine ⟨?_, ?_, ?_⟩
  · change ((State.irq _ _ _).get _).testBit k = true
    rw [State.get_irq_other hseenIrq, State.get_set_other _ _ hseenTime, State.get_inc_other hseenCount,
      State.testBit_setMaskBit_same _ (by simp [R.GUARD_SC_STAT_SEEN]) hk]
  · change (State.irq _ _ _).get _ = _
    rw [State.get_irq_other htimeIrq, State.get_set_same _ _ (by simp [R.GUARD_SC_T_NS]), hstamp]
    rfl
  · change (State.irq _ _ _).get _ = _
    rw [State.get_irq_other hcountIrq, State.get_set_other _ _ hcountTime, State.get_inc_same (by simp [hacc]),
      State.get_setMaskBit_other hcountSeen]
    rfl

/-- A qualified short circuit: the source and its group are active, and the marks stay. -/
theorem State.shown_scQualify (hs : s.source x.val (12 + k) = false) (hf : s.filterDone x.val k = true) (hk : k < 8) :
    s.sourceShown x (12 + k) (s.scQualify x.val k)
    ∧ ((s.scQualify x.val k).get (R.GUARD_SC_STAT_SEEN x.val)).testBit k = true
    ∧ (s.scQualify x.val k).get (R.GUARD_SC_T_NS x.val) = s.stamp (pgGuard x.val) % 2 ^ 64
    ∧ (s.scQualify x.val k).get (scCount x.val k) = counted (scCount x.val k) (s.get (scCount x.val k)) := by
  obtain ⟨hpage, hlo, hofs, -⟩ := scCount_eq x.val k
  obtain ⟨hseen, htime, hcount⟩ := s.shown_scMarked x.val hk
  have hin : s.sameInputs x.val (s.scMarked x.val k) := by
    refine (s.regsBut_scMarked x.val k).sameInputs_of_le ?_ x
    simp only [List.mem_cons, List.not_mem_nil, or_false, forall_eq_or_imp, forall_eq, Reg.key, hpage, hofs, pgGuard,
      R.GUARD_SC_STAT_SEEN, R.GUARD_SC_T_NS, H.IRQ_RAW]
    omega
  rw [State.scQualify_of_qualified hs hf]
  refine ⟨hin.sourceShown hs (by omega), ?_, ?_, ?_⟩
  · rwa [State.get_sourceOn_guard _ rfl (by simp [R.GUARD_SC_STAT_SEEN]) (by simp [R.GUARD_SC_STAT_SEEN])
      (by simp [R.GUARD_SC_STAT_SEEN])]
  · exact (State.get_sourceOn_guard _ rfl (by simp [R.GUARD_SC_T_NS]) (by simp [R.GUARD_SC_T_NS])
      (by simp [R.GUARD_SC_T_NS]) _).trans htime
  · rwa [State.get_sourceOn_guard _ hpage (by omega) (by omega) (by omega)]

/-! ### An `SC_N` source stuck (R164, R172) -/

/-- What a latch touches beside the mark itself. -/
abbrev latchFields (x g : Nat) : List Reg := stopFields x ++ [R.PWM_GRP_ACT_ACTIVE x, R.GLOG_CNT_LOST,
  R.GLOG_STATUS_LOST_SEEN, R.GUARD_GSTAT_WAITING x g]

theorem stop_subset_latch (x g : Nat) : stopFields x ⊆ latchFields x g := List.subset_append_left _ _

theorem State.regsBut_latchGroup (h : s.flag (R.GUARD_GSTAT_LATCHED x.val y) = false) :
    (s.setB (R.GUARD_GSTAT_LATCHED x.val y) true).regsBut (latchFields x.val y) (s.latchGroup x.val y) := by
  unfold State.latchGroup
  rw [if_neg (by simp [h])]
  extract_lets latched noted released shown told
  have hreleased : (s.setB (R.GUARD_GSTAT_LATCHED x.val y) true).regsBut (latchFields x.val y) released :=
    State.regsBut.keep (t := latched) (State.regsBut_of_regs _).setB
  have htold : (s.setB (R.GUARD_GSTAT_LATCHED x.val y) true).regsBut (latchFields x.val y) told :=
    (hreleased.setMaskBit.trans ((shown.regsBut_guardSync x.val).mono (List.Subset.trans (List.subset_append_left _ _)
      (stop_subset_latch x.val y)))).irqLog
  exact .ite (htold.trans ((State.spares_channelFault _ x.val).regs.mono (stop_subset_latch x.val y))) htold

/-- A latched group shows it, whatever its latch does to the channel (R172). -/
theorem State.flag_latchGroup (s : State) (x : Fin 8) (g : Fin 16) :
    (s.latchGroup x.val g.val).flag (R.GUARD_GSTAT_LATCHED x.val g.val) = true := by
  have hnot : ∀ (x : Fin 8) (g : Fin 16),
      (R.GUARD_GSTAT_LATCHED x.val g.val).key ∉ (latchFields x.val g.val).map Reg.key := by decide +kernel
  cases h : s.flag (R.GUARD_GSTAT_LATCHED x.val g.val)
  · rw [(State.regsBut_latchGroup h).flag (hnot x g)]
    exact State.flag_setB_same (by simp [R.GUARD_GSTAT_LATCHED]) (by simp [R.GUARD_GSTAT_LATCHED])
  · unfold State.latchGroup
    rwa [if_pos h]

theorem stuck_notMem_map (x : Fin 8) (g : Nat) :
    (R.GUARD_SC_STAT_STUCK x.val).key ∉ (mapFields x.val g).map Reg.key := by
  have hstop : ∀ x : Fin 8, (R.GUARD_SC_STAT_STUCK x.val).key ∉ (stopFields x.val ++ [R.PWM_GRP_ACT_ACTIVE x.val,
      R.GLOG_CNT_LOST, R.GLOG_STATUS_LOST_SEEN]).map Reg.key := by decide +kernel
  have hgroup : (R.GUARD_SC_STAT_STUCK x.val).key ∉ (groupFields x.val g).map Reg.key := by
    simp only [groupFields, List.map_cons, List.map_nil, List.mem_cons, List.not_mem_nil, or_false, Reg.key,
      R.GUARD_SC_STAT_STUCK, R.GUARD_GSTAT_LATCHED, R.GUARD_GSTAT_WAITING, R.GUARD_GSTAT_ESCALATED,
      R.GUARD_GSTAT_TRIPS, R.GUARD_GSTAT_COUNT]
    omega
  rw [List.map_append, List.mem_append, not_or]
  exact ⟨hstop x, hgroup⟩

/-- The stuck input marked and told, before its group latches. -/
def State.stuckMarked (s : State) (x k : Nat) : State :=
  ((s.setGuard x (fun d => { d with scSince := d.scSince.set k none })).setMaskBit (R.GUARD_SC_STAT_STUCK x) k).irqLog
    (pgGuard x) 17 2

theorem exec_scStuck {w : Fin 8} (hr : s.cellRuns x.val = true)
    (hs : (s.ch x.val).guard.scSince.getD w.val none = some t0) (ht : t0 + ms 1 ≤ s.now + dt) :
    exec (.scStuck dt x w) s = .next (match ((s.elapse dt).stuckMarked x.val w.val).mapped x.val (12 + w.val) with
      | some g => ((s.elapse dt).stuckMarked x.val w.val).latchGroup x.val g
      | none => (s.elapse dt).stuckMarked x.val w.val) := by
  change execScStuck dt x w s = _
  have hs' : ((s.elapse dt).ch x.val).guard.scSince.getD w.val none = some t0 := hs
  unfold execScStuck
  simp only [hs']
  exact if_pos ⟨hr, ht⟩

theorem State.shown_stuckMarked (s : State) (x : Fin 8) {k : Nat} (hk : k < 8) :
    ((s.stuckMarked x.val k).get (R.GUARD_SC_STAT_STUCK x.val)).testBit k = true
    ∧ s.sameInputs x.val (s.stuckMarked x.val k) := by
  have hkey : (R.GUARD_SC_STAT_STUCK x.val).key ≠ (H.IRQ_RAW (pgGuard x.val)).key := by
    simp only [Reg.key, R.GUARD_SC_STAT_STUCK, H.IRQ_RAW, pgGuard]
    omega
  have hregs : s.regsBut [R.GUARD_SC_STAT_STUCK x.val, H.IRQ_RAW (pgGuard x.val), R.GLOG_CNT_LOST,
      R.GLOG_STATUS_LOST_SEEN] (s.stuckMarked x.val k) := (s.regsBut_of_regs.setGuard (x := x.val)).setMaskBit.irqLog
  constructor
  · have hlog : ∀ x : Fin 8, (R.GUARD_SC_STAT_STUCK x.val).key ∉
        [R.GLOG_CNT_LOST, R.GLOG_STATUS_LOST_SEEN].map Reg.key := by decide
    unfold State.stuckMarked State.irqLog
    rw [State.get_logIt (hlog x), State.get_irq_other hkey,
      State.testBit_setMaskBit_same _ (by simp [R.GUARD_SC_STAT_STUCK]) hk]
  · refine hregs.sameInputs_of_le ?_ x
    simp only [List.mem_cons, List.not_mem_nil, or_false, forall_eq_or_imp, forall_eq, Reg.key, pgGuard,
      R.GUARD_SC_STAT_STUCK, H.IRQ_RAW, R.GLOG_CNT_LOST, R.GLOG_STATUS_LOST_SEEN]
    omega

/-! ### A leg not ready (R166, R167) -/

/-- The leg marked as not ready. -/
def State.rdyMarked (s : State) (x y : Nat) : State :=
  (s.filterTaken x (8 + y)).setMaskBit (R.GUARD_SC_STAT_RDY_LOW x) y

theorem State.blanking_rdyMarked (s : State) (x y z : Nat) :
    ((s.rdyMarked x y).ch z).guard.blanking = (s.ch z).guard.blanking := by
  have hagree : s.agreesOn (fun c => c.guard.blanking) (s.rdyMarked x y) :=
    State.agreesOn.keep (t := s.filterTaken x (8 + y)) (.setCh s.agreesOn_refl fun _ => rfl)
      (State.chan_setMaskBit ..)
  exact hagree z

theorem State.rdyNotReady_of_ready (hlow : (s.get (R.GUARD_SC_STAT_RDY_LOW x.val)).testBit y = false)
    (hf : s.filterDone x.val (8 + y) = true) : s.rdyNotReady x.val y =
      if (s.ch x.val).guard.blanking then (s.rdyMarked x.val y).setMaskBit (R.GUARD_SC_STAT_BLANKED x.val) y
      else ((s.rdyMarked x.val y).irq (pgGuard x.val) (8 + y)).sourceOn x.val (20 + y) := by
  have hnot : ¬ ((s.get (R.GUARD_SC_STAT_RDY_LOW x.val)).testBit y = true ∨ ¬ s.filterDone x.val (8 + y) = true) := by
    simp [hlow, hf]
  rw [← State.blanking_rdyMarked s x.val y x.val]
  exact if_neg hnot

theorem rdyLow_ne (x : Nat) : (R.GUARD_SC_STAT_RDY_LOW x).key ≠ (R.GUARD_SC_STAT_BLANKED x).key
    ∧ (R.GUARD_SC_STAT_RDY_LOW x).key ≠ (H.IRQ_RAW (pgGuard x)).key
    ∧ (R.GUARD_SC_STAT_BLANKED x).key ≠ (H.IRQ_RAW (pgGuard x)).key := by
  simp only [Reg.key, R.GUARD_SC_STAT_RDY_LOW, R.GUARD_SC_STAT_BLANKED, H.IRQ_RAW, pgGuard]
  omega

theorem State.get_rdyLow_sourceOn (s : State) (x : Fin 8) (n : Nat) :
    (s.sourceOn x.val n).get (R.GUARD_SC_STAT_RDY_LOW x.val) = s.get (R.GUARD_SC_STAT_RDY_LOW x.val) :=
  State.get_sourceOn_guard _ rfl (by simp [R.GUARD_SC_STAT_RDY_LOW]) (by simp [R.GUARD_SC_STAT_RDY_LOW])
    (by simp [R.GUARD_SC_STAT_RDY_LOW]) n

theorem State.rdyLow_rdyMarked (s : State) (x : Nat) (hy : y < 4) :
    ((s.rdyMarked x y).get (R.GUARD_SC_STAT_RDY_LOW x)).testBit y = true :=
  State.testBit_setMaskBit_same _ (by simp [R.GUARD_SC_STAT_RDY_LOW]) hy

/-- A leg not ready is marked so; its source is active, or, while blanking runs, the leg is blanked (R166, R167). -/
theorem State.shown_rdyNotReady (hlow : (s.get (R.GUARD_SC_STAT_RDY_LOW x.val)).testBit y = false)
    (hf : s.filterDone x.val (8 + y) = true) (hy : y < 4) :
    ((s.rdyNotReady x.val y).get (R.GUARD_SC_STAT_RDY_LOW x.val)).testBit y = true
    ∧ if (s.ch x.val).guard.blanking then ((s.rdyNotReady x.val y).get (R.GUARD_SC_STAT_BLANKED x.val)).testBit y = true
      else (s.rdyNotReady x.val y).source x.val (20 + y) = true := by
  obtain ⟨hblanked, hirq, -⟩ := rdyLow_ne x.val
  have hmark := s.rdyLow_rdyMarked x.val hy
  rw [State.rdyNotReady_of_ready hlow hf]
  split
  · exact ⟨by rwa [State.get_setMaskBit_other hblanked],
      State.testBit_setMaskBit_same _ (by simp [R.GUARD_SC_STAT_BLANKED]) hy⟩
  · exact ⟨by rwa [State.get_rdyLow_sourceOn, State.get_irq_other hirq], State.active_of_sourceOn _ x (by omega)⟩

/-- Without blanking its group is active too. -/
theorem State.sourceShown_rdyNotReady (hs : s.source x.val (20 + y) = false)
    (hlow : (s.get (R.GUARD_SC_STAT_RDY_LOW x.val)).testBit y = false) (hb : (s.ch x.val).guard.blanking = false)
    (hf : s.filterDone x.val (8 + y) = true) (hy : y < 4) : s.sourceShown x (20 + y) (s.rdyNotReady x.val y) := by
  have hregs : s.regsBut [R.GUARD_SC_STAT_RDY_LOW x.val, H.IRQ_RAW (pgGuard x.val)]
      ((s.rdyMarked x.val y).irq (pgGuard x.val) (8 + y)) :=
    (s.regsBut_of_regs (t := s.filterTaken x.val (8 + y))).setMaskBit.irq
  have hin := hregs.sameInputs_of_le (by
    simp only [List.mem_cons, List.not_mem_nil, or_false, forall_eq_or_imp, forall_eq, Reg.key, pgGuard,
      R.GUARD_SC_STAT_RDY_LOW, H.IRQ_RAW]
    omega) x
  rw [State.rdyNotReady_of_ready hlow hf, if_neg (by simp [hb])]
  exact hin.sourceShown hs (by omega)

/-- A leg ready again: neither its mark nor its source is left (R166, R167). -/
theorem State.shown_rdyReady (hlow : (s.get (R.GUARD_SC_STAT_RDY_LOW x.val)).testBit y = true)
    (hf : s.filterDone x.val (8 + y) = true) (hy : y < 4) : (s.rdyReady x.val y).source x.val (20 + y) = false
    ∧ ((s.rdyReady x.val y).get (R.GUARD_SC_STAT_RDY_LOW x.val)).testBit y = false := by
  obtain ⟨hblanked, -, -⟩ := rdyLow_ne x.val
  have hnot : ¬ (¬ (s.get (R.GUARD_SC_STAT_RDY_LOW x.val)).testBit y = true ∨ ¬ s.filterDone x.val (8 + y) = true) := by
    simp [hlow, hf]
  unfold State.rdyReady
  rw [if_neg hnot]
  refine ⟨State.inactive_of_sourceOff _ x (by omega), ?_⟩
  rw [State.get_sourceOff_guard _ rfl (by simp [R.GUARD_SC_STAT_RDY_LOW]) (by simp [R.GUARD_SC_STAT_RDY_LOW])
    (by simp [R.GUARD_SC_STAT_RDY_LOW]), State.putMaskBit, State.get_set_other _ _ hblanked]
  exact State.testBit_putMaskBit_false _ (by simp [R.GUARD_SC_STAT_RDY_LOW])

/-! ### Several sources at once (R167, R169) -/

theorem sourceReg_eq_or (x n m : Nat) : sourceReg x n = sourceReg x m ∨ (sourceReg x n).key ≠ (sourceReg x m).key := by
  have hne : (R.PWM_FSRC_LO_ACTIVE x).key ≠ (R.PWM_FSRC_HI_ACTIVE x).key := by
    simp only [Reg.key, R.PWM_FSRC_LO_ACTIVE, R.PWM_FSRC_HI_ACTIVE]
    omega
  unfold sourceReg
  split <;> split
  · exact .inl rfl
  · exact .inr hne
  · exact .inr hne.symm
  · exact .inl rfl

/-- A bit that is set stays so when a bit of its field is set. -/
theorem State.testBit_putMaskBit_true (hacc : r.acc ≠ .bo) (hk : k < r.width) (h : (s.get r).testBit k = true)
    (m : Nat) : ((s.putMaskBit r m true).get r).testBit k = true := by
  unfold State.putMaskBit putBit setBit
  rw [State.get_set_same _ _ hacc, if_pos rfl, Nat.testBit_mod_two_pow, Nat.testBit_or, h, decide_eq_true hk]
  rfl

/-- A source that is active stays so when another one of its channel becomes active. -/
theorem State.source_sourceOn_stays (hn : n < 36) (h : s.source x.val n = true) (m : Nat) :
    (s.sourceOn x.val m).source x.val n = true := by
  obtain ⟨hacc, hbit⟩ := sourceReg_fits x.val hn
  unfold State.sourceOn
  split
  · exact h
  · rw [(State.spares_groupsSync _ x.val).regs.sameInputs.source, State.source_eq, State.putSource_eq]
    rw [State.source_eq] at h
    rcases sourceReg_eq_or x.val n m with heq | hne
    · rw [← heq]
      exact State.testBit_putMaskBit_true hacc hbit h _
    · rwa [State.putMaskBit, State.get_set_other _ _ hne]

/-- A source of another channel stays as it is. -/
theorem State.source_sourceOn_other {z : Fin 8} (h : x ≠ z) (s : State) (n m : Nat) :
    (s.sourceOn z.val m).source x.val n = s.source x.val n := by
  have hxz : x.val ≠ z.val := fun e => h (Fin.ext e)
  have hnot : (sourceReg x.val n).key ∉ (srcFields z.val).map Reg.key := by
    have hb : (sourceReg x.val n).beside z.val := by
      unfold sourceReg
      split <;> simp only [Reg.beside, R.PWM_FSRC_LO_ACTIVE, R.PWM_FSRC_HI_ACTIVE] <;> omega
    refine hb.notMem_src ?_ ?_ <;> unfold sourceReg <;> split <;>
      simp only [Reg.key, R.PWM_FSRC_LO_ACTIVE, R.PWM_FSRC_HI_ACTIVE] <;> omega
  rw [State.source_eq, State.source_eq, s.regsBut_sourceOn z.val m _ hnot]

/-- The end of blanking on leg `y`: its source is active where it is not ready (R167). -/
def State.unblank (s : State) (x low y : Nat) : State :=
  if low.testBit y then (s.irq (pgGuard x) (8 + y)).sourceOn x (20 + y) else s

/-- Blanking ended, its marks gone, before the legs not ready activate their sources. -/
def State.blankOver (s : State) (x : Nat) : State :=
  (s.set (R.GUARD_SC_STAT_BLANKED x) 0).setGuard x (fun d => { d with blanking := false })

theorem exec_rdyBlankEnd (hr : s.cellRuns x.val = true) (hb : (s.ch x.val).guard.blanking = true)
    (ht : (s.ch x.val).pwm.runAt + us (s.get (R.GUARD_RDY_CFG_BLANK x.val)) ≤ s.now + dt) :
    exec (.rdyBlankEnd dt x) s = .next ((List.range 4).foldl
      (fun t y => t.unblank x.val (s.get (R.GUARD_SC_STAT_RDY_LOW x.val)) y) ((s.elapse dt).blankOver x.val)) :=
  if_pos ⟨hr, hb, ht⟩

theorem State.regsBut_unblank (s : State) (x low y : Nat) :
    s.regsBut (H.IRQ_RAW (pgGuard x) :: srcFields x) (s.unblank x low y) := by
  have hirq : s.regsBut (H.IRQ_RAW (pgGuard x) :: srcFields x) (s.irq (pgGuard x) (8 + y)) := s.regsBut_of_regs.irq
  exact .ite (hirq.trans ((State.regsBut_sourceOn _ x _).mono (List.subset_cons_self _ _))) s.regsBut_of_regs

theorem State.upkept_unblank (s : State) (x : Fin 8) (low y : Nat) : s.upkept x (s.unblank x.val low y) :=
  .ite ((s.upkept_refl.quietRegs (g := 0) s.regsBut_of_regs.irq).trans (State.upkept_sourceOn _ x _)) s.upkept_refl

theorem State.source_irq_guard (s : State) (x : Fin 8) (y n : Nat) :
    (s.irq (pgGuard x.val) y).source x.val n = s.source x.val n := by
  have hregs : s.regsBut [H.IRQ_RAW (pgGuard x.val)] (s.irq (pgGuard x.val) y) := s.regsBut_of_regs.irq
  refine (hregs.sameInputs_of_le ?_ x).source n
  simp only [List.mem_cons, List.not_mem_nil, or_false, forall_eq, Reg.key, pgGuard, H.IRQ_RAW]
  omega

/-- The sources of the legs not ready are active once blanking has ended. -/
theorem State.source_unblanked (s : State) (x : Fin 8) {low : Nat} (hy : y < 4) (hl : low.testBit y = true) :
    ((List.range 4).foldl (fun t y => t.unblank x.val low y) s).source x.val (20 + y) = true := by
  refine foldl_reaches (I := fun _ => True) (P := fun t => t.source x.val (20 + y) = true)
    (f := fun t y => t.unblank x.val low y) (List.mem_range.2 hy) (fun _ _ _ _ => trivial) (fun t _ => ?_)
    (fun t m _ ht => ?_) trivial
  · unfold State.unblank
    rw [if_pos hl]
    exact State.active_of_sourceOn _ x (by omega)
  · unfold State.unblank
    split
    · exact State.source_sourceOn_stays (by omega) ((t.source_irq_guard x _ _).trans ht) _
    · exact ht

theorem State.shown_blankOver (s : State) (x : Fin 8) : (s.blankOver x.val).get (R.GUARD_SC_STAT_BLANKED x.val) = 0
    ∧ ((s.blankOver x.val).ch x.val).guard.blanking = false := by
  refine ⟨State.get_set_fits (by simp) (by simp [R.GUARD_SC_STAT_BLANKED]), ?_⟩
  rcases lt_or_ge x.val s.chan.length with hlt | hge
  · have hlt' : x.val < (s.set (R.GUARD_SC_STAT_BLANKED x.val) 0).chan.length := by simpa using hlt
    exact congrArg (fun c => c.guard.blanking) (State.ch_setCh_same hlt')
  · rw [State.ch_of_le]
    exact ((List.length_modify ..).trans (by simp)).trans_le hge

/-- Blanking has ended: no mark of it is left, and the sources of the legs not ready are active (R167). -/
theorem State.shown_unblanked (s : State) (x : Fin 8) (low : Nat) :
    ((List.range 4).foldl (fun t y => t.unblank x.val low y) (s.blankOver x.val)).get
      (R.GUARD_SC_STAT_BLANKED x.val) = 0
    ∧ (((List.range 4).foldl (fun t y => t.unblank x.val low y) (s.blankOver x.val)).ch x.val).guard.blanking
      = false := by
  obtain ⟨hmark, hblank⟩ := s.shown_blankOver x
  constructor
  · have hregs := State.regsBut.foldl (fun t y (_ : y ∈ List.range 4) => t.regsBut_unblank x.val low y)
      (s.blankOver x.val)
    refine (hregs _ ?_).trans hmark
    rw [List.map_cons, List.mem_cons, not_or]
    exact ⟨(rdyLow_ne x.val).2.2, guardPage_notMem_src rfl (by simp [R.GUARD_SC_STAT_BLANKED])
      (by simp [R.GUARD_SC_STAT_BLANKED]) (by simp [R.GUARD_SC_STAT_BLANKED])⟩
  · have hkept := State.upkept.foldl (fun t y (_ : y ∈ List.range 4) => t.upkept_unblank x low y) (s.blankOver x.val)
    exact (congrArg (fun c => c.2.2.1) (hkept.steady x.val)).trans hblank

/-! ### The trip inputs (R169) -/

/-- A trip input acts on one cell island (R169). -/
def State.tripOn (s : State) (n x : Nat) : State := if s.cellRuns x then s.tripLow x n else s

theorem exec_tripInput {n : Fin 4} : exec (.tripInput dt n) s
    = .next ((List.range 8).foldl (fun t x => t.tripOn n.val x) (s.elapse dt)) := rfl

theorem State.sameBut_tripOn (s : State) (n x : Nat) :
    s.sameBut [.recent, .log, .pod, .chan, .regs] (s.tripOn n x) := by
  unfold State.tripOn
  split
  · exact keeps_tripLow (keeps_sameBut _ s) s x n (State.sameBut_refl _ s)
  · exact State.sameBut_refl _ s

/-- The trip inputs' filter takes 4 cycles, whatever the registers say (R169). -/
theorem State.filterDone_trip (hn : n < 4) (hnow : t.now = s.now)
    (hf : (t.ch x.val).guard.filtAt = (s.ch x.val).guard.filtAt) :
    t.filterDone x.val (12 + n) = s.filterDone x.val (12 + n) := by
  have htime (w : State) : w.filterTime x.val (12 + n) = 4 * cellCycle := by
    unfold State.filterTime
    rw [if_neg (by omega), if_neg (by omega), if_pos (by omega)]
  unfold State.filterDone State.filtered
  rw [htime, htime, hnow, hf]

/-- A trip input low for its filter's time activates its source, with its group (R169). -/
theorem State.shown_tripLow (hs : s.source x.val (24 + n) = false) (hf : s.filterDone x.val (12 + n) = true)
    (hn : n < 4) : s.sourceShown x (24 + n) (s.tripLow x.val n) := by
  unfold State.tripLow
  rw [if_neg (by simp [hs, hf])]
  exact (s.sameInputs_of_regs x.val (t := s.filterTaken x.val (12 + n))).sourceShown hs (by omega)

/-- On its own island the source of the input ends active. -/
theorem State.source_tripOn_same (hr : s.cellRuns x.val = true) (hn : n < 4)
    (h : s.source x.val (24 + n) = true ∨ s.filterDone x.val (12 + n) = true) :
    (s.tripOn n x.val).source x.val (24 + n) = true := by
  unfold State.tripOn
  rw [if_pos hr]
  cases hs : s.source x.val (24 + n) with
  | true =>
    unfold State.tripLow
    rwa [if_pos (.inl hs)]
  | false => exact (State.shown_tripLow hs (h.resolve_left (by simp [hs])) hn).1

/-- A source that is active stays so on every island. -/
theorem State.source_tripOn_stays {z m : Nat} (hz : z < 8) (hn : n < 36) (h : s.source x.val n = true) :
    (s.tripOn m z).source x.val n = true := by
  have hpass : (s.filterTaken z (12 + m)).source x.val n = true := h
  unfold State.tripOn State.tripLow
  split
  · split
    · exact h
    · rcases eq_or_ne x ⟨z, hz⟩ with heq | hne
      · have hxz : x.val = z := congrArg Fin.val heq
        rw [← hxz] at hpass ⊢
        exact State.source_sourceOn_stays hn hpass _
      · exact (State.source_sourceOn_other hne _ n _).trans hpass
  · exact h

/-- Another island's turn leaves the filter of this one as it is. -/
theorem State.filterDone_tripOn_other {z : Nat} (hz : z < 8) (hne : x.val ≠ z) (hn : n < 4) (m : Nat) :
    (s.tripOn m z).filterDone x.val (12 + n) = s.filterDone x.val (12 + n) := by
  refine State.filterDone_trip hn (State.now_of_sameBut (s.sameBut_tripOn m z)) ?_
  unfold State.tripOn State.tripLow
  split
  · split
    · rfl
    · have hon := (State.upkept_sourceOn (s.filterTaken z (12 + m)) ⟨z, hz⟩ (24 + m)).steady x.val
      have htaken : (s.filterTaken z (12 + m)).ch x.val = s.ch x.val := State.ch_setCh_other hne
      exact (congrArg (fun c => c.2.2.2) hon).trans (congrArg (fun c => c.guard.filtAt) htaken)
  · rfl

/-- Every running island with the input low for its filter's time has its source active (R169). -/
theorem State.source_tripped (hr : s.cellRuns x.val = true) (hf : s.filterDone x.val (12 + n) = true) (hn : n < 4) :
    ((List.range 8).foldl (fun t z => t.tripOn n z) s).source x.val (24 + n) = true := by
  refine foldl_reaches (f := fun t z => t.tripOn n z) (P := fun t => t.source x.val (24 + n) = true)
    (I := fun t => t.cellRuns x.val = true ∧ (t.source x.val (24 + n) = true ∨ t.filterDone x.val (12 + n) = true))
    (List.mem_range.2 x.isLt) (fun t z hz ⟨htr, ht⟩ => ⟨?_, ?_⟩) (fun t ⟨htr, ht⟩ => State.source_tripOn_same htr hn ht)
    (fun t z hz ht => State.source_tripOn_stays (List.mem_range.1 hz) (by omega) ht) ⟨hr, .inr hf⟩
  · unfold State.cellRuns at htr ⊢
    rwa [State.sys_of_sameBut (t.sameBut_tripOn n z)]
  · rcases eq_or_ne x.val z with rfl | hne
    · exact .inl (State.source_tripOn_same htr hn ht)
    · refine ht.imp (State.source_tripOn_stays (List.mem_range.1 hz) (by omega)) fun hdone => ?_
      rwa [State.filterDone_tripOn_other (List.mem_range.1 hz) hne hn]

/-! ### The commands of the sources -/

/-- The condition of a guard's input is that of its ball. -/
theorem State.sourceCondition_ball (s : State) (x : Nat) (hlo : 12 ≤ n) (hhi : n < 28) (v : Bool) :
    s.sourceCondition x n v = true := by
  unfold State.sourceCondition
  rw [if_neg (by omega), if_neg (by omega), if_neg (by omega)]
  exact decide_eq_true (by omega)

theorem exec_faultSourceActive {n : Fin 36} (hr : s.cellRuns x.val = true)
    (hc : s.sourceCondition x.val n.val true = true) : exec (.faultSourceActive dt x n) s = .next
      (if 12 ≤ n.val ∧ n.val < 20 then (s.elapse dt).scQualify x.val (n.val - 12)
      else if 20 ≤ n.val ∧ n.val < 24 then (s.elapse dt).rdyNotReady x.val (n.val - 20)
      else if 24 ≤ n.val ∧ n.val < 28 then (s.elapse dt).tripLow x.val (n.val - 24)
      else (s.elapse dt).sourceOn x.val n.val) :=
  congrArg Host.Outcome.next (if_pos ⟨hr, hc⟩)

/-- An `SC_N` or `TRIP_N` input whose other level has lasted its filter's time, before its source is turned off. -/
def State.ballOff (s : State) (x n : Nat) : State :=
  let s := s.filterTaken x (n - 12)
  if n < 20 then s.setGuard x (fun d => { d with scSince := d.scSince.set (n - 12) none }) else s

theorem exec_faultSourceInactive {n : Fin 36} (hr : s.cellRuns x.val = true)
    (hc : s.sourceCondition x.val n.val false = true) : exec (.faultSourceInactive dt x n) s =
      if 20 ≤ n.val ∧ n.val < 24 then .next ((s.elapse dt).rdyReady x.val (n.val - 20))
      else if 12 ≤ n.val ∧ n.val < 28 then
        if s.source x.val n.val ∧ (s.elapse dt).filterDone x.val (n.val - 12) then
          .next (((s.elapse dt).ballOff x.val n.val).sourceOff x.val n.val)
        else .next (s.elapse dt)
      else .next ((s.elapse dt).sourceOff x.val n.val) :=
  if_pos ⟨hr, hc⟩

theorem exec_scQualify {w : Fin 8} : exec (.scQualify dt x w) s
    = .next (if s.cellRuns x.val then (s.elapse dt).scQualify x.val w.val else s.elapse dt) := rfl

theorem exec_rdyNotReady {y : Fin 4} (hr : s.cellRuns x.val = true) : exec (.rdyNotReady dt x y) s
    = .next ((s.elapse dt).rdyNotReady x.val y.val) := congrArg Host.Outcome.next (if_pos hr)

end Sys2Proof.Machine

open Sys2Proof.Machine

/-- Settles O38: a source that turns is set in its readout and the upkeep of the groups activates the group of its map
(`shown_sourceOn`); the marks made before it stand beside the sources and the map (`sameInputs`), and the upkeep leaves
them. -/
theorem faultSourceCommands : Obligations.FaultSourceCommands := by
  unfold Obligations.FaultSourceCommands
  refine ⟨?active, ?shorted, ?notReady, ?tripped, ?inactive, ?ballInactive, ?ready, ?notQualified, ?qualified, ?stuck,
    ?rdyLow, ?blankEnd, ?tripInput⟩
  case active =>
    intro s dt x n hr hn hc hs
    refine ⟨_, exec_faultSourceActive hr hc, ?_⟩
    rw [if_neg (by omega), if_neg (by omega), if_neg (by omega)]
    exact State.shown_sourceOn (s := s.elapse dt) hs n.isLt
  case shorted =>
    intro s dt x n hr hlo hhi hs hf
    obtain ⟨k, hk⟩ : ∃ k, n.val = 12 + k := ⟨n.val - 12, by omega⟩
    refine ⟨_, exec_faultSourceActive hr (s.sourceCondition_ball x.val hlo (by omega) true), ?_⟩
    rw [if_pos ⟨hlo, hhi⟩]
    rw [hk, Nat.add_sub_cancel_left] at hf ⊢
    rw [hk] at hs
    obtain ⟨⟨hon, hgroups⟩, hseen, -, -⟩ := State.shown_scQualify (s := s.elapse dt) hs hf (by omega)
    exact ⟨hon, hgroups, hseen⟩
  case notReady =>
    intro s dt x n hr hlo hhi hs hlow hb hf
    obtain ⟨k, hk⟩ : ∃ k, n.val = 20 + k := ⟨n.val - 20, by omega⟩
    refine ⟨_, exec_faultSourceActive hr (s.sourceCondition_ball x.val (by omega) (by omega) true), ?_⟩
    rw [if_neg (by omega), if_pos ⟨hlo, hhi⟩]
    rw [hk, Nat.add_sub_cancel_left] at hlow hf ⊢
    rw [hk] at hs
    obtain ⟨hon, hgroups⟩ := State.sourceShown_rdyNotReady (s := s.elapse dt) hs hlow hb hf (by omega)
    exact ⟨hon, hgroups, (State.shown_rdyNotReady (s := s.elapse dt) hlow hf (by omega)).1⟩
  case tripped =>
    intro s dt x n hr hlo hhi hs hf
    obtain ⟨k, hk⟩ : ∃ k, n.val = 24 + k := ⟨n.val - 24, by omega⟩
    refine ⟨_, exec_faultSourceActive hr (s.sourceCondition_ball x.val (by omega) hhi true), ?_⟩
    rw [if_neg (by omega), if_neg (by omega), if_pos ⟨hlo, hhi⟩]
    rw [hk, Nat.add_sub_cancel_left] at hf ⊢
    rw [hk] at hs
    exact State.shown_tripLow (s := s.elapse dt) hs hf (by omega)
  case inactive =>
    intro s dt x n hr hn hc
    refine ⟨_, (exec_faultSourceInactive hr hc).trans ((if_neg (by omega)).trans (if_neg (by omega))), ?_⟩
    exact State.inactive_of_sourceOff _ x n.isLt
  case ballInactive =>
    intro s dt x n hr hlo hhi hnot hf
    have hexec := (exec_faultSourceInactive (dt := dt) hr (s.sourceCondition_ball x.val hlo hhi false)).trans
      ((if_neg (by omega)).trans (if_pos ⟨hlo, hhi⟩))
    cases hs : s.source x.val n.val with
    | true => exact ⟨_, hexec.trans (if_pos ⟨hs, hf⟩), State.inactive_of_sourceOff _ x n.isLt⟩
    | false => exact ⟨_, hexec.trans (if_neg (by simp [hs])), hs⟩
  case ready =>
    intro s dt x n hr hlo hhi hlow hf
    obtain ⟨k, hk⟩ : ∃ k, n.val = 20 + k := ⟨n.val - 20, by omega⟩
    refine ⟨_, (exec_faultSourceInactive hr (s.sourceCondition_ball x.val (by omega) (by omega) false)).trans
      (if_pos ⟨hlo, hhi⟩), ?_⟩
    rw [hk, Nat.add_sub_cancel_left] at hlow hf ⊢
    exact State.shown_rdyReady (s := s.elapse dt) hlow hf (by omega)
  case notQualified =>
    intro s dt x w h
    refine ⟨_, exec_scQualify, ?_⟩
    rw [State.scQualify_of_not (s := s.elapse dt) h, ite_self]
  case qualified =>
    intro s dt x w hr hs hf
    refine ⟨_, exec_scQualify, ?_⟩
    rw [if_pos hr]
    obtain ⟨⟨hon, hgroups⟩, hseen, htime, hcount⟩ := State.shown_scQualify (s := s.elapse dt) hs hf w.isLt
    refine ⟨hon, hgroups, hseen, htime, ?_⟩
    unfold scCount at hcount
    split
    next heven => rwa [if_pos heven] at hcount
    next hodd => rwa [if_neg hodd] at hcount
  case stuck =>
    intro s dt t0 x w hr hs ht
    refine ⟨_, exec_scStuck hr hs ht, ?_⟩
    obtain ⟨hstuck, hin⟩ := (s.elapse dt).shown_stuckMarked x w.isLt
    rw [hin.mapped _ (by omega)]
    change _ ∧ ∀ g : Fin 16, (s.elapse dt).mapped x.val (12 + w.val) = some g.val → _
    cases hm : (s.elapse dt).mapped x.val (12 + w.val) with
    | none => exact ⟨hstuck, fun _ h => nomatch h⟩
    | some g =>
      refine ⟨?_, fun g' h => ?_⟩
      · exact (congrArg (Nat.testBit · w.val) ((State.spares_latchGroup _ x.val g).regs _ (stuck_notMem_map x g))).trans
          hstuck
      · cases h
        exact State.flag_latchGroup _ x g'
  case rdyLow =>
    intro s dt x y hr hlow hf
    exact ⟨_, exec_rdyNotReady hr, State.shown_rdyNotReady (s := s.elapse dt) hlow hf y.isLt⟩
  case blankEnd =>
    intro s dt x hr hb ht
    obtain ⟨hmark, hblank⟩ := (s.elapse dt).shown_unblanked x (s.get (R.GUARD_SC_STAT_RDY_LOW x.val))
    exact ⟨_, exec_rdyBlankEnd hr hb ht, hmark, hblank, fun y hy => State.source_unblanked _ x y.isLt hy⟩
  case tripInput =>
    intro s dt n
    exact ⟨_, exec_tripInput, fun x hr hf => State.source_tripped (s := s.elapse dt) hr hf n.isLt⟩

end

section
/-! A host write of the fault map and of FAULT_SOFT (O57, R157): what a PWM page's block register takes. -/

-- One proof after another: many at once take a thread each (see Laws/KeepsChannel).
set_option Elab.async false

namespace Sys2Proof.Machine

variable {s t : State} {fs : List Reg} {q r : Reg} {dt ofs v w lo n : Nat} {x : Fin 8}

/-! ### The write of an RW register -/

/-- The fields of the register are RW ones, each with its own bits. -/
abbrev plainFields (fs : List Reg) : Prop := fs.all (fun r => r.acc = .rw) = true ∧ (fs.map Reg.key).Nodup

theorem State.fieldWrite_of_rw (h : r.acc = .rw) : s.fieldWrite v r = s.set r (r.ofWord v) := by
  unfold State.fieldWrite
  rw [h]

theorem State.regsBut_fieldsWritten (h : fs.all (fun r => r.acc = .rw) = true) (s : State) (v : Nat) :
    s.regsBut fs (fs.foldl (fun t r => t.fieldWrite v r) s) := by
  refine State.regsBut.foldl (fun t r hr => ?_) s
  rw [State.fieldWrite_of_rw (of_decide_eq_true (List.all_eq_true.1 h r hr))]
  exact t.regsBut_of_regs.set hr

/-- Every field of such a register takes its bits of the word. -/
theorem State.get_fieldsWritten (h : plainFields fs) (hq : q ∈ fs) (s : State) (v : Nat) :
    (fs.foldl (fun t r => t.fieldWrite v r) s).get q = q.ofWord v := by
  obtain ⟨hrw, hkeys⟩ := h
  induction fs generalizing s with
  | nil => cases hq
  | cons r rest ih =>
    simp only [List.all_cons, Bool.and_eq_true, decide_eq_true_eq, List.map_cons, List.nodup_cons] at hrw hkeys
    obtain ⟨hr, hrest⟩ := hrw
    obtain ⟨hfirst, hothers⟩ := hkeys
    rw [List.foldl_cons]
    rcases List.mem_cons.1 hq with rfl | hmem
    · rw [State.regsBut_fieldsWritten hrest _ v q hfirst, State.fieldWrite_of_rw hr]
      exact State.get_set_fits (bitsOf_lt v q.lo q.width) (by simp [hr])
    · exact ih hmem _ hrest hothers

/-- A write of 32 bits has the word's bits. -/
theorem bitsOf_mod (w : Nat) (h : lo + n ≤ 32) : bitsOf (w % 2 ^ 32) lo n = bitsOf w lo n := by
  unfold bitsOf
  rw [Nat.shiftRight_eq_div_pow, Nat.shiftRight_eq_div_pow]
  refine Nat.eq_of_testBit_eq fun i => ?_
  simp only [Nat.testBit_mod_two_pow, Nat.testBit_div_two_pow]
  by_cases hi : i < n <;> simp [hi]
  omega

/-! ### A block register of a PWM page -/

/-- A host write of a block register of the page, beside `CNT_CLR`, is that of its block. -/
theorem exec_registerWrite_pwm (ho : s.hostOpen (pgPwm x.val) = true) (hlo : 0x100 ≤ ofs) (hhi : ofs < 4096)
    (hword : ofs % 4 = 0) : exec (.registerWrite dt (4096 * pgPwm x.val + ofs) w) s
      = .next ((s.elapse dt).pwmWrite x.val ofs (w % 2 ^ 32)) := by
  have hx := x.isLt
  have haddr : (4096 * pgPwm x.val + ofs) / 4 * 4 = 4096 * pgPwm x.val + ofs := by omega
  have hpage : (4096 * pgPwm x.val + ofs) / 4096 = pgPwm x.val := by omega
  have hofs : (4096 * pgPwm x.val + ofs) % 4096 = ofs := by omega
  have hchan : pgPwm x.val % 8 = x.val := by unfold pgPwm; omega
  have hlow : 4096 * pgPwm x.val + ofs < 0x100000 := by unfold pgPwm; omega
  have hmbox : pgPwm x.val ≠ pgMbox := by unfold pgPwm pgMbox; omega
  have hcnt : cntClrOfs (pgPwm x.val) = 0x0C0 := by
    have h : ∀ x : Fin 8, cntClrOfs (pgPwm x.val) = 0x0C0 := by decide
    exact h x
  have hpair : dlPair (pgPwm x.val) (ofs - 4) = none := by
    unfold dlPair
    dsimp only
    repeat rw [if_neg (by simp only [pgPwm, pgCanopy, pgGylen, pgMbox]; omega)]
  have hblock (t : State) (v : Nat) : t.regWrite (pgPwm x.val) ofs v = t.pwmWrite x.val ofs v := by
    unfold State.regWrite
    rw [if_neg (by omega), hcnt, if_neg (by omega), hpair]
    unfold State.blockWrite
    dsimp only
    rw [hchan, if_neg (by unfold pgPwm; omega), if_neg (by unfold pgPwm; omega), if_pos (by unfold pgPwm; omega)]
  have hfab : (s.elapse dt).fabWrite (4096 * pgPwm x.val + ofs) w
      = (s.elapse dt).pwmWrite x.val ofs (w % 2 ^ 32) := by
    unfold State.fabWrite State.pageWrite
    simp only [haddr, hpage, hofs, hlow, hmbox, if_true, false_and, if_false]
    rw [State.pageAct_of_hostOpen (s := s.elapse dt) ho, hblock]
  exact congrArg Host.Outcome.next ((if_pos (State.hostRuns_of_hostOpen ho)).trans hfab)

/-! ### The fault map (R157) -/

/-- The register at `ofs` is one of the fault map's: its fields are plain and stand beside what the groups' upkeep
writes, as its page's error count does. -/
abbrev mapRegister (x ofs : Nat) : Prop := plainFields (fieldsOf (pgPwm x) ofs)
  ∧ (∀ q ∈ fieldsOf (pgPwm x) ofs, q.beside x ∧ q.key ≠ (H.ERR_COUNT (pgPwm x)).key)
  ∧ (pageFields (pgPwm x)).any (fun r => r.ofs = ofs) = true

theorem mapRegister_fmap (x : Fin 8) (k : Fin 9) : mapRegister x.val (0x100 + 4 * k.val)
    ∧ (fieldsOf (pgPwm x.val) (0x100 + 4 * k.val)).all Reg.fullRange = true
    ∧ ∀ j : Fin 4, R.PWM_FMAP_EN x.val k.val j.val ∈ fieldsOf (pgPwm x.val) (0x100 + 4 * k.val)
      ∧ R.PWM_FMAP_GROUP x.val k.val j.val ∈ fieldsOf (pgPwm x.val) (0x100 + 4 * k.val) := by
  revert x k
  decide +kernel

theorem mapRegister_grp (x : Fin 8) (g : Fin 16) : mapRegister x.val (0x140 + 4 * g.val)
    ∧ fieldsOf (pgPwm x.val) (0x140 + 4 * g.val) = [R.PWM_GRP_OUT x.val g.val, R.PWM_GRP_ACTION x.val g.val] := by
  revert x g
  decide +kernel

/-- While `EN` is 1 a write of the map is an error, and that is all (R157). -/
theorem exec_registerWrite_map_of_en (ho : s.hostOpen (pgPwm x.val) = true) (hen : s.flag (R.PWM_CTRL_EN x.val) = true)
    (hmap : mapRegister x.val ofs) (hlo : 0x100 ≤ ofs) (hhi : ofs < 0x180) (hword : ofs % 4 = 0) :
    exec (.registerWrite dt (4096 * pgPwm x.val + ofs) w) s = .next ((s.elapse dt).err (pgPwm x.val)) := by
  obtain ⟨-, -, hany⟩ := hmap
  refine (exec_registerWrite_pwm ho hlo (by omega) hword).trans (congrArg Host.Outcome.next ?_)
  exact (if_pos ⟨hlo, hhi⟩).trans (if_pos ⟨hen, hany⟩)

/-- What an error of a page leaves. -/
theorem State.shown_err_elapse (s : State) (dt p : Nat) :
    ((s.elapse dt).err p).get (H.ERR_COUNT p) = counted (H.ERR_COUNT p) (s.get (H.ERR_COUNT p))
    ∧ s.regsBut [H.ERR_COUNT p, H.IRQ_RAW p] ((s.elapse dt).err p)
    ∧ s.sameBut [.now, .recent, .pod, .regs] ((s.elapse dt).err p) := by
  have hI := keeps_sameBut [.now, .recent, .pod, .regs] s
  exact ⟨State.errCount_err (s.elapse dt) p, (s.regsBut_of_regs (t := s.elapse dt)).err,
    keeps_err (hI.mono (by decide)) _ p (keeps_elapse (hI.mono (by decide)) s dt (State.sameBut_refl _ s))⟩

/-- The map written, and the groups brought up to date with it. -/
def State.mapWritten (s : State) (x ofs v : Nat) : State :=
  ((s.fieldsWrite (pgPwm x) ofs v).groupsSync x).guardSync x

/-- While `EN` is 0 the map takes a write (R157). -/
theorem exec_registerWrite_map (ho : s.hostOpen (pgPwm x.val) = true) (hen : s.flag (R.PWM_CTRL_EN x.val) = false)
    (hlo : 0x100 ≤ ofs) (hhi : ofs < 0x180) (hword : ofs % 4 = 0) :
    exec (.registerWrite dt (4096 * pgPwm x.val + ofs) w) s
      = .next ((s.elapse dt).mapWritten x.val ofs (w % 2 ^ 32)) := by
  have hnot : ¬ ((s.elapse dt).flag (R.PWM_CTRL_EN x.val) = true
      ∧ (pageFields (pgPwm x.val)).any (fun r => r.ofs = ofs) = true) := by
    simp [hen]
  refine (exec_registerWrite_pwm ho hlo (by omega) hword).trans (congrArg Host.Outcome.next ?_)
  exact (if_pos ⟨hlo, hhi⟩).trans (if_neg hnot)

theorem State.regsBut_mapSync (s : State) (x : Nat) : s.regsBut (groupsFields x) ((s.groupsSync x).guardSync x) := by
  have hsub : chanFields x ⊆ groupsFields x := fun _ hr => map_subset_groups (List.mem_range.2 (by omega : 0 < 16))
    (stop_subset_map x 0 (List.mem_append_left _ hr))
  exact (State.spares_groupsSync s x).regs.trans ((State.regsBut_guardSync _ x).mono hsub)

/-- The register takes the written fields, and no error is counted. -/
theorem State.shown_mapWritten (hmap : mapRegister x.val ofs)
    (hin : ∀ r ∈ fieldsOf (pgPwm x.val) ofs, r.outside v = false) :
    (∀ q ∈ fieldsOf (pgPwm x.val) ofs, (s.mapWritten x.val ofs v).get q = q.ofWord v)
    ∧ (s.mapWritten x.val ofs v).get (H.ERR_COUNT (pgPwm x.val)) = s.get (H.ERR_COUNT (pgPwm x.val)) := by
  obtain ⟨hplain, hbeside, -⟩ := hmap
  have htakes : (fieldsOf (pgPwm x.val) ofs).all Reg.takes = true :=
    List.all_eq_true.2 fun r hr => by
      simp [Reg.takes, of_decide_eq_true (List.all_eq_true.1 hplain.1 r hr)]
  have hwritten := State.fieldsWrite_of_takes (s := s) rfl htakes hin
  have herr : (H.ERR_COUNT (pgPwm x.val)).beside x.val := by
    simp [Reg.beside, H.ERR_COUNT, pgPwm]
  unfold State.mapWritten
  constructor
  · intro q hq
    rw [State.regsBut_mapSync _ _ q (hbeside q hq).1.notMem_groups, hwritten]
    exact State.get_fieldsWritten hplain hq s v
  · rw [State.regsBut_mapSync _ _ _ herr.notMem_groups, hwritten]
    refine State.regsBut_fieldsWritten hplain.1 s v _ fun hmem => ?_
    obtain ⟨q, hq, hkey⟩ := List.mem_map.1 hmem
    exact (hbeside q hq).2 hkey

/-! ### FAULT_SOFT (R157) -/

/-- FAULT_SOFT written: its bit, then its source. -/
def State.softWritten (s : State) (x v : Nat) : State :=
  let s := s.set (R.PWM_FAULT_SOFT_SET x) ((R.PWM_FAULT_SOFT_SET x).ofWord v)
  if v.testBit 0 then s.sourceOn x 32 else s.sourceOff x 32

theorem exec_registerWrite_soft (ho : s.hostOpen (pgPwm x.val) = true) :
    exec (.registerWrite dt (4096 * pgPwm x.val + 0x18C) w) s
      = .next ((s.elapse dt).softWritten x.val (w % 2 ^ 32)) := by
  have hf : ∀ x : Fin 8, fieldsOf (pgPwm x.val) 0x18C = [R.PWM_FAULT_SOFT_SET x.val] := by decide +kernel
  have hwrite := State.fieldsWrite_of_fullRange (hf x) (by simp [Reg.takes, R.PWM_FAULT_SOFT_SET])
    (by simp [Reg.fullRange, R.PWM_FAULT_SOFT_SET]) (s.elapse dt) (w % 2 ^ 32)
  refine (exec_registerWrite_pwm ho (by omega) (by omega) (by omega)).trans (congrArg Host.Outcome.next ?_)
  unfold State.pwmWrite
  dsimp only
  rw [if_neg (by omega), if_pos rfl, hwrite]
  rfl

/-- The bit is written and the source follows it. -/
theorem State.shown_softWritten (s : State) (x : Fin 8) (v : Nat) :
    (s.softWritten x.val v).flag (R.PWM_FAULT_SOFT_SET x.val) = v.testBit 0
    ∧ (s.softWritten x.val v).source x.val 32 = v.testBit 0 := by
  have hnot : (R.PWM_FAULT_SOFT_SET x.val).key ∉ (srcFields x.val).map Reg.key := by
    have hb : (R.PWM_FAULT_SOFT_SET x.val).beside x.val := by simp [Reg.beside, R.PWM_FAULT_SOFT_SET]
    refine hb.notMem_src ?_ ?_ <;>
      simp only [Reg.key, R.PWM_FAULT_SOFT_SET, R.PWM_FSRC_LO_ACTIVE, R.PWM_FSRC_HI_ACTIVE] <;> omega
  have hset : (s.set (R.PWM_FAULT_SOFT_SET x.val) ((R.PWM_FAULT_SOFT_SET x.val).ofWord v)).flag
      (R.PWM_FAULT_SOFT_SET x.val) = v.testBit 0 := by
    rw [State.flag_eq, State.get_set_fits (v := (R.PWM_FAULT_SOFT_SET x.val).ofWord v) (bitsOf_lt v _ _)
      (by simp [R.PWM_FAULT_SOFT_SET])]
    simp [Reg.ofWord, bitsOf, R.PWM_FAULT_SOFT_SET, Nat.testBit_zero]
  unfold State.softWritten
  dsimp only
  split
  next hbit => exact ⟨((State.regsBut_sourceOn _ _ _).flag hnot).trans hset,
    (State.active_of_sourceOn _ x (by omega)).trans hbit.symm⟩
  next hbit => exact ⟨((State.regsBut_sourceOff _ _ _).flag hnot).trans hset,
    (State.inactive_of_sourceOff _ x (by omega)).trans (Bool.eq_false_iff.2 hbit).symm⟩

end Sys2Proof.Machine

open Sys2Proof.Machine

/-- Settles O57: while `EN` is 1 the write is an error and nothing else (`exec_registerWrite_map_of_en`); while it is 0
each field takes its bits and the upkeep of the groups leaves them (`shown_mapWritten`); FAULT_SOFT asks nothing of `EN`
(`shown_softWritten`). -/
theorem faultMapIsWrittenWithThePwmOff : Obligations.FaultMapIsWrittenWithThePwmOff := by
  unfold Obligations.FaultMapIsWrittenWithThePwmOff
  refine ⟨?fmapOn, ?grpOn, ?fmapOff, ?grpOff, ?soft⟩
  case fmapOn =>
    intro s dt w x k ho hen
    rw [Nat.add_assoc (4096 * pgPwm x.val)]
    exact ⟨_, exec_registerWrite_map_of_en ho hen (mapRegister_fmap x k).1 (by omega) (by omega) (by omega),
      s.shown_err_elapse dt _⟩
  case grpOn =>
    intro s dt w x g ho hen
    rw [Nat.add_assoc (4096 * pgPwm x.val)]
    exact ⟨_, exec_registerWrite_map_of_en ho hen (mapRegister_grp x g).1 (by omega) (by omega) (by omega),
      s.shown_err_elapse dt _⟩
  case fmapOff =>
    intro s dt w x k ho hen
    rw [Nat.add_assoc (4096 * pgPwm x.val)]
    obtain ⟨hmap, hfull, hfields⟩ := mapRegister_fmap x k
    obtain ⟨htaken, herr⟩ := State.shown_mapWritten (s := s.elapse dt) (v := w % 2 ^ 32) hmap
      (fun r hr => Reg.outside_of_fullRange (List.all_eq_true.1 hfull r hr) _)
    refine ⟨_, exec_registerWrite_map ho hen (by omega) (by omega) (by omega), fun j => ⟨?_, ?_⟩, herr⟩
    · exact (htaken _ (hfields j).1).trans (bitsOf_mod w (by simp only [R.PWM_FMAP_EN]; omega))
    · exact (htaken _ (hfields j).2).trans (bitsOf_mod w (by simp only [R.PWM_FMAP_GROUP]; omega))
  case grpOff =>
    intro s dt w x g ho hen hact
    rw [Nat.add_assoc (4096 * pgPwm x.val)]
    obtain ⟨hmap, hfields⟩ := mapRegister_grp x g
    have hin : ∀ r ∈ fieldsOf (pgPwm x.val) (0x140 + 4 * g.val), r.outside (w % 2 ^ 32) = false := by
      have hword : (R.PWM_GRP_ACTION x.val g.val).ofWord (w % 2 ^ 32) ≤ 4 :=
        (bitsOf_mod w (by simp only [R.PWM_GRP_ACTION]; omega)).trans_le hact
      simp only [hfields, List.forall_mem_cons, List.not_mem_nil, false_implies, implies_true, and_true]
      refine ⟨Reg.outside_of_fullRange (by simp [Reg.fullRange, R.PWM_GRP_OUT]) _, ?_⟩
      simp only [Reg.outside, Bool.and_eq_false_iff, Bool.or_eq_false_iff, decide_eq_false_iff_not]
      exact .inr ⟨Nat.not_lt_zero _, Nat.not_lt.2 hword⟩
    obtain ⟨htaken, herr⟩ := State.shown_mapWritten (s := s.elapse dt) hmap hin
    refine ⟨_, exec_registerWrite_map ho hen (by omega) (by omega) (by omega), ?_, ?_, herr⟩
    · exact (htaken _ (by simp [hfields])).trans (bitsOf_mod w (by simp only [R.PWM_GRP_OUT]; omega))
    · exact (htaken _ (by simp [hfields])).trans (bitsOf_mod w (by simp only [R.PWM_GRP_ACTION]; omega))
  case soft =>
    intro s dt w x ho
    have hbit : (w % 2 ^ 32).testBit 0 = w.testBit 0 := by simp
    refine ⟨_, exec_registerWrite_soft ho, ?_⟩
    rw [← hbit]
    exact (s.elapse dt).shown_softWritten x _

end

section
/-! A leg's edges and its bootstrap refresh (O41): its switches by R145, the refresh by R148. -/

-- One proof after another: many at once take a thread each (see Laws/KeepsChannel).
set_option Elab.async false

namespace Sys2Proof.Machine

variable {s t : State} {x y dt t0 : Nat} {high d cross : Bool} {f : LegSt → LegSt}

/-! ### A leg changed -/

/-- The channel and the leg exist. -/
abbrev State.hasLeg (s : State) (x y : Nat) : Prop := x < s.chan.length ∧ y < (s.ch x).pwm.legs.length

theorem State.leg_setLeg_same (h : s.hasLeg x y) : (s.setLeg x y f).leg x y = f (s.leg x y) := by
  obtain ⟨hx, hy⟩ := h
  unfold State.leg State.setLeg State.setPwm
  rw [State.ch_setCh_same hx]
  simp [List.getD_eq_getElem?_getD, hy]

/-- A leg that is not as its reset left it exists. -/
theorem State.hasLeg_of_ne (h : s.leg x y ≠ {}) : s.hasLeg x y := by
  constructor
  · by_contra hx
    refine h ?_
    unfold State.leg
    rw [State.ch_of_le (Nat.le_of_not_lt hx)]
    rcases y with _ | _ | _ | _ | y <;> rfl
  · by_contra hy
    exact h (List.getD_eq_default _ _ (Nat.le_of_not_lt hy))

/-- A channel whose carrier has started exists. -/
theorem State.lt_of_started (h : (s.ch x).pwm.started = true) : x < s.chan.length := by
  by_contra hx
  rw [State.ch_of_le (Nat.le_of_not_lt hx)] at h
  cases h

/-- A part of the legs that the change of one leaves is left in all. -/
theorem State.agreesOn.setLeg {β : Type} {π : LegSt → β} (h : s.agreesOn (fun c => c.pwm.legs.map π) t)
    (hf : ∀ l, π (f l) = π l) : s.agreesOn (fun c => c.pwm.legs.map π) (t.setLeg x y f) := by
  refine h.setCh fun c => List.ext_getElem? fun i => ?_
  simp only [List.getElem?_map, List.getElem?_modify]
  rcases eq_or_ne y i with rfl | hne
  · cases c.pwm.legs[y]? <;> simp [hf]
  · simp [hne]

theorem State.leg_of_agreesOn {β : Type} {π : LegSt → β} (h : s.agreesOn (fun c => c.pwm.legs.map π) t) :
    π (t.leg x y) = π (s.leg x y) := by
  have hmap : ((t.ch x).pwm.legs.map π).getD y (π {}) = ((s.ch x).pwm.legs.map π).getD y (π {}) :=
    congrArg (fun l : List β => l.getD y (π {})) (h x)
  rwa [List.getD_map, List.getD_map] at hmap

theorem LegSt.sw_putSw_same (l : LegSt) (high : Bool) (w : Sw) : (l.putSw high w).sw high = w := by
  cases high <;> rfl

theorem LegSt.sw_putSw_other (l : LegSt) (high : Bool) (w : Sw) : (l.putSw high w).sw (!high) = l.sw (!high) := by
  cases high <;> rfl

theorem LegSt.d_putSw (l : LegSt) (high : Bool) (w : Sw) : (l.putSw high w).d = l.d := by
  cases high <;> rfl

theorem LegSt.ne_of_st {l : LegSt} (h : (l.sw high).st ≠ .off) : l ≠ {} := by
  rintro rfl
  cases high <;> exact h rfl

/-! ### An ideal edge (R142, R145) -/

/-- The edge algorithm changes the switches, never the ideal demand. -/
theorem State.demand_idealEdge (s : State) (x y t : Nat) (d : Bool) :
    s.agreesOn (fun c => c.pwm.legs.map LegSt.d) (s.idealEdge x y t d) := by
  have hdropped {u : State} (h : s.agreesOn (fun c => c.pwm.legs.map LegSt.d) u) :
      s.agreesOn (fun c => c.pwm.legs.map LegSt.d) (u.countDropped x y) := h.keep (by simp [State.countDropped])
  have hstretched {u : State} (h : s.agreesOn (fun c => c.pwm.legs.map LegSt.d) u) :
      s.agreesOn (fun c => c.pwm.legs.map LegSt.d) (u.countStretched x y) := h.keep (by simp [State.countStretched])
  unfold State.idealEdge
  extract_lets l w c kept minP tOff tOn short waited held c' w'
  have hkept : s.agreesOn (fun c => c.pwm.legs.map LegSt.d) kept := s.agreesOn_refl.setLeg fun l => l.d_putSw _ _
  have hwaited : s.agreesOn (fun c => c.pwm.legs.map LegSt.d) waited := .ite (hdropped s.agreesOn_refl) s.agreesOn_refl
  have hheld : s.agreesOn (fun c => c.pwm.legs.map LegSt.d) held := .ite (hstretched hwaited) hwaited
  have hturned : s.agreesOn (fun c => c.pwm.legs.map LegSt.d)
      (held.setLeg x y (fun l => (l.putSw (!d) c').putSw d w')) :=
    hheld.setLeg fun l => (LegSt.d_putSw _ _ _).trans (l.d_putSw _ _)
  exact .ite (s.agreesOn_refl.setLeg fun _ => rfl)
    (.ite (.ite (hdropped (hkept.setLeg fun l => l.d_putSw _ _)) hkept)
      (.ite s.agreesOn_refl (.ite (hdropped s.agreesOn_refl) hturned)))

theorem State.leg_deliver (h : s.hasLeg x y) (t : Nat) : ((s.deliver x y t d cross).leg x y).d = d := by
  unfold State.deliver
  extract_lets u
  have hu : (u.leg x y).d = d := congrArg LegSt.d (State.leg_setLeg_same h)
  split
  · exact (State.leg_of_agreesOn (π := LegSt.d) (u.demand_idealEdge x y t d)).trans hu
  · exact hu

/-- A demand delivered while the gates do not run touches no register. -/
theorem State.regs_deliver (h : s.flag (R.PWM_STATUS_RUN x) = false) (t : Nat) :
    (s.deliver x y t d cross).regs = s.regs := by
  have hnot : ¬ (s.flag (R.PWM_STATUS_RUN x) = true ∧ ¬ s.flag (R.PWM_ACMP_KWAIT x y) = true) := by simp [h]
  unfold State.deliver
  extract_lets u
  have hskip : ¬ (u.flag (R.PWM_STATUS_RUN x) = true ∧ ¬ u.flag (R.PWM_ACMP_KWAIT x y) = true) := hnot
  rw [if_neg hskip]
  rfl

/-! ### The commands of a leg -/

section
variable {x : Fin 8} {y : Fin 4}

theorem exec_idealEdge (hr : s.cellRuns x.val = true) (hs : (s.ch x.val).pwm.started = true)
    (hd : (s.elapse dt).idealAt x.val y.val ((s.now + dt - (s.ch x.val).pwm.zeroAt) / fine) = d)
    (hne : d ≠ (s.leg x.val y.val).d) : exec (.idealEdge dt x y) s = .next ((s.elapse dt).deliver x.val y.val
      (s.now + dt) d (decide ((s.ch x.val).pwm.mode ≠ 0) || !d)) := by
  subst hd
  exact if_pos ⟨hr, hs, hne⟩

theorem exec_scheduledSwitchOff (hr : s.cellRuns x.val = true) (hon : ((s.leg x.val y.val).sw high).st = .on)
    (hstop : ((s.leg x.val y.val).sw high).stop = some t0) (ht : t0 ≤ s.now + dt) :
    exec (.scheduledSwitchOff dt x y high) s
      = .next ((s.elapse dt).setLeg x.val y.val (fun l => l.putSw high {})) := by
  have hstop' : (((s.elapse dt).leg x.val y.val).sw high).stop = some t0 := hstop
  change execScheduledSwitchOff dt x y high s = _
  unfold execScheduledSwitchOff
  simp only [hstop']
  exact if_pos ⟨hr, hon, ht⟩

/-- The other switch of a leg when one turns on: its own turn-off is carried out with it (R145). -/
def LegSt.cleared (l : LegSt) (high : Bool) : Sw := if (l.sw high).st = .on then {} else l.sw high

theorem exec_scheduledSwitchOn (hr : s.cellRuns x.val = true) (hw : ((s.leg x.val y.val).sw high).st = .wait)
    (ht : ((s.leg x.val y.val).sw high).start ≤ s.now + dt) : exec (.scheduledSwitchOn dt x y high) s
      = .next ((s.elapse dt).setLeg x.val y.val (fun l =>
          (l.putSw (!high) ((s.leg x.val y.val).cleared !high)).putSw high
            { (s.leg x.val y.val).sw high with st := .on })) := if_pos ⟨hr, hw, ht⟩

/-- The leg in a bootstrap refresh: the low side turns on at `on`, for as long as the refresh lasts (R148). -/
def State.refreshed (s : State) (x y on : Nat) (l : LegSt) : LegSt :=
  { l with h := {}, l := { st := if on ≤ s.now then .on else .wait, start := on, min := s.minPulse x y },
           refresh := some (on + fine * s.get (R.PWM_BOOT_REFRESH x y)) }

theorem exec_bootstrapRefresh (hr : s.cellRuns x.val = true) (hmax : s.get (R.PWM_LEGCFG_BOOT_MAX_ON x.val y.val) ≠ 0)
    (hon : (s.leg x.val y.val).h.st = .on) (hstop : (s.leg x.val y.val).h.stop = none)
    (ht : (s.leg x.val y.val).h.start + us (s.get (R.PWM_LEGCFG_BOOT_MAX_ON x.val y.val)) ≤ s.now + dt) :
    exec (.bootstrapRefresh dt x y) s = .next ((((s.elapse dt).setLeg x.val y.val ((s.elapse dt).refreshed x.val y.val
      (s.now + dt + fine * s.get (R.PWM_DT_FALL x.val y.val)))).inc (R.PWM_EVT_REFRESH x.val y.val)).irq
        (pgPwm x.val) (13 + y.val)) := if_pos ⟨hr, hmax, hon, hstop, ht⟩

/-- The leg after a refresh: the high side turns on at `on`. -/
def State.resumed (s : State) (x y on : Nat) (l : LegSt) : LegSt :=
  { l with l := {}, h := { st := if on ≤ s.now then .on else .wait, start := on, min := s.minPulse x y },
           refresh := none }

theorem exec_refreshEnd (hr : s.cellRuns x.val = true) (hrefresh : (s.leg x.val y.val).refresh = some t0)
    (ht : t0 ≤ s.now + dt) : exec (.refreshEnd dt x y) s = .next ((s.elapse dt).setLeg x.val y.val
      ((s.elapse dt).resumed x.val y.val (t0 + fine * s.get (R.PWM_DT_RISE x.val y.val)))) := by
  have hrefresh' : ((s.elapse dt).leg x.val y.val).refresh = some t0 := hrefresh
  change execRefreshEnd dt x y s = _
  unfold execRefreshEnd
  simp only [hrefresh']
  exact if_pos ⟨hr, ht⟩

end

end Sys2Proof.Machine

open Sys2Proof.Machine

/-- Settles O41: a leg that exists takes the change that its command makes (`leg_setLeg_same`), and the edge algorithm
leaves the ideal demand that was delivered (`demand_idealEdge`). -/
theorem pwmLegCommands : Obligations.PwmLegCommands := by
  unfold Obligations.PwmLegCommands
  refine ⟨?ideal, ?off, ?on, ?refresh, ?resume⟩
  case ideal =>
    intro s dt x y hr hlegs hs hne
    have hleg : s.hasLeg x.val y.val := ⟨State.lt_of_started hs, y.isLt.trans_eq hlegs.symm⟩
    obtain ⟨d, hd⟩ : ∃ d, (s.elapse dt).idealAt x.val y.val ((s.now + dt - (s.ch x.val).pwm.zeroAt) / fine) = d :=
      ⟨_, rfl⟩
    rw [hd] at hne ⊢
    exact ⟨_, exec_idealEdge hr hs hd hne, State.leg_deliver (s := s.elapse dt) hleg _,
      fun hrun => State.regs_deliver (s := s.elapse dt) hrun _⟩
  case off =>
    intro s dt t0 x y high hr hon hstop ht
    have hleg : s.hasLeg x.val y.val := State.hasLeg_of_ne (LegSt.ne_of_st (high := high) (by simp [hon]))
    have hset := State.leg_setLeg_same (s := s.elapse dt) hleg (f := fun l => l.putSw high {})
    refine ⟨_, exec_scheduledSwitchOff hr hon hstop ht, ?_, ?_, rfl⟩
    · exact (congrArg (fun l => (l.sw high).st) hset).trans (congrArg Sw.st (LegSt.sw_putSw_same _ _ _))
    · exact (congrArg (fun l => l.sw !high) hset).trans (LegSt.sw_putSw_other _ _ _)
  case on =>
    intro s dt x y high hr hw ht
    have hleg : s.hasLeg x.val y.val := State.hasLeg_of_ne (LegSt.ne_of_st (high := high) (by simp [hw]))
    have hset := State.leg_setLeg_same (s := s.elapse dt) hleg
      (f := fun l => (l.putSw (!high) ((s.leg x.val y.val).cleared !high)).putSw high
        { (s.leg x.val y.val).sw high with st := .on })
    refine ⟨_, exec_scheduledSwitchOn hr hw ht, ?_, ?_, rfl⟩
    · exact (congrArg (fun l => l.sw high) hset).trans (LegSt.sw_putSw_same _ _ _)
    · exact (congrArg (fun l => l.sw !high) hset).trans ((LegSt.sw_putSw_other _ _ _).trans (LegSt.sw_putSw_same _ _ _))
  case refresh =>
    intro s dt x y hr hmax hon hstop ht
    have hleg : s.hasLeg x.val y.val :=
      State.hasLeg_of_ne (LegSt.ne_of_st (high := true) (by simp [LegSt.sw, hon]))
    have hkey : (R.PWM_EVT_REFRESH x.val y.val).key ≠ (H.IRQ_RAW (pgPwm x.val)).key := by
      simp only [Reg.key, R.PWM_EVT_REFRESH, H.IRQ_RAW, pgPwm]
      omega
    have hset := State.leg_setLeg_same (s := s.elapse dt) hleg (f := (s.elapse dt).refreshed x.val y.val
      (s.now + dt + fine * s.get (R.PWM_DT_FALL x.val y.val)))
    have hcounted (u : State) : ((u.inc (R.PWM_EVT_REFRESH x.val y.val)).irq (pgPwm x.val) (13 + y.val)).leg x.val y.val
        = u.leg x.val y.val :=
      congrArg (fun c => c.pwm.legs.getD y.val {}) (State.ch_of_chan ((State.chan_irq ..).trans (State.chan_inc ..)))
    refine ⟨_, exec_bootstrapRefresh hr hmax hon hstop ht, ?_, ?_, ?_, ?_⟩
    · exact congrArg (fun l => l.h.st) ((hcounted _).trans hset)
    · exact congrArg (fun l => l.l.start) ((hcounted _).trans hset)
    · exact congrArg (fun l => l.refresh) ((hcounted _).trans hset)
    · rw [State.get_irq_other hkey, State.get_inc_same (by simp [R.PWM_EVT_REFRESH])]
      rfl
  case resume =>
    intro s dt t0 x y hr hrefresh ht
    have hleg : s.hasLeg x.val y.val := State.hasLeg_of_ne fun h => by simp [h] at hrefresh
    have hset := State.leg_setLeg_same (s := s.elapse dt) hleg
      (f := (s.elapse dt).resumed x.val y.val (t0 + fine * s.get (R.PWM_DT_RISE x.val y.val)))
    exact ⟨_, exec_refreshEnd hr hrefresh ht, congrArg (fun l => l.l.st) hset, congrArg (fun l => l.h.start) hset,
      congrArg (fun l => l.refresh) hset, rfl⟩

end

section
/-! The carrier's points, the enable and a shoot-through (O40): what an update point leaves of the carrier (R139, R151),
what comes after the stamp of a zero (R159), and the switches of a leg demanded both (R149). -/

-- One proof after another: many at once take a thread each (see Laws/KeepsChannel).
set_option Elab.async false

namespace Sys2Proof.Machine

variable {s t u : State} {l : List Reg} {q r : Reg} {x : Fin 8} {y b v dt : Nat}

/-! ### The carrier through an update point (R151) -/

theorem State.agreesOn.carrier (h : s.agreesOn ChSt.steady t) : s.agreesOn ChSt.carrier t :=
  fun z => congrArg Prod.fst (h z)

theorem State.agreesOn.carrierLeg {f : LegSt → LegSt} {z : Nat} (h : s.agreesOn ChSt.carrier t) :
    s.agreesOn ChSt.carrier (t.setLeg z y f) := h.setCh fun _ => rfl

theorem State.carrier_undrop (s : State) (p : Nat) : s.agreesOn ChSt.carrier (s.undrop p) := by
  have hstaged (l : List (Nat × Nat)) :
      s.agreesOn ChSt.carrier (l.foldl (fun (u : State) e => u.stageKey e.1 e.2) s) :=
    State.agreesOn.foldl (f := fun (u : State) (e : Nat × Nat) => u.stageKey e.1 e.2)
      (fun t _ _ => t.agreesOn_refl.keep rfl) s
  unfold State.undrop
  split
  · exact s.agreesOn_refl
  · split
    · exact s.agreesOn_refl
    · extract_lets staged readied
      have hreadied : s.agreesOn ChSt.carrier readied := .ite ((hstaged _).setCh fun _ => rfl) (hstaged _)
      exact hreadied.keep (State.chan_setB readied _ _)

theorem State.chan_doCommit (s : State) (p : Nat) : (s.doCommit p).chan = s.chan :=
  State.chan_of_sameBut (keeps_doCommit (keeps_sameBut [.recent, .regs, .staged] s) s p (State.sameBut_refl _ s))

theorem State.chan_refuseCommit (s : State) (p : Nat) : (s.refuseCommit p).chan = s.chan :=
  State.chan_of_sameBut (keeps_refuseCommit (keeps_sameBut [.recent, .pod, .regs, .staged] s) s p
    (State.sameBut_refl _ s))

theorem State.carrier_pwmCommit (s : State) (x : Nat) : s.agreesOn ChSt.carrier (s.pwmCommit x).1 := by
  unfold State.pwmCommit
  extract_lets p undropped old applied
  have hback : s.agreesOn ChSt.carrier undropped := s.carrier_undrop p
  have happlied : s.agreesOn ChSt.carrier applied :=
    hback.keep ((State.chan_irq ..).trans (State.chan_doCommit undropped p))
  have hrefused : s.agreesOn ChSt.carrier (undropped.refuseCommit p) := hback.keep (State.chan_refuseCommit undropped p)
  split
  · split
    · refine List.foldlRecOn (motive := fun (c : State × List Nat) => s.agreesOn ChSt.carrier c.1) _ _ happlied
        (fun c hc y _ => ?_)
      dsimp only
      split
      · exact (hc.keep (State.chan_setB ..)).carrierLeg
      · exact hc.keep (State.chan_setB ..)
      · exact hc
    · exact hrefused
  · exact hback

theorem State.carrier_pwmIndices (s : State) (x : Nat) : s.agreesOn ChSt.carrier (s.pwmIndices x).1 := by
  unfold State.pwmIndices
  refine List.foldlRecOn (motive := fun (c : State × List Nat) => s.agreesOn ChSt.carrier c.1) _ _ s.agreesOn_refl
    (fun c hc y _ => ?_)
  dsimp only
  split
  · exact hc
  · split
    · split
      · exact hc.carrierLeg.keep (State.chan_setB ..)
      · exact hc.carrierLeg
    · exact hc

theorem State.carrier_clampCheck (s : State) (x : Nat) : s.agreesOn ChSt.carrier (s.clampCheck x) := by
  unfold State.clampCheck
  refine .ite s.agreesOn_refl (State.agreesOn.foldl (fun t y _ => ?_) s)
  extract_lets past shown clamped
  have hshown : t.agreesOn ChSt.carrier shown := t.agreesOn_refl.keep ((State.chan_inc ..).trans (State.chan_setB ..))
  have hclamped : t.agreesOn ChSt.carrier clamped :=
    .ite (.ite hshown (hshown.keep (State.chan_irq ..))) t.agreesOn_refl
  exact hclamped.carrierLeg

/-! ### After the stamp of a zero -/

/-- The fields of the legs of channel `x` that an evaluation touches. -/
abbrev legFields (x y : Nat) : List Reg := [R.PWM_SHORT_DROPPED x y, R.PWM_SHORT_STRETCHED x y, R.PWM_ACMP_CMP x y]

/-- What a zero can touch once it has been stamped. -/
abbrev zeroFields (x : Nat) : List Reg :=
  [R.PWM_STATUS_RUN x, H.IRQ_RAW (pgPwm x), R.GUARD_SC_STAT_BLANKED x, R.CELL_V_OC_MV x, R.CELL_SHELL_T_NS x,
    R.CELL_CNT_A_SHELLS x] ++ (List.range 4).flatMap (legFields x) ++ srcFields x

theorem leg_subset_zero (x : Nat) (hy : y ∈ List.range 4) : legFields x y ⊆ zeroFields x :=
  fun _ hr => List.mem_append_left _ (List.mem_append_right _ (List.mem_flatMap.2 ⟨y, hy, hr⟩))

theorem src_subset_zero (x : Nat) : srcFields x ⊆ zeroFields x := List.subset_append_right _ _

theorem chan_subset_zero (x : Nat) : chanFields x ⊆ zeroFields x := fun _ hr =>
  src_subset_zero x (groups_subset_src x (map_subset_groups (List.mem_range.2 (by omega : 0 < 16))
    (stop_subset_map x 0 (List.mem_append_left _ hr))))

/-- The stamp of the zero is none of them. -/
theorem zeroTime_notMem (x : Fin 8) : (R.PWM_ZERO_T_NS x.val).key ∉ (zeroFields x.val).map Reg.key := by
  have hfew : ∀ x : Fin 8, (R.PWM_ZERO_T_NS x.val).key ∉ ([R.PWM_STATUS_RUN x.val, H.IRQ_RAW (pgPwm x.val),
      R.GUARD_SC_STAT_BLANKED x.val, R.CELL_V_OC_MV x.val, R.CELL_SHELL_T_NS x.val, R.CELL_CNT_A_SHELLS x.val]
        ++ (List.range 4).flatMap (legFields x.val)).map Reg.key := by decide +kernel
  have hb : (R.PWM_ZERO_T_NS x.val).beside x.val := by simp [Reg.beside, R.PWM_ZERO_T_NS]
  rw [List.map_append, List.mem_append, not_or]
  refine ⟨hfew x, hb.notMem_src ?_ ?_⟩ <;>
    simp only [Reg.key, R.PWM_ZERO_T_NS, R.PWM_FSRC_LO_ACTIVE, R.PWM_FSRC_HI_ACTIVE] <;> omega

/-- From `s` to `t` goes what a zero brings about once it has been stamped. -/
structure State.zeroed (x : Fin 8) (s t : State) : Prop where
  regs : s.regsBut (zeroFields x.val) t
  carrier : s.agreesOn ChSt.carrier t

theorem State.zeroed_refl (s : State) : s.zeroed x s := ⟨s.regsBut_of_regs, s.agreesOn_refl⟩

theorem State.zeroed.trans (h : s.zeroed x t) (h' : t.zeroed x u) : s.zeroed x u :=
  ⟨h.regs.trans h'.regs, h.carrier.trans h'.carrier⟩

theorem State.zeroed.ite {c : Prop} [Decidable c] (ht : s.zeroed x t) (hu : s.zeroed x u) :
    s.zeroed x (if c then t else u) := by
  split
  · exact ht
  · exact hu

theorem State.zeroed.foldl {α : Type} {xs : List α} {f : State → α → State}
    (h : ∀ (t : State), ∀ a ∈ xs, t.zeroed x (f t a)) (s : State) : s.zeroed x (xs.foldl f s) :=
  List.foldlRecOn xs f s.zeroed_refl (fun t ht a ha => ht.trans (h t a ha))

/-- What leaves the channels alone. -/
theorem State.zeroed.write (h : s.zeroed x t) (hr : t.regsBut l u) (hl : l ⊆ zeroFields x.val)
    (hc : u.chan = t.chan := by simp) : s.zeroed x u :=
  h.trans ⟨hr.mono hl, t.agreesOn_refl.keep hc⟩

theorem State.zeroed.set (h : s.zeroed x t) (hr : r ∈ zeroFields x.val := by simp) : s.zeroed x (t.set r v) :=
  h.write (l := [r]) t.regsBut_of_regs.set (by simpa using hr)

theorem State.zeroed.irq {p : Nat} (h : s.zeroed x t) (hr : H.IRQ_RAW p ∈ zeroFields x.val := by simp) :
    s.zeroed x (t.irq p b) := h.write (l := [H.IRQ_RAW p]) t.regsBut_of_regs.irq (by simpa using hr)

/-- A change of a channel beside its carrier. -/
theorem State.zeroed.setCh (h : s.zeroed x t) {f : ChSt → ChSt} (hf : ∀ c, (f c).carrier = c.carrier) :
    s.zeroed x (t.setCh y f) := h.trans ⟨t.regsBut_of_regs, t.agreesOn_refl.setCh hf⟩

theorem State.zeroed.setLeg (h : s.zeroed x t) {f : LegSt → LegSt} {z : Nat} : s.zeroed x (t.setLeg z y f) :=
  h.setCh fun _ => rfl

theorem State.zeroed.setCell (h : s.zeroed x t) {f : CellSt → CellSt} : s.zeroed x (t.setCell y f) :=
  h.setCh fun _ => rfl

theorem State.zeroed.setGuard (h : s.zeroed x t) {f : GuardSt → GuardSt} : s.zeroed x (t.setGuard x.val f) :=
  h.setCh fun _ => rfl

/-! ### The legs evaluated (R145, R151) -/

theorem State.zeroed_idealEdge (s : State) (x : Fin 8) (hy : y ∈ List.range 4) (t : Nat) (d : Bool) :
    s.zeroed x (s.idealEdge x.val y t d) := by
  have hdropped {u : State} (h : s.zeroed x u) : s.zeroed x (u.countDropped x.val y) :=
    (h.write (l := legFields x.val y) u.regsBut_of_regs.inc (leg_subset_zero _ hy)).irq
  have hstretched {u : State} (h : s.zeroed x u) : s.zeroed x (u.countStretched x.val y) :=
    (h.write (l := legFields x.val y) u.regsBut_of_regs.inc (leg_subset_zero _ hy)).irq
  unfold State.idealEdge
  extract_lets l w c kept minP tOff tOn short waited held c' w'
  have hkept : s.zeroed x kept := s.zeroed_refl.setLeg
  have hwaited : s.zeroed x waited := .ite (hdropped s.zeroed_refl) s.zeroed_refl
  have hheld : s.zeroed x held := .ite (hstretched hwaited) hwaited
  exact .ite s.zeroed_refl.setLeg (.ite (.ite (hdropped hkept.setLeg) hkept)
    (.ite s.zeroed_refl (.ite (hdropped s.zeroed_refl) hheld.setLeg)))

theorem State.zeroed_deliver (s : State) (x : Fin 8) (hy : y ∈ List.range 4) (t : Nat) (d cross : Bool) :
    s.zeroed x (s.deliver x.val y t d cross) := by
  unfold State.deliver
  exact .ite (s.zeroed_refl.setLeg.trans (State.zeroed_idealEdge _ x hy t d)) s.zeroed_refl.setLeg

theorem State.zeroed_evaluateLegs (s : State) (x : Fin 8) (tau : Nat) (upd enabling : Bool) (nat : List Bool)
    (restart : List Nat) : s.zeroed x (s.evaluateLegs x.val tau upd enabling nat restart) :=
  State.zeroed.foldl (fun t _ hy => .ite (t.zeroed_deliver x hy _ _ _) (.ite (t.zeroed_deliver x hy _ _ _)
    (.ite (t.zeroed_deliver x hy _ _ _) t.zeroed_refl))) s

theorem State.zeroed_showCompares (s : State) (x : Fin 8) : s.zeroed x (s.showCompares x.val) :=
  State.zeroed.foldl (fun t _ hy => t.zeroed_refl.write (l := legFields x.val _) t.regsBut_of_regs.set
    (leg_subset_zero _ hy) (State.chan_set ..)) s

/-! ### The enable takes effect (R159, R224) -/

theorem State.zeroed_windowLost (s : State) (x : Fin 8) (code : Nat) : s.zeroed x (s.windowLost x.val code) := by
  unfold State.windowLost
  exact (s.zeroed_refl.write (l := chanFields x.val) s.regsBut_of_regs.set.inc.irq (chan_subset_zero _)).setCell

theorem State.zeroed_reform (s : State) (x : Fin 8) : s.zeroed x (s.reform x.val) := by
  have hset {t : State} (h : s.zeroed x t) (v : Nat) : s.zeroed x (t.set (R.CELL_V_REF_MV x.val) v) :=
    h.write (l := chanFields x.val) t.regsBut_of_regs.set (chan_subset_zero _)
  unfold State.reform
  exact .ite s.zeroed_refl (.ite (hset s.zeroed_refl.setCell _) (hset s.zeroed_refl _))

theorem State.zeroed_validVoc (s : State) (x : Fin 8) (mv : Rat) : s.zeroed x (s.validVoc x.val mv) := by
  unfold State.validVoc
  extract_lets measured stamped told valid
  have hmeasured : s.zeroed x measured := s.zeroed_refl.set
  have hstamped : s.zeroed x stamped :=
    (hmeasured.write (l := chanFields x.val) measured.regsBut_of_regs.set (chan_subset_zero _) (State.chan_set ..)).set
  have htold : s.zeroed x told := hstamped.write (l := zeroFields x.val)
    (stamped.regsBut_of_regs.inc.irq (chan_subset_zero _ (by simp))) (List.Subset.refl _)
    ((State.chan_irq ..).trans (State.chan_inc ..))
  exact htold.setCell.trans (State.zeroed_reform _ x)

theorem State.zeroed_joinOpened (s : State) (x : Fin 8) : s.zeroed x (s.joinOpened x.val) := by
  have havg : s.zeroed x (s.joinAverage x.val).2 := by
    unfold State.joinAverage
    dsimp only
    split
    · exact s.zeroed_refl.write (l := []) s.regsBut_of_regs (by simp) rfl
    · exact s.zeroed_refl
  unfold State.joinOpened
  refine .ite ?_ s.zeroed_refl
  have hopened := havg.setCell (y := x.val) (f := fun c => { c with join := .epoch, epoch := none })
  refine .ite (.ite ?_ (hopened.trans (State.zeroed_validVoc _ x _))) hopened
  exact (hopened.trans (State.zeroed_windowLost _ x 3)).setCell.trans (State.zeroed_reform _ x)

theorem State.zeroed_holdSync (s : State) (x : Fin 8) : s.zeroed x (s.holdSync x.val) :=
  ⟨(s.spares_holdSync x.val).regs.mono (chan_subset_zero _), (s.steady_holdSync x.val).carrier⟩

theorem State.zeroed_joinCarrier (s : State) (x : Fin 8) : s.zeroed x (s.joinCarrier x.val) := by
  unfold State.joinCarrier
  have hheld := (s.zeroed_refl.setCell (y := x.val) (f := fun c => { c with cmd := true, join := .feedback })).trans
    (State.zeroed_holdSync _ x)
  exact .ite (.ite (hheld.trans (State.zeroed_joinOpened _ x)) hheld) s.zeroed_refl

theorem State.zeroed_sourceOff (s : State) (x : Fin 8) (n : Nat) : s.zeroed x (s.sourceOff x.val n) :=
  ⟨(s.regsBut_sourceOff x.val n).mono (src_subset_zero _), (s.upkept_sourceOff x n).steady.carrier⟩

theorem State.zeroed_enableEffect (s : State) (x : Fin 8) : s.zeroed x (s.enableEffect x.val) := by
  unfold State.enableEffect
  extract_lets running started low blanking blanked
  have hstarted : s.zeroed x started := State.zeroed.setCh
    (s.zeroed_refl.write (l := [R.PWM_STATUS_RUN x.val]) s.regsBut_of_regs.setB (by simp) (State.chan_setB ..))
    fun _ => rfl
  have hblanking : s.zeroed x blanking := (hstarted.setGuard (f := fun d => { d with blanking := true })).set
  have hblanked : s.zeroed x blanked := .ite hstarted (hblanking.trans (State.zeroed.foldl
    (fun t _ _ => .ite (t.zeroed_sourceOff x _) t.zeroed_refl) _))
  exact hblanked.trans (State.zeroed_joinCarrier _ x)

/-! ### A zero and a peak (R139, R150, R151) -/

/-- An update point's values taken in, and the legs that leave the both-off state. -/
def State.loaded (s : State) (x : Nat) (upd : Bool) : State × List Nat :=
  let c := if upd then s.pwmCommit x else (s, [])
  let i := if upd then c.1.pwmIndices x else (c.1, [])
  (i.1, c.2 ++ i.2)

theorem State.loaded_false (s : State) (x : Nat) : s.loaded x false = (s, []) := by
  simp [State.loaded]

theorem State.loaded_true (s : State) (x : Nat) : (s.loaded x true).1 = ((s.pwmCommit x).1.pwmIndices x).1 := by
  simp [State.loaded]

/-- What a change of the parts of an update point keeps, it keeps. -/
theorem keeps_loaded {I : State → Prop} (hI : Keeps [.recent, .sys, .pod, .chan, .regs, .staged] I) (s : State)
    (x : Nat) (upd : Bool) (h : I s) : I (s.loaded x upd).1 := by
  cases upd
  · rwa [State.loaded_false]
  · rw [State.loaded_true]
    exact keeps_pwmIndices (hI.mono (by decide)) _ x (keeps_pwmCommit hI s x h)

theorem State.carrier_loaded (s : State) (x : Nat) (upd : Bool) : s.agreesOn ChSt.carrier (s.loaded x upd).1 := by
  cases upd
  · rw [State.loaded_false]
    exact s.agreesOn_refl
  · rw [State.loaded_true]
    exact (s.carrier_pwmCommit x).trans (State.carrier_pwmIndices _ x)

theorem State.sameBut_loaded (s : State) (x : Nat) (upd : Bool) :
    s.sameBut [.recent, .sys, .pod, .chan, .regs, .staged] (s.loaded x upd).1 :=
  keeps_loaded (keeps_sameBut _ s) s x upd (State.sameBut_refl _ s)

/-- The carrier started anew with the values in force (R139, R140). -/
def State.zeroTurned (s : State) (x oldTop : Nat) : State :=
  let mode := s.get (R.PWM_CARRIER_MODE x)
  let ticks := s.get (R.PWM_PERIOD_TICKS x)
  let top := cTop mode ticks
  let e := s.carrierError x ticks
  let near := decide (|e| ≤ 1)
  let rose := near && !s.flag (R.PWM_STATUS_ALIGNED x)
  let s := (s.setB (R.PWM_STATUS_ALIGNED x) near).setB (R.PWM_STATUS_SLEWING x) (!near)
  let s := if rose then s.irq (pgPwm x) 17 else s
  s.setPwm x (fun p =>
    { p with started := true, zeroAt := s.now, falling := false, mode := mode, ticks := ticks,
             top := slewedTop mode ticks (s.slewStep x mode ticks e),
             legs := if top = oldTop then p.legs
               else p.legs.map (fun g => { g with kCmp := indexCompare g.kIdx top }) })

theorem State.ch_setPwm_same {f : PwmSt → PwmSt} {z : Nat} (h : z < s.chan.length) :
    (s.setPwm z f).ch z = { s.ch z with pwm := f (s.ch z).pwm } := State.ch_setCh_same h

theorem State.carrier_zeroTurned (hx : x.val < s.chan.length) (oldTop : Nat) :
    ((s.zeroTurned x.val oldTop).ch x.val).carrier = (true, s.now, false) := by
  unfold State.zeroTurned
  extract_lets mode ticks top e near rose shown told
  have hchan : told.chan = s.chan := by simp [told, shown, apply_ite State.chan]
  have hnow : told.now = s.now := by simp [told, shown, apply_ite State.now]
  rw [State.ch_setPwm_same (by rwa [hchan])]
  exact congrArg (fun n => (true, n, false)) hnow

theorem State.stamp_zeroTurned (s : State) (x oldTop p : Nat) : (s.zeroTurned x oldTop).stamp p = s.stamp p := by
  unfold State.zeroTurned
  extract_lets mode ticks top e near rose shown told
  have hnow : told.now = s.now := by simp [told, shown, apply_ite State.now]
  have hcanopy : told.canopyT = s.canopyT := by simp [told, shown, apply_ite State.canopyT]
  exact State.stamp_congr hnow hcanopy

/-- The zero stamped, after its clamp check (R139, R152). -/
def State.zeroStamped (s : State) (x : Nat) : State :=
  (s.clampCheck x).set (R.PWM_ZERO_T_NS x) (s.stamp (pgPwm x))

theorem State.carrier_zeroStamped (s : State) (x : Nat) : s.agreesOn ChSt.carrier (s.zeroStamped x) :=
  (s.carrier_clampCheck x).keep (State.chan_set ..)

theorem State.get_zeroStamped (s : State) (x : Nat) :
    (s.zeroStamped x).get (R.PWM_ZERO_T_NS x) = s.stamp (pgPwm x) % 2 ^ 64 :=
  State.get_set_same _ _ (by simp [R.PWM_ZERO_T_NS])

/-- A zero by its parts: the values taken in, the carrier turned, the stamp, and what follows. -/
theorem State.carrierZero_parts (s : State) (x : Nat) : ∃ (upd enabling : Bool) (oldTop : Nat) (nat : List Bool),
    s.carrierZero x = (((if enabling then (((s.loaded x upd).1.zeroTurned x oldTop).zeroStamped x).enableEffect x
      else ((s.loaded x upd).1.zeroTurned x oldTop).zeroStamped x).evaluateLegs x 0 upd enabling nat
        (s.loaded x upd).2).showCompares x) := by
  unfold State.carrierZero
  extract_lets p oldTop upd nat
  have hload (c i : State × List Nat) (hc : (if upd = true then s.pwmCommit x else (s, [])) = c)
      (hi : (if upd = true then c.1.pwmIndices x else (c.1, [])) = i) : s.loaded x upd = (i.1, c.2 ++ i.2) := by
    unfold State.loaded
    dsimp only
    rw [hc, hi]
  generalize hc : (if upd = true then s.pwmCommit x else (s, [])) = c at hload
  obtain ⟨committed, leaving⟩ := c
  dsimp -zeta only
  generalize hi : (if upd = true then committed.pwmIndices x else (committed, [])) = i at hload
  obtain ⟨indexed, restarted⟩ := i
  extract_lets mode ticks top e near rose shown told turned stamped enabling started
  refine ⟨upd, enabling, oldTop, nat, ?_⟩
  rw [hload _ _ rfl hi]
  rfl

/-- A zero starts the carrier anew at its instant and stamps it (R139). -/
theorem State.shown_carrierZero (hs : s.shape) (x : Fin 8) :
    ((s.carrierZero x.val).ch x.val).carrier = (true, s.now, false)
    ∧ (s.carrierZero x.val).get (R.PWM_ZERO_T_NS x.val) = s.stamp (pgPwm x.val) % 2 ^ 64 := by
  obtain ⟨upd, enabling, oldTop, nat, hparts⟩ := s.carrierZero_parts x.val
  obtain ⟨hlength, -⟩ := keeps_loaded (keeps_shape _) s x.val upd hs
  have hsame := s.sameBut_loaded x.val upd
  have hturned := State.carrier_zeroTurned (s := (s.loaded x.val upd).1) (x := x) (by omega) oldTop
  have hstamp := (State.stamp_zeroTurned (s.loaded x.val upd).1 x.val oldTop (pgPwm x.val)).trans
    (State.stamp_of_sameBut hsame (by decide) (by decide) (by decide) _)
  rw [State.now_of_sameBut hsame] at hturned
  generalize (s.loaded x.val upd).1.zeroTurned x.val oldTop = turned at hparts hturned hstamp
  have hrest : (turned.zeroStamped x.val).zeroed x (s.carrierZero x.val) := by
    rw [hparts]
    exact ((State.zeroed.ite (State.zeroed_enableEffect _ x) (State.zeroed_refl _)).trans
      (State.zeroed_evaluateLegs _ x _ _ _ _ _)).trans (State.zeroed_showCompares _ x)
  constructor
  · exact (hrest.carrier x.val).trans ((turned.carrier_zeroStamped x.val x.val).trans hturned)
  · rw [hrest.regs _ (zeroTime_notMem x), State.get_zeroStamped, hstamp]

theorem exec_carrierZero (hr : s.cellRuns x.val = true)
    (hdue : if (s.ch x.val).pwm.started then (s.ch x.val).pwm.zeroAt
        + fine * periodSteps (s.ch x.val).pwm.mode (s.ch x.val).pwm.top ≤ s.now + dt
      else (s.elapse dt).firstZero x.val = true) :
    exec (.carrierZero dt x) s = .next ((s.elapse dt).carrierZero x.val) := if_pos ⟨hr, hdue⟩

/-- A peak by its parts: the carrier falls, the values are taken in, and what follows. -/
theorem exec_carrierPeak (hr : s.cellRuns x.val = true) (hs : (s.ch x.val).pwm.started = true)
    (hm : (s.ch x.val).pwm.mode ≠ 0) (hf : (s.ch x.val).pwm.falling = false)
    (ht : (s.ch x.val).pwm.zeroAt + fine * (s.ch x.val).pwm.top ≤ s.now + dt) :
    ∃ (upd : Bool) (tau : Nat) (nat : List Bool) (restart : List Nat), exec (.carrierPeak dt x) s = .next
      ((((((s.elapse dt).setPwm x.val (fun p => { p with falling := true })).loaded x.val upd).1.clampCheck
        x.val).evaluateLegs x.val tau upd false nat restart).showCompares x.val) := by
  change ∃ (upd : Bool) (tau : Nat) (nat : List Bool) (restart : List Nat), execCarrierPeak dt x s = _
  unfold execCarrierPeak
  extract_lets now p upd nat
  exact ⟨upd, p.top, nat, _, if_pos ⟨hr, hs, hm, hf, ht⟩⟩

/-- What follows a peak leaves the carrier. -/
theorem State.carrier_peaked (s : State) (x : Fin 8) (upd : Bool) (tau : Nat) (nat : List Bool) (restart : List Nat) :
    s.agreesOn ChSt.carrier ((((s.loaded x.val upd).1.clampCheck x.val).evaluateLegs x.val tau upd false nat
      restart).showCompares x.val) := by
  have hclamped := (s.carrier_loaded x.val upd).trans (State.carrier_clampCheck _ x.val)
  have hrest := (State.zeroed_evaluateLegs ((s.loaded x.val upd).1.clampCheck x.val) x tau upd false nat restart).trans
    (State.zeroed_showCompares _ x)
  exact hclamped.trans hrest.carrier

/-! ### Both switches demanded (R149) -/

theorem State.gd_of_both {z : Nat} {high : Bool} (h : (s.leg z y).both = true) : s.gd z y high = false := by
  have hdemand : s.demand z y (!high) = true := by simp [State.demand, h]
  simp [State.gd, hdemand]

/-- The outputs of a channel that does not run are low (R158). -/
theorem State.gd_of_not_run {z : Nat} {high : Bool} (h : s.flag (R.PWM_STATUS_RUN z) = false) :
    s.gd z y high = false := by
  rw [← Bool.not_eq_true, State.gd_iff]
  rintro ⟨hd, ho, -, -⟩
  rw [(State.demand_alone hd ho).1] at h
  cases h

/-- A leg that is not there demands nothing. -/
theorem State.gd_of_reset {z : Nat} {high : Bool} (h : s.leg z y = {}) : s.gd z y high = false := by
  have hdemand : s.demand z y high = false := by
    unfold State.demand
    rw [h]
    cases high <;> simp
  simp [State.gd, hdemand]

theorem State.channels_sourceOn (s : State) (x n : Nat) : (s.sourceOn x n).chan.length = s.chan.length := by
  have hput : (s.putSource x n true).chan = s.chan := by
    rw [State.putSource_eq]
    exact State.chan_set ..
  unfold State.sourceOn
  split
  · rfl
  · have hlength := congrArg List.length (State.spares_groupsSync (s.putSource x n true) x).senses
    rw [State.senses, State.senses, List.length_map, List.length_map] at hlength
    rw [hlength, hput]

/-- A leg both of whose switches a fault upstream demands. -/
def State.shot (s : State) (x y : Nat) : State :=
  ((s.setMaskBit (R.PWM_STATUS_SHOOT x) y).irq (pgPwm x) (1 + y)).setLeg x y (fun l => { l with both := true })

theorem exec_shootThrough {y : Fin 4} (hr : s.cellRuns x.val = true) : exec (.shootThrough dt x y) s
    = .next (((s.elapse dt).shot x.val y.val).sourceOn x.val (28 + y.val)) := if_pos hr

theorem State.hasLeg_of_setLeg {f : LegSt → LegSt} {z : Nat} (h : (s.setLeg z y f).hasLeg z y) : s.hasLeg z y := by
  obtain ⟨hz, hy⟩ := h
  have hlegs : s.agreesOn (fun c => c.pwm.legs.length) (s.setLeg z y f) :=
    s.agreesOn_refl.setCh fun _ => List.length_modify ..
  exact ⟨hz.trans_eq (List.length_modify ..), hy.trans_eq (hlegs z)⟩

theorem State.both_shot (h : (s.shot x.val y).hasLeg x.val y) : ((s.shot x.val y).leg x.val y).both = true :=
  congrArg LegSt.both (State.leg_setLeg_same (State.hasLeg_of_setLeg h))

/-- Whatever the fault does to the channel, both outputs of the leg are low. -/
theorem State.gd_shot (s : State) (x : Fin 8) (y n : Nat) (high : Bool) :
    ((s.shot x.val y).sourceOn x.val n).gd x.val y high = false := by
  by_cases hreset : ((s.shot x.val y).sourceOn x.val n).leg x.val y = {}
  · exact State.gd_of_reset hreset
  · obtain ⟨hx, hy⟩ := State.hasLeg_of_ne hreset
    have hlegs : (s.shot x.val y).agreesOn (fun c => c.pwm.legs.map LegSt.both) ((s.shot x.val y).sourceOn x.val n) :=
      fun z => congrArg (fun c => c.2.1) ((State.upkept_sourceOn (s.shot x.val y) x n).steady z)
    have hlength := congrArg List.length (hlegs x.val)
    rw [List.length_map, List.length_map] at hlength
    have hboth := State.leg_of_agreesOn (x := x.val) (y := y) hlegs
    exact State.gd_of_both (hboth.trans (State.both_shot
      ⟨hx.trans_eq (State.channels_sourceOn ..), hy.trans_eq hlength⟩))

theorem State.shown_shot (s : State) (x : Fin 8) (hy : y < 4) :
    ((s.shot x.val y).get (R.PWM_STATUS_SHOOT x.val)).testBit y = true
    ∧ (s.shot x.val y).latched (pgPwm x.val) (1 + y) := by
  have hkey : (R.PWM_STATUS_SHOOT x.val).key ≠ (H.IRQ_RAW (pgPwm x.val)).key := by
    simp only [Reg.key, R.PWM_STATUS_SHOOT, H.IRQ_RAW, pgPwm]
    omega
  refine ⟨?_, State.event_irq _ (by omega)⟩
  change ((State.irq _ _ _).get _).testBit y = true
  rw [State.get_irq_other hkey, State.testBit_setMaskBit_same _ (by simp [R.PWM_STATUS_SHOOT]) hy]

/-- Both switches of a leg demanded: the mark, the source, the event, and both outputs low (R149). -/
theorem State.shown_shootThrough (s : State) (x : Fin 8) (hy : y < 4) :
    (((s.shot x.val y).sourceOn x.val (28 + y)).get (R.PWM_STATUS_SHOOT x.val)).testBit y = true
    ∧ ((s.shot x.val y).sourceOn x.val (28 + y)).source x.val (28 + y) = true
    ∧ ((s.shot x.val y).sourceOn x.val (28 + y)).latched (pgPwm x.val) (1 + y) := by
  obtain ⟨hmark, hevent⟩ := s.shown_shot x hy
  have hnot : (R.PWM_STATUS_SHOOT x.val).key ∉ (srcFields x.val).map Reg.key := by
    have hb : (R.PWM_STATUS_SHOOT x.val).beside x.val := by simp [Reg.beside, R.PWM_STATUS_SHOOT]
    refine hb.notMem_src ?_ ?_ <;>
      simp only [Reg.key, R.PWM_STATUS_SHOOT, R.PWM_FSRC_LO_ACTIVE, R.PWM_FSRC_HI_ACTIVE] <;> omega
  refine ⟨?_, State.active_of_sourceOn _ x (by omega), (State.upkept_sourceOn _ x _).events _ (by omega) hevent⟩
  exact (congrArg (Nat.testBit · y) (State.regsBut_sourceOn _ x.val _ _ hnot)).trans hmark

/-! ### Disable and enable (R158 to R160) -/

/-- What the guard's status brought up to date touches. -/
theorem State.regsBut_guardSync_own (s : State) (x : Nat) : s.regsBut [R.GUARD_STATUS_MAP_OK x,
    R.GUARD_STATUS_ANY_LATCHED x, R.GUARD_STATUS_HUSK x, H.IRQ_RAW (pgGuard x)] (s.guardSync x) := by
  unfold State.guardSync
  exact s.regsBut_of_regs.setB.setB.setB.irq.ite s.regsBut_of_regs.setB.setB.setB

/-- A field of the PWM page is none of them. -/
theorem State.get_guardSync_pwm (hp : r.page = pgPwm x.val) (ho : r.ofs < 4096) (hl : r.lo < 32) :
    (s.guardSync x.val).get r = s.get r := by
  refine s.regsBut_guardSync_own x.val r ?_
  simp only [List.map_cons, List.map_nil, List.mem_cons, List.not_mem_nil, or_false, Reg.key, hp, pgPwm, pgGuard,
    R.GUARD_STATUS_MAP_OK, R.GUARD_STATUS_ANY_LATCHED, R.GUARD_STATUS_HUSK, H.IRQ_RAW]
  omega

theorem runEn_ne (x : Nat) : (R.PWM_CTRL_EN x).key ≠ (R.PWM_STATUS_RUN x).key := by
  simp only [Reg.key, R.PWM_CTRL_EN, R.PWM_STATUS_RUN]
  omega

/-- A stopped PWM is neither enabled nor running (R158). -/
theorem State.shown_pwmStop (s : State) (x : Fin 8) : (s.pwmStop x.val).flag (R.PWM_CTRL_EN x.val) = false
    ∧ (s.pwmStop x.val).flag (R.PWM_STATUS_RUN x.val) = false := by
  unfold State.pwmStop
  rw [State.flag_eq, State.flag_eq, State.get_guardSync_pwm rfl (by simp [R.PWM_CTRL_EN]) (by simp [R.PWM_CTRL_EN]),
    State.get_guardSync_pwm rfl (by simp [R.PWM_STATUS_RUN]) (by simp [R.PWM_STATUS_RUN])]
  change decide (State.get (State.setB _ _ _) _ ≠ 0) = false ∧ decide (State.get (State.setB _ _ _) _ ≠ 0) = false
  rw [← State.flag_eq, ← State.flag_eq, State.flag_setB_other (runEn_ne x.val)]
  exact ⟨State.flag_setB_same (by simp [R.PWM_CTRL_EN]) (by simp [R.PWM_CTRL_EN]),
    State.flag_setB_same (by simp [R.PWM_STATUS_RUN]) (by simp [R.PWM_STATUS_RUN])⟩

/-- `EN` set and waiting for its zero (R159). -/
def State.enSet (s : State) (x : Nat) : State :=
  (s.setB (R.PWM_CTRL_EN x) true).setPwm x (fun p => { p with enAt := some s.now })

/-- The same with the Kernel's legs waiting for their first value, before the guard's status follows it (R153). -/
def State.enableAsked (s : State) (x : Nat) : State :=
  (List.range 4).foldl
    (fun t y =>
      if t.legKernel x y then
        (t.setB (R.PWM_ACMP_KWAIT x y) true).setLeg x y (fun g => { g with waitAt := t.now })
      else t) (s.enSet x)

theorem State.pwmEnable_of_refused (h : s.flag (R.PWM_STATUS_CH_FAULT x.val) = true ∨ s.mayLeaveHusk x.val = false) :
    s.pwmEnable x.val = s.err (pgPwm x.val) := by
  have hnot : s.flag (R.PWM_STATUS_CH_FAULT x.val) = true ∨ ¬ s.mayLeaveHusk x.val = true := by simpa using h
  exact if_pos hnot

theorem State.pwmEnable_of_taken (hf : s.flag (R.PWM_STATUS_CH_FAULT x.val) = false)
    (hm : s.mayLeaveHusk x.val = true) : s.pwmEnable x.val =
      if s.flag (R.PWM_CTRL_EN x.val) then s else (s.enableAsked x.val).guardSync x.val := by
  have hnot : ¬ (s.flag (R.PWM_STATUS_CH_FAULT x.val) = true ∨ ¬ s.mayLeaveHusk x.val = true) := by simp [hf, hm]
  exact if_neg hnot

theorem State.regsBut_enableAsked (s : State) (x : Nat) : (s.setB (R.PWM_CTRL_EN x) true).regsBut
    ((List.range 4).map (R.PWM_ACMP_KWAIT x)) (s.enableAsked x) := by
  unfold State.enableAsked
  refine State.regsBut.trans ?_ (State.regsBut.foldl (fun t y hy => ?_) _)
  · exact State.regsBut_of_regs _
  · have hset : t.regsBut ((List.range 4).map (R.PWM_ACMP_KWAIT x)) (t.setB (R.PWM_ACMP_KWAIT x y) true) :=
      State.regsBut.setB t.regsBut_of_regs (List.mem_map_of_mem hy)
    exact .ite hset.keep t.regsBut_of_regs

theorem State.enAt_enableAsked (hx : x.val < s.chan.length) :
    ((s.enableAsked x.val).ch x.val).pwm.enAt = some s.now := by
  have hasked : ((s.enSet x.val).ch x.val).pwm.enAt = some s.now := by
    unfold State.enSet
    rw [State.ch_setPwm_same (by simpa using hx)]
  unfold State.enableAsked
  refine Eq.trans (State.agreesOn.foldl (φ := fun c => c.pwm.enAt) (fun t y _ => ?_) (s.enSet x.val) x.val) hasked
  have hset : t.agreesOn (fun c => c.pwm.enAt) (t.setB (R.PWM_ACMP_KWAIT x.val y) true) :=
    t.agreesOn_refl.keep (State.chan_setB ..)
  exact .ite (hset.setCh fun _ => rfl) t.agreesOn_refl

/-- An enable taken: `EN` is 1 and waits for its zero, and the outputs do not follow the PWM yet (R159). -/
theorem State.shown_pwmEnable (hs : s.shape) (hf : s.flag (R.PWM_STATUS_CH_FAULT x.val) = false)
    (hm : s.mayLeaveHusk x.val = true) (hen : s.flag (R.PWM_CTRL_EN x.val) = false) :
    (s.pwmEnable x.val).flag (R.PWM_CTRL_EN x.val) = true
    ∧ ((s.pwmEnable x.val).ch x.val).pwm.enAt = some s.now
    ∧ (s.pwmEnable x.val).get (R.PWM_STATUS_RUN x.val) = s.get (R.PWM_STATUS_RUN x.val) := by
  obtain ⟨hlength, -⟩ := hs
  have hwaits : ∀ x : Fin 8, ∀ r ∈ [R.PWM_CTRL_EN x.val, R.PWM_STATUS_RUN x.val],
      r.key ∉ ((List.range 4).map (R.PWM_ACMP_KWAIT x.val)).map Reg.key := by decide
  have hasked := s.regsBut_enableAsked x.val
  rw [State.pwmEnable_of_taken hf hm, if_neg (by simp [hen])]
  refine ⟨?_, ?_, ?_⟩
  · rw [State.flag_eq, State.get_guardSync_pwm rfl (by simp [R.PWM_CTRL_EN]) (by simp [R.PWM_CTRL_EN]),
      hasked _ (hwaits x _ (by simp)), ← State.flag_eq]
    exact State.flag_setB_same (by simp [R.PWM_CTRL_EN]) (by simp [R.PWM_CTRL_EN])
  · rw [State.ch_of_chan (State.chan_guardSync ..)]
    exact State.enAt_enableAsked (by omega)
  · rw [State.get_guardSync_pwm rfl (by simp [R.PWM_STATUS_RUN]) (by simp [R.PWM_STATUS_RUN]),
      hasked _ (hwaits x _ (by simp)), State.get_setB_other (runEn_ne x.val).symm]

end Sys2Proof.Machine

open Sys2Proof.Machine

/-- Settles O40: a zero turns the carrier before its stamp, and what follows the stamp touches neither (`zeroed`); a
peak turns it to falling and an update point leaves it (`carrier_loaded`); the demands of both switches of a leg
survive every effect of their source (`upkept`), and each of them holds the other off (`gd_shot`). -/
theorem pwmCarrierCommands : Obligations.PwmCarrierCommands := by
  unfold Obligations.PwmCarrierCommands
  refine ⟨?zero, ?firstZero, ?peak, ?shoot, ?disable, ?enable, ?again, ?refused⟩
  case zero =>
    intro s dt x hr hs hstarted ht
    obtain ⟨hcarrier, htime⟩ := State.shown_carrierZero (s := s.elapse dt) hs x
    simp only [ChSt.carrier, Prod.mk.injEq] at hcarrier
    obtain ⟨hon, hat, hfalling⟩ := hcarrier
    exact ⟨_, exec_carrierZero hr ((if_pos hstarted).mpr ht), hon, hat, hfalling, htime⟩
  case firstZero =>
    intro s dt x hr hs hstarted hfirst
    obtain ⟨hcarrier, htime⟩ := State.shown_carrierZero (s := s.elapse dt) hs x
    simp only [ChSt.carrier, Prod.mk.injEq] at hcarrier
    obtain ⟨hon, hat, hfalling⟩ := hcarrier
    have hstopped : ¬ (s.ch x.val).pwm.started = true := by simp [hstarted]
    exact ⟨_, exec_carrierZero hr ((if_neg hstopped).mpr hfirst), hon, hat, hfalling, htime⟩
  case peak =>
    intro s dt x hr hstarted hm hf ht
    obtain ⟨upd, tau, nat, restart, hexec⟩ := exec_carrierPeak hr hstarted hm hf ht
    have hcarrier := (State.carrier_peaked _ x upd tau nat restart x.val).trans
      (congrArg ChSt.carrier (State.ch_setPwm_same (s := s.elapse dt) (State.lt_of_started hstarted)
        (f := fun p => { p with falling := true })))
    simp only [ChSt.carrier, Prod.mk.injEq] at hcarrier
    obtain ⟨-, hat, hfalling⟩ := hcarrier
    exact ⟨_, hexec, hfalling, hat⟩
  case shoot =>
    intro s dt x y hr
    obtain ⟨hmark, hsource, hevent⟩ := (s.elapse dt).shown_shootThrough x y.isLt
    exact ⟨_, exec_shootThrough hr, hmark, hsource, hevent, State.gd_shot .., State.gd_shot ..⟩
  case disable =>
    intro s dt x ho
    obtain ⟨hen, hrun⟩ := (s.elapse dt).shown_pwmStop x
    exact ⟨_, congrArg Host.Outcome.next (State.hostAct_elapse ho), hen, hrun, fun _ _ => State.gd_of_not_run hrun⟩
  case enable =>
    intro s dt x ho hs hf hm hen
    exact ⟨_, congrArg Host.Outcome.next (State.hostAct_elapse ho),
      State.shown_pwmEnable (s := s.elapse dt) hs hf hm hen⟩
  case again =>
    intro s dt x ho hf hm hen
    have htaken := (State.pwmEnable_of_taken (s := s.elapse dt) hf hm).trans (if_pos hen)
    exact ⟨_, congrArg Host.Outcome.next ((State.hostAct_elapse ho).trans htaken), rfl, rfl⟩
  case refused =>
    intro s dt x ho h
    have herr := State.pwmEnable_of_refused (s := s.elapse dt) h
    obtain ⟨hcount, hregs, -⟩ := s.shown_err_elapse dt (pgPwm x.val)
    refine ⟨_, congrArg Host.Outcome.next ((State.hostAct_elapse ho).trans herr), hregs _ ?_, hcount, State.chan_err ..⟩
    simp only [List.map_cons, List.map_nil, List.mem_cons, List.not_mem_nil, or_false, Reg.key, R.PWM_CTRL_EN,
      H.ERR_COUNT, H.IRQ_RAW, pgPwm]
    omega

end

section
/-! The legs that `LEG_USE` leaves out (O56): their outputs are held off, and what their sources are mapped to is no
part of the map's completeness (R175, R177). -/

namespace Sys2Proof.Machine

variable {s t : State} {l : List Reg} {x n m y z need v w : Nat}

/-- Source `n` is mapped to a group that holds off the outputs `need` (R175). -/
def State.covers (s : State) (x n need : Nat) : Bool :=
  match s.mapped x n with
  | none => false
  | some g =>
    let act := s.get (R.PWM_GRP_ACTION x g)
    act == gaCellOff || act == gaChannelFault
      || (act != gaReport && (s.get (R.PWM_GRP_OUT x g) &&& need) == need)

/-- The three sources of leg `y` are covered (R175). -/
def State.legCovered (s : State) (x y : Nat) : Bool :=
  s.covers x (12 + 2 * y) (4 ^ y) && s.covers x (13 + 2 * y) (2 * 4 ^ y) && s.covers x (20 + y) (3 * 4 ^ y)

theorem State.mapComplete_eq (s : State) (x : Nat) : s.mapComplete x =
    (List.range 4).all (fun y => !(s.get (R.GUARD_LEG_USE_USE x)).testBit y || s.legCovered x y) := rfl

/-- The map is complete in `t` as in `s` when the legs used are the same and each of them is covered alike. -/
theorem State.mapComplete_congr (hu : t.get (R.GUARD_LEG_USE_USE x) = s.get (R.GUARD_LEG_USE_USE x))
    (h : ∀ y < 4, (s.get (R.GUARD_LEG_USE_USE x)).testBit y = true → t.legCovered x y = s.legCovered x y) :
    t.mapComplete x = s.mapComplete x := by
  rw [State.mapComplete_eq, State.mapComplete_eq, hu, Bool.eq_iff_iff, List.all_eq_true, List.all_eq_true]
  refine forall₂_congr fun y hy => ?_
  cases hused : (s.get (R.GUARD_LEG_USE_USE x)).testBit y with
  | false => rfl
  | true => rw [h y (List.mem_range.1 hy) hused]

/-! ### One source of the map written -/

/-- Source `n` mapped anew: its enable and its group. -/
abbrev State.remap (s : State) (x n v w : Nat) : State :=
  (s.set (R.PWM_FMAP_EN x (n / 4) (n % 4)) v).set (R.PWM_FMAP_GROUP x (n / 4) (n % 4)) w

/-- The fields of source `n` in the map. -/
abbrev remapFields (x n : Nat) : List Reg := [R.PWM_FMAP_EN x (n / 4) (n % 4), R.PWM_FMAP_GROUP x (n / 4) (n % 4)]

theorem State.regsBut_remap (s : State) (x n v w : Nat) : s.regsBut (remapFields x n) (s.remap x n v w) :=
  s.regsBut_of_regs.set.set

/-- Another source keeps its group. -/
theorem State.mapped_remap_other (h : m ≠ n) : (s.remap x n v w).mapped x m = s.mapped x m := by
  refine State.mapped_congr (s.regsBut_remap x n v w) ?_ ?_ <;>
    simp only [remapFields, List.map_cons, List.map_nil, List.mem_cons, List.not_mem_nil, or_false, Reg.key,
      R.PWM_FMAP_EN, R.PWM_FMAP_GROUP] <;>
    omega

theorem State.covers_remap_other (h : m ≠ n) (hn : n < 36) :
    (s.remap x n v w).covers x m need = s.covers x m need := by
  have hgroup (g : Nat) : (s.remap x n v w).get (R.PWM_GRP_ACTION x g) = s.get (R.PWM_GRP_ACTION x g)
      ∧ (s.remap x n v w).get (R.PWM_GRP_OUT x g) = s.get (R.PWM_GRP_OUT x g) := by
    constructor <;> refine s.regsBut_remap x n v w _ ?_ <;>
      simp only [remapFields, List.map_cons, List.map_nil, List.mem_cons, List.not_mem_nil, or_false, Reg.key,
        R.PWM_FMAP_EN, R.PWM_FMAP_GROUP, R.PWM_GRP_ACTION, R.PWM_GRP_OUT] <;>
      omega
  unfold State.covers
  rw [State.mapped_remap_other h]
  cases s.mapped x m with
  | none => rfl
  | some g =>
    obtain ⟨haction, hout⟩ := hgroup g
    simp only [haction, hout]

/-- No other leg has a source of leg `y`. -/
theorem State.legCovered_remap_other (hn : n ∈ [12 + 2 * y, 13 + 2 * y, 20 + y]) (hy : y < 4) (hz : z < 4)
    (h : z ≠ y) : (s.remap x n v w).legCovered x z = s.legCovered x z := by
  simp only [List.mem_cons, List.not_mem_nil, or_false] at hn
  unfold State.legCovered
  rw [State.covers_remap_other (by omega) (by omega), State.covers_remap_other (by omega) (by omega),
    State.covers_remap_other (by omega) (by omega)]

/-- Where the sources of an unused leg are mapped to is no part of the map's completeness (R177). -/
theorem State.mapComplete_remap_unused (hu : (s.get (R.GUARD_LEG_USE_USE x)).testBit y = false) (hy : y < 4)
    (hn : n ∈ [12 + 2 * y, 13 + 2 * y, 20 + y]) : (s.remap x n v w).mapComplete x = s.mapComplete x := by
  refine State.mapComplete_congr (s.regsBut_remap x n v w _ ?_) fun z hz hused => ?_
  · simp only [List.mem_cons, List.not_mem_nil, or_false] at hn
    simp only [remapFields, List.map_cons, List.map_nil, List.mem_cons, List.not_mem_nil, or_false, Reg.key,
      R.PWM_FMAP_EN, R.PWM_FMAP_GROUP, R.GUARD_LEG_USE_USE]
    omega
  · exact State.legCovered_remap_other hn hy hz fun heq => by simp [heq, hu] at hused

/-- Both outputs of an unused leg are low (R177). -/
theorem State.gd_of_unused {high : Bool} (hu : (s.get (R.GUARD_LEG_USE_USE x)).testBit y = false) (hy : y < 4) :
    s.gd x y high = false :=
  State.gd_of_heldOff (State.testBit_heldOff_of_unused hy (by split <;> decide) hu)

end Sys2Proof.Machine

open Sys2Proof.Machine

/-- Settles O56: an unused leg's outputs are bits of `heldOff`, and `mapComplete` asks only for the sources of legs in
use, none of which is one of this leg's. -/
theorem unusedLegsStayOff : Obligations.UnusedLegsStayOff := fun _ _ y hu =>
  ⟨fun _ => State.gd_of_unused hu y.isLt, fun _ _ _ hn => State.mapComplete_remap_unused hu y.isLt hn⟩

end

section
/-! Rules of a fault group's upkeep and of a stopped channel (O39): what the escalation and the closed window leave, a
group changed, and `EN` and `CH_FAULT` after a channel fault (R158, R160, R172). -/

-- One proof after another: many at once take a thread each (see Laws/KeepsChannel).
set_option Elab.async false

namespace Sys2Proof.Machine

variable {s t : State} {l : List Reg} {x g : Nat}

/-! ### A group changed -/

/-- The channel and the group exist. -/
abbrev State.hasGroup (s : State) (x g : Nat) : Prop := x < s.chan.length ∧ g < (s.ch x).guard.groups.length

theorem State.group_setGroup_same {f : GroupSt → GroupSt} (h : s.hasGroup x g) :
    (s.setGroup x g f).group x g = f (s.group x g) := by
  obtain ⟨hx, hg⟩ := h
  unfold State.group State.setGroup State.setGuard
  rw [State.ch_setCh_same hx]
  simp [List.getD_eq_getElem?_getD, hg]

/-- A group that is not as its reset left it exists. -/
theorem State.hasGroup_of_ne (hg : g < 16) (h : s.group x g ≠ {}) : s.hasGroup x g := by
  constructor
  · by_contra hx
    refine h ?_
    unfold State.group
    rw [State.ch_of_le (Nat.le_of_not_lt hx)]
    exact List.getD_replicate _ hg
  · by_contra hy
    exact h (List.getD_eq_default _ _ (Nat.le_of_not_lt hy))

theorem State.group_of_chan (e : t.chan = s.chan) : t.group x g = s.group x g := by
  unfold State.group
  rw [State.ch_of_chan e]

/-- What leaves the channels alone leaves the groups that exist. -/
theorem State.hasGroup.of_chan (h : s.hasGroup x g) (e : t.chan = s.chan) : t.hasGroup x g := by
  obtain ⟨hx, hg⟩ := h
  exact ⟨by rwa [e], by rwa [State.ch_of_chan e]⟩

theorem State.regsBut.setGroup (h : s.regsBut l t) {f : GroupSt → GroupSt} : s.regsBut l (t.setGroup x g f) := h.keep

/-! ### Escalation and the retry window (R172) -/

/-- What the escalation of groups touches. -/
abbrev escalateFields (x : Nat) : List Reg :=
  [H.IRQ_RAW (pgGuard x), R.GLOG_CNT_LOST, R.GLOG_STATUS_LOST_SEEN]
    ++ (List.range 16).map (R.GUARD_GSTAT_ESCALATED x)

theorem State.regsBut_escalateAll (s : State) (x : Nat) : s.regsBut (escalateFields x) (s.escalateAll x) := by
  refine State.regsBut.foldl (fun t g hg => ?_) s
  have hmark : t.regsBut (escalateFields x) (t.setB (R.GUARD_GSTAT_ESCALATED x g) true) :=
    t.regsBut_of_regs.setB (List.mem_append_right _ (List.mem_map_of_mem hg))
  unfold State.escalate
  exact .ite (.ite hmark.irqLog t.regsBut_of_regs) t.regsBut_of_regs

theorem State.chan_escalateAll (s : State) (x : Nat) : (s.escalateAll x).chan = s.chan :=
  State.chan_of_sameBut
    (keeps_escalateAll (keeps_sameBut [.recent, .log, .pod, .regs] s) s x (State.sameBut_refl _ s))

/-- What a window that closes touches. -/
abbrev windowFields (x g : Nat) : List Reg := [R.GUARD_GSTAT_COUNT x g, R.GUARD_GSTAT_ESCALATED x g]

theorem State.regsBut_closeWindow (s : State) (x g : Nat) : s.regsBut (windowFields x g) (s.closeWindow x g) :=
  .ite s.regsBut_of_regs.set.setB s.regsBut_of_regs

theorem State.chan_closeWindow (s : State) (x g : Nat) : (s.closeWindow x g).chan = s.chan :=
  State.chan_of_sameBut (keeps_closeWindow (keeps_sameBut [.recent, .regs] s) s x g (State.sameBut_refl _ s))

theorem count_ne_escalated (x g y : Nat) : (R.GUARD_GSTAT_COUNT x g).key ≠ (R.GUARD_GSTAT_ESCALATED x y).key := by
  simp only [Reg.key, R.GUARD_GSTAT_COUNT, R.GUARD_GSTAT_ESCALATED]
  omega

/-- A window that has run out leaves no count (R172). -/
theorem State.count_closeWindow (h : (s.group x g).winOpen + ms (s.get (R.GUARD_GWIN_WINDOW x g)) ≤ s.now) :
    (s.closeWindow x g).get (R.GUARD_GSTAT_COUNT x g) = 0 := by
  unfold State.closeWindow
  split
  next =>
    rw [State.get_setB_other (count_ne_escalated x g g)]
    exact State.get_set_fits (by simp) (by simp [R.GUARD_GSTAT_COUNT])
  next hopen =>
    by_contra hcount
    exact hopen ⟨hcount, Nat.div_le_div_right h⟩

/-- A group's state beside `ESCALATED`, and the active groups, are no concern of the escalation. -/
theorem notMem_escalate (x : Fin 8) (g : Fin 16) : ∀ q ∈ [R.GUARD_GSTAT_COUNT x.val g.val,
    R.GUARD_GSTAT_LATCHED x.val g.val, R.GUARD_GSTAT_WAITING x.val g.val, R.PWM_GRP_ACT_ACTIVE x.val],
    q.key ∉ (escalateFields x.val).map Reg.key := by
  revert x g
  decide +kernel

/-! ### A channel is stopped (R158, R160) -/

/-- What the entry into Husk touches once the PWM has stopped: fields of the cell power block, the guard's status and
the bypass hold. -/
abbrev huskFields (x : Nat) : List Reg :=
  [R.GUARD_STATUS_MAP_OK x, R.GUARD_STATUS_ANY_LATCHED x, R.GUARD_STATUS_HUSK x, H.IRQ_RAW (pgGuard x),
    R.GUARD_BYP_STAT_HOLD_ON x, R.CELL_V_REF_MV x, R.CELL_STATUS_SCANNING x, R.CELL_SHELL_RESULT_OUT_US x,
    R.CELL_SHELL_RESULT_CODE x, R.CELL_CNT_A_MISSED x, H.IRQ_RAW (pgCell x), R.CELL_STATUS_SHELL_REQ x,
    R.CELL_STATUS_STATE x, R.CELL_CTRL_JOIN x, R.CELL_CTRL_SHELL_NOW x, R.CELL_CTRL_LEAVE x,
    R.CELL_CTRL_SCAN_NOW x, R.CELL_STATUS_LEAVE_CAUSE x, R.CELL_CNT_B_LOW_LEAVES x]

theorem State.regsBut.dropScan (h : s.regsBut (huskFields x) t) : s.regsBut (huskFields x) (t.dropScan x) := by
  unfold State.dropScan
  split
  · exact h
  · exact h.set.setB.setCell

theorem State.regsBut.cellEnter (h : s.regsBut (huskFields x) t) (st : Nat) :
    s.regsBut (huskFields x) (t.cellEnter x st) := by
  unfold State.cellEnter
  extract_lets entered joined shown
  have hjoined : s.regsBut (huskFields x) joined := .ite h.set h.set.setB
  have hshown : s.regsBut (huskFields x) shown := .ite hjoined.setB hjoined
  exact .ite hshown.setB.setB hshown

theorem State.regsBut.holdSync (h : s.regsBut (huskFields x) t) : s.regsBut (huskFields x) (t.holdSync x) := by
  unfold State.holdSync
  extract_lets on fb held
  have hheld : s.regsBut (huskFields x) held := .ite (.ite h h.setB.setGuard) (.ite h.setB.setGuard h)
  exact hheld.trans ((State.regsBut_guardSync_own held x).mono (by simp))

/-- Once the PWM has stopped, the entry into Husk writes neither `EN` nor `RUN` again. -/
theorem State.regsBut_husk_of_stopped (s : State) (x cause : Nat) :
    (s.pwmStop x).regsBut (huskFields x) (s.husk x cause) := by
  unfold State.husk
  extract_lets st stopped noScan noWindow idle silent left after
  have hscan : stopped.regsBut (huskFields x) noScan := stopped.regsBut_of_regs.dropScan
  have hwindow : stopped.regsBut (huskFields x) noWindow := by
    dsimp only [noWindow]
    split
    next w _ =>
      have hshown : stopped.regsBut (huskFields x) (noScan.showOut x w.start) := hscan.set
      exact .ite (.ite hshown.set.inc.irq.setCell hshown) hscan
    next => exact hscan
  have hsilent : stopped.regsBut (huskFields x) silent := hwindow.setCell.setCell.setB
  have hleft : stopped.regsBut (huskFields x) left := (hsilent.cellEnter csHusk).set.irq
  have hafter : stopped.regsBut (huskFields x) after := .ite (.ite hleft.inc hleft) hsilent
  exact hafter.holdSync

/-- A channel in Husk is not enabled (R158, R182). -/
theorem State.disabled_husk (s : State) (x : Fin 8) (cause : Nat) :
    (s.husk x.val cause).flag (R.PWM_CTRL_EN x.val) = false := by
  have hnot : ∀ x : Fin 8, (R.PWM_CTRL_EN x.val).key ∉ (huskFields x.val).map Reg.key := by decide
  rw [(s.regsBut_husk_of_stopped x.val cause).flag (hnot x)]
  exact (s.shown_pwmStop x).1

/-- What a fault touches between its mark and the entry into Husk. -/
abbrev haltFields (x : Nat) : List Reg :=
  [H.IRQ_RAW (pgPwm x), R.KE_CTRL_EN x, R.KE_ACTIVE_STATE x, R.KE_STATUS_FB_DEGRADED x]

theorem State.regsBut.keStop (h : s.regsBut (haltFields x) t) : s.regsBut (haltFields x) (t.keStop x) := by
  unfold State.keStop State.keHalted
  exact (State.regsBut.ite h.setB h.setB.set).setB.setKe

/-- A faulted channel shows it and is not enabled (R160). -/
theorem State.shown_channelFault (s : State) (x : Fin 8) :
    (s.channelFault x.val).flag (R.PWM_STATUS_CH_FAULT x.val) = true
    ∧ (s.channelFault x.val).flag (R.PWM_CTRL_EN x.val) = false := by
  have hnot : ∀ x : Fin 8, (R.PWM_STATUS_CH_FAULT x.val).key ∉ (haltFields x.val).map Reg.key
      ∧ (R.PWM_STATUS_CH_FAULT x.val).key ∉ (chanFields x.val).map Reg.key := by decide
  obtain ⟨hhalt, hchan⟩ := hnot x
  unfold State.channelFault
  extract_lets was faulted told stopped j
  refine ⟨?_, stopped.disabled_husk x _⟩
  have htold : faulted.regsBut (haltFields x.val) told := .ite faulted.regsBut_of_regs faulted.regsBut_of_regs.irq
  rw [(stopped.regsBut_husk x.val _).flag hchan, htold.keStop.flag hhalt]
  exact State.flag_setB_same (by simp [R.PWM_STATUS_CH_FAULT]) (by simp [R.PWM_STATUS_CH_FAULT])

end Sys2Proof.Machine
end

section
/-! What releases, clears and checks a fault group and the bypass (O39): the wait, the release and the window of a group
(R172), the latch clear (R173, R174), and the bypass feedback with its two checks (R181, R224, R227). -/

-- One proof after another: many at once take a thread each (see Laws/KeepsChannel).
set_option Elab.async false

namespace Sys2Proof.Machine

variable {s t : State} {dt t0 : Nat} {x : Fin 8} {g : Fin 16} {mask : Nat} {level : Bool}

/-! ### A wait, a release, a window (R172) -/

/-- The release of a group whose wait is over is pending. -/
def State.releasePending (s : State) (x g : Nat) : State :=
  (s.closeWindow x g).setGroup x g (fun d => { d with release := true })

theorem exec_groupWaitExpiry (hr : s.cellRuns x.val = true) (ha : s.groupActive x.val g.val = true)
    (hw : s.flag (R.GUARD_GSTAT_WAITING x.val g.val) = true)
    (ht : (s.group x.val g.val).lastActive + us (s.get (R.GUARD_GCFG_WAIT x.val g.val)) ≤ s.now + dt) :
    exec (.groupWaitExpiry dt x g) s
      = .next (((s.elapse dt).releasePending x.val g.val).escalateAll x.val) := if_pos ⟨hr, ha, hw, ht⟩

/-- The group still holds its outputs off while its release is pending. -/
theorem State.shown_releasePending (h : s.hasGroup x.val g.val) (ha : s.groupActive x.val g.val = true) :
    (((s.releasePending x.val g.val).escalateAll x.val).group x.val g.val).release = true
    ∧ ((s.releasePending x.val g.val).escalateAll x.val).groupActive x.val g.val = true := by
  constructor
  · rw [State.group_of_chan (State.chan_escalateAll ..)]
    exact congrArg GroupSt.release (State.group_setGroup_same (h.of_chan (State.chan_closeWindow ..)))
  · exact ((s.upkept_closeWindow x g.val).setGroup.trans (State.upkept_escalateAll _ x)).active g.val g.isLt ha

/-- The release of a group takes effect. -/
def State.groupReleased (s : State) (x g : Nat) : State :=
  let n := s.get (R.GUARD_GSTAT_COUNT x g)
  let e := s.flag (R.GUARD_GSTAT_ESCALATED x g)
  let s := s.closeWindow x g
  let s := (s.putMaskBit (R.PWM_GRP_ACT_ACTIVE x) g false).setB (R.GUARD_GSTAT_WAITING x g) false
  s.setGroup x g (fun d => { d with release := false, relAt := some (s.now, n, e) })

theorem exec_groupRelease (hr : s.cellRuns x.val = true) (ha : s.groupActive x.val g.val = true)
    (hp : (s.group x.val g.val).release = true) (hpoint : (s.elapse dt).releasePoint x.val g.val = true) :
    exec (.groupRelease dt x g) s = .next (((s.elapse dt).groupReleased x.val g.val).escalateAll x.val) :=
  if_pos ⟨hr, ha, hp, hpoint⟩

/-- Away from an edge and a carrier zero nothing is released. -/
theorem exec_groupRelease_between (h : (s.elapse dt).releasePoint x.val g.val = false) :
    exec (.groupRelease dt x g) s = .next (s.elapse dt) :=
  if_neg fun ⟨_, _, _, hpoint⟩ => by simp [h] at hpoint

theorem State.flag_waiting_groupReleased (s : State) (x g : Nat) :
    (s.groupReleased x g).flag (R.GUARD_GSTAT_WAITING x g) = false := by
  unfold State.groupReleased
  exact State.flag_setB_same (by simp [R.GUARD_GSTAT_WAITING]) (by simp [R.GUARD_GSTAT_WAITING])

theorem State.inactive_groupReleased (s : State) (x g : Nat) : (s.groupReleased x g).groupActive x g = false := by
  have hkey : (R.PWM_GRP_ACT_ACTIVE x).key ≠ (R.GUARD_GSTAT_WAITING x g).key := by
    simp only [Reg.key, R.PWM_GRP_ACT_ACTIVE, R.GUARD_GSTAT_WAITING]
    omega
  unfold State.groupReleased State.groupActive
  change ((State.setB _ _ _).get _).testBit g = false
  rw [State.get_setB_other hkey]
  exact State.testBit_putMaskBit_false _ (by simp [R.PWM_GRP_ACT_ACTIVE])

theorem State.release_groupReleased (h : s.hasGroup x.val g.val) :
    ((s.groupReleased x.val g.val).group x.val g.val).release = false := by
  unfold State.groupReleased
  refine congrArg GroupSt.release (State.group_setGroup_same (h.of_chan ?_))
  exact (State.chan_setB ..).trans ((State.chan_set ..).trans (State.chan_closeWindow ..))

/-- A group whose release has taken effect is inactive, and neither waits nor has a release pending. -/
theorem State.shown_groupReleased (h : s.hasGroup x.val g.val) :
    ((s.groupReleased x.val g.val).escalateAll x.val).groupActive x.val g.val = false
    ∧ ((s.groupReleased x.val g.val).escalateAll x.val).flag (R.GUARD_GSTAT_WAITING x.val g.val) = false
    ∧ (((s.groupReleased x.val g.val).escalateAll x.val).group x.val g.val).release = false := by
  have hkept := (s.groupReleased x.val g.val).regsBut_escalateAll x.val
  refine ⟨?_, ?_, ?_⟩
  · rw [State.groupActive, hkept _ (notMem_escalate x g _ (by simp))]
    exact s.inactive_groupReleased x.val g.val
  · rw [hkept.flag (notMem_escalate x g _ (by simp))]
    exact s.flag_waiting_groupReleased x.val g.val
  · rw [State.group_of_chan (State.chan_escalateAll ..)]
    exact State.release_groupReleased h

theorem exec_groupWindowClose (hr : s.cellRuns x.val = true) (hs : s.groupSourced x.val g.val = false)
    (hl : s.flag (R.GUARD_GSTAT_LATCHED x.val g.val) = false) : exec (.groupWindowClose dt x g) s
      = .next (((s.elapse dt).closeWindow x.val g.val).escalateAll x.val) :=
  if_pos ⟨hr, by rw [Bool.not_eq_true]; exact hs, by rw [Bool.not_eq_true]; exact hl⟩

/-! ### The latch clear (R173, R174) -/

/-- The latch, the count and the escalation of a group cleared; a group with no source waits. -/
def State.unlatch (s : State) (x g : Nat) : State :=
  let was := s.flag (R.GUARD_GSTAT_LATCHED x g)
  let s := (s.setB (R.GUARD_GSTAT_LATCHED x g) false).set (R.GUARD_GSTAT_COUNT x g) 0
  let s := s.setB (R.GUARD_GSTAT_ESCALATED x g) false
  if was && !s.groupSourced x g then s.setB (R.GUARD_GSTAT_WAITING x g) true else s

/-- The same for a group that the mask names and that has not latched in this cycle. -/
def State.unlatchNamed (s : State) (x mask g : Nat) : State :=
  if mask.testBit g && (s.metNow (R.GUARD_GSTAT_LATCHED x g)).isEmpty then s.unlatch x g else s

theorem State.clearLatches_of_off (h : s.flag (R.PWM_CTRL_EN x.val) = false) : s.clearLatches x.val mask =
    (((List.range 16).foldl (fun t g => t.unlatchNamed x.val mask g) s).escalateAll x.val).guardSync x.val :=
  if_neg (by simp [h])

theorem State.clearLatches_of_on (h : s.flag (R.PWM_CTRL_EN x.val) = true) :
    s.clearLatches x.val mask = s.err (pgGuard x.val) := if_pos h

/-- The fields of a group that a latch clear touches. -/
abbrev unlatchFields (x g : Nat) : List Reg := [R.GUARD_GSTAT_LATCHED x g, R.GUARD_GSTAT_COUNT x g,
  R.GUARD_GSTAT_ESCALATED x g, R.GUARD_GSTAT_WAITING x g]

theorem State.regsBut_unlatch (s : State) (x g : Nat) : s.regsBut (unlatchFields x g) (s.unlatch x g) := by
  have hcleared : s.regsBut (unlatchFields x g) (((s.setB (R.GUARD_GSTAT_LATCHED x g) false).set
      (R.GUARD_GSTAT_COUNT x g) 0).setB (R.GUARD_GSTAT_ESCALATED x g) false) := s.regsBut_of_regs.setB.set.setB
  exact .ite hcleared.setB hcleared

/-- No latch, no count. -/
abbrev State.unlatched (s : State) (x g : Nat) : Prop :=
  s.flag (R.GUARD_GSTAT_LATCHED x g) = false ∧ s.get (R.GUARD_GSTAT_COUNT x g) = 0

/-- What writes neither of the two fields. -/
theorem State.unlatched.of_regsBut {l : List Reg} (h : s.unlatched x.val g.val) (hr : s.regsBut l t)
    (hl : (R.GUARD_GSTAT_LATCHED x.val g.val).key ∉ l.map Reg.key)
    (hc : (R.GUARD_GSTAT_COUNT x.val g.val).key ∉ l.map Reg.key) : t.unlatched x.val g.val := by
  obtain ⟨hlatched, hcount⟩ := h
  exact ⟨by rw [hr.flag hl, hlatched], by rw [hr _ hc, hcount]⟩

theorem State.unlatched_unlatch (s : State) (x g : Nat) : (s.unlatch x g).unlatched x g := by
  have hkeys : (R.GUARD_GSTAT_LATCHED x g).key ≠ (R.GUARD_GSTAT_COUNT x g).key
      ∧ (R.GUARD_GSTAT_LATCHED x g).key ≠ (R.GUARD_GSTAT_ESCALATED x g).key
      ∧ (R.GUARD_GSTAT_LATCHED x g).key ≠ (R.GUARD_GSTAT_WAITING x g).key
      ∧ (R.GUARD_GSTAT_COUNT x g).key ≠ (R.GUARD_GSTAT_WAITING x g).key := by
    simp only [Reg.key, R.GUARD_GSTAT_LATCHED, R.GUARD_GSTAT_COUNT, R.GUARD_GSTAT_ESCALATED, R.GUARD_GSTAT_WAITING]
    omega
  obtain ⟨hlatchCount, hlatchEsc, hlatchWait, hcountWait⟩ := hkeys
  unfold State.unlatch
  extract_lets was counted cleared
  have hlatched : cleared.flag (R.GUARD_GSTAT_LATCHED x g) = false := by
    rw [State.flag_setB_other hlatchEsc, State.flag_eq, State.get_set_other _ _ hlatchCount, ← State.flag_eq]
    exact State.flag_setB_same (by simp [R.GUARD_GSTAT_LATCHED]) (by simp [R.GUARD_GSTAT_LATCHED])
  have hcount : cleared.get (R.GUARD_GSTAT_COUNT x g) = 0 := by
    rw [State.get_setB_other (count_ne_escalated x g g)]
    exact State.get_set_fits (by simp) (by simp [R.GUARD_GSTAT_COUNT])
  split
  · exact ⟨by rw [State.flag_setB_other hlatchWait, hlatched], by rw [State.get_setB_other hcountWait, hcount]⟩
  · exact ⟨hlatched, hcount⟩

/-- The clear of a group, this one or another, leaves no latch where there is none. -/
theorem State.unlatched.unlatchNamed (h : s.unlatched x.val g.val) (b : Nat) :
    (s.unlatchNamed x.val mask b).unlatched x.val g.val := by
  unfold State.unlatchNamed
  split
  next =>
    rcases eq_or_ne b g.val with rfl | hne
    · exact s.unlatched_unlatch x.val _
    · refine h.of_regsBut (s.regsBut_unlatch x.val b) ?_ ?_ <;>
        simp only [unlatchFields, List.map_cons, List.map_nil, List.mem_cons, List.not_mem_nil, or_false, Reg.key,
          R.GUARD_GSTAT_LATCHED, R.GUARD_GSTAT_COUNT, R.GUARD_GSTAT_ESCALATED, R.GUARD_GSTAT_WAITING] <;>
        omega
  next => exact h

/-- A field without clear bits notes no event when it is written. -/
theorem State.recent_setB_of_not_w1c {r : Reg} {v : Bool} (h : r.acc ≠ .w1c) : (s.setB r v).recent = s.recent := by
  unfold State.setB State.noteW1c
  rw [if_neg h]
  split <;> exact State.recent_set ..

/-- A latch clear is no event itself: what has been met in this cycle stays as it was. -/
theorem State.metNow_unlatchNamed (s : State) (x mask b : Nat) (r : Reg) :
    (s.unlatchNamed x mask b).metNow r = s.metNow r := by
  have hsame : (s.unlatchNamed x mask b).recent = s.recent ∧ (s.unlatchNamed x mask b).now = s.now := by
    unfold State.unlatchNamed State.unlatch
    extract_lets was counted cleared
    have hrecent : cleared.recent = s.recent := by
      rw [State.recent_setB_of_not_w1c (by simp [R.GUARD_GSTAT_ESCALATED]), State.recent_set,
        State.recent_setB_of_not_w1c (by simp [R.GUARD_GSTAT_LATCHED])]
    have hnow : cleared.now = s.now := by simp [cleared, counted]
    split
    · split
      · exact ⟨(State.recent_setB_of_not_w1c (by simp [R.GUARD_GSTAT_WAITING])).trans hrecent, by simp [hnow]⟩
      · exact ⟨hrecent, hnow⟩
    · exact ⟨rfl, rfl⟩
  obtain ⟨hrecent, hnow⟩ := hsame
  unfold State.metNow
  rw [hrecent, hnow]

/-- The groups that the mask names have no latch and no count, but for one that has latched in this cycle. -/
theorem State.unlatched_named (hm : mask.testBit g.val = true)
    (hmet : s.metNow (R.GUARD_GSTAT_LATCHED x.val g.val) = []) :
    ((List.range 16).foldl (fun t g => t.unlatchNamed x.val mask g) s).unlatched x.val g.val := by
  refine foldl_reaches (f := fun t g => t.unlatchNamed x.val mask g)
    (I := fun t => t.metNow (R.GUARD_GSTAT_LATCHED x.val g.val) = []) (P := fun t => t.unlatched x.val g.val)
    (List.mem_range.2 g.isLt) (fun t b _ ht => (t.metNow_unlatchNamed x.val mask b _).trans ht) (fun t ht => ?_)
    (fun t b _ h => h.unlatchNamed b) hmet
  have htaken : t.unlatchNamed x.val mask g.val = t.unlatch x.val g.val := if_pos (by simp [hm, ht])
  rw [htaken]
  exact t.unlatched_unlatch x.val g.val

theorem groupState_notMem_chan (x : Fin 8) (g : Fin 16) :
    (R.GUARD_GSTAT_LATCHED x.val g.val).key ∉ (chanFields x.val).map Reg.key
    ∧ (R.GUARD_GSTAT_COUNT x.val g.val).key ∉ (chanFields x.val).map Reg.key := by
  revert x g
  decide +kernel

/-- A latch clear while the gates are off (R173, R174). -/
theorem State.unlatched_clearLatches (hen : s.flag (R.PWM_CTRL_EN x.val) = false) (hm : mask.testBit g.val = true)
    (hmet : s.metNow (R.GUARD_GSTAT_LATCHED x.val g.val) = []) :
    (s.clearLatches x.val mask).unlatched x.val g.val := by
  obtain ⟨hlatched, hcount⟩ := groupState_notMem_chan x g
  rw [State.clearLatches_of_off hen]
  have hescalated := (State.unlatched_named hm hmet).of_regsBut (State.regsBut_escalateAll _ x.val)
    (notMem_escalate x g _ (by simp)) (notMem_escalate x g _ (by simp))
  exact hescalated.of_regsBut (State.regsBut_guardSync _ x.val) hlatched hcount

/-! ### The bypass feedback (R181) -/

/-- A level of the feedback is taken when it changes nothing or has lasted its filter's time. -/
theorem exec_bypFbChange (hr : s.cellRuns x.val = true)
    (h : (level != s.flag (R.GUARD_BYP_CFG_FB_POL x.val)) = s.flag (R.GUARD_BYP_STAT_FB_OPEN x.val)
      ∨ (s.elapse dt).filterDone x.val 16 = true) : ∃ t : State,
    exec (.bypFbChange dt x level) s = .next (t.fbShows x.val (level != s.flag (R.GUARD_BYP_CFG_FB_POL x.val))) :=
  ⟨_, if_pos ⟨hr, fun hchange => h.resolve_left fun heq => by simp [heq] at hchange⟩⟩

/-- What a change of the feedback can touch beside its readout. -/
abbrev feedbackFields (x : Nat) : List Reg := [R.GUARD_BYP_STAT_FB_CHANGE x, H.IRQ_RAW (pgGuard x), R.GLOG_CNT_LOST,
  R.GLOG_STATUS_LOST_SEEN] ++ zeroFields x

theorem zero_subset_feedback (x : Nat) : zeroFields x ⊆ feedbackFields x := List.subset_append_right _ _

theorem stop_subset_feedback (x : Nat) : stopFields x ⊆ feedbackFields x := fun _ hr => zero_subset_feedback x
  (src_subset_zero x (groups_subset_src x (map_subset_groups (g := 0) (by decide) (stop_subset_map x 0 hr))))

theorem fbOpen_notMem_feedback (x : Fin 8) :
    (R.GUARD_BYP_STAT_FB_OPEN x.val).key ∉ (feedbackFields x.val).map Reg.key := by
  revert x
  decide +kernel

/-- The feedback shows what it was given. -/
theorem State.flag_fbShows (s : State) (x : Fin 8) (opened : Bool) :
    (s.fbShows x.val opened).flag (R.GUARD_BYP_STAT_FB_OPEN x.val) = opened := by
  unfold State.fbShows
  split
  next hnew =>
    extract_lets d on shown changed closed
    have hshown : shown.flag (R.GUARD_BYP_STAT_FB_OPEN x.val) = opened :=
      State.flag_setB_same (by simp [R.GUARD_BYP_STAT_FB_OPEN]) (by simp [R.GUARD_BYP_STAT_FB_OPEN])
    have hchanged (w : State) : w.regsBut (feedbackFields x.val) (changed w) :=
      State.regsBut.mono (l := [R.GUARD_BYP_STAT_FB_CHANGE x.val, H.IRQ_RAW (pgGuard x.val), R.GLOG_CNT_LOST,
        R.GLOG_STATUS_LOST_SEEN]) w.regsBut_of_regs.setB.irqLog (List.subset_append_left _ _)
    have hself := shown.regsBut_of_regs (l := feedbackFields x.val)
    have hclosed : shown.regsBut (feedbackFields x.val) closed := hself.setGuard
    refine Eq.trans (State.regsBut.flag (l := feedbackFields x.val) ?_ (fbOpen_notMem_feedback x)) hshown
    refine .ite (.ite ?opens (.ite ?closes hself)) (.ite (.ite ?idles hself) (.ite ?returns hclosed))
    case opens =>
      exact hself.setGuard.trans ((State.zeroed_joinOpened _ x).regs.mono (zero_subset_feedback _))
    case closes =>
      exact (hchanged _).trans ((State.spares_channelFault _ x.val).regs.mono (stop_subset_feedback _))
    case idles => exact hself.setGuard.trans (hchanged _)
    case returns =>
      exact hclosed.trans ((State.regsBut_cellEnter _ x.val csHusk).mono
        (List.Subset.trans (chan_subset_zero _) (zero_subset_feedback _)))
  next hsame =>
    have hshows : s.flag (R.GUARD_BYP_STAT_FB_OPEN x.val) = opened := (not_not.1 hsame).symm
    split
    · exact hshows
    · exact hshows

/-! ### The checks of the bypass (R181, R224, R227) -/

/-- The failed check marked and told. -/
def State.openFailed (s : State) (x : Nat) : State :=
  (s.setB (R.GUARD_BYP_STAT_OPEN_FAIL x) true).irqLog (pgGuard x) 14 2

theorem exec_bypOpenCheckExpiry (hr : s.cellRuns x.val = true) (hd : (s.ch x.val).guard.openDue = some t0)
    (ht : t0 ≤ s.now + dt) :
    exec (.bypOpenCheckExpiry dt x) s = .next (((s.elapse dt).openFailed x.val).channelFault x.val) := by
  have hd' : ((s.elapse dt).ch x.val).guard.openDue = some t0 := hd
  change execBypOpenCheckExpiry dt x s = _
  unfold execBypOpenCheckExpiry
  simp only [hd']
  exact if_pos ⟨hr, ht⟩

theorem State.flag_openFailed (s : State) (x : Fin 8) :
    ((s.openFailed x.val).channelFault x.val).flag (R.GUARD_BYP_STAT_OPEN_FAIL x.val) = true := by
  have hnot : ∀ x : Fin 8, (R.GUARD_BYP_STAT_OPEN_FAIL x.val).key ∉ (stopFields x.val).map Reg.key
      ∧ (R.GUARD_BYP_STAT_OPEN_FAIL x.val).key ∉ [H.IRQ_RAW (pgGuard x.val), R.GLOG_CNT_LOST,
        R.GLOG_STATUS_LOST_SEEN].map Reg.key := by decide
  obtain ⟨hstop, htell⟩ := hnot x
  have htold : (s.setB (R.GUARD_BYP_STAT_OPEN_FAIL x.val) true).regsBut [H.IRQ_RAW (pgGuard x.val), R.GLOG_CNT_LOST,
      R.GLOG_STATUS_LOST_SEEN] (s.openFailed x.val) := (State.regsBut_of_regs _).irqLog
  rw [(State.spares_channelFault _ x.val).regs.flag hstop, htold.flag htell]
  exact State.flag_setB_same (by simp [R.GUARD_BYP_STAT_OPEN_FAIL]) (by simp [R.GUARD_BYP_STAT_OPEN_FAIL])

/-- The check over, and its failure marked and told. -/
def State.closeFailed (s : State) (x : Nat) : State :=
  let s := s.setGuard x (fun d => { d with closeDue := none })
  let s := s.setB (R.GUARD_BYP_STAT_CLOSE_FAIL x) true
  s.irqLog (pgGuard x) 15 2

theorem exec_bypCloseCheckExpiry (hr : s.cellRuns x.val = true) (hd : (s.ch x.val).guard.closeDue = some t0)
    (ht : t0 ≤ s.now + dt) : exec (.bypCloseCheckExpiry dt x) s
      = .next ((((s.elapse dt).closeFailed x.val).cellEnter x.val csStuck).irq (pgCell x.val) 9) := by
  have hd' : ((s.elapse dt).ch x.val).guard.closeDue = some t0 := hd
  change execBypCloseCheckExpiry dt x s = _
  unfold execBypCloseCheckExpiry
  simp only [hd']
  exact if_pos ⟨hr, ht⟩

/-- The requests that the entry of a state takes back. -/
abbrev requestFields (x : Nat) : List Reg :=
  [R.CELL_CTRL_JOIN x, R.CELL_CTRL_SHELL_NOW x, R.CELL_CTRL_LEAVE x, R.CELL_CTRL_SCAN_NOW x]

theorem State.regsBut_requests_cellEnter (s : State) (x st : Nat) :
    (s.set (R.CELL_STATUS_STATE x) st).regsBut (requestFields x) (s.cellEnter x st) := by
  unfold State.cellEnter
  extract_lets entered joined shown
  have hjoined : entered.regsBut (requestFields x) joined :=
    .ite entered.regsBut_of_regs entered.regsBut_of_regs.setB
  have hshown : entered.regsBut (requestFields x) shown := .ite hjoined.setB hjoined
  exact .ite hshown.setB.setB hshown

/-- A state entered is the one shown (R221). -/
theorem State.cellState_cellEnter (s : State) (x : Nat) {st : Nat} (h : st < 8) :
    (s.cellEnter x st).cellState x = st := by
  unfold State.cellState
  rw [s.regsBut_requests_cellEnter x st]
  · exact State.get_set_fits h (by simp [R.CELL_STATUS_STATE])
  · simp only [requestFields, List.map_cons, List.map_nil, List.mem_cons, List.not_mem_nil, or_false, Reg.key,
      R.CELL_STATUS_STATE, R.CELL_CTRL_JOIN, R.CELL_CTRL_SHELL_NOW, R.CELL_CTRL_LEAVE, R.CELL_CTRL_SCAN_NOW]
    omega

theorem State.flag_closeFailed (s : State) (x : Fin 8) :
    (s.closeFailed x.val).flag (R.GUARD_BYP_STAT_CLOSE_FAIL x.val) = true := by
  have hnot : ∀ x : Fin 8, (R.GUARD_BYP_STAT_CLOSE_FAIL x.val).key ∉ [H.IRQ_RAW (pgGuard x.val), R.GLOG_CNT_LOST,
      R.GLOG_STATUS_LOST_SEEN].map Reg.key := by decide
  unfold State.closeFailed
  extract_lets idle marked
  have htold : marked.regsBut [H.IRQ_RAW (pgGuard x.val), R.GLOG_CNT_LOST, R.GLOG_STATUS_LOST_SEEN]
      (marked.irqLog (pgGuard x.val) 15 2) := marked.regsBut_of_regs.irqLog
  rw [htold.flag (hnot x)]
  exact State.flag_setB_same (by simp [R.GUARD_BYP_STAT_CLOSE_FAIL]) (by simp [R.GUARD_BYP_STAT_CLOSE_FAIL])

/-- A bypass that does not close: the mark, and the stuck cell (R181, R227). -/
theorem State.shown_closeFailed (s : State) (x : Fin 8) :
    (((s.closeFailed x.val).cellEnter x.val csStuck).irq (pgCell x.val) 9).flag (R.GUARD_BYP_STAT_CLOSE_FAIL x.val)
      = true
    ∧ (((s.closeFailed x.val).cellEnter x.val csStuck).irq (pgCell x.val) 9).cellState x.val = csStuck := by
  have hnot : ∀ x : Fin 8, (R.GUARD_BYP_STAT_CLOSE_FAIL x.val).key ∉ (chanFields x.val).map Reg.key
      ∧ (R.CELL_STATUS_STATE x.val).key ≠ (H.IRQ_RAW (pgCell x.val)).key := by decide
  obtain ⟨hmark, hstate⟩ := hnot x
  constructor
  · rw [((State.regsBut_cellEnter _ x.val csStuck).irq (p := pgCell x.val)).flag hmark]
    exact s.flag_closeFailed x
  · unfold State.cellState
    rw [State.get_irq_other hstate]
    exact (s.closeFailed x.val).cellState_cellEnter x.val (by decide)

end Sys2Proof.Machine

open Sys2Proof.Machine

/-- Settles O39: the escalation that ends every upkeep leaves a group's latch, count and wait (`notMem_escalate`); a
latch clear reaches every named group that has not latched in this cycle (`unlatched_named`); and what follows the mark
of a failed check, and the readout of the feedback, writes neither. -/
theorem faultGroupCommands : Obligations.FaultGroupCommands := by
  unfold Obligations.FaultGroupCommands
  refine ⟨?wait, ?release, ?between, ?window, ?clear, ?refused, ?feedback, ?openCheck, ?closeCheck⟩
  case wait =>
    intro s dt x g hr ha hw ht hgroups hs
    obtain ⟨hchan, -⟩ := hs
    have hgroup : (s.elapse dt).hasGroup x.val g.val := ⟨by rw [State.chan_elapse]; omega, by
      rw [State.ch_of_chan (State.chan_elapse s dt), hgroups]; exact g.isLt⟩
    exact ⟨_, exec_groupWaitExpiry hr ha hw ht, State.shown_releasePending hgroup ha⟩
  case release =>
    intro s dt x g hr ha hp hpoint
    have hgroup : (s.elapse dt).hasGroup x.val g.val := State.hasGroup_of_ne g.isLt fun h => by
      have hp' : ((s.elapse dt).group x.val g.val).release = true := hp
      simp [h] at hp'
    exact ⟨_, exec_groupRelease hr ha hp hpoint, State.shown_groupReleased hgroup⟩
  case between => exact fun s dt x g h => ⟨_, exec_groupRelease_between h, rfl⟩
  case window =>
    intro s dt x g hr hs hl ht
    refine ⟨_, exec_groupWindowClose hr hs hl, ?_⟩
    rw [State.regsBut_escalateAll _ x.val _ (notMem_escalate x g _ (by simp))]
    exact State.count_closeWindow (s := s.elapse dt) ht
  case clear =>
    intro s dt x mask ho hen
    exact ⟨_, congrArg Host.Outcome.next (State.hostAct_elapse ho),
      fun g hm hmet => State.unlatched_clearLatches (s := s.elapse dt) hen hm hmet⟩
  case refused =>
    intro s dt x mask ho hen
    obtain ⟨hcount, hregs, -⟩ := s.shown_err_elapse dt (pgGuard x.val)
    refine ⟨_, congrArg Host.Outcome.next ((State.hostAct_elapse ho).trans
      (State.clearLatches_of_on (s := s.elapse dt) hen)), fun g => hregs _ ?_, hcount⟩
    simp only [List.map_cons, List.map_nil, List.mem_cons, List.not_mem_nil, or_false, Reg.key, pgGuard,
      R.GUARD_GSTAT_LATCHED, H.ERR_COUNT, H.IRQ_RAW]
    omega
  case feedback =>
    intro s dt x level hr h
    obtain ⟨t, hexec⟩ := exec_bypFbChange hr h
    exact ⟨_, hexec, t.flag_fbShows x _⟩
  case openCheck =>
    intro s dt t0 x hr hd ht
    exact ⟨_, exec_bypOpenCheckExpiry hr hd ht, (s.elapse dt).flag_openFailed x, State.shown_channelFault _ x⟩
  case closeCheck =>
    intro s dt t0 x hr hd ht
    obtain ⟨hmark, hstate⟩ := (s.elapse dt).shown_closeFailed x
    exact ⟨_, exec_bypCloseCheckExpiry hr hd ht, hmark, hstate, State.event_irq _ (by decide)⟩

end

section
/-! Rules of a channel's Kernel (O45): a change of it, what a fault of the channel leaves of it, and what a fault of the
Kernel itself touches and shows (R160, R193, R210, R216). -/

-- One proof after another: many at once take a thread each (see Laws/KeepsChannel).
set_option Elab.async false

namespace Sys2Proof.Machine

variable {s t : State} {x : Nat}

/-! ### A Kernel changed -/

@[simp] theorem State.regs_setKe (s : State) (x : Nat) (f : KeSt → KeSt) : (s.setKe x f).regs = s.regs := rfl

@[simp] theorem State.staged_setKe (s : State) (x : Nat) (f : KeSt → KeSt) : (s.setKe x f).staged = s.staged := rfl

@[simp] theorem State.get_setKe (s : State) (x : Nat) (f : KeSt → KeSt) (r : Reg) : (s.setKe x f).get r = s.get r :=
  rfl

@[simp] theorem State.flag_setKe (s : State) (x : Nat) (f : KeSt → KeSt) (r : Reg) : (s.setKe x f).flag r = s.flag r :=
  rfl

theorem State.ke_setKe_same {f : KeSt → KeSt} (h : x < s.chan.length) : ((s.setKe x f).ch x).ke = f (s.ch x).ke := by
  unfold State.setKe
  rw [State.ch_setCh_same h]

/-- A change that clears a part clears it in every Kernel, as one beyond the list is as its reset left it. -/
theorem State.ke_setKe_cleared {α : Type} (g : KeSt → α) {f : KeSt → KeSt} (hf : ∀ k, g (f k) = g {}) (s : State)
    (x : Nat) : g ((s.setKe x f).ch x).ke = g {} := by
  rcases lt_or_ge x s.chan.length with hlt | hge
  · rw [State.ke_setKe_same hlt, hf]
  · rw [State.ch_of_le ((List.length_modify ..).trans_le hge)]

/-- A Kernel that is not as its reset left it exists. -/
theorem State.lt_of_ke (h : (s.ch x).ke ≠ {}) : x < s.chan.length := State.ch_lt fun e => h (by rw [e])

theorem State.lt_of_sample (h : (s.ch x).ke.sample ≠ none) : x < s.chan.length :=
  State.lt_of_ke fun e => h (by rw [e])

theorem State.lt_of_valid (h : (s.ch x).ke.valid ≠ none) : x < s.chan.length :=
  State.lt_of_ke fun e => h (by rw [e])

/-- The sample in progress of a channel's Kernel (R186). -/
def ChSt.sample (c : ChSt) : Option KeSample := c.ke.sample

/-! ### A channel is stopped (R158, R160, R182) -/

theorem State.ke_holdSync (s : State) (x : Nat) : s.agreesOn ChSt.ke (s.holdSync x) := by
  unfold State.holdSync
  extract_lets on fb held
  have hheld : s.agreesOn ChSt.ke held :=
    .ite (.ite s.agreesOn_refl (.setCh s.agreesOn_refl.keep fun _ => rfl))
      (.ite (.setCh s.agreesOn_refl.keep fun _ => rfl) s.agreesOn_refl)
  exact hheld.keep (State.chan_guardSync _ x)

theorem State.ke_pwmStop (s : State) (x : Nat) : s.agreesOn ChSt.ke (s.pwmStop x) := by
  unfold State.pwmStop
  refine State.agreesOn.keep (State.agreesOn.setCh (s.agreesOn_refl.keep ?_) fun _ => ?_) (State.chan_guardSync _ x)
  · simp
  · rfl

theorem State.ke_dropScan (s : State) (x : Nat) : s.agreesOn ChSt.ke (s.dropScan x) := by
  unfold State.dropScan
  split
  · exact s.agreesOn_refl
  · exact .setCh s.agreesOn_refl.keep fun _ => rfl

theorem State.ke_windowLost (s : State) (x code : Nat) : s.agreesOn ChSt.ke (s.windowLost x code) := by
  unfold State.windowLost
  exact .setCh s.agreesOn_refl.keep fun _ => rfl

/-- The entry into Husk is no concern of the Kernel. -/
theorem State.ke_husk (s : State) (x cause : Nat) : s.agreesOn ChSt.ke (s.husk x cause) := by
  unfold State.husk
  extract_lets st stopped noScan noWindow idle silent left after
  have hscan : s.agreesOn ChSt.ke noScan := (s.ke_pwmStop x).trans (State.ke_dropScan _ x)
  have hwindow : s.agreesOn ChSt.ke noWindow := by
    dsimp only [noWindow]
    split
    next w _ =>
      have hshown : s.agreesOn ChSt.ke (noScan.showOut x w.start) := hscan.keep (State.chan_set ..)
      exact ((hshown.trans (State.ke_windowLost _ x 4)).ite hshown).ite hscan
    next => exact hscan
  have hidle : s.agreesOn ChSt.ke idle := hwindow.setCh fun _ => rfl
  have hsilent : s.agreesOn ChSt.ke silent :=
    State.agreesOn.keep (hidle.setCh fun _ => by rfl) (State.chan_setB (idle.zeroWords x) _ _)
  have hleft : s.agreesOn ChSt.ke left := by
    refine hsilent.keep ?_
    simp only [left, State.chan_irq, State.chan_set, State.chan_cellEnter]
  have hafter : s.agreesOn ChSt.ke after := (hleft.keep.ite hleft).ite hsilent
  exact hafter.trans (State.ke_holdSync _ x)

/-- A halted Kernel has no sample in progress (R210). -/
theorem State.sample_keHalted (s : State) (x : Nat) : ((s.keHalted x).ch x).ke.sample = none :=
  State.ke_setKe_cleared KeSt.sample (fun _ => by rfl) _ x

theorem State.sample_channelFault (s : State) (x : Nat) : ((s.channelFault x).ch x).ke.sample = none := by
  unfold State.channelFault
  extract_lets was faulted told stopped j
  rw [stopped.ke_husk x _ x]
  exact State.sample_keHalted _ x

/-! ### A fault of the Kernel (R193, R216) -/

/-- What a fault of the Kernel can touch. -/
abbrev faultFields (x : Nat) : List Reg :=
  stopFields x ++ [H.IRQ_RAW (pgKe x), R.KE_STATUS_KFAULT x, R.KE_FAULT_CAUSE x, R.KE_STATUS_INT_WRAP x,
    R.KE_FAULT_WRAP_STATE x, R.GLOG_CNT_LOST, R.GLOG_STATUS_LOST_SEEN]

theorem State.regsBut.channelFault (h : s.regsBut (faultFields x) t) :
    s.regsBut (faultFields x) (t.channelFault x) :=
  h.trans ((t.spares_channelFault x).regs.mono (List.subset_append_left _ _))

theorem State.regsBut.kernelFault (h : s.regsBut (faultFields x) t) (cause : Nat) :
    s.regsBut (faultFields x) (t.kernelFault x cause) := h.setB.set.irqLog.channelFault

theorem State.regsBut_stateWrap (s : State) (x low : Nat) : s.regsBut (faultFields x) (s.stateWrap x low) :=
  s.regsBut_of_regs.setB.set.irqLog.kernelFault 3

/-- A fault of the Kernel shows itself and its cause, and stops the channel (R160, R216). -/
theorem State.shown_kernelFault (s : State) (x : Fin 8) {cause : Nat} (hc : cause < 16) :
    (s.kernelFault x.val cause).flag (R.KE_STATUS_KFAULT x.val) = true
    ∧ (s.kernelFault x.val cause).get (R.KE_FAULT_CAUSE x.val) = cause
    ∧ (s.kernelFault x.val cause).flag (R.PWM_STATUS_CH_FAULT x.val) = true
    ∧ (s.kernelFault x.val cause).flag (R.PWM_CTRL_EN x.val) = false := by
  have hnot : ∀ x : Fin 8, ∀ q ∈ [R.KE_STATUS_KFAULT x.val, R.KE_FAULT_CAUSE x.val], q.key ∉
      (stopFields x.val ++ [H.IRQ_RAW (pgKe x.val), R.GLOG_CNT_LOST, R.GLOG_STATUS_LOST_SEEN]).map Reg.key := by
    decide
  have hkeys : ∀ x : Fin 8, (R.KE_STATUS_KFAULT x.val).key ≠ (R.KE_FAULT_CAUSE x.val).key := by decide
  unfold State.kernelFault
  extract_lets marked
  have htold : marked.regsBut (stopFields x.val ++ [H.IRQ_RAW (pgKe x.val), R.GLOG_CNT_LOST,
      R.GLOG_STATUS_LOST_SEEN]) ((marked.irqLog (pgKe x.val) 2 2).channelFault x.val) :=
    marked.regsBut_of_regs.irqLog.trans ((State.spares_channelFault _ x.val).regs.mono (List.subset_append_left _ _))
  refine ⟨?_, ?_, State.shown_channelFault _ x⟩
  · rw [htold.flag (hnot x _ (by simp)), State.flag_eq, State.get_set_other _ _ (hkeys x), ← State.flag_eq]
    exact State.flag_setB_same (by simp [R.KE_STATUS_KFAULT]) (by simp [R.KE_STATUS_KFAULT])
  · rw [htold _ (hnot x _ (by simp))]
    exact State.get_set_fits hc (by simp [R.KE_FAULT_CAUSE])

end Sys2Proof.Machine
end

section
/-! A schedule validated (O45): what the check reads and touches, and what it answers (R21, R201, R205). -/

-- One proof after another: many at once take a thread each (see Laws/KeepsChannel).
set_option Elab.async false

namespace Sys2Proof.Machine

variable {s t : State} {x : Fin 8} {d dt : Nat} {v : KeValid}

/-! ### Reads of table memory (R21) -/

/-- No word of the `n` bytes from `a` has a double-bit error among the bad bits `ecc`. -/
def readable (ecc : RegFile) (a n : Nat) : Bool :=
  ecc.all fun e => if a < e.1 + 8 ∧ e.1 < a + n then decide (e.2 = 1) else true

/-- Whether a read succeeds is told by the bad bits alone. -/
theorem State.fst_engineRead (s : State) (p a n : Nat) : (s.engineRead p a n).1 = readable s.ecc a n := by
  have hfold (l : RegFile) : ∀ (ok : Bool) (t : State), (l.foldl (fun (c : Bool × State) e =>
      if a < e.1 + 8 ∧ e.1 < a + n then
        if e.2 = 1 then (c.1, c.2.err p) else (false, c.2.recordDouble p e.1)
      else (c.1, c.2)) (ok, t)).1 = (ok && readable l a n) := by
    induction l with
    | nil => simp [readable]
    | cons e l ih =>
      intro ok t
      rw [List.foldl_cons, readable, List.all_cons, ← readable, ← Bool.and_assoc]
      split
      · split
        next h1 => rw [ih, decide_eq_true h1, Bool.and_true]
        next h1 => rw [ih, decide_eq_false h1, Bool.and_false]
      · rw [ih, Bool.and_true]
  exact hfold s.ecc true s

/-- Without a bad bit a read leaves no trace. -/
theorem State.engineRead_of_clean (h : s.ecc = []) (p a n : Nat) : s.engineRead p a n = (true, s) := by
  unfold State.engineRead
  rw [h]
  rfl

theorem State.ecc_of_sameBut {k : List Part} (h : s.sameBut k t) (he : .ecc ∉ k := by decide)
    (hd : .drop ∉ k := by decide) : t.ecc = s.ecc := by
  obtain ⟨-, hd' | hall⟩ := h
  · exact absurd hd' hd
  · simp only [he, false_or] at hall
    simp only [hall]

theorem State.ecc_engineRead (s : State) (p a n : Nat) : (s.engineRead p a n).2.ecc = s.ecc :=
  State.ecc_of_sameBut (keeps_engineRead (keeps_sameBut [.dblTable, .dblCapt, .recent, .log, .pod, .regs] s) s p a n
    (State.sameBut_refl _ s))

/-! ### What checking a schedule reads (R21, R201) -/

/-- The header and K of bank `b` are readable. -/
def bankReadable (ecc : RegFile) (x b : Nat) : Bool :=
  readable ecc (bankBase x b) 0x40 && readable ecc (bankBase x b + 0x340) 0xC0

/-- Whether the read of a schedule succeeds is told by the bad bits and by which banks the memory names. -/
theorem State.fst_schedRead (s : State) (x d : Nat) : (s.schedRead x d).1 = (readable s.ecc (schedBase x d) 0x100
    && (List.range (schedRegions s.mem x d + 1)).all fun j => bankReadable s.ecc x (schedBank s.mem x d j)) := by
  have hfold (l : List Nat) : ∀ c : Bool × State, c.2.ecc = s.ecc → (l.foldl (fun (c : Bool × State) j =>
      let a := bankBase x (schedBank s.mem x d j)
      let h := c.2.engineRead (pgKe x) a 0x40
      let k := h.2.engineRead (pgKe x) (a + 0x340) 0xC0
      (c.1 && h.1 && k.1, k.2)) c).1 = (c.1 && l.all fun j => bankReadable s.ecc x (schedBank s.mem x d j)) := by
    induction l with
    | nil => simp
    | cons j l ih =>
      intro c hc
      rw [List.foldl_cons, ih _ (by simp only [State.ecc_engineRead, hc]), List.all_cons]
      simp only [State.fst_engineRead, State.ecc_engineRead, hc, bankReadable, Bool.and_assoc]
  refine (hfold _ _ (s.ecc_engineRead _ _ _)).trans ?_
  rw [State.fst_engineRead]

theorem State.schedRead_of_clean (h : s.ecc = []) (x d : Nat) : s.schedRead x d = (true, s) := by
  unfold State.schedRead
  rw [State.engineRead_of_clean h]
  refine List.foldlRecOn (motive := fun c : Bool × State => c = (true, s)) _ _ rfl fun c hc j _ => ?_
  rw [hc]
  dsimp only
  rw [State.engineRead_of_clean h]
  dsimp only
  rw [State.engineRead_of_clean h]
  rfl

/-- What the errors of a Kernel's reads touch. -/
abbrev readFields (x : Nat) : List Reg :=
  [H.ERR_COUNT (pgKe x), H.IRQ_RAW (pgKe x), R.GLOG_CNT_LOST, R.GLOG_STATUS_LOST_SEEN]

theorem State.spares_schedRead_errors (s : State) (x d : Nat) : s.spares (readFields x) (s.schedRead x d).2 := by
  have hread (w : State) (a n : Nat) : w.spares (readFields x) (w.engineRead (pgKe x) a n).2 :=
    w.spares_engineRead _ _ _ (by simp) (by simp) (by simp) (by simp)
  exact List.foldlRecOn (motive := fun (c : Bool × State) => s.spares (readFields x) c.2) _ _ (hread s _ _)
    (fun _ hc _ _ => (hc.trans (hread _ _ _)).trans (hread _ _ _))

theorem State.sameBut_schedRead (s : State) (x d : Nat) :
    s.sameBut [.dblTable, .dblCapt, .recent, .log, .pod, .regs] (s.schedRead x d).2 :=
  keeps_schedRead (keeps_sameBut _ s) s x d (State.sameBut_refl _ s)

/-! ### The check done (R205) -/

/-- The validation is over. -/
def State.validationOver (s : State) (x : Nat) : State := s.setKe x (fun k => { k with valid := none })

/-- What the check has read by then. -/
def State.checked (s : State) (x d : Nat) : State := ((s.validationOver x).schedRead x d).2

theorem State.regsBut_checked (s : State) (x d : Nat) : s.regsBut (readFields x) (s.checked x d) :=
  State.regsBut.trans (t := s.validationOver x) s.regsBut_of_regs (State.spares_schedRead_errors _ x d).regs

theorem State.chan_checked (s : State) (x d : Nat) : (s.checked x d).chan = (s.validationOver x).chan :=
  State.chan_of_sameBut (State.sameBut_schedRead _ x d)

theorem State.staged_checked (s : State) (x d : Nat) : (s.checked x d).staged = s.staged :=
  (State.staged_of_sameBut (State.sameBut_schedRead (s.validationOver x) x d)).trans rfl

theorem State.regs_checked_of_clean (h : s.ecc = []) (x d : Nat) : (s.checked x d).regs = s.regs := by
  have hclean : (s.validationOver x).ecc = [] := h
  unfold State.checked
  rw [State.schedRead_of_clean hclean]
  rfl

theorem State.valid_checked (s : State) (x d : Nat) : ((s.checked x d).ch x).ke.valid = none := by
  rw [State.ch_of_chan (s.chan_checked x d)]
  exact State.ke_setKe_cleared KeSt.valid (fun _ => by rfl) s x

theorem State.schedValid_checked (s : State) (x : Fin 8) (d : Nat) :
    (s.checked x.val d).schedValid x.val d = s.schedValid x.val d := by
  have hnot : ∀ x : Fin 8, R.BOOT_TBL_VALID_KE.key ∉ (readFields x.val).map Reg.key := by decide
  have hmem : (s.checked x.val d).mem = s.mem :=
    (State.mem_of_sameBut (State.sameBut_schedRead (s.validationOver x.val) x.val d)).trans rfl
  unfold State.schedValid
  rw [s.regsBut_checked x.val d _ (hnot x), hmem]

/-- The schedule waits for its sample. -/
def State.readied (s : State) (x d : Nat) : State :=
  (s.checked x d).setKe x (fun k => { k with ready := some d })

theorem State.lt_checked (h : (s.ch x.val).ke.valid ≠ none) (d : Nat) : x.val < (s.checked x.val d).chan.length := by
  rw [State.chan_checked]
  exact (State.lt_of_valid h).trans_eq (List.length_modify ..).symm

theorem State.ke_readied (h : (s.ch x.val).ke.valid ≠ none) (d : Nat) :
    ((s.readied x.val d).ch x.val).ke.ready = some d ∧ ((s.readied x.val d).ch x.val).ke.valid = none := by
  unfold State.readied
  rw [State.ke_setKe_same (State.lt_checked h d)]
  exact ⟨rfl, s.valid_checked x.val d⟩

/-- A schedule that waits changes neither the staged values nor, where no word is bad, any register (R205). -/
theorem State.rest_readied (s : State) (x : Fin 8) (d : Nat) : (s.readied x.val d).staged = s.staged
    ∧ (s.readied x.val d).keState x.val = s.keState x.val
    ∧ (s.ecc = [] → (s.readied x.val d).regs = s.regs) := by
  have hnot : ∀ x : Fin 8, (R.KE_ACTIVE_STATE x.val).key ∉ (readFields x.val).map Reg.key := by decide
  unfold State.readied State.keState
  rw [State.staged_setKe, State.get_setKe, State.regs_setKe]
  exact ⟨s.staged_checked x.val d, s.regsBut_checked x.val d _ (hnot x), fun hclean =>
    s.regs_checked_of_clean hclean x.val d⟩

/-- The commit that asked for the schedule refused, and the refusal shown. -/
def State.refusalShown (s : State) (x : Nat) : State :=
  ((s.refuseCommit (pgKe x)).setB (R.KE_STATUS_XFER_REFUSED x) true).irq (pgKe x) 7

/-- What comes of a validation whose words are readable or not. -/
theorem exec_scheduleValidationDone (hr : s.cellRuns x.val = true) (hv : (s.ch x.val).ke.valid = some v) :
    exec (.scheduleValidationDone dt x) s = .next (
      if (s.schedRead x.val v.sched).1 = false then ((s.elapse dt).checked x.val v.sched).kernelFault x.val 5
      else if s.schedValid x.val v.sched = true then
        (s.elapse dt).readied x.val v.sched
      else if v.commit = true then ((s.elapse dt).checked x.val v.sched).refusalShown x.val
      else ((s.elapse dt).checked x.val v.sched).kernelFault x.val 6) := by
  have hv' : ((s.elapse dt).ch x.val).ke.valid = some v := hv
  have hr' : (s.elapse dt).cellRuns x.val = true := hr
  have hread : (((s.elapse dt).validationOver x.val).schedRead x.val v.sched).1
      = (s.schedRead x.val v.sched).1 := by
    rw [State.fst_schedRead, State.fst_schedRead]
    rfl
  have hvalid : ((s.elapse dt).checked x.val v.sched).schedValid x.val v.sched = s.schedValid x.val v.sched :=
    (s.elapse dt).schedValid_checked x v.sched
  change execScheduleValidationDone dt x s = _
  unfold execScheduleValidationDone
  simp only [hv', hr', if_true]
  rw [← hread, ← hvalid]
  unfold State.readied State.checked State.refusalShown State.validationOver
  cases (((s.elapse dt).validationOver x.val).schedRead x.val v.sched).1 <;>
    simp [apply_ite Host.Outcome.next]

/-- A refused commit no longer waits, and the refusal and its event show (R205). -/
theorem State.shown_refusalShown (s : State) (x : Fin 8) :
    (s.refusalShown x.val).flag (R.KE_STATUS_XFER_REFUSED x.val) = true
    ∧ (s.refusalShown x.val).flag (H.COMMIT_GO (pgKe x.val)) = false
    ∧ ((s.refusalShown x.val).get (H.IRQ_RAW (pgKe x.val))).testBit 7 = true
    ∧ (s.refusalShown x.val).chan = s.chan := by
  have hkeys : ∀ x : Fin 8, (R.KE_STATUS_XFER_REFUSED x.val).key ≠ (H.IRQ_RAW (pgKe x.val)).key
      ∧ (H.COMMIT_GO (pgKe x.val)).key ∉ [H.ERR_COUNT (pgKe x.val), R.KE_STATUS_XFER_REFUSED x.val,
        H.IRQ_RAW (pgKe x.val)].map Reg.key := by decide
  obtain ⟨hmark, hgo⟩ := hkeys x
  have htold : ((s.dropStaged (pgKe x.val)).setB (H.COMMIT_GO (pgKe x.val)) false).regsBut
      [H.ERR_COUNT (pgKe x.val), R.KE_STATUS_XFER_REFUSED x.val, H.IRQ_RAW (pgKe x.val)] (s.refusalShown x.val) :=
    (State.regsBut_of_regs _).err.setB.irq
  refine ⟨?_, ?_, State.event_irq _ (by decide), ?_⟩
  · unfold State.refusalShown
    rw [State.flag_eq, State.get_irq_other hmark, ← State.flag_eq]
    exact State.flag_setB_same (by simp [R.KE_STATUS_XFER_REFUSED]) (by simp [R.KE_STATUS_XFER_REFUSED])
  · rw [htold.flag hgo]
    exact State.flag_setB_same (by simp [H.COMMIT_GO]) (by simp [H.COMMIT_GO])
  · exact (State.chan_irq ..).trans ((State.chan_setB ..).trans (State.chan_refuseCommit s _))

end Sys2Proof.Machine
end

section
/-! The Kernel's controls (O45): a write of `CTRL.EN`, and a test's start and end (R210, R211). -/

-- One proof after another: many at once take a thread each (see Laws/KeepsChannel).
set_option Elab.async false

namespace Sys2Proof.Machine

variable {s : State} {x : Fin 8} {dt : Nat} {pass : Bool}

theorem keyEn_ne_state (x : Fin 8) : (R.KE_CTRL_EN x.val).key ≠ (R.KE_ACTIVE_STATE x.val).key := by
  revert x
  decide

theorem State.flag_keEn_setB (s : State) (x : Nat) (v : Bool) :
    (s.setB (R.KE_CTRL_EN x) v).flag (R.KE_CTRL_EN x) = v :=
  State.flag_setB_same (by simp [R.KE_CTRL_EN]) (by simp [R.KE_CTRL_EN])

theorem State.keState_set (s : State) (x : Nat) {v : Nat} (hv : v < 4) :
    (s.set (R.KE_ACTIVE_STATE x) v).keState x = v :=
  State.get_set_fits hv (by simp [R.KE_ACTIVE_STATE])

/-! ### `EN` written (R210) -/

theorem State.keEnable_of_refused (h : s.flag (R.PWM_STATUS_CH_FAULT x.val) = true
    ∨ s.flag (R.KE_STATUS_TEST_FAIL x.val) = true ∨ s.keState x.val = kTest) :
    s.keEnable x.val = s.err (pgKe x.val) := if_pos h

/-- `EN` set where nothing forbids it arms a stopped Kernel. -/
theorem State.shown_keEnable (hf : s.flag (R.PWM_STATUS_CH_FAULT x.val) = false)
    (ht : s.flag (R.KE_STATUS_TEST_FAIL x.val) = false) (hs : s.keState x.val ≠ kTest) :
    (s.keEnable x.val).flag (R.KE_CTRL_EN x.val) = true
    ∧ (s.keEnable x.val).keState x.val = if s.keState x.val = kOff then kArmed else s.keState x.val := by
  have hstate : (s.setB (R.KE_CTRL_EN x.val) true).keState x.val = s.keState x.val :=
    State.get_setB_other (keyEn_ne_state x).symm
  have htaken : s.keEnable x.val = if s.keState x.val = kOff then
      (s.setB (R.KE_CTRL_EN x.val) true).set (R.KE_ACTIVE_STATE x.val) kArmed
      else s.setB (R.KE_CTRL_EN x.val) true := by
    rw [← hstate]
    exact if_neg (by simp [hf, ht, hs])
  rw [htaken]
  split
  · refine ⟨?_, State.keState_set _ _ (by decide)⟩
    rw [State.flag_eq, State.get_set_other _ _ (keyEn_ne_state x), ← State.flag_eq, State.flag_keEn_setB]
  · exact ⟨State.flag_keEn_setB .., hstate⟩

/-- `EN` cleared faults a Kernel that drives running legs. -/
theorem State.keDisable_of_driving (hen : s.flag (R.KE_CTRL_EN x.val) = true)
    (hpwm : s.flag (R.PWM_CTRL_EN x.val) = true) (hlegs : (List.range 4).any (s.legKernel x.val) = true) :
    s.keDisable x.val = s.kernelFault x.val 7 :=
  (if_pos hen).trans (if_pos ⟨hpwm, hlegs⟩)

/-- `EN` cleared with the PWM off stops the Kernel, at once or after the sample in progress. -/
theorem State.keDisable_of_idle (hen : s.flag (R.KE_CTRL_EN x.val) = true)
    (hpwm : s.flag (R.PWM_CTRL_EN x.val) = false) :
    s.keDisable x.val = if (s.ch x.val).ke.sample.isNone then
        ((s.setB (R.KE_CTRL_EN x.val) false).set (R.KE_ACTIVE_STATE x.val) kOff).keHalted x.val
      else (s.setB (R.KE_CTRL_EN x.val) false).setKe x.val (fun k => { k with stopping := true }) := by
  have hch : (s.setB (R.KE_CTRL_EN x.val) false).ch x.val = s.ch x.val := State.ch_of_chan
  rw [← hch]
  exact (if_pos hen).trans (if_neg (by simp [hpwm]))

theorem State.regsBut_keHalted (s : State) (x : Nat) : s.regsBut [R.KE_STATUS_FB_DEGRADED x] (s.keHalted x) :=
  s.regsBut_of_regs.setB.setKe

theorem State.shown_keDisable (hen : s.flag (R.KE_CTRL_EN x.val) = true)
    (hpwm : s.flag (R.PWM_CTRL_EN x.val) = false) :
    (s.keDisable x.val).flag (R.KE_CTRL_EN x.val) = false
    ∧ ((s.ch x.val).ke.sample = none → (s.keDisable x.val).keState x.val = kOff)
    ∧ ((s.ch x.val).ke.sample ≠ none → ((s.keDisable x.val).ch x.val).ke.stopping = true) := by
  have hnot : ∀ x : Fin 8, ∀ q ∈ [R.KE_CTRL_EN x.val, R.KE_ACTIVE_STATE x.val],
      q.key ∉ [R.KE_STATUS_FB_DEGRADED x.val].map Reg.key := by decide
  rw [State.keDisable_of_idle hen hpwm]
  split
  next hidle =>
    refine ⟨?_, fun _ => ?_, fun hne => absurd (Option.isNone_iff_eq_none.1 hidle) hne⟩
    · rw [(State.regsBut_keHalted _ x.val).flag (hnot x _ (by simp)), State.flag_eq,
        State.get_set_other _ _ (keyEn_ne_state x), ← State.flag_eq, State.flag_keEn_setB]
    · exact (State.regsBut_keHalted _ x.val _ (hnot x _ (by simp))).trans (State.keState_set _ _ (by decide))
  next hbusy =>
    refine ⟨State.flag_keEn_setB .., fun hnone => absurd (Option.isNone_iff_eq_none.2 hnone) hbusy, fun hne => ?_⟩
    rw [State.ke_setKe_same (by rw [State.chan_setB]; exact State.lt_of_sample hne)]

/-! ### The test (R211) -/

/-- `TEST` and the state of a Kernel under test. -/
def State.underTest (s : State) (x : Nat) : State :=
  (s.setB (R.KE_CTRL_TEST x) true).set (R.KE_ACTIVE_STATE x) kTest

theorem State.shown_underTest (s : State) (x : Fin 8) :
    (s.underTest x.val).keState x.val = kTest ∧ (s.underTest x.val).flag (R.KE_CTRL_TEST x.val) = true := by
  have hkeys : ∀ x : Fin 8, (R.KE_CTRL_TEST x.val).key ≠ (R.KE_ACTIVE_STATE x.val).key := by decide
  refine ⟨State.keState_set _ _ (by decide), ?_⟩
  unfold State.underTest
  rw [State.flag_eq, State.get_set_other _ _ (hkeys x), ← State.flag_eq]
  exact State.flag_setB_same (by simp [R.KE_CTRL_TEST]) (by simp [R.KE_CTRL_TEST])

/-- A test begins where neither the Kernel nor the PWM is enabled; its end is 38,912 cycles later. -/
theorem State.keTest_of_idle (hen : s.flag (R.KE_CTRL_EN x.val) = false)
    (hpwm : s.flag (R.PWM_CTRL_EN x.val) = false) (hs : s.keState x.val ≠ kTest) : s.keTest x.val
      = (s.underTest x.val).setKe x.val (fun k => { k with testEnd := s.now + 38912 * cellCycle }) := by
  have hnow : (s.underTest x.val).now = s.now := by simp [State.underTest]
  rw [← hnow]
  exact if_neg (by simp [hen, hpwm, hs])

theorem State.testEnd_underTest {f : KeSt → KeSt} {e : Nat} (hx : x.val < s.chan.length)
    (hf : ∀ k, (f k).testEnd = e) : (((s.underTest x.val).setKe x.val f).ch x.val).ke.testEnd = e := by
  rw [State.ke_setKe_same (by simpa [State.underTest] using hx), hf]

/-- The pattern is over, and whether its signature agreed shows. -/
def State.testShown (s : State) (x : Nat) (pass : Bool) : State :=
  let s := (s.setB (R.KE_CTRL_TEST x) false).set (R.KE_ACTIVE_STATE x) kOff
  (s.setB (R.KE_STATUS_TEST_PASS x) pass).setB (R.KE_STATUS_TEST_FAIL x) (!pass)

/-- The end of a test told: a failure is recorded too. -/
def State.testTold (s : State) (x : Nat) (pass : Bool) : State :=
  if pass then s.irq (pgKe x) 10 else s.irqLog (pgKe x) 10 2

theorem exec_kernelTestDone (hr : s.cellRuns x.val = true) (hs : s.keState x.val = kTest)
    (ht : (s.ch x.val).ke.testEnd ≤ s.now + dt) : exec (.kernelTestDone dt x pass) s
      = .next (((s.elapse dt).testShown x.val pass).testTold x.val pass) :=
  if_pos ⟨hr, hs, ht⟩

theorem State.regsBut_testTold (s : State) (x : Nat) (pass : Bool) :
    s.regsBut [H.IRQ_RAW (pgKe x), R.GLOG_CNT_LOST, R.GLOG_STATUS_LOST_SEEN] (s.testTold x pass) :=
  .ite s.regsBut_of_regs.irq s.regsBut_of_regs.irqLog

theorem State.event_testTold (s : State) (x : Fin 8) (pass : Bool) :
    ((s.testTold x.val pass).get (H.IRQ_RAW (pgKe x.val))).testBit 10 = true := by
  have hnot : ∀ x : Fin 8, (H.IRQ_RAW (pgKe x.val)).key
      ∉ [R.GLOG_CNT_LOST, R.GLOG_STATUS_LOST_SEEN].map Reg.key := by decide
  unfold State.testTold
  split
  · exact State.event_irq _ (by decide)
  · unfold State.irqLog
    rw [State.get_logIt (hnot x)]
    exact State.event_irq _ (by decide)

theorem State.shown_testShown (s : State) (x : Fin 8) (pass : Bool) :
    (s.testShown x.val pass).keState x.val = kOff
    ∧ (s.testShown x.val pass).flag (R.KE_STATUS_TEST_PASS x.val) = pass
    ∧ (s.testShown x.val pass).flag (R.KE_STATUS_TEST_FAIL x.val) = !pass
    ∧ (s.testShown x.val pass).flag (R.KE_CTRL_TEST x.val) = false := by
  have hkeys : ∀ x : Fin 8, (∀ q ∈ [R.KE_ACTIVE_STATE x.val, R.KE_CTRL_TEST x.val],
      q.key ∉ [R.KE_STATUS_TEST_PASS x.val, R.KE_STATUS_TEST_FAIL x.val].map Reg.key)
      ∧ (R.KE_STATUS_TEST_PASS x.val).key ≠ (R.KE_STATUS_TEST_FAIL x.val).key
      ∧ (R.KE_CTRL_TEST x.val).key ≠ (R.KE_ACTIVE_STATE x.val).key := by decide
  obtain ⟨hmarks, hpass, htest⟩ := hkeys x
  unfold State.testShown
  extract_lets ended
  have hmarked : ended.regsBut [R.KE_STATUS_TEST_PASS x.val, R.KE_STATUS_TEST_FAIL x.val]
      ((ended.setB (R.KE_STATUS_TEST_PASS x.val) pass).setB (R.KE_STATUS_TEST_FAIL x.val) (!pass)) :=
    ended.regsBut_of_regs.setB.setB
  refine ⟨?_, ?_, State.flag_setB_same (by simp [R.KE_STATUS_TEST_FAIL]) (by simp [R.KE_STATUS_TEST_FAIL]), ?_⟩
  · exact (hmarked _ (hmarks _ (by simp))).trans (State.keState_set _ _ (by decide))
  · rw [State.flag_setB_other hpass]
    exact State.flag_setB_same (by simp [R.KE_STATUS_TEST_PASS]) (by simp [R.KE_STATUS_TEST_PASS])
  · rw [hmarked.flag (hmarks _ (by simp)), State.flag_eq, State.get_set_other _ _ htest, ← State.flag_eq]
    exact State.flag_setB_same (by simp [R.KE_CTRL_TEST]) (by simp [R.KE_CTRL_TEST])

/-- The end of a test, told: the Kernel is off again, and its marks and its event show. -/
theorem State.shown_testTold (s : State) (x : Fin 8) (pass : Bool) :
    ((s.testShown x.val pass).testTold x.val pass).keState x.val = kOff
    ∧ ((s.testShown x.val pass).testTold x.val pass).flag (R.KE_STATUS_TEST_PASS x.val) = pass
    ∧ ((s.testShown x.val pass).testTold x.val pass).flag (R.KE_STATUS_TEST_FAIL x.val) = !pass
    ∧ ((s.testShown x.val pass).testTold x.val pass).flag (R.KE_CTRL_TEST x.val) = false := by
  have hnot : ∀ x : Fin 8, ∀ q ∈ [R.KE_ACTIVE_STATE x.val, R.KE_STATUS_TEST_PASS x.val,
      R.KE_STATUS_TEST_FAIL x.val, R.KE_CTRL_TEST x.val],
      q.key ∉ [H.IRQ_RAW (pgKe x.val), R.GLOG_CNT_LOST, R.GLOG_STATUS_LOST_SEEN].map Reg.key := by decide
  have htold := (s.testShown x.val pass).regsBut_testTold x.val pass
  obtain ⟨hstate, hpass, hfail, htest⟩ := s.shown_testShown x pass
  refine ⟨(htold _ (hnot x _ (by simp))).trans hstate, ?_, ?_, ?_⟩
  · rw [htold.flag (hnot x _ (by simp)), hpass]
  · rw [htold.flag (hnot x _ (by simp)), hfail]
  · rw [htold.flag (hnot x _ (by simp)), htest]

end Sys2Proof.Machine
end

section
/-! The compare write of a sample (O45): the outputs shown, what is written to the legs, and the deadline met (R186
step 9, R194 to R197, R212, R225). -/

-- One proof after another: many at once take a thread each (see Laws/KeepsChannel).
set_option Elab.async false

namespace Sys2Proof.Machine

variable {s t : State} {l : List Reg} {x : Fin 8} {j dt : Nat} {p : KeSample}

theorem ux_lt (w : Nat) (i : Int) : ux w i < 2 ^ w := by
  have hpos : (0 : Int) < (2 ^ w : Nat) := by positivity
  have hlt := Int.emod_lt_of_pos i hpos
  have hnonneg := Int.emod_nonneg i hpos.ne'
  unfold ux
  omega

/-! ### The outputs (R194 to R197) -/

/-- Output `j` of sample `p` shown: its index and its marks. -/
def State.outputMarked (s : State) (x : Nat) (p : KeSample) (j : Nat) : State :=
  ((s.set (R.KE_OUT_INDEX x j) (ux 16 (p.idx.getD j 0))).setB (R.KE_OUT_LIMITED x j) (p.lim.getD j false)).setB
    (R.KE_OUT_NORM_SAT x j) (p.raised.getD j false)

/-- A clamp and a raised divisor of output `j` counted. -/
def State.outputCounted (s : State) (x : Nat) (p : KeSample) (j : Nat) : State :=
  let s := if p.lim.getD j false then s.inc (R.KE_LIM_CNT_COUNT x j) else s
  if p.raised.getD j false then
    ((s.setB (R.KE_STATUS_NORM_SAT x) true).inc (R.KE_CNT_C_NORM_SAT x)).irq (pgKe x) 12
  else s

/-- The four outputs shown and counted. -/
def State.outputsShown (s : State) (x : Nat) (p : KeSample) : State :=
  (List.range 4).foldl (fun t j => (t.outputMarked x p j).outputCounted x p j) s

/-- What output `j` touches beside its index and its clamp mark. -/
abbrev outputFields (x j : Nat) : List Reg :=
  [R.KE_OUT_NORM_SAT x j, R.KE_LIM_CNT_COUNT x j, R.KE_STATUS_NORM_SAT x, R.KE_CNT_C_NORM_SAT x, H.IRQ_RAW (pgKe x)]

theorem State.regsBut_outputCounted (s : State) (x : Nat) (p : KeSample) (j : Nat) :
    s.regsBut (outputFields x j) (s.outputCounted x p j) := by
  unfold State.outputCounted
  extract_lets counted
  have hcounted : s.regsBut (outputFields x j) counted := .ite s.regsBut_of_regs.inc s.regsBut_of_regs
  exact .ite hcounted.setB.inc.irq hcounted

theorem State.regsBut_outputMarked (s : State) (x : Nat) (p : KeSample) (j : Nat) : s.regsBut
    [R.KE_OUT_INDEX x j, R.KE_OUT_LIMITED x j, R.KE_OUT_NORM_SAT x j] (s.outputMarked x p j) :=
  s.regsBut_of_regs.set.setB.setB

/-- The index and the clamp mark of output `j` are those of the sample. -/
abbrev State.showsOutput (s : State) (x : Nat) (p : KeSample) (j : Nat) : Prop :=
  s.get (R.KE_OUT_INDEX x j) = ux 16 (p.idx.getD j 0) ∧ s.flag (R.KE_OUT_LIMITED x j) = p.lim.getD j false

theorem State.showsOutput.of_regsBut (h : s.showsOutput x.val p j) (ht : s.regsBut l t)
    (hl : ∀ q ∈ [R.KE_OUT_INDEX x.val j, R.KE_OUT_LIMITED x.val j], q.key ∉ l.map Reg.key) :
    t.showsOutput x.val p j := by
  obtain ⟨hindex, hmark⟩ := h
  exact ⟨(ht _ (hl _ (by simp))).trans hindex, (ht.flag (hl _ (by simp))).trans hmark⟩

theorem output_notMem_counted (x : Fin 8) (j k : Fin 4) : ∀ q ∈ [R.KE_OUT_INDEX x.val j.val,
    R.KE_OUT_LIMITED x.val j.val], q.key ∉ (outputFields x.val k.val).map Reg.key := by
  revert x j k
  decide +kernel

theorem output_notMem_marked (x : Fin 8) (j k : Fin 4) (h : j ≠ k) : ∀ q ∈ [R.KE_OUT_INDEX x.val j.val,
    R.KE_OUT_LIMITED x.val j.val], q.key ∉ [R.KE_OUT_INDEX x.val k.val, R.KE_OUT_LIMITED x.val k.val,
      R.KE_OUT_NORM_SAT x.val k.val].map Reg.key := by
  revert x j k
  decide +kernel

theorem State.showsOutput_outputMarked (s : State) (x : Fin 8) (p : KeSample) (j : Fin 4) :
    (s.outputMarked x.val p j.val).showsOutput x.val p j.val := by
  have hkeys : ∀ (x : Fin 8) (j : Fin 4), (R.KE_OUT_INDEX x.val j.val).key ≠ (R.KE_OUT_LIMITED x.val j.val).key
      ∧ (R.KE_OUT_INDEX x.val j.val).key ≠ (R.KE_OUT_NORM_SAT x.val j.val).key
      ∧ (R.KE_OUT_LIMITED x.val j.val).key ≠ (R.KE_OUT_NORM_SAT x.val j.val).key := by decide
  obtain ⟨hindex, hindexSat, hlimited⟩ := hkeys x j
  unfold State.outputMarked
  constructor
  · rw [State.get_setB_other hindexSat, State.get_setB_other hindex]
    exact State.get_set_fits (ux_lt 16 _) (by simp [R.KE_OUT_INDEX])
  · rw [State.flag_setB_other hlimited]
    exact State.flag_setB_same (by simp [R.KE_OUT_LIMITED]) (by simp [R.KE_OUT_LIMITED])

/-- Each output is shown by its own step, and no step of another output undoes that. -/
theorem State.showsOutput_outputsShown (s : State) (x : Fin 8) (p : KeSample) (j : Fin 4) :
    (s.outputsShown x.val p).showsOutput x.val p j.val := by
  have hown (t : State) : ((t.outputMarked x.val p j.val).outputCounted x.val p j.val).showsOutput x.val p j.val :=
    (t.showsOutput_outputMarked x p j).of_regsBut (State.regsBut_outputCounted _ x.val p j.val)
      (output_notMem_counted x j j)
  refine foldl_reaches (f := fun t k => (t.outputMarked x.val p k).outputCounted x.val p k) (I := fun _ => True)
    (P := fun t => t.showsOutput x.val p j.val) (List.mem_range.2 j.isLt) (fun _ _ _ _ => trivial)
    (fun t _ => hown t) (fun t k hk h => ?_) trivial
  lift k to Fin 4 using List.mem_range.1 hk
  rcases eq_or_ne j k with rfl | hne
  · exact hown t
  · have hmarked := h.of_regsBut (t.regsBut_outputMarked x.val p k.val) (output_notMem_marked x j k hne)
    exact hmarked.of_regsBut (State.regsBut_outputCounted _ x.val p k.val) (output_notMem_counted x j k)

theorem State.chan_output (s : State) (x : Nat) (p : KeSample) (j : Nat) :
    ((s.outputMarked x p j).outputCounted x p j).chan = s.chan := by
  unfold State.outputCounted State.outputMarked
  simp only [apply_ite State.chan, State.chan_irq, State.chan_inc, State.chan_setB, State.chan_set, ite_self]

theorem State.chan_outputsShown (s : State) (x : Nat) (p : KeSample) : (s.outputsShown x p).chan = s.chan :=
  List.foldlRecOn (motive := fun (t : State) => t.chan = s.chan) (List.range 4)
    (fun t j => (t.outputMarked x p j).outputCounted x p j) rfl (fun t ht j _ => (t.chan_output x p j).trans ht)

/-! ### The clamps (R196) -/

/-- The clamped outputs of a sample, as a mask. -/
def KeSample.clamps (p : KeSample) : Nat :=
  (List.range 4).foldl (fun m j => if p.lim.getD j false then setBit m j else m) 0

/-- A mask is 0 where no bit of it was set. -/
theorem foldl_setBit_ne_zero (c : Nat → Bool) (l : List Nat) (m : Nat) :
    decide (l.foldl (fun m j => if c j then setBit m j else m) m ≠ 0) = (decide (m ≠ 0) || l.any c) := by
  induction l generalizing m with
  | nil => rw [List.foldl_nil, List.any_nil, Bool.or_false]
  | cons j l ih =>
    rw [List.foldl_cons, ih, List.any_cons, ← Bool.or_assoc]
    cases c j with
    | false => simp
    | true => simp [setBit]

theorem KeSample.clamps_ne_zero (p : KeSample) :
    decide (p.clamps ≠ 0) = (List.range 4).any (fun j => p.lim.getD j false) :=
  (foldl_setBit_ne_zero _ _ 0).trans (Bool.false_or _)

/-- Whether an output is clamped, and the event of one that was not before. -/
def State.clampsShown (s : State) (x : Nat) (p : KeSample) : State :=
  let began := (List.range 4).any (fun j => p.clamps.testBit j && !(s.ch x).ke.limited.testBit j)
  (if began then s.irq (pgKe x) 9 else s).setB (R.KE_STATUS_LIMITED x) (decide (p.clamps ≠ 0))

theorem State.regsBut_clampsShown (s : State) (x : Nat) (p : KeSample) :
    s.regsBut [H.IRQ_RAW (pgKe x), R.KE_STATUS_LIMITED x] (s.clampsShown x p) :=
  (State.regsBut.ite s.regsBut_of_regs.irq s.regsBut_of_regs).setB

theorem State.limited_clampsShown (s : State) (x : Nat) (p : KeSample) : (s.clampsShown x p).flag
    (R.KE_STATUS_LIMITED x) = (List.range 4).any (fun j => p.lim.getD j false) := by
  rw [← p.clamps_ne_zero]
  exact State.flag_setB_same (by simp [R.KE_STATUS_LIMITED]) (by simp [R.KE_STATUS_LIMITED])

theorem State.chan_clampsShown (s : State) (x : Nat) (p : KeSample) : (s.clampsShown x p).chan = s.chan := by
  unfold State.clampsShown
  simp only [apply_ite State.chan, State.chan_irq, State.chan_setB, ite_self]

/-! ### The legs (R197, R225) -/

/-- The indices of a sample written to the legs that the Kernel drives, or the zero state in their place. -/
def State.indicesWritten (s : State) (x : Nat) (p : KeSample) : State :=
  if (s.ch x).cell.subst then s.writeZeroState x
  else (List.range 4).foldl
    (fun t y =>
      if t.flag (R.KE_OUT_MAP_EN x y) then
        let m := p.idx.getD (t.get (R.KE_OUT_MAP_SEL x y)) 0
        t.writeIndex x y (if t.flag (R.KE_OUT_MAP_NEG x y) then (if m = -32768 then 32767 else -m) else m)
      else t) s

theorem State.sample_writeIndex (s : State) (x y : Nat) (m : Int) : s.agreesOn ChSt.sample (s.writeIndex x y m) :=
  .ite (.setCh s.agreesOn_refl fun _ => by rfl) s.agreesOn_refl

theorem State.sample_indicesWritten (s : State) (x : Nat) (p : KeSample) :
    s.agreesOn ChSt.sample (s.indicesWritten x p) :=
  .ite ((s.sample_writeIndex x 2 0).trans (State.sample_writeIndex _ x 3 0))
    (State.agreesOn.foldl (fun t y _ => .ite (t.sample_writeIndex x y _) t.agreesOn_refl) s)

theorem State.regs_writeIndex (s : State) (x y : Nat) (m : Int) : (s.writeIndex x y m).regs = s.regs :=
  State.regs_of_sameBut (keeps_writeIndex (keeps_sameBut [.chan] s) s x y m (State.sameBut_refl _ s))

theorem State.regsBut_indicesWritten (s : State) (x : Nat) (p : KeSample) : s.regsBut l (s.indicesWritten x p) :=
  .ite (s.regsBut_of_regs ((State.regs_writeIndex _ x 3 0).trans (s.regs_writeIndex x 2 0)))
    (State.regsBut.foldl (fun t y _ => .ite (t.regsBut_of_regs (t.regs_writeIndex x y _)) t.regsBut_of_regs) s)

/-! ### The deadline (R212) -/

/-- A deadline that an earlier sample opened is met in time, and a running Kernel opens the next. -/
def State.compareMet (s : State) (x : Nat) (p : KeSample) : State :=
  let s :=
    match (s.ch x).ke.due, dlPair (pgKe x) 0x070 with
    | some (o, e), some d =>
      if o ≠ p.at_ ∧ s.now ≤ e then (s.dlMeet d).setKe x (fun k => { k with missRun := 0 }) else s
    | _, _ => s
  if s.keState x = kRun then s.keOpen x p.at_ else s

theorem dlPair_pgKe (x : Fin 8) : ∀ d ∈ dlPair (pgKe x.val) 0x070,
    d.run = R.KE_DL_COUNT_RUN x.val ∧ d.page = pgKe x.val := by
  revert x
  decide

theorem State.compareMet_keeps (s : State) (x : Fin 8) (p : KeSample) :
    s.regsBut [R.KE_DL_COUNT_RUN x.val, H.DL_RUN (pgKe x.val)] (s.compareMet x.val p)
    ∧ s.agreesOn ChSt.sample (s.compareMet x.val p) := by
  unfold State.compareMet
  extract_lets met
  have hmet : s.regsBut [R.KE_DL_COUNT_RUN x.val, H.DL_RUN (pgKe x.val)] met ∧ s.agreesOn ChSt.sample met := by
    dsimp only [met]
    split
    next o e d _ hd =>
      obtain ⟨hrun, hpage⟩ := dlPair_pgKe x d hd
      have hregs := s.regsBut_dlMeet d
      rw [hrun, hpage] at hregs
      have hchan : (s.dlMeet d).chan = s.chan := (State.chan_setB ..).trans (State.chan_set ..)
      exact ⟨.ite hregs.setKe s.regsBut_of_regs, .ite (.setCh (s.agreesOn_refl.keep hchan) fun _ => by rfl)
        s.agreesOn_refl⟩
    next => exact ⟨s.regsBut_of_regs, s.agreesOn_refl⟩
  obtain ⟨hregs, hsample⟩ := hmet
  exact ⟨.ite hregs.setKe hregs, .ite (hsample.setCh fun _ => by rfl) hsample⟩

/-! ### The command -/

/-- What the compare write does before it ends step 9. -/
def State.compared (s : State) (x : Nat) (p : KeSample) : State :=
  (((s.outputsShown x p).clampsShown x p).indicesWritten x p).compareMet x p

theorem exec_kernelCompareWrite (hr : s.cellRuns x.val = true) (hp : (s.ch x.val).ke.sample = some p)
    (hw : p.written = false) (ht : p.at_ + 448 * cellCycle ≤ s.now + dt) : exec (.kernelCompareWrite dt x) s
      = .next (((s.elapse dt).compared x.val p).setKe x.val
        (fun k => { k with limited := p.clamps, sample := some { p with written := true } })) := by
  have hp' : ((s.elapse dt).ch x.val).ke.sample = some p := hp
  change execKernelCompareWrite dt x s = _
  unfold execKernelCompareWrite
  simp only [hp']
  exact if_pos ⟨hr, hw, ht⟩

theorem State.sample_compared (s : State) (x : Fin 8) (p : KeSample) :
    s.agreesOn ChSt.sample (s.compared x.val p) := by
  have hshown : s.agreesOn ChSt.sample ((s.outputsShown x.val p).clampsShown x.val p) :=
    s.agreesOn_refl.keep ((State.chan_clampsShown ..).trans (s.chan_outputsShown x.val p))
  obtain ⟨-, hmet⟩ :=
    State.compareMet_keeps (((s.outputsShown x.val p).clampsShown x.val p).indicesWritten x.val p) x p
  exact (hshown.trans (State.sample_indicesWritten _ x.val p)).trans hmet

/-- Every output, and whether any is clamped, as the sample gives them (R194 to R196). -/
theorem State.shown_compared (s : State) (x : Fin 8) (p : KeSample) :
    (∀ j : Fin 4, (s.compared x.val p).showsOutput x.val p j.val)
    ∧ (s.compared x.val p).flag (R.KE_STATUS_LIMITED x.val) = (List.range 4).any (fun j => p.lim.getD j false) := by
  have hmet : ((s.outputsShown x.val p).clampsShown x.val p).regsBut
      [R.KE_DL_COUNT_RUN x.val, H.DL_RUN (pgKe x.val)] (s.compared x.val p) := by
    obtain ⟨hregs, -⟩ :=
      State.compareMet_keeps (((s.outputsShown x.val p).clampsShown x.val p).indicesWritten x.val p) x p
    exact (State.regsBut_indicesWritten _ x.val p).trans hregs
  have houtputs : ∀ (x : Fin 8) (j : Fin 4), ∀ q ∈ [R.KE_OUT_INDEX x.val j.val, R.KE_OUT_LIMITED x.val j.val],
      q.key ∉ [H.IRQ_RAW (pgKe x.val), R.KE_STATUS_LIMITED x.val].map Reg.key
      ∧ q.key ∉ [R.KE_DL_COUNT_RUN x.val, H.DL_RUN (pgKe x.val)].map Reg.key := by decide
  have hclamp : ∀ x : Fin 8, (R.KE_STATUS_LIMITED x.val).key
      ∉ [R.KE_DL_COUNT_RUN x.val, H.DL_RUN (pgKe x.val)].map Reg.key := by decide
  refine ⟨fun j => ?_, ?_⟩
  · exact ((s.showsOutput_outputsShown x p j).of_regsBut (State.regsBut_clampsShown _ x.val p)
      fun q hq => (houtputs x j q hq).1).of_regsBut hmet fun q hq => (houtputs x j q hq).2
  · rw [hmet.flag (hclamp x)]
    exact State.limited_clampsShown _ x.val p

end Sys2Proof.Machine
end

section
/-! The prediction of a sample (O45): the states shown, the sample counted, and what may follow it (R186 step 10, R193,
R210). -/

-- One proof after another: many at once take a thread each (see Laws/KeepsChannel).
set_option Elab.async false

namespace Sys2Proof.Machine

variable {s : State} {x : Fin 8} {dt : Nat} {p : KeSample} {pr : List (Int × Bool)}

/-! ### The states (R193) -/

/-- The predicted states shown. -/
def State.statesShown (s : State) (x : Nat) (pr : List (Int × Bool)) : State :=
  pr.zipIdx.foldl (fun t e => t.set (R.KE_STATE_VALUE x e.2) (ux 64 e.1.1)) s

theorem keyState_ne (x : Nat) {i k : Nat} (h : i ≠ k) :
    (R.KE_STATE_VALUE x i).key ≠ (R.KE_STATE_VALUE x k).key := by
  simp only [Reg.key, R.KE_STATE_VALUE]
  omega

/-- Each state is shown by its own step, and no other step shows anything in its place. -/
theorem State.get_statesShown (s : State) (x : Nat) {i : Nat} (hi : i < pr.length) :
    (s.statesShown x pr).get (R.KE_STATE_VALUE x i) = ux 64 (pr.getD i (0, false)).1 := by
  have hown (t : State) : (t.set (R.KE_STATE_VALUE x i) (ux 64 pr[i].1)).get (R.KE_STATE_VALUE x i) = ux 64 pr[i].1 :=
    State.get_set_fits (ux_lt 64 _) (by simp [R.KE_STATE_VALUE])
  rw [List.getD_eq_getElem _ _ hi]
  refine foldl_reaches (f := fun t (e : (Int × Bool) × Nat) => t.set (R.KE_STATE_VALUE x e.2) (ux 64 e.1.1))
    (I := fun _ => True) (P := fun t => t.get (R.KE_STATE_VALUE x i) = ux 64 pr[i].1) (a := (pr[i], i))
    (List.mem_iff_getElem.2 ⟨i, by simpa using hi, by simp⟩) (fun _ _ _ _ => trivial) (fun t _ => hown t)
    (fun t e he h => ?_) trivial
  obtain ⟨v, k⟩ := e
  rcases eq_or_ne i k with rfl | hne
  · obtain ⟨-, -, hv⟩ := List.mem_zipIdx he
    simpa only [hv, Nat.sub_zero] using hown t
  · exact (State.get_set_other _ _ (keyState_ne x hne)).trans h

theorem State.regsBut_statesShown (s : State) (x : Nat) (pr : List (Int × Bool)) :
    s.regsBut (pr.zipIdx.map fun e => R.KE_STATE_VALUE x e.2) (s.statesShown x pr) :=
  State.regsBut.foldl (fun t e he => t.regsBut_of_regs.set
    (List.mem_map_of_mem (f := fun e : (Int × Bool) × Nat => R.KE_STATE_VALUE x e.2) he)) s

theorem length_predictRow (m : Memory) (x b : Nat) (sc u r w : List Int) :
    (predictRow m x b sc u r w).1.length = 12 := by
  simp [predictRow]

/-! ### The sample counted and ended -/

/-- The prediction `pr`, with `n` saturated accumulators, shown; the sample counted and over. -/
def State.predicted (s : State) (x : Nat) (pr : List (Int × Bool)) (n : Nat) : State :=
  (((s.accSat x n).statesShown x pr).incWrap (R.KE_SEQ_COUNT x)).setKe x (fun k => { k with sample := none })

/-- What follows a prediction: a fault where a state wrapped, the stop where `EN` was cleared in the sample. -/
def State.predictionEnds (s : State) (x : Nat) (wraps : Option Nat) : State :=
  match wraps with
  | some low => s.stateWrap x low
  | none =>
    if (s.ch x).ke.stopping then
      (if s.keState x = kTest then s
        else s.set (R.KE_ACTIVE_STATE x) (if s.flag (R.KE_CTRL_EN x) then kArmed else kOff)).keHalted x
    else s

theorem exec_kernelPredictionDone (hr : s.cellRuns x.val = true) (hp : (s.ch x.val).ke.sample = some p)
    (hw : p.written = true) (ht : p.at_ + 608 * cellCycle ≤ s.now + dt) : exec (.kernelPredictionDone dt x) s
      = .next (((s.elapse dt).predicted x.val (predictRow s.mem x.val p.bank p.sc p.ubar p.r p.w).1
          (predictRow s.mem x.val p.bank p.sc p.ubar p.r p.w).2).predictionEnds x.val
        (firstTrue ((predictRow s.mem x.val p.bank p.sc p.ubar p.r p.w).1.map (fun v => v.2)))) := by
  have hp' : ((s.elapse dt).ch x.val).ke.sample = some p := hp
  change execKernelPredictionDone dt x s = _
  unfold execKernelPredictionDone
  simp only [hp']
  refine (if_pos ⟨hr, hw, ht⟩).trans ?_
  dsimp only [State.mem_elapse]
  generalize firstTrue ((predictRow s.mem x.val p.bank p.sc p.ubar p.r p.w).1.map (fun v => v.2)) = wraps
  cases wraps with
  | some low => rfl
  | none => exact (apply_ite Host.Outcome.next ..).symm

/-- What a prediction can touch beside the states and the count. -/
abbrev satFields (x : Nat) : List Reg := [R.KE_CNT_C_ACC_SAT x, R.KE_STATUS_ACC_SAT x, H.IRQ_RAW (pgKe x)]

theorem State.regsBut_accSat (s : State) (x n : Nat) : s.regsBut (satFields x) (s.accSat x n) := by
  have hcounted : s.regsBut (satFields x) ((List.range n).foldl (fun t _ => t.inc (R.KE_CNT_C_ACC_SAT x)) s) :=
    State.regsBut.foldl (fun t _ _ => t.regsBut_of_regs.inc) s
  exact .ite s.regsBut_of_regs hcounted.setB.irq

theorem State.regsBut_predictionEnds (s : State) (x : Nat) (wraps : Option Nat) :
    s.regsBut (faultFields x) (s.predictionEnds x wraps) := by
  unfold State.predictionEnds
  split
  · exact s.regsBut_stateWrap x _
  · have hstate : s.regsBut (faultFields x) (if s.keState x = kTest then s
        else s.set (R.KE_ACTIVE_STATE x) (if s.flag (R.KE_CTRL_EN x) then kArmed else kOff)) :=
      .ite s.regsBut_of_regs s.regsBut_of_regs.set
    exact .ite hstate.setB.setKe s.regsBut_of_regs

theorem State.sample_predicted (s : State) (x : Nat) (pr : List (Int × Bool)) (n : Nat) :
    ((s.predicted x pr n).ch x).ke.sample = none :=
  State.ke_setKe_cleared KeSt.sample (fun _ => by rfl) _ x

/-- Whatever follows, the sample is over. -/
theorem State.sample_predictionEnds (h : (s.ch x.val).ke.sample = none) (wraps : Option Nat) :
    ((s.predictionEnds x.val wraps).ch x.val).ke.sample = none := by
  unfold State.predictionEnds
  split
  · exact State.sample_channelFault _ x.val
  · split
    · exact State.sample_keHalted _ x.val
    · exact h

theorem stateKeys_notMem (x : Fin 8) : (∀ i : Fin 12, (R.KE_STATE_VALUE x.val i.val).key ≠ (R.KE_SEQ_COUNT x.val).key)
    ∧ (∀ i : Fin 12, (R.KE_STATE_VALUE x.val i.val).key ∉ (faultFields x.val).map Reg.key)
    ∧ (R.KE_SEQ_COUNT x.val).key ∉ (satFields x.val).map Reg.key
    ∧ (R.KE_SEQ_COUNT x.val).key ∉ (faultFields x.val).map Reg.key := by
  revert x
  decide +kernel

/-- The states and the count of a sample that has ended. -/
theorem State.shown_predicted (s : State) (x : Fin 8) (hpr : pr.length = 12) (n : Nat) :
    (∀ i : Fin 12, (s.predicted x.val pr n).get (R.KE_STATE_VALUE x.val i.val)
      = ux 64 (pr.getD i.val (0, false)).1)
    ∧ (s.predicted x.val pr n).get (R.KE_SEQ_COUNT x.val)
      = (s.get (R.KE_SEQ_COUNT x.val) + 1) % 2 ^ (R.KE_SEQ_COUNT x.val).width := by
  obtain ⟨hcount, -, hsat, -⟩ := stateKeys_notMem x
  constructor
  · intro i
    have hstate := (s.accSat x.val n).get_statesShown x.val (pr := pr) (i := i.val) (by omega)
    exact (State.get_set_other _ _ (hcount i)).trans hstate
  · have hsame : ((s.accSat x.val n).statesShown x.val pr).get (R.KE_SEQ_COUNT x.val)
        = s.get (R.KE_SEQ_COUNT x.val) := by
      refine (State.regsBut_statesShown _ x.val pr _ ?_).trans (s.regsBut_accSat x.val n _ hsat)
      simp only [List.map_map, List.mem_map, not_exists, not_and]
      intro e he
      obtain ⟨-, hlt, -⟩ := List.mem_zipIdx he
      exact hcount ⟨e.2, by omega⟩
    have hcounted := State.get_set_fits (s := (s.accSat x.val n).statesShown x.val pr) (r := R.KE_SEQ_COUNT x.val)
      (Nat.mod_lt (((s.accSat x.val n).statesShown x.val pr).get (R.KE_SEQ_COUNT x.val) + 1)
        (Nat.two_pow_pos (R.KE_SEQ_COUNT x.val).width)) (by simp [R.KE_SEQ_COUNT])
    exact hcounted.trans (by rw [hsame])

end Sys2Proof.Machine

open Sys2Proof.Machine

/-- Settles O45: what follows the outputs, the states or the marks of a command touches none of them (`shown_compared`,
`shown_predicted`, `shown_testTold`); what a check answers is told by the bad bits and the memory, which no command
changes before it (`fst_schedRead`); and every fault of the Kernel shows its cause and stops the channel
(`shown_kernelFault`). -/
theorem kernelCommands : Obligations.KernelCommands := by
  unfold Obligations.KernelCommands
  refine ⟨?compare, ?predict, ?ready, ?refuse, ?invalid, ?unreadable, ?enable, ?enableRefused, ?disable,
    ?disableDriving, ?testStart, ?testDone⟩
  case compare =>
    intro s dt x p hr hp hw ht
    obtain ⟨houtputs, hlimited⟩ := (s.elapse dt).shown_compared x p
    have hsample : (((s.elapse dt).compared x.val p).ch x.val).ke.sample = some p :=
      ((s.elapse dt).sample_compared x p x.val).trans hp
    refine ⟨_, exec_kernelCompareWrite hr hp hw ht, fun j => ?_, ?_, ?_⟩
    · rw [State.get_setKe, State.flag_setKe]
      exact houtputs j
    · rw [State.flag_setKe]
      exact hlimited
    · rw [State.ke_setKe_same (State.lt_of_sample (by simp [hsample]))]
  case predict =>
    intro s dt x p hr hp hw ht
    obtain ⟨-, hstates, -, hcount⟩ := stateKeys_notMem x
    obtain ⟨hshown, hcounted⟩ := (s.elapse dt).shown_predicted x
      (length_predictRow s.mem x.val p.bank p.sc p.ubar p.r p.w)
      (predictRow s.mem x.val p.bank p.sc p.ubar p.r p.w).2
    refine ⟨_, exec_kernelPredictionDone hr hp hw ht, fun i => ?_, ?_,
      State.sample_predictionEnds (State.sample_predicted ..) _⟩
    · exact (State.regsBut_predictionEnds _ x.val _ _ (hstates i)).trans (hshown i)
    · exact (State.regsBut_predictionEnds _ x.val _ _ hcount).trans hcounted
  case ready =>
    intro s dt x v hr hv hread hvalid
    obtain ⟨hready, hvoid⟩ := State.ke_readied (s := s.elapse dt) (x := x) (by
      rw [State.ch_of_chan (State.chan_elapse s dt), hv]; simp) v.sched
    exact ⟨_, (exec_scheduleValidationDone hr hv).trans (by rw [if_neg (by simp [hread]), if_pos hvalid]),
      hready, hvoid, (s.elapse dt).rest_readied x v.sched⟩
  case refuse =>
    intro s dt x v hr hv hread hvalid hcommit
    obtain ⟨hmark, hgo, hevent, hchan⟩ := ((s.elapse dt).checked x.val v.sched).shown_refusalShown x
    refine ⟨_, (exec_scheduleValidationDone hr hv).trans (by rw [if_neg (by simp [hread]), if_neg (by simp [hvalid]),
      if_pos hcommit]), hmark, ?_, hgo, hevent⟩
    rw [State.ch_of_chan hchan]
    exact State.valid_checked ..
  case invalid =>
    intro s dt x v hr hv hread hvalid hcommit
    exact ⟨_, (exec_scheduleValidationDone hr hv).trans (by rw [if_neg (by simp [hread]), if_neg (by simp [hvalid]),
      if_neg (by simp [hcommit])]), State.shown_kernelFault _ x (by decide)⟩
  case unreadable =>
    intro s dt x v hr hv hread
    exact ⟨_, (exec_scheduleValidationDone hr hv).trans (by rw [if_pos hread]),
      State.shown_kernelFault _ x (by decide)⟩
  case enable =>
    intro s dt x ho hf ht hs
    exact ⟨_, congrArg Host.Outcome.next (State.hostAct_elapse ho), State.shown_keEnable (s := s.elapse dt) hf ht hs⟩
  case enableRefused =>
    intro s dt x ho h
    have hen : ∀ x : Fin 8, (R.KE_CTRL_EN x.val).key
        ∉ [H.ERR_COUNT (pgKe x.val), H.IRQ_RAW (pgKe x.val)].map Reg.key := by decide
    obtain ⟨hcount, hregs, -⟩ := s.shown_err_elapse dt (pgKe x.val)
    exact ⟨_, congrArg Host.Outcome.next ((State.hostAct_elapse ho).trans
      (State.keEnable_of_refused (s := s.elapse dt) h)), hregs _ (hen x), hcount⟩
  case disable =>
    intro s dt x ho hen hpwm
    exact ⟨_, congrArg Host.Outcome.next (State.hostAct_elapse ho), State.shown_keDisable (s := s.elapse dt) hen hpwm⟩
  case disableDriving =>
    intro s dt x ho hen hpwm hlegs
    obtain ⟨hfault, hcause, -, hoff⟩ := (s.elapse dt).shown_kernelFault x (cause := 7) (by decide)
    exact ⟨_, congrArg Host.Outcome.next ((State.hostAct_elapse ho).trans
      (State.keDisable_of_driving (s := s.elapse dt) hen hpwm hlegs)), hcause, hfault, hoff⟩
  case testStart =>
    intro s dt x ho hshape hen hpwm hs
    obtain ⟨hlength, -⟩ := hshape
    obtain ⟨hstate, hmark⟩ := (s.elapse dt).shown_underTest x
    exact ⟨_, congrArg Host.Outcome.next ((State.hostAct_elapse ho).trans
      (State.keTest_of_idle (s := s.elapse dt) hen hpwm hs)), hstate, hmark,
      State.testEnd_underTest (s := s.elapse dt) (by rw [State.chan_elapse]; omega) fun _ => rfl⟩
  case testDone =>
    intro s dt x pass hr hs ht
    obtain ⟨hstate, hpass, hfail, htest⟩ := (s.elapse dt).shown_testTold x pass
    exact ⟨_, exec_kernelTestDone hr hs ht, hstate, hpass, hfail, htest, State.event_testTold _ x pass⟩

end

section
/-! Rules of the cell power block that tracking rests on (O44): a change of a block, and what its request for a window,
its reference and its perturbation period leave of it and of the registers (R232, R237, R238). -/

-- One proof after another: many at once take a thread each (see Laws/KeepsChannel).
set_option Elab.async false

namespace Sys2Proof.Machine

variable {s : State} {l : List Reg} {x : Nat}

/-! ### A block changed -/

theorem State.cell_setCell_same {f : CellSt → CellSt} (h : x < s.chan.length) :
    ((s.setCell x f).ch x).cell = f (s.ch x).cell := by
  unfold State.setCell
  rw [State.ch_setCh_same h]

theorem State.length_chan_setCell (s : State) (x : Nat) (f : CellSt → CellSt) :
    (s.setCell x f).chan.length = s.chan.length := List.length_modify ..

/-- A change that clears a part clears it in every block, as one beyond the list is as its reset left it. -/
theorem State.cell_setCell_cleared {α : Type} (g : CellSt → α) {f : CellSt → CellSt} (hf : ∀ c, g (f c) = g {})
    (s : State) (x : Nat) : g ((s.setCell x f).ch x).cell = g {} := by
  rcases lt_or_ge x s.chan.length with hlt | hge
  · rw [State.cell_setCell_same hlt, hf]
  · rw [State.ch_of_le ((s.length_chan_setCell x f).trans_le hge)]

/-- A block with a part that is not as its reset left it exists. -/
theorem State.lt_of_cell {α : Type} (g : CellSt → α) (h : g (s.ch x).cell ≠ g {}) : x < s.chan.length :=
  State.ch_lt fun e => h (by rw [e])

/-! ### What the block's upkeep leaves -/

section
variable {β : Type} {φ : ChSt → β}

/-- The request for a window touches of a channel no more than the time of the request (R232, R233). -/
theorem State.agreesOn_shellSync (s : State) (x : Nat)
    (hφ : ∀ (c : ChSt) (n : Nat), φ { c with cell := { c.cell with reqAt := n } } = φ c) :
    s.agreesOn φ (s.shellSync x) := by
  unfold State.shellSync
  exact .ite (.setCh (s.agreesOn_refl.keep (State.chan_setB ..)) fun c => hφ c _)
    (.ite (s.agreesOn_refl.keep (State.chan_setB ..)) s.agreesOn_refl)

/-- A reference formed again touches of a channel no more than the offset (R237). -/
theorem State.agreesOn_reform (s : State) (x : Nat)
    (hφ : ∀ (c : ChSt) (n : Int), φ { c with cell := { c.cell with offset := n } } = φ c) :
    s.agreesOn φ (s.reform x) := by
  unfold State.reform
  exact .ite s.agreesOn_refl (.ite ((s.agreesOn_refl.setCh fun c => hφ c _).keep (State.chan_set ..))
    (s.agreesOn_refl.keep (State.chan_set ..)))

/-- A period begun again touches of a channel no more than its start, its sum and its count (R238). -/
theorem State.agreesOn_restartPo (s : State) (x : Nat) (hφ : ∀ (c : ChSt) (n : Nat),
      φ { c with cell := { c.cell with poAt := n, poSum := 0, poNum := 0 } } = φ c) :
    s.agreesOn φ (s.restartPo x) := s.agreesOn_refl.setCh fun c => hφ c _

end

theorem State.regsBut.shellSync {t : State} (h : s.regsBut l t) (hr : R.CELL_STATUS_SHELL_REQ x ∈ l := by simp) :
    s.regsBut l (t.shellSync x) := by
  unfold State.shellSync
  exact .ite (h.setB hr).setCell (.ite (h.setB hr) h)

theorem State.regsBut.reform {t : State} (h : s.regsBut l t) (hr : R.CELL_V_REF_MV x ∈ l := by simp) :
    s.regsBut l (t.reform x) := by
  unfold State.reform
  exact .ite h (.ite (h.setCell.set hr) (h.set hr))

end Sys2Proof.Machine
end

section
/-! What perturb-and-observe and the global scan do (O44): a period that ends (R238), a scan that starts, a dwell that
ends and a scan that ends (R239). -/

-- One proof after another: many at once take a thread each (see Laws/KeepsChannel).
set_option Elab.async false

namespace Sys2Proof.Machine

variable {s : State} {x : Fin 8} {dt t0 : Nat} {c : ScanSt}

/-! ### A tracking period ends (R238) -/

/-- A period that ended with the mean power `p`: the direction turned where the power fell, the offset moved by a step,
the next period begun and the reference formed again. -/
def State.perturbed (s : State) (x : Nat) (p : Rat) : State :=
  let c := (s.ch x).cell
  let dir := if p < c.pLast then -c.dir else c.dir
  let span := s.offsetSpan x
  let off := clampI (-span) span (c.offset + dir * (1000 * s.get (R.CELL_PO_CFG_STEP_V x) : Nat))
  let s := (s.setCell x (fun c => { c with dir := dir, pLast := p, offset := off })).restartPo x
  let w := roundAs (R.CELL_P_MEAS_W x).key p
  let s := s.setI (R.CELL_P_MEAS_W x) w
  let s := s.setSat (R.CELL_P_AVAIL_W x) w.toNat
  s.reform x

/-- A tracking period of a running cell has passed, and no scan or curtailment stands in its way. -/
structure State.periodOver (s : State) (x dt : Nat) : Prop where
  runs : s.cellRuns x = true
  pv : s.hasPv x = true
  state : s.cellState x = csRun
  curt : s.flag (R.CELL_STATUS_CURT x) = false
  scan : (s.ch x).cell.scan = none
  past : (s.ch x).cell.poAt + ms (s.get (R.CELL_PO_CFG_PERIOD_MS x)) ≤ s.now + dt

theorem exec_poPeriodEnd_on (h : s.periodOver x.val dt) (hen : s.flag (R.CELL_CFG_PO_EN x.val) = true)
    (hn : (s.ch x.val).cell.poNum ≠ 0) : exec (.poPeriodEnd dt x) s = .next ((s.elapse dt).perturbed x.val
      ((s.ch x.val).cell.poSum / ((s.ch x.val).cell.poNum : Rat))) := by
  obtain ⟨hr, hpv, hs, hcurt, hscan, ht⟩ := h
  have hn' : ((s.elapse dt).ch x.val).cell.poNum ≠ 0 := hn
  have hen' : (s.elapse dt).flag (R.CELL_CFG_PO_EN x.val) = true := hen
  refine (if_pos ⟨hr, hpv, hs, by simp [hcurt], Option.isNone_iff_eq_none.2 hscan, ht⟩).trans ?_
  rw [if_neg (by simp [hen'])]
  simp only [hn', if_false]
  rfl

theorem exec_poPeriodEnd_off (h : s.periodOver x.val dt) (hen : s.flag (R.CELL_CFG_PO_EN x.val) = false) :
    exec (.poPeriodEnd dt x) s = .next ((s.elapse dt).restartPo x.val) := by
  obtain ⟨hr, hpv, hs, hcurt, hscan, ht⟩ := h
  have hen' : (s.elapse dt).flag (R.CELL_CFG_PO_EN x.val) = false := hen
  exact (if_pos ⟨hr, hpv, hs, by simp [hcurt], Option.isNone_iff_eq_none.2 hscan, ht⟩).trans
    (if_pos (by simp [hen']))

/-- What a tracking period leaves to the next: direction, last power, start and count (R238). -/
def ChSt.tracking (c : ChSt) : Int × Rat × Nat × Nat := (c.cell.dir, c.cell.pLast, c.cell.poAt, c.cell.poNum)

theorem State.tracking_perturbed {x : Nat} (h : x < s.chan.length) (p : Rat) : ((s.perturbed x p).ch x).tracking
    = (if p < (s.ch x).cell.pLast then -(s.ch x).cell.dir else (s.ch x).cell.dir, p, s.now, 0) := by
  unfold State.perturbed
  extract_lets c dir span off begun w measured shown
  have hshown : begun.agreesOn ChSt.tracking shown :=
    (begun.agreesOn_refl.keep (State.chan_set ..)).keep (State.chan_set ..)
  rw [hshown.trans (shown.agreesOn_reform x fun _ _ => rfl) x]
  unfold ChSt.tracking
  have hbegun : (begun.ch x).cell = { (s.ch x).cell with
      dir := dir, pLast := p, offset := off, poAt := s.now, poSum := 0, poNum := 0 } := by
    refine (State.cell_setCell_same ((s.length_chan_setCell x _).symm ▸ h)).trans ?_
    rw [State.cell_setCell_same h]
    rfl
  rw [hbegun]

/-! ### A scan starts (R239) -/

/-- The conditions of a scan beside its time. -/
structure State.mayScan (s : State) (x : Nat) : Prop where
  idle : (s.ch x).cell.scan = none
  enabled : s.flag (R.CELL_CFG_SCAN_EN x) = true
  state : s.cellState x = csRun
  curt : s.flag (R.CELL_STATUS_CURT x) = false
  voc : (s.ch x).cell.vocValid = true
  window : (s.ch x).cell.window = none

/-- A scan that begins now, at its last point. -/
def State.firstDwell (s : State) (x : Nat) : ScanSt :=
  { k := s.get (R.CELL_SCAN_CFG_STEPS x) - 1, at_ := s.now, vref := s.get (R.CELL_V_REF_MV x) }

/-- The scan shown, with its last point as the reference. -/
def State.scanStarted (s : State) (x : Nat) : State :=
  let v := s.scanPoint x (s.get (R.CELL_SCAN_CFG_STEPS x) - 1)
  let s := s.setCell x (fun c => { c with scanDue := none, scan := some (s.firstDwell x) })
  let s := (s.setI (R.CELL_V_REF_MV x) v).setB (R.CELL_STATUS_SCANNING x) true
  (s.setB (R.CELL_CTRL_SCAN_NOW x) false).shellSync x

theorem State.scanTry_of_due {x : Nat} (h : s.mayScan x) (hd : (s.ch x).cell.scanDue = some t0) (ht : t0 ≤ s.now) :
    s.scanTry x = s.scanStarted x := by
  obtain ⟨hidle, hen, hs, hcurt, hvoc, hwindow⟩ := h
  unfold State.scanTry
  simp only [hd, hidle, hen, hs, hcurt, hvoc, hwindow, ht, decide_true, Option.isNone_none, Bool.false_eq_true,
    not_false_eq_true, and_self, if_true]
  rfl

/-- A scan that has started shows itself, and is due no longer. -/
theorem State.shown_scanStarted (s : State) (x : Fin 8) (h : x.val < s.chan.length) :
    (s.scanStarted x.val).flag (R.CELL_STATUS_SCANNING x.val) = true
    ∧ ((s.scanStarted x.val).ch x.val).cell.scan = some (s.firstDwell x.val)
    ∧ ((s.scanStarted x.val).ch x.val).cell.scanDue = none := by
  have hnot : ∀ x : Fin 8, (R.CELL_STATUS_SCANNING x.val).key
      ∉ [R.CELL_CTRL_SCAN_NOW x.val, R.CELL_STATUS_SHELL_REQ x.val].map Reg.key := by decide
  unfold State.scanStarted
  extract_lets v started shown
  have hkept : shown.regsBut [R.CELL_CTRL_SCAN_NOW x.val, R.CELL_STATUS_SHELL_REQ x.val]
      ((shown.setB (R.CELL_CTRL_SCAN_NOW x.val) false).shellSync x.val) := shown.regsBut_of_regs.setB.shellSync
  have hblock : started.agreesOn (fun c => (c.cell.scan, c.cell.scanDue))
      ((shown.setB (R.CELL_CTRL_SCAN_NOW x.val) false).shellSync x.val) :=
    (started.agreesOn_refl.keep ((State.chan_setB ..).trans ((State.chan_setB ..).trans (State.chan_set ..)))).trans
      (State.agreesOn_shellSync _ x.val fun _ _ => rfl)
  have hcell := State.cell_setCell_same (f := fun c => { c with scanDue := none, scan := some (s.firstDwell x.val) }) h
  refine ⟨?_, (congrArg Prod.fst (hblock x.val)).trans (congrArg CellSt.scan hcell),
    (congrArg Prod.snd (hblock x.val)).trans (congrArg CellSt.scanDue hcell)⟩
  rw [hkept.flag (hnot x)]
  exact State.flag_setB_same (by simp [R.CELL_STATUS_SCANNING]) (by simp [R.CELL_STATUS_SCANNING])

theorem exec_scanDue (hr : s.cellRuns x.val = true) (h : (s.elapse dt).mayScan x.val)
    (hd : (s.ch x.val).cell.scanDue = some t0) (ht : t0 ≤ s.now + dt) :
    exec (.scanDue dt x) s = .next ((s.elapse dt).scanStarted x.val) :=
  congrArg Host.Outcome.next ((if_pos hr).trans (State.scanTry_of_due h hd ht))

/-- A scan asked for by `SCAN_NOW`: it is due now. -/
def State.scanAsked (s : State) (x : Nat) : State :=
  (s.setB (R.CELL_CTRL_SCAN_NOW x) true).setCell x (fun c => { c with scanDue := some s.now })

theorem State.regsBut_scanAsked (s : State) (x : Nat) : s.regsBut [R.CELL_CTRL_SCAN_NOW x] (s.scanAsked x) :=
  s.regsBut_of_regs.setB.setCell

theorem State.cell_scanAsked {x : Nat} (h : x < s.chan.length) :
    ((s.scanAsked x).ch x).cell = { (s.ch x).cell with scanDue := some s.now } := by
  unfold State.scanAsked
  rw [State.cell_setCell_same (by rwa [State.chan_setB]), State.ch_of_chan (State.chan_setB ..)]

theorem State.now_scanAsked (s : State) (x : Nat) : (s.scanAsked x).now = s.now := State.now_setB ..

/-- A request by the host changes none of the conditions. -/
theorem State.mayScan.scanAsked (h : s.mayScan x.val) (hx : x.val < s.chan.length) :
    (s.scanAsked x.val).mayScan x.val := by
  have hnot : ∀ x : Fin 8, ∀ q ∈ [R.CELL_CFG_SCAN_EN x.val, R.CELL_STATUS_STATE x.val, R.CELL_STATUS_CURT x.val],
      q.key ∉ [R.CELL_CTRL_SCAN_NOW x.val].map Reg.key := by decide
  obtain ⟨hidle, hen, hs, hcurt, hvoc, hwindow⟩ := h
  have hkept := s.regsBut_scanAsked x.val
  constructor
  case enabled => rw [hkept.flag (hnot x _ (by simp)), hen]
  case state => exact (hkept _ (hnot x _ (by simp))).trans hs
  case curt => rw [hkept.flag (hnot x _ (by simp)), hcurt]
  all_goals rw [State.cell_scanAsked hx]; assumption

/-- `SCAN_NOW` starts a scan whose conditions hold. -/
theorem State.scanNow_of_mayScan (h : s.mayScan x.val) (hx : x.val < s.chan.length) :
    s.scanNow x.val = (s.scanAsked x.val).scanStarted x.val := by
  have hdue : ((s.scanAsked x.val).ch x.val).cell.scanDue = some s.now := by rw [State.cell_scanAsked hx]
  exact (if_pos (Option.isNone_iff_eq_none.2 h.idle)).trans
    (State.scanTry_of_due (h.scanAsked hx) hdue (s.now_scanAsked x.val).ge)

theorem State.shown_scanAsked (s : State) (x : Fin 8) (h : x.val < s.chan.length) :
    ((s.scanAsked x.val).scanStarted x.val).flag (R.CELL_STATUS_SCANNING x.val) = true
    ∧ (((s.scanAsked x.val).scanStarted x.val).ch x.val).cell.scan = some (s.firstDwell x.val)
    ∧ (((s.scanAsked x.val).scanStarted x.val).ch x.val).cell.scanDue = none := by
  have hnot : ∀ x : Fin 8, ∀ q ∈ [R.CELL_SCAN_CFG_STEPS x.val, R.CELL_V_REF_MV x.val],
      q.key ∉ [R.CELL_CTRL_SCAN_NOW x.val].map Reg.key := by decide
  have hkept := s.regsBut_scanAsked x.val
  have hasked : x.val < (s.scanAsked x.val).chan.length := by
    unfold State.scanAsked
    rwa [State.length_chan_setCell, State.chan_setB]
  have hdwell : (s.scanAsked x.val).firstDwell x.val = s.firstDwell x.val := by
    unfold State.firstDwell
    rw [hkept _ (hnot x _ (by simp)), hkept _ (hnot x _ (by simp)), State.now_scanAsked]
  rw [← hdwell]
  exact (s.scanAsked x.val).shown_scanStarted x hasked

/-! ### A dwell ends (R239) -/

/-- The mean of a dwell; without a sample in it the spec states none: a free value. -/
def State.dwellMean (s : State) (c : ScanSt) : Rat × State :=
  if c.num = 0 then ((s.fresh.1 : Rat), s.fresh.2) else (c.sum / (c.num : Rat), s)

theorem State.regs_dwellMean (s : State) (c : ScanSt) : (s.dwellMean c).2.regs = s.regs := by
  unfold State.dwellMean
  split <;> rfl

/-- What a dwell adds to the points of its scan: the reference, and the mean power at it. -/
def State.dwellPoint (s : State) (x : Nat) (p : Rat) : Int × Rat := (((s.get (R.CELL_V_REF_MV x) : Nat) : Int), p)

/-- The scan at the point below, with what the last dwell gave. -/
def State.scanMoved (s : State) (x : Nat) (c : ScanSt) (p : Rat) : State :=
  let done := s.dwellPoint x p :: c.done
  let s := s.setCell x (fun d => { d with
    scan := some { c with k := c.k - 1, at_ := s.now, sum := 0, num := 0, done := done } })
  s.setI (R.CELL_V_REF_MV x) (s.scanPoint x (c.k - 1))

theorem exec_scanDwellEnd_below (hr : s.cellRuns x.val = true) (hc : (s.ch x.val).cell.scan = some c)
    (ht : c.at_ + ms (s.get (R.CELL_SCAN_CFG_DWELL_MS x.val)) ≤ s.now + dt) (hk : c.k ≠ 0) (hn : c.num ≠ 0) :
    exec (.scanDwellEnd dt x) s = .next ((s.elapse dt).scanMoved x.val c (c.sum / (c.num : Rat))) := by
  have hc' : ((s.elapse dt).ch x.val).cell.scan = some c := hc
  change execScanDwellEnd dt x s = _
  unfold execScanDwellEnd
  simp only [hc']
  refine (if_pos ⟨hr, ht⟩).trans ?_
  simp only [hk, hn, if_false]
  rfl

theorem State.scan_scanMoved {x : Nat} (h : x < s.chan.length) (c : ScanSt) (p : Rat) :
    ((s.scanMoved x c p).ch x).cell.scan = some { c with
      k := c.k - 1, at_ := s.now, sum := 0, num := 0, done := s.dwellPoint x p :: c.done } := by
  unfold State.scanMoved
  extract_lets done moved
  rw [State.ch_of_chan (State.chan_setI ..)]
  exact congrArg CellSt.scan (State.cell_setCell_same h)

/-! ### A scan ends (R239) -/

/-- What a scan has found shown: whether the string is shaded, and where its best point lies. -/
def State.shadeShown (s : State) (x : Nat) (shaded : Bool) (best : Int) : State :=
  let was := s.flag (R.CELL_STATUS_SHADED x)
  let s := s.setB (R.CELL_STATUS_SHADED x) shaded
  let s :=
    if shaded then
      ((s.setI (R.CELL_V_BEST_MV x) best).set (R.CELL_V_OC_SCAN_MV x) (s.get (R.CELL_V_OC_MV x))).setCell x
        (fun c => { c with offset := 0 })
    else s
  if shaded ≠ was then s.irq (pgCell x) 6 else s

/-- Tracking taken up again after a scan. -/
def State.trackAgain (s : State) (x : Nat) : State := ((s.restartPo x).reform x).shellSync x

/-- A scan over: it is counted, falls due again and is told. -/
def State.scanClosed (s : State) (x : Nat) : State :=
  let s := (s.setB (R.CELL_STATUS_SCANNING x) false).inc (R.CELL_CNT_B_SCANS x)
  let s := s.setCell x (fun c => { c with
    scan := none,
    scanDue := some (s.now + secs (s.get (R.CELL_SCAN_CFG_PERIOD_S x))) })
  (s.irq (pgCell x) 5).trackAgain x

theorem State.regs_anyOf {α : Type} (s : State) (l : List α) (d : α) : (s.anyOf l d).2.regs = s.regs := by
  unfold State.anyOf
  split <;> rfl

/-- Whatever a scan has found, its end shows that and closes the scan. -/
theorem State.scanEnd_eq (s : State) (x : Nat) (done : List (Int × Rat)) :
    ∃ (t : State) (shaded : Bool) (best : Int), t.regs = s.regs
      ∧ s.scanEnd x done = (t.shadeShown x shaded best).scanClosed x :=
  ⟨_, _, _, (State.regs_anyOf ..).trans (State.regs_anyOf ..), rfl⟩

/-- What is shown of a scan's findings. -/
abbrev shadeFields (x : Nat) : List Reg :=
  [R.CELL_STATUS_SHADED x, R.CELL_V_BEST_MV x, R.CELL_V_OC_SCAN_MV x, H.IRQ_RAW (pgCell x)]

theorem State.regsBut_shadeShown (s : State) (x : Nat) (shaded : Bool) (best : Int) :
    s.regsBut (shadeFields x) (s.shadeShown x shaded best) := by
  unfold State.shadeShown
  extract_lets was shown found
  have hshown : s.regsBut (shadeFields x) shown := s.regsBut_of_regs.setB
  have hbest : s.regsBut (shadeFields x) (shown.setI (R.CELL_V_BEST_MV x) best) := hshown.set
  have hfound : s.regsBut (shadeFields x) found := .ite hbest.set.setCell hshown
  exact .ite hfound.irq hfound

theorem State.regsBut_trackAgain (s : State) (x : Nat) :
    s.regsBut [R.CELL_V_REF_MV x, R.CELL_STATUS_SHELL_REQ x] (s.trackAgain x) :=
  s.regsBut_of_regs.setCell.reform.shellSync

theorem State.scan_trackAgain (s : State) (x : Nat) : s.agreesOn (fun c => c.cell.scan) (s.trackAgain x) :=
  ((s.agreesOn_restartPo x fun _ _ => rfl).trans (State.agreesOn_reform _ x fun _ _ => rfl)).trans
    (State.agreesOn_shellSync _ x fun _ _ => rfl)

/-- A closed scan shows no more, is counted and latches event 5. -/
theorem State.shown_scanClosed (s : State) (x : Fin 8) :
    (s.scanClosed x.val).flag (R.CELL_STATUS_SCANNING x.val) = false
    ∧ ((s.scanClosed x.val).ch x.val).cell.scan = none
    ∧ (s.scanClosed x.val).get (R.CELL_CNT_B_SCANS x.val)
      = counted (R.CELL_CNT_B_SCANS x.val) (s.get (R.CELL_CNT_B_SCANS x.val))
    ∧ (s.scanClosed x.val).latched (pgCell x.val) 5 := by
  have hnot : ∀ x : Fin 8, (∀ q ∈ [R.CELL_STATUS_SCANNING x.val, R.CELL_CNT_B_SCANS x.val],
      q.key ∉ [R.CELL_V_REF_MV x.val, R.CELL_STATUS_SHELL_REQ x.val, H.IRQ_RAW (pgCell x.val)].map Reg.key)
      ∧ (H.IRQ_RAW (pgCell x.val)).key ∉ [R.CELL_V_REF_MV x.val, R.CELL_STATUS_SHELL_REQ x.val].map Reg.key
      ∧ (R.CELL_STATUS_SCANNING x.val).key ≠ (R.CELL_CNT_B_SCANS x.val).key := by decide
  obtain ⟨hfields, hevent, hkeys⟩ := hnot x
  unfold State.scanClosed
  extract_lets ended idle
  have hkept : ended.regsBut [R.CELL_V_REF_MV x.val, R.CELL_STATUS_SHELL_REQ x.val, H.IRQ_RAW (pgCell x.val)]
      ((idle.irq (pgCell x.val) 5).trackAgain x.val) :=
    State.regsBut.trans ended.regsBut_of_regs.setCell.irq ((State.regsBut_trackAgain _ x.val).mono (by simp))
  refine ⟨?_, ?_, ?_,
    (State.latched_irq_same idle (by decide)).of_regsBut (State.regsBut_trackAgain _ x.val) hevent⟩
  · rw [hkept.flag (hfields _ (by simp)), State.flag_eq, State.get_inc_other hkeys, ← State.flag_eq]
    exact State.flag_setB_same (by simp [R.CELL_STATUS_SCANNING]) (by simp [R.CELL_STATUS_SCANNING])
  · have hscan : idle.agreesOn (fun c => c.cell.scan) ((idle.irq (pgCell x.val) 5).trackAgain x.val) :=
      (idle.agreesOn_refl.keep (State.chan_irq ..)).trans (State.scan_trackAgain _ x.val)
    exact (hscan x.val).trans (State.cell_setCell_cleared CellSt.scan (fun _ => by rfl) ended x.val)
  · rw [hkept _ (hfields _ (by simp)), State.get_inc_same (by simp [R.CELL_CNT_B_SCANS]),
      State.get_setB_other hkeys.symm]

theorem exec_scanDwellEnd_last (hr : s.cellRuns x.val = true) (hc : (s.ch x.val).cell.scan = some c)
    (ht : c.at_ + ms (s.get (R.CELL_SCAN_CFG_DWELL_MS x.val)) ≤ s.now + dt) (hk : c.k = 0) :
    exec (.scanDwellEnd dt x) s = .next (((s.elapse dt).dwellMean c).2.scanEnd x.val
      (((s.elapse dt).dwellMean c).2.dwellPoint x.val ((s.elapse dt).dwellMean c).1 :: c.done)) := by
  have hc' : ((s.elapse dt).ch x.val).cell.scan = some c := hc
  change execScanDwellEnd dt x s = _
  unfold execScanDwellEnd
  simp only [hc']
  refine (if_pos ⟨hr, ht⟩).trans ?_
  simp only [hk, if_true]
  rfl

/-- The end of a scan, whatever its dwells gave. -/
theorem State.shown_scanEnd (s : State) (x : Fin 8) (done : List (Int × Rat)) :
    (s.scanEnd x.val done).flag (R.CELL_STATUS_SCANNING x.val) = false
    ∧ ((s.scanEnd x.val done).ch x.val).cell.scan = none
    ∧ (s.scanEnd x.val done).get (R.CELL_CNT_B_SCANS x.val)
      = counted (R.CELL_CNT_B_SCANS x.val) (s.get (R.CELL_CNT_B_SCANS x.val))
    ∧ (s.scanEnd x.val done).latched (pgCell x.val) 5 := by
  have hnot : ∀ x : Fin 8, (R.CELL_CNT_B_SCANS x.val).key ∉ (shadeFields x.val).map Reg.key := by decide
  obtain ⟨t, shaded, best, hregs, hend⟩ := s.scanEnd_eq x.val done
  have hcount : (t.shadeShown x.val shaded best).get (R.CELL_CNT_B_SCANS x.val) = s.get (R.CELL_CNT_B_SCANS x.val) :=
    ((s.regsBut_of_regs hregs).trans (t.regsBut_shadeShown x.val shaded best)) _ (hnot x)
  rw [hend, ← hcount]
  exact State.shown_scanClosed _ x

end Sys2Proof.Machine

open Sys2Proof.Machine

/-- Settles O44: a period's end turns the direction and begins the next period, and the readouts and the reference that
follow touch neither (`tracking_perturbed`); a scan starts by `scanTry`, whose conditions a request by the host leaves as
they are (`mayScan.scanAsked`); and whatever a scan has found, its end closes it (`scanEnd_eq`). -/
theorem cellTrackingCommands : Obligations.CellTrackingCommands := by
  unfold Obligations.CellTrackingCommands
  refine ⟨?turn, ?still, ?start, ?now, ?last, ?below⟩
  case turn =>
    intro s dt x hr hpv hen hs hcurt hscan hn ht
    have hx : x.val < (s.elapse dt).chan.length := State.lt_of_cell CellSt.poNum (s := s) hn
    have hshown := State.tracking_perturbed hx ((s.ch x.val).cell.poSum / ((s.ch x.val).cell.poNum : Rat))
    simp only [ChSt.tracking, Prod.mk.injEq] at hshown
    exact ⟨_, exec_poPeriodEnd_on ⟨hr, hpv, hs, hcurt, hscan, ht⟩ hen hn, hshown⟩
  case still =>
    intro s dt x hr hpv hen hs hcurt hscan ht
    exact ⟨_, exec_poPeriodEnd_off ⟨hr, hpv, hs, hcurt, hscan, ht⟩ hen,
      (s.elapse dt).agreesOn_restartPo (φ := fun c => c.cell.dir) x.val (fun _ _ => rfl) x.val, rfl⟩
  case start =>
    intro s dt t0 x hr hd ht hidle hen hs hcurt hvoc hwindow
    have hx : x.val < (s.elapse dt).chan.length := State.lt_of_cell CellSt.scanDue (s := s) (by simp [hd])
    exact ⟨_, exec_scanDue hr ⟨hidle, hen, hs, hcurt, hvoc, hwindow⟩ hd ht, (s.elapse dt).shown_scanStarted x hx⟩
  case now =>
    intro s dt x ho hidle hen hs hcurt hvoc hwindow
    have hx : x.val < (s.elapse dt).chan.length := State.lt_of_cell CellSt.vocValid (s := s) (by simp [hvoc])
    exact ⟨_, congrArg Host.Outcome.next ((State.hostAct_elapse ho).trans
      (State.scanNow_of_mayScan ⟨hidle, hen, hs, hcurt, hvoc, hwindow⟩ hx)),
      (s.elapse dt).shown_scanAsked x hx⟩
  case last =>
    intro s dt x c hr hc ht hk
    obtain ⟨hshown, hscan, hcount, hevent⟩ := ((s.elapse dt).dwellMean c).2.shown_scanEnd x
      (((s.elapse dt).dwellMean c).2.dwellPoint x.val ((s.elapse dt).dwellMean c).1 :: c.done)
    have hkept : ((s.elapse dt).dwellMean c).2.get (R.CELL_CNT_B_SCANS x.val) = s.get (R.CELL_CNT_B_SCANS x.val) :=
      congrArg (RegFile.get · _) (State.regs_dwellMean ..)
    exact ⟨_, exec_scanDwellEnd_last hr hc ht hk, hshown, hscan, hkept ▸ hcount, hevent⟩
  case below =>
    intro s dt x c hr hc ht hk hn
    have hx : x.val < (s.elapse dt).chan.length := State.lt_of_cell CellSt.scan (s := s) (by simp [hc])
    exact ⟨_, exec_scanDwellEnd_below hr hc ht hk hn, State.scan_scanMoved hx c _⟩

end

section
/-! Why O42 fails: the group that a fault source is mapped to is taken as listed, and no statement says that it stays
within its 4 bits. The group 24,499 of channel 0 would stand beyond page PWM0, at `CELL0.STATUS`: what it holds off is
`STATE`. A forced leave changes `STATE`, the map is complete no longer, and the automatic join is refused (R175, R222,
R223, R226). -/

-- One proof after another: many at once take a thread each (see Laws/KeepsChannel).
set_option Elab.async false

namespace Sys2Proof.Machine

variable {s t : State} {x dt t0 : Nat}

/-! ### A join refused (R222, R223) -/

theorem State.cellState_refuseJoin (s : State) (x code : Nat) : (s.refuseJoin x code).cellState x = csHusk :=
  State.cellState_cellEnter _ x (by decide)

/-- The check passes nothing that the conditions refuse. -/
theorem State.joinCheck_ne_zero (h : s.joinRefusal x ≠ 0) : (s.joinCheck x).1 ≠ 0 := by
  unfold State.joinCheck
  dsimp only
  split
  · exact h
  · split
    · exact h
    · exact Nat.succ_ne_zero 8

theorem State.cellState_requestJoin_of_refused (h : s.joinRefusal x ≠ 0) :
    (s.requestJoin x).cellState x = csHusk := by
  have hrefused : s.requestJoin x = (s.joinCheck x).2.refuseJoin x (s.joinCheck x).1 :=
    if_pos (State.joinCheck_ne_zero h)
  rw [hrefused]
  exact State.cellState_refuseJoin ..

/-- A cell in HUSK whose join is refused stays there, whether it asks for the join or not. -/
theorem State.cellState_autoJoin_of_refused (hs : s.cellState x = csHusk) (h : s.joinRefusal x ≠ 0) :
    (s.autoJoin x).cellState x = csHusk := by
  unfold State.autoJoin
  split
  · exact State.cellState_requestJoin_of_refused h
  · exact hs

/-! ### A low DC link (R226) -/

theorem exec_dcLinkLow {x : Fin 8} (hr : s.cellRuns x.val = true) (hl : (s.ch x.val).cell.lowSince = some t0)
    (hlo : csJoining ≤ s.cellState x.val) (hhi : s.cellState x.val ≤ csLeaving)
    (ht : t0 + us (s.get (R.CELL_JOIN_TIME_LEAVE_US x.val)) ≤ s.now + dt) :
    exec (.dcLinkLow dt x) s = .next (((s.elapse dt).husk x.val 2).autoJoin x.val) := by
  have hl' : ((s.elapse dt).ch x.val).cell.lowSince = some t0 := hl
  change execDcLinkLow dt x s = _
  unfold execDcLinkLow
  simp only [hl']
  exact if_pos ⟨hr, hlo, hhi, ht⟩

/-! ### The counterexample -/

/-- Register fields listed as given, within their widths or not. -/
def listed (l : List (Reg × Nat)) : RegFile := l.foldl (fun f e => f.insert e.1.key e.2) []

/-- Cell 0 in RUN with `AUTO_JOIN` on, an assignment, valid tables and a curve of two points, and with leg A in use: the
leg's three sources list the group 24,499. Its DC link has been low from time 0 on. -/
def aliasedGroup : State :=
  { State.reset with
    sys := { State.reset.sys with inReset := false, pllCell := List.replicate 8 .locked }
    mem := (Memory.putBytes [] (cellArea 0) [1, 0, 1, 0]).putBytes (cellArea 0 + 0x20) [9]
    chan := List.replicate 8 { cell := { lowSince := some 0 } }
    regs := listed [(R.BOOT_BOOT_STAT_LOCKED, 1), (R.CANOPY_STATUS_EVER_LOCKED, 1), (R.ARM_CH_ASSIGN_VALID 0, 1),
      (R.BOOT_TBL_VALID_KE, 1), (R.BOOT_TBL_VALID_CELL, 1), (R.BOOT_PERMIT_PV, 1), (R.CELL_DC_CAP_UF 0, 5),
      (R.CELL_CFG_AUTO_JOIN 0, 1), (R.CELL_STATUS_STATE 0, csRun), (R.CELL_STATUS_REFUSE 0, 1),
      (R.GUARD_LEG_USE_USE 0, 1), (R.PWM_FMAP_EN 0 3 0, 1), (R.PWM_FMAP_GROUP 0 3 0, 24499),
      (R.PWM_FMAP_EN 0 3 1, 1), (R.PWM_FMAP_GROUP 0 3 1, 24499), (R.PWM_FMAP_EN 0 5 0, 1),
      (R.PWM_FMAP_GROUP 0 5 0, 24499)] }

/-- The outputs of group 24,499 would be the cell's state. -/
theorem groupOut_eq_cellState (s : State) : s.get (R.PWM_GRP_OUT 0 24499) = s.cellState 0 := rfl

/-- Before the leave nothing refuses the join, and its reads find no bad word. -/
theorem mayJoin_aliasedGroup : aliasedGroup.joinRefusal 0 = 0
    ∧ (aliasedGroup.engineRead (pgCell 0) (cellArea 0) 0x2000).1 = true := by
  decide +kernel

/-- After it the map is not complete. -/
theorem refused_aliasedGroup : ((aliasedGroup.elapse (secs 1)).husk 0 2).cellState 0 = csHusk
    ∧ ((aliasedGroup.elapse (secs 1)).husk 0 2).joinRefusal 0 = 5 := by
  decide +kernel

theorem exec_dcLinkLow_aliasedGroup : exec (.dcLinkLow (secs 1) 0) aliasedGroup
    = .next (((aliasedGroup.elapse (secs 1)).husk 0 2).autoJoin 0) :=
  exec_dcLinkLow (x := 0) (t0 := 0) (by decide) rfl (by decide) (by decide) (by decide)

end Sys2Proof.Machine

open Sys2Proof.Machine

/-- Refutes O42: its clause of a low DC link with `AUTO_JOIN` on asks that nothing refuse the join before the leave. In
`aliasedGroup` nothing does, but the leave itself makes the map incomplete, and the cell stays in HUSK. -/
theorem not_cellJoinCommands : ¬ Obligations.CellJoinCommands := by
  unfold Obligations.CellJoinCommands
  rintro ⟨-, -, -, -, -, -, -, -, -, -, -, -, -, -, -, hlow⟩
  obtain ⟨hfree, hread⟩ := mayJoin_aliasedGroup
  obtain ⟨hhusk, hrefusal⟩ := refused_aliasedGroup
  obtain ⟨t, he, hwaits, -⟩ := hlow aliasedGroup (secs 1) 0 0 (by decide) rfl (by decide) (by decide) (by decide)
    (by decide) hfree hread
  rw [exec_dcLinkLow_aliasedGroup, Host.Outcome.next.injEq] at he
  subst he
  have hstays := State.cellState_autoJoin_of_refused hhusk (by rw [hrefusal]; decide)
  exact absurd (hwaits.symm.trans hstays) (by decide)

end

section
/-! What a grid cycle keeps once it has begun (O51): the cycles that have run, and the Canopy time that both engines
show (R241). -/

-- One proof after another: many at once take a thread each (see Laws/KeepsChannel).
set_option Elab.async false

namespace Sys2Proof.Machine

variable {s t u : State} {l : List Reg} {r : Reg} {p b : Nat}

/-! ### Fields beside `CYCLE_T` -/

/-- The field is neither engine's `CYCLE_T`, as its offset or its page tells. -/
def Reg.offCycleT (r : Reg) : Bool :=
  decide (r.ofs < 4096) && decide (r.lo < 32) && (r.ofs != 0x0B0 || (r.page != 0x40 && r.page != 0x41))

theorem Reg.key_ne_cycleT (h : r.offCycleT = true) (e : Fin 2) : (R.GE_CYCLE_T_NS e.val).key ≠ r.key := by
  simp only [Reg.offCycleT, Bool.and_eq_true, Bool.or_eq_true, decide_eq_true_eq, bne_iff_ne] at h
  simp only [Reg.key, R.GE_CYCLE_T_NS]
  omega

theorem cycleT_notMem (h : l.all Reg.offCycleT = true) (e : Fin 2) :
    (R.GE_CYCLE_T_NS e.val).key ∉ l.map Reg.key := by
  rw [List.mem_map]
  rintro ⟨r, hr, hkey⟩
  exact Reg.key_ne_cycleT (List.all_eq_true.1 h r hr) e hkey.symm

/-! ### Operations that keep the cycle -/

/-- From `s` to `t` the cycles that have run stay, and the Canopy time that both engines show. -/
structure State.keepsCycle (s t : State) : Prop where
  ran : t.arm.ran = s.arm.ran
  shown : ∀ e : Fin 2, t.get (R.GE_CYCLE_T_NS e.val) = s.get (R.GE_CYCLE_T_NS e.val)

theorem State.keepsCycle_refl (s : State) : s.keepsCycle s := ⟨rfl, fun _ => rfl⟩

theorem State.keepsCycle.trans (h : s.keepsCycle t) (h' : t.keepsCycle u) : s.keepsCycle u :=
  ⟨h'.ran.trans h.ran, fun e => (h'.shown e).trans (h.shown e)⟩

theorem State.keepsCycle.ite {c : Prop} [Decidable c] (ht : s.keepsCycle t) (hu : s.keepsCycle u) :
    s.keepsCycle (if c then t else u) := by
  split
  · exact ht
  · exact hu

theorem State.keepsCycle.foldl {α : Type} {xs : List α} {f : State → α → State}
    (h : ∀ (t : State) a, t.keepsCycle (f t a)) (s : State) : s.keepsCycle (xs.foldl f s) :=
  List.foldlRecOn xs f s.keepsCycle_refl (fun t ht a _ => ht.trans (h t a))

/-- What writes neither `CYCLE_T` and leaves the arm functions alone. -/
theorem State.keepsCycle.writes (h : s.keepsCycle t) (hr : t.regsBut l u) (hl : l.all Reg.offCycleT = true := by rfl)
    (ha : u.arm = t.arm := by simp) : s.keepsCycle u :=
  h.trans ⟨congrArg ArmSt.ran ha, fun e => hr _ (cycleT_notMem hl e)⟩

theorem State.keepsCycle.keep (h : s.keepsCycle t) (hr : u.regs = t.regs := by rfl)
    (ha : u.arm = t.arm := by rfl) : s.keepsCycle u :=
  h.writes (l := []) (t.regsBut_of_regs hr) rfl ha

theorem State.arm_of_sameBut {k : List Part} (h : s.sameBut k t) (ha : .arm ∉ k := by decide)
    (hd : .drop ∉ k := by decide) : t.arm = s.arm := by
  obtain ⟨-, hd' | hall⟩ := h
  · exact absurd hd' hd
  · simp only [ha, false_or] at hall
    simp only [hall]

/-- An operation whose parts have neither the arm functions nor registers among them. -/
theorem State.keepsCycle_of_sameBut {k : List Part} (h : s.sameBut k t) (hr : .regs ∉ k := by decide)
    (ha : .arm ∉ k := by decide) (hd : .drop ∉ k := by decide) : s.keepsCycle t :=
  s.keepsCycle_refl.keep (State.regs_of_sameBut h hr hd) (State.arm_of_sameBut h ha hd)

/-- A change of the arm functions beside the list of the cycles. -/
theorem State.keepsCycle.setArm (h : s.keepsCycle t) {f : ArmSt → ArmSt} (hf : (f t.arm).ran = t.arm.ran := by rfl) :
    s.keepsCycle (t.setArm f) :=
  ⟨hf.trans h.ran, h.shown⟩

theorem State.keepsCycle.set (h : s.keepsCycle t) {v : Nat} (hr : r.offCycleT = true := by rfl) :
    s.keepsCycle (t.set r v) :=
  h.writes (l := [r]) t.regsBut_of_regs.set (by simpa using hr)

theorem State.keepsCycle.setB (h : s.keepsCycle t) {v : Bool} (hr : r.offCycleT = true := by rfl) :
    s.keepsCycle (t.setB r v) :=
  h.writes (l := [r]) t.regsBut_of_regs.setB (by simpa using hr)

theorem State.keepsCycle.setMaskBit (h : s.keepsCycle t) (hr : r.offCycleT = true := by rfl) :
    s.keepsCycle (t.setMaskBit r b) :=
  h.writes (l := [r]) t.regsBut_of_regs.setMaskBit (by simpa using hr)

theorem State.keepsCycle.putMaskBit (h : s.keepsCycle t) {v : Bool} (hr : r.offCycleT = true := by rfl) :
    s.keepsCycle (t.putMaskBit r b v) := h.set hr

theorem State.keepsCycle.inc (h : s.keepsCycle t) (hr : r.offCycleT = true := by rfl) : s.keepsCycle (t.inc r) :=
  h.writes (l := [r]) t.regsBut_of_regs.inc (by simpa using hr)

theorem State.keepsCycle.show (h : s.keepsCycle t) {v : Rat} (hr : r.offCycleT = true := by rfl) :
    s.keepsCycle (t.show r v) := h.set hr

theorem State.keepsCycle.showU (h : s.keepsCycle t) {v : Rat} (hr : r.offCycleT = true := by rfl) :
    s.keepsCycle (t.showU r v) := h.set hr

theorem State.keepsCycle.showAngle (h : s.keepsCycle t) {v : Rat} (hr : r.offCycleT = true := by rfl) :
    s.keepsCycle (t.showAngle r v) := h.set hr

theorem State.keepsCycle.setSat (h : s.keepsCycle t) {v : Nat} (hr : r.offCycleT = true := by rfl) :
    s.keepsCycle (t.setSat r v) := h.set hr

theorem State.keepsCycle.irq (h : s.keepsCycle t) : s.keepsCycle (t.irq p b) :=
  h.writes (l := [H.IRQ_RAW p]) t.regsBut_of_regs.irq

theorem State.keepsCycle.logIt (h : s.keepsCycle t) {sev code o : Nat} {d : List Nat} :
    s.keepsCycle (t.logIt p sev code d o) :=
  h.writes (l := [R.GLOG_CNT_LOST, R.GLOG_STATUS_LOST_SEEN]) t.regsBut_of_regs.logIt rfl (State.arm_submit ..)

theorem State.keepsCycle.irqLog (h : s.keepsCycle t) {sev o : Nat} : s.keepsCycle (t.irqLog p b sev o) := h.irq.logIt

theorem State.keepsCycle.err (h : s.keepsCycle t) : s.keepsCycle (t.err p) := h.inc.irq

theorem State.keepsCycle.setEng (h : s.keepsCycle t) {e : Nat} {f : EngSt → EngSt} : s.keepsCycle (t.setEng e f) :=
  h.keep

theorem State.keepsCycle.setRide (h : s.keepsCycle t) {f : RideSt → RideSt} : s.keepsCycle (t.setRide f) := h.keep

theorem State.keepsCycle.setIsl (h : s.keepsCycle t) {f : IslSt → IslSt} : s.keepsCycle (t.setIsl f) := h.keep

theorem State.keepsCycle.offerTrigger (h : s.keepsCycle t) {src time : Nat} {ok : State → Nat → Bool} :
    s.keepsCycle (t.offerTrigger src time ok) :=
  h.trans ⟨congrArg ArmSt.ran (State.arm_of_sameBut (t.sameBut_offerTrigger src time ok)),
    fun e => t.get_offerTrigger src time ok fun x => by simp only [Reg.key, R.GE_CYCLE_T_NS, R.SAP_CNT_IGNORED]; omega⟩

theorem State.keepsCycle_engineRead (s : State) (p a n : Nat) : s.keepsCycle (s.engineRead p a n).2 :=
  s.keepsCycle_refl.writes (l := [H.ERR_COUNT p, H.IRQ_RAW p, R.GLOG_CNT_LOST, R.GLOG_STATUS_LOST_SEEN])
    (s.spares_engineRead p a n (by simp) (by simp) (by simp) (by simp)).regs rfl
    (State.arm_of_sameBut (keeps_engineRead (keeps_sameBut _ s) s p a n (State.sameBut_refl _ s)))

theorem State.keepsCycle_burlSafe (s : State) (cause mask : Nat) : s.keepsCycle (s.burlSafe cause mask) :=
  s.keepsCycle_refl.writes (s.regsBut_burlSafe cause mask) (by decide)
    (State.arm_of_sameBut (keeps_burlSafe (keeps_sameBut _ s) s cause mask (State.sameBut_refl _ s)))

end Sys2Proof.Machine
end

section
/-! GE1's evaluation of a cycle (R273 to R300) keeps the cycle (O51). -/

-- One proof after another: many at once take a thread each (see Laws/KeepsChannel).
set_option Elab.async false

namespace Sys2Proof.Machine

variable {s t u : State}

/-! ### Measurement and excursions (R276 to R281) -/

theorem State.keepsCycle_rideMeasure (s : State) : s.keepsCycle s.rideMeasure := by
  unfold State.rideMeasure
  extract_lets g vb pu m noted measured lo hi
  have hnoted : s.keepsCycle noted := s.keepsCycle_refl.setRide
  have hmeasured : s.keepsCycle measured := .ite hnoted hnoted.setRide
  exact hmeasured.showU.showU

theorem State.keepsCycle_excCycle (s : State) (c : Nat) : s.keepsCycle (s.excCycle c).1 := by
  unfold State.excCycle
  extract_lets marked cleared started shown
  have hmarked : s.keepsCycle marked := s.keepsCycle_refl.setMaskBit.inc
  have hcleared : s.keepsCycle cleared := .ite hmarked.err.setRide hmarked
  have hshown : s.keepsCycle shown := .ite hcleared.setRide.irqLog.offerTrigger s.keepsCycle_refl
  split
  · exact hshown
  · exact .ite (hshown.setRide.trans (State.keepsCycle_engineRead ..))
      ((hshown.setRide.trans (State.keepsCycle_engineRead ..)).trans (State.keepsCycle_burlSafe ..))

theorem State.keepsCycle_showExc (s : State) : s.keepsCycle s.showExc := by
  unfold State.showExc
  exact s.keepsCycle_refl.setSat.setSat

theorem State.keepsCycle_mcCycle (s : State) : s.keepsCycle s.mcCycle := by
  unfold State.mcCycle
  dsimp only
  have h := s.keepsCycle_refl
  exact .ite (.ite h.setB.setRide.irq h) (.ite h.setB.irq h)

theorem State.keepsCycle_rtSync (s : State) : s.keepsCycle s.rtSync := by
  unfold State.rtSync
  extract_lets exc rt was entered before blocked silent left recovered
  have hentered : s.keepsCycle entered := s.keepsCycle_refl.setB.setB
  have hleft : s.keepsCycle left := s.keepsCycle_refl.setB
  have hrecovered : s.keepsCycle recovered := .ite hleft hleft.setB.setRide
  exact .ite hentered.setRide.setB.putMaskBit.putMaskBit.setIsl (.ite hrecovered.setIsl s.keepsCycle_refl)

/-! ### Islanding and trips (R289 to R298) -/

theorem State.keepsCycle_islandMeasure (s : State) : s.keepsCycle s.islandMeasure := by
  unfold State.islandMeasure
  extract_lets r blocked win old rocof err nom outV outF fRef sg df lim act hit noted shown ind0 ind1 ind2 ind3
  have hshown : s.keepsCycle shown := s.keepsCycle_refl.setIsl.show.show
  have hind1 : s.keepsCycle ind1 := (State.keepsCycle.ite hshown hshown.putMaskBit).putMaskBit
  have hind2 : s.keepsCycle ind2 := .ite hind1.putMaskBit hind1
  have hind3 : s.keepsCycle ind3 := .ite hind2.putMaskBit hind2
  exact .ite hind3.setB.irq hind3

theorem State.keepsCycle_indTry (s : State) (i : Nat) : s.keepsCycle (s.indTry i) := by
  unfold State.indTry State.indRise
  exact .ite s.keepsCycle_refl.setMaskBit.setIsl.irq s.keepsCycle_refl

theorem State.keepsCycle_islandDecide (s : State) (who : Nat) : s.keepsCycle (s.islandDecide who).1 := by
  unfold State.islandDecide
  extract_lets tt marked told decided
  have hdecided : s.keepsCycle decided := .ite s.keepsCycle_refl s.keepsCycle_refl.setB.set.set.inc.irq.offerTrigger
  simp only [apply_ite Prod.fst]
  exact .ite hdecided (.ite hdecided (.ite hdecided.setB (.ite hdecided.setB.setArm hdecided)))

theorem State.keepsCycle_islandCycle (s : State) : s.keepsCycle s.islandCycle.1 := by
  unfold State.islandCycle
  extract_lets seen alone vote n byAlone byVote won who
  have hseen : s.keepsCycle seen := s.keepsCycle_islandMeasure.trans (.foldl State.keepsCycle_indTry _)
  rw [apply_ite Prod.fst]
  exact .ite (hseen.trans (State.keepsCycle_islandDecide ..)) hseen

theorem State.keepsCycle_trip (s : State) (causes : List Nat) : s.keepsCycle (s.trip causes) := by
  unfold State.trip
  have h := s.keepsCycle_refl
  split
  · exact h
  · dsimp only
    exact .ite (.ite h h.setRide.set) h.setB.set.set.inc.setB.setRide.setArm.setB.irq.offerTrigger

theorem State.keepsCycle_tripRecord (s : State) : s.keepsCycle s.tripRecord := by
  unfold State.tripRecord
  exact .ite s.keepsCycle_refl s.keepsCycle_refl.logIt.setRide

theorem State.keepsCycle_rtsCycle (s : State) : s.keepsCycle s.rtsCycle := by
  unfold State.rtsCycle State.rtsTry
  extract_lets r lo hi inU nom inF ok timed held ready cleared
  have htimed : s.keepsCycle timed := s.keepsCycle_refl.setRide
  exact .ite (.ite htimed.setB.setB.setRide.irq htimed.setB) htimed.setB

/-- GE1's evaluation as a whole (R273). -/
theorem State.keepsCycle_rideCycle (s : State) : s.keepsCycle s.rideCycle := by
  unfold State.rideCycle
  extract_lets measured
  have hmeasured : s.keepsCycle measured := s.keepsCycle_rideMeasure.setRide
  have hexcursions : s.keepsCycle ((List.range 4).foldl (fun (e : State × List Nat) c =>
      ((State.excCycle e.1 c).1, e.2 ++ (State.excCycle e.1 c).2)) (measured, [])).1 :=
    List.foldlRecOn (motive := fun (e : State × List Nat) => s.keepsCycle e.1) _ _ hmeasured
      fun e he c _ => he.trans (State.keepsCycle_excCycle e.1 c)
  dsimp only
  have hsynced := ((hexcursions.trans (State.keepsCycle_showExc _)).trans (State.keepsCycle_mcCycle _)).trans
    (State.keepsCycle_rtSync _)
  have hislanded := hsynced.trans (State.keepsCycle_islandCycle _)
  exact (((hislanded.trans (State.keepsCycle_trip ..)).trans (State.keepsCycle_tripRecord _)).trans
    (State.keepsCycle_rtsCycle _)).setRide

end Sys2Proof.Machine
end

section
/-! What a master or standby does in a cycle (R247 to R268) keeps the cycle (O51). -/

-- One proof after another: many at once take a thread each (see Laws/KeepsChannel).
set_option Elab.async false

namespace Sys2Proof.Machine

variable {s t u : State} {x : Nat}

/-! ### Roles and the hand-over (R247, R259, R262, R268) -/

theorem State.keepsCycle.setRole (h : s.keepsCycle t) {v : Nat} : s.keepsCycle (t.setRole v) := by
  unfold State.setRole
  split
  next i _ =>
    have hnot (e : Fin 2) : (R.GE_CYCLE_T_NS e.val).key ≠ (R.ARM_ROLE_STAT_ROLE i).key := by
      simp only [Reg.key, R.GE_CYCLE_T_NS, R.ARM_ROLE_STAT_ROLE]
      omega
    exact h.trans ⟨congrArg ArmSt.ran (State.arm_set ..), fun e => State.get_set_other _ _ (hnot e)⟩
  next => exact h

theorem State.keepsCycle_resign (s : State) : s.keepsCycle s.resign := by
  unfold State.resign
  exact .ite s.keepsCycle_refl.setRole.irq.setArm s.keepsCycle_refl

theorem State.keepsCycle_roleCycle (s : State) (t : Nat) : s.keepsCycle (s.roleCycle t) := by
  unfold State.roleCycle
  have h := s.keepsCycle_refl
  dsimp only
  exact .ite h.setRole.setArm (.ite (State.keepsCycle.inc (State.keepsCycle.set h.setRole).setArm).irqLog h)

theorem State.sameBut_armSums (s : State) : s.sameBut [.freeCtr] s.armSums.2 :=
  keeps_armSums (keeps_sameBut _ s) s (State.sameBut_refl _ s)

theorem State.keepsCycle_armSums (s : State) : s.keepsCycle s.armSums.2 :=
  State.keepsCycle_of_sameBut s.sameBut_armSums

theorem State.keepsCycle_handOver (s : State) (gf : Bool) : s.keepsCycle (s.handOver gf) := by
  unfold State.handOver
  extract_lets -underBinder g u
  split
  extract_lets -underBinder i0 q0 out
  split
  extract_lets -underBinder p q
  split
  next sums summed heq =>
    have hsums : s.keepsCycle summed := by
      have h := s.keepsCycle_armSums
      rwa [heq] at h
    extract_lets -underBinder pff esum kp ki p0 eInt pRef lim onP onQ rv xv re im prepared handed shown
    have hprepared : s.keepsCycle prepared := .ite hsums.setArm hsums.setArm
    have hhanded : s.keepsCycle handed := hprepared.setArm
    exact (State.keepsCycle.setB hhanded.setB).irqLog

/-! ### Commits at a cycle start (R241, R264 to R269, R298) -/

theorem State.keepsCycle_undrop (s : State) (p : Nat) : s.keepsCycle (s.undrop p) :=
  s.keepsCycle_refl.writes (s.regsBut_undrop p) rfl
    (State.arm_of_sameBut (keeps_undrop (keeps_sameBut _ s) s p (State.sameBut_refl _ s)))

theorem State.arm_doCommit (s : State) (p : Nat) : (s.doCommit p).arm = s.arm :=
  State.arm_of_sameBut (keeps_doCommit (keeps_sameBut _ s) s p (State.sameBut_refl _ s))

/-- The page of the arm functions holds no `CYCLE_T`. -/
theorem State.keepsCycle_doCommit_arm (s : State) : s.keepsCycle (s.doCommit pgArm) :=
  s.keepsCycle_refl.writes (s.regsBut_doCommit pgArm) (by decide) (s.arm_doCommit pgArm)

theorem State.keepsCycle.burstCommit (h : s.keepsCycle t) {carried : Bool} : s.keepsCycle (t.burstCommit carried) := by
  unfold State.burstCommit
  exact .ite h.setArm h

theorem State.keepsCycle_armCommit (s : State) : s.keepsCycle s.armCommit := by
  unfold State.armCommit
  extract_lets back asks gf change dropped burst applied
  have hback : s.keepsCycle back := s.keepsCycle_undrop pgArm
  have hdropped : s.keepsCycle dropped := (State.keepsCycle.keep hback).setB
  have happlied : s.keepsCycle applied := (hback.trans back.keepsCycle_doCommit_arm).burstCommit
  refine .ite (.ite hdropped.setB.irq (.ite hback (.ite ?_ happlied))) hback
  exact happlied.trans (State.keepsCycle_handOver ..)

theorem State.keepsCycle_orderCycle (s : State) : s.keepsCycle s.orderCycle := by
  unfold State.orderCycle
  extract_lets ordered
  have hordered : s.keepsCycle ordered := s.keepsCycle_refl.setArm
  exact .ite (.ite hordered (hordered.trans (State.keepsCycle_handOver ..))) s.keepsCycle_refl

/-! ### The arm's cycle (R252 to R257, R263 to R268) -/

theorem State.keepsCycle_stuckCycle (s : State) (master : Bool) : s.keepsCycle (s.stuckCycle master) := by
  unfold State.stuckCycle
  have h := s.keepsCycle_refl
  dsimp only
  exact .ite h (.ite (State.keepsCycle.setB h.setArm).irqLog (.ite h.setArm h))

theorem State.keepsCycle.keepBursts (h : s.keepsCycle t) : s.keepsCycle t.keepBursts := by
  refine h.setArm ?_
  split
  · rfl
  · rfl

theorem State.keepsCycle.shareCycle (h : s.keepsCycle t) {e : Nat} : s.keepsCycle (t.shareCycle e) :=
  by
  unfold State.shareCycle State.pruneGrants
  exact State.keepsCycle.setArm h.setArm

theorem State.keepsCycle.ffrCycle (h : s.keepsCycle t) : s.keepsCycle t.ffrCycle := by
  unfold State.ffrCycle
  exact h.setArm

theorem State.keepsCycle.tokenCycle (h : s.keepsCycle t) : s.keepsCycle t.tokenCycle := by
  unfold State.tokenCycle
  exact h.setArm

theorem State.keepsCycle.requestCycle (h : s.keepsCycle t) {e : Nat} : s.keepsCycle (t.requestCycle e) := by
  unfold State.requestCycle
  exact h.setArm

theorem State.keepsCycle_biasCycle (s : State) : s.keepsCycle s.biasCycle :=
  s.keepsCycle_refl.setIsl.show

theorem State.keepsCycle.peakCycle (h : s.keepsCycle t) {v : Rat} : s.keepsCycle (t.peakCycle v) :=
  State.keepsCycle.showU (State.keepsCycle.setArm h)

theorem State.keepsCycle_vsmCycle (s : State) (p q : Rat) : s.keepsCycle (s.vsmCycle p q).2.2 := by
  unfold State.vsmCycle
  extract_lets
  split
  extract_lets
  split
  dsimp only
  exact s.keepsCycle_refl.setArm

theorem State.keepsCycle_armVoltage (s : State) (t : Nat) (v : Wave) (es : List Rat) (standby : Bool) :
    s.keepsCycle (s.armVoltage t v es standby).2.2 := by
  unfold State.armVoltage
  dsimp only
  exact s.keepsCycle_refl.setArm

theorem State.keepsCycle_showCapable (s : State) (c master : Bool) : s.keepsCycle (s.showCapable c master) := by
  unfold State.showCapable
  exact .ite s.keepsCycle_refl.setB.irqLog s.keepsCycle_refl.setB

theorem State.keepsCycle_showBurst (s : State) (want got : Rat) (master : Bool) :
    s.keepsCycle (s.showBurst want got master) := by
  unfold State.showBurst
  extract_lets part active admitted new shown marked
  have hshown : s.keepsCycle shown := State.keepsCycle.setArm (State.keepsCycle.setSat s.keepsCycle_refl.setB)
  exact .ite (.ite hshown.setB.irqLog hshown.setB.irq) hshown

theorem State.keepsCycle_armCycle (s : State) (t : Nat) : s.keepsCycle (s.armCycle t).2 := by
  unfold State.armCycle
  extract_lets -underBinder master stuck waiting shared tokened asked biased p
  have hbiased : s.keepsCycle biased :=
    (s.keepsCycle_stuckCycle master).keepBursts.ffrCycle.shareCycle.tokenCycle.requestCycle.trans
      asked.keepsCycle_biasCycle
  have hsums := hbiased.trans biased.keepsCycle_armSums
  clear_value biased
  split
  next sums summed heq =>
  rw [heq] at hsums
  extract_lets -underBinder es esum pff peaked capable gf rt kp ki hold balanced
  have hbalanced : s.keepsCycle balanced := by
    have hpeaked : s.keepsCycle peaked := .ite hsums hsums.peakCycle
    exact hpeaked.setArm
  clear_value balanced
  split
  extract_lets -underBinder burst vPos pRef qSet shown
  have hshown : s.keepsCycle shown := hbalanced.show
  clear_value shown
  split
  next d q driven heq =>
  have hdriven : s.keepsCycle driven := by
    split at heq
    · cases heq
      exact hshown.trans (State.keepsCycle_vsmCycle ..)
    · cases heq
      exact hshown
  clear heq
  extract_lets -underBinder limited
  have hlimited : s.keepsCycle limited := hdriven.setB
  clear_value limited
  split
  next d q n lim heq =>
  clear heq
  extract_lets -underBinder told back zero
  have htold : s.keepsCycle told := .ite hlimited.show.show hlimited
  clear_value told back zero
  split
  extract_lets -underBinder able atLimit current driving
  have hable : s.keepsCycle able := htold.trans (State.keepsCycle_showCapable ..)
  have hcurrent : s.keepsCycle current := hable.setB.setB
  have hdriving : s.keepsCycle driving := hcurrent.setArm
  clear_value driving
  split
  next want burst heq =>
  clear heq
  extract_lets -underBinder bursting w th v
  have hbursting : s.keepsCycle bursting := hdriving.trans (State.keepsCycle_showBurst ..)
  clear_value bursting
  split
  next v1 v2 regulated heq =>
  have hregulated : s.keepsCycle regulated := by
    have hvoltage := bursting.keepsCycle_armVoltage t v es !master
    rw [heq] at hvoltage
    exact hbursting.trans hvoltage
  clear heq
  extract_lets -underBinder peaked live eArm final
  have hpeaked : s.keepsCycle peaked := .ite hregulated.peakCycle hregulated
  have hfinal : s.keepsCycle final := hpeaked.set.show.show
  split
  exact hfinal

end Sys2Proof.Machine
end

section
/-! A grid cycle from its start to its end (O51): what comes before the stamps leaves no staged `CYCLE_T`, and what
comes after them keeps the cycle (R241 to R246, R270). -/

-- One proof after another: many at once take a thread each (see Laws/KeepsChannel).
set_option Elab.async false

namespace Sys2Proof.Machine

variable {s t u : State} {p e v dt : Nat}

/-! ### Before the stamps (R242, R251) -/

/-- No `CYCLE_T` is staged, nor held by a `DISCARD` that a commit may take back. -/
abbrev State.cycleUnstaged (s : State) : Prop := ∀ e : Fin 2, s.unstaged (R.GE_CYCLE_T_NS e.val).key

theorem State.unstaged.keep (h : s.unstaged v) (hs : t.staged = s.staged := by rfl) (hy : t.sys = s.sys := by rfl) :
    t.unstaged v :=
  ⟨hs ▸ h.staged, hy ▸ h.dropped⟩

theorem State.unstaged_missCycle (h : s.unstaged v) (e t : Nat) : (s.missCycle e t).unstaged v :=
  h.of_sameBut (keeps_missCycle (keeps_sameBut _ s) s e t (State.sameBut_refl _ s))

theorem State.unstaged_missingCycle (h : s.unstaged v) (t : Nat) : (s.missingCycle t).unstaged v :=
  h.of_sameBut (keeps_missingCycle (keeps_sameBut _ s) s t (State.sameBut_refl _ s))

theorem State.ran_missCycle (s : State) (e t : Nat) : (s.missCycle e t).arm.ran = s.arm.ran := by
  have hresign (u : State) : u.resign.arm.ran = u.arm.ran := u.keepsCycle_resign.ran
  have hmiss (u : State) (d : DlPair) (mx : Nat) : (u.dlMissMax d mx).1.arm = u.arm :=
    State.arm_of_sameBut (keeps_dlMissMax (keeps_sameBut _ u) u d mx (State.sameBut_refl _ u))
  have hfaults (u : State) : ((List.range 8).foldl (fun u x => u.channelFault x) u).arm = u.arm :=
    List.foldlRecOn (motive := fun (w : State) => w.arm = u.arm) _ _ rfl fun w hw x _ =>
      (State.arm_of_sameBut (keeps_channelFault (keeps_sameBut _ w) w x (State.sameBut_refl _ w))).trans hw
  unfold State.missCycle
  split
  · rfl
  · dsimp only
    split
    · rfl
    · split
      · rw [hresign]
        split
        · rw [hfaults, hmiss]; rfl
        · rw [hmiss]; rfl
      · rw [hmiss]; rfl

/-! ### Commits of the engines' pages (R91, R241) -/

theorem State.unstaged_undrop (h : s.unstaged v) (p : Nat) : (s.undrop p).unstaged v := by
  refine ⟨State.lookup_undrop h p, fun d hd => h.dropped d ?_⟩
  unfold State.undrop at hd
  split at hd
  · exact hd
  · split at hd
    · exact hd
    next l _ _ =>
      extract_lets restaged ready at hd
      have hrestaged : restaged.sys = s.sys :=
        List.foldlRecOn (motive := fun (u : State) => u.sys = s.sys) l _ rfl fun _ hu _ _ => hu
      have hready : ready.sys = s.sys := by
        dsimp only [ready]
        split
        · exact hrestaged
        · exact hrestaged
      rw [State.sys_modSys, State.sys_setB, hready] at hd
      exact List.mem_of_mem_filter hd

theorem State.lookup_applyStaged (h : s.staged.lookup v = none) (p : Nat) :
    (s.applyStaged p).staged.lookup v = none := by
  refine List.foldlRecOn (motive := fun (u : State) => u.staged.lookup v = none) _ _ h fun u hu r _ => ?_
  split
  next w hw =>
    have hne : v ≠ r.key := fun heq => by rw [← heq, hu] at hw; cases hw
    exact (RegFile.lookup_erase_other _ hne).trans hu
  next => exact hu

theorem State.unstaged_doCommit (h : s.unstaged v) (p : Nat) : (s.doCommit p).unstaged v := by
  have hsys : (s.doCommit p).sys = s.sys :=
    State.sys_of_sameBut (keeps_doCommit (keeps_sameBut _ s) s p (State.sameBut_refl _ s))
  refine ⟨?_, hsys ▸ h.dropped⟩
  unfold State.doCommit State.incWrap
  rw [State.staged_set, State.staged_setB]
  exact State.lookup_applyStaged h.staged p

theorem State.unstaged_geCommit (h : s.unstaged v) (e : Nat) : (s.geCommit e).unstaged v := by
  have hback := State.unstaged_undrop h (pgGe e)
  unfold State.geCommit
  dsimp only
  split
  · exact State.unstaged_doCommit hback _
  · exact hback

/-- A commit makes no `CYCLE_T` of an engine's page active, as none is staged (R91). -/
theorem State.keepsCycle_geCommit (h : s.cycleUnstaged) (e : Nat) : s.keepsCycle (s.geCommit e) := by
  have hback := s.keepsCycle_undrop (pgGe e)
  have happlied : (s.undrop (pgGe e)).keepsCycle ((s.undrop (pgGe e)).applyStaged (pgGe e)) :=
    ⟨congrArg ArmSt.ran (State.arm_of_sameBut (keeps_applyStaged (keeps_sameBut _ _) _ _ (State.sameBut_refl _ _))),
      fun k => State.get_applyStaged (State.lookup_undrop (h k) _) _⟩
  unfold State.geCommit State.doCommit State.incWrap
  exact .ite (State.keepsCycle.set (State.keepsCycle.setB (hback.trans happlied))) hback

/-! ### After the stamps -/

theorem State.keepsCycle_frameMissing (s : State) (a e : Nat) : s.keepsCycle (s.frameMissing a e) := by
  unfold State.frameMissing
  exact .ite s.keepsCycle_refl (State.keepsCycle.setArm s.keepsCycle_refl.inc.irq)

theorem State.keepsCycle_missingCycle (s : State) (t : Nat) : s.keepsCycle (s.missingCycle t) := by
  unfold State.missingCycle
  exact .foldl (fun u a => .ite (u.keepsCycle_frameMissing a _) u.keepsCycle_refl) s

theorem State.keepsCycle_latchSources (s : State) (t e : Nat) : s.keepsCycle (s.latchSources t e) := by
  unfold State.latchSources
  extract_lets new rose latched shown
  have hshown : s.keepsCycle shown := s.keepsCycle_refl.setEng.setB
  exact .ite hshown.irq hshown

theorem State.keepsCycle_pllCycle (s : State) (e : Nat) : s.keepsCycle (s.pllCycle e) := by
  unfold State.pllCycle
  extract_lets g v kk al be pa pb na nb vPos vNeg vb err low cause was frozen wn nom integ w locked run told angled
    sized
  have hrun : s.keepsCycle run := s.keepsCycle_refl.setEng
  have htold : s.keepsCycle told := .ite hrun.setB.irq hrun
  exact htold.showAngle.showU.showU.showU.showAngle

theorem State.keepsCycle_meterAngle (s : State) : s.keepsCycle s.meterAngle :=
  State.keepsCycle_of_sameBut (keeps_meterAngle (keeps_sameBut _ s) s (State.sameBut_refl _ s))

theorem State.keepsCycle_freshCycle (s : State) : s.keepsCycle s.freshCycle := by
  unfold State.freshCycle
  exact s.keepsCycle_refl.setArm

theorem State.keepsCycle_crossEntries (s : State) : s.keepsCycle s.crossEntries := by
  unfold State.crossEntries
  exact .foldl (fun t x => .ite t.keepsCycle_refl.keep t.keepsCycle_refl.setArm) s

theorem State.keepsCycle_checkCycle (s : State) : s.keepsCycle s.checkCycle := by
  unfold State.checkCycle
  exact s.keepsCycle_refl.setArm

theorem State.keepsCycle_giveTc2 (s : State) (t : Nat) (exp : Bool) (payload : List Nat) :
    s.keepsCycle (s.giveTc2 t exp payload) :=
  State.keepsCycle_of_sameBut (keeps_giveTc2 (keeps_sameBut _ s) s t exp payload (State.sameBut_refl _ s))

theorem State.keepsCycle_xchk (s : State) (b : Nat) : s.keepsCycle (s.xchk b) := by
  unfold State.xchk
  exact s.keepsCycle_refl.setMaskBit.inc.irq

theorem State.keepsCycle_noteGrant (s : State) (g : Grant) : s.keepsCycle (s.noteGrant g) := by
  unfold State.noteGrant
  exact .ite s.keepsCycle_refl s.keepsCycle_refl.setArm

theorem State.keepsCycle_releaseFrame (s : State) (t : Nat) (f : ArmFrame) : s.keepsCycle (s.releaseFrame t f) := by
  unfold State.releaseFrame
  split
  next c2 c3 _ =>
  extract_lets failed2 failed3 held released granted
  have hfailed2 : s.keepsCycle failed2 := .ite (s.keepsCycle_xchk 2) s.keepsCycle_refl
  have hfailed3 : s.keepsCycle failed3 := .ite (hfailed2.trans (State.keepsCycle_xchk _ 3)) hfailed2
  have hheld : s.keepsCycle held := hfailed3.setArm
  have hreleased : s.keepsCycle released := s.keepsCycle_refl.setArm
  have hgranted : s.keepsCycle granted := .ite hreleased (hreleased.trans (State.keepsCycle_noteGrant ..)).inc
  exact .ite (.ite (hheld.trans held.keepsCycle_resign) hheld) (hgranted.trans (State.keepsCycle_giveTc2 ..))

/-- The engines' deadline pairs count beside `CYCLE_T` (R242). -/
theorem State.keepsCycle_cycleMet (s : State) (e : Fin 2) : s.keepsCycle (s.cycleMet e.val) := by
  have hpair : ∀ e : Fin 2, ∀ d ∈ dlPair (pgGe e.val) 0x0A4, d.run.offCycleT = true := by decide
  unfold State.cycleMet
  split
  next d hd => exact (s.keepsCycle_refl.set (hpair e d hd)).setB
  next => exact s.keepsCycle_refl

end Sys2Proof.Machine
end

section
/-! A grid cycle, the PLL's lock and the end of a hand-over (O51): what each command does (R241, R246, R268). -/

-- One proof after another: many at once take a thread each (see Laws/KeepsChannel).
set_option Elab.async false

namespace Sys2Proof.Machine

variable {s t u : State} {dt : Nat}

/-! ### The grid cycle (R241) -/

/-- The cycle at `t` begun: misses counted, the cycle among those that have run, its time shown by both engines. -/
def State.cycleBegun (s : State) (t : Nat) : State :=
  let s0 := if s.cycleLate 0 t then s.missCycle 0 t else s
  let s1 := if s.cycleLate 1 t then s0.missCycle 1 t else s0
  ((s1.setArm (fun a => { a with ran := (t :: a.ran).take 256 })).set (R.GE_CYCLE_T_NS 0) t).set (R.GE_CYCLE_T_NS 1) t

/-- The misses counted before the stamps move neither the cycles nor what is staged. -/
theorem State.missed_keeps (s : State) (e t : Nat) (c : Bool) :
    (if c then s.missCycle e t else s).arm.ran = s.arm.ran
    ∧ (s.cycleUnstaged → (if c then s.missCycle e t else s).cycleUnstaged) := by
  cases c
  · exact ⟨rfl, id⟩
  · exact ⟨s.ran_missCycle e t, fun h k => State.unstaged_missCycle (h k) e t⟩

theorem State.ran_cycleBegun (s : State) (t : Nat) : (s.cycleBegun t).arm.ran = (t :: s.arm.ran).take 256 := by
  unfold State.cycleBegun
  dsimp only
  rw [State.arm_set, State.arm_set]
  exact congrArg (fun l => (t :: l).take 256) ((State.missed_keeps _ 1 t _).1.trans (s.missed_keeps 0 t _).1)

theorem State.unstaged_cycleBegun (h : s.cycleUnstaged) (t : Nat) : (s.cycleBegun t).cycleUnstaged := fun k =>
  ((State.missed_keeps _ 1 t _).2 ((s.missed_keeps 0 t _).2 h) k).keep
    (by unfold State.cycleBegun; rw [State.staged_set, State.staged_set]; rfl)
    (by unfold State.cycleBegun; rw [State.sys_set, State.sys_set]; rfl)

theorem State.shown_cycleBegun (s : State) (t : Nat) :
    (s.cycleBegun t).get (R.GE_CYCLE_T_NS 0) = t % 2 ^ 64 ∧ (s.cycleBegun t).get (R.GE_CYCLE_T_NS 1) = t % 2 ^ 64 := by
  unfold State.cycleBegun
  refine ⟨?_, State.get_set_same _ _ (by decide)⟩
  rw [State.get_set_other _ _ (by decide)]
  exact State.get_set_same _ _ (by decide)

/-- A cycle that is due is begun, and what follows keeps its stamps. -/
theorem keepsCycle_exec_gridCycle (hr : s.gridRuns = true) (hstart : s.arm.startAt ≤ (s.elapse dt).cycleStart)
    (hran : s.arm.ran.contains (s.elapse dt).cycleStart = false) (hstaged : s.cycleUnstaged) :
    OutI ((s.elapse dt).cycleBegun (s.elapse dt).cycleStart).keepsCycle (exec (.gridCycle dt) s) := by
  change OutI _ (execGridCycle dt s)
  unfold execGridCycle
  extract_lets -underBinder now start missed0 missed1 late0 late1 ran begun missing committed latched locked fresh ruled
    crossed reports
  rw [if_pos ⟨hr, hstart, by simpa [start, now] using hran⟩]
  have hbegun : now.cycleBegun start = begun := rfl
  have hmissing : begun.keepsCycle missing := begun.keepsCycle_missingCycle start
  have hunstaged : missing.cycleUnstaged := fun k =>
    State.unstaged_missingCycle (State.unstaged_cycleBegun (fun k => (hstaged k).keep) start k) start
  have hcommitted : begun.keepsCycle committed :=
    (((hmissing.trans (State.keepsCycle_geCommit hunstaged 0)).trans
      (State.keepsCycle_geCommit (fun k => State.unstaged_geCommit (hunstaged k) 0) 1)).trans
      (State.keepsCycle_armCommit _)).trans (State.keepsCycle_orderCycle _)
  have hlocked : begun.keepsCycle locked :=
    ((((hcommitted.trans (State.keepsCycle_latchSources _ start 0)).trans
      (State.keepsCycle_latchSources _ start 1)).trans (State.keepsCycle_pllCycle _ 0)).trans (State.keepsCycle_pllCycle _ 1)).trans (State.keepsCycle_meterAngle _)
  have hcrossed : begun.keepsCycle crossed :=
    ((hlocked.trans locked.keepsCycle_freshCycle).trans (fresh.keepsCycle_roleCycle start)).trans
      ruled.keepsCycle_crossEntries
  clear_value missed0 missed1 reports crossed
  split
  next frame driven heq =>
  have hdriven : begun.keepsCycle driven := by
    split at heq
    · split at heq
      next f cycled hcycle =>
      cases heq
      have h := crossed.keepsCycle_armCycle start
      rw [hcycle] at h
      exact hcrossed.trans h
    · cases heq
      exact hcrossed
  clear heq
  extract_lets -underBinder checked framed reported met0 met1
  have hchecked : begun.keepsCycle checked := hdriven.trans driven.keepsCycle_checkCycle
  have hframed : begun.keepsCycle framed := by
    dsimp only [framed]
    split
    · exact .ite (hchecked.trans (State.keepsCycle_releaseFrame ..)) hchecked
    · exact hchecked
  have hreported : begun.keepsCycle reported :=
    .ite hchecked (hframed.trans (.foldl (fun w l => w.keepsCycle_giveTc2 start false l) framed))
  have hmet0 : begun.keepsCycle met0 := .ite hreported (hreported.trans (reported.keepsCycle_cycleMet 0))
  have hmet1 : begun.keepsCycle met1 := .ite hmet0 (hmet0.trans (met0.keepsCycle_cycleMet 1))
  exact outNext (hbegun ▸ hmet1.trans met1.keepsCycle_rideCycle)

/-- A cycle that has run does not run again. -/
theorem exec_gridCycle_of_ran (h : s.arm.ran.contains (s.elapse dt).cycleStart = true) :
    exec (.gridCycle dt) s = .next (s.elapse dt) := by
  change execGridCycle dt s = _
  unfold execGridCycle
  rw [if_neg]
  rintro ⟨-, -, hnew⟩
  exact hnew h

/-! ### The PLL's lock (R246) -/

theorem State.engs_of_sameBut {k : List Part} (h : s.sameBut k t) (he : .engs ∉ k := by decide)
    (hd : .drop ∉ k := by decide) : t.engs = s.engs := by
  obtain ⟨-, hd' | hall⟩ := h
  · exact absurd hd' hd
  · simp only [he, false_or] at hall
    simp only [hall]

theorem State.eng_of_engs (h : t.engs = s.engs) (e : Nat) : t.eng e = s.eng e := by
  unfold State.eng
  rw [h]

/-- A change that clears a part clears it in every engine, as one beyond the list is as its reset left it. -/
theorem State.eng_setEng_cleared {α : Type} (g : EngSt → α) {f : EngSt → EngSt} (hf : ∀ d, g (f d) = g {}) (s : State)
    (e : Nat) : g ((s.setEng e f).eng e) = g {} := by
  unfold State.eng State.setEng
  simp only [List.getD_eq_getElem?_getD, List.getElem?_modify_eq]
  cases s.engs[e]? with
  | none => rfl
  | some d => exact hf d

/-- What the meter's free-running mark touches (R305). -/
abbrev freeFields : List Reg := [R.METER_STATUS_PLL_FREE, H.IRQ_RAW pgMeter]

theorem State.regsBut_pllFreeSync (s : State) : s.regsBut freeFields s.pllFreeSync := by
  unfold State.pllFreeSync
  extract_lets run rose marked freed
  have hmarked : s.regsBut freeFields marked := s.regsBut_of_regs.setB
  have hfreed : s.regsBut freeFields freed := .ite hmarked.modMeter hmarked
  exact .ite hfreed.irq hfreed

theorem State.regsBut_meterUnlock (s : State) : s.regsBut freeFields s.meterUnlock := by
  unfold State.meterUnlock State.noteAngle
  exact (State.regsBut_of_regs s).modMeter.trans (State.regsBut_pllFreeSync _)

theorem State.eng_meterUnlock (s : State) (e : Nat) : s.meterUnlock.eng e = s.eng e :=
  State.eng_of_engs (State.engs_of_sameBut (keeps_meterUnlock (keeps_sameBut _ s) s (State.sameBut_refl _ s))) e

/-- The engines' marks and their events are none of the meter's. -/
theorem notMem_freeFields (e : Fin 2) : (R.GE_PLL_STAT_LOCKED e.val).key ∉ freeFields.map Reg.key
    ∧ (H.IRQ_RAW (pgGe e.val)).key ∉ freeFields.map Reg.key
    ∧ (R.GE_PLL_STAT_LOCKED e.val).key ≠ (H.IRQ_RAW (pgGe e.val)).key := by
  revert e
  decide

/-- The mark written and an event latched in one go (R246). -/
theorem State.shown_lockMark (s : State) (e : Fin 2) (v : Bool) {b : Nat} (hb : b < 32) :
    ((s.setB (R.GE_PLL_STAT_LOCKED e.val) v).irq (pgGe e.val) b).flag (R.GE_PLL_STAT_LOCKED e.val) = v
    ∧ ((s.setB (R.GE_PLL_STAT_LOCKED e.val) v).irq (pgGe e.val) b).latched (pgGe e.val) b := by
  obtain ⟨-, -, hkey⟩ := notMem_freeFields e
  refine ⟨?_, State.latched_irq_same _ hb⟩
  rw [State.flag_eq, State.get_irq_other hkey, ← State.flag_eq]
  exact State.flag_setB_same (by simp [R.GE_PLL_STAT_LOCKED]) (by simp [R.GE_PLL_STAT_LOCKED])

theorem exec_gridPllLock {e : Fin 2} (hr : s.gridRuns = true) (hl : s.flag (R.GE_PLL_STAT_LOCKED e.val) = false)
    (hf : s.flag (R.GE_PLL_STAT_FROZEN e.val) = false)
    (hheld : heldFor (s.eng e.val).lockSince (ms 40) (s.now + dt) = true) :
    exec (.gridPllLock dt e) s
      = .next (((s.elapse dt).setB (R.GE_PLL_STAT_LOCKED e.val) true).irq (pgGe e.val) 0).pllFreeSync :=
  congrArg Host.Outcome.next (if_pos ⟨hr, by simpa using hl, by simpa using hf, hheld⟩)

theorem exec_gridPllUnlock {e : Fin 2} (hr : s.gridRuns = true) (hl : s.flag (R.GE_PLL_STAT_LOCKED e.val) = true)
    (hheld : heldFor (s.eng e.val).badSince (ms 5) (s.now + dt) = true
      ∨ heldFor (s.eng e.val).frozenSince (ms 100) (s.now + dt) = true) :
    exec (.gridPllUnlock dt e) s = .next (if e.val = 0 then ((s.elapse dt).pllUnlock e.val).meterUnlock
      else (s.elapse dt).pllUnlock e.val) :=
  congrArg Host.Outcome.next (if_pos ⟨hr, hl, hheld⟩)

theorem exec_gridPllUnfreeze {e : Fin 2} (hr : s.gridRuns = true) (hf : s.flag (R.GE_PLL_STAT_FROZEN e.val) = true)
    (hheld : heldFor (s.eng e.val).clearSince (ms 2) (s.now + dt) = true) :
    exec (.gridPllUnfreeze dt e) s = .next (((s.elapse dt).setB (R.GE_PLL_STAT_FROZEN e.val) false).setEng e.val
      (fun g => { g with frozenSince := none, clearSince := none })) :=
  congrArg Host.Outcome.next (if_pos ⟨hr, hf, hheld⟩)

/-- A PLL that loses its lock shows it, tells it, and waits anew (R246). -/
theorem State.shown_pllUnlock (s : State) (e : Fin 2) : (s.pllUnlock e.val).flag (R.GE_PLL_STAT_LOCKED e.val) = false
    ∧ ((s.pllUnlock e.val).eng e.val).lockSince = none ∧ (s.pllUnlock e.val).latched (pgGe e.val) 1 := by
  obtain ⟨hflag, hlatched⟩ := s.shown_lockMark e false (b := 1) (by decide)
  exact ⟨hflag, State.eng_setEng_cleared EngSt.lockSince (fun _ => by rfl) _ e.val, hlatched⟩

/-! ### The hand-over's end (R268) -/

theorem exec_modeRampEnd {r : ModeRamp} (hr : s.gridRuns = true) (hramp : s.arm.ramp = some r)
    (hdone : r.at_ + ms (s.get R.ARM_XFER_CFG_RAMP_MS) ≤ s.now + dt) : exec (.modeRampEnd dt) s
      = .next (((s.elapse dt).setArm (fun a => { a with ramp := none })).setB R.ARM_STATUS_RAMPING false) := by
  change execModeRampEnd dt s = _
  unfold execModeRampEnd
  dsimp only
  rw [State.arm_elapse, hramp]
  exact if_pos ⟨hr, hdone⟩

end Sys2Proof.Machine

open Sys2Proof.Machine

/-- Settles O51: what follows a cycle's stamps keeps them (`State.keepsCycle`), as no `CYCLE_T` is staged when the
engines' commits are applied; of what a lock or an unlock sets off, the meter's part touches neither engine's page. -/
theorem gridPllCommands : Obligations.GridPllCommands := by
  unfold Obligations.GridPllCommands
  refine ⟨?due, ?ran, ?lock, ?unlock, ?unfreeze, ?ramp⟩
  case due =>
    intro s dt hr hstart hran hst0 hst1 hdr0 hdr1
    have hunstaged : s.cycleUnstaged
      | 0 => ⟨hst0, fun d hd => by simpa using List.all_eq_true.1 hdr0 d hd⟩
      | 1 => ⟨hst1, fun d hd => by simpa using List.all_eq_true.1 hdr1 d hd⟩
    obtain ⟨t, ht⟩ := exec_answers (.gridCycle dt) s
    have hkept := outI (keepsCycle_exec_gridCycle hr hstart hran hunstaged) ht
    obtain ⟨hshown0, hshown1⟩ := (s.elapse dt).shown_cycleBegun (s.elapse dt).cycleStart
    exact ⟨t, ht, hkept.ran.trans (State.ran_cycleBegun ..), (hkept.shown 0).trans hshown0,
      (hkept.shown 1).trans hshown1⟩
  case ran =>
    intro s dt _ hran
    exact ⟨_, exec_gridCycle_of_ran hran, rfl⟩
  case lock =>
    intro s dt e hr hl hf hheld
    obtain ⟨hflag, hlatched⟩ := (s.elapse dt).shown_lockMark e true (b := 0) (by decide)
    obtain ⟨hmark, hevent, -⟩ := notMem_freeFields e
    exact ⟨_, exec_gridPllLock hr hl hf hheld, ((State.regsBut_pllFreeSync _).flag hmark).trans hflag,
      hlatched.of_regsBut (State.regsBut_pllFreeSync _) hevent⟩
  case unlock =>
    intro s dt e hr hl hheld
    refine ⟨_, exec_gridPllUnlock hr hl hheld, ?_⟩
    obtain ⟨hflag, hsince, hlatched⟩ := (s.elapse dt).shown_pllUnlock e
    obtain ⟨hmark, hevent, -⟩ := notMem_freeFields e
    split
    · exact ⟨((State.regsBut_meterUnlock _).flag hmark).trans hflag, by rw [State.eng_meterUnlock, hsince],
        hlatched.of_regsBut (State.regsBut_meterUnlock _) hevent⟩
    · exact ⟨hflag, hsince, hlatched⟩
  case unfreeze =>
    intro s dt e hr hf hheld
    exact ⟨_, exec_gridPllUnfreeze hr hf hheld,
      State.flag_setB_same (by simp [R.GE_PLL_STAT_FROZEN]) (by simp [R.GE_PLL_STAT_FROZEN]),
      State.eng_setEng_cleared EngSt.frozenSince (fun _ => by rfl) _ e.val,
      State.eng_setEng_cleared EngSt.clearSince (fun _ => by rfl) _ e.val⟩
  case ramp =>
    intro s dt r hr hramp hdone
    exact ⟨_, exec_modeRampEnd hr hramp hdone, by rw [State.arm_setB]; rfl,
      State.flag_setB_same (by decide) (by decide)⟩

end

section
/-! Frames and reports delivered to the grid engines (O52): what is taken from the inbox, what a frame that is
bad or good does, and which report is the newest (R248, R251, R261, R270). -/

-- One proof after another: many at once take a thread each (see Laws/KeepsChannel).
set_option Elab.async false

namespace Sys2Proof.Machine

variable {s t : State} {dt : Nat} {d : Delivery} {f : ArmFrame}

/-! ### The inbox (R18) -/

/-- The state with the delivery taken from the inbox. -/
def State.taken (s : State) (d : Delivery) : State :=
  { s with ring := { s.ring with inbox := s.ring.inbox.erase d } }

/-- What a delivered frame does once it is taken: it is lost, dropped or handed on. -/
def State.frameIn (s : State) (d : Delivery) : State :=
  if s.lostNext 9 then s.takeLost 9
  else match parseArm d.payload d.src with
    | none => s
    | some f => s.takeFrame f

theorem State.takeInbox_of_find {p : Delivery → Bool} (h : s.ring.inbox.find? p = some d) :
    s.takeInbox p = some (d, s.taken d) := by
  unfold State.takeInbox
  rw [h]
  rfl

theorem exec_armFrameReceived (hr : s.gridRuns = true)
    (hd : s.ring.inbox.find? (fun e => decide (e.kind = 0) && decide (e.ptype = 0x0A01)) = some d) :
    exec (.armFrameReceived dt) s = .next (((s.elapse dt).taken d).frameIn d) := by
  change execArmFrameReceived dt s = _
  unfold execArmFrameReceived State.frameIn
  dsimp only
  rw [if_pos (show (s.elapse dt).gridRuns = true from hr), State.takeInbox_of_find (s := s.elapse dt) hd]
  dsimp only
  cases parseArm d.payload d.src with
  | none => exact (apply_ite Host.Outcome.next _ _ _).symm
  | some f => exact (apply_ite Host.Outcome.next _ _ _).symm

theorem exec_cellReportReceived (hr : s.gridRuns = true) (hlost : s.lostNext 9 = false)
    (hd : s.ring.inbox.find? (fun e => decide (e.kind = 0) && decide (e.ptype = 0x0A02)) = some d) :
    exec (.cellReportReceived dt) s = .next (((s.elapse dt).taken d).takeReport d.payload) := by
  have hkept : ¬ ((s.elapse dt).taken d).lostNext 9 = true := by
    rw [show ((s.elapse dt).taken d).lostNext 9 = false from hlost]
    decide
  change execCellReportReceived dt s = _
  unfold execCellReportReceived
  dsimp only
  rw [if_pos (show (s.elapse dt).gridRuns = true from hr), State.takeInbox_of_find (s := s.elapse dt) hd]
  exact congrArg Host.Outcome.next (if_neg hkept)

theorem State.frameIn_of_lost (h : s.lostNext 9 = true) : s.frameIn d = s.takeLost 9 := if_pos h

theorem State.frameIn_of_unparsed (h : s.lostNext 9 = false) (hp : parseArm d.payload d.src = none) :
    s.frameIn d = s := by
  unfold State.frameIn
  rw [h, hp]
  rfl

theorem State.frameIn_of_parsed (h : s.lostNext 9 = false) (hp : parseArm d.payload d.src = some f) :
    s.frameIn d = s.takeFrame f := by
  unfold State.frameIn
  rw [h, hp]
  rfl

/-! ### Frames (R251, R261, R270) -/

theorem State.ring_of_sameBut {k : List Part} (h : s.sameBut k t) (ha : .ring ∉ k := by decide)
    (hd : .drop ∉ k := by decide) : t.ring = s.ring := by
  obtain ⟨-, hd' | hall⟩ := h
  · exact absurd hd' hd
  · simp only [ha, false_or] at hall
    simp only [hall]

theorem State.ring_takeFrame (s : State) (f : ArmFrame) : (s.takeFrame f).ring = s.ring :=
  State.ring_of_sameBut (keeps_takeFrame (keeps_sameBut _ s) s f (State.sameBut_refl _ s))

theorem State.arm_xchk (s : State) (b : Nat) : (s.xchk b).arm = s.arm :=
  State.arm_of_sameBut (keeps_xchk (keeps_sameBut _ s) s b (State.sameBut_refl _ s))

theorem State.arm_followFrame (s : State) (f : ArmFrame) : (s.followFrame f).arm = s.arm :=
  State.arm_of_sameBut (keeps_followFrame (keeps_sameBut _ s) s f (State.sameBut_refl _ s))

theorem State.frames_noteGrant (s : State) (g : Grant) : (s.noteGrant g).arm.frames = s.arm.frames := by
  unfold State.noteGrant
  split
  · rfl
  · rfl

/-- A check that fails sets its bit, is counted, and is told. -/
theorem State.shown_xchk (s : State) {b : Nat} (hb : b < 9) : ((s.xchk b).get (R.GE_XCHK_STAT_FAIL 1)).testBit b = true
    ∧ (s.xchk b).get (R.GE_XCHK_COUNT_COUNT 1)
      = counted (R.GE_XCHK_COUNT_COUNT 1) (s.get (R.GE_XCHK_COUNT_COUNT 1)) := by
  unfold State.xchk
  constructor
  · rw [State.get_irq_other (by decide), State.get_inc_other (by decide)]
    exact State.testBit_setMaskBit_same s (by decide) hb
  · rw [State.get_irq_other (by decide), State.get_inc_same (by decide), State.get_setMaskBit_other (by decide)]

theorem State.takeFrame_of_bad (h : s.frameBad f = true) : s.takeFrame f = s.xchk 5 := if_pos h

/-- A good frame that comes in time, the first of its arm and epoch, is kept first (R251, R261). -/
theorem State.head_takeFrame (hbad : s.frameBad f = false) (htime : s.canopy < f.epoch + 10000)
    (hfirst : s.frameAt f.arm f.epoch = none) : (s.takeFrame f).arm.frames.head? = some f := by
  unfold State.takeFrame
  extract_lets -underBinder serves now old wins isOwn foreign told kept granted late
  have hold : old = none := hfirst
  have hwins : wins = true := by
    dsimp only [wins]
    rw [hold]
  have hkept : kept.arm.frames.head? = some f := rfl
  have hgranted : granted.arm.frames.head? = some f := by
    dsimp only [granted]
    split
    · rw [State.frames_noteGrant, hkept]
    · exact hkept
  have hlate : late.arm = granted.arm := by
    dsimp only [late]
    split
    · rw [State.arm_irq, State.arm_inc]
    · rfl
  rw [if_neg (by rw [hbad]; decide), if_neg (Nat.not_le.2 htime), if_pos hwins]
  split
  · rw [State.arm_followFrame, hlate, hgranted]
  · exact hgranted

/-! ### Reports (R248) -/

theorem State.ring_takeReport (s : State) (l : List Nat) : (s.takeReport l).ring = s.ring :=
  State.ring_of_sameBut (keeps_takeReport (keeps_sameBut _ s) s l (State.sameBut_refl _ s))

/-- A report taken in: its entries one by one, each before those kept. -/
theorem State.takeReport_of_own {l : List Nat} (h1 : 1 ≤ l.getD 3 0) (h8 : l.getD 3 0 ≤ 8)
    (hlen : l.length = 12 + 20 * l.getD 3 0) (hidx : s.ownIdx ≠ none) (hown : l.getD 2 0 = s.ownArm) :
    (s.takeReport l).arm.reps.head? = some (parseRep l (l.getD 3 0 - 1)) ∧ (s.takeReport l).regs = s.regs := by
  unfold State.takeReport
  dsimp only
  rw [if_pos ⟨h1, h8, hlen, Option.isSome_iff_ne_none.2 hidx, hown⟩]
  obtain ⟨n, hn⟩ := Nat.exists_eq_add_of_le' h1
  refine ⟨?_, List.foldlRecOn (motive := fun (u : State) => u.regs = s.regs) _ _ rfl fun _ hu _ _ => hu⟩
  rw [hn, List.range_succ, List.foldl_concat]
  rfl

end Sys2Proof.Machine
end

section
/-! A channel that is stopped leaves every other channel as it is (O52, R160, R182). -/

-- One proof after another: many at once take a thread each (see Laws/KeepsChannel).
set_option Elab.async false

namespace Sys2Proof.Machine

variable {s t u : State} {x : Nat}

/-- From `s` to `t` every channel but `x` stays. -/
def State.leavesOthers (x : Nat) (s t : State) : Prop := ∀ z ≠ x, t.ch z = s.ch z

theorem State.leavesOthers_refl (s : State) : s.leavesOthers x s := fun _ _ => rfl

theorem State.leavesOthers.trans (h : s.leavesOthers x t) (h' : t.leavesOthers x u) : s.leavesOthers x u :=
  fun z hz => (h' z hz).trans (h z hz)

theorem State.leavesOthers.ite {c : Prop} [Decidable c] (ht : s.leavesOthers x t) (hu : s.leavesOthers x u) :
    s.leavesOthers x (if c then t else u) := by
  split
  · exact ht
  · exact hu

theorem State.leavesOthers.keep (h : s.leavesOthers x t) (e : u.chan = t.chan := by simp) : s.leavesOthers x u :=
  h.trans fun _ _ => State.ch_of_chan e

theorem State.leavesOthers.setCh (h : s.leavesOthers x t) {f : ChSt → ChSt} : s.leavesOthers x (t.setCh x f) :=
  h.trans fun _ hz => State.ch_setCh_other hz

theorem State.leavesOthers.setCell (h : s.leavesOthers x t) {f : CellSt → CellSt} :
    s.leavesOthers x (t.setCell x f) := h.setCh

theorem State.leavesOthers.holdSync (h : s.leavesOthers x t) : s.leavesOthers x (t.holdSync x) := by
  unfold State.holdSync
  extract_lets on fb held
  have hheld : s.leavesOthers x held := .ite (.ite h (.setCh h.keep)) (.ite (.setCh h.keep) h)
  exact hheld.keep (State.chan_guardSync _ x)

theorem State.leavesOthers.pwmStop (h : s.leavesOthers x t) : s.leavesOthers x (t.pwmStop x) := by
  unfold State.pwmStop
  exact State.leavesOthers.keep (.setCh h.keep) (State.chan_guardSync _ x)

theorem State.leavesOthers.dropScan (h : s.leavesOthers x t) : s.leavesOthers x (t.dropScan x) := by
  unfold State.dropScan
  split
  · exact h
  · exact .setCh h.keep

theorem State.leavesOthers.windowLost (h : s.leavesOthers x t) {code : Nat} :
    s.leavesOthers x (t.windowLost x code) := by
  unfold State.windowLost
  exact .setCh h.keep

theorem State.leavesOthers.husk (h : s.leavesOthers x t) {cause : Nat} : s.leavesOthers x (t.husk x cause) := by
  unfold State.husk
  extract_lets st stopped noScan noWindow idle silent left after
  have hscan : s.leavesOthers x noScan := h.pwmStop.dropScan
  have hwindow : s.leavesOthers x noWindow := by
    dsimp only [noWindow]
    split
    next w _ =>
      have hshown : s.leavesOthers x (noScan.showOut x w.start) := hscan.keep (State.chan_set ..)
      exact .ite (.ite hshown.windowLost hshown) hscan
    next => exact hscan
  have hsilent : s.leavesOthers x silent := hwindow.setCell.setCell.keep (State.chan_setB ..)
  have hleft : s.leavesOthers x left := by
    refine hsilent.keep ?_
    simp only [left, State.chan_irq, State.chan_set, State.chan_cellEnter]
  have hafter : s.leavesOthers x after := (hleft.keep.ite hleft).ite hsilent
  exact hafter.holdSync

theorem State.leavesOthers_channelFault (s : State) (x : Nat) : s.leavesOthers x (s.channelFault x) := by
  have hstop {w : State} (h : s.leavesOthers x w) : s.leavesOthers x (w.keStop x) := by
    unfold State.keStop State.keHalted
    refine .setCh (h.keep ?_)
    simp only [apply_ite State.chan, State.chan_setB, State.chan_set, ite_self]
  unfold State.channelFault
  extract_lets was faulted told stopped j
  have hfaulted : s.leavesOthers x faulted := s.leavesOthers_refl.keep (State.chan_setB ..)
  have htold : s.leavesOthers x told := .ite hfaulted (hfaulted.keep (State.chan_irq ..))
  exact (hstop htold).husk

end Sys2Proof.Machine
end

section
/-! Roles, cross-checks and sets (O52): the role in force when it is written, what a check that has held stops, and
the set that reaches a channel (R247, R250, R262, R270). -/

-- One proof after another: many at once take a thread each (see Laws/KeepsChannel).
set_option Elab.async false

namespace Sys2Proof.Machine

variable {s t : State} {l : List Reg} {dt v : Nat} {f : ArmFrame}

/-! ### The role in force (R247, R262) -/

/-- The fields that say which of the two roles is the node's own. -/
abbrev roleCfgFields : List Reg :=
  (List.range 2).map R.ARM_ROLE_CFG_ROLE ++ (List.range 2).map R.ARM_ROLE_CFG_ARM_ID
    ++ (List.range 8).map R.ARM_CH_ASSIGN_VALID ++ (List.range 8).map R.ARM_CH_ASSIGN_ARM_ID

/-- What writes none of those fields leaves the node's own role where it is. -/
theorem State.ownIdx_of_get (h : ∀ r ∈ roleCfgFields, t.get r = s.get r) : t.ownIdx = s.ownIdx := by
  have hmem (x : Nat) : x ∈ List.range 8 → R.ARM_CH_ASSIGN_VALID x ∈ roleCfgFields
      ∧ R.ARM_CH_ASSIGN_ARM_ID x ∈ roleCfgFields := fun hx => by
    simp only [List.mem_append, List.mem_map]
    exact ⟨.inl (.inr ⟨x, hx, rfl⟩), .inr ⟨x, hx, rfl⟩⟩
  have hserves (a : Nat) : t.servesArm a = s.servesArm a := by
    unfold State.servesArm
    refine Bool.eq_iff_iff.2 ?_
    simp only [List.any_eq_true]
    refine exists_congr fun x => and_congr_right fun hx => ?_
    obtain ⟨hvalid, harm⟩ := hmem x hx
    rw [State.flag_eq, State.flag_eq, h _ hvalid, h _ harm]
  have harm0 := h (R.ARM_ROLE_CFG_ARM_ID 0) (by decide)
  have harm1 := h (R.ARM_ROLE_CFG_ARM_ID 1) (by decide)
  have hrole0 := h (R.ARM_ROLE_CFG_ROLE 0) (by decide)
  have hrole1 := h (R.ARM_ROLE_CFG_ROLE 1) (by decide)
  unfold State.ownIdx
  refine List.find?_congr fun i hi => ?_
  unfold State.roleInUse
  have hi2 : i = 0 ∨ i = 1 := by
    have := List.mem_range.1 hi
    omega
  rcases hi2 with rfl | rfl
  · simp only [hserves, harm0, harm1, hrole0]
  · simp only [hserves, harm0, harm1, hrole1]

theorem State.ownIdx_lt {i : Nat} (h : s.ownIdx = some i) : i < 2 :=
  List.mem_range.1 (List.mem_of_find?_eq_some h)

theorem State.role_of_get (h : ∀ r ∈ roleCfgFields, t.get r = s.get r)
    (hstat : ∀ i < 2, t.get (R.ARM_ROLE_STAT_ROLE i) = s.get (R.ARM_ROLE_STAT_ROLE i)) : t.role = s.role := by
  unfold State.role
  rw [State.ownIdx_of_get h]
  split
  next i hi => exact hstat i (State.ownIdx_lt hi)
  next => rfl

/-- A field written with the role in force. -/
abbrev roleFields : List Reg := (List.range 2).map R.ARM_ROLE_STAT_ROLE

theorem State.regsBut_setRole (s : State) (v : Nat) : s.regsBut roleFields (s.setRole v) := by
  unfold State.setRole
  split
  next i hi => exact s.regsBut_of_regs.set (List.mem_map_of_mem (List.mem_range.2 (State.ownIdx_lt hi)))
  next => exact s.regsBut_of_regs

/-- The role written is the role in force. -/
theorem State.role_setRole (h : s.role ≠ 0) (hv : v < 4) : (s.setRole v).role = v := by
  have hnot : ∀ r ∈ roleCfgFields, r.key ∉ roleFields.map Reg.key := by decide
  have hidx : (s.setRole v).ownIdx = s.ownIdx :=
    State.ownIdx_of_get fun r hr => s.regsBut_setRole v r (hnot r hr)
  unfold State.role at h ⊢
  rw [hidx]
  unfold State.setRole
  split
  next i hi => exact State.get_set_fits hv (by simp [R.ARM_ROLE_STAT_ROLE])
  next hi =>
    rw [hi] at h
    exact absurd rfl h

theorem State.arm_setRole (s : State) (v : Nat) : (s.setRole v).arm = s.arm :=
  State.arm_of_sameBut (keeps_setRole (keeps_sameBut _ s) s v (State.sameBut_refl _ s))

/-- A master that resigns has the role 3, tells it, and waits for clean inputs anew (R262). -/
theorem State.shown_resign (h : s.role = 1) : s.resign.role = 3 ∧ s.resign.latched pgArm 1
    ∧ s.resign.arm.cleanSince = none := by
  have hresign : s.resign
      = ((s.setRole 3).irq pgArm 1).setArm (fun a => { a with cleanSince := none, unsent := 0 }) := if_pos (.inl h)
  have hcfg : ∀ r ∈ roleCfgFields, r.key ≠ (H.IRQ_RAW pgArm).key := by decide
  have hstat : ∀ i < 2, (R.ARM_ROLE_STAT_ROLE i).key ≠ (H.IRQ_RAW pgArm).key := by decide
  rw [hresign]
  refine ⟨?_, State.latched_irq_same _ (by decide), rfl⟩
  have hkept : (((s.setRole 3).irq pgArm 1).setArm (fun a => { a with cleanSince := none, unsent := 0 })).role
      = (s.setRole 3).role :=
    State.role_of_get (fun r hr => State.get_irq_other (hcfg r hr)) fun i hi => State.get_irq_other (hstat i hi)
  rw [hkept, State.role_setRole (by rw [h]; decide) (by decide)]

theorem exec_masterResign (hr : s.gridRuns = true) (hrole : s.role = 1)
    (hstale : heldFor s.arm.iStale (ms 1) (s.now + dt) = true ∨ heldFor s.arm.vStale (ms 1) (s.now + dt) = true) :
    exec (.masterResign dt) s = .next (s.elapse dt).resign :=
  congrArg Host.Outcome.next (if_pos ⟨hr, hrole, hstale⟩)

theorem exec_resignRecovery (hr : s.gridRuns = true) (hrole : s.role = 3)
    (hclean : heldFor s.arm.cleanSince (secs 1) (s.now + dt) = true) :
    exec (.resignRecovery dt) s = .next ((s.elapse dt).setRole 2) :=
  congrArg Host.Outcome.next (if_pos ⟨hr, hrole, hclean⟩)

/-! ### A check that has held (R270) -/

/-- The channels that are energised faulted, one after another. -/
def State.faultEnergised (s : State) : State :=
  (List.range 8).foldl (fun u x => if u.energised x then u.channelFault x else u) s

/-- The registers that faults of all channels can touch. -/
abbrev stopsFields : List Reg := (List.range 8).flatMap stopFields

theorem State.regsBut_faultEnergised (s : State) : s.regsBut stopsFields s.faultEnergised :=
  State.regsBut.foldl (fun u x hx => .ite ((u.spares_channelFault x).regs.mono fun _ hr =>
    List.mem_flatMap.2 ⟨x, hx, hr⟩) u.regsBut_of_regs) s

/-- The channel shows a fault and is not enabled. -/
abbrev State.faulted (s : State) (x : Nat) : Prop :=
  s.flag (R.PWM_STATUS_CH_FAULT x) = true ∧ s.flag (R.PWM_CTRL_EN x) = false

/-- No fault of another channel touches the two fields. -/
theorem notMem_stopFields : ∀ x y : Fin 8, x ≠ y → (R.PWM_STATUS_CH_FAULT x.val).key ∉ (stopFields y.val).map Reg.key
    ∧ (R.PWM_CTRL_EN x.val).key ∉ (stopFields y.val).map Reg.key := by
  decide +kernel

theorem State.faulted_channelFault {x : Fin 8} {y : Nat} (hy : y < 8) (h : s.faulted x.val) :
    (s.channelFault y).faulted x.val := by
  rcases eq_or_ne x ⟨y, hy⟩ with rfl | hne
  · exact s.shown_channelFault ⟨y, hy⟩
  · obtain ⟨hfault, hen⟩ := notMem_stopFields x ⟨y, hy⟩ hne
    have hregs := (s.spares_channelFault y).regs
    exact ⟨(hregs.flag hfault).trans h.1, (hregs.flag hen).trans h.2⟩

/-- A channel that is energised stays so while another is faulted. -/
theorem State.energised_channelFault {x : Fin 8} {y : Nat} (hy : y < 8) (hne : x.val ≠ y) :
    (s.channelFault y).energised x.val = s.energised x.val := by
  obtain ⟨-, hen⟩ := notMem_stopFields x ⟨y, hy⟩ (fun e => hne (congrArg Fin.val e))
  unfold State.energised
  rw [(s.spares_channelFault y).regs.flag hen, s.leavesOthers_channelFault y x.val hne]

/-- Each energised channel is faulted in its turn, and no later turn takes that back. -/
theorem State.faulted_faultEnergised (x : Fin 8) (h : s.energised x.val = true) : s.faultEnergised.faulted x.val := by
  unfold State.faultEnergised
  refine foldl_reaches (I := fun u => u.energised x.val = true ∨ u.faulted x.val) (P := fun u => u.faulted x.val)
    (List.mem_range.2 x.isLt) (fun u y hy hu => ?_) (fun u hu => ?_) (fun u y hy hu => ?_) (.inl h)
  · split
    · rcases eq_or_ne x.val y with rfl | hne
      · exact .inr (u.shown_channelFault x)
      · exact hu.imp (fun he => (State.energised_channelFault (List.mem_range.1 hy) hne).trans he)
          (State.faulted_channelFault (List.mem_range.1 hy))
    · exact hu
  · split
    · exact u.shown_channelFault x
    next hoff => exact hu.resolve_left hoff
  · split
    · exact State.faulted_channelFault (List.mem_range.1 hy) hu
    · exact hu

/-- What follows the faults touches neither the check's registers nor the channels'. -/
abbrev checkEndFields : List Reg :=
  roleFields ++ [H.IRQ_RAW pgArm, H.IRQ_RAW (pgGe 1), R.GLOG_CNT_LOST, R.GLOG_STATUS_LOST_SEEN]

theorem State.regsBut_resign (s : State) : s.regsBut checkEndFields s.resign := by
  have hrole : s.regsBut checkEndFields (s.setRole 3) := (s.regsBut_setRole 3).mono (List.subset_append_left _ _)
  unfold State.resign
  exact .ite (hrole.irq (p := pgArm)).keep s.regsBut_of_regs

/-- What the checks that protect the bridges stop: the channels energised, the master's role, with a record (R270). -/
def State.stopped (s : State) : State := s.faultEnergised.resign.irqLog (pgGe 1) 5 2

/-- The check shown and counted, before anything is stopped. -/
def State.checkShown (s : State) (b : Nat) : State :=
  (s.xchk b).setArm (fun a => { a with xDone := a.xDone.set b true })

theorem exec_xchkFail {b : Fin 9} (hr : s.gridRuns = true) (hdone : s.arm.xDone.getD b.val false = false)
    (hheld : heldFor (s.arm.xSince.getD b.val none) (ms (s.get (R.GE_XCHK_CFG1_TIME_MS 1))) (s.now + dt) = true) :
    exec (.xchkFail dt b) s = .next (if b.val < 7 then
      ((s.elapse dt).checkShown b.val).stopped else (s.elapse dt).checkShown b.val) := by
  change execXchkFail dt b s = _
  unfold execXchkFail
  dsimp only
  rw [if_pos ⟨hr, by simpa using hdone, hheld⟩]
  exact (apply_ite Host.Outcome.next _ _ _).symm

/-- What a check that has held leaves of its own marks and of the channels' faults. -/
theorem State.regsBut_stopped (s : State) : s.regsBut (stopsFields ++ checkEndFields) s.stopped := by
  have hend : s.faultEnergised.regsBut checkEndFields s.stopped := (State.regsBut_resign _).irqLog
  exact (s.regsBut_faultEnergised.mono (List.subset_append_left _ _)).trans
    (hend.mono (List.subset_append_right _ _))

/-- The registers of a check's own marks. -/
abbrev markFields : List Reg := [R.GE_XCHK_STAT_FAIL 1, R.GE_XCHK_COUNT_COUNT 1, H.IRQ_RAW (pgGe 1)]

theorem State.regsBut_checkShown (s : State) (b : Nat) : s.regsBut markFields (s.checkShown b) :=
  (((s.regsBut_of_regs.setMaskBit (r := R.GE_XCHK_STAT_FAIL 1)).inc
    (r := R.GE_XCHK_COUNT_COUNT 1)).irq (p := pgGe 1)).keep

theorem State.energised_checkShown (s : State) (b : Nat) (x : Fin 8) :
    (s.checkShown b).energised x.val = s.energised x.val := by
  have hen : ∀ x : Fin 8, (R.PWM_CTRL_EN x.val).key ∉ markFields.map Reg.key := by decide
  have hchan : (s.checkShown b).chan = s.chan := by
    change (s.xchk b).chan = s.chan
    unfold State.xchk
    rw [State.chan_irq, State.chan_inc, State.chan_setMaskBit]
  unfold State.energised
  rw [(s.regsBut_checkShown b).flag (hen x), State.ch_of_chan hchan]

/-- A check that has held shows and is counted, and what follows leaves both (R270). -/
theorem State.shown_stopped (s : State) {b : Nat} (hb : b < 9) :
    ((s.checkShown b).stopped.get (R.GE_XCHK_STAT_FAIL 1)).testBit b = true
    ∧ (s.checkShown b).stopped.get (R.GE_XCHK_COUNT_COUNT 1)
      = counted (R.GE_XCHK_COUNT_COUNT 1) (s.get (R.GE_XCHK_COUNT_COUNT 1)) := by
  have hkept := (s.checkShown b).regsBut_stopped
  rw [hkept (R.GE_XCHK_STAT_FAIL 1) (by decide), hkept (R.GE_XCHK_COUNT_COUNT 1) (by decide)]
  exact s.shown_xchk hb

/-- A channel that was energised when the check failed stands faulted (R270). -/
theorem State.faulted_stopped (s : State) (b : Nat) (x : Fin 8) (h : s.energised x.val = true) :
    (s.checkShown b).stopped.faulted x.val := by
  have hkeys : ∀ x : Fin 8, (R.PWM_STATUS_CH_FAULT x.val).key ∉ checkEndFields.map Reg.key
      ∧ (R.PWM_CTRL_EN x.val).key ∉ checkEndFields.map Reg.key := by decide
  obtain ⟨hfault, hen⟩ := hkeys x
  have hend : (s.checkShown b).faultEnergised.regsBut checkEndFields (s.checkShown b).stopped :=
    (State.regsBut_resign _).irqLog
  obtain ⟨hf, he⟩ := (s.checkShown b).faulted_faultEnergised x ((s.energised_checkShown b x).trans h)
  exact ⟨(hend.flag hfault).trans hf, (hend.flag hen).trans he⟩

/-! ### A set for a channel (R250) -/

theorem exec_ge0SetDelivery {x : Fin 8} (hr : s.gridRuns = true) (hc : s.cellRuns x.val = true)
    (hlost : s.lostNext x.val = false) (hvalid : s.flag (R.ARM_CH_ASSIGN_VALID x.val) = true)
    (hcover : s.arm.frames.find? (fun g => decide (g.arm = s.get (R.ARM_CH_ASSIGN_ARM_ID x.val))
      && decide (g.epoch ≤ (s.elapse dt).canopy / 500 * 500)
      && decide ((s.elapse dt).canopy / 500 * 500 < g.epoch + 10000)) = some f) :
    exec (.ge0SetDelivery dt x) s
      = .next ((s.elapse dt).geSet x.val ((s.elapse dt).canopy / 500 * 500) f) := by
  have hkept : ¬ (s.elapse dt).lostNext x.val = true := by
    rw [show (s.elapse dt).lostNext x.val = false from hlost]
    decide
  have hruns : (s.elapse dt).gridRuns = true ∧ (s.elapse dt).cellRuns x.val = true
      ∧ (s.elapse dt).flag (R.ARM_CH_ASSIGN_VALID x.val) = true := ⟨hr, hc, hvalid⟩
  change execGe0SetDelivery dt x s = _
  unfold execGe0SetDelivery
  dsimp only
  split
  next g hg =>
    obtain rfl : g = f := Option.some.inj (hg.symm.trans hcover)
    rw [if_pos hruns, if_neg hkept]
  next hnone => exact absurd (hnone.symm.trans hcover) (Option.some_ne_none f).symm

theorem State.chan_of_fraction {key : Nat} {r : Rat} {fs n : Int} (h : s.fraction key r fs = (n, t)) :
    t.chan = s.chan := by
  have ht : t = (s.fraction key r fs).2 := by rw [h]
  rw [ht]
  unfold State.fraction
  split
  · rfl
  · rfl

/-- What a set writes: the Kernel's newest set, of age 0, and the reference that is no longer lost. -/
theorem State.geSet_eq (s : State) (x tg : Nat) (f : ArmFrame) : ∃ (u : State) (g : GeSet), u.chan = s.chan
    ∧ g.gf = f.flag 0 ∧ s.geSet x tg f
      = (u.setKe x (fun k => { k with ge := some g, geAge := 0 })).setB (R.KE_STATUS_REF_LOST x) false := by
  unfold State.geSet
  extract_lets k v i d th w fs0 fs5
  iterate 6 split
  rename_i _ _ s0 h0 _ _ s1 h1 _ _ s2 h2 _ _ s3 h3 _ _ s4 h4 _ _ s5 h5
  refine ⟨s5, _, ?_, ?_, rfl⟩
  · calc s5.chan = s4.chan := State.chan_of_fraction h5
      _ = s3.chan := State.chan_of_fraction h4
      _ = s2.chan := State.chan_of_fraction h3
      _ = s1.chan := State.chan_of_fraction h2
      _ = s0.chan := State.chan_of_fraction h1
      _ = s.chan := State.chan_of_fraction h0
  · rfl

/-- The set of the frame is the channel's newest, and its reference is not lost (R250). -/
theorem State.shown_geSet {x : Nat} (tg : Nat) (f : ArmFrame) (hx : x < s.chan.length) :
    ((s.geSet x tg f).ch x).ke.ge.map (fun g => g.gf) = some (f.flag 0)
    ∧ ((s.geSet x tg f).ch x).ke.geAge = 0
    ∧ (s.geSet x tg f).flag (R.KE_STATUS_REF_LOST x) = false := by
  obtain ⟨u, g, hchan, hgf, hset⟩ := s.geSet_eq x tg f
  have hx' : x < u.chan.length := by rwa [hchan]
  rw [hset, State.ch_of_chan (State.chan_setB ..), State.ke_setKe_same hx']
  exact ⟨congrArg some hgf, rfl, State.flag_setB_same (by simp [R.KE_STATUS_REF_LOST]) (by simp [R.KE_STATUS_REF_LOST])⟩

end Sys2Proof.Machine
end

section
/-! O52: the clauses of the arm frames, the reports, the roles, the checks and the sets (R248 to R270). -/

-- One proof after another: many at once take a thread each (see Laws/KeepsChannel).
set_option Elab.async false

open Sys2Proof.Machine

/-- Settles O52: a frame is decided once taken from the inbox, by whether a full crossing loses it, it is of the format
and it passes check 5; the newest entry of a report is put in front last; the roles and the checks by what each writes
and what comes after leaves; the set by the one part of the Kernel that it writes. -/
theorem armCommands : Obligations.ArmCommands := by
  unfold Obligations.ArmCommands
  refine ⟨?unparsed, ?bad, ?good, ?lost, ?report, ?resign, ?recovery, ?check, ?set⟩
  case unparsed =>
    intro s dt d hr hlost hd hp
    refine ⟨_, exec_armFrameReceived hr hd, ?_⟩
    rw [State.frameIn_of_unparsed (s := (s.elapse dt).taken d) hlost hp]
    exact ⟨rfl, rfl, rfl⟩
  case bad =>
    intro s dt d f hr hlost hd hp hbad
    refine ⟨_, exec_armFrameReceived hr hd, ?_⟩
    rw [State.frameIn_of_parsed (s := (s.elapse dt).taken d) hlost hp]
    refine ⟨congrArg RingSt.inbox (State.ring_takeFrame _ f), ?_⟩
    rw [State.takeFrame_of_bad (s := (s.elapse dt).taken d) hbad]
    exact ⟨State.arm_xchk _ 5, (State.shown_xchk _ (by decide)).1⟩
  case good =>
    intro s dt d f hr hlost hd hp hbad htime hfirst
    refine ⟨_, exec_armFrameReceived hr hd, ?_⟩
    rw [State.frameIn_of_parsed (s := (s.elapse dt).taken d) hlost hp]
    exact ⟨congrArg RingSt.inbox (State.ring_takeFrame _ f),
      State.head_takeFrame (s := (s.elapse dt).taken d) hbad htime hfirst⟩
  case lost =>
    intro s dt d hr hlost hd
    refine ⟨_, exec_armFrameReceived hr hd, ?_⟩
    rw [State.frameIn_of_lost (s := (s.elapse dt).taken d) hlost]
    exact ⟨rfl, rfl, rfl, rfl⟩
  case report =>
    intro s dt d hr hlost hd h1 h8 hlen hidx hown
    obtain ⟨hhead, hregs⟩ := ((s.elapse dt).taken d).takeReport_of_own h1 h8 hlen hidx hown
    exact ⟨_, exec_cellReportReceived hr hlost hd, congrArg RingSt.inbox (State.ring_takeReport ..), hhead, hregs⟩
  case resign =>
    intro s dt hr hrole hstale
    exact ⟨_, exec_masterResign hr hrole hstale, (s.elapse dt).shown_resign hrole⟩
  case recovery =>
    intro s dt hr hrole hclean
    have hown : (s.elapse dt).role ≠ 0 := ne_of_eq_of_ne hrole (by decide)
    exact ⟨_, exec_resignRecovery hr hrole hclean, State.role_setRole hown (by decide), State.arm_setRole _ 2⟩
  case check =>
    intro s dt b hr hdone hheld
    refine ⟨_, exec_xchkFail hr hdone hheld, ?_⟩
    split
    next =>
      obtain ⟨hfail, hcount⟩ := (s.elapse dt).shown_stopped b.isLt
      exact ⟨hfail, hcount, fun x _ hx => (s.elapse dt).faulted_stopped b.val x hx⟩
    next hb =>
      obtain ⟨hfail, hcount⟩ := (s.elapse dt).shown_xchk b.isLt
      exact ⟨hfail, hcount, fun x hb' _ => absurd hb' hb⟩
  case set =>
    intro s dt x f hr hc hs hlost hvalid hcover
    obtain ⟨hchan, -⟩ := hs
    exact ⟨_, exec_ge0SetDelivery hr hc hlost hvalid hcover,
      State.shown_geSet _ f (x.isLt.trans_eq (show 8 = (s.elapse dt).chan.length from hchan.symm))⟩

end
